-- ==== Sys2Proof/Word.lean ====
section
/-! DEFINITION. The word types of the station: the 8-bit byte of its memories and packets and the 32-bit
register word (00_scope, "Notation": registers are 32 bits wide and are accessed as whole words). -/
namespace Sys2Proof

/-- A byte of NV, flash, engine, capture and packet contents. -/
abbrev Byte := BitVec 8

/-- A register word, an instruction word of an engine, an engine register. -/
abbrev Word := BitVec 32

/-- The 80-bit accumulator of an engine (R226). -/
abbrev Acc := BitVec 80

end Sys2Proof
end

