-- ==== Sys2Proof/Syntax.lean ====
section
/-! DEFINITION. The commands the station takes: one constructor for each row of the table of operations and events,
with the data that its row carries. Analog quantities, pin levels, received bytes and the results of built-in tests
reach the station through these operands. -/
namespace Sys2Proof

/-- Where a command packet arrived: a traverse port, a port in Ethernet host mode, the SPI sideband, or inside. -/
inductive Via where
  | ring (p : Nat)
  | host (p : Nat)
  | side
  | self
  deriving DecidableEq, Repr

/-- A command packet's header fields (R402) and payload. `resv` holds the reserved header bits: byte 0 [1:0], byte 1 [7:1]
and byte 3 [3], from bit 0 up. -/
structure Packet where
  ver : Nat := 1
  cls : Nat := 1
  resv : Nat := 0
  noReply : Bool := false
  opcode : Nat := 0
  parcel : Nat := 0
  hops : Nat := 3
  dest : Nat := 0
  src : Nat := 0
  tag : Nat := 0
  len : Nat := 0
  seqep : Nat := 0
  payload : List Byte := []
  via : Via := .side
  /-- SESSION and COUNT of the authentication block, once it has been checked and taken off -/
  auth : Option (Nat × Nat) := none
  deriving DecidableEq, Repr

/-- A calibrated sample word as a native code with its flags (R62): stale, overrange, external marked step. -/
structure Word20 where
  code : Int := 0
  stl : Bool := false
  ovr : Bool := false
  ems : Bool := false
  deriving DecidableEq, Repr

/-- What the current sense of one excited switch gave in a block (R157): the sums of its on-samples and of its off-samples in
units of 10 uA, and whether the conversion counter advanced in every carrier period. -/
structure SenseBlock where
  cell : Nat := 0
  onSum : Nat := 0
  offSum : Nat := 0
  advanced : Bool := true
  deriving DecidableEq, Repr

/-- The commands: one constructor for each row of the table, in its order. -/
inductive Instr where
  /-- REGISTER_WRITE (R16): A write to a register that has no row of its own is checked for reserved bits and field type and applied. -/
  | registerWrite (a : BitVec 24) (v : Word)
  /-- REGISTER_SET_LATCH (R195): A read of word 0 of a record or derived set copies the whole set into the reader's shadow. -/
  | registerSetLatch (r : Fin 9) (a : BitVec 24)
  /-- DTM_NOW_READ (R400): A read of DTM_NOWLO latches DTM_NOWHI. -/
  | dtmNowRead
  /-- SAMPLE_FRAME (R26): BRX receives one epoch's sample frame, checks its CRC-10 and offers the 52 words to the fabric and capture. -/
  | sampleFrame (err memErr : Nat)
  /-- BARRIER_LANE_FAILED (R30): A lane with line-code violations in 4 consecutive epochs is declared failed and F1 is raised. -/
  | barrierLaneFailed (l : Fin 24)
  /-- LANE_MAP_SWITCH (R32): At the switch epoch both barrier islands apply the new lane map and the converter rate changes. -/
  | laneMapSwitch (got : Bool)
  /-- BARRIER_LANE_RETEST (R33): Every 10 ms a failed lane is retested and returns to the healthy set after 10 good retests. -/
  | barrierLaneRetest (l : Fin 24) (good : Bool)
  /-- STACK_STREAM_LOSS (R29): After 100 epochs without a good stack message frame the system die treats the stack run token as missing. -/
  | stackStreamLoss
  /-- DOWN_STREAM_LOSS (R29): After 20 epochs without a good down message frame the stack die withdraws its run token. -/
  | downStreamLoss
  /-- DOWN_STREAM_RETURN (R32): The stack half reports the return of the down streams and BRX sends a fresh lane map. -/
  | downStreamReturn
  /-- SAMPLE_CLOCK_LOST (R34): After 200 ns without a sample-clock edge the converters switch to the stack RC oscillator. -/
  | sampleClockLost
  /-- SAMPLE_CLOCK_RETURN_REPORT (R34): After 1,000 good edges the stack half reports and BRX names a return epoch. -/
  | sampleClockReturnReport
  /-- SAMPLE_CLOCK_RETURN (R34): At the named epoch the sample-clock island returns to the channel clock and COH is restored. -/
  | sampleClockReturn (got : Bool)
  /-- OSCILLATOR_INPUT_LOST (R36): After 10 us without the 25 MHz input SYAO switches to its RC, PLL islands stop and SOC takes outputs safe. -/
  | oscillatorInputLost
  /-- CROSSING_STALL (R42): A crossing not acknowledged within 20 us completes with TIMEOUT and raises F1. -/
  | crossingStall (isl : Fin 64)
  /-- ISLAND_FREQUENCY_CHANGE (R40): An island changes frequency when no crossing is mid-handshake, holding its clock low. -/
  | islandFrequencyChange (isl : Fin 64) (k : Fin 4)
  /-- DOMAIN_ON_REQUEST (R46): A domain's supply switch closes with isolation and reset asserted. -/
  | domainOnRequest (d : Fin 197)
  /-- DOMAIN_INRUSH_SLOT (R47): A waiting domain request begins step 1 once the inrush limit allows. -/
  | domainInrushSlot
  /-- DOMAIN_SUPPLY_GOOD (R46): The domain supply is good and the island clock starts. -/
  | domainSupplyGood (d : Fin 197)
  /-- DOMAIN_RESET_RELEASE (R46): 16 island clock periods later reset is released behind isolation. -/
  | domainResetRelease (d : Fin 197)
  /-- DOMAIN_ON (R46): 16 periods later isolation is released and the domain is on. -/
  | domainOn (d : Fin 197)
  /-- DOMAIN_OFF_REQUEST (R46): The wrapper completes outstanding transfers of a domain being switched off. -/
  | domainOffRequest (d : Fin 197)
  /-- DOMAIN_WRAPPER_EMPTY (R46): With the wrapper empty, isolation then reset are asserted. -/
  | domainWrapperEmpty (d : Fin 197)
  /-- DOMAIN_OFF (R46): 16 periods later the clock stops and the supply switch opens. -/
  | domainOff (d : Fin 197)
  /-- EPOCH_APERTURE (R58): Every enabled converter samples epoch e at datum 50e ns on the converted epochs of the rate in force. -/
  | epochAperture (e : Nat) (inputs : List Int)
  /-- SMP_CTRL_WRITE (R69): A write of SMP_CTRL sets RUN at once and queues RATE, MODE and AUTOCAL for the configuration boundary. -/
  | smpCtrlWrite (v : Word)
  /-- SMP_CHEN_WRITE (R96): A write of SMP_CHEN enables channels at once and requests converter domains on or off. -/
  | smpChenWrite (i : Fin 2) (v : Word)
  /-- SMP_EMS_WRITE (R68): A write of SMP_EMS takes effect at the burst detector at once. -/
  | smpEmsWrite (v : Word)
  /-- EMS_BURST (R68): The burst detector fires and marks EMS on epochs d - 4 to d + HOLD. -/
  | emsBurst (n : Fin 52) (d : Nat)
  /-- CONFIGURATION_BOUNDARY (R69): At the boundary epoch pending SMP configuration writes take effect together and SMP_CFGEPOCH is set. -/
  | configurationBoundary (e : Nat)
  /-- CONVERTER_SETTLED (R66): A converter's settling count ends and it delivers valid words again. -/
  | converterSettled (n : Fin 52)
  /-- AVERAGING_WINDOW_END (R70): An averaging window ends and the averaged word is formed with its flags. -/
  | averagingWindowEnd (n : Fin 52)
  /-- RATE_CHANGE (R74): The rate in force changes outside a boundary, invalidating windows in progress. -/
  | rateChange
  /-- CROSS_ROUND_START (R77): A CROSS round begins and converter CVj is redirected to its partner cell. -/
  | crossRoundStart (r : Nat)
  /-- CROSS_ROUND_END (R79): At the round end the stack die compares CHK and own means and writes SMP_XSTAT. -/
  | crossRoundEnd
  /-- DITHER_PERIOD (R82): Each dither period the back end correlates the last 8 periods and updates LIVE. -/
  | ditherPeriod (m : Fin 4) (amp2 : Nat)
  /-- REFERENCE_BLOCK_COMPLETE (R84): The reference decimator completes block b and queues its current reference message. -/
  | referenceBlockComplete
  /-- CURRENT_REFERENCE_MESSAGE (R86): The system die receives a current reference block, adds COH and the full index and broadcasts it. -/
  | currentReferenceMessage (w : Word)
  /-- AUTOCAL_INTERVAL (R88): The automatic calibration interval elapses and the next channel's calibration starts. -/
  | autocalInterval
  /-- CALIBRATION_GO (R88): A write of SMP_CALCTL.GO starts the calibration of channel CH or is refused. -/
  | calibrationGo (v : Word)
  /-- CALIBRATION_WAIT_END (R89): A calibration waiting for REF_SETTLED starts when it is set. -/
  | calibrationWaitEnd
  /-- CALIBRATION_SETTLE_LOW (R88): 32 epochs after switching to CALLO the channel begins averaging it. -/
  | calibrationSettleLow
  /-- CALIBRATION_AVERAGE_LOW_DONE (R88): The CALLO averaging ends and the input switches to CALHI. -/
  | calibrationAverageLowDone
  /-- CALIBRATION_SETTLE_HIGH (R88): 32 epochs later the channel begins averaging CALHI. -/
  | calibrationSettleHigh
  /-- CALIBRATION_AVERAGE_HIGH_DONE (R88): The CALHI averaging ends, new GAIN and OFS are computed and the input returns. -/
  | calibrationAverageHighDone
  /-- SWEEP_ROUND_START (R109): A sweep round start arrives; the regular sequence begins or the start is skipped. -/
  | sweepRoundStart (e : Nat)
  /-- SWEEP_SLOT_RESULT (R113): A sweep slot's integration ends; its result, comparison and diagnostic judgement are formed and sent. -/
  | sweepSlotResult (d : Int) (under : Bool)
  /-- SWEEP_RESULT_MESSAGE (R134): The system die receives a sweep result message and delivers it to SWEEP subscriptions. -/
  | sweepResultMessage (w : Word)
  /-- INJECTED_TRIGGER (R114): An SSV, CMP or DIS trigger starts an injected sequence, preempting a slot, or is dropped. -/
  | injectedTrigger (src : Fin 4) (cell : Nat)
  /-- SWC_INJCTL_GO (R115): A GO write fires the CMD trigger with the named cell or is refused. -/
  | swcInjctlGo (v : Word)
  /-- SWC_INJCTL_DCLR (R115): A DCLR write clears SWC_INJDROP and SWC_OVRUN. -/
  | swcInjctlDclr (v : Word)
  /-- INJECTED_SEQUENCE_END (R116): The injected sequence ends; a held SSV trigger fires, or the calibration slot, abandoned slot and regular sequence resume. -/
  | injectedSequenceEnd
  /-- REF_SETTLE_TIMER (R119): The settling time of the selected reference elapses towards REF_SETTLED. -/
  | refSettleTimer
  /-- RAT_SETTLE_TIMER (R119): 1 ms after the sweep domain is on RAT_SETTLED is set. -/
  | ratSettleTimer
  /-- REF_NOT_SETTLED_TIMEOUT (R119): REF_SETTLED still clear 100 ms after clearing raises F1. -/
  | refNotSettledTimeout
  /-- COMPARATOR_FILTER_TICK (R126): Each 1 us STAO tick moves every comparator's up-down filter count. -/
  | comparatorFilterTick (cells : List Int)
  /-- COMPARATOR_TEST (R129): A CMP_TEST GO write starts a test of one comparator or is refused. -/
  | comparatorTest (v : Word)
  /-- COMPARATOR_TEST_DONE (R129): The comparator test ends, the threshold is restored and RESULT reads pass or fail. -/
  | comparatorTestDone (rose fell : Bool)
  /-- BALANCE_SCHEDULER_TICK (R146): At each 1 s STAO tick the balance scheduler decides which requesting cells close. -/
  | balanceSchedulerTick
  /-- BAL_TMR_WRITE (R145): A write of BAL_TMRn.TIME sets or ends a cell's balance request and reruns the scheduler. -/
  | balTmrWrite (c : Fin 48) (v : Word)
  /-- BALANCE_ACCUMULATOR_SECOND (R147): A cell's on-time accumulator reaches 1 s and TIME decrements. -/
  | balanceAccumulatorSecond (c : Fin 48)
  /-- BLEED_OVERCURRENT (R142): A switch over its trip current for 1 us opens, sets BAL_OC and raises F1. -/
  | bleedOvercurrent (c : Fin 48)
  /-- BLEED_SWITCH_OPEN (R143): A switch commanded closed carries under 5 mA for 10 ms, sets BAL_SWO and raises F1. -/
  | bleedSwitchOpen (c : Fin 48) (mv : Int)
  /-- BLEED_SWITCH_SHORT (R143): A switch commanded open carries over 5 mA for 10 ms, sets BAL_SWS and raises F1. -/
  | bleedSwitchShort (c : Fin 48) (mv : Int)
  /-- THERMAL_BAND_CHANGE (R149): The banded die sensor changes TBAND, resetting CAP and rerunning the scheduler; the operand
is the stack-die temperature in 0.01 degrees. -/
  | thermalBandChange (temp : Int)
  /-- BALANCE_FORCE_ON (R150): A force source becomes active and every bleed switch opens within 10 us. -/
  | balanceForceOn
  /-- BALANCE_FORCE_OFF (R150): The last force source ends and balancing resumes at the next scheduler run. -/
  | balanceForceOff
  /-- EXCITATION_GO (R154): A write of EXC_CTRL.GO is checked and sets a start epoch or is refused. -/
  | excitationGo (v : Word)
  /-- EXCITATION_START (R154): At the start epoch excitation starts on the selected cells with M = 0. -/
  | excitationStart
  /-- EXCITATION_STOP_WRITE (R159): A write of EXC_CTRL.STOP stops excitation on every selected cell. -/
  | excitationStopWrite (v : Word)
  /-- EXCITATION_BLOCK_END (R155): At each 5,120-epoch block end I_on and M are updated per cell, bias changes apply and status is sent. -/
  | excitationBlockEnd (data : List SenseBlock)
  /-- EXCITATION_STATUS_MESSAGE (R157): The system die receives an excitation status message and tags it with the block start epoch. -/
  | excitationStatusMessage (w : Word)
  /-- EXCITATION_BIAS_MESSAGE (R156): The system die receives an excitation bias message announcing a cell's new B. -/
  | excitationBiasMessage (w : Word)
  /-- BLEED_STATE_MESSAGE (R179): The system die receives a bleed-state message for a switch change not due to excitation. -/
  | bleedStateMessage (w : Word)
  /-- PROFILE_WINDOW_COMPLETE (R184): A profile window completes after LATE ms and the point record and derived values are written or discarded. -/
  | profileWindowComplete (q : Fin 8) (c : Fin 48) (i : Fin 71) (j : Nat)
  /-- PROFILE_CONFIG_EFFECT (R182): At the first whole datum second after a PRF write affected windows are abandoned and records reset. -/
  | profileConfigEffect
  /-- PRF_DISC_CLEAR (R198): A write of PRF_CTRL.CLR clears PRF_DISC. -/
  | prfDiscClear (v : Word)
  /-- PROFILE_CFG (R194): Opcode 0x40 sets the whole profile configuration of an instance atomically. -/
  | profileCfg (p : Packet)
  /-- PROFILE_READ (R194): Opcode 0x41 returns point records of named cells per unit. -/
  | profileRead (p : Packet)
  /-- PROFILE_DERIVED (R194): Opcode 0x42 returns the derived words of named cells. -/
  | profileDerived (p : Packet)
  /-- EST_STEP (R204): At each step end the estimator forms inputs and advances and updates each cell's model. -/
  | estStep (q : Fin 8) (k : Nat)
  /-- RESISTANCE_UPDATE (R209): Every 60 s RGR is recomputed. -/
  | resistanceUpdate (q : Fin 8)
  /-- MICRO_SHORT_EVALUATION (R212): Every 3,600 s the micro-short score and MSH are evaluated. -/
  | microShortEvaluation (q : Fin 8)
  /-- EST_PUBLICATION (R215): After each 100 ms interval the cell state records are published and EST_SUM updated. -/
  | estPublication (q : Fin 8) (k : Nat)
  /-- EST_SNAPSHOT (R214): Every 3,600 s a snapshot of every estimated cell is committed to NV. -/
  | estSnapshot
  /-- EST_SAVE (R214): A write of EST_CTRL.SAVE commits a snapshot or completes with NV_BUSY. -/
  | estSave (v : Word)
  /-- EST_PARAMS (R203): Opcode 0x43 commits a parameter set for the next 100 ms boundary. -/
  | estParams (p : Packet)
  /-- EST_PARAMS_EFFECT (R203): At the 100 ms boundary cells of that TYPE restart at equilibrium and become converging. -/
  | estParamsEffect
  /-- EST_READ (R222): Opcode 0x44 returns the state records of named cells. -/
  | estRead (p : Packet)
  /-- EST_SEED (R222): Opcode 0x45 schedules SOC and CAPR of named cells for the next boundary. -/
  | estSeed (p : Packet)
  /-- EST_SEED_EFFECT (R222): At the boundary the seeded cells take SOC and CAPR and become converging. -/
  | estSeedEffect
  /-- ADD (R232): Gd := Ga + Gb. -/
  | engAdd (x : Fin 1024) (ecc : Fin 4)
  /-- SUB (R232): Gd := Ga - Gb. -/
  | engSub (x : Fin 1024) (ecc : Fin 4)
  /-- AND (R232): Bitwise and. -/
  | engAnd (x : Fin 1024) (ecc : Fin 4)
  /-- OR (R232): Bitwise or. -/
  | engOr (x : Fin 1024) (ecc : Fin 4)
  /-- XOR (R232): Bitwise exclusive or. -/
  | engXor (x : Fin 1024) (ecc : Fin 4)
  /-- SHL (R232): Logical shift left by Gb[4:0]. -/
  | engShl (x : Fin 1024) (ecc : Fin 4)
  /-- SHR (R232): Logical shift right by Gb[4:0]. -/
  | engShr (x : Fin 1024) (ecc : Fin 4)
  /-- SHRA (R232): Arithmetic shift right by Gb[4:0]. -/
  | engShra (x : Fin 1024) (ecc : Fin 4)
  /-- CMP (R232): Sets Z, N, C and V from Ga - Gb. -/
  | engCmp (x : Fin 1024) (ecc : Fin 4)
  /-- ANDN (R232): Gd := Ga and not Gb. -/
  | engAndn (x : Fin 1024) (ecc : Fin 4)
  /-- MIN (R232): Signed minimum. -/
  | engMin (x : Fin 1024) (ecc : Fin 4)
  /-- MAX (R232): Signed maximum. -/
  | engMax (x : Fin 1024) (ecc : Fin 4)
  /-- ADDS (R232): Saturating signed add. -/
  | engAdds (x : Fin 1024) (ecc : Fin 4)
  /-- SUBS (R232): Saturating signed subtract. -/
  | engSubs (x : Fin 1024) (ecc : Fin 4)
  /-- MUL (R232): Low 32 bits of Ga x Gb. -/
  | engMul (x : Fin 1024) (ecc : Fin 4)
  /-- MULH (R232): High 32 bits of the signed product. -/
  | engMulh (x : Fin 1024) (ecc : Fin 4)
  /-- MULHU (R232): High 32 bits of the unsigned product. -/
  | engMulhu (x : Fin 1024) (ecc : Fin 4)
  /-- CLZ (R232): Counts leading zeros of Ga. -/
  | engClz (x : Fin 1024) (ecc : Fin 4)
  /-- ABS (R232): Saturating absolute value of Ga. -/
  | engAbs (x : Fin 1024) (ecc : Fin 4)
  /-- PADD (R232): Saturating add of both 16-bit halves. -/
  | engPadd (x : Fin 1024) (ecc : Fin 4)
  /-- PSUB (R232): Saturating subtract of both 16-bit halves. -/
  | engPsub (x : Fin 1024) (ecc : Fin 4)
  /-- PACK (R232): Packs Ga[15:0] and Gb[15:0] into Gd. -/
  | engPack (x : Fin 1024) (ecc : Fin 4)
  /-- CMUL (R232): Complex Q15 multiply, rounded and saturated. -/
  | engCmul (x : Fin 1024) (ecc : Fin 4)
  /-- CMULC (R232): Complex Q15 multiply by the conjugate. -/
  | engCmulc (x : Fin 1024) (ecc : Fin 4)
  /-- CONJ (R232): Negates the imaginary part, saturating. -/
  | engConj (x : Fin 1024) (ecc : Fin 4)
  /-- MOV (R232): Gd := Ga. -/
  | engMov (x : Fin 1024) (ecc : Fin 4)
  /-- ADDI (R233): Gd := Ga + sign-extended IMM. -/
  | engAddi (x : Fin 1024) (ecc : Fin 4)
  /-- ANDI (R233): And with zero-extended IMM. -/
  | engAndi (x : Fin 1024) (ecc : Fin 4)
  /-- ORI (R233): Or with zero-extended IMM. -/
  | engOri (x : Fin 1024) (ecc : Fin 4)
  /-- XORI (R233): Exclusive or with zero-extended IMM. -/
  | engXori (x : Fin 1024) (ecc : Fin 4)
  /-- CMPI (R233): Sets Z, N, C and V from Ga - IMM. -/
  | engCmpi (x : Fin 1024) (ecc : Fin 4)
  /-- SHLI (R233): Logical shift left by an immediate. -/
  | engShli (x : Fin 1024) (ecc : Fin 4)
  /-- SHRI (R233): Logical shift right by an immediate. -/
  | engShri (x : Fin 1024) (ecc : Fin 4)
  /-- SHRAI (R233): Arithmetic shift right by an immediate. -/
  | engShrai (x : Fin 1024) (ecc : Fin 4)
  /-- MOVI (R233): Gd := 19-bit sign-extended IMM. -/
  | engMovi (x : Fin 1024) (ecc : Fin 4)
  /-- MOVH (R233): Sets Gd[31:16] to IMM[15:0]. -/
  | engMovh (x : Fin 1024) (ecc : Fin 4)
  /-- LDW (R233): Loads a word from Ga + IMM. -/
  | engLdw (x : Fin 1024) (ecc : Fin 4)
  /-- LDH (R233): Loads a sign-extended halfword. -/
  | engLdh (x : Fin 1024) (ecc : Fin 4)
  /-- LDHU (R233): Loads a zero-extended halfword. -/
  | engLdhu (x : Fin 1024) (ecc : Fin 4)
  /-- LDB (R233): Loads a sign-extended byte. -/
  | engLdb (x : Fin 1024) (ecc : Fin 4)
  /-- LDBU (R233): Loads a zero-extended byte. -/
  | engLdbu (x : Fin 1024) (ecc : Fin 4)
  /-- STW (R233): Stores the word Gd. -/
  | engStw (x : Fin 1024) (ecc : Fin 4)
  /-- STH (R233): Stores Gd[15:0]. -/
  | engSth (x : Fin 1024) (ecc : Fin 4)
  /-- STB (R233): Stores Gd[7:0]. -/
  | engStb (x : Fin 1024) (ecc : Fin 4)
  /-- BEQ (R233): Branches if Z is 1. -/
  | engBeq (x : Fin 1024) (ecc : Fin 4)
  /-- BNE (R233): Branches if Z is 0. -/
  | engBne (x : Fin 1024) (ecc : Fin 4)
  /-- BLT (R233): Branches on signed less than. -/
  | engBlt (x : Fin 1024) (ecc : Fin 4)
  /-- BGE (R233): Branches on signed greater or equal. -/
  | engBge (x : Fin 1024) (ecc : Fin 4)
  /-- BLTU (R233): Branches on unsigned less than. -/
  | engBltu (x : Fin 1024) (ecc : Fin 4)
  /-- BGEU (R233): Branches on unsigned greater or equal. -/
  | engBgeu (x : Fin 1024) (ecc : Fin 4)
  /-- BSF (R233): Branches if bit n of SFLAGS is 1. -/
  | engBsf (x : Fin 1024) (ecc : Fin 4)
  /-- BRA (R233): Branches always. -/
  | engBra (x : Fin 1024) (ecc : Fin 4)
  /-- CALL (R233): Writes LNK and branches. -/
  | engCall (x : Fin 1024) (ecc : Fin 4)
  /-- RET (R233): Jumps to LNK. -/
  | engRet (x : Fin 1024) (ecc : Fin 4)
  /-- JMPR (R233): Jumps to Ga[9:0]. -/
  | engJmpr (x : Fin 1024) (ecc : Fin 4)
  /-- LOOP (R237): Repeats the next n instructions Gd times. -/
  | engLoop (x : Fin 1024) (ecc : Fin 4)
  /-- CMAC (R234): Accumulator pair p += Ga x Gb. -/
  | engCmac (x : Fin 1024) (ecc : Fin 4)
  /-- CMACC (R234): Accumulator pair p += Ga x conj(Gb). -/
  | engCmacc (x : Fin 1024) (ecc : Fin 4)
  /-- CMAC2 (R234): Both pairs accumulate Ga x Gc and Gb x Gc. -/
  | engCmac2 (x : Fin 1024) (ecc : Fin 4)
  /-- CMAC2C (R234): Both pairs accumulate with conj(Gc). -/
  | engCmac2c (x : Fin 1024) (ecc : Fin 4)
  /-- MACR (R234): ACn += Ga x Gb, 32 x 32 signed. -/
  | engMacr (x : Fin 1024) (ecc : Fin 4)
  /-- MSUR (R234): ACn -= Ga x Gb. -/
  | engMsur (x : Fin 1024) (ecc : Fin 4)
  /-- ACLR (R234): Clears the masked accumulators. -/
  | engAclr (x : Fin 1024) (ecc : Fin 4)
  /-- ACRD (R234): Reads an accumulator shifted, rounded and saturated. -/
  | engAcrd (x : Fin 1024) (ecc : Fin 4)
  /-- ACGET (R234): Reads 32 bits of an accumulator without rounding. -/
  | engAcget (x : Fin 1024) (ecc : Fin 4)
  /-- ACWR (R234): Writes an accumulator from Ga shifted left. -/
  | engAcwr (x : Fin 1024) (ecc : Fin 4)
  /-- NCOSYNC (R238): Sets the oscillator phase at half-epoch h. -/
  | engNcosync (x : Fin 1024) (ecc : Fin 4)
  /-- NCOADV (R238): Advances the phase by Ga half-epochs. -/
  | engNcoadv (x : Fin 1024) (ecc : Fin 4)
  /-- NCOQ (R239): Gd := exp(-j2pi phase) in Q15. -/
  | engNcoq (x : Fin 1024) (ecc : Fin 4)
  /-- NCOQP (R239): Gd := exp(+j2pi phase) in Q15. -/
  | engNcoqp (x : Fin 1024) (ecc : Fin 4)
  /-- POP (R235): Removes the next item of a port, stalling while empty. -/
  | engPop (x : Fin 1024) (ecc : Fin 4)
  /-- POPN (R235): Removes the next item or sets EMPTY without stalling. -/
  | engPopn (x : Fin 1024) (ecc : Fin 4)
  /-- AVAIL (R235): Returns the number of items in a port. -/
  | engAvail (x : Fin 1024) (ecc : Fin 4)
  /-- PUSH (R246): Appends Ga to the open output frame. -/
  | engPush (x : Fin 1024) (ecc : Fin 4)
  /-- PUSHE (R246): Appends Ga and closes the output frame. -/
  | engPushe (x : Fin 1024) (ecc : Fin 4)
  /-- MFS (R228): Reads a special register, latching the HI partner of a LO read. -/
  | engMfs (x : Fin 1024) (ecc : Fin 4)
  /-- MTS (R228): Writes a special register. -/
  | engMts (x : Fin 1024) (ecc : Fin 4)
  /-- DMAQ (R249): Queues a DMA descriptor or reports the queue full. -/
  | engDmaq (x : Fin 1024) (ecc : Fin 4)
  /-- WAIT (R235): Sleeps until an item, a descriptor completion or the watchdog. -/
  | engWait (x : Fin 1024) (ecc : Fin 4)
  /-- BAR (R235): Waits until every running engine of the instance has executed BAR. -/
  | engBar (x : Fin 1024) (ecc : Fin 4)
  /-- FENCE (R242): Waits until the engine's stores are visible to the plot. -/
  | engFence (x : Fin 1024) (ecc : Fin 4)
  /-- WDR (R255): Restarts the watchdog. -/
  | engWdr (x : Fin 1024) (ecc : Fin 4)
  /-- HALT (R252): Stops the engine in HALTED. -/
  | engHalt (x : Fin 1024) (ecc : Fin 4)
  /-- BRK (R256): Raises BREAK. -/
  | engBrk (x : Fin 1024) (ecc : Fin 4)
  /-- ENGINE_STALL_RELEASE (R236): A stalled engine resumes when its awaited result, item, room, barrier or fence arrives. -/
  | engineStallRelease (x : Fin 1024)
  /-- ENGINE_WATCHDOG (R255): WDOG us pass without restart and the engine takes WATCHDOG. -/
  | engineWatchdog (x : Fin 1024)
  /-- DMA_DESCRIPTOR_START (R292): A queued descriptor begins transfer when the DRC serves it. -/
  | dmaDescriptorStart (p : Fin 32) (ecc : Fin 3)
  /-- DMA_DESCRIPTOR_COMPLETE (R249): A descriptor completes, writes its status, wakes the engine and may raise DMA. -/
  | dmaDescriptorComplete (p : Fin 32) (bad : Option Nat) (cor : Nat)
  /-- STREAM_FRAME_DELIVERY (R245): A whole frame reaches an engine input queue and is placed, held, decimated or discarded by class. -/
  | streamFrameDelivery (x : Fin 1024) (port : Fin 2) (lost : Bool)
  /-- ENGINE_START (R266): At the start epoch the named engines start under R227. -/
  | engineStart (e : Nat)
  /-- KERNEL_STAGE (R264): Opcode 0x50 writes a kernel image chunk into the parcel's kernel store. -/
  | kernelStage (p : Packet)
  /-- KERNEL_LEASE_EXPIRY (R264): A staging session's 60 s lease expires and the staged image is discarded. -/
  | kernelLeaseExpiry (q : Fin 8)
  /-- LOAD_KERNEL (R265): Opcode 0x51 loads a staged image into named slots and engines atomically. -/
  | loadKernel (p : Packet)
  /-- ENGINE_HALT (R253): ENGINE_CTL action halt stops the named running engines. -/
  | engineHalt (p : Packet)
  /-- ENGINE_RESUME (R253): ENGINE_CTL action resume continues the named halted engines. -/
  | engineResume (p : Packet)
  /-- ENGINE_RESTART (R253): ENGINE_CTL action restart starts the named engines from their entry. -/
  | engineRestart (p : Packet)
  /-- ENGINE_STAT (R253): Opcode 0x53 returns plot state registers and exception records. -/
  | engineStat (p : Packet)
  /-- PLOT_RESET (R252): A write of ENG_PLCTLp.RST resets a plot, returning its engines to IDLE. -/
  | plotReset (p : Fin 32) (v : Word)
  /-- PLOT_HALT (R271): A write of ENG_PLCTLp.HALT halts every running engine of the plot. -/
  | plotHalt (p : Fin 32) (v : Word)
  /-- PLOT_RESUME (R271): A write of ENG_PLCTLp.RESUME resumes every halted engine. -/
  | plotResume (p : Fin 32) (v : Word)
  /-- PLOT_ECC_CLEAR (R271): A write of ENG_PLCTLp.ECCCLR clears ENG_PLECCp. -/
  | plotEccClear (p : Fin 32) (v : Word)
  /-- PLOT_CLOCK_STEP (R259): A plot's clock step changes to the slower of CLKREQ and the thermal step. -/
  | plotClockStep (p : Fin 32)
  /-- PARCEL_MOVE_FREEZE (R267): At the freeze epoch a copying move stops the source engines, copies state and remaps the slot. -/
  | parcelMoveFreeze
  /-- PARALLEL_MOVE_START (R268): The destination plot starts a parallel move and warms up with outputs suppressed. -/
  | parallelMoveStart
  /-- PARALLEL_MOVE_HANDOVER (R268): At the handover epoch the fabric takes output from the destination and the source stops. -/
  | parallelMoveHandover
  /-- PLOT_THERMAL_RESTORE (R261): A thermally shut plot is restored and its kernels reload and restart. -/
  | plotThermalRestore (p : Fin 32)
  /-- MESH_LINK_FAILED (R277): A link is declared failed, taken out of service and routes change; F1 or F0 is raised. -/
  | meshLinkFailed (l : Fin 52)
  /-- MESH_LINK_RETEST (R277): Every 10 ms a failed link is retested and returns after 10 good retests. -/
  | meshLinkRetest (l : Fin 52) (good : Bool)
  /-- STREAM_SUB (R285): Opcode 0x54 sets, changes or clears subscription and publication entries atomically. -/
  | streamSub (p : Packet)
  /-- STREAM_SUB_EFFECT (R286): At the effect epoch accepted stream table changes take effect together. -/
  | streamSubEffect
  /-- STREAM_STAT (R286): Opcode 0x55 returns named entries with their counters. -/
  | streamStat (p : Packet)
  /-- FAB_SCLOSS_CLEAR (R296): A write of FAB_SCLOSS.CLR clears the class S loss count. -/
  | fabSclossClear (v : Word)
  /-- FAB_PDEC_CLEAR (R296): A write of FAB_PDECq.CLR clears the parcel's DROPS count. -/
  | fabPdecClear (q : Fin 8) (v : Word)
  /-- DEED_APPLY (R317): Opcode 0x60 checks a signed deed and, if accepted, builds and commits the new cadastre. -/
  | deedApply (p : Packet)
  /-- DEED_COMMIT_COMPLETE (R318): The deed's NV commit completes, CAD_DEEDNO increments and the reply names the effect epoch. -/
  | deedCommitComplete
  /-- DEED_EFFECT (R318): At the effect epoch slots, reservations, keys and easements change and scrubbing begins. -/
  | deedEffect
  /-- SCRUB_COMPLETE (R305): A memory scrub ends and the cadastre is committed again with an empty scrub list. -/
  | scrubComplete
  /-- HOLDER_ENROL (R312): Opcode 0x62 fills an empty holder record of an unfounded station. -/
  | holderEnrol (p : Packet)
  /-- CADASTRE_READ (R428): Opcode 0x61 returns the CAD and FAB rows of named parcels. -/
  | cadastreRead (p : Packet)
  /-- AUTH_SESSION (R322): Opcode 0x63 returns SESSION and HI of a parcel. -/
  | authSession (p : Packet)
  /-- CAD_PAUTHF_CLEAR (R327): A write of CAD_PAUTHFq.CLR clears the tag failure count. -/
  | cadPauthfClear (q : Fin 8) (v : Word)
  /-- FRAME_RECEIVED (R338): A port receives a frame, checks it, delivers it and forwards it cut-through or stored. -/
  | frameReceived (p : Fin 4) (first : Bool) (l0 l1 : List (Option (BitVec 66)))
  /-- TRANSMIT_FRAME_START (R339): At a frame boundary the transmitter takes the next frame in class order. -/
  | transmitFrameStart (p : Fin 4)
  /-- LANE_BLOCK_LOCK (R332): A lane declares block lock after 64 consecutive valid headers. -/
  | laneBlockLock (p : Fin 4) (l : Fin 2) (hdrs : List (BitVec 2)) (last : BitVec 58)
  /-- LANE_LOCK_LOSS (R332): A lane drops lock and the port enters HUNT. -/
  | laneLockLoss (p : Fin 4) (l : Fin 2) (hdrs : List (BitVec 2))
  /-- PORT_HUNT_TIMEOUT (R344): A lane not relocked 10 ms after HUNT quarantines the port. -/
  | portHuntTimeout (p : Fin 4)
  /-- ERROR_COUNT_LEAK (R345): Every LEAK ms a port's error COUNT decrements. -/
  | errorCountLeak (p : Fin 4)
  /-- MARK_BLOCK (R373): A MARK block arrives, aligns lanes, resumes a hunting port and gives the datum offset. -/
  | markBlock (p : Fin 4) (lanes : Nat) (aligned : Bool) (j : Fin 4) (b : List Byte) (t : Nat)
  /-- DLY_BLOCK (R382): A DLY request is answered or a DLY response yields a link delay measurement. -/
  | dlyBlock (p : Fin 4) (b : List Byte) (meas : Nat)
  /-- LSTAT_BLOCK (R346): An LSTAT block from the neighbour is taken, possibly quarantining the port. -/
  | lstatBlock (p : Fin 4) (b : List Byte)
  /-- TRAIN_BLOCK (R350): A TRAIN block advances lane training, READY exchange and entry to RUN. -/
  | trainBlock (p : Fin 4) (l : Fin 2) (n : Nat) (b : List Byte)
  /-- PORT_TRAINING_START (R350): After the 8th quarantine LSTAT the port starts training at the trial rate. -/
  | portTrainingStart (p : Fin 4)
  /-- TRAINING_STEP_DOWN (R350): A lane locked but not passed after 20 ms leads the port to step down a rate. -/
  | trainingStepDown (p : Fin 4)
  /-- TRAINING_TIMEOUT (R350): A port not in RUN 1 s after training began sets TRFAIL and raises F1. -/
  | trainingTimeout (p : Fin 4)
  /-- PORT_RETRAIN (R347): A write of TRV_PCTLp.RETRAIN quarantines the port and trains at RATEMAX. -/
  | portRetrain (p : Fin 4) (v : Word)
  /-- PORT_COUNTER_CLEAR (R359): A write of CNTCLR clears every counter of the port except COUNT. -/
  | portCounterClear (p : Fin 4) (v : Word)
  /-- PORT_ENABLE (R351): A write of TRV_PCTLp.EN starts or stops a port's training and running. -/
  | portEnable (p : Fin 4) (v : Word)
  /-- SPI_STATUS (R355): Sideband command 0x01 returns readiness and the oldest reply length. -/
  | spiStatus
  /-- SPI_WRITE (R355): Sideband command 0x02 takes one command packet when HCSn rises. -/
  | spiWrite (b : List Byte)
  /-- SPI_READ (R355): Sideband command 0x03 returns the oldest reply. -/
  | spiRead (n : Nat)
  /-- SPI_FLUSH (R355): Sideband command 0x04 discards every waiting reply. -/
  | spiFlush
  /-- SPI_UNKNOWN_COMMAND (R355): Any other sideband command returns 0xFF and counts in OVF. -/
  | spiUnknownCommand
  /-- ETHERNET_FRAME (R354): A port in Ethernet mode receives a frame carrying a command packet or discards it. -/
  | ethernetFrame (p : Fin 4) (dst src : BitVec 48) (tag etype : BitVec 16) (fcs : Bool) (len : Nat) (body : List Byte)
  /-- PTP_MESSAGE (R390): An IEEE 1588 message arrives on an Ethernet host port and is used, relayed or discarded. -/
  | ptpMessage (p : Fin 4) (kind domain seq : Nat) (two : Bool) (t corr : Int)
  /-- CYCLE_START (R372): At datum 10,000k ns each station sends MARKs, DLY and LSTAT, and an origin sends roll-call. -/
  | cycleStart (k : Nat)
  /-- ROLL_CALL_FRAME (R376): A roll-call copy arrives; the station writes its entry, merges copies and forwards or turns it. -/
  | rollCallFrame (p : Fin 4) (h : Nat) (body : List Byte)
  /-- ROLL_CALL_LOST (R376): No good roll-call copy for 1 ms sets RCLOST. -/
  | rollCallLost
  /-- FAST_PATH_DEADLINE_MISS (R421): The fast path misses its deadline, leaving the slot empty and raising F1. -/
  | fastPathDeadlineMiss (p : Fin 4)
  /-- DISCOVERY_START (R367): Release step 8: when the root's ring ports reach RUN it surveys its traverse. -/
  | discoveryStart
  /-- SURVEY (R366): Opcode 0x01: a station appends its record to a passing survey or the origin receives it back. -/
  | survey (q : Packet)
  /-- SURVEY_TIMEOUT (R366): A survey not returned in 200 us makes the origin survey through the other port. -/
  | surveyTimeout
  /-- DISCOVERY_RESULTS_DONE (R367): With all results in, or 2 ms after step 3, the root pairs tie stations and sends ASSIGN. -/
  | discoveryResultsDone
  /-- ASSIGN (R367): Opcode 0x02 delivers traverse index and positions for an effect cycle. -/
  | assign (q : Packet)
  /-- ADDRESS_EFFECT (R367): At the effect cycle addresses take effect and primaries begin roll-call. -/
  | addressEffect
  /-- LINK_NOTICE (R369): Opcode 0x03 tells the origin a ring port entered or left RUN, triggering a new survey. -/
  | linkNotice (q : Packet)
  /-- REDISCOVER (R370): A write of NET_CTRL.REDISC rediscovers the traverse or is refused. -/
  | rediscover (v : Word)
  /-- DATUM_HOLD_ENTRY (R385): No valid upstream MARK for 2 cycles and no selectable port puts the servo in HOLD. -/
  | datumHoldEntry
  /-- DATUM_REFERENCE_WAIT_TIMEOUT (R388): GMWAIT expires without a valid reference and the datum station runs free. -/
  | datumReferenceWaitTimeout
  /-- PPS_EDGE (R389): A PPS edge is timestamped and used as reference if armed in time. -/
  | ppsEdge (rising : Bool)
  /-- DTM_TOD_ARM (R389): A write of DTM_TODHI arms the datum value of the next PPS edge. -/
  | dtmTodArm (v : Word)
  /-- HEARTBEAT (R423): Opcode 0x04 returns the datum and the station's roll-call entry. -/
  | heartbeat (p : Packet)
  /-- BARRIER (R395): Opcode 0x05 starts a system barrier with number b at the initiating tie station. -/
  | barrier (p : Packet)
  /-- BARRIER_REACHED (R395): A station completes the commands accepted before b and shows b in roll-call. -/
  | barrierReached
  /-- BARRIER_COLLECT_TOKEN (R395): A tie station forwards the collect token once its roll-call shows b; its return releases the barrier. -/
  | barrierCollectToken (b : Nat) (abs : List Nat)
  /-- GROUP_SET (R423): Opcode 0x06 sets the station's group set. -/
  | groupSet (q : Packet)
  /-- IDENT (R423): Opcode 0x00 returns identity, capability, serial, address and firmware version. -/
  | ident (q : Packet)
  /-- SNAPSHOT_AT (R392): Opcode 0x20 arms a capture of all channels at a named epoch or is refused. -/
  | snapshotAt (p : Packet)
  /-- SNAPSHOT_CAPTURE (R392): At the named epoch the station captures the 52 words and the tag. -/
  | snapshotCapture
  /-- SNAPSHOT_REPLY (R393): In the first cycle after the capture the station sends its snapshot reply. -/
  | snapshotReply
  /-- CREF_BLOCKS (R396): A current reference packet arrives and its blocks go to CREF subscriptions. -/
  | crefBlocks (p : Packet)
  /-- REPLY_RECEIVED (R407): A reply packet is passed to the awaiting requester or discarded. -/
  | replyReceived (p : Packet)
  /-- DEFERRED_INTERIM_REPLY (R417): A request not started within 1 ms gets an interim DEFERRED, QUEUED reply. -/
  | deferredInterimReply
  /-- REQUEST_DEADLINE (R417): At the class deadline an unstarted request is dropped and answered REFUSED, DEADLINE. -/
  | requestDeadline
  /-- REQUEST_SERVICE_START (R417): The CP takes the next queued request in class order and serves it. -/
  | requestServiceStart (bad : List Nat)
  /-- ORIGINATION_RELEASE (R416): A packet waiting in the origination queue leaves when its class budget allows. -/
  | originationRelease
  /-- REG_READ (R424): Opcode 0x10 reads listed registers per unit. -/
  | regRead (p : Packet)
  /-- REG_WRITE (R424): Opcode 0x11 writes listed registers per unit in order. -/
  | regWrite (p : Packet)
  /-- REG_RMW (R424): Opcode 0x12 atomically masks a value into a register. -/
  | regRmw (p : Packet)
  /-- REG_READ_BLOCK (R424): Opcode 0x13 reads a block of registers as one set. -/
  | regReadBlock (p : Packet)
  /-- RESET_COLD (R424): RESET KIND 0x01 requests a cold reset at an epoch or on arrival. -/
  | resetCold (p : Packet)
  /-- RESET_WARM (R424): RESET KIND 0x02 requests a warm reset. -/
  | resetWarm (p : Packet)
  /-- RESET_PLOT (R424): RESET KIND 0x03 resets a physical plot or is refused. -/
  | resetPlot (p : Packet)
  /-- RESET_PORT (R424): RESET KIND 0x04 retrains a port. -/
  | resetPort (p : Packet)
  /-- RESET_AT_EPOCH (R394): A scheduled reset acts when its epoch arrives. -/
  | resetAtEpoch
  /-- CAPTURE_CFG (R566): Opcode 0x21 configures a parcel's capture buffers for an effect epoch. -/
  | captureCfg (p : Packet)
  /-- CAPTURE_CONFIG_EFFECT (R566): At the effect epoch buffers start recording or go idle. -/
  | captureConfigEffect
  /-- CAPTURE_TRIG (R567): Opcode 0x22 triggers named recording buffers. -/
  | captureTrig (p : Packet)
  /-- CAPTURE_POST_COMPLETE (R567): POST records after the trigger are written and the buffer freezes. -/
  | capturePostComplete (k : Fin 16)
  /-- CAPTURE_READ (R569): Opcode 0x23 reads data from an idle or frozen buffer. -/
  | captureRead (p : Packet) (bad : List Nat)
  /-- BAL_SET (R426): Opcode 0x30 writes balance timers of named cells per unit. -/
  | balSet (p : Packet)
  /-- EXC_START (R426): Opcode 0x31 checks and writes the excitation registers together and starts excitation. -/
  | excStart (p : Packet)
  /-- EXC_STOP (R426): Opcode 0x32 acts as a STOP write and returns STOPCAUSE. -/
  | excStop (p : Packet)
  /-- KERNEL_DEMAND_FRAME (R442): SOC receives a kernel demand frame, validates it and applies DEM and REQ. -/
  | kernelDemandFrame (items : List Word)
  /-- KERNEL_DEMAND_TIMEOUT (R443): No valid kernel frame for KTE ms causes KACT. -/
  | kernelDemandTimeout
  /-- RAMP_INTERVAL (R449): At each 10 us interval in RAMP the current value is compared with the envelope and SCS-1 may end. -/
  | rampInterval
  /-- SCS1_BACKSTOP (R450): No end notice within TWIN + 1 ms makes SSV withdraw RUN. -/
  | scs1Backstop
  /-- CONTACT_CHANGE (R451): A safety contact is stable for 1 ms and its pair changes state. -/
  | contactChange (i : Fin 4) (b made : Bool)
  /-- DISCREPANCY_TIMEOUT (R452): DT expires in DISCREP and the pair enters FAULT, raising F1. -/
  | discrepancyTimeout (i : Fin 4)
  /-- INPUT_FAULT_RECOVERY (R452): Both contacts not made for 100 ms move a pair from FAULT to OPEN. -/
  | inputFaultRecovery (i : Fin 4)
  /-- TEST_PULSE (R453): TP1 or TP2 pulses low and closed contacts are checked. -/
  | testPulse (src : Fin 4) (failed : BitVec 8)
  /-- SRST_RISING (R454): A rising edge on SRST starts timing a pulse. -/
  | srstRising
  /-- SRST_FALLING (R454): A falling edge judges the pulse and, if accepted in SAFE, runs the start checks and sends the start request. -/
  | srstFalling
  /-- SRST_JAMMED (R454): SRST high for more than 5 s becomes JAMMED and raises F1. -/
  | srstJammed
  /-- SRST_UNJAM (R454): SRST low for 100 ms ends JAMMED. -/
  | srstUnjam
  /-- START_REQUEST (R455): SSV receives a start request, ends a comparator test and fires the SSV trigger. -/
  | startRequest
  /-- START_ANSWER (R455): SOC receives the stack half's start answer and enters RUN or SAFE. -/
  | startAnswer (ok : Bool) (cause : Nat)
  /-- START_TIMEOUT (R455): No answer 2 ms after the start request returns SOC to SAFE. -/
  | startTimeout
  /-- RUN_TOKEN_SEND (R456): Every 100 us each half sends its run token. -/
  | runTokenSend (bySystem : Bool)
  /-- RUN_TOKEN (R457): A half receives the other half's run token and judges it. -/
  | runToken (atSystem : Bool) (w : Word)
  /-- TOKEN_MISSING (R457): No valid token for 120 us declares a disagreement. -/
  | tokenMissing (atSystem : Bool)
  /-- DISAGREEMENT_NOTICE (R457): A half receives the disagreement notice and withdraws RUN. -/
  | disagreementNotice (atSystem : Bool) (cause : Nat)
  /-- RUN_WITHDRAWAL (R50): SOC receives the stack half's RUN withdrawal and de-energises the outputs. -/
  | runWithdrawal (cause : Nat)
  /-- SUPERVISOR_SCS1_REQUEST (R459): SOC receives an SCS-1 request from the supervisor. -/
  | supervisorScs1Request
  /-- SLEEP_NOTICE (R458): The stack half receives the sleep notice and enters SLEEP. -/
  | sleepNotice
  /-- STACK_RESET_MESSAGE (R492): The stack half receives the stack reset message and resets. -/
  | stackResetMessage
  /-- STACK_RELEASE_NOTICE (R494): SOC receives the stack release notice and records cause 0x0A. -/
  | stackReleaseNotice
  /-- OUTPUT_READBACK (R439): Every 100 us SOC reads back each output and judges stuck, low and open load. -/
  | outputReadback (on_ openl : BitVec 6)
  /-- OFF_PULSE_START (R440): Once per OFFPER a conducting driver is switched off for OFFPW us. -/
  | offPulseStart (o : Fin 6)
  /-- OFF_PULSE_END (R440): The off-pulse ends and its readback is judged. -/
  | offPulseEnd (readOff : Bool)
  /-- DRIVER_SELF_OFF (R438): A driver whose enable stops toggling for 20 us turns off. -/
  | driverSelfOff (o : Fin 6)
  /-- DRIVER_CURRENT_LIMIT (R604): A driver in current limit for 1 ms turns itself off. -/
  | driverCurrentLimit (o : Fin 6)
  /-- SOC_SELF_CHECK (R482): Every 1 ms SOC checks its oscillator and drive toggles and takes outputs off on failure. -/
  | socSelfCheck (oscOk : Bool) (tog : BitVec 6)
  /-- SAFETY_PDU (R464): Opcode 0x70: SOC checks a consumed PDU and refreshes its connection and demand. -/
  | safetyPdu (p : Packet)
  /-- CONNECTION_TIMEOUT (R464): No valid PDU for TE makes a connection not live and applies ACT. -/
  | connectionTimeout (k : Fin 8)
  /-- PRODUCER_PDU (R465): A producer connection sends a PDU every PERIOD and at each SOC state change. -/
  | producerPdu (k : Fin 8)
  /-- PRODUCER_SESSION_FETCH (R465): The fast path fetches the peer's SESSION and HI by AUTH_SESSION. -/
  | producerSessionFetch (k : Fin 8)
  /-- CHECKSUM_RECOMPUTE (R466): Every 10 ms each half recomputes its safety-set checksum. -/
  | checksumRecompute (bySystem : Bool)
  /-- SAFETY_SET_LOAD (R467): At release step 6 the committed safety set is loaded and SOC enters SAFE. -/
  | safetySetLoad
  /-- SAFESET_OPEN (R468): Opcode 0x71 opens a safety-set change with the password. -/
  | safesetOpen (p : Packet)
  /-- SAFESET_STAGE (R468): Opcode 0x72 stages RWS register values. -/
  | safesetStage (p : Packet)
  /-- SAFESET_COMMIT (R469): Opcode 0x73 checks the change and commits its record to NV. -/
  | safesetCommit (p : Packet)
  /-- SAFESET_RECORD_COMMITTED (R469): The record's NV commit completes, the stack part is written and a switch epoch named. -/
  | safesetRecordCommitted
  /-- SAFETY_SET_SWITCH (R469): At the switch epoch both halves make the new set live, the log entry is written and the reply sent. -/
  | safetySetSwitch
  /-- SAFESET_CLOSE (R468): Opcode 0x74 discards the staged values. -/
  | safesetClose (p : Packet)
  /-- SAFESET_CHANGE_EXPIRY (R468): A change with no request for 60 s is closed. -/
  | safesetChangeExpiry
  /-- SAFELOG_READ (R429): Opcode 0x75 returns change log entries. -/
  | safelogRead (p : Packet)
  /-- SAFELOG_ACK (R472): Opcode 0x76 acknowledges exported log entries. -/
  | safelogAck (p : Packet)
  /-- SAFE_PASSWORD (R471): Opcode 0x77 changes the safety password. -/
  | safePassword (p : Packet)
  /-- PASSWORD_LOCKOUT_END (R471): 60 s after LOCKOUT was set it clears. -/
  | passwordLockoutEnd
  /-- FAULT_EVENT (R479): The collector receives a raised fault source, stamps it and reacts by its class. -/
  | faultEvent
  /-- HISTORY_ENTRY_CLOSE (R485): The open history entry closes when its class condition is met. -/
  | historyEntryClose
  /-- STACK_FAULT_RESEND (R479): A queued stack-die fault message is sent again until acknowledged. -/
  | stackFaultResend
  /-- HISTORY_CLEAR (R487): A write of FLT_CTRL.HCLR empties the history queue. -/
  | historyClear (v : Word)
  /-- FAULT_TONE_TICK (R488): Every 250 us FTOUT toggles while the tone is good. -/
  | faultToneTick
  /-- FTIN_EDGE (R489): An FTIN edge is timed toward INGOOD. -/
  | ftinEdge
  /-- FTIN_TIMEOUT (R489): No FTIN edge for 400 us clears INGOOD and raises F2. -/
  | ftinTimeout
  /-- HEALTH_MESSAGE (R490): The stack half receives the system half's health message. -/
  | healthMessage
  /-- HEALTH_TIMEOUT (R490): No health message for 300 us clears OWNGOOD. -/
  | healthTimeout
  /-- STACK_POWER_ON (R492): The stack supply rises past its power-on threshold and resets scope STACK. -/
  | stackPowerOn
  /-- STACK_BROWN_OUT (R492): The stack supply stays low for 20 us and resets scope STACK. -/
  | stackBrownOut
  /-- SYSTEM_POWER_ON (R492): The auxiliary supply rises and resets scope SYS-POR. -/
  | systemPowerOn
  /-- SYSTEM_BROWN_OUT (R492): A system core supply stays low for 20 us and resets scope SYS-POR. -/
  | systemBrownOut
  /-- RESETN_PIN (R492): RESETn low for 10 us resets STACK and SYS-COLD. -/
  | resetnPin
  /-- COLD_RESET_COMMAND (R492): A write of RST_CTRL.COLD resets STACK and SYS-COLD. -/
  | coldResetCommand (v : Word)
  /-- WARM_RESET_COMMAND (R495): A write of RST_CTRL.WARM starts a warm reset. -/
  | warmResetCommand (v : Word)
  /-- WARM_RESET_RESUME (R495): 16 us after the system islands enter reset the release resumes at step 2. -/
  | warmResetResume
  /-- CP_WATCHDOG_EXPIRY (R498): The CP watchdog limit passes and a warm reset follows. -/
  | cpWatchdogExpiry
  /-- WATCHDOG_KICK (R498): A write of 0xA5 to RST_WDT.KICK restarts the CP watchdog. -/
  | watchdogKick (v : Word)
  /-- LOCKSTEP_MISMATCH (R499): The CP lockstep comparator mismatches, stopping the cores and raising F0. -/
  | lockstepMismatch
  /-- LOCKSTEP_WARM_RESET (R499): 10 us after a lockstep mismatch the station performs a warm reset. -/
  | lockstepWarmReset
  /-- STACK_HALF_REWRITE (R496): After a stack-only reset the system half rewrites and switches the stack safety part. -/
  | stackHalfRewrite
  /-- RELEASE_STACK_HALF (R500): Release step 1: STAO and SSV start in HOLD. -/
  | releaseStackHalf
  /-- RELEASE_SYSTEM_HALF (R500): Release step 2: PLLs lock, SOC enters INIT and the barrier trains. -/
  | releaseSystemHalf (failed : BitVec 24)
  /-- RELEASE_BOOT_ROM (R500): Release step 3: the boot ROM runs and serves the sideband. -/
  | releaseBootRom
  /-- POWER_UP_SELF_TEST (R503): Release step 4: CP, fabric and plots are self-tested. -/
  | powerUpSelfTest (cp fab : Bool) (plots : BitVec 32)
  /-- IMAGE_CHECK (R560): Release step 5: the boot ROM chooses and checks the firmware bank. -/
  | imageCheck
  /-- FIRMWARE_START (R500): Release step 6: firmware runs, loads the safety set, HEAD and watchdog limit. -/
  | firmwareStart
  /-- RELEASE_PORT_TRAINING (R351): Release step 7: the firmware enables the configured ports. -/
  | releasePortTraining
  /-- CADASTRE_RESTORE (R324): Release step 9: the cadastre is restored, slots placed and kernels reloaded. -/
  | cadastreRestore
  /-- PARCELS_RUNNING (R500): Release step 10: recorded kernels start and roll-call STATE becomes running. -/
  | parcelsRunning
  /-- SPARE_VISIT (R505): The online test visits the next plot, deferring or moving its slot to the spare. -/
  | spareVisit
  /-- PLOT_TEST_COMPLETE (R506): An online plot test ends; the plot becomes spare or is retired. -/
  | plotTestComplete (ok : Bool)
  /-- MEMORY_PATROL (R509): The patrol reads plot memory words and raises F1 on an uncorrectable error. -/
  | memoryPatrol (p : Fin 32) (e : Fin 3)
  /-- SELF_TEST_NOW (R509): A write of BST_CTL.RUNNOW tests every plot and reloads the kernels. -/
  | selfTestNow (bad : BitVec 32) (v : Word)
  /-- COMMUNICATION_LOSS_TIMEOUT (R522): TLOSS expires in service and the station enters sleep. -/
  | communicationLossTimeout
  /-- SLEEP_NOW (R524): A write of PWR_CTRL.SLEEPNOW starts sleep entry. -/
  | sleepNow (v : Word)
  /-- SLEEP_NOTICE_SEND (R524): With NV done or 500 ms passed, the sleep notice is sent. -/
  | sleepNoticeSend
  /-- AUXEN_RELEASE (R524): 20 us after the notice AUXEN goes low. -/
  | auxenRelease
  /-- SLEEP_COLD_RESET (R524): 1 s after AUXEN release with power still present the station cold-resets. -/
  | sleepColdReset
  /-- WAKE_SOURCE (R527): A CMP, TMR or BAL wake source fires and STAO asserts WAKE. -/
  | wakeSource (src : Fin 3)
  /-- WAKE_REASSERT (R527): WAKE is released after 10 s and asserted again 1 s later. -/
  | wakeReassert
  /-- STACK_WAKE (R527): The first good down frame takes the stack half from SLEEP to HOLD. -/
  | stackWake
  /-- HOUSEKEEPING_ROUND (R528): Every 100 ms temperatures are computed and levels and rates judged. -/
  | housekeepingRound (j0 j1 j2 j3 : BitVec 16) (hot : Bool)
  /-- THERMAL_STEP_INTERVAL (R534): Each STEPINT the plot thermal step moves one step slower or faster. -/
  | thermalStepInterval
  /-- CAPTURE_MEMORY_OFF (R520): A write of PWR_CTRL.CAPOFF switches the DRAM domains off or is refused. -/
  | captureMemoryOff (v : Word)
  /-- FLASH_IDLE_OFF (R520): 100 ms without an access switches the flash array off. -/
  | flashIdleOff
  /-- NV_WRITE (R546): Opcode 0x78 writes data into the parcel page buffer. -/
  | nvWrite (p : Packet)
  /-- NV_COMMIT (R547): Opcode 0x79 commits or discards the page buffer through the journal. -/
  | nvCommit (p : Packet)
  /-- NV_JOURNAL_DURABLE (R547): The journal pages and commit mark are written, the commit is durable and the reply sent. -/
  | nvJournalDurable
  /-- NV_COPY_DONE (R547): The pages are copied to their places and the commit mark clears. -/
  | nvCopyDone
  /-- NV_BUFFER_EXPIRY (R546): 10 s after the last NV_WRITE the page buffer empties. -/
  | nvBufferExpiry
  /-- NV_READ (R430): Opcode 0x7A reads NV data within the parcel's region. -/
  | nvRead (p : Packet) (ecc : List Bool)
  /-- COUNTER_INCREMENT (R550): A write of NVM_CNTINC increments a user counter or is refused. -/
  | counterIncrement (v : Word)
  /-- FLASH_ERASE_COMPLETE (R552): A sector erase completes and its erase record and bitmap bit clear. -/
  | flashEraseComplete
  /-- FLASH_SUSPEND (R553): A write of FLS_CTL.SUSPEND suspends the erase. -/
  | flashSuspend (v : Word)
  /-- FLASH_RESUME (R553): A write of FLS_CTL.RESUME resumes the erase. -/
  | flashResume (v : Word)
  /-- FW_DOWNLOAD (R558): Opcode 0x7B writes a firmware chunk into the inactive bank. -/
  | fwDownload (p : Packet)
  /-- FW_LEASE_EXPIRY (R432): A firmware session lease expires and the staging bank is marked INCOMPLETE. -/
  | fwLeaseExpiry
  /-- FW_VERIFY (R556): Opcode 0x7C checks the other bank. -/
  | fwVerify (p : Packet) (ecc : List Bool)
  /-- FW_ACTIVATE (R559): Opcode 0x7D writes a pointer making the other bank active on trial. -/
  | fwActivate (p : Packet)
  /-- FW_CONFIRM (R561): Opcode 0x7E confirms the trial image and raises MINVER. -/
  | fwConfirm (p : Packet)
  /-- UPD_STAT (R572): Opcode 0x7F returns the UPD status registers. -/
  | updStat (p : Packet)
  /-- PEG_MODE_WRITE (R575): A write of PEG_CTLn.MODE or TICK sets the line use, ending a frame or search. -/
  | pegModeWrite (n : Fin 4) (v : Word)
  /-- PEG_POWER_UP_END (R578): After 50 ms of POWER-UP the line becomes ready for commands. -/
  | pegPowerUpEnd (n : Fin 4)
  /-- PEG_LINE_SHORT (R578): An unexpected low over 100 ticks stops drive, enters FAULT and raises F2. -/
  | pegLineShort (n : Fin 4)
  /-- PEG_FAULT_RETRY (R578): Every 1 s in FAULT the line retries with a new POWER-UP. -/
  | pegFaultRetry (n : Fin 4)
  /-- PEG_SEARCH (R586): A write of PEG_CTLn.SEARCH starts a search request or is refused. -/
  | pegSearch (n : Fin 4) (v : Word)
  /-- PEG_SEARCH_PASS (R588): A search pass runs its censuses and choices and ends with a number or failure. -/
  | pegSearchPass (n : Fin 4) (census : List (BitVec 16))
  /-- PEG_VERIFY (R589): The found number is selected, read back and assigned a short address. -/
  | pegVerify (n : Fin 4) (reply : List Nat)
  /-- PEG_REPLY_FRAME (R582): A peg reply frame is taken, updating data, epoch and slow message. -/
  | pegReplyFrame (n : Fin 4) (ivs : List Nat) (ep : Word)
  /-- PEG_NO_RESPONSE (R585): No reply calibration within the reply window counts in NORESP. -/
  | pegNoResponse (n : Fin 4)
  /-- PEG_FRAME_GAP (R581): No falling edge within 1.5 FMAX discards the frame in progress. -/
  | pegFrameGap (n : Fin 4)
  /-- PEG_POLL_ROUND (R591): Every PERIOD ms the station sends READ to each short address. -/
  | pegPollRound (n : Fin 4)
  /-- PEG_COUNTER_CLEAR (R595): A write of PEG_CTLn.CLR clears PEG_CNTn. -/
  | pegCounterClear (n : Fin 4) (v : Word)
  /-- SENT_FRAME (R593): A SENT frame is received, updating data and serial messages. -/
  | sentFrame (n : Fin 4) (ivs : List Nat) (ep : Word)
  /-- OSCILLATOR_INPUT_RETURN (R36): The 25 MHz oscillator input returns, SYAO returns to it and the 100 ms uninterrupted-run count that gates release of the system half starts. -/
  | oscillatorInputReturn
  /-- VISO_CHANGEOVER (R516): VISO enters or leaves 4.5 V to 5.5 V and the stack core changes its supply between VISO and VSTK within 10 us, updating PWR_STAT.VISO and the scope of the stack brown-out. -/
  | visoChangeover (inside : Bool)
  /-- PPS_REFERENCE_LOST (R389): Two expected PPS edges in a row fail to arrive and the PPS reference becomes invalid, clearing TRACE. -/
  | ppsReferenceLost
  /-- TRAINING_RATE_STEP (R350): After a port has sent 256 TRAIN blocks with STEP set it moves its transmitter and receivers to the next lower rate. -/
  | trainingRateStep (p : Fin 4)
  /-- PARCEL_MOVE_COMPLETE (R267): The state copy of a copying move ends, the slot is remapped, the destination engines continue and a plot under visit enters the under-test state. -/
  | parcelMoveComplete
  /-- SCS1_NOTICE (R450): The stack half receives an SCS-1 begin or end notice from SOC, starting or stopping its TWIN + 1 ms backstop timer. -/
  | scs1Notice (begin_ : Bool) (twin : Nat)
  /-- START_WITHDRAWAL (R445): The stack half receives a start withdrawal and returns to HOLD without asserting RUN. -/
  | startWithdrawal
  /-- LIVE_LOSS_REPORT (R449): SOC receives the stack half's report that LIVE of a safety current channel fell, ending SCS-1 as SCS-0 in RAMP and making SCS-1 unavailable otherwise. -/
  | liveLossReport (m : Fin 4)
  /-- SAFETY_MESSAGE_ACKNOWLEDGE (R28): A half receives the acknowledgement of a safety-relevant message it has been repeating and stops repeating it. -/
  | safetyMessageAcknowledge (bySystem : Bool) (kind : Nat)
  /-- STARTUP_COMMUNICATION_TIMEOUT (R521): 5 s after release step 8 began with no good roll-call merged, communication counts as lost in START-UP, the health message reports bad and FTOUT goes static. -/
  | startupCommunicationTimeout
  /-- STAND_ALONE_RECOVERY_END (R521): With NOCOMM at 1, 10 s after release step 10 the service state leaves RECOVERY for IN SERVICE. -/
  | standAloneRecoveryEnd
  /-- BROADCAST_BOUND_UPDATE (R391): Every 100 ms the root recomputes B_tie and B_any from the reported delays and sizes and updates NET_BBOUND. -/
  | broadcastBoundUpdate (nTrav nTie h dmax : Nat)
  /-- FLASH_PROGRAM_COMPLETE (R551): A 256 B flash program operation completes, letting the next unit be programmed and the chunk's reply be sent. -/
  | flashProgramComplete
  deriving DecidableEq, Repr

end Sys2Proof
end

