-- ==== Sys2Proof/WellFormed.lean ====
section
/-! DEFINITION. Well-formed commands: packet header fields that their bits can hold (R402), and operand lists of the length
that the rule of their row gives. The meanings are total; a command that is not well-formed stands for nothing the hardware
can meet. -/
namespace Sys2Proof

/-- Every header field fits its bits (R402), and the packet is no longer than the largest (R401). -/
def Packet.wf (p : Packet) : Bool :=
  decide (p.ver < 16) && decide (p.cls < 4) && decide (p.resv < 1024) && decide (p.opcode < 256) && decide (p.parcel < 8)
  && decide (p.hops < 16) && decide (p.dest < 65536) && decide (p.src < 65536) && decide (p.tag < 65536)
  && decide (p.len < 65536) && decide (p.seqep < 4294967296) && decide (p.payload.length ≤ 2048)

/-- The packet that a row carries, if it carries one. -/
def Instr.packet : Instr → Option Packet
  | .profileCfg p | .profileRead p | .profileDerived p | .estParams p | .estRead p | .estSeed p | .kernelStage p
  | .loadKernel p | .engineHalt p | .engineResume p | .engineRestart p | .engineStat p | .streamSub p | .streamStat p
  | .deedApply p | .holderEnrol p | .cadastreRead p | .authSession p | .survey p | .assign p | .linkNotice p
  | .heartbeat p | .barrier p | .groupSet p | .ident p | .snapshotAt p | .crefBlocks p | .replyReceived p | .regRead p
  | .regWrite p | .regRmw p | .regReadBlock p | .resetCold p | .resetWarm p | .resetPlot p | .resetPort p
  | .captureCfg p | .captureTrig p | .captureRead p _ | .balSet p | .excStart p | .excStop p | .safetyPdu p
  | .safesetOpen p | .safesetStage p | .safesetCommit p | .safesetClose p | .safelogRead p | .safelogAck p
  | .safePassword p | .nvWrite p | .nvCommit p | .nvRead p _ | .fwDownload p | .fwVerify p _ | .fwActivate p
  | .fwConfirm p | .updStat p => some p
  | _ => none

/-- Operands of the rows that carry lists or numbers with a bound of their own. -/
def Instr.operandsOk : Instr → Bool
  | .epochAperture _ inputs => inputs.length == 52
  | .comparatorFilterTick cells => cells.length == 48
  | .pegSearchPass _ census => census.length == 16
  | .laneLockLoss _ _ hdrs => decide (hdrs.length ≤ 64)
  | .rollCallFrame _ h body => decide (h < 2 ^ 56) && decide (body.length ≤ 2068)
  | .markBlock _ lanes _ _ b _ => decide (lanes < 4) && b.length == 7
  | .dlyBlock _ b _ => b.length == 7
  | .lstatBlock _ b => b.length == 7
  | .trainBlock _ _ _ b => b.length == 7
  | .injectedTrigger _ cell => decide (cell ≤ 48)
  | .spiWrite b => decide (b.length ≤ 2068)
  | .kernelDemandFrame items => decide (items.length ≤ 500)
  | _ => true

/-- A well-formed command. -/
def Instr.wf (i : Instr) : Bool :=
  (match i.packet with | some p => p.wf | none => true) && i.operandsOk

end Sys2Proof
end

