-- ==== Sys2Proof/Machine/Bits.lean ====
section
/-! DEFINITION. Bit fields, sign reading, little-endian bytes, saturation and the cyclic redundancy checks the
spec names (CRC-8, CRC-10 and CRC-32C), each written once. -/
namespace Sys2Proof.Machine

/-- The `w` bits of `n` that start at bit `lo`. -/
def bitsOf (n lo w : Nat) : Nat := (n >>> lo) % 2 ^ w

/-- `n` with the `w` bits from `lo` replaced by the low `w` bits of `v`. -/
def withBits (n lo w v : Nat) : Nat :=
  (n >>> (lo + w)) <<< (lo + w) ||| ((v % 2 ^ w) <<< lo) ||| n % 2 ^ lo

/-- `n` as a signed number of `w` bits. -/
def asInt (w n : Nat) : Int :=
  if n % 2 ^ w < 2 ^ (w - 1) then ((n % 2 ^ w : Nat) : Int) else ((n % 2 ^ w : Nat) : Int) - 2 ^ w

/-- The `w`-bit two's complement pattern of `i`. -/
def ofInt (w : Nat) (i : Int) : Nat := (i % (2 ^ w : Int)).toNat

/-- `i` clamped to the signed numbers of `w` bits. -/
def clampS (w : Nat) (i : Int) : Int :=
  if i > 2 ^ (w - 1) - 1 then 2 ^ (w - 1) - 1 else if i < -(2 ^ (w - 1)) then -(2 ^ (w - 1)) else i

/-- `n` clamped to the unsigned numbers of `w` bits: how every saturating counter and magnitude ends. -/
def clampU (w n : Nat) : Nat := min n (2 ^ w - 1)

/-- Division by `2 ^ k`, rounded to nearest with halves away from minus infinity (add half, then floor).
[DEDUCED, log 18] -/
def roundShift (i : Int) (k : Nat) : Int := if k = 0 then i else (i + 2 ^ (k - 1)) >>> k

/-- The lower 32 bits of a number, as a register word. -/
def w32 (n : Nat) : Word := BitVec.ofNat 32 n

/-- The bytes of `n`, least significant first, `k` of them. -/
def leBytes : Nat → Nat → List Byte
  | 0, _ => []
  | k + 1, n => BitVec.ofNat 8 n :: leBytes k (n / 256)

/-- The number that bytes spell, least significant first. -/
def leNat : List Byte → Nat
  | [] => 0
  | b :: bs => b.toNat + 256 * leNat bs

/-- `k` bytes of a list from offset `o`; bytes beyond its end read as zero. -/
def sliceBytes (l : List Byte) (o k : Nat) : List Byte :=
  let t := (l.drop o).take k
  t ++ List.replicate (k - t.length) 0

/-- The unsigned number in bytes `o` to `o + k - 1`, least significant byte first. -/
def leAt (l : List Byte) (o k : Nat) : Nat := leNat (sliceBytes l o k)

/-- One bit of a bit-serial CRC register of `w` bits, most significant bit first. -/
def crcBit (w poly crc : Nat) (b : Bool) : Nat :=
  let top := crc.testBit (w - 1) ^^ b
  let sh := (crc <<< 1) % 2 ^ w
  if top then sh ^^^ poly else sh

/-- A CRC of `w` bits over a list of bits. -/
def crcBits (w poly : Nat) (init : Nat) (bits : List Bool) : Nat :=
  bits.foldl (crcBit w poly) init

/-- The bits of a number, most significant first. -/
def msbBits : Nat → Nat → List Bool
  | 0, _ => []
  | k + 1, n => n.testBit k :: msbBits k n

/-- One byte of the reflected CRC-32C (polynomial 0x1EDC6F41, reflected 0x82F63B78). -/
def crc32cByte (crc : Nat) (b : Byte) : Nat :=
  let step := fun c => if c % 2 = 1 then (c >>> 1) ^^^ 0x82F63B78 else c >>> 1
  step (step (step (step (step (step (step (step (crc ^^^ b.toNat))))))))

/-- CRC-32C of a byte list. -/
def crc32c (l : List Byte) : Nat := (l.foldl crc32cByte 0xFFFFFFFF) ^^^ 0xFFFFFFFF

/-- CRC-10 of R26, over bits in transmission order. -/
def crc10 (bits : List Bool) : Nat := crcBits 10 0x233 0x3FF bits

/-- The number that bits spell, most significant first. -/
def bitsNat (l : List Bool) : Nat := l.foldl (fun a b => 2 * a + (if b then 1 else 0)) 0

/-- Bit `i` of a number as 0 or 1. -/
def bitNat (n i : Nat) : Nat := if n.testBit i then 1 else 0

/-- `n` with bit `i` set to `b`. -/
def setBit (n i : Nat) (b : Bool) : Nat :=
  if b then n ||| 2 ^ i else if n.testBit i then n - 2 ^ i else n

/-- The number of ones among the low `w` bits. -/
def popCount (w n : Nat) : Nat := (List.range w).countP fun i => n.testBit i

/-- 1 for true. -/
def b2n (b : Bool) : Nat := if b then 1 else 0

end Sys2Proof.Machine
end

