-- ==== Sys2Proof/Machine/Real.lean ====
section
/-! DEFINITION. Sines, logarithms and powers of ten as the rules use them, computed in fixed point with 80 fraction
bits by their series, so that what is rounded afterwards is the exact value (assumption log 17). -/
namespace Sys2Proof.Machine

/-- pi / 2, ln 2 and ln 10 with 80 fraction bits. -/
def halfPiQ : Int := 1898976236818169290393997
def ln2Q : Int := 837963523372001241319908
def ln10Q : Int := 2783654570780253816072539

/-- The sine series of an angle in radians with 80 fraction bits, from 0 to pi / 2. -/
def sineSeries (t : Int) : Int :=
  let t2 := (t * t) >>> 80
  let r := (List.range 14).foldl (fun (a : Int × Int) k =>
    let term := -((a.2 * t2) >>> 80) / (((2 * k + 2) * (2 * k + 3) : Nat) : Int)
    (a.1 + term, term)) (t, t)
  r.1

/-- The sine of a 48-bit phase, with 80 fraction bits. -/
def sin48 (ph : Nat) : Int :=
  let p := ph % 2 ^ 48
  let r := p % 2 ^ 46
  let up : Int := sineSeries ((halfPiQ * (r : Nat)) >>> 46)
  let dn : Int := sineSeries ((halfPiQ * ((2 ^ 46 - r : Nat) : Int)) >>> 46)
  match p / 2 ^ 46 with
  | 0 => up
  | 1 => dn
  | 2 => -up
  | _ => -dn

/-- The sine and the cosine of an 80-bit phase, with 80 fraction bits. -/
def sin80 (ph : Nat) : Int :=
  let p := ph % 2 ^ 80
  let r := p % 2 ^ 78
  let up : Int := sineSeries ((halfPiQ * (r : Nat)) >>> 78)
  let dn : Int := sineSeries ((halfPiQ * ((2 ^ 78 - r : Nat) : Int)) >>> 78)
  match p / 2 ^ 78 with
  | 0 => up
  | 1 => dn
  | 2 => -up
  | _ => -dn
def cos80 (ph : Nat) : Int := sin80 (ph + 2 ^ 78)

/-- The sine and the cosine of a 48-bit phase rounded to `k` fraction bits. [DEDUCED, log 17] -/
def sinFix (k ph : Nat) : Int := roundShift (sin48 ph) (80 - k)
def cosFix (k ph : Nat) : Int := roundShift (sin48 (ph + 2 ^ 46)) (80 - k)

/-- The natural logarithm of `a / b` with 80 fraction bits; 0 where either is 0. -/
def lnFix (a b : Nat) : Int :=
  if a = 0 ∨ b = 0 then 0
  else
    let x := a * 2 ^ 120 / b
    let k := Nat.log2 x
    let m : Int := ((x * 2 ^ 80 / 2 ^ k : Nat) : Int)
    let one : Int := 2 ^ 80
    let z := (m - one) * one / (m + one)
    let z2 := (z * z) >>> 80
    let r := (List.range 30).foldl (fun (a : Int × Int) j =>
      (a.1 + a.2 / ((2 * j + 1 : Nat) : Int), (a.2 * z2) >>> 80)) (0, z)
    ((k : Int) - 120) * ln2Q + 2 * r.1

/-- 10 to the power `num / den`, rounded to the nearest whole number. -/
def exp10Fix (num : Int) (den : Nat) : Nat :=
  let y := num * ln10Q / (den : Int)
  let n := y / ln2Q
  let f := y - n * ln2Q
  let one : Int := 2 ^ 80
  let r := (List.range 28).foldl (fun (a : Int × Int) j =>
    let term := ((a.2 * f) >>> 80) / ((j + 1 : Nat) : Int)
    (a.1 + term, term)) (one, one)
  if n < -1 then 0 else (roundShift (r.1 * 2 ^ (n + 1).toNat) 81).toNat

/-- The exponential of a number with 80 fraction bits, as one; beyond 2^100 or 2^-100 it saturates. -/
def expQ (x : Int) : Int :=
  let n := x / ln2Q
  let f := x - n * ln2Q
  let one : Int := 2 ^ 80
  let r := (List.range 28).foldl (fun (a : Int × Int) j =>
    let term := ((a.2 * f) >>> 80) / ((j + 1 : Nat) : Int)
    (a.1 + term, term)) (one, one)
  if n < -100 then 0 else if 100 < n then 2 ^ 181 else if n < 0 then r.1 >>> (-n).toNat else r.1 * 2 ^ n.toNat

end Sys2Proof.Machine
end

