-- ==== Sys2Proof/Config.lean ====
section
/-! DEFINITION. What the spec leaves open or names without defining: free values and uninterpreted functions. Each is
an opaque constant without a body, so no proof can rest on a particular value. Cryptographic primitives and
transcendental functions that the spec names only by name are here too. -/
namespace Sys2Proof.Config

/-- A fresh unconstrained number for each value of the model's own counter `State.freeCtr`: the random session values,
handles and salts of R322, R431, R469 and R471, and any value the spec leaves open. [DESIGN CHOICE, log 14] -/
opaque freeValue : Nat → Nat

/-- HMAC-SHA-256 (R321), named and not defined by the spec: key bytes, message bytes; 32 bytes.
[DESIGN CHOICE, log 16] -/
opaque hmacSha256 : List Byte → List Byte → Vector Byte 32

/-- SHA-256 (R312, R314, R556): 32 bytes. -/
opaque sha256 : List Byte → Vector Byte 32

/-- Whether an ECDSA P-256 signature verifies: public key, message digest, signature (R312, R314, R556). -/
opaque ecdsaVerify : List Byte → List Byte → List Byte → Bool

/-- Whether a signature verifies under the key whose 16-byte digest is given: the founding page keeps digests (R262, R311,
R544). Arguments: key digest, message digest, signature. -/
opaque ecdsaVerifyDigest : List Byte → List Byte → List Byte → Bool

/-- The key unwrapping of R320 (ECDH, HKDF-SHA-256, AES-256-GCM): serial, parcel, deed number, item bytes; none when
the GCM tag does not verify. -/
opaque unwrapKey : Nat → Nat → Nat → List Byte → Option (List Byte)

/-- PBKDF2-HMAC-SHA-256 with 10,000 iterations (R471): password, salt. -/
opaque pbkdf2 : List Byte → List Byte → List Byte

/-- The station's own factory public key for key agreement (R326: factory). -/
opaque stationKey : List Byte

/-- The updating public keys that the boot ROM holds (R556). -/
opaque romKey : Nat → List Byte

/-- By how much the oscillator's quarter-wave table misses the exact Q15 value (R239: at most 1 LSB; the model takes the
number modulo 3, less 1), by the top 20 bits of the phase: of the cosine and of the sine.
[DESIGN CHOICE, log 70] -/
opaque ncoCosErr : Nat → Nat
opaque ncoSinErr : Nat → Nat

/-- Whether a load of the profile service (0) or the estimator (1) is within a capacity of its parcel's engines (R167,
R204): service, load, capacity; R167 and R204 give no load and capacity figures. [DESIGN CHOICE, log 49] -/
opaque serviceFits : Nat → Nat → Nat → Bool

/-- The key identifiers of the profile kernel and the estimator kernels, which the spec does not give (R196, R220).
[DESIGN CHOICE, log 50] -/
opaque profileKid : Nat
opaque estimatorKid : Nat

/-- The filter's capacity gain (R209), in 1e-6 modulo 1,000,001: cell, components. [DESIGN CHOICE, log 55] -/
opaque capacityGain : Nat → List Int → Nat

/-- The estimator's state after one advance and update (R201, R206): the spec names the single-particle model with a
sigma-point filter and gives no equations. Arguments: cell, component, inputs, old components.
[DESIGN CHOICE, log 55] -/
opaque estimate : Nat → Nat → List Int → List Int → Int

end Sys2Proof.Config
end

