-- ==== Sys2Proof/Machine/RegNames.lean ====
section
/-! DEFINITION. The names of the register map: one `Fld` (address, lowest bit, width) for each field of the field tables
of the spec's register chapters, under BLOCK_NAME_FIELD; a register array takes the index the spec gives it. -/
namespace Sys2Proof.Machine

/-- A field of a register: its word's byte address, its lowest bit and its width. -/
structure Fld where
  adr : Nat
  lo : Nat
  w : Nat
  deriving DecidableEq, Repr

namespace R

/-! Block 0x00_0000 -/
/-- IDENT_PART (R9). -/
def IDENT_PART : Nat := 0x000000
def IDENT_PART_FAMILY : Fld := ⟨0x000000, 16, 16⟩
def IDENT_PART_PART : Fld := ⟨0x000000, 0, 16⟩
/-- IDENT_STEP (R9). -/
def IDENT_STEP : Nat := 0x000004
def IDENT_STEP_MODULE : Fld := ⟨0x000004, 16, 8⟩
def IDENT_STEP_STACK : Fld := ⟨0x000004, 8, 8⟩
def IDENT_STEP_SYSTEM : Fld := ⟨0x000004, 0, 8⟩
/-- IDENT_CAP (R10). -/
def IDENT_CAP : Nat := 0x000008
def IDENT_CAP_BALX : Fld := ⟨0x000008, 18, 1⟩
def IDENT_CAP_FLSH : Fld := ⟨0x000008, 17, 1⟩
def IDENT_CAP_NVM : Fld := ⟨0x000008, 16, 1⟩
def IDENT_CAP_SAFE : Fld := ⟨0x000008, 15, 1⟩
def IDENT_CAP_SWEEP : Fld := ⟨0x000008, 14, 1⟩
def IDENT_CAP_TRVP : Fld := ⟨0x000008, 13, 1⟩
def IDENT_CAP_PEGN : Fld := ⟨0x000008, 10, 3⟩
def IDENT_CAP_CAPM : Fld := ⟨0x000008, 9, 1⟩
def IDENT_CAP_TIEP : Fld := ⟨0x000008, 8, 1⟩
def IDENT_CAP_PLOTS : Fld := ⟨0x000008, 0, 8⟩
/-- IDENT_PLOTMAP (R9). -/
def IDENT_PLOTMAP : Nat := 0x00000C
def IDENT_PLOTMAP_PLOT : Fld := ⟨0x00000C, 0, 32⟩

/-! Block 0x01_0000 -/
/-- SMP_CTRL (R95). -/
def SMP_CTRL : Nat := 0x010000
def SMP_CTRL_AUTOCAL : Fld := ⟨0x010000, 4, 1⟩
def SMP_CTRL_MODE : Fld := ⟨0x010000, 3, 1⟩
def SMP_CTRL_RATE : Fld := ⟨0x010000, 1, 2⟩
def SMP_CTRL_RUN : Fld := ⟨0x010000, 0, 1⟩
/-- SMP_CHEN0 (R96). -/
def SMP_CHEN0 : Nat := 0x010004
def SMP_CHEN0_CV : Fld := ⟨0x010004, 0, 32⟩
/-- SMP_CHEN1 (R96). -/
def SMP_CHEN1 : Nat := 0x010008
def SMP_CHEN1_AX : Fld := ⟨0x010008, 16, 4⟩
def SMP_CHEN1_CV : Fld := ⟨0x010008, 0, 16⟩
/-- SMP_STAT (R97). -/
def SMP_STAT : Nat := 0x01000C
def SMP_STAT_RATESRC : Fld := ⟨0x01000C, 22, 2⟩
def SMP_STAT_XCH : Fld := ⟨0x01000C, 16, 6⟩
def SMP_STAT_CALCH : Fld := ⟨0x01000C, 8, 6⟩
def SMP_STAT_CALBUSY : Fld := ⟨0x01000C, 5, 1⟩
def SMP_STAT_XACT : Fld := ⟨0x01000C, 4, 1⟩
def SMP_STAT_RCK : Fld := ⟨0x01000C, 3, 1⟩
def SMP_STAT_COH : Fld := ⟨0x01000C, 2, 1⟩
def SMP_STAT_RATE : Fld := ⟨0x01000C, 0, 2⟩
/-- SMP_CFGEPOCH (R98). -/
def SMP_CFGEPOCH : Nat := 0x010010
def SMP_CFGEPOCH_EPOCH : Fld := ⟨0x010010, 0, 32⟩
/-- SMP_XCFG (R98). -/
def SMP_XCFG : Nat := 0x010014
def SMP_XCFG_ROUND : Fld := ⟨0x010014, 0, 12⟩
/-- SMP_XTHR (R98). -/
def SMP_XTHR : Nat := 0x010018
def SMP_XTHR_XTHR : Fld := ⟨0x010018, 0, 10⟩
/-- SMP_XSTAT (R99). -/
def SMP_XSTAT : Nat := 0x01001C
def SMP_XSTAT_CELL : Fld := ⟨0x01001C, 24, 6⟩
def SMP_XSTAT_VALID : Fld := ⟨0x01001C, 16, 1⟩
def SMP_XSTAT_DIFF : Fld := ⟨0x01001C, 0, 16⟩
/-- SMP_XFAIL0 (R99). -/
def SMP_XFAIL0 : Nat := 0x010020
def SMP_XFAIL0_FAIL : Fld := ⟨0x010020, 0, 32⟩
/-- SMP_XFAIL1 (R99). -/
def SMP_XFAIL1 : Nat := 0x010024
def SMP_XFAIL1_FAIL : Fld := ⟨0x010024, 0, 16⟩
/-- SMP_EMS (R100). -/
def SMP_EMS : Nat := 0x010028
def SMP_EMS_HOLD : Fld := ⟨0x010028, 8, 8⟩
def SMP_EMS_THR : Fld := ⟨0x010028, 0, 4⟩
/-- SMP_CALCTL (R100). -/
def SMP_CALCTL : Nat := 0x01002C
def SMP_CALCTL_GO : Fld := ⟨0x01002C, 31, 1⟩
def SMP_CALCTL_CH : Fld := ⟨0x01002C, 16, 6⟩
def SMP_CALCTL_INTERVAL : Fld := ⟨0x01002C, 0, 16⟩
/-- SMP_AXSAFE (R101). -/
def SMP_AXSAFE : Nat := 0x010030
def SMP_AXSAFE_SAFEI : Fld := ⟨0x010030, 0, 4⟩
/-- SMP_AXSTAT (R101). -/
def SMP_AXSTAT : Nat := 0x010034
def SMP_AXSTAT_LOST : Fld := ⟨0x010034, 4, 4⟩
def SMP_AXSTAT_LIVE : Fld := ⟨0x010034, 0, 4⟩
/-- SMP_REFCFG (R101). -/
def SMP_REFCFG : Nat := 0x010038
def SMP_REFCFG_D : Fld := ⟨0x010038, 4, 3⟩
def SMP_REFCFG_SRC : Fld := ⟨0x010038, 1, 2⟩
def SMP_REFCFG_EN : Fld := ⟨0x010038, 0, 1⟩
/-- SMP_AXCFG (R102). -/
def SMP_AXCFG (m : Nat) : Nat := 0x010040 + 4 * (m - 1)
def SMP_AXCFG_P (m : Nat) : Fld := ⟨0x010040 + 4 * (m - 1), 12, 4⟩
def SMP_AXCFG_DITH (m : Nat) : Fld := ⟨0x010040 + 4 * (m - 1), 4, 8⟩
def SMP_AXCFG_DITHEN (m : Nat) : Fld := ⟨0x010040 + 4 * (m - 1), 1, 1⟩
def SMP_AXCFG_MODE (m : Nat) : Fld := ⟨0x010040 + 4 * (m - 1), 0, 1⟩
/-- SMP_AVG (R103). -/
def SMP_AVG (n : Nat) : Nat := 0x010100 + 4 * (n - 1)
def SMP_AVG_PED (n : Nat) : Fld := ⟨0x010100 + 4 * (n - 1), 16, 16⟩
def SMP_AVG_PEDEN (n : Nat) : Fld := ⟨0x010100 + 4 * (n - 1), 8, 1⟩
def SMP_AVG_SHIFT (n : Nat) : Fld := ⟨0x010100 + 4 * (n - 1), 4, 4⟩
def SMP_AVG_LOGN (n : Nat) : Fld := ⟨0x010100 + 4 * (n - 1), 0, 4⟩
/-- SMP_CAL (R104). -/
def SMP_CAL (n : Nat) : Nat := 0x010200 + 4 * (n - 1)
def SMP_CAL_GAIN (n : Nat) : Fld := ⟨0x010200 + 4 * (n - 1), 16, 16⟩
def SMP_CAL_OFS (n : Nat) : Fld := ⟨0x010200 + 4 * (n - 1), 0, 16⟩

/-! Block 0x02_0000 -/
/-- SWC_CTRL (R131). -/
def SWC_CTRL : Nat := 0x020000
def SWC_CTRL_ILEN : Fld := ⟨0x020000, 24, 4⟩
def SWC_CTRL_PERIOD : Fld := ⟨0x020000, 16, 8⟩
def SWC_CTRL_LEN : Fld := ⟨0x020000, 8, 8⟩
def SWC_CTRL_EN : Fld := ⟨0x020000, 0, 1⟩
/-- SWC_STAT (R131). -/
def SWC_STAT : Nat := 0x020004
def SWC_STAT_CALSLOT : Fld := ⟨0x020004, 15, 1⟩
def SWC_STAT_PLNA : Fld := ⟨0x020004, 14, 1⟩
def SWC_STAT_RAT_SETTLED : Fld := ⟨0x020004, 13, 1⟩
def SWC_STAT_REF_SETTLED : Fld := ⟨0x020004, 12, 1⟩
def SWC_STAT_STATE : Fld := ⟨0x020004, 8, 2⟩
def SWC_STAT_SLOT : Fld := ⟨0x020004, 0, 7⟩
/-- SWC_REF (R131). -/
def SWC_REF : Nat := 0x020008
def SWC_REF_XSETTLE : Fld := ⟨0x020008, 8, 8⟩
def SWC_REF_SEL : Fld := ⟨0x020008, 0, 1⟩
/-- SWC_INJEN (R132). -/
def SWC_INJEN : Nat := 0x02000C
def SWC_INJEN_SRCS : Fld := ⟨0x02000C, 1, 3⟩
def SWC_INJEN_CMD : Fld := ⟨0x02000C, 0, 1⟩
/-- SWC_INJCTL (R132). -/
def SWC_INJCTL : Nat := 0x020010
def SWC_INJCTL_GO : Fld := ⟨0x020010, 31, 1⟩
def SWC_INJCTL_DCLR : Fld := ⟨0x020010, 30, 1⟩
def SWC_INJCTL_CELL : Fld := ⟨0x020010, 0, 6⟩
/-- SWC_INJDROP (R132). -/
def SWC_INJDROP : Nat := 0x020014
def SWC_INJDROP_COUNT : Fld := ⟨0x020014, 0, 8⟩
/-- SWC_INJSRC (R132). -/
def SWC_INJSRC : Nat := 0x020018
def SWC_INJSRC_CELL : Fld := ⟨0x020018, 8, 6⟩
def SWC_INJSRC_SRC : Fld := ⟨0x020018, 0, 4⟩
/-- SWC_IEPOCH (R132). -/
def SWC_IEPOCH : Nat := 0x02001C
def SWC_IEPOCH_EPOCH : Fld := ⟨0x02001C, 0, 32⟩
/-- SWC_RSTART (R132). -/
def SWC_RSTART : Nat := 0x020020
def SWC_RSTART_EPOCH : Fld := ⟨0x020020, 0, 32⟩
/-- SWC_OVRUN (R132). -/
def SWC_OVRUN : Nat := 0x020024
def SWC_OVRUN_COUNT : Fld := ⟨0x020024, 0, 16⟩
/-- SWC_PLTHR (R133). -/
def SWC_PLTHR : Nat := 0x020028
def SWC_PLTHR_AXTHR : Fld := ⟨0x020028, 16, 10⟩
def SWC_PLTHR_THR : Fld := ⟨0x020028, 0, 10⟩
/-- SWC_DIS0 (R133). -/
def SWC_DIS0 : Nat := 0x02002C
def SWC_DIS0_CELL : Fld := ⟨0x02002C, 0, 32⟩
/-- SWC_DIS1 (R133). -/
def SWC_DIS1 : Nat := 0x020030
def SWC_DIS1_AX : Fld := ⟨0x020030, 16, 4⟩
def SWC_DIS1_CELL : Fld := ⟨0x020030, 0, 16⟩
/-- SWC_CONF0 (R133). -/
def SWC_CONF0 : Nat := 0x020034
def SWC_CONF0_CELL : Fld := ⟨0x020034, 0, 32⟩
/-- SWC_CONF1 (R133). -/
def SWC_CONF1 : Nat := 0x020038
def SWC_CONF1_AX : Fld := ⟨0x020038, 16, 4⟩
def SWC_CONF1_CELL : Fld := ⟨0x020038, 0, 16⟩
/-- SWC_DIAG (R133). -/
def SWC_DIAG : Nat := 0x02003C
def SWC_DIAG_LOST : Fld := ⟨0x02003C, 16, 1⟩
def SWC_DIAG_DACIDX : Fld := ⟨0x02003C, 8, 7⟩
def SWC_DIAG_FAIL : Fld := ⟨0x02003C, 0, 4⟩
/-- SWC_DIAGCFG (R133). -/
def SWC_DIAGCFG : Nat := 0x020040
def SWC_DIAGCFG_LIMIT : Fld := ⟨0x020040, 0, 4⟩
/-- SWC_SEQ (R134). -/
def SWC_SEQ (k : Nat) : Nat := 0x020100 + 4 * k
def SWC_SEQ_RAT (k : Nat) : Fld := ⟨0x020100 + 4 * k, 7, 1⟩
def SWC_SEQ_SRC (k : Nat) : Fld := ⟨0x020100 + 4 * k, 0, 7⟩
/-- SWC_ISEQ (R134). -/
def SWC_ISEQ (k : Nat) : Nat := 0x020280 + 4 * k
def SWC_ISEQ_RAT (k : Nat) : Fld := ⟨0x020280 + 4 * k, 7, 1⟩
def SWC_ISEQ_SRC (k : Nat) : Fld := ⟨0x020280 + 4 * k, 0, 7⟩
/-- SWC_RES (R134). -/
def SWC_RES (k : Nat) : Nat := 0x020300 + 4 * k
def SWC_RES_UNS (k : Nat) : Fld := ⟨0x020300 + 4 * k, 31, 1⟩
def SWC_RES_OVR (k : Nat) : Fld := ⟨0x020300 + 4 * k, 30, 1⟩
def SWC_RES_DIS (k : Nat) : Fld := ⟨0x020300 + 4 * k, 29, 1⟩
def SWC_RES_NOCMP (k : Nat) : Fld := ⟨0x020300 + 4 * k, 28, 1⟩
def SWC_RES_RND (k : Nat) : Fld := ⟨0x020300 + 4 * k, 24, 4⟩
def SWC_RES_CODE (k : Nat) : Fld := ⟨0x020300 + 4 * k, 0, 18⟩
/-- SWC_IRES (R134). -/
def SWC_IRES (k : Nat) : Nat := 0x020480 + 4 * k
def SWC_IRES_UNS (k : Nat) : Fld := ⟨0x020480 + 4 * k, 31, 1⟩
def SWC_IRES_OVR (k : Nat) : Fld := ⟨0x020480 + 4 * k, 30, 1⟩
def SWC_IRES_DIS (k : Nat) : Fld := ⟨0x020480 + 4 * k, 29, 1⟩
def SWC_IRES_NOCMP (k : Nat) : Fld := ⟨0x020480 + 4 * k, 28, 1⟩
def SWC_IRES_RND (k : Nat) : Fld := ⟨0x020480 + 4 * k, 24, 4⟩
def SWC_IRES_CODE (k : Nat) : Fld := ⟨0x020480 + 4 * k, 0, 18⟩

/-! Block 0x03_0000 -/
/-- CMP_CTRL (R136). -/
def CMP_CTRL : Nat := 0x030000
def CMP_CTRL_UVHYS : Fld := ⟨0x030000, 18, 2⟩
def CMP_CTRL_OVHYS : Fld := ⟨0x030000, 16, 2⟩
def CMP_CTRL_UVF : Fld := ⟨0x030000, 8, 5⟩
def CMP_CTRL_OVF : Fld := ⟨0x030000, 0, 5⟩
/-- CMP_OVEN0 (R136). -/
def CMP_OVEN0 : Nat := 0x030004
def CMP_OVEN0_EN : Fld := ⟨0x030004, 0, 32⟩
/-- CMP_OVEN1 (R136). -/
def CMP_OVEN1 : Nat := 0x030008
def CMP_OVEN1_EN : Fld := ⟨0x030008, 0, 16⟩
/-- CMP_UVEN0 (R136). -/
def CMP_UVEN0 : Nat := 0x03000C
def CMP_UVEN0_EN : Fld := ⟨0x03000C, 0, 32⟩
/-- CMP_UVEN1 (R136). -/
def CMP_UVEN1 : Nat := 0x030010
def CMP_UVEN1_EN : Fld := ⟨0x030010, 0, 16⟩
/-- CMP_OVST0 (R136). -/
def CMP_OVST0 : Nat := 0x030014
def CMP_OVST0_ST : Fld := ⟨0x030014, 0, 32⟩
/-- CMP_OVST1 (R136). -/
def CMP_OVST1 : Nat := 0x030018
def CMP_OVST1_ST : Fld := ⟨0x030018, 0, 16⟩
/-- CMP_UVST0 (R136). -/
def CMP_UVST0 : Nat := 0x03001C
def CMP_UVST0_ST : Fld := ⟨0x03001C, 0, 32⟩
/-- CMP_UVST1 (R136). -/
def CMP_UVST1 : Nat := 0x030020
def CMP_UVST1_ST : Fld := ⟨0x030020, 0, 16⟩
/-- CMP_OVTRIP0 (R136). -/
def CMP_OVTRIP0 : Nat := 0x030024
def CMP_OVTRIP0_TRIP : Fld := ⟨0x030024, 0, 32⟩
/-- CMP_OVTRIP1 (R136). -/
def CMP_OVTRIP1 : Nat := 0x030028
def CMP_OVTRIP1_TRIP : Fld := ⟨0x030028, 0, 16⟩
/-- CMP_UVTRIP0 (R136). -/
def CMP_UVTRIP0 : Nat := 0x03002C
def CMP_UVTRIP0_TRIP : Fld := ⟨0x03002C, 0, 32⟩
/-- CMP_UVTRIP1 (R136). -/
def CMP_UVTRIP1 : Nat := 0x030030
def CMP_UVTRIP1_TRIP : Fld := ⟨0x030030, 0, 16⟩
/-- CMP_TEST (R136). -/
def CMP_TEST : Nat := 0x030034
def CMP_TEST_GO : Fld := ⟨0x030034, 31, 1⟩
def CMP_TEST_KIND : Fld := ⟨0x030034, 24, 1⟩
def CMP_TEST_CELL : Fld := ⟨0x030034, 16, 6⟩
def CMP_TEST_RESULT : Fld := ⟨0x030034, 8, 2⟩
/-- CMP_THR (R136). -/
def CMP_THR (n : Nat) : Nat := 0x030100 + 4 * (n - 1)
def CMP_THR_OVT (n : Nat) : Fld := ⟨0x030100 + 4 * (n - 1), 16, 10⟩
def CMP_THR_UVT (n : Nat) : Fld := ⟨0x030100 + 4 * (n - 1), 0, 10⟩

/-! Block 0x04_0000 -/
/-- BAL_CTRL (R162). -/
def BAL_CTRL : Nat := 0x040000
def BAL_CTRL_MAXSW : Fld := ⟨0x040000, 8, 5⟩
def BAL_CTRL_SLEEPBAL : Fld := ⟨0x040000, 1, 1⟩
def BAL_CTRL_EN : Fld := ⟨0x040000, 0, 1⟩
/-- BAL_STAT (R162). -/
def BAL_STAT : Nat := 0x040004
def BAL_STAT_FSRC : Fld := ⟨0x040004, 24, 3⟩
def BAL_STAT_NCLOSED : Fld := ⟨0x040004, 16, 5⟩
def BAL_STAT_CAP : Fld := ⟨0x040004, 8, 5⟩
def BAL_STAT_TBAND : Fld := ⟨0x040004, 1, 3⟩
def BAL_STAT_FORCED : Fld := ⟨0x040004, 0, 1⟩
/-- BAL_FORCE (R162). -/
def BAL_FORCE : Nat := 0x040008
def BAL_FORCE_SRC : Fld := ⟨0x040008, 0, 3⟩
/-- BAL_CELLEN0 (R162). -/
def BAL_CELLEN0 : Nat := 0x04000C
def BAL_CELLEN0_CELL : Fld := ⟨0x04000C, 0, 32⟩
/-- BAL_CELLEN1 (R162). -/
def BAL_CELLEN1 : Nat := 0x040010
def BAL_CELLEN1_CELL : Fld := ⟨0x040010, 0, 16⟩
/-- BAL_ON0 (R162). -/
def BAL_ON0 : Nat := 0x040014
def BAL_ON0_CELL : Fld := ⟨0x040014, 0, 32⟩
/-- BAL_ON1 (R162). -/
def BAL_ON1 : Nat := 0x040018
def BAL_ON1_CELL : Fld := ⟨0x040018, 0, 16⟩
/-- BAL_DONE0 (R162). -/
def BAL_DONE0 : Nat := 0x04001C
def BAL_DONE0_CELL : Fld := ⟨0x04001C, 0, 32⟩
/-- BAL_DONE1 (R162). -/
def BAL_DONE1 : Nat := 0x040020
def BAL_DONE1_CELL : Fld := ⟨0x040020, 0, 16⟩
/-- BAL_OC0 (R162). -/
def BAL_OC0 : Nat := 0x040024
def BAL_OC0_CELL : Fld := ⟨0x040024, 0, 32⟩
/-- BAL_OC1 (R162). -/
def BAL_OC1 : Nat := 0x040028
def BAL_OC1_CELL : Fld := ⟨0x040028, 0, 16⟩
/-- BAL_SWO0 (R162). -/
def BAL_SWO0 : Nat := 0x04002C
def BAL_SWO0_CELL : Fld := ⟨0x04002C, 0, 32⟩
/-- BAL_SWO1 (R162). -/
def BAL_SWO1 : Nat := 0x040030
def BAL_SWO1_CELL : Fld := ⟨0x040030, 0, 16⟩
/-- BAL_SWS0 (R162). -/
def BAL_SWS0 : Nat := 0x040034
def BAL_SWS0_CELL : Fld := ⟨0x040034, 0, 32⟩
/-- BAL_SWS1 (R162). -/
def BAL_SWS1 : Nat := 0x040038
def BAL_SWS1_CELL : Fld := ⟨0x040038, 0, 16⟩
/-- BAL_TMR (R162). -/
def BAL_TMR (n : Nat) : Nat := 0x040100 + 4 * (n - 1)
def BAL_TMR_HELD (n : Nat) : Fld := ⟨0x040100 + 4 * (n - 1), 17, 1⟩
def BAL_TMR_REQ (n : Nat) : Fld := ⟨0x040100 + 4 * (n - 1), 16, 1⟩
def BAL_TMR_TIME (n : Nat) : Fld := ⟨0x040100 + 4 * (n - 1), 0, 16⟩

/-! Block 0x05_0000 -/
/-- EXC_CTRL (R164). -/
def EXC_CTRL : Nat := 0x050000
def EXC_CTRL_GO : Fld := ⟨0x050000, 31, 1⟩
def EXC_CTRL_STOP : Fld := ⟨0x050000, 30, 1⟩
def EXC_CTRL_BALBIAS : Fld := ⟨0x050000, 16, 8⟩
def EXC_CTRL_BIAS : Fld := ⟨0x050000, 8, 8⟩
def EXC_CTRL_CARRIER : Fld := ⟨0x050000, 4, 2⟩
def EXC_CTRL_SHAPE : Fld := ⟨0x050000, 0, 2⟩
/-- EXC_STAT (R164). -/
def EXC_STAT : Nat := 0x050004
def EXC_STAT_NACT : Fld := ⟨0x050004, 8, 4⟩
def EXC_STAT_STOPCAUSE : Fld := ⟨0x050004, 4, 4⟩
def EXC_STAT_SAT : Fld := ⟨0x050004, 2, 1⟩
def EXC_STAT_PEND : Fld := ⟨0x050004, 1, 1⟩
def EXC_STAT_RUN : Fld := ⟨0x050004, 0, 1⟩
/-- EXC_SEL0 (R164). -/
def EXC_SEL0 : Nat := 0x050008
def EXC_SEL0_CELL : Fld := ⟨0x050008, 0, 32⟩
/-- EXC_SEL1 (R164). -/
def EXC_SEL1 : Nat := 0x05000C
def EXC_SEL1_CELL : Fld := ⟨0x05000C, 0, 16⟩
/-- EXC_AMP (R164). -/
def EXC_AMP : Nat := 0x050010
def EXC_AMP_A : Fld := ⟨0x050010, 0, 8⟩
/-- EXC_PRBS (R164). -/
def EXC_PRBS : Nat := 0x050014
def EXC_PRBS_CHIPM1 : Fld := ⟨0x050014, 16, 16⟩
def EXC_PRBS_ORDER : Fld := ⟨0x050014, 0, 4⟩
/-- EXC_START (R164). -/
def EXC_START : Nat := 0x050018
def EXC_START_EPOCH : Fld := ⟨0x050018, 0, 32⟩
/-- EXC_FRZ0 (R164). -/
def EXC_FRZ0 : Nat := 0x05001C
def EXC_FRZ0_CELL : Fld := ⟨0x05001C, 0, 32⟩
/-- EXC_FRZ1 (R164). -/
def EXC_FRZ1 : Nat := 0x050020
def EXC_FRZ1_CELL : Fld := ⟨0x050020, 0, 16⟩
/-- EXC_TONE (R164). -/
def EXC_TONE (k : Nat) : Nat := 0x050040 + 4 * k
def EXC_TONE_EN (k : Nat) : Fld := ⟨0x050040 + 4 * k, 31, 1⟩
def EXC_TONE_IDX (k : Nat) : Fld := ⟨0x050040 + 4 * k, 16, 7⟩
def EXC_TONE_AMP (k : Nat) : Fld := ⟨0x050040 + 4 * k, 8, 8⟩
def EXC_TONE_PH (k : Nat) : Fld := ⟨0x050040 + 4 * k, 0, 8⟩
/-- EXC_ION (R164). -/
def EXC_ION (k : Nat) : Nat := 0x050080 + 4 * k
def EXC_ION_CELL (k : Nat) : Fld := ⟨0x050080 + 4 * k, 26, 6⟩
def EXC_ION_M (k : Nat) : Fld := ⟨0x050080 + 4 * k, 16, 10⟩
def EXC_ION_ION (k : Nat) : Fld := ⟨0x050080 + 4 * k, 0, 16⟩

/-! Block 0x06_0000 -/
/-- PRF_CTRL (R198). -/
def PRF_CTRL : Nat := 0x060000
def PRF_CTRL_CLR : Fld := ⟨0x060000, 31, 1⟩
def PRF_CTRL_NCOH : Fld := ⟨0x060000, 8, 4⟩
def PRF_CTRL_LATE : Fld := ⟨0x060000, 4, 4⟩
def PRF_CTRL_XMODE : Fld := ⟨0x060000, 1, 2⟩
def PRF_CTRL_EN : Fld := ⟨0x060000, 0, 1⟩
/-- PRF_STAT (R198). -/
def PRF_STAT : Nat := 0x060004
def PRF_STAT_IMAX : Fld := ⟨0x060004, 8, 7⟩
def PRF_STAT_RDIV : Fld := ⟨0x060004, 4, 2⟩
def PRF_STAT_NOKRN : Fld := ⟨0x060004, 3, 1⟩
def PRF_STAT_XACT : Fld := ⟨0x060004, 2, 1⟩
def PRF_STAT_NOSRC : Fld := ⟨0x060004, 1, 1⟩
def PRF_STAT_RUN : Fld := ⟨0x060004, 0, 1⟩
/-- PRF_CELL0 (R198). -/
def PRF_CELL0 : Nat := 0x060008
def PRF_CELL0_CELL : Fld := ⟨0x060008, 0, 32⟩
/-- PRF_CELL1 (R198). -/
def PRF_CELL1 : Nat := 0x06000C
def PRF_CELL1_CELL : Fld := ⟨0x06000C, 0, 16⟩
/-- PRF_PTS0 (R198). -/
def PRF_PTS0 : Nat := 0x060010
def PRF_PTS0_PT : Fld := ⟨0x060010, 0, 32⟩
/-- PRF_PTS1 (R198). -/
def PRF_PTS1 : Nat := 0x060014
def PRF_PTS1_PT : Fld := ⟨0x060014, 0, 32⟩
/-- PRF_PTS2 (R198). -/
def PRF_PTS2 : Nat := 0x060018
def PRF_PTS2_PT : Fld := ⟨0x060018, 0, 7⟩
/-- PRF_ISRC (R199). -/
def PRF_ISRC : Nat := 0x06001C
def PRF_ISRC_STN : Fld := ⟨0x06001C, 16, 12⟩
def PRF_ISRC_NEG : Fld := ⟨0x06001C, 4, 1⟩
def PRF_ISRC_AXM : Fld := ⟨0x06001C, 2, 2⟩
def PRF_ISRC_SRC : Fld := ⟨0x06001C, 0, 2⟩
/-- PRF_ISCALE (R199). -/
def PRF_ISCALE : Nat := 0x060020
def PRF_ISCALE_SCALE : Fld := ⟨0x060020, 0, 24⟩
/-- PRF_THR (R199). -/
def PRF_THR : Nat := 0x060024
def PRF_THR_EXMIN : Fld := ⟨0x060024, 16, 16⟩
def PRF_THR_COHMIN : Fld := ⟨0x060024, 0, 16⟩
/-- PRF_JTHR (R199). -/
def PRF_JTHR : Nat := 0x060028
def PRF_JTHR_JL : Fld := ⟨0x060028, 16, 16⟩
def PRF_JTHR_JR : Fld := ⟨0x060028, 0, 16⟩
/-- PRF_DISC (R199). -/
def PRF_DISC : Nat := 0x06002C
def PRF_DISC_GAP : Fld := ⟨0x06002C, 24, 8⟩
def PRF_DISC_NOEX : Fld := ⟨0x06002C, 16, 8⟩
def PRF_DISC_SWCH : Fld := ⟨0x06002C, 8, 8⟩
def PRF_DISC_EXCL : Fld := ⟨0x06002C, 0, 8⟩
/-- PRF_DER_W0 (R200). -/
def PRF_DER_W0 (n : Nat) : Nat := 0x061000 + 16 * (n - 1)
def PRF_DER_W0_F0 (n : Nat) : Fld := ⟨0x061000 + 16 * (n - 1), 0, 32⟩
/-- PRF_DER_W1 (R200). -/
def PRF_DER_W1 (n : Nat) : Nat := 0x061004 + 16 * (n - 1)
def PRF_DER_W1_HFR (n : Nat) : Fld := ⟨0x061004 + 16 * (n - 1), 0, 32⟩
/-- PRF_DER_W2 (R200). -/
def PRF_DER_W2 (n : Nat) : Nat := 0x061008 + 16 * (n - 1)
def PRF_DER_W2_TINT (n : Nat) : Fld := ⟨0x061008 + 16 * (n - 1), 16, 16⟩
def PRF_DER_W2_JR (n : Nat) : Fld := ⟨0x061008 + 16 * (n - 1), 0, 16⟩
/-- PRF_DER_W3 (R200). -/
def PRF_DER_W3 (n : Nat) : Nat := 0x06100C + 16 * (n - 1)
def PRF_DER_W3_JL (n : Nat) : Fld := ⟨0x06100C + 16 * (n - 1), 16, 16⟩
def PRF_DER_W3_FLAGS (n : Nat) : Fld := ⟨0x06100C + 16 * (n - 1), 0, 4⟩
/-- PRF_TCALA (R200). -/
def PRF_TCALA (n : Nat) : Nat := 0x061400 + 8 * (n - 1)
def PRF_TCALA_A1 (n : Nat) : Fld := ⟨0x061400 + 8 * (n - 1), 16, 16⟩
def PRF_TCALA_A0 (n : Nat) : Fld := ⟨0x061400 + 8 * (n - 1), 0, 16⟩
/-- PRF_TCALB (R200). -/
def PRF_TCALB (n : Nat) : Nat := 0x061404 + 8 * (n - 1)
def PRF_TCALB_EN (n : Nat) : Fld := ⟨0x061404 + 8 * (n - 1), 31, 1⟩
def PRF_TCALB_A2 (n : Nat) : Fld := ⟨0x061404 + 8 * (n - 1), 0, 16⟩
/-- PRF_REC_W0 (R200). -/
def PRF_REC_W0 (n : Nat) (i : Nat) : Nat := 0x062000 + 1136 * (n - 1) + 16 * i
def PRF_REC_W0_REAL (n : Nat) (i : Nat) : Fld := ⟨0x062000 + 1136 * (n - 1) + 16 * i, 0, 32⟩
/-- PRF_REC_W1 (R200). -/
def PRF_REC_W1 (n : Nat) (i : Nat) : Nat := 0x062004 + 1136 * (n - 1) + 16 * i
def PRF_REC_W1_IMAG (n : Nat) (i : Nat) : Fld := ⟨0x062004 + 1136 * (n - 1) + 16 * i, 0, 32⟩
/-- PRF_REC_W2 (R200). -/
def PRF_REC_W2 (n : Nat) (i : Nat) : Nat := 0x062008 + 1136 * (n - 1) + 16 * i
def PRF_REC_W2_ERMS (n : Nat) (i : Nat) : Fld := ⟨0x062008 + 1136 * (n - 1) + 16 * i, 16, 16⟩
def PRF_REC_W2_COHER (n : Nat) (i : Nat) : Fld := ⟨0x062008 + 1136 * (n - 1) + 16 * i, 0, 16⟩
/-- PRF_REC_W3 (R200). -/
def PRF_REC_W3 (n : Nat) (i : Nat) : Nat := 0x06200C + 1136 * (n - 1) + 16 * i
def PRF_REC_W3_FLAGS (n : Nat) (i : Nat) : Fld := ⟨0x06200C + 1136 * (n - 1) + 16 * i, 24, 8⟩
def PRF_REC_W3_EPOCH (n : Nat) (i : Nat) : Fld := ⟨0x06200C + 1136 * (n - 1) + 16 * i, 0, 24⟩

/-! Block 0x07_0000 -/
/-- EST_CTRL (R222). -/
def EST_CTRL : Nat := 0x070000
def EST_CTRL_SAVE : Fld := ⟨0x070000, 31, 1⟩
def EST_CTRL_PLINK : Fld := ⟨0x070000, 3, 1⟩
def EST_CTRL_TTHR : Fld := ⟨0x070000, 2, 1⟩
def EST_CTRL_TWRN : Fld := ⟨0x070000, 1, 1⟩
def EST_CTRL_EN : Fld := ⟨0x070000, 0, 1⟩
/-- EST_STAT (R222). -/
def EST_STAT : Nat := 0x070004
def EST_STAT_NCONV : Fld := ⟨0x070004, 16, 8⟩
def EST_STAT_STEPDIV : Fld := ⟨0x070004, 8, 4⟩
def EST_STAT_SNAPOK : Fld := ⟨0x070004, 3, 1⟩
def EST_STAT_NOSRC : Fld := ⟨0x070004, 2, 1⟩
def EST_STAT_NOKRN : Fld := ⟨0x070004, 1, 1⟩
def EST_STAT_RUN : Fld := ⟨0x070004, 0, 1⟩
/-- EST_CELL0 (R222). -/
def EST_CELL0 : Nat := 0x070008
def EST_CELL0_CELL : Fld := ⟨0x070008, 0, 32⟩
/-- EST_CELL1 (R222). -/
def EST_CELL1 : Nat := 0x07000C
def EST_CELL1_CELL : Fld := ⟨0x07000C, 0, 16⟩
/-- EST_ISRC (R199). -/
def EST_ISRC : Nat := 0x070010
def EST_ISRC_STN : Fld := ⟨0x070010, 16, 12⟩
def EST_ISRC_NEG : Fld := ⟨0x070010, 4, 1⟩
def EST_ISRC_AXM : Fld := ⟨0x070010, 2, 2⟩
def EST_ISRC_SRC : Fld := ⟨0x070010, 0, 2⟩
/-- EST_ISCALE (R199). -/
def EST_ISCALE : Nat := 0x070014
def EST_ISCALE_SCALE : Fld := ⟨0x070014, 0, 24⟩
/-- EST_TLIM (R222). -/
def EST_TLIM : Nat := 0x070018
def EST_TLIM_THROT : Fld := ⟨0x070018, 16, 16⟩
def EST_TLIM_WARN : Fld := ⟨0x070018, 0, 16⟩
/-- EST_LIM2 (R222). -/
def EST_LIM2 : Nat := 0x07001C
def EST_LIM2_HYS : Fld := ⟨0x07001C, 16, 8⟩
def EST_LIM2_MSTHR : Fld := ⟨0x07001C, 8, 8⟩
def EST_LIM2_PLTHR : Fld := ⟨0x07001C, 0, 8⟩
/-- EST_BLEED (R222). -/
def EST_BLEED : Nat := 0x070020
def EST_BLEED_RBP : Fld := ⟨0x070020, 0, 16⟩
/-- EST_SUM (R222). -/
def EST_SUM : Nat := 0x070024
def EST_SUM_SUM : Fld := ⟨0x070024, 0, 16⟩
/-- EST_SNAP (R222). -/
def EST_SNAP : Nat := 0x070028
def EST_SNAP_AGE : Fld := ⟨0x070028, 16, 16⟩
def EST_SNAP_SEQ : Fld := ⟨0x070028, 0, 16⟩
/-- EST_CELLCFG (R222). -/
def EST_CELLCFG (n : Nat) : Nat := 0x070100 + 4 * (n - 1)
def EST_CELLCFG_TYPE (n : Nat) : Fld := ⟨0x070100 + 4 * (n - 1), 16, 2⟩
def EST_CELLCFG_TSB (n : Nat) : Fld := ⟨0x070100 + 4 * (n - 1), 8, 5⟩
def EST_CELLCFG_TSA (n : Nat) : Fld := ⟨0x070100 + 4 * (n - 1), 0, 5⟩
/-- EST_STATE_W0 (R222). -/
def EST_STATE_W0 (n : Nat) : Nat := 0x071000 + 16 * (n - 1)
def EST_STATE_W0_CAPR (n : Nat) : Fld := ⟨0x071000 + 16 * (n - 1), 16, 16⟩
def EST_STATE_W0_SOC (n : Nat) : Fld := ⟨0x071000 + 16 * (n - 1), 0, 16⟩
/-- EST_STATE_W1 (R222). -/
def EST_STATE_W1 (n : Nat) : Nat := 0x071004 + 16 * (n - 1)
def EST_STATE_W1_TFUS (n : Nat) : Fld := ⟨0x071004 + 16 * (n - 1), 16, 16⟩
def EST_STATE_W1_RGR (n : Nat) : Fld := ⟨0x071004 + 16 * (n - 1), 0, 16⟩
/-- EST_STATE_W2 (R222). -/
def EST_STATE_W2 (n : Nat) : Nat := 0x071008 + 16 * (n - 1)
def EST_STATE_W2_MSS (n : Nat) : Fld := ⟨0x071008 + 16 * (n - 1), 24, 8⟩
def EST_STATE_W2_TSD (n : Nat) : Fld := ⟨0x071008 + 16 * (n - 1), 16, 8⟩
def EST_STATE_W2_CAPSD (n : Nat) : Fld := ⟨0x071008 + 16 * (n - 1), 8, 8⟩
def EST_STATE_W2_SOCSD (n : Nat) : Fld := ⟨0x071008 + 16 * (n - 1), 0, 8⟩
/-- EST_STATE_W3 (R222). -/
def EST_STATE_W3 (n : Nat) : Nat := 0x07100C + 16 * (n - 1)
def EST_STATE_W3_FLAGS (n : Nat) : Fld := ⟨0x07100C + 16 * (n - 1), 24, 8⟩
def EST_STATE_W3_CONV (n : Nat) : Fld := ⟨0x07100C + 16 * (n - 1), 22, 2⟩
def EST_STATE_W3_CELL (n : Nat) : Fld := ⟨0x07100C + 16 * (n - 1), 16, 6⟩
def EST_STATE_W3_PIDX (n : Nat) : Fld := ⟨0x07100C + 16 * (n - 1), 0, 16⟩

/-! Block 0x08_0000 -/
/-- ENG_STAT (R270). -/
def ENG_STAT : Nat := 0x080000
def ENG_STAT_SPARE : Fld := ⟨0x080000, 24, 6⟩
def ENG_STAT_NRET : Fld := ⟨0x080000, 16, 6⟩
def ENG_STAT_NRUN : Fld := ⟨0x080000, 8, 6⟩
def ENG_STAT_NFIT : Fld := ⟨0x080000, 0, 6⟩
/-- ENG_RETIRED (R270). -/
def ENG_RETIRED : Nat := 0x080004
def ENG_RETIRED_RET : Fld := ⟨0x080004, 0, 32⟩
/-- ENG_EXCSUM (R270). -/
def ENG_EXCSUM : Nat := 0x080008
def ENG_EXCSUM_EXC : Fld := ⟨0x080008, 0, 32⟩
/-- ENG_PLCTL (R271). -/
def ENG_PLCTL (p : Nat) : Nat := 0x081000 + 64 * p
def ENG_PLCTL_RST (p : Nat) : Fld := ⟨0x081000 + 64 * p, 31, 1⟩
def ENG_PLCTL_HALT (p : Nat) : Fld := ⟨0x081000 + 64 * p, 30, 1⟩
def ENG_PLCTL_RESUME (p : Nat) : Fld := ⟨0x081000 + 64 * p, 29, 1⟩
def ENG_PLCTL_ECCCLR (p : Nat) : Fld := ⟨0x081000 + 64 * p, 28, 1⟩
def ENG_PLCTL_CLKREQ (p : Nat) : Fld := ⟨0x081000 + 64 * p, 0, 2⟩
/-- ENG_PLSTAT (R271). -/
def ENG_PLSTAT (p : Nat) : Nat := 0x081004 + 64 * p
def ENG_PLSTAT_STATE (p : Nat) : Fld := ⟨0x081004 + 64 * p, 29, 3⟩
def ENG_PLSTAT_PARCEL (p : Nat) : Fld := ⟨0x081004 + 64 * p, 24, 3⟩
def ENG_PLSTAT_SLOT (p : Nat) : Fld := ⟨0x081004 + 64 * p, 16, 5⟩
def ENG_PLSTAT_CLK (p : Nat) : Fld := ⟨0x081004 + 64 * p, 12, 2⟩
def ENG_PLSTAT_THROT (p : Nat) : Fld := ⟨0x081004 + 64 * p, 11, 1⟩
def ENG_PLSTAT_NRUN (p : Nat) : Fld := ⟨0x081004 + 64 * p, 0, 6⟩
/-- ENG_PLFLT (R271). -/
def ENG_PLFLT (p : Nat) : Nat := 0x081008 + 64 * p
def ENG_PLFLT_THSD (p : Nat) : Fld := ⟨0x081008 + 64 * p, 4, 1⟩
def ENG_PLFLT_STALL (p : Nat) : Fld := ⟨0x081008 + 64 * p, 3, 1⟩
def ENG_PLFLT_DMAE (p : Nat) : Fld := ⟨0x081008 + 64 * p, 2, 1⟩
def ENG_PLFLT_ECCU (p : Nat) : Fld := ⟨0x081008 + 64 * p, 1, 1⟩
def ENG_PLFLT_EXC (p : Nat) : Fld := ⟨0x081008 + 64 * p, 0, 1⟩
/-- ENG_PLKID (R271). -/
def ENG_PLKID (p : Nat) : Nat := 0x08100C + 64 * p
def ENG_PLKID_KID (p : Nat) : Fld := ⟨0x08100C + 64 * p, 0, 32⟩
/-- ENG_PLKVER (R271). -/
def ENG_PLKVER (p : Nat) : Nat := 0x081010 + 64 * p
def ENG_PLKVER_KVER (p : Nat) : Fld := ⟨0x081010 + 64 * p, 0, 32⟩
/-- ENG_PLRUN (R271). -/
def ENG_PLRUN (p : Nat) : Nat := 0x081014 + 64 * p
def ENG_PLRUN_ENG (p : Nat) : Fld := ⟨0x081014 + 64 * p, 0, 32⟩
/-- ENG_PLEXC (R271). -/
def ENG_PLEXC (p : Nat) : Nat := 0x081018 + 64 * p
def ENG_PLEXC_ENG (p : Nat) : Fld := ⟨0x081018 + 64 * p, 0, 32⟩
/-- ENG_PLECC (R271). -/
def ENG_PLECC (p : Nat) : Nat := 0x08101C + 64 * p
def ENG_PLECC_UNCOR (p : Nat) : Fld := ⟨0x08101C + 64 * p, 16, 16⟩
def ENG_PLECC_COR (p : Nat) : Fld := ⟨0x08101C + 64 * p, 0, 16⟩
/-- ENG_PLDMA (R271). -/
def ENG_PLDMA (p : Nat) : Nat := 0x081020 + 64 * p
def ENG_PLDMA_ERR (p : Nat) : Fld := ⟨0x081020 + 64 * p, 16, 8⟩
def ENG_PLDMA_QUEUED (p : Nat) : Fld := ⟨0x081020 + 64 * p, 0, 5⟩
/-- ENG_EXR_W0 (R272). -/
def ENG_EXR_W0 (x : Nat) : Nat := 0x084000 + 16 * x
def ENG_EXR_W0_CAUSE (x : Nat) : Fld := ⟨0x084000 + 16 * x, 24, 8⟩
def ENG_EXR_W0_MORE (x : Nat) : Fld := ⟨0x084000 + 16 * x, 16, 8⟩
def ENG_EXR_W0_PC (x : Nat) : Fld := ⟨0x084000 + 16 * x, 0, 10⟩
/-- ENG_EXR_W1 (R272). -/
def ENG_EXR_W1 (x : Nat) : Nat := 0x084004 + 16 * x
def ENG_EXR_W1_ADDR (x : Nat) : Fld := ⟨0x084004 + 16 * x, 0, 32⟩
/-- ENG_EXR_W2 (R272). -/
def ENG_EXR_W2 (x : Nat) : Nat := 0x084008 + 16 * x
def ENG_EXR_W2_EPOCH (x : Nat) : Fld := ⟨0x084008 + 16 * x, 0, 32⟩
/-- ENG_EXR_W3 (R272). -/
def ENG_EXR_W3 (x : Nat) : Nat := 0x08400C + 16 * x
def ENG_EXR_W3_INSTR (x : Nat) : Fld := ⟨0x08400C + 16 * x, 0, 32⟩

/-! Block 0x0A_0000 -/
/-- FAB_STAT (R296). -/
def FAB_STAT : Nat := 0x0A0000
def FAB_STAT_NLFAIL : Fld := ⟨0x0A0000, 16, 6⟩
def FAB_STAT_SLOAD : Fld := ⟨0x0A0000, 8, 8⟩
def FAB_STAT_CAPLOW : Fld := ⟨0x0A0000, 0, 1⟩
/-- FAB_LFAIL0 (R296). -/
def FAB_LFAIL0 : Nat := 0x0A0004
def FAB_LFAIL0_LINK : Fld := ⟨0x0A0004, 0, 32⟩
/-- FAB_LFAIL1 (R296). -/
def FAB_LFAIL1 : Nat := 0x0A0008
def FAB_LFAIL1_LINK : Fld := ⟨0x0A0008, 0, 20⟩
/-- FAB_SCLOSS (R296). -/
def FAB_SCLOSS : Nat := 0x0A000C
def FAB_SCLOSS_CLR : Fld := ⟨0x0A000C, 31, 1⟩
def FAB_SCLOSS_PLOT : Fld := ⟨0x0A000C, 21, 5⟩
def FAB_SCLOSS_ENG : Fld := ⟨0x0A000C, 16, 5⟩
def FAB_SCLOSS_COUNT : Fld := ⟨0x0A000C, 0, 16⟩
/-- FAB_PRES (R296). -/
def FAB_PRES (q : Nat) : Nat := 0x0A0100 + 32 * q
def FAB_PRES_DRES (q : Nat) : Fld := ⟨0x0A0100 + 32 * q, 22, 10⟩
def FAB_PRES_BRES (q : Nat) : Fld := ⟨0x0A0100 + 32 * q, 11, 11⟩
def FAB_PRES_MRES (q : Nat) : Fld := ⟨0x0A0100 + 32 * q, 0, 11⟩
/-- FAB_PUSE (R296). -/
def FAB_PUSE (q : Nat) : Nat := 0x0A0104 + 32 * q
def FAB_PUSE_DUSE (q : Nat) : Fld := ⟨0x0A0104 + 32 * q, 22, 10⟩
def FAB_PUSE_BUSE (q : Nat) : Fld := ⟨0x0A0104 + 32 * q, 11, 11⟩
def FAB_PUSE_MUSE (q : Nat) : Fld := ⟨0x0A0104 + 32 * q, 0, 11⟩
/-- FAB_PDEC (R296). -/
def FAB_PDEC (q : Nat) : Nat := 0x0A0108 + 32 * q
def FAB_PDEC_DROPS (q : Nat) : Fld := ⟨0x0A0108 + 32 * q, 16, 16⟩
def FAB_PDEC_CLR (q : Nat) : Fld := ⟨0x0A0108 + 32 * q, 15, 1⟩
def FAB_PDEC_QMAX (q : Nat) : Fld := ⟨0x0A0108 + 32 * q, 0, 4⟩
/-- FAB_PSUB (R296). -/
def FAB_PSUB (q : Nat) : Nat := 0x0A010C + 32 * q
def FAB_PSUB_EN (q : Nat) : Fld := ⟨0x0A010C + 32 * q, 0, 32⟩
/-- FAB_PPUB (R296). -/
def FAB_PPUB (q : Nat) : Nat := 0x0A0110 + 32 * q
def FAB_PPUB_EN (q : Nat) : Fld := ⟨0x0A0110 + 32 * q, 0, 32⟩
/-- FAB_SUB (R280). -/
def FAB_SUB (q : Nat) (s : Nat) (w : Nat) : Nat := 0x0A1000 + 256 * q + 8 * s + 4 * w
def FAB_SUB_ENTRY (q : Nat) (s : Nat) (w : Nat) : Fld := ⟨0x0A1000 + 256 * q + 8 * s + 4 * w, 0, 32⟩
/-- FAB_PUB (R280). -/
def FAB_PUB (q : Nat) (s : Nat) (w : Nat) : Nat := 0x0A2000 + 256 * q + 8 * s + 4 * w
def FAB_PUB_ENTRY (q : Nat) (s : Nat) (w : Nat) : Fld := ⟨0x0A2000 + 256 * q + 8 * s + 4 * w, 0, 32⟩

/-! Block 0x0C_0000 -/
/-- CAD_STAT (R326). -/
def CAD_STAT : Nat := 0x0C0000
def CAD_STAT_NEASE : Fld := ⟨0x0C0000, 20, 5⟩
def CAD_STAT_FORMED : Fld := ⟨0x0C0000, 8, 8⟩
def CAD_STAT_SCRUB : Fld := ⟨0x0C0000, 4, 1⟩
def CAD_STAT_BUSY : Fld := ⟨0x0C0000, 3, 1⟩
def CAD_STAT_LOCKED : Fld := ⟨0x0C0000, 2, 1⟩
def CAD_STAT_FOUNDED : Fld := ⟨0x0C0000, 1, 1⟩
def CAD_STAT_RESTORED : Fld := ⟨0x0C0000, 0, 1⟩
/-- CAD_DEEDNO (R326). -/
def CAD_DEEDNO : Nat := 0x0C0004
def CAD_DEEDNO_COUNT : Fld := ⟨0x0C0004, 0, 32⟩
/-- CAD_LASTEP (R326). -/
def CAD_LASTEP : Nat := 0x0C0008
def CAD_LASTEP_EPOCH : Fld := ⟨0x0C0008, 0, 32⟩
/-- CAD_LASTRES (R326). -/
def CAD_LASTRES : Nat := 0x0C000C
def CAD_LASTRES_STATUS : Fld := ⟨0x0C000C, 24, 8⟩
def CAD_LASTRES_REASON : Fld := ⟨0x0C000C, 16, 8⟩
def CAD_LASTRES_ITEM : Fld := ⟨0x0C000C, 8, 8⟩
/-- CAD_HOLD_W0 (R326). -/
def CAD_HOLD_W0 (k : Nat) : Nat := 0x0C0040 + 32 * k
def CAD_HOLD_W0_ROLE (k : Nat) : Fld := ⟨0x0C0040 + 32 * k, 0, 2⟩
/-- CAD_HOLD_D (R326). -/
def CAD_HOLD_D (k : Nat) (w : Nat) : Nat := 0x0C0044 + 32 * k + 4 * w
def CAD_HOLD_D_DIGEST (k : Nat) (w : Nat) : Fld := ⟨0x0C0044 + 32 * k + 4 * w, 0, 32⟩
/-- CAD_SKEY (R326). -/
def CAD_SKEY (w : Nat) : Nat := 0x0C00C0 + 4 * w
def CAD_SKEY_KEY (w : Nat) : Fld := ⟨0x0C00C0 + 4 * w, 0, 32⟩
/-- CAD_PSTAT (R327). -/
def CAD_PSTAT (q : Nat) : Nat := 0x0C0100 + 64 * q
def CAD_PSTAT_FORMED (q : Nat) : Fld := ⟨0x0C0100 + 64 * q, 31, 1⟩
def CAD_PSTAT_KEYSET (q : Nat) : Fld := ⟨0x0C0100 + 64 * q, 30, 1⟩
def CAD_PSTAT_KEYGEN (q : Nat) : Fld := ⟨0x0C0100 + 64 * q, 16, 8⟩
def CAD_PSTAT_NPLACED (q : Nat) : Fld := ⟨0x0C0100 + 64 * q, 8, 6⟩
def CAD_PSTAT_NSLOT (q : Nat) : Fld := ⟨0x0C0100 + 64 * q, 0, 6⟩
/-- CAD_PPERM0 (R327). -/
def CAD_PPERM0 (q : Nat) : Nat := 0x0C0104 + 64 * q
def CAD_PPERM0_CHAN (q : Nat) : Fld := ⟨0x0C0104 + 64 * q, 0, 32⟩
/-- CAD_PPERM1 (R327). -/
def CAD_PPERM1 (q : Nat) : Nat := 0x0C0108 + 64 * q
def CAD_PPERM1_CHAN (q : Nat) : Fld := ⟨0x0C0108 + 64 * q, 0, 20⟩
/-- CAD_PFLAG (R327). -/
def CAD_PFLAG (q : Nat) : Nat := 0x0C010C + 64 * q
def CAD_PFLAG_GRANT (q : Nat) : Fld := ⟨0x0C010C + 64 * q, 0, 7⟩
/-- CAD_PCAP (R327). -/
def CAD_PCAP (q : Nat) : Nat := 0x0C0110 + 64 * q
def CAD_PCAP_CAPSZ (q : Nat) : Fld := ⟨0x0C0110 + 64 * q, 16, 11⟩
def CAD_PCAP_CAPBASE (q : Nat) : Fld := ⟨0x0C0110 + 64 * q, 0, 10⟩
/-- CAD_PNV (R327). -/
def CAD_PNV (q : Nat) : Nat := 0x0C0114 + 64 * q
def CAD_PNV_NVCNT (q : Nat) : Fld := ⟨0x0C0114 + 64 * q, 16, 9⟩
def CAD_PNV_NVBASE (q : Nat) : Fld := ⟨0x0C0114 + 64 * q, 0, 9⟩
/-- CAD_PTRV (R327). -/
def CAD_PTRV (q : Nat) : Nat := 0x0C0118 + 64 * q
def CAD_PTRV_TRES (q : Nat) : Fld := ⟨0x0C0118 + 64 * q, 0, 7⟩
/-- CAD_PSESS (R327). -/
def CAD_PSESS (q : Nat) : Nat := 0x0C011C + 64 * q
def CAD_PSESS_SESSION (q : Nat) : Fld := ⟨0x0C011C + 64 * q, 0, 32⟩
/-- CAD_PCNT (R327). -/
def CAD_PCNT (q : Nat) : Nat := 0x0C0120 + 64 * q
def CAD_PCNT_HI (q : Nat) : Fld := ⟨0x0C0120 + 64 * q, 0, 32⟩
/-- CAD_PAUTHF (R327). -/
def CAD_PAUTHF (q : Nat) : Nat := 0x0C0124 + 64 * q
def CAD_PAUTHF_CLR (q : Nat) : Fld := ⟨0x0C0124 + 64 * q, 31, 1⟩
def CAD_PAUTHF_COUNT (q : Nat) : Fld := ⟨0x0C0124 + 64 * q, 0, 16⟩
/-- CAD_EASE_W0 (R327). -/
def CAD_EASE_W0 (k : Nat) : Nat := 0x0C0400 + 16 * k
def CAD_EASE_W0_KIND (k : Nat) : Fld := ⟨0x0C0400 + 16 * k, 16, 2⟩
def CAD_EASE_W0_ENTRY (k : Nat) : Fld := ⟨0x0C0400 + 16 * k, 8, 5⟩
def CAD_EASE_W0_GRANTEE (k : Nat) : Fld := ⟨0x0C0400 + 16 * k, 4, 3⟩
def CAD_EASE_W0_GRANTOR (k : Nat) : Fld := ⟨0x0C0400 + 16 * k, 0, 3⟩
/-- CAD_EASE_W1 (R327). -/
def CAD_EASE_W1 (k : Nat) : Nat := 0x0C0404 + 16 * k
def CAD_EASE_W1_OFFSET (k : Nat) : Fld := ⟨0x0C0404 + 16 * k, 0, 32⟩
/-- CAD_EASE_W2 (R327). -/
def CAD_EASE_W2 (k : Nat) : Nat := 0x0C0408 + 16 * k
def CAD_EASE_W2_SIZE (k : Nat) : Fld := ⟨0x0C0408 + 16 * k, 0, 32⟩

/-! Block 0x10_0000 -/
/-- TRV_STAT (R359). -/
def TRV_STAT : Nat := 0x100000
def TRV_STAT_FIT : Fld := ⟨0x100000, 8, 4⟩
def TRV_STAT_DEG : Fld := ⟨0x100000, 4, 4⟩
def TRV_STAT_RUN : Fld := ⟨0x100000, 0, 4⟩
/-- TRV_PCTL (R359). -/
def TRV_PCTL (p : Nat) : Nat := 0x100100 + 64 * p
def TRV_PCTL_RETRAIN (p : Nat) : Fld := ⟨0x100100 + 64 * p, 31, 1⟩
def TRV_PCTL_CNTCLR (p : Nat) : Fld := ⟨0x100100 + 64 * p, 30, 1⟩
def TRV_PCTL_EN (p : Nat) : Fld := ⟨0x100100 + 64 * p, 8, 1⟩
def TRV_PCTL_RATEMAX (p : Nat) : Fld := ⟨0x100100 + 64 * p, 6, 2⟩
def TRV_PCTL_LANEEN (p : Nat) : Fld := ⟨0x100100 + 64 * p, 4, 2⟩
def TRV_PCTL_MODE (p : Nat) : Fld := ⟨0x100100 + 64 * p, 0, 2⟩
/-- TRV_PSTAT (R359). -/
def TRV_PSTAT (p : Nat) : Nat := 0x100104 + 64 * p
def TRV_PSTAT_STATE (p : Nat) : Fld := ⟨0x100104 + 64 * p, 29, 3⟩
def TRV_PSTAT_RATE (p : Nat) : Fld := ⟨0x100104 + 64 * p, 24, 2⟩
def TRV_PSTAT_TXL (p : Nat) : Fld := ⟨0x100104 + 64 * p, 20, 2⟩
def TRV_PSTAT_RXL (p : Nat) : Fld := ⟨0x100104 + 64 * p, 16, 2⟩
def TRV_PSTAT_LOCK (p : Nat) : Fld := ⟨0x100104 + 64 * p, 8, 2⟩
def TRV_PSTAT_TRFAIL (p : Nat) : Fld := ⟨0x100104 + 64 * p, 1, 1⟩
def TRV_PSTAT_FAR (p : Nat) : Fld := ⟨0x100104 + 64 * p, 0, 1⟩
/-- TRV_PERR (R359). -/
def TRV_PERR (p : Nat) : Nat := 0x100108 + 64 * p
def TRV_PERR_LIMIT (p : Nat) : Fld := ⟨0x100108 + 64 * p, 24, 8⟩
def TRV_PERR_LEAK (p : Nat) : Fld := ⟨0x100108 + 64 * p, 16, 8⟩
def TRV_PERR_COUNT (p : Nat) : Fld := ⟨0x100108 + 64 * p, 0, 8⟩
/-- TRV_PFRM (R359). -/
def TRV_PFRM (p : Nat) : Nat := 0x10010C + 64 * p
def TRV_PFRM_CRCF (p : Nat) : Fld := ⟨0x10010C + 64 * p, 16, 16⟩
def TRV_PFRM_ABRX (p : Nat) : Fld := ⟨0x10010C + 64 * p, 0, 16⟩
/-- TRV_PLOC (R359). -/
def TRV_PLOC (p : Nat) : Nat := 0x100110 + 64 * p
def TRV_PLOC_ABLOC (p : Nat) : Fld := ⟨0x100110 + 64 * p, 16, 16⟩
def TRV_PLOC_DROP (p : Nat) : Fld := ⟨0x100110 + 64 * p, 0, 16⟩
/-- TRV_PDUP (R359). -/
def TRV_PDUP (p : Nat) : Nat := 0x100114 + 64 * p
def TRV_PDUP_DUP (p : Nat) : Fld := ⟨0x100114 + 64 * p, 0, 32⟩
/-- TRV_PLANE (R359). -/
def TRV_PLANE (p : Nat) (l : Nat) : Nat := 0x100118 + 64 * p + 4 * l
def TRV_PLANE_HDRERR (p : Nat) (l : Nat) : Fld := ⟨0x100118 + 64 * p + 4 * l, 16, 16⟩
def TRV_PLANE_TYPERR (p : Nat) (l : Nat) : Fld := ⟨0x100118 + 64 * p + 4 * l, 8, 8⟩
def TRV_PLANE_LOCKLOSS (p : Nat) (l : Nat) : Fld := ⟨0x100118 + 64 * p + 4 * l, 0, 8⟩
/-- TRV_PQUAR (R359). -/
def TRV_PQUAR (p : Nat) : Nat := 0x100120 + 64 * p
def TRV_PQUAR_QTOTAL (p : Nat) : Fld := ⟨0x100120 + 64 * p, 16, 16⟩
def TRV_PQUAR_QRECENT (p : Nat) : Fld := ⟨0x100120 + 64 * p, 0, 8⟩

/-! Block 0x11_0000 -/
/-- NET_CTRL (R398). -/
def NET_CTRL : Nat := 0x110000
def NET_CTRL_REDISC : Fld := ⟨0x110000, 31, 1⟩
def NET_CTRL_SECOK : Fld := ⟨0x110000, 2, 1⟩
def NET_CTRL_TIE : Fld := ⟨0x110000, 1, 1⟩
def NET_CTRL_ROOT : Fld := ⟨0x110000, 0, 1⟩
/-- NET_STAT (R398). -/
def NET_STAT : Nat := 0x110004
def NET_STAT_DSTATE : Fld := ⟨0x110004, 29, 3⟩
def NET_STAT_WRAP : Fld := ⟨0x110004, 28, 1⟩
def NET_STAT_SPLIT : Fld := ⟨0x110004, 27, 1⟩
def NET_STAT_RCLOST : Fld := ⟨0x110004, 26, 1⟩
def NET_STAT_ORIG : Fld := ⟨0x110004, 25, 1⟩
def NET_STAT_TIEROLE : Fld := ⟨0x110004, 24, 1⟩
def NET_STAT_ADDR : Fld := ⟨0x110004, 0, 12⟩
/-- NET_SIZE (R398). -/
def NET_SIZE : Nat := 0x110008
def NET_SIZE_NTIE : Fld := ⟨0x110008, 24, 7⟩
def NET_SIZE_NTRAV : Fld := ⟨0x110008, 16, 7⟩
def NET_SIZE_N : Fld := ⟨0x110008, 0, 7⟩
/-- NET_ENDS (R398). -/
def NET_ENDS : Nat := 0x11000C
def NET_ENDS_VALID : Fld := ⟨0x11000C, 31, 1⟩
def NET_ENDS_ENDB : Fld := ⟨0x11000C, 16, 6⟩
def NET_ENDS_ENDA : Fld := ⟨0x11000C, 0, 6⟩
/-- NET_BBOUND (R398). -/
def NET_BBOUND : Nat := 0x110010
def NET_BBOUND_BANY : Fld := ⟨0x110010, 16, 16⟩
def NET_BBOUND_BTIE : Fld := ⟨0x110010, 0, 16⟩
/-- NET_DISC (R398). -/
def NET_DISC : Nat := 0x110014
def NET_DISC_RESTART : Fld := ⟨0x110014, 16, 16⟩
def NET_DISC_ADMIT : Fld := ⟨0x110014, 0, 16⟩
/-- NET_RCSTAT (R398). -/
def NET_RCSTAT : Nat := 0x110018
def NET_RCSTAT_NABS : Fld := ⟨0x110018, 16, 7⟩
def NET_RCSTAT_RCDIV : Fld := ⟨0x110018, 0, 2⟩
/-- NET_RCCYC (R398). -/
def NET_RCCYC : Nat := 0x11001C
def NET_RCCYC_CYCLE : Fld := ⟨0x11001C, 0, 32⟩
/-- NET_CREF (R398). -/
def NET_CREF : Nat := 0x110020
def NET_CREF_SENT : Fld := ⟨0x110020, 16, 16⟩
def NET_CREF_EN : Fld := ⟨0x110020, 0, 1⟩
/-- NET_RC (R398). -/
def NET_RC (p : Nat) (w : Nat) : Nat := 0x111000 + 16 * p + 4 * w
def NET_RC_ENTRY (p : Nat) (w : Nat) : Fld := ⟨0x111000 + 16 * p + 4 * w, 0, 32⟩

/-! Block 0x12_0000 -/
/-- DTM_CTRL (R400). -/
def DTM_CTRL : Nat := 0x120000
def DTM_CTRL_GMWAIT : Fld := ⟨0x120000, 8, 8⟩
def DTM_CTRL_PPSPOL : Fld := ⟨0x120000, 7, 1⟩
def DTM_CTRL_SRC : Fld := ⟨0x120000, 2, 2⟩
def DTM_CTRL_DSEL : Fld := ⟨0x120000, 0, 1⟩
/-- DTM_STAT (R400). -/
def DTM_STAT : Nat := 0x120004
def DTM_STAT_STATE : Fld := ⟨0x120004, 29, 3⟩
def DTM_STAT_COH : Fld := ⟨0x120004, 28, 1⟩
def DTM_STAT_TRACE : Fld := ⟨0x120004, 27, 1⟩
def DTM_STAT_UP : Fld := ⟨0x120004, 24, 3⟩
def DTM_STAT_U : Fld := ⟨0x120004, 16, 8⟩
def DTM_STAT_DEPTH : Fld := ⟨0x120004, 8, 7⟩
/-- DTM_NOWLO (R400). -/
def DTM_NOWLO : Nat := 0x120008
def DTM_NOWLO_NOW : Fld := ⟨0x120008, 0, 32⟩
/-- DTM_NOWHI (R400). -/
def DTM_NOWHI : Nat := 0x12000C
def DTM_NOWHI_NOW : Fld := ⟨0x12000C, 0, 32⟩
/-- DTM_OFS (R400). -/
def DTM_OFS : Nat := 0x120010
def DTM_OFS_OFS : Fld := ⟨0x120010, 0, 32⟩
/-- DTM_FREQ (R400). -/
def DTM_FREQ : Nat := 0x120014
def DTM_FREQ_FREQ : Fld := ⟨0x120014, 0, 32⟩
/-- DTM_SERVO (R400). -/
def DTM_SERVO : Nat := 0x120018
def DTM_SERVO_LOCKTHR : Fld := ⟨0x120018, 16, 8⟩
def DTM_SERVO_UNLK : Fld := ⟨0x120018, 8, 8⟩
def DTM_SERVO_BW : Fld := ⟨0x120018, 0, 8⟩
/-- DTM_HOLD (R400). -/
def DTM_HOLD : Nat := 0x12001C
def DTM_HOLD_RATE : Fld := ⟨0x12001C, 0, 16⟩
/-- DTM_TODLO (R400). -/
def DTM_TODLO : Nat := 0x120020
def DTM_TODLO_TOD : Fld := ⟨0x120020, 0, 32⟩
/-- DTM_TODHI (R400). -/
def DTM_TODHI : Nat := 0x120024
def DTM_TODHI_TOD : Fld := ⟨0x120024, 0, 32⟩
/-- DTM_EXT (R400). -/
def DTM_EXT : Nat := 0x120028
def DTM_EXT_EXT : Fld := ⟨0x120028, 0, 32⟩
/-- DTM_PTPCFG (R400). -/
def DTM_PTPCFG : Nat := 0x12002C
def DTM_PTPCFG_DOMAIN : Fld := ⟨0x12002C, 16, 8⟩
def DTM_PTPCFG_TC : Fld := ⟨0x12002C, 3, 1⟩
def DTM_PTPCFG_MASTER : Fld := ⟨0x12002C, 2, 1⟩
def DTM_PTPCFG_PORT : Fld := ⟨0x12002C, 0, 2⟩
/-- DTM_PTPCNT (R400). -/
def DTM_PTPCNT : Nat := 0x120030
def DTM_PTPCNT_RXMSG : Fld := ⟨0x120030, 16, 16⟩
def DTM_PTPCNT_DISC : Fld := ⟨0x120030, 0, 16⟩
/-- DTM_EVT (R400). -/
def DTM_EVT : Nat := 0x120034
def DTM_EVT_STEPS : Fld := ⟨0x120034, 24, 8⟩
def DTM_EVT_HOLDS : Fld := ⟨0x120034, 16, 8⟩
def DTM_EVT_UNLOCKS : Fld := ⟨0x120034, 8, 8⟩
/-- DTM_LINK (R400). -/
def DTM_LINK (p : Nat) : Nat := 0x120040 + 4 * p
def DTM_LINK_DELAY (p : Nat) : Fld := ⟨0x120040 + 4 * p, 0, 32⟩
/-- DTM_ASYM (R400). -/
def DTM_ASYM (p : Nat) : Nat := 0x120050 + 4 * p
def DTM_ASYM_ASYM (p : Nat) : Fld := ⟨0x120050 + 4 * p, 0, 16⟩

/-! Block 0x13_0000 -/
/-- HST_SPISTAT (R361). -/
def HST_SPISTAT : Nat := 0x130000
def HST_SPISTAT_NREPLY : Fld := ⟨0x130000, 16, 8⟩
def HST_SPISTAT_HEADLEN : Fld := ⟨0x130000, 4, 12⟩
def HST_SPISTAT_IRQ : Fld := ⟨0x130000, 2, 1⟩
def HST_SPISTAT_BUSY : Fld := ⟨0x130000, 1, 1⟩
/-- HST_SPICNT (R361). -/
def HST_SPICNT : Nat := 0x130004
def HST_SPICNT_CRCERR : Fld := ⟨0x130004, 16, 16⟩
def HST_SPICNT_OVF : Fld := ⟨0x130004, 0, 16⟩
/-- HST_ETHCFG (R361). -/
def HST_ETHCFG : Nat := 0x130010
def HST_ETHCFG_ETYPE : Fld := ⟨0x130010, 16, 16⟩
def HST_ETHCFG_BCAST : Fld := ⟨0x130010, 0, 1⟩
/-- HST_MACLO (R361). -/
def HST_MACLO : Nat := 0x130014
def HST_MACLO_MAC : Fld := ⟨0x130014, 0, 32⟩
/-- HST_MACHI (R361). -/
def HST_MACHI : Nat := 0x130018
def HST_MACHI_MAC : Fld := ⟨0x130018, 0, 16⟩
/-- HST_ETHCNT_W0 (R361). -/
def HST_ETHCNT_W0 (p : Nat) : Nat := 0x130100 + 16 * p
def HST_ETHCNT_W0_RXOK (p : Nat) : Fld := ⟨0x130100 + 16 * p, 0, 32⟩
/-- HST_ETHCNT_W1 (R361). -/
def HST_ETHCNT_W1 (p : Nat) : Nat := 0x130104 + 16 * p
def HST_ETHCNT_W1_FCSERR (p : Nat) : Fld := ⟨0x130104 + 16 * p, 16, 16⟩
def HST_ETHCNT_W1_DISC (p : Nat) : Fld := ⟨0x130104 + 16 * p, 0, 16⟩
/-- HST_ETHCNT_W2 (R361). -/
def HST_ETHCNT_W2 (p : Nat) : Nat := 0x130108 + 16 * p
def HST_ETHCNT_W2_TXOK (p : Nat) : Fld := ⟨0x130108 + 16 * p, 0, 32⟩

/-! Block 0x14_0000 -/
/-- SAF_STAT (R474). -/
def SAF_STAT : Nat := 0x140000
def SAF_STAT_STATE : Fld := ⟨0x140000, 29, 3⟩
def SAF_STAT_SRUN : Fld := ⟨0x140000, 28, 1⟩
def SAF_STAT_YRUN : Fld := ⟨0x140000, 27, 1⟩
def SAF_STAT_LOADED : Fld := ⟨0x140000, 26, 1⟩
def SAF_STAT_SCS1OK : Fld := ⟨0x140000, 25, 1⟩
def SAF_STAT_OPEN : Fld := ⟨0x140000, 24, 1⟩
def SAF_STAT_CONN : Fld := ⟨0x140000, 0, 3⟩
/-- SAF_CAUSE (R474). -/
def SAF_CAUSE : Nat := 0x140004
def SAF_CAUSE_CAUSE : Fld := ⟨0x140004, 24, 8⟩
def SAF_CAUSE_INDEX : Fld := ⟨0x140004, 20, 4⟩
def SAF_CAUSE_END : Fld := ⟨0x140004, 16, 4⟩
/-- SAF_CEPOCH (R474). -/
def SAF_CEPOCH : Nat := 0x140008
def SAF_CEPOCH_EPOCH : Fld := ⟨0x140008, 0, 32⟩
/-- SAF_OUT (R474). -/
def SAF_OUT : Nat := 0x14000C
def SAF_OUT_CRQREQ : Fld := ⟨0x14000C, 31, 1⟩
def SAF_OUT_DEM : Fld := ⟨0x14000C, 16, 6⟩
def SAF_OUT_ON : Fld := ⟨0x14000C, 0, 6⟩
/-- SAF_RBF (R474). -/
def SAF_RBF : Nat := 0x140010
def SAF_RBF_OPEN : Fld := ⟨0x140010, 16, 6⟩
def SAF_RBF_LOW : Fld := ⟨0x140010, 8, 6⟩
def SAF_RBF_STUCK : Fld := ⟨0x140010, 0, 6⟩
/-- SAF_OUTEN (R476). -/
def SAF_OUTEN : Nat := 0x140014
def SAF_OUTEN_PAIR2 : Fld := ⟨0x140014, 12, 3⟩
def SAF_OUTEN_PAIR1 : Fld := ⟨0x140014, 8, 3⟩
def SAF_OUTEN_EN : Fld := ⟨0x140014, 0, 6⟩
/-- SAF_OPT (R476). -/
def SAF_OPT : Nat := 0x140018
def SAF_OPT_OFFPER : Fld := ⟨0x140018, 16, 10⟩
def SAF_OPT_OFFPW : Fld := ⟨0x140018, 0, 9⟩
/-- SAF_CFG (R476). -/
def SAF_CFG : Nat := 0x14001C
def SAF_CFG_KACT : Fld := ⟨0x14001C, 18, 2⟩
def SAF_CFG_KTE : Fld := ⟨0x14001C, 10, 8⟩
def SAF_CFG_KEN : Fld := ⟨0x14001C, 9, 1⟩
def SAF_CFG_KPUB : Fld := ⟨0x14001C, 4, 5⟩
def SAF_CFG_DCONN : Fld := ⟨0x14001C, 1, 3⟩
def SAF_CFG_DSRC : Fld := ⟨0x14001C, 0, 1⟩
/-- SAF_ENV0 (R476). -/
def SAF_ENV0 : Nat := 0x140020
def SAF_ENV0_S1EN : Fld := ⟨0x140020, 31, 1⟩
def SAF_ENV0_AXM : Fld := ⟨0x140020, 28, 2⟩
def SAF_ENV0_TDLY : Fld := ⟨0x140020, 16, 10⟩
def SAF_ENV0_TRAMP : Fld := ⟨0x140020, 0, 13⟩
/-- SAF_ENV1 (R476). -/
def SAF_ENV1 : Nat := 0x140024
def SAF_ENV1_IMARG : Fld := ⟨0x140024, 16, 16⟩
def SAF_ENV1_IOPEN : Fld := ⟨0x140024, 0, 16⟩
/-- SAF_ENV2 (R476). -/
def SAF_ENV2 : Nat := 0x140028
def SAF_ENV2_TWIN : Fld := ⟨0x140028, 0, 14⟩
/-- SAF_CRQ (R476). -/
def SAF_CRQ : Nat := 0x14002C
def SAF_CRQ_POL : Fld := ⟨0x14002C, 1, 1⟩
def SAF_CRQ_FREQ : Fld := ⟨0x14002C, 0, 1⟩
/-- SAF_SI (R476). -/
def SAF_SI : Nat := 0x140030
def SAF_SI_PAIR : Fld := ⟨0x140030, 0, 32⟩
/-- SAF_SIDT0 (R476). -/
def SAF_SIDT0 : Nat := 0x140034
def SAF_SIDT0_DTHI : Fld := ⟨0x140034, 16, 9⟩
def SAF_SIDT0_DTLO : Fld := ⟨0x140034, 0, 9⟩
/-- SAF_SIDT1 (R476). -/
def SAF_SIDT1 : Nat := 0x140038
def SAF_SIDT1_DTHI : Fld := ⟨0x140038, 16, 9⟩
def SAF_SIDT1_DTLO : Fld := ⟨0x140038, 0, 9⟩
/-- SAF_TP (R476). -/
def SAF_TP : Nat := 0x14003C
def SAF_TP_TPP : Fld := ⟨0x14003C, 16, 10⟩
def SAF_TP_TPW : Fld := ⟨0x14003C, 0, 10⟩
/-- SAF_SISTAT (R474). -/
def SAF_SISTAT : Nat := 0x140040
def SAF_SISTAT_STATE : Fld := ⟨0x140040, 16, 16⟩
def SAF_SISTAT_DTF : Fld := ⟨0x140040, 12, 4⟩
def SAF_SISTAT_TPF : Fld := ⟨0x140040, 8, 4⟩
def SAF_SISTAT_RAW : Fld := ⟨0x140040, 0, 8⟩
/-- SAF_SRST (R474). -/
def SAF_SRST : Nat := 0x140044
def SAF_SRST_LSTATE : Fld := ⟨0x140044, 30, 2⟩
def SAF_SRST_LASTREJ : Fld := ⟨0x140044, 16, 8⟩
def SAF_SRST_REJ : Fld := ⟨0x140044, 8, 8⟩
def SAF_SRST_ACC : Fld := ⟨0x140044, 0, 8⟩
/-- SAF_SSVACT (R476). -/
def SAF_SSVACT : Nat := 0x140048
def SAF_SSVACT_XCHK : Fld := ⟨0x140048, 4, 2⟩
def SAF_SSVACT_DACF : Fld := ⟨0x140048, 2, 2⟩
def SAF_SSVACT_PLAUS : Fld := ⟨0x140048, 0, 2⟩
/-- SAF_TOKEN (R474). -/
def SAF_TOKEN : Nat := 0x14004C
def SAF_TOKEN_SSTATE : Fld := ⟨0x14004C, 29, 3⟩
def SAF_TOKEN_SCAUSE : Fld := ⟨0x14004C, 16, 8⟩
def SAF_TOKEN_MISS : Fld := ⟨0x14004C, 8, 8⟩
def SAF_TOKEN_CONFL : Fld := ⟨0x14004C, 0, 8⟩
/-- SAF_SCK (R474). -/
def SAF_SCK : Nat := 0x140050
def SAF_SCK_CK : Fld := ⟨0x140050, 0, 32⟩
/-- SAF_YCK (R474). -/
def SAF_YCK : Nat := 0x140054
def SAF_YCK_CK : Fld := ⟨0x140054, 0, 32⟩
/-- SAF_CKSUM (R474). -/
def SAF_CKSUM : Nat := 0x140058
def SAF_CKSUM_CK : Fld := ⟨0x140058, 0, 32⟩
/-- SAF_PWD (R474). -/
def SAF_PWD : Nat := 0x14005C
def SAF_PWD_DEFLT : Fld := ⟨0x14005C, 31, 1⟩
def SAF_PWD_LOCKOUT : Fld := ⟨0x14005C, 30, 1⟩
def SAF_PWD_FAILS : Fld := ⟨0x14005C, 0, 8⟩
/-- SAF_LOG (R474). -/
def SAF_LOG : Nat := 0x140060
def SAF_LOG_HEAD : Fld := ⟨0x140060, 16, 6⟩
def SAF_LOG_UNACK : Fld := ⟨0x140060, 0, 7⟩
/-- SAF_PDUERR (R474). -/
def SAF_PDUERR : Nat := 0x140064
def SAF_PDUERR_KDISC : Fld := ⟨0x140064, 16, 16⟩
def SAF_PDUERR_UNKN : Fld := ⟨0x140064, 0, 16⟩
/-- SAF_CONN_W0 (R477). -/
def SAF_CONN_W0 (k : Nat) : Nat := 0x140100 + 16 * k
def SAF_CONN_W0_CID (k : Nat) : Fld := ⟨0x140100 + 16 * k, 0, 32⟩
/-- SAF_CONN_W1 (R477). -/
def SAF_CONN_W1 (k : Nat) : Nat := 0x140104 + 16 * k
def SAF_CONN_W1_ACT (k : Nat) : Fld := ⟨0x140104 + 16 * k, 20, 2⟩
def SAF_CONN_W1_USE (k : Nat) : Fld := ⟨0x140104 + 16 * k, 18, 2⟩
def SAF_CONN_W1_ROLE (k : Nat) : Fld := ⟨0x140104 + 16 * k, 16, 2⟩
def SAF_CONN_W1_PEER (k : Nat) : Fld := ⟨0x140104 + 16 * k, 0, 16⟩
/-- SAF_CONN_W2 (R477). -/
def SAF_CONN_W2 (k : Nat) : Nat := 0x140108 + 16 * k
def SAF_CONN_W2_TE (k : Nat) : Fld := ⟨0x140108 + 16 * k, 16, 10⟩
def SAF_CONN_W2_PERIOD (k : Nat) : Fld := ⟨0x140108 + 16 * k, 0, 10⟩
/-- SAF_CONN_W3 (R477). -/
def SAF_CONN_W3 (k : Nat) : Nat := 0x14010C + 16 * k
def SAF_CONN_W3_LIVE (k : Nat) : Fld := ⟨0x14010C + 16 * k, 31, 1⟩
def SAF_CONN_W3_VALID (k : Nat) : Fld := ⟨0x14010C + 16 * k, 16, 15⟩
def SAF_CONN_W3_SEQF (k : Nat) : Fld := ⟨0x14010C + 16 * k, 8, 8⟩
def SAF_CONN_W3_CRCF (k : Nat) : Fld := ⟨0x14010C + 16 * k, 0, 8⟩
/-- SAF_RXD (R477). -/
def SAF_RXD (k : Nat) (w : Nat) : Nat := 0x140200 + 64 * k + 4 * w
def SAF_RXD_DATA (k : Nat) (w : Nat) : Fld := ⟨0x140200 + 64 * k + 4 * w, 0, 32⟩

/-! Block 0x15_0000 -/
/-- FLT_STAT (R511). -/
def FLT_STAT : Nat := 0x150000
def FLT_STAT_SLOST : Fld := ⟨0x150000, 24, 8⟩
def FLT_STAT_OVW : Fld := ⟨0x150000, 16, 8⟩
def FLT_STAT_NENT : Fld := ⟨0x150000, 8, 6⟩
def FLT_STAT_OPEN : Fld := ⟨0x150000, 2, 1⟩
def FLT_STAT_ACTIVE : Fld := ⟨0x150000, 0, 2⟩
/-- FLT_HSEQ (R511). -/
def FLT_HSEQ : Nat := 0x150004
def FLT_HSEQ_NEWEST : Fld := ⟨0x150004, 16, 5⟩
def FLT_HSEQ_SEQ : Fld := ⟨0x150004, 0, 16⟩
/-- FLT_TONE (R511). -/
def FLT_TONE : Nat := 0x150008
def FLT_TONE_INLOST : Fld := ⟨0x150008, 8, 8⟩
def FLT_TONE_OUTTOG : Fld := ⟨0x150008, 3, 1⟩
def FLT_TONE_OWNGOOD : Fld := ⟨0x150008, 2, 1⟩
def FLT_TONE_INGOOD : Fld := ⟨0x150008, 1, 1⟩
def FLT_TONE_HEAD : Fld := ⟨0x150008, 0, 1⟩
/-- FLT_CTRL (R511). -/
def FLT_CTRL : Nat := 0x15000C
def FLT_CTRL_HCLR : Fld := ⟨0x15000C, 31, 1⟩
/-- FLT_ISLSUM0 (R511). -/
def FLT_ISLSUM0 : Nat := 0x150010
def FLT_ISLSUM0_ISL : Fld := ⟨0x150010, 0, 32⟩
/-- FLT_ISLSUM1 (R511). -/
def FLT_ISLSUM1 : Nat := 0x150014
def FLT_ISLSUM1_ISL : Fld := ⟨0x150014, 0, 32⟩
/-- FLT_ISL (R511). -/
def FLT_ISL (i : Nat) : Nat := 0x150100 + 4 * i
def FLT_ISL_SRC (i : Nat) : Fld := ⟨0x150100 + 4 * i, 1, 9⟩
def FLT_ISL_STALL (i : Nat) : Fld := ⟨0x150100 + 4 * i, 0, 1⟩
/-- FLT_HQ_W0 (R511). -/
def FLT_HQ_W0 (j : Nat) : Nat := 0x150400 + 16 * j
def FLT_HQ_W0_SRC (j : Nat) : Fld := ⟨0x150400 + 16 * j, 24, 8⟩
def FLT_HQ_W0_CLASS (j : Nat) : Fld := ⟨0x150400 + 16 * j, 22, 2⟩
def FLT_HQ_W0_ISL (j : Nat) : Fld := ⟨0x150400 + 16 * j, 16, 6⟩
def FLT_HQ_W0_PARAM (j : Nat) : Fld := ⟨0x150400 + 16 * j, 0, 16⟩
/-- FLT_HQ_W1 (R511). -/
def FLT_HQ_W1 (j : Nat) : Nat := 0x150404 + 16 * j
def FLT_HQ_W1_DATUM (j : Nat) : Fld := ⟨0x150404 + 16 * j, 0, 32⟩
/-- FLT_HQ_W2 (R511). -/
def FLT_HQ_W2 (j : Nat) : Nat := 0x150408 + 16 * j
def FLT_HQ_W2_DATUM (j : Nat) : Fld := ⟨0x150408 + 16 * j, 0, 32⟩
/-- FLT_HQ_W3 (R511). -/
def FLT_HQ_W3 (j : Nat) : Nat := 0x15040C + 16 * j
def FLT_HQ_W3_MERGE (j : Nat) : Fld := ⟨0x15040C + 16 * j, 24, 8⟩
def FLT_HQ_W3_LASTSRC (j : Nat) : Fld := ⟨0x15040C + 16 * j, 16, 8⟩
def FLT_HQ_W3_SEQ (j : Nat) : Fld := ⟨0x15040C + 16 * j, 0, 16⟩

/-! Block 0x16_0000 -/
/-- RST_CAUSE (R513). -/
def RST_CAUSE : Nat := 0x160000
def RST_CAUSE_CAUSE : Fld := ⟨0x160000, 0, 11⟩
/-- RST_STAT (R513). -/
def RST_STAT : Nat := 0x160004
def RST_STAT_LASTKIND : Fld := ⟨0x160004, 28, 4⟩
def RST_STAT_STKRST : Fld := ⟨0x160004, 8, 8⟩
def RST_STAT_STEP : Fld := ⟨0x160004, 0, 4⟩
/-- RST_CTRL (R513). -/
def RST_CTRL : Nat := 0x160008
def RST_CTRL_COLD : Fld := ⟨0x160008, 31, 1⟩
def RST_CTRL_WARM : Fld := ⟨0x160008, 30, 1⟩
/-- RST_WDT (R513). -/
def RST_WDT : Nat := 0x16000C
def RST_WDT_KICK : Fld := ⟨0x16000C, 24, 8⟩
def RST_WDT_TIMEOUT : Fld := ⟨0x16000C, 0, 16⟩
/-- RST_CNT (R513). -/
def RST_CNT : Nat := 0x160010
def RST_CNT_WDT : Fld := ⟨0x160010, 24, 8⟩
def RST_CNT_LOCK : Fld := ⟨0x160010, 16, 8⟩
def RST_CNT_WARM : Fld := ⟨0x160010, 8, 8⟩
def RST_CNT_COLD : Fld := ⟨0x160010, 0, 8⟩
/-- RST_BKP (R513). -/
def RST_BKP (k : Nat) : Nat := 0x160040 + 4 * k
def RST_BKP_DATA (k : Nat) : Fld := ⟨0x160040 + 4 * k, 0, 32⟩
/-- RST_SBK (R513). -/
def RST_SBK (k : Nat) : Nat := 0x160080 + 4 * k
def RST_SBK_DATA (k : Nat) : Fld := ⟨0x160080 + 4 * k, 0, 32⟩

/-! Block 0x17_0000 -/
/-- BST_STAT (R515). -/
def BST_STAT : Nat := 0x170000
def BST_STAT_TESTPLOT : Fld := ⟨0x170000, 24, 6⟩
def BST_STAT_NPLF : Fld := ⟨0x170000, 8, 8⟩
def BST_STAT_HOLD : Fld := ⟨0x170000, 3, 1⟩
def BST_STAT_FABF : Fld := ⟨0x170000, 2, 1⟩
def BST_STAT_CPF : Fld := ⟨0x170000, 1, 1⟩
def BST_STAT_DONE : Fld := ⟨0x170000, 0, 1⟩
/-- BST_PLFAIL (R515). -/
def BST_PLFAIL : Nat := 0x170004
def BST_PLFAIL_PLOT : Fld := ⟨0x170004, 0, 32⟩
/-- BST_ROT (R515). -/
def BST_ROT : Nat := 0x170008
def BST_ROT_EN : Fld := ⟨0x170008, 31, 1⟩
def BST_ROT_PERIOD : Fld := ⟨0x170008, 16, 10⟩
def BST_ROT_CURSOR : Fld := ⟨0x170008, 8, 6⟩
def BST_ROT_NROT : Fld := ⟨0x170008, 0, 6⟩
/-- BST_ONL (R515). -/
def BST_ONL : Nat := 0x17000C
def BST_ONL_PASS : Fld := ⟨0x17000C, 16, 16⟩
def BST_ONL_FAIL : Fld := ⟨0x17000C, 8, 8⟩
def BST_ONL_ABAND : Fld := ⟨0x17000C, 0, 8⟩
/-- BST_CTL (R515). -/
def BST_CTL : Nat := 0x170010
def BST_CTL_RUNNOW : Fld := ⟨0x170010, 31, 1⟩
def BST_CTL_RESULT : Fld := ⟨0x170010, 0, 2⟩
/-- BST_LAST (R515). -/
def BST_LAST : Nat := 0x170014
def BST_LAST_RESULT : Fld := ⟨0x170014, 30, 2⟩
def BST_LAST_PLOT : Fld := ⟨0x170014, 16, 6⟩

/-! Block 0x18_0000 -/
/-- PWR_STAT (R540). -/
def PWR_STAT : Nat := 0x180000
def PWR_STAT_SVC : Fld := ⟨0x180000, 29, 3⟩
def PWR_STAT_SLEEP : Fld := ⟨0x180000, 27, 2⟩
def PWR_STAT_VISO : Fld := ⟨0x180000, 26, 1⟩
def PWR_STAT_AUXHOLD : Fld := ⟨0x180000, 25, 1⟩
def PWR_STAT_TLEFT : Fld := ⟨0x180000, 0, 16⟩
/-- PWR_CTRL (R540). -/
def PWR_CTRL : Nat := 0x180004
def PWR_CTRL_SLEEPNOW : Fld := ⟨0x180004, 31, 1⟩
def PWR_CTRL_CAPOFF : Fld := ⟨0x180004, 30, 1⟩
def PWR_CTRL_TEST : Fld := ⟨0x180004, 17, 1⟩
def PWR_CTRL_NOCOMM : Fld := ⟨0x180004, 16, 1⟩
def PWR_CTRL_TLOSS : Fld := ⟨0x180004, 0, 13⟩
/-- PWR_DEG (R540). -/
def PWR_DEG : Nat := 0x180008
def PWR_DEG_STEP : Fld := ⟨0x180008, 0, 4⟩
/-- PWR_WAKE (R540). -/
def PWR_WAKE : Nat := 0x18000C
def PWR_WAKE_PERIOD : Fld := ⟨0x18000C, 16, 16⟩
def PWR_WAKE_BAL : Fld := ⟨0x18000C, 1, 1⟩
def PWR_WAKE_CMP : Fld := ⟨0x18000C, 0, 1⟩
/-- PWR_WCAUSE (R540). -/
def PWR_WCAUSE : Nat := 0x180010
def PWR_WCAUSE_CAUSE : Fld := ⟨0x180010, 0, 3⟩
/-- PWR_ISLON0 (R540). -/
def PWR_ISLON0 : Nat := 0x180014
def PWR_ISLON0_ISL : Fld := ⟨0x180014, 0, 32⟩
/-- PWR_ISLON1 (R540). -/
def PWR_ISLON1 : Nat := 0x180018
def PWR_ISLON1_ISL : Fld := ⟨0x180018, 0, 32⟩
/-- PWR_ISLDEG0 (R540). -/
def PWR_ISLDEG0 : Nat := 0x18001C
def PWR_ISLDEG0_ISL : Fld := ⟨0x18001C, 0, 32⟩
/-- PWR_ISLDEG1 (R540). -/
def PWR_ISLDEG1 : Nat := 0x180020
def PWR_ISLDEG1_ISL : Fld := ⟨0x180020, 0, 32⟩
/-- PWR_QP (R540). -/
def PWR_QP (k : Nat) : Nat := 0x180040 + 4 * k
def PWR_QP_QP (k : Nat) : Fld := ⟨0x180040 + 4 * k, 0, 32⟩
/-- PWR_CV0 (R540). -/
def PWR_CV0 : Nat := 0x180050
def PWR_CV0_CV : Fld := ⟨0x180050, 0, 32⟩
/-- PWR_CV1 (R540). -/
def PWR_CV1 : Nat := 0x180054
def PWR_CV1_AX : Fld := ⟨0x180054, 16, 4⟩
def PWR_CV1_CV : Fld := ⟨0x180054, 0, 16⟩
/-- PWR_MISC (R540). -/
def PWR_MISC : Nat := 0x180058
def PWR_MISC_PEG : Fld := ⟨0x180058, 16, 4⟩
def PWR_MISC_UNIT : Fld := ⟨0x180058, 8, 5⟩
def PWR_MISC_LANE : Fld := ⟨0x180058, 0, 8⟩

/-! Block 0x19_0000 -/
/-- THM_STAT (R542). -/
def THM_STAT : Nat := 0x190000
def THM_STAT_SDLOST : Fld := ⟨0x190000, 24, 8⟩
def THM_STAT_NEWEST : Fld := ⟨0x190000, 16, 3⟩
def THM_STAT_ROUND : Fld := ⟨0x190000, 8, 8⟩
def THM_STAT_JSHUT : Fld := ⟨0x190000, 1, 1⟩
def THM_STAT_JTHR : Fld := ⟨0x190000, 0, 1⟩
/-- THM_CTRL (R542). -/
def THM_CTRL : Nat := 0x190004
def THM_CTRL_STEPINT : Fld := ⟨0x190004, 0, 7⟩
/-- THM_WSUM (R542). -/
def THM_WSUM : Nat := 0x190008
def THM_WSUM_SENS : Fld := ⟨0x190008, 0, 21⟩
/-- THM_TSUM (R542). -/
def THM_TSUM : Nat := 0x19000C
def THM_TSUM_SENS : Fld := ⟨0x19000C, 0, 21⟩
/-- THM_SSUM (R542). -/
def THM_SSUM : Nat := 0x190010
def THM_SSUM_SENS : Fld := ⟨0x190010, 0, 21⟩
/-- THM_STEP (R542). -/
def THM_STEP : Nat := 0x190014
def THM_STEP_DRAM : Fld := ⟨0x190014, 9, 1⟩
def THM_STEP_CP : Fld := ⟨0x190014, 8, 1⟩
def THM_STEP_CONV : Fld := ⟨0x190014, 2, 2⟩
def THM_STEP_PLOT : Fld := ⟨0x190014, 0, 2⟩
/-- THM_SDLOG_W0 (R542). -/
def THM_SDLOG_W0 (k : Nat) : Nat := 0x190040 + 8 * k
def THM_SDLOG_W0_SEC (k : Nat) : Fld := ⟨0x190040 + 8 * k, 0, 32⟩
/-- THM_SDLOG_W1 (R542). -/
def THM_SDLOG_W1 (k : Nat) : Nat := 0x190044 + 8 * k
def THM_SDLOG_W1_TEMP (k : Nat) : Fld := ⟨0x190044 + 8 * k, 16, 16⟩
def THM_SDLOG_W1_REACT (k : Nat) : Fld := ⟨0x190044 + 8 * k, 8, 1⟩
def THM_SDLOG_W1_SENSOR (k : Nat) : Fld := ⟨0x190044 + 8 * k, 0, 5⟩
/-- THM_S_W0 (R542). -/
def THM_S_W0 (s : Nat) : Nat := 0x190100 + 32 * (s - 1)
def THM_S_W0_TEMP (s : Nat) : Fld := ⟨0x190100 + 32 * (s - 1), 16, 16⟩
def THM_S_W0_LVL (s : Nat) : Fld := ⟨0x190100 + 32 * (s - 1), 3, 5⟩
/-- THM_S_W1 (R542). -/
def THM_S_W1 (s : Nat) : Nat := 0x190104 + 32 * (s - 1)
def THM_S_W1_TH (s : Nat) : Fld := ⟨0x190104 + 32 * (s - 1), 16, 16⟩
def THM_S_W1_HY (s : Nat) : Fld := ⟨0x190104 + 32 * (s - 1), 0, 8⟩
/-- THM_S_W2 (R542). -/
def THM_S_W2 (s : Nat) : Nat := 0x190108 + 32 * (s - 1)
def THM_S_W2_TH (s : Nat) : Fld := ⟨0x190108 + 32 * (s - 1), 16, 16⟩
def THM_S_W2_HY (s : Nat) : Fld := ⟨0x190108 + 32 * (s - 1), 0, 8⟩
/-- THM_S_W3 (R542). -/
def THM_S_W3 (s : Nat) : Nat := 0x19010C + 32 * (s - 1)
def THM_S_W3_TH (s : Nat) : Fld := ⟨0x19010C + 32 * (s - 1), 16, 16⟩
def THM_S_W3_HY (s : Nat) : Fld := ⟨0x19010C + 32 * (s - 1), 0, 8⟩
/-- THM_S_W4 (R542). -/
def THM_S_W4 (s : Nat) : Nat := 0x190110 + 32 * (s - 1)
def THM_S_W4_RLIM (s : Nat) : Fld := ⟨0x190110 + 32 * (s - 1), 16, 16⟩
def THM_S_W4_RWIN (s : Nat) : Fld := ⟨0x190110 + 32 * (s - 1), 0, 6⟩
/-- THM_S_W5 (R542). -/
def THM_S_W5 (s : Nat) : Nat := 0x190114 + 32 * (s - 1)
def THM_S_W5_INVSD (s : Nat) : Fld := ⟨0x190114 + 32 * (s - 1), 9, 1⟩
def THM_S_W5_REACT (s : Nat) : Fld := ⟨0x190114 + 32 * (s - 1), 8, 1⟩
def THM_S_W5_MODE (s : Nat) : Fld := ⟨0x190114 + 32 * (s - 1), 0, 2⟩
/-- THM_S_W6 (R542). -/
def THM_S_W6 (s : Nat) : Nat := 0x190118 + 32 * (s - 1)
def THM_S_W6_B (s : Nat) : Fld := ⟨0x190118 + 32 * (s - 1), 16, 16⟩
def THM_S_W6_R0 (s : Nat) : Fld := ⟨0x190118 + 32 * (s - 1), 0, 16⟩

/-! Block 0x1A_0000 -/
/-- NVM_STAT (R570). -/
def NVM_STAT : Nat := 0x1A0000
def NVM_STAT_OWNER : Fld := ⟨0x1A0000, 20, 3⟩
def NVM_STAT_NBUF : Fld := ⟨0x1A0000, 16, 4⟩
def NVM_STAT_REPLAY : Fld := ⟨0x1A0000, 3, 1⟩
def NVM_STAT_LOCKED : Fld := ⟨0x1A0000, 2, 1⟩
def NVM_STAT_JCOPY : Fld := ⟨0x1A0000, 1, 1⟩
def NVM_STAT_BUSY : Fld := ⟨0x1A0000, 0, 1⟩
/-- NVM_CNTINC (R570). -/
def NVM_CNTINC : Nat := 0x1A0004
def NVM_CNTINC_CNT : Fld := ⟨0x1A0004, 0, 4⟩
/-- NVM_ECC (R570). -/
def NVM_ECC : Nat := 0x1A0008
def NVM_ECC_UNCOR : Fld := ⟨0x1A0008, 16, 16⟩
def NVM_ECC_COR : Fld := ⟨0x1A0008, 0, 16⟩
/-- NVM_CNT (R570). -/
def NVM_CNT (k : Nat) : Nat := 0x1A0040 + 4 * k
def NVM_CNT_VALUE (k : Nat) : Fld := ⟨0x1A0040 + 4 * k, 0, 32⟩

/-! Block 0x1B_0000 -/
/-- FLS_STAT (R571). -/
def FLS_STAT : Nat := 0x1B0000
def FLS_STAT_OP : Fld := ⟨0x1B0000, 30, 2⟩
def FLS_STAT_SUSP : Fld := ⟨0x1B0000, 29, 1⟩
def FLS_STAT_SECTOR : Fld := ⟨0x1B0000, 16, 7⟩
def FLS_STAT_ASUSP : Fld := ⟨0x1B0000, 8, 8⟩
def FLS_STAT_NINC : Fld := ⟨0x1B0000, 0, 8⟩
/-- FLS_CTL (R571). -/
def FLS_CTL : Nat := 0x1B0004
def FLS_CTL_SUSPEND : Fld := ⟨0x1B0004, 31, 1⟩
def FLS_CTL_RESUME : Fld := ⟨0x1B0004, 30, 1⟩
/-- FLS_KSFREE (R571). -/
def FLS_KSFREE : Nat := 0x1B0008
def FLS_KSFREE_FREE : Fld := ⟨0x1B0008, 0, 7⟩
/-- FLS_INCOMP (R571). -/
def FLS_INCOMP (w : Nat) : Nat := 0x1B0010 + 4 * w
def FLS_INCOMP_SECT (w : Nat) : Fld := ⟨0x1B0010 + 4 * w, 0, 32⟩
/-- FLS_ECC (R571). -/
def FLS_ECC : Nat := 0x1B0020
def FLS_ECC_UNCOR : Fld := ⟨0x1B0020, 16, 16⟩
def FLS_ECC_COR : Fld := ⟨0x1B0020, 0, 16⟩

/-! Block 0x1C_0000 -/
/-- UPD_STAT (R572). -/
def UPD_STAT : Nat := 0x1C0000
def UPD_STAT_PSTATE : Fld := ⟨0x1C0000, 30, 2⟩
def UPD_STAT_ACTIVE : Fld := ⟨0x1C0000, 29, 1⟩
def UPD_STAT_BOOTED : Fld := ⟨0x1C0000, 28, 1⟩
def UPD_STAT_STAGE : Fld := ⟨0x1C0000, 26, 2⟩
def UPD_STAT_SESS : Fld := ⟨0x1C0000, 25, 1⟩
def UPD_STAT_TRIALS : Fld := ⟨0x1C0000, 8, 8⟩
def UPD_STAT_VFAIL : Fld := ⟨0x1C0000, 0, 8⟩
/-- UPD_PTRSEQ (R572). -/
def UPD_PTRSEQ : Nat := 0x1C0004
def UPD_PTRSEQ_SEQ : Fld := ⟨0x1C0004, 0, 32⟩
/-- UPD_ACTVER (R572). -/
def UPD_ACTVER : Nat := 0x1C0008
def UPD_ACTVER_VER : Fld := ⟨0x1C0008, 0, 32⟩
/-- UPD_STGVER (R572). -/
def UPD_STGVER : Nat := 0x1C000C
def UPD_STGVER_VER : Fld := ⟨0x1C000C, 0, 32⟩
/-- UPD_MINVER (R572). -/
def UPD_MINVER : Nat := 0x1C0010
def UPD_MINVER_MINVER : Fld := ⟨0x1C0010, 0, 32⟩
/-- UPD_SESS (R572). -/
def UPD_SESS : Nat := 0x1C0014
def UPD_SESS_LEFT : Fld := ⟨0x1C0014, 22, 10⟩
def UPD_SESS_ACC : Fld := ⟨0x1C0014, 0, 22⟩
/-- UPD_LEASE (R572). -/
def UPD_LEASE : Nat := 0x1C0040
def UPD_LEASE_LEASE : Fld := ⟨0x1C0040, 0, 10⟩

/-! Block 0x1D_0000 -/
/-- CAP_STAT (R574). -/
def CAP_STAT : Nat := 0x1D0000
def CAP_STAT_TAPLOAD : Fld := ⟨0x1D0000, 16, 8⟩
def CAP_STAT_SELFREF : Fld := ⟨0x1D0000, 0, 1⟩
/-- CAP_B_W0 (R574). -/
def CAP_B_W0 (k : Nat) : Nat := 0x1D0100 + 64 * k
def CAP_B_W0_EN (k : Nat) : Fld := ⟨0x1D0100 + 64 * k, 31, 1⟩
def CAP_B_W0_TRIG (k : Nat) : Fld := ⟨0x1D0100 + 64 * k, 24, 4⟩
def CAP_B_W0_FCLS (k : Nat) : Fld := ⟨0x1D0100 + 64 * k, 22, 2⟩
def CAP_B_W0_KPUB (k : Nat) : Fld := ⟨0x1D0100 + 64 * k, 16, 5⟩
def CAP_B_W0_DEC (k : Nat) : Fld := ⟨0x1D0100 + 64 * k, 0, 16⟩
/-- CAP_B_W1 (R574). -/
def CAP_B_W1 (k : Nat) : Nat := 0x1D0104 + 64 * k
def CAP_B_W1_CHM (k : Nat) : Fld := ⟨0x1D0104 + 64 * k, 0, 32⟩
/-- CAP_B_W2 (R574). -/
def CAP_B_W2 (k : Nat) : Nat := 0x1D0108 + 64 * k
def CAP_B_W2_CHM (k : Nat) : Fld := ⟨0x1D0108 + 64 * k, 0, 20⟩
/-- CAP_B_W3 (R574). -/
def CAP_B_W3 (k : Nat) : Nat := 0x1D010C + 64 * k
def CAP_B_W3_BASE (k : Nat) : Fld := ⟨0x1D010C + 64 * k, 0, 18⟩
/-- CAP_B_W4 (R574). -/
def CAP_B_W4 (k : Nat) : Nat := 0x1D0110 + 64 * k
def CAP_B_W4_SIZE (k : Nat) : Fld := ⟨0x1D0110 + 64 * k, 0, 19⟩
/-- CAP_B_W5 (R574). -/
def CAP_B_W5 (k : Nat) : Nat := 0x1D0114 + 64 * k
def CAP_B_W5_POST (k : Nat) : Fld := ⟨0x1D0114 + 64 * k, 0, 32⟩
/-- CAP_B_W6 (R574). -/
def CAP_B_W6 (k : Nat) : Nat := 0x1D0118 + 64 * k
def CAP_B_W6_STATE (k : Nat) : Fld := ⟨0x1D0118 + 64 * k, 29, 3⟩
def CAP_B_W6_STOP (k : Nat) : Fld := ⟨0x1D0118 + 64 * k, 26, 3⟩
def CAP_B_W6_TSRC (k : Nat) : Fld := ⟨0x1D0118 + 64 * k, 22, 4⟩
def CAP_B_W6_TLOST (k : Nat) : Fld := ⟨0x1D0118 + 64 * k, 8, 8⟩
def CAP_B_W6_ECCU (k : Nat) : Fld := ⟨0x1D0118 + 64 * k, 0, 8⟩
/-- CAP_B_W7 (R574). -/
def CAP_B_W7 (k : Nat) : Nat := 0x1D011C + 64 * k
def CAP_B_W7_TRIGEP (k : Nat) : Fld := ⟨0x1D011C + 64 * k, 0, 32⟩
/-- CAP_B_W8 (R574). -/
def CAP_B_W8 (k : Nat) : Nat := 0x1D0120 + 64 * k
def CAP_B_W8_OLDEST (k : Nat) : Fld := ⟨0x1D0120 + 64 * k, 0, 32⟩
/-- CAP_B_W9 (R574). -/
def CAP_B_W9 (k : Nat) : Nat := 0x1D0124 + 64 * k
def CAP_B_W9_TBLK (k : Nat) : Fld := ⟨0x1D0124 + 64 * k, 0, 32⟩

/-! Block 0x1E_0000 -/
/-- PEG_CTL (R595). -/
def PEG_CTL (n : Nat) : Nat := 0x1E0000 + 1024 * (n - 1)
def PEG_CTL_SEARCH (n : Nat) : Fld := ⟨0x1E0000 + 1024 * (n - 1), 31, 1⟩
def PEG_CTL_CLR (n : Nat) : Fld := ⟨0x1E0000 + 1024 * (n - 1), 30, 1⟩
def PEG_CTL_PERIOD (n : Nat) : Fld := ⟨0x1E0000 + 1024 * (n - 1), 16, 10⟩
def PEG_CTL_POLL (n : Nat) : Fld := ⟨0x1E0000 + 1024 * (n - 1), 15, 1⟩
def PEG_CTL_TICK (n : Nat) : Fld := ⟨0x1E0000 + 1024 * (n - 1), 2, 10⟩
def PEG_CTL_MODE (n : Nat) : Fld := ⟨0x1E0000 + 1024 * (n - 1), 0, 2⟩
/-- PEG_SENT (R595). -/
def PEG_SENT (n : Nat) : Nat := 0x1E0004 + 1024 * (n - 1)
def PEG_SENT_SERIAL (n : Nat) : Fld := ⟨0x1E0004 + 1024 * (n - 1), 6, 1⟩
def PEG_SENT_PAUSE (n : Nat) : Fld := ⟨0x1E0004 + 1024 * (n - 1), 5, 1⟩
def PEG_SENT_CRCM (n : Nat) : Fld := ⟨0x1E0004 + 1024 * (n - 1), 4, 1⟩
def PEG_SENT_CAL64 (n : Nat) : Fld := ⟨0x1E0004 + 1024 * (n - 1), 3, 1⟩
def PEG_SENT_NDATA (n : Nat) : Fld := ⟨0x1E0004 + 1024 * (n - 1), 0, 3⟩
/-- PEG_STAT (R595). -/
def PEG_STAT (n : Nat) : Nat := 0x1E0008 + 1024 * (n - 1)
def PEG_STAT_STATE (n : Nat) : Fld := ⟨0x1E0008 + 1024 * (n - 1), 29, 3⟩
def PEG_STAT_RESULT (n : Nat) : Fld := ⟨0x1E0008 + 1024 * (n - 1), 26, 3⟩
def PEG_STAT_RESTART (n : Nat) : Fld := ⟨0x1E0008 + 1024 * (n - 1), 24, 2⟩
def PEG_STAT_NPEG (n : Nat) : Fld := ⟨0x1E0008 + 1024 * (n - 1), 16, 5⟩
/-- PEG_CNT (R595). -/
def PEG_CNT (n : Nat) : Nat := 0x1E000C + 1024 * (n - 1)
def PEG_CNT_CRCERR (n : Nat) : Fld := ⟨0x1E000C + 1024 * (n - 1), 24, 8⟩
def PEG_CNT_SYMERR (n : Nat) : Fld := ⟨0x1E000C + 1024 * (n - 1), 16, 8⟩
def PEG_CNT_GAP (n : Nat) : Fld := ⟨0x1E000C + 1024 * (n - 1), 8, 8⟩
def PEG_CNT_NORESP (n : Nat) : Fld := ⟨0x1E000C + 1024 * (n - 1), 0, 8⟩
/-- PEG_NUM (R595). -/
def PEG_NUM (n : Nat) (s : Nat) (w : Nat) : Nat := 0x1E0100 + 1024 * (n - 1) + 8 * s + 4 * w
def PEG_NUM_NUM (n : Nat) (s : Nat) (w : Nat) : Fld := ⟨0x1E0100 + 1024 * (n - 1) + 8 * s + 4 * w, 0, 32⟩
/-- PEG_DAT (R595). -/
def PEG_DAT (n : Nat) (s : Nat) : Nat := 0x1E0200 + 1024 * (n - 1) + 4 * s
def PEG_DAT_VALID (n : Nat) (s : Nat) : Fld := ⟨0x1E0200 + 1024 * (n - 1) + 4 * s, 31, 1⟩
def PEG_DAT_STATUS (n : Nat) (s : Nat) : Fld := ⟨0x1E0200 + 1024 * (n - 1) + 4 * s, 24, 4⟩
def PEG_DAT_DATA (n : Nat) (s : Nat) : Fld := ⟨0x1E0200 + 1024 * (n - 1) + 4 * s, 0, 24⟩
/-- PEG_EP (R595). -/
def PEG_EP (n : Nat) (s : Nat) : Nat := 0x1E0240 + 1024 * (n - 1) + 4 * s
def PEG_EP_EPOCH (n : Nat) (s : Nat) : Fld := ⟨0x1E0240 + 1024 * (n - 1) + 4 * s, 0, 32⟩
/-- PEG_SLOW (R595). -/
def PEG_SLOW (n : Nat) (s : Nat) : Nat := 0x1E0280 + 1024 * (n - 1) + 4 * s
def PEG_SLOW_WORD (n : Nat) (s : Nat) : Fld := ⟨0x1E0280 + 1024 * (n - 1) + 4 * s, 0, 32⟩

end R

end Sys2Proof.Machine
end

