-- ==== Sys2Proof/Machine/RegTable.lean ====
section
/-! DEFINITION. The register table: for every register of the spec its address, its array dimensions, the bits of each
field type (R15) and its reset value, block by block as the chapters' register tables list them. -/
namespace Sys2Proof.Machine

/-- One register, or one array of registers: byte address of the first, (stride, count) of each index (outer first),
the bits of each field type (RW, RO, W1C, WO, RWS, RWD) and the reset value. Bits of no type are reserved (R17). -/
structure RegRow where
  base : Nat
  dims : List (Nat × Nat)
  rw : Nat
  ro : Nat
  w1c : Nat
  wo : Nat
  rws : Nat
  rwd : Nat
  rst : Nat
  deriving DecidableEq, Repr

/-- Block 0x00_0000. [DESIGN CHOICE, log 7] -/
def rows00 : List RegRow := [
  ⟨0x000000, [], 0x0, 0xFFFFFFFF, 0x0, 0x0, 0x0, 0x0, 0x0⟩,  -- IDENT_PART
  ⟨0x000004, [], 0x0, 0xFFFFFF, 0x0, 0x0, 0x0, 0x0, 0xA0A0A0⟩,  -- IDENT_STEP
  ⟨0x000008, [], 0x0, 0x7FFFF, 0x0, 0x0, 0x0, 0x0, 0x7E000⟩,  -- IDENT_CAP
  ⟨0x00000C, [], 0x0, 0xFFFFFFFF, 0x0, 0x0, 0x0, 0x0, 0x0⟩ ]  -- IDENT_PLOTMAP

/-- Block 0x01_0000. -/
def rows01 : List RegRow := [
  ⟨0x010000, [], 0x1F, 0x0, 0x0, 0x0, 0x0, 0x0, 0x0⟩,  -- SMP_CTRL
  ⟨0x010004, [], 0xFFFFFFFF, 0x0, 0x0, 0x0, 0x0, 0x0, 0x0⟩,  -- SMP_CHEN0
  ⟨0x010008, [], 0xFFFFF, 0x0, 0x0, 0x0, 0x0, 0x0, 0x0⟩,  -- SMP_CHEN1
  ⟨0x01000C, [], 0x0, 0xFF3F3F, 0x0, 0x0, 0x0, 0x0, 0x0⟩,  -- SMP_STAT
  ⟨0x010010, [], 0x0, 0xFFFFFFFF, 0x0, 0x0, 0x0, 0x0, 0x0⟩,  -- SMP_CFGEPOCH
  ⟨0x010014, [], 0xFFF, 0x0, 0x0, 0x0, 0x0, 0x0, 0x14⟩,  -- SMP_XCFG
  ⟨0x010018, [], 0x0, 0x0, 0x0, 0x0, 0x3FF, 0x0, 0xC8⟩,  -- SMP_XTHR
  ⟨0x01001C, [], 0x0, 0x3F01FFFF, 0x0, 0x0, 0x0, 0x0, 0x0⟩,  -- SMP_XSTAT
  ⟨0x010020, [], 0x0, 0x0, 0xFFFFFFFF, 0x0, 0x0, 0x0, 0x0⟩,  -- SMP_XFAIL0
  ⟨0x010024, [], 0x0, 0x0, 0xFFFF, 0x0, 0x0, 0x0, 0x0⟩,  -- SMP_XFAIL1
  ⟨0x010028, [], 0xFF0F, 0x0, 0x0, 0x0, 0x0, 0x0, 0x4008⟩,  -- SMP_EMS
  ⟨0x01002C, [], 0xFFFF, 0x0, 0x0, 0x803F0000, 0x0, 0x0, 0x3E8⟩,  -- SMP_CALCTL
  ⟨0x010030, [], 0x0, 0x0, 0x0, 0x0, 0xF, 0x0, 0x0⟩,  -- SMP_AXSAFE
  ⟨0x010034, [], 0x0, 0xF, 0xF0, 0x0, 0x0, 0x0, 0x0⟩,  -- SMP_AXSTAT
  ⟨0x010038, [], 0x77, 0x0, 0x0, 0x0, 0x0, 0x0, 0x0⟩,  -- SMP_REFCFG
  ⟨0x010040, [(4, 4)], 0xFFF3, 0x0, 0x0, 0x0, 0x0, 0x0, 0x8200⟩,  -- SMP_AXCFG
  ⟨0x010100, [(4, 52)], 0xFFFF01FF, 0x0, 0x0, 0x0, 0x0, 0x0, 0x0⟩,  -- SMP_AVG
  ⟨0x010200, [(4, 52)], 0xFFFFFFFF, 0x0, 0x0, 0x0, 0x0, 0x0, 0x0⟩ ]  -- SMP_CAL

/-- Block 0x02_0000. -/
def rows02 : List RegRow := [
  ⟨0x020000, [], 0x0, 0x0, 0x0, 0x0, 0xFFFFF01, 0x0, 0x4644900⟩,  -- SWC_CTRL
  ⟨0x020004, [], 0x0, 0xF37F, 0x0, 0x0, 0x0, 0x0, 0x407F⟩,  -- SWC_STAT
  ⟨0x020008, [], 0x0, 0x0, 0x0, 0x0, 0xFF01, 0x0, 0xA00⟩,  -- SWC_REF
  ⟨0x02000C, [], 0x1, 0x0, 0x0, 0x0, 0xE, 0x0, 0xF⟩,  -- SWC_INJEN
  ⟨0x020010, [], 0x0, 0x0, 0x0, 0xC000003F, 0x0, 0x0, 0x0⟩,  -- SWC_INJCTL
  ⟨0x020014, [], 0x0, 0xFF, 0x0, 0x0, 0x0, 0x0, 0x0⟩,  -- SWC_INJDROP
  ⟨0x020018, [], 0x0, 0x3F0F, 0x0, 0x0, 0x0, 0x0, 0x0⟩,  -- SWC_INJSRC
  ⟨0x02001C, [], 0x0, 0xFFFFFFFF, 0x0, 0x0, 0x0, 0x0, 0x0⟩,  -- SWC_IEPOCH
  ⟨0x020020, [], 0x0, 0xFFFFFFFF, 0x0, 0x0, 0x0, 0x0, 0x0⟩,  -- SWC_RSTART
  ⟨0x020024, [], 0x0, 0xFFFF, 0x0, 0x0, 0x0, 0x0, 0x0⟩,  -- SWC_OVRUN
  ⟨0x020028, [], 0x0, 0x0, 0x0, 0x0, 0x3FF03FF, 0x0, 0x1400C8⟩,  -- SWC_PLTHR
  ⟨0x02002C, [], 0x0, 0x0, 0xFFFFFFFF, 0x0, 0x0, 0x0, 0x0⟩,  -- SWC_DIS0
  ⟨0x020030, [], 0x0, 0x0, 0xFFFFF, 0x0, 0x0, 0x0, 0x0⟩,  -- SWC_DIS1
  ⟨0x020034, [], 0x0, 0x0, 0xFFFFFFFF, 0x0, 0x0, 0x0, 0x0⟩,  -- SWC_CONF0
  ⟨0x020038, [], 0x0, 0x0, 0xFFFFF, 0x0, 0x0, 0x0, 0x0⟩,  -- SWC_CONF1
  ⟨0x02003C, [], 0x0, 0x17F00, 0xF, 0x0, 0x0, 0x0, 0x0⟩,  -- SWC_DIAG
  ⟨0x020040, [], 0x0, 0x0, 0x0, 0x0, 0xF, 0x0, 0x3⟩,  -- SWC_DIAGCFG
  ⟨0x020100, [(4, 96)], 0x0, 0x0, 0x0, 0x0, 0xFF, 0x0, 0x0⟩,  -- SWC_SEQ
  ⟨0x020280, [(4, 8)], 0x0, 0x0, 0x0, 0x0, 0xFF, 0x0, 0x0⟩,  -- SWC_ISEQ
  ⟨0x020300, [(4, 96)], 0x0, 0xFF03FFFF, 0x0, 0x0, 0x0, 0x0, 0x0⟩,  -- SWC_RES
  ⟨0x020480, [(4, 8)], 0x0, 0xFF03FFFF, 0x0, 0x0, 0x0, 0x0, 0x0⟩ ]  -- SWC_IRES

/-- Block 0x03_0000. -/
def rows03 : List RegRow := [
  ⟨0x030000, [], 0x0, 0x0, 0x0, 0x0, 0xF1F1F, 0x0, 0x50F03⟩,  -- CMP_CTRL
  ⟨0x030004, [], 0x0, 0x0, 0x0, 0x0, 0xFFFFFFFF, 0x0, 0x0⟩,  -- CMP_OVEN0
  ⟨0x030008, [], 0x0, 0x0, 0x0, 0x0, 0xFFFF, 0x0, 0x0⟩,  -- CMP_OVEN1
  ⟨0x03000C, [], 0x0, 0x0, 0x0, 0x0, 0xFFFFFFFF, 0x0, 0x0⟩,  -- CMP_UVEN0
  ⟨0x030010, [], 0x0, 0x0, 0x0, 0x0, 0xFFFF, 0x0, 0x0⟩,  -- CMP_UVEN1
  ⟨0x030014, [], 0x0, 0xFFFFFFFF, 0x0, 0x0, 0x0, 0x0, 0x0⟩,  -- CMP_OVST0
  ⟨0x030018, [], 0x0, 0xFFFF, 0x0, 0x0, 0x0, 0x0, 0x0⟩,  -- CMP_OVST1
  ⟨0x03001C, [], 0x0, 0xFFFFFFFF, 0x0, 0x0, 0x0, 0x0, 0x0⟩,  -- CMP_UVST0
  ⟨0x030020, [], 0x0, 0xFFFF, 0x0, 0x0, 0x0, 0x0, 0x0⟩,  -- CMP_UVST1
  ⟨0x030024, [], 0x0, 0x0, 0xFFFFFFFF, 0x0, 0x0, 0x0, 0x0⟩,  -- CMP_OVTRIP0
  ⟨0x030028, [], 0x0, 0x0, 0xFFFF, 0x0, 0x0, 0x0, 0x0⟩,  -- CMP_OVTRIP1
  ⟨0x03002C, [], 0x0, 0x0, 0xFFFFFFFF, 0x0, 0x0, 0x0, 0x0⟩,  -- CMP_UVTRIP0
  ⟨0x030030, [], 0x0, 0x0, 0xFFFF, 0x0, 0x0, 0x0, 0x0⟩,  -- CMP_UVTRIP1
  ⟨0x030034, [], 0x0, 0x300, 0x0, 0x813F0000, 0x0, 0x0, 0x0⟩,  -- CMP_TEST
  ⟨0x030100, [(4, 48)], 0x0, 0x0, 0x0, 0x0, 0x3FF03FF, 0x0, 0x3FF0000⟩ ]  -- CMP_THR

/-- Block 0x04_0000. -/
def rows04 : List RegRow := [
  ⟨0x040000, [], 0x1F03, 0x0, 0x0, 0x0, 0x0, 0x0, 0x1800⟩,  -- BAL_CTRL
  ⟨0x040004, [], 0x0, 0x71F1F0F, 0x0, 0x0, 0x0, 0x0, 0x0⟩,  -- BAL_STAT
  ⟨0x040008, [], 0x0, 0x0, 0x0, 0x0, 0x7, 0x0, 0x7⟩,  -- BAL_FORCE
  ⟨0x04000C, [], 0x0, 0x0, 0x0, 0x0, 0xFFFFFFFF, 0x0, 0x0⟩,  -- BAL_CELLEN0
  ⟨0x040010, [], 0x0, 0x0, 0x0, 0x0, 0xFFFF, 0x0, 0x0⟩,  -- BAL_CELLEN1
  ⟨0x040014, [], 0x0, 0xFFFFFFFF, 0x0, 0x0, 0x0, 0x0, 0x0⟩,  -- BAL_ON0
  ⟨0x040018, [], 0x0, 0xFFFF, 0x0, 0x0, 0x0, 0x0, 0x0⟩,  -- BAL_ON1
  ⟨0x04001C, [], 0x0, 0x0, 0xFFFFFFFF, 0x0, 0x0, 0x0, 0x0⟩,  -- BAL_DONE0
  ⟨0x040020, [], 0x0, 0x0, 0xFFFF, 0x0, 0x0, 0x0, 0x0⟩,  -- BAL_DONE1
  ⟨0x040024, [], 0x0, 0x0, 0xFFFFFFFF, 0x0, 0x0, 0x0, 0x0⟩,  -- BAL_OC0
  ⟨0x040028, [], 0x0, 0x0, 0xFFFF, 0x0, 0x0, 0x0, 0x0⟩,  -- BAL_OC1
  ⟨0x04002C, [], 0x0, 0x0, 0xFFFFFFFF, 0x0, 0x0, 0x0, 0x0⟩,  -- BAL_SWO0
  ⟨0x040030, [], 0x0, 0x0, 0xFFFF, 0x0, 0x0, 0x0, 0x0⟩,  -- BAL_SWO1
  ⟨0x040034, [], 0x0, 0x0, 0xFFFFFFFF, 0x0, 0x0, 0x0, 0x0⟩,  -- BAL_SWS0
  ⟨0x040038, [], 0x0, 0x0, 0xFFFF, 0x0, 0x0, 0x0, 0x0⟩,  -- BAL_SWS1
  ⟨0x040100, [(4, 48)], 0xFFFF, 0x30000, 0x0, 0x0, 0x0, 0x0, 0x0⟩ ]  -- BAL_TMR

/-- Block 0x05_0000. -/
def rows05 : List RegRow := [
  ⟨0x050000, [], 0xFFFF33, 0x0, 0x0, 0xC0000000, 0x0, 0x0, 0xC08000⟩,  -- EXC_CTRL
  ⟨0x050004, [], 0x0, 0xFF7, 0x0, 0x0, 0x0, 0x0, 0x0⟩,  -- EXC_STAT
  ⟨0x050008, [], 0xFFFFFFFF, 0x0, 0x0, 0x0, 0x0, 0x0, 0x0⟩,  -- EXC_SEL0
  ⟨0x05000C, [], 0xFFFF, 0x0, 0x0, 0x0, 0x0, 0x0, 0x0⟩,  -- EXC_SEL1
  ⟨0x050010, [], 0xFF, 0x0, 0x0, 0x0, 0x0, 0x0, 0x32⟩,  -- EXC_AMP
  ⟨0x050014, [], 0xFFFF000F, 0x0, 0x0, 0x0, 0x0, 0x0, 0xA⟩,  -- EXC_PRBS
  ⟨0x050018, [], 0x0, 0xFFFFFFFF, 0x0, 0x0, 0x0, 0x0, 0x0⟩,  -- EXC_START
  ⟨0x05001C, [], 0x0, 0x0, 0xFFFFFFFF, 0x0, 0x0, 0x0, 0x0⟩,  -- EXC_FRZ0
  ⟨0x050020, [], 0x0, 0x0, 0xFFFF, 0x0, 0x0, 0x0, 0x0⟩,  -- EXC_FRZ1
  ⟨0x050040, [(4, 16)], 0x807FFFFF, 0x0, 0x0, 0x0, 0x0, 0x0, 0x0⟩,  -- EXC_TONE
  ⟨0x050080, [(4, 8)], 0x0, 0xFFFFFFFF, 0x0, 0x0, 0x0, 0x0, 0x0⟩ ]  -- EXC_ION

/-- Block 0x06_0000. -/
def rows06 : List RegRow := [
  ⟨0x060000, [], 0xFF7, 0x0, 0x0, 0x80000000, 0x0, 0x0, 0x820⟩,  -- PRF_CTRL
  ⟨0x060004, [], 0x0, 0x7F3F, 0x0, 0x0, 0x0, 0x0, 0x2⟩,  -- PRF_STAT
  ⟨0x060008, [], 0xFFFFFFFF, 0x0, 0x0, 0x0, 0x0, 0x0, 0x0⟩,  -- PRF_CELL0
  ⟨0x06000C, [], 0xFFFF, 0x0, 0x0, 0x0, 0x0, 0x0, 0x0⟩,  -- PRF_CELL1
  ⟨0x060010, [], 0xFFFFFFFF, 0x0, 0x0, 0x0, 0x0, 0x0, 0xFFFFFFFF⟩,  -- PRF_PTS0
  ⟨0x060014, [], 0xFFFFFFFF, 0x0, 0x0, 0x0, 0x0, 0x0, 0xFFFFFFFF⟩,  -- PRF_PTS1
  ⟨0x060018, [], 0x7F, 0x0, 0x0, 0x0, 0x0, 0x0, 0x7F⟩,  -- PRF_PTS2
  ⟨0x06001C, [], 0xFFF001F, 0x0, 0x0, 0x0, 0x0, 0x0, 0x0⟩,  -- PRF_ISRC
  ⟨0x060020, [], 0xFFFFFF, 0x0, 0x0, 0x0, 0x0, 0x0, 0x0⟩,  -- PRF_ISCALE
  ⟨0x060024, [], 0xFFFFFFFF, 0x0, 0x0, 0x0, 0x0, 0x0, 0x64E666⟩,  -- PRF_THR
  ⟨0x060028, [], 0xFFFFFFFF, 0x0, 0x0, 0x0, 0x0, 0x0, 0x9600C8⟩,  -- PRF_JTHR
  ⟨0x06002C, [], 0x0, 0xFFFFFFFF, 0x0, 0x0, 0x0, 0x0, 0x0⟩,  -- PRF_DISC
  ⟨0x061000, [(16, 48)], 0x0, 0xFFFFFFFF, 0x0, 0x0, 0x0, 0x0, 0x0⟩,  -- PRF_DER_W0
  ⟨0x061004, [(16, 48)], 0x0, 0xFFFFFFFF, 0x0, 0x0, 0x0, 0x0, 0x0⟩,  -- PRF_DER_W1
  ⟨0x061008, [(16, 48)], 0x0, 0xFFFFFFFF, 0x0, 0x0, 0x0, 0x0, 0x0⟩,  -- PRF_DER_W2
  ⟨0x06100C, [(16, 48)], 0x0, 0xFFFF000F, 0x0, 0x0, 0x0, 0x0, 0x0⟩,  -- PRF_DER_W3
  ⟨0x061400, [(8, 48)], 0xFFFFFFFF, 0x0, 0x0, 0x0, 0x0, 0x0, 0x0⟩,  -- PRF_TCALA
  ⟨0x061404, [(8, 48)], 0x8000FFFF, 0x0, 0x0, 0x0, 0x0, 0x0, 0x0⟩,  -- PRF_TCALB
  ⟨0x062000, [(1136, 48), (16, 71)], 0x0, 0xFFFFFFFF, 0x0, 0x0, 0x0, 0x0, 0x0⟩,  -- PRF_REC_W0
  ⟨0x062004, [(1136, 48), (16, 71)], 0x0, 0xFFFFFFFF, 0x0, 0x0, 0x0, 0x0, 0x0⟩,  -- PRF_REC_W1
  ⟨0x062008, [(1136, 48), (16, 71)], 0x0, 0xFFFFFFFF, 0x0, 0x0, 0x0, 0x0, 0x0⟩,  -- PRF_REC_W2
  ⟨0x06200C, [(1136, 48), (16, 71)], 0x0, 0xFFFFFFFF, 0x0, 0x0, 0x0, 0x0, 0xC0000000⟩ ]  -- PRF_REC_W3

/-- Block 0x07_0000. -/
def rows07 : List RegRow := [
  ⟨0x070000, [], 0xF, 0x0, 0x0, 0x80000000, 0x0, 0x0, 0x0⟩,  -- EST_CTRL
  ⟨0x070004, [], 0x0, 0xFF0F0F, 0x0, 0x0, 0x0, 0x0, 0x100⟩,  -- EST_STAT
  ⟨0x070008, [], 0xFFFFFFFF, 0x0, 0x0, 0x0, 0x0, 0x0, 0x0⟩,  -- EST_CELL0
  ⟨0x07000C, [], 0xFFFF, 0x0, 0x0, 0x0, 0x0, 0x0, 0x0⟩,  -- EST_CELL1
  ⟨0x070010, [], 0xFFF001F, 0x0, 0x0, 0x0, 0x0, 0x0, 0x0⟩,  -- EST_ISRC
  ⟨0x070014, [], 0xFFFFFF, 0x0, 0x0, 0x0, 0x0, 0x0, 0x0⟩,  -- EST_ISCALE
  ⟨0x070018, [], 0xFFFFFFFF, 0x0, 0x0, 0x0, 0x0, 0x0, 0x157C1194⟩,  -- EST_TLIM
  ⟨0x07001C, [], 0xFFFFFF, 0x0, 0x0, 0x0, 0x0, 0x0, 0x14600A⟩,  -- EST_LIM2
  ⟨0x070020, [], 0xFFFF, 0x0, 0x0, 0x0, 0x0, 0x0, 0x0⟩,  -- EST_BLEED
  ⟨0x070024, [], 0x0, 0xFFFF, 0x0, 0x0, 0x0, 0x0, 0x7F0⟩,  -- EST_SUM
  ⟨0x070028, [], 0x0, 0xFFFFFFFF, 0x0, 0x0, 0x0, 0x0, 0xFFFF0000⟩,  -- EST_SNAP
  ⟨0x070100, [(4, 48)], 0x31F1F, 0x0, 0x0, 0x0, 0x0, 0x0, 0x0⟩,  -- EST_CELLCFG
  ⟨0x071000, [(16, 48)], 0x0, 0xFFFFFFFF, 0x0, 0x0, 0x0, 0x0, 0x0⟩,  -- EST_STATE_W0
  ⟨0x071004, [(16, 48)], 0x0, 0xFFFFFFFF, 0x0, 0x0, 0x0, 0x0, 0x0⟩,  -- EST_STATE_W1
  ⟨0x071008, [(16, 48)], 0x0, 0xFFFFFFFF, 0x0, 0x0, 0x0, 0x0, 0x0⟩,  -- EST_STATE_W2
  ⟨0x07100C, [(16, 48)], 0x0, 0xFFFFFFFF, 0x0, 0x0, 0x0, 0x0, 0x0⟩ ]  -- EST_STATE_W3

/-- Block 0x08_0000. -/
def rows08 : List RegRow := [
  ⟨0x080000, [], 0x0, 0x3F3F3F3F, 0x0, 0x0, 0x0, 0x0, 0x3F000000⟩,  -- ENG_STAT
  ⟨0x080004, [], 0x0, 0xFFFFFFFF, 0x0, 0x0, 0x0, 0x0, 0x0⟩,  -- ENG_RETIRED
  ⟨0x080008, [], 0x0, 0xFFFFFFFF, 0x0, 0x0, 0x0, 0x0, 0x0⟩,  -- ENG_EXCSUM
  ⟨0x081000, [(64, 32)], 0x3, 0x0, 0x0, 0xF0000000, 0x0, 0x0, 0x0⟩,  -- ENG_PLCTL
  ⟨0x081004, [(64, 32)], 0x0, 0xE71F383F, 0x0, 0x0, 0x0, 0x0, 0x0⟩,  -- ENG_PLSTAT
  ⟨0x081008, [(64, 32)], 0x0, 0x0, 0x1F, 0x0, 0x0, 0x0, 0x0⟩,  -- ENG_PLFLT
  ⟨0x08100C, [(64, 32)], 0x0, 0xFFFFFFFF, 0x0, 0x0, 0x0, 0x0, 0x0⟩,  -- ENG_PLKID
  ⟨0x081010, [(64, 32)], 0x0, 0xFFFFFFFF, 0x0, 0x0, 0x0, 0x0, 0x0⟩,  -- ENG_PLKVER
  ⟨0x081014, [(64, 32)], 0x0, 0xFFFFFFFF, 0x0, 0x0, 0x0, 0x0, 0x0⟩,  -- ENG_PLRUN
  ⟨0x081018, [(64, 32)], 0x0, 0xFFFFFFFF, 0x0, 0x0, 0x0, 0x0, 0x0⟩,  -- ENG_PLEXC
  ⟨0x08101C, [(64, 32)], 0x0, 0xFFFFFFFF, 0x0, 0x0, 0x0, 0x0, 0x0⟩,  -- ENG_PLECC
  ⟨0x081020, [(64, 32)], 0x0, 0xFF001F, 0x0, 0x0, 0x0, 0x0, 0x0⟩,  -- ENG_PLDMA
  ⟨0x084000, [(16, 1024)], 0x0, 0xFFFF03FF, 0x0, 0x0, 0x0, 0x0, 0x0⟩,  -- ENG_EXR_W0
  ⟨0x084004, [(16, 1024)], 0x0, 0xFFFFFFFF, 0x0, 0x0, 0x0, 0x0, 0x0⟩,  -- ENG_EXR_W1
  ⟨0x084008, [(16, 1024)], 0x0, 0xFFFFFFFF, 0x0, 0x0, 0x0, 0x0, 0x0⟩,  -- ENG_EXR_W2
  ⟨0x08400C, [(16, 1024)], 0x0, 0xFFFFFFFF, 0x0, 0x0, 0x0, 0x0, 0x0⟩ ]  -- ENG_EXR_W3

/-- Block 0x0A_0000. -/
def rows0A : List RegRow := [
  ⟨0x0A0000, [], 0x0, 0x3FFF01, 0x0, 0x0, 0x0, 0x0, 0x0⟩,  -- FAB_STAT
  ⟨0x0A0004, [], 0x0, 0xFFFFFFFF, 0x0, 0x0, 0x0, 0x0, 0x0⟩,  -- FAB_LFAIL0
  ⟨0x0A0008, [], 0x0, 0xFFFFF, 0x0, 0x0, 0x0, 0x0, 0x0⟩,  -- FAB_LFAIL1
  ⟨0x0A000C, [], 0x0, 0x3FFFFFF, 0x0, 0x80000000, 0x0, 0x0, 0x0⟩,  -- FAB_SCLOSS
  ⟨0x0A0100, [(32, 8)], 0x0, 0x0, 0x0, 0x0, 0x0, 0xFFFFFFFF, 0x0⟩,  -- FAB_PRES
  ⟨0x0A0104, [(32, 8)], 0x0, 0xFFFFFFFF, 0x0, 0x0, 0x0, 0x0, 0x0⟩,  -- FAB_PUSE
  ⟨0x0A0108, [(32, 8)], 0x0, 0xFFFF000F, 0x0, 0x8000, 0x0, 0x0, 0x0⟩,  -- FAB_PDEC
  ⟨0x0A010C, [(32, 8)], 0x0, 0xFFFFFFFF, 0x0, 0x0, 0x0, 0x0, 0x0⟩,  -- FAB_PSUB
  ⟨0x0A0110, [(32, 8)], 0x0, 0xFFFFFFFF, 0x0, 0x0, 0x0, 0x0, 0x0⟩,  -- FAB_PPUB
  ⟨0x0A1000, [(256, 8), (8, 32), (4, 2)], 0x0, 0xFFFFFFFF, 0x0, 0x0, 0x0, 0x0, 0x0⟩,  -- FAB_SUB
  ⟨0x0A2000, [(256, 8), (8, 32), (4, 2)], 0x0, 0xFFFFFFFF, 0x0, 0x0, 0x0, 0x0, 0x0⟩ ]  -- FAB_PUB

/-- Block 0x0C_0000. -/
def rows0C : List RegRow := [
  ⟨0x0C0000, [], 0x0, 0x1F0FF1F, 0x0, 0x0, 0x0, 0x0, 0x100⟩,  -- CAD_STAT
  ⟨0x0C0004, [], 0x0, 0xFFFFFFFF, 0x0, 0x0, 0x0, 0x0, 0x0⟩,  -- CAD_DEEDNO
  ⟨0x0C0008, [], 0x0, 0xFFFFFFFF, 0x0, 0x0, 0x0, 0x0, 0x0⟩,  -- CAD_LASTEP
  ⟨0x0C000C, [], 0x0, 0xFFFFFF00, 0x0, 0x0, 0x0, 0x0, 0xFF00⟩,  -- CAD_LASTRES
  ⟨0x0C0040, [(32, 4)], 0x0, 0x3, 0x0, 0x0, 0x0, 0x0, 0x0⟩,  -- CAD_HOLD_W0
  ⟨0x0C0044, [(32, 4), (4, 4)], 0x0, 0xFFFFFFFF, 0x0, 0x0, 0x0, 0x0, 0x0⟩,  -- CAD_HOLD_D
  ⟨0x0C00C0, [(4, 16)], 0x0, 0xFFFFFFFF, 0x0, 0x0, 0x0, 0x0, 0x0⟩,  -- CAD_SKEY
  ⟨0x0C0100, [(64, 8)], 0x0, 0xC0FF3F00, 0x0, 0x0, 0x0, 0x3F, 0x0⟩,  -- CAD_PSTAT
  ⟨0x0C0104, [(64, 8)], 0x0, 0x0, 0x0, 0x0, 0x0, 0xFFFFFFFF, 0x0⟩,  -- CAD_PPERM0
  ⟨0x0C0108, [(64, 8)], 0x0, 0x0, 0x0, 0x0, 0x0, 0xFFFFF, 0x0⟩,  -- CAD_PPERM1
  ⟨0x0C010C, [(64, 8)], 0x0, 0x0, 0x0, 0x0, 0x0, 0x7F, 0x0⟩,  -- CAD_PFLAG
  ⟨0x0C0110, [(64, 8)], 0x0, 0x0, 0x0, 0x0, 0x0, 0x7FF03FF, 0x0⟩,  -- CAD_PCAP
  ⟨0x0C0114, [(64, 8)], 0x0, 0x0, 0x0, 0x0, 0x0, 0x1FF01FF, 0x0⟩,  -- CAD_PNV
  ⟨0x0C0118, [(64, 8)], 0x0, 0x0, 0x0, 0x0, 0x0, 0x7F, 0x0⟩,  -- CAD_PTRV
  ⟨0x0C011C, [(64, 8)], 0x0, 0xFFFFFFFF, 0x0, 0x0, 0x0, 0x0, 0x0⟩,  -- CAD_PSESS
  ⟨0x0C0120, [(64, 8)], 0x0, 0xFFFFFFFF, 0x0, 0x0, 0x0, 0x0, 0x0⟩,  -- CAD_PCNT
  ⟨0x0C0124, [(64, 8)], 0x0, 0xFFFF, 0x0, 0x80000000, 0x0, 0x0, 0x0⟩,  -- CAD_PAUTHF
  ⟨0x0C0400, [(16, 16)], 0x0, 0x0, 0x0, 0x0, 0x0, 0x31F77, 0x0⟩,  -- CAD_EASE_W0
  ⟨0x0C0404, [(16, 16)], 0x0, 0x0, 0x0, 0x0, 0x0, 0xFFFFFFFF, 0x0⟩,  -- CAD_EASE_W1
  ⟨0x0C0408, [(16, 16)], 0x0, 0x0, 0x0, 0x0, 0x0, 0xFFFFFFFF, 0x0⟩ ]  -- CAD_EASE_W2

/-- Block 0x10_0000. -/
def rows10 : List RegRow := [
  ⟨0x100000, [], 0x0, 0xFFF, 0x0, 0x0, 0x0, 0x0, 0x0⟩,  -- TRV_STAT
  ⟨0x100100, [(64, 4)], 0x1F3, 0x0, 0x0, 0xC0000000, 0x0, 0x0, 0x30⟩,  -- TRV_PCTL
  ⟨0x100104, [(64, 4)], 0x0, 0xE3330303, 0x0, 0x0, 0x0, 0x0, 0x0⟩,  -- TRV_PSTAT
  ⟨0x100108, [(64, 4)], 0xFFFF0000, 0xFF, 0x0, 0x0, 0x0, 0x0, 0x20640000⟩,  -- TRV_PERR
  ⟨0x10010C, [(64, 4)], 0x0, 0xFFFFFFFF, 0x0, 0x0, 0x0, 0x0, 0x0⟩,  -- TRV_PFRM
  ⟨0x100110, [(64, 4)], 0x0, 0xFFFFFFFF, 0x0, 0x0, 0x0, 0x0, 0x0⟩,  -- TRV_PLOC
  ⟨0x100114, [(64, 4)], 0x0, 0xFFFFFFFF, 0x0, 0x0, 0x0, 0x0, 0x0⟩,  -- TRV_PDUP
  ⟨0x100118, [(64, 4), (4, 2)], 0x0, 0xFFFFFFFF, 0x0, 0x0, 0x0, 0x0, 0x0⟩,  -- TRV_PLANE
  ⟨0x100120, [(64, 4)], 0x0, 0xFFFF00FF, 0x0, 0x0, 0x0, 0x0, 0x0⟩ ]  -- TRV_PQUAR

/-- Block 0x11_0000. -/
def rows11 : List RegRow := [
  ⟨0x110000, [], 0x7, 0x0, 0x0, 0x80000000, 0x0, 0x0, 0x4⟩,  -- NET_CTRL
  ⟨0x110004, [], 0x0, 0xFF000FFF, 0x0, 0x0, 0x0, 0x0, 0x0⟩,  -- NET_STAT
  ⟨0x110008, [], 0x0, 0x7F7F007F, 0x0, 0x0, 0x0, 0x0, 0x0⟩,  -- NET_SIZE
  ⟨0x11000C, [], 0x0, 0x803F003F, 0x0, 0x0, 0x0, 0x0, 0x0⟩,  -- NET_ENDS
  ⟨0x110010, [], 0x0, 0xFFFFFFFF, 0x0, 0x0, 0x0, 0x0, 0xFFFFFFFF⟩,  -- NET_BBOUND
  ⟨0x110014, [], 0x0, 0xFFFFFFFF, 0x0, 0x0, 0x0, 0x0, 0x0⟩,  -- NET_DISC
  ⟨0x110018, [], 0x0, 0x7F0003, 0x0, 0x0, 0x0, 0x0, 0x0⟩,  -- NET_RCSTAT
  ⟨0x11001C, [], 0x0, 0xFFFFFFFF, 0x0, 0x0, 0x0, 0x0, 0x0⟩,  -- NET_RCCYC
  ⟨0x110020, [], 0x1, 0xFFFF0000, 0x0, 0x0, 0x0, 0x0, 0x0⟩,  -- NET_CREF
  ⟨0x111000, [(16, 64), (4, 4)], 0x0, 0xFFFFFFFF, 0x0, 0x0, 0x0, 0x0, 0x0⟩ ]  -- NET_RC

/-- Block 0x12_0000. -/
def rows12 : List RegRow := [
  ⟨0x120000, [], 0xFF8D, 0x0, 0x0, 0x0, 0x0, 0x0, 0x1E00⟩,  -- DTM_CTRL
  ⟨0x120004, [], 0x0, 0xFFFF7F00, 0x0, 0x0, 0x0, 0x0, 0x7FF7F00⟩,  -- DTM_STAT
  ⟨0x120008, [], 0x0, 0xFFFFFFFF, 0x0, 0x0, 0x0, 0x0, 0x0⟩,  -- DTM_NOWLO
  ⟨0x12000C, [], 0x0, 0xFFFFFFFF, 0x0, 0x0, 0x0, 0x0, 0x0⟩,  -- DTM_NOWHI
  ⟨0x120010, [], 0x0, 0xFFFFFFFF, 0x0, 0x0, 0x0, 0x0, 0x0⟩,  -- DTM_OFS
  ⟨0x120014, [], 0x0, 0xFFFFFFFF, 0x0, 0x0, 0x0, 0x0, 0x0⟩,  -- DTM_FREQ
  ⟨0x120018, [], 0xFFFFFF, 0x0, 0x0, 0x0, 0x0, 0x0, 0x10140A⟩,  -- DTM_SERVO
  ⟨0x12001C, [], 0xFFFF, 0x0, 0x0, 0x0, 0x0, 0x0, 0xA⟩,  -- DTM_HOLD
  ⟨0x120020, [], 0xFFFFFFFF, 0x0, 0x0, 0x0, 0x0, 0x0, 0x0⟩,  -- DTM_TODLO
  ⟨0x120024, [], 0xFFFFFFFF, 0x0, 0x0, 0x0, 0x0, 0x0, 0x0⟩,  -- DTM_TODHI
  ⟨0x120028, [], 0x0, 0xFFFFFFFF, 0x0, 0x0, 0x0, 0x0, 0x0⟩,  -- DTM_EXT
  ⟨0x12002C, [], 0xFF000F, 0x0, 0x0, 0x0, 0x0, 0x0, 0x0⟩,  -- DTM_PTPCFG
  ⟨0x120030, [], 0x0, 0xFFFFFFFF, 0x0, 0x0, 0x0, 0x0, 0x0⟩,  -- DTM_PTPCNT
  ⟨0x120034, [], 0x0, 0xFFFFFF00, 0x0, 0x0, 0x0, 0x0, 0x0⟩,  -- DTM_EVT
  ⟨0x120040, [(4, 4)], 0x0, 0xFFFFFFFF, 0x0, 0x0, 0x0, 0x0, 0x0⟩,  -- DTM_LINK
  ⟨0x120050, [(4, 4)], 0xFFFF, 0x0, 0x0, 0x0, 0x0, 0x0, 0x0⟩ ]  -- DTM_ASYM

/-- Block 0x13_0000. -/
def rows13 : List RegRow := [
  ⟨0x130000, [], 0x0, 0xFFFFF6, 0x0, 0x0, 0x0, 0x0, 0x0⟩,  -- HST_SPISTAT
  ⟨0x130004, [], 0x0, 0xFFFFFFFF, 0x0, 0x0, 0x0, 0x0, 0x0⟩,  -- HST_SPICNT
  ⟨0x130010, [], 0xFFFF0001, 0x0, 0x0, 0x0, 0x0, 0x0, 0x88B50001⟩,  -- HST_ETHCFG
  ⟨0x130014, [], 0xFFFFFFFF, 0x0, 0x0, 0x0, 0x0, 0x0, 0x0⟩,  -- HST_MACLO
  ⟨0x130018, [], 0xFFFF, 0x0, 0x0, 0x0, 0x0, 0x0, 0x200⟩,  -- HST_MACHI
  ⟨0x130100, [(16, 4)], 0x0, 0xFFFFFFFF, 0x0, 0x0, 0x0, 0x0, 0x0⟩,  -- HST_ETHCNT_W0
  ⟨0x130104, [(16, 4)], 0x0, 0xFFFFFFFF, 0x0, 0x0, 0x0, 0x0, 0x0⟩,  -- HST_ETHCNT_W1
  ⟨0x130108, [(16, 4)], 0x0, 0xFFFFFFFF, 0x0, 0x0, 0x0, 0x0, 0x0⟩ ]  -- HST_ETHCNT_W2

/-- Block 0x14_0000. -/
def rows14 : List RegRow := [
  ⟨0x140000, [], 0x0, 0xFF000007, 0x0, 0x0, 0x0, 0x0, 0x0⟩,  -- SAF_STAT
  ⟨0x140004, [], 0x0, 0xFFFF0000, 0x0, 0x0, 0x0, 0x0, 0x0⟩,  -- SAF_CAUSE
  ⟨0x140008, [], 0x0, 0xFFFFFFFF, 0x0, 0x0, 0x0, 0x0, 0x0⟩,  -- SAF_CEPOCH
  ⟨0x14000C, [], 0x0, 0x803F003F, 0x0, 0x0, 0x0, 0x0, 0x0⟩,  -- SAF_OUT
  ⟨0x140010, [], 0x0, 0x0, 0x3F3F3F, 0x0, 0x0, 0x0, 0x0⟩,  -- SAF_RBF
  ⟨0x140014, [], 0x0, 0x0, 0x0, 0x0, 0x773F, 0x0, 0x0⟩,  -- SAF_OUTEN
  ⟨0x140018, [], 0x0, 0x0, 0x0, 0x0, 0x3FF01FF, 0x0, 0xA012C⟩,  -- SAF_OPT
  ⟨0x14001C, [], 0x0, 0x0, 0x0, 0x0, 0xFFFFF, 0x0, 0x82A00⟩,  -- SAF_CFG
  ⟨0x140020, [], 0x0, 0x0, 0x0, 0x0, 0xB3FF1FFF, 0x0, 0x140064⟩,  -- SAF_ENV0
  ⟨0x140024, [], 0x0, 0x0, 0x0, 0x0, 0xFFFFFFFF, 0x0, 0x320019⟩,  -- SAF_ENV1
  ⟨0x140028, [], 0x0, 0x0, 0x0, 0x0, 0x3FFF, 0x0, 0xC8⟩,  -- SAF_ENV2
  ⟨0x14002C, [], 0x0, 0x0, 0x0, 0x0, 0x3, 0x0, 0x0⟩,  -- SAF_CRQ
  ⟨0x140030, [], 0x0, 0x0, 0x0, 0x0, 0xFFFFFFFF, 0x0, 0x0⟩,  -- SAF_SI
  ⟨0x140034, [], 0x0, 0x0, 0x0, 0x0, 0x1FF01FF, 0x0, 0x640064⟩,  -- SAF_SIDT0
  ⟨0x140038, [], 0x0, 0x0, 0x0, 0x0, 0x1FF01FF, 0x0, 0x640064⟩,  -- SAF_SIDT1
  ⟨0x14003C, [], 0x0, 0x0, 0x0, 0x0, 0x3FF03FF, 0x0, 0x6400C8⟩,  -- SAF_TP
  ⟨0x140040, [], 0x0, 0xFFFF00FF, 0xFF00, 0x0, 0x0, 0x0, 0x0⟩,  -- SAF_SISTAT
  ⟨0x140044, [], 0x0, 0xC0FFFFFF, 0x0, 0x0, 0x0, 0x0, 0x0⟩,  -- SAF_SRST
  ⟨0x140048, [], 0x0, 0x0, 0x0, 0x0, 0x3F, 0x0, 0x5⟩,  -- SAF_SSVACT
  ⟨0x14004C, [], 0x0, 0xE0FFFFFF, 0x0, 0x0, 0x0, 0x0, 0x0⟩,  -- SAF_TOKEN
  ⟨0x140050, [], 0x0, 0xFFFFFFFF, 0x0, 0x0, 0x0, 0x0, 0x0⟩,  -- SAF_SCK
  ⟨0x140054, [], 0x0, 0xFFFFFFFF, 0x0, 0x0, 0x0, 0x0, 0x0⟩,  -- SAF_YCK
  ⟨0x140058, [], 0x0, 0xFFFFFFFF, 0x0, 0x0, 0x0, 0x0, 0x0⟩,  -- SAF_CKSUM
  ⟨0x14005C, [], 0x0, 0xC00000FF, 0x0, 0x0, 0x0, 0x0, 0x0⟩,  -- SAF_PWD
  ⟨0x140060, [], 0x0, 0x3F007F, 0x0, 0x0, 0x0, 0x0, 0x0⟩,  -- SAF_LOG
  ⟨0x140064, [], 0x0, 0xFFFFFFFF, 0x0, 0x0, 0x0, 0x0, 0x0⟩,  -- SAF_PDUERR
  ⟨0x140100, [(16, 8)], 0x0, 0x0, 0x0, 0x0, 0xFFFFFFFF, 0x0, 0x0⟩,  -- SAF_CONN_W0
  ⟨0x140104, [(16, 8)], 0x0, 0x0, 0x0, 0x0, 0x3FFFFF, 0x0, 0x200000⟩,  -- SAF_CONN_W1
  ⟨0x140108, [(16, 8)], 0x0, 0x0, 0x0, 0x0, 0x3FF03FF, 0x0, 0x640014⟩,  -- SAF_CONN_W2
  ⟨0x14010C, [(16, 8)], 0x0, 0xFFFFFFFF, 0x0, 0x0, 0x0, 0x0, 0x0⟩,  -- SAF_CONN_W3
  ⟨0x140200, [(64, 8), (4, 16)], 0x0, 0xFFFFFFFF, 0x0, 0x0, 0x0, 0x0, 0x0⟩ ]  -- SAF_RXD

/-- Block 0x15_0000. -/
def rows15 : List RegRow := [
  ⟨0x150000, [], 0x0, 0xFFFF3F07, 0x0, 0x0, 0x0, 0x0, 0x0⟩,  -- FLT_STAT
  ⟨0x150004, [], 0x0, 0x1FFFFF, 0x0, 0x0, 0x0, 0x0, 0x1F0000⟩,  -- FLT_HSEQ
  ⟨0x150008, [], 0x1, 0xFF0E, 0x0, 0x0, 0x0, 0x0, 0x0⟩,  -- FLT_TONE
  ⟨0x15000C, [], 0x0, 0x0, 0x0, 0x80000000, 0x0, 0x0, 0x0⟩,  -- FLT_CTRL
  ⟨0x150010, [], 0x0, 0xFFFFFFFF, 0x0, 0x0, 0x0, 0x0, 0x0⟩,  -- FLT_ISLSUM0
  ⟨0x150014, [], 0x0, 0xFFFFFFFF, 0x0, 0x0, 0x0, 0x0, 0x0⟩,  -- FLT_ISLSUM1
  ⟨0x150100, [(4, 64)], 0x0, 0x0, 0x3FF, 0x0, 0x0, 0x0, 0x0⟩,  -- FLT_ISL
  ⟨0x150400, [(16, 32)], 0x0, 0xFFFFFFFF, 0x0, 0x0, 0x0, 0x0, 0x0⟩,  -- FLT_HQ_W0
  ⟨0x150404, [(16, 32)], 0x0, 0xFFFFFFFF, 0x0, 0x0, 0x0, 0x0, 0x0⟩,  -- FLT_HQ_W1
  ⟨0x150408, [(16, 32)], 0x0, 0xFFFFFFFF, 0x0, 0x0, 0x0, 0x0, 0x0⟩,  -- FLT_HQ_W2
  ⟨0x15040C, [(16, 32)], 0x0, 0xFFFFFFFF, 0x0, 0x0, 0x0, 0x0, 0x0⟩ ]  -- FLT_HQ_W3

/-- Block 0x16_0000. -/
def rows16 : List RegRow := [
  ⟨0x160000, [], 0x0, 0x0, 0x7FF, 0x0, 0x0, 0x0, 0x4⟩,  -- RST_CAUSE
  ⟨0x160004, [], 0x0, 0xF000FF0F, 0x0, 0x0, 0x0, 0x0, 0x0⟩,  -- RST_STAT
  ⟨0x160008, [], 0x0, 0x0, 0x0, 0xC0000000, 0x0, 0x0, 0x0⟩,  -- RST_CTRL
  ⟨0x16000C, [], 0xFFFF, 0x0, 0x0, 0xFF000000, 0x0, 0x0, 0x3E8⟩,  -- RST_WDT
  ⟨0x160010, [], 0x0, 0xFFFFFFFF, 0x0, 0x0, 0x0, 0x0, 0x0⟩,  -- RST_CNT
  ⟨0x160040, [(4, 16)], 0xFFFFFFFF, 0x0, 0x0, 0x0, 0x0, 0x0, 0x0⟩,  -- RST_BKP
  ⟨0x160080, [(4, 8)], 0xFFFFFFFF, 0x0, 0x0, 0x0, 0x0, 0x0, 0x0⟩ ]  -- RST_SBK

/-- Block 0x17_0000. -/
def rows17 : List RegRow := [
  ⟨0x170000, [], 0x0, 0x3F00FF0F, 0x0, 0x0, 0x0, 0x0, 0x3F000000⟩,  -- BST_STAT
  ⟨0x170004, [], 0x0, 0xFFFFFFFF, 0x0, 0x0, 0x0, 0x0, 0x0⟩,  -- BST_PLFAIL
  ⟨0x170008, [], 0x83FF0000, 0x3F3F, 0x0, 0x0, 0x0, 0x0, 0x82580000⟩,  -- BST_ROT
  ⟨0x17000C, [], 0x0, 0xFFFFFFFF, 0x0, 0x0, 0x0, 0x0, 0x0⟩,  -- BST_ONL
  ⟨0x170010, [], 0x0, 0x3, 0x0, 0x80000000, 0x0, 0x0, 0x0⟩,  -- BST_CTL
  ⟨0x170014, [], 0x0, 0xC03F0000, 0x0, 0x0, 0x0, 0x0, 0x0⟩ ]  -- BST_LAST

/-- Block 0x18_0000. -/
def rows18 : List RegRow := [
  ⟨0x180000, [], 0x0, 0xFE00FFFF, 0x0, 0x0, 0x0, 0x0, 0x2000000⟩,  -- PWR_STAT
  ⟨0x180004, [], 0x40031FFF, 0x0, 0x0, 0x80000000, 0x0, 0x0, 0x14⟩,  -- PWR_CTRL
  ⟨0x180008, [], 0x0, 0xF, 0x0, 0x0, 0x0, 0x0, 0x0⟩,  -- PWR_DEG
  ⟨0x18000C, [], 0xFFFF0003, 0x0, 0x0, 0x0, 0x0, 0x0, 0x1⟩,  -- PWR_WAKE
  ⟨0x180010, [], 0x0, 0x0, 0x7, 0x0, 0x0, 0x0, 0x0⟩,  -- PWR_WCAUSE
  ⟨0x180014, [], 0x0, 0xFFFFFFFF, 0x0, 0x0, 0x0, 0x0, 0x0⟩,  -- PWR_ISLON0
  ⟨0x180018, [], 0x0, 0xFFFFFFFF, 0x0, 0x0, 0x0, 0x0, 0x0⟩,  -- PWR_ISLON1
  ⟨0x18001C, [], 0x0, 0xFFFFFFFF, 0x0, 0x0, 0x0, 0x0, 0x0⟩,  -- PWR_ISLDEG0
  ⟨0x180020, [], 0x0, 0xFFFFFFFF, 0x0, 0x0, 0x0, 0x0, 0x0⟩,  -- PWR_ISLDEG1
  ⟨0x180040, [(4, 4)], 0x0, 0xFFFFFFFF, 0x0, 0x0, 0x0, 0x0, 0x0⟩,  -- PWR_QP
  ⟨0x180050, [], 0x0, 0xFFFFFFFF, 0x0, 0x0, 0x0, 0x0, 0x0⟩,  -- PWR_CV0
  ⟨0x180054, [], 0x0, 0xFFFFF, 0x0, 0x0, 0x0, 0x0, 0x0⟩,  -- PWR_CV1
  ⟨0x180058, [], 0x0, 0xF1FFF, 0x0, 0x0, 0x0, 0x0, 0x0⟩ ]  -- PWR_MISC

/-- Block 0x19_0000. -/
def rows19 : List RegRow := [
  ⟨0x190000, [], 0x0, 0xFF07FF03, 0x0, 0x0, 0x0, 0x0, 0x0⟩,  -- THM_STAT
  ⟨0x190004, [], 0x7F, 0x0, 0x0, 0x0, 0x0, 0x0, 0xA⟩,  -- THM_CTRL
  ⟨0x190008, [], 0x0, 0x1FFFFF, 0x0, 0x0, 0x0, 0x0, 0x0⟩,  -- THM_WSUM
  ⟨0x19000C, [], 0x0, 0x1FFFFF, 0x0, 0x0, 0x0, 0x0, 0x0⟩,  -- THM_TSUM
  ⟨0x190010, [], 0x0, 0x1FFFFF, 0x0, 0x0, 0x0, 0x0, 0x0⟩,  -- THM_SSUM
  ⟨0x190014, [], 0x0, 0x30F, 0x0, 0x0, 0x0, 0x0, 0x0⟩,  -- THM_STEP
  ⟨0x190040, [(8, 8)], 0x0, 0xFFFFFFFF, 0x0, 0x0, 0x0, 0x0, 0x0⟩,  -- THM_SDLOG_W0
  ⟨0x190044, [(8, 8)], 0x0, 0xFFFF011F, 0x0, 0x0, 0x0, 0x0, 0x0⟩,  -- THM_SDLOG_W1
  ⟨0x190100, [(32, 21)], 0x0, 0xFFFF00F8, 0x0, 0x0, 0x0, 0x0, 0x0⟩,  -- THM_S_W0
  ⟨0x190104, [(32, 21)], 0xFFFF00FF, 0x0, 0x0, 0x0, 0x0, 0x0, 0x0⟩,  -- THM_S_W1
  ⟨0x190108, [(32, 21)], 0xFFFF00FF, 0x0, 0x0, 0x0, 0x0, 0x0, 0x0⟩,  -- THM_S_W2
  ⟨0x19010C, [(32, 21)], 0xFFFF00FF, 0x0, 0x0, 0x0, 0x0, 0x0, 0x0⟩,  -- THM_S_W3
  ⟨0x190110, [(32, 21)], 0xFFFF003F, 0x0, 0x0, 0x0, 0x0, 0x0, 0xA⟩,  -- THM_S_W4
  ⟨0x190114, [(32, 21)], 0x303, 0x0, 0x0, 0x0, 0x0, 0x0, 0x0⟩,  -- THM_S_W5
  ⟨0x190118, [(32, 21)], 0xFFFFFFFF, 0x0, 0x0, 0x0, 0x0, 0x0, 0x0⟩ ]  -- THM_S_W6

/-- Block 0x1A_0000. -/
def rows1A : List RegRow := [
  ⟨0x1A0000, [], 0x0, 0x7F000F, 0x0, 0x0, 0x0, 0x0, 0x0⟩,  -- NVM_STAT
  ⟨0x1A0004, [], 0x0, 0x0, 0x0, 0xF, 0x0, 0x0, 0x0⟩,  -- NVM_CNTINC
  ⟨0x1A0008, [], 0x0, 0xFFFFFFFF, 0x0, 0x0, 0x0, 0x0, 0x0⟩,  -- NVM_ECC
  ⟨0x1A0040, [(4, 16)], 0x0, 0xFFFFFFFF, 0x0, 0x0, 0x0, 0x0, 0x0⟩ ]  -- NVM_CNT

/-- Block 0x1B_0000. -/
def rows1B : List RegRow := [
  ⟨0x1B0000, [], 0x0, 0xE07FFFFF, 0x0, 0x0, 0x0, 0x0, 0x0⟩,  -- FLS_STAT
  ⟨0x1B0004, [], 0x0, 0x0, 0x0, 0xC0000000, 0x0, 0x0, 0x0⟩,  -- FLS_CTL
  ⟨0x1B0008, [], 0x0, 0x7F, 0x0, 0x0, 0x0, 0x0, 0x0⟩,  -- FLS_KSFREE
  ⟨0x1B0010, [(4, 4)], 0x0, 0xFFFFFFFF, 0x0, 0x0, 0x0, 0x0, 0x0⟩,  -- FLS_INCOMP
  ⟨0x1B0020, [], 0x0, 0xFFFFFFFF, 0x0, 0x0, 0x0, 0x0, 0x0⟩ ]  -- FLS_ECC

/-- Block 0x1C_0000. -/
def rows1C : List RegRow := [
  ⟨0x1C0000, [], 0x0, 0xFE00FFFF, 0x0, 0x0, 0x0, 0x0, 0x0⟩,  -- UPD_STAT
  ⟨0x1C0004, [], 0x0, 0xFFFFFFFF, 0x0, 0x0, 0x0, 0x0, 0x0⟩,  -- UPD_PTRSEQ
  ⟨0x1C0008, [], 0x0, 0xFFFFFFFF, 0x0, 0x0, 0x0, 0x0, 0x0⟩,  -- UPD_ACTVER
  ⟨0x1C000C, [], 0x0, 0xFFFFFFFF, 0x0, 0x0, 0x0, 0x0, 0x0⟩,  -- UPD_STGVER
  ⟨0x1C0010, [], 0x0, 0xFFFFFFFF, 0x0, 0x0, 0x0, 0x0, 0x0⟩,  -- UPD_MINVER
  ⟨0x1C0014, [], 0x0, 0xFFFFFFFF, 0x0, 0x0, 0x0, 0x0, 0x0⟩,  -- UPD_SESS
  ⟨0x1C0040, [], 0x3FF, 0x0, 0x0, 0x0, 0x0, 0x0, 0x3C⟩ ]  -- UPD_LEASE

/-- Block 0x1D_0000. -/
def rows1D : List RegRow := [
  ⟨0x1D0000, [], 0x0, 0xFF0001, 0x0, 0x0, 0x0, 0x0, 0x0⟩,  -- CAP_STAT
  ⟨0x1D0100, [(64, 16)], 0x0, 0x8FDFFFFF, 0x0, 0x0, 0x0, 0x0, 0xC00001⟩,  -- CAP_B_W0
  ⟨0x1D0104, [(64, 16)], 0x0, 0xFFFFFFFF, 0x0, 0x0, 0x0, 0x0, 0x0⟩,  -- CAP_B_W1
  ⟨0x1D0108, [(64, 16)], 0x0, 0xFFFFF, 0x0, 0x0, 0x0, 0x0, 0x0⟩,  -- CAP_B_W2
  ⟨0x1D010C, [(64, 16)], 0x0, 0x3FFFF, 0x0, 0x0, 0x0, 0x0, 0x0⟩,  -- CAP_B_W3
  ⟨0x1D0110, [(64, 16)], 0x0, 0x7FFFF, 0x0, 0x0, 0x0, 0x0, 0x0⟩,  -- CAP_B_W4
  ⟨0x1D0114, [(64, 16)], 0x0, 0xFFFFFFFF, 0x0, 0x0, 0x0, 0x0, 0x0⟩,  -- CAP_B_W5
  ⟨0x1D0118, [(64, 16)], 0x0, 0xFFC0FFFF, 0x0, 0x0, 0x0, 0x0, 0x0⟩,  -- CAP_B_W6
  ⟨0x1D011C, [(64, 16)], 0x0, 0xFFFFFFFF, 0x0, 0x0, 0x0, 0x0, 0x0⟩,  -- CAP_B_W7
  ⟨0x1D0120, [(64, 16)], 0x0, 0xFFFFFFFF, 0x0, 0x0, 0x0, 0x0, 0x0⟩,  -- CAP_B_W8
  ⟨0x1D0124, [(64, 16)], 0x0, 0xFFFFFFFF, 0x0, 0x0, 0x0, 0x0, 0x0⟩ ]  -- CAP_B_W9

/-- Block 0x1E_0000. -/
def rows1E : List RegRow := [
  ⟨0x1E0000, [(1024, 4)], 0x3FF8FFF, 0x0, 0x0, 0xC0000000, 0x0, 0x0, 0x640028⟩,  -- PEG_CTL
  ⟨0x1E0004, [(1024, 4)], 0x7F, 0x0, 0x0, 0x0, 0x0, 0x0, 0x5E⟩,  -- PEG_SENT
  ⟨0x1E0008, [(1024, 4)], 0x0, 0xFF1F0000, 0x0, 0x0, 0x0, 0x0, 0x0⟩,  -- PEG_STAT
  ⟨0x1E000C, [(1024, 4)], 0x0, 0xFFFFFFFF, 0x0, 0x0, 0x0, 0x0, 0x0⟩,  -- PEG_CNT
  ⟨0x1E0100, [(1024, 4), (8, 16), (4, 2)], 0x0, 0xFFFFFFFF, 0x0, 0x0, 0x0, 0x0, 0x0⟩,  -- PEG_NUM
  ⟨0x1E0200, [(1024, 4), (4, 16)], 0x0, 0x8FFFFFFF, 0x0, 0x0, 0x0, 0x0, 0x0⟩,  -- PEG_DAT
  ⟨0x1E0240, [(1024, 4), (4, 16)], 0x0, 0xFFFFFFFF, 0x0, 0x0, 0x0, 0x0, 0x0⟩,  -- PEG_EP
  ⟨0x1E0280, [(1024, 4), (4, 16)], 0x0, 0xFFFFFFFF, 0x0, 0x0, 0x0, 0x0, 0x0⟩ ]  -- PEG_SLOW

/-- The register rows of the block an address lies in (a block is 64 KiB). -/
def blockRows (b : Nat) : List RegRow :=
  match b with
  | 0x00 => rows00
  | 0x01 => rows01
  | 0x02 => rows02
  | 0x03 => rows03
  | 0x04 => rows04
  | 0x05 => rows05
  | 0x06 => rows06
  | 0x07 => rows07
  | 0x08 => rows08
  | 0x0A => rows0A
  | 0x0C => rows0C
  | 0x10 => rows10
  | 0x11 => rows11
  | 0x12 => rows12
  | 0x13 => rows13
  | 0x14 => rows14
  | 0x15 => rows15
  | 0x16 => rows16
  | 0x17 => rows17
  | 0x18 => rows18
  | 0x19 => rows19
  | 0x1A => rows1A
  | 0x1B => rows1B
  | 0x1C => rows1C
  | 0x1D => rows1D
  | 0x1E => rows1E
  | _ => []

/-- Whether the offset `o` is one of the words of an array with these dimensions. -/
def inDims : List (Nat × Nat) → Nat → Bool
  | [], o => o == 0
  | (stride, count) :: ds, o => decide (o / stride < count) && inDims ds (o % stride)

/-- Whether the row covers the address. -/
def RegRow.has (r : RegRow) (a : Nat) : Bool := decide (r.base ≤ a) && inDims r.dims (a - r.base)

/-- The register at an address, if the spec lists one there. -/
def findReg (a : Nat) : Option RegRow := (blockRows (a / 0x10000)).find? fun r => r.has a

/-- Reset of SWC_SEQk: the source codes and RAT of R110. -/
def seqReset (k : Nat) : Nat :=
  if k < 52 then k + 1
  else if k < 68 then 0x80 + (k - 52 + 0x35)
  else if k < 73 then 0x48 + (k - 68)
  else 0

/-- Reset of SWC_ISEQk (R134): TRIG, MUXA, TRIG, BGB, then idle. -/
def iseqReset (k : Nat) : Nat :=
  if k = 0 then 0x7F else if k = 1 then 0x4A else if k = 2 then 0x7F else if k = 3 then 0x48 else 0

/-- Reset of THM_Ss words 1 to 3 (R542): threshold in [31:16], hysteresis in [7:0]. -/
def thmReset (s w : Nat) : Nat :=
  let th := if s ≤ 16 then 0x7FFF
    else if s = 17 then (if w = 1 then 10000 else if w = 2 then 11000 else 12500)
    else (if w = 1 then 9500 else if w = 2 then 10500 else 12000)
  let hy := if w = 3 ∧ 17 ≤ s then 100 else 20
  th * 0x10000 + hy

/-- The value of a register word right after reset, as the spec's tables give it. Registers that report the variant,
NV or the factory's values are views of that state (`readReg`) and count as 0 here. -/
def resetNat (a : Nat) : Nat :=
  if 0x020100 ≤ a ∧ a < 0x020280 then seqReset ((a - 0x020100) / 4)
  else if 0x020280 ≤ a ∧ a < 0x0202A0 then iseqReset ((a - 0x020280) / 4)
  else if 0x190100 ≤ a ∧ a < 0x1903A0 ∧ 4 ≤ a % 0x20 ∧ a % 0x20 < 0x10 then
    thmReset ((a - 0x190100) / 0x20 + 1) (a % 0x20 / 4)
  else if a = 0x0C0100 then 0x80000002   -- CAD_PSTAT0: FORMED, NSLOT 2
  else if a = 0x0C0104 then 0xFFFFFFFF   -- CAD_PPERM00, CAD_PPERM10, CAD_PFLAG0: everything (R298, R327)
  else if a = 0x0C0108 then 0x000FFFFF
  else if a = 0x0C010C then 0x7F
  else if a = 0x0C0114 then 0x00400040   -- CAD_PNV0: 64 pages from page 64
  else match findReg a with
    | some r => r.rst
    | none => 0

/-- `resetNat` as a word: what an unlisted register reads as. -/
def resetWord (a : Nat) : Word := w32 (resetNat a)

end Sys2Proof.Machine
end

