-- ==== Sys2Proof/Machine/Smap.lean ====
section
/-! DEFINITION. Sparse contents: a list of (key, value) pairs in one canonical form (keys strictly rising, no
entry equal to what an unlisted key reads as), so that equal contents are equal data. Registers, byte memories and
per-unit records are all held so. -/
namespace Sys2Proof.Machine

/-- What key `k` holds; a key that is not listed holds `d k`. -/
def Smap.get {α : Type} (d : Nat → α) : List (Nat × α) → Nat → α
  | [], k => d k
  | (j, v) :: m, k => if j = k then v else Smap.get d m k

/-- The contents without an entry for `k`. -/
def Smap.erase {α : Type} : List (Nat × α) → Nat → List (Nat × α)
  | [], _ => []
  | (j, v) :: m, k => if j = k then Smap.erase m k else (j, v) :: Smap.erase m k

/-- The contents with an entry for `k`, keys kept rising. -/
def Smap.put {α : Type} : List (Nat × α) → Nat → α → List (Nat × α)
  | [], k, v => [(k, v)]
  | (j, u) :: m, k, v =>
    if k < j then (k, v) :: (j, u) :: m
    else if k = j then (k, v) :: m
    else (j, u) :: Smap.put m k v

/-- Writes `v` at `k`, keeping the canonical form: writing what an unlisted key reads as removes the entry. -/
def Smap.set {α : Type} [DecidableEq α] (d : Nat → α) (m : List (Nat × α)) (k : Nat) (v : α) : List (Nat × α) :=
  if v = d k then Smap.erase m k else Smap.put m k v

/-- Every key for which `p` holds goes back to what an unlisted key reads as. -/
def Smap.clear {α : Type} (m : List (Nat × α)) (p : Nat → Bool) : List (Nat × α) :=
  m.filter fun e => !p e.1

/-- The canonical form: keys strictly rising, no entry equal to the unlisted value. -/
abbrev Smap.wf {α : Type} [DecidableEq α] (d : Nat → α) (m : List (Nat × α)) : Prop :=
  m.Pairwise (fun a b => a.1 < b.1) ∧ ∀ e ∈ m, e.2 ≠ d e.1

end Sys2Proof.Machine
end

