-- ==== Sys2Proof/Machine/State.lean ====
section
/-! DEFINITION. The state of the station: its registers, and behind them the records of each unit that the rules of
the spec name, with the queue of commands that wait. Plain data throughout; every record's default values are its
values right after reset, so that `State.reset` names only what differs. -/
namespace Sys2Proof.Machine

/-- The three variants of the part (R1). -/
inductive Variant where
  | jx4880
  | jx4840
  | jx4810
  deriving DecidableEq, Repr

/-- What leaves the station or one of its halves, in the order it leaves: messages over the barrier, reply and other
packets, link blocks, frames to engines, pin changes. `ch` names the channel, `args` the numbers it carries and `data`
its bytes. The trace is the model's own record of what the rules send (assumption log 15). -/
inductive Chan where
  /-- a message of the system message stream (system half to stack half): kind, arguments -/
  | down
  /-- a message of the stack message stream (stack half to system half) -/
  | up
  /-- a reply packet: status, reason, wait, destination, tag, opcode, class, parcel, seqep; body -/
  | reply
  /-- a packet that the station originates: opcode, destination, class; payload -/
  | packet
  /-- a control block sent on a port: port, type; bytes 1 to 7. A frame: port, SOF, link header, aborted; body -/
  | block
  /-- the 66-bit blocks of a frame on the lanes of a port: port, then lane and word of each (R330, R331) -/
  | wire
  /-- a frame forwarded from one port to another: from, to, class; body -/
  | forward
  /-- a frame delivered to subscribers: source kind, source, items -/
  | stream
  /-- a pin: pin, level or duty -/
  | pin
  /-- the completion status of a register access: status, reason, value -/
  | status
  /-- an event of the sideband: bytes returned to the host -/
  | side
  /-- a peg line's drive: line, kind, arguments -/
  | peg
  deriving DecidableEq, Repr

structure Out where
  ch : Chan
  args : List Nat := []
  data : List Byte := []
  deriving DecidableEq, Repr

/-- A lane map that waits for its switch epoch (R32): sequence number, switch epoch, failed lanes. -/
structure LaneMap where
  seq : Nat := 0
  epoch : Nat := 0
  failed : Nat := 0
  deriving DecidableEq, Repr

/-- The barrier (R25 to R34) and the oscillator input (R36). Lane sets are bit masks, bit i for lane Bi. -/
structure Bar where
  failed : Nat := 0
  /-- consecutive good retests per failed lane, and when the lane was declared failed or retested last -/
  retests : List (Nat × Nat) := []
  retestAt : List (Nat × Nat) := []
  mapSeq : Nat := 0
  pend : Option LaneMap := none
  /-- the failed lanes of the maps that BRX and BTX use -/
  rxMap : Nat := 0
  txMap : Nat := 0
  /-- the stack half has reported the loss of the down streams -/
  downLost : Bool := false
  /-- safety-relevant messages being repeated until acknowledged (R28) -/
  repDown : List Nat := []
  repUp : List Nat := []
  /-- the first message frame that is not taken yet, per stream, counted in epochs of local time (R27) -/
  downNext : Nat := 0
  upNext : Nat := 0
  /-- the named return epoch of the sample clock (R34) -/
  clkReturn : Option Nat := none
  oscLost : Bool := false
  /-- since when the oscillator input has run without interruption -/
  oscSince : Nat := 0
  deriving DecidableEq, Repr

/-- Switched power domains (R44 to R48) and island steps (R35, R40). A domain's step is 0 off, 1 to 3 switching on
(supply switch closed; clock running; reset released), 4 on, 5 switching off (emptying), 6 isolated. -/
structure Dom where
  step : List (Nat × Nat) := []
  /-- a request that arrived while the domain was switching the other way: 1 on, 2 off -/
  want : List (Nat × Nat) := []
  /-- requests that wait for the inrush limit, in order of arrival -/
  wait : List Nat := []
  /-- when a domain that is switching entered its step, in local time -/
  at_ : List (Nat × Nat) := []
  /-- when recent domains began step 1: system-die domains and converter domains -/
  sysAt : List Nat := []
  cvAt : List Nat := []
  /-- frequency step of each island: 0 nominal, then its degraded steps -/
  isl : List (Nat × Nat) := []
  deriving DecidableEq, Repr

/-- One epoch inside the converters' 11-clock pipeline (R53): the epoch, its tag (R61) and the 52 words formed; whether it
was converted at the rate in force, the converter redirected at its aperture (R65; 0 for none), and the calibrated samples of
AX1 to AX4 with their OVR and EMS, for the reference decimator (R84). -/
structure PipeEnt where
  epoch : Nat := 0
  tag : Nat := 0
  words : List Nat := []
  conv : Bool := true
  chk : Nat := 0
  ax : List (Option (Int × Bool × Bool)) := []
  deriving DecidableEq, Repr

/-- A channel's averager (R70 to R74). -/
structure Avg where
  acc : Int := 0
  n : Nat := 0
  ovr : Bool := false
  ems : Bool := false
  /-- its samples have CHK -/
  chk : Bool := false
  stl : Option Nat := none
  /-- the window contains a change of rate -/
  cut : Bool := false
  /-- the window has ended and its word is not formed yet -/
  full : Bool := false
  deriving DecidableEq, Repr

/-- A calibration in progress (R88). `phase`: 0 waits for REF_SETTLED, 1 settling on CALLO, 2 averaging it, 3 settling on
CALHI, 4 averaging it, 5 settling on the channel's own input (step 6). -/
structure Cal where
  ch : Nat := 0
  phase : Nat := 0
  since : Nat := 0
  sumLo : Int := 0
  nLo : Nat := 0
  sumHi : Int := 0
  nHi : Nat := 0
  sweepLo : Option Int := none
  sweepHi : Option Int := none
  unsettled : Bool := false
  deriving DecidableEq, Repr

/-- A CROSS round in progress (R77 to R79): its number, the epoch at which it ends, and over the epochs on which both words
are valid the sums of the CHK words and of the partner's own words, and their count. -/
structure XRound where
  r : Nat := 0
  stop : Nat := 0
  chk : Int := 0
  own : Int := 0
  n : Nat := 0
  deriving DecidableEq, Repr

/-- The main converters behind the SMP registers (R53 to R104). -/
structure Smp where
  pipe : List PipeEnt := []
  avg : List (Nat × Avg) := []
  /-- the epoch that has left the pipeline last, with its words: what the next sample frame carries -/
  frame : PipeEnt := {}
  /-- first epoch at which a channel is settled again -/
  settle : List (Nat × Nat) := []
  /-- last epoch that the burst detector marks, per channel -/
  ems : List (Nat × Nat) := []
  /-- configuration writes that wait: boundary epoch, address, word, in order of arrival -/
  pend : List (Nat × Nat × Word) := []
  cal : Option Cal := none
  calLast : Nat := 0
  calNext : Nat := 1
  /-- the CROSS round in progress -/
  xr : Option XRound := none
  /-- dither periods converted at a rate that gives 8 samples, per AX channel -/
  dith : List (Nat × Nat) := []
  /-- reference decimator: a block is in progress, the block, the last epoch taken, sum, count, OVR, EMS -/
  refRun : Bool := false
  refB : Nat := 0
  refE : Nat := 0
  refSum : Int := 0
  refN : Nat := 0
  refOvr : Bool := false
  refEms : Bool := false
  /-- reference messages that wait to leave, at most two -/
  refQ : List Nat := []
  /-- the boundary epoch at which a channel's averager setting changed last -/
  avgAt : List (Nat × Nat) := []
  /-- a thermal step in force: rate code of R60, 0 for none (R534) -/
  thermRate : Nat := 0
  deriving DecidableEq, Repr

/-- The sweep converter behind the SWC registers (R105 to R134). -/
structure Swp where
  /-- the round in progress: its start epoch, the next regular slot; none between rounds -/
  round : Option (Nat × Nat) := none
  /-- a round start met a running injected sequence that began from idle -/
  roundHeld : Bool := false
  /-- low 4 bits of the count of rounds and of injected sequences -/
  rnd : Nat := 0
  inj : Nat := 0
  /-- the injected sequence running: next slot and TRIG cell -/
  injOn : Bool := false
  injIdx : Nat := 0
  injCell : Nat := 0
  injFromIdle : Bool := false
  /-- the epoch in which the last sequence was triggered and the priority of the trigger that named the cell, for merging in
  one epoch; the epoch after the last integration epoch of the sequence, once it has no further slot -/
  injEpoch : Option Nat := none
  injPri : Nat := 0
  injStop : Nat := 0
  /-- an SSV trigger of a start is held (R115) -/
  heldSsv : Bool := false
  /-- the epoch at which the slot in progress started; a calibration slot runs -/
  slotAt : Nat := 0
  inCal : Bool := false
  /-- the words of the slot's channel in the integration window so far: epoch, code, usable (R122) -/
  win : List (Nat × Int × Bool) := []
  /-- the slot's reference has been unsettled during the integration; its threshold DAC was changed or driven -/
  uns : Bool := false
  dacMoved : Bool := false
  /-- a calibration slot waits: 1 CALLO, 2 CALHI -/
  calSlot : Nat := 0
  /-- settling: since when REF_SETTLED is awaited, whether a MUXA result inside its window is still needed -/
  refAt : Nat := 0
  refTimed : Bool := false
  refMuxa : Bool := false
  refFault : Bool := false
  ratAt : Nat := 0
  /-- consecutive failing rounds of BGB, SHORT and MUXA, and what this round has seen: bit 0 judged, bit 1 failed -/
  cnt : List (Nat × Nat) := []
  seen : List (Nat × Nat) := []
  /-- channels whose disagreement is pending (R124), bit n - 1 -/
  pendDis : Nat := 0
  /-- safety-set changes of SWC_CTRL, SWC_SEQk, SWC_ISEQk and SWC_REF that wait for a round start (R111) -/
  pendSet : List (Nat × Word) := []
  /-- EN is to become 0 at the first round start (R111) -/
  offNext : Bool := false
  deriving DecidableEq, Repr

/-- The comparators behind the CMP registers (R125 to R129); keys 2n for OVn, 2n + 1 for UVn. -/
structure Cmp where
  count : List (Nat × Nat) := []
  asserted : List (Nat × Bool) := []
  /-- the comparator under test -/
  test : Option Nat := none
  testAt : Nat := 0
  deriving DecidableEq, Repr

/-- The balance scheduler behind the BAL registers (R144 to R150). Times in ns of local time. -/
structure Bal where
  /-- ticks of the 1 s tick since stack-half reset -/
  tick : Nat := 0
  /-- on-time accumulators in 3.125 ns steps, and since when a switch has been closed without excitation -/
  acc : List (Nat × Nat) := []
  since : List (Nat × Nat) := []
  /-- cells that the scheduler has closed -/
  sched : List Nat := []
  /-- cells whose switch follows the pattern generator now (R160 row 3) -/
  driven : List Nat := []
  /-- the first epoch at which a neighbour of a switch that has opened may close (R144) -/
  opened : List (Nat × Nat) := []
  /-- the counter that bleed-state and excitation bias messages share (R179) -/
  seq : Nat := 0
  /-- requests are suspended in sleep (R148) -/
  asleep : Bool := false
  deriving DecidableEq, Repr

/-- One cell under excitation (R155 to R158): modulation depth in 1/1,024, bias in 1/256, consecutive blocks without live
feedback, and whether its depth is clamped; then the 3.125 ns step up to which its closed time is counted, and the
on-samples and off-samples of the block so far (R157). -/
structure ExcCell where
  m : Nat := 0
  bias : Nat := 0
  dead : Nat := 0
  sat : Bool := false
  pos : Nat := 0
  onN : Nat := 0
  offN : Nat := 0
  deriving DecidableEq, Repr

/-- The settings of one run of the pattern generator, fixed from its start (R151 to R154): shape and carrier codes, biases
in 1/256, order and chip length of the PRBS, and the enabled tones with grid index, weight and phase. -/
structure ExcSet where
  shape : Nat := 0
  carrier : Nat := 0
  bias : Nat := 0
  balbias : Nat := 0
  order : Nat := 10
  chipM1 : Nat := 0
  tones : List (Nat × Nat × Nat) := []
  deriving DecidableEq, Repr

/-- The pattern generator behind the EXC registers (R151 to R159). -/
structure Exc where
  start : Nat := 0
  /-- the block in progress: its start epoch -/
  blk : Nat := 0
  cells : List (Nat × ExcCell) := []
  /-- the settings of the present or last run -/
  set : ExcSet := {}
  /-- after a stop: the carrier boundary at which the switches return to the scheduler (R159) -/
  retAt : Option Nat := none
  /-- the PRBS register and the carrier periods of the present chip already used, at the start of the block -/
  lfsr : Nat := 0
  chip : Nat := 0
  deriving DecidableEq, Repr


/-- A phasor, real and imaginary part. -/
structure Phasor where
  re : Int := 0
  im : Int := 0
  deriving DecidableEq, Repr

/-- The profile service behind the PRF registers (R165 to R200). Points are keyed 10000 q + 100 n + i for the instance of
parcel q, cell n and point i; a tenant instance's registers are keyed 2^24 q + address. -/
structure Prf where
  ten : List (Nat × Word) := []
  /-- configuration that waits for its second: datum second, parcel, address, word -/
  pend : List (Nat × Nat × Nat × Word) := []
  /-- first datum second from which a point's windows are whole -/
  since : List (Nat × Nat) := []
  /-- switch changes (R180): cell, epoch; sequence gaps: epoch -/
  changes : List (Nat × Nat) := []
  gaps : List Nat := []
  /-- the window of a point that may complete next (R166), by its number -/
  next : List (Nat × Nat) := []
  /-- the sequence number expected next -/
  seqNext : Option Nat := none
  /-- voltage and current phasors of the delivered windows of a point, newest first (R185) -/
  hist : List (Nat × List (Phasor × Phasor)) := []
  /-- when a cell's derived set was written last, key 100 q + n, datum ns -/
  derAt : List (Nat × Nat) := []
  /-- readers' shadows (R195), key 2^24 r + address -/
  shadow : List (Nat × Word) := []
  deriving DecidableEq, Repr


/-- One epoch's words as the services receive them (R26, R61): the tag, the 52 words, and for each tenant with a SAMPLES
subscription its channels, bit n - 1 for channel n (R196, R220). -/
structure SvcFrame where
  tag : Nat := 0
  words : List Nat := []
  heard : List (Nat × Nat) := []
  deriving DecidableEq, Repr

/-- A block of a current reference stream as it arrives (R84 to R86): station, block index and length in epochs, COH, the
content, the datum ns of its arrival, and the tenants that subscribe to it. -/
structure SvcRef where
  stn : Nat := 0
  blk : Nat := 0
  d : Nat := 20
  coh : Bool := false
  word : Nat := 0
  arr : Nat := 0
  heard : List Nat := []
  deriving DecidableEq, Repr

/-- A run of excitation as the services read it at its start epoch (R170): the settings, and for each cell its first bias
in 1/256 and the epoch at which it left the excitation, none while it is excited. -/
structure SvcRun where
  start : Nat := 0
  set : ExcSet := {}
  cells : List (Nat × Nat × Option Nat) := []
  deriving DecidableEq, Repr

/-- An excitation status message (R157): cell, start epoch of its block, M, I_on in 10 uA, datum ns of its arrival, and the
tenants with a BLEED subscription. -/
structure SvcStat where
  cell : Nat := 0
  blk : Nat := 0
  m : Nat := 0
  ion : Nat := 0
  arr : Nat := 0
  heard : List Nat := []
  deriving DecidableEq, Repr

/-- What the profile service and the estimator have received and still need, oldest first (R170, R175, R205): sample words,
reference blocks, runs of excitation, status messages, the bias messages (cell, epoch, BALBIAS or BIAS in force), and the
switch changes that bleed-state messages report (cell, epoch, closed). -/
structure Svc where
  frames : List SvcFrame := []
  refs : List SvcRef := []
  runs : List SvcRun := []
  stats : List SvcStat := []
  bias : List (Nat × Nat × Bool) := []
  bleed : List (Nat × Nat × Bool) := []
  deriving DecidableEq, Repr


/-- One estimated cell (R201, R209 to R218). Times in ns of datum. -/
structure EstCell where
  /-- shells, electrolyte and thermal states, in the filter's own units -/
  comps : List Int := []
  soc : Nat := 0
  capr : Nat := 0
  rgr : Nat := 0
  /-- core temperature in 0.01 degrees and its variance in 1e-4 K^2 -/
  tfus : Int := 0
  var : Nat := 0
  socsd : Nat := 0
  capsd : Nat := 0
  mss : Nat := 0
  conv : Nat := 0
  convAt : Nat := 0
  val : Bool := false
  /-- flags of the publication interval in progress -/
  pred : Bool := false
  ilost : Bool := false
  nco : Bool := false
  plt : Bool := false
  msh : Bool := false
  wrn : Bool := false
  thr : Bool := false
  predN : Nat := 0
  /-- since when the plating condition has held, or its opposite -/
  pltAt : Option Nat := none
  clrAt : Option Nat := none
  mshUp : Nat := 0
  mshDn : Nat := 0
  /-- the derived set whose TINT was used last, by its time -/
  tintAt : Nat := 0
  /-- when the cell was last balancing with RBP 0 (R208) -/
  balAt : Option Nat := none
  /-- THR driven by TFUS (R217) -/
  thrT : Bool := false
  /-- since when the cell current has stayed within CAPNOM / 100 A (R211) -/
  restAt : Option Nat := none
  /-- the TYPE whose parameters the cell uses -/
  type : Nat := 0
  /-- over the last 24 h, per step: its end, and twice SOC less twice the median SOC, in 1e-8 (R212) -/
  hist : List (Nat × Int) := []
  /-- the last anchor's SOC in 1e-8 with the charge since in pA ns, and when the capacity was last updated (R209) -/
  anchor : Option (Int × Int) := none
  capAt : Nat := 0
  deriving DecidableEq, Repr

/-- A snapshot copy in NV (R214): what R211 starts a cell from. -/
structure EstSnap where
  seq : Nat := 0
  time : Nat := 0
  ok : Bool := true
  /-- cell, SOC, CAPR, RGR, MSS, SOCSD -/
  recs : List (Nat × Nat × Nat × Nat × Nat × Nat) := []
  deriving DecidableEq, Repr

/-- The estimator behind the EST registers. Cells are keyed 100 q + n for parcel q's instance. -/
structure Est where
  cells : List (Nat × EstCell) := []
  /-- parameter sets in force, key 4 q + TYPE -/
  params : List (Nat × List Byte) := []
  /-- sets and seeds that wait: datum ns; parcel, type, bytes; parcel, cell, SOC, CAPR -/
  pendPar : List (Nat × Nat × Nat × List Byte) := []
  pendSeed : List (Nat × Nat × Nat × Nat × Nat) := []
  snapAt : Nat := 0
  /-- per instance: the datum ns of the last step's end, the last publication interval, and the local times of the last
  resistance update and micro-short evaluation -/
  stepAt : List (Nat × Nat) := []
  pubAt : List (Nat × Nat) := []
  resAt : List (Nat × Nat) := []
  mssAt : List (Nat × Nat) := []
  deriving DecidableEq, Repr


/-- One level of an engine's loop stack (R237): body addresses and passes left. -/
structure LoopLv where
  first : Nat := 0
  last : Nat := 0
  left : Nat := 0
  deriving DecidableEq, Repr

/-- A class M binding's decimation (R291): level, frames since it last changed, offered frames in a row that entered
without being held, and the frame held. -/
structure Dec where
  q : Nat := 0
  cnt : Nat := 0
  good : Nat := 0
  held : Option (List Word) := none
  deriving DecidableEq, Repr

/-- One engine (R226 to R229, R252). `st`: 0 OFF, 1 IDLE, 2 READY, 3 RUNNING, 4 HALTED, 5 EXCEPTION. `stall`: 0 none, 1 an
item, 2 room, 3 WAIT, 4 BAR, 5 FENCE, 6 BAR completed, 7 being moved, 8 room in the store buffer. Registers and memories are sparse; an unlisted place holds 0. -/
structure Eng where
  st : Nat := 0
  stall : Nat := 0
  g : List (Nat × Word) := []
  ac : List (Nat × Acc) := []
  pc : Nat := 0
  lnk : Nat := 0
  loops : List LoopLv := []
  inc : Nat := 0
  ph : Nat := 0
  sflags : Nat := 0
  /-- latched HI partners, by register number (R228) -/
  latch : List (Nat × Nat) := []
  drop0 : Nat := 0
  drop1 : Nat := 0
  wdog : Nat := 0
  /-- the datum at which the watchdog count began; while the engine does not run, the ns it has counted (R255) -/
  wdogAt : Nat := 0
  wdogUsed : Nat := 0
  imem : List (Nat × Word) := []
  dmem : List (Nat × Byte) := []
  /-- shared stores not yet visible to the plot (R242), and how many of them the posted-store buffer still holds (R241) -/
  posted : List (Nat × Byte) := []
  buf : Nat := 0
  /-- cycles counted since the last start (R228) -/
  cyc : Nat := 0
  /-- the kernel: store key 8 q + index plus 1, identity, SAFETY, PARALLEL, warm-up, entry and initial WDOG -/
  key : Nat := 0
  kid : Nat := 0
  safety : Bool := false
  par : Bool := false
  warm : Nat := 0
  entry : Nat := 0
  wdog0 : Nat := 0
  /-- the instance within the plot, and the place in it -/
  inst : Nat := 0
  /-- bindings: subscription entries of IN0 and IN1, publication entry of OUT -/
  bin0 : Option Nat := none
  bin1 : Option Nat := none
  bout : Option Nat := none
  /-- input queues; a flag marks the first item of a frame -/
  q0 : List (Bool × Word) := []
  q1 : List (Bool × Word) := []
  dec0 : Dec := {}
  dec1 : Dec := {}
  /-- the open output frame, and its items that the fabric has not accepted yet -/
  out : List Word := []
  isOpen : Bool := false
  fill : Nat := 0
  startAt : Nat := 0
  /-- an item or a descriptor completion has arrived since WAIT began -/
  wake : Bool := false
  barx : Bool := false
  /-- an asynchronous DMA exception waits for the engine to run again, with its descriptor's address -/
  dmaExc : Option Nat := none
  /-- the stall to return to after a move (R267); output suppressed during a warm-up (R268) -/
  saved : Nat := 0
  mute : Bool := false
  deriving DecidableEq, Repr

/-- A descriptor in a plot's DMA queue (R247, R249): the engine, its address, and whether its transfer runs. -/
structure Desc where
  eng : Nat := 0
  adr : Nat := 0
  running : Bool := false
  deriving DecidableEq, Repr

/-- A plot's shared memory, DMA queue and thermal shutdown. -/
structure Plot where
  mem : List (Nat × Byte) := []
  dma : List Desc := []
  shut : Bool := false
  deriving DecidableEq, Repr

/-- A kernel image in the store (R554): its bytes and flash sectors. -/
structure KImg where
  bytes : List Byte := []
  sects : List Nat := []
  deriving DecidableEq, Repr

/-- A staging session of a parcel, or the firmware's (R431, R432). -/
structure Sess where
  id : Nat := 0
  total : Nat := 0
  target : Nat := 0
  acc : Nat := 0
  data : List Byte := []
  sects : List Nat := []
  at_ : Nat := 0
  lastOff : Nat := 0
  lastLen : Nat := 0
  deriving DecidableEq, Repr

/-- A load between acceptance and READY (R266): the request, none at cadastre restore; the epoch field; the plots with
their engine masks; the store key; when it was accepted. -/
structure Load where
  req : Option Packet := none
  field : Nat := 0
  plots : List (Nat × Nat) := []
  key : Nat := 0
  at_ : Nat := 0
  deriving DecidableEq, Repr

/-- A move of a slot between plots (R267, R268). `phase`: 0 waits for the freeze or the start, 1 copying or warming up. -/
structure Move where
  q : Nat := 0
  slot : Nat := 0
  src : Nat := 0
  dst : Nat := 0
  parallel : Bool := false
  phase : Nat := 0
  epoch : Nat := 0
  /-- the plot is under test after the move; otherwise the slot goes home -/
  test : Bool := true
  deriving DecidableEq, Repr

/-- The engine array behind the ENG registers. Engines are keyed 32 p + e. -/
structure Array_ where
  engs : List (Nat × Eng) := []
  plots : List (Nat × Plot) := []
  /-- the plot of a slot plus 1, key 32 q + slot; 0 while it is unplaced -/
  place : List (Nat × Nat) := []
  /-- kernels recorded by the cadastre: store key plus 1, key 1024 q + 32 slot + e -/
  kern : List (Nat × Nat) := []
  stages : List (Nat × Sess) := []
  loads : List Load := []
  move : Option Move := none
  /-- instances loaded so far -/
  instCtr : Nat := 0
  deriving DecidableEq, Repr

/-- A frame on its way to an engine's input port (R281 to R284): engine, port, subscription entry, class, the publication it
comes from (32 q + index + 1; 0 for the station's own sources), its items, and whether it was closed as aborted. -/
structure Flight where
  eng : Nat := 0
  port : Nat := 0
  ent : Nat := 0
  cls : Nat := 0
  pub : Nat := 0
  items : List Word := []
  aborted : Bool := false
  deriving DecidableEq, Repr

/-- The stream tables' pending changes (R286): effect epoch, parcel, table, index, words. The tables in force are the
FAB_SUB and FAB_PUB registers. -/
structure Fab where
  pend : List (Nat × Nat × Nat × Nat × Word × Word) := []
  /-- link retests passed in a row -/
  retests : List (Nat × Nat) := []
  /-- local times of the last retests -/
  retestAt : List (Nat × Nat) := []
  /-- the last integration epoch of each sweep slot, by its number in the result message -/
  slotEnd : List (Nat × Nat) := []
  /-- frames that have set out and not arrived, oldest first -/
  flight : List Flight := []
  /-- frames delivered and discarded per subscription entry, key 32 q + index -/
  got : List (Nat × Nat) := []
  lost : List (Nat × Nat) := []
  deriving DecidableEq, Repr


/-- One parcel of a cadastre record (R297, R302). -/
structure CadParcel where
  formed : Bool := false
  nslot : Nat := 0
  mres : Nat := 0
  bres : Nat := 0
  dres : Nat := 0
  tres : Nat := 0
  capbase : Nat := 0
  capsz : Nat := 0
  nvbase : Nat := 0
  nvcnt : Nat := 0
  chan : Nat := 0
  grant : Nat := 0
  key : List Byte := []
  deriving DecidableEq, Repr

/-- A cadastre record as NV holds it (R318): its write number and check, the deed it carries, parcels by number (an
unlisted P0 is formed with 2 slots and 64 NV pages, R304), easements by number (the three words of R327), and the memory
still to be scrubbed: 0 and a MiB of capture memory, or 1 and an NV page. -/
structure CadRec where
  seq : Nat := 0
  ok : Bool := true
  deed : Nat := 0
  par : List (Nat × CadParcel) := []
  ease : List (Nat × (Nat × Nat × Nat)) := []
  scrub : List (Nat × Nat) := []
  deriving DecidableEq, Repr

/-- An accepted deed until its effect epoch (R318): its request, record, founding page, and the effect epoch once its
commit is complete. -/
structure Deed where
  req : Packet := {}
  new : CadRec := {}
  page0 : List Byte := []
  epoch : Option Nat := none
  deriving DecidableEq, Repr

/-- What the cadastre holds behind the CAD registers (R297 to R327). Keys are parcel numbers unless said otherwise. -/
structure Cad where
  /-- authentication keys, 32 bytes; empty for none -/
  keys : List (Nat × List Byte) := []
  /-- the window of accepted counts: bit i for HI - i (R321) -/
  seen : List (Nat × Nat) := []
  /-- times of the tag failures of the last second -/
  failAt : List (Nat × List Nat) := []
  /-- the record in force -/
  now : CadRec := {}
  deed : Option Deed := none
  /-- since when the scrub runs (R305) -/
  scrubAt : Nat := 0
  deriving DecidableEq, Repr


/-- A frame on its way (R335, R336): packet (1) or roll-call (2), class, copy bit, origin, hops remaining, sequence number,
whether it is this station's own, whether it ends in ABORT, and its body. [DEDUCED, log 99] -/
structure Frame where
  ftype : Nat := 1
  cls : Nat := 1
  copy : Bool := false
  origin : Nat := 0
  ttl : Nat := 127
  fseq : Nat := 0
  own : Bool := true
  abort : Bool := false
  body : List Byte := []
  deriving DecidableEq, Repr

/-- The last MARK content of a port (R373): consecutive cycles with a valid one, SYNC, DEPTH, U, the parts of the cycle
number that have arrived in a row, and the cycle number they spell. -/
structure PortMark where
  n : Nat := 0
  sync : Bool := false
  depth : Nat := 127
  u : Nat := 255
  parts : List (Nat × Nat) := []
  cycle : Option Nat := none
  /-- the last cycle with a valid MARK that shows SYNC -/
  at_ : Nat := 0
  deriving DecidableEq, Repr

/-- What a port holds beside its TRV registers. Times in ns of local time; lane sets are bit masks. -/
structure Port where
  /-- frames that wait to leave, in order of arrival -/
  tx : List Frame := []
  /-- the port accepts frames: a MARK has arrived since it entered RUN -/
  acc : Bool := false
  /-- lanes that have shown a MARK since HUNT -/
  marked : Nat := 0
  huntAt : Nat := 0
  leakAt : Nat := 0
  /-- training: its start, trial rate, first lock and last TCNT and good blocks in a row of each lane, own and far RXOK,
  READY blocks seen in a row, STEP being sent, and whether the training follows reset or a RETRAIN -/
  trainAt : Nat := 0
  trial : Nat := 0
  lockAt : List (Nat × Nat) := []
  tcnt : List (Nat × Nat) := []
  good : List (Nat × Nat) := []
  rxok : Nat := 0
  farRx : Nat := 0
  ready : Nat := 0
  step : Bool := false
  fresh : Bool := true
  quarAt : List Nat := []
  mark : PortMark := {}
  /-- the sequence number of the DLY request that awaits its response, and the measurements, newest first -/
  dlySeq : Nat := 0
  dlyWait : Bool := false
  dly : List Nat := []
  /-- the use in force (R351, R352): MODE as the last training took it -/
  mode : Nat := 0
  /-- the last 58 scrambled bits received on each lane (R331) -/
  desc : List (Nat × Nat) := []
  /-- the frame in reception: its link header and its body so far -/
  rx : Option (Nat × List Byte) := none
  /-- when the port's counters were last cleared (R359) -/
  quarClr : Nat := 0
  /-- the roll-call window (R372): arrival of the last roll-call frame in its cycle, and the last cycle whose frame passed -/
  rcOfs : Option Nat := none
  rcCyc : Nat := 0
  deriving DecidableEq, Repr

/-- The ports, the frames accepted lately (origin, sequence number, time; R343), and this station's sequence number. -/
structure Trv where
  ports : List (Nat × Port) := []
  recent : List (Nat × Nat × Nat) := []
  fseq : Nat := 0
  deriving DecidableEq, Repr

/-- One record of a SURVEY (R366, R423). -/
structure SurvRec where
  serial : Nat := 0
  prev : Option Nat := none
  tie : Bool := false
  dsel : Bool := false
  root : Bool := false
  seen : List Nat := []
  deriving DecidableEq, Repr

/-- A survey that is out: ring (0 traverse, 1 tie ring), port, when it left, and the records of a first direction that did
not return. -/
structure Survey where
  ring : Nat := 0
  port : Nat := 0
  at_ : Nat := 0
  second : Bool := false
  recs : List SurvRec := []
  deriving DecidableEq, Repr

/-- An ASSIGN that waits for its effect cycle. -/
structure Assigned where
  cycle : Nat := 0
  addr : Nat := 0
  n : Nat := 0
  datum : Nat := 0
  orig : Bool := false
  tie : Bool := false
  deriving DecidableEq, Repr

/-- A barrier at its initiator or on its way (R395). -/
structure Barr where
  req : Packet := {}
  b : Nat := 0
  deriving DecidableEq, Repr

/-- An armed snapshot (R392): its request and epoch, and what was captured: tag, words, COH. -/
structure Snap where
  req : Packet := {}
  epoch : Nat := 0
  got : Option (Nat × List Nat × Bool) := none
  /-- when the capture was complete -/
  at_ : Nat := 0
  deriving DecidableEq, Repr

/-- Addressing, discovery, roll-call, barriers, snapshots and the current reference stream (R362 to R396). -/
structure Net where
  /-- in SYAO: the address last held and the group set -/
  prev : Option Nat := none
  groups : Nat := 0
  /-- an origin's table of serial and position, and the root's of serial and traverse index -/
  table : List (Nat × Nat) := []
  travs : List (Nat × Nat) := []
  survey : Option Survey := none
  /-- the root's discovery: 0 none, 1 own traverse, 2 tie ring, 3 results awaited; since when; the records of its own
  traverse, of the tie ring, and what each tie station reported -/
  phase : Nat := 0
  phaseAt : Nat := 0
  own : List SurvRec := []
  ties : List SurvRec := []
  results : List (Nat × List SurvRec) := []
  assigned : List Assigned := []
  datum : Nat := 0
  /-- an origin owes a survey at the next cycle boundary, the root one of the tie ring (R369) -/
  again : Bool := false
  againTie : Bool := false
  /-- address of this traverse's origin -/
  orig : Nat := 0
  /-- roll-call: time of the last good copy, the last cycle forwarded, the cycle being merged, positions' last presence, an
  empty slot is owed for a missed deadline -/
  rcAt : Nat := 0
  rcEver : Bool := false
  rcLast : Nat := 0
  rcCycle : Nat := 0
  rcBuf : List (Nat × List Byte) := []
  rcSeen : List (Nat × Nat) := []
  rcMiss : Bool := false
  rcSkip : Option Nat := none
  /-- this station's own entry, as computed at the last cycle start; the bytes of the merged frame -/
  rcOwn : List Byte := []
  rcImage : List Byte := []
  /-- mean codes of the last cycle's words per cell, and the sums being taken -/
  rcMean : List (Nat × Nat) := []
  rcSum : List (Nat × (Int × Nat)) := []
  /-- barrier number waiting until the commands accepted before it are complete, the last one reached, the initiator's own,
  a held collect token -/
  barPend : Option Nat := none
  barAt : Nat := 0
  bar : Nat := 0
  barOwn : Option Barr := none
  token : Option (Nat × List Nat) := none
  /-- a survey of the tie ring has passed, with the serials of the tie stations before this one (R367); a duplicate root has
  yielded; when the root last computed the broadcast bounds (R391) -/
  tieSeen : Bool := false
  tieBefore : List Nat := []
  boundAt : Nat := 0
  yielded : Bool := false
  snaps : List Snap := []
  /-- current reference blocks that wait to be broadcast: index, COH, word -/
  cref : List (Nat × Bool × Word) := []
  /-- the last block delivered per station: its index and its length in epochs -/
  crefSeen : List (Nat × Nat × Nat) := []
  deriving DecidableEq, Repr

/-- The datum servo behind the DTM registers (R382 to R390). Offsets in 1/1,024 ns. -/
structure Dtm where
  offs : List Int := []
  /-- offsets in a row within LOCKTHR, beyond UNLK, since the state was entered -/
  inN : Nat := 0
  outN : Nat := 0
  missed : Nat := 0
  stepped : Bool := false
  /-- HOLD: since when (local ns), U at entry -/
  holdAt : Nat := 0
  holdU : Nat := 0
  /-- datum station: waiting for its reference since; the reference is in force -/
  waitAt : Option Nat := none
  running : Bool := false
  refOk : Bool := false
  /-- PPS: the last edge, edges missed in a row, an armed value -/
  ppsAt : Option Nat := none
  ppsMiss : Nat := 0
  ppsArm : Option Nat := none
  /-- a Sync that awaits its Follow_Up: sequence and arrival -/
  sync : Option (Nat × Nat) := none
  nowHi : Word := 0
  /-- frequency corrections of the last second with their times -/
  freqs : List (Nat × Int) := []
  /-- the external reference lies beyond 1 s -/
  far : Bool := false
  /-- IEEE 1588: t1 and t2 of the last Sync, the Delay_Req that awaits its answer with its time, the mean path delay, and
  the transparent clock's residence times by kind, sequence number and port -/
  ptpT1 : Int := 0
  ptpT2 : Int := 0
  ptpReq : Option (Nat × Nat) := none
  ptpSeq : Nat := 0
  ptpDelay : Int := 0
  ptpRes : List (Nat × Nat × Nat × Nat) := []
  deriving DecidableEq, Repr

/-- A flash operation (R551 to R553): 1 an erase, 2 the programming of units of 256 bytes; its sector; what is sent when
it ends. -/
structure FlsOp where
  op : Nat := 1
  sector : Nat := 0
  units : Nat := 0
  reply : Option (Packet × List Byte) := none
  deriving DecidableEq, Repr

/-- The flash controller and the firmware session. -/
structure Fls where
  ops : List FlsOp := []
  /-- suspended by command -/
  susp : Bool := false
  /-- last access, for R520 -/
  at_ : Nat := 0
  sess : Option Sess := none
  deriving DecidableEq, Repr

/-- What a capture buffer holds beside its CAP registers (R563 to R568): configuration words that wait, their epoch; the
records written, those still to write after the trigger; the open block: its index, sequence number, first epoch and
records. -/
structure CapBuf where
  pend : List (Nat × List Word) := []
  post : Nat := 0
  hit : Bool := false
  blk : Nat := 0
  blks : Nat := 0
  seq : Nat := 0
  e0 : Nat := 0
  n : Nat := 0
  tag : Nat := 0
  isOpen : Bool := false
  deriving DecidableEq, Repr

/-- Capture memory and its buffers. -/
structure Cap where
  dram : List (Nat × Byte) := []
  bufs : List (Nat × CapBuf) := []
  deriving DecidableEq, Repr


/-- A request that waits in a class queue of the CP (R417). -/
structure Held where
  pkt : Packet := {}
  at_ : Nat := 0
  /-- the interim DEFERRED, QUEUED reply has been sent -/
  interim : Bool := false
  deriving DecidableEq, Repr

/-- The command processor's queues, the origination queue and its budgets (R416, R417). -/
structure Cp where
  q1 : List Held := []
  q2 : List Held := []
  q3 : List Held := []
  /-- packets that wait for a later cycle's budget -/
  orig : List Packet := []
  /-- bytes the class 1 token bucket holds -/
  tok1 : Nat := 2068
  /-- class 0 packets and HEARTBEAT replies originated in this cycle, and the sources answered -/
  c0 : Nat := 0
  hb : Nat := 0
  hbSrc : List Nat := []
  /-- bytes each tenant parcel may still send in this cycle -/
  tenTok : List (Nat × Nat) := []
  /-- TAGs of requests of this station that await a reply -/
  await : List Nat := []
  deriving DecidableEq, Repr

/-- The SPI sideband (R355): packets not yet taken, and replies, oldest first. -/
structure Hst where
  rx : List (List Byte) := []
  replies : List (List Byte) := []
  /-- replies beyond the eight places -/
  backlog : List (List Byte) := []
  /-- Ethernet source address and tag (0 for none) of the last request of a port with a TAG, key 65536 p + TAG (R354) -/
  peers : List (Nat × (Nat × Nat)) := []
  deriving DecidableEq, Repr

/-- Hidden state of one dual-contact input pair (R452); its state nibble and contacts are in SAF_SISTAT. -/
structure Pair where
  /-- both contacts were not made when the pair entered DISCREP -/
  fromNone : Bool := false
  discAt : Nat := 0
  faultAt : Nat := 0
  /-- since when both contacts have been not made -/
  noneAt : Option Nat := some 0
  deriving DecidableEq, Repr

/-- Hidden state of one black-channel connection (R462 to R465); LIVE, VALID, SEQF and CRCF are in SAF_CONNk. -/
structure Conn where
  lastSeq : Option Nat := none
  lastAt : Nat := 0
  /-- times of the CRC failures inside the sliding window of R464 -/
  crcAt : List Nat := []
  /-- demand and request bits of the last valid DEMAND PDU -/
  dem : Nat := 0
  /-- its time limit has passed since the last valid PDU -/
  late : Bool := false
  /-- a producer's next SEQ, when its next PDU is due, and the peer's session and count -/
  pSeq : Nat := 0
  nextAt : Nat := 0
  pSess : Nat := 0
  pCount : Nat := 0
  fetchAt : Nat := 0
  deriving DecidableEq, Repr

/-- The safety output controller's state behind the SAF registers (R437 to R461). -/
structure Soc where
  /-- last valid kernel SEQ since SOC last entered SAFE -/
  kSeq : Option Nat := none
  kAt : Nat := 0
  /-- a valid kernel frame has arrived since SOC last entered SAFE -/
  kSeen : Bool := false
  /-- a valid kernel frame has arrived since the release of the system half -/
  kEver : Bool := false
  kDem : Nat := 0
  /-- SCS-1 has been accepted and waits for the next 10 us boundary -/
  rampPend : Bool := false
  rampAt : Nat := 0
  i0 : Nat := 0
  low : Nat := 0
  noVal : Nat := 0
  /-- the words of the safety current channel in the interval in progress (R447) -/
  ivl : List Word20 := []
  /-- the last three complete intervals, newest first; none for an interval without a value -/
  vals : List (Option Nat) := []
  srstSeen : Bool := false
  srstAt : Nat := 0
  /-- since when the SRST land has been low while JAMMED -/
  srstLowAt : Option Nat := none
  pairs : List (Nat × Pair) := []
  startAt : Nat := 0
  /-- the off-pulse in progress: output and when it began -/
  pulse : Option (Nat × Nat) := none
  pulseAt : List (Nat × Nat) := []
  lastPulse : Option Nat := none
  demAt : Option Nat := none
  /-- consecutive readbacks per output and kind: key 4 x output + kind -/
  rb : List (Nat × Nat) := []
  /-- drivers that turned themselves off in current limit until their demand falls to 0 (R604) -/
  selfOff : Nat := 0
  /-- drivers whose enable has stopped toggling (R438) -/
  togStop : Nat := 0
  /-- outputs that read on in the last readback -/
  readOn : Nat := 0
  tokSeq : Nat := 0
  peerSeq : Option Nat := none
  peerAt : Nat := 0
  /-- when the system half last withdrew its RUN or ended a start handshake -/
  dropAt : Option Nat := none
  conns : List (Nat × Conn) := []
  /-- both halves hold the committed safety set (R467, R496) -/
  setOk : Bool := false
  deriving DecidableEq, Repr

/-- The stack-side supervisor (R455 to R459). `st`: 0 HOLD, 1 STARTING, 2 RUN, 3 FAULT, 4 SLEEP (R456). -/
structure Ssv where
  st : Nat := 0
  run : Bool := false
  cause : Nat := 0
  /-- the stack half's copy of SAF_SSVACT (R466) -/
  act : Word := 5
  backstop : Option Nat := none
  /-- its BAL_FORCE CMD source is held (R457) -/
  cmd : Bool := false
  /-- what a start waits for: 0 nothing, 1 the injected sequence, 2 the next regular round -/
  judge : Nat := 0
  /-- the regular round awaited has begun -/
  roundOn : Bool := false
  /-- a BGB, SHORT or MUXA result has been judged; one of them failed -/
  seen : Bool := false
  bad : Bool := false
  tokSeq : Nat := 0
  peerSeq : Option Nat := none
  peerAt : Nat := 0
  dropAt : Option Nat := none
  deriving DecidableEq, Repr

/-- Attempts at the safety password, held in SYAO (R471): consecutive wrong ones and since when LOCKOUT holds. -/
structure Pwd where
  fails : Nat := 0
  lockAt : Option Nat := none
  deriving DecidableEq, Repr

/-- A committed safety set record (R469): its sequence number, whether its check passes, the RWS words by address, and
what its header holds. -/
structure SafRec where
  seq : Nat := 0
  ok : Bool := true
  words : List (Nat × Word) := []
  sck : Nat := 0
  yck : Nat := 0
  ck : Nat := 0
  oldCk : Nat := 0
  time : Nat := 0
  src : Nat := 0
  nreg : Nat := 0
  first : Nat := 0
  deriving DecidableEq, Repr

/-- One change log entry (R472). -/
structure LogEnt where
  seq : Nat := 0
  time : Nat := 0
  oldCk : Nat := 0
  newCk : Nat := 0
  src : Nat := 0
  kind : Nat := 0
  nreg : Nat := 0
  first : Nat := 0
  deriving DecidableEq, Repr

/-- The open safety-set change (R468, R469). `phase`: 0 open, 1 its record is being committed, 2 its switch epoch is
named. -/
structure SafChange where
  handle : Nat := 0
  at_ : Nat := 0
  staged : List (Nat × Word) := []
  phase : Nat := 0
  newRec : SafRec := {}
  epoch : Nat := 0
  req : Packet := {}
  deriving DecidableEq, Repr

/-- An event on its way to the fault collector: code, class (1 F2, 2 F1, 3 F0), island and PARAM (R479). -/
structure FltEv where
  code : Nat := 0
  cls : Nat := 0
  isl : Nat := 0
  param : Nat := 0
  /-- the local time at which it reaches the collector -/
  at_ : Nat := 0
  deriving DecidableEq, Repr

/-- The fault collector and the stack-die event queue (R479 to R487). -/
structure Flt where
  /-- events that have reached the collector and are not yet taken -/
  arriving : List FltEv := []
  /-- the open entry is open since, and its class -/
  openAt : Nat := 0
  openCls : Nat := 0
  /-- the class of the last raise of 0x0B (R483) -/
  cls0B : Nat := 3
  deriving DecidableEq, Repr

/-- The fault tone in the stack core (R488 to R491). -/
structure Tone where
  level : Bool := true
  tog : Bool := false
  /-- the stack half's copy of FLT_TONE.HEAD -/
  head : Bool := false
  /-- the last edge of FTIN, and how many good half-periods in a row it ends -/
  edgeAt : Option Nat := none
  good : Nat := 0
  ever : Bool := false
  inGood : Bool := false
  healthAt : Nat := 0
  health : Bool := false
  deriving DecidableEq, Repr

/-- Resets in progress and the release order (R492 to R501). -/
structure Rst where
  /-- the system half is held in reset: when it began, and 0 none, 1 SYS-POR, 2 SYS-COLD, 3 SYS-WARM -/
  scope : Nat := 0
  since : Nat := 0
  /-- requests absorbed by a reset in progress (R493) -/
  absorbed : Nat := 0
  /-- the stack half is released -/
  stackUp : Bool := false
  /-- the watchdog's last restart -/
  kickAt : Nat := 0
  /-- a lockstep mismatch awaits its warm reset since -/
  lockAt : Option Nat := none
  /-- scheduled RESETs: epoch, kind, plot or port (R394) -/
  sched : List (Nat × Nat × Nat) := []
  /-- a stack reset message is on its way (R492) -/
  stackMsg : Bool := false
  /-- the safety set's load has been tried in this release; the CP failed its last self-test (R504) -/
  setTried : Bool := false
  cpFailed : Bool := false
  stepAt : Nat := 0
  /-- the CP is held in reset by a failed self-test; the fabric; P0's plots (R504) -/
  cpHeld : Bool := false
  fabHeld : Bool := false
  p0Held : Bool := false
  held : List Nat := []
  /-- no firmware bank was acceptable (R501 step 5) -/
  noImage : Bool := false
  deriving DecidableEq, Repr

/-- The online test through the spare (R505 to R509). Times in ns of local time. -/
structure Bst where
  /-- when the last visit started, and when a deferred one was tried last -/
  visitAt : Option Nat := none
  triedAt : Option Nat := none
  /-- the parcel whose slot the plot under visit held, plus 1, and the slot; 0 for a test in place -/
  parcel : Nat := 0
  slot : Nat := 0
  /-- the plot that was shut down thermally under test -/
  aband : Option Nat := none
  deriving DecidableEq, Repr

/-- The housekeeping behind the THM registers (R528 to R536). -/
structure Thm where
  /-- sensors that have been valid since reset, bit s - 1 -/
  ever : Nat := 0
  /-- usable results of TS and DIETEMP slots: sensor, local time, RAT, D -/
  acc : List (Nat × Nat × Nat × Int) := []
  /-- temperatures of the last rounds per sensor, newest first; none while invalid -/
  hist : List (Nat × List (Option Int)) := []
  /-- rounds in a row with the rate at or below RLIM, and rounds in a row without validity -/
  calm : List (Nat × Nat) := []
  inval : List (Nat × Nat) := []
  /-- shutdown records that wait in SYAO for NV: second, temperature, sensor, reaction -/
  waitSd : List (Nat × Nat × Nat × Nat) := []
  /-- when the plot step and the converter step last moved -/
  plotAt : Nat := 0
  /-- the datum time of the last round -/
  roundAt : Nat := 0
  convAt : Nat := 0
  deriving DecidableEq, Repr

/-- Service states and sleep behind the PWR registers (R521 to R526). Times in ns of local time. -/
structure Pwr where
  /-- since when a good roll-call has been merged in every cycle, and the last such cycle -/
  goodAt : Option Nat := none
  goodCyc : Nat := 0
  /-- the 10 s of RECOVERY have been completed -/
  served : Bool := false
  /-- TLOSS counts since; the startup loss of R521 holds -/
  lossAt : Option Nat := none
  startLoss : Bool := false
  /-- sleep is pending since, its notice was sent, AUXEN went low -/
  pendAt : Option Nat := none
  noticeAt : Option Nat := none
  auxAt : Option Nat := none
  /-- release step 8 began, step 10 was completed -/
  step8 : Option Nat := none
  step10 : Option Nat := none
  deriving DecidableEq, Repr

/-- SLEEP and WAKE in the stack core (R525, R527): entry to SLEEP, WAKE asserted since, released since. -/
structure Stao where
  sleepAt : Nat := 0
  wakeAt : Option Nat := none
  offAt : Option Nat := none
  /-- a comparator's filtered state has become 1 in SLEEP; balance timers ran at entry -/
  cmpRose : Bool := false
  balRan : Bool := false
  deriving DecidableEq, Repr

/-- A commit that the journal runs, or that waits for it (R547, R548). `kind`: 0 a parcel's page buffer, 1 an estimator
snapshot, 2 a safety record, 3 a deed's cadastre, 4 a parameter set of the estimator, 5 another system commit, 6 a holder
record with its reply, 7 the cadastre after a scrub. -/
structure NvJob where
  kind : Nat := 0
  q : Nat := 0
  /-- pages with their images -/
  pages : List (Nat × List Byte) := []
  snap : EstSnap := {}
  ptype : Nat := 0
  pbytes : List Byte := []
  cad : CadRec := {}
  /-- for kind 5: kernels recorded (R266), configuration registers, retired plots, a shutdown record -/
  kern : Option (List (Nat × Nat)) := none
  cfg : List (Nat × Word) := []
  retired : Option Nat := none
  sd : Option (Nat × Nat × Nat × Nat) := none
  req : Packet := {}
  deriving DecidableEq, Repr

/-- The bank pointer (R557). -/
structure BankPtr where
  seq : Nat := 0
  active : Nat := 0
  pstate : Nat := 0
  stage : Nat := 0
  tbase : Nat := 0
  minver : Nat := 0
  vera : Nat := 0
  verb : Nat := 0
  deriving DecidableEq, Repr

/-- What survives a loss of power (R543 to R562). [DESIGN CHOICE, log 9] -/
structure Nv where
  /-- the bytes of page 0 and of the parcel regions, by NV byte address; the system pages are the records below -/
  bytes : List (Nat × Byte) := []
  /-- whether the founding extension's digest verifies (R544); page 0's CRC is the controller's own -/
  foundOk : Bool := true
  /-- SMP_CAL words of the founding extension (R87), by channel -/
  cal : List (Nat × Word) := []
  /-- trims of the founding extension (R528, R529): V0 in uV and S in nV/°C of the stack-die sensor, the pull-ups of the
  NTC inputs in mOhm where they differ from 10.0 kOhm -/
  dieV0 : Nat := 800000
  dieS : Nat := 2000000
  ntcRp : List (Nat × Nat) := []
  /-- the bleed-sense trims of the founding extension in ppm, by cell (R170, R544) -/
  bleedTrim : List (Nat × Int) := []
  /-- the two cadastre copies (R318) -/
  cadA : Option CadRec := some {}
  cadB : Option CadRec := none
  /-- the two committed copies of the safety set (R467) -/
  safA : Option SafRec := none
  safB : Option SafRec := none
  /-- the safety change log: 64 places, the entry numbers not yet acknowledged (R472) -/
  log : List (Nat × LogEnt) := []
  logNext : Nat := 0
  logUnack : Nat := 0
  /-- salt and hash of the safety password; empty while the default stands (R471) -/
  pwSalt : List Byte := []
  pwHash : List Byte := []
  /-- the estimator's snapshot copies and parameter sets in P0's region (R203, R214) -/
  snapA : Option EstSnap := none
  snapB : Option EstSnap := none
  estPar : List (Nat × List Byte) := []
  /-- station configuration: port, HEAD and THM registers that are kept (R351, R491, R536) -/
  cfg : List (Nat × Word) := []
  /-- retired plots (R300, R504) -/
  retired : Nat := 0
  /-- cell temperature shutdown records, newest last: second, temperature, sensor, reaction (R536) -/
  sdlog : List (Nat × Nat × Nat × Nat) := []
  /-- the commit journal: 0 free, 1 being written, 2 durable and being copied (R547) -/
  jphase : Nat := 0
  /-- the commit that runs, then those that wait -/
  jobs : List NvJob := []
  /-- NV counters (R550) -/
  cnt : List (Nat × Nat) := []
  /-- bank pointer copies, flash bytes, the erase record and the incomplete-sector bitmap (R551, R552, R557) -/
  ptrA : Option BankPtr := some {}
  ptrB : Option BankPtr := none
  flash : List (Nat × Byte) := []
  eraseRec : Option Nat := none
  incomp : Nat := 0
  /-- the kernel store by key 8 q + index, and its sectors that wait for their erase (R554) -/
  kstore : List (Nat × KImg) := []
  ksErase : List Nat := []
  kern : List (Nat × Nat) := []
  deriving DecidableEq, Repr

/-- The parcel page buffer (R546): its pages with their copies, and when it was last written. -/
structure NvBuf where
  owner : Nat := 0
  pages : List (Nat × List Byte) := []
  at_ : Nat := 0
  deriving DecidableEq, Repr


/-- A search request on a peg line (R588 to R590): the nibbles fixed for the next pass from nibble 15 on, the stack of
branches (nibble, occupied values still to follow), the numbers verified, the number that the last pass found, and whether
its first pass is still to come. -/
structure PegSearch where
  path : List Nat := []
  stack : List (Nat × Nat) := []
  nums : List Nat := []
  cur : Option Nat := none
  first : Bool := true
  deriving DecidableEq, Repr

/-- A peg line behind its PEG registers (R575 to R593). Times in ns of local time. -/
structure PegLine where
  /-- since when POWER-UP or FAULT lasts; the start of the last polling round -/
  at_ : Nat := 0
  roundAt : Option Nat := none
  search : Option PegSearch := none
  /-- the short address whose reply is awaited; a frame is in progress -/
  read : Option Nat := none
  part : Bool := false
  /-- READs in a row without an answer, by short address -/
  miss : List (Nat × Nat) := []
  /-- slow messages in assembly: short address, bits so far, value -/
  slow : List (Nat × Nat × Nat) := []
  /-- SENT: the last calibration in 100 ns, and bits 3 and 2 of the status nibbles of the last frames, newest first -/
  cal : Nat := 0
  hist : List (Bool × Bool) := []
  /-- SENT: the next interval is the pause pulse after a complete frame (R592) -/
  pause : Bool := false
  deriving DecidableEq, Repr


/-- Why the machine stops. No rule of the spec stops the station, so no meaning answers with a fault; the one
constructor stands for a queue entry that is not a command of the spec. -/
inductive Fault where
  /-- raised by no meaning; safe -/
  | none
  deriving DecidableEq, Repr

/-- Why a command is not executed. -/
inductive Refusal where
  /-- answered by a dispatch arm whose command has no meaning yet; safe -/
  | notModelled (mnemonic : String)
  deriving DecidableEq, Repr

/-- The whole state of one station. [DESIGN CHOICE, log 159] -/
structure State where
  /-- the commands that wait, first in first out -/
  pending : List Instr := []
  variant : Variant := .jx4880
  /-- datum time in ns -/
  now : Nat := 0
  /-- local time in ns since power-on, which no datum step changes -/
  lt : Nat := 0
  /-- when each periodic duty last ran: by number, local time; for one tied to epochs, the epoch last served plus 1 -/
  duty : List (Nat × Nat) := []
  /-- the level of the SRST land -/
  srstHigh : Bool := false
  /-- the model's own counter of free values drawn -/
  freeCtr : Nat := 0
  /-- the registers that differ from their reset values, by address -/
  regs : List (Nat × Word) := []
  /-- what has left the station, oldest first -/
  out : List Out := []
  bar : Bar := {}
  dom : Dom := {}
  smp : Smp := {}
  swp : Swp := {}
  cmp : Cmp := {}
  bal : Bal := {}
  exc : Exc := {}
  prf : Prf := {}
  svc : Svc := {}
  est : Est := {}
  arr : Array_ := {}
  fab : Fab := {}
  soc : Soc := {}
  ssv : Ssv := {}
  flt : Flt := {}
  /-- the queue of stack-die events (R479) -/
  stackQ : List FltEv := []
  tone : Tone := {}
  rst : Rst := {}
  bst : Bst := {}
  cp : Cp := {}
  hst : Hst := {}
  cad : Cad := {}
  nv : Nv := {}
  fls : Fls := {}
  cap : Cap := {}
  nvBuf : Option NvBuf := none
  thm : Thm := {}
  pwr : Pwr := {}
  stao : Stao := {}
  change : Option SafChange := none
  pwd : Pwd := {}
  peg : List (Nat × PegLine) := []
  trv : Trv := {}
  net : Net := {}
  dtm : Dtm := {}
  /-- the sample frame that the system half received last -/
  rx : PipeEnt := {}
  deriving DecidableEq, Repr

/-- The station right after power-on of both halves: nothing released, every register at the value its table gives,
NV as delivered (DESIGN CHOICE; assumption log 6, 8 and 9). [DESIGN CHOICE, log 6] [DESIGN CHOICE, log 8] -/
def State.reset : State := {}

end Sys2Proof.Machine
end

