-- ==== Sys2Proof/Machine/Ops.lean ====
section
/-! DEFINITION. The operations every unit shares: reading and writing registers and their fields (R15 to R17), time,
the output trace, raising a fault source (R479 to R483), replies (R408 to R412), and `run`, the form of every
command's meaning. -/
namespace Sys2Proof.Machine

/-- A command's meaning: the state it leaves, with the queue of waiting commands and the fabricated variant (R1)
untouched whatever the command does. [DEDUCED, log 2] [DESIGN CHOICE, log 5] -/
def run (f : State → State) (s : State) : Host.Outcome State Fault Refusal :=
  .next { f s with pending := s.pending, variant := s.variant }

/-! ## Registers -/

/-- The stored word of a register; a register that is not listed holds its reset value. -/
def State.reg (s : State) (a : Nat) : Word := Smap.get resetWord s.regs a

def State.setReg (s : State) (a : Nat) (v : Word) : State :=
  { s with regs := Smap.set resetWord s.regs a v }

/-- The value of a register field. -/
def State.fg (s : State) (f : Fld) : Nat := bitsOf (s.reg f.adr).toNat f.lo f.w

/-- Sets a register field. -/
def State.fs (s : State) (f : Fld) (v : Nat) : State :=
  s.setReg f.adr (w32 (withBits (s.reg f.adr).toNat f.lo f.w v))

/-- Whether a field is nonzero. -/
def State.fb (s : State) (f : Fld) : Bool := s.fg f != 0

/-- Adds to a field that saturates at its largest value. -/
def State.fadd (s : State) (f : Fld) (n : Nat) : State := s.fs f (clampU f.w (s.fg f + n))

/-- Increments a saturating counter. -/
def State.inc (s : State) (f : Fld) : State := s.fadd f 1

/-- Sets bit `i` of a field. -/
def State.fbit (s : State) (f : Fld) (i : Nat) (b : Bool) : State := s.fs f (setBit (s.fg f) i b)

/-- Whether bit `i` of a field is 1. -/
def State.tb (s : State) (f : Fld) (i : Nat) : Bool := (s.fg f).testBit i

/-- A field as a signed number. -/
def State.fi (s : State) (f : Fld) : Int := asInt f.w (s.fg f)

/-- A pair of registers for cells 1 to 32 and 33 to 48 (or 52): whether the bit of channel `n`, from 1, is 1. -/
def State.cellBit (s : State) (a0 a1 n : Nat) : Bool :=
  if n ≤ 32 then (s.reg a0).toNat.testBit (n - 1) else (s.reg a1).toNat.testBit (n - 33)

/-- Sets the bit of channel `n`, from 1, in such a pair. -/
def State.setCellBit (s : State) (a0 a1 n : Nat) (b : Bool) : State :=
  if n ≤ 32 then s.setReg a0 (w32 (setBit (s.reg a0).toNat (n - 1) b))
  else s.setReg a1 (w32 (setBit (s.reg a1).toNat (n - 33) b))

/-- Drops every register for which `p` holds back to its reset value. -/
def State.clearRegs (s : State) (p : Nat → Bool) : State := { s with regs := Smap.clear s.regs p }

/-! ## Time and the output trace -/

/-- The epoch of the present datum (Notation). -/
def State.epoch (s : State) : Nat := s.now / 50

/-- Lets `ns` nanoseconds pass. [DESIGN CHOICE, log 1] [DESIGN CHOICE, log 12] -/
def State.wait (s : State) (ns : Nat) : State := { s with now := s.now + ns, lt := s.lt + ns }

/-- Brings the datum forward to `t`, if it lies ahead. -/
def State.until (s : State) (t : Nat) : State := s.wait (t - s.now)

/-- Whether `ns` nanoseconds have passed since the local time `t`. -/
def State.due (s : State) (t ns : Nat) : Bool := decide (t + ns ≤ s.lt)

/-- Duty `k`, due every `ns` nanoseconds: it runs when that has passed since it last ran. [DESIGN CHOICE, log 186] -/
def State.periodic (k ns : Nat) (f : State → State) (s : State) : State :=
  if s.due (Smap.get (fun _ => 0) s.duty k) ns then f { s with duty := Smap.set (fun _ => 0) s.duty k s.lt } else s

/-- Appends to the output trace. [DESIGN CHOICE, log 15] -/
def State.emit (s : State) (ch : Chan) (args : List Nat) (data : List Byte := []) : State :=
  { s with out := s.out ++ [{ ch := ch, args := args, data := data }] }

/-- Draws the next free value. -/
def State.free (s : State) : Nat × State := (Config.freeValue s.freeCtr, { s with freeCtr := s.freeCtr + 1 })

/-- Applies `f` to each element in turn. -/
def State.each {α : Type} (s : State) (l : List α) (f : α → State → State) : State := l.foldl (fun t a => f a t) s

/-- Applies `f` if `c` holds. -/
def State.when (s : State) (c : Bool) (f : State → State) : State := if c then f s else s

/-- 1, 2, ..., n. -/
def upTo (n : Nat) : List Nat := (List.range n).map (· + 1)

/-! ## The variant (R1 to R11, R49) -/

def State.plotsFit (s : State) : Nat := match s.variant with | .jx4880 => 32 | .jx4840 => 16 | .jx4810 => 2
def State.capFit (s : State) : Bool := match s.variant with | .jx4880 => true | _ => false
def State.tieFit (s : State) : Bool := match s.variant with | .jx4810 => false | _ => true
def State.pegFit (s : State) : Nat := match s.variant with | .jx4810 => 2 | _ => 4
def State.portsFit (s : State) : Nat := match s.variant with | .jx4810 => 2 | _ => 4

/-- IDENT_CAP (R11). -/
def State.identCap (s : State) : Nat :=
  match s.variant with | .jx4880 => 0x0007F320 | .jx4840 => 0x0007F110 | .jx4810 => 0x0007E802

/-- IDENT_PART (R9). -/
def State.identPart (s : State) : Nat :=
  match s.variant with | .jx4880 => 0x1F484880 | .jx4840 => 0x1F484840 | .jx4810 => 0x1F484810

/-- Whether an island is fitted (R49; island numbers of R510). -/
def State.islFit (s : State) (i : Nat) : Bool :=
  if i < 32 then decide (i < s.plotsFit)
  else if 36 ≤ i ∧ i ≤ 39 ∨ 42 ≤ i ∧ i ≤ 43 then s.tieFit
  else if i = 51 ∨ i = 52 then s.capFit
  else if 55 ≤ i ∧ i ≤ 58 then decide (i - 54 ≤ s.pegFit)
  else decide (i < 64)

/-! ## Fault sources (R478 to R483) -/

/-- Island numbers of R510. [DEDUCED, log 23] -/
def islSCK : Nat := 44
def islSWC : Nat := 45
def islCP : Nat := 46
def islSOC : Nat := 47
def islSSV : Nat := 48
def islSTAO : Nat := 49
def islSYAO : Nat := 50
def islDRC : Nat := 51
def islNVF : Nat := 53
def islHKP : Nat := 54
def islDTM : Nat := 59
def islTST : Nat := 60
def islBTX : Nat := 62
def islBRX : Nat := 63

/-- The island of peg line `n`. -/
def islPG (n : Nat) : Nat := 54 + n

/-- The transmit island of port `p`. -/
def islPTX (p : Nat) : Nat := 40 + p

/-- Whether an island lies on the stack die (R35). -/
def onStack (i : Nat) : Bool := i == islSCK || i == islSWC || i == islSSV || i == islSTAO || i == islBTX

/-- The table of R480: code, class (1 F2, 2 F1, 3 F0), first and last island that hosts it, bit. -/
def faultTable : List (Nat × Nat × Nat × Nat × Nat) := [
  (0x01, 3, 50, 50, 1), (0x02, 3, 47, 47, 1), (0x03, 3, 47, 47, 2), (0x04, 3, 47, 47, 3), (0x05, 3, 48, 48, 1),
  (0x06, 3, 45, 45, 1), (0x07, 3, 50, 50, 2), (0x08, 3, 0, 31, 1), (0x09, 3, 46, 46, 1), (0x0A, 3, 60, 60, 1),
  (0x0B, 3, 54, 54, 4),
  (0x20, 2, 0, 63, 0), (0x21, 2, 62, 63, 1), (0x22, 2, 44, 44, 1), (0x23, 2, 45, 45, 2), (0x24, 2, 45, 45, 3),
  (0x25, 2, 45, 45, 4), (0x26, 2, 49, 49, 1), (0x27, 2, 49, 49, 2), (0x28, 2, 49, 49, 3), (0x29, 2, 50, 50, 3),
  (0x2A, 2, 0, 31, 2), (0x2B, 2, 53, 53, 1), (0x2C, 2, 40, 43, 1), (0x2D, 2, 40, 43, 2), (0x2E, 2, 40, 43, 3),
  (0x2F, 2, 46, 46, 2), (0x30, 2, 46, 46, 3), (0x31, 2, 59, 59, 1), (0x32, 2, 40, 43, 4), (0x33, 2, 47, 47, 4),
  (0x34, 2, 47, 47, 5), (0x35, 2, 47, 47, 6), (0x36, 2, 47, 47, 7), (0x37, 2, 48, 48, 2), (0x38, 2, 47, 47, 8),
  (0x39, 2, 47, 47, 9), (0x3A, 2, 53, 53, 2), (0x3B, 2, 46, 46, 4), (0x3C, 2, 60, 60, 2), (0x3D, 2, 53, 53, 3),
  (0x3E, 2, 54, 54, 1), (0x3F, 2, 54, 54, 2), (0x40, 2, 60, 60, 3), (0x41, 2, 0, 31, 5),
  (0x60, 1, 44, 44, 2), (0x61, 1, 49, 49, 4), (0x62, 1, 49, 49, 5), (0x63, 1, 46, 46, 5), (0x64, 1, 46, 46, 6),
  (0x65, 1, 46, 46, 7), (0x66, 1, 0, 31, 4), (0x67, 1, 0, 31, 3), (0x68, 1, 46, 46, 8), (0x69, 1, 40, 43, 5),
  (0x6A, 1, 46, 46, 9), (0x6B, 1, 59, 59, 2), (0x6C, 1, 54, 54, 3), (0x6D, 1, 48, 48, 3), (0x6E, 1, 53, 53, 4),
  (0x6F, 1, 51, 51, 1), (0x70, 1, 55, 58, 1) ]

/-- The class of a source code; 0 for a code that is not assigned. -/
def faultClass (code : Nat) : Nat :=
  match faultTable.find? fun r => r.1 == code with
  | some r => r.2.1
  | none => 0

/-- The bit of a source in its island's sticky register. -/
def faultBit (code : Nat) : Nat :=
  match faultTable.find? fun r => r.1 == code with
  | some r => r.2.2.2.2
  | none => 0

/-- The bits of FLT_ISLi that R480 assigns to island `i`; the others are reserved (R511). -/
def islMask (i : Nat) : Nat :=
  faultTable.foldl (fun m r => if r.2.2.1 ≤ i ∧ i ≤ r.2.2.2.1 then setBit m r.2.2.2.2 true else m) 0

/-- FLT_STAT.ACTIVE (R483): the most severe class among the set sticky bits; 0x0B counts at the class of its last
raise. -/
def State.active (s : State) : Nat :=
  faultTable.foldl (fun m r =>
    let set := (List.range (r.2.2.2.1 + 1 - r.2.2.1)).any fun k =>
      (s.reg (R.FLT_ISL (r.2.2.1 + k))).toNat.testBit r.2.2.2.2
    if set then max m (if r.1 = 0x0B then s.flt.cls0B else r.2.1) else m) 0

/-- Raises a source with a class of the caller's (R479): the sticky bit of the island that hosts it is set; a
system-die event reaches the collector, a stack-die event enters the queue of 16 in the stack core, or is discarded
and counted when the queue is full. -/
def State.raiseAs (s : State) (cls code isl param : Nat) : State :=
  let ev : FltEv := { code := code, cls := cls, isl := isl, param := param, at_ := s.lt }
  let s1 := s.setReg (R.FLT_ISL isl) (w32 (setBit (s.reg (R.FLT_ISL isl)).toNat (faultBit code) true))
  let s2 := if code = 0x0B then { s1 with flt := { s1.flt with cls0B := cls } } else s1
  if onStack isl then
    if s2.stackQ.length < 16 then { s2 with stackQ := s2.stackQ ++ [ev] } else s2.inc R.FLT_STAT_SLOST
  else { s2 with flt := { s2.flt with arriving := s2.flt.arriving ++ [ev] } }

/-- Raises a source at the class of R480. -/
def State.raise (s : State) (code isl param : Nat) : State := s.raiseAs (faultClass code) code isl param

/-! ## Who runs (R492, R500, R504) -/

/-- The system half runs: it is out of reset and has completed release step 2. -/
def State.sysUp (s : State) : Bool := s.rst.scope == 0 && decide (2 ≤ s.fg R.RST_STAT_STEP)

/-- What a half does while it is out of reset. -/
def whenSystem (f : State → State) (s : State) : State := if s.sysUp then f s else s
def whenStack (f : State → State) (s : State) : State := if s.rst.stackUp then f s else s
def whenHalf (bySystem : Bool) (f : State → State) (s : State) : State := if bySystem then whenSystem f s else whenStack f s

/-- The CP runs its boot ROM or firmware: release step 3 is complete, no failed self-test holds it, and no lockstep mismatch
has stopped it. -/
def State.cpRuns (s : State) : Bool := s.sysUp && decide (3 ≤ s.fg R.RST_STAT_STEP) && !s.rst.cpHeld && s.rst.lockAt.isNone

/-! ## NV counters (R550) -/

def State.cnt (s : State) (i : Nat) : Nat := Smap.get (fun _ => 0) s.nv.cnt i

/-- Increments NV counter `i`, which saturates at 0xFFFF_FFFF. -/
def State.countUp (s : State) (i : Nat) : State :=
  { s with nv := { s.nv with cnt := Smap.set (fun _ => 0) s.nv.cnt i (clampU 32 (s.cnt i + 1)) } }

/-! ## Statuses, reasons and replies (R408 to R412, R433) -/

/-- A status with its reason. -/
structure Stat where
  code : Nat
  reason : Nat
  deriving DecidableEq, Repr

def Stat.ok : Stat := ⟨0x00, 0x00⟩
def Stat.queued : Stat := ⟨0x01, 0x20⟩
def Stat.notReady : Stat := ⟨0x01, 0x21⟩
def Stat.refused (r : Nat := 0x0F) : Stat := ⟨0x02, r⟩
def Stat.authFail (r : Nat := 0x06) : Stat := ⟨0x03, r⟩
def Stat.absent : Stat := ⟨0x04, 0x00⟩
def Stat.badParam (r : Nat := 0x0D) : Stat := ⟨0x05, r⟩
def Stat.blockReset : Stat := ⟨0x06, 0x00⟩
def Stat.part : Stat := ⟨0x07, 0x00⟩
def Stat.safetyLock : Stat := ⟨0x08, 0x16⟩
def Stat.nvBusy : Stat := ⟨0x09, 0x0F⟩
def Stat.eraseIncomplete : Stat := ⟨0x0A, 0x0F⟩
def Stat.stale : Stat := ⟨0x0B, 0x17⟩
def Stat.timeout : Stat := ⟨0x0C, 0x00⟩
def Stat.late : Stat := ⟨0x0C, 0x10⟩
def Stat.reverted : Stat := ⟨0x0D, 0x00⟩
def Stat.notCoherent : Stat := ⟨0x0E, 0x00⟩
def Stat.degraded : Stat := ⟨0x0F, 0x00⟩

/-- Reason codes of R433. -/
def rCAPACITY : Nat := 0x01
def rRESERVATION : Nat := 0x02
def rTHERMAL : Nat := 0x03
def rKEY : Nat := 0x04
def rSESSION : Nat := 0x05
def rTAG : Nat := 0x06
def rREPLAY : Nat := 0x07
def rVERSION : Nat := 0x08
def rLENGTH : Nat := 0x09
def rOPCODE : Nat := 0x0A
def rCLASS : Nat := 0x0B
def rADDRESS : Nat := 0x0C
def rFIELD : Nat := 0x0D
def rPERMISSION : Nat := 0x0E
def rSTATE : Nat := 0x0F
def rLATE : Nat := 0x10
def rLEAD : Nat := 0x11
def rHOPS : Nat := 0x12
def rDEADLINE : Nat := 0x13
def rPASSWORD : Nat := 0x14
def rSIGNATURE : Nat := 0x15
def rOUTPUT : Nat := 0x16
def rSEQUENCE : Nat := 0x17

/-- The disposition of a status (R410): 0 SERVED, 1 DEFERRED, 2 REFUSED; TIMEOUT is REFUSED with reason LATE. -/
def Stat.disp (t : Stat) : Nat :=
  if t.code = 0x00 ∨ t.code = 0x06 ∨ t.code = 0x07 ∨ t.code = 0x0D ∨ t.code = 0x0E ∨ t.code = 0x0F then 0
  else if t.code = 0x01 then 1
  else if t.code = 0x0C ∧ t.reason ≠ 0x10 then 0
  else 2

/-- Records how a register access or another direct action completed. -/
def State.done (s : State) (t : Stat) (v : Nat := 0) : State := s.emit .status [t.code, t.reason, v]

end Sys2Proof.Machine
end

