-- ==== Sys2Proof/Machine/RegCore.lean ====
section
/-! DEFINITION. What every register write goes through before it is applied: absent units (R5), islands that do not
answer (R41, R42), reserved addresses (R424), reserved bits (R17) and the RWS and RWD fields (R15, R16). -/
namespace Sys2Proof.Machine

/-- Registers of units on the stack die, reached only through the barrier (R23). -/
def stackReg (a : Nat) : Bool := decide (0x010000 ≤ a ∧ a < 0x060000) || a == R.PWR_WAKE || a == R.PWR_WCAUSE
  || decide (0x160080 ≤ a ∧ a < 0x1600A0)

/-- Registers of units that the variant lacks (R5): plots, tie ports, capture memory and peg lines.
[DEDUCED, log 19] -/
def absentReg (s : State) (a : Nat) : Bool :=
  if 0x081000 ≤ a ∧ a < 0x081800 then decide (s.plotsFit ≤ (a - 0x081000) / 0x40)
  else if 0x084000 ≤ a ∧ a < 0x088000 then decide (s.plotsFit ≤ (a - 0x084000) / 0x200)
  else if 0x100100 ≤ a ∧ a < 0x100200 then decide (s.portsFit ≤ (a - 0x100100) / 0x40)
  else if 0x120040 ≤ a ∧ a < 0x120060 then decide (s.portsFit ≤ (a - 0x120040) % 0x10 / 4)
  else if 0x130100 ≤ a ∧ a < 0x130140 then decide (s.portsFit ≤ (a - 0x130100) / 0x10)
  else if 0x1D0000 ≤ a ∧ a < 0x1E0000 then !s.capFit
  else if 0x1E0000 ≤ a ∧ a < 0x1E1000 then decide (s.pegFit ≤ (a - 0x1E0000) / 0x400)
  else false

/-- Why an access to a fitted register gets no answer, if it gets none: a stack register while a message stream is lost
or the stack half is in reset (R28, R42), any register while the system half is in reset (R41), and the registers of a peg
line in its domain while that is off (R575). [DEDUCED, log 26] -/
def unreachable (s : State) (a : Nat) : Option Stat :=
  if !s.sysUp then some .blockReset
  else if stackReg a ∧ (!s.rst.stackUp ∨ s.bar.downLost ∨ popCount 22 s.bar.failed = 22) then some .timeout
  else if 0x1E0000 ≤ a ∧ a < 0x1E1000 ∧ 8 ≤ a % 0x400
      ∧ Smap.get (fun _ => 0) s.dom.step (193 + (a - 0x1E0000) / 0x400) ≠ 4 then some .blockReset
  else none

/-- The bits of a row that no field covers. -/
def RegRow.resv (r : RegRow) : Nat := 0xFFFFFFFF ^^^ (r.rw ||| r.ro ||| r.w1c ||| r.wo ||| r.rws ||| r.rwd)

/-- A register word as it reads where a later value waits for its round start (R111); elsewhere the stored word. -/
def shownWord (s : State) (a : Nat) : Word :=
  match s.swp.pendSet.find? fun (e : Nat × Word) => e.1 == a with
  | some e => e.2
  | none => s.reg a

/-- The checks before a write is applied; none when it may be applied. [DEDUCED, log 21] -/
def accessCheck (s : State) (a : Nat) (v : Word) : Option Stat :=
  if a % 4 ≠ 0 ∨ 0xFFFFFF < a then some (.badParam rADDRESS)
  else match findReg a with
    | none => if v = 0 then some .ok else some (.badParam rADDRESS)
    | some r =>
      if absentReg s a then some .ok
      else match unreachable s a with
        | some t => some t
        | none =>
          let d := (shownWord s a).toNat ^^^ v.toNat
          if v.toNat &&& r.resv ≠ 0 then some (.badParam rFIELD)
          else if d &&& r.rws ≠ 0 then some .safetyLock
          else if d &&& r.rwd ≠ 0 then some (.refused rSTATE)
          else none

/-- A write applied by field type (R15): RW bits take the value, each 1 in a W1C bit clears it. -/
def applyWrite (a : Nat) (v : Word) (s : State) : State :=
  match findReg a with
  | none => s
  | some r =>
    let old := (s.reg a).toNat
    let keep := old &&& (0xFFFFFFFF ^^^ r.rw)
    let keep := keep ^^^ (keep &&& v.toNat &&& r.w1c)
    s.setReg a (w32 (keep ||| (v.toNat &&& r.rw)))

/-- A field of a word being written. -/
def wf (v : Word) (f : Fld) : Nat := bitsOf v.toNat f.lo f.w

/-- A row that is a write of one register: the checks, then the register's own rule, with the completion recorded. -/
def direct (a : Nat) (v : Word) (f : Word → State → Stat × State) (s : State) : State :=
  match accessCheck s a v with
  | some t => s.done t
  | none => let r := f v s; r.2.done r.1

end Sys2Proof.Machine
end

