-- ==== Sys2Proof/Machine/Packets.lean ====
section
/-! DEFINITION. Command packets: the header (R402), the CRC-32C trailer (R406), authentication (R321 to R323), the
checks of R407 in their order, replies (R408 to R414) and the origination budgets (R416). -/
namespace Sys2Proof.Machine

/-! ## Layout -/

/-- The 16 header bytes of R402. -/
def headerBytes (p : Packet) : List Byte :=
  leBytes 1 (p.ver % 16 * 16 + p.cls % 4 * 4 + p.resv % 4) ++ leBytes 1 (p.resv / 4 % 128 * 2 + b2n p.noReply)
  ++ leBytes 1 p.opcode ++ leBytes 1 (p.hops % 16 * 16 + p.resv / 512 % 2 * 8 + p.parcel % 8) ++ leBytes 2 p.dest ++ leBytes 2 p.src ++ leBytes 2 p.tag
  ++ leBytes 2 p.len ++ leBytes 4 p.seqep

/-- The whole packet: header, payload and CRC-32C (R401, R406). -/
def packetBytes (p : Packet) : List Byte :=
  let hp := headerBytes p ++ p.payload
  hp ++ leBytes 4 (crc32c hp)

/-- Reads a packet body of at least 20 bytes: the header fields, and as payload the bytes between header and trailer. -/
def parsePacket (via : Via) (b : List Byte) : Packet :=
  let b0 := leAt b 0 1
  let b1 := leAt b 1 1
  let b3 := leAt b 3 1
  { ver := b0 / 16, cls := b0 / 4 % 4
    resv := b0 % 4 + b1 / 2 * 4 + b3 / 8 % 2 * 512
    noReply := decide (b1 % 2 = 1), opcode := leAt b 2 1, parcel := b3 % 8, hops := b3 / 16
    dest := leAt b 4 2, src := leAt b 6 2, tag := leAt b 8 2, len := leAt b 10 2, seqep := leAt b 12 4
    payload := (b.drop 16).take (b.length - 20), via := via }

/-- Whether the trailer of a body is the CRC-32C of what precedes it. -/
def crcGood (b : List Byte) : Bool :=
  decide (20 ≤ b.length) && leAt b (b.length - 4) 4 == crc32c (b.take (b.length - 4))

/-- A byte, a 16-bit and a 32-bit field of a payload. -/
def u8 (l : List Byte) (o : Nat) : Nat := leAt l o 1
def u16 (l : List Byte) (o : Nat) : Nat := leAt l o 2
def u32 (l : List Byte) (o : Nat) : Nat := leAt l o 4
def u64 (l : List Byte) (o : Nat) : Nat := leAt l o 8

/-- The mode and the field of an address (R403). -/
def addrMode (a : Nat) : Nat := a / 0x1000 % 16
def addrField (a : Nat) : Nat := a % 0x1000

/-! ## This station -/

def State.ownAddr (s : State) : Nat := s.fg R.NET_STAT_ADDR
def State.addressed (s : State) : Bool := s.fb R.NET_STAT_DSTATE

/-- The authentication key of a parcel; empty when it has none. -/
def State.parcelKey (s : State) (q : Nat) : List Byte := Smap.get (fun _ => []) s.cad.keys q
def State.hasKey (s : State) (q : Nat) : Bool := s.parcelKey q != []
def State.formed (s : State) (q : Nat) : Bool := s.fb (R.CAD_PSTAT_FORMED q)

/-- Whether any output conducts: what SAFETY_LOCK with reason OUTPUT asks (R433). -/
def State.energised (s : State) : Bool := s.fb R.SAF_OUT_ON

/-! ## Sending (R416) -/

/-- The bytes a packet takes on a ring. -/
def packetLen (p : Packet) : Nat := 20 + p.payload.length

/-- The rings on which a destination lies, as seen from this station (R371): the ports by which its own frame leaves. -/
def ownPorts (s : State) (dest : Nat) : List Nat :=
  let t := addrField dest / 64
  let tie := s.fb R.NET_STAT_TIEROLE
  let here := t == s.ownAddr / 64
  match addrMode dest with
  | 2 => if tie then [0, 1, 2, 3] else [0, 1]
  | 3 => if tie then [0, 1, 2, 3] else [0, 1]
  | _ => if here || !tie then [0, 1] else [2, 3]

/-- The rings a destination needs, bit 0 for that of ports 0 and 1, bit 1 for that of ports 2 and 3. -/
def ownRings (s : State) (dest : Nat) : Nat := (ownPorts s dest).foldl (fun m k => m ||| 2 ^ (k / 2)) 0

/-- Whether the class budget lets the packet leave now. [DEDUCED, log 94] -/
def budgetAllows (p : Packet) (s : State) : Bool :=
  if p.cls = 0 then
    if p.opcode = 0x84 then decide (s.cp.hb < 2) else s.cp.c0 &&& ownRings s p.dest == 0
  else if p.cls = 1 then decide (packetLen p ≤ s.cp.tok1)
  else if p.parcel = 0 then true
  else decide (packetLen p ≤ Smap.get (fun _ => 0) s.cp.tenTok p.parcel)

/-- Takes the packet's bytes from its budget. -/
def budgetTake (p : Packet) (s : State) : State :=
  if p.cls = 0 then
    if p.opcode = 0x84 then { s with cp := { s.cp with hb := s.cp.hb + 1 } }
    else { s with cp := { s.cp with c0 := s.cp.c0 ||| ownRings s p.dest } }
  else if p.cls = 1 then { s with cp := { s.cp with tok1 := s.cp.tok1 - packetLen p } }
  else if p.parcel = 0 then s
  else
    let left := Smap.get (fun _ => 0) s.cp.tenTok p.parcel - packetLen p
    { s with cp := { s.cp with tenTok := Smap.set (fun _ => 0) s.cp.tenTok p.parcel left } }

/-- What port `p` holds beside its registers. -/
def State.port (s : State) (p : Nat) : Port := Smap.get (fun _ => {}) s.trv.ports p
def State.setPort (s : State) (p : Nat) (v : Port) : State :=
  { s with trv := { s.trv with ports := Smap.set (fun _ => {}) s.trv.ports p v } }

/-- The use of port `p` in force (R352). -/
def State.portMode (s : State) (p : Nat) : Nat := (s.port p).mode

/-- Port `p` is a ring port in RUN (R352, R379). -/
def ringRun (s : State) (p : Nat) : Bool :=
  decide (p < s.portsFit) && s.fg (R.TRV_PSTAT_STATE p) == 2 && s.portMode p == 0

/-- A frame joins the queue of port `p`. -/
def enqueueFrame (f : Frame) (p : Nat) (s : State) : State :=
  let o := s.port p
  s.setPort p { o with tx := o.tx ++ [{ f with copy := p % 2 == 1 }] }

/-- A frame that keeps its COPY bit joins the queue of port `p`. -/
def enqueueKeep (f : Frame) (p : Nat) (s : State) : State := s.setPort p { s.port p with tx := (s.port p).tx ++ [f] }

/-- A packet of this station becomes a frame on its rings, one copy each way (R335, R343, R363). -/
def ringSend (p : Packet) (s : State) : State :=
  let f : Frame := { cls := p.cls, origin := s.ownAddr, fseq := s.trv.fseq, body := packetBytes p }
  let s1 := { s with trv := { s.trv with fseq := (s.trv.fseq + 1) % 4096 } }
  ((ownPorts s p.dest).filter (ringRun s)).foldl (fun t k => enqueueFrame f k t) s1

/-- Puts the packet on a ring. -/
def launch (p : Packet) (s : State) : State :=
  ringSend p ((budgetTake p s).emit .packet [p.opcode, p.dest, p.cls, p.parcel, p.tag] (packetBytes p))

/-- A packet leaves now, or waits in the origination queue behind others of its class (R416). -/
def enter (q : Packet) (s : State) : State :=
  if budgetAllows q s && !(s.cp.orig.any fun r => r.cls == q.cls) then launch q s
  else { s with cp := { s.cp with orig := s.cp.orig ++ [q] } }

/-- Originates a packet of this station. -/
def originate (p : Packet) (s : State) : State := enter { p with len := p.payload.length } s

/-- A packet leaves for the host on port `k`; an Ethernet host is named by the source address and tag of its request (R353,
R354), and the frame is counted. -/
def hostOut (k : Nat) (q : Packet) (s : State) : State :=
  let s1 := if s.portMode k = 2 then s.inc (R.HST_ETHCNT_W2_TXOK k) else s
  let dst := Smap.get (fun _ => ((0 : Nat), (0 : Nat))) s.hst.peers (65536 * k + q.tag)
  s1.emit .packet [q.opcode, q.dest, q.cls, q.parcel, q.tag, k, dst.1, dst.2] (packetBytes q)

/-- Adds a reply to the sideband (R355); HIRQn is low while a reply waits. -/
def sideReply (b : List Byte) (s : State) : State :=
  let h := if s.hst.replies.length < 8 then { s.hst with replies := s.hst.replies ++ [b] }
    else { s.hst with backlog := s.hst.backlog ++ [b] }
  { s with hst := h }

/-- Sends a packet of this station toward its DEST: its own sideband or host port, or a ring. -/
def sendOut (p : Packet) (s : State) : State :=
  let q := { p with len := p.payload.length }
  if addrMode q.dest = 0xC ∧ addrField q.dest = s.ownAddr then sideReply (packetBytes q) s
  else if 0x8 ≤ addrMode q.dest ∧ addrMode q.dest ≤ 0xB ∧ addrField q.dest = s.ownAddr then
    hostOut (addrMode q.dest - 8) q s
  else originate q s

/-! ## Authentication (R321 to R323) -/

/-- The first 16 bytes of HMAC-SHA-256 over the header with HOPS 0 and the payload up to the end of COUNT. -/
def authTag (key : List Byte) (p : Packet) (body : List Byte) : List Byte :=
  (Config.hmacSha256 key (headerBytes { p with hops := 0 } ++ body)).toList.take 16

/-- The payload with an authentication block appended (R321, R322). -/
def withAuth (key : List Byte) (p : Packet) (sess count : Nat) : Packet :=
  let body := p.payload ++ leBytes 4 sess ++ leBytes 4 count
  let q := { p with len := body.length + 16 }
  { q with payload := body ++ authTag key q body }

/-- Commands that carry no authentication block (R323). -/
def authExempt (s : State) (p : Packet) : Bool :=
  decide (p.opcode < 0x10) || p.opcode == 0x63 || p.opcode == 0x60 || p.opcode == 0x62
  || (p.parcel == 0 && !s.hasKey 0 && match p.via with | .ring _ => false | _ => true)

/-- Whether COUNT is new (R321 check 3), and the count state after it is taken: `seen` has bit i for HI - i. -/
def countCheck (hi seen c : Nat) : Option (Nat × Nat) :=
  if hi < c then some (c, ((seen <<< (c - hi)) ||| 1) % 2 ^ 64)
  else if c + 63 < hi then none
  else if seen.testBit (hi - c) then none
  else some (hi, seen ||| 2 ^ (hi - c))

/-- A tag failure: counted, and the sixteenth within 1 s raises F2 (R321). -/
def tagFailed (q : Nat) (s : State) : State :=
  let recent := ((Smap.get (fun _ => []) s.cad.failAt q).filter fun t => s.lt < t + 1000000000) ++ [s.lt]
  let s1 := s.inc (R.CAD_PAUTHF_COUNT q)
  if 16 ≤ recent.length then
    { s1 with cad := { s1.cad with failAt := Smap.set (fun _ => []) s1.cad.failAt q [] } }.raise 0x68 islCP q
  else { s1 with cad := { s1.cad with failAt := Smap.set (fun _ => []) s1.cad.failAt q recent } }

/-- Row 9 of R407: none when the packet is authentic, with the packet stripped of its block, else the status.
[DEDUCED, log 87] -/
def authenticate (p : Packet) (s : State) : Except Stat Packet × State :=
  if authExempt s p then (.ok p, s)
  else
    let n := p.payload.length
    let body := p.payload.take (n - 16)
    let sess := u32 p.payload (n - 24)
    let count := u32 p.payload (n - 20)
    let tag := p.payload.drop (n - 16)
    if !(s.formed p.parcel && s.hasKey p.parcel) then (.error (.authFail rKEY), s)
    else if n < 24 then (.error (.badParam rLENGTH), s)
    else if sess ≠ s.fg (R.CAD_PSESS_SESSION p.parcel) then (.error (.authFail rSESSION), s)
    else if tag ≠ authTag (s.parcelKey p.parcel) p body then (.error (.authFail rTAG), tagFailed p.parcel s)
    else
      match countCheck (s.fg (R.CAD_PCNT_HI p.parcel)) (Smap.get (fun _ => 0) s.cad.seen p.parcel) count with
      | none => (.error (.authFail rREPLAY), s)
      | some (hi, seen) =>
        let s1 := s.fs (R.CAD_PCNT_HI p.parcel) hi
        let s2 := { s1 with cad := { s1.cad with seen := Smap.set (fun _ => 0) s1.cad.seen p.parcel seen } }
        (.ok { p with payload := p.payload.take (n - 24), auth := some (sess, count) }, s2)

/-! ## Replies (R408 to R414) -/

/-- The reply to a request: prefix of R409 and body, with the authentication block of R322 when the request carried
one, with disposition `d`. NOREPLY suppresses a reply with status OK (R412). [DEDUCED, log 88] -/
def replyAs (d : Nat) (p : Packet) (t : Stat) (body : List Byte := []) (wait : Nat := 0) (s : State) : State :=
  if p.noReply ∧ t.code = 0 then s
  else
    let pay := leBytes 1 t.code ++ leBytes 1 d ++ leBytes 1 t.reason ++ leBytes 1 0 ++ leBytes 4 wait ++ body
    let cls := if p.opcode = 0x20 then 2 else if p.opcode = 0x05 then 1 else p.cls
    let r : Packet := { p with
      opcode := p.opcode % 128 + 128, cls := cls, dest := p.src, src := s.ownAddr, hops := 15, noReply := false
      resv := 0, payload := pay, len := pay.length }
    let r := match p.auth with
      | some (sess, count) => withAuth (s.parcelKey p.parcel) r sess count
      | none => r
    let s1 := s.emit .reply [t.code, t.reason, wait, r.dest, r.tag, r.opcode, r.cls, r.parcel, r.seqep] body
    match p.via with
    | .self => s1
    | .side => sideReply (packetBytes { r with len := r.payload.length }) s1
    | .host k => hostOut k { r with len := r.payload.length } s1
    | .ring _ => sendOut r s1

/-- The reply with the disposition that goes with its status (R410). -/
def reply (p : Packet) (t : Stat) (body : List Byte := []) (wait : Nat := 0) (s : State) : State := replyAs t.disp p t body wait s

/-- The bitmap, the status bytes and the results of a per-unit reply (R414). -/
def unitBody (sts : List Stat) (results : List Byte) : List Byte :=
  let bm := (List.range sts.length).foldl (fun m i => if (sts.getD i .ok).code = 0 then setBit m i true else m) 0
  let bytes := sts.map fun t => BitVec.ofNat 8 t.code
  leBytes 8 bm ++ bytes ++ List.replicate ((4 - bytes.length % 4) % 4) 0 ++ results

/-- The status of a per-unit reply: `good` when every unit was served (R414). -/
def unitStat (sts : List Stat) (good : Stat) : Stat :=
  if sts.all fun t => t.code == 0 then good
  else if sts.any fun t => t.code == 0 then .part
  else sts.headD .ok

/-- Replies to a per-unit request; where no unit was served, the disposition is REFUSED whatever the status (R414). -/
def replyUnits (p : Packet) (sts : List Stat) (results : List Byte) (good : Stat := .ok) (s : State) : State :=
  let t := unitStat sts good
  replyAs (if sts.any fun t => t.code == 0 then t.disp else 2) p t (unitBody sts results) 0 s

/-! ## The checks of R407 -/

/-- The opcode map (R422): class, and the senders: 0 none, 1 P0 only, 2 any parcel, 3 P0 or a grant. -/
def opcodeMap (op : Nat) : Option (List Nat × Nat) :=
  match op with
  | 0x00 | 0x01 | 0x02 | 0x03 | 0x06 => some ([1], 0)
  | 0x04 | 0x05 => some ([0], 0)
  | 0x10 | 0x11 | 0x12 => some ([1], 2)
  | 0x13 => some ([2], 2)
  | 0x1F => some ([0], 1)
  | 0x20 => some ([0], 2)
  | 0x21 | 0x22 => some ([1], 2)
  | 0x23 => some ([3], 2)
  | 0x24 => some ([2], 1)
  | 0x25 => some ([2, 3], 2)
  | 0x30 | 0x31 | 0x32 => some ([1], 3)
  | 0x40 | 0x43 | 0x45 => some ([1], 2)
  | 0x41 | 0x42 | 0x44 => some ([2], 2)
  | 0x50 => some ([3], 2)
  | 0x51 | 0x52 | 0x54 => some ([1], 2)
  | 0x53 | 0x55 => some ([2], 2)
  | 0x60 | 0x62 | 0x63 => some ([1], 0)
  | 0x61 => some ([1], 2)
  | 0x70 => some ([0], 1)
  | 0x71 | 0x72 | 0x73 | 0x74 | 0x76 | 0x77 => some ([1], 1)
  | 0x75 => some ([2], 1)
  | 0x78 | 0x79 => some ([1], 2)
  | 0x7A => some ([2], 2)
  | 0x7B => some ([3], 1)
  | 0x7C | 0x7D | 0x7E | 0x7F => some ([1], 1)
  | _ => none

/-- Grant bit `b` of parcel `q` (R302); P0 holds every grant. -/
def State.granted (s : State) (q b : Nat) : Bool := q == 0 || s.tb (R.CAD_PFLAG_GRANT q) b

/-- Whether channel `n` (1 to 52) is permitted to parcel `q` (R302); every channel is P0's. -/
def State.chanOk (s : State) (q n : Nat) : Bool :=
  q == 0 || s.cellBit (R.CAD_PPERM0 q) (R.CAD_PPERM1 q) n

/-- Row 10 of R407: whether the parcel may send the opcode. -/
def mayPerm (s : State) (p : Packet) : Bool :=
  match opcodeMap p.opcode with
  | none => false
  | some (_, 0) => p.parcel == 0
  | some (_, 1) => p.parcel == 0
  | some (_, 3) => if p.opcode = 0x30 then s.granted p.parcel 5 else s.granted p.parcel 4
  | some (_, _) => s.formed p.parcel

/-- Rows 3 to 8 of R407: the first that applies, or none. `some none` discards without a reply. [DEDUCED, log 89] -/
def headerCheck (s : State) (p : Packet) : Option (Option Stat) :=
  let m := addrMode p.dest
  if p.ver ≠ 1 ∨ p.resv ≠ 0 then some (some (.badParam rVERSION))
  else if 2048 < p.len ∨ p.len ≠ p.payload.length then some (some (.badParam rLENGTH))
  else if (5 ≤ m ∧ m ≤ 7) ∨ 13 ≤ m then some (some (.badParam rADDRESS))
  else if !s.addressed ∧ m ≠ 4 ∧ p.opcode ≠ 1 ∧ p.opcode ≠ 2 then some none
  else match opcodeMap p.opcode with
    | none => some (some (.badParam rOPCODE))
    | some (cs, _) => if p.cls ∈ cs then none else some (some (.badParam rCLASS))

/-- Row 12 of R407, as far as it does not depend on a queue: a pending sleep refuses classes 1 to 3 (R524), the junction
throttle level refuses class 3 (R417, R534), and so does a tenant's share of the ring by which the reply, of at most 2,068 bytes and
behind what waits, could not leave within 100 ms. [DEDUCED, log 92] -/
def admission (s : State) (p : Packet) : Option Stat :=
  let ring : Bool := match p.via with | .ring _ => true | _ => false
  let ahead := ((s.cp.orig.filter fun r => r.parcel == p.parcel && 2 ≤ r.cls).map packetLen).sum
  if p.cls ≠ 0 ∧ s.fb R.PWR_STAT_SLEEP then some (.refused rSTATE)
  else if p.cls = 3 ∧ s.fb R.THM_STAT_JTHR then some (.refused rTHERMAL)
  else if p.cls = 3 ∧ p.parcel ≠ 0 ∧ ring ∧
      1250000 * s.fg (R.CAD_PTRV_TRES p.parcel) + Smap.get (fun _ => 0) s.cp.tenTok p.parcel < ahead + 2068 then some (.refused rRESERVATION)
  else none

/-- The opcodes of the fast path (R420). -/
def fastPath (op : Nat) : Bool := op == 0x04 || op == 0x05 || op == 0x1F || op == 0x20 || op == 0x70

/-- Rows 3 to 12 of R407: `k` continues with the authentic, permitted request, stripped of its block; otherwise the
row's outcome. A SAFETY_PDU that fails gets no reply (R420). A system half in reset hears nothing, and a CP that does not run
serves nothing beside the fast path (R419, R420, R504). -/
def checked (p : Packet) (k : Packet → State → State) (s : State) : State :=
  let fail := fun (p : Packet) (t : Stat) (s : State) => if p.opcode = 0x70 then s else reply p t [] 0 s
  if !(if fastPath p.opcode then s.sysUp else s.cpRuns) then s
  else match headerCheck s p with
  | some none => s
  | some (some t) => fail p t s
  | none =>
    match authenticate p s with
    | (.error t, s1) => fail p t s1
    | (.ok q, s1) =>
      if !mayPerm s1 q then fail q (.refused rPERMISSION) s1
      else if q.parcel ≠ 0 ∧ !s1.fb R.CAD_STAT_RESTORED then
        let (w, s2) := s1.free
        reply q .notReady [] (w % 2 ^ 32) s2
      else match admission s1 q with
        | some t => fail q t s1
        | none => k q s1

/-- A request of opcode `op` that has arrived and starts at once: the checks of R407, then its own rule. -/
def request (op : Nat) (p : Packet) (k : Packet → State → State) (s : State) : State :=
  checked { p with opcode := op } k s

end Sys2Proof.Machine
end

