-- ==== Sys2Proof/Machine/SafetyCore.lean ====
section
/-! DEFINITION. The operations of the safety function that other units reach: outputs and demand (R437, R441), the
immediate and the controlled stop (R445, R446, R448), input pairs (R452), the supervisor's withdrawal and refusal
(R455, R459), disagreements (R457), the safety set and its checksums (R466). -/
namespace Sys2Proof.Machine

/-! ## SOC states of SAF_STAT.STATE (R444) and messages -/

def stINIT : Nat := 0
def stSAFE : Nat := 1
def stSTARTING : Nat := 2
def stRUN : Nat := 3
def stRAMP : Nat := 4

/-- SSV states (R456). -/
def svHOLD : Nat := 0
def svSTARTING : Nat := 1
def svRUN : Nat := 2
def svFAULT : Nat := 3
def svSLEEP : Nat := 4

/-- Kinds of barrier message, as the trace names them: run token, start request, start answer, start withdrawal,
SCS-1 begin and end notices, disagreement notice, RUN withdrawal, SCS-1 request, live-loss report, sleep notice, stack
reset, stack release notice, comparator trip, sweep path lost, plausibility failure, threshold DAC failed, lane map,
sample-clock return, stack-die fault, checksum, health, current reference, excitation status, excitation bias, bleed
state, sweep result, stream lost, stream returned, sample-clock report. -/
def mTOKEN : Nat := 1
def mSTART : Nat := 2
def mANSWER : Nat := 3
def mWITHDRAWSTART : Nat := 4
def mSCS1BEGIN : Nat := 5
def mSCS1END : Nat := 6
def mDISAGREE : Nat := 7
def mRUNDROP : Nat := 8
def mSCS1REQ : Nat := 9
def mLIVELOSS : Nat := 10
def mSLEEP : Nat := 11
def mSTACKRESET : Nat := 12
def mRELEASE : Nat := 13
def mTRIP : Nat := 14
def mSWEEPLOST : Nat := 15
def mPLAUS : Nat := 16
def mDACFAIL : Nat := 17
def mLANEMAP : Nat := 18
def mCLOCKRETURN : Nat := 19
def mFAULT : Nat := 20
def mCHECKSUM : Nat := 21
def mHEALTH : Nat := 22
def mCREF : Nat := 23
def mEXCSTAT : Nat := 24
def mEXCBIAS : Nat := 25
def mBLEED : Nat := 26
def mSWEEP : Nat := 27
def mSTREAMLOST : Nat := 28
def mSTREAMBACK : Nat := 29
def mCLOCKGOOD : Nat := 30

/-- Whether a message kind is safety-relevant, so that it is repeated until acknowledged (R28). -/
def repeated (k : Nat) : Bool :=
  k == mSTART || k == mANSWER || k == mWITHDRAWSTART || k == mSCS1BEGIN || k == mSCS1END || k == mDISAGREE
  || k == mRUNDROP || k == mSLEEP || k == mSTACKRESET || k == mRELEASE || k == mTRIP || k == mSWEEPLOST
  || k == mPLAUS || k == mDACFAIL || k == mCHECKSUM || k == mSTREAMLOST || k == mSTREAMBACK || k == mLIVELOSS

/-- The healthy up lanes under a map of failed lanes, ascending (R25). -/
def healthyLanes (failed : Nat) : List Nat := (List.range 22).filter fun l => !failed.testBit l

/-- The lanes that the sample frame occupies: the lowest-numbered healthy ones, 21, 11, 6 or none (R25, R31). -/
def sampleLanes (failed : Nat) : List Nat :=
  let h := healthyLanes failed
  h.take (if h.length = 22 then 21 else if 12 ≤ h.length then 11 else if 7 ≤ h.length then 6 else 0)

/-- The lane of the stack message stream: the highest-numbered healthy one; none with no healthy lane (R25, R31). -/
def messageLane (failed : Nat) : Option Nat := (healthyLanes failed).getLast?

/-- One 50-bit message frame: type, content, and the check of the sample frame (R27). -/
def msgFrame (k w : Nat) : Nat :=
  let b := msbBits 8 k ++ msbBits 32 w
  bitsNat (b ++ msbBits 10 (crc10 b))

/-- The contents of a message in 32-bit words: a longer number takes two, the low one first. [DESIGN CHOICE, log 162] -/
def contentWords (args : List Nat) : List Nat :=
  if args.isEmpty then [0] else args.flatMap fun a => if a < 2 ^ 32 then [a] else [a % 2 ^ 32, a / 2 ^ 32 % 2 ^ 32]

/-- The frames of a message, one for each 32 bits of content (R27). -/
def msgFrames (k : Nat) (args : List Nat) : List Nat := (contentWords args).map (msgFrame k)

/-- How a message is recorded: the lane, the place of its first frame in the count of frames by local time, and its frames,
one per epoch from there. -/
def msgData (lane e : Nat) (frames : List Nat) : List Byte :=
  leBytes 1 lane ++ leBytes 8 e ++ frames.flatMap (leBytes 7)

/-- Sends a message from the system half to the stack half, in the first frames that are free, on B22 and in identical copy
on B23 (R25, R27); a safety-relevant one is repeated (R28). -/
def sendDown (k : Nat) (args : List Nat) (s : State) : State :=
  let f := msgFrames k args
  let e := max (s.lt / 50 + 1) s.bar.downNext
  let s1 := { s with bar := { s.bar with downNext := e + f.length } }.emit .down (k :: args) (msgData 22 e f)
  if repeated k then { s1 with bar := { s1.bar with repDown := s1.bar.repDown ++ [k] } } else s1

/-- Sends a message from the stack half to the system half on the message lane; without a healthy lane it does not leave,
and only a safety-relevant message goes on being repeated (R25 to R28, R31). -/
def sendUp (k : Nat) (args : List Nat) (s : State) : State :=
  let f := msgFrames k args
  let e := max (s.lt / 50 + 1) s.bar.upNext
  let s1 := match messageLane s.bar.txMap with
    | some l => { s with bar := { s.bar with upNext := e + f.length } }.emit .up (k :: args) (msgData l e f)
    | none => s
  if repeated k then { s1 with bar := { s1.bar with repUp := s1.bar.repUp ++ [k] } } else s1

/-! ## The fault tone (R488, R490) -/

/-- OWNGOOD (R490). -/
def State.ownGood (s : State) : Bool :=
  s.rst.stackUp && s.ssv.st != svFAULT && s.ssv.st != svSLEEP
  && ([R.CMP_OVTRIP0, R.CMP_OVTRIP1, R.CMP_UVTRIP0, R.CMP_UVTRIP1].all fun a => s.reg a == 0)
  && !s.fb R.SWC_DIAG_LOST && s.tone.health && !s.due s.tone.healthAt 300000

/-- The tone is good (R488); HEAD acts through the stack half's copy of it (R491, R494). [DEDUCED, log 130] -/
def State.toneGood (s : State) : Bool := (s.tone.inGood || s.tone.head) && s.ownGood

/-- The level of FTOUT. -/
def ftout (level tog : Bool) (s : State) : State :=
  { s with tone := { s.tone with level := level, tog := tog } }.emit .pin [2, b2n level]

/-- FTOUT goes high and static when the tone has ceased to be good. -/
def toneDrop (s : State) : State := if s.tone.tog && !s.toneGood then ftout true false s else s

def State.socState (s : State) : Nat := s.fg R.SAF_STAT_STATE

/-! ## Outputs and demand (R437, R441) -/

/-- The demand of all six outputs: SO1 to SO4 as demanded, each SL driver follows the SO driver of its pair. -/
def demandSix (s : State) (d : Nat) : Nat :=
  let sl := fun (p : Nat) => decide (1 ≤ p ∧ p ≤ 4) && d.testBit (p - 1)
  d % 16 + (if sl (s.fg R.SAF_OUTEN_PAIR1) then 16 else 0) + (if sl (s.fg R.SAF_OUTEN_PAIR2) then 32 else 0)

/-- The outputs that SOC drives (R437): enabled, in RUN or RAMP, both halves asserting RUN, demand 1. -/
def driven (s : State) : Nat :=
  if (s.socState = stRUN ∨ s.socState = stRAMP) ∧ s.fb R.SAF_STAT_SRUN ∧ s.fb R.SAF_STAT_YRUN then
    s.fg R.SAF_OUTEN_EN &&& s.fg R.SAF_OUT_DEM
  else 0

/-- The outputs that conduct: those driven, less a driver in an off-pulse (R440), one that turned itself off (R604) and
one whose enable does not toggle (R438). -/
def conducting (s : State) : Nat :=
  let pulse := match s.soc.pulse with | some (o, _) => 2 ^ o | none => 0
  let off := pulse ||| s.soc.selfOff ||| s.soc.togStop
  driven s &&& (63 ^^^ (off % 64))

/-- SAF_OUT.ON shows the outputs that conduct. -/
def showOn (s : State) : State := s.fs R.SAF_OUT_ON (conducting s)

/-- An off-pulse whose driver must be off for another reason ends at once, without judgement (R440). -/
def dropPulse (s : State) : State :=
  match s.soc.pulse with
  | some (o, _) =>
    if (driven s &&& (63 ^^^ ((s.soc.selfOff ||| s.soc.togStop) % 64))).testBit o then s
    else { s with soc := { s.soc with pulse := none } }
  | none => s

/-- Brings the outputs to what R437 gives. -/
def drive (s : State) : State := showOn (dropPulse s)

/-- The demand in force takes the value `d` of the demand source; in RAMP it can only fall (R444, R460). A driver that
turned itself off is released when its demand falls to 0. [DEDUCED, log 157] -/
def setDemand (d : Nat) (s : State) : State :=
  let old := s.fg R.SAF_OUT_DEM
  let six := demandSix s d
  let new := if s.socState = stRAMP then old &&& six else six
  let s1 := s.fs R.SAF_OUT_DEM new
  let s2 := { s1 with soc := { s1.soc with
    selfOff := s1.soc.selfOff &&& new, demAt := if new = old then s1.soc.demAt else some s.lt } }
  drive s2

/-- The CRQ output: its duty, 90 % while no reduction is requested and 10 % while one is, inverted with POL (R448). -/
def setCrq (on : Bool) (s : State) : State :=
  let duty := if on ^^ s.fb R.SAF_CRQ_POL then 10 else 90
  (s.fs R.SAF_OUT_CRQREQ (b2n on)).emit .pin [1, duty, s.fg R.SAF_CRQ_FREQ]

/-! ## The black channel's producers (R463, R465) -/

/-- The safety CRC-32 of R463. -/
def safetyCrc (l : List Byte) : Nat :=
  crcBits 32 0x741B8CD7 0xFFFFFFFF (l.flatMap fun b => msbBits 8 b.toNat) ^^^ 0xFFFFFFFF

def State.conn (s : State) (k : Nat) : Conn := Smap.get (fun _ => {}) s.soc.conns k
def State.setConn (s : State) (k : Nat) (c : Conn) : State :=
  { s with soc := { s.soc with conns := Smap.set (fun _ => {}) s.soc.conns k c } }

/-- The demand that the source of SAF_CFG.DSRC last gave (R441, R443). -/
def sourceDemand (s : State) : Nat :=
  let k := s.fg R.SAF_CFG_DCONN
  if s.fg R.SAF_CFG_DSRC = 0 then s.soc.kDem
  else if s.fg (R.SAF_CONN_W1_ROLE k) = 1 ∧ s.fg (R.SAF_CONN_W1_USE k) = 1 then (s.conn k).dem % 16 else 0

/-- The state nibble of pair `i` in SAF_SISTAT: 0 disabled, 1 CLOSED, 2 OPEN, 3 DISCREP, 4 FAULT. -/
def State.pairState (s : State) (i : Nat) : Nat := bitsOf (s.fg R.SAF_SISTAT_STATE) (4 * (i - 1)) 4
def State.setPairState (s : State) (i v : Nat) : State :=
  s.fs R.SAF_SISTAT_STATE (withBits (s.fg R.SAF_SISTAT_STATE) (4 * (i - 1)) 4 v)
def State.pair (s : State) (i : Nat) : Pair := Smap.get (fun _ => {}) s.soc.pairs i
def State.setPair (s : State) (i : Nat) (p : Pair) : State :=
  { s with soc := { s.soc with pairs := Smap.set (fun _ => {}) s.soc.pairs i p } }

/-- The bits of pair `i` in SAF_SI: [0] EN, [1] ANTI, [3:2] ACT, [5:4] TPA, [7:6] TPB. -/
def State.pairCfg (s : State) (i : Nat) : Nat := bitsOf (s.fg R.SAF_SI_PAIR) (8 * (i - 1)) 8

/-- The data of a producer connection (R465). -/
def producerData (s : State) (k : Nat) : List Byte :=
  if s.fg (R.SAF_CONN_W1_USE k) = 1 then
    leBytes 1 (s.fg R.SAF_OUT_CRQREQ) ++ leBytes 1 s.socState ++ leBytes 2 0
  else
    let closed := (upTo 4).foldl (fun m i => if s.pairState i = 1 then setBit m (i - 1) true else m) 0
    leBytes 1 s.socState ++ leBytes 1 (s.fg R.SAF_OUT_ON) ++ leBytes 1 closed ++ leBytes 1 (s.fg R.SAF_CAUSE_CAUSE)
    ++ leBytes 4 s.epoch

/-- The whole PDU of a producer connection (R463). -/
def producerPduBytes (s : State) (k : Nat) : List Byte :=
  let data := producerData s k
  let fs := b2n (s.socState == stINIT || s.socState == stSAFE)
  let b := leBytes 4 (s.fg (R.SAF_CONN_W0_CID k)) ++ leBytes 2 (s.conn k).pSeq
    ++ leBytes 2 (s.fg (R.SAF_CONN_W2_TE k)) ++ leBytes 1 data.length ++ leBytes 1 fs ++ leBytes 2 0 ++ data
  b ++ leBytes 4 (safetyCrc b)

/-- Sends a PDU on producer connection `k`: SEQ increments, the period restarts (R465). The block is made with the
peer's session when the peer is a station, with this station's own when it is a host. -/
def sendPdu (k : Nat) (s : State) : State :=
  let peer := s.fg (R.SAF_CONN_W1_PEER k)
  let c := s.conn k
  let unicast := addrMode peer = 0
  let sess := if unicast then c.pSess else s.fg (R.CAD_PSESS_SESSION 0)
  let p : Packet := { cls := 0, opcode := 0x70, noReply := true, hops := 15, dest := peer, src := s.ownAddr
                      payload := producerPduBytes s k, via := .self }
  let q := withAuth (s.parcelKey 0) p sess (c.pCount + 1)
  let c' := { c with pSeq := (c.pSeq + 1) % 65536, pCount := c.pCount + 1
                     nextAt := s.lt + 1000000 * s.fg (R.SAF_CONN_W2_PERIOD k) }
  sendOut q (s.setConn k c')

/-- The producer connections of the safety set. -/
def State.producers (s : State) : List Nat := (List.range 8).filter fun k => s.fg (R.SAF_CONN_W1_ROLE k) = 2
def State.consumers (s : State) : List Nat := (List.range 8).filter fun k => s.fg (R.SAF_CONN_W1_ROLE k) = 1

/-- A change of SOC state: SAF_STAT.STATE, the outputs, and a PDU at once on every producer connection (R465). Entering
SAFE ends the kernel's frame sequence (R442), an off-pulse, a ramp, and brings CRQ to its idle duty (R449). Only in RAMP
can the demand in force lie below its source's (R444): from its end on it is the source's again. -/
def socGoto (st : Nat) (s : State) : State :=
  let s0 := s.fs R.SAF_STAT_STATE st
  let s1 := if s.socState = stRAMP then s0.fs R.SAF_OUT_DEM (demandSix s (sourceDemand s)) else s0
  let s2 := if st = stSAFE ∨ st = stINIT then
      let s3 := { s1 with soc := { s1.soc with
        kSeq := none, kSeen := false, rampPend := false, pulse := none, low := 0, noVal := 0
        selfOff := 0, togStop := 0 } }
      let s4 := s3.fs R.SAF_STAT_YRUN 0
      if s4.fb R.SAF_OUT_CRQREQ then setCrq false s4 else s4
    else s1
  let s5 := drive s2
  if st = s.socState then s5 else s5.each s5.producers sendPdu

/-! ## Stops (R445, R446, R448) -/

/-- The numbers SAF_CAUSE.CAUSE takes (R475). -/
def cKERNEL : Nat := 0x01
def cDEMCONN : Nat := 0x02
def cKTIME : Nat := 0x03
def cCONN : Nat := 0x04
def cPAIROPEN : Nat := 0x05
def cPAIRFAULT : Nat := 0x06
def cTRIP : Nat := 0x07
def cSTACK : Nat := 0x08
def cTOKMISS : Nat := 0x09
def cTOKCONF : Nat := 0x0A
def cCHECK : Nat := 0x0B
def cREADBACK : Nat := 0x0C
def cF0 : Nat := 0x0D
def cSLEEP : Nat := 0x0E
def cSUPER : Nat := 0x0F

/-- SAF_CAUSE and SAF_CEPOCH of a stop. -/
def recordStop (cause index fin : Nat) (s : State) : State :=
  (((s.fs R.SAF_CAUSE_CAUSE cause).fs R.SAF_CAUSE_INDEX index).fs R.SAF_CAUSE_END fin).fs R.SAF_CEPOCH_EPOCH s.epoch

/-- SOC has stopped asserting RUN, or ended a start handshake, at this time (R457). -/
def socDropped (s : State) : State := { s with soc := { s.soc with dropAt := some s.lt } }

/-- CNT5 counts a stop that takes an output off while it conducts (R550). -/
def countStop (s : State) : State := if s.energised then s.countUp 5 else s

/-- CNT3 counts an entry to RUN (R550). -/
def countStart (s : State) : State := s.countUp 3

/-- SCS-0 (R445) with the initiator `cause`, its index, and the END of R449. In STARTING the start ends and the stack
half gets a start withdrawal; in RAMP the recorded initiator stays when the new one is of the same kind. In INIT and
SAFE the outputs are off and nothing stops. [DEDUCED, log 114] -/
def scs0 (cause : Nat) (index : Nat := 0) (fin : Nat := 0) (s : State) : State :=
  if s.socState = stSTARTING then
    let s1 := recordStop cause index 0 s
    let s2 := s1.fs R.SAF_SRST_LASTREJ 0x0E
    socGoto stSAFE (socDropped (sendDown mWITHDRAWSTART [] s2))
  else if s.socState = stRUN then
    let s1 := if s.soc.rampPend then sendDown mSCS1END [] s else s
    socGoto stSAFE (socDropped (recordStop cause index fin (countStop s1)))
  else if s.socState = stRAMP then
    let keep := s.fg R.SAF_CAUSE_CAUSE = cause
    let s1 := recordStop cause (if keep then s.fg R.SAF_CAUSE_INDEX else index) fin (countStop s)
    socGoto stSAFE (socDropped (sendDown mSCS1END [] s1))
  else s

/-- The end of a ramp by one of the cases of R449 that names no new initiator. -/
def endRamp (fin : Nat) (s : State) : State :=
  let s0 := if fin = 1 then s else countStop s
  let s1 := (s0.fs R.SAF_CAUSE_END fin).fs R.SAF_CEPOCH_EPOCH s.epoch
  socGoto stSAFE (socDropped (sendDown mSCS1END [] s1))

/-- SCS-1 is available (R446). -/
def scs1Ok (s : State) : Bool :=
  let m := s.fg R.SAF_ENV0_AXM
  let n := 49 + m
  let k := 2 ^ s.fg R.SMP_STAT_RATE
  s.fb R.SAF_ENV0_S1EN && s.tb R.SMP_AXSAFE_SAFEI m && s.tb R.SMP_AXSTAT_LIVE m
  && !s.fb (R.SMP_AVG_PEDEN n) && s.fg (R.SMP_AVG_SHIFT n) == s.fg (R.SMP_AVG_LOGN n)
  && decide (2 ^ s.fg (R.SMP_AVG_LOGN n) * k * 50 ≤ 10000) && decide (s.fg R.SMP_STAT_RATE < 3)

/-- SCS-1 (R446, R448): while it is unavailable it acts as SCS-0; in RAMP, or once accepted, a further request is
ignored. RAMP is entered at the next 10 us boundary. -/
def scs1 (cause : Nat) (index : Nat := 0) (s : State) : State :=
  if s.socState = stSTARTING then scs0 cause index 0 s
  else if s.socState = stRUN then
    if s.soc.rampPend then s
    else if scs1Ok s then
      let s1 := recordStop cause index 0 s
      let s2 := { s1 with soc := { s1.soc with rampPend := true } }
      let s3 := setCrq true s2
      let s4 := s3.each s3.producers sendPdu
      sendDown mSCS1BEGIN [s.fg R.SAF_ENV2_TWIN] s4
    else scs0 cause index 0 s
  else s

/-- An action setting: 0b00 notify, 0b01 SCS-1, 0b10 SCS-0. -/
def stopBy (act cause : Nat) (index : Nat := 0) (s : State) : State :=
  if act = 1 then scs1 cause index s else if act = 2 then scs0 cause index 0 s else s

/-- The stop that pair `i` demands, with the cause of its state (R452). -/
def pairStop (i : Nat) (s : State) : State :=
  stopBy (bitsOf (s.pairCfg i) 2 2) (if s.pairState i = 4 then cPAIRFAULT else cPAIROPEN) i s

/-- Entering FAULT (R452): bit `tpf` or DTF, the F1 source, and the stop. -/
def pairFault (i : Nat) (byPulse : Bool) (s : State) : State :=
  let s1 := (s.setPairState i 4).setPair i { s.pair i with faultAt := s.lt }
  let s2 := if byPulse then s1.fbit R.SAF_SISTAT_TPF (i - 1) true else s1.fbit R.SAF_SISTAT_DTF (i - 1) true
  pairStop i (s2.raise 0x35 islSOC i)

/-! ## The supervisor (R455, R457, R459) -/

/-- SSV's answer to a start request: RUN asserted, or a refusal with a stack cause (R455 step 4). -/
def ssvAnswer (ok : Bool) (cause : Nat) (s : State) : State :=
  let v := if ok then { s.ssv with st := svRUN, run := true, judge := 0, cmd := false }
    else { s.ssv with st := svHOLD, run := false, judge := 0, cause := cause, dropAt := some s.lt }
  sendUp mANSWER [b2n ok, cause] { s with ssv := v }

/-- SSV withdraws RUN, or refuses the start that is in progress (R459); `refuse` is the refusal's stack cause. -/
def ssvWithdraw (cause refuse : Nat) (s : State) : State :=
  if s.ssv.st = svSTARTING then ssvAnswer false refuse s
  else if s.ssv.run then
    sendUp mRUNDROP [cause] { s with ssv := { s.ssv with
      run := false, st := svHOLD, cause := cause, dropAt := some s.lt } }
  else s

/-- A configurable supervisor input (R459): `act` 0 notify, 1 SCS-1 request, 2 SCS-0. -/
def ssvInput (act : Nat) (s : State) : State :=
  if act = 0 then s
  else if s.ssv.st = svSTARTING then ssvAnswer false 0x08 s
  else if act = 1 then sendUp mSCS1REQ [] s
  else ssvWithdraw 0x08 0x08 s

/-- SSV declares or takes up a disagreement with a stack cause (R457). -/
def ssvDisagree (cause : Nat) (notify : Bool) (s : State) : State :=
  let s1 := toneDrop { s with ssv := { s.ssv with
    st := svFAULT, run := false, judge := 0, cause := cause, cmd := true, dropAt := some s.lt } }
  if notify then sendUp mDISAGREE [cause] s1 else s1

/-- SOC declares or takes up a disagreement (R457): SCS-0, the F0 source, and the notice. During a start handshake the
outcome is SAFE with LASTREJ 0x0C (R460). [DEDUCED, log 115] -/
def socDisagree (cause : Nat) (notify : Bool) (s : State) : State :=
  let starting := s.socState = stSTARTING
  let s1 := scs0 cause 0 0 s
  let s2 := if starting then s1.fs R.SAF_SRST_LASTREJ 0x0C else s1
  let s3 := (s2.fs R.SAF_STAT_YRUN 0).raise 0x02 islSOC 0
  if notify then sendDown mDISAGREE [cause] s3 else s3

/-! ## The safety set (R466) -/

/-- Addresses of the words of one register row. -/
def rowAddrs (r : RegRow) : List Nat :=
  r.dims.foldl (fun l d => l.flatMap fun a => (List.range d.2).map fun i => a + d.1 * i) [r.base]

/-- The RWS words of a block, in ascending address order. -/
def rwsOf (rows : List RegRow) : List (Nat × Nat) :=
  ((rows.filter fun r => r.rws != 0).flatMap fun r => (rowAddrs r).map fun a => (a, r.rws)).foldl
    (fun l e => Smap.put l e.1 e.2) []

/-- The stack part: every RWS field of the SMP, SWC, CMP and BAL blocks, and SAF_SSVACT (R466). -/
def stackPart : List (Nat × Nat) :=
  rwsOf rows01 ++ rwsOf rows02 ++ rwsOf rows03 ++ rwsOf rows04 ++ [(R.SAF_SSVACT, 0x3F)]

/-- The system part: the other RWS fields of the SAF block. -/
def systemPart : List (Nat × Nat) := (rwsOf rows14).filter fun e => e.1 != R.SAF_SSVACT

/-- The RWS bits of the word at an address. -/
def rwsMask (a : Nat) : Nat := match findReg a with | some r => r.rws | none => 0

/-- A checksum over the RWS bits of a part, each register as 4 bytes, least significant first (R466).
[DEDUCED, log 122] -/
def partCrc (part : List (Nat × Nat)) (f : Nat → Word) : Nat :=
  safetyCrc (part.flatMap fun e => leBytes 4 ((f e.1).toNat &&& e.2))

def sckOf (f : Nat → Word) : Nat := partCrc stackPart f
def yckOf (f : Nat → Word) : Nat := partCrc systemPart f

/-- The safety-set checksum: the safety CRC-32 over SCK followed by YCK. -/
def setCrc (sck yck : Nat) : Nat := safetyCrc (leBytes 4 sck ++ leBytes 4 yck)

/-- The newer committed copy that passes its check (R467). -/
def State.safRec (s : State) : Option SafRec :=
  match s.nv.safA, s.nv.safB with
  | some a, some b => if a.ok && b.ok then (if b.seq < a.seq then some a else some b)
      else if a.ok then some a else if b.ok then some b else none
  | some a, none => if a.ok then some a else none
  | none, some b => if b.ok then some b else none
  | none, none => none

/-- SCK of the committed set in force: a record acts from its switch epoch on (R469 step 4). -/
def State.committedSck (s : State) : Nat := (s.reg R.SAF_SCK).toNat

end Sys2Proof.Machine
end

