-- ==== Sys2Proof/Machine/DomCore.lean ====
section
/-! DEFINITION. Switched power domains (R44 to R49): their numbering, whether they are fitted, and requests to switch them
on and off under the inrush limit (R47) with no request lost (R48). -/
namespace Sys2Proof.Machine

/-- Numbers of the 197 domains: quarter-plots 0 to 127, converters 128 to 179, lanes 180 to 187, then DRAM, DRAM PHY,
flash array, sweep converter, housekeeping, and AL1 to AL4. -/
def domQP (p q : Nat) : Nat := 4 * p + q
def domCV (n : Nat) : Nat := 127 + n
def domLane (p l : Nat) : Nat := 180 + 2 * p + l
def domDRAM : Nat := 188
def domDPHY : Nat := 189
def domFLASH : Nat := 190
def domSWEEP : Nat := 191
def domHKP : Nat := 192
def domPEG (n : Nat) : Nat := 192 + n

/-- Whether a domain is fitted (R49). -/
def State.domFit (s : State) (d : Nat) : Bool :=
  if d < 128 then decide (d / 4 < s.plotsFit)
  else if d < 180 then true
  else if d < 188 then decide ((d - 180) / 2 < s.portsFit)
  else if d < 190 then s.capFit
  else if d < 193 then true
  else decide (d < 193 + s.pegFit)

def isCV (d : Nat) : Bool := decide (128 ≤ d ∧ d < 180)

def State.domStep (s : State) (d : Nat) : Nat := Smap.get (fun _ => 0) s.dom.step d
def State.setDomStep (s : State) (d v : Nat) : State :=
  { s with dom := { s.dom with
    step := Smap.set (fun _ => 0) s.dom.step d v
    at_ := Smap.set (fun _ => 0) s.dom.at_ d (if v = 0 ∨ v = 4 then 0 else s.lt) } }
def State.domWant (s : State) (d : Nat) : Nat := Smap.get (fun _ => 0) s.dom.want d
def State.setWant (s : State) (d v : Nat) : State :=
  { s with dom := { s.dom with want := Smap.set (fun _ => 0) s.dom.want d v } }

/-- The domain is on (R46 step 4). -/
def State.domOn (s : State) (d : Nat) : Bool := s.domStep d == 4

/-- The inrush group of a domain (R44, R47): 1 converters, 2 the system die, 0 neither: the sweep converter lies on the
stack die and DRAM on the capture memory die. -/
def inrushGroup (d : Nat) : Nat := if isCV d then 1 else if d == domSWEEP || d == domDRAM then 0 else 2

/-- Domains of one inrush group that began step 1 within the last microsecond (R47). -/
def recentStarts (s : State) (cv : Bool) : List Nat :=
  (if cv then s.dom.cvAt else s.dom.sysAt).filter fun t => s.lt < t + 1000

/-- Whether the inrush limit lets one more domain of the group begin: 8 converter domains, 4 system-die domains. -/
def inrushAllows (s : State) (d : Nat) : Bool :=
  if inrushGroup d = 0 then true
  else if isCV d then decide ((recentStarts s true).length < 8)
  else decide ((recentStarts s false).length < 4)

/-- Step 1 of R46: the supply switch closes with isolation and reset asserted; a plot that was off shows it (R271). -/
def beginOn (d : Nat) (s : State) : State :=
  let dm := if inrushGroup d = 0 then s.dom
    else if isCV d then { s.dom with cvAt := recentStarts s true ++ [s.lt] }
    else { s.dom with sysAt := recentStarts s false ++ [s.lt] }
  let s1 := { s with dom := { dm with wait := dm.wait.filter fun x => x != d } }.setDomStep d 1
  if d < 128 ∧ s.fg (R.ENG_PLSTAT_STATE (d / 4)) = 0 then s1.fs (R.ENG_PLSTAT_STATE (d / 4)) 1 else s1

/-- An on request (R46 to R48). A domain that is switching off completes that first. -/
def domReqOn (d : Nat) (s : State) : State :=
  if !s.domFit d then s
  else if s.domStep d = 0 then
    if s.dom.wait.contains d then s
    else if inrushAllows s d && (inrushGroup d == 0 || !(s.dom.wait.any fun x => inrushGroup x == inrushGroup d)) then beginOn d s
    else { s with dom := { s.dom with wait := s.dom.wait ++ [d] } }
  else if s.domStep d ≤ 4 then s.setWant d 0
  else s.setWant d 1

/-- The sweep converter's domain begins to switch off: SWC_STAT.STATE reads 0b00 from here, no slot and no sequence runs, and
no comparison is possible (R115, R123). -/
def sweepLeave (s : State) : State :=
  let s1 := ((s.fs R.SWC_STAT_STATE 0).fs R.SWC_STAT_SLOT 127).fs R.SWC_STAT_PLNA 1
  { s1 with swp := { s1.swp with round := none, roundHeld := false, injOn := false, heldSsv := false, inCal := false, win := [] } }

/-- An off request (R46, R48). A domain that is switching on completes that first. -/
def domReqOff (d : Nat) (s : State) : State :=
  if s.domStep d = 0 then { s with dom := { s.dom with wait := s.dom.wait.filter fun x => x != d } }
  else if s.domStep d < 4 then s.setWant d 2
  else if s.domStep d = 4 then
    let s1 := (s.setDomStep d 5).setWant d 0
    if d == domSWEEP then sweepLeave s1 else s1
  else s.setWant d 0

def domReq (on_ : Bool) (d : Nat) (s : State) : State := if on_ then domReqOn d s else domReqOff d s

end Sys2Proof.Machine
end

