-- ==== Sys2Proof/Machine/SampleCore.lean ====
section
/-! DEFINITION. Operations of the main converters that other units reach: the rate in force (R31, R60), the
configuration boundary (R69), loss of liveness (R82, R83), starting a calibration (R88 to R90), settling. -/
namespace Sys2Proof.Machine

/-- The first multiple of `m` epochs whose aperture lies at least `lead` ns after datum `t`. -/
def firstMultiple (m lead t : Nat) : Nat := (t + lead + 50 * m - 1) / (50 * m) * m

/-- Duty `k`, tied to the epochs that are `off` before a multiple of `m`: time goes on to the next of them that it has not yet
served. [DESIGN CHOICE, log 186] -/
def State.aligned (k m off : Nat) (f : State → State) (s : State) : State :=
  let e0 := firstMultiple m (50 * off) s.now - off
  let e := if Smap.get (fun _ => 0) s.duty k = e0 + 1 then e0 + m else e0
  f ({ s with duty := Smap.set (fun _ => 0) s.duty k (e + 1) }.until (50 * e))

/-- Healthy up lanes in the map that the barrier transmit island uses (R31, R32). -/
def State.healthyUp (s : State) : Nat := 22 - popCount 22 s.bar.txMap

/-- The rate code the barrier allows; none while it carries no samples (R31). [DESIGN CHOICE, log 161] -/
def barrierRate (s : State) : Option Nat :=
  if s.healthyUp = 22 then some 0 else if 12 ≤ s.healthyUp then some 1 else if 7 ≤ s.healthyUp then some 2 else none

/-- The rate in force and what sets it (R60): the lowest of SMP_CTRL.RATE, the barrier's and the thermal step's.
[DESIGN CHOICE, log 161] -/
def rateInForce (s : State) : Nat × Nat :=
  let a := s.fg R.SMP_CTRL_RATE
  let t := s.smp.thermRate
  match barrierRate s with
  | none => (max a t, 1)
  | some b =>
    let m := max a (max b t)
    (m, if a = m then 0 else if b = m then 1 else 2)

/-- The epoch step of a rate code (R60). -/
def epochStep (rate : Nat) : Nat := if rate = 3 then 1024 else 2 ^ rate

/-- The epoch step in force. -/
def State.step (s : State) : Nat := epochStep (s.fg R.SMP_STAT_RATE)

def State.avgOf (s : State) (n : Nat) : Avg := Smap.get (fun _ => {}) s.smp.avg n
def State.setAvg (s : State) (n : Nat) (a : Avg) : State :=
  { s with smp := { s.smp with avg := Smap.set (fun _ => {}) s.smp.avg n a } }

/-- The samples of channel `n`'s averaging window (R70); survey rate bypasses the averager. [DEDUCED, log 31] -/
def avgN (s : State) (n : Nat) : Nat := if s.fg R.SMP_STAT_RATE = 3 then 1 else 2 ^ s.fg (R.SMP_AVG_LOGN n)

/-- An STL word with its cause (R64, R66); `chk` of R65. -/
def stlWord (chk : Bool) (cause : Nat) : Nat := 0x20000 + (if chk then 0x10000 else 0) + cause % 65536

/-- The converter under CROSS redirection; 0 for none. -/
def State.redirected (s : State) : Nat := s.fg R.SMP_STAT_XCH

/-- The partner of a cell converter (R76). -/
def partner (j : Nat) : Nat := if j % 2 = 1 then j + 1 else j - 1

/-- Channel `n` settles until epoch `e` (R66). -/
def settleUntil (n e : Nat) (s : State) : State :=
  { s with smp := { s.smp with settle := Smap.set (fun _ => 0) s.smp.settle n e } }

/-- LIVE of AXm falls (R82, R83): LOST is set; for a safety current channel the supervisor tells the system half, and
outside a ramp the F1 source is raised. -/
def liveLoss (m : Nat) (s : State) : State :=
  if !s.tb R.SMP_AXSTAT_LIVE (m - 1) then s
  else
    let s1 := (s.fbit R.SMP_AXSTAT_LIVE (m - 1) false).fbit R.SMP_AXSTAT_LOST (m - 1) true
    if s1.tb R.SMP_AXSAFE_SAFEI (m - 1) then
      let s2 := sendUp mLIVELOSS [m] s1
      if s2.ssv.backstop.isSome && s2.fg R.SAF_ENV0_AXM + 1 == m then s2 else s2.raise 0x37 islSSV (m - 1)
    else s1

/-- Whether the rate in force gives 8 converted samples in each dither period of AXm (R82). -/
def ditherRateOk (s : State) (m : Nat) : Bool :=
  decide (8 * s.step ≤ 2 ^ s.fg (R.SMP_AXCFG_P m))

/-- LIVE falls at once on the channels whose dither period no longer holds 8 samples. -/
def liveRateCheck (s : State) : State :=
  (upTo 4).foldl (fun t m =>
    if ditherRateOk t m then t
    else liveLoss m { t with smp := { t.smp with dith := Smap.set (fun _ => 0) t.smp.dith m 0 } }) s

/-- Replaces channel `n`'s word in the pipeline entry of epoch `e`. -/
def patchWord (e n w : Nat) (s : State) : State :=
  { s with smp := { s.smp with
    pipe := s.smp.pipe.map fun p => if p.epoch = e then { p with words := p.words.set (n - 1) w } else p } }

/-- A channel is an AX channel. -/
def isAX (n : Nat) : Bool := decide (49 ≤ n)

/-- The averaged code and whether it saturated (R71, R72). -/
def averaged (n : Nat) (peden : Bool) (shift : Nat) (acc : Int) : Int × Bool :=
  let y := roundShift acc shift
  let c := if isAX n || peden then clampS 16 y else max 0 (min 65535 y)
  (c, y != c)

/-- A valid sample word (R64). -/
def dataWord (ovr ems chk : Bool) (code : Int) : Nat :=
  b2n ovr * 0x80000 + b2n ems * 0x40000 + b2n chk * 0x10000 + ofInt 16 code

/-- The word of a window that has ended (R73). -/
def windowWord (s : State) (n : Nat) (a : Avg) : Nat :=
  let chk := a.chk
  match a.stl with
  | some c => stlWord chk c
  | none =>
    if a.cut then stlWord chk 5
    else if s.fg R.SMP_STAT_RATE = 3 then dataWord a.ovr a.ems chk a.acc
    else
      let y := averaged n (s.fb (R.SMP_AVG_PEDEN n)) (s.fg (R.SMP_AVG_SHIFT n)) a.acc
      dataWord (a.ovr || y.2) a.ems chk y.1

/-- Forms the word of channel `n`'s window that has ended, in the slot of its last converted epoch. -/
def formWindow (n : Nat) (s : State) : State :=
  let a := s.avgOf n
  if a.full then
    match s.smp.pipe.getLast? with
    | some p => (patchWord p.epoch n (windowWord s n a) s).setAvg n {}
    | none => s.setAvg n {}
  else s

/-- Forms the word of every window that has ended. -/
def formWindows (s : State) : State := (upTo 52).foldl (fun t n => formWindow n t) s

/-- The sweep domain is on. -/
def State.sweepOn (s : State) : Bool := s.domOn domSWEEP

/-- SWC_STAT.PLNA: no comparison is possible, because the sweep domain is off or the rate is survey (R123, R131). -/
def updatePlna (s : State) : State :=
  s.fs R.SWC_STAT_PLNA (b2n (!s.sweepOn || s.fg R.SMP_STAT_RATE == 3))

/-- The first epoch whose aperture has not come yet. -/
def State.nextEpoch (s : State) : Nat :=
  match s.smp.pipe.getLast? with
  | some p => if s.epoch ≤ p.epoch then p.epoch + 1 else s.epoch
  | none => s.epoch

/-- The windows in progress end at a change of rate outside a boundary (R74): STL in the slot of the last converted epoch,
with cause 0x0005 unless a cause that ranks before it applies to the window (R66), and again in the window of the new grid
that contains the change epoch. [DEDUCED, log 32] -/
def cutWindows (oldStep : Nat) (s : State) : State :=
  let e := s.nextEpoch
  let last := (e - 1) / oldStep * oldStep
  (upTo 52).foldl (fun t n =>
    let a := t.avgOf n
    let t1 := if a.n ≠ 0 then patchWord last n (stlWord a.chk (a.stl.getD 5)) t else t
    let w := avgN t n * t.step
    t1.setAvg n { cut := decide (e % w ≠ 0) }) s

/-- Brings SMP_STAT.RATE and RATESRC to what R60 gives; a change outside a configuration boundary cuts the windows in
progress. -/
def updateRate (atBoundary : Bool) (s : State) : State :=
  let old := s.fg R.SMP_STAT_RATE
  let (r, src) := rateInForce s
  if r = old then s.fs R.SMP_STAT_RATESRC src
  else
    let s1 := updatePlna (((formWindows s).fs R.SMP_STAT_RATE r).fs R.SMP_STAT_RATESRC src)
    let s2 := if atBoundary then (upTo 52).foldl (fun t n => t.setAvg n {}) s1 else cutWindows (epochStep old) s1
    liveRateCheck s2

/-- Queues a configuration write for its boundary (R69). [DEDUCED, log 28] -/
def queueCfg (a : Nat) (v : Word) (s : State) : State :=
  { s with smp := { s.smp with pend := s.smp.pend ++ [(firstMultiple 1024 2000 s.now, a, v)] } }

/-- The channel converts: RUN, its enable and its power domain (R66 cause 0x0001). [DEDUCED, log 38] -/
def converting (s : State) (n : Nat) : Bool :=
  s.fb R.SMP_CTRL_RUN && s.cellBit R.SMP_CHEN0 R.SMP_CHEN1 n && s.domOn (domCV n)

/-- Step 6 of R88 ends: the calibration no longer runs. -/
def calFinish (s : State) : State :=
  match s.smp.cal with
  | some c =>
    if c.phase = 5 ∧ Smap.get (fun _ => 0) s.smp.settle c.ch ≤ s.epoch then
      ({ s with smp := { s.smp with cal := none, calLast := s.lt } }.fs R.SMP_STAT_CALBUSY 0).fs R.SMP_STAT_CALCH 0
    else s
  | none => s

/-- Starts the calibration of channel `ch` (R88 step 1), or lets it wait (R89, R90). -/
def calStart (ch : Nat) (s : State) : State :=
  let wait := !s.fb R.SWC_STAT_REF_SETTLED || s.redirected == ch
  let s1 := { s with smp := { s.smp with cal := some {
    ch := ch, phase := if wait then 0 else 1, since := s.epoch } } }
  (s1.fs R.SMP_STAT_CALBUSY (b2n !wait)).fs R.SMP_STAT_CALCH (if wait then 0 else ch)

/-- Automatic calibration skips the channel during an SCS-1 ramp (R90). -/
def calSkipped (s : State) (ch : Nat) : Bool :=
  decide (49 ≤ ch) && s.tb R.SMP_AXSAFE_SAFEI (ch - 49) && s.ssv.backstop.isSome

/-- A GO write for channel `ch`: refused for a channel that is busy, redirected or skipped (R90), and for every channel while
a calibration runs or waits, since only one channel is calibrated at a time. [DESIGN CHOICE, log 163] -/
def calGo (ch : Nat) (s : State) : Stat × State :=
  if s.smp.cal.isSome ∨ s.redirected = ch ∨ calSkipped s ch then (.refused, s) else (.ok, calStart ch s)

/-- REF_SETTLED is 0 during steps 2 to 4 of a calibration, which will be rejected (R89). -/
def calUnsettled (s : State) : State :=
  match s.smp.cal with
  | some c =>
    if 2 ≤ c.phase ∧ c.phase ≤ 4 ∧ !s.fb R.SWC_STAT_REF_SETTLED then
      { s with smp := { s.smp with cal := some { c with unsettled := true } } }
    else s
  | none => s

/-- The redirection of a CROSS round ends at epoch `e`: the converter settles back on its own cell (R78). -/
def crossRelease (e : Nat) (s : State) : State :=
  let j := s.redirected
  let s1 := { s with smp := { s.smp with xr := none } }
  if j = 0 then s1 else settleUntil j (e + 32) (s1.fs R.SMP_STAT_XCH 0)

/-- Ends a CROSS round in progress without comparison (R80), which VALID then shows (R99). -/
def crossAbort (s : State) : State :=
  if s.smp.xr.isSome then crossRelease s.nextEpoch (s.fs R.SMP_XSTAT_VALID 0) else s

end Sys2Proof.Machine
end

