-- ==== Sys2Proof/Machine/Balance.lean ====
section
/-! DEFINITION. Bleed switches: the scheduler, arbitration, protection and excitation; the meanings of the rows
BALANCE_SCHEDULER_TICK to EXCITATION_BLOCK_END (R140 to R164). -/
namespace Sys2Proof.Machine

/-- Cells 1 to 48. -/
def cells : List Nat := upTo 48

def State.bOn (s : State) (n : Nat) : Bool := s.cellBit R.BAL_ON0 R.BAL_ON1 n
def State.bEn (s : State) (n : Nat) : Bool := s.cellBit R.BAL_CELLEN0 R.BAL_CELLEN1 n
def State.bOc (s : State) (n : Nat) : Bool := s.cellBit R.BAL_OC0 R.BAL_OC1 n
def State.bSwo (s : State) (n : Nat) : Bool := s.cellBit R.BAL_SWO0 R.BAL_SWO1 n
def State.bSws (s : State) (n : Nat) : Bool := n ≠ 0 && decide (n ≤ 48) && s.cellBit R.BAL_SWS0 R.BAL_SWS1 n

/-- The cells under excitation, and those selected, in ascending order. -/
def State.excited (s : State) : List Nat := s.exc.cells.map fun c => c.1
def State.selected (s : State) : List Nat := cells.filter fun n => s.cellBit R.EXC_SEL0 R.EXC_SEL1 n

/-! ## Force-off (R150) -/

/-- Active force sources: bit 0 UVT, bit 1 SWL, bit 2 CMD. -/
def forceSources (s : State) : Nat :=
  let uvt := (s.reg R.CMP_UVTRIP0 &&& s.reg R.CMP_UVEN0) != 0 || (s.reg R.CMP_UVTRIP1 &&& s.reg R.CMP_UVEN1) != 0
  b2n uvt + 2 * b2n (s.fb R.SWC_DIAG_LOST) + 4 * b2n s.ssv.cmd

/-- An enabled force source is active. -/
def forced (s : State) : Bool := forceSources s &&& s.fg R.BAL_FORCE_SRC != 0

/-! ## Scheduler (R145, R146, R149) -/

/-- The cap of the thermal band in force (R149). -/
def capOf (s : State) : Nat :=
  let m := s.fg R.BAL_CTRL_MAXSW
  match s.fg R.BAL_STAT_TBAND with
  | 0 => m
  | 1 => min m 12
  | 2 => min m 6
  | 3 => min m 2
  | _ => 0

/-- Cell `n` requests balancing (R145, R148). -/
def requests (s : State) (n : Nat) : Bool :=
  s.fb (R.BAL_TMR_TIME n) && s.fb R.BAL_CTRL_EN && s.bEn n && !(s.bal.asleep && !s.fb R.BAL_CTRL_SLEEPBAL)

/-- Whether cell `a` comes before cell `b` in the scheduler's order. -/
def schedBefore (s : State) (a b : Nat) : Bool :=
  let pref := if s.bal.tick % 2 = 0 then 1 else 0
  let pa := a % 2 == pref
  let pb := b % 2 == pref
  if pa != pb then pa
  else
    let ta := s.fg (R.BAL_TMR_TIME a)
    let tb := s.fg (R.BAL_TMR_TIME b)
    if ta ≠ tb then decide (tb < ta) else decide (a < b)

/-- Inserts into a list that `schedBefore` orders. -/
def schedInsert (s : State) (n : Nat) : List Nat → List Nat
  | [] => [n]
  | m :: ms => if schedBefore s n m then n :: m :: ms else m :: schedInsert s n ms

/-- The cells that the scheduler closes. [DEDUCED, log 44] -/
def schedule (s : State) : List Nat :=
  let base := cells.filter fun n => s.excited.contains n || s.bSws n
  let order := (cells.filter fun n => requests s n).foldr (schedInsert s) []
  let final := order.foldl (fun closed n =>
    if capOf s ≤ closed.length then closed
    else if closed.contains n || closed.contains (n - 1) && n ≠ 1 || closed.contains (n + 1) then closed
    else closed ++ [n]) base
  final.filter fun n => !base.contains n

/-! ## Arbitration (R144, R160) -/

/-- Row 1 of R160: the switch is held open. -/
def heldOpen (s : State) (n : Nat) : Bool := !s.bEn n || forced s || s.bOc n || s.bSwo n

/-- Whether the scheduler's switch `n` is closed: rows 1, 2 and 4 of R160. -/
def balClosed (s : State) (n : Nat) : Bool :=
  !heldOpen s n && !s.bSws (n - 1) && !s.bSws (n + 1) && s.bal.sched.contains n && !s.excited.contains n

/-! ## The pattern (R151 to R153) -/

/-- The settings that the EXC registers hold. -/
def excSet (s : State) : ExcSet :=
  { shape := s.fg R.EXC_CTRL_SHAPE, carrier := s.fg R.EXC_CTRL_CARRIER, bias := s.fg R.EXC_CTRL_BIAS
    balbias := s.fg R.EXC_CTRL_BALBIAS, order := s.fg R.EXC_PRBS_ORDER, chipM1 := s.fg R.EXC_PRBS_CHIPM1
    tones := ((List.range 16).filter fun k => s.fb (R.EXC_TONE_EN k)).map fun k =>
      (s.fg (R.EXC_TONE_IDX k), s.fg (R.EXC_TONE_AMP k), s.fg (R.EXC_TONE_PH k)) }

/-- Carrier period in epochs. -/
def ExcSet.k (x : ExcSet) : Nat := 20 * 2 ^ x.carrier

/-- 10^(j/10) in units of 1e-30. -/
def decade : List Nat := [1000000000000000000000000000000, 1258925411794167210423954106396,
  1584893192461113485202101373392, 1995262314968879601352455396740, 2511886431509580111085032067799,
  3162277660168379331998893544433, 3981071705534972507702523050878, 5011872336272722850015541868849,
  6309573444801932494343601366223, 7943282347242815020659182828364]

/-- The phase increment F of grid index `i` for a carrier of `k` epochs (R152). -/
def phaseInc (i k : Nat) : Nat :=
  (decade.getD (i % 10) 0 * 10 ^ (i / 10) * k * 5 * 2 ^ 48 * 2 + 10 ^ 40) / (2 * 10 ^ 40)

/-- The phase of a tone at the centre of carrier period `c` (R152). -/
def tonePhase (c inc ph : Nat) : Nat := (c * inc + inc / 2 + ph * 2 ^ 40) % 2 ^ 48

/-- The multisine signal x(c) as numerator and denominator. [DEDUCED, log 46] -/
def multisine (x : ExcSet) (c : Nat) : Int × Nat :=
  x.tones.foldl (fun (a : Int × Nat) (t : Nat × Nat × Nat) =>
    let phi := tonePhase c (phaseInc t.1 x.k) t.2.2
    (a.1 + (t.2.1 : Int) * sinFix 30 phi, a.2 + t.2.1 * 2 ^ 30)) (0, 0)

/-- The tapped stages of a PRBS register, stage i at bit i - 1 (R153). -/
def prbsTaps (order : Nat) : List Nat :=
  match order with
  | 7 => [7, 6]
  | 8 => [8, 6, 5, 4]
  | 9 => [9, 5]
  | 10 => [10, 7]
  | 11 => [11, 9]
  | 12 => [12, 11, 10, 4]
  | 13 => [13, 12, 11, 8]
  | 14 => [14, 13, 12, 2]
  | _ => [15, 14]

/-- One chip of the Fibonacci shift register. -/
def prbsNext (order r : Nat) : Nat :=
  let fb := (prbsTaps order).foldl (fun b t => b ^^ r.testBit (t - 1)) false
  (r * 2 + b2n fb) % 2 ^ order

/-- The register and the chip's used periods one carrier period later. -/
def prbsStep (x : ExcSet) (r : Nat × Nat) : Nat × Nat :=
  if r.2 < x.chipM1 then (r.1, r.2 + 1) else (prbsNext x.order r.1, 0)

/-- The register in carrier period `c` of a run whose first period is `c0`: preset to all ones, one step per chip, and the
same again after 2^p - 1 chips. -/
def prbsAt (x : ExcSet) (c0 c : Nat) : Nat :=
  (List.range ((c - c0) / (x.chipM1 + 1) % (2 ^ x.order - 1))).foldl (fun r _ => prbsNext x.order r) (2 ^ x.order - 1)

/-- x(c) of a carrier period, given the PRBS register: +1 for an output bit of 1, -1 for 0. -/
def pattern (x : ExcSet) (c lfsr : Nat) : Int × Nat :=
  if x.shape = 1 then multisine x c
  else if lfsr.testBit (x.order - 1) then (1, 1) else (-1, 1)

/-- The closed part of a carrier period of `k` epochs in 3.125 ns steps: clamp(B + M x, 0, 1) (R151). -/
def dutySteps (k bias m : Nat) (x : Int × Nat) : Nat :=
  let t : Int := 16 * k
  let num := (4 * (bias : Int) * x.2 + m * x.1) * t
  let den : Int := 1024 * x.2
  if x.2 = 0 then 0 else (max 0 (min t ((2 * num + den) / (2 * den)))).toNat

/-- The centred closed interval of period `c`, in steps from datum 0; an odd rest of the period lies behind it. -/
def closedPart (k c d : Nat) : Nat × Nat := (16 * k * c + (16 * k - d) / 2, 16 * k * c + (16 * k - d) / 2 + d)

/-- The PRBS register after the block in progress. -/
def blockReg (s : State) : Nat × Nat :=
  (List.range (5120 / s.exc.set.k)).foldl (fun r _ => prbsStep s.exc.set r) (s.exc.lfsr, s.exc.chip)

/-- The register in carrier period `c` of the block in progress. -/
def regAt (s : State) (c : Nat) : Nat × Nat :=
  (List.range (c - s.exc.blk / s.exc.set.k)).foldl (fun r _ => prbsStep s.exc.set r) (s.exc.lfsr, s.exc.chip)

/-- The closed interval of an excited cell in period `c` of the block in progress. -/
def cellPart (s : State) (x : ExcCell) (c : Nat) : Nat × Nat :=
  closedPart s.exc.set.k c (dutySteps s.exc.set.k x.bias x.m (pattern s.exc.set c (regAt s c).1))

/-- The present 3.125 ns step. -/
def State.pwmStep (s : State) : Nat := s.now * 16 / 50

/-- Whether the switch of cell `n` is closed by excitation at the present instant (R160 row 3). -/
def excClosed (s : State) (n : Nat) : Bool :=
  match s.exc.cells.find? fun c => c.1 == n with
  | none => false
  | some (_, c) =>
    let p := cellPart s c (s.pwmStep / (16 * s.exc.set.k))
    s.bal.driven.contains n && decide (p.1 ≤ s.pwmStep ∧ s.pwmStep < p.2)

/-! ## Closed time and samples (R147, R157) -/

def State.accOf (s : State) (n : Nat) : Nat := Smap.get (fun _ => 0) s.bal.acc n
def State.setAcc (s : State) (n v : Nat) : State :=
  { s with bal := { s.bal with acc := Smap.set (fun _ => 0) s.bal.acc n v } }

/-- One carrier period of an excited cell between steps `a` and `b`: its closed steps there; an on-sample at the centre of
a closed interval of at least 200 ns, an off-sample at the start of a period whose open interval is at least 200 ns. -/
def tallyPeriod (x : ExcSet) (a b : Nat) (held : Bool) (c : Nat) (t : ExcCell × Nat × Nat × Nat) :
    ExcCell × Nat × Nat × Nat :=
  let d := if held then 0 else dutySteps x.k t.1.bias t.1.m (pattern x c t.2.2.1)
  let p := closedPart x.k c d
  let mid := 16 * x.k * c + 8 * x.k
  let start := 16 * x.k * c
  let r := prbsStep x t.2.2
  ({ t.1 with onN := t.1.onN + b2n (decide (64 ≤ d ∧ a ≤ mid ∧ mid < b))
              offN := t.1.offN + b2n (decide (64 ≤ 16 * x.k - d ∧ a ≤ start ∧ start < b)) },
    t.2.1 + (min p.2 b - max p.1 a), r)

/-- Counts the closed time and the samples of one excited cell up to step `b` of the block in progress. The balance timer
counts the closed time that results, whatever the cell requests (R147, R156, R160). [DESIGN CHOICE, log 47] -/
def excTally (b : Nat) (s : State) (nc : Nat × ExcCell) : ExcCell × Nat :=
  let held := !s.bal.driven.contains nc.1
  let r := (List.range (5120 / s.exc.set.k)).foldl (fun t i =>
    tallyPeriod s.exc.set nc.2.pos b held (s.exc.blk / s.exc.set.k + i) t) (nc.2, 0, s.exc.lfsr, s.exc.chip)
  ({ r.1 with pos := max nc.2.pos b }, r.2.1)

/-- Counts every excited cell up to epoch `e`, at most to the end of the block in progress. -/
def excCredit (e : Nat) (s : State) : State :=
  let b := min (16 * e) (16 * (s.exc.blk + 5120))
  let r := s.exc.cells.map fun nc => (nc.1, excTally b s nc)
  let s1 := r.foldl (fun t x => t.setAcc x.1 (t.accOf x.1 + x.2.2)) s
  { s1 with exc := { s1.exc with cells := r.map fun x => (x.1, x.2.1) } }

/-- Takes the closed time of switch `n` into its accumulator: 320 steps for each STAO tick of 1 us without excitation, the
on-time of the carrier periods under excitation (R147). -/
def accrue (n : Nat) (s : State) : State :=
  match s.bal.since.find? fun e => e.1 == n with
  | none => if s.excited.contains n then excCredit s.epoch s else s
  | some (_, t) =>
    let us := s.lt / 1000 - t / 1000
    let rest := s.bal.since.filter fun e => e.1 != n
    { s with bal := { s.bal with since := rest ++ [(n, max t s.lt)] } }.setAcc n (s.accOf n + 320 * us)

/-! ## Switching (R144, R160, R179) -/

/-- A bleed-state message (R179). -/
def bleedMessage (n : Nat) (on_ : Bool) (e : Nat) (s : State) : State :=
  sendUp mBLEED [n * 0x4000000 + b2n on_ * 0x2000000 + s.bal.seq * 0x200000 + e % 0x200000]
    { s with bal := { s.bal with seq := (s.bal.seq + 1) % 16 } }

/-- The first epoch at which a neighbour of switch `n` may close (R144). -/
def State.openedAt (s : State) (n : Nat) : Nat := Smap.get (fun _ => 0) s.bal.opened n

/-- Notes that switch `n` is open from 3.125 ns step `p` on: a neighbour may close once it has been open for an epoch. -/
def noteOpen (n p : Nat) (s : State) : State :=
  { s with bal := { s.bal with opened := Smap.set (fun _ => 0) s.bal.opened n ((p + 15) / 16 + 1) } }

/-- The epoch at which switch `n` may close, from `e` on: both neighbours have been open for at least one epoch (R144). -/
def closeEpoch (n e : Nat) (s : State) : Nat := max e (max (s.openedAt (n - 1)) (s.openedAt (n + 1)))

/-- Switch `n` stops being closed for balancing, without a message. -/
def balOpen (n : Nat) (s : State) : State :=
  let t := accrue n s
  { t with bal := { t.bal with since := t.bal.since.filter fun x => x.1 != n } }.setCellBit R.BAL_ON0 R.BAL_ON1 n false

/-- Opens or closes switch `n` for balancing at epoch `e` at the earliest, with its message; a switch whose neighbour has not
been open for an epoch closes when it has (R144). -/
def bleedSwitch (n : Nat) (on_ : Bool) (e : Nat) (s : State) : State :=
  if on_ then
    let c := closeEpoch n e s
    bleedMessage n true c ({ s with bal := { s.bal with since := s.bal.since ++ [(n, s.lt + 50 * (c - s.epoch))] } }.setCellBit
      R.BAL_ON0 R.BAL_ON1 n true)
  else bleedMessage n false e (noteOpen n (16 * e) (balOpen n s))

/-- Switch `n` is closed for balancing at the present instant. -/
def State.bOnNow (s : State) (n : Nat) : Bool :=
  s.bOn n && !(s.bal.since.any fun x => x.1 == n && decide (s.lt < x.2))

/-- The step at which an excited switch that leaves the pattern at step `b` opens, or opened last; the start of the carrier
period where it has not closed in it yet. -/
def lastOpening (s : State) (x : ExcCell) (b : Nat) : Nat :=
  let c := (b - 1) / (16 * s.exc.set.k)
  let p := cellPart s x c
  if p.1 < b then min p.2 b else 16 * s.exc.set.k * c

/-- The services read the settings of a run at its start epoch (R170). -/
def svcStart (cs : List (Nat × ExcCell)) (s : State) : State :=
  { s with svc := { s.svc with runs := s.svc.runs ++ [{
      start := s.exc.start, set := s.exc.set, cells := cs.map fun c => (c.1, c.2.bias, none) }] } }

/-- The excited cells of which `p` holds leave the run at epoch `e`. -/
def svcLeave (e : Nat) (p : Nat → Bool) (s : State) : State :=
  let close := fun (c : Nat × Nat × Option Nat) => if p c.1 && c.2.2.isNone then (c.1, c.2.1, some e) else c
  { s with svc := { s.svc with runs := s.svc.runs.map fun r => { r with cells := r.cells.map close } } }

/-- Whether a switch follows the pattern generator: rows 1 to 3 of R160. -/
def excDriven (s : State) (n : Nat) : Bool :=
  s.excited.contains n && !heldOpen s n && !s.bSws (n - 1) && !s.bSws (n + 1)

/-- A switch leaves the pattern generator at epoch `e` and opens, or returns to the scheduler: a reason other than excitation
(R179). `old` is its record in the generator; a switch that closes for balancing at once sends that message instead. -/
def leaveDriven (e : Nat) (old : State) (n : Nat) (s : State) : State :=
  let s1 := match old.exc.cells.find? fun c => c.1 == n with
    | some c => noteOpen n (lastOpening old c.2 (16 * e)) s
    | none => s
  if balClosed s n then s1 else bleedMessage n false e s1

/-- Brings the requests, the scheduler and the switches up to date at epoch `e`: openings first, then closings. A switch
that excitation takes over or gives a cell back to changes state by excitation, without a message; a requesting cell that
excitation drives is not held. [DEDUCED, log 44] [DESIGN CHOICE, log 168] -/
def balUpdate (e : Nat) (old s : State) : State :=
  let s1 := s.fs R.BAL_STAT_CAP (capOf s)
  let s2 := { s1 with bal := { s1.bal with sched := schedule s1 } }
  let s3 := cells.foldl (fun t n =>
    (t.fs (R.BAL_TMR_REQ n) (b2n (requests t n))).fs (R.BAL_TMR_HELD n)
      (b2n (requests t n && !t.bal.sched.contains n && !t.excited.contains n))) s2
  let s4 := (cells.filter fun n => s3.bOn n && s3.excited.contains n).foldl (fun t n => balOpen n t) s3
  let lost := s4.bal.driven.filter fun n => !excDriven s4 n
  let s5 := { s4 with bal := { s4.bal with driven := cells.filter fun n => excDriven s4 n } }
  let s6 := lost.foldl (fun t n => leaveDriven e old n t) s5
  let opens := cells.filter fun n => s6.bOn n && !balClosed s6 n
  let closes := cells.filter fun n => !s6.bOn n && balClosed s6 n
  let s7 := opens.foldl (fun t n => bleedSwitch n false e t) s6
  let s8 := closes.foldl (fun t n => bleedSwitch n true e t) s7
  s8.fs R.BAL_STAT_NCLOSED (cells.countP fun n => s8.bOnNow n || excClosed s8 n)

/-- After a stop the switches return to the scheduler at the next carrier boundary (R159). -/
def balMature (s : State) : State :=
  match s.exc.retAt with
  | none => s
  | some e =>
    if e ≤ s.epoch then
      let s1 := excCredit e s
      balUpdate e s1 (svcLeave e (fun _ => true) { s1 with exc := { s1.exc with cells := [], retAt := none } })
    else s

/-- Brings requests, scheduler and switches up to date now, after a return that is due. -/
def balRefresh (s : State) : State :=
  let s1 := excCredit s.epoch (balMature s)
  balUpdate s1.epoch s1 s1

/-! ## Excitation: start and stop (R151, R154, R159) -/

def State.excBusy (s : State) : Bool := s.fb R.EXC_STAT_RUN || s.fb R.EXC_STAT_PEND

/-- The first carrier boundary from now on. -/
def nextCarrier (s : State) : Nat := (s.now + 50 * s.exc.set.k - 1) / (50 * s.exc.set.k) * s.exc.set.k

/-- Excitation stops on every selected cell; the switches return at the next carrier boundary (R159). EXC_STAT.SAT and the
EXC_IONk keep what they held. [DESIGN CHOICE, log 169] -/
def excStop (cause : Nat) (s : State) : State :=
  if s.excBusy then
    let s1 := (((s.fs R.EXC_STAT_RUN 0).fs R.EXC_STAT_PEND 0).fs R.EXC_STAT_STOPCAUSE cause).fs R.EXC_STAT_NACT 0
    balRefresh { s1 with exc := { s1.exc with retAt := some (nextCarrier s1) } }
  else s

/-- The excited cells alone exceed the cap: excitation stops (R149, R159). -/
def capCheck (s : State) : State := if capOf s < s.excited.length then excStop 3 s else s

/-- The highest tone index that a carrier permits: f_i at most a tenth of the carrier (R154). -/
def toneLimit (carrier : Nat) : Nat := if carrier = 0 then 70 else if carrier = 1 then 66 else 63

/-- The selection is legal (R151, R154). -/
def selectionOk (s : State) : Bool :=
  let l := s.selected
  !l.isEmpty && decide (l.length ≤ 8) && l.all fun n => s.bEn n && !l.contains (n + 1)

/-- The tones are legal for a carrier (R154). -/
def tonesOk (s : State) (carrier : Nat) : Bool :=
  let en := (List.range 16).filter fun k => s.fb (R.EXC_TONE_EN k)
  en.any (fun k => s.fb (R.EXC_TONE_AMP k)) && en.all fun k => decide (s.fg (R.EXC_TONE_IDX k) ≤ toneLimit carrier)

/-- The checks of a GO write in the order of R154, for the register values that would then stand. [DEDUCED, log 41] -/
def excGoCheck (s : State) (shape carrier : Nat) : Stat :=
  if s.excBusy then .refused rSTATE
  else if !selectionOk s then .badParam
  else if shape = 1 ∧ !tonesOk s carrier then .badParam
  else if forceSources s ≠ 0 then .refused rSTATE
  else if capOf s < s.selected.length then .refused rSTATE
  else .ok

/-- Accepts a start: the start epoch and PEND (R154). -/
def excArm (s : State) : State :=
  let e := firstMultiple 5120 2000 s.now
  { (s.fs R.EXC_STAT_PEND 1).fs R.EXC_START_EPOCH e with exc := { s.exc with start := e } }

/-- EXC_CTRL (R154, R159, R164). -/
def excCtrlWrite (v : Word) (s : State) : Stat × State :=
  let shape := wf v R.EXC_CTRL_SHAPE
  let carrier := wf v R.EXC_CTRL_CARRIER
  let bad := fun (b : Nat) => decide (b < 32 ∨ 224 < b)
  let go := wf v R.EXC_CTRL_GO = 1
  let keep := v.toNat &&& 0x00FFFF33
  if 1 < shape ∨ carrier = 3 ∨ bad (wf v R.EXC_CTRL_BIAS) ∨ bad (wf v R.EXC_CTRL_BALBIAS) then (.badParam, s)
  else if s.excBusy ∧ keep ≠ (s.reg R.EXC_CTRL).toNat then (.refused rSTATE, s)
  else if go ∧ excGoCheck s shape carrier ≠ .ok then (excGoCheck s shape carrier, s)
  else
    let s1 := s.setReg R.EXC_CTRL (w32 keep)
    let s2 := if wf v R.EXC_CTRL_STOP = 1 then excStop 1 s1 else s1
    (.ok, if go then excArm s2 else s2)

def execExcitationGo (v : Word) (s : State) := run (direct R.EXC_CTRL (w32 (setBit v.toNat 31 true)) excCtrlWrite) s
def execExcitationStopWrite (v : Word) (s : State) :=
  run (direct R.EXC_CTRL (w32 (setBit v.toNat 30 true)) excCtrlWrite) s

/-- The registers besides EXC_CTRL that must not change while RUN or PEND is 1 (R154). -/
def excFixed (a : Nat) : Bool :=
  a == R.EXC_SEL0 || a == R.EXC_SEL1 || a == R.EXC_PRBS || decide (R.EXC_TONE 0 ≤ a ∧ a ≤ R.EXC_TONE 15)

/-- A write of another EXC register (R154, R164). -/
def excWrite (a : Nat) (v : Word) (s : State) : Stat × State :=
  let bad := (a == R.EXC_AMP && (v == 0 || decide (200 < v.toNat)))
    || (a == R.EXC_PRBS && decide (v.toNat % 16 < 7))
    || (decide (0x050040 ≤ a ∧ a < 0x050080) && decide (70 < v.toNat / 0x10000 % 128))
  if bad then (.badParam, s)
  else if s.excBusy ∧ excFixed a ∧ s.reg a ≠ v then (.refused rSTATE, s)
  else (.ok, applyWrite a v s)

/-- The bias of cell `n` in 1/256 (R151). -/
def biasOf (s : State) (n : Nat) : Nat :=
  if requests s n then s.fg R.EXC_CTRL_BALBIAS else s.fg R.EXC_CTRL_BIAS

/-- At the start epoch excitation starts on the selected cells with M = 0; a cap that has fallen below their number stops
it at once (R149, R159). EXC_IONk take the selected cells now. [DESIGN CHOICE, log 169] -/
def excitationStart (s : State) : State :=
  if s.fb R.EXC_STAT_PEND then
    let s0 := balMature (s.until (50 * s.exc.start))
    let cs := s0.selected.map fun n => (n, ({ bias := biasOf s0 n, pos := 16 * s0.exc.start } : ExcCell))
    let s1 := ((s0.fs R.EXC_STAT_PEND 0).fs R.EXC_STAT_RUN 1).fs R.EXC_STAT_NACT cs.length
    let ones := 2 ^ s1.fg R.EXC_PRBS_ORDER - 1
    let s2 := { s1 with exc := { s1.exc with
      blk := s0.exc.start, cells := cs, set := excSet s1, retAt := none, lfsr := ones, chip := 0 } }
    let s3 := (List.range 8).foldl (fun t k =>
      t.setReg (R.EXC_ION k) (w32 (match cs[k]? with | some (n, _) => n * 0x4000000 | none => 0))) (s2.fs R.EXC_STAT_SAT 0)
    capCheck (balRefresh (svcStart cs s3))
  else s

def execExcitationStart (s : State) := run excitationStart s

/-! ## Blocks (R155 to R158) -/

/-- The mean of on-samples in 10 uA, rounded to nearest. -/
def meanOn (c : ExcCell) (b : SenseBlock) : Nat := if c.onN = 0 then 0 else (2 * b.onSum + c.onN) / (2 * c.onN)

/-- The feedback is live (R158): enough samples, a mean off-sample below a sixteenth of I_on, a moving counter. -/
def senseLive (c : ExcCell) (b : SenseBlock) : Bool :=
  decide (64 ≤ c.onN ∧ 64 ≤ c.offN ∧ 16 * b.offSum * c.onN < b.onSum * c.offN) && b.advanced

/-- The largest depth a bias permits, in 1/1,024. -/
def depthMax (bias : Nat) : Nat := min (4 * bias) (1024 - 4 * bias)

/-- The loop's next depth and SAT for a live block (R155). -/
def nextDepth (amp : Nat) (c : ExcCell) (ion : Nat) : Nat × Bool :=
  let want := if ion = 0 then 0 else (2 * 102400 * amp + ion) / (2 * ion)
  let lim := depthMax c.bias
  let tgt := min want lim
  (if c.m < tgt then min tgt (c.m + 64) else max tgt (c.m - 64), decide (lim < want))

/-- The end of a block for one cell: loop, feedback check, bias change and status message. -/
def blockCell (data : List SenseBlock) (nextBlk : Nat) (s : State) (nc : Nat × ExcCell) : State × Option (Nat × ExcCell) :=
  let n := nc.1
  let c := nc.2
  let b := (data.find? fun x => x.cell == n).getD {}
  let live := senseLive c b
  let ion := if live then meanOn c b else 0
  let word := n * 0x4000000 + c.m % 1024 * 0x10000 + ion % 0x10000
  let k := (s.selected.takeWhile fun m => m ≠ n).length
  let s1 := sendUp mEXCSTAT [word] (s.setReg (R.EXC_ION k) (w32 word))
  let dead := if live then 0 else c.dead + 1
  if 2 ≤ dead then
    ((s1.setCellBit R.EXC_FRZ0 R.EXC_FRZ1 n true).raise 0x62 islSTAO n, none)
  else
    let (m, sat) := if ion = 0 then (c.m, c.sat) else nextDepth (s.fg R.EXC_AMP_A) c ion
    let nb := biasOf s n
    let next : ExcCell := { c with m := m, sat := sat, dead := dead, onN := 0, offN := 0 }
    if nb = c.bias then (s1, some (n, next))
    else
      let m' := min m (depthMax nb)
      let w := n * 0x4000000 + b2n (requests s n) * 0x2000000 + s1.bal.seq * 0x200000 + nextBlk % 0x200000
      (sendUp mEXCBIAS [w] { s1 with bal := { s1.bal with seq := (s1.bal.seq + 1) % 16 } },
        some (n, { next with m := m', bias := nb, sat := sat || decide (depthMax nb < m) }))

/-- The end of a block of 5,120 epochs: the loop of every excited cell, from the samples of the block (R147, R155 to R158).
[DESIGN CHOICE, log 47] -/
def excitationBlockEnd (data : List SenseBlock) (s : State) : State :=
  if s.fb R.EXC_STAT_RUN then
    let next := s.exc.blk + 5120
    let s1 := excCredit next (s.until (50 * next))
    let reg := blockReg s1
    let r := s1.exc.cells.foldl (fun (a : State × List (Nat × ExcCell)) nc =>
      let x := blockCell data next a.1 nc
      (x.1, a.2 ++ x.2.toList)) (s1, [])
    let stays := fun (n : Nat) => r.2.any fun c => c.1 == n
    let gone := s1.exc.cells.filter fun c => !stays c.1
    let s2 := gone.foldl (fun t c => noteOpen c.1 (lastOpening s1 c.2 (16 * next)) t) { r.1 with exc := { r.1.exc with cells := r.2, blk := next, lfsr := reg.1, chip := reg.2 } }
    let s3 := ((svcLeave next (fun n => gone.any fun c => c.1 == n) s2).fs R.EXC_STAT_NACT r.2.length).fs R.EXC_STAT_SAT (b2n (r.2.any fun c => c.2.sat))
    if r.2.isEmpty then excStop 4 s3 else if gone.isEmpty then s3 else balRefresh s3
  else s

def execExcitationBlockEnd (data : List SenseBlock) (s : State) := run (excitationBlockEnd data) s

/-! ## Balancing rows -/

/-- The 1 s tick of STAO. -/
def balanceSchedulerTick (s : State) : State :=
  balRefresh { s with bal := { s.bal with tick := s.bal.tick + 1 } }

def execBalanceSchedulerTick (s : State) := run balanceSchedulerTick s

/-- BAL_TMRn (R145); a write of 0 to a timer that runs brings TIME to 0, which sets DONE (R147). [DEDUCED, log 45] -/
def balTmrWrite (n : Nat) (v : Word) (s : State) : Stat × State :=
  let time := v.toNat % 65536
  if time ≠ 0 ∧ !s.bEn n then (.badParam, s)
  else
    let s1 := ((accrue n s).setAcc n 0).fs (R.BAL_TMR_TIME n) time
    let ended := decide (time = 0) && s.fb (R.BAL_TMR_TIME n)
    (.ok, balRefresh (if ended then s1.setCellBit R.BAL_DONE0 R.BAL_DONE1 n true else s1))

/-- The number of a cell from 1 to 48, as a command names it. -/
def cellOf (c : Fin 48) : Nat := c.val + 1

def execBalTmrWrite (c : Fin 48) (v : Word) (s : State) :=
  run (direct (R.BAL_TMR (cellOf c)) v (balTmrWrite (cellOf c))) s

/-- Cell `n`'s accumulator has reached 1 s (R147): TIME decrements; at 0 the request ends and DONE is set.
[DEDUCED, log 45] -/
def balanceAccumulatorSecond (n : Nat) (s : State) : State :=
  let s0 := accrue n s
  if s0.accOf n < 320000000 ∨ s0.fg (R.BAL_TMR_TIME n) = 0 then s0
  else
    let t := s0.fg (R.BAL_TMR_TIME n) - 1
    let s1 := (s0.setAcc n (s0.accOf n - 320000000)).fs (R.BAL_TMR_TIME n) t
    if t = 0 then balRefresh (s1.setCellBit R.BAL_DONE0 R.BAL_DONE1 n true) else s1

def execBalanceAccumulatorSecond (c : Fin 48) (s : State) := run (balanceAccumulatorSecond (cellOf c)) s

/-- Switch `n` is commanded closed: for balancing, or by the pattern of a cell that is not held open. [DEDUCED, log 170] -/
def commandedClosed (s : State) (n : Nat) : Bool := s.bOn n || s.bal.driven.contains n

/-- A closed switch over its trip current for 1 us opens (R142). -/
def bleedOvercurrent (n : Nat) (s : State) : State :=
  if commandedClosed s n then
    balRefresh ((s.setCellBit R.BAL_OC0 R.BAL_OC1 n true).raise 0x26 islSTAO n)
  else s

def execBleedOvercurrent (c : Fin 48) (s : State) := run (bleedOvercurrent (cellOf c)) s

/-- Under 5 mA for 10 ms in a switch commanded closed; `mv` is the cell's voltage (R143). -/
def bleedSwitchOpen (n : Nat) (mv : Int) (s : State) : State :=
  if commandedClosed s n && decide (500 ≤ mv) then
    balRefresh ((s.setCellBit R.BAL_SWO0 R.BAL_SWO1 n true).raise 0x27 islSTAO n)
  else s

def execBleedSwitchOpen (c : Fin 48) (mv : Int) (s : State) := run (bleedSwitchOpen (cellOf c) mv) s

/-- Over 5 mA for 10 ms in a switch commanded open. -/
def bleedSwitchShort (n : Nat) (mv : Int) (s : State) : State :=
  if !commandedClosed s n && decide (500 ≤ mv) then
    balRefresh ((s.setCellBit R.BAL_SWS0 R.BAL_SWS1 n true).raise 0x28 islSTAO n)
  else s

def execBleedSwitchShort (c : Fin 48) (mv : Int) (s : State) := run (bleedSwitchShort (cellOf c) mv) s

/-- The lower bounds of thermal bands 1 to 4 in 0.01 degrees (R149). -/
def bandBounds : List Int := [9500, 10500, 11500, 12500]

/-- The band of a temperature after band `old`: entered at its lower bound, left downward 5 degrees below it (R149). -/
def bandOf (old : Nat) (temp : Int) : Nat :=
  max (bandBounds.countP fun b => decide (b ≤ temp)) (min old (bandBounds.countP fun b => decide (b - 500 < temp)))

/-- The banded die sensor reads a temperature, in 0.01 degrees, that may change the band (R149, R159). -/
def thermalBandChange (temp : Int) (s : State) : State :=
  let old := s.fg R.BAL_STAT_TBAND
  let band := bandOf old temp
  let s1 := s.fs R.BAL_STAT_TBAND band
  let s2 := if old ≤ 1 ∧ 2 ≤ band then s1.raise 0x61 islSTAO 0 else s1
  balRefresh (capCheck s2)

def execThermalBandChange (temp : Int) (s : State) := run (thermalBandChange temp) s

/-- A force source has become active: excitation stops (R159), and every switch opens if the source is enabled (R150). -/
def balanceForceOn (s : State) : State := if forceSources s = 0 then s else balRefresh (excStop 2 s)

def execBalanceForceOn (s : State) := run balanceForceOn s

/-- The last force source has ended. -/
def balanceForceOff (s : State) : State := if forced s then s else balRefresh s

def execBalanceForceOff (s : State) := run balanceForceOff s

/-- BAL_CTRL (R162). -/
def balCtrlWrite (v : Word) (s : State) : Stat × State :=
  if 24 < wf v R.BAL_CTRL_MAXSW then (.badParam, s)
  else
    let s1 := s.setReg R.BAL_CTRL v
    (.ok, balRefresh (capCheck s1))

/-- What the current sense of a switch reads at this moment, in 10 uA from 0 to 255 mA (R141): a free value.
[DESIGN CHOICE, log 43] -/
def senseNow (s : State) : Nat × State := let f := s.free; (f.1 % 25501, f.2)

/-- The bits of a W1C write of a BAL_SWS register that clear: those whose switch carries less than 5 mA (R143). -/
def swsCleared (a : Nat) (v : Word) (s : State) : Nat × State :=
  (List.range 32).foldl (fun (x : Nat × State) i =>
    if (v &&& s.reg a).toNat.testBit i then
      let c := senseNow x.2
      (setBit x.1 i (decide (c.1 < 500)), c.2)
    else x) (0, s)

/-- A W1C write of BAL_OC or BAL_SWO clears at once; a BAL_SWS bit clears only while that switch's current is below
5 mA (R143). -/
def balFlagWrite (a : Nat) (v : Word) (s : State) : Stat × State :=
  if a = R.BAL_SWS0 ∨ a = R.BAL_SWS1 then
    let c := swsCleared a v s
    (.ok, balRefresh (applyWrite a (w32 c.1) c.2))
  else (.ok, balRefresh (applyWrite a v s))

/-- Sleep entry suspends requests unless SLEEPBAL is 1; waking ends that (R148). -/
def balSleep (b : Bool) (s : State) : State := balRefresh { s with bal := { s.bal with asleep := b } }

/-! ## BAL_SET, EXC_START and EXC_STOP (R426) -/

/-- BAL_SET: each entry acts as a write of BAL_TMRn.TIME. -/
def balSet (p : Packet) (s : State) : State :=
  let b := p.payload
  let n := u8 b 0
  if b.length < 4 ∨ b.length ≠ 4 + 4 * n then reply p (.badParam rLENGTH) [] 0 s
  else if n = 0 ∨ 48 < n ∨ leAt b 1 3 ≠ 0 then reply p .badParam [] 0 s
  else
    let r := (List.range n).foldl (fun (x : State × List Stat) i =>
      let c := u8 b (4 + 4 * i)
      let v := w32 (u16 b (6 + 4 * i))
      if c = 0 ∨ 48 < c ∨ u8 b (5 + 4 * i) ≠ 0 then (x.1, x.2 ++ [.badParam])
      else match accessCheck x.1 (R.BAL_TMR c) v with
        | some t => (x.1, x.2 ++ [t])
        | none => let y := balTmrWrite c v x.1; (y.2, x.2 ++ [y.1])) (s, [])
    replyUnits p r.2 [] .ok r.1

def execBalSet (p : Packet) (s : State) := run (request 0x30 p balSet) s

/-- The registers of an EXC_START payload after EXC_CTRL, with their values. -/
def excStartRegs (b : List Byte) : List (Nat × Word) :=
  ((List.range 20).map fun i =>
    let a := if i = 0 then R.EXC_SEL0 else if i = 1 then R.EXC_SEL1 else if i = 2 then R.EXC_AMP
      else if i = 3 then R.EXC_PRBS else R.EXC_TONE (i - 4)
    (a, w32 (u32 b (4 + 4 * i))))

/-- Tries one register of the set: the first refusal stays. -/
def excTry (x : Stat × State) (e : Nat × Word) : Stat × State :=
  if x.1 ≠ .ok then x
  else match accessCheck x.2 e.1 e.2 with
    | some t => (t, x.2)
    | none => excWrite e.1 e.2 x.2

/-- EXC_START: the registers are checked together and written only when the start is accepted. -/
def excStartReq (p : Packet) (s : State) : State :=
  let b := p.payload
  let v := w32 (u32 b 0)
  if b.length ≠ 84 then reply p (.badParam rLENGTH) [] 0 s
  else if wf v R.EXC_CTRL_GO ≠ 1 ∨ wf v R.EXC_CTRL_STOP ≠ 0 then reply p .badParam [] 0 s
  else
    let idle := (s.fs R.EXC_STAT_RUN 0).fs R.EXC_STAT_PEND 0
    let r := (excStartRegs b).foldl excTry (.ok, idle)
    let c : Stat := match accessCheck s R.EXC_CTRL v with | some t => t | none => .ok
    if r.1 ≠ .ok then reply p r.1 [] 0 s
    else if c ≠ .ok then reply p c [] 0 s
    else if s.excBusy then reply p (.refused rSTATE) [] 0 s
    else
      let x := excCtrlWrite v r.2
      if x.1 ≠ .ok then reply p x.1 [] 0 s
      else reply p .ok (leBytes 4 (x.2.fg R.EXC_START_EPOCH)) 0 x.2

def execExcStart (p : Packet) (s : State) := run (request 0x31 p excStartReq) s

/-- EXC_STOP acts as a STOP write and returns STOPCAUSE. -/
def excStopReq (p : Packet) (s : State) : State :=
  if p.payload.length ≠ 0 then reply p (.badParam rLENGTH) [] 0 s
  else match accessCheck s R.EXC_CTRL (s.reg R.EXC_CTRL) with
    | some t => reply p t [] 0 s
    | none =>
      let s1 := excStop 1 s
      reply p .ok (leBytes 4 (s1.fg R.EXC_STAT_STOPCAUSE)) 0 s1

def execExcStop (p : Packet) (s : State) := run (request 0x32 p excStopReq) s

end Sys2Proof.Machine
end

