-- ==== Sys2Proof/Machine/StreamCore.lean ====
section
/-! DEFINITION. Streams on their way to engines: engines and the plots they lie on (R223, R224), the entries of the stream
tables (R279, R280), the mesh's links and routes (R273 to R277), and the frames that the fabric carries (R281 to R286). -/
namespace Sys2Proof.Machine

/-! ## Engines, plots and slots (R223, R224) -/

def State.engine (s : State) (x : Nat) : Eng := Smap.get (fun _ => {}) s.arr.engs x
def State.setEngine (s : State) (x : Nat) (e : Eng) : State :=
  { s with arr := { s.arr with engs := Smap.set (fun _ => {}) s.arr.engs x e } }

/-- The parcel that holds a plot, and the slot it is. -/
def State.plotParcel (s : State) (p : Nat) : Nat := s.fg (R.ENG_PLSTAT_PARCEL p)
def State.plotSlot (s : State) (p : Nat) : Nat := s.fg (R.ENG_PLSTAT_SLOT p)
def State.plotState (s : State) (p : Nat) : Nat := s.fg (R.ENG_PLSTAT_STATE p)

/-- The plot that a slot of a parcel is placed on. -/
def State.slotPlot (s : State) (q slot : Nat) : Option Nat :=
  match Smap.get (fun _ => 0) s.arr.place (32 * q + slot) with
  | 0 => none
  | p + 1 => some p

/-- The parcel and slot placed on a plot. -/
def State.placed (s : State) (p : Nat) : Option (Nat × Nat) :=
  (s.arr.place.find? fun e => e.2 == p + 1).map fun e => (e.1 / 32, e.1 % 32)

/-- The plots that parcel `q` holds. -/
def State.plotsOf (s : State) (q : Nat) : List Nat := (List.range s.plotsFit).filter fun p =>
  match s.placed p with
  | some (k, _) => k == q
  | none => false

/-- The quarter-plot domain of engine `x` is on. -/
def State.quarterOn (s : State) (x : Nat) : Bool := s.domOn (domQP (x / 32) (x % 32 / 8))

/-! ## Input ports (R229, R244, R245) -/

def Eng.queue (e : Eng) (i : Nat) : List (Bool × Word) := if i = 0 then e.q0 else e.q1
def Eng.setQueue (e : Eng) (i : Nat) (l : List (Bool × Word)) : Eng :=
  if i = 0 then { e with q0 := l } else { e with q1 := l }
def Eng.dec (e : Eng) (i : Nat) : Dec := if i = 0 then e.dec0 else e.dec1
def Eng.setDec (e : Eng) (i : Nat) (d : Dec) : Eng := if i = 0 then { e with dec0 := d } else { e with dec1 := d }
def Eng.bound (e : Eng) (i : Nat) : Option Nat := if i = 0 then e.bin0 else e.bin1
def Eng.flag (e : Eng) (i : Nat) (b : Bool) : Eng := { e with sflags := setBit e.sflags i b }

/-! ## The stream tables (R279, R280) -/

/-- The words of a parcel's publication and subscription entries. -/
def State.pubW0 (s : State) (q i : Nat) : Nat := (s.reg (R.FAB_PUB q i 0)).toNat
def State.pubW1 (s : State) (q i : Nat) : Nat := (s.reg (R.FAB_PUB q i 1)).toNat
def State.subW0 (s : State) (q i : Nat) : Nat := (s.reg (R.FAB_SUB q i 0)).toNat
def State.subW1 (s : State) (q i : Nat) : Nat := (s.reg (R.FAB_SUB q i 1)).toNat

/-- The class of a table entry: 0 S, 1 M, 2 B; and whether it is enabled. -/
def entClass (w : Nat) : Nat := bitsOf w 26 2
def entOn (w : Nat) : Bool := w.testBit 25
def entKind (w : Nat) : Nat := bitsOf w 28 4

/-- The publication a PUB subscription names: parcel and entry. -/
def pubParcel (w0 : Nat) : Nat := bitsOf w0 5 3
def pubIndex (w0 : Nat) : Nat := bitsOf w0 0 5

/-- The channels of a SAMPLES entry, and of a CSTATE entry its cells: bit n - 1 for channel n. -/
def entMask (w0 w1 : Nat) : Nat := w1 + 2 ^ 32 * (w0 % 2 ^ 20)

/-- A plot has a slot, or receives one whose move has reached its copying or warm-up (R267, R268). -/
def plotServed (s : State) (p : Nat) : Bool :=
  (s.placed p).isSome || (match s.arr.move with | some m => m.phase == 1 && m.dst == p | none => false)

/-- The engines bound to an entry: a subscription for `tab` 0, a publication for 1. -/
def boundTo (s : State) (q tab idx : Nat) : List Nat :=
  (s.arr.engs.filter fun (x : Nat × Eng) => x.2.key != 0 && s.plotParcel (x.1 / 32) == q && plotServed s (x.1 / 32) &&
    (if tab = 0 then x.2.bin0 == some idx || x.2.bin1 == some idx else x.2.bout == some idx)).map fun x => x.1

/-! ## Links and routes (R273 to R277) -/

/-- Whether link `l` is out of service. -/
def State.linkBad (s : State) (l : Nat) : Bool := if l < 32 then s.tb R.FAB_LFAIL0_LINK l else s.tb R.FAB_LFAIL1_LINK (l - 32)

/-- Links of row `y` between columns `a` and `b`, and of column `x` between rows `a` and `b` (R273). -/
def rowLinks (y a b : Nat) : List Nat := (List.range (max a b - min a b)).map fun i => 7 * y + min a b + i
def colLinks (x a b : Nat) : List Nat := (List.range (max a b - min a b)).map fun i => 28 + 8 * (min a b + i) + x

/-- Node `b` is reached from node `a`: row first and then column, or column first and then row (R276, R277).
[DEDUCED, log 82] -/
def reaches (s : State) (a b : Nat) : Bool :=
  let rf := rowLinks (a / 8) (a % 8) (b % 8) ++ colLinks (b % 8) (a / 8) (b / 8)
  let cf := colLinks (a % 8) (a / 8) (b / 8) ++ rowLinks (b / 8) (a % 8) (b % 8)
  !(rf.any s.linkBad) || !(cf.any s.linkBad)

/-- The gateways of R275: the barrier receive island, the core processor, the DRC gateway at the east end of plot `p`'s row,
and port `k` (0 FS, 1 BS, 2 TIE1, 3 TIE2). -/
def nodeBRX : Nat := 0
def nodeCP : Nat := 8
def nodeDRC (p : Nat) : Nat := p / 8 * 8 + 7
def nodePort (k : Nat) : Nat := 24 + k

/-! ## Frames on their way -/

/-- A frame bound for port `i` of engine `x` is discarded: DROP, LOSS, and the counts of the parcel and the entry. -/
def dropFrame (x i : Nat) (s : State) : State :=
  let e := s.engine x
  let q := s.plotParcel (x / 32)
  let e1 := if i = 0 then { e with drop0 := clampU 32 (e.drop0 + 1) } else { e with drop1 := clampU 32 (e.drop1 + 1) }
  let key := 32 * q + (e.bound i).getD 0
  let s1 := (s.setEngine x (e1.flag (3 * i + 1) true)).inc (R.FAB_PDEC_DROPS q)
  { s1 with fab := { s1.fab with
    lost := Smap.set (fun _ => 0) s1.fab.lost key (Smap.get (fun _ => 0) s1.fab.lost key + 1) } }

/-- The ports bound to subscription entry `i` of parcel `q`: engine and port. -/
def portsOf (s : State) (q i : Nat) : List (Nat × Nat) :=
  (boundTo s q 0 i).flatMap fun x =>
    (if (s.engine x).bin0 = some i then [(x, 0)] else []) ++ (if (s.engine x).bin1 = some i then [(x, 1)] else [])

/-- A frame sets out from one of the nodes `src` for each port bound to entry `i` of parcel `q`; where neither order of a
route avoids the failed links it is discarded at the source node and counted (R277). -/
def sendFrame (src : List Nat) (pub q i : Nat) (aborted : Bool) (items : List Word) (s : State) : State :=
  let cls := entClass (s.subW0 q i)
  (portsOf s q i).foldl (fun t x =>
    if src.any fun a => reaches t a (x.1 / 32) then
      { t with fab := { t.fab with
        flight := t.fab.flight ++ [{ eng := x.1, port := x.2, ent := i, cls := cls, pub := pub, items := items, aborted := aborted }] } }
    else dropFrame x.1 x.2 t) s

/-- A source of a kind offers a frame: `f` gives, for a subscription of parcel `q` with words `w0` and `w1`, the items it
receives, none where it receives nothing. -/
def feed (kind : Nat) (src : List Nat) (pub : Nat) (aborted : Bool) (f : Nat → Nat → Nat → Option (List Word)) (s : State) :
    State :=
  (List.range 8).foldl (fun t q =>
    if t.fg (R.FAB_PSUB_EN q) = 0 then t
    else (List.range 32).foldl (fun u i =>
      let w0 := u.subW0 q i
      if entOn w0 ∧ entKind w0 = kind then
        match f q w0 (u.subW1 q i) with
        | some items => sendFrame src pub q i aborted items u
        | none => u
      else u) t) s

/-- The key of a publication; 0 stands for other sources. -/
def pubKey (q i : Nat) : Nat := 32 * q + i + 1

/-- A frame of publication entry `i` of parcel `q` leaves the plot at node `p` for its subscribers (R283, R284). -/
def feedPub (p q i : Nat) (aborted : Bool) (items : List Word) (s : State) : State :=
  feed 5 [p] (pubKey q i) aborted
    (fun _ w0 _ => if pubParcel w0 = q ∧ pubIndex w0 = i then some items else none) s

/-- The two items of an epoch tag (R61, R281). -/
def tagItems (tag : Nat) : List Word := [w32 tag, w32 (tag / 2 ^ 32)]

/-- A stack message of a kind reaches its subscriptions with its tag (R283, R286). -/
def feedMessage (kind tag content : Nat) (s : State) : State :=
  feed kind [nodeBRX] 0 false (fun _ _ _ => some (tagItems tag ++ [w32 content])) s

end Sys2Proof.Machine
end

