-- ==== Sys2Proof/Machine/PrfCore.lean ====
section
/-! DEFINITION. What the profile service and the estimator share with the units that feed them: the registers of an instance
(R196), its points, and the record of what has arrived (R26, R86, R157, R179). -/
namespace Sys2Proof.Machine

/-! ## Instances (R196) -/

/-- The word of a PRF register in the instance of parcel `q`: P0's registers, or a tenant instance's. -/
def State.pw (s : State) (q a : Nat) : Word :=
  if q = 0 then s.reg a else Smap.get (fun k => resetWord (k % 2 ^ 24)) s.prf.ten (q * 2 ^ 24 + a)

def State.setPw (s : State) (q a : Nat) (v : Word) : State :=
  if q = 0 then s.setReg a v
  else { s with prf := { s.prf with ten := Smap.set (fun k => resetWord (k % 2 ^ 24)) s.prf.ten (q * 2 ^ 24 + a) v } }

def State.pg (s : State) (q : Nat) (f : Fld) : Nat := bitsOf (s.pw q f.adr).toNat f.lo f.w
def State.ps (s : State) (q : Nat) (f : Fld) (v : Nat) : State :=
  s.setPw q f.adr (w32 (withBits (s.pw q f.adr).toNat f.lo f.w v))

/-- Increments a saturating PRF_DISC counter of an instance. -/
def State.pinc (s : State) (q : Nat) (f : Fld) : State := s.ps q f (clampU f.w (s.pg q f + 1))

def profiled (s : State) (q n : Nat) : Bool :=
  let w := if n ≤ 32 then s.pw q R.PRF_CELL0 else s.pw q R.PRF_CELL1
  decide (1 ≤ n ∧ n ≤ 48) && w.toNat.testBit ((n - 1) % 32)

def pointOn (s : State) (q i : Nat) : Bool :=
  let w := if i < 32 then s.pw q R.PRF_PTS0 else if i < 64 then s.pw q R.PRF_PTS1 else s.pw q R.PRF_PTS2
  w.toNat.testBit (i % 32)

/-- The key of a point. -/
def ptKey (q n i : Nat) : Nat := 10000 * q + 100 * n + i

/-- The string current source in use: 0 none, 1 local, 2 another station's stream (R169). -/
def sourceOf (s : State) (q : Nat) : Nat :=
  if s.pg q R.PRF_ISCALE_SCALE = 0 then 0
  else
    let src := s.pg q R.PRF_ISRC_SRC
    if src = 2 ∧ s.pg q R.PRF_ISRC_STN = s.ownAddr then 1 else src

/-! ## What arrives (R170, R175, R205) -/

/-- What lies more than 301 s back is no longer needed: the longest window is 300 s (R166). -/
def recentOnly (s : State) (e : Nat) : Bool := decide (s.epoch ≤ e + 301 * 20000000)

/-- The channels of the enabled SAMPLES subscriptions of parcel `q`, bit n - 1 for channel n (R280). -/
def samplesMask (s : State) (q : Nat) : Nat :=
  (List.range 32).foldl (fun m i =>
    let w := s.subW0 q i
    if entKind w = 1 ∧ entOn w then m ||| entMask w (s.subW1 q i) else m) 0

/-- The tenants with an enabled subscription of a kind and, where it has one, of an argument (R280). -/
def tenantsOf (s : State) (kind : Nat) (arg : Option Nat) : List Nat :=
  (upTo 7).filter fun q => (List.range 32).any fun i =>
    let w := s.subW0 q i
    entKind w == kind && entOn w && (match arg with | some a => w % 2 ^ 12 == a | none => true)

/-- An epoch's words arrive. -/
def svcFrame (tag : Nat) (ws : List Nat) (s : State) : State :=
  let h := ((upTo 7).map fun q => (q, samplesMask s q)).filter fun x => x.2 != 0
  { s with svc := { s.svc with
      frames := (s.svc.frames.filter fun f => recentOnly s (f.tag % 2 ^ 59)) ++ [{ tag := tag, words := ws, heard := h }] } }

/-- A reference block arrives. -/
def svcRef (stn b d : Nat) (coh : Bool) (w : Nat) (s : State) : State :=
  { s with svc := { s.svc with
      refs := (s.svc.refs.filter fun r => recentOnly s (r.blk * r.d)) ++ [{
        stn := stn, blk := b, d := d, coh := coh, word := w, arr := s.now, heard := tenantsOf s 3 (some stn) }] } }

/-- An excitation status message arrives, tagged with the start epoch of its block. -/
def svcStat (cell blk m ion : Nat) (s : State) : State :=
  { s with svc := { s.svc with
      stats := (s.svc.stats.filter fun x => recentOnly s x.blk) ++ [{
        cell := cell, blk := blk, m := m, ion := ion, arr := s.now, heard := tenantsOf s 6 none }] } }

/-- Whether the instance of parcel `q` takes part in what `heard` lists: P0 hears everything. -/
def hears (q : Nat) (heard : List Nat) : Bool := q == 0 || heard.contains q

/-! ## Windows and records start anew (R182) -/

/-- The windows in progress of point `i` of cell `n` are abandoned, its record and history return to reset. -/
def prfAbandon (q n i t : Nat) (s : State) : State :=
  let s1 := (((s.setPw q (R.PRF_REC_W0 n i) 0).setPw q (R.PRF_REC_W1 n i) 0).setPw q (R.PRF_REC_W2 n i) 0).setPw q
    (R.PRF_REC_W3 n i) (w32 0xC0000000)
  { s1 with prf := { s1.prf with
    since := Smap.set (fun _ => 0) s1.prf.since (ptKey q n i) t
    hist := Smap.set (fun _ => []) s1.prf.hist (ptKey q n i) [] } }

/-- A boundary at epoch `e` changes SMP_AVGn (R182): the windows of the profiled cell, or of every profiled cell where the
channel is the local current source, are abandoned in every instance. -/
def prfAvgChange (n e : Nat) (s : State) : State :=
  let t := (e + 19999999) / 20000000
  (List.range 8).foldl (fun x q =>
    let src := x.pg q R.PRF_ISRC_SRC == 1 && n == 49 + x.pg q R.PRF_ISRC_AXM
    cells.foldl (fun y c =>
      if profiled y q c && (c == n || src) then (List.range 71).foldl (fun z i => prfAbandon q c i t z) y else y) x) s

end Sys2Proof.Machine
end

