-- ==== Sys2Proof/Machine/Sampling.lean ====
section
/-! DEFINITION. The main converters: the meanings of the rows EPOCH_APERTURE to CALIBRATION_AVERAGE_HIGH_DONE, except
CURRENT_REFERENCE_MESSAGE (R53 to R104). -/
namespace Sys2Proof.Machine

/-! ## Conversion (R56, R57, R87) -/

/-- The raw code and OVR of channel `n` for an input in nV; `up` decides at a code transition (R56).
[DEDUCED, log 29] -/
def rawCode (s : State) (n : Nat) (nv : Int) (up : Bool) : Int × Bool :=
  let hall := s.fb (R.SMP_AXCFG_MODE (n - 48))
  let lsb : Int := if isAX n then (if hall then 160000 else 5000) else 100000
  let x := if isAX n then nv else nv + 500000000
  let twice := 2 * x + lsb
  let near := twice / (2 * lsb)
  let code := if twice % (2 * lsb) = 0 ∧ !up then near - 1 else near
  if isAX n then
    let d := clampS 16 code
    (d, decide ((if hall then 31250 else 30000) < d.natAbs))
  else
    let d := max 0 (min 65535 code)
    (d, decide (60000 < d ∨ nv < -500000000))

/-- Clamps to the native format of channel `n`. -/
def clampCode (n : Nat) (v : Int) : Int := if isAX n then clampS 16 v else max 0 (min 65535 v)

/-- The calibration of SMP_CALn applied to a raw code (R87). -/
def calibrate (gain ofs : Int) (n : Nat) (r : Int) : Int :=
  clampCode n ((r * (4194304 + gain) + ofs * 262144 + 2097152) >>> 22)

/-- The stale cause of channel `n` in a scheduled epoch (R66); none when the word is valid. -/
def staleCause (s : State) (n e : Nat) : Option Nat :=
  let inCal := match s.smp.cal with | some c => decide (c.ch = n ∧ 1 ≤ c.phase ∧ c.phase ≤ 4) | none => false
  if !converting s n then some 1
  else if inCal then some 4
  else if e < Smap.get (fun _ => 0) s.smp.settle n then some 2
  else none

/-! ## The averager (R70 to R73) -/

def averagingWindowEnd (n : Nat) (s : State) : State := formWindow n s

def execAveragingWindowEnd (n : Fin 52) (s : State) := run (averagingWindowEnd (n.val + 1)) s

/-! ## The reference decimator (R84, R85) -/

/-- The block length of SMP_REFCFG.D. -/
def refBlock (d : Nat) : Nat := [20, 40, 100, 200, 1000, 2000, 20000].getD d 20

/-- The 32-bit content of a block's message. -/
def refWord (b : Nat) (sum : Int) (c : Nat) (ovr ems : Bool) : Nat :=
  let v := if c = 0 then 0 else ofInt 24 (clampS 24 ((2 * 256 * sum + c) / (2 * c)))
  b2n ovr * 0x80000000 + b2n ems * 0x40000000 + (if c = 0 then 0x20000000 else 0) + b % 16 * 0x1000000 + v

/-- Sends the queued blocks unless safety-relevant messages occupy the stream (R85). [DEDUCED, log 37] -/
def refSend (s : State) : State :=
  if s.bar.repUp.isEmpty then
    { s.smp.refQ.foldl (fun t w => sendUp mCREF [w] t) s with smp := { s.smp with refQ := [] } }
  else s

/-- Completes the block in progress: its message joins the queue of two, which loses the oldest (R85). -/
def refComplete (s : State) : State :=
  let w := refWord s.smp.refB s.smp.refSum s.smp.refN s.smp.refOvr s.smp.refEms
  let q := s.smp.refQ ++ [w]
  refSend { s with smp := { s.smp with
    refQ := q.drop (q.length - 2), refB := s.smp.refB + 1, refSum := 0, refN := 0, refOvr := false, refEms := false } }

/-- REFERENCE_BLOCK_COMPLETE: the last converter output of the block has been taken. -/
def referenceBlockComplete (s : State) : State :=
  if s.fb R.SMP_REFCFG_EN ∧ s.smp.refRun ∧ (s.smp.refB + 1) * refBlock (s.fg R.SMP_REFCFG_D) ≤ s.smp.refE + 1 then
    refComplete s
  else s

def execReferenceBlockComplete (s : State) := run referenceBlockComplete s

/-- An epoch leaves the converters: its calibrated sample of the selected AX channel, if it has one, enters the block to
which the epoch belongs (R84). -/
def refSample (ent : PipeEnt) (s : State) : State :=
  let e := ent.epoch
  let b := e / refBlock (s.fg R.SMP_REFCFG_D)
  let s1 := if s.smp.refRun ∧ s.smp.refB < b then refComplete s else s
  let s1 := { s1 with smp := { s1.smp with refE := e } }
  let s2 := if s1.smp.refRun ∧ s1.smp.refB = b then s1 else { s1 with smp := { s1.smp with
    refRun := true, refB := b, refSum := 0, refN := 0, refOvr := false, refEms := false } }
  match ent.ax.getD (s.fg R.SMP_REFCFG_SRC) none with
  | none => s2
  | some (x, ovr, ems) => { s2 with smp := { s2.smp with
      refSum := s2.smp.refSum + x, refN := s2.smp.refN + 1
      refOvr := s2.smp.refOvr || ovr, refEms := s2.smp.refEms || ems } }

/-- A write that changes SMP_REFCFG starts the decimator anew: the block in progress is dropped, and the first epoch that
leaves the converters afterwards begins one. [DESIGN CHOICE, log 164] -/
def refcfgWrite (v : Word) (s : State) : State :=
  if s.reg R.SMP_REFCFG = v then s
  else
    let m := { s.smp with refRun := false, refSum := 0, refN := 0, refOvr := false, refEms := false }
    let n := { s.net with crefSeen := s.net.crefSeen.filter fun e => e.1 != s.ownAddr }
    { s with smp := m, net := n }.setReg R.SMP_REFCFG v

/-! ## One aperture (R58 to R74) -/

/-- Adds a sample to channel `n`'s window; the first STL input gives the window its cause (R73). -/
def avgAdd (n e : Nat) (x : Except Nat (Int × Bool × Bool)) (s : State) : State :=
  let k := s.step
  let w := avgN s n * k
  let a0 := s.avgOf n
  let a2 : Avg := if e % w = 0 then { cut := false } else a0
  let a : Avg := { a2 with chk := a2.chk || n == s.redirected }
  let ped : Int := if s.fg R.SMP_STAT_RATE ≠ 3 ∧ s.fb (R.SMP_AVG_PEDEN n) then
      (if isAX n then s.fi (R.SMP_AVG_PED n) else (s.fg (R.SMP_AVG_PED n) : Int)) else 0
  let a1 : Avg := match x with
    | .error c => { a with n := a.n + 1, stl := if a.stl.isSome then a.stl else some c }
    | .ok (v, ovr, ems) => { a with n := a.n + 1, acc := a.acc + v - ped, ovr := a.ovr || ovr, ems := a.ems || ems }
  s.setAvg n { a1 with full := decide ((e + k) % w = 0) }

/-- The channel whose main converter the sweep slot in progress is compared with; 0 for none (R122). -/
def State.slotChannel (s : State) : Nat :=
  let cell := fun (src : Nat) => if 1 ≤ src ∧ src ≤ 52 then src else if src = 0x7F then s.swp.injCell else 0
  if s.swp.inCal then 0
  else if s.fg R.SWC_STAT_STATE = 3 then cell (s.fg (R.SWC_ISEQ_SRC s.swp.injIdx))
  else if s.fg R.SWC_STAT_STATE = 2 then cell (s.fg (R.SWC_SEQ_SRC (s.fg R.SWC_STAT_SLOT)))
  else 0

/-- A converted word reaches the sweep comparison (R122). -/
def taps (n e : Nat) (x : Except Nat (Int × Bool × Bool)) (s : State) : State :=
  let chk := n == s.redirected
  if n = s.slotChannel ∧ s.swp.slotAt + 8 ≤ e ∧ e < s.swp.slotAt + 40 then
    let ent : Nat × Int × Bool := match x with
      | .ok (v, ovr, ems) => (e, v, !ovr && !ems && !chk)
      | .error _ => (e, 0, false)
    { s with swp := { s.swp with win := s.swp.win ++ [ent] } }
  else s

/-- Channel `n` at converted epoch `e`: conversion, calibration, the averager and the taps. -/
def convert (e : Nat) (seed : Nat) (inputs : List Int) (n : Nat) (s : State) : State × Except Nat (Int × Bool × Bool) :=
  let src := if n = s.redirected then partner n else n
  let r := rawCode s n (inputs.getD (src - 1) 0) ((Config.freeValue (seed + n)).testBit 0)
  let ems := decide (e < Smap.get (fun _ => 0) s.smp.ems n)
  let x : Except Nat (Int × Bool × Bool) := match staleCause s n e with
    | some c => .error c
    | none => .ok (calibrate (s.fi (R.SMP_CAL_GAIN n)) (s.fi (R.SMP_CAL_OFS n)) n r.1, r.2, ems)
  let s1 := match s.smp.cal with
    | some c =>
      if c.ch ≠ n ∨ !converting s n then s
      else if c.phase = 2 ∧ c.nLo < 1024 then { s with smp := { s.smp with cal := some { c with
        sumLo := c.sumLo + r.1, nLo := c.nLo + 1 } } }
      else if c.phase = 4 ∧ c.nHi < 1024 then { s with smp := { s.smp with cal := some { c with
        sumHi := c.sumHi + r.1, nHi := c.nHi + 1 } } }
      else s
    | none => s
  (avgAdd n e x (taps n e x s1), x)

/-- A channel delivering stale causes 1, 2 or 4 is not live (R82). -/
def liveStale (n : Nat) (x : Except Nat (Int × Bool × Bool)) (s : State) : State :=
  match x with
  | .error c => if isAX n ∧ c ≠ 5 then
      liveLoss (n - 48) { s with smp := { s.smp with dith := Smap.set (fun _ => 0) s.smp.dith (n - 48) 0 } } else s
  | .ok _ => s

/-- The CROSS sums take an epoch on which the CHK word and the partner's own word are both valid (R79).
[DESIGN CHOICE, log 33] -/
def crossAdd (ws : List (Nat × Except Nat (Int × Bool × Bool))) (s : State) : State :=
  let j := s.redirected
  let find := fun (n : Nat) => match ws.find? fun w => w.1 == n with | some (_, .ok (v, _, _)) => some v | _ => none
  match s.smp.xr, find j, find (partner j) with
  | some k, some x, some y => { s with smp := { s.smp with xr := some { k with chk := k.chk + x, own := k.own + y, n := k.n + 1 } } }
  | _, _, _ => s

/-- Every channel at a converted epoch. -/
def convertAll (e : Nat) (inputs : List Int) (s : State) : State :=
  let seed := s.freeCtr
  let r := (upTo 52).foldl (fun (acc : State × List (Nat × Except Nat (Int × Bool × Bool))) n =>
    let c := convert e seed inputs n acc.1
    (liveStale n c.2 c.1, acc.2 ++ [(n, c.2)])) ({ s with freeCtr := seed + 53 }, [])
  let ax := (r.2.drop 48).map fun w => match w.2 with | .ok v => some v | .error _ => none
  let s1 := crossAdd r.2 r.1
  { s1 with smp := { s1.smp with
    pipe := s1.smp.pipe.map fun p => if p.epoch = e then { p with ax := ax } else p } }

/-- The epoch tag (R61). -/
def epochTag (s : State) (e : Nat) : Nat :=
  b2n (s.fb R.SMP_STAT_COH) * 2 ^ 63 + b2n (s.fb R.SMP_STAT_RCK) * 2 ^ 62 + s.fg R.SMP_STAT_RATE * 2 ^ 60
  + b2n (s.fb R.SMP_STAT_XACT) * 2 ^ 59 + e % 2 ^ 59

/-- U of the present instant in units of 0.125 ns (R386): in HOLD the value at entry plus RATE times the time since,
rounded up. -/
def datumU (s : State) : Nat :=
  if s.fg R.DTM_STAT_STATE = 3 then
    clampU 8 (s.dtm.holdU + (8 * s.fg R.DTM_HOLD_RATE * (s.lt - s.dtm.holdAt) + 999999999) / 1000000000)
  else s.fg R.DTM_STAT_U

/-- COH of the present epoch (R62, R386): uncertainty at most 10 ns and RCK 0. -/
def updateCoh (s : State) : State :=
  let c := b2n (decide (datumU s ≤ 80) && !s.fb R.SMP_STAT_RCK)
  ((s.fs R.DTM_STAT_U (datumU s)).fs R.SMP_STAT_COH c).fs R.DTM_STAT_COH c

/-- The aperture of epoch `e`: words of the epochs that have passed the 11-clock pipeline leave it, the windows that
ended before are formed, and the converted words of `e` enter. `inputs` are the voltages in nV at the converters'
inputs, cells 1 to 48 then AX1 to AX4; the entry of a channel under calibration is that of its calibration node.
[DESIGN CHOICE, log 30] -/
def epochAperture (e : Nat) (inputs : List Int) (s : State) : State :=
  let s1 := formWindows (calFinish (updateCoh (balMature (s.until (50 * e)))))
  let gone := s1.smp.pipe.filter fun p => decide (p.epoch + 11 ≤ e)
  let keep := s1.smp.pipe.filter fun p => !decide (p.epoch + 11 ≤ e)
  let blank := (upTo 52).map fun n => stlWord (n == s1.redirected) 0
  let conv := e % s1.step == 0
  let ent : PipeEnt := { epoch := e, tag := epochTag s1 e, words := blank, conv := conv, chk := s1.redirected }
  let s2 := { s1 with smp := { s1.smp with
    pipe := keep ++ [ent], frame := gone.getLastD s1.smp.frame } }
  let s3 := if s2.fb R.SMP_REFCFG_EN then gone.foldl (fun t p => refSample p t) s2 else s2
  if conv then convertAll e inputs s3 else s3

def execEpochAperture (e : Nat) (inputs : List Int) (s : State) := run (epochAperture e inputs) s

/-! ## Register rows (R68, R69, R95, R96, R100) -/

/-- SMP_CTRL: RUN and AUTOCAL act at once; RATE and MODE wait for the boundary. -/
def smpCtrlWrite (v : Word) (s : State) : Stat × State :=
  (.ok, queueCfg R.SMP_CTRL v ((s.fs R.SMP_CTRL_RUN (wf v R.SMP_CTRL_RUN)).fs R.SMP_CTRL_AUTOCAL (wf v R.SMP_CTRL_AUTOCAL)))

def execSmpCtrlWrite (v : Word) (s : State) := run (direct R.SMP_CTRL v smpCtrlWrite) s

/-- SMP_CHENi: the enables change at once and request the converters' domains. -/
def smpChenWrite (i : Nat) (v : Word) (s : State) : Stat × State :=
  let a := if i = 0 then R.SMP_CHEN0 else R.SMP_CHEN1
  let d := (s.reg a).toNat ^^^ v.toNat
  let s1 := s.setReg a v
  (.ok, (List.range (if i = 0 then 32 else 20)).foldl (fun t b =>
    if d.testBit b then domReq (v.toNat.testBit b) (domCV (32 * i + b + 1)) t else t) s1)

def execSmpChenWrite (i : Fin 2) (v : Word) (s : State) :=
  run (direct (if i.val = 0 then R.SMP_CHEN0 else R.SMP_CHEN1) v (smpChenWrite i.val)) s

def smpEmsWrite (v : Word) (s : State) : Stat × State := (.ok, s.setReg R.SMP_EMS v)

def execSmpEmsWrite (v : Word) (s : State) := run (direct R.SMP_EMS v smpEmsWrite) s

/-- Sets EMS on the words of channel `n` in the pipeline whose window meets epochs `d - 4` on, and on its samples there that
the reference decimator has still to take (R85). -/
def emsMark (n d : Nat) (s : State) : State :=
  let k := s.step
  let w := avgN s n * k
  let hit := fun (p : PipeEnt) => decide (d ≤ p.epoch + 4)
  let mark := fun (x : Nat) => if x.testBit 17 then x else x ||| 0x40000
  let markAx := fun (x : Option (Int × Bool × Bool)) => x.map fun y => (y.1, y.2.1, true)
  let a := s.avgOf n
  let s1 := { s with smp := { s.smp with
    pipe := s.smp.pipe.map fun p => if hit p then { p with
        words := p.words.set (n - 1) (mark (p.words.getD (n - 1) 0))
        ax := if isAX n then p.ax.set (n - 49) (markAx (p.ax.getD (n - 49) none)) else p.ax }
      else p } }
  let s2 := if a.n ≠ 0 ∧ s.smp.pipe.any (fun p => hit p && decide (p.epoch / w = s.epoch / w)) then
      s1.setAvg n { a with ems := true } else s1
  if n = s.slotChannel then { s2 with swp := { s2.swp with
    win := s2.swp.win.map fun x => if d ≤ x.1 + 4 then (x.1, x.2.1, false) else x } } else s2

/-- The burst detector of channel `n` fires in epoch `d` (R68): EMS on the samples of epochs d - 4 to d + HOLD.
[DESIGN CHOICE, log 36] -/
def emsBurst (n d : Nat) (s : State) : State :=
  if s.fg R.SMP_EMS_THR = 0 then s
  else
    let upto := max (Smap.get (fun _ => 0) s.smp.ems n) (d + s.fg R.SMP_EMS_HOLD + 1)
    emsMark n d { s with smp := { s.smp with ems := Smap.set (fun _ => 0) s.smp.ems n upto } }

def execEmsBurst (n : Fin 52) (d : Nat) (s : State) := run (emsBurst (n.val + 1) d) s

/-- One waiting write takes effect: the register takes the value; a change of ROUND or of MODE to SIMUL ends the CROSS
round in progress (R80). -/
def applyCfg (a : Nat) (v : Word) (s : State) : State :=
  if a = R.SMP_CTRL then
    let s1 := (s.fs R.SMP_CTRL_RATE (wf v R.SMP_CTRL_RATE)).fs R.SMP_CTRL_MODE (wf v R.SMP_CTRL_MODE)
    let m := s1.fg R.SMP_CTRL_MODE
    let s2 := s1.fs R.SMP_STAT_XACT m
    if m = 0 then crossAbort s2 else s2
  else if a = R.SMP_XCFG then (if s.reg a = v then s else crossAbort s).setReg a v
  else if R.SMP_AVG 1 ≤ a ∧ a ≤ R.SMP_AVG 52 ∧ s.reg a ≠ v then
    prfAvgChange ((a - R.SMP_AVG 1) / 4 + 1) s.epoch
      ({ s with smp := { s.smp with avgAt := Smap.set (fun _ => 0) s.smp.avgAt ((a - R.SMP_AVG 1) / 4 + 1) s.epoch } }.setReg a v)
  else s.setReg a v

/-- The configuration boundary `e`, a multiple of 1,024 whose aperture has not passed: every write that waits for it takes
effect together (R69). -/
def configurationBoundary (e : Nat) (s : State) : State :=
  if e % 1024 ≠ 0 ∨ e < s.epoch then s
  else
    let s0 := s.until (50 * e)
    let now_ := s0.smp.pend.filter fun w => decide (w.1 ≤ e)
    if now_.isEmpty then s0
    else
      let s1 := { s0 with smp := { s0.smp with pend := s0.smp.pend.filter fun w => !decide (w.1 ≤ e) } }
      let s2 := now_.foldl (fun t w => applyCfg w.2.1 w.2.2 t) (formWindows s1)
      liveRateCheck (updateRate true (s2.fs R.SMP_CFGEPOCH_EPOCH e))

def execConfigurationBoundary (e : Nat) (s : State) := run (configurationBoundary e) s

/-- Channel `n`'s settling count has ended (R66), and with it step 6 of its calibration (R88). -/
def converterSettled (n : Nat) (s : State) : State :=
  if Smap.get (fun _ => 0) s.smp.settle n ≤ s.epoch then calFinish (settleUntil n 0 s) else s

def execConverterSettled (n : Fin 52) (s : State) := run (converterSettled (n.val + 1)) s

/-- The rate in force changes outside a boundary (R74). -/
def rateChange (s : State) : State := updateRate false s

def execRateChange (s : State) := run rateChange s

/-! ## CROSS mode (R76 to R80) -/

/-- Round `r` starts in CROSS mode, unless its first aperture has passed or another round is in progress: CVj goes to its
partner's cell unless R80 keeps it. -/
def crossRoundStart (r : Nat) (s : State) : State :=
  let j := r % 48 + 1
  let len := s.fg R.SMP_XCFG_ROUND * 1024
  if !s.fb R.SMP_STAT_XACT ∨ s.smp.xr.isSome ∨ r * len < s.epoch then s
  else
    let s0 := formWindows (s.until (50 * (r * len)))
    let s1 := { s0 with smp := { s0.smp with xr := some { r := r, stop := (r + 1) * len } } }
    let calHere := match s1.smp.cal with | some c => decide (c.ch = j ∧ 1 ≤ c.phase) | none => false
    if s1.cellBit R.SMP_CHEN0 R.SMP_CHEN1 j && s1.cellBit R.SMP_CHEN0 R.SMP_CHEN1 (partner j) && !calHere then
      settleUntil j (r * len + 32) (s1.fs R.SMP_STAT_XCH j)
    else s1

def execCrossRoundStart (r : Nat) (s : State) := run (crossRoundStart r) s

/-- A difference above SMP_XTHR (R79): the cell's bit, the F1 source, the supervisor input. -/
def crossDisagreement (cell : Nat) (s : State) : State :=
  ssvInput (bitsOf s.ssv.act.toNat 4 2) ((s.setCellBit R.SMP_XFAIL0 R.SMP_XFAIL1 cell true).raise 0x22 islSCK cell)

/-- The round in progress ends at the first epoch after it: the means are compared, and the result goes to SMP_XSTAT (R79);
without redirection or with fewer than 1,024 common valid epochs there is no comparison. The difference is taken exactly,
rounded to nearest with halves upward and saturated to the field, and it is the field's value that is held against SMP_XTHR.
[DESIGN CHOICE, log 33] -/
def crossRoundEnd (s : State) : State :=
  match s.smp.xr with
  | none => s
  | some k =>
    let s0 := formWindows (s.until (50 * k.stop))
    let cell := partner s0.redirected
    let s1 := crossRelease k.stop s0
    if s0.redirected = 0 ∨ k.n < 1024 then s1.fs R.SMP_XSTAT_VALID 0
    else
      let d := clampS 16 ((2 * 10 * (k.chk - k.own) + k.n) / (2 * k.n))
      let s2 := ((s1.fs R.SMP_XSTAT_CELL cell).fs R.SMP_XSTAT_VALID 1).fs R.SMP_XSTAT_DIFF (ofInt 16 d)
      if s2.fg R.SMP_XTHR_XTHR < d.natAbs then crossDisagreement cell s2 else s2

def execCrossRoundEnd (s : State) := run crossRoundEnd s

/-! ## Dither and liveness (R81, R82) -/

/-- The dither of AXm is on (R81). -/
def ditherOn (s : State) (m : Nat) : Bool := s.fb (R.SMP_AXCFG_DITHEN m) || s.tb R.SMP_AXSAFE_SAFEI (m - 1)

/-- A dither period of AXm has ended; `amp2` is twice the correlated amplitude of the last 8 periods, in codes.
[DESIGN CHOICE, log 35] -/
def ditherPeriod (m amp2 : Nat) (s : State) : State :=
  let good := ditherRateOk s m && (staleCause s (48 + m) s.epoch).isNone
  let n := if good then min 8 (Smap.get (fun _ => 0) s.smp.dith m + 1) else 0
  let s1 := { s with smp := { s.smp with dith := Smap.set (fun _ => 0) s.smp.dith m n } }
  let d := s.fg (R.SMP_AXCFG_DITH m)
  if ditherOn s m && n == 8 && decide (d ≤ amp2 ∧ amp2 ≤ 3 * d) then s1.fbit R.SMP_AXSTAT_LIVE (m - 1) true
  else liveLoss m s1

def execDitherPeriod (m : Fin 4) (amp2 : Nat) (s : State) := run (ditherPeriod (m.val + 1) amp2) s

/-! ## Calibration (R88 to R90) -/

/-- The automatic interval has elapsed: the next channel's turn (R88, R90). -/
def autocalInterval (s : State) : State :=
  if s.fb R.SMP_CTRL_AUTOCAL && s.smp.cal.isNone && s.due s.smp.calLast (1000000 * s.fg R.SMP_CALCTL_INTERVAL) then
    let n := s.smp.calNext
    let s1 := { s with smp := { s.smp with calNext := n % 52 + 1, calLast := s.lt } }
    if calSkipped s n then s1 else calStart n s1
  else s

def execAutocalInterval (s : State) := run autocalInterval s

/-- SMP_CALCTL: the interval and GO are checked (R100), then GO starts or is refused (R90). -/
def smpCalctlWrite (v : Word) (s : State) : Stat × State :=
  let go := wf v R.SMP_CALCTL_GO = 1
  let ch := wf v R.SMP_CALCTL_CH
  if wf v R.SMP_CALCTL_INTERVAL < 10 ∨ (go ∧ (ch < 1 ∨ 52 < ch)) then (.badParam, s)
  else
    let r := if go then calGo ch s else (.ok, s)
    if r.1 = .ok then (.ok, r.2.fs R.SMP_CALCTL_INTERVAL (wf v R.SMP_CALCTL_INTERVAL)) else (r.1, s)

def execCalibrationGo (v : Word) (s : State) := run (direct R.SMP_CALCTL v smpCalctlWrite) s

/-- A calibration that waited starts (R89, R90). -/
def calibrationWaitEnd (s : State) : State :=
  match s.smp.cal with
  | some c =>
    if c.phase = 0 ∧ s.fb R.SWC_STAT_REF_SETTLED ∧ s.redirected ≠ c.ch then
      ({ s with smp := { s.smp with cal := some { c with phase := 1, since := s.epoch } } }.fs
        R.SMP_STAT_CALBUSY 1).fs R.SMP_STAT_CALCH c.ch
    else s
  | none => s

def execCalibrationWaitEnd (s : State) := run calibrationWaitEnd s

/-- The 1,024 samples of CALLO are in: the input switches to CALHI. -/
def calibrationAverageLowDone (s : State) : State :=
  match s.smp.cal with
  | some c =>
    if c.phase = 2 ∧ c.nLo = 1024 then
      { s with smp := { s.smp with cal := some { c with phase := 3, since := s.epoch } } }
    else s
  | none => s

def execCalibrationAverageLowDone (s : State) := run calibrationAverageLowDone s

/-- `a / b` rounded to the nearest integer, halves toward plus infinity. -/
def roundDiv (a b : Int) : Int := if b < 0 then (2 * -a + -b) / (2 * -b) else (2 * a + b) / (2 * b)

/-- GAIN and OFS that map the sweep converter's values of the two nodes (in quarter codes) onto the channel's scale:
sums of 1,024 raw codes each. [DEDUCED, log 34] -/
def newCal (sumLo sumHi swLo swHi : Int) : Option (Int × Int) :=
  let d := 4 * (sumHi - sumLo)
  if d = 0 then none
  else
    let g := roundDiv (4194304 * ((swHi - swLo) * 1024 - d)) d
    let o := roundDiv (16 * (swLo * 1024 * 4194304 - 4 * sumLo * (4194304 + g))) (4 * 1024 * 4194304)
    some (g, o)

/-- The CALHI averaging ends (R88 steps 5 to 7, R89): the coefficients wait for the next boundary, or are rejected; the
channel settles on its own input, and the calibration runs until it has. Coefficients outside their 16-bit fields are
rejected as those outside the limits are. [DEDUCED, log 34] -/
def calibrationAverageHighDone (s : State) : State :=
  match s.smp.cal with
  | none => s
  | some c =>
    if c.phase = 4 ∧ c.nHi = 1024 then
      let s1 := { s with smp := { s.smp with cal := some { c with phase := 5 } } }
      let s2 := settleUntil c.ch (s.nextEpoch + 32) s1
      let reject := s2.raise 0x60 islSCK c.ch
      match c.sweepLo, c.sweepHi with
      | some lo, some hi =>
        match newCal c.sumLo c.sumHi lo hi with
        | some (g, o) =>
          let dg := g - s.fi (R.SMP_CAL_GAIN c.ch)
          let dO := o - s.fi (R.SMP_CAL_OFS c.ch)
          if c.unsettled ∨ 160 < dO.natAbs ∨ 2097 < dg.natAbs ∨ clampS 16 g ≠ g ∨ clampS 16 o ≠ o then reject
          else queueCfg (R.SMP_CAL c.ch) (w32 (ofInt 16 g * 65536 + ofInt 16 o)) s2
        | none => reject
      | _, _ => reject
    else s

def execCalibrationAverageHighDone (s : State) := run calibrationAverageHighDone s

end Sys2Proof.Machine
end

