-- ==== Sys2Proof/Machine/Barrier.lean ====
section
/-! DEFINITION. The barrier and the clocks: the meanings of the rows BARRIER_LANE_FAILED to SAMPLE_CLOCK_RETURN,
ISLAND_FREQUENCY_CHANGE, OSCILLATOR_INPUT_RETURN and SAFETY_MESSAGE_ACKNOWLEDGE (R25 to R40). -/
namespace Sys2Proof.Machine

/-- Sends a lane map with the failed up lanes and a switch epoch 40 epochs ahead (R32); while the down streams are lost
none is sent and the change waits. -/
def sendMap (s : State) : State :=
  if s.bar.downLost then s
  else
    let m : LaneMap := { seq := s.bar.mapSeq + 1, epoch := s.epoch + 40, failed := s.bar.failed % 2 ^ 22 }
    sendDown mLANEMAP [m.seq, m.epoch, m.failed] { s with bar := { s.bar with mapSeq := m.seq, pend := some m } }

/-- Lane Bl has shown line-code violations in 4 consecutive epochs (R30). -/
def barrierLaneFailed (l : Nat) (s : State) : State :=
  if s.bar.failed.testBit l then s
  else
    let s1 := { s with bar := { s.bar with
      failed := setBit s.bar.failed l true, retests := s.bar.retests.filter fun r => r.1 != l
      retestAt := Smap.set (fun _ => 0) s.bar.retestAt l s.lt } }
    let s2 := s1.raise 0x21 (if l < 22 then islBRX else islBTX) l
    if l < 22 then sendMap s2 else s2

def execBarrierLaneFailed (l : Fin 24) (s : State) := run (barrierLaneFailed l.val) s

/-- The switch epoch of the map has come; `got` says that the transmit island received a good copy (R32). -/
def laneMapSwitch (got : Bool) (s : State) : State :=
  match s.bar.pend with
  | none => s
  | some m =>
    let s0 := s.until (50 * m.epoch)
    let s1 := { s0 with bar := { s0.bar with pend := none, rxMap := m.failed } }
    if got then updateRate false { s1 with bar := { s1.bar with txMap := m.failed } } else s1

def execLaneMapSwitch (got : Bool) (s : State) := run (laneMapSwitch got) s

/-- A retest of failed lane Bl, 10 ms after its failure or its last retest (R33). -/
def barrierLaneRetest (l : Nat) (good : Bool) (s : State) : State :=
  if !s.bar.failed.testBit l ∨ !s.due (Smap.get (fun _ => 0) s.bar.retestAt l) 10000000 then s
  else
    let n := Smap.get (fun _ => 0) s.bar.retests l + 1
    let put := fun (c : Nat) (t : State) => { t with bar := { t.bar with
      retests := Smap.set (fun _ => 0) t.bar.retests l c
      retestAt := Smap.set (fun _ => 0) t.bar.retestAt l t.lt } }
    if !good then put 0 s
    else if n < 10 then put n s
    else
      let s1 := put 0 { s with bar := { s.bar with failed := setBit s.bar.failed l false } }
      if l < 22 then sendMap s1 else s1

def execBarrierLaneRetest (l : Fin 24) (good : Bool) (s : State) := run (barrierLaneRetest l.val good) s

/-- 100 epochs without a good stack message frame: the stack half's run token counts as missing (R29). -/
def stackStreamLoss (s : State) : State := socDisagree cTOKMISS true s

def execStackStreamLoss (s : State) := run stackStreamLoss s

/-- 20 epochs without a good down message frame (R29, R32, R159): the stack half withdraws its run token, reports the
loss and stops excitation. -/
def downStreamLoss (s : State) : State :=
  let s1 := excStop 5 (sendUp mSTREAMLOST [] { s with bar := { s.bar with downLost := true } })
  if s1.ssv.st = svSLEEP then s1 else ssvDisagree 0x03 true s1

def execDownStreamLoss (s : State) := run downStreamLoss s

/-- The down streams return: the stack half reports it, and a fresh map follows (R32). -/
def downStreamReturn (s : State) : State :=
  sendMap (sendUp mSTREAMBACK [] { s with bar := { s.bar with downLost := false } })

def execDownStreamReturn (s : State) := run downStreamReturn s

/-- 200 ns without a sample-clock edge: the converters run on the stack RC oscillator (R34). -/
def sampleClockLost (s : State) : State := updateCoh (s.fs R.SMP_STAT_RCK 1)

def execSampleClockLost (s : State) := run sampleClockLost s

/-- The 1,000th good edge is reported; the receive island names the return epoch (R34). -/
def sampleClockReturnReport (s : State) : State :=
  if s.fb R.SMP_STAT_RCK then
    let e := s.epoch + 40
    sendDown mCLOCKRETURN [e] (sendUp mCLOCKGOOD [] { s with bar := { s.bar with clkReturn := some e } })
  else s

def execSampleClockReturnReport (s : State) := run sampleClockReturnReport s

/-- The named epoch has come; without a good copy of the notice the stack half stays on its RC and reports again. -/
def sampleClockReturn (got : Bool) (s : State) : State :=
  match s.bar.clkReturn with
  | none => s
  | some e =>
    let s1 := { s.until (50 * e) with bar := { s.bar with clkReturn := none } }
    if got then updateCoh (s1.fs R.SMP_STAT_RCK 0) else sampleClockReturnReport s1

def execSampleClockReturn (got : Bool) (s : State) := run (sampleClockReturn got) s

/-- The oscillator input is back: SYAO returns to it and its uninterrupted run is timed from here (R36). -/
def oscillatorInputReturn (s : State) : State :=
  { s with bar := { s.bar with oscLost := false, oscSince := s.lt }
           dom := { s.dom with isl := Smap.set (fun _ => 0) s.dom.isl islSYAO 0 } }

def execOscillatorInputReturn (s : State) := run oscillatorInputReturn s

/-- Highest degraded step of an island (R35). -/
def islSteps (i : Nat) : Nat :=
  if i < 32 then 3
  else if i < 44 then 2
  else if i = islCP ∨ i = islDRC ∨ i = 52 ∨ i = islNVF ∨ i = islTST ∨ i = 61 ∨ i = islSYAO then 1
  else 0

/-- A plot's clock goes to the slower of CLKREQ and the thermal step (R259). -/
def plotClockStep (p : Nat) (s : State) : State :=
  let c := s.fg (R.ENG_PLCTL_CLKREQ p)
  let t := s.fg R.THM_STEP_PLOT
  if s.plotsFit ≤ p then s
  else (s.fs (R.ENG_PLSTAT_CLK p) (max c t)).fs (R.ENG_PLSTAT_THROT p) (b2n (decide (c < t)))

/-- The step at which island `i` is to run, by the column 'degrades when' of R35: a plot by its CLKREQ and the thermal step, a
lane or port by the port's rate, CP, NVF, TST and HSB by the junction throttle level, DRC and DPHY by the capture memory's
refresh (R534), SYAO by the oscillator input; the others never degrade. -/
def islTarget (s : State) (i : Nat) : Nat :=
  if i < 32 then max (s.fg (R.ENG_PLCTL_CLKREQ i)) (s.fg R.THM_STEP_PLOT)
  else if i < 40 then s.fg (R.TRV_PSTAT_RATE ((i - 32) / 2))
  else if i < 44 then s.fg (R.TRV_PSTAT_RATE (i - 40))
  else if i = islDRC ∨ i = 52 then s.fg R.THM_STEP_DRAM
  else if i = islSYAO then b2n s.bar.oscLost
  else s.fg R.THM_STEP_CP

/-- Island `i` runs at frequency step `k` from here, if that is one of its steps; DPHY changes with DRC. -/
def setIsland (i k : Nat) (s : State) : State :=
  if s.islFit i ∧ k ≤ islSteps i then
    if i < 32 then plotClockStep i s
    else
      let put := fun (j : Nat) (m : List (Nat × Nat)) => Smap.set (fun _ => 0) m j k
      { s with dom := { s.dom with
        isl := if i = islDRC ∨ i = 52 then put islDRC (put 52 s.dom.isl) else put i s.dom.isl } }
  else s

/-- ISLAND_FREQUENCY_CHANGE: island `i` goes to step `k`, which it does only where that is the step it is to run at (R35,
R40). -/
def islandFrequencyChange (i k : Nat) (s : State) : State :=
  if k = min (islTarget s i) (islSteps i) then setIsland i k s else s

def execIslandFrequencyChange (isl : Fin 64) (k : Fin 4) (s : State) := run (islandFrequencyChange isl.val k.val) s

/-- A half receives the acknowledgement of a safety-relevant message and stops repeating it (R28). -/
def safetyMessageAcknowledge (bySystem : Bool) (kind : Nat) (s : State) : State :=
  if bySystem then { s with bar := { s.bar with repDown := s.bar.repDown.erase kind } }
  else refSend { s with bar := { s.bar with repUp := s.bar.repUp.erase kind } }

def execSafetyMessageAcknowledge (bySystem : Bool) (kind : Nat) (s : State) :=
  run (safetyMessageAcknowledge bySystem kind) s

end Sys2Proof.Machine
end

