-- ==== Sys2Proof/Machine/CapCore.lean ====
section
/-! DEFINITION. Capture triggers as the units that fire them reach them (R567). -/
namespace Sys2Proof.Machine

/-- A trigger of kind `bit` (0 CMD, 1 CMP, 2 FLT, 3 KRN) reaches buffer `k` at epoch `e`. -/
def capFire (bit e k : Nat) (s : State) : State :=
  let st := s.fg (R.CAP_B_W6_STATE k)
  if !s.capFit || !(s.fg (R.CAP_B_W0_TRIG k)).testBit bit then s
  else if st = 2 then
    (((s.fs (R.CAP_B_W6_STATE k) 3).fs (R.CAP_B_W6_TSRC k) (2 ^ bit)).setReg (R.CAP_B_W7 k) (w32 e))
  else if st = 3 ∨ st = 4 then s.inc (R.CAP_B_W6_TLOST k)
  else s

/-- A trigger that reaches every buffer for which `p` holds. -/
def capFireAll (bit : Nat) (p : State → Nat → Bool) (s : State) : State :=
  (List.range 16).foldl (fun t k => if p t k then capFire bit t.epoch k t else t) s

end Sys2Proof.Machine
end

