-- ==== Sys2Proof/Machine/NvCore.lean ====
section
/-! DEFINITION. The NV array as other units reach it: its bytes, and the one commit journal with the commits that wait
for it (R543, R547, R548). -/
namespace Sys2Proof.Machine

/-- An unlisted byte of NV, flash, engine and capture memory reads as 0 (assumption log 11).
[DESIGN CHOICE, log 11] -/
def zeroByte (_ : Nat) : Byte := 0

/-- Reads `k` bytes of a memory from address `a`. -/
def memBytes (m : List (Nat × Byte)) (a k : Nat) : List Byte := (List.range k).map fun i => Smap.get zeroByte m (a + i)

/-- Writes a byte list into a memory from address `a`. -/
def memWrite (m : List (Nat × Byte)) (a : Nat) : List Byte → List (Nat × Byte)
  | [] => m
  | b :: l => memWrite (Smap.set zeroByte m a b) (a + 1) l

/-- The image of an NV page. -/
def State.nvPage (s : State) (p : Nat) : List Byte := memBytes s.nv.bytes (128 * p) 128

/-- Brings NVM_STAT to the journal's state. -/
def nvStat (s : State) : State :=
  (s.fs R.NVM_STAT_BUSY (b2n (s.nv.jphase != 0))).fs R.NVM_STAT_JCOPY (b2n (s.nv.jphase == 2))

/-- A commit enters the journal, or waits until it is free (R547, R548). [DEDUCED, log 146] -/
def nvCommit (j : NvJob) (s : State) : State :=
  nvStat { s with nv := { s.nv with
    jobs := s.nv.jobs ++ [j], jphase := if s.nv.jphase = 0 then 1 else s.nv.jphase } }

/-- A station configuration register is kept in NV (R351, R491, R536, R543). -/
def keepCfg (a : Nat) (s : State) : State := nvCommit { kind := 5, cfg := [(a, s.reg a)] } s

/-- A write `f` of the configuration register `a`, kept in NV when it changes it. [DEDUCED, log 98] -/
def keeping (a : Nat) (f : Word → State → Stat × State) (v : Word) (s : State) : Stat × State :=
  let r := f v s
  if r.2.reg a = s.reg a then r else (r.1, keepCfg a r.2)

/-- Whether the journal is in use. -/
def State.nvBusy (s : State) : Bool := s.nv.jphase != 0

/-- The next waiting shutdown record (R536) is committed while the journal is free. -/
def commitRecord (s : State) : State :=
  match s.thm.waitSd with
  | [] => s
  | r :: l => if s.nvBusy then s else nvCommit { kind := 5, sd := some r } { s with thm := { s.thm with waitSd := l } }

end Sys2Proof.Machine
end

