-- ==== Sys2Proof/Machine/EngCore.lean ====
section
/-! DEFINITION. The engine array's shared operations: an engine's state and its plot, stopping, exceptions (R256 to R258),
publishing a frame (R246, R284), issuing one instruction (R230, R231, R237). -/
namespace Sys2Proof.Machine

/-! ## Engines, plots and slots (R223, R224) -/

def State.plot (s : State) (p : Nat) : Plot := Smap.get (fun _ => {}) s.arr.plots p
def State.setPlot (s : State) (p : Nat) (v : Plot) : State :=
  { s with arr := { s.arr with plots := Smap.set (fun _ => {}) s.arr.plots p v } }

/-- Plot states of R271. -/
def psOFF : Nat := 0
def psRESET : Nat := 1
def psIDLE : Nat := 2
def psHOLD : Nat := 3
def psMIGR : Nat := 4
def psTEST : Nat := 5
def psRETIRED : Nat := 6
def psSPARE : Nat := 7

/-- Engine states of R252. -/
def esOFF : Nat := 0
def esIDLE : Nat := 1
def esREADY : Nat := 2
def esRUNNING : Nat := 3
def esHALTED : Nat := 4
def esEXCEPTION : Nat := 5

/-- The engines of a plot. -/
def engines (p : Nat) : List Nat := (List.range 32).map fun e => 32 * p + e

/-- The bits of the engines of plot `p` in state `st`. -/
def engMask (s : State) (p st : Nat) : Nat :=
  (List.range 32).foldl (fun m e => if (s.engine (32 * p + e)).st = st then setBit m e true else m) 0

/-- Brings the plot's registers and the summary registers to the engines' states (R270, R271). -/
def plotRefresh (p : Nat) (s : State) : State :=
  let run_ := engMask s p esRUNNING
  let exc := engMask s p esEXCEPTION
  let s1 := (s.fs (R.ENG_PLRUN_ENG p) run_).fs (R.ENG_PLEXC_ENG p) exc
  let s2 := (s1.fs (R.ENG_PLSTAT_NRUN p) (popCount 32 run_)).fbit R.ENG_EXCSUM_EXC p (exc != 0)
  let st := s2.plotState p
  let on_ := (List.range 4).any fun q => s2.domOn (domQP p q)
  let rises := (List.range 4).any fun q => decide (1 ≤ s2.domStep (domQP p q) ∧ s2.domStep (domQP p q) ≤ 3)
  let kern := (engines p).any fun x => (s2.engine x).key != 0
  let s3 := if st ≤ psHOLD then
      s2.fs (R.ENG_PLSTAT_STATE p) (if on_ then (if kern then psHOLD else psIDLE) else if rises then psRESET else psOFF)
    else s2
  s3.fs R.ENG_STAT_NRUN ((List.range s3.plotsFit).countP fun i => s3.fb (R.ENG_PLRUN_ENG i))

/-! ## Stopping (R246, R257) -/

/-- An open output frame is closed as aborted; the fabric takes nothing from an engine in its warm-up (R268). -/
def closeFrame (x : Nat) (s : State) : State :=
  let e := s.engine x
  let q := s.plotParcel (x / 32)
  let i := e.bout.getD 0
  if !e.isOpen then s
  else
    let s1 := s.setEngine x { e with isOpen := false, out := [], fill := 0 }
    if e.mute then s1 else feedPub (x / 32) q i true [] (s1.emit .stream [5, q, i])

/-- The engine's posted shared stores become visible to its plot. -/
def drainPosted (x : Nat) (s : State) : State :=
  let e := s.engine x
  if e.posted = [] ∧ e.buf = 0 then s
  else
    let pl := s.plot (x / 32)
    let m := e.posted.foldl (fun m c => Smap.set zeroByte m c.1 c.2) pl.mem
    (s.setEngine x { e with posted := [], buf := 0 }).setPlot (x / 32) { pl with mem := m }

/-- BAR of the instance of engine `x` completes when every running engine of it waits in BAR (R235).
[DEDUCED, log 74] -/
def barrierCheck (x : Nat) (s : State) : State :=
  let me := s.engine x
  let mates := (engines (x / 32)).filter fun y => (s.engine y).inst == me.inst && (s.engine y).key != 0
  let live := mates.filter fun y => (s.engine y).st == esRUNNING
  if live = [] ∨ live.any fun y => (s.engine y).stall != 4 then s
  else
    let stopped := live.length != mates.length
    live.foldl (fun t y => t.setEngine y { t.engine y with stall := 6, barx := stopped }) s

/-- The ns of datum time that the engine's watchdog has counted (R255). -/
def wdogCount (s : State) (e : Eng) : Nat := if e.st = esRUNNING then s.now - e.wdogAt else e.wdogUsed

/-- The watchdog's time has run out. -/
def wdogDue (s : State) (e : Eng) : Bool := e.wdog != 0 && decide (1000 * e.wdog ≤ wdogCount s e)

/-- The engine stops in state `st`: its frame is aborted, its stores drain, its watchdog pauses, its instance's barrier is
judged again. What it waited for stays, so that it goes on where it stopped. -/
def stopEngine (x st : Nat) (s : State) : State :=
  let s1 := drainPosted x (closeFrame x s)
  let e := s1.engine x
  let s2 := s1.setEngine x { e with st := st, wdogUsed := wdogCount s1 e }
  plotRefresh (x / 32) (barrierCheck x s2)

/-- Causes of R256. -/
def xcILLEGAL : Nat := 1
def xcMISALIGN : Nat := 2
def xcACCESS : Nat := 3
def xcMEMORY : Nat := 4
def xcSTREAM : Nat := 5
def xcDMA : Nat := 6
def xcWATCHDOG : Nat := 7
def xcBREAK : Nat := 8

/-- Takes an exception in engine `x` at its PC (R257): the record, the sticky bits, the fault; a further one before the engine
restarts only counts in MORE. -/
def takeExc (x cause addr : Nat) (s : State) : State :=
  let e := s.engine x
  if e.st = esEXCEPTION then s.inc (R.ENG_EXR_W0_MORE x)
  else if e.st ≠ esRUNNING then s
  else
    let w := Smap.get (fun _ => 0) e.imem e.pc
    let s1 := stopEngine x esEXCEPTION s
    let s2 := (((s1.setReg (R.ENG_EXR_W0 x) (w32 (cause * 0x1000000 + e.pc))).setReg (R.ENG_EXR_W1 x) (w32 addr)).setReg
      (R.ENG_EXR_W2 x) (w32 s.epoch)).setReg (R.ENG_EXR_W3 x) w
    let s3 := s2.fs (R.ENG_PLFLT_EXC (x / 32)) 1
    s3.raise (if e.safety then 0x08 else 0x66) (x / 32) (x / 32 * 256 + x % 32)

/-- A synchronous cause at the instruction at PC; a watchdog that expires with it counts in MORE (R258). -/
def takeSync (x cause addr : Nat) (s : State) : State :=
  let s1 := takeExc x cause addr s
  if wdogDue s (s.engine x) ∧ (s.engine x).st = esRUNNING then s1.inc (R.ENG_EXR_W0_MORE x) else s1

/-- Where execution goes after the instruction at `a`, with the loop stack (R237). -/
def afterSeq : List LoopLv → Nat → Nat × List LoopLv
  | [], a => ((a + 1) % 1024, [])
  | l :: ls, a =>
    if l.last = a then
      if 1 < l.left then (l.first, { l with left := l.left - 1 } :: ls) else afterSeq ls a
    else ((a + 1) % 1024, l :: ls)

/-- The engine goes on after the instruction at `a`. -/
def Eng.seq (e : Eng) (a : Nat) : Eng :=
  let r := afterSeq e.loops a
  { e with pc := r.1, loops := r.2, stall := 0 }

/-- The instruction boundary at which an asynchronous cause is taken (R256): WAIT has ended, as has a BAR that has completed;
any other stalled instruction has not begun. -/
def Eng.boundary (e : Eng) : Eng :=
  if e.stall = 3 then e.seq e.pc else if e.stall = 6 then (e.flag 7 e.barx).seq e.pc else e

/-- An asynchronous cause is taken at the boundary. -/
def takeAsync (x cause addr : Nat) (s : State) : State :=
  let e := s.engine x
  takeExc x cause addr (if e.st = esRUNNING then s.setEngine x e.boundary else s)

/-- The exception of the completed descriptor at `a`: at once in a running engine, when it runs again in a halted one. -/
def dmaException (x a : Nat) (s : State) : State :=
  let e := s.engine x
  if e.st = esHALTED then s.setEngine x { e with dmaExc := some a } else takeAsync x xcDMA a s

/-- Whether an engine holds a safety kernel. -/
def holdsSafety (s : State) (x : Nat) : Bool := (s.engine x).key != 0 && (s.engine x).safety

/-! ## Publishing (R280, R284, R425) -/

/-- Publication entry `i` of parcel `q` closes a frame in plot `p`: it goes to its subscribers, to capture triggers, and to the
forwarding destination if one is set. -/
def publish (p q i : Nat) (items : List Word) (s : State) : State :=
  let w0 := s.pubW0 q i
  if !entOn w0 then s
  else
    let s0 := { s with fab := { s.fab with
      got := Smap.set (fun _ => 0) s.fab.got (256 + 32 * q + i) (Smap.get (fun _ => 0) s.fab.got (256 + 32 * q + i) + 1) } }
    let s1 := feedPub p q i false items (s0.emit .stream ([4, q, i] ++ items.map fun w => w.toNat))
    let s2 := capFireAll 3 (fun t k => k / 2 == q && t.fg (R.CAP_B_W0_KPUB k) == i) s1
    let d := s.pubW1 q i
    if d = 0 then s2
    else if 500 < items.length then s2.inc (R.FAB_PDEC_DROPS q)
    else sendOut { cls := if entClass w0 = 2 then 3 else 2, noReply := true, opcode := 0x25, parcel := q, hops := 15
                   dest := d, src := s.ownAddr
                   payload := leBytes 1 q ++ leBytes 1 i ++ leBytes 2 items.length ++ items.flatMap fun w => leBytes 4 w.toNat }
      s2

/-! ## Fields of an instruction word (R230) -/

def iOPC (w : Nat) : Nat := bitsOf w 0 8
def iD (w : Nat) : Nat := bitsOf w 8 5
def iA (w : Nat) : Nat := bitsOf w 13 5
def iB (w : Nat) : Nat := bitsOf w 18 5
def iX (w : Nat) : Nat := bitsOf w 23 9
/-- The 14-bit and the 19-bit immediate, unsigned. -/
def iIMM (w : Nat) : Nat := bitsOf w 18 14
def iWIDE (w : Nat) : Nat := bitsOf w 13 19
/-- The branch offset. -/
def iOFF (w : Nat) : Int := asInt 19 (iWIDE w)

/-- The assigned values of OPC (R231). -/
def opcAssigned (o : Nat) : Bool :=
  decide ((0x01 ≤ o ∧ o ≤ 0x1A) ∨ (0x20 ≤ o ∧ o ≤ 0x29) ∨ (0x30 ≤ o ∧ o ≤ 0x34) ∨ (0x38 ≤ o ∧ o ≤ 0x3A)
    ∨ (0x40 ≤ o ∧ o ≤ 0x4B) ∨ (0x50 ≤ o ∧ o ≤ 0x59) ∨ (0x60 ≤ o ∧ o ≤ 0x63) ∨ (0x68 ≤ o ∧ o ≤ 0x6C)
    ∨ (0x70 ≤ o ∧ o ≤ 0x78))

/-! ## Registers and memory of an engine -/

def Eng.gr (e : Eng) (n : Nat) : Word := Smap.get (fun _ => 0) e.g n
def Eng.setGr (e : Eng) (n : Nat) (v : Word) : Eng := { e with g := Smap.set (fun _ => 0) e.g n v }
def Eng.acc (e : Eng) (n : Nat) : Acc := Smap.get (fun _ => 0) e.ac n
def Eng.setAcc (e : Eng) (n : Nat) (v : Acc) : Eng := { e with ac := Smap.set (fun _ => 0) e.ac n v }

/-- The address lies in shared memory. -/
def isShared (a : Nat) : Bool := decide (0x10000 ≤ a ∧ a < 0x50000)

/-- A byte as engine `x` sees it: its own stores in order, whether or not they are visible to others (R242).
[DEDUCED, log 65] -/
def engByte (s : State) (x a : Nat) : Byte :=
  let e := s.engine x
  if a < 0x4000 then Smap.get zeroByte e.dmem a
  else match e.posted.reverse.find? fun c => c.1 == a with
    | some c => c.2
    | none => Smap.get zeroByte (s.plot (x / 32)).mem a

/-- `k` bytes from address `a`, as a number. -/
def engRead (s : State) (x a k : Nat) : Nat := leNat ((List.range k).map fun i => engByte s x (a + i))

/-- Stores the low `k` bytes of a number at address `a`; a shared store takes a place in the posted-store buffer (R241). -/
def engStore (e : Eng) (a k v : Nat) : Eng :=
  if a < 0x4000 then { e with dmem := memWrite e.dmem a (leBytes k v) }
  else { e with buf := e.buf + 1, posted := e.posted ++ (List.range k).map fun i => (a + i, BitVec.ofNat 8 (v / 256 ^ i)) }

/-! ## Issuing an instruction -/

/-- How an instruction ends: sequentially, at another instruction, with PC and loop stack already set, stalled at its
own address, stopped in HALTED, or with an exception (cause, address). -/
inductive EStep where
  | done (s : State)
  | jump (s : State) (t : Nat)
  | placed (s : State)
  | stall (s : State) (k : Nat)
  | halt (s : State)
  | exc (cause addr : Nat)

/-- The loop stack after a taken branch or jump to `t`: a target outside the innermost body ends that level. -/
def afterJump (ls : List LoopLv) (t : Nat) : List LoopLv :=
  match ls with
  | [] => []
  | l :: r => if l.first ≤ t ∧ t ≤ l.last then l :: r else r

/-- How an issued instruction changes the station. -/
def finish (x : Nat) (s : State) : EStep → State
  | .done t => t.setEngine x ((t.engine x).seq (t.engine x).pc)
  | .jump t a =>
    let e := t.engine x
    t.setEngine x { e with pc := a, loops := afterJump e.loops a, stall := 0 }
  | .placed t => t
  | .stall t k =>
    let t1 := t.setEngine x { t.engine x with stall := k, wake := false }
    if k = 4 then barrierCheck x t1 else t1
  | .halt t => stopEngine x esHALTED (t.setEngine x ((t.engine x).seq (t.engine x).pc))
  | .exc c a => takeSync x c a s

/-- The 14-bit immediate, sign-extended. -/
def immS (w : Nat) : Word := w32 (ofInt 32 (asInt 14 (iIMM w)))

/-- The byte address Ga + IMM. -/
def dataAddr (w : Nat) (e : Eng) : Nat := (e.gr (iA w) + immS w).toNat

/-- The opcodes that read data memory. -/
def isLoad (opc : Nat) : Bool := decide (0x30 ≤ opc ∧ opc ≤ 0x34)

/-- An uncorrectable word: counted, and MEMORY unless a cause that comes first applies (R243, R258). -/
def memoryExc (x addr : Nat) (r : EStep) (s : State) : State :=
  let p := x / 32
  let s1 := (s.inc (R.ENG_PLECC_UNCOR p)).fs (R.ENG_PLFLT_ECCU p) 1
  match r with
  | .exc c a => if c ≤ xcACCESS then finish x s1 (.exc c a) else finish x s1 (.exc xcMEMORY addr)
  | _ => finish x s1 (.exc xcMEMORY addr)

/-- Engine `x` issues its next instruction, if it is the one with opcode `opc`; `ecc` is what the memory code finds in
the words it reads: 0 good, 1 corrected, 2 an uncorrectable instruction word, 3 an uncorrectable data word of a load (R243). A
word with an unassigned OPC raises ILLEGAL. [DEDUCED, log 63] [DESIGN CHOICE, log 64] -/
def issue (x opc ecc : Nat) (f : Nat → Eng → State → EStep) (s0 : State) : State :=
  let e0 := s0.engine x
  let w := (Smap.get (fun _ => 0) e0.imem e0.pc).toNat
  if e0.st ≠ esRUNNING ∨ e0.stall ≠ 0 then s0
  else match e0.dmaExc with
  | some a => takeAsync x xcDMA a (s0.setEngine x { e0 with dmaExc := none })
  | none =>
    if iOPC w = opc then
      let e := { e0 with cyc := e0.cyc + 1 }
      let s := s0.setEngine x e
      if ecc = 2 then memoryExc x 0 (f w e s) s
      else if ecc = 3 ∧ isLoad opc then memoryExc x (dataAddr w e) (f w e s) s
      else
        let s1 := if ecc = 1 then s.inc (R.ENG_PLECC_COR (x / 32)) else s
        finish x s1 (f w e s1)
    else if opcAssigned (iOPC w) then s0
    else takeSync x xcILLEGAL 0 s0

/-- An instruction that only changes its engine. -/
def pureEng (x : Nat) (s : State) (e : Eng) : EStep := .done (s.setEngine x e)

end Sys2Proof.Machine
end

