-- ==== Sys2Proof/Machine/EngInt.lean ====
section
/-! DEFINITION. The integer and immediate instructions of the engines: the meanings of the rows ADD to MOVH (R232, R233). -/
namespace Sys2Proof.Machine

/-! ## Shared operand forms and flag computations -/

/-- Format RR with X = 0 and three registers: Gd := f Ga Gb. -/
def rr3 (f : Word → Word → Word) (x w : Nat) (e : Eng) (s : State) : EStep :=
  if iX w ≠ 0 then .exc xcILLEGAL 0
  else pureEng x s (e.setGr (iD w) (f (e.gr (iA w)) (e.gr (iB w))))

/-- Format RR with X = 0 and B = 0: Gd := f Ga. -/
def rr2 (f : Word → Word) (x w : Nat) (e : Eng) (s : State) : EStep :=
  if iX w ≠ 0 ∨ iB w ≠ 0 then .exc xcILLEGAL 0
  else pureEng x s (e.setGr (iD w) (f (e.gr (iA w))))

/-- The 14-bit immediate, sign-extended and zero-extended. -/
def immZ (w : Nat) : Word := w32 (iIMM w)

/-- Format RI: Gd := f Ga imm, with the immediate of the caller's form. -/
def ri (imm : Nat → Word) (f : Word → Word → Word) (x w : Nat) (e : Eng) (s : State) : EStep :=
  pureEng x s (e.setGr (iD w) (f (e.gr (iA w)) (imm w)))

/-- A shift by IMM[4:0], with IMM[13:5] = 0. -/
def riShift (f : Word → Nat → Word) (x w : Nat) (e : Eng) (s : State) : EStep :=
  if iIMM w / 32 ≠ 0 then .exc xcILLEGAL 0
  else pureEng x s (e.setGr (iD w) (f (e.gr (iA w)) (iIMM w % 32)))

/-- Z, N, C and V of a comparison, in bits 8 to 11 (R229). -/
def cmpFlags (a b : Word) : Nat :=
  let d := a - b
  256 * b2n (a == b) + 512 * b2n d.msb + 1024 * b2n (decide (a.toNat < b.toNat))
  + 2048 * b2n (decide (a.toInt - b.toInt ≠ d.toInt))

/-- Sets the condition flags from a comparison; the other flags stay. -/
def Eng.cmp (e : Eng) (a b : Word) : Eng := { e with sflags := e.sflags % 256 + cmpFlags a b }

/-- Signed saturation to 32 bits, and of a 16-bit half. -/
def sat32 (i : Int) : Word := w32 (ofInt 32 (clampS 32 i))
def sat16 (i : Int) : Nat := ofInt 16 (clampS 16 i)

/-- The parts of a packed complex value: real in [31:16], imaginary in [15:0] (R226). -/
def reOf (w : Word) : Int := asInt 16 (w.toNat / 65536)
def imOf (w : Word) : Int := asInt 16 w.toNat

/-- Packs two 16-bit halves. -/
def packHalves (hi lo : Nat) : Word := w32 (hi % 65536 * 65536 + lo % 65536)

/-- A Q30 value rounded to Q15 with halves towards plus infinity, saturated (R234). -/
def q15 (i : Int) : Nat := sat16 (roundShift i 15)

/-- The exact complex product, and the product with the conjugate of the second factor, in Q30. -/
def cprod (a b : Word) : Int × Int := (reOf a * reOf b - imOf a * imOf b, reOf a * imOf b + imOf a * reOf b)
def cprodC (a b : Word) : Int × Int := (reOf a * reOf b + imOf a * imOf b, imOf a * reOf b - reOf a * imOf b)

def cq15 (p : Int × Int) : Word := packHalves (q15 p.1) (q15 p.2)

/-- The number of leading zeros. -/
def leadingZeros (a : Word) : Word :=
  w32 (if a = 0 then 32 else 31 - Nat.log2 a.toNat)

/-! ## R232 -/

/-- ADD: wraps. -/
def engAdd (x : Nat) (w : Nat) (e : Eng) (s : State) : EStep :=
  rr3 (fun a b => a + b) x w e s

def execEngAdd (x : Fin 1024) (ecc : Fin 4) (s : State) := run (issue x.val 0x01 ecc.val (engAdd x.val)) s

/-- SUB: wraps. -/
def engSub (x : Nat) (w : Nat) (e : Eng) (s : State) : EStep :=
  rr3 (fun a b => a - b) x w e s

def execEngSub (x : Fin 1024) (ecc : Fin 4) (s : State) := run (issue x.val 0x02 ecc.val (engSub x.val)) s

/-- AND. -/
def engAnd (x : Nat) (w : Nat) (e : Eng) (s : State) : EStep :=
  rr3 (fun a b => a &&& b) x w e s

def execEngAnd (x : Fin 1024) (ecc : Fin 4) (s : State) := run (issue x.val 0x03 ecc.val (engAnd x.val)) s

/-- OR. -/
def engOr (x : Nat) (w : Nat) (e : Eng) (s : State) : EStep :=
  rr3 (fun a b => a ||| b) x w e s

def execEngOr (x : Fin 1024) (ecc : Fin 4) (s : State) := run (issue x.val 0x04 ecc.val (engOr x.val)) s

/-- XOR. -/
def engXor (x : Nat) (w : Nat) (e : Eng) (s : State) : EStep :=
  rr3 (fun a b => a ^^^ b) x w e s

def execEngXor (x : Fin 1024) (ecc : Fin 4) (s : State) := run (issue x.val 0x05 ecc.val (engXor x.val)) s

/-- SHL by Gb[4:0]. -/
def engShl (x : Nat) (w : Nat) (e : Eng) (s : State) : EStep :=
  rr3 (fun a b => a <<< (b.toNat % 32)) x w e s

def execEngShl (x : Fin 1024) (ecc : Fin 4) (s : State) := run (issue x.val 0x06 ecc.val (engShl x.val)) s

/-- SHR by Gb[4:0]. -/
def engShr (x : Nat) (w : Nat) (e : Eng) (s : State) : EStep :=
  rr3 (fun a b => a >>> (b.toNat % 32)) x w e s

def execEngShr (x : Fin 1024) (ecc : Fin 4) (s : State) := run (issue x.val 0x07 ecc.val (engShr x.val)) s

/-- SHRA by Gb[4:0]. -/
def engShra (x : Nat) (w : Nat) (e : Eng) (s : State) : EStep :=
  rr3 (fun a b => a.sshiftRight (b.toNat % 32)) x w e s

def execEngShra (x : Fin 1024) (ecc : Fin 4) (s : State) := run (issue x.val 0x08 ecc.val (engShra x.val)) s

/-- CMP: D and X are 0; Gd is not written. -/
def engCmp (x : Nat) (w : Nat) (e : Eng) (s : State) : EStep :=
  if iX w ≠ 0 ∨ iD w ≠ 0 then .exc xcILLEGAL 0 else pureEng x s (e.cmp (e.gr (iA w)) (e.gr (iB w)))

def execEngCmp (x : Fin 1024) (ecc : Fin 4) (s : State) := run (issue x.val 0x09 ecc.val (engCmp x.val)) s

/-- ANDN. -/
def engAndn (x : Nat) (w : Nat) (e : Eng) (s : State) : EStep :=
  rr3 (fun a b => a &&& ~~~b) x w e s

def execEngAndn (x : Fin 1024) (ecc : Fin 4) (s : State) := run (issue x.val 0x0A ecc.val (engAndn x.val)) s

/-- MIN, signed. -/
def engMin (x : Nat) (w : Nat) (e : Eng) (s : State) : EStep :=
  rr3 (fun a b => if a.toInt ≤ b.toInt then a else b) x w e s

def execEngMin (x : Fin 1024) (ecc : Fin 4) (s : State) := run (issue x.val 0x0B ecc.val (engMin x.val)) s

/-- MAX, signed. -/
def engMax (x : Nat) (w : Nat) (e : Eng) (s : State) : EStep :=
  rr3 (fun a b => if a.toInt ≤ b.toInt then b else a) x w e s

def execEngMax (x : Fin 1024) (ecc : Fin 4) (s : State) := run (issue x.val 0x0C ecc.val (engMax x.val)) s

/-- ADDS: saturates. -/
def engAdds (x : Nat) (w : Nat) (e : Eng) (s : State) : EStep :=
  rr3 (fun a b => sat32 (a.toInt + b.toInt)) x w e s

def execEngAdds (x : Fin 1024) (ecc : Fin 4) (s : State) := run (issue x.val 0x0D ecc.val (engAdds x.val)) s

/-- SUBS: saturates. -/
def engSubs (x : Nat) (w : Nat) (e : Eng) (s : State) : EStep :=
  rr3 (fun a b => sat32 (a.toInt - b.toInt)) x w e s

def execEngSubs (x : Fin 1024) (ecc : Fin 4) (s : State) := run (issue x.val 0x0E ecc.val (engSubs x.val)) s

/-- MUL: the low 32 bits. -/
def engMul (x : Nat) (w : Nat) (e : Eng) (s : State) : EStep :=
  rr3 (fun a b => a * b) x w e s

def execEngMul (x : Fin 1024) (ecc : Fin 4) (s : State) := run (issue x.val 0x0F ecc.val (engMul x.val)) s

/-- MULH: the high 32 bits of the signed product. -/
def engMulh (x : Nat) (w : Nat) (e : Eng) (s : State) : EStep :=
  rr3 (fun a b => w32 (ofInt 64 (a.toInt * b.toInt) / 2 ^ 32)) x w e s

def execEngMulh (x : Fin 1024) (ecc : Fin 4) (s : State) := run (issue x.val 0x10 ecc.val (engMulh x.val)) s

/-- MULHU: the high 32 bits of the unsigned product. -/
def engMulhu (x : Nat) (w : Nat) (e : Eng) (s : State) : EStep :=
  rr3 (fun a b => w32 (a.toNat * b.toNat / 2 ^ 32)) x w e s

def execEngMulhu (x : Fin 1024) (ecc : Fin 4) (s : State) := run (issue x.val 0x11 ecc.val (engMulhu x.val)) s

/-- CLZ. -/
def engClz (x : Nat) (w : Nat) (e : Eng) (s : State) : EStep :=
  rr2 leadingZeros x w e s

def execEngClz (x : Fin 1024) (ecc : Fin 4) (s : State) := run (issue x.val 0x12 ecc.val (engClz x.val)) s

/-- ABS: saturates. -/
def engAbs (x : Nat) (w : Nat) (e : Eng) (s : State) : EStep :=
  rr2 (fun a => sat32 a.toInt.natAbs) x w e s

def execEngAbs (x : Fin 1024) (ecc : Fin 4) (s : State) := run (issue x.val 0x13 ecc.val (engAbs x.val)) s

/-- PADD: both halves, each saturating. -/
def engPadd (x : Nat) (w : Nat) (e : Eng) (s : State) : EStep :=
  rr3 (fun a b => packHalves (sat16 (reOf a + reOf b)) (sat16 (imOf a + imOf b))) x w e s

def execEngPadd (x : Fin 1024) (ecc : Fin 4) (s : State) := run (issue x.val 0x14 ecc.val (engPadd x.val)) s

/-- PSUB. -/
def engPsub (x : Nat) (w : Nat) (e : Eng) (s : State) : EStep :=
  rr3 (fun a b => packHalves (sat16 (reOf a - reOf b)) (sat16 (imOf a - imOf b))) x w e s

def execEngPsub (x : Fin 1024) (ecc : Fin 4) (s : State) := run (issue x.val 0x15 ecc.val (engPsub x.val)) s

/-- PACK. -/
def engPack (x : Nat) (w : Nat) (e : Eng) (s : State) : EStep :=
  rr3 (fun a b => packHalves a.toNat b.toNat) x w e s

def execEngPack (x : Fin 1024) (ecc : Fin 4) (s : State) := run (issue x.val 0x16 ecc.val (engPack x.val)) s

/-- CMUL: rounded and saturated. -/
def engCmul (x : Nat) (w : Nat) (e : Eng) (s : State) : EStep :=
  rr3 (fun a b => cq15 (cprod a b)) x w e s

def execEngCmul (x : Fin 1024) (ecc : Fin 4) (s : State) := run (issue x.val 0x17 ecc.val (engCmul x.val)) s

/-- CMULC. -/
def engCmulc (x : Nat) (w : Nat) (e : Eng) (s : State) : EStep :=
  rr3 (fun a b => cq15 (cprodC a b)) x w e s

def execEngCmulc (x : Fin 1024) (ecc : Fin 4) (s : State) := run (issue x.val 0x18 ecc.val (engCmulc x.val)) s

/-- CONJ: the imaginary part saturates. -/
def engConj (x : Nat) (w : Nat) (e : Eng) (s : State) : EStep :=
  rr2 (fun a => packHalves (a.toNat / 65536) (sat16 (-imOf a))) x w e s

def execEngConj (x : Fin 1024) (ecc : Fin 4) (s : State) := run (issue x.val 0x19 ecc.val (engConj x.val)) s

/-- MOV. -/
def engMov (x : Nat) (w : Nat) (e : Eng) (s : State) : EStep :=
  rr2 (fun a => a) x w e s

def execEngMov (x : Fin 1024) (ecc : Fin 4) (s : State) := run (issue x.val 0x1A ecc.val (engMov x.val)) s

/-! ## R233, the immediate instructions -/

/-- ADDI. -/
def engAddi (x : Nat) (w : Nat) (e : Eng) (s : State) : EStep :=
  ri immS (fun a b => a + b) x w e s

def execEngAddi (x : Fin 1024) (ecc : Fin 4) (s : State) := run (issue x.val 0x20 ecc.val (engAddi x.val)) s

/-- ANDI. -/
def engAndi (x : Nat) (w : Nat) (e : Eng) (s : State) : EStep :=
  ri immZ (fun a b => a &&& b) x w e s

def execEngAndi (x : Fin 1024) (ecc : Fin 4) (s : State) := run (issue x.val 0x21 ecc.val (engAndi x.val)) s

/-- ORI. -/
def engOri (x : Nat) (w : Nat) (e : Eng) (s : State) : EStep :=
  ri immZ (fun a b => a ||| b) x w e s

def execEngOri (x : Fin 1024) (ecc : Fin 4) (s : State) := run (issue x.val 0x22 ecc.val (engOri x.val)) s

/-- XORI. -/
def engXori (x : Nat) (w : Nat) (e : Eng) (s : State) : EStep :=
  ri immZ (fun a b => a ^^^ b) x w e s

def execEngXori (x : Fin 1024) (ecc : Fin 4) (s : State) := run (issue x.val 0x23 ecc.val (engXori x.val)) s

/-- CMPI: D is 0. -/
def engCmpi (x : Nat) (w : Nat) (e : Eng) (s : State) : EStep :=
  if iD w ≠ 0 then .exc xcILLEGAL 0 else pureEng x s (e.cmp (e.gr (iA w)) (immS w))

def execEngCmpi (x : Fin 1024) (ecc : Fin 4) (s : State) := run (issue x.val 0x24 ecc.val (engCmpi x.val)) s

/-- SHLI. -/
def engShli (x : Nat) (w : Nat) (e : Eng) (s : State) : EStep :=
  riShift (fun a n => a <<< n) x w e s

def execEngShli (x : Fin 1024) (ecc : Fin 4) (s : State) := run (issue x.val 0x25 ecc.val (engShli x.val)) s

/-- SHRI. -/
def engShri (x : Nat) (w : Nat) (e : Eng) (s : State) : EStep :=
  riShift (fun a n => a >>> n) x w e s

def execEngShri (x : Fin 1024) (ecc : Fin 4) (s : State) := run (issue x.val 0x26 ecc.val (engShri x.val)) s

/-- SHRAI. -/
def engShrai (x : Nat) (w : Nat) (e : Eng) (s : State) : EStep :=
  riShift (fun a n => a.sshiftRight n) x w e s

def execEngShrai (x : Fin 1024) (ecc : Fin 4) (s : State) := run (issue x.val 0x27 ecc.val (engShrai x.val)) s

/-- MOVI: 19 bits, sign-extended. -/
def engMovi (x : Nat) (w : Nat) (e : Eng) (s : State) : EStep :=
  pureEng x s (e.setGr (iD w) (w32 (ofInt 32 (iOFF w))))

def execEngMovi (x : Fin 1024) (ecc : Fin 4) (s : State) := run (issue x.val 0x28 ecc.val (engMovi x.val)) s

/-- MOVH: IMM[18:16] = 0; Gd[15:0] stays. -/
def engMovh (x : Nat) (w : Nat) (e : Eng) (s : State) : EStep :=
  if iWIDE w / 65536 ≠ 0 then .exc xcILLEGAL 0
  else pureEng x s (e.setGr (iD w) (packHalves (iWIDE w) (e.gr (iD w)).toNat))

def execEngMovh (x : Fin 1024) (ecc : Fin 4) (s : State) := run (issue x.val 0x29 ecc.val (engMovh x.val)) s

end Sys2Proof.Machine
end

