-- ==== Sys2Proof/Machine/EngMem.lean ====
section
/-! DEFINITION. Loads, stores, branches, loops, multiply-accumulates and the oscillator of the engines: the meanings of
the rows LDW to NCOQP (R233, R234, R237 to R240). -/
namespace Sys2Proof.Machine

/-! ## Loads and stores (R240) -/

/-- The exception of an access of `k` bytes at `a`, if any: MISALIGN before ACCESS (R258). [DEDUCED, log 66] -/
def accessExc (a k : Nat) : Option Nat :=
  if a % k ≠ 0 then some xcMISALIGN
  else if a < 0x4000 ∨ isShared a then none
  else some xcACCESS

/-- A load of `k` bytes; `f` extends the number read. -/
def engLoad (k : Nat) (f : Nat → Word) (x w : Nat) (e : Eng) (s : State) : EStep :=
  let a := dataAddr w e
  match accessExc a k with
  | some c => .exc c a
  | none => pureEng x s (e.setGr (iD w) (f (engRead s x a k)))

/-- A store of the low `k` bytes of Gd; a shared store stalls while the 4-entry buffer is full (R241).
[DESIGN CHOICE, log 176] -/
def engPut (k x w : Nat) (e : Eng) (s : State) : EStep :=
  let a := dataAddr w e
  match accessExc a k with
  | some c => .exc c a
  | none => if isShared a ∧ 4 ≤ e.buf then .stall s 8 else pureEng x s (engStore e a k (e.gr (iD w)).toNat)

/-- A number of `8 k` bits, sign-extended to a word. -/
def sext (k n : Nat) : Word := w32 (ofInt 32 (asInt (8 * k) n))

/-- LDW. -/
def engLdw (x : Nat) (w : Nat) (e : Eng) (s : State) : EStep :=
  engLoad 4 w32 x w e s

def execEngLdw (x : Fin 1024) (ecc : Fin 4) (s : State) := run (issue x.val 0x30 ecc.val (engLdw x.val)) s

/-- LDH. -/
def engLdh (x : Nat) (w : Nat) (e : Eng) (s : State) : EStep :=
  engLoad 2 (sext 2) x w e s

def execEngLdh (x : Fin 1024) (ecc : Fin 4) (s : State) := run (issue x.val 0x31 ecc.val (engLdh x.val)) s

/-- LDHU. -/
def engLdhu (x : Nat) (w : Nat) (e : Eng) (s : State) : EStep :=
  engLoad 2 w32 x w e s

def execEngLdhu (x : Fin 1024) (ecc : Fin 4) (s : State) := run (issue x.val 0x32 ecc.val (engLdhu x.val)) s

/-- LDB. -/
def engLdb (x : Nat) (w : Nat) (e : Eng) (s : State) : EStep :=
  engLoad 1 (sext 1) x w e s

def execEngLdb (x : Fin 1024) (ecc : Fin 4) (s : State) := run (issue x.val 0x33 ecc.val (engLdb x.val)) s

/-- LDBU. -/
def engLdbu (x : Nat) (w : Nat) (e : Eng) (s : State) : EStep :=
  engLoad 1 w32 x w e s

def execEngLdbu (x : Fin 1024) (ecc : Fin 4) (s : State) := run (issue x.val 0x34 ecc.val (engLdbu x.val)) s

/-- STW. -/
def engStw (x : Nat) (w : Nat) (e : Eng) (s : State) : EStep :=
  engPut 4 x w e s

def execEngStw (x : Fin 1024) (ecc : Fin 4) (s : State) := run (issue x.val 0x38 ecc.val (engStw x.val)) s

/-- STH. -/
def engSth (x : Nat) (w : Nat) (e : Eng) (s : State) : EStep :=
  engPut 2 x w e s

def execEngSth (x : Fin 1024) (ecc : Fin 4) (s : State) := run (issue x.val 0x39 ecc.val (engSth x.val)) s

/-- STB. -/
def engStb (x : Nat) (w : Nat) (e : Eng) (s : State) : EStep :=
  engPut 1 x w e s

def execEngStb (x : Fin 1024) (ecc : Fin 4) (s : State) := run (issue x.val 0x3A ecc.val (engStb x.val)) s

/-! ## Branches (R233) -/

/-- A branch target, if it lies in instruction memory (R231). -/
def target (w : Nat) (e : Eng) : Option Nat :=
  let t := (e.pc : Int) + iOFF w
  if 0 ≤ t ∧ t ≤ 1023 then some t.toNat else none

/-- A branch with N = 0, taken when `c` holds. -/
def branchIf (c : Bool) (x w : Nat) (e : Eng) (s : State) : EStep :=
  match target w e with
  | none => .exc xcILLEGAL 0
  | some t => if iD w ≠ 0 then .exc xcILLEGAL 0 else if c then .jump (s.setEngine x e) t else pureEng x s e

/-- The condition flags in SFLAGS. -/
def Eng.zf (e : Eng) : Bool := e.sflags.testBit 8
def Eng.nf (e : Eng) : Bool := e.sflags.testBit 9
def Eng.cf (e : Eng) : Bool := e.sflags.testBit 10
def Eng.vf (e : Eng) : Bool := e.sflags.testBit 11

/-- BEQ. -/
def engBeq (x : Nat) (w : Nat) (e : Eng) (s : State) : EStep :=
  branchIf e.zf x w e s

def execEngBeq (x : Fin 1024) (ecc : Fin 4) (s : State) := run (issue x.val 0x40 ecc.val (engBeq x.val)) s

/-- BNE. -/
def engBne (x : Nat) (w : Nat) (e : Eng) (s : State) : EStep :=
  branchIf (!e.zf) x w e s

def execEngBne (x : Fin 1024) (ecc : Fin 4) (s : State) := run (issue x.val 0x41 ecc.val (engBne x.val)) s

/-- BLT. -/
def engBlt (x : Nat) (w : Nat) (e : Eng) (s : State) : EStep :=
  branchIf (e.nf != e.vf) x w e s

def execEngBlt (x : Fin 1024) (ecc : Fin 4) (s : State) := run (issue x.val 0x42 ecc.val (engBlt x.val)) s

/-- BGE. -/
def engBge (x : Nat) (w : Nat) (e : Eng) (s : State) : EStep :=
  branchIf (e.nf == e.vf) x w e s

def execEngBge (x : Fin 1024) (ecc : Fin 4) (s : State) := run (issue x.val 0x43 ecc.val (engBge x.val)) s

/-- BLTU. -/
def engBltu (x : Nat) (w : Nat) (e : Eng) (s : State) : EStep :=
  branchIf e.cf x w e s

def execEngBltu (x : Fin 1024) (ecc : Fin 4) (s : State) := run (issue x.val 0x44 ecc.val (engBltu x.val)) s

/-- BGEU. -/
def engBgeu (x : Nat) (w : Nat) (e : Eng) (s : State) : EStep :=
  branchIf (!e.cf) x w e s

def execEngBgeu (x : Fin 1024) (ecc : Fin 4) (s : State) := run (issue x.val 0x45 ecc.val (engBgeu x.val)) s

/-- BSF: N names bit 0 to 11 of SFLAGS. -/
def engBsf (x : Nat) (w : Nat) (e : Eng) (s : State) : EStep :=
  match target w e with
  | none => .exc xcILLEGAL 0
  | some t =>
    if 11 < iD w then .exc xcILLEGAL 0
    else if e.sflags.testBit (iD w) then .jump (s.setEngine x e) t else pureEng x s e

def execEngBsf (x : Fin 1024) (ecc : Fin 4) (s : State) := run (issue x.val 0x46 ecc.val (engBsf x.val)) s

/-- BRA. -/
def engBra (x : Nat) (w : Nat) (e : Eng) (s : State) : EStep :=
  branchIf true x w e s

def execEngBra (x : Fin 1024) (ecc : Fin 4) (s : State) := run (issue x.val 0x47 ecc.val (engBra x.val)) s

/-- CALL: LNK := PC + 1. -/
def engCall (x : Nat) (w : Nat) (e : Eng) (s : State) : EStep :=
  branchIf true x w { e with lnk := (e.pc + 1) % 1024 } s

def execEngCall (x : Fin 1024) (ecc : Fin 4) (s : State) := run (issue x.val 0x48 ecc.val (engCall x.val)) s

/-- RET. -/
def engRet (x : Nat) (w : Nat) (e : Eng) (s : State) : EStep :=
  if iD w ≠ 0 ∨ iA w ≠ 0 ∨ iB w ≠ 0 ∨ iX w ≠ 0 then .exc xcILLEGAL 0 else .jump (s.setEngine x e) e.lnk

def execEngRet (x : Fin 1024) (ecc : Fin 4) (s : State) := run (issue x.val 0x49 ecc.val (engRet x.val)) s

/-- JMPR. -/
def engJmpr (x : Nat) (w : Nat) (e : Eng) (s : State) : EStep :=
  if iD w ≠ 0 ∨ iB w ≠ 0 ∨ iX w ≠ 0 then .exc xcILLEGAL 0
  else .jump (s.setEngine x e) ((e.gr (iA w)).toNat % 1024)

def execEngJmpr (x : Fin 1024) (ecc : Fin 4) (s : State) := run (issue x.val 0x4A ecc.val (engJmpr x.val)) s

/-- LOOP (R237): a count of 0 goes on after the body; a third level and a body past instruction 1,023 raise ILLEGAL.
[DEDUCED, log 67] -/
def engLoop (x : Nat) (w : Nat) (e : Eng) (s : State) : EStep :=
  let n := iIMM w
  let c := (e.gr (iD w)).toNat
  if iA w ≠ 0 ∨ n = 0 ∨ 1023 < n ∨ 1023 < e.pc + n then .exc xcILLEGAL 0
  else if c = 0 then
    let r := afterSeq e.loops (e.pc + n)
    .placed (s.setEngine x { e with pc := r.1, loops := r.2 })
  else if 2 ≤ e.loops.length then .exc xcILLEGAL 0
  else .done (s.setEngine x { e with loops := { first := e.pc + 1, last := e.pc + n, left := c } :: e.loops })

def execEngLoop (x : Fin 1024) (ecc : Fin 4) (s : State) := run (issue x.val 0x4B ecc.val (engLoop x.val)) s

/-! ## Multiply-accumulates (R234) -/

/-- Adds to accumulator `n`, which wraps past 2^79 and then sets AOV. -/
def Eng.accAdd (e : Eng) (n : Nat) (v : Int) : Eng :=
  let r := (e.acc n).toInt + v
  let e1 := e.setAcc n (BitVec.ofInt 80 r)
  if clampS 80 r = r then e1 else { e1 with sflags := setBit e1.sflags 6 true }

/-- Adds a complex product to pair `p`: the even accumulator takes the real part. -/
def Eng.pairAdd (e : Eng) (p : Nat) (v : Int × Int) : Eng := (e.accAdd (2 * p) v.1).accAdd (2 * p + 1) v.2

/-- CMAC and CMACC: pair D[0]; D[4:1] and X are 0. -/
def cmacOf (f : Word → Word → Int × Int) (x w : Nat) (e : Eng) (s : State) : EStep :=
  if iX w ≠ 0 ∨ 1 < iD w then .exc xcILLEGAL 0
  else pureEng x s (e.pairAdd (iD w) (f (e.gr (iA w)) (e.gr (iB w))))

/-- CMAC2 and CMAC2C: D names Gc. -/
def cmac2Of (f : Word → Word → Int × Int) (x w : Nat) (e : Eng) (s : State) : EStep :=
  if iX w ≠ 0 then .exc xcILLEGAL 0
  else
    let c := e.gr (iD w)
    pureEng x s ((e.pairAdd 0 (f (e.gr (iA w)) c)).pairAdd 1 (f (e.gr (iB w)) c))

/-- MACR and MSUR: accumulator D[1:0]. -/
def macOf (sg : Int) (x w : Nat) (e : Eng) (s : State) : EStep :=
  if iX w ≠ 0 ∨ 3 < iD w then .exc xcILLEGAL 0
  else pureEng x s (e.accAdd (iD w) (sg * ((e.gr (iA w)).toInt * (e.gr (iB w)).toInt)))

/-- CMAC. -/
def engCmac (x : Nat) (w : Nat) (e : Eng) (s : State) : EStep :=
  cmacOf cprod x w e s

def execEngCmac (x : Fin 1024) (ecc : Fin 4) (s : State) := run (issue x.val 0x50 ecc.val (engCmac x.val)) s

/-- CMACC. -/
def engCmacc (x : Nat) (w : Nat) (e : Eng) (s : State) : EStep :=
  cmacOf cprodC x w e s

def execEngCmacc (x : Fin 1024) (ecc : Fin 4) (s : State) := run (issue x.val 0x51 ecc.val (engCmacc x.val)) s

/-- CMAC2. -/
def engCmac2 (x : Nat) (w : Nat) (e : Eng) (s : State) : EStep :=
  cmac2Of cprod x w e s

def execEngCmac2 (x : Fin 1024) (ecc : Fin 4) (s : State) := run (issue x.val 0x52 ecc.val (engCmac2 x.val)) s

/-- CMAC2C. -/
def engCmac2c (x : Nat) (w : Nat) (e : Eng) (s : State) : EStep :=
  cmac2Of cprodC x w e s

def execEngCmac2c (x : Fin 1024) (ecc : Fin 4) (s : State) := run (issue x.val 0x53 ecc.val (engCmac2c x.val)) s

/-- MACR. -/
def engMacr (x : Nat) (w : Nat) (e : Eng) (s : State) : EStep :=
  macOf 1 x w e s

def execEngMacr (x : Fin 1024) (ecc : Fin 4) (s : State) := run (issue x.val 0x54 ecc.val (engMacr x.val)) s

/-- MSUR. -/
def engMsur (x : Nat) (w : Nat) (e : Eng) (s : State) : EStep :=
  macOf (-1) x w e s

def execEngMsur (x : Fin 1024) (ecc : Fin 4) (s : State) := run (issue x.val 0x55 ecc.val (engMsur x.val)) s

/-- ACLR: D[3:0] is the mask. -/
def engAclr (x : Nat) (w : Nat) (e : Eng) (s : State) : EStep :=
  if iX w ≠ 0 ∨ iA w ≠ 0 ∨ iB w ≠ 0 ∨ 15 < iD w then .exc xcILLEGAL 0
  else pureEng x s { e with ac := Smap.clear e.ac fun n => (iD w).testBit n }

def execEngAclr (x : Fin 1024) (ecc : Fin 4) (s : State) := run (issue x.val 0x56 ecc.val (engAclr x.val)) s

/-- ACRD: shifted, rounded with halves towards plus infinity, saturated; SH is X[5:0]. -/
def engAcrd (x : Nat) (w : Nat) (e : Eng) (s : State) : EStep :=
  if 63 < iX w ∨ 3 < iA w ∨ iB w ≠ 0 then .exc xcILLEGAL 0
  else pureEng x s (e.setGr (iD w) (sat32 (roundShift (e.acc (iA w)).toInt (iX w))))

def execEngAcrd (x : Fin 1024) (ecc : Fin 4) (s : State) := run (issue x.val 0x57 ecc.val (engAcrd x.val)) s

/-- ACGET: bits [SH+31:SH], without rounding; SH is at most 48. -/
def engAcget (x : Nat) (w : Nat) (e : Eng) (s : State) : EStep :=
  if 48 < iX w ∨ 3 < iA w ∨ iB w ≠ 0 then .exc xcILLEGAL 0
  else pureEng x s (e.setGr (iD w) (w32 ((e.acc (iA w)).toNat >>> iX w)))

def execEngAcget (x : Fin 1024) (ecc : Fin 4) (s : State) := run (issue x.val 0x58 ecc.val (engAcget x.val)) s

/-- ACWR: Ga sign-extended and shifted left by SH, at most 48. -/
def engAcwr (x : Nat) (w : Nat) (e : Eng) (s : State) : EStep :=
  if 48 < iX w ∨ 3 < iD w ∨ iB w ≠ 0 then .exc xcILLEGAL 0
  else pureEng x s (e.setAcc (iD w) (BitVec.ofInt 80 ((e.gr (iA w)).toInt * 2 ^ iX w)))

def execEngAcwr (x : Fin 1024) (ecc : Fin 4) (s : State) := run (issue x.val 0x59 ecc.val (engAcwr x.val)) s

/-! ## The oscillator (R238, R239) -/

/-- One part of the oscillator's output: the exact Q15 value of the phase's top 20 bits, off by at most 1 LSB; +1 gives
32,767. -/
def ncoPart (exact : Int) (err : Nat) : Int :=
  if 32767 < exact then 32767 else clampS 16 (exact + ((err % 3 : Nat) : Int) - 1)

/-- exp(-j 2 pi phase) for `sg` -1 and its conjugate for `sg` 1. -/
def ncoOut (sg : Int) (ph : Nat) : Word :=
  let t := ph / 2 ^ 28
  let c := ncoPart (cosFix 15 (t * 2 ^ 28)) (Config.ncoCosErr t)
  let q := ncoPart (sinFix 15 (t * 2 ^ 28)) (Config.ncoSinErr t)
  packHalves (ofInt 16 c) (sat16 (sg * q))

/-- NCOSYNC: h = 2 x (Ga[26:0], Gb) + Gd, with Gd signed. -/
def engNcosync (x : Nat) (w : Nat) (e : Eng) (s : State) : EStep :=
  if iX w ≠ 0 then .exc xcILLEGAL 0
  else
    let h : Int := 2 * (((e.gr (iA w)).toNat % 2 ^ 27 * 2 ^ 32 + (e.gr (iB w)).toNat : Nat) : Int) + (e.gr (iD w)).toInt
    pureEng x s { e with ph := ofInt 48 (h * (e.inc : Int)) }

def execEngNcosync (x : Fin 1024) (ecc : Fin 4) (s : State) := run (issue x.val 0x60 ecc.val (engNcosync x.val)) s

/-- NCOADV: Ga unsigned. -/
def engNcoadv (x : Nat) (w : Nat) (e : Eng) (s : State) : EStep :=
  if iX w ≠ 0 ∨ iD w ≠ 0 ∨ iB w ≠ 0 then .exc xcILLEGAL 0
  else pureEng x s { e with ph := (e.ph + (e.gr (iA w)).toNat * e.inc) % 2 ^ 48 }

def execEngNcoadv (x : Fin 1024) (ecc : Fin 4) (s : State) := run (issue x.val 0x61 ecc.val (engNcoadv x.val)) s

/-- NCOQ. -/
def engNcoq (x : Nat) (w : Nat) (e : Eng) (s : State) : EStep :=
  if iX w ≠ 0 ∨ iA w ≠ 0 ∨ iB w ≠ 0 then .exc xcILLEGAL 0
  else pureEng x s (e.setGr (iD w) (ncoOut (-1) e.ph))

def execEngNcoq (x : Fin 1024) (ecc : Fin 4) (s : State) := run (issue x.val 0x62 ecc.val (engNcoq x.val)) s

/-- NCOQP. -/
def engNcoqp (x : Nat) (w : Nat) (e : Eng) (s : State) : EStep :=
  if iX w ≠ 0 ∨ iA w ≠ 0 ∨ iB w ≠ 0 then .exc xcILLEGAL 0
  else pureEng x s (e.setGr (iD w) (ncoOut 1 e.ph))

def execEngNcoqp (x : Fin 1024) (ecc : Fin 4) (s : State) := run (issue x.val 0x63 ecc.val (engNcoqp x.val)) s

end Sys2Proof.Machine
end

