-- ==== Sys2Proof/Machine/EngCtl.lean ====
section
/-! DEFINITION. Stream ports, special registers, synchronisation, watchdogs and DMA of the engines: the meanings of the rows
POP to BRK, ENGINE_STALL_RELEASE, ENGINE_WATCHDOG, DMA_DESCRIPTOR_START, DMA_DESCRIPTOR_COMPLETE and
STREAM_FRAME_DELIVERY (R228, R235, R242 to R251, R255, R290, R291). -/
namespace Sys2Proof.Machine

/-! ## Input ports (R229, R244, R245) -/

/-- The items of a frame, the first one marked. -/
def frameItems : List Word → List (Bool × Word)
  | [] => []
  | w :: ws => (true, w) :: ws.map fun v => (false, v)

/-- Whether a whole frame fits the queue of 1,024 items. -/
def fits (e : Eng) (i : Nat) (f : List Word) : Bool := decide ((e.queue i).length + f.length ≤ 1024)

/-- The engine sleeps in WAIT, though it may be halted or on its way to another plot. -/
def Eng.waits (e : Eng) : Bool := e.stall == 3 || (e.stall == 7 && e.saved == 3)

/-- A frame enters the queue; an engine in WAIT wakes. -/
def enqueue (i : Nat) (f : List Word) (e : Eng) : Eng :=
  { e.setQueue i (e.queue i ++ frameItems f) with wake := e.wake || e.waits }

/-- A held frame enters once it fits. -/
def admitHeld (i : Nat) (e : Eng) : Eng :=
  match (e.dec i).held with
  | none => e
  | some f => if fits e i f then (enqueue i f e).setDec i { e.dec i with held := none } else e

/-- A frame delivered to subscription entry `i` of parcel `q` is counted. -/
def countGot (q i : Nat) (s : State) : State :=
  { s with fab := { s.fab with
    got := Smap.set (fun _ => 0) s.fab.got (32 * q + i) (Smap.get (fun _ => 0) s.fab.got (32 * q + i) + 1) } }

/-- Takes the next item: FIRST follows it. -/
def takeItem (i : Nat) (b : Bool) (v : Word) (rest : List (Bool × Word)) (d : Nat) (e : Eng) : Eng :=
  admitHeld i (((e.setQueue i rest).flag (3 * i) b).setGr d v)

/-- Engine `x` has taken an item of port `i` and is `e` now; a held frame that has entered by that is counted. -/
def afterTake (x i : Nat) (e : Eng) (s : State) : State :=
  let was := ((s.engine x).dec i).held.isSome
  let s1 := s.setEngine x e
  if was && (e.dec i).held.isNone then countGot (s.plotParcel (x / 32)) ((e.bound i).getD 0) s1 else s1

/-- The port instructions' fields: X and B are 0 and A names IN0 or IN1; an unbound port raises STREAM. -/
def withPort (w : Nat) (e : Eng) (k : Nat → EStep) : EStep :=
  if iX w ≠ 0 ∨ iB w ≠ 0 ∨ 1 < iA w then .exc xcILLEGAL 0
  else if (e.bound (iA w)).isNone then .exc xcSTREAM 0
  else k (iA w)

/-- An instruction whose fields D, A, B and X are all 0. -/
def bare (w : Nat) (k : EStep) : EStep :=
  if iX w ≠ 0 ∨ iA w ≠ 0 ∨ iB w ≠ 0 ∨ iD w ≠ 0 then .exc xcILLEGAL 0 else k

/-- POP: stalls while the port is empty. -/
def engPop (x : Nat) (w : Nat) (e : Eng) (s : State) : EStep :=
  withPort w e fun i => match e.queue i with
    | [] => .stall s 1
    | (b, v) :: r => .done (afterTake x i (takeItem i b v r (iD w) e) s)

def execEngPop (x : Fin 1024) (ecc : Fin 4) (s : State) := run (issue x.val 0x68 ecc.val (engPop x.val)) s

/-- POPN: an empty port sets EMPTY and leaves Gd. -/
def engPopn (x : Nat) (w : Nat) (e : Eng) (s : State) : EStep :=
  withPort w e fun i => match e.queue i with
    | [] => pureEng x s (e.flag (3 * i + 2) true)
    | (b, v) :: r => .done (afterTake x i ((takeItem i b v r (iD w) e).flag (3 * i + 2) false) s)

def execEngPopn (x : Fin 1024) (ecc : Fin 4) (s : State) := run (issue x.val 0x69 ecc.val (engPopn x.val)) s

/-- AVAIL. -/
def engAvail (x : Nat) (w : Nat) (e : Eng) (s : State) : EStep :=
  withPort w e fun i => pureEng x s (e.setGr (iD w) (w32 (e.queue i).length))

def execEngAvail (x : Fin 1024) (ecc : Fin 4) (s : State) := run (issue x.val 0x6A ecc.val (engAvail x.val)) s

/-! ## The output port (R246) -/

/-- PUSH and PUSHE: an unbound OUT and the 513th item raise STREAM; a port that holds 64 items stalls, until the fabric has
accepted them. [DESIGN CHOICE, log 177] -/
def pushOf (close : Bool) (x w : Nat) (e : Eng) (s : State) : EStep :=
  if iX w ≠ 0 ∨ iB w ≠ 0 ∨ iD w ≠ 0 then .exc xcILLEGAL 0
  else match e.bout with
    | none => .exc xcSTREAM 0
    | some i =>
      if 512 ≤ e.out.length then .exc xcSTREAM 0
      else if 64 ≤ e.fill then .stall s 2
      else
        let items := e.out ++ [e.gr (iA w)]
        if close then
          let s1 := s.setEngine x { e with out := [], isOpen := false, fill := e.fill + 1 }
          .done (if e.mute then s1 else publish (x / 32) (s.plotParcel (x / 32)) i items s1)
        else pureEng x s { e with out := items, isOpen := true, fill := e.fill + 1 }

/-- PUSH. -/
def engPush (x : Nat) (w : Nat) (e : Eng) (s : State) : EStep :=
  pushOf false x w e s

def execEngPush (x : Fin 1024) (ecc : Fin 4) (s : State) := run (issue x.val 0x6B ecc.val (engPush x.val)) s

/-- PUSHE. -/
def engPushe (x : Nat) (w : Nat) (e : Eng) (s : State) : EStep :=
  pushOf true x w e s

def execEngPushe (x : Fin 1024) (ecc : Fin 4) (s : State) := run (issue x.val 0x6C ecc.val (engPushe x.val)) s

/-! ## Special registers (R228) -/

/-- The 64-bit values behind the LO and HI pairs. The cycle count begins at the start, counts every instruction issued, and
grows by a free number of cycles that stalls and waits have taken; the epoch's error is a free value too.
[DESIGN CHOICE, log 69] -/
def pairValue (n x : Nat) (e : Eng) (s : State) : Nat × State :=
  if n = 3 then
    let r := s.free
    let c := (e.cyc + r.1) % 2 ^ 64
    (c, r.2.setEngine x { e with cyc := c })
  else if n = 5 then
    let r := s.free
    (b2n (s.fb R.DTM_STAT_COH) * 2 ^ 63 + (s.epoch + r.1 % 3 - 1), r.2)
  else if n = 8 then (e.inc, s)
  else (e.ph, s)

/-- The values of the other special registers. -/
def special (n x : Nat) (e : Eng) (s : State) : Nat :=
  let p := x / 32
  match n with
  | 0 => p * 65536 + s.plotSlot p * 256 + x % 32
  | 1 => s.plotParcel p
  | 2 => s.fg (R.ENG_PLSTAT_CLK p)
  | 7 => e.sflags
  | 12 => e.drop0
  | 13 => e.drop1
  | 14 => e.wdog
  | 15 => s.fg (R.CAD_PCAP_CAPSZ (s.plotParcel p)) * 256
  | 16 => e.kid
  | _ => e.lnk

/-- MFS: B is the register; a read of a LO register latches its HI partner. [DEDUCED, log 68] -/
def engMfs (x : Nat) (w : Nat) (e : Eng) (s : State) : EStep :=
  let n := iB w
  if iX w ≠ 0 ∨ iA w ≠ 0 ∨ 17 < n then .exc xcILLEGAL 0
  else if n = 3 ∨ n = 5 ∨ n = 8 ∨ n = 10 then
    let r := pairValue n x e s
    let e := r.2.engine x
    pureEng x r.2 ({ e with latch := Smap.set (fun _ => 2 ^ 32) e.latch (n + 1) (r.1 / 2 ^ 32) }.setGr (iD w) (w32 r.1))
  else if n = 4 ∨ n = 6 ∨ n = 9 ∨ n = 11 then
    let l := Smap.get (fun _ => 2 ^ 32) e.latch n
    if l < 2 ^ 32 then pureEng x s ({ e with latch := Smap.set (fun _ => 2 ^ 32) e.latch n (2 ^ 32) }.setGr (iD w) (w32 l))
    else
      let r := pairValue (n - 1) x e s
      pureEng x r.2 ((r.2.engine x).setGr (iD w) (w32 (r.1 / 2 ^ 32)))
  else pureEng x s (e.setGr (iD w) (w32 (special n x e s)))

def execEngMfs (x : Fin 1024) (ecc : Fin 4) (s : State) := run (issue x.val 0x70 ecc.val (engMfs x.val)) s

/-- MTS: D is the register; an RO register and a 1 above SFLAGS bit 11 raise ILLEGAL. -/
def engMts (x : Nat) (w : Nat) (e : Eng) (s : State) : EStep :=
  let n := iD w
  let v := (e.gr (iA w)).toNat
  let forget := fun (k : Nat) (e : Eng) => { e with latch := Smap.set (fun _ => 2 ^ 32) e.latch k (2 ^ 32) }
  if iX w ≠ 0 ∨ iB w ≠ 0 then .exc xcILLEGAL 0
  else match n with
    | 7 => if 4096 ≤ v then .exc xcILLEGAL 0 else pureEng x s { e with sflags := v }
    | 8 => pureEng x s { e with inc := withBits e.inc 0 32 v }
    | 9 => pureEng x s (forget 9 { e with inc := withBits e.inc 32 16 v })
    | 10 => pureEng x s { e with ph := withBits e.ph 0 32 v }
    | 11 => pureEng x s (forget 11 { e with ph := withBits e.ph 32 16 v })
    | 14 => pureEng x s { e with wdog := v, wdogAt := s.now }
    | 17 => pureEng x s { e with lnk := v % 1024 }
    | _ => .exc xcILLEGAL 0

def execEngMts (x : Fin 1024) (ecc : Fin 4) (s : State) := run (issue x.val 0x71 ecc.val (engMts x.val)) s

/-! ## DMA (R247 to R251) -/

/-- A word of a plot's shared memory, with the stores of engine `x` that are not yet visible to others. -/
def sharedWord (s : State) (x a : Nat) : Nat := engRead s x a 4

/-- Writes shared memory of plot `p`; stores that engines of the plot posted to these bytes before are overwritten. -/
def writeShared (p a : Nat) (b : List Byte) (s : State) : State :=
  let pl := s.plot p
  (engines p).foldl (fun t x =>
    let e := t.engine x
    if e.posted.any fun c => decide (a ≤ c.1 ∧ c.1 < a + b.length) then
      t.setEngine x { e with posted := e.posted.filter fun c => !decide (a ≤ c.1 ∧ c.1 < a + b.length) }
    else t) (s.setPlot p { pl with mem := memWrite pl.mem a b })

/-- Brings ENG_PLDMAp.QUEUED to the queue's length. -/
def dmaCount (p : Nat) (s : State) : State := s.fs (R.ENG_PLDMA_QUEUED p) (s.plot p).dma.length

/-- A descriptor of engine `x` at `a` completes: word 3, the counts, the wake-up and the exception. -/
def descDone (x a err units : Nat) (s : State) : State :=
  let p := x / 32
  let s1 := writeShared p (a + 12) (leBytes 4 (2 ^ 31 + err * 2 ^ 24 + units)) s
  let e := s1.engine x
  let s2 := s1.setEngine x { e with wake := e.wake || e.waits }
  if err = 0 then s2
  else
    let s3 := (s2.inc (R.ENG_PLDMA_ERR p)).fs (R.ENG_PLFLT_DMAE p) 1
    if err = 5 then s3 else dmaException x a s3

/-- The descriptor at the head of a plot's queue completes. -/
def headDone (p err units : Nat) (s : State) : State :=
  match (s.plot p).dma with
  | [] => s
  | d :: r => dmaCount p (descDone d.eng d.adr err units (s.setPlot p { s.plot p with dma := r }))

/-- DMAQ: a full queue answers 1; without capture memory the descriptor completes with ERR 0x02. -/
def engDmaq (x : Nat) (w : Nat) (e : Eng) (s : State) : EStep :=
  let a := (e.gr (iA w)).toNat
  let p := x / 32
  let pl := s.plot p
  if iX w ≠ 0 ∨ iB w ≠ 0 then .exc xcILLEGAL 0
  else if a % 16 ≠ 0 then .exc xcMISALIGN a
  else if !isShared a then .exc xcACCESS a
  else if !s.capFit then
    let s1 := writeShared p (a + 12) (leBytes 4 (2 ^ 31 + 2 * 2 ^ 24)) s
    let s2 := (s1.inc (R.ENG_PLDMA_ERR p)).fs (R.ENG_PLFLT_DMAE p) 1
    .done (s2.setEngine x { ((s2.engine x).setGr (iD w) 0) with dmaExc := some a })
  else if 16 ≤ pl.dma.length then pureEng x s (e.setGr (iD w) 1)
  else .done (dmaCount p ((s.setEngine x (e.setGr (iD w) 0)).setPlot p { pl with dma := pl.dma ++ [{ eng := x, adr := a }] }))

def execEngDmaq (x : Fin 1024) (ecc : Fin 4) (s : State) := run (issue x.val 0x72 ecc.val (engDmaq x.val)) s

/-! ## Waiting and stopping -/

/-- Descriptors of engine `x` are queued or running. -/
def hasDesc (s : State) (x : Nat) : Bool := (s.plot (x / 32)).dma.any fun d => d.eng == x

/-- WAIT. [DEDUCED, log 73] -/
def engWait (x : Nat) (w : Nat) (e : Eng) (s : State) : EStep :=
  bare w (.stall (s.setEngine x e) 3)

def execEngWait (x : Fin 1024) (ecc : Fin 4) (s : State) := run (issue x.val 0x73 ecc.val (engWait x.val)) s

/-- BAR. -/
def engBar (x : Nat) (w : Nat) (e : Eng) (s : State) : EStep :=
  bare w (.stall (s.setEngine x e) 4)

def execEngBar (x : Fin 1024) (ecc : Fin 4) (s : State) := run (issue x.val 0x74 ecc.val (engBar x.val)) s

/-- FENCE: waits for the engine's stores and descriptors. -/
def engFence (x : Nat) (w : Nat) (e : Eng) (s : State) : EStep :=
  bare w (if hasDesc s x then .stall s 5 else .done (drainPosted x (s.setEngine x e)))

def execEngFence (x : Fin 1024) (ecc : Fin 4) (s : State) := run (issue x.val 0x75 ecc.val (engFence x.val)) s

/-- WDR. -/
def engWdr (x : Nat) (w : Nat) (e : Eng) (s : State) : EStep :=
  bare w (pureEng x s { e with wdogAt := s.now })

def execEngWdr (x : Fin 1024) (ecc : Fin 4) (s : State) := run (issue x.val 0x76 ecc.val (engWdr x.val)) s

/-- HALT. -/
def engHalt (x : Nat) (w : Nat) (e : Eng) (s : State) : EStep :=
  bare w (.halt (s.setEngine x e))

def execEngHalt (x : Fin 1024) (ecc : Fin 4) (s : State) := run (issue x.val 0x77 ecc.val (engHalt x.val)) s

/-- BRK. -/
def engBrk (_x : Nat) (w : Nat) (_e : Eng) (_s : State) : EStep := bare w (.exc xcBREAK 0)

def execEngBrk (x : Fin 1024) (ecc : Fin 4) (s : State) := run (issue x.val 0x78 ecc.val (engBrk x.val)) s

/-- The fabric accepts what waits in the output port: always for class S and M; for class B not while an earlier frame of the
publication has still to enter a subscriber's queue (R290). [DESIGN CHOICE, log 177] -/
def portAccepts (s : State) (x : Nat) (e : Eng) : Bool :=
  let q := s.plotParcel (x / 32)
  let i := e.bout.getD 0
  entClass (s.pubW0 q i) != 2
  || !((s.fab.flight.any fun f => f.pub == pubKey q i)
    || ((List.range 8).any fun r => (List.range 32).any fun k =>
      entOn (s.subW0 r k) && entKind (s.subW0 r k) == 5 && pubParcel (s.subW0 r k) == q && pubIndex (s.subW0 r k) == i
      && ((portsOf s r k).any fun y => ((s.engine y.1).dec y.2).held.isSome)))

/-- A stalled engine resumes when what it awaits has arrived (R236). -/
def engineStallRelease (x : Nat) (s : State) : State :=
  let e := s.engine x
  let w := (Smap.get (fun _ => 0) e.imem e.pc).toNat
  if e.st ≠ esRUNNING then s
  else match e.stall with
    | 1 => if e.queue (iA w) = [] then s else s.setEngine x { e with stall := 0 }
    | 2 => if portAccepts s x e then s.setEngine x { e with stall := 0, fill := 0 } else s
    | 8 => s.setEngine x { e with stall := 0, buf := e.buf - 1 }
    | 3 => if e.wake then s.setEngine x (e.seq e.pc) else s
    | 4 => barrierCheck x s
    | 5 =>
      if hasDesc s x then s
      else
        let t := drainPosted x s
        t.setEngine x ((t.engine x).seq e.pc)
    | 6 => s.setEngine x ((e.flag 7 e.barx).seq e.pc)
    | _ => s

def execEngineStallRelease (x : Fin 1024) (s : State) := run (engineStallRelease x.val) s

/-- WDOG microseconds of datum time have passed without a restart (R255). -/
def engineWatchdog (x : Nat) (s : State) : State :=
  let e := s.engine x
  if e.st = esRUNNING ∧ wdogDue s e then takeAsync x xcWATCHDOG 0 s else s

def execEngineWatchdog (x : Fin 1024) (s : State) := run (engineWatchdog x.val) s

/-! ## DMA transfers (R248, R292, R306, R309) -/

/-- Where a capture offset lies in capture memory, for `len` bytes; none outside the areas of R248. -/
def capAddr (s : State) (q off len : Nat) (write : Bool) : Option Nat :=
  if off < 0x80000000 then
    if off + len ≤ s.fg (R.CAD_PCAP_CAPSZ q) * 2 ^ 20 then some (s.fg (R.CAD_PCAP_CAPBASE q) * 2 ^ 20 + off) else none
  else
    let k := (off - 0x80000000) / 0x08000000
    let r := (off - 0x80000000) % 0x08000000
    if write ∨ 15 < k ∨ s.fg (R.CAD_EASE_W0_KIND k) ≠ 2 ∨ s.fg (R.CAD_EASE_W0_GRANTEE k) ≠ q
      ∨ (s.reg (R.CAD_EASE_W2 k)).toNat < r + len then none
    else some (s.fg (R.CAD_PCAP_CAPBASE (s.fg (R.CAD_EASE_W0_GRANTOR k))) * 2 ^ 20 + (s.reg (R.CAD_EASE_W1 k)).toNat + r)

/-- A descriptor's fields: write to capture memory, length, shared address, capture address; none when the transfer does
not start. -/
def descFields (s : State) (d : Desc) : Option (Bool × Nat × Nat × Nat) :=
  let w0 := sharedWord s d.eng d.adr
  let sh := sharedWord s d.eng (d.adr + 4)
  let wr := w0.testBit 31
  let len := w0 % 2 ^ 19
  if bitsOf w0 19 12 ≠ 0 ∨ len = 0 ∨ len % 64 ≠ 0 ∨ 262144 < len ∨ sh % 64 ≠ 0 ∨ sh < 0x10000 ∨ 0x50000 < sh + len then none
  else
    let off := sharedWord s d.eng (d.adr + 8)
    if off % 64 ≠ 0 then none
    else (capAddr s (s.plotParcel (d.eng / 32)) off len wr).map fun a => (wr, len, sh, a)

/-- Capture memory serves transfers. -/
def capServes (s : State) : Bool := s.domOn domDRAM && s.domOn domDPHY && !s.fb R.CAP_STAT_SELFREF

/-- Plot `p` reaches the DRC gateway of its row (R275, R277); a descriptor waits while it does not.
[DESIGN CHOICE, log 178] -/
def drcReached (s : State) (p : Nat) : Bool := reaches s p (nodeDRC p)

/-- An uncorrectable error met by the DMA engine of plot `p` in shared memory is counted (R243). -/
def eccBad (p : Nat) (s : State) : State := (s.inc (R.ENG_PLECC_UNCOR p)).fs (R.ENG_PLFLT_ECCU p) 1

/-- The DRC serves the descriptor at the head of plot `p`'s queue; `ecc` is what the memory code finds in the descriptor's
words: 0 good, 1 corrected, 2 uncorrectable. [DEDUCED, log 72] -/
def dmaDescriptorStart (p ecc : Nat) (s : State) : State :=
  match (s.plot p).dma with
  | [] => s
  | d :: r =>
    if d.running ∨ !drcReached s p then s
    else if ecc = 2 then headDone p 3 0 (eccBad p s)
    else
      let s1 := if ecc = 1 then s.inc (R.ENG_PLECC_COR p) else s
      match descFields s1 d with
      | none => headDone p 1 0 s1
      | some _ =>
        if capServes s1 then s1.setPlot p { s1.plot p with dma := { d with running := true } :: r } else headDone p 4 0 s1

/-- Moves `len` bytes of a running descriptor. -/
def dmaMove (d : Desc) (wr : Bool) (len sh ca : Nat) (s : State) : State :=
  if wr then
    { s with cap := { s.cap with
      dram := memWrite s.cap.dram ca ((List.range len).map fun i => engByte s d.eng (sh + i)) } }
  else writeShared (d.eng / 32) sh (memBytes s.cap.dram ca len) s

/-- Descriptor `d` ends early with an error; a running one has moved some of its units, a free number.
[DESIGN CHOICE, log 71] -/
def cutDesc (err : Nat) (d : Desc) (s : State) : State :=
  match d.running, descFields s d with
  | true, some (wr, len, sh, ca) =>
    let (f, s1) := s.free
    let n := f % (len / 64 + 1)
    descDone d.eng d.adr err n (dmaMove d wr (64 * n) sh ca s1)
  | _, _ => descDone d.eng d.adr err 0 s

/-- Every descriptor of a plot completes with ERR 0x05. -/
def dmaAbort (p : Nat) (s : State) : State :=
  (s.plot p).dma.foldl (fun t d => cutDesc 5 d t) (dmaCount p (s.setPlot p { s.plot p with dma := [] }))

/-- Capture memory goes into reset or self-refresh: the running descriptors end with ERR 0x04 (R251). -/
def dmaCaptureGone (s : State) : State :=
  (List.range 32).foldl (fun t p =>
    match (t.plot p).dma with
    | [] => t
    | d :: r => if d.running then dmaCount p (cutDesc 4 d (t.setPlot p { t.plot p with dma := r })) else t) s

/-- The running descriptor of plot `p` completes; `bad` is the 64-byte unit with an uncorrectable error, if one has, and
`cor` the words of shared memory corrected on the way. -/
def dmaDescriptorComplete (p : Nat) (bad : Option Nat) (cor : Nat) (s : State) : State :=
  match (s.plot p).dma with
  | [] => s
  | d :: _ =>
    if !d.running then s
    else match descFields s d with
      | none => headDone p 1 0 s
      | some (wr, len, sh, ca) =>
        if !capServes s then headDone p 4 0 s
        else
          let s0 := if wr then s.fadd (R.ENG_PLECC_COR p) cor else s
          match bad with
          | some u =>
            let n := min u (len / 64)
            headDone p 3 n (dmaMove d wr (64 * n) sh ca (if wr then eccBad p s0 else s0))
          | none => headDone p 0 (len / 64) (dmaMove d wr len sh ca s0)

/-! ## Delivery (R245, R284, R290, R291) -/

/-- Brings FAB_PDECq.QMAX to the highest decimation level among the parcel's bindings. -/
def qmaxRefresh (q : Nat) (s : State) : State :=
  s.fs (R.FAB_PDEC_QMAX q) (s.arr.engs.foldl (fun m x =>
    if s.plotParcel (x.1 / 32) = q then max m (max x.2.dec0.q x.2.dec1.q) else m) 0)

/-- A frame enters the queue of port `i`. -/
def placeFrame (x i : Nat) (f : List Word) (s : State) : State :=
  let e := s.engine x
  countGot (s.plotParcel (x / 32)) ((e.bound i).getD 0) (s.setEngine x (enqueue i f e))

def setDecOf (x i : Nat) (d : Dec) (s : State) : State := s.setEngine x ((s.engine x).setDec i d)

/-- An offered class M frame: placed, or held; the level falls after 4,096 frames placed in a row. -/
def offerM (x i : Nat) (f : List Word) (s : State) : State :=
  let e := s.engine x
  let d := e.dec i
  if fits e i f then
    let g := d.good + 1
    let d1 := if 4096 ≤ g ∧ d.q ≠ 0 then { d with q := d.q - 1, good := 0, cnt := 1 } else { d with good := g }
    qmaxRefresh (s.plotParcel (x / 32)) (setDecOf x i d1 (placeFrame x i f s))
  else setDecOf x i { d with held := some f, good := 0 } s

/-- A class M frame arrives at a binding (R291). -/
def arriveM (x i : Nat) (f : List Word) (s : State) : State :=
  let d := (s.engine x).dec i
  let p := x / 32
  if d.cnt % 2 ^ d.q ≠ 0 then setDecOf x i { d with cnt := d.cnt + 1 } (dropFrame x i s)
  else match d.held with
    | none => offerM x i f (setDecOf x i { d with cnt := d.cnt + 1 } s)
    | some _ =>
      let s1 := dropFrame x i s
      if d.q < 8 then
        let s2 := if d.q = 0 then s1.raise 0x67 p (p * 256 + x % 32) else s1
        qmaxRefresh (s.plotParcel p) (offerM x i f (setDecOf x i { d with q := d.q + 1, cnt := 1, good := 0, held := none } s2))
      else offerM x i f (setDecOf x i { d with cnt := d.cnt + 1, good := 0, held := none } s1)

/-- The oldest frame on its way to port `i` of engine `x` arrives; `lost` says that it lost flits on a failed link (R277).
An entry that is no longer bound or enabled, and an engine whose quarter-plot is off, receive nothing (R273); a class B frame
waits while another is held (R290). -/
def streamFrameDelivery (x i : Nat) (lost : Bool) (s : State) : State :=
  match s.fab.flight.find? fun f => f.eng == x && f.port == i with
  | none => s
  | some fl =>
    let e := s.engine x
    let p := x / 32
    let f := fl.items
    let s1 := { s with fab := { s.fab with flight := s.fab.flight.erase fl } }
    if e.bound i ≠ some fl.ent ∨ !entOn (s.subW0 (s.plotParcel p) fl.ent) ∨ !s.quarterOn x then s1
    else if fl.aborted ∨ lost then dropFrame x i s1
    else match fl.cls with
      | 0 =>
        if fits e i f then placeFrame x i f s1
        else
          let s2 := dropFrame x i s1
          let n := clampU 16 (s.fg R.FAB_SCLOSS_COUNT + 1)
          (s2.setReg R.FAB_SCLOSS (w32 (p * 2 ^ 21 + x % 32 * 2 ^ 16 + n))).raise 0x2A p (p * 256 + x % 32)
      | 1 => arriveM x i f s1
      | _ =>
        if (e.dec i).held.isSome then s
        else if fits e i f then placeFrame x i f s1
        else setDecOf x i { e.dec i with held := some f } s1

def execStreamFrameDelivery (x : Fin 1024) (i : Fin 2) (lost : Bool) (s : State) :=
  run (streamFrameDelivery x.val i.val lost) s

end Sys2Proof.Machine
end

