-- ==== Sys2Proof/Machine/LockIn.lean ====
section
/-! DEFINITION. The lock-in of the profile service: the words of a window at their centre times, the granules that are
excluded, and the phasors (R168 to R178). Voltages are in pV and currents in pA, and every sum is kept with 80 fraction
bits. [DESIGN CHOICE, log 48] -/
namespace Sys2Proof.Machine

/-- The product of two numbers with 80 fraction bits. -/
def mulQ (a b : Int) : Int := (a * b) >>> 80

/-- 1 with 80 fraction bits. -/
def oneQ : Int := 2 ^ 80

/-! ## Phasors -/

/-- |a|^2 and a conj(b). -/
def Phasor.norm (a : Phasor) : Nat := a.re.natAbs * a.re.natAbs + a.im.natAbs * a.im.natAbs
def Phasor.mulConj (a b : Phasor) : Phasor := ⟨a.re * b.re + a.im * b.im, a.im * b.re - a.re * b.im⟩
def Phasor.add (a b : Phasor) : Phasor := ⟨a.re + b.re, a.im + b.im⟩
def Phasor.neg (a : Phasor) : Phasor := ⟨-a.re, -a.im⟩

/-- A phasor times a number with 80 fraction bits. -/
def Phasor.scale (a : Phasor) (k : Int) : Phasor := ⟨mulQ a.re k, mulQ a.im k⟩
def Phasor.conj (a : Phasor) : Phasor := ⟨a.re, -a.im⟩

/-- The product of two phasors with 80 fraction bits. -/
def Phasor.mulQ (a b : Phasor) : Phasor := ⟨(a.re * b.re - a.im * b.im) >>> 80, (a.re * b.im + a.im * b.re) >>> 80⟩

/-! ## Boxcar and centre times (R174) -/

/-- f_i in units of 1e-32 Hz. -/
def freq (i : Nat) : Nat := decade.getD (i % 10) 0 * 10 ^ (i / 10)

/-- The boxcar response of a mean over `len` epochs taken every `k` epochs, as a fraction: sin(pi f len T) over
(len / k) sin(pi f k T); 1 for a single sample. -/
def boxcar (i len k : Nat) : Int × Int :=
  let f := fun (n : Nat) => sin80 (freq i * (25 * n) * 2 ^ 80 / 10 ^ 41)
  if len = k then (1, 1) else (k * f len, len * f k)

/-- A value divided by its boxcar response. -/
def unbox (h : Int × Int) (x : Int) : Int := x * h.2 / h.1

/-- Centre of `len` epochs of which the first is `e`, every `k`-th converted, in ns. -/
def centre (e len k : Nat) : Nat := 50 * e + 25 * (len - k)

/-! ## The words of a channel (R61, R72) -/

def frameStep (tag : Nat) : Nat := epochStep (tag / 2 ^ 60 % 4)
def frameEpoch (tag : Nat) : Nat := tag % 2 ^ 59
def frameCoh (tag : Nat) : Bool := tag.testBit 63

/-- The samples of a word of channel `n` at epoch step `k`. -/
def wordSamples (s : State) (n k : Nat) : Nat := if k = 1024 then 1 else 2 ^ s.fg (R.SMP_AVG_LOGN n)

/-- The first epoch of a word's window, and its length. -/
def wordSpan (s : State) (n tag : Nat) : Nat × Nat :=
  let k := frameStep tag
  let len := wordSamples s n k * k
  (frameEpoch tag + k - len, len)

/-- A word's value in LSB of its channel as a fraction (R72). -/
def wordLsb (s : State) (n k w : Nat) : Int × Nat :=
  if k = 1024 then (if isAX n then asInt 16 w else ((w % 65536 : Nat) : Int), 1)
  else
    let ped := s.fb (R.SMP_AVG_PEDEN n)
    let g : Nat := 2 ^ s.fg (R.SMP_AVG_LOGN n)
    let y : Int := if isAX n || ped then asInt 16 w else ((w % 65536 : Nat) : Int)
    let p : Int := if !ped then 0 else if isAX n then s.fi (R.SMP_AVG_PED n) else (s.fg (R.SMP_AVG_PED n) : Int)
    (y * 2 ^ s.fg (R.SMP_AVG_SHIFT n) + p * g, g)

/-- The frames that carry channel `n` to the instance of parcel `q`. -/
def framesFor (s : State) (q n : Nat) : List SvcFrame :=
  s.svc.frames.filter fun f => q == 0 || (f.heard.any fun h => h.1 == q && h.2.testBit (n - 1))

/-- A slot carries a word unless it is STL with cause 0x0000 (R70). -/
def isWord (w : Nat) : Bool := !(w.testBit 17 && w % 65536 == 0)

/-- The word makes its granules unusable (R177); CHK counts for a cell word. -/
def wordBad (n w : Nat) : Bool :=
  isWord w && (w.testBit 17 || w.testBit 19 || w.testBit 18 || (!isAX n && w.testBit 16))

/-- The epochs of the bad words of channel `n`, first and end. -/
def badWords (s : State) (q n : Nat) : List (Nat × Nat) :=
  (framesFor s q n).filterMap fun f =>
    let w := f.words.getD (n - 1) 0
    if wordBad n w then let x := wordSpan s n f.tag; some (x.1, x.1 + x.2) else none

/-- The good words of channel `n` for point `i`: centre time and value in LSB with 80 fraction bits, divided by the response
of the word's averaging. -/
def goodWords (s : State) (q n i : Nat) : List (Nat × Int) :=
  (framesFor s q n).filterMap fun f =>
    let w := f.words.getD (n - 1) 0
    let k := frameStep f.tag
    let x := wordSpan s n f.tag
    let v := wordLsb s n k w
    if isWord w && !wordBad n w then some (centre x.1 x.2 k, unbox (boxcar i x.2 k) (v.1 * oneQ / v.2)) else none

/-! ## Reference blocks (R84, R86) -/

/-- The blocks of a station's stream that the instance has by datum ns `limit`. -/
def refsFor (s : State) (q stn limit : Nat) : List SvcRef :=
  s.svc.refs.filter fun r => r.stn == stn && decide (r.arr ≤ limit) && hears q r.heard

def refBad (w : Nat) : Bool := w.testBit 29 || w.testBit 31 || w.testBit 30

/-- The epoch step that this station's own tags show in the epochs of a block; 1 where it has none. [DEDUCED, log 53] -/
def stepIn (s : State) (e len : Nat) : Nat :=
  match s.svc.frames.find? fun f => decide (e ≤ frameEpoch f.tag ∧ frameEpoch f.tag < e + len) with
  | some f => frameStep f.tag
  | none => 1

/-- The good blocks for point `i`: centre time and value in codes with 80 fraction bits. -/
def goodRefs (s : State) (q stn limit i : Nat) : List (Nat × Int) :=
  ((refsFor s q stn limit).filter fun r => !refBad r.word).map fun r =>
    (centre (r.blk * r.d) r.d 1, unbox (boxcar i r.d (stepIn s (r.blk * r.d) r.d)) (asInt 24 (r.word % 2 ^ 24) * oneQ / 256))

/-! ## Spans of epochs -/

/-- Inserts a span by its first epoch. -/
def spanInsert (x : Nat × Nat) : List (Nat × Nat) → List (Nat × Nat)
  | [] => [x]
  | y :: ys => if x.1 ≤ y.1 then x :: y :: ys else y :: spanInsert x ys

/-- The parts of [a, b) that spans cover, in rising order without overlap. -/
def covered (a b : Nat) (l : List (Nat × Nat)) : List (Nat × Nat) :=
  ((l.foldr spanInsert []).foldl (fun (x : Nat × List (Nat × Nat)) y =>
    let lo := max x.1 y.1
    let hi := min b y.2
    if lo < hi then (hi, x.2 ++ [(lo, hi)]) else x) (a, [])).2

/-- The parts of [a, b) that spans leave free. -/
def uncovered (a b : Nat) (l : List (Nat × Nat)) : List (Nat × Nat) :=
  let c := (covered a b l).foldl (fun (x : Nat × List (Nat × Nat)) y =>
    (y.2, if x.1 < y.1 then x.2 ++ [(x.1, y.1)] else x.2)) (a, [])
  if c.1 < b then c.2 ++ [(c.1, b)] else c.2

/-- A span widened to whole granules of 1,024 epochs (R177). -/
def toGranules (x : Nat × Nat) : Nat × Nat := (x.1 / 1024 * 1024, (x.2 + 1023) / 1024 * 1024)

/-! ## Excitation (R170, R171) -/

/-- The runs in which cell `n` is or was excited: the run, the first bias, the span; a run that goes on lasts to `b`. -/
def runsOf (s : State) (n b : Nat) : List (SvcRun × Nat × Nat × Nat) :=
  s.svc.runs.flatMap fun r => (r.cells.filter fun c => c.1 == n).map fun c =>
    (r, c.2.1, r.start, match c.2.2 with | some e => e | none => max r.start b)

/-- The status message of cell `n`'s block at `blk` with live feedback, if it has arrived. -/
def liveStat (s : State) (q n blk limit : Nat) : Option SvcStat :=
  s.svc.stats.find? fun x => x.cell == n && x.blk == blk && x.ion != 0 && decide (x.arr ≤ limit) && hears q x.heard

/-- The excited blocks of cell `n` that meet [a, b) and have no message with live feedback (R177, R181). -/
def deadBlocks (s : State) (q n a b limit : Nat) : List (Nat × Nat) :=
  (runsOf s n b).flatMap fun x =>
    let lo := max x.2.2.1 a
    let hi := min x.2.2.2 b
    if lo < hi then
      let k0 := (lo - x.2.2.1) / 5120
      ((List.range ((hi - x.2.2.1 + 5119) / 5120 - k0)).map fun k => x.2.2.1 + 5120 * (k0 + k)).filterMap fun blk =>
        if (liveStat s q n blk limit).isNone then some (blk, blk + 5120) else none
    else []

/-- B of cell `n` in a carrier period that starts at epoch `e`, in 1/256: the first bias of the run as the bias messages
change it (R156, R170). -/
def biasAt (s : State) (r : SvcRun) (b0 n e : Nat) : Nat :=
  match (s.svc.bias.filter fun x => x.1 == n && decide (r.start ≤ x.2.1 ∧ x.2.1 ≤ e)).getLast? with
  | some x => if x.2.2 then r.set.balbias else r.set.bias
  | none => b0

/-- d(c) as a fraction: clamp(B + M x(c), 0, 1) (R151). -/
def dutyFrac (r : SvcRun) (bias m c : Nat) : Int × Int :=
  let x := pattern r.set c (prbsAt r.set (r.start / r.set.k) c)
  let den : Int := 1024 * x.2
  (max 0 (min den (4 * (bias : Int) * x.2 + m * x.1)), if x.2 = 0 then 1 else den)

/-- I_on of a status message in pA, corrected with the cell's bleed-sense trim (R170). -/
def ionTrimmed (s : State) (n ion : Nat) : Int := ion * 10 * (1000000 + Smap.get (fun _ => (0 : Int)) s.nv.bleedTrim n)

/-- The bleed current of carrier period `c` of a run, in pA with 80 fraction bits; none where the block has no message. -/
def bleedTerm (s : State) (q n limit : Nat) (r : SvcRun) (b0 c : Nat) : Option Int :=
  let e := c * r.set.k
  (liveStat s q n (r.start + (e - r.start) / 5120 * 5120) limit).map fun x =>
    let d := dutyFrac r (biasAt s r b0 n e) x.m c
    ionTrimmed s n x.ion * d.1 * oneQ / d.2

/-- The carrier periods of cell `n`'s excitation in [a, b): first epoch, length, bleed current. -/
def bleedPeriods (s : State) (q n a b limit : Nat) : List (Nat × Nat × Int) :=
  (runsOf s n b).flatMap fun x =>
    let k := x.1.set.k
    let lo := max x.2.2.1 a / k
    let hi := (min x.2.2.2 b + k - 1) / k
    (List.range (hi - lo)).filterMap fun j =>
      (bleedTerm s q n limit x.1 x.2.1 (lo + j)).map fun v => (k * (lo + j), k, v)

/-- The bleed stream for point `i`: centre times and values. -/
def bleedWords (s : State) (q n i a b limit : Nat) : List (Nat × Int) :=
  (bleedPeriods s q n a b limit).map fun p => (centre p.1 p.2.1 1, unbox (boxcar i p.2.1 1) p.2.2)

/-! ## The lock-in (R175) -/

/-- The sums of the lock-in. -/
structure Sums where
  s0 : Int := 0
  s1 : Int := 0
  s2 : Int := 0
  sx : Int := 0
  sxu : Int := 0
  sq : Phasor := {}
  squ : Phasor := {}
  sxq : Phasor := {}
  deriving DecidableEq, Repr

/-- The phase reference exp(-j 2 pi f_i t), its phase carried as a 48-bit fraction of a turn. -/
def refPhase (i t : Nat) : Phasor :=
  let p := freq i * t * 2 ^ 48 / 10 ^ 41
  ⟨sin48 (p + 2 ^ 46), -sin48 p⟩

/-- One word enters the sums; `t0` and `w` give the window in ns. -/
def Sums.take (i t0 w : Nat) (f : Sums) (x : Nat × Int) : Sums :=
  let p : Nat := (x.1 - t0) * 2 ^ 80 / w
  let u : Int := (p : Int) - 2 ^ 79
  let h := (oneQ - cos80 p) / 2
  let q := (refPhase i x.1).scale h
  let hx := mulQ h x.2
  { s0 := f.s0 + h, s1 := f.s1 + mulQ h u, s2 := f.s2 + mulQ (mulQ h u) u
    sx := f.sx + hx, sxu := f.sxu + mulQ hx u
    sq := f.sq.add q, squ := f.squ.add (q.scale u), sxq := f.sxq.add ((refPhase i x.1).scale hx) }

/-- The straight-line fit of a complex sum pair. -/
def fitLine (f : Sums) (det : Int) (x xu : Phasor) : Phasor × Phasor :=
  let g := fun (a b : Int) => ((f.s2 * a - f.s1 * b) * oneQ / det, (f.s0 * b - f.s1 * a) * oneQ / det)
  let r := g x.re xu.re
  let m := g x.im xu.im
  (⟨r.1, m.1⟩, ⟨r.2, m.2⟩)

/-- The phasor of a stream; none where its words do not determine one. [DESIGN CHOICE, log 171] -/
def lockIn (i t0 w : Nat) (l : List (Nat × Int)) : Option Phasor :=
  let f := (l.filter fun x => decide (t0 ≤ x.1 ∧ x.1 < t0 + w)).foldl (Sums.take i t0 w) {}
  let det := f.s0 * f.s2 - f.s1 * f.s1
  if det = 0 then none
  else
    let ab := fitLine f det ⟨f.sx, 0⟩ ⟨f.sxu, 0⟩
    let cd := fitLine f det f.sq f.squ
    let x := (f.sxq.add (f.sq.scale ab.1.re).neg).add (f.squ.scale ab.2.re).neg
    let n := ((⟨f.s0, 0⟩ : Phasor).add (cd.1.mulQ f.sq.conj).neg).add (cd.2.mulQ f.squ.conj).neg
    if n.norm = 0 then none
    else
      let y := x.mulConj n
      some ⟨2 * y.re * oneQ / (n.norm : Int), 2 * y.im * oneQ / (n.norm : Int)⟩

/-! ## Excluded weight (R177, R178) -/

/-- The integral of the Hann window from its start to the fraction `p` (80 fraction bits): p / 2 - sin(2 pi p) / (4 pi). -/
def hannTo (p : Nat) : Int := (p : Int) / 2 - sin80 p * oneQ / (8 * halfPiQ)

/-- The Hann weight of spans of the window [a, b); the whole window weighs one half. -/
def hannWeight (a b : Nat) (l : List (Nat × Nat)) : Int :=
  let f := fun (e : Nat) => hannTo ((e - a) * 2 ^ 80 / (b - a))
  (covered a b l).foldl (fun x y => x + f y.2 - f y.1) 0

/-- The excluded granules take more than 25 % of the window's weight. -/
def tooMuch (a b : Nat) (l : List (Nat × Nat)) : Bool := decide (2 ^ 77 < hannWeight a b l)

end Sys2Proof.Machine
end

