-- ==== Sys2Proof/Machine/Profiles.lean ====
section
/-! DEFINITION. Impedance profiles: the meanings of the rows EXCITATION_STATUS_MESSAGE to PROFILE_DERIVED and
REGISTER_SET_LATCH (R165 to R200, R426). -/
namespace Sys2Proof.Machine

/-! ## Exact arithmetic -/

/-- The integer square root, rounded down. -/
def isqrt (n : Nat) : Nat :=
  (List.range 72).foldl (fun r i => if (r + 2 ^ (71 - i)) * (r + 2 ^ (71 - i)) ≤ n then r + 2 ^ (71 - i) else r) 0

/-- The square root of `x / y` rounded to the nearest whole number. [DEDUCED, log 51] -/
def sqrtNear (x y : Nat) : Nat := (isqrt (4 * x / y) + 1) / 2

/-- Inserts into a rising list. -/
def sortInsert (x : Int) : List Int → List Int
  | [] => [x]
  | y :: ys => if x ≤ y then x :: y :: ys else y :: sortInsert x ys

def sorted (l : List Int) : List Int := l.foldr sortInsert []

/-- Twice the median of a list: the median of an even count is the mean of the two middle values (R191). -/
def median2 (l : List Int) : Int :=
  let s := sorted l
  let k := s.length
  if k = 0 then 0 else if k % 2 = 1 then 2 * s.getD (k / 2) 0 else s.getD (k / 2 - 1) 0 + s.getD (k / 2) 0

/-- Whether the plots of parcel `q` hold a kernel with key identifier `kid`. -/
def holdsKernel (s : State) (q kid : Nat) : Bool :=
  s.arr.engs.any fun (x : Nat × Eng) => x.2.key != 0 && x.2.kid == kid && s.fg (R.ENG_PLSTAT_PARCEL (x.1 / 32)) == q

/-- The clock steps of a parcel's plots, as a measure of its engine capacity. -/
def capacityOf (s : State) (q : Nat) : Nat :=
  (List.range s.plotsFit).foldl (fun a p =>
    if s.fg (R.ENG_PLSTAT_PARCEL p) = q ∧ s.fg (R.ENG_PLSTAT_STATE p) ≠ 0 then a + 8 / 2 ^ s.fg (R.ENG_PLSTAT_CLK p)
    else a) 0

/-- The service of parcel `q` is running (R198). -/
def prfRun (s : State) (q : Nat) : Bool := s.pg q R.PRF_CTRL_EN == 1 && holdsKernel s q Config.profileKid

/-- Load of an instance at full refresh: profiled cells times enabled points up to index `top`. -/
def prfLoad (s : State) (q top : Nat) : Nat :=
  cells.countP (profiled s q) * (List.range (top + 1)).countP (pointOn s q)

/-- A load of the profile service over 8 (R167) or of the estimator over 10 (R204) is within the parcel's capacity; no load
always is. -/
def loadFits (s : State) (svc q load : Nat) : Bool := load == 0 || Config.serviceFits svc load (capacityOf s q)

/-- The exponent of the refresh divisor: the smallest of 1, 2, 4 and 8 that brings the load within the capacity, and 8 where
none does (R167). [DESIGN CHOICE, log 49] -/
def prfRdiv (s : State) (q : Nat) : Nat :=
  ((List.range 3).find? fun r => loadFits s 0 q (8 * prfLoad s q 70 / 2 ^ r)).getD 3

/-! ## The grid and the windows (R165, R166, R183) -/

/-- W_i in s (R166): the smallest of the set for which W_i f_i is at least 3. -/
def windowLen (i : Nat) : Nat :=
  (([1, 2, 5, 10, 20, 50, 100, 200, 300].find? fun w => decide (3 * 10 ^ 32 ≤ w * freq i))).getD 300

/-- The last epoch of the latest computed window of point `i` that has ended by datum second `t`, where every `div`-th window
is computed (R167, R189); none before the first. -/
def latestEnd (div i t : Nat) : Option Nat :=
  let w := windowLen i
  if t < w then none else some (20000000 * (((t / w - 1) / div * div + 1) * w) - 1)

/-- Output rate of channel `n`: epochs per word. -/
def wordEpochs (s : State) (n : Nat) : Nat := avgN s n * s.step

/-- Epochs per value of the string current in use; 1 where none is used, or before a block of the station has arrived
(R183). -/
def currentEpochs (s : State) (q : Nat) : Nat :=
  if sourceOf s q = 0 ∨ s.pg q R.PRF_CTRL_XMODE = 2 then 1
  else if s.pg q R.PRF_ISRC_SRC = 1 then wordEpochs s (49 + s.pg q R.PRF_ISRC_AXM)
  else ((s.svc.refs.filter fun r => r.stn == s.pg q R.PRF_ISRC_STN).getLast?.map fun r => r.d).getD 1

/-- Point `i` of cell `n` lies within a quarter of the output rates it uses (R183). -/
def rateOk (s : State) (q n i : Nat) : Bool :=
  let ok := fun (epochs : Nat) => decide (4 * freq i * epochs ≤ 20000000 * 10 ^ 32)
  ok (wordEpochs s n) && ok (currentEpochs s q)

/-- The highest index that the capacity leaves at the largest divisor: points are dropped from 70 downwards (R167). -/
def capTop (s : State) (q : Nat) : Nat :=
  if prfRdiv s q < 3 then 70
  else (((List.range 71).map fun k => 70 - k).find? fun i => loadFits s 0 q (prfLoad s q i)).getD 0

/-- PRF_STAT.IMAX (R167, R183). -/
def prfImax (s : State) (q : Nat) : Nat :=
  min (capTop s q)
    ((List.range 71).foldl (fun a i => if cells.any fun n => profiled s q n && rateOk s q n i then i else a) 0)

/-- PRF_STAT of an instance. -/
def prfStat (s : State) (q : Nat) : Nat :=
  let en := s.pg q R.PRF_CTRL_EN == 1
  let run_ := prfRun s q
  b2n run_ + 2 * b2n (sourceOf s q == 0)
  + 4 * b2n (s.fb R.EXC_STAT_RUN && s.excited.any (profiled s q)) + 8 * b2n (en && !run_)
  + (if run_ then prfRdiv s q * 16 + prfImax s q * 256 else 0)

/-- The degraded-operation steps in force, as PWR_DEG.STEP shows them (R537): compute, converter, lane, refresh. -/
def degSteps (s : State) : Nat :=
  b2n (s.fb R.THM_STEP_PLOT || s.fb R.THM_STAT_JTHR || s.fb R.THM_STEP_DRAM) + 2 * b2n (s.fb R.SMP_STAT_RATESRC)
  + 4 * b2n (s.fb R.TRV_STAT_DEG)
  + 8 * b2n ((prfRun s 0 && prfRdiv s 0 != 0) || decide (1 < s.fg R.EST_STAT_STEPDIV))

/-- OK, or DEGRADED while a step is in force (R538). -/
def goodStat (s : State) : Stat := if degSteps s = 0 then .ok else .degraded

/-! ## Messages of the stack die (R170, R179 to R181) -/

/-- The epoch that the low `k` bits of a message name: the latest one not after the present. -/
def epochOf (s : State) (k low : Nat) : Nat := s.epoch - (s.epoch + 2 ^ k - low) % 2 ^ k

/-- The instances that run. -/
def prfInstances (s : State) : List Nat := (List.range 8).filter fun q => prfRun s q

/-- A bleed-state or excitation bias message: the change, and a skipped sequence number (R180). -/
def switchMessage (w : Word) (s : State) : State :=
  let cell := w.toNat / 0x4000000
  let seq := w.toNat / 0x200000 % 16
  let e := epochOf s 21 (w.toNat % 0x200000)
  let skipped : Bool := match s.prf.seqNext with | some q => q != seq | none => false
  let s1 := { s with prf := { s.prf with
    seqNext := some ((seq + 1) % 16)
    changes := (s.prf.changes.filter fun c => recentOnly s c.2) ++ [(cell, e)]
    gaps := (s.prf.gaps.filter fun g => recentOnly s g) ++ (if skipped then [s.epoch] else []) } }
  if skipped then s1.each (prfInstances s1) fun q t => t.pinc q R.PRF_DISC_GAP else s1

/-- A bleed-state message also tells the estimator whether the switch is closed (R208), and goes to the BLEED subscriptions
with the tag of the change epoch (R283). -/
def bleedStateMessage (w : Word) (s : State) : State :=
  let e := epochOf s 21 (w.toNat % 0x200000)
  let s1 := switchMessage w s
  feedMessage 6 (epochTag s e) w.toNat ({ s1 with svc := { s1.svc with bleed := (s1.svc.bleed.filter fun (x : Nat × Nat × Bool) => recentOnly s x.2.1 || x.1 != w.toNat / 0x4000000)
      ++ [(w.toNat / 0x4000000, e, w.toNat.testBit 25)] } }.emit .stream [6, e, w.toNat])

/-- A bias message also changes B for the services (R156, R170). -/
def excitationBiasMessage (w : Word) (s : State) : State :=
  let s1 := switchMessage w s
  { s1 with svc := { s1.svc with bias := (s1.svc.bias.filter fun (x : Nat × Nat × Bool) => recentOnly s x.2.1)
      ++ [(w.toNat / 0x4000000, epochOf s 21 (w.toNat % 0x200000), w.toNat.testBit 25)] } }

def execBleedStateMessage (w : Word) (s : State) := run (bleedStateMessage w) s
def execExcitationBiasMessage (w : Word) (s : State) := run (excitationBiasMessage w) s

/-- An excitation status message, tagged with the start epoch of the block that has ended (R157), which the BLEED
subscriptions get with it (R283). -/
def excitationStatusMessage (w : Word) (s : State) : State :=
  let blk := (s.epoch / 5120 - 1) * 5120
  feedMessage 6 (epochTag s blk) w.toNat
    ((svcStat (w.toNat / 0x4000000) blk (w.toNat / 0x10000 % 1024) (w.toNat % 0x10000) s).emit .stream [2, blk, w.toNat])

def execExcitationStatusMessage (w : Word) (s : State) := run (excitationStatusMessage w) s

/-! ## Kinds and excited points (R171, R172) -/

/-- Whether the settings of a run excite point `i` (R171). -/
def pointExcited (x : ExcSet) (i : Nat) : Bool :=
  if x.shape = 1 then x.tones.any fun t => t.1 == i && t.2.1 != 0
  else
    let chip := (x.chipM1 + 1) * x.k * 50
    let tseq := (2 ^ x.order - 1) * chip
    let unit := 10 ^ 41
    -- f_i <= 1 / (3 chip); then T_seq >= W_i, or the nearest line n / T_seq lies within 1 / (2 W_i) of f_i
    let n := max 1 ((2 * freq i * tseq + unit) / (2 * unit))
    let dist := ((n * unit : Nat) - (freq i * tseq : Nat) : Int).natAbs
    decide (3 * chip * freq i ≤ unit)
      && (decide (windowLen i * 1000000000 ≤ tseq) || decide (2 * windowLen i * 1000000000 * dist ≤ tseq * unit))

/-- The kind of a window: 0 ambient, 1 active, 2 mixed; none when the point is not computed (R172).
[DESIGN CHOICE, log 54] -/
def kindOf (xmode : Nat) (exc src : Bool) : Option Nat :=
  match xmode, exc, src with
  | 0, true, true => some 2
  | 0, true, false => some 1
  | 0, false, true => some 0
  | 0, false, false => none
  | 1, _, true => some 0
  | 1, _, false => none
  | 2, true, _ => some 1
  | 2, false, _ => none
  | _, true, true => some 2
  | _, _, _ => none

/-! ## Records (R176, R185, R186) -/

/-- The cell current of a window of a kind: the string phasor less the bleed phasor, as far as the kind uses them (R168,
R172, R176). -/
def cellCurrent (kind : Nat) (str bld : Phasor) : Phasor :=
  (if kind = 1 then {} else str).add (if kind = 0 then {} else bld.neg)

/-- Coherence of a history (R185): 0 with fewer than 4 windows; none where numerator and denominator are both 0. -/
def coherence (h : List (Phasor × Phasor)) : Option Nat :=
  let cross : Phasor := h.foldl (fun (a : Phasor) p => a.add (p.1.mulConj p.2)) {}
  let den : Nat := (h.foldl (fun (a : Nat) p => a + p.1.norm) 0) * (h.foldl (fun (a : Nat) p => a + p.2.norm) 0)
  if h.length < 4 then some 0
  else if den = 0 then none
  else some ((2 * 65535 * cross.norm + den) / (2 * den))

/-- One component of Z in units of 10 nOhm, from a component of V conj(I) and |I|^2. -/
def zPart (num : Int) (n2 : Nat) : Int := clampS 32 (roundDiv (100000000 * num) n2)

/-- The excitation RMS in units of 10 uA, of a phasor in pA with 80 fraction bits. -/
def ermsOf (i : Phasor) : Nat := clampU 16 (sqrtNear i.norm (2 * 10 ^ 14 * 2 ^ 160))

/-- Writes a delivered window's record (R186, R188). `coh` is its coherence, `avail` whether one is available. -/
def writeRecord (q n i lastE kind : Nat) (part frz xst avail : Bool) (v c : Phasor) (coh : Nat) (s : State) : State :=
  let p := v.mulConj c
  let rms := ermsOf c
  let lowex := decide (rms < s.pg q R.PRF_THR_EXMIN)
  let lowc := decide (coh < s.pg q R.PRF_THR_COHMIN) || !avail
  let flags := 1 + 2 * b2n part + 4 * b2n lowex + 8 * b2n lowc + 16 * b2n frz + 32 * b2n xst + 64 * kind
  (((s.setPw q (R.PRF_REC_W0 n i) (w32 (ofInt 32 (zPart p.re c.norm)))).setPw q (R.PRF_REC_W1 n i)
    (w32 (ofInt 32 (zPart p.im c.norm)))).setPw q (R.PRF_REC_W2 n i) (w32 (rms * 65536 + coh))).setPw q
    (R.PRF_REC_W3 n i) (w32 (flags * 0x1000000 + lastE % 0x1000000))

/-! ## Derived values (R189 to R191) -/

/-- Re Z and Im Z of a record in 10 nOhm. -/
def recRe (s : State) (q n i : Nat) : Int := asInt 32 (s.pw q (R.PRF_REC_W0 n i)).toNat
def recIm (s : State) (q n i : Nat) : Int := asInt 32 (s.pw q (R.PRF_REC_W1 n i)).toNat

/-- The record of point `i` may be used at datum second `t`: VAL 1, LOWC and LOWEX 0, from the latest window (R189). -/
def recGood (s : State) (q n i t : Nat) : Bool :=
  let w := (s.pw q (R.PRF_REC_W3 n i)).toNat
  w / 0x1000000 % 2 == 1 && w / 0x4000000 % 4 == 0
  && (match latestEnd (2 ^ prfRdiv s q) i t with | some e => w % 0x1000000 == e % 0x1000000 | none => false)

/-- The zero crossing: index, and t as a fraction a / b. -/
def zeroCross (s : State) (q n t : Nat) : Option (Nat × Int × Int) :=
  ((List.range 70).map fun k => 69 - k).findSome? fun i =>
    let x := recIm s q n i
    let y := recIm s q n (i + 1)
    if recGood s q n i t && recGood s q n (i + 1) t && decide (x < 0 ∧ 0 ≤ y) then some (i, -x, y - x) else none

/-- HFR in 10 nOhm (R189). -/
def hfrOf (s : State) (q n i : Nat) (a b : Int) : Int :=
  let x := recRe s q n i
  let y := recRe s q n (i + 1)
  roundDiv (x * b + a * (y - x)) b

/-- Twice the median of Im Z / f over the usable points 61 to 70, in a fixed unit; none with fewer than 5 (R191). -/
def inductance2 (s : State) (q n t : Nat) : Option Int :=
  let l := (((List.range 10).map (· + 61)).filter fun i => recGood s q n i t).map fun i =>
    recIm s q n i * 10 ^ 60 / (freq i : Int)
  if l.length < 5 then none else some (median2 l)

/-- JL and JR of cell `n` (R191): none without the inputs; JL none where the neighbours' L is 0. -/
def joints (s : State) (q n t : Nat) (hfr : Int) : Option (Option Int × Int) :=
  let nb := ([n - 2, n - 1, n + 1, n + 2].filter fun m => decide (1 ≤ m ∧ m ≤ 48 ∧ m ≠ n) && profiled s q m).eraseDups
  let ok := nb.filterMap fun m => match inductance2 s q m t with
    | some l => if s.pg q (R.PRF_DER_W3_FLAGS m) % 2 = 1 then some (l, asInt 32 (s.pw q (R.PRF_DER_W1 m)).toNat) else none
    | none => none
  match inductance2 s q n t with
  | none => none
  | some l =>
    if ok.length < 2 then none
    else
      let lnb := median2 (ok.map fun p => p.1)
      let jr := roundDiv (2 * hfr - median2 (ok.map fun p => p.2)) 20
      some (if lnb = 0 then none else some (clampS 16 (roundDiv (1000 * (2 * l - lnb)) lnb)), clampS 16 jr)

/-- Recomputes the derived values of cell `n` at datum second `t`. -/
def derive (q n t : Nat) (s : State) : State :=
  let put := fun (f0 hfr tint jr jl flags : Nat) (s : State) =>
    let s1 := (((s.setPw q (R.PRF_DER_W0 n) (w32 f0)).setPw q (R.PRF_DER_W1 n) (w32 hfr)).setPw q (R.PRF_DER_W2 n)
      (w32 (tint * 65536 + jr))).setPw q (R.PRF_DER_W3 n) (w32 (jl * 65536 + flags))
    { s1 with prf := { s1.prf with derAt := Smap.set (fun _ => 0) s1.prf.derAt (100 * q + n) s1.now } }
  match zeroCross s q n t with
  | none => put 0 0 0 0 0 0 s
  | some (i, a, b) =>
    let f0 := clampU 32 (exp10Fix ((i + 10 : Nat) * b + a) (10 * b).toNat)
    let hfr := hfrOf s q n i a b
    let tv := s.pg q (R.PRF_TCALB_EN n) == 1
    let x := (i : Int) * b + a - 20 * b
    let y := 10 * b
    let c := fun (f : Fld) => asInt 16 (s.pg q f)
    let tint := clampS 16 (roundDiv (c (R.PRF_TCALA_A0 n) * y * y + c (R.PRF_TCALA_A1 n) * x * y
      + c (R.PRF_TCALB_A2 n) * x * x) (y * y))
    let t16 := if tv then ofInt 16 tint else 0
    match joints s q n t hfr with
    | none => put f0 (ofInt 32 hfr) t16 0 0 (1 + 2 * b2n tv) s
    | some (jl?, jr) =>
      let (fv, s1) := match jl? with | some _ => (0, s) | none => s.free
      let jl := match jl? with | some j => j | none => asInt 16 fv
      let jf := decide (s.pg q R.PRF_JTHR_JL < jl.natAbs) || decide (s.pg q R.PRF_JTHR_JR < jr.natAbs)
      put f0 (ofInt 32 hfr) t16 (ofInt 16 jr) (ofInt 16 jl) (1 + 2 * b2n tv + 4 + 8 * b2n jf) s1

/-! ## Completion (R178, R180, R184) -/

/-- Whether any of the listed (cell, epoch) marks of cell `n` lies in [a, b). -/
def marked (l : List (Nat × Nat)) (n a b : Nat) : Bool := l.any fun x => x.1 == n && decide (a ≤ x.2 ∧ x.2 < b)

/-- The excluded spans of a window, in whole granules: the rows of R177 that apply to the point. -/
def excludedSpans (s : State) (q n a b limit : Nat) : List (Nat × Nat) :=
  let mode := s.pg q R.PRF_CTRL_XMODE
  let stn := s.pg q R.PRF_ISRC_STN
  let used := sourceOf s q ≠ 0 ∧ mode ≠ 2
  let refs := refsFor s q stn limit
  let ax := if used ∧ s.pg q R.PRF_ISRC_SRC = 1 then badWords s q (49 + s.pg q R.PRF_ISRC_AXM) else []
  let ref := if used ∧ s.pg q R.PRF_ISRC_SRC = 2 then
      uncovered a b ((refs.filter fun r => !refBad r.word && (r.coh || sourceOf s q == 1)).map fun r =>
        (r.blk * r.d, (r.blk + 1) * r.d)) else []
  let tag := if used ∧ sourceOf s q = 2 then
      ((s.svc.frames.filter fun f => !frameCoh f.tag).map fun f => (frameEpoch f.tag, frameEpoch f.tag + 1)) else []
  let exc := (runsOf s n b).map fun x => (x.2.2.1, x.2.2.2)
  let byMode := if mode = 1 then exc else if mode = 2 then uncovered a b (exc.map toGranules) else []
  covered a b ((badWords s q n ++ ax ++ ref ++ tag ++ deadBlocks s q n a b limit ++ byMode).map toGranules)

/-- The words of a stream whose granule is usable. -/
def usableWords (excl : List (Nat × Nat)) (l : List (Nat × Int)) : List (Nat × Int) :=
  l.filter fun x => !(excl.any fun e => decide (e.1 ≤ x.1 / 50 ∧ x.1 / 50 < e.2))

/-- The string current's words in pA: sign, SCALE and the source of R169. -/
def stringWords (s : State) (q i limit : Nat) : List (Nat × Int) :=
  let k : Int := (if s.pg q R.PRF_ISRC_NEG = 1 then -1 else 1) * (s.pg q R.PRF_ISCALE_SCALE * 1000000 : Nat)
  let l := if sourceOf s q = 0 then [] else if s.pg q R.PRF_ISRC_SRC = 1 then goodWords s q (49 + s.pg q R.PRF_ISRC_AXM) i
    else goodRefs s q (s.pg q R.PRF_ISRC_STN) limit i
  l.map fun x => (x.1, k * x.2)

/-- The result of a window: it is not computed (NOEX), has too much excluded or nothing to divide by (EXCL), or gives
voltage and current phasors with its kind and flags. -/
inductive WinOut where
  | noex
  | excl
  | good (v c : Phasor) (kind : Nat) (part frz xst : Bool)
  deriving DecidableEq, Repr

/-- Window [a, b) of point `i` of cell `n`, from what has arrived by datum ns `limit` (R172 to R178, R181, R184). A stream
whose words determine no phasor adds none. [DESIGN CHOICE, log 171] -/
def windowOut (s : State) (q n i a b limit : Nat) : WinOut :=
  let t0 := 50 * a
  let w := 50 * (b - a)
  let exc := (runsOf s n b).any fun x => decide (x.2.2.1 < b ∧ a < x.2.2.2) && pointExcited x.1.set i
  match kindOf (s.pg q R.PRF_CTRL_XMODE) exc (sourceOf s q != 0) with
  | none => .noex
  | some kind =>
    let ex := excludedSpans s q n a b limit
    let fit := fun (l : List (Nat × Int)) => lockIn i t0 w (usableWords ex l)
    match fit ((goodWords s q n i).map fun x => (x.1, 100000000 * x.2)) with
    | none => .excl
    | some v =>
      let str := if kind = 1 then {} else (fit (stringWords s q i limit)).getD {}
      let bld := if kind = 0 then {} else (fit (bleedWords s q n i a b limit)).getD {}
      let c := cellCurrent kind str bld
      if c.norm = 0 ∨ tooMuch a b ex then .excl
      else .good v c kind (!ex.isEmpty) (!(deadBlocks s q n a b limit).isEmpty) (kind != 1 && sourceOf s q == 2)

/-- A delivered window: history, coherence and record (R185, R186). [DESIGN CHOICE, log 52] -/
def deliver (q n i lastE : Nat) (v c : Phasor) (kind : Nat) (part frz xst : Bool) (s : State) : State :=
  let h := ((v, c) :: Smap.get (fun _ => []) s.prf.hist (ptKey q n i)).take (s.pg q R.PRF_CTRL_NCOH)
  let s1 := { s with prf := { s.prf with hist := Smap.set (fun _ => []) s.prf.hist (ptKey q n i) h } }
  let (fv, s2) := match coherence h with | some _ => (0, s1) | none => s1.free
  let coh := match coherence h with | some x => x | none => fv % 65536
  writeRecord q n i lastE kind part frz xst (decide (4 ≤ h.length) && (coherence h).isSome) v c coh s2

/-- Window `j` of point `i` of cell `n` in parcel `q`'s instance is complete, LATE ms after its end: it is delivered or
counted, once, and the derived values follow (R166, R180, R184). -/
def profileWindowComplete (q n i j : Nat) (s : State) : State :=
  let w := windowLen i
  let t1 := (j + 1) * w
  let limit := 1000000000 * t1 + 1000000 * s.pg q R.PRF_CTRL_LATE
  let s0 := s.until limit
  let a := 20000000 * (j * w)
  let b := 20000000 * t1
  let on_ := prfRun s0 q && profiled s0 q n && pointOn s0 q i && decide (i ≤ prfImax s0 q) && rateOk s0 q n i
    && j % 2 ^ prfRdiv s0 q == 0 
    && (let x := Smap.get (fun _ => 0) s0.prf.next (ptKey q n i); decide (x ≤ j ∨ s0.now < 1000000000 * x * w))
  if !on_ then s0
  else
    let s1 := { s0 with prf := { s0.prf with next := Smap.set (fun _ => 0) s0.prf.next (ptKey q n i) (j + 1) } }
    let whole := decide (Smap.get (fun _ => 0) s1.prf.since (ptKey q n i) ≤ j * w)
    let s2 :=
      if !whole || s1.prf.gaps.any fun g => decide (a ≤ g ∧ g < b) then s1
      else if marked s1.prf.changes n a b then s1.pinc q R.PRF_DISC_SWCH
      else match windowOut s1 q n i a b limit with
        | .noex => s1.pinc q R.PRF_DISC_NOEX
        | .excl => s1.pinc q R.PRF_DISC_EXCL
        | .good v c kind part frz xst => deliver q n i (b - 1) v c kind part frz xst s1
    if 25 ≤ i then derive q n t1 s2 else s2

def execProfileWindowComplete (q : Fin 8) (c : Fin 48) (i : Fin 71) (j : Nat) (s : State) :=
  run (profileWindowComplete q.val (cellOf c) i.val j) s

/-! ## Configuration (R182, R194, R198) -/

/-- The first whole datum second at least 2 ms ahead. -/
def prfEffect (s : State) : Nat := (s.now + 2000000 + 999999999) / 1000000000

/-- The range checks of R198. -/
def prfBad (a : Nat) (v : Word) : Bool :=
  if a = R.PRF_CTRL then wf v R.PRF_CTRL_LATE == 0 || decide (wf v R.PRF_CTRL_NCOH < 4)
  else if a = R.PRF_ISRC then wf v R.PRF_ISRC_SRC == 3
  else if a = R.PRF_PTS2 then decide (0x7F < v.toNat)
  else false

/-- Registers that wait for their second (R182). -/
def prfWaits (a : Nat) : Bool :=
  a == R.PRF_CTRL || decide (R.PRF_CELL0 ≤ a ∧ a ≤ R.PRF_ISCALE)

/-- A write of a PRF register in P0's instance. CLR acts at once. -/
def prfWrite (a : Nat) (v : Word) (s : State) : Stat × State :=
  if prfBad a v then (.badParam, s)
  else if a = R.PRF_CTRL then
    let s1 := if wf v R.PRF_CTRL_CLR = 1 then s.setReg R.PRF_DISC 0 else s
    (.ok, { s1 with prf := { s1.prf with pend := s1.prf.pend ++ [(prfEffect s, 0, a, w32 (v.toNat % 2 ^ 31))] } })
  else if prfWaits a then
    (.ok, { s with prf := { s.prf with pend := s.prf.pend ++ [(prfEffect s, 0, a, v)] } })
  else (.ok, applyWrite a v s)

def execPrfDiscClear (v : Word) (s : State) :=
  run (direct R.PRF_CTRL (w32 (setBit v.toNat 31 true)) (prfWrite R.PRF_CTRL)) s

/-- Whether a change of register `a` affects point `i` of cell `n`. -/
def prfAffects (a : Nat) (d : Nat) (n i : Nat) : Bool :=
  if a = R.PRF_CELL0 then decide (n ≤ 32) && d.testBit (n - 1)
  else if a = R.PRF_CELL1 then decide (32 < n) && d.testBit (n - 33)
  else if a = R.PRF_PTS0 then decide (i < 32) && d.testBit i
  else if a = R.PRF_PTS1 then decide (32 ≤ i ∧ i < 64) && d.testBit (i - 32)
  else if a = R.PRF_PTS2 then decide (64 ≤ i) && d.testBit (i - 64)
  else a == R.PRF_CTRL || a == R.PRF_ISRC || a == R.PRF_ISCALE

/-- One waiting write takes effect at datum second `t`. -/
def prfApply (t : Nat) (w : Nat × Nat × Nat × Word) (s : State) : State :=
  let (_, q, a, v) := w
  let d := (s.pw q a).toNat ^^^ v.toNat
  let s1 := s.setPw q a v
  if d = 0 then s1
  else cells.foldl (fun x n => (List.range 71).foldl (fun y i =>
    if prfAffects a d n i then prfAbandon q n i t y else y) x) s1

/-- The datum second has come at which waiting configuration takes effect. -/
def profileConfigEffect (s : State) : State :=
  let t := s.now / 1000000000
  let go := s.prf.pend.filter fun w => decide (w.1 ≤ t)
  go.foldl (fun x w => prfApply w.1 w x)
    { s with prf := { s.prf with pend := s.prf.pend.filter fun w => !decide (w.1 ≤ t) } }

def execProfileConfigEffect (s : State) := run profileConfigEffect s

/-! ## Opcodes 0x40 to 0x42 (R194, R426) -/

/-- The bytes of a word. -/
def wordBytes (w : Word) : List Byte := leBytes 4 w.toNat

/-- A payload of the length it must have goes on; otherwise BAD_PARAM, LENGTH. -/
def withLen (n : Nat) (p : Packet) (k : State → State) (s : State) : State :=
  if p.payload.length = n then k s else reply p (.badParam rLENGTH) [] 0 s

/-- PROFILE_CFG: the whole configuration of the instance of the header's parcel. -/
def profileCfg (p : Packet) (s : State) : State :=
  withLen 44 p (fun s =>
    let w := fun k => w32 (u32 p.payload (4 * k))
    let addr := fun k => R.PRF_CTRL + 4 * k
    let bad := (List.range 11).any fun k => prfBad (addr k) (w k)
      || (match findReg (addr k) with | some r => (w k).toNat &&& r.resv != 0 | none => true)
    if bad ∨ w 1 ≠ 0 ∨ (w 0).toNat.testBit 31 then reply p .badParam [] 0 s
    else
      let t := prfEffect s
      let add := ([0, 2, 3, 4, 5, 6, 7, 8, 9, 10].map fun k => (t, p.parcel, addr k, w k))
      reply p .ok (leBytes 8 (1000000000 * t)) 0 { s with prf := { s.prf with pend := s.prf.pend ++ add } }) s

def execProfileCfg (p : Packet) (s : State) := run (request 0x40 p profileCfg) s

/-- The cells of a cell list with count `k` at byte `o` (R426). -/
def cellList (b : List Byte) (o k : Nat) : List Nat := (List.range k).map fun i => u8 b (o + i)

def pad4 (k : Nat) : Nat := (k + 3) / 4 * 4

/-- A well-formed cell list payload goes on with its cells. -/
def withCells (p : Packet) (k : List Nat → State → State) (s : State) : State :=
  let n := u8 p.payload 0
  if p.payload.length < 4 ∨ p.payload.length ≠ 4 + pad4 n then reply p (.badParam rLENGTH) [] 0 s
  else
    let l := cellList p.payload 4 n
    if n = 0 ∨ 64 < n ∨ leAt p.payload 1 3 ≠ 0 ∨ l.any fun c => decide (c < 1 ∨ 48 < c) then reply p .badParam [] 0 s
    else k l s

/-- The 16 bytes of a record. -/
def recBytes (s : State) (q n i : Nat) : List Byte :=
  wordBytes (s.pw q (R.PRF_REC_W0 n i)) ++ wordBytes (s.pw q (R.PRF_REC_W1 n i)) ++ wordBytes (s.pw q (R.PRF_REC_W2 n i))
  ++ wordBytes (s.pw q (R.PRF_REC_W3 n i))

/-- PROFILE_READ. -/
def profileRead (p : Packet) (s : State) : State :=
  let b := p.payload
  let i0 := u8 b 0
  let m := u8 b 1
  let k := u8 b 2
  if b.length < 4 ∨ b.length ≠ 4 + pad4 k then reply p (.badParam rLENGTH) [] 0 s
  else
    let l := cellList b 4 k
    if u8 b 3 ≠ 0 ∨ k = 0 ∨ 64 < k ∨ m = 0 ∨ 71 < i0 + m ∨ l.any fun c => decide (c < 1 ∨ 48 < c) then reply p .badParam [] 0 s
    else if 2048 < 40 + pad4 k + 16 * m * k then reply p (.badParam rLENGTH) [] 0 s
    else
      let sts := l.map fun n => if profiled s p.parcel n then Stat.ok else Stat.refused rSTATE
      let res := (l.filter fun n => profiled s p.parcel n).flatMap fun n =>
        (List.range m).flatMap fun x => recBytes s p.parcel n (i0 + x)
      replyUnits p sts res (goodStat s) s

def execProfileRead (p : Packet) (s : State) := run (request 0x41 p profileRead) s

/-- PROFILE_DERIVED. -/
def profileDerived (p : Packet) (s : State) : State :=
  withCells p (fun l s =>
    let q := p.parcel
    let sts := l.map fun n => if profiled s q n then Stat.ok else Stat.refused rSTATE
    let res := (l.filter fun n => profiled s q n).flatMap fun n =>
      wordBytes (s.pw q (R.PRF_DER_W0 n)) ++ wordBytes (s.pw q (R.PRF_DER_W1 n)) ++ wordBytes (s.pw q (R.PRF_DER_W2 n))
      ++ wordBytes (s.pw q (R.PRF_DER_W3 n))
    replyUnits p sts res (goodStat s) s) s

def execProfileDerived (p : Packet) (s : State) := run (request 0x42 p profileDerived) s

/-! ## Shadows (R195) -/

/-- The address is word 0 of a record, of a derived set, of a cell state record or of a merged roll-call entry (R195, R398). -/
def setHead (a : Nat) : Bool :=
  (decide (0x111000 ≤ a ∧ a < 0x111400) && a % 16 == 0) || (decide (0x062000 ≤ a ∧ a < 0x06F500) && a % 16 == 0) || (decide (0x061000 ≤ a ∧ a < 0x061300) && a % 16 == 0)
  || (decide (0x071000 ≤ a ∧ a < 0x071300) && a % 16 == 0)

/-- The address is one of the other words of such a set. -/
def setTail (a : Nat) : Bool := a % 16 != 0 && setHead (a / 16 * 16)

/-- Reader `r` reads word 0 of the set at `a`: the whole set goes to its shadow. -/
def registerSetLatch (r a : Nat) (s : State) : State :=
  if setHead a then
    { s with prf := { s.prf with shadow := (List.range 4).foldl (fun m k =>
      Smap.set (fun x => resetWord (x % 2 ^ 24)) m (r * 2 ^ 24 + a + 4 * k) (s.reg (a + 4 * k))) s.prf.shadow } }
  else s

/-- A reader's view of a word of a set. -/
def shadowWord (s : State) (r a : Nat) : Word := Smap.get (fun x => resetWord (x % 2 ^ 24)) s.prf.shadow (r * 2 ^ 24 + a)

def execRegisterSetLatch (r : Fin 9) (a : BitVec 24) (s : State) := run (registerSetLatch r.val a.toNat) s

end Sys2Proof.Machine
end

