-- ==== Sys2Proof/Machine/Estimator.lean ====
section
/-! DEFINITION. Cell state estimation: the meanings of the rows EST_STEP to EST_SEED_EFFECT (R201 to R222, R427). The
filter itself is `Config.estimate`: the spec names the model and gives no equations. Voltages are in pV and currents in pA. -/
namespace Sys2Proof.Machine

/-! ## Parameter sets (R202, R427) -/

/-- An IEEE 754 binary32 as mantissa and exponent of two; none when it is not finite. -/
def f32 (w : Nat) : Option (Int × Int) :=
  let e := w / 0x800000 % 256
  let f := w % 0x800000
  let sg : Int := if w / 0x80000000 % 2 = 1 then -1 else 1
  if e = 255 then none
  else if e = 0 then some (sg * (f : Int), -149)
  else some (sg * ((0x800000 + f : Nat) : Int), (e : Int) - 150)

/-- A binary32 times `k`, rounded to nearest. -/
def f32Times (w : Nat) (k : Int) : Int :=
  match f32 w with
  | none => 0
  | some (m, e) => if 0 ≤ e then m * k * 2 ^ e.toNat else roundDiv (m * k) (2 ^ (-e).toNat)

/-- Its square times `k`, rounded to nearest. -/
def f32Sq (w : Nat) (k : Int) : Int :=
  match f32 w with
  | none => 0
  | some (m, e) => if 0 ≤ e then m * m * k * 2 ^ (2 * e.toNat) else roundDiv (m * m * k) (2 ^ (2 * (-e).toNat))

/-- Offsets of the values that must be positive (R427): quantities of matter, lengths, coefficients and spreads. -/
def positiveOffsets : List Nat :=
  [4, 8, 284, 288, 296, 572, 576, 584, 592, 600, 604, 608, 612, 616, 620, 624, 628, 700, 704, 708, 712, 716, 720, 724,
   728, 732]

/-- Whether an EST_PARAMS payload holds an acceptable set (R427). -/
def paramsOk (b : List Byte) : Bool :=
  decide (u8 b 0 ≤ 3) && leAt b 1 3 == 0
  && ((List.range 183).all fun i => (f32 (u32 b (4 + 4 * i))).isSome)
  && (positiveOffsets.all fun o => match f32 (u32 b o) with | some (m, _) => decide (0 < m) | none => false)

/-- What a set that has never been loaded holds: the reset spreads sigma-T 2.0 K and sigma-S 0.5 K (R202). -/
def resetPar : List Byte := List.replicate 728 0 ++ leBytes 4 0x40000000 ++ leBytes 4 0x3F000000

/-- A set has been loaded for a type of an instance. -/
def estLoaded (s : State) (q t : Nat) : Bool := Smap.get (fun _ => []) s.est.params (4 * q + t) != []

/-- The parameter set of a type in an instance. -/
def estPar (s : State) (q t : Nat) : List Byte :=
  if estLoaded s q t then Smap.get (fun _ => []) s.est.params (4 * q + t) else resetPar

/-! ## The instance -/

/-- The estimator of parcel `q` runs (R220, R222). -/
def estRun (s : State) (q : Nat) : Bool :=
  holdsKernel s q Config.estimatorKid && (q != 0 || s.fb R.EST_CTRL_EN)

/-- Cell `n` is estimated by the instance of parcel `q`: the cells of EST_CELL, or those whose words a tenant's own
subscriptions give it (R220). [DEDUCED, log 57] -/
def estimated (s : State) (q n : Nat) : Bool :=
  decide (1 ≤ n ∧ n ≤ 48) && (if q = 0 then s.cellBit R.EST_CELL0 R.EST_CELL1 n
    else estRun s q && (samplesMask s q).testBit (n - 1))

def estType (s : State) (q n : Nat) : Nat := s.pg q (R.EST_CELLCFG_TYPE n)

def State.ecell (s : State) (q n : Nat) : EstCell := Smap.get (fun _ => {}) s.est.cells (100 * q + n)
def State.setEcell (s : State) (q n : Nat) (c : EstCell) : State :=
  { s with est := { s.est with cells := Smap.set (fun _ => {}) s.est.cells (100 * q + n) c } }

/-- The estimated cells of an instance. -/
def estCells (s : State) (q : Nat) : List Nat := cells.filter (estimated s q)

/-- STEPDIV (R204): the smallest of 1, 2, 5 and 10 that brings the load within the capacity, and 10 where none does.
[DESIGN CHOICE, log 49] -/
def stepDiv (s : State) (q : Nat) : Nat :=
  ([1, 2, 5, 10].find? fun d => loadFits s 1 q (10 * (estCells s q).length / d)).getD 10

/-- The newer snapshot copy that passes its check (R214). -/
def estSnapshot_ (s : State) : Option EstSnap :=
  match s.nv.snapA, s.nv.snapB with
  | some a, some b => if a.ok && b.ok then (if b.seq < a.seq then some a else some b)
      else if a.ok then some a else if b.ok then some b else none
  | some a, none => if a.ok then some a else none
  | none, some b => if b.ok then some b else none
  | none, none => none

/-- EST_STAT as it reads (R222). -/
def estStat (s : State) : Nat :=
  let kern := holdsKernel s 0 Config.estimatorKid
  let src := s.fg R.EST_ISRC_SRC
  b2n (estRun s 0) + 2 * b2n (s.fb R.EST_CTRL_EN && !kern)
  + 4 * b2n (decide (src = 1 ∨ src = 2) && s.fg R.EST_ISCALE_SCALE == 0) + 8 * b2n (estSnapshot_ s).isSome
  + 256 * s.fg R.EST_STAT_STEPDIV + 65536 * (estCells s 0).countP fun n => (s.ecell 0 n).conv == 2

/-- EST_SNAP as it reads (R222): the age of the newer copy in minutes, and its sequence number. -/
def estSnapWord (s : State) : Nat :=
  match estSnapshot_ s with
  | none => 0xFFFF0000
  | some c => clampU 16 ((s.now - c.time) / 60000000000) * 65536 + c.seq % 65536

/-! ## The inputs of a step (R205 to R208) -/

/-- The inputs of one cell for one step: its voltage in pV and cell current in pA, none where missing; whether a block
without COH was used; and whether the switch was closed for balancing at any time. -/
structure StepIn where
  volt : Option Int := none
  cur : Option Int := none
  nco : Bool := false
  balanced : Bool := false
  deriving DecidableEq, Repr

/-- The usable words of channel `n` whose centre times fall in [t0, t1): span in epochs, value in LSB as a fraction. -/
def wordsIn (s : State) (q n t0 t1 : Nat) : List ((Nat × Nat) × Int × Nat) :=
  (framesFor s q n).filterMap fun f =>
    let w := f.words.getD (n - 1) 0
    let k := frameStep f.tag
    let x := wordSpan s n f.tag
    let c := centre x.1 x.2 k
    if isWord w && !wordBad n w && decide (t0 ≤ c ∧ c < t1) then some (x, wordLsb s n k w) else none

/-- The usable blocks of the source station whose centre times fall in [t0, t1), whether or not they carry COH (R206). -/
def blocksIn (s : State) (q t0 t1 limit : Nat) : List SvcRef :=
  (refsFor s q (s.pg q R.EST_ISRC_STN) limit).filter fun r =>
    !refBad r.word && (let c := centre (r.blk * r.d) r.d 1; decide (t0 ≤ c ∧ c < t1))

/-- The mean of values in LSB times `k`; none where their spans cover less than half of the step (R207).
[DESIGN CHOICE, log 56] -/
def stepMean (t0 t1 : Nat) (k : Int) (l : List ((Nat × Nat) × Int × Nat)) : Option Int :=
  let c := (covered (t0 / 50) (t1 / 50) (l.map fun x => x.1)).foldl (fun a y => a + (y.2 - y.1)) 0
  if l = [] ∨ 2 * c < t1 / 50 - t0 / 50 then none
  else some (roundDiv (l.foldl (fun (a : Int) x => a + x.2.1 * (k * 65536 / (x.2.2 : Int))) 0) (65536 * l.length))

/-- The cell voltage in pV. -/
def stepVolt (s : State) (q n t0 t1 : Nat) : Option Int := stepMean t0 t1 100000000 (wordsIn s q n t0 t1)

/-- The string current in pA with its sign (R168, R205): 0 with source none; missing with a scale of 0.
[DEDUCED, log 62] -/
def stringCurrent (s : State) (q t0 t1 limit : Nat) : Option Int :=
  let src := s.pg q R.EST_ISRC_SRC
  let k : Int := (if s.pg q R.EST_ISRC_NEG = 1 then -1 else 1) * (s.pg q R.EST_ISCALE_SCALE * 1000000 : Nat)
  if src = 0 then some 0
  else if k = 0 then none
  else if src = 1 then stepMean t0 t1 k (wordsIn s q (49 + s.pg q R.EST_ISRC_AXM) t0 t1)
  else stepMean t0 t1 k ((blocksIn s q t0 t1 limit).map fun r =>
    ((r.blk * r.d, (r.blk + 1) * r.d), asInt 24 (r.word % 2 ^ 24), 256))

/-- A block of cell `n`'s excitation that meets [a, b) has no status message (R208). -/
def statMissing (s : State) (q n a b limit : Nat) : Bool :=
  (runsOf s n b).any fun x =>
    let lo := max x.2.2.1 a
    let hi := min x.2.2.2 b
    let k0 := (lo - x.2.2.1) / 5120
    decide (lo < hi) && ((List.range ((hi - x.2.2.1 + 5119) / 5120 - k0)).any fun k =>
      !(s.svc.stats.any fun y => y.cell == n && y.blk == x.2.2.1 + 5120 * (k0 + k) && decide (y.arr ≤ limit) && hears q y.heard))

/-- The spans of [a, b) in which bleed-state messages report cell `n`'s switch closed. -/
def closedSpans (s : State) (n a b : Nat) : List (Nat × Nat) :=
  let l := s.svc.bleed.filter fun (x : Nat × Nat × Bool) => x.1 == n
  let was : Bool := match (l.filter fun x => decide (x.2.1 ≤ a)).getLast? with
    | some x => x.2.2
    | none => match (l.filter fun x => decide (a < x.2.1)).head? with | some x => !x.2.2 | none => false
  let r := (l.filter fun x => decide (a < x.2.1 ∧ x.2.1 < b)).foldl (fun (y : Nat × Bool × List (Nat × Nat)) x =>
    (x.2.1, x.2.2, if y.2.1 then y.2.2 ++ [(y.1, x.2.1)] else y.2.2)) (a, was, [])
  if r.2.1 then r.2.2 ++ [(r.1, b)] else r.2.2

/-- The epochs of [a, b) in which cell `n` balances and is not excited. A tenant hears of them by a BLEED subscription. -/
def balancedEpochs (s : State) (q n a b : Nat) : Nat :=
  let exc := (runsOf s n b).map fun x => (x.2.2.1, x.2.2.2)
  if q ≠ 0 ∧ !(tenantsOf s 6 none).contains q then 0
  else ((closedSpans s n a b).flatMap fun x => uncovered x.1 x.2 exc).foldl (fun t y => t + (y.2 - y.1)) 0

/-- The mean bleed current of the step in pA (R205, R208). [DEDUCED, log 62] -/
def bleedCurrent (s : State) (q n a b limit : Nat) (volt : Option Int) : Option Int :=
  let exc := (bleedPeriods s q n a b limit).foldl (fun (t : Int) p =>
    t + p.2.2 * ((min b (p.1 + p.2.1) - max a p.1 : Nat) : Int)) 0
  let rbp := s.pg q R.EST_BLEED_RBP
  let bal := balancedEpochs s q n a b
  if statMissing s q n a b limit then none
  else if rbp = 0 ∨ bal = 0 then some (exc / ((b - a : Nat) * oneQ))
  else volt.map fun v => exc / ((b - a : Nat) * oneQ) + 100 * v * bal / ((rbp * (b - a) : Nat) : Int)

/-- The inputs of cell `n` for the step from `t0` to `t1`, from what has arrived by datum ns `limit`. -/
def stepIn_ (s : State) (q n t0 t1 limit : Nat) : StepIn :=
  let volt := stepVolt s q n t0 t1
  let str := stringCurrent s q t0 t1 limit
  let bld := bleedCurrent s q n (t0 / 50) (t1 / 50) limit volt
  { volt := volt
    cur := match str, bld with | some c, some b => some (c - b) | _, _ => none
    nco := s.pg q R.EST_ISRC_SRC == 2 && (blocksIn s q t0 t1 limit).any fun r => !r.coh
    balanced := balancedEpochs s q n (t0 / 50) (t1 / 50) != 0 }

/-! ## One step (R204 to R213, R217) -/

/-- Components of the filter's state, as `Config.estimate` numbers them: 0 SOC and 1 CAPR in 1e-8, 2 resistance factor in
0.1 %, 3 core temperature in 0.01 degrees, 4 its variance in 1e-4 K^2, 5 SOCSD, 6 CAPSD, 7 the negative electrode's outermost
shell potential in mV, 9 to 28 the shells, 29 and 30 the electrolyte, 31 the surface node; 8 is not used. -/
def filterComp (n k : Nat) (inp : List Int) (old : List Int) : Int := Config.estimate n k inp old

def parInts (par : List Byte) : List Int := par.map fun b => (b.toNat : Int)

/-- Whether component `k` keeps its value. Modes: 0 step with a measurement update, 1 step on the current alone (the
capacity is carried, R209); 2 held: state of charge, capacity and shells (R207); 3 restart of shells, electrolyte and what is
read from them at equilibrium (R203); 4 start of everything but SOC, CAPR and the resistance factor (R211). -/
def filterKeeps (mode k : Nat) : Bool :=
  if mode ≤ 1 then k == 1
  else if mode = 2 then decide (k ≤ 1 ∨ (9 ≤ k ∧ k ≤ 28))
  else if mode = 3 then !(k == 7 || decide (9 ≤ k ∧ k ≤ 30))
  else decide (k ≤ 2)

/-- The components a step leaves. -/
def filterStep (n mode : Nat) (inp : List Int) (par : List Byte) (old : List Int) : List Int :=
  (List.range 32).map fun k =>
    if filterKeeps mode k then old.getD k 0 else filterComp n k ((mode : Int) :: inp ++ parInts par) old

/-- Takes SOC, CAPR, TFUS and the confidences from the components. -/
def EstCell.take (c : EstCell) (l : List Int) : EstCell :=
  { c with
    comps := l
    soc := min 10000 (roundDiv (l.getD 0 0) 10000).toNat, capr := clampU 16 (roundDiv (l.getD 1 0) 10000).toNat
    tfus := clampS 16 (l.getD 3 0), var := (l.getD 4 0).toNat
    socsd := clampU 8 (l.getD 5 0).toNat, capsd := clampU 8 (l.getD 6 0).toNat }

/-- A new cell starts, or one restarts, in the converging state (R203, R211). -/
def EstCell.converging (c : EstCell) (t : Nat) : EstCell := { c with conv := 1, convAt := t }

/-- Shells and electrolyte restart at equilibrium for the cell's state of charge; SOC, CAPR and resistance factor stay
(R203). -/
def EstCell.restart (c : EstCell) (n t : Nat) (par : List Byte) : EstCell :=
  (c.take (filterStep n 3 [] par c.comps)).converging t

/-- A cell starts from a state of charge and capacity in 1e-8 and a resistance factor in 0.1 % (R211). -/
def EstCell.start (c : EstCell) (n t : Nat) (par : List Byte) (soc capr : Int) (rgr : Nat) : EstCell :=
  { (c.take (filterStep n 4 [] par [soc, capr, rgr])).converging t with rgr := rgr }

/-- VAL is 0, and WRN and THR clear with it (R217). -/
def EstCell.invalid (c : EstCell) : EstCell := { c with val := false, wrn := false, thr := false, thrT := false }

/-- The surface temperature of cell `n` (R205): the mean of its sensors' latest valid temperatures. -/
def surfaceOf (s : State) (q n : Nat) : Option Int :=
  let l := [s.pg q (R.EST_CELLCFG_TSA n), s.pg q (R.EST_CELLCFG_TSB n)].filter fun x =>
    x != 0 && s.thm.ever.testBit (x - 1)
  let sum := l.foldl (fun (a : Int) x => a + s.fi (R.THM_S_W0_TEMP x)) 0
  if l.length = 0 then none else some (sum / (l.length : Int))

/-- R210: the core node takes a new TINT once, at the first step that ends 1 ms to 5 s after its derived set. -/
def tintUpdate (s : State) (q n t : Nat) (par : List Byte) (c : EstCell) : EstCell :=
  let at_ := Smap.get (fun _ => 0) s.prf.derAt (100 * q + n)
  let flags := s.pg q (R.PRF_DER_W3_FLAGS n)
  if at_ ≠ 0 ∧ at_ ≠ c.tintAt ∧ at_ + 1000000 ≤ t ∧ t ≤ at_ + 5000000000 ∧ flags / 2 % 2 = 1 then
    let sig := (f32Sq (u32 par 728) 10000).toNat
    let m := asInt 16 (s.pg q (R.PRF_DER_W2_TINT n))
    let d := c.var + sig
    let tf := if d = 0 then c.tfus else c.tfus + roundDiv ((c.var : Int) * (m - c.tfus)) d
    let p := if d = 0 then 0 else c.var - (c.var * c.var + d / 2) / d
    { c with tintAt := at_, tfus := clampS 16 tf, var := p, comps := (c.comps.set 3 tf).set 4 (p : Nat) }
  else c

/-- R213: the plating condition and its opposite, over the step from `t0` to `t`. -/
def platingUpdate (s : State) (q t0 t : Nat) (cur : Option Int) (c : EstCell) : EstCell :=
  let pot := c.comps.getD 7 0
  let lim : Int := s.pg q R.EST_LIM2_PLTHR
  let on_ : Bool := match cur with | some i => decide (0 < i ∧ pot < lim) | none => false
  let off : Bool := match cur with | some i => decide (i ≤ 0 ∨ lim + 10 ≤ pot) | none => false
  let a := if on_ then some (c.pltAt.getD t0) else none
  let b := if off then some (c.clrAt.getD t0) else none
  let set := match a with | some x => decide (x + 1000000000 ≤ t) | none => false
  let clr := match b with | some x => decide (x + 10000000000 ≤ t) | none => false
  { c with pltAt := a, clrAt := b, plt := set || (c.plt && !clr) }

/-- R217: WRN and THR follow TFUS and, with PLINK, PLT. [DEDUCED, log 61] -/
def levelUpdate (s : State) (q : Nat) (c : EstCell) : EstCell :=
  let hys : Int := 10 * s.pg q R.EST_LIM2_HYS
  let follow := fun (en was : Bool) (lim : Int) => en && (decide (lim ≤ c.tfus) || (was && decide (lim - hys ≤ c.tfus)))
  let w := follow (s.pg q R.EST_CTRL_TWRN == 1) c.wrn (asInt 16 (s.pg q R.EST_TLIM_WARN))
  let tt := follow (s.pg q R.EST_CTRL_TTHR == 1) c.thrT (asInt 16 (s.pg q R.EST_TLIM_THROT))
  { c with wrn := w && c.val, thrT := tt && c.val, thr := (tt || (s.pg q R.EST_CTRL_PLINK == 1 && c.plt)) && c.val }

/-- The capacity of a throughput `q` in pA ns over a change `d` of SOC in 1e-8, in 1e-8 of CAPNOM. -/
def capacityFrom (par : List Byte) (q d : Int) : Int := roundDiv q (f32Times (u32 par 4) (360000000 * d))

/-- R209: charge is counted from an anchor, a step with SOCSD at most 1.0 %; the first step at least 20 % away with SOCSD
at most 1.0 %, and 600 s after the last update, gives the new capacity and is the next anchor. A step without current drops
the anchor. [DESIGN CHOICE, log 172] -/
def capacityUpdate (n t0 t : Nat) (par : List Byte) (cur : Option Int) (c : EstCell) : EstCell :=
  match cur with
  | none => { c with anchor := none }
  | some i =>
    let soc := c.comps.getD 0 0
    match c.anchor with
    | none => if c.socsd ≤ 10 then { c with anchor := some (soc, 0) } else c
    | some (soc0, q0) =>
      let q := q0 + i * ((t - t0 : Nat) : Int)
      if c.socsd ≤ 10 ∧ 20000000 ≤ (soc - soc0).natAbs ∧ c.capAt + 600000000000 ≤ t then
        let old := c.comps.getD 1 0
        let g : Int := (Config.capacityGain n c.comps % 1000001 : Nat)
        let new := max 0 (old + roundDiv (g * (capacityFrom par q (soc - soc0) - old)) 1000000)
        { (c.take (c.comps.set 1 new)) with anchor := some (soc, 0), capAt := t }
      else { c with anchor := some (soc0, q) }

/-- The sources that the changes of a cell's flags raise (R217, R218); a tenant instance raises none (R220). -/
def estRaise (q n : Nat) (old new : EstCell) (s : State) : State :=
  if q ≠ 0 then s
  else
    let s1 := s.when (new.wrn && !old.wrn) fun s => s.raise 0x64 islCP n
    let s2 := s1.when (new.thr && !old.thr) fun s => s.raise 0x3B islCP n
    let s3 := s2.when (new.msh && !old.msh) fun s => s.raise 0x65 islCP n
    s3.when (old.val && !new.val) fun s => s.raise 0x63 islCP n

/-- The open-circuit voltage of point `k` of 64, in pV: positive less negative electrode (R202, R427). -/
def ocvAt (par : List Byte) (k : Nat) : Int :=
  f32Times (u32 par (304 + 4 * k)) 1000000000000 - f32Times (u32 par (16 + 4 * k)) 1000000000000

/-- SOC in 1e-8 from the open-circuit curve: by straight lines between its points, the lowest where several fit, and 0 % or
100 % beyond its ends. [DESIGN CHOICE, log 173] -/
def socFromOcv (par : List Byte) (v : Int) : Int :=
  if v ≤ ocvAt par 0 then 0
  else match (List.range 64).find? fun k => decide (ocvAt par k ≤ v ∧ v ≤ ocvAt par (k + 1)) with
    | none => 100000000
    | some k =>
      let d := ocvAt par (k + 1) - ocvAt par k
      ((k : Int) * 100000000 + (if d = 0 then 0 else 100000000 * (v - ocvAt par k) / d)) / 64

/-- How a cell enters the estimator (R211). -/
def estEnter (s : State) (q n t : Nat) (par : List Byte) (i : StepIn) (c : EstCell) : EstCell :=
  let rest : Bool := match c.restAt with | some x => decide (x + 60000000000 ≤ t) | none => false
  let snap := if q = 0 then (estSnapshot_ s).bind fun z => (z.recs.find? fun r => r.1 == n).map fun r => (z.time, r) else none
  match snap, i.volt with
  | some (at_, (_, soc, capr, rgr, mss, sd)), _ =>
    let c1 := c.start n t par (10000 * soc) (10000 * capr) rgr
    { (c1.take (c1.comps.set 5 (sd + 5 * (t - at_) / 86400000000000 : Nat))) with mss := mss, val := true }
  | none, some v => if rest then { c.start n t par (socFromOcv par v) 100000000 1000 with val := true } else c.invalid
  | none, none => c.invalid

/-- One cell's step from `t0` to `t`. -/
def estCellStep (s : State) (q n t0 t : Nat) (i : StepIn) (c0 : EstCell) : EstCell :=
  let ty := estType s q n
  let par := estPar s q ty
  if !estLoaded s q ty then { c0.invalid with conv := 0, type := ty }
  else
    let lim := f32Times (u32 par 4) 10000000000
    let restAt := match i.cur with
      | some x => if (x.natAbs : Int) ≤ lim then some (c0.restAt.getD t0) else none
      | none => none
    let c1 := if c0.type = ty then c0 else { (if c0.conv = 0 then c0 else c0.restart n t par) with type := ty }
    let c2 := { c1 with restAt := restAt, nco := c1.nco || i.nco
                        balAt := if i.balanced ∧ s.pg q R.EST_BLEED_RBP = 0 then some t else c1.balAt }
    if c2.conv = 0 then estEnter s q n t par i c2
    else
      let mode := match i.volt, i.cur with
        | some _, some _ => 0
        | none, some _ => 1
        | _, none => 2
      let surf := surfaceOf s q n
      let c3 := c2.take (filterStep n mode [i.volt.getD 0, i.cur.getD 0, b2n surf.isSome, surf.getD 0, t - t0] par c2.comps)
      let c4 := { c3 with
        predN := if mode = 0 then 0 else c3.predN + 1
        pred := c3.pred || i.volt.isNone, ilost := c3.ilost || i.cur.isNone
        val := if mode = 0 then true else c3.val && decide (c3.predN + 1 < 100) }
      let c5 := levelUpdate s q (platingUpdate s q t0 t i.cur (capacityUpdate n t0 t par i.cur (tintUpdate s q n t par c4)))
      if c5.conv = 1 ∧ c5.socsd ≤ 10 ∧ c5.convAt + 600000000000 ≤ t then { c5 with conv := 2 } else c5

/-- The valid cells of an instance. -/
def estValid (s : State) (q : Nat) : List Nat := (estCells s q).filter fun n => (s.ecell q n).val

/-- The state of charge of each cell against the median of the valid cells joins its last 24 h (R212). -/
def noteSoc (q t : Nat) (s : State) : State :=
  let med := median2 ((estValid s q).map fun n => (s.ecell q n).comps.getD 0 0)
  if estValid s q = [] then s
  else (estCells s q).foldl (fun x n =>
    let c := x.ecell q n
    if c.conv = 0 then x
    else x.setEcell q n { c with hist := (c.hist.filter fun h => decide (t ≤ h.1 + 86400000000000))
      ++ [(t, 2 * c.comps.getD 0 0 - med)] }) s

/-- The instance's memory of a time or number. -/
def atOf (l : List (Nat × Nat)) (q : Nat) : Nat := Smap.get (fun _ => 0) l q
def setAt (l : List (Nat × Nat)) (q t : Nat) : List (Nat × Nat) := Smap.set (fun _ => 0) l q t

/-- The length of a step in ns. -/
def stepLen (s : State) (q : Nat) : Nat := 10000000 * stepDiv s q

/-- The station as a step that ends at datum `t` is worked out, 1 ms later: the step is noted, STEPDIV shown, and the cells
that are no longer estimated are dropped. -/
def stepBegin (q t : Nat) (s : State) : State :=
  let s0 := s.until (t + 1000000)
  let s1 := if q = 0 then s0.fs R.EST_STAT_STEPDIV (stepDiv s q) else s0
  { s1 with est := { s1.est with
    stepAt := setAt s1.est.stepAt q t
    cells := s1.est.cells.filter fun e => e.1 / 100 != q || estimated s1 q (e.1 % 100) } }

/-- The state of cell `n` after the step of length `len` that ends at datum `t`. -/
def cellAfter (s : State) (q n len t : Nat) : EstCell :=
  estCellStep s q n (t - len) t (stepIn_ s q n (t - len) t (t + 1000000)) (s.ecell q n)

/-- Step `k` of the instance of parcel `q` ends at datum `k` step lengths and is worked out 1 ms later, from what has arrived
by then; a step that does not lie after the last one has no effect. [DESIGN CHOICE, log 56] -/
def estStep (q k : Nat) (s : State) : State :=
  let len := stepLen s q
  let t := k * len
  if !estRun s q ∨ (t ≤ atOf s.est.stepAt q ∧ atOf s.est.stepAt q ≤ s.now) then s
  else
    let s2 := stepBegin q t s
    noteSoc q t ((estCells s2 q).foldl (fun x n =>
      let new := cellAfter s2 q n len t
      estRaise q n (s2.ecell q n) new (x.setEcell q n new)) s2)

def execEstStep (q : Fin 8) (k : Nat) (s : State) := run (estStep q.val k) s

/-! ## Resistance growth (R209) -/

/-- HFR (10 nOhm) at `tfus` corrected to 25 degrees with the activation energy of R0, as a fraction of R0 in 0.1 %:
HFR exp(Ea (1/298.15 K - 1/T) / Rg) / R0. [DEDUCED, log 174] -/
def hfrGrowth (par : List Byte) (hfr tfus : Int) : Int :=
  let tk := tfus + 27315
  let x := f32Times (u32 par 12) (100 * (tk - 29815) * 2 ^ 80 * 1000000000) / (29815 * tk * 8314462618)
  roundDiv (hfr * expQ x) (f32Times (u32 par 8) (100000 * 2 ^ 80))

/-- Every 60 s RGR is recomputed (R209): from HFR corrected to 25 degrees when F0V is 1, else the filter's factor. -/
def resistanceUpdate (q : Nat) (s : State) : State :=
  if !estRun s q ∨ !s.due (atOf s.est.resAt q) 60000000000 then s
  else
    (estCells s q).foldl (fun x n =>
      let c := x.ecell q n
      if c.conv = 0 then x
      else
        let r := if s.pg q (R.PRF_DER_W3_FLAGS n) % 2 = 1 then
            hfrGrowth (estPar s q (estType s q n)) (asInt 32 (s.pw q (R.PRF_DER_W1 n)).toNat) c.tfus
          else c.comps.getD 2 0
        x.setEcell q n { c with rgr := clampU 16 r.toNat })
      { s with est := { s.est with resAt := setAt s.est.resAt q s.lt } }

def execResistanceUpdate (q : Fin 8) (s : State) := run (resistanceUpdate q.val) s

/-! ## The micro-short score (R212) -/

/-- Numerator and denominator of the least-squares slope of points (time, value). -/
def lsSlope (l : List (Nat × Int)) : Int × Int :=
  let n : Int := l.length
  let t := l.foldl (fun (a : Int) p => a + p.1) 0
  let y := l.foldl (fun (a : Int) p => a + p.2) 0
  let tt := l.foldl (fun (a : Int) p => a + (p.1 : Int) * p.1) 0
  let ty := l.foldl (fun (a : Int) p => a + (p.1 : Int) * p.2) 0
  (n * ty - t * y, n * tt - t * t)

/-- Item 1 for a cell: its self-discharge current in nA; none where fewer than two points are held. -/
def selfDischarge (par : List Byte) (c : EstCell) : Option Int :=
  let p := lsSlope c.hist
  if p.2 = 0 then none else some (roundDiv (f32Times (u32 par 4) (-p.1 * c.capr * 1800000000)) p.2)

/-- The self-discharge currents of the cells; one without a slope takes a free value. [DESIGN CHOICE, log 58] -/
def selfDischarges (q : Nat) (s : State) : List (Nat × Int) × State :=
  (estCells s q).foldl (fun (x : List (Nat × Int) × State) n =>
    match selfDischarge (estPar s q (estType s q n)) (s.ecell q n) with
    | some i => (x.1 ++ [(n, i)], x.2)
    | none => let (f, t) := x.2.free; (x.1 ++ [(n, asInt 64 f)], t)) ([], s)

/-- Items 2 and 3: the score of current `i` among the currents `l` of the valid cells. -/
def microScore (l : List Int) (i : Int) : Nat :=
  let med2 := median2 l
  let dev := fun (i : Int) => 2 * i - med2
  let sig := max (14826 * median2 (l.map fun i => ((dev i).natAbs : Int))) 400000000
  (max 0 (min 255 (roundDiv (320000 * dev i) sig))).toNat

/-- Every 3,600 s the micro-short scores (R212), from the last 24 h of each cell. -/
def microShortEvaluation (q : Nat) (s : State) : State :=
  if !estRun s q ∨ !s.due (atOf s.est.mssAt q) 3600000000000 then s
  else
    let (is, s1) := selfDischarges q { s with est := { s.est with mssAt := setAt s.est.mssAt q s.lt } }
    let ok := is.filter fun p => (s1.ecell q p.1).val
    let l := ok.map fun p => p.2
    is.foldl (fun x p =>
      let n := p.1
      let c := x.ecell q n
      let held : Bool := match c.balAt with | some b => decide (x.now < b + 86400000000000) | none => false
      let c1 :=
        if ok.length < 8 then { c with mss := 0, msh := false, mshUp := 0, mshDn := 0 }
        else if held then c
        else
          let m := microScore l p.2
          let up := if s.pg q R.EST_LIM2_MSTHR ≤ m then c.mshUp + 1 else 0
          let dn := if s.pg q R.EST_LIM2_MSTHR ≤ m then 0 else c.mshDn + 1
          { c with mss := m, mshUp := up, mshDn := dn, msh := decide (3 ≤ up) || (c.msh && decide (dn < 3)) }
      estRaise q n c c1 (x.setEcell q n c1)) s1

def execMicroShortEvaluation (q : Fin 8) (s : State) := run (microShortEvaluation q.val) s

/-! ## Publication (R215, R216) -/

/-- FLAGS of a record. -/
def EstCell.flags (c : EstCell) : Nat :=
  b2n c.val + 2 * b2n c.pred + 4 * b2n c.ilost + 8 * b2n c.nco + 16 * b2n c.plt + 32 * b2n c.msh + 64 * b2n c.wrn
  + 128 * b2n c.thr

/-- The four words of a cell's record for interval `k`. -/
def estRecord (n k : Nat) (c : EstCell) : List Word :=
  [w32 (c.capr * 65536 + c.soc), w32 (ofInt 16 c.tfus * 65536 + c.rgr),
   w32 (c.mss * 0x1000000 + clampU 8 (isqrt c.var / 10) * 0x10000 + c.capsd * 0x100 + c.socsd),
   w32 (c.flags * 0x1000000 + c.conv * 0x400000 + n * 0x10000 + k % 0x10000)]

/-- EST_SUM from the cells' records (R216). -/
def estSum (cs : List EstCell) : Nat :=
  let v := (cs.filter fun c => c.val).map fun c => c.soc
  let lo := v.foldl min 100000
  let hi := v.foldl max 0
  32768 * b2n (v != []) + 16384 * b2n (cs.any fun c => c.wrn) + 8192 * b2n (cs.any fun c => c.thr)
  + 4096 * b2n (cs.any fun c => c.plt) + 2048 * b2n (cs.any fun c => c.msh)
  + 16 * (if v = [] then 127 else lo / 100) + (if v = [] then 0 else min 15 ((hi - lo) / 100))

/-- The nodes from which an instance's records enter the mesh: the plots that hold its kernel. -/
def estNodes (s : State) (q : Nat) : List Nat :=
  ((s.arr.engs.filter fun (x : Nat × Eng) => x.2.key != 0 && x.2.kid == Config.estimatorKid
    && s.plotParcel (x.1 / 32) == q).map fun x => x.1 / 32).eraseDups

/-- The record of cell `n` goes to the CSTATE subscriptions that name the cell: those of every tenant for P0's instance, a
parcel's own for its instance (R215, R220, R283). [DEDUCED, log 57] -/
def feedState (q n : Nat) (ws : List Word) (s : State) : State :=
  feed 4 (estNodes s q) 0 false (fun r w0 w1 =>
    if (q = 0 ∨ r = q) ∧ (entMask w0 w1).testBit (n - 1) then some ws else none) s

/-- Publication interval `k` of an instance: once, before a step of a later interval. -/
def estPublication (q k : Nat) (s : State) : State :=
  if !estRun s q ∨ (k ≤ atOf s.est.pubAt q ∧ 100000000 * atOf s.est.pubAt q ≤ s.now)
      ∨ (100000000 * k < atOf s.est.stepAt q ∧ atOf s.est.stepAt q ≤ s.now) then s
  else
    let s0 := { s.until (100000000 * k) with est := { s.est with pubAt := setAt s.est.pubAt q k } }
    let l := estCells s0 q
    let s1 := l.foldl (fun x n =>
      let ws := estRecord n k (x.ecell q n)
      let x1 := (List.range 4).foldl (fun y w => y.setPw q (R.EST_STATE_W0 n + 4 * w) (ws.getD w 0)) x
      let x2 := feedState q n ws (x1.emit .stream ([3, q] ++ ws.map fun w => w.toNat))
      x2.setEcell q n { x2.ecell q n with pred := false, ilost := false, nco := false }) s0
    if q = 0 then s1.fs R.EST_SUM_SUM (estSum (l.map fun n => s0.ecell 0 n)) else s1

def execEstPublication (q : Fin 8) (k : Nat) (s : State) := run (estPublication q.val k) s

/-! ## Snapshots (R214) -/

/-- The snapshot that a commit started now holds; its number follows those of the copies and of the commits that wait. -/
def takeSnapshot (s : State) : EstSnap :=
  { seq := (s.nv.jobs.filter fun j => j.kind == 1).foldl (fun a j => max a j.snap.seq)
      (match estSnapshot_ s with | some c => c.seq | none => 0) + 1, time := s.now
    recs := (estCells s 0).map fun n =>
      let c := s.ecell 0 n
      (n, c.soc, c.capr, c.rgr, c.mss, c.socsd) }

/-- Starts the commit of a snapshot: 8 pages of P0's region. -/
def commitSnapshot (s : State) : State :=
  nvCommit { kind := 1, snap := takeSnapshot s } { s with est := { s.est with snapAt := s.lt } }

/-- The timed snapshot: while a commit is running it is refused like a SAVE write (R548). [DEDUCED, log 60] -/
def estSnapshot (s : State) : State :=
  if !s.due s.est.snapAt 3600000000000 then s
  else if s.nvBusy then { s with est := { s.est with snapAt := s.lt } }
  else commitSnapshot s

def execEstSnapshot (s : State) := run estSnapshot s

/-- A durable snapshot takes the place of the older copy, or of one that fails its check. -/
def storeSnapshot (c : EstSnap) (s : State) : State :=
  let seqOf := fun (x : Option EstSnap) => match x with | some y => if y.ok then y.seq + 1 else 0 | none => 0
  if seqOf s.nv.snapA ≤ seqOf s.nv.snapB then { s with nv := { s.nv with snapA := some c } }
  else { s with nv := { s.nv with snapB := some c } }

/-- A write of EST_CTRL. -/
def estCtrlWrite (v : Word) (s : State) : Stat × State :=
  let keep := w32 (v.toNat % 16)
  if wf v R.EST_CTRL_SAVE = 1 then
    if s.nvBusy then (.nvBusy, s) else (.ok, commitSnapshot (s.setReg R.EST_CTRL keep))
  else (.ok, s.setReg R.EST_CTRL keep)

def execEstSave (v : Word) (s : State) :=
  run (direct R.EST_CTRL (w32 (setBit v.toNat 31 true)) estCtrlWrite) s

/-- A write of another EST register (R222). -/
def estWrite (a : Nat) (v : Word) (s : State) : Stat × State :=
  let cfg := decide (0x070100 ≤ a ∧ a < 0x0701C0)
  let bad :=
    (a == R.EST_ISRC && v.toNat % 4 == 3)
    || (cfg && (decide (16 < v.toNat % 32) || decide (16 < v.toNat / 256 % 32)))
    || (a == R.EST_TLIM && decide (asInt 16 (v.toNat / 65536) < asInt 16 v.toNat))
    || (a == R.EST_LIM2 && (wf v R.EST_LIM2_HYS == 0 || wf v R.EST_LIM2_PLTHR == 0))
  if bad then (.badParam, s)
  else
    let s1 := applyWrite a v s
    if a = R.EST_CELL0 ∨ a = R.EST_CELL1 then
      (.ok, cells.foldl (fun x n =>
        if estimated x 0 n ∨ (n ≤ 32) ≠ (a = R.EST_CELL0) then x else x.setEcell 0 n {}) s1)
    else (.ok, s1)

/-! ## Opcodes 0x43 to 0x45 (R203, R222, R426, R427) -/

/-- The next 100 ms boundary of datum time. -/
def nextBoundary (s : State) : Nat := (s.now / 100000000 + 1) * 100000000

/-- EST_PARAMS. P0's set is also committed to its NV region. -/
def estParams (p : Packet) (s : State) : State :=
  withLen 736 p (fun s =>
    if !paramsOk p.payload then reply p .badParam [] 0 s
    else
      let t := nextBoundary s
      let ty := u8 p.payload 0
      let s1 := { s with est := { s.est with pendPar := s.est.pendPar ++ [(t, p.parcel, ty, p.payload)] } }
      let s2 := if p.parcel = 0 then nvCommit { kind := 4, ptype := ty, pbytes := p.payload } s1 else s1
      reply p .ok (leBytes 8 t) 0 s2) s

def execEstParams (p : Packet) (s : State) := run (request 0x43 p estParams) s

/-- A set takes effect: every cell of its TYPE restarts at equilibrium and becomes converging (R203). -/
def estApplyPar (w : Nat × Nat × Nat × List Byte) (s : State) : State :=
  let (t, q, ty, b) := w
  let s1 := { s with est := { s.est with params := Smap.set (fun _ => []) s.est.params (4 * q + ty) b } }
  (estCells s1 q).foldl (fun x n =>
    let c := x.ecell q n
    if estType s q n ≠ ty ∨ c.conv = 0 then x else x.setEcell q n (c.restart n t b)) s1

/-- The 100 ms boundary comes at which waiting parameter sets take effect. -/
def estParamsEffect (s : State) : State :=
  let go := s.est.pendPar.filter fun w => decide (w.1 ≤ s.now)
  go.foldl (fun x w => estApplyPar w x)
    { s with est := { s.est with pendPar := s.est.pendPar.filter fun w => !decide (w.1 ≤ s.now) } }

def execEstParamsEffect (s : State) := run estParamsEffect s

/-- EST_READ. -/
def estRead (p : Packet) (s : State) : State :=
  withCells p (fun l s =>
    let q := p.parcel
    let sts := l.map fun n => if estimated s q n then Stat.ok else Stat.refused rSTATE
    let res := (l.filter fun n => estimated s q n).flatMap fun n =>
      (List.range 4).flatMap fun w => wordBytes (s.pw q (R.EST_STATE_W0 n + 4 * w))
    replyUnits p sts res (goodStat s) s) s

def execEstRead (p : Packet) (s : State) := run (request 0x44 p estRead) s

/-- EST_SEED. -/
def estSeed (p : Packet) (s : State) : State :=
  let b := p.payload
  let n := u8 b 0
  if b.length < 4 ∨ b.length ≠ 4 + 8 * n then reply p (.badParam rLENGTH) [] 0 s
  else
    let ents := (List.range n).map fun i => (u8 b (4 + 8 * i), leAt b (5 + 8 * i) 3, u16 b (8 + 8 * i), u16 b (10 + 8 * i))
    if n = 0 ∨ leAt b 1 3 ≠ 0 ∨ ents.any fun e => decide (e.1 < 1 ∨ 48 < e.1 ∨ e.2.1 ≠ 0 ∨ 10000 < e.2.2.1) then
      reply p .badParam [] 0 s
    else
      let q := p.parcel
      let t := nextBoundary s
      let good := ents.filter fun e => estimated s q e.1
      let s1 := { s with est := { s.est with
        pendSeed := s.est.pendSeed ++ good.map fun e => (t, q, e.1, e.2.2.1, e.2.2.2) } }
      let sts := ents.map fun e => if estimated s q e.1 then Stat.ok else Stat.refused rSTATE
      replyUnits p sts (leBytes 8 t) .ok s1

def execEstSeed (p : Packet) (s : State) := run (request 0x45 p estSeed) s

/-- The boundary comes at which seeded cells take SOC and CAPR and become converging; the shells follow that SOC.
[DEDUCED, log 175] -/
def estSeedEffect (s : State) : State :=
  let go := s.est.pendSeed.filter fun w => decide (w.1 ≤ s.now)
  go.foldl (fun x w =>
    let (t, q, n, soc, capr) := w
    let c := x.ecell q n
    let ty := estType x q n
    if !estLoaded x q ty then x
    else if c.conv = 0 then x.setEcell q n { c.start n t (estPar x q ty) (10000 * soc) (10000 * capr) 1000 with type := ty }
    else x.setEcell q n ({ c with comps := (c.comps.set 0 (10000 * soc)).set 1 (10000 * capr) }.restart n t (estPar x q ty)))
    { s with est := { s.est with pendSeed := s.est.pendSeed.filter fun w => !decide (w.1 ≤ s.now) } }

def execEstSeedEffect (s : State) := run estSeedEffect s

end Sys2Proof.Machine
end

