-- ==== Sys2Proof/Machine/EngPlot.lean ====
section
/-! DEFINITION. Kernels, engine control, plots and moves: the meanings of the rows ENGINE_START to PLOT_THERMAL_RESTORE and
PARCEL_MOVE_COMPLETE (R252 to R254, R259 to R268, R428, R431, R554). -/
namespace Sys2Proof.Machine

/-! ## Kernel images (R262, R263) -/

def kiFLAGS (b : List Byte) : Nat := u16 b 6
def kiSAFETY (b : List Byte) : Bool := (kiFLAGS b).testBit 0
def kiPARALLEL (b : List Byte) : Bool := (kiFLAGS b).testBit 1
def kiDMA (b : List Byte) : Bool := (kiFLAGS b).testBit 2
def kiKID (b : List Byte) : Nat := u32 b 8
def kiKVER (b : List Byte) : Nat := u32 b 12
def kiNENG (b : List Byte) : Nat := u16 b 16
def kiNINSTR (b : List Byte) : Nat := u16 b 18
def kiDSIZE (b : List Byte) : Nat := u16 b 20
def kiSSIZE (b : List Byte) : Nat := u16 b 22
def kiENTRY (b : List Byte) : Nat := u16 b 24
def kiWARM (b : List Byte) : Nat := u16 b 26
def kiNBIND (b : List Byte) : Nat := u16 b 28
def kiWDOG0 (b : List Byte) : Nat := u16 b 30
def kiBODYLEN (b : List Byte) : Nat := u32 b 32
def kiSIGKIND (b : List Byte) : Nat := u8 b 68

/-- Offsets of the parts of the body. -/
def kiData (b : List Byte) : Nat := 136 + 4 * kiNINSTR b
def kiShared (b : List Byte) : Nat := kiData b + kiDSIZE b
def kiBind (b : List Byte) : Nat := kiShared b + 64 * kiSSIZE b

/-- A binding entry: engine in the instance, port, stream identity. -/
def kiBinding (b : List Byte) (i : Nat) : Nat × Nat × Nat :=
  let o := kiBind b + 8 * i
  (u8 b o, u8 b (o + 1), u32 b (o + 4))

/-- Every field lies in its range, and DIGEST matches (first case of R265). [DEDUCED, log 76] -/
def kernelOk (b : List Byte) : Bool :=
  decide (136 ≤ b.length ∧ u32 b 0 = 0x4A584B4E ∧ u16 b 4 = 1 ∧ kiFLAGS b < 8 ∧ 1 ≤ kiNENG b ∧ kiNENG b ≤ 32
    ∧ 1 ≤ kiNINSTR b ∧ kiNINSTR b ≤ 1024 ∧ kiDSIZE b % 4 = 0 ∧ kiDSIZE b ≤ 16384 ∧ kiSSIZE b ≤ 4096
    ∧ kiENTRY b < kiNINSTR b ∧ kiNBIND b ≤ 96 ∧ kiSIGKIND b ≤ 2 ∧ leAt b 69 3 = 0
    ∧ kiBODYLEN b = 4 * kiNINSTR b + kiDSIZE b + 64 * kiSSIZE b + 8 * kiNBIND b ∧ b.length = 136 + kiBODYLEN b)
  && (kiPARALLEL b == (kiWARM b != 0)) && (!kiSAFETY b || (kiPARALLEL b && kiWDOG0 b != 0))
  && (kiSIGKIND b != 0 || leAt b 72 64 == 0)
  && ((List.range (kiNBIND b)).all fun i =>
    let e := kiBinding b i
    decide (e.1 < kiNENG b ∧ e.2.1 ≤ 2 ∧ u16 b (kiBind b + 8 * i + 2) = 0))
  && ((b.drop 36).take 32 == (Config.sha256 (b.drop 136)).toList)

/-- The 17-byte holder record `k` of the founding page: role and key digest (R544). -/
def holderRole (s : State) (k : Nat) : Nat := (Smap.get zeroByte s.nv.bytes (8 + 17 * k)).toNat
def holderDigest (s : State) (k : Nat) : List Byte := memBytes s.nv.bytes (9 + 17 * k) 16

/-- SIG verifies under the key that SIGKIND names; no signature is needed for SIGKIND 0 without SAFETY. -/
def kernelSigned (s : State) (b : List Byte) : Bool :=
  let d := (Config.sha256 (b.take 72)).toList
  let sig := (b.drop 72).take 64
  match kiSIGKIND b with
  | 0 => !kiSAFETY b
  | 1 => Config.ecdsaVerify (Config.romKey 1) d sig
  | _ => (List.range 4).any fun k => holderRole s k == 1 && Config.ecdsaVerifyDigest (holderDigest s k) d sig

/-- The image of a store key (8 q + index); empty when there is none. -/
def State.kernel (s : State) (key : Nat) : List Byte := (Smap.get (fun _ => {}) s.nv.kstore key).bytes

/-- Stream identities of a parcel (R279). -/
def streamOk (s : State) (q port id : Nat) : Bool :=
  let i := id % 32
  decide (id % 2 ^ 31 < 32) && (if port = 2 then id.testBit 31 && entOn (s.pubW0 q i) else !id.testBit 31 && entOn (s.subW0 q i))

/-! ## Loading and starting (R227, R266) -/

/-- The data image, followed by zeros. -/
def dataImage (b : List Byte) : List (Nat × Byte) := memWrite [] 0 ((b.drop (kiData b)).take (kiDSIZE b))

/-- The binding of port `i` of engine `pos` of an instance. -/
def bindingOf (b : List Byte) (pos i : Nat) : Option Nat :=
  ((List.range (kiNBIND b)).find? fun k => (kiBinding b k).1 == pos && (kiBinding b k).2.1 == i).map fun k =>
    (kiBinding b k).2.2 % 32

/-- Engine `x` holds image `b` of store key `key`, READY for `start`. -/
def loadEngine (key inst pos start : Nat) (b : List Byte) (x : Nat) (s : State) : State :=
  let im := (List.range (kiNINSTR b)).foldl (fun m i => Smap.set (fun _ => 0) m i (w32 (u32 b (136 + 4 * i)))) []
  let e : Eng := {
    st := esREADY, imem := im, dmem := dataImage b, key := key + 1, kid := kiKID b, safety := kiSAFETY b
    par := kiPARALLEL b, warm := kiWARM b, entry := kiENTRY b, wdog0 := kiWDOG0 b, wdog := kiWDOG0 b, inst := inst
    bin0 := bindingOf b pos 0, bin1 := bindingOf b pos 1, bout := bindingOf b pos 2, startAt := start }
  (List.range 4).foldl (fun t w => t.setReg (R.ENG_EXR_W0 x + 4 * w) 0) (s.setEngine x e)

/-- The engines of plot `p` in a mask. -/
def masked (p mask : Nat) : List Nat := ((List.range 32).filter fun e => mask.testBit e).map fun e => 32 * p + e

/-- Loads an image into the named engines of a plot (step 2 of R266). -/
def loadPlot (key start p mask : Nat) (s : State) : State :=
  let b := s.kernel key
  let n := max 1 (kiNENG b)
  let base := s.arr.instCtr
  let xs := masked p mask
  let s1 := ((List.range xs.length).foldl (fun t i =>
    loadEngine key (base + 1 + i / n) (i % n) start b (xs.getD i 0) t) s)
  let s2 := { s1 with arr := { s1.arr with instCtr := base + 1 + xs.length / n } }
  let s3 := writeShared p 0x10000 ((b.drop (kiShared b)).take (64 * kiSSIZE b)) s2
  plotRefresh p ((s3.setReg (R.ENG_PLKID p) (w32 (kiKID b))).setReg (R.ENG_PLKVER p) (w32 (kiKVER b)))

/-- The quarter-plot domains that a mask needs. -/
def quarters (p mask : Nat) : List Nat := ((List.range 4).filter fun q => bitsOf mask (8 * q) 8 != 0).map fun q => domQP p q

/-- The epoch nearest `e0` whose low 32 bits are `f`. -/
def nearestEpoch (e0 f : Nat) : Nat :=
  let c := e0 / 2 ^ 32 * 2 ^ 32 + f
  if c + 2 ^ 31 < e0 then c + 2 ^ 32 else if e0 + 2 ^ 31 < c ∧ 2 ^ 32 ≤ c then c - 2 ^ 32 else c

/-- The start epoch in force when step 2 ends (R266 step 3). -/
def startEpoch (s : State) (l : Load) : Nat :=
  let c := nearestEpoch (l.at_ / 50) l.field
  if l.field ≠ 0 ∧ l.at_ + 2000 ≤ 50 * c ∧ s.now < 50 * c then c else firstMultiple 1024 0 (s.now + 1)

/-- Steps 2 and 3 of R266 for one load whose domains are on. -/
def runLoad (l : Load) (s : State) : State :=
  let e := startEpoch s l
  let s1 := l.plots.foldl (fun t pm => loadPlot l.key e pm.1 pm.2 t) s
  match l.req with
  | some p => reply p .ok (leBytes 4 (e % 2 ^ 32)) 0 s1
  | none => s1

/-- Runs the loads whose quarter-plots are all on and whose engines' queued descriptors have run to completion (R257,
R266). -/
def runLoads (s : State) : State :=
  let ready := fun (l : Load) => l.plots.all fun pm =>
    ((quarters pm.1 pm.2).all fun d => s.domOn d) && !((masked pm.1 pm.2).any (hasDesc s))
  let go := s.arr.loads.filter ready
  go.foldl (fun t l => runLoad l t) { s with arr := { s.arr with loads := s.arr.loads.filter fun l => !ready l } }

/-- Plot `p` fails before step 2 of a load that names it: the engines stay IDLE, and the reply carries BLOCK_RESET or TIMEOUT
(R266). [DEDUCED, log 179] -/
def failLoads (st : Stat) (hit : Load → Bool) (s : State) : State :=
  (s.arr.loads.filter hit).foldl (fun t l => match l.req with | some p => reply p st [] 0 t | none => t)
    { s with arr := { s.arr with loads := s.arr.loads.filter fun l => !hit l } }

def loadNames (p : Nat) (l : Load) : Bool := l.plots.any fun e => e.1 == p

/-- Step 1 of R266: the named engines stop, their queues empty, their quarter-plots are switched on if needed. -/
def beginLoad (l : Load) (s : State) : State :=
  let xs := l.plots.flatMap fun pm => masked pm.1 pm.2
  let s1 := xs.foldl (fun t x =>
    let t1 := stopEngine x esIDLE t
    t1.setEngine x { st := if t1.quarterOn x then esIDLE else esOFF }) s
  let s2 := (l.plots.flatMap fun pm => quarters pm.1 pm.2).foldl (fun t d => if t.domOn d then t else domReqOn d t) s1
  runLoads { s2 with arr := { s2.arr with loads := s2.arr.loads ++ [l] } }

/-- What the cadastre records for an engine: the store key of its kernel plus 1, with its instance. -/
def kernRecord (e : Eng) : Nat := if e.key = 0 then 0 else e.key + 256 * e.inst
def recordKey (v : Nat) : Nat := v % 256

/-- The kernels that the cadastre records for the slot on plot `p` load again, instance by instance (R261, R266). -/
def reloadPlot (p : Nat) (s : State) : State :=
  match s.placed p with
  | none => s
  | some (q, slot) =>
    let keys := (List.range 32).map fun e => Smap.get (fun _ => 0) s.arr.kern (1024 * q + 32 * slot + e)
    (keys.filter (· != 0)).eraseDups.foldl (fun t k =>
      let mask := (List.range 32).foldl (fun m e => if keys.getD e 0 = k then setBit m e true else m) 0
      beginLoad { plots := [(p, mask)], key := recordKey k - 1, at_ := t.now } t) s

/-- Engine `x` starts from its entry point (R227); `again` restores the data image from the store. -/
def startEngine (again : Bool) (x : Nat) (s : State) : State :=
  let e := s.engine x
  let drop := fun (i : Nat) (t : State) => if (e.dec i).held.isSome then dropFrame x i t else t
  let s1 := if again then drop 1 (drop 0 s) else s
  let e1 := s1.engine x
  let e2 := { e1 with
    st := esRUNNING, stall := 0, g := [], ac := [], pc := e.entry, lnk := 0, loops := [], inc := 0, ph := 0, sflags := 0
    latch := [], wdog := e.wdog0, wdogAt := s.now, wdogUsed := 0, posted := [], buf := 0, cyc := 0, out := [], isOpen := false, fill := 0, wake := false
    barx := false, dmaExc := none, startAt := 0 }
  let e3 := if again then { e2 with dmem := dataImage (s.kernel (e.key - 1)), q0 := [], q1 := [], dec0 := {}, dec1 := {} }
    else e2
  plotRefresh (x / 32) ((List.range 4).foldl (fun t w => t.setReg (R.ENG_EXR_W0 x + 4 * w) 0) (s1.setEngine x e3))

/-- The start epoch `e` arrives: every READY engine named for it starts, and the cadastre records its kernel. -/
def engineStart (e : Nat) (s : State) : State :=
  let s0 := s.until (50 * e)
  let go := (s0.arr.engs.filter fun (x : Nat × Eng) =>
    x.2.st == esREADY && decide (x.2.startAt ≤ e) && s0.quarterOn x.1).map fun x => x.1
  let s1 := go.foldl (fun t x => startEngine false x t) s0
  let kern := go.foldl (fun (m : List (Nat × Nat)) x =>
    match s1.placed (x / 32) with
    | some (q, slot) => Smap.set (fun _ => 0) m (1024 * q + 32 * slot + x % 32) (kernRecord (s1.engine x))
    | none => m) s1.arr.kern
  if kern = s1.arr.kern then s1
  else nvCommit { kind := 5, kern := some kern } { s1 with arr := { s1.arr with kern := kern } }

def execEngineStart (e : Nat) (s : State) := run (engineStart e) s

/-! ## Staging (R264, R431, R554) -/

/-- The 64 sectors of the kernel store (R551). -/
def ksSectors : List Nat := ((List.range 32).map (· + 32)) ++ ((List.range 32).map (· + 96))

/-- The sectors of the store that hold nothing and are erased. -/
def ksFree (s : State) : List Nat :=
  let used := (s.nv.kstore.flatMap fun k => k.2.sects) ++ (s.arr.stages.flatMap fun k => k.2.sects) ++ s.nv.ksErase
  ksSectors.filter fun n => !used.contains n && !s.nv.incomp.testBit n

/-- The sectors an image of `total` bytes takes. -/
def ksNeed (total : Nat) : Nat := (total + 65471) / 65472

/-- The session of a parcel; id 0 for none. -/
def State.stage (s : State) (q : Nat) : Sess := Smap.get (fun _ => {}) s.arr.stages q
def State.setStage (s : State) (q : Nat) (v : Sess) : State :=
  { s with arr := { s.arr with stages := Smap.set (fun _ => {}) s.arr.stages q v } }

/-- The reply body of a chunk (R431). -/
def chunkReply (c : Sess) (lease : Nat) : List Byte := leBytes 4 c.id ++ leBytes 4 c.acc ++ leBytes 4 lease

/-- FLS_STAT follows the first operation of the queue; an erase writes its erase record as it begins (R552). -/
def flashHead (s : State) : State :=
  match s.fls.ops with
  | [] => s.fs R.FLS_STAT_OP 0
  | c :: _ =>
    let s1 := ((s.fs R.FLS_STAT_OP c.op).fs R.FLS_STAT_SECTOR c.sector).fs R.FLS_STAT_ASUSP 0
    if c.op = 1 then { s1 with nv := { s1.nv with eraseRec := some c.sector } } else s1

/-- A flash operation is queued; the first one runs. [DEDUCED, log 148] -/
def flashOp (o : FlsOp) (s : State) : State :=
  let s1 := { s with fls := { s.fls with ops := s.fls.ops ++ [o], at_ := s.lt } }
  let s2 := if s1.domOn domFLASH then s1 else domReqOn domFLASH s1
  if s.fls.ops = [] then flashHead s2 else s2

/-- While no operation runs, released sectors are erased in the background (R554). -/
def flashBackground (s : State) : State :=
  match s.fls.ops, s.nv.ksErase with
  | [], n :: _ => flashOp { op := 1, sector := n } s
  | _, _ => s

/-- The checks of a chunk that R431 gives in order, after the payload's own form: none when it is to be written. `c` is
the session, id 0 for none. -/
inductive ChunkCase where
  | fail (t : Stat)
  | again
  | write

def chunkCase (c : Sess) (b : List Byte) : ChunkCase :=
  let sess := u32 b 0
  let off := u32 b 4
  let total := u32 b 8
  let clen := u16 b 14
  if sess ≠ 0 ∧ sess ≠ c.id then .fail .stale
  else if sess = 0 ∧ c.id ≠ 0 then .fail (.refused rSTATE)
  else if c.id ≠ 0 ∧ c.lastLen ≠ 0 ∧ off = c.lastOff ∧ clen = c.lastLen then .again
  else if off ≠ c.acc ∨ total < off + clen ∨ (c.id ≠ 0 ∧ (total ≠ c.total ∨ u8 b 12 ≠ c.target)) then
    .fail (.badParam rSEQUENCE)
  else .write

/-- The form of a chunk: lengths, reserved bytes, CLEN a multiple of 4 except in the last chunk. [DEDUCED, log 78] -/
def chunkForm (b : List Byte) : Option Stat :=
  let clen := u16 b 14
  if b.length < 16 ∨ b.length ≠ 16 + clen then some (.badParam rLENGTH)
  else if clen = 0 ∨ 2000 < clen ∨ u8 b 13 ≠ 0 ∨ (clen % 4 ≠ 0 ∧ u32 b 4 + clen ≠ u32 b 8) then some .badParam
  else none

/-- The session after a chunk is written. -/
def chunkTake (c : Sess) (b : List Byte) (at_ : Nat) : Sess :=
  { c with acc := c.acc + u16 b 14, data := c.data ++ b.drop 16, at_ := at_, lastOff := u32 b 4, lastLen := u16 b 14 }

/-- KERNEL_STAGE. -/
def kernelStage (p : Packet) (s : State) : State :=
  let b := p.payload
  let q := p.parcel
  let c := s.stage q
  match chunkForm b with
  | some t => reply p t [] 0 s
  | none =>
    if 7 < u8 b 12 then reply p .badParam [] 0 s
    else match chunkCase c b with
      | .fail t => reply p t [] 0 s
      | .again => reply p .ok (chunkReply c 60000) 0 (s.setStage q { c with at_ := s.lt })
      | .write =>
        let key := 8 * q + u8 b 12
        let opening := c.id == 0
        let need := ksNeed (u32 b 8)
        if opening && (decide ((ksFree s).length < need) || decide (5 < need)) then reply p (.refused rCAPACITY) [] 0 s
        else if opening && (s.arr.kern.any fun k => recordKey k.2 == key + 1) then reply p (.refused rSTATE) [] 0 s
        else
          let (f, s1) := if opening then s.free else (0, s)
          let c0 := if opening then
              { id := f % (2 ^ 32 - 1) + 1, total := u32 b 8, target := u8 b 12, sects := (ksFree s).take need : Sess }
            else c
          let c1 := chunkTake c0 b s.lt
          let op : FlsOp := {
            op := 2, sector := c1.sects.getD (c1.acc / 65472) 0, units := (u16 b 14 + 255) / 256
            reply := some (p, chunkReply c1 60000) }
          let s2 :=
            if c1.acc = c1.total then
              let old := Smap.get (fun _ => {}) s1.nv.kstore key
              let s3 := { s1 with nv := { s1.nv with
                kstore := Smap.set (fun _ => {}) s1.nv.kstore key { bytes := c1.data, sects := c1.sects }
                ksErase := s1.nv.ksErase ++ old.sects } }
              s3.setStage q {}
            else s1.setStage q c1
          flashOp op s2

def execKernelStage (p : Packet) (s : State) := run (request 0x50 p kernelStage) s

/-- 60 s after a session's last chunk its image is discarded. -/
def kernelLeaseExpiry (q : Nat) (s : State) : State :=
  let c := s.stage q
  if c.id = 0 ∨ !s.due c.at_ 60000000000 then s
  else
    let s1 := s.setStage q {}
    flashBackground { s1 with nv := { s1.nv with ksErase := s1.nv.ksErase ++ c.sects } }

def execKernelLeaseExpiry (q : Fin 8) (s : State) := run (kernelLeaseExpiry q.val) s

/-- The slots of a mask. -/
def maskSlots (m : Nat) : List Nat := (List.range 32).filter fun i => m.testBit i

/-- LOAD_KERNEL (R265). -/
def loadKernel (p : Packet) (s : State) : State :=
  withLen 12 p (fun s =>
    let b := p.payload
    let q := p.parcel
    let key := 8 * q + u8 b 0
    let img := s.kernel key
    let slots := maskSlots (u32 b 4)
    let mask := u32 b 8
    let plots := slots.filterMap (s.slotPlot q)
    let busy := fun (pl : Nat) =>
      decide (s.plotState pl = psMIGR ∨ s.plotState pl = psTEST ∨ s.plotState pl = psRETIRED) || s.tb R.ENG_RETIRED_RET pl
    let xs := plots.flatMap fun pl => masked pl mask
    if 7 < u8 b 0 ∨ leAt b 1 3 ≠ 0 ∨ slots = [] ∨ mask = 0 then reply p .badParam [] 0 s
    else if !kernelOk img then reply p .badParam [] 0 s
    else if !kernelSigned s img then reply p .authFail [] 0 s
    else if kiSAFETY img ∧ q ≠ 0 then reply p (.refused rSTATE) [] 0 s
    else if plots.length ≠ slots.length then reply p (.refused rSTATE) [] 0 s
    else if plots.any busy then reply p (.refused rSTATE) [] 0 s
    else if plots.any fun pl => (s.plot pl).shut then reply p (.refused rTHERMAL) [] 0 s
    else if (List.range (kiNBIND img)).any fun i =>
        !streamOk s q (kiBinding img i).2.1 (kiBinding img i).2.2 then reply p (.refused rSTATE) [] 0 s
    else if kiDMA img ∧ !s.capFit then reply p .absent [] 0 s
    else if kiDMA img ∧ s.fg (R.CAD_PCAP_CAPSZ q) = 0 then reply p (.refused rSTATE) [] 0 s
    else if (kiSAFETY img || xs.any (holdsSafety s)) && s.energised then reply p .safetyLock [] 0 s
    else beginLoad { req := some p, field := p.seqep, plots := plots.map fun pl => (pl, mask), key := key, at_ := s.now } s) s

def execLoadKernel (p : Packet) (s : State) := run (request 0x51 p loadKernel) s

/-! ## Engine control (R253, R254) -/

/-- A resumed engine continues at PC, in the stall it was halted in; its watchdog counts on, and an exception that waited is
taken. -/
def resumeEngine (x : Nat) (s : State) : State :=
  let e := s.engine x
  let s1 := plotRefresh (x / 32) (s.setEngine x { e with st := esRUNNING, dmaExc := none, wdogAt := s.now - e.wdogUsed })
  match e.dmaExc with
  | some a => takeAsync x xcDMA a s1
  | none => s1

/-- An action applies in the state an engine is in: 1 halt, 2 resume, 3 restart. -/
def actionApplies (act st : Nat) : Bool :=
  if act = 1 then st == esRUNNING else if act = 2 then st == esHALTED else st == esHALTED || st == esEXCEPTION

def engineAction (act x : Nat) (s : State) : State :=
  if !actionApplies act (s.engine x).st then s
  else if act = 1 then stopEngine x esHALTED s
  else if act = 2 then resumeEngine x s
  else startEngine true x s

/-- ENGINE_CTL. -/
def engineCtl (p : Packet) (s : State) : State :=
  withLen 8 p (fun s =>
    let b := p.payload
    let act := u8 b 1
    let mask := u32 b 4
    if act = 0 ∨ 3 < act ∨ 31 < u8 b 0 ∨ u16 b 2 ≠ 0 ∨ mask = 0 then reply p .badParam [] 0 s
    else match s.slotPlot p.parcel (u8 b 0) with
      | none => reply p (.refused rPERMISSION) [] 0 s
      | some pl =>
        let xs := masked pl mask
        if (s.plot pl).shut then reply p (.refused rTHERMAL) [] 0 s
        else if act ≠ 2 ∧ xs.any (holdsSafety s) ∧ s.energised then reply p .safetyLock [] 0 s
        else
          let sts := xs.map fun x => if actionApplies act (s.engine x).st then Stat.ok else
            if (s.engine x).st = esOFF then Stat.blockReset else Stat.refused rSTATE
          replyUnits p sts [] .ok (xs.foldl (fun t x => engineAction act x t) s)) s

/-- The request of ENGINE_CTL whose action is `act`; a packet with another action is not this row's event. -/
def engineCtlRow (act : Nat) (p : Packet) (s : State) : State :=
  if u8 p.payload 1 = act then request 0x52 p engineCtl s else s

def execEngineHalt (p : Packet) (s : State) := run (engineCtlRow 1 p) s
def execEngineResume (p : Packet) (s : State) := run (engineCtlRow 2 p) s
def execEngineRestart (p : Packet) (s : State) := run (engineCtlRow 3 p) s

/-- ENGINE_STAT. -/
def engineStat (p : Packet) (s : State) : State :=
  withLen 4 p (fun s =>
    let k := u8 p.payload 0
    if k = 0 ∨ 3 < k then reply p .badParam [] 0 s
    else
      let slots := (List.range k).map fun i => u8 p.payload (1 + i)
      let sts := slots.map fun i => if (s.slotPlot p.parcel i).isSome then Stat.ok else Stat.refused rPERMISSION
      let res := (slots.filterMap (s.slotPlot p.parcel)).flatMap fun pl =>
        wordBytes (s.reg (R.ENG_PLSTAT pl)) ++ wordBytes (s.reg (R.ENG_PLFLT pl)) ++ wordBytes (s.reg (R.ENG_PLRUN pl))
        ++ wordBytes (s.reg (R.ENG_PLEXC pl)) ++ (engines pl).flatMap fun x =>
          (List.range 4).flatMap fun w => wordBytes (s.reg (R.ENG_EXR_W0 x + 4 * w))
      replyUnits p sts res .ok s) s

def execEngineStat (p : Packet) (s : State) := run (request 0x53 p engineStat) s

/-! ## Plots (R252, R254, R271) -/

/-- A plot reset: engines to IDLE, memories cleared, descriptors ended; the sticky bits stay. [DEDUCED, log 75] -/
def plotReset (p : Nat) (s : State) : State :=
  let s1 := dmaAbort p ((engines p).foldl (fun t x => closeFrame x t) s)
  let s2 := (engines p).foldl (fun t x => t.setEngine x { st := if t.quarterOn x then esIDLE else esOFF }) s1
  runLoads (plotRefresh p (s2.setPlot p { s2.plot p with mem := [], dma := [] }))

/-- A write of ENG_PLCTLp. -/
def engPlctlWrite (p : Nat) (v : Word) (s : State) : Stat × State :=
  let rst := wf v (R.ENG_PLCTL_RST p) == 1
  let halt := wf v (R.ENG_PLCTL_HALT p) == 1
  let res := wf v (R.ENG_PLCTL_RESUME p) == 1
  if (rst || halt) && (engines p).any (holdsSafety s) && s.energised then (.safetyLock, s)
  else
    let s1 := if rst then plotReset p s else s
    let s2 := if halt then (engines p).foldl (fun t x => engineAction 1 x t) s1 else s1
    let s3 := if res then (engines p).foldl (fun t x => engineAction 2 x t) s2 else s2
    let s4 := if wf v (R.ENG_PLCTL_ECCCLR p) = 1 then s3.setReg (R.ENG_PLECC p) 0 else s3
    (.ok, s4.fs (R.ENG_PLCTL_CLKREQ p) (wf v (R.ENG_PLCTL_CLKREQ p)))

/-- A write of ENG_PLCTLp with bit `i` at 1. -/
def plctl (i : Nat) (p : Fin 32) (v : Word) (s : State) : State :=
  direct (R.ENG_PLCTL p.val) (w32 (setBit v.toNat i true)) (engPlctlWrite p.val) s

def execPlotReset (p : Fin 32) (v : Word) (s : State) := run (plctl 31 p v) s
def execPlotHalt (p : Fin 32) (v : Word) (s : State) := run (plctl 30 p v) s
def execPlotResume (p : Fin 32) (v : Word) (s : State) := run (plctl 29 p v) s
def execPlotEccClear (p : Fin 32) (v : Word) (s : State) := run (plctl 28 p v) s

def execPlotClockStep (p : Fin 32) (s : State) := run (plotClockStep p.val) s

/-! ## Quarter-plot domains (R223, R46) -/

/-- A quarter-plot comes on: its engines become IDLE, and waiting loads may run. -/
def quarterUp (p q : Nat) (s : State) : State :=
  let xs := (List.range 8).map fun e => 32 * p + 8 * q + e
  runLoads (plotRefresh p (xs.foldl (fun t x => t.setEngine x { t.engine x with st := esIDLE }) s))

/-- A quarter-plot goes off: its engines lose their state. -/
def quarterDown (p q : Nat) (s : State) : State :=
  let xs := (List.range 8).map fun e => 32 * p + 8 * q + e
  plotRefresh p (xs.foldl (fun t x => (closeFrame x t).setEngine x {}) s)

/-- A plot that holds no slot goes to a state of R271; `psOFF` becomes what its domains show. -/
def vacate (p st : Nat) (s : State) : State :=
  plotRefresh p (((s.fs (R.ENG_PLSTAT_PARCEL p) 0).fs (R.ENG_PLSTAT_SLOT p) 0).fs (R.ENG_PLSTAT_STATE p) st)

/-- A thermally shut plot is restored after cooling (R261, R535); one whose test was abandoned becomes the spare (R508). -/
def plotThermalRestore (p : Nat) (s : State) : State :=
  if !(s.plot p).shut ∨ s.fb R.THM_STAT_JSHUT then s
  else
    let s1 := s.setPlot p { s.plot p with shut := false }
    let s2 := (List.range 4).foldl (fun t q => domReqOn (domQP p q) t) s1
    if s2.bst.aband = some p then
      vacate p psSPARE { s2.fs R.ENG_STAT_SPARE p with bst := { s2.bst with aband := none } }
    else reloadPlot p s2

def execPlotThermalRestore (p : Fin 32) (s : State) := run (plotThermalRestore p.val) s

/-! ## Moves (R267, R268, R506) -/

/-- Places a slot on a plot, and a plot's registers with it. -/
def placeSlot (q slot p : Nat) (s : State) : State :=
  let s1 := { s with arr := { s.arr with place := Smap.set (fun _ => 0) s.arr.place (32 * q + slot) (p + 1) } }
  plotRefresh p (((s1.fs (R.ENG_PLSTAT_PARCEL p) q).fs (R.ENG_PLSTAT_SLOT p) slot).fs (R.ENG_PLSTAT_STATE p) psIDLE)

/-! ## Placement (R300, R301) -/

def State.spare (s : State) : Nat := s.fg R.ENG_STAT_SPARE
def setSpare (p : Nat) (s : State) : State :=
  let s1 := s.fs R.ENG_STAT_SPARE p
  if p < 32 then vacate p psSPARE s1 else s1

def State.isRetired (s : State) (p : Nat) : Bool := s.tb R.ENG_RETIRED_RET p

/-- Fitted, not retired, not the spare and not placed. -/
def freePlots (s : State) : List Nat := (List.range s.plotsFit).filter fun p =>
  !s.isRetired p && p != s.spare && (s.placed p).isNone && s.plotState p != psTEST
  && (match s.arr.move with | some m => m.dst != p | none => true)

/-- Brings CAD_PSTATq.NPLACED to the placements. -/
def placedRefresh (s : State) : State :=
  (List.range 8).foldl (fun t q => t.fs (R.CAD_PSTAT_NPLACED q) (t.plotsOf q).length) s

/-- Places a slot on the lowest-numbered free plot, if it is not placed. The slot of a PL00 or PL01 that failed its
self-test in this release waits for the next (R504). [DEDUCED, log 80] -/
def placeLowest (q slot : Nat) (s : State) : State :=
  if (s.slotPlot q slot).isSome ∨ (q = 0 ∧ slot < 2 ∧ s.rst.held.contains slot) then s
  else match freePlots s with
    | [] => s
    | p :: _ => placeSlot q slot p s

/-- Every slot of every parcel that is not placed takes a plot, in the order P0 to P7. -/
def placeAll (s : State) : State :=
  placedRefresh ((List.range 8).foldl (fun t q =>
    (List.range (t.fg (R.CAD_PSTAT_NSLOT q))).foldl (fun u i => placeLowest q i u) t) s)

/-- The slot has moved: the source plot enters its test, or is the spare again. Slots that were without a plot take one (R300). -/
def moveEnd (m : Move) (s : State) : State :=
  let s1 := placeSlot m.q m.slot m.dst (plotReset m.src s)
  let s2 := vacate m.src (if m.test then psTEST else psSPARE) s1
  let s3 := if m.test then s2.fs R.BST_STAT_TESTPLOT m.src else s2
  placeAll { s3.fs R.ENG_STAT_SPARE (if m.test then 0x3F else m.src) with arr := { s3.arr with move := none } }

/-- The destination of a move takes on what the source's registers show of parcel, slot and image. -/
def takeOver (m : Move) (s : State) : State :=
  (((s.setReg (R.ENG_PLKID m.dst) (s.reg (R.ENG_PLKID m.src))).setReg (R.ENG_PLKVER m.dst) (s.reg (R.ENG_PLKVER m.src))).fs
    (R.ENG_PLSTAT_PARCEL m.dst) m.q).fs (R.ENG_PLSTAT_SLOT m.dst) m.slot

/-- A move is scheduled: both plots show it (R271). -/
def scheduleMove (m : Move) (s : State) : State :=
  let s1 := (s.fs (R.ENG_PLSTAT_STATE m.src) psMIGR).fs (R.ENG_PLSTAT_STATE m.dst) psMIGR
  { s1 with arr := { s1.arr with move := some m } }

/-- The freeze epoch of a copying move: the source engines stop between instructions, their descriptors end, and their
whole state goes to the destination, which takes the plot's subscriptions. -/
def parcelMoveFreeze (s : State) : State :=
  match s.arr.move with
  | none => s
  | some m =>
    if m.parallel ∨ m.phase ≠ 0 then s
    else
      let s0 := dmaAbort m.src (s.until (50 * m.epoch))
      let s1 := (List.range 32).foldl (fun t e =>
        let g := t.engine (32 * m.src + e)
        let d := if g.st = esRUNNING then { g with saved := g.stall, stall := 7 } else g
        let t1 := (t.setEngine (32 * m.dst + e) d).setEngine (32 * m.src + e) { st := if t.quarterOn (32 * m.src + e) then 1 else 0 }
      (List.range 4).foldl (fun u w => u.setReg (R.ENG_EXR_W0 (32 * m.dst + e) + 4 * w)
        (t.reg (R.ENG_EXR_W0 (32 * m.src + e) + 4 * w))) t1) s0
      let s2 := s1.setPlot m.dst { s1.plot m.dst with mem := (s1.plot m.src).mem }
      let s3 := takeOver m s2
      let s4 := { s3 with
        arr := { s3.arr with move := some { m with phase := 1 } }
        fab := { s3.fab with flight := s3.fab.flight.map fun f =>
          if f.eng / 32 = m.src then { f with eng := 32 * m.dst + f.eng % 32 } else f } }
      plotRefresh m.src (plotRefresh m.dst s4)

def execParcelMoveFreeze (s : State) := run parcelMoveFreeze s

/-- The copy ends: the slot is remapped and the destination engines continue. -/
def parcelMoveComplete (s : State) : State :=
  match s.arr.move with
  | none => s
  | some m =>
    if m.parallel ∨ m.phase ≠ 1 then s
    else
      let s1 := (engines m.dst).foldl (fun t x =>
        let g := t.engine x
        if g.stall = 7 then t.setEngine x { g with stall := g.saved } else t) s
      moveEnd m s1

def execParcelMoveComplete (s : State) := run parcelMoveComplete s

/-- The destination of a parallel move is loaded with the same images and starts with its outputs suppressed. -/
def parallelMoveStart (s : State) : State :=
  match s.arr.move with
  | none => s
  | some m =>
    if !m.parallel ∨ m.phase ≠ 0 then s
    else
      let s0 := s.until (50 * m.epoch)
      let s1 := (List.range 32).foldl (fun t e =>
        let g := t.engine (32 * m.src + e)
        if g.key = 0 then t
        else
          let x := 32 * m.dst + e
          let t1 := t.setEngine x { g with
            dmem := dataImage (t.kernel (g.key - 1)), q0 := [], q1 := [], dec0 := {}, dec1 := {}, mute := true }
          startEngine false x t1) s0
      let mem := ((engines m.dst).filter fun x => (s1.engine x).key != 0).foldl (fun (a : List (Nat × Byte)) x =>
        let b := s1.kernel ((s1.engine x).key - 1)
        memWrite a 0x10000 ((b.drop (kiShared b)).take (64 * kiSSIZE b))) []
      let warm := (engines m.dst).foldl (fun a x => max a (s1.engine x).warm) 1
      let s2 := takeOver m (s1.setPlot m.dst { s1.plot m.dst with mem := mem })
      { s2 with arr := { s2.arr with move := some { m with phase := 1, epoch := m.epoch + 1024 * warm } } }

def execParallelMoveStart (s : State) := run parallelMoveStart s

/-- The handover epoch: the fabric takes the output from the destination and the source engines stop. -/
def parallelMoveHandover (s : State) : State :=
  match s.arr.move with
  | none => s
  | some m =>
    if !m.parallel ∨ m.phase ≠ 1 then s
    else
      let s0 := s.until (50 * m.epoch)
      let s1 := (engines m.dst).foldl (fun t x => t.setEngine x { t.engine x with mute := false }) s0
      moveEnd m s1

def execParallelMoveHandover (s : State) := run parallelMoveHandover s

/-- A move is given up: a copy that has begun is completed, otherwise the slot stays where it is. [DEDUCED, log 180] -/
def dropMove (s : State) : State :=
  match s.arr.move with
  | none => s
  | some m =>
    if m.phase = 1 ∧ !m.parallel then parcelMoveComplete s
    else
      let s1 := if m.phase = 1 then plotReset m.dst s else s
      let s2 := plotRefresh m.src (s1.fs (R.ENG_PLSTAT_STATE m.src) psIDLE)
      vacate m.dst (if s.fg R.ENG_STAT_SPARE = m.dst then psSPARE else psOFF) { s2 with arr := { s2.arr with move := none } }

/-! ## Descriptors (R247 to R251) -/

def execDmaDescriptorStart (p : Fin 32) (ecc : Fin 3) (s : State) :=
  run (fun s => runLoads (dmaDescriptorStart p.val ecc.val s)) s

def execDmaDescriptorComplete (p : Fin 32) (bad : Option Nat) (cor : Nat) (s : State) :=
  run (fun s => runLoads (dmaDescriptorComplete p.val bad cor s)) s

end Sys2Proof.Machine
end

