-- ==== Sys2Proof/Machine/Fabric.lean ====
section
/-! DEFINITION. The fabric: mesh links (R273, R276, R277), the stream tables (R279 to R286) and the FAB counters: the
meanings of the rows MESH_LINK_FAILED to FAB_PDEC_CLEAR. -/
namespace Sys2Proof.Machine

/-! ## Links and routes -/

/-- Whether some parcel holds a mesh reservation. -/
def admitted (s : State) : Bool := (List.range 8).any fun q => s.fg (R.FAB_PRES_MRES q) + s.fg (R.FAB_PRES_BRES q) != 0

/-- Brings NLFAIL and CAPLOW to the links in service and the ports' rates (R293). -/
def capLow (s : State) : State :=
  let n := popCount 32 (s.fg R.FAB_LFAIL0_LINK) + popCount 20 (s.fg R.FAB_LFAIL1_LINK)
  let slow := (List.range s.portsFit).any fun p => s.tb R.TRV_STAT_DEG p
  let trv := (List.range 8).any fun q => s.fb (R.CAD_PTRV_TRES q)
  (s.fs R.FAB_STAT_NLFAIL n).fs R.FAB_STAT_CAPLOW (b2n ((n != 0 && admitted s) || (slow && trv)))

def setLink (l : Nat) (b : Bool) (s : State) : State :=
  capLow (if l < 32 then s.fbit R.FAB_LFAIL0_LINK l b else s.fbit R.FAB_LFAIL1_LINK (l - 32) b)

def State.setRetests (s : State) (l n : Nat) : State :=
  { s with fab := { s.fab with retests := Smap.set (fun _ => 0) s.fab.retests l n } }

def State.setRetestAt (s : State) (l : Nat) : State :=
  { s with fab := { s.fab with retestAt := Smap.set (fun _ => 0) s.fab.retestAt l s.lt } }

/-- A handshake of link `l` stays open for 1 us or shows a code violation. -/
def meshLinkFailed (l : Nat) (s : State) : State :=
  if 51 < l ∨ s.linkBad l then s
  else
    let pathOk := fun (t : State) => (t.plotsOf 0).all fun p => reaches t 0 p
    let s1 := (((setLink l true s).setRetests l 0).setRetestAt l).raise 0x29 islSYAO l
    if pathOk s && !pathOk s1 then s1.raise 0x07 islSYAO 0 else s1

def execMeshLinkFailed (l : Fin 52) (s : State) := run (meshLinkFailed l.val) s

/-- A retest of a failed link, every 10 ms. -/
def meshLinkRetest (l : Nat) (good : Bool) (s0 : State) : State :=
  if !s0.linkBad l ∨ !s0.due (Smap.get (fun _ => 0) s0.fab.retestAt l) 10000000 then s0
  else
    let s := s0.setRetestAt l
    let n := if good then Smap.get (fun _ => 0) s.fab.retests l + 1 else 0
    if 10 ≤ n then (setLink l false s).setRetests l 0 else s.setRetests l n

def execMeshLinkRetest (l : Fin 52) (good : Bool) (s : State) := run (meshLinkRetest l.val good) s

/-! ## STREAM_SUB (R280, R285, R286, R428) -/

/-- One entry of a STREAM_SUB request: table (0 subscription, 1 publication), index, action (0 set, 1 clear), the
reserved byte and the two words. -/
structure SubEnt where
  tab : Nat
  idx : Nat
  act : Nat
  pad : Nat
  w0 : Nat
  w1 : Nat
  deriving DecidableEq, Repr

def subEnts (b : List Byte) : List SubEnt := (List.range (u8 b 0)).map fun i =>
  let o := 4 + 12 * i
  { tab := u8 b o, idx := u8 b (o + 1), act := u8 b (o + 2), pad := u8 b (o + 3), w0 := u32 b (o + 4), w1 := u32 b (o + 8) }

/-- The words of an entry after the changes that wait. -/
def pendWords (s : State) (q tab idx : Nat) : Nat × Nat :=
  match (s.fab.pend.filter fun (e : Nat × Nat × Nat × Nat × Word × Word) =>
    e.2.1 == q && e.2.2.1 == tab && e.2.2.2.1 == idx).getLast? with
  | some (_, _, _, _, w0, w1) => (w0.toNat, w1.toNat)
  | none => if tab = 0 then (s.subW0 q idx, s.subW1 q idx) else (s.pubW0 q idx, s.pubW1 q idx)

/-- The words of an entry after the request `es` of parcel `r` as well. -/
def nextWords (s : State) (r : Nat) (es : List SubEnt) (q tab idx : Nat) : Nat × Nat :=
  match (es.filter fun e => r == q && e.tab == tab && e.idx == idx).getLast? with
  | some e => if e.act = 1 then (0, 0) else (e.w0, e.w1)
  | none => pendWords s q tab idx

def entRate (w : Nat) : Nat := bitsOf w 14 11

/-- First case of R285 for one entry: its form. -/
def subFormOk (s : State) (q : Nat) (es : List SubEnt) (e : SubEnt) : Bool :=
  let k := entKind e.w0
  let c := entClass e.w0
  let arg := e.w0 % 2 ^ 20
  let own := if q = 0 then 0 else 1
  decide (e.tab ≤ 1 ∧ e.idx ≤ 31 ∧ e.act ≤ 1 ∧ e.pad = 0) && (e.act == 1 ||
    (if e.tab = 1 then
      let m := addrMode e.w1
      decide (k = 0xF ∧ c ≤ 2 ∧ e.w0 % 2 ^ 14 = 0 ∧ 1 ≤ entRate e.w0 ∧ entRate e.w0 ≤ 125
        ∧ (e.w1 = 0 ∨ e.w1 < 65536 ∧ 8 ≤ m ∧ m ≤ 0xC))
    else
      bitsOf e.w0 20 5 == 0 && match k with
        | 1 => c == own
        | 2 => c == own && arg == 0 && e.w1 == 0
        | 3 => c == 1 && arg < 4096 && e.w1 == 0
        | 4 => c == 1 && arg < 65536
        | 5 => arg < 256 && e.w1 == 0 && c == entClass (nextWords s q es (pubParcel e.w0) 1 (pubIndex e.w0)).1
        | 6 => c == own && arg == 0 && e.w1 == 0
        | _ => false))

/-- Second case: a forwarding destination at a host port of this station that is not fitted, a station of another traverse
where no tie port is fitted, or a publication in a plot that is not fitted. [DEDUCED, log 181] -/
def subAbsent (s : State) (e : SubEnt) : Bool :=
  e.act == 0 &&
    (if e.tab = 1 then e.w1 != 0 && addrField e.w1 == s.ownAddr && decide (addrMode e.w1 < 0xC)
      && decide (s.portsFit ≤ addrMode e.w1 - 8)
    else (entKind e.w0 == 3 && e.w0 % 4096 / 64 != s.ownAddr / 64 && !s.tieFit)
      || (entKind e.w0 == 5 && (boundTo s (pubParcel e.w0) 1 (pubIndex e.w0)).any fun x => decide (s.plotsFit ≤ x / 32)))

/-- Whether an easement lets `q` subscribe to entry `i` of parcel `r`. -/
def pubEased (s : State) (q r i : Nat) : Bool := (List.range 16).any fun k =>
  s.fg (R.CAD_EASE_W0_KIND k) == 1 && s.fg (R.CAD_EASE_W0_GRANTOR k) == r && s.fg (R.CAD_EASE_W0_GRANTEE k) == q
  && s.fg (R.CAD_EASE_W0_ENTRY k) == i

/-- Whether every channel of a mask over two words (bit i of `lo` channel i + 1, bit i of `hi` channel 33 + i) is permitted. -/
def maskOk (s : State) (q lo hi n : Nat) : Bool := (upTo n).all fun c =>
  !(if c ≤ 32 then lo.testBit (c - 1) else hi.testBit (c - 33)) || s.chanOk q c

/-- What the cadastre permits (third case). -/
def subMay (s : State) (q w0 w1 : Nat) : Bool :=
  match entKind w0 with
  | 1 => maskOk s q w1 (w0 % 2 ^ 20) 52
  | 2 => s.granted q 0
  | 3 => s.granted q 2
  | 4 => q != 0 && s.granted q 3 && maskOk s q w1 (w0 % 65536) 48
  | 5 => (pubParcel w0 == q || pubEased s q (pubParcel w0) (pubIndex w0)) && (q == 0 || entClass w0 != 0)
  | 6 => s.granted q 1
  | _ => q == 0 || entClass w0 != 0

/-- The bit rate of another station's reference stream: its block rate times 96, at the block length its packets last showed,
or the shortest one before any has come (R84, R285). [DESIGN CHOICE, log 182] -/
def crefRate (s : State) (stn : Nat) : Nat :=
  20000000 * 96 / (((s.svc.refs.filter fun r => r.stn == stn).getLast?.map fun r => r.d).getD 20)

/-- The bit rate of P0's cell state stream (R215, R288): a record of 128 bits per estimated cell in every 100 ms. -/
def cstateRate (s : State) : Nat := if s.fb R.EST_CTRL_EN then 1280 * (estCells s 0).length else 0

/-- The bits per second that the enabled entries of a parcel declare in a class (R285, R288), with P0's cell state stream in
class M. -/
def declared (s : State) (q : Nat) (es : List SubEnt) (cls : Nat) : Nat :=
  (List.range 32).foldl (fun n i =>
    let p := (nextWords s q es q 1 i).1
    let w := (nextWords s q es q 0 i).1
    let own := if entOn p && entClass p == cls then entRate p * 100000000 else 0
    let sub :=
      if !entOn w || entClass w != cls then 0
      else if entKind w = 5 then entRate (nextWords s q es (pubParcel w) 1 (pubIndex w)).1 * 100000000
      else if entKind w = 3 ∧ w % 4096 ≠ s.ownAddr then crefRate s (w % 4096)
      else 0
    n + own + sub) (if q = 0 ∧ cls = 1 then cstateRate s else 0)

/-- P0's class S publications in 0.1 Gbit/s. -/
def classS (s : State) (es : List SubEnt) : Nat := (List.range 32).foldl (fun n i =>
  let p := (nextWords s 0 es 0 1 i).1
  n + if entOn p && entClass p == 0 then entRate p else 0) 0

/-- The nodes at which the source of a subscription enters the mesh (R275): groups of which one node each must reach the
subscriber. Another station's stream enters at the gateway of a fitted port. -/
def sourceNodes (s : State) (w0 : Nat) : List (List Nat) :=
  match entKind w0 with
  | 3 => [if w0 % 4096 = s.ownAddr then [nodeBRX] else (List.range s.portsFit).map nodePort]
  | 4 => (estNodes s 0).map fun a => [a]
  | 5 => (boundTo s (pubParcel w0) 1 (pubIndex w0)).map fun x => [x / 32]
  | _ => [[nodeBRX]]

def sourceReached (s : State) (q : Nat) (e : SubEnt) : Bool :=
  e.act == 1 || e.tab == 1
  || (sourceNodes s e.w0).all fun g => (s.plotsOf q).all fun b => g.any fun a => reaches s a b

/-- STREAM_SUB. -/
def streamSub (p : Packet) (s : State) : State :=
  let b := p.payload
  let q := p.parcel
  let n := u8 b 0
  let es := subEnts b
  let bound := es.flatMap fun e => boundTo s q e.tab e.idx
  if b.length < 4 ∨ b.length ≠ 4 + 12 * n then reply p (.badParam rLENGTH) [] 0 s
  else if n = 0 ∨ 64 < n ∨ leAt b 1 3 ≠ 0 ∨ !(es.all (subFormOk s q es)) then reply p .badParam [] 0 s
  else if es.any (subAbsent s) then reply p .absent [] 0 s
  else if es.any fun e => e.act == 0 && !subMay s q e.w0 e.w1 then reply p .refused [] 0 s
  else if bound.any (holdsSafety s) ∧ s.energised then reply p .safetyLock [] 0 s
  else if bound.any fun x => decide (esREADY ≤ (s.engine x).st ∧ (s.engine x).st ≤ esHALTED) then reply p .refused [] 0 s
  else if s.fg (R.FAB_PRES_MRES q) * 100000000 < declared s q es 1 ∨ s.fg (R.FAB_PRES_BRES q) * 100000000 < declared s q es 2 then
    reply p (.refused rRESERVATION) [] 0 s
  else if (q = 0 ∧ 160 < classS s es) ∨ !(es.all (sourceReached s q)) then reply p (.refused rCAPACITY) [] 0 s
  else
    let e0 := firstMultiple 1024 2000 s.now
    let add := es.map fun e =>
      if e.act = 1 then (e0, q, e.tab, e.idx, (0 : Word), (0 : Word)) else (e0, q, e.tab, e.idx, w32 e.w0, w32 e.w1)
    reply p .ok (leBytes 8 e0) 0 { s with fab := { s.fab with pend := s.fab.pend ++ add } }

def execStreamSub (p : Packet) (s : State) := run (request 0x54 p streamSub) s

/-- Writes one table entry. -/
def setEntry (q tab idx : Nat) (w0 w1 : Word) (s : State) : State :=
  if tab = 0 then
    ((s.setReg (R.FAB_SUB q idx 0) w0).setReg (R.FAB_SUB q idx 1) w1).fbit (R.FAB_PSUB_EN q) idx (entOn w0.toNat)
  else ((s.setReg (R.FAB_PUB q idx 0) w0).setReg (R.FAB_PUB q idx 1) w1).fbit (R.FAB_PPUB_EN q) idx (entOn w0.toNat)

/-- The earliest effect epoch of the changes that wait arrives. [DEDUCED, log 83] -/
def streamSubEffect (s : State) : State :=
  match s.fab.pend with
  | [] => s
  | c :: _ =>
    let e := s.fab.pend.foldl (fun m (x : Nat × Nat × Nat × Nat × Word × Word) => min m x.1) c.1
    let s0 := s.until (50 * e)
    let now := s0.fab.pend.filter fun (x : Nat × Nat × Nat × Nat × Word × Word) => decide (x.1 ≤ e)
    let later := s0.fab.pend.filter fun (x : Nat × Nat × Nat × Nat × Word × Word) => !decide (x.1 ≤ e)
    now.foldl (fun t x => setEntry x.2.1 x.2.2.1 x.2.2.2.1 x.2.2.2.2.1 x.2.2.2.2.2 t) { s0 with fab := { s0.fab with pend := later } }

def execStreamSubEffect (s : State) := run streamSubEffect s

/-- The highest decimation level among the bindings of a subscription entry. -/
def entryQmax (s : State) (q idx : Nat) : Nat := (boundTo s q 0 idx).foldl (fun m x =>
  let e := s.engine x
  let a := if e.bin0 = some idx then e.dec0.q else 0
  let c := if e.bin1 = some idx then e.dec1.q else 0
  max m (max a c)) 0

/-- STREAM_STAT. -/
def streamStat (p : Packet) (s : State) : State :=
  let b := p.payload
  let q := p.parcel
  let n := u8 b 0
  let es := (List.range n).map fun i => (u8 b (4 + 4 * i), u8 b (5 + 4 * i), u16 b (6 + 4 * i))
  let ok := fun (e : Nat × Nat × Nat) => decide (e.1 ≤ 1 ∧ e.2.1 ≤ 31 ∧ e.2.2 = 0)
  if b.length < 4 ∨ b.length ≠ 4 + 4 * n then reply p (.badParam rLENGTH) [] 0 s
  else if n = 0 ∨ 64 < n ∨ leAt b 1 3 ≠ 0 then reply p .badParam [] 0 s
  else
    let res := (es.filter ok).flatMap fun (e : Nat × Nat × Nat) =>
      let key := 256 * e.1 + 32 * q + e.2.1
      let w := if e.1 = 0 then (s.subW0 q e.2.1, s.subW1 q e.2.1) else (s.pubW0 q e.2.1, s.pubW1 q e.2.1)
      leBytes 4 w.1 ++ leBytes 4 w.2 ++ leBytes 4 (Smap.get (fun _ => 0) s.fab.got key)
      ++ leBytes 4 (Smap.get (fun _ => 0) s.fab.lost key)
      ++ leBytes 4 (if e.1 = 0 then entryQmax s q e.2.1 else 0)
    replyUnits p (es.map fun e => if ok e then Stat.ok else Stat.badParam) res .ok s

def execStreamStat (p : Packet) (s : State) := run (request 0x55 p streamStat) s

/-! ## Counter clears (R296) -/

def fabSclossWrite (v : Word) (s : State) : Stat × State :=
  (.ok, if wf v R.FAB_SCLOSS_CLR = 1 then s.fs R.FAB_SCLOSS_COUNT 0 else s)

def execFabSclossClear (v : Word) (s : State) := run (direct R.FAB_SCLOSS (w32 (setBit v.toNat 31 true)) fabSclossWrite) s

def fabPdecWrite (q : Nat) (v : Word) (s : State) : Stat × State :=
  (.ok, if wf v (R.FAB_PDEC_CLR q) = 1 then s.fs (R.FAB_PDEC_DROPS q) 0 else s)

def execFabPdecClear (q : Fin 8) (v : Word) (s : State) :=
  run (direct (R.FAB_PDEC q.val) (w32 (setBit v.toNat 15 true)) (fabPdecWrite q.val)) s

end Sys2Proof.Machine
end

