-- ==== Sys2Proof/Machine/Parcels.lean ====
section
/-! DEFINITION. Parcels, the cadastre and deeds (R297 to R327): placement of slots, deeds, scrubs, holders, sessions, the
restore of the cadastre; the meanings of the rows DEED_APPLY to CAD_PAUTHF_CLEAR and CADASTRE_RESTORE. -/
namespace Sys2Proof.Machine

/-! ## The record -/

/-- What a parcel holds in a record that does not list it (R304). -/
def parDef (q : Nat) : CadParcel := if q = 0 then { formed := true, nslot := 2, nvbase := 64, nvcnt := 64 } else {}

def CadRec.parcel (r : CadRec) (q : Nat) : CadParcel := Smap.get parDef r.par q
def CadRec.setParcel (r : CadRec) (q : Nat) (v : CadParcel) : CadRec := { r with par := Smap.set parDef r.par q v }

/-- The words of easement `k`. -/
def CadRec.easement (r : CadRec) (k : Nat) : Nat × Nat × Nat := Smap.get (fun _ => (0, 0, 0)) r.ease k
def CadRec.setEase (r : CadRec) (k : Nat) (v : Nat × Nat × Nat) : CadRec :=
  { r with ease := Smap.set (fun _ => (0, 0, 0)) r.ease k v }

def easeKind (w : Nat) : Nat := bitsOf w 16 2
def easeEntry (w : Nat) : Nat := bitsOf w 8 5
def easeGrantee (w : Nat) : Nat := bitsOf w 4 3
def easeGrantor (w : Nat) : Nat := bitsOf w 0 3

/-- The memory units of a parcel's regions: 0 and a MiB of capture memory, 1 and an NV page. -/
def regionUnits (c : CadParcel) : List (Nat × Nat) :=
  (List.range c.capsz).map (fun i => (0, c.capbase + i)) ++ (List.range c.nvcnt).map fun i => (1, c.nvbase + i)

/-- The newer cadastre copy that passes its check (R318, R324). -/
def State.cadRec (s : State) : Option CadRec :=
  match s.nv.cadA, s.nv.cadB with
  | some a, some b => if a.ok && b.ok then (if b.seq < a.seq then some a else some b)
      else if a.ok then some a else if b.ok then some b else none
  | some a, none => if a.ok then some a else none
  | none, some b => if b.ok then some b else none
  | none, none => none

/-- Writes a record into the older copy. -/
def cadStore (r : CadRec) (s : State) : State :=
  let seqOf := fun (c : Option CadRec) => match c with | some x => if x.ok then x.seq + 1 else 0 | none => 0
  let a := seqOf s.nv.cadA
  let b := seqOf s.nv.cadB
  let n := { r with seq := max a b }
  if a < b then { s with nv := { s.nv with cadA := some n } } else { s with nv := { s.nv with cadB := some n } }

/-! ## The founding page (R311, R313, R544, R545) -/

/-- The station serial. -/
def State.serial (s : State) : Nat := leNat (memBytes s.nv.bytes 0 8)

/-- The lock word is set. -/
def State.foundLocked (s : State) : Bool := leNat (memBytes s.nv.bytes 76 4) != 0

/-- A page image records a Custodian and a Proprietor. -/
def pageFounded (pg : List Byte) : Bool :=
  let roles := (List.range 4).map fun k => u8 pg (8 + 17 * k)
  roles.contains 1 && roles.contains 2

def State.founded (s : State) : Bool := pageFounded (s.nvPage 0)

/-- A page image with holder record `k` replaced. -/
def pageHolder (pg : List Byte) (k role : Nat) (digest : List Byte) : List Byte :=
  pg.take (8 + 17 * k) ++ leBytes 1 role ++ (digest.take 16 ++ List.replicate (16 - digest.length) 0) ++ pg.drop (25 + 17 * k)

/-- A page image with the lock word set. -/
def pageLock (pg : List Byte) : List Byte := pg.take 76 ++ leBytes 4 1 ++ pg.drop 80

/-! ## Spare plots and slots that go (R300, R504) -/

/-- A slot leaves its plot: its engines stop, the plot is reset and free. -/
def unplaceSlot (q slot : Nat) (s : State) : State :=
  match s.slotPlot q slot with
  | none => s
  | some p =>
    let s1 := (engines p).foldl (fun t x => if (t.engine x).st = esRUNNING then stopEngine x esIDLE t else t) s
    vacate p psOFF (plotReset p { s1 with arr := { s1.arr with
      place := Smap.set (fun _ => 0) s1.arr.place (32 * q + slot) 0 } })

/-- The highest-numbered placed slot of the highest-numbered tenant parcel that has one, with its plot (R504). -/
def lastTenantSlot (s : State) : Option (Nat × Nat × Nat) :=
  ((s.arr.place.filter fun (e : Nat × Nat) => decide (32 ≤ e.1) && e.2 != 0).getLast?).map fun e => (e.1 / 32, e.1 % 32, e.2 - 1)

/-- A spare is found: the highest-numbered free plot, else a tenant's, else 0x40 is raised (R300, R504).
[DEDUCED, log 81] -/
def findSpare (s : State) : State :=
  if s.variant == .jx4810 then s
  else match (freePlots s).getLast? with
    | some p => setSpare p s
    | none => match lastTenantSlot s with
      | some (q, slot, p) => placedRefresh (setSpare p (unplaceSlot q slot s))
      | none => (s.fs R.ENG_STAT_SPARE 0x3F).raise 0x40 islTST 0

/-! ## Deeds (R314 to R317) -/

/-- A deed item: type, target, its bytes. -/
structure Item where
  type : Nat
  target : Nat
  bytes : List Byte
  deriving DecidableEq, Repr

/-- The length that R315 gives a type; 0 for a type it does not list. -/
def itemLen (t : Nat) : Nat :=
  match t with
  | 1 => 4 | 2 => 4 | 3 => 8 | 4 => 12 | 5 => 12 | 6 => 16 | 7 => 116 | 8 => 20 | 9 => 24 | 10 => 4 | _ => 0

/-- Takes `n` items from a byte list; none when their lengths do not fit it exactly. -/
def parseItems : Nat → List Byte → Option (List Item)
  | 0, b => if b = [] then some [] else none
  | n + 1, b =>
    let len := u16 b 2
    if len = 0 ∨ len ≠ itemLen (u8 b 0) ∨ b.length < len then none
    else (parseItems n (b.drop len)).map fun l => { type := u8 b 0, target := u8 b 1, bytes := b.take len } :: l

/-- The layout of one item beyond its length. -/
def itemOk (i : Item) : Bool :=
  let b := i.bytes
  match i.type with
  | 1 => decide (1 ≤ i.target ∧ i.target ≤ 7)
  | 2 => decide (i.target ≤ 7)
  | 3 => decide (i.target ≤ 7 ∧ leAt b 5 3 = 0)
  | 4 => decide (i.target ≤ 7)
  | 5 => decide (i.target ≤ 7)
  | 6 => decide (i.target ≤ 7 ∧ leAt b 4 8 < 2 ^ 52 ∧ leAt b 12 4 < 128)
  | 7 => decide (i.target ≤ 7)
  | 8 =>
    let kind := u8 b 6
    decide (i.target ≤ 15 ∧ kind ≤ 2 ∧ leAt b 16 4 = 0 ∧ u8 b 4 ≤ 7 ∧ u8 b 5 ≤ 7 ∧ u8 b 7 ≤ 31)
    && (kind != 2 || decide (u32 b 8 % 4096 = 0 ∧ u32 b 12 % 4096 = 0 ∧ 4096 ≤ u32 b 12 ∧ u32 b 12 ≤ 0x08000000))
  | 9 => decide (i.target ≤ 3 ∧ u8 b 4 ≤ 2 ∧ leAt b 5 3 = 0)
  | 10 => decide (i.target = 0)
  | _ => false

/-- The parts of a deed. -/
def deedNo (b : List Byte) : Nat := u32 b 16
def deedItems (b : List Byte) : List Byte := (b.drop 24).take (u16 b 20)

/-- A signature block: record, key, signature; none when its layout is wrong. -/
def sigBlock (b : List Byte) (k : Nat) : Option (Nat × List Byte × List Byte) :=
  let g := b.drop (24 + u16 b 20 + 132 * k)
  if 3 < u8 g 0 ∨ leAt g 1 3 ≠ 0 then none else some (u8 g 0, (g.drop 4).take 64, (g.drop 68).take 64)

/-- The items of a deed whose layout is right. -/
def deedForm (s : State) (b : List Byte) : Option (List Item) :=
  if b.length < 24 ∨ u32 b 0 ≠ 0x4A584344 ∨ u16 b 4 ≠ 1 ∨ u16 b 6 = 0 ∨ 64 < u16 b 6 ∨ 1760 < u16 b 20 ∨ u16 b 22 ≠ 0
    ∨ b.length ≠ 288 + u16 b 20 ∨ u64 b 8 ≠ s.serial then none
  else if (sigBlock b 0).isNone || (sigBlock b 1).isNone then none
  else match parseItems (u16 b 6) (deedItems b) with
    | none => none
    | some l => if l.all itemOk then some l else none

/-- Whether an item names P0, by itself or in an easement's old or new parties (R316). -/
def touchesP0 (s : State) (i : Item) : Bool :=
  if i.type = 8 then
    let old := (s.cad.now.easement i.target).1
    (u8 i.bytes 6 != 0 && (u8 i.bytes 4 == 0 || u8 i.bytes 5 == 0))
    || (easeKind old != 0 && (easeGrantor old == 0 || easeGrantee old == 0))
  else if 9 ≤ i.type then false
  else i.target == 0

/-- Fourth case of R317: the two signatures. -/
def deedSigned (s : State) (b : List Byte) (items : List Item) : Bool :=
  match sigBlock b 0, sigBlock b 1 with
  | some (k0, y0, g0), some (k1, y1, g1) =>
    let d := (Config.sha256 (b.take (24 + u16 b 20))).toList
    let good := fun (k : Nat) (y g : List Byte) => holderRole s k != 0 && (Config.sha256 y).toList.take 16 == holderDigest s k
      && Config.ecdsaVerify y d g
    let r0 := holderRole s k0
    let r1 := holderRole s k1
    let cust := r0 == 1 || r1 == 1
    let prop := r0 == 2 || r1 == 2
    k0 != k1 && good k0 y0 g0 && good k1 y1 g1
    && (!(items.any (touchesP0 s)) || cust) && (!(items.any fun i => decide (9 ≤ i.type)) || (cust && prop))
  | _, _ => false

/-- The working copy (R315): the record, the founding page, the first item that failed, and the first HOLDER or LOCKFOUND
item that met the locked page. -/
structure Work where
  rec_ : CadRec
  page : List Byte
  err : Option Nat := none
  lock : Option Nat := none
  deriving DecidableEq, Repr

/-- One item applied to the working copy; `key` is the key that a KEY item unwraps to. -/
def applyItem (key : List Byte) (n : Nat) (w : Work) (i : Item) : Work :=
  let r := w.rec_
  let b := i.bytes
  let c := r.parcel i.target
  let bad : Work := { w with err := some n }
  let locked : Work := { w with lock := some (w.lock.getD n) }
  if w.err.isSome then w
  else match i.type with
    | 1 => if c.formed then bad else { w with rec_ := r.setParcel i.target { formed := true } }
    | 2 =>
      if !c.formed || i.target == 0 then bad
      else
        let r1 := (List.range 16).foldl (fun (a : CadRec) k =>
          let e := (a.easement k).1
          if easeKind e != 0 && (easeGrantor e == i.target || easeGrantee e == i.target) then a.setEase k (0, 0, 0) else a) r
        { w with rec_ := r1.setParcel i.target {} }
    | 3 =>
      if !c.formed || (i.target == 0 && decide (u8 b 4 < 2)) then bad
      else { w with rec_ := r.setParcel i.target { c with nslot := u8 b 4 } }
    | 4 =>
      if !c.formed then bad
      else { w with rec_ := r.setParcel i.target { c with
        mres := u16 b 4, bres := u16 b 6, dres := u16 b 8, tres := u16 b 10 } }
    | 5 =>
      if !c.formed then bad
      else { w with rec_ := r.setParcel i.target { c with
        capbase := u16 b 4, capsz := u16 b 6, nvbase := u16 b 8, nvcnt := u16 b 10 } }
    | 6 =>
      if !c.formed || i.target == 0 then bad
      else { w with rec_ := r.setParcel i.target { c with chan := leAt b 4 8, grant := leAt b 12 4 } }
    | 7 =>
      if !c.formed then bad
      else { w with rec_ := r.setParcel i.target { c with key := if key.all (· == 0) then [] else key } }
    | 8 =>
      if u8 b 6 = 0 then { w with rec_ := r.setEase i.target (0, 0, 0) }
      else if !(r.parcel (u8 b 4)).formed || !(r.parcel (u8 b 5)).formed then bad
      else
        let w0 := u8 b 6 * 0x10000 + u8 b 7 * 256 + u8 b 5 * 16 + u8 b 4
        { w with rec_ := r.setEase i.target (w0, u32 b 8, u32 b 12) }
    | 9 =>
      if leAt w.page 76 4 ≠ 0 then locked
      else { w with page := pageHolder w.page i.target (u8 b 4) (b.drop 8) }
    | _ => if leAt w.page 76 4 ≠ 0 then locked else { w with page := pageLock w.page }

/-- What a KEY item unwraps to (R320). -/
def itemKey (s : State) (deed : Nat) (i : Item) : Option (List Byte) :=
  if i.type = 7 then Config.unwrapKey s.serial i.target deed (i.bytes.drop 4) else some []

def applyItems (s : State) (deed : Nat) (l : List Item) : Work :=
  (List.range l.length).foldl (fun w n =>
    match l.drop n with
    | [] => w
    | i :: _ => applyItem ((itemKey s deed i).getD []) n w i) { rec_ := s.cad.now, page := s.nvPage 0 }

/-- The easements of the final copy: grantor and grantee formed and distinct, a CAP window inside the grantor's region
(R308). [DEDUCED, log 84] -/
def easesOk (r : CadRec) : Bool := (List.range 16).all fun k =>
  let e := r.easement k
  easeKind e.1 == 0 || (easeGrantor e.1 != easeGrantee e.1 && (r.parcel (easeGrantor e.1)).formed
    && (r.parcel (easeGrantee e.1)).formed
    && (easeKind e.1 != 2 || decide (e.2.1 + e.2.2 ≤ (r.parcel (easeGrantor e.1)).capsz * 2 ^ 20)))

def sumOf (r : CadRec) (f : CadParcel → Nat) : Nat := (List.range 8).foldl (fun n q => n + f (r.parcel q)) 0

/-- Two ranges meet. -/
def meets (a n b m : Nat) : Bool := decide (0 < n ∧ 0 < m ∧ a < b + m ∧ b < a + n)

/-- R297 for slots and regions, R299 for the JX4810, R301. -/
def capacityOk (s : State) (r : CadRec) : Bool :=
  let one := (List.range 8).all fun q =>
    let c := r.parcel q
    decide (c.nslot ≤ 30 ∧ c.capbase + c.capsz ≤ 1024 ∧ (c.nvcnt = 0 ∨ 64 ≤ c.nvbase ∧ c.nvbase + c.nvcnt ≤ 512))
  let apart := (List.range 8).all fun q => (List.range q).all fun k =>
    let c := r.parcel q
    let d := r.parcel k
    !meets c.capbase c.capsz d.capbase d.capsz && !meets c.nvbase c.nvcnt d.nvbase d.nvcnt
  let slots := sumOf r (fun c => c.nslot)
  one && apart && (if s.variant == .jx4810 then slots == 2 && !((upTo 7).any fun q => (r.parcel q).formed)
    else decide (slots + popCount 32 (s.fg R.ENG_RETIRED_RET) + 1 ≤ s.plotsFit))

/-- The memory that a deed gives to a parcel: units of a region in the new record that are not the parcel's now. -/
def given (old new : CadRec) : List (Nat × Nat) := (List.range 8).flatMap fun q =>
  let a := regionUnits (old.parcel q)
  (regionUnits (new.parcel q)).filter fun u => !a.contains u

/-- Whether a slot that goes holds a safety kernel. -/
def removesSafety (s : State) (r : CadRec) : Bool := (s.arr.place.any fun (e : Nat × Nat) =>
  decide ((r.parcel (e.1 / 32)).nslot ≤ e.1 % 32) && (engines (e.2 - 1)).any (holdsSafety s))

/-- CAD_LASTRES. -/
def lastRes (t : Stat) (item : Nat) (s : State) : State :=
  s.setReg R.CAD_LASTRES (w32 (t.code * 0x1000000 + t.reason * 0x10000 + item * 0x100))

/-- The checks of R317 in their order: the status with the deciding item, or the working copy. -/
def deedCheck (s : State) (b : List Byte) : Except (Stat × Nat) Work :=
  let scrubbed := fun (w : Work) => (given s.cad.now w.rec_).any fun u => s.cad.now.scrub.contains u
  if s.cad.deed.isSome then .error (.nvBusy, 0xFF)
  else match deedForm s b with
    | none => .error (.badParam, 0xFF)
    | some l =>
      let w := applyItems s (deedNo b) l
      let r := w.rec_
      if w.err.isNone && scrubbed w then .error (.nvBusy, 0xFF)
      else if deedNo b ≠ s.cnt 0 + 1 then .error (.refused rREPLAY, 0xFF)
      else if !deedSigned s b l then .error (.authFail, 0xFF)
      else match (List.range l.length).find? fun n => match l.drop n with
          | i :: _ => (itemKey s (deedNo b) i).isNone
          | [] => false with
        | some n => .error (.authFail, n)
        | none =>
          match w.err with
          | some n => .error (.badParam, n)
          | none =>
            if !easesOk r then .error (.badParam, 0xFF)
            else if !s.capFit && (sumOf r (fun c => c.capsz) != 0 || sumOf r (fun c => c.dres) != 0) then .error (.absent, 0xFF)
            else if !capacityOk s r then .error (.refused rCAPACITY, 0xFF)
            else if 1500 < sumOf r (fun c => c.mres + c.bres) ∨ 720 < sumOf r (fun c => c.dres) ∨ 120 < sumOf r (fun c => c.tres) then
              .error (.refused rRESERVATION, 0xFF)
            else if w.lock.isSome then .error (.refused, w.lock.getD 0xFF)
            else if (l.any fun i => i.type == 9) && !pageFounded w.page then .error (.refused, 0xFF)
            else if removesSafety s r ∧ s.energised then .error (.safetyLock, 0xFF)
            else .ok w

/-- DEED_APPLY. -/
def deedApply (p : Packet) (s : State) : State :=
  let b := p.payload
  match deedCheck s b with
  | .error (t, n) => reply p t [] 0 (lastRes t n s)
  | .ok w =>
    let taken := ((List.range 8).flatMap fun q =>
      let c := s.cad.now.parcel q
      regionUnits c).filter fun u => !((List.range 8).any fun q => (regionUnits (w.rec_.parcel q)).contains u)
    let new := { w.rec_ with deed := deedNo b, scrub := s.cad.now.scrub ++ taken }
    let pages := if w.page = s.nvPage 0 then [] else [(0, w.page)]
    let s1 := (lastRes .ok 0xFF s).fs R.CAD_STAT_BUSY 1
    nvCommit { kind := 3, cad := new, pages := pages, req := p }
      { s1 with cad := { s1.cad with deed := some { req := p, new := new, page0 := w.page } } }

def execDeedApply (p : Packet) (s : State) := run (request 0x60 p deedApply) s

/-- The job at the head of the journal is being written. -/
def State.journalHead (s : State) : Option NvJob := if s.nv.jphase = 1 then s.nv.jobs.head? else none

/-- The founding page after a commit: a page buffer of P0 changes the integrator field alone, a system commit the holder
records and the lock word alone (R544). -/
def pageMerge (kind : Nat) (old new : List Byte) : List Byte :=
  if kind = 0 then old.take 96 ++ (new.drop 96).take 28 ++ old.drop 124
  else old.take 8 ++ (new.drop 8).take 72 ++ old.drop 80

/-- Writes the page images of a commit of the given kind into NV; the founding page takes none once it is locked (R545). -/
def writePages (kind : Nat) (l : List (Nat × List Byte)) (s : State) : State :=
  l.foldl (fun t e =>
    if e.1 = 0 ∧ t.foundLocked then t
    else
      let img := if e.1 = 0 then pageMerge kind (t.nvPage 0) e.2 else e.2
      { t with nv := { t.nv with bytes := memWrite t.nv.bytes (128 * e.1) img } }) s

/-- When the move in progress ends at the latest, in ns of datum. [DEDUCED, log 79] -/
def moveBound (s : State) : Nat :=
  match s.arr.move with
  | none => s.now
  | some m =>
    let warm := (engines m.src).foldl (fun a x => max a (s.engine x).warm) 1
    max s.now (if m.parallel then 50 * (m.epoch + if m.phase = 0 then 1024 * warm else 0) else 50 * m.epoch + 50000)

/-- Steps 3 and 4 of R318: the deed's commit is durable. -/
def deedCommitComplete (s : State) : State :=
  match s.journalHead, s.cad.deed with
  | some j, some d =>
    if j.kind ≠ 3 ∨ d.epoch.isSome then s
    else
      let s1 := nvStat (writePages 3 j.pages (cadStore j.cad { s with nv := { s.nv with jphase := 2 } }))
      let s2 := s1.countUp 0
      let e := firstMultiple 1024 2000 (moveBound s2)
      let s3 := { s2 with cad := { s2.cad with deed := some { d with epoch := some e } } }
      reply d.req .ok (leBytes 4 (s3.cnt 0) ++ leBytes 8 e) 0 s3
  | _, _ => s

def execDeedCommitComplete (s : State) := run deedCommitComplete s

/-! ## The effect of a deed (R305, R306, R310, R318, R546, R568) -/

/-- A new nonzero session for a parcel, and its counts back to 0 (R322). [DESIGN CHOICE, log 86] -/
def drawSession (q : Nat) (s : State) : State :=
  let (f, s1) := s.free
  let s2 := (s1.fs (R.CAD_PSESS_SESSION q) (f % (2 ^ 32 - 1) + 1)).fs (R.CAD_PCNT_HI q) 0
  { s2 with cad := { s2.cad with seen := Smap.set (fun _ => 0) s2.cad.seen q 0 } }

/-- Writes a parcel's rows; P0's permissions are everything always (R298). -/
def parcelRegs (q : Nat) (c : CadParcel) (s : State) : State :=
  let s1 := ((s.fs (R.CAD_PSTAT_FORMED q) (b2n c.formed)).fs (R.CAD_PSTAT_KEYSET q) (b2n (c.key != []))).fs
    (R.CAD_PSTAT_NSLOT q) c.nslot
  let s2 := if q = 0 then s1
    else ((s1.setReg (R.CAD_PPERM0 q) (w32 c.chan)).setReg (R.CAD_PPERM1 q) (w32 (c.chan / 2 ^ 32))).setReg
      (R.CAD_PFLAG q) (w32 c.grant)
  let s3 := ((s2.setReg (R.CAD_PCAP q) (w32 (c.capsz * 65536 + c.capbase))).setReg (R.CAD_PNV q)
    (w32 (c.nvcnt * 65536 + c.nvbase))).setReg (R.CAD_PTRV q) (w32 c.tres)
  s3.setReg (R.FAB_PRES q) (w32 (c.dres * 2 ^ 22 + c.bres * 2 ^ 11 + c.mres))

/-- Brings the CAD and FAB rows to a record. -/
def cadRegs (r : CadRec) (s : State) : State :=
  let s1 := (List.range 8).foldl (fun t q => parcelRegs q (r.parcel q) t) s
  let s2 := (List.range 16).foldl (fun t k =>
    let e := r.easement k
    ((t.setReg (R.CAD_EASE_W0 k) (w32 e.1)).setReg (R.CAD_EASE_W1 k) (w32 e.2.1)).setReg (R.CAD_EASE_W2 k) (w32 e.2.2)) s1
  let formed := (List.range 8).foldl (fun m q => setBit m q (r.parcel q).formed) 0
  let s3 := ((s2.fs R.CAD_STAT_FORMED formed).fs R.CAD_STAT_NEASE r.ease.length).fs R.CAD_STAT_SCRUB (b2n (r.scrub != []))
  let keys := (List.range 8).foldl (fun (m : List (Nat × List Byte)) q => Smap.set (fun _ => []) m q (r.parcel q).key) []
  capLow { s3 with cad := { s3.cad with now := r, keys := keys, scrubAt := s3.lt } }

/-- Every descriptor of a plot for which `hit` holds of its capture offset completes with ERR 0x01. -/
def dmaCut (p : Nat) (hit : Nat → Bool) (s : State) : State :=
  let isHit := fun (t : State) (d : Desc) => hit (sharedWord t d.eng (d.adr + 8))
  let gone := (s.plot p).dma.filter (isHit s)
  let s1 := dmaCount p (s.setPlot p { s.plot p with dma := (s.plot p).dma.filter fun d => !isHit s d })
  gone.foldl (fun t d => cutDesc 1 d t) s1

/-- Zeroes a list of memory units. -/
def zeroUnits (l : List (Nat × Nat)) (s : State) : State :=
  { s with
    cap := { s.cap with dram := Smap.clear s.cap.dram fun a => l.contains (0, a / 2 ^ 20) }
    nv := { s.nv with bytes := Smap.clear s.nv.bytes fun a => l.contains (1, a / 128) } }

/-- Subscriptions that the cadastre no longer permits have EN cleared (R310). -/
def subsCheck (s : State) : State :=
  (List.range 8).foldl (fun t q => (List.range 32).foldl (fun u i =>
    if entOn (u.subW0 q i) && !subMay u q (u.subW0 q i) (u.subW1 q i) then
      setEntry q 0 i (w32 (setBit (u.subW0 q i) 25 false)) (w32 (u.subW1 q i)) u
    else u) t) s

/-- What a parcel loses when it is dissolved: its tables, kernels, staging session and instances. -/
def dissolve (q : Nat) (s : State) : State :=
  let s1 := (List.range 32).foldl (fun t i => setEntry q 1 i 0 0 (setEntry q 0 i 0 0 t)) s
  let old := (s1.nv.kstore.filter fun k => k.1 / 8 == q).flatMap fun k => k.2.sects
  let s2 := { s1 with
    nv := { s1.nv with
      kstore := Smap.clear s1.nv.kstore fun k => k / 8 == q
      ksErase := s1.nv.ksErase ++ old ++ (s1.stage q).sects }
    prf := { s1.prf with
      ten := Smap.clear s1.prf.ten fun k => k / 2 ^ 24 == q
      pend := s1.prf.pend.filter fun (e : Nat × Nat × Nat × Word) => e.2.1 != q
      since := Smap.clear s1.prf.since fun k => k / 10000 == q
      next := Smap.clear s1.prf.next fun k => k / 10000 == q
      hist := Smap.clear s1.prf.hist fun k => k / 10000 == q
      derAt := Smap.clear s1.prf.derAt fun k => k / 100 == q }
    est := { s1.est with
      cells := Smap.clear s1.est.cells fun k => k / 100 == q
      params := Smap.clear s1.est.params fun k => k / 4 == q
      pendPar := s1.est.pendPar.filter fun (e : Nat × Nat × Nat × List Byte) => e.2.1 != q
      pendSeed := s1.est.pendSeed.filter fun (e : Nat × Nat × Nat × Nat × Nat) => e.2.1 != q }
    fab := { s1.fab with pend := s1.fab.pend.filter fun (e : Nat × Nat × Nat × Nat × Word × Word) => e.2.1 != q } }
  flashBackground (s2.setStage q {})

/-- The capture buffers of a parcel go idle because its region changed (R568). -/
def buffersLost (q : Nat) (s : State) : State :=
  [2 * q, 2 * q + 1].foldl (fun t k =>
    let t1 := if t.fg (R.CAP_B_W6_STATE k) = 0 ∧ !t.fb (R.CAP_B_W0_EN k) then t
      else ((t.fs (R.CAP_B_W6_STATE k) 0).fs (R.CAP_B_W6_STOP k) 4).fs (R.CAP_B_W0_EN k) 0
    { t1 with cap := { t1.cap with bufs := Smap.set (fun _ => {}) t1.cap.bufs k {} } }) s

/-- Step 5 of R318 for a change from record `a` to record `r`. [DEDUCED, log 85] -/
def cadChange (a r : CadRec) (s : State) : State :=
  let grew := fun (q : Nat) => decide ((a.parcel q).capbase = (r.parcel q).capbase ∧ (a.parcel q).capsz ≤ (r.parcel q).capsz)
  let grewNv := fun (q : Nat) => decide ((a.parcel q).nvbase = (r.parcel q).nvbase ∧ (a.parcel q).nvcnt ≤ (r.parcel q).nvcnt)
  -- DMA of the parcels that lose a region or a window
  let s1 := (List.range s.plotsFit).foldl (fun t p =>
    let q := t.plotParcel p
    let lost := fun (k : Nat) =>
      let e := a.easement k
      easeKind e.1 == 2 && easeGrantee e.1 == q && (r.easement k != e || !grew (easeGrantor e.1))
    let region := (a.parcel q).capsz != 0 && decide ((a.parcel q).capbase ≠ (r.parcel q).capbase ∨ (a.parcel q).capsz ≠ (r.parcel q).capsz)
    dmaCut p (fun o => if o < 0x80000000 then region else lost ((o - 0x80000000) / 0x08000000)) t) s
  -- slots that go
  let gone := s1.arr.place.filter fun (e : Nat × Nat) => decide ((r.parcel (e.1 / 32)).nslot ≤ e.1 % 32)
  let s2 := gone.foldl (fun t e => unplaceSlot (e.1 / 32) (e.1 % 32) t) s1
  let kern := Smap.clear s2.arr.kern fun k => decide ((r.parcel (k / 1024)).nslot ≤ k % 1024 / 32)
  let s3 := { s2 with arr := { s2.arr with kern := kern }, nv := { s2.nv with kern := kern } }
  -- regions, buffers and the page buffer
  let zero := (List.range 8).flatMap fun q =>
    (regionUnits (r.parcel q)).filter fun u =>
      !((if u.1 = 0 then grew q else grewNv q) && (regionUnits (a.parcel q)).contains u)
  let same := fun (q : Nat) => decide ((a.parcel q).capbase = (r.parcel q).capbase ∧ (a.parcel q).capsz = (r.parcel q).capsz)
  let s4 := (List.range 8).foldl (fun t q => if same q || (a.parcel q).capsz == 0 then t else buffersLost q t) (zeroUnits zero s3)
  let s5 := match s4.nvBuf with
    | none => s4
    | some b =>
      if (a.parcel b.owner).nvbase = (r.parcel b.owner).nvbase ∧ (a.parcel b.owner).nvcnt = (r.parcel b.owner).nvcnt then s4
      else ({ s4 with nvBuf := none }.fs R.NVM_STAT_NBUF 0).fs R.NVM_STAT_OWNER 0
  let s6 := (List.range 8).foldl (fun t q => if (a.parcel q).formed && !(r.parcel q).formed then dissolve q t else t) s5
  let s7 := cadRegs r s6
  let s8 := (List.range 8).foldl (fun t q =>
    if (a.parcel q).key = (r.parcel q).key then t
    else drawSession q (t.fs (R.CAD_PSTAT_KEYGEN q) (t.fg (R.CAD_PSTAT_KEYGEN q) + 1))) s7
  subsCheck (placeAll s8)

/-- The effect epoch of a deed arrives. -/
def deedEffect (s : State) : State :=
  match s.cad.deed with
  | none => s
  | some d => match d.epoch with
    | none => s
    | some e =>
      let s0 := s.until (50 * e)
      let s1 := cadChange s0.cad.now d.new s0
      let s2 := (s1.fs R.CAD_STAT_BUSY 0).fs R.CAD_LASTEP_EPOCH e
      { s2 with cad := { s2.cad with deed := none } }

def execDeedEffect (s : State) := run deedEffect s

/-- The least time in ns that scrubbing `l` takes: capture memory at 6.4 Gbit/s, a MiB in 1,310,720 ns (R305). -/
def scrubTime (l : List (Nat × Nat)) : Nat := 1310720 * l.countP fun u => u.1 == 0

/-- A scrub ends: the memory reads zero and may be given again (R305, R318 step 6). A deed whose record waits keeps what it
takes itself on its list; the commit carries the newest record. [DEDUCED, log 85] -/
def scrubComplete (s : State) : State :=
  let l := s.cad.now.scrub
  if l = [] ∨ !s.due s.cad.scrubAt (scrubTime l) then s
  else
    let s1 := zeroUnits l s
    let done := fun (r : CadRec) => { r with scrub := r.scrub.filter fun u => !l.contains u }
    let now := done s1.cad.now
    let deed := s1.cad.deed.map fun d => { d with new := done d.new }
    let r := match deed with | some d => d.new | none => now
    nvCommit { kind := 7, cad := r } ({ s1 with cad := { s1.cad with now := now, deed := deed } }.fs R.CAD_STAT_SCRUB 0)

def execScrubComplete (s : State) := run scrubComplete s

/-! ## Holders, sessions and reading (R312, R322, R428) -/

/-- The founding page as the commits on their way will leave it: an enrolment that waits in the journal counts. -/
def pendingPage0 (s : State) : List Byte :=
  match (s.nv.jobs.filter fun j => j.kind == 6).getLast? with
  | some j => Smap.get (fun _ => s.nvPage 0) j.pages 0
  | none => s.nvPage 0

/-- HOLDER_ENROL. A record whose enrolment is being committed is not empty. -/
def holderEnrol (p : Packet) (s : State) : State :=
  withLen 132 p (fun s =>
    let b := p.payload
    let k := u8 b 0
    let role := u8 b 1
    let key := (b.drop 4).take 64
    let local_ := match p.via with | .side => true | .host _ => true | _ => false
    let msg := leBytes 8 s.serial ++ leBytes 1 k ++ leBytes 1 role ++ key
    if s.founded || !local_ || s.foundLocked || decide (3 < k) || u8 (pendingPage0 s) (8 + 17 * k) != 0 then reply p .refused [] 0 s
    else if role = 0 ∨ 2 < role ∨ u16 b 2 ≠ 0 then reply p .refused [] 0 s
    else if !Config.ecdsaVerify key (Config.sha256 msg).toList ((b.drop 68).take 64) then reply p .authFail [] 0 s
    else nvCommit { kind := 6, pages := [(0, pageHolder (pendingPage0 s) k role ((Config.sha256 key).toList.take 16))], req := p } s) s

def execHolderEnrol (p : Packet) (s : State) := run (request 0x62 p holderEnrol) s

/-- The CAD rows that are not stored as they read: holders, FOUNDED, LOCKED, the station key, DEEDNO
(R298, R326, R327). -/
def cadView (s : State) (a : Nat) : Option Word :=
  if a = R.CAD_STAT then
    some (w32 (setBit (setBit (s.reg a).toNat 1 s.founded) 2 s.foundLocked))
  else if a = R.CAD_DEEDNO then some (w32 (s.cnt 0))
  else if 0x0C0040 ≤ a ∧ a < 0x0C00C0 then
    let k := (a - 0x0C0040) / 32
    let w := (a - 0x0C0040) % 32 / 4
    if w = 0 then some (w32 (holderRole s k))
    else if w ≤ 4 then some (w32 (leNat (memBytes s.nv.bytes (9 + 17 * k + 4 * (w - 1)) 4)))
    else none
  else if 0x0C00C0 ≤ a ∧ a < 0x0C0100 then some (w32 (leAt Config.stationKey (a - 0x0C00C0) 4))
  else none

def cadRead (s : State) (a : Nat) : Word := (cadView s a).getD (s.reg a)

/-- CADASTRE_READ. -/
def cadastreRead (p : Packet) (s : State) : State :=
  withLen 4 p (fun s =>
    let m := u8 p.payload 0
    let qs := (List.range 8).filter fun q => m.testBit q
    let may := fun (q : Nat) => p.parcel == 0 || p.parcel == q
    if m = 0 ∨ leAt p.payload 1 3 ≠ 0 then reply p .badParam [] 0 s
    else
      let res := (qs.filter may).flatMap fun q =>
        ((List.range 10).flatMap fun w => wordBytes (cadRead s (R.CAD_PSTAT q + 4 * w))) ++ wordBytes (s.reg (R.FAB_PRES q))
      replyUnits p (qs.map fun q => if may q then Stat.ok else Stat.refused rPERMISSION) res .ok s) s

def execCadastreRead (p : Packet) (s : State) := run (request 0x61 p cadastreRead) s

/-- AUTH_SESSION. -/
def authSession (p : Packet) (s : State) : State :=
  withLen 4 p (fun s =>
    let q := u8 p.payload 0
    if 7 < q ∨ leAt p.payload 1 3 ≠ 0 then reply p .badParam [] 0 s
    else reply p .ok (wordBytes (s.reg (R.CAD_PSESS q)) ++ wordBytes (s.reg (R.CAD_PCNT q))) 0 s) s

def execAuthSession (p : Packet) (s : State) := run (request 0x63 p authSession) s

def cadPauthfWrite (q : Nat) (v : Word) (s : State) : Stat × State :=
  (.ok, if wf v (R.CAD_PAUTHF_CLR q) = 1 then s.fs (R.CAD_PAUTHF_COUNT q) 0 else s)

def execCadPauthfClear (q : Fin 8) (v : Word) (s : State) :=
  run (direct (R.CAD_PAUTHF q.val) (w32 (setBit v.toNat 31 true)) (cadPauthfWrite q.val)) s

/-! ## Cadastre restore (R300, R319, R324) -/

/-- The record that restore puts in force, with the deed counter brought up to it, or the cadastre lost. -/
def restoreRecord (s : State) : CadRec × State :=
  match s.cadRec with
  | some r =>
    if s.cnt 0 < r.deed then (r, { s with nv := { s.nv with cnt := Smap.set (fun _ => 0) s.nv.cnt 0 r.deed } }) else (r, s)
  | none => ({}, s.raise 0x2B islNVF 0)

/-- P0's slots 0 and 1 go to PL00 and PL01; a slot whose plot is retired takes the lowest-numbered free plot after that. -/
def placeHome (s : State) : State :=
  let home := [0, 1].filter fun i => !s.isRetired i
  [0, 1].foldl (fun t i => placeLowest 0 i t) (home.foldl (fun t i => placeSlot 0 i i t) s)

/-- Release step 9. -/
def cadastreRestore (s : State) : State :=
  if !s.cpRuns ∨ s.fg R.RST_STAT_STEP < 7 ∨ s.fb R.CAD_STAT_RESTORED
    ∨ !(s.addressed || s.due s.rst.stepAt 2000000000) then s
  else
    let gone := s.nv.retired ||| s.fg R.ENG_RETIRED_RET
    let s1 := s.setReg R.ENG_RETIRED (w32 gone)
    let s2 := s1.fs R.ENG_STAT_NRET (popCount 32 gone)
    let s3 := (List.range s2.plotsFit).foldl (fun t p => if t.isRetired p then vacate p psRETIRED t else t) s2
    let (r, s4) := restoreRecord s3
    let s5 := cadRegs r s4
    let s6 := findSpare (placeAll (placeHome (s5.fs R.ENG_STAT_SPARE 0x3F)))
    let s7 := (List.range 8).foldl (fun t q => if (r.parcel q).formed then drawSession q t else t) s6
    let s8 := { s7 with arr := { s7.arr with kern := s7.nv.kern } }
    let s9 := (List.range s8.plotsFit).foldl (fun t p => reloadPlot p t) s8
    (s9.fs R.CAD_STAT_RESTORED 1).fs R.RST_STAT_STEP 9

def execCadastreRestore (s : State) := run cadastreRestore s

end Sys2Proof.Machine
end

