-- ==== Sys2Proof/Machine/Wire.lean ====
section
/-! DEFINITION. Blocks on the lanes of a port (R330 to R336, R346, R349, R373, R382): the 66-bit blocks, their scrambler, how a
port deals them over its lanes, and the blocks of a frame and of the links' own exchanges. -/
namespace Sys2Proof.Machine

/-! ## Checks (R336, R373) -/

/-- CRC-16 of R336 over bytes. -/
def hcs (l : List Byte) : Nat := crcBits 16 0x1021 0xFFFF (l.flatMap fun b => msbBits 8 b.toNat)

/-- CRC-8 of R373 over bytes. -/
def crc8 (l : List Byte) : Nat := crcBits 8 0x07 0 (l.flatMap fun b => msbBits 8 b.toNat)

/-- The link header H of a frame, HCS included. -/
def linkHeader (f : Frame) : Nat :=
  let h := f.ftype + f.cls * 8 + b2n f.copy * 32 + f.origin * 256 + f.ttl * 2 ^ 20 + f.fseq * 2 ^ 28
  h + hcs (leBytes 5 h) * 2 ^ 40

/-! ## Blocks (R331, R333) -/

/-- A block: its sync header, whose bit 0 goes first, and bytes 0 to 7. -/
structure Blk where
  hdr : Nat := 2
  bytes : List Byte := []
  deriving DecidableEq, Repr

def hdrDATA : Nat := 1
def hdrCTRL : Nat := 2

def btIDLE : Nat := 0x33
def btSOF : Nat := 0x55
def btTERM : Nat := 0xE1
def btABORT : Nat := 0x66
def btMARK : Nat := 0x99
def btDLY : Nat := 0xAA
def btLSTAT : Nat := 0xCC
def btTRAIN : Nat := 0x0F

/-- A control block of type `t` with bytes 1 to 7 `b`. -/
def ctrlBlk (t : Nat) (b : List Byte) : Blk := { hdr := hdrCTRL, bytes := BitVec.ofNat 8 t :: sliceBytes b 0 7 }

/-- The type of a control block. -/
def Blk.type (b : Blk) : Nat := leAt b.bytes 0 1

/-- The type of a control block is one that R333 lists, and a TERM block is in order. -/
def Blk.typeOk (b : Blk) : Bool :=
  if b.type = btTERM then
    let k := leAt b.bytes 1 1
    decide (k ≤ 6) && (b.bytes.drop (2 + k)).all fun x => x == 0
  else [btIDLE, btSOF, btABORT, btMARK, btDLY, btLSTAT, btTRAIN].contains b.type

/-! ## The scrambler x^58 + x^39 + 1 (R331) -/

/-- What the scrambler adds to a bit: the scrambled bits 39 and 58 places back, the last one sent being bit 0 of `st`. -/
def scrTap (st : Nat) (b : Bool) : Bool := b ^^ (st.testBit 38 ^^ st.testBit 57)

/-- The last 58 scrambled bits after one more. -/
def scrPush (st : Nat) (b : Bool) : Nat := (2 * st + b2n b) % 2 ^ 58

def scramble : Nat → List Bool → List Bool × Nat
  | st, [] => ([], st)
  | st, b :: l =>
    let o := scrTap st b
    let r := scramble (scrPush st o) l
    (o :: r.1, r.2)

def descramble : Nat → List Bool → List Bool × Nat
  | st, [] => ([], st)
  | st, b :: l =>
    let r := descramble (scrPush st b) l
    (scrTap st b :: r.1, r.2)

/-! ## Blocks on a lane (R331) -/

/-- The low `k` bits of a number, least significant first, and the number that such bits spell. -/
def lsbBits : Nat → Nat → List Bool
  | 0, _ => []
  | k + 1, n => n.testBit 0 :: lsbBits k (n / 2)

def lsbNat : List Bool → Nat
  | [] => 0
  | b :: l => b2n b + 2 * lsbNat l

/-- The bits of bytes, byte 0 first, each least significant bit first. -/
def byteBits (l : List Byte) : List Bool := l.flatMap fun b => lsbBits 8 b.toNat

/-- `k` bytes from their bits. -/
def bitsBytes : Nat → List Bool → List Byte
  | 0, _ => []
  | k + 1, l => BitVec.ofNat 8 (lsbNat (l.take 8)) :: bitsBytes k (l.drop 8)

/-- The 66 bits of a block in the order they are sent, and the scrambler after it. -/
def blockBits (st : Nat) (b : Blk) : List Bool × Nat :=
  let r := scramble st (byteBits (sliceBytes b.bytes 0 8))
  (lsbBits 2 b.hdr ++ r.1, r.2)

/-- A block from 66 bits as received, and the descrambler after it. -/
def readBits (st : Nat) (l : List Bool) : Blk × Nat :=
  let r := descramble st (l.drop 2)
  ({ hdr := lsbNat (l.take 2), bytes := bitsBytes 8 r.1 }, r.2)

/-- The same with the 66 bits as a number whose bit `i` is the `i`-th bit on the lane. -/
def blockWord (st : Nat) (b : Blk) : Nat × Nat :=
  let r := blockBits st b
  (lsbNat r.1, r.2)

def readWord (st w : Nat) : Blk × Nat := readBits st (lsbBits 66 w)

/-! ## Dealing over the lanes (R330) -/

/-- The blocks of a port go in turn to its lanes in use, the first to lane `lanes[i]`, each through its lane's scrambler:
lane and word of each. -/
def dealOut (lanes : List Nat) : Nat → List (Nat × Nat) → List Blk → List (Nat × Nat)
  | _, _, [] => []
  | i, st, b :: l =>
    let k := lanes.getD (i % lanes.length) 0
    let r := blockWord (Smap.get (fun _ => 0) st k) b
    (k, r.1) :: dealOut lanes (i + 1) (Smap.set (fun _ => 0) st k r.2) l

/-- What arrives on the two lanes in use, put back in order, `first` saying that lane 1 comes first. -/
def dealBack {α : Type} (first : Bool) (l0 l1 : List α) : List (Nat × α) :=
  (List.range (max l0.length l1.length)).flatMap fun i =>
    let a := (l0[i]?.toList).map fun x => (0, x)
    let b := (l1[i]?.toList).map fun x => (1, x)
    if first then b ++ a else a ++ b

/-! ## The blocks of a frame (R335) -/

/-- The data blocks of a body and the TERM block. Seven last bytes, for which no TERM has room, take a data block with a zero
byte. [DESIGN CHOICE, log 97] -/
def bodyBlocks : Nat → List Byte → List Blk
  | 0, _ => []
  | k + 1, b =>
    if 7 ≤ b.length then { hdr := hdrDATA, bytes := sliceBytes b 0 8 } :: bodyBlocks k (b.drop 8)
    else [ctrlBlk btTERM (leBytes 1 b.length ++ b)]

/-- A frame: SOF, body, TERM; or, of an aborted one, ABORT in place of the block after what was received. -/
def frameBlocks (f : Frame) : List Blk :=
  let sof := ctrlBlk btSOF (leBytes 7 (linkHeader f))
  let l := bodyBlocks (f.body.length + 1) f.body
  if f.abort then sof :: (l.filter fun b => b.hdr == hdrDATA) ++ [ctrlBlk btABORT []] else sof :: l

/-! ## The links' own blocks (R346, R373, R382) -/

/-- Bytes 1 to 7 of an LSTAT block. -/
def lstatBytes (quar : Bool) (rate rxok count addr : Nat) : List Byte :=
  let b := leBytes 1 (128 * b2n quar + 32 * rate + rxok) ++ leBytes 2 count ++ leBytes 2 addr
  b ++ leBytes 2 (hcs b)

/-- Bytes 1 to 7 of a DLY block. -/
def dlyBytes (response : Bool) (seq t : Nat) : List Byte :=
  let b := leBytes 1 (128 * b2n response + seq) ++ leBytes 4 t
  b ++ leBytes 2 (hcs b)

/-- Bytes 1 to 7 of a MARK block. -/
def markBytes (sync : Bool) (depth part txofs u : Nat) : List Byte :=
  let b := leBytes 1 (128 * b2n sync + depth) ++ leBytes 2 part ++ leBytes 2 txofs ++ leBytes 1 u
  b ++ leBytes 1 (crc8 b)

/-- Port `p` sends a control block of type `t` with bytes 1 to 7 `b`. -/
def sendBlock (p t : Nat) (b : List Byte) (s : State) : State := s.emit .block [p, t] b

end Sys2Proof.Machine
end

