-- ==== Sys2Proof/Machine/Ports.lean ====
section
/-! DEFINITION. Traverse ports and lanes (R328 to R361): link headers, quarantine and training, the transmitter, and the SPI
sideband; the meanings of the rows TRANSMIT_FRAME_START to ERROR_COUNT_LEAK, LSTAT_BLOCK to SPI_UNKNOWN_COMMAND (but for
SPI_WRITE) and TRAINING_RATE_STEP. -/
namespace Sys2Proof.Machine

/-! ## Checks and headers (R333, R336) -/

/-- A received H: whether the frame may start there (R337), its HOST bit, and its fields. -/
def headerGood (h : Nat) : Bool :=
  decide (h / 2 ^ 40 % 65536 = hcs (leBytes 5 h)) && !h.testBit 7 && !h.testBit 27
  && (bitsOf h 0 3 == 1 || bitsOf h 0 3 == 2)

def headerHost (h : Nat) : Bool := h.testBit 6

def headerFrame (h : Nat) (body : List Byte) : Frame :=
  { ftype := bitsOf h 0 3, cls := bitsOf h 3 2, copy := h.testBit 5, origin := bitsOf h 8 12, ttl := bitsOf h 20 7
    fseq := bitsOf h 28 12, own := false, body := body }

/-- Bytes 1 to 5 of a block agree with the CRC-16 in its bytes 6 and 7; the list holds bytes 1 to 7. -/
def blockCrcOk (b : List Byte) : Bool := leAt b 5 2 == hcs (sliceBytes b 0 5)

/-! ## Port states (R359) -/

def poOFF : Nat := 0
def poTRAIN : Nat := 1
def poRUN : Nat := 2
def poHUNT : Nat := 3
def poQUAR : Nat := 4

def State.portState (s : State) (p : Nat) : Nat := s.fg (R.TRV_PSTAT_STATE p)

/-- The other port of the same ring (R328). -/
def otherPort (p : Nat) : Nat := if p % 2 = 0 then p + 1 else p - 1

/-- The segment has line ends (R379); where nothing has told this station which, both are free values. [DESIGN CHOICE, log 101] -/
def segmentEnds (s : State) : State :=
  if s.fb R.NET_ENDS_VALID then s
  else
    let (x, s1) := s.free
    ((s1.fs R.NET_ENDS_VALID 1).fs R.NET_ENDS_ENDA (x % 64)).fs R.NET_ENDS_ENDB (x / 64 % 64)

/-- The end of this segment on the side of port `p` is the station at position `pos`. [DESIGN CHOICE, log 101] -/
def lineEnd (p pos : Nat) (s : State) : State :=
  let s1 := segmentEnds s
  if p = 0 then s1.fs R.NET_ENDS_ENDA pos else s1.fs R.NET_ENDS_ENDB pos

/-- The link-change notice of R369: to the origin of the traverse, or to the root for a tie port. -/
def linkChange (p : Nat) (up : Bool) (s : State) : State :=
  if s.portMode p ≠ 0 ∨ !s.addressed then s
  else
    let dst := if p < 2 then s.net.orig else 0
    if dst = s.ownAddr then
      { s with net := { s.net with again := s.net.again || decide (p < 2), againTie := s.net.againTie || decide (2 ≤ p) } }
    else sendOut { cls := 1, noReply := true, opcode := 0x03, hops := 15, dest := dst, src := s.ownAddr
                   payload := leBytes 1 p ++ leBytes 1 (b2n up) ++ leBytes 2 0 } s

/-- Port `p` leaves RUN. -/
def leaveRun (p : Nat) (s : State) : State :=
  if !s.tb R.TRV_STAT_RUN p then s
  else
    let s1 := s.fbit R.TRV_STAT_RUN p false
    let s2 := s1.setPort p { s1.port p with acc := false, marked := 0, mark := {}, rx := none }
    let s3 := if p < 2 ∧ s.portMode p = 0 ∧ s.addressed then lineEnd p (s.ownAddr % 64) (s2.fs R.NET_STAT_WRAP 1) else s2
    linkChange p false s3

/-- COUNT rises by `n`. -/
def addError (p n : Nat) (s : State) : State := s.fadd (R.TRV_PERR_COUNT p) n

/-- Port `p` is degraded while its rate is below RATEMAX or it uses fewer lanes than are enabled (R348). -/
def degCheck (p : Nat) (s : State) : State :=
  let lanes := s.fg (R.TRV_PCTL_LANEEN p)
  let deg := decide (s.fg (R.TRV_PCTL_RATEMAX p) < s.fg (R.TRV_PSTAT_RATE p)
    ∨ popCount 2 (s.fg (R.TRV_PSTAT_RXL p) &&& s.fg (R.TRV_PSTAT_TXL p)) < popCount 2 lanes)
  let s1 := capLow (s.fbit R.TRV_STAT_DEG p deg)
  if deg && !s.tb R.TRV_STAT_DEG p then s1.raise 0x2D (islPTX p) p else s1

/-- Port `p` enters RUN with the lanes and the rate of its training; release step 8 begins with the first one (R500). The link
may be another one, so its delay is measured anew (R383). [DEDUCED, log 185] -/
def enterRun (p : Nat) (s : State) : State :=
  let o := s.port p
  let s1 := (((s.fs (R.TRV_PSTAT_STATE p) poRUN).fs (R.TRV_PSTAT_RATE p) o.trial).fs (R.TRV_PSTAT_RXL p) o.rxok).fs
    (R.TRV_PSTAT_TXL p) o.farRx
  let s2 := (s1.setPort p { o with acc := false, marked := 0, fresh := false, leakAt := s.lt, dly := [], dlyWait := false, rx := none }).fs
    (R.DTM_LINK_DELAY p) 0
  let s3 := if 7 ≤ s2.fg R.RST_STAT_STEP ∧ s2.pwr.step8.isNone then { s2 with pwr := { s2.pwr with step8 := some s2.lt } } else s2
  linkChange p true (degCheck p (s3.fbit R.TRV_STAT_RUN p true))

/-! ## Quarantine and training (R347 to R351) -/

/-- TRV_PQUARp.QRECENT: the quarantines of the last 60 s since the counters were cleared. -/
def quarRecent (s : State) (p : Nat) : Nat :=
  clampU 8 ((s.port p).quarAt.countP fun t => decide (s.lt < t + 60000000000 ∧ (s.port p).quarClr ≤ t))

/-- The quarantines of the last 60 s. -/
def recentQuar (s : State) (p : Nat) : List Nat := (s.port p).quarAt.filter fun t => s.lt < t + 60000000000

/-- The trial rate of R348, with the rate that the far end names. -/
def trialRate (s : State) (p far : Nat) : Nat :=
  let mine := if (s.port p).fresh then s.fg (R.TRV_PCTL_RATEMAX p)
    else if 3 ≤ (recentQuar s p).length then min 2 (s.fg (R.TRV_PSTAT_RATE p) + 1) else s.fg (R.TRV_PSTAT_RATE p)
  max (max mine (s.fg (R.TRV_PCTL_RATEMAX p))) far

/-- Quarantine, steps 1 and 2: frames for the port are discarded, the F2 source, 8 LSTAT blocks with QUAR. -/
def quarantine (p far : Nat) (s : State) : State :=
  let s1 := leaveRun p s
  let o := s1.port p
  let s2 := s1.setPort p { o with tx := [], quarAt := recentQuar s1 p ++ [s1.lt] }
  let s3 := s2.inc (R.TRV_PQUAR_QTOTAL p)
  let r := trialRate s3 p far
  let s4 := s3.setPort p { s3.port p with trial := r }
  let s5 := (s4.fs (R.TRV_PSTAT_STATE p) poQUAR).raise 0x69 (islPTX p) p
  let b := lstatBytes true r (s.fg (R.TRV_PSTAT_RXL p)) (s5.fg (R.TRV_PERR_COUNT p)) s5.ownAddr
  if s5.portMode p = 2 then s5 else (List.range 8).foldl (fun t _ => sendBlock p btLSTAT b t) s5

/-- Quarantine when COUNT has reached LIMIT. -/
def limitCheck (p : Nat) (s : State) : State :=
  if s.fg (R.TRV_PERR_LIMIT p) ≤ s.fg (R.TRV_PERR_COUNT p) ∧ (s.portState p = poRUN ∨ s.portState p = poHUNT) then quarantine p 0 s
  else s

/-- Switches the lane domains of port `p` to what EN, MODE and LANEEN ask (R44, R352). -/
def laneDomains (p : Nat) (s : State) : State :=
  let on_ := s.fb (R.TRV_PCTL_EN p) && s.fg (R.TRV_PCTL_MODE p) != 3
  [0, 1].foldl (fun t l => domReq (on_ && t.tb (R.TRV_PCTL_LANEEN p) l && (l == 0 || t.fg (R.TRV_PCTL_MODE p) != 2)) (domLane p l) t) s

/-- The port stops. -/
def portStop (p : Nat) (s : State) : State :=
  let s1 := leaveRun p s
  let s2 := s1.setPort p { s1.port p with tx := [], fresh := true, mark := {} }
  laneDomains p (capLow (((s2.fs (R.TRV_PSTAT_STATE p) poOFF).fs (R.TRV_PSTAT_LOCK p) 0).fbit R.TRV_STAT_DEG p false))

/-- Training starts at the trial rate. MODE, RATEMAX and LANEEN as written take effect (R351); a port written off stops. -/
def beginTraining (p : Nat) (s0 : State) : State :=
  if s0.fg (R.TRV_PCTL_MODE p) = 3 then portStop p s0 else
  let s := laneDomains p s0
  let s1 := (((s.fs (R.TRV_PSTAT_STATE p) poTRAIN).fs (R.TRV_PSTAT_TRFAIL p) 0).fs (R.TRV_PSTAT_FAR p) 0).fs (R.TRV_PERR_COUNT p) 0
  let s2 := s1.fs (R.TRV_PSTAT_LOCK p) 0
  s2.setPort p { s2.port p with
    mode := s.fg (R.TRV_PCTL_MODE p)
    trainAt := s.lt, lockAt := [], tcnt := [], good := [], rxok := 0, farRx := 0, ready := 0, step := false }

/-- After the 8th LSTAT with QUAR. -/
def portTrainingStart (p : Nat) (s : State) : State := if s.portState p = poQUAR then beginTraining p s else s

def execPortTrainingStart (p : Fin 4) (s : State) := run (portTrainingStart p.val) s

/-- A write of TRV_PCTLp (R351, R353, R359). -/
def pctlWrite (p : Nat) (v : Word) (s : State) : Stat × State :=
  let re := wf v (R.TRV_PCTL_RETRAIN p) == 1
  let eth := wf v (R.TRV_PCTL_MODE p) == 2
  if wf v (R.TRV_PCTL_RATEMAX p) = 3 ∨ wf v (R.TRV_PCTL_LANEEN p) = 0 then (.badParam, s)
  else if re ∧ eth ∧ (wf v (R.TRV_PCTL_RATEMAX p) ≠ 0 ∨ wf v (R.TRV_PCTL_LANEEN p) ≠ 1) then (.badParam, s)
  else
    let was := s.fb (R.TRV_PCTL_EN p)
    let s1 := applyWrite (R.TRV_PCTL p) v s
    let s2 := if wf v (R.TRV_PCTL_CNTCLR p) = 1 then
        ([R.TRV_PFRM p, R.TRV_PLOC p, R.TRV_PDUP p, R.TRV_PLANE p 0, R.TRV_PLANE p 1, R.TRV_PQUAR p].foldl (fun t a => t.setReg a 0)
          s1).setPort p { s1.port p with quarClr := s1.lt + 1 }
      else s1
    let s3 :=
      if !s2.fb (R.TRV_PCTL_EN p) then (if s2.portState p = poOFF then s2 else portStop p s2)
      else if !was ∨ s2.portState p = poOFF then
        beginTraining p (s2.setPort p { s2.port p with fresh := true, trial := s2.fg (R.TRV_PCTL_RATEMAX p) })
      else if re then quarantine p 0 (s2.setPort p { s2.port p with fresh := true })
      else s2
    (.ok, s3)

def execPortRetrain (p : Fin 4) (v : Word) (s : State) :=
  run (direct (R.TRV_PCTL p.val) (w32 (setBit v.toNat 31 true)) (keeping (R.TRV_PCTL p.val) (pctlWrite p.val))) s

def execPortCounterClear (p : Fin 4) (v : Word) (s : State) :=
  run (direct (R.TRV_PCTL p.val) (w32 (setBit v.toNat 30 true)) (keeping (R.TRV_PCTL p.val) (pctlWrite p.val))) s

/-- A write of TRV_PCTLp that sets or clears EN. -/
def execPortEnable (p : Fin 4) (v : Word) (s : State) := run (direct (R.TRV_PCTL p.val) v (keeping (R.TRV_PCTL p.val) (pctlWrite p.val))) s

/-- A lane has passed, locked or stepped: whether the port may enter RUN (steps 4 and 5 of R350). -/
def trainedCheck (p : Nat) (s : State) : State :=
  let o := s.port p
  if s.portState p = poTRAIN ∧ o.rxok ≠ 0 ∧ o.farRx ≠ 0 ∧ 16 ≤ o.ready then enterRun p s else s

/-- `n` consecutive TRAIN blocks have arrived on lane `l`, the last with bytes 1 to 7 `b` (R349).
[DESIGN CHOICE, log 97] -/
def trainBlock (p l n : Nat) (b : List Byte) (s : State) : State :=
  let o := s.port p
  let cnt := u16 b 1
  if s.portState p ≠ poTRAIN ∨ !s.tb (R.TRV_PCTL_LANEEN p) l ∨ !s.tb (R.TRV_PSTAT_LOCK p) l ∨ n = 0 then s
  else if !blockCrcOk b ∨ (u8 b 0).testBit 4 ≠ (l == 1) then
    s.setPort p { o with good := Smap.set (fun _ => 0) o.good l 0, tcnt := Smap.set (fun _ => 65536) o.tcnt l 65536, ready := 0 }
  else
    let last := Smap.get (fun _ => 65536) o.tcnt l
    let cont := last == 65536 || decide ((last + n) % 65536 = cnt)
    let good := if cont then Smap.get (fun _ => 0) o.good l + n else n
    let rxok := if 65536 ≤ good then setBit o.rxok l true else o.rxok
    let o1 := { o with
      tcnt := Smap.set (fun _ => 65536) o.tcnt l cnt, good := Smap.set (fun _ => 0) o.good l (min good 65536), rxok := rxok
      farRx := u8 b 3 % 4, ready := if (u8 b 0).testBit 7 then o.ready + n else 0
      step := o.step || ((u8 b 0).testBit 3 && decide (o.trial < 2)) }
    trainedCheck p ((s.setPort p o1).fs (R.TRV_PSTAT_FAR p) 1)

def execTrainBlock (p : Fin 4) (l : Fin 2) (n : Nat) (b : List Byte) (s : State) := run (trainBlock p.val l.val n b) s

/-- A lane that locked 20 ms ago has not passed: the port sends STEP. -/
def trainingStepDown (p : Nat) (s : State) : State :=
  let o := s.port p
  if s.portState p = poTRAIN ∧ o.trial < 2 ∧ (o.lockAt.any fun e => !o.rxok.testBit e.1 && s.due e.2 20000000) then
    s.setPort p { o with step := true }
  else s

def execTrainingStepDown (p : Fin 4) (s : State) := run (trainingStepDown p.val) s

/-- 256 TRAIN blocks with STEP have been sent: the next lower rate. -/
def trainingRateStep (p : Nat) (s : State) : State :=
  let o := s.port p
  if s.portState p = poTRAIN ∧ o.step ∧ o.trial < 2 then
    (s.fs (R.TRV_PSTAT_LOCK p) 0).setPort p { o with
      trial := o.trial + 1, step := false, lockAt := [], tcnt := [], good := [], rxok := 0, ready := 0 }
  else s

def execTrainingRateStep (p : Fin 4) (s : State) := run (trainingRateStep p.val) s

def trainingTimeout (p : Nat) (s : State) : State :=
  if s.portState p = poTRAIN ∧ !s.fb (R.TRV_PSTAT_TRFAIL p) ∧ s.due (s.port p).trainAt 1000000000 then
    (s.fs (R.TRV_PSTAT_TRFAIL p) 1).raise 0x2E (islPTX p) p
  else s

def execTrainingTimeout (p : Fin 4) (s : State) := run (trainingTimeout p.val) s

/-! ## Lock and hunting (R332, R344, R345) -/

/-- A sync header is valid (R331). -/
def headerValid (h : BitVec 2) : Bool := h == 1 || h == 2

/-- Lane `l` declares block lock: the last 64 of the sync headers `hdrs` at one position are valid, and `last` are the last 58
scrambled bits. An Ethernet port runs once lane 0 holds it (R353). -/
def laneBlockLock (p l : Nat) (hdrs : List (BitVec 2)) (last : Nat) (s : State) : State :=
  let o0 := s.port p
  let o := { o0 with desc := Smap.set (fun _ => 0) o0.desc l last }
  if s.portState p = poOFF ∨ !s.tb (R.TRV_PCTL_LANEEN p) l ∨ s.tb (R.TRV_PSTAT_LOCK p) l
    ∨ hdrs.length < 64 ∨ !(hdrs.drop (hdrs.length - 64)).all headerValid then s
  else
    let s1 := (s.setPort p o).fbit (R.TRV_PSTAT_LOCK p) l true
    if s.portMode p = 2 then
      if l = 0 then enterRun p (s1.setPort p { o with rxok := 1, farRx := 1, trial := 0 }) else s
    else if s.portState p = poTRAIN then
      s1.setPort p { o with
        lockAt := if o.lockAt.any fun e => e.1 == l then o.lockAt else Smap.put o.lockAt l s.lt
        tcnt := Smap.set (fun _ => 65536) o.tcnt l 65536 }
    else s1

def execLaneBlockLock (p : Fin 4) (l : Fin 2) (hdrs : List (BitVec 2)) (last : BitVec 58) (s : State) :=
  run (laneBlockLock p.val l.val hdrs last.toNat) s

/-- A forwarded frame joins a port's queue, or is dropped for lack of transit buffer (R340). -/
def forwardFrame (p : Nat) (f : Frame) (s : State) : State :=
  let held := (s.port p).tx.filter fun g => !g.own && g.cls == f.cls
  let n := held.foldl (fun m g => m + g.body.length) 0
  if 16384 < n + f.body.length then
    let s1 := s.inc (R.TRV_PLOC_DROP p)
    if f.cls < 2 then s1.raise 0x2C (islPTX p) p else s1
  else enqueueKeep f p s

/-- A packet frame accepted within the last 64 us (R343). [DEDUCED, log 90] -/
def isDuplicate (s : State) (f : Frame) : Bool :=
  s.trv.recent.any fun (e : Nat × Nat × Nat) => e.1 == f.origin && e.2.1 == f.fseq && decide (s.lt < e.2.2 + 64000)

/-- A frame that port `p` receives goes cut-through (R338): the other port of its ring runs at the same rate with as many
lanes, and nothing waits there. -/
def cutThrough (s : State) (p : Nat) : Bool :=
  let o := otherPort p
  ringRun s p && ringRun s o && s.fg (R.TRV_PSTAT_RATE p) == s.fg (R.TRV_PSTAT_RATE o)
  && popCount 2 (s.fg (R.TRV_PSTAT_RXL p)) == popCount 2 (s.fg (R.TRV_PSTAT_TXL o)) && (s.port o).tx == []

/-- A frame that ends aborted while it is forwarded cut-through ends with ABORT downstream (R342); of a frame that is stored
first nothing has been sent. -/
def abortPass (p h : Nat) (body : List Byte) (s : State) : State :=
  let f := headerFrame h body
  let mine := s.addressed && (f.origin == s.ownAddr
    || (decide (6 ≤ body.length) && decide (addrMode (leAt body 4 2) = 0 ∨ 8 ≤ addrMode (leAt body 4 2)) && addrField (leAt body 4 2) == s.ownAddr))
  if !cutThrough s p ∨ headerHost h ∨ f.ttl = 0 ∨ mine ∨ isDuplicate s f then s
  else forwardFrame (otherPort p) { f with ttl := f.ttl - 1, abort := true } s

/-- The frame that port `p` is receiving ends ABORTED at this receiver (R342). -/
def abortHere (p : Nat) (s : State) : State :=
  match (s.port p).rx with
  | none => s
  | some (h, body) => abortPass p h body (addError p 1 ((s.setPort p { s.port p with rx := none }).inc (R.TRV_PLOC_ABLOC p)))

/-- Lane `l` drops lock: 16 of the last 64 headers, which `hdrs` lists, are invalid, or it has received no valid block for 16 us,
and `hdrs` is empty. In RUN the port enters HUNT. [DESIGN CHOICE, log 97] -/
def laneLockLoss (p l : Nat) (hdrs : List (BitVec 2)) (s : State) : State :=
  let bad := hdrs.countP fun h => !headerValid h
  if !s.tb (R.TRV_PSTAT_LOCK p) l ∨ 64 < hdrs.length ∨ (hdrs ≠ [] ∧ bad < 16) then s
  else
    let s0 := abortHere p (s.fadd (R.TRV_PLANE_HDRERR p l) bad)
    let s1 := addError p 4 ((s0.fbit (R.TRV_PSTAT_LOCK p) l false).inc (R.TRV_PLANE_LOCKLOSS p l))
    if s.portState p = poRUN ∧ s.tb (R.TRV_PSTAT_RXL p) l then
      let s2 := leaveRun p s1
      let s3 := (s2.fs (R.TRV_PSTAT_STATE p) poHUNT).setPort p { s2.port p with huntAt := s.lt, marked := 0, acc := false }
      limitCheck p s3
    else if s.portState p = poTRAIN then
      let o := s1.port p
      s1.setPort p { o with good := Smap.set (fun _ => 0) o.good l 0, rxok := setBit o.rxok l false }
    else limitCheck p (s1.setPort p { s1.port p with marked := setBit (s1.port p).marked l false })

def execLaneLockLoss (p : Fin 4) (l : Fin 2) (hdrs : List (BitVec 2)) (s : State) := run (laneLockLoss p.val l.val hdrs) s

/-- 10 ms after HUNT a lane in use holds no lock. -/
def portHuntTimeout (p : Nat) (s : State) : State :=
  let use := s.fg (R.TRV_PSTAT_RXL p)
  if s.portState p = poHUNT ∧ s.due (s.port p).huntAt 10000000 ∧ s.fg (R.TRV_PSTAT_LOCK p) &&& use ≠ use then quarantine p 0 s else s

def execPortHuntTimeout (p : Fin 4) (s : State) := run (portHuntTimeout p.val) s

def errorCountLeak (p : Nat) (s : State) : State :=
  let o := s.port p
  if !s.due o.leakAt (1000000 * s.fg (R.TRV_PERR_LEAK p)) then s
  else (s.setPort p { o with leakAt := s.lt }).fs (R.TRV_PERR_COUNT p) (s.fg (R.TRV_PERR_COUNT p) - 1)

def execErrorCountLeak (p : Fin 4) (s : State) := run (errorCountLeak p.val) s

/-- A MARK on lanes `lanes` serves alignment and relock, whatever its content (R330, R344, R373). -/
def markAlign (p lanes : Nat) (aligned : Bool) (s : State) : State :=
  let o := s.port p
  let use := s.fg (R.TRV_PSTAT_RXL p)
  let s1 := if aligned then s else limitCheck p (addError p 2 (abortHere p s))
  if s1.portState p = poRUN then s1.setPort p { s1.port p with acc := true }
  else if s1.portState p = poHUNT then
    let m := o.marked ||| (lanes &&& s1.fg (R.TRV_PSTAT_LOCK p))
    if s1.fg (R.TRV_PSTAT_LOCK p) &&& use = use ∧ m &&& use = use then
      let s2 := ((s1.fs (R.TRV_PSTAT_STATE p) poRUN).fbit R.TRV_STAT_RUN p true).setPort p { s1.port p with acc := true, marked := m }
      linkChange p true s2
    else s1.setPort p { s1.port p with marked := m }
  else s1

/-- An LSTAT block with bytes 1 to 7 `b` (R346, R347). -/
def lstatBlock (p : Nat) (b : List Byte) (s : State) : State :=
  if !blockCrcOk b ∨ s.portState p = poOFF then s
  else
    let s1 := s.fs (R.TRV_PSTAT_FAR p) 1
    if (u8 b 0).testBit 7 then
      if s.portState p = poQUAR then
        s1.setPort p { s1.port p with trial := max (s1.port p).trial (min 2 (bitsOf (u8 b 0) 5 2)) }
      else quarantine p (min 2 (bitsOf (u8 b 0) 5 2)) s1
    else s1

def execLstatBlock (p : Fin 4) (b : List Byte) (s : State) := run (lstatBlock p.val b) s

/-! ## The transmitter (R339, R340) -/

/-- The rank of a frame: class 0, roll-call, class 1, 2, 3; forwarded frames before own. -/
def frameRank (f : Frame) : Nat :=
  (if f.ftype = 2 then 1 else if f.cls = 0 then 0 else f.cls + 1) * 2 + b2n f.own

/-- The index of the first frame of the lowest rank. -/
def nextFrame (l : List Frame) : Option Nat :=
  match l.map frameRank with
  | [] => none
  | r :: rs =>
    let m := rs.foldl min r
    (l.map frameRank).findIdx? fun x => x == m

/-- The roll-call window of port `p` is open (R372): from 900 ns before the arrival time of the last roll-call frame, in a cycle
that has one, until that cycle's frame has passed. -/
def rollWindow (s : State) (p : Nat) : Bool :=
  let o := s.port p
  let c := s.now / 10000
  match o.rcOfs with
  | none => false
  | some t => [c, c + 1].any fun k =>
    k % 2 ^ s.fg R.NET_RCSTAT_RCDIV == 0 && decide (o.rcCyc < k) && decide (10000 * k + t ≤ s.now + 900)

/-- The blocks of a frame on the lanes in use. Where the lanes and their scramblers stand after the IDLE blocks before it is a
free value `f` (R330, R331). [DESIGN CHOICE, log 97] -/
def wireOut (lanes : List Nat) (f : Nat) (l : List Blk) : List (Nat × Nat) :=
  dealOut lanes (bitsOf f 116 1) [(0, bitsOf f 0 58), (1, bitsOf f 58 58)] l

/-- The transmitter of port `p` takes its next frame; while the roll-call window is open, it starts none of class 1 to 3. -/
def transmitFrameStart (p : Nat) (s : State) : State :=
  let o := s.port p
  if s.portState p ≠ poRUN then s
  else match nextFrame o.tx with
    | none => s
    | some i =>
      let f := o.tx.getD i {}
      if rollWindow s p && decide (4 ≤ frameRank f) then s
      else
        let o1 := { o with tx := o.tx.eraseIdx i, rcCyc := if f.ftype = 2 then max o.rcCyc (s.now / 10000) else o.rcCyc }
        let s1 := (s.setPort p o1).emit .block [p, btSOF, linkHeader f, b2n f.abort] f.body
        let lanes := [0, 1].filter fun l => s.tb (R.TRV_PSTAT_TXL p) l
        if s.portMode p = 2 ∨ lanes = [] then s1
        else
          let (x, s2) := s1.free
          s2.emit .wire (p :: (wireOut lanes x (frameBlocks f)).flatMap fun e => [e.1, e.2])

def execTransmitFrameStart (p : Fin 4) (s : State) := run (transmitFrameStart p.val) s

/-! ## The SPI sideband (R355) -/

/-- The CP serves the sideband. -/
def State.sideServed (s : State) : Bool := s.cpRuns

def State.sideBusy (s : State) : Bool := decide (2 ≤ s.hst.rx.length)

/-- HST_SPISTAT. -/
def spiStat (s : State) : Word :=
  let n := s.hst.replies.length
  w32 (n * 65536 + (s.hst.replies.headD []).length * 16 + b2n (n != 0) * 4 + b2n s.sideBusy * 2)

/-- STATUS. -/
def spiStatus (s : State) : State :=
  let len := (s.hst.replies.headD []).length
  s.emit .side [] [BitVec.ofNat 8 (128 * b2n s.sideServed + 64 * b2n s.sideBusy), BitVec.ofNat 8 s.hst.replies.length
    , BitVec.ofNat 8 (len / 256), BitVec.ofNat 8 len]

def execSpiStatus (s : State) := run (fun s => if s.sideServed then spiStatus s else s) s

/-- READ: `n` bytes of the oldest reply are clocked out; the whole reply removes it. -/
def spiRead (n : Nat) (s : State) : State :=
  match s.hst.replies with
  | [] => s
  | r :: rs =>
    let s1 := s.emit .side [] (r.take n)
    if n < r.length then s1
    else { s1 with hst := { s1.hst with replies := rs ++ s1.hst.backlog.take 1, backlog := s1.hst.backlog.drop 1 } }

def execSpiRead (n : Nat) (s : State) := run (fun s => if s.sideServed then spiRead n s else s) s

/-- FLUSH. -/
def spiFlush (s : State) : State := { s with hst := { s.hst with replies := [], backlog := [] } }

def execSpiFlush (s : State) := run (fun s => if s.sideServed then spiFlush s else s) s

/-- Any other command byte. -/
def spiUnknown (s : State) : State := (s.emit .side [] [0xFF]).inc R.HST_SPICNT_OVF

def execSpiUnknownCommand (s : State) := run (fun s => if s.sideServed then spiUnknown s else s) s

end Sys2Proof.Machine
end

