-- ==== Sys2Proof/Machine/Datum.lean ====
section
/-! DEFINITION. The datum (R382 to R390, R399, R400): link delays, the choice of an upstream, the servo, the datum
station's references; the meanings of the rows MARK_BLOCK, DLY_BLOCK, PTP_MESSAGE, DATUM_HOLD_ENTRY to DTM_TOD_ARM,
PPS_REFERENCE_LOST and DTM_NOW_READ. -/
namespace Sys2Proof.Machine

/-! ## Link delays (R382, R383) -/

/-- The mean of the measurements kept, rounded down. -/
def meanDelay (l : List Nat) : Nat := if l.length = 0 then 0 else l.sum / l.length

/-- A valid measurement enters the mean of the last 16; after the first 16 one that is more than 2 ns off is discarded. -/
def delayMeasured (p d : Nat) (s : State) : State :=
  let o := s.port p
  let m := meanDelay o.dly
  if 16 ≤ o.dly.length ∧ (d + 2048 < m ∨ m + 2048 < d) then s
  else
    let l := (d :: o.dly).take 16
    (s.setPort p { o with dly := l }).fs (R.DTM_LINK_DELAY p) (clampU 32 (meanDelay l))

/-- A DLY block with bytes 1 to 7 `b`. `meas` is, in 1/1,024 ns, t3 - t2 for a request that is answered and t4 - t1 for a
response. -/
def dlyBlock (p : Nat) (b : List Byte) (meas : Nat) (s : State) : State :=
  let o := s.port p
  let seq := u8 b 0 % 128
  if !blockCrcOk b ∨ s.portState p ≠ poRUN ∨ s.portMode p = 2 then s
  else if u8 b 0 < 128 then sendBlock p btDLY (dlyBytes true seq (meas % 2 ^ 32)) s
  else if o.dlyWait ∧ o.dlySeq = seq then
    let t := leAt b 1 4
    let s1 := s.setPort p { o with dlyWait := false }
    if meas < t then s1 else delayMeasured p ((meas - t) / 2) s1
  else s

def execDlyBlock (p : Fin 4) (b : List Byte) (meas : Nat) (s : State) := run (dlyBlock p.val b meas) s

/-! ## The servo (R384 to R387) -/

def dsFREE : Nat := 0
def dsACQ : Nat := 1
def dsLOCK : Nat := 2
def dsHOLD : Nat := 3
def dsDATUM : Nat := 4

def State.dtmState (s : State) : Nat := s.fg R.DTM_STAT_STATE

/-- Changes what the servo holds beside its registers. -/
def State.setDtm (s : State) (f : Dtm → Dtm) : State := { s with dtm := f s.dtm }

/-- SYNC of the MARKs this station sends (R373, R385, R388). -/
def syncOut (s : State) : Bool := s.dtmState == dsLOCK || (s.dtmState == dsDATUM && s.dtm.running)

/-- Port `p` shows valid MARKs with SYNC, `need` of them in a row, the last within 2 cycles. -/
def selectable (s : State) (need p : Nat) : Bool :=
  let m := (s.port p).mark
  ringRun s p && m.sync && decide (need ≤ m.n) && decide (s.now / 10000 < m.at_ + 2)

/-- The port that R384 selects: smallest DEPTH, then the port in force, then the lower index. -/
def bestPort (s : State) (need : Nat) : Option Nat :=
  let cur := s.fg R.DTM_STAT_UP
  let key := fun (p : Nat) => ((s.port p).mark.depth * 2 + (if p = cur then 0 else 1)) * 4 + p
  let l := (List.range 4).filter (selectable s need)
  l.foldl (fun (b : Option Nat) p => match b with | none => some p | some q => if key p < key q then some p else some q) none

/-- The station follows port `p`. -/
def follow (p : Nat) (s : State) : State :=
  (s.fs R.DTM_STAT_UP p).fs R.DTM_STAT_DEPTH (min 127 ((s.port p).mark.depth + 1))

/-- The datum steps by `d` ns; the F1 source carries the size in us (R385, R481). -/
def datumStep (d : Int) (s : State) : State :=
  let s1 := { s with now := ((s.now : Int) + d).toNat }
  (s1.inc R.DTM_EVT_STEPS).raise 0x31 islDTM (clampU 16 (d.natAbs / 1000))

/-- U in LOCK (R386): the upstream's plus 3 times the rms of the last 64 offsets, in 0.125 ns. [DEDUCED, log 107] -/
def lockU (s : State) : Nat :=
  let sq := s.dtm.offs.foldl (fun (a : Nat) o => a + o.natAbs * o.natAbs) 0
  let up := (s.port (s.fg R.DTM_STAT_UP)).mark.u
  clampU 8 (up + sqrtNear (9 * sq) (max 1 (128 * 128 * s.dtm.offs.length)))

/-- The proportional-integral correction of this cycle: its gains are not the spec's, its bound is (R385).
[DESIGN CHOICE, log 106] -/
def correct (s : State) : State :=
  let (w, s1) := s.free
  let f := max (-50000000) (min 50000000 (asInt 32 w))
  (s1.fs R.DTM_FREQ_FREQ (ofInt 32 f)).setDtm fun d => { d with
    freqs := (d.freqs.filter fun e => decide (s.lt < e.1 + 1000000000)) ++ [(s.lt, f)] }

/-- A servo state is entered. -/
def dtmGoto (st : Nat) (s : State) : State :=
  let u := if st = dsDATUM then 0 else if st = dsLOCK then lockU s else if st = dsHOLD then s.fg R.DTM_STAT_U else 255
  ((s.fs R.DTM_STAT_STATE st).fs R.DTM_STAT_U u).setDtm fun d => { d with inN := 0, outN := 0, stepped := false }

/-- One offset of the upstream, in 1/1,024 ns (R385). [DESIGN CHOICE, log 13] -/
def servoOffset (o : Int) (s : State) : State :=
  let a := o.natAbs
  let lockThr := 128 * s.fg R.DTM_SERVO_LOCKTHR
  let unlk := 1024 * s.fg R.DTM_SERVO_UNLK
  let s1 := (s.fs R.DTM_OFS_OFS (ofInt 32 (clampS 32 o))).setDtm fun d => { d with
    offs := (o :: d.offs).take 64
    inN := if a ≤ lockThr then d.inN + 1 else 0, outN := if unlk < a then d.outN + 1 else 0 }
  let s2 := correct s1
  let st := s2.dtmState
  let s3 :=
    if st = dsACQ then
      let s4 := if !s2.dtm.stepped && decide (1000 * 1024 < a) then
          (datumStep (-(o / 1024)) s2).setDtm fun d => { d with stepped := true, offs := [], inN := 0 }
        else s2
      if 16 ≤ s4.dtm.inN then dtmGoto dsLOCK s4 else s4
    else if st = dsLOCK then
      if 4 ≤ s2.dtm.outN then dtmGoto dsACQ (s2.inc R.DTM_EVT_UNLOCKS) else s2.fs R.DTM_STAT_U (lockU s2)
    else if st = dsHOLD then dtmGoto (if a ≤ unlk then dsLOCK else dsACQ) s2
    else s2
  updateCoh s3

/-- The cycle number that the parts in a row spell, the latest being part `j` of the number `k` with `k mod 4 = j`: a part
sent before the last part 0 belongs to the number 4 earlier, and takes the carry (R373). [DEDUCED, log 105] -/
def spelled (parts : List (Nat × Nat)) (j : Nat) : Nat :=
  let g := fun (i : Nat) => Smap.get (fun _ => 0) parts i
  let r := [1, 2, 3].foldl (fun (a : Nat × Bool) i =>
    let up := a.2 && decide (j < i)
    let v := (g i + b2n up) % 65536
    (a.1 + v * 2 ^ (16 * i), a.2 && v == 0)) (g 0, g 0 == 0)
  r.1 + j

/-- What port `p` keeps of a MARK's content (R373); a MARK whose CRC fails breaks the row. -/
def markContent (p j : Nat) (b : List Byte) (s : State) : State :=
  let m := (s.port p).mark
  if u8 b 6 ≠ crc8 (b.take 6) then s.setPort p { s.port p with mark := { m with n := 0, parts := [], cycle := none } }
  else
    let parts := Smap.put m.parts j (u16 b 1)
    let sync := (u8 b 0).testBit 7
    let m1 : PortMark := { m with
      n := m.n + 1, sync := sync, depth := u8 b 0 % 128, u := u8 b 5, parts := parts
      cycle := match m.cycle with
        | some c => some (c + 1)
        | none => if 4 ≤ m.n + 1 then some (spelled parts j) else none
      at_ := if sync then s.now / 10000 else m.at_ }
    s.setPort p { s.port p with mark := m1 }

/-- The choice of upstream after a MARK on port `p` (R384, R385). -/
def chooseUp (s : State) : State :=
  let st := s.dtmState
  let cur := s.fg R.DTM_STAT_UP
  let here := decide (cur < 4) && selectable s 1 cur
  if st = dsDATUM then s
  else match bestPort s (if st = dsHOLD then 4 else 1) with
    | none => s
    | some q =>
      if st = dsFREE then dtmGoto dsACQ (follow q s)
      else if st = dsLOCK then
        if q = cur ∨ (s.port q).mark.depth < s.fg R.DTM_STAT_DEPTH then follow q s
        else if here then follow cur s else s
      else follow q s

/-- A MARK block with bytes 1 to 7 `b` arrives on port `p`. `lanes` are the lanes that carried it, `aligned` whether they
were aligned, `j` its place in its sender's rows of four cycles, `t` this station's datum at the arrival of its first bit
in 1/1,024 ns. -/
def markBlock (p lanes : Nat) (aligned : Bool) (j : Nat) (b : List Byte) (t : Nat) (s : State) : State :=
  let s1 := markAlign p lanes aligned s
  if !ringRun s1 p then s1
  else
    let s2 := chooseUp (markContent p j b s1)
    let m := (s2.port p).mark
    match m.cycle with
    | some k =>
      if s2.fg R.DTM_STAT_UP = p ∧ m.sync ∧ m.n ≠ 0 ∧ s2.dtmState ≠ dsDATUM then
        let d : Int := s2.fg (R.DTM_LINK_DELAY p) + s2.fi (R.DTM_ASYM_ASYM p)
        servoOffset ((t : Int) - (1024 * 10000 * (k : Int) + (u16 b 3 : Nat) + d)) s2
      else s2
    | none => s2

def execMarkBlock (p : Fin 4) (lanes : Nat) (aligned : Bool) (j : Fin 4) (b : List Byte) (t : Nat) (s : State) :=
  run (markBlock p.val lanes aligned j.val b t) s

/-- The mean correction of the last second, rounded to nearest (R385). -/
def meanFreq (s : State) : Int :=
  let l := s.dtm.freqs.filter fun e => decide (s.lt < e.1 + 1000000000)
  if l.length = 0 then s.fi R.DTM_FREQ_FREQ else roundDiv (l.foldl (fun (a : Int) e => a + e.2) 0) (l.length : Int)

/-- No valid MARK from the upstream for 2 cycles: another port is followed, or HOLD is entered. -/
def datumHoldEntry (s : State) : State :=
  let st := s.dtmState
  let cur := s.fg R.DTM_STAT_UP
  if (st ≠ dsACQ ∧ st ≠ dsLOCK) ∨ selectable s 1 cur then s
  else
    let ok : Option Nat := match bestPort s 1 with
      | some q => if st = dsLOCK ∧ s.fg R.DTM_STAT_DEPTH ≤ (s.port q).mark.depth then none else some q
      | none => none
    match ok with
    | some q => follow q s
    | none =>
      let u := s.fg R.DTM_STAT_U
      let s1 := ((s.fs R.DTM_STAT_UP 7).fs R.DTM_STAT_DEPTH 127).fs R.DTM_FREQ_FREQ (ofInt 32 (meanFreq s))
      updateCoh (((dtmGoto dsHOLD s1).inc R.DTM_EVT_HOLDS).setDtm fun d => { d with holdAt := s.lt, holdU := u })

def execDatumHoldEntry (s : State) := run datumHoldEntry s

/-! ## The datum station (R365, R388) -/

/-- This station becomes the datum station, or ceases to be it. -/
def datumRole (mine : Bool) (s : State) : State :=
  if mine then
    if s.dtmState = dsDATUM then s
    else
      let s1 := ((dtmGoto dsDATUM s).fs R.DTM_STAT_UP 7).fs R.DTM_STAT_DEPTH 0
      updateCoh (s1.setDtm fun d => { d with
        running := s.fg R.DTM_CTRL_SRC == 0, waitAt := if s.fg R.DTM_CTRL_SRC = 0 then none else some s.lt, refOk := false })
  else if s.dtmState = dsDATUM then
    updateCoh ((((dtmGoto dsFREE s).fs R.DTM_STAT_DEPTH 127).fs R.DTM_STAT_TRACE 0).setDtm fun d => { d with
      running := false, waitAt := none, refOk := false })
  else s

/-- A valid reference of `r` ns at the present instant: the first one steps the datum to it, later ones are slewed to. -/
def datumReference (r : Int) (s : State) : State :=
  if s.dtmState ≠ dsDATUM then s
  else
    let s1 := if s.dtm.running then s
      else (datumStep (r - s.now) s).setDtm fun d => { d with running := true, waitAt := none }
    let ext := r - s1.now
    let far := decide (1000000000 < ext.natAbs)
    let s2 := ((s1.fs R.DTM_EXT_EXT (ofInt 32 (clampS 32 ext))).fs R.DTM_STAT_TRACE (b2n (decide (ext.natAbs ≤ 1000)))).setDtm
      fun d => { d with refOk := true, far := far }
    if far && !s1.dtm.far then s2.raise 0x6B islDTM 0 else s2

/-- GMWAIT has expired without a valid reference: the datum runs free. -/
def datumReferenceWaitTimeout (s : State) : State :=
  match s.dtm.waitAt with
  | some t =>
    if s.dtmState = dsDATUM ∧ !s.dtm.running ∧ s.due t (100000000 * s.fg R.DTM_CTRL_GMWAIT) then
      s.setDtm fun d => { d with running := true, waitAt := none }
    else s
  | none => s

def execDatumReferenceWaitTimeout (s : State) := run datumReferenceWaitTimeout s

/-- An edge on the PPS land. -/
def ppsEdge (rising : Bool) (s : State) : State :=
  if rising == s.fb R.DTM_CTRL_PPSPOL then s
  else
    let s1 := s.setDtm fun d => { d with ppsAt := some s.lt, ppsArm := none, ppsMiss := 0 }
    match s.dtm.ppsAt, s.dtm.ppsArm with
    | some t, some v => if s.lt ≤ t + 1100000000 ∧ s.fg R.DTM_CTRL_SRC = 1 then datumReference v s1 else s1
    | _, _ => s1

def execPpsEdge (rising : Bool) (s : State) := run (ppsEdge rising) s

/-- Two expected edges in a row have failed to arrive. [DEDUCED, log 108] -/
def ppsReferenceLost (s : State) : State :=
  match s.dtm.ppsAt with
  | some t =>
    if s.fg R.DTM_CTRL_SRC = 1 ∧ s.dtm.refOk ∧ s.due t 2000000000 then
      (s.fs R.DTM_STAT_TRACE 0).setDtm fun d => { d with refOk := false, ppsMiss := 2 }
    else s
  | none => s

def execPpsReferenceLost (s : State) := run ppsReferenceLost s

/-- A write of DTM_TODHI: it arms the value of the next edge when it completes 100 ms to 900 ms after the last one. -/
def todWrite (v : Word) (s : State) : Stat × State :=
  let s1 := s.setReg R.DTM_TODHI v
  let n := v.toNat * 2 ^ 32 + (s.reg R.DTM_TODLO).toNat
  match s.dtm.ppsAt with
  | some t => if t + 100000000 ≤ s.lt ∧ s.lt ≤ t + 900000000 then (.ok, s1.setDtm fun d => { d with ppsArm := some n }) else (.ok, s1)
  | none => (.ok, s1)

def execDtmTodArm (v : Word) (s : State) := run (direct R.DTM_TODHI v todWrite) s

/-- The other DTM registers' ranges (R400). -/
def dtmBad (s : State) (a : Nat) (v : Word) : Bool :=
  let eth := fun (p : Nat) => s.fg (R.TRV_PCTL_MODE p) == 2
  if a = R.DTM_CTRL then wf v R.DTM_CTRL_SRC == 3 || (wf v R.DTM_CTRL_SRC == 2 && !eth (s.fg R.DTM_PTPCFG_PORT))
  else if a = R.DTM_SERVO then
    wf v R.DTM_SERVO_BW == 0 || decide (100 < wf v R.DTM_SERVO_BW) || wf v R.DTM_SERVO_LOCKTHR == 0
    || decide (8 * wf v R.DTM_SERVO_UNLK < wf v R.DTM_SERVO_LOCKTHR)
  else if a = R.DTM_HOLD then wf v R.DTM_HOLD_RATE == 0
  else if a = R.DTM_PTPCFG then
    (s.fg R.DTM_CTRL_SRC == 2 || wf v R.DTM_PTPCFG_TC == 1) && !eth (wf v R.DTM_PTPCFG_PORT)
  else false

/-- A write of a DTM register; the reference of another source is not valid yet. -/
def dtmWrite (a : Nat) (v : Word) (s : State) : Stat × State :=
  if a = R.DTM_TODHI then todWrite v s
  else if dtmBad s a v then (.badParam, s)
  else
    let s1 := applyWrite a v s
    if a = R.DTM_CTRL ∧ wf v R.DTM_CTRL_SRC ≠ s.fg R.DTM_CTRL_SRC then
      (.ok, (s1.fs R.DTM_STAT_TRACE 0).setDtm fun d => { d with refOk := false })
    else (.ok, s1)

/-- A read of DTM_NOWLO latches DTM_NOWHI (R400). -/
def dtmNowRead (s : State) : Word × State :=
  (w32 s.now, s.setDtm fun d => { d with nowHi := w32 (s.now / 2 ^ 32) })

def execDtmNowRead (s : State) :=
  run (fun s =>
    match unreachable s R.DTM_NOWLO with
    | some t => s.done t
    | none => let r := dtmNowRead s; r.2.done .ok r.1.toNat) s

/-! ## IEEE 1588 (R390) -/

/-- Kinds of PTP message: 0 Sync, 1 Follow_Up, 2 Delay_Req, 3 Delay_Resp, 4 any other. -/
def ptpDiscard (s : State) : State := s.inc R.DTM_PTPCNT_DISC
def ptpUsed (s : State) : State := s.inc R.DTM_PTPCNT_RXMSG

/-- The other Ethernet host ports of the station. -/
def ptpPeers (s : State) (p : Nat) : List Nat :=
  (List.range s.portsFit).filter fun k => k != p && s.portMode k == 2 && s.portState k == poRUN

/-- The transparent clock relays a message, adding the residence time of its event message to the correction field. -/
def ptpRelay (p kind seq : Nat) (corr : Int) (s : State) : State :=
  let event := kind = 0 ∨ kind = 2
  let k0 := if kind = 0 ∨ kind = 1 then 0 else 2
  let res := match s.dtm.ptpRes.find? fun e => e.1 == k0 && e.2.1 == seq with | some e => s.now - e.2.2.2 | none => 0
  let s1 := (ptpPeers s p).foldl (fun t q =>
    t.emit .packet [0x88F7, kind, seq, q, ofInt 64 (if event then corr else corr + (res : Nat))]) s
  if event then s1.setDtm fun d => { d with ptpRes := (d.ptpRes.filter fun e => decide (s.now < e.2.2.2 + 1000000000)) ++ [(k0, seq, p, s.now)] }
  else s1

/-- The ordinary clock that follows an external master. -/
def ptpFollow (kind seq : Nat) (two : Bool) (t corr : Int) (s : State) : State :=
  if kind = 0 then
    if !two then ptpDiscard s
    else (ptpUsed s).setDtm fun d => { d with sync := some (seq, s.now) }
  else if kind = 1 then
    match s.dtm.sync with
    | some (q, rx) =>
      if q ≠ seq then ptpDiscard s
      else
        let s1 := (ptpUsed s).setDtm fun d => { d with
          sync := none, ptpT1 := t + corr, ptpT2 := rx, ptpSeq := d.ptpSeq + 1, ptpReq := some (d.ptpSeq + 1, s.now) }
        let late : Int := (s.now : Int) - (rx : Int)
        (datumReference (t + corr + s.dtm.ptpDelay + late) s1).emit .packet [0x88F7, 2, s1.dtm.ptpSeq, s.fg R.DTM_PTPCFG_PORT]
    | none => ptpDiscard s
  else if kind = 3 then
    match s.dtm.ptpReq with
    | some (q, t3) =>
      if q ≠ seq then ptpDiscard s
      else (ptpUsed s).setDtm fun d => { d with
        ptpReq := none, ptpDelay := ((d.ptpT2 - d.ptpT1) + (t - corr - (t3 : Int))) / 2 }
    | none => ptpDiscard s
  else ptpDiscard s

/-- The ordinary clock that serves the datum. [DESIGN CHOICE, log 109] -/
def ptpServe (p kind seq : Nat) (s : State) : State :=
  if kind = 2 then (ptpUsed s).emit .packet [0x88F7, 3, seq, p, s.now] else ptpDiscard s

/-- A PTP message of a kind, with its domain, sequence number, twoStepFlag, time stamp and correction field in ns. -/
def ptpMessage (p kind domain seq : Nat) (two : Bool) (t corr : Int) (s : State) : State :=
  let clock := s.dtmState = dsDATUM ∧ s.fg R.DTM_PTPCFG_PORT = p
  if s.portMode p ≠ 2 ∨ s.portState p ≠ poRUN then s
  else if domain ≠ s.fg R.DTM_PTPCFG_DOMAIN ∨ 4 ≤ kind then ptpDiscard s
  else if kind = 0 ∧ !two then ptpDiscard s
  else if clock ∧ s.fb R.DTM_PTPCFG_MASTER then ptpServe p kind seq s
  else if clock ∧ s.fg R.DTM_CTRL_SRC = 2 then ptpFollow kind seq two t corr s
  else if s.fb R.DTM_PTPCFG_TC then ptpRelay p kind seq corr (ptpUsed s)
  else ptpDiscard s

def execPtpMessage (p : Fin 4) (kind domain seq : Nat) (two : Bool) (t corr : Int) (s : State) :=
  run (ptpMessage p.val kind domain seq two t corr) s

end Sys2Proof.Machine
end

