-- ==== Sys2Proof/Machine/Discovery.lean ====
section
/-! DEFINITION. Discovery and addresses (R362 to R370, R391): the meanings of the rows DISCOVERY_START to REDISCOVER,
GROUP_SET, IDENT and BROADCAST_BOUND_UPDATE. -/
namespace Sys2Proof.Machine

def State.setNet (s : State) (f : Net → Net) : State := { s with net := f s.net }

/-- The station is tie-capable (R364). -/
def tieCapable (s : State) : Bool := s.tieFit && s.fb R.NET_CTRL_TIE && (ringRun s 2 || ringRun s 3)

/-- The root (R365), unless it has yielded to a root with a lower serial (R370). -/
def isRoot (s : State) : Bool := s.fb R.NET_CTRL_ROOT && !s.net.yielded

/-! ## Survey records (R366, R423) -/

def ownRecord (s : State) : SurvRec :=
  { serial := s.serial, prev := if s.addressed then some s.ownAddr else s.net.prev, tie := tieCapable s
    dsel := s.fb R.DTM_CTRL_DSEL, root := isRoot s, seen := if s.net.tieSeen then [s.serial] else [] }

def SurvRec.bytes (r : SurvRec) : List Byte :=
  leBytes 8 r.serial ++ leBytes 2 (match r.prev with | some a => 0x8000 + a | none => 0)
  ++ leBytes 1 (b2n r.tie + 2 * b2n r.dsel + 4 * b2n r.root) ++ leBytes 1 r.seen.length ++ r.seen.flatMap (leBytes 8)

/-- Reads `n` records; none when the bytes do not spell them exactly. -/
def parseRecs : Nat → List Byte → Option (List SurvRec)
  | 0, b => if b = [] then some [] else none
  | n + 1, b =>
    let k := u8 b 11
    if b.length < 12 + 8 * k ∨ 2 < k then none
    else
      let a := u16 b 8
      let f := u8 b 10
      let r : SurvRec := {
        serial := leAt b 0 8, prev := if a.testBit 15 then some (a % 4096) else none
        tie := f.testBit 0, dsel := f.testBit 1, root := f.testBit 2
        seen := (List.range k).map fun i => leAt b (12 + 8 * i) 8 }
      (parseRecs n (b.drop (12 + 8 * k))).map fun l => r :: l

/-- A SURVEY packet of this station with its port of departure and records. -/
def surveyPacket (s : State) (dest port : Nat) (recs : List SurvRec) : Packet :=
  { cls := 1, opcode := 0x01, noReply := true, hops := 15, dest := dest, src := s.ownAddr, via := .self
    payload := leBytes 1 recs.length ++ leBytes 1 port ++ leBytes 2 0 ++ recs.flatMap SurvRec.bytes }

/-- A packet leaves as this station's own frame through the named ring ports only. -/
def sendVia (ports : List Nat) (p : Packet) (s : State) : State :=
  let q := { p with len := p.payload.length }
  let f : Frame := { cls := q.cls, origin := s.ownAddr, fseq := s.trv.fseq, body := packetBytes q }
  let s1 := { s with trv := { s.trv with fseq := (s.trv.fseq + 1) % 4096 } }
  ((ports.filter (ringRun s)).foldl (fun t k => enqueueFrame f k t) s1).emit .packet
    [q.opcode, q.dest, q.cls, q.parcel, q.tag] (packetBytes q)

/-- A survey leaves through port `p` of its ring, or the other one where `p` is not in RUN. -/
def startSurvey (p : Nat) (s : State) : State :=
  let k := if ringRun s p then p else otherPort p
  let dest := if k < 2 then 0x1000 + s.ownAddr / 64 * 64 else 0x2000
  (sendVia [k] (surveyPacket s dest k []) s).setNet fun n => { n with survey := some { ring := k / 2, port := k, at_ := s.lt } }

/-! ## Positions (R368) -/

/-- What `placeRec` folds over: the table of serial and slot, the slots given in this survey, how many serials are new to
the table, and whether a station got none. -/
structure Slots where
  tab : List (Nat × Nat) := []
  taken : List Nat := []
  fresh : Nat := 0
  full : Bool := false
  deriving DecidableEq, Repr

/-- The slot freed for want of a free one: of a station that is not in the survey, absent for the longest time, then the
highest. -/
def freeable (here : List Nat) (seen : Nat → Nat) (tab : List (Nat × Nat)) : Option Nat :=
  (tab.filter fun e => !here.contains e.1).foldl (fun (b : Option Nat) e =>
    match b with
    | none => some e.2
    | some q => if seen e.2 < seen q ∨ (seen e.2 = seen q ∧ q < e.2) then some e.2 else some q) none

/-- One surveyed station takes its slot: its previous one where that lies here and no earlier station holds it, else the
lowest free one. A serial in the table keeps its slot (assumption log 100). [DEDUCED, log 100] -/
def placeRec (here : List Nat) (seen : Nat → Nat) (keep : SurvRec → Option Nat) (z : Slots) (r : SurvRec) : Slots :=
  let old := (z.tab.find? fun e => e.1 == r.serial).map fun e => e.2
  let want := match keep r with
    | some k => if z.taken.contains k then old else some k
    | none => old
  let want := match want with | some k => if z.taken.contains k then none else some k | none => none
  let rest := z.tab.filter fun e => e.1 != r.serial
  let free := (List.range 64).find? fun k => !(rest.any fun e => e.2 == k) && !z.taken.contains k
  let give := match want with
    | some k => some k
    | none => match free with | some k => some k | none => freeable here seen rest
  match give with
  | none => { z with full := true }
  | some k => { z with
    tab := (rest.filter fun e => e.2 != k) ++ [(r.serial, k)], taken := z.taken ++ [k], fresh := z.fresh + b2n old.isNone }

/-! ## ASSIGN (R367, R368) -/

/-- An effect cycle at least 2 cycles ahead. -/
def effectCycle (s : State) : Nat := s.now / 10000 + 3

def assignPayload (s : State) (cycle t : Nat) (serials : List Nat) : List Byte :=
  leBytes 8 cycle ++ leBytes 1 t ++ leBytes 1 serials.length ++ leBytes 2 0 ++ leBytes 8 s.net.datum
  ++ leBytes 2 (s.fg R.NET_BBOUND_BTIE) ++ leBytes 2 (s.fg R.NET_BBOUND_BANY) ++ serials.flatMap (leBytes 8)

/-- The origin assigns the positions of traverse `t` from the survey `recs` and sends ASSIGN to its traverse. -/
def assignTraverse (t cycle : Nat) (recs : List SurvRec) (s : State) : State :=
  let here := s.serial :: recs.map fun r => r.serial
  let seen := fun (k : Nat) => Smap.get (fun _ => 0) s.net.rcSeen k
  let keep := fun (r : SurvRec) => match r.prev with | some a => if a / 64 = t then some (a % 64) else none | none => none
  let tab0 := (s.net.table.filter fun e => e.1 != s.serial && e.2 != 0) ++ [(s.serial, 0)]
  let z := recs.foldl (placeRec here seen keep) ({ tab := tab0, taken := [0] } : Slots)
  let n := z.tab.foldl (fun (m : Nat) e => max m (e.2 + 1)) 1
  let serials := (List.range n).map fun k => match z.tab.find? fun e => e.2 == k with | some e => e.1 | none => 0
  let s1 := s.setNet fun x => { x with
    table := z.tab
    assigned := x.assigned ++ [{ cycle := cycle, addr := 64 * t, n := n, datum := x.datum, orig := true, tie := tieCapable s }] }
  let s2 := (s1.fadd R.NET_DISC_ADMIT z.fresh).when z.full fun s => s.raise 0x2F islCP 0
  sendVia [0, 1] { cls := 1, opcode := 0x02, noReply := true, hops := 15, dest := 0x1000 + 64 * t, src := s.ownAddr
                   payload := assignPayload s2 cycle t serials, via := .self } s2

/-- The datum station of a system (R365): the lowest serial with DSEL, else the root. -/
def datumOf (root : Nat) (recs : List SurvRec) : Nat :=
  let l := (recs.filter fun r => r.dsel).map fun r => r.serial
  match l with | [] => root | x :: xs => xs.foldl min x

/-- Two tie stations share a traverse when their results list each other. -/
def sharesTraverse (res : Nat → List SurvRec) (a b : Nat) : Bool :=
  ((res a).any fun r => r.serial == b) && ((res b).any fun r => r.serial == a)

/-- Steps 4 and 5 of R367 at the root. -/
def assignSystem (s : State) : State :=
  let me := ownRecord s
  let res := fun (x : Nat) => if x = s.serial then s.net.own else Smap.get (fun _ => []) s.net.results x
  let ties := s.net.ties.filter fun r => r.serial != s.serial
  let prims := (ties.take 63).foldl (fun (l : List SurvRec) r => if l.any fun q => sharesTraverse res q.serial r.serial then l else l ++ [r]) [me]
  let others := prims.drop 1
  let here := prims.map fun r => r.serial
  let keep := fun (r : SurvRec) => r.prev.map fun a => a / 64
  let tab0 := (s.net.travs.filter fun e => e.1 != s.serial && e.2 != 0) ++ [(s.serial, 0)]
  let z := others.foldl (placeRec here (fun _ => 0) keep) ({ tab := tab0, taken := [0] } : Slots)
  let all := me :: s.net.own ++ s.net.ties ++ s.net.results.flatMap fun e => e.2
  let cycle := effectCycle s
  let s1 := s.setNet fun n => { n with travs := z.tab, datum := datumOf s.serial all, phase := 0, results := [] }
  let s2 := ((s1.fs R.NET_SIZE_NTIE (if tieCapable s then min 64 (ties.length + 1) else 0)).fs R.NET_SIZE_NTRAV prims.length).when
    (z.full || decide (64 < ties.length + 1)) fun s => s.raise 0x30 islCP 0
  let s3 := others.foldl (fun t r => match z.tab.find? fun e => e.1 == r.serial with
    | some e => sendVia [2, 3] { cls := 1, opcode := 0x02, noReply := true, hops := 15, dest := 64 * e.2, src := t.ownAddr
                                 payload := assignPayload t cycle e.2 [], via := .self } t
    | none => t) s2
  assignTraverse 0 cycle s.net.own s3

/-! ## The survey rows -/

/-- A survey is complete with its records in survey order. -/
def surveyDone (ring : Nat) (recs : List SurvRec) (s : State) : State :=
  let s0 := s.setNet fun n => { n with survey := none }
  if ring = 1 then s0.setNet fun n => { n with ties := recs.filter fun r => r.tie, phase := 3, phaseAt := s.lt }
  else if isRoot s ∧ s.net.phase = 1 then
    if recs.any fun r => r.root && decide (r.serial < s.serial) then
      ((s0.fs R.NET_STAT_DSTATE 0).setNet fun n => { n with phase := 0, yielded := true }).raise 0x6A islCP 0
    else
      let s1 := s0.setNet fun n => { n with own := recs, ties := [] }
      if tieCapable s then startSurvey 2 (s1.setNet fun n => { n with phase := 2 }) else assignSystem s1
  else if s.addressed ∧ s.fb R.NET_STAT_ORIG then
    assignTraverse (s.ownAddr / 64) (effectCycle s) recs (s0.setNet fun n => { n with own := recs })
  else sendVia [2, 3] (surveyPacket s 0 0xFF (ownRecord s :: recs)) s0

/-- Discovery starts (R367): the root surveys its own traverse. -/
def discoveryStart (s : State) : State :=
  if isRoot s ∧ !s.addressed ∧ s.net.phase = 0 ∧ 7 ≤ s.fg R.RST_STAT_STEP ∧ (ringRun s 0 ∨ ringRun s 1) then
    startSurvey 0 ((s.fs R.NET_STAT_DSTATE 1).setNet fun n => { n with phase := 1, phaseAt := s.lt })
  else s

def execDiscoveryStart (s : State) := run discoveryStart s

/-- A SURVEY that this station sent has come back on port `p`. -/
def surveyBack (p : Nat) (sv : Survey) (recs : List SurvRec) (s : State) : State :=
  if p ≠ sv.port ∨ sv.second then
    surveyDone sv.ring (sv.recs ++ recs.filter fun r => !sv.recs.any fun q => q.serial == r.serial) s
  else s.setNet fun n => { n with survey := some { sv with recs := recs } }

/-- A SURVEY of another station: the record is appended once and the survey goes on; a line end sends it back. -/
def surveyPass (p : Nat) (q : Packet) (recs : List SurvRec) (s : State) : State :=
  let recs1 := if recs.any fun r => r.serial == s.serial then recs else recs ++ [ownRecord s]
  let o := if ringRun s (otherPort p) then otherPort p else p
  let pay := leBytes 1 recs1.length ++ (q.payload.drop 1).take 3 ++ recs1.flatMap SurvRec.bytes
  let body := packetBytes { q with payload := pay, len := pay.length }
  let s1 := forwardFrame o { cls := 1, origin := q.src % 4096, fseq := 0, own := false, copy := o % 2 == 1, body := body } s
  if p < 2 ∨ !tieCapable s then s1
  else
    let s2 := s1.setNet fun n => { n with tieSeen := true, tieBefore := (recs.filter fun r => r.tie).map fun r => r.serial }
    if isRoot s ∨ s2.net.survey.isSome ∨ o = p then s2 else startSurvey 0 s2

/-- Opcode 0x01. -/
def survey (q : Packet) (s : State) : State :=
  match q.via with
  | .ring p =>
    match parseRecs (u8 q.payload 0) (q.payload.drop 4) with
    | none => reply q (.badParam rLENGTH) [] 0 s
    | some recs =>
      if u8 q.payload 1 = 0xFF then
        match recs with
        | r :: _ => if isRoot s ∧ s.net.phase = 3 then s.setNet fun n => { n with results := Smap.put n.results r.serial recs } else s
        | [] => s
      else
        match s.net.survey with
        | some sv =>
          if q.src % 4096 = s.ownAddr ∧ sv.ring = p / 2 ∧ u8 q.payload 1 = sv.port then surveyBack p sv recs s
          else surveyPass p q recs s
        | none => surveyPass p q recs s
  | _ => reply q (.refused rPERMISSION) [] 0 s

def execSurvey (q : Packet) (s : State) := run (request 0x01 q survey) s

/-- 200 us have passed without the survey: the other port, or what has been learnt stands. -/
def surveyTimeout (s : State) : State :=
  match s.net.survey with
  | none => s
  | some sv =>
    if !s.due sv.at_ 200000 then s
    else if sv.second ∨ !ringRun s (otherPort sv.port) then surveyDone sv.ring sv.recs s
    else
      let k := otherPort sv.port
      let dest := if k < 2 then 0x1000 + s.ownAddr / 64 * 64 else 0x2000
      (sendVia [k] (surveyPacket s dest k []) s).setNet fun n => { n with
        survey := some { sv with port := k, at_ := s.lt, second := true } }

def execSurveyTimeout (s : State) := run surveyTimeout s

/-- All results are in, or 2 ms have passed. -/
def discoveryResultsDone (s : State) : State :=
  let all := s.net.ties.all fun r => r.serial == s.serial || s.net.results.any fun e => e.1 == r.serial
  if isRoot s ∧ s.net.phase = 3 ∧ (all ∨ s.due s.net.phaseAt 2000000) then assignSystem s else s

def execDiscoveryResultsDone (s : State) := run discoveryResultsDone s

/-- A tie station of this traverse other than its primary, as ASSIGN lists it, comes before this one on the tie ring: then this one
is not the secondary (R364, R367). [DEDUCED, log 100] -/
def tieFurther (s : State) (b : List Byte) (n : Nat) : Bool :=
  s.net.tieBefore.any fun x => (List.range n).any fun k => k != 0 && leAt b (24 + 8 * k) 8 == x

/-- The packet came from a station by a ring: the senders R422 allows SURVEY, ASSIGN and LINK_NOTICE. -/
def fromStation (q : Packet) : Bool := match q.via with | .ring _ => true | .self => true | _ => false

/-- Opcode 0x02. -/
def assign (q : Packet) (s : State) : State :=
  let b := q.payload
  let n := u8 b 9
  if !fromStation q then reply q (.refused rPERMISSION) [] 0 s
  else if b.length ≠ 24 + 8 * n then reply q (.badParam rLENGTH) [] 0 s
  else if 64 < n ∨ 63 < u8 b 8 ∨ u16 b 10 ≠ 0 then reply q .badParam [] 0 s
  else
    let t := u8 b 8
    let s1 := (s.fs R.NET_BBOUND_BTIE (u16 b 20)).fs R.NET_BBOUND_BANY (u16 b 22)
    let s2 := s1.setNet fun x => { x with datum := leAt b 12 8, orig := 64 * t }
    let s3 :=
      if n = 0 then assignTraverse t (leAt b 0 8) s.net.own s2
      else match (List.range n).find? fun k => leAt b (24 + 8 * k) 8 == s.serial with
        | some k => s2.setNet fun x => { x with assigned := x.assigned ++ [{
            cycle := leAt b 0 8, addr := 64 * t + k, n := n, datum := leAt b 12 8, orig := false
            tie := tieCapable s && s.fb R.NET_CTRL_SECOK && x.tieSeen && !tieFurther s b n }] }
        | none => s2
    reply q .ok [] 0 s3

def execAssign (q : Packet) (s : State) := run (request 0x02 q assign) s

/-- One assignment takes effect; it completes release step 8 (R500). -/
def takeAddress (a : Assigned) (s : State) : State :=
  let s1 := (((s.fs R.NET_STAT_ADDR a.addr).fs R.NET_STAT_DSTATE 2).fs R.NET_STAT_ORIG (b2n a.orig)).fs R.NET_STAT_TIEROLE (b2n a.tie)
  let s2 := (s1.fs R.NET_SIZE_N a.n).setNet fun n => { n with
    prev := some a.addr, datum := a.datum, orig := a.addr / 64 * 64, rcAt := if s.addressed then n.rcAt else s.lt }
  let s2 := if s2.fg R.RST_STAT_STEP = 7 then s2.fs R.RST_STAT_STEP 8 else s2
  datumRole (a.datum == s.serial) s2

/-- The effect cycle has come. -/
def addressEffect (s : State) : State :=
  let c := s.now / 10000
  let go := s.net.assigned.filter fun a => decide (a.cycle ≤ c)
  go.foldl (fun t a => takeAddress a t) (s.setNet fun n => { n with assigned := n.assigned.filter fun a => !decide (a.cycle ≤ c) })

def execAddressEffect (s : State) := run addressEffect s

/-- The discovery of a part of the system that was in progress starts again (R369). -/
def rediscover (tie : Bool) (s : State) : State :=
  if tie then startSurvey 2 (s.setNet fun n => { n with phase := 2 })
  else startSurvey 0 s

/-- Opcode 0x03. -/
def linkNotice (q : Packet) (s : State) : State :=
  let b := q.payload
  if !fromStation q then reply q (.refused rPERMISSION) [] 0 s
  else if b.length ≠ 4 then reply q (.badParam rLENGTH) [] 0 s
  else if 3 < u8 b 0 ∨ 1 < u8 b 1 ∨ u16 b 2 ≠ 0 then reply q .badParam [] 0 s
  else
    let tie := decide (2 ≤ u8 b 0)
    let mine := if tie then isRoot s else s.fb R.NET_STAT_ORIG
    let s0 := if !tie ∧ u8 b 1 = 0 ∧ mine then lineEnd (u8 b 0) (q.src % 64) s else s
    let s1 :=
      if !mine then s
      else if s.net.survey.any fun v => v.ring == b2n tie then rediscover tie (s0.inc R.NET_DISC_RESTART)
      else if tie then s.setNet fun n => { n with againTie := true }
      else s0.setNet fun n => { n with again := true }
    reply q .ok [] 0 s1

def execLinkNotice (q : Packet) (s : State) := run (request 0x03 q linkNotice) s

/-- A write of NET_CTRL (R370, R398). -/
def netCtrlWrite (v : Word) (s : State) : Stat × State :=
  if wf v R.NET_CTRL_REDISC = 1 then
    if !s.fb R.NET_STAT_ORIG then (.refused, s)
    else (.ok, rediscover false (applyWrite R.NET_CTRL v s))
  else (.ok, applyWrite R.NET_CTRL v s)

def execRediscover (v : Word) (s : State) :=
  run (direct R.NET_CTRL (w32 (setBit v.toNat 31 true)) netCtrlWrite) s

/-- Opcode 0x06: only LOCAL or from address 0x000. -/
def groupSet (q : Packet) (s : State) : State :=
  if q.payload.length ≠ 8 then reply q (.badParam rLENGTH) [] 0 s
  else if addrMode q.dest ≠ 4 ∧ q.src % 4096 ≠ 0 then reply q (.refused rPERMISSION) [] 0 s
  else reply q .ok [] 0 (s.setNet fun n => { n with groups := leAt q.payload 0 8 })

def execGroupSet (q : Packet) (s : State) := run (request 0x06 q groupSet) s

/-- The bank pointer in force (R557): the newer copy. -/
def State.bank (s : State) : BankPtr :=
  match s.nv.ptrA, s.nv.ptrB with
  | some a, some b => if a.seq < b.seq then b else a
  | some a, none => a
  | none, some b => b
  | none, none => {}

/-- Opcode 0x00. -/
def ident (q : Packet) (s : State) : State :=
  let step := (s.reg R.IDENT_STEP).toNat
  let pm := 2 ^ s.plotsFit - 1
  let ver := if s.bank.active = 0 then s.bank.vera else s.bank.verb
  if q.payload.length ≠ 0 then reply q (.badParam rLENGTH) [] 0 s
  else reply q .ok (leBytes 4 s.identPart ++ leBytes 4 step ++ leBytes 4 s.identCap ++ leBytes 4 pm ++ leBytes 8 s.serial
    ++ leBytes 2 (s.ownAddr + 8192 * s.fg R.NET_STAT_DSTATE) ++ leBytes 2 0 ++ leBytes 8 s.net.groups ++ leBytes 4 ver) 0 s

def execIdent (q : Packet) (s : State) := run (request 0x00 q ident) s

/-- Every 100 ms the root computes both bounds (R391): `nTrav` and `nTie` as that rule defines them, `h` the largest hop
latency in force and `dmax` the largest link delay measured, in ns. [DESIGN CHOICE, log 102] -/
def broadcastBoundUpdate (nTrav nTie h dmax : Nat) (s : State) : State :=
  if !isRoot s ∨ !s.due s.net.boundAt 100000000 then s
  else
    let t := (nTrav + 1) / 2
    let u := (nTie + 1) / 2
    ((s.setNet fun n => { n with boundAt := s.lt }).fs R.NET_BBOUND_BTIE (clampU 16 ((t + u) * (h + dmax)))).fs R.NET_BBOUND_BANY (clampU 16 ((2 * t + u) * (h + dmax)))

def execBroadcastBoundUpdate (nTrav nTie h dmax : Nat) (s : State) := run (broadcastBoundUpdate nTrav nTie h dmax) s

end Sys2Proof.Machine
end

