-- ==== Sys2Proof/Machine/Health.lean ====
section
/-! DEFINITION. The station's own health: service states and loss of communication (R521, R523), the health message and
the fault tone's condition (R488, R490). -/
namespace Sys2Proof.Machine

/-- PWR_STAT.SVC (R521): 0 START-UP, 1 RECOVERY, 2 TEST, 3 IN SERVICE. [DEDUCED, log 139] -/
def State.service (s : State) : Nat :=
  if s.fb R.PWR_CTRL_TEST ∨ s.fg R.BST_CTL_RESULT = 1 then 2
  else if s.fg R.RST_STAT_STEP < 10 then 0
  else if !s.pwr.served then 1
  else 3

/-- Communication is lost (R521). -/
def State.commLost (s : State) : Bool :=
  !s.fb R.PWR_CTRL_NOCOMM && (s.fb R.NET_STAT_RCLOST || (s.service == 0 && s.pwr.startLoss))

/-- What the health message reports (R490). -/
def State.healthGood (s : State) : Bool :=
  s.active != 3 && s.socState != stINIT && !(s.service != 3 && s.commLost)

/-- Messages from the system half reach the stack half (R28). -/
def State.downWorks (s : State) : Bool := s.sysUp && s.rst.stackUp && !s.bar.downLost && (bitsOf s.bar.failed 22 2 != 3)

/-- Messages from the stack half reach the system half. -/
def State.upWorks (s : State) : Bool := s.sysUp && s.rst.stackUp && (popCount 22 s.bar.failed != 22)

/-- FTOUT toggles: the tone is good, and the tick since it became so has come. -/
def State.toggling (s : State) : Bool := s.tone.tog && s.toneGood

/-- FLT_TONE as read (R511). -/
def toneWord (s : State) : Word :=
  w32 (s.fg R.FLT_TONE_INLOST * 256 + b2n s.toggling * 8 + b2n s.ownGood * 4 + b2n s.tone.inGood * 2 + s.fg R.FLT_TONE_HEAD)

/-- A write of FLT_TONE.HEAD: the register and, while the barrier carries it, the stack half's copy (R491). -/
def toneHead (b : Bool) (s : State) : State :=
  let s1 := s.fs R.FLT_TONE_HEAD (b2n b)
  if s1.downWorks then { s1 with tone := { s1.tone with head := b } } else s1

end Sys2Proof.Machine
end

