-- ==== Sys2Proof/Machine/RollCall.lean ====
section
/-! DEFINITION. The cycle, roll-call and the system-wide operations (R371 to R381, R391 to R396, R416, R420, R421): the
meanings of the rows CURRENT_REFERENCE_MESSAGE, CYCLE_START to FAST_PATH_DEADLINE_MISS, HEARTBEAT to
BARRIER_COLLECT_TOKEN, SNAPSHOT_AT to CREF_BLOCKS and ORIGINATION_RELEASE. -/
namespace Sys2Proof.Machine

/-! ## The station's entry (R375) -/

/-- A cell word as an unsigned cell code with 15 fraction bits, under the averager's setting; survey rate bypasses it. -/
def cellCode (s : State) (n rate w : Nat) : Int :=
  if rate = 3 then (w % 65536 : Nat) * 32768
  else
    let k := 15 + s.fg (R.SMP_AVG_SHIFT n) - s.fg (R.SMP_AVG_LOGN n)
    if s.fb (R.SMP_AVG_PEDEN n) then (s.fg (R.SMP_AVG_PED n) : Int) * 32768 + asInt 16 w * 2 ^ k
    else ((w % 65536 * 2 ^ k : Nat) : Int)

/-- The words of a received frame that are neither STL nor CHK enter the means of the cycle. -/
def rollSums (e : PipeEnt) (s : State) : State :=
  let rate := bitsOf e.tag 60 2
  s.setNet fun n => { n with rcSum := cells.foldl (fun m c =>
    let w := e.words.getD (c - 1) 0
    let o := Smap.get (fun _ => ((0 : Int), (0 : Nat))) m c
    if w.testBit 17 || w.testBit 16 then m else Smap.set (fun _ => ((0 : Int), (0 : Nat))) m c (o.1 + cellCode s c rate w, o.2 + 1)) n.rcSum }

/-- The cycle's means replace the last ones where a cell had a word. -/
def rollMeans (s : State) : State :=
  s.setNet fun n => { n with
    rcMean := n.rcSum.foldl (fun m e =>
      Smap.set (fun _ => 0) m e.1 (max 0 (min 65535 (e.2.1 / ((32768 * e.2.2 : Nat) : Int)))).toNat) n.rcMean
    rcSum := [] }

/-- The highest and lowest of a list of numbered values, the first of equal ones. -/
def extreme (up : Bool) (l : List (Nat × Int)) : Nat × Int :=
  match l with
  | [] => (0, 0)
  | x :: xs => xs.foldl (fun (b : Nat × Int) e => if (if up then b.2 < e.2 else e.2 < b.2) then e else b) x

/-- STATE of the entry. [DEDUCED, log 103] -/
def entryState (s : State) : Nat :=
  if s.fg R.RST_STAT_STEP < 10 then 1
  else if s.fb R.PWR_STAT_SLEEP then 5
  else if s.socState = stINIT ∨ s.socState = stSAFE ∨ s.socState = stSTARTING then 4
  else if degSteps s ≠ 0 then 3
  else 2

/-- A trip bit is latched. -/
def tripLatched (s : State) : Bool :=
  [R.CMP_OVTRIP0, R.CMP_OVTRIP1, R.CMP_UVTRIP0, R.CMP_UVTRIP1].any fun a => s.reg a != 0

/-- The sensors whose temperature is valid (R530). -/
def validTemps (s : State) : List (Nat × Int) :=
  ((upTo 21).filter fun k => decide (17 ≤ k) || (s.fg (R.THM_S_W0_LVL k)).testBit 4).map fun k => (k, s.fi (R.THM_S_W0_TEMP k))

/-- The 16 bytes of this station's roll-call entry. -/
def ownEntry (s : State) : List Byte :=
  let st := s.dtmState
  let cs := (cells.filter fun c => s.cellBit R.SMP_CHEN0 R.SMP_CHEN1 c).map fun c =>
    (c, ((Smap.get (fun _ => 0) s.net.rcMean c : Nat) : Int))
  let hi := extreme true cs
  let lo := extreme false cs
  let ts := validTemps s
  let th := extreme true ts
  let tl := extreme false ts
  leBytes 1 (entryState s + 16 * degSteps s)
  ++ leBytes 1 (s.active + 4 * (s.net.bar % 4) + 16 * (s.fg R.FLT_HSEQ_SEQ % 16))
  ++ leBytes 1 (b2n s.energised + 2 * b2n (s.socState == stRAMP) + 4 * b2n (s.socState == stSAFE) + 8 * b2n (s.fb R.SAF_STAT_SRUN)
    + 16 * b2n (s.fb R.SAF_STAT_YRUN) + 32 * b2n s.tone.inGood + 64 * b2n s.toggling
    + 128 * b2n (tripLatched s))
  ++ leBytes 1 (b2n (s.fb R.DTM_STAT_COH) + 2 * b2n (st == dsLOCK) + 4 * b2n (st == dsHOLD) + 8 * b2n (st == dsDATUM)
    + 16 * min 15 ((datumU s + 7) / 8))
  ++ leBytes 2 hi.2.toNat ++ leBytes 2 lo.2.toNat ++ leBytes 1 hi.1 ++ leBytes 1 lo.1
  ++ leBytes 1 (ofInt 8 (clampS 8 (th.2 / 100))) ++ leBytes 1 (ofInt 8 (clampS 8 (tl.2 / 100))) ++ leBytes 1 th.1 ++ leBytes 1 tl.1
  ++ leBytes 2 (s.fg R.EST_SUM_SUM)

/-! ## Roll-call frames (R374, R376 to R379) -/

/-- A roll-call body of 1,040 bytes with its CRC-32C. -/
def sealRoll (b : List Byte) : List Byte := b.take 1040 ++ leBytes 4 (crc32c (b.take 1040))

def rollGood (b : List Byte) : Bool := b.length == 1044 && leAt b 1040 4 == crc32c (b.take 1040)

/-- Entry `p` of a body, and the body with it replaced. -/
def rollEntry (b : List Byte) (p : Nat) : List Byte := sliceBytes b (16 + 16 * p) 16
def setEntryBytes (b : List Byte) (p : Nat) (e : List Byte) : List Byte := b.take (16 + 16 * p) ++ e ++ b.drop (32 + 16 * p)

def emptyEntry : List Byte := List.replicate 16 0

/-- RCDIV as FLAGS[5:4] (R377). [DEDUCED, log 104] -/
def rcDiv (s : State) : Nat :=
  let lane := s.net.rcBuf.any fun e => (u8 e.2 0).testBit 6
  min 3 ((if lane then 2 else 0) + b2n (s.fb R.NET_STAT_WRAP))

/-- The origin sends both copies of the roll-call of cycle `k`. -/
def originateRoll (k : Nat) (s : State) : State :=
  let d := rcDiv s
  let wrap := !(ringRun s 0 && ringRun s 1)
  let s0 := s.fs R.NET_RCSTAT_RCDIV d
  let head := leBytes 8 (10000 * k) ++ leBytes 1 (s.ownAddr / 64) ++ leBytes 1 (s.fg R.NET_SIZE_N)
    ++ leBytes 1 (b2n wrap + 2 * b2n (s.fb R.NET_STAT_SPLIT) + 16 * d) ++ leBytes 1 (s.ownAddr % 64) ++ leBytes 4 0
  let blank := head ++ List.replicate 1028 (0 : Byte)
  let mine := if s.net.rcMiss then emptyEntry else s.net.rcOwn
  let body := sealRoll (setEntryBytes blank (s.ownAddr % 64) mine)
  let f : Frame := { ftype := 2, cls := 1, origin := s.ownAddr, fseq := s.trv.fseq, body := body }
  let s1 := { s0 with trv := { s0.trv with fseq := (s0.trv.fseq + 1) % 4096 } }
  (([0, 1].filter (ringRun s)).foldl (fun t p => enqueueFrame f p t) s1).setNet fun n => { n with rcLast := k }

/-- The primary tie station sends its merged roll-call over the tie ring (R378). -/
def tieRoll (k : Nat) (s : State) : State :=
  if s.addressed ∧ s.ownAddr % 64 = 0 ∧ s.fb R.NET_STAT_TIEROLE ∧ k % 64 = s.ownAddr / 64 ∧ s.net.rcImage ≠ [] then
    let f : Frame := { ftype := 2, cls := 1, origin := s.ownAddr, fseq := s.trv.fseq, body := s.net.rcImage }
    let s1 := { s with trv := { s.trv with fseq := (s.trv.fseq + 1) % 4096 } }
    ([2, 3].filter (ringRun s)).foldl (fun t p => enqueueFrame f p t) s1
  else s

/-! ## Barriers (R395) -/

/-- Every present station of the merged roll-call shows barrier `b`. -/
def showsBarrier (s : State) (b : Nat) : Bool :=
  s.net.rcBuf.all fun e => bitsOf (u8 e.2 0) 0 4 == 0 || bitsOf (u8 e.2 1) 2 2 == b % 4

/-- Addresses of this traverse whose slot is empty. -/
def absentHere (s : State) : List Nat :=
  ((List.range (s.fg R.NET_SIZE_N)).filter fun p =>
    bitsOf (u8 (Smap.get (fun _ => emptyEntry) s.net.rcBuf p) 0) 0 4 == 0).map fun p => s.ownAddr / 64 * 64 + p

/-- The collect token held here goes on, or, back at its initiator, releases the barrier. -/
def tokenTry (s : State) : State :=
  match s.net.token with
  | none => s
  | some (b, abs) =>
    if !showsBarrier s b then s
    else
      let all := abs ++ absentHere s
      let s1 := s.setNet fun n => { n with token := none }
      match s.net.barOwn with
      | some r =>
        if r.b = b then
          let map := all.foldl (fun (m : Nat) a => setBit m a true) 0
          let s2 := s1.setNet fun n => { n with barOwn := none }
          reply r.req .ok (leBytes 4 b ++ leBytes 512 map) 0 (s2.emit .packet [0x05, 0x2000, 0, 0, b, 2])
        else s1.emit .packet ([0x05, 0x2000, 0, 0, b, 1] ++ all)
      | none => s1.emit .packet ([0x05, 0x2000, 0, 0, b, 1] ++ all)

/-- Opcode 0x05. A broadcast from the initiator names a barrier to be reached; any other BARRIER makes this station the
initiator. -/
def barrier (p : Packet) (s : State) : State :=
  if p.payload.length ≠ 4 then reply p (.badParam rLENGTH) [] 0 s
  else
    let b := u32 p.payload 0
    let s1 := s.setNet fun n => { n with barPend := some b, barAt := s.lt }
    if addrMode p.dest = 2 then s1
    else if !s.fb R.NET_STAT_TIEROLE ∧ !s.fb R.NET_STAT_ORIG then reply p .refused [] 0 s
    else
      let q : Packet := { cls := 0, opcode := 0x05, noReply := true, hops := 15, dest := 0x2000, src := s.ownAddr
                          payload := leBytes 4 b, via := .self }
      let s2 := originate q (s1.setNet fun n => { n with barOwn := some { req := p, b := b } })
      if s.fb R.NET_STAT_TIEROLE then s2.emit .packet [0x05, 0x2000, 0, 0, b, 1]
      else tokenTry (s2.setNet fun n => { n with token := some (b, []) })

def execBarrier (p : Packet) (s : State) := run (request 0x05 p barrier) s

/-- The commands accepted before the barrier are complete. [DEDUCED, log 110] -/
def barrierReached (s : State) : State :=
  match s.net.barPend with
  | none => s
  | some b =>
    if (s.cp.q1 ++ s.cp.q2 ++ s.cp.q3).any fun h => decide (h.at_ ≤ s.net.barAt) then s
    else s.setNet fun n => { n with bar := b, barPend := none }

def execBarrierReached (s : State) := run barrierReached s

/-- The collect token of barrier `b` arrives with the absent stations listed so far. -/
def barrierCollectToken (b : Nat) (abs : List Nat) (s : State) : State :=
  if s.fb R.NET_STAT_TIEROLE then tokenTry (s.setNet fun n => { n with token := some (b, abs) }) else s

def execBarrierCollectToken (b : Nat) (abs : List Nat) (s : State) := run (barrierCollectToken b abs) s

/-! ## Receiving roll-call (R376, R379, R380) -/

/-- A good copy of cycle `c` is merged: the registers, presence, and what hangs on communication (R521, R522, R526). -/
def rollMerge (c : Nat) (b : List Byte) (s : State) : State :=
  let old := if s.net.rcCycle = c then s.net.rcBuf else []
  let me := s.ownAddr % 64
  let buf := (List.range 64).foldl (fun m p =>
    let e := if p = me ∧ s.addressed then s.net.rcOwn else rollEntry b p
    if bitsOf (u8 e 0) 0 4 = 0 then m else Smap.put m p e) old
  let image := buf.foldl (fun x e => setEntryBytes x e.1 e.2) (b.take 16 ++ List.replicate 1028 (0 : Byte))
  let n := u8 b 9
  let abs := (List.range n).countP fun p => !(buf.any fun e => e.1 == p)
  let seen := buf.foldl (fun m e => Smap.set (fun _ => 0) m e.1 c) s.net.rcSeen
  let s1 := (List.range 64).foldl (fun t p =>
    let e := Smap.get (fun _ => emptyEntry) buf p
    (List.range 4).foldl (fun t w => t.setReg (R.NET_RC p w) (w32 (u32 e (4 * w)))) t) s
  let s2 := (s1.fs R.NET_RCSTAT_NABS abs).fs R.NET_RCCYC_CYCLE c
  let wrap := (u8 b 10).testBit 0
  let s3 := (((s2.fs R.NET_RCSTAT_RCDIV (bitsOf (u8 b 10) 4 2)).fs R.NET_STAT_WRAP (b2n wrap)).fs R.NET_STAT_SPLIT
    (b2n ((u8 b 10).testBit 1))).fs R.NET_STAT_RCLOST 0
  let s4 := if wrap then segmentEnds s3 else s3.setReg R.NET_ENDS 0
  let s5 := s4.when (s4.fg R.NET_STAT_DSTATE == 3) fun s => s.fs R.NET_STAT_DSTATE 2
  let gap := 2 ^ bitsOf (u8 b 10) 4 2
  let since := if s.pwr.goodAt.isSome ∧ c ≤ s.pwr.goodCyc + gap then s.pwr.goodAt.getD s.lt else s.lt
  let awake := s5.fg R.PWR_STAT_SLEEP = 1
  let s6 := { s5 with pwr := { s5.pwr with
    goodAt := some since, goodCyc := c, served := s5.pwr.served || decide (since + 10000000000 ≤ s.lt), lossAt := none
    startLoss := false, pendAt := if awake then none else s5.pwr.pendAt } }
  let s7 := (s6.fs R.PWR_STAT_TLEFT 0).when awake fun s => s.fs R.PWR_STAT_SLEEP 0
  tokenTry (s7.setNet fun x => { x with
    rcCycle := c, rcBuf := buf, rcSeen := seen, rcImage := sealRoll image, rcAt := s.lt, rcEver := true })

/-- A roll-call frame that leaves through port `o` sets that port's window: its arrival in its cycle (R372). -/
def noteArrival (o c : Nat) (s : State) : State := s.setPort o { s.port o with rcOfs := some (s.now - 10000 * c) }

/-- A copy goes on: out of the other port, or back where this station is a line end; the origin removes it. -/
def rollForward (p : Nat) (f : Frame) (b : List Byte) (s : State) : State :=
  let turns := bitsOf (u8 b 10) 2 2
  let o := otherPort p
  let mine := s.addressed && u8 b 11 == s.ownAddr % 64 && s.fb R.NET_STAT_ORIG
  if (mine ∧ turns ≠ 1) ∨ f.ttl = 0 then s
  else if ringRun s o then
    enqueueKeep { f with own := false, ttl := f.ttl - 1, body := sealRoll b } o (noteArrival o (leAt b 0 8 / 10000) s)
  else if turns < 2 then
    let fl := withBits (u8 b 10) 2 2 (turns + 1) ||| 1
    let b1 := b.take 10 ++ leBytes 1 fl ++ b.drop 11
    enqueueKeep { f with own := false, ttl := f.ttl - 1, body := sealRoll b1 } p s
  else s

/-- A roll-call copy whose CRC-32C fails is counted, and leaves with ABORT (R341, R376). -/
def rollBad (p : Nat) (f : Frame) (s : State) : State :=
  let s1 := addError p 1 (s.inc (R.TRV_PFRM_CRCF p))
  let s2 := if f.ttl ≠ 0 && ringRun s (otherPort p) && !(s.addressed && f.origin == s.ownAddr) then
      enqueueKeep { f with own := false, abort := true, ttl := f.ttl - 1 } (otherPort p) s1 else s1
  limitCheck p s2

/-- A roll-call copy arrives on ring port `p`. On the tie ring it goes on to its origin, and a tie station delivers it to its host
ports (R371, R378). -/
def rollCall (p : Nat) (f : Frame) (s : State) : State :=
  if !rollGood f.body then rollBad p f s
  else if 2 ≤ p then
    if s.addressed && f.origin == s.ownAddr then s
    else
      let s1 := if f.ttl ≠ 0 && ringRun s (otherPort p) then
          enqueueKeep { f with own := false, ttl := f.ttl - 1 } (otherPort p) s else s
      if !s.fb R.NET_STAT_TIEROLE then s1
      else ((List.range 4).filter fun k => s.portMode k == 1 && s.portState k == poRUN).foldl (fun t k => enqueueKeep f k t) s1
  else
    let c := leAt f.body 0 8 / 10000
    if c < s.net.rcLast then s
    else
      let skip := s.net.rcMiss || s.net.rcSkip == some c
      let s0 := s.setNet fun n => { n with rcSkip := if n.rcMiss then some c else n.rcSkip, rcMiss := false }
      let body := if s.addressed then setEntryBytes f.body (s.ownAddr % 64) (if skip then emptyEntry else s.net.rcOwn) else f.body
      let yields := s.fb R.NET_STAT_ORIG && s.ownAddr % 64 != u8 f.body 11 && (s.fb R.NET_STAT_SPLIT || s.ownAddr != s.net.orig)
      let s1 := if yields then (s0.fs R.NET_STAT_ORIG 0).fs R.NET_STAT_SPLIT 0 else s0
      rollForward p f body ((rollMerge c body s1).setNet fun n => { n with rcLast := c })

def execRollCallFrame (p : Fin 4) (h : Nat) (body : List Byte) (s : State) :=
  run (fun s => if ringRun s p.val && headerGood h && bitsOf h 0 3 == 2 then rollCall p.val (headerFrame h body) s else s) s

/-- No good copy for 1 ms: RCLOST. A secondary tie station goes on as the origin of a split segment, and the datum station as
the origin of its segment; a station of a segment without either is orphaned (R380). [DEDUCED, log 184] -/
def rollCallLost (s : State) : State :=
  let orig := s.fb R.NET_STAT_ORIG
  if !s.addressed ∨ s.fb R.NET_STAT_RCLOST ∨ !s.due s.net.rcAt 1000000 then s
  else if !orig ∧ s.fb R.NET_STAT_TIEROLE then (s.fs R.NET_STAT_ORIG 1).fs R.NET_STAT_SPLIT 1
  else if !orig ∧ s.dtmState = dsDATUM then s.fs R.NET_STAT_ORIG 1
  else
    let s1 := s.fs R.NET_STAT_RCLOST 1
    let s2 := if orig then s1 else s1.fs R.NET_STAT_DSTATE 3
    { s2 with pwr := { s2.pwr with lossAt := some s2.lt } }

def execRollCallLost (s : State) := run rollCallLost s

/-- The fast path misses its deadline at port `p` (R421). -/
def fastPathDeadlineMiss (p : Nat) (s : State) : State :=
  if s.portsFit ≤ p then s
  else
  (s.setNet fun n => { n with rcMiss := true }).raise 0x32 (islPTX p) p

def execFastPathDeadlineMiss (p : Fin 4) (s : State) := run (fastPathDeadlineMiss p.val) s

/-! ## The current reference stream (R86, R396) -/

/-- The node at which a packet's contents enter the mesh (R275). -/
def entryNode : Via → Nat
  | .ring p => nodePort p
  | .host p => nodePort p
  | _ => nodeCP

/-- One block of `d` epochs enters the mesh at a node for the CREF subscriptions of a station's stream and the services; blocks lost before it come
as STL, unless the stream's block length has changed. [DEDUCED, log 111] -/
def crefDeliver (node stn b d : Nat) (coh : Bool) (w : Word) (s : State) : State :=
  let give := fun (m : Nat) (coh : Bool) (w : Word) (t : State) =>
    feed 3 [node] 0 false (fun _ w0 _ =>
      if w0 % 4096 = stn then some [w32 m, w32 (m / 2 ^ 32 % 2 ^ 31 + b2n coh * 2 ^ 31), w] else none)
      (t.emit .stream [4, stn, m, b2n coh, w.toNat])
  let gap := match s.net.crefSeen.find? fun e => e.1 == stn with
    | some e => if e.2.2 = d then b - e.2.1 - 1 else 0
    | none => 0
  let s1 := (List.range gap).foldl (fun t i =>
    let m := b - gap + i
    give m false (w32 (0x20000000 + m % 16 * 0x1000000)) t) s
  (svcRef stn b d coh w.toNat (give b coh w s1)).setNet fun n => { n with
    crefSeen := (n.crefSeen.filter fun e => e.1 != stn) ++ [(stn, b, d)] }

/-- The system half receives a current reference message: the full index is added, and the COH that stands when it arrives.
[DESIGN CHOICE, log 167] -/
def currentReferenceMessage (w : Word) (s : State) : State :=
  let cur := s.epoch / refBlock (s.fg R.SMP_REFCFG_D)
  let b := cur - (cur + 16 - bitsOf w.toNat 24 4) % 16
  let coh := s.fb R.SMP_STAT_COH
  let s1 := crefDeliver nodeBRX s.ownAddr b (refBlock (s.fg R.SMP_REFCFG_D)) coh w s
  if s.fb R.NET_CREF_EN then s1.setNet fun n => { n with cref := n.cref ++ [(b, coh, w)] } else s1

def execCurrentReferenceMessage (w : Word) (s : State) := run (currentReferenceMessage w) s

/-- The blocks of one packet: consecutive, of one COH, at most 10. -/
def crefRun : Nat → List (Nat × Bool × Word) → List (Nat × Bool × Word)
  | 0, _ => []
  | _, [] => []
  | k + 1, x :: xs =>
    x :: (match xs with
      | y :: _ => if y.1 = x.1 + 1 ∧ y.2.1 = x.2.1 then crefRun k xs else []
      | [] => [])

/-- The packet of a cycle. -/
def crefSend (s : State) : State :=
  if !s.fb R.NET_CREF_EN ∨ !s.addressed then s.setNet fun n => { n with cref := [] }
  else match crefRun 10 s.net.cref with
    | [] => s
    | x :: xs =>
      let l := x :: xs
      let pay := leBytes 8 (x.1 % 2 ^ 63 + b2n x.2.1 * 2 ^ 63) ++ leBytes 1 l.length ++ leBytes 1 (s.fg R.SMP_REFCFG_D)
        ++ leBytes 2 0 ++ l.flatMap fun e => wordBytes e.2.2
      let p : Packet := { cls := 2, opcode := 0x24, noReply := true, hops := 15, dest := 0x1000 + s.ownAddr / 64 * 64
                          src := s.ownAddr, payload := pay, via := .self }
      originate p ((s.inc R.NET_CREF_SENT).setNet fun n => { n with cref := n.cref.drop l.length })

/-- Opcode 0x24 arrives from another station. -/
def crefBlocks (p : Packet) (s : State) : State :=
  let b := p.payload
  let n := u8 b 8
  let i := leAt b 0 8
  if p.ver ≠ 1 ∨ p.cls ≠ 2 ∨ b.length ≠ 12 + 4 * n ∨ n = 0 ∨ 10 < n ∨ 6 < u8 b 9 ∨ u16 b 10 ≠ 0 then s
  else (List.range n).foldl (fun t k =>
    crefDeliver (entryNode p.via) (p.src % 4096) (i % 2 ^ 63 + k) (refBlock (u8 b 9)) (i.testBit 63) (w32 (u32 b (12 + 4 * k))) t) s

def execCrefBlocks (p : Packet) (s : State) := run (crefBlocks p) s

/-! ## The cycle (R372, R373, R382, R346, R416) -/

/-- What every port in RUN sends at the start of a cycle: MARK, whose TXOFS is a free value, a DLY request, LSTAT.
[DESIGN CHOICE, log 97] -/
def cycleBlocks (k p : Nat) (s : State) : State :=
  if s.portState p ≠ poRUN ∨ s.portMode p = 2 then s
  else
    let o := s.port p
    let q := (o.dlySeq + 1) % 128
    let (x, s0) := s.free
    let s1 := sendBlock p btMARK (markBytes (syncOut s) (s.fg R.DTM_STAT_DEPTH) (k / 2 ^ (16 * (k % 4)) % 65536) (x % 65536) (datumU s)) s0
    let s2 := sendBlock p btDLY (dlyBytes false q 0) (s1.setPort p { o with dlySeq := q, dlyWait := true })
    sendBlock p btLSTAT (lstatBytes false (s.fg (R.TRV_PSTAT_RATE p)) (s.fg (R.TRV_PSTAT_RXL p)) (s.fg (R.TRV_PERR_COUNT p)) s.ownAddr) s2

/-- The budgets of a cycle (R416): TRES is in 0.1 Gbit/s, so a cycle gives 125 bytes per unit; what is not used is kept up to one
maximum packet. -/
def refill (s : State) : State :=
  let ten := (upTo 7).foldl (fun m q =>
    let share := 125 * s.fg (R.CAD_PTRV_TRES q)
    Smap.set (fun _ => 0) m q (min (max 2068 share) (Smap.get (fun _ => 0) s.cp.tenTok q + share))) s.cp.tenTok
  { s with cp := { s.cp with c0 := 0, hb := 0, hbSrc := [], tok1 := min 2068 (s.cp.tok1 + 512), tenTok := ten } }

/-- Cycle `k` starts. -/
def cycleStart (k : Nat) (s : State) : State :=
  let s0 := rollMeans (refill (s.until (10000 * k)))
  let s1 := s0.setNet fun n => { n with rcOwn := ownEntry s0 }
  let s2 := (List.range s1.portsFit).foldl (fun t p => cycleBlocks k p t) s1
  let s3 := if s2.addressed ∧ s2.fb R.NET_STAT_ORIG ∧ k % 2 ^ rcDiv s2 = 0 then originateRoll k s2 else s2
  let s4 := tieRoll k s3
  let s5 := crefSend s4
  if s5.net.again ∧ s5.fb R.NET_STAT_ORIG ∧ s5.net.survey.isNone then
    startSurvey 0 (s5.setNet fun n => { n with again := false })
  else if s5.net.againTie ∧ isRoot s5 ∧ s5.net.survey.isNone then
    rediscover true (s5.setNet fun n => { n with againTie := false })
  else s5

def execCycleStart (k : Nat) (s : State) := run (cycleStart k) s

/-- A packet of the origination queue leaves: the first whose class goes first and whose budget allows it. -/
def originationRelease (s : State) : State :=
  let first := fun (p : Packet) (l : List Packet) => match l.find? fun r => r.cls == p.cls && r.parcel == p.parcel with
    | some r => r == p
    | none => false
  match s.cp.orig.find? fun p => budgetAllows p s && first p s.cp.orig with
  | some p => launch p { s with cp := { s.cp with orig := s.cp.orig.erase p } }
  | none => s

def execOriginationRelease (s : State) := run originationRelease s

/-! ## HEARTBEAT and snapshots (R392, R393, R423, R425) -/

/-- Opcode 0x04: one answer per source and cycle. -/
def heartbeat (p : Packet) (s : State) : State :=
  if p.payload.length ≠ 0 then reply p (.badParam rLENGTH) [] 0 s
  else if s.cp.hbSrc.contains p.src then s
  else reply p .ok (leBytes 8 s.now ++ sliceBytes s.net.rcOwn 0 16) 0 { s with cp := { s.cp with hbSrc := s.cp.hbSrc ++ [p.src] } }

def execHeartbeat (p : Packet) (s : State) := run (request 0x04 p heartbeat) s

/-- The nearest future epoch whose low 32 bits are `w`; none when it has passed on arrival. [DEDUCED, log 112] -/
def namedEpoch (s : State) (w : Nat) : Option Nat :=
  let d := (w % 2 ^ 32 + 2 ^ 32 - s.epoch % 2 ^ 32) % 2 ^ 32
  if d < 2 ^ 31 then some (s.epoch + d) else none

/-- The entry station's lead check (R392): B_tie at a tie station, B_any otherwise, plus 1,000 ns. -/
def leadOk (s : State) (w : Nat) : Bool :=
  let b := if s.fb R.NET_STAT_TIEROLE then s.fg R.NET_BBOUND_BTIE else s.fg R.NET_BBOUND_BANY
  match namedEpoch s w with
  | some e => decide (s.now + b + 1000 ≤ 50 * e)
  | none => false

/-- The packet entered the system at this station. -/
def enteredHere (p : Packet) : Bool := match p.via with | .ring _ => false | _ => true

/-- Opcode 0x20. -/
def snapshotAt (p : Packet) (s : State) : State :=
  if p.payload.length ≠ 0 then reply p (.badParam rLENGTH) [] 0 s
  else if enteredHere p ∧ !leadOk s p.seqep then reply p (.badParam rLEAD) [] 0 s
  else match namedEpoch s p.seqep with
    | none => reply p .late [] 0 s
    | some e => s.setNet fun n => { n with snaps := n.snaps ++ [{ req := p, epoch := e }] }

def execSnapshotAt (p : Packet) (s : State) := run (request 0x20 p snapshotAt) s

/-- The frame of a named epoch is here: its tag and words are captured. A frame that never came gives STL words. -/
def snapshotCapture (s : State) : State :=
  let lost : List Nat := List.replicate 52 (stlWord false 3)
  s.setNet fun n => { n with snaps := n.snaps.map fun z =>
    if z.got.isSome ∨ s.rx.epoch < z.epoch then z
    else if s.rx.epoch = z.epoch then { z with got := some (s.rx.tag, s.rx.words, s.rx.tag.testBit 63), at_ := s.now }
    else { z with got := some (epochTag s z.epoch, lost, s.fb R.SMP_STAT_COH), at_ := s.now } }

def execSnapshotCapture (s : State) := run snapshotCapture s

/-- In the first cycle that begins after the capture, the replies leave. -/
def snapshotReply (s : State) : State :=
  let go := s.net.snaps.filter fun z => z.got.isSome && decide (z.at_ / 10000 < s.now / 10000)
  go.foldl (fun t z => match z.got with
    | some (tag, words, coh) =>
      reply z.req (if coh then goodStat t else .notCoherent) (leBytes 8 tag ++ words.flatMap (leBytes 4)) 0 t
    | none => t) (s.setNet fun n => { n with snaps := n.snaps.filter fun z => !go.contains z })

def execSnapshotReply (s : State) := run snapshotReply s

end Sys2Proof.Machine
end

