-- ==== Sys2Proof/Machine/Capture.lean ====
section
/-! DEFINITION. The sample frame's arrival at the barrier receive island (R26, R30, R447) and capture memory: the recording
tap, configuration, triggers, reading and what ends a recording (R563 to R569). -/
namespace Sys2Proof.Machine

/-! ## Buffers -/

def State.buf (s : State) (k : Nat) : CapBuf := Smap.get (fun _ => {}) s.cap.bufs k
def State.setBuf (s : State) (k : Nat) (b : CapBuf) : State :=
  { s with cap := { s.cap with bufs := Smap.set (fun _ => {}) s.cap.bufs k b } }

/-- The channels that two CHM words name, ascending. -/
def capChannels (m1 m2 : Nat) : List Nat :=
  (upTo 52).filter fun n => if n ≤ 32 then m1.testBit (n - 1) else m2.testBit (n - 33)

/-- Record length L and records of a block (R564) for `n` channels. -/
def recLen (n : Nat) : Nat := 4 * ((20 * n + 31) / 32)
def recPerBlock (n : Nat) : Nat := 4080 / recLen n

def State.bufChannels (s : State) (k : Nat) : List Nat :=
  capChannels (s.reg (R.CAP_B_W1 k)).toNat (s.reg (R.CAP_B_W2 k)).toNat

/-- The first byte of buffer `k` in capture memory. -/
def capBase (s : State) (k : Nat) : Nat :=
  s.fg (R.CAD_PCAP_CAPBASE (k / 2)) * 2 ^ 20 + s.fg (R.CAP_B_W3_BASE k) * 4096

/-- Writes bytes at offset `o` of buffer `k`. -/
def capPut (k o : Nat) (b : List Byte) (s : State) : State :=
  { s with cap := { s.cap with dram := memWrite s.cap.dram (capBase s k + o) b } }

/-- Closes the open block with the count of its records (R564). -/
def capClose (k : Nat) (s : State) : State :=
  let b := s.buf k
  if b.isOpen then (capPut k (4096 * b.blk + 8) (leBytes 2 b.n) s).setBuf k { b with isOpen := false } else s

/-- Opens the next block of the ring for a record of epoch `e` with tag `tag`: its header, and OLDEST. -/
def capOpen (k e tag : Nat) (s : State) : State :=
  let b := s.buf k
  let size := s.fg (R.CAP_B_W4_SIZE k)
  let blk := b.blks % size
  let hdr := leBytes 8 tag ++ leBytes 2 0xFFFF ++ leBytes 2 (recLen (s.bufChannels k).length) ++ leBytes 4 b.seq
  let s1 := capPut k (4096 * blk) hdr s
  let oldest := if size ≤ b.blks then (blk + 1) % size else 0
  let nb : CapBuf := { b with blk := blk, blks := b.blks + 1, seq := b.seq + 1, e0 := e, n := 0, tag := tag, isOpen := true }
  (s1.setReg (R.CAP_B_W8 k) (w32 (4096 * oldest))).setBuf k nb

/-- Freezes buffer `k` with a STOP code. -/
def capFreeze (stop k : Nat) (s : State) : State :=
  ((capClose k s).fs (R.CAP_B_W6_STATE k) 4).fs (R.CAP_B_W6_STOP k) stop

/-- A record of epoch `e` in buffer `k` (R563, R564); the first at or after TRIGEP starts the count of POST (R567).
`bad` says that the write met an uncorrectable DRAM error (R568). -/
def capRecord (ent : PipeEnt) (bad : Bool) (k : Nat) (s : State) : State :=
  let e := ent.epoch
  let st := s.fg (R.CAP_B_W6_STATE k)
  let b := s.buf k
  let dec := s.fg (R.CAP_B_W0_DEC k)
  let chs := s.bufChannels k
  if !(st == 2 || (st == 3 && !(b.hit && b.post == 0))) || (e + 1) % dec != 0 || !capServes s then s
  else if bad then ((capFreeze 5 k s).inc (R.CAP_B_W6_ECCU k)).raise 0x6F islDRC k
  else
    let follows := b.isOpen && ent.tag / 2 ^ 59 == b.tag / 2 ^ 59 && e == b.e0 + b.n * dec
      && decide (b.n < recPerBlock chs.length)
    let s1 := if follows then s else capOpen k e ent.tag (capClose k s)
    let c := s1.buf k
    let packed := chs.foldr (fun n a => ent.words.getD (n - 1) 0 % 2 ^ 20 + 2 ^ 20 * a) 0
    let l := recLen chs.length
    let s2 := capPut k (4096 * c.blk + 16 + l * c.n) (leBytes l packed) s1
    let reached := decide ((e + 2 ^ 32 - (s.reg (R.CAP_B_W7 k)).toNat) % 2 ^ 32 < 2 ^ 31)
    let s3 :=
      if st = 3 ∧ !c.hit ∧ reached then
        (s2.setBuf k { c with n := c.n + 1, hit := true, post := (s.reg (R.CAP_B_W5 k)).toNat }).setReg (R.CAP_B_W9 k)
          (w32 (4096 * c.blk))
      else s2.setBuf k { c with n := c.n + 1, post := if c.hit then c.post - 1 else c.post }
    if c.n + 1 = recPerBlock chs.length then capClose k s3 else s3

/-! ## The sample frame (R26, R30) -/

/-- The 1,050 bits of a sample frame: the words in channel order, then the frame check. [DEDUCED, log 152] -/
def frameBits (ws : List Nat) : List Bool :=
  let b := ws.flatMap (msbBits 20)
  b ++ msbBits 10 (crc10 b)

/-- A sample word's numeric parts, as SOC reads them (R64, R447). -/
def wordOf (w : Nat) : Word20 :=
  { code := asInt 16 w, stl := w.testBit 17, ovr := w.testBit 19, ems := w.testBit 18 }

/-- What each lane carries of a frame: bit i travels on the (i mod L)-th of the lanes in use (R26). -/
def laneBits (lanes : List Nat) (bits : List Bool) : List (Nat × List Bool) :=
  lanes.zipIdx.map fun (x : Nat × Nat) =>
    (x.1, (bits.zipIdx.filter fun (y : Bool × Nat) => y.2 % lanes.length == x.2).map Prod.fst)

/-- A frame put together again from what the lanes carry. -/
def fromLanes (lanes : List Nat) (carried : List (Nat × List Bool)) : List Bool :=
  (List.range 1050).map fun i =>
    let lane := lanes.getD (i % lanes.length) 22
    match carried.find? fun (x : Nat × List Bool) => x.1 == lane with
    | some x => x.2.getD (i / lanes.length) false
    | none => false

/-- A frame between a lane's failure and the switch of the map, or under two different maps, fails its check (R32). -/
def remapping (s : State) : Bool :=
  s.bar.rxMap % 2 ^ 22 != s.bar.txMap % 2 ^ 22
  || (List.range 22).any fun l => s.bar.failed.testBit l && !s.bar.rxMap.testBit l

/-- The frame as received over the lanes in use: each 1 in `err` inverts that bit of the frame. A failed check or a barrier
that carries no samples marks all 52 words STL with BRX's cause (R30 to R32, R66); an epoch that is not converted has no
frame, and its words are delivered STL with cause 0x0000 (R26, R31). [DEDUCED, log 153] [DESIGN CHOICE, log 161] -/
def received (err : Nat) (s : State) : List Nat :=
  let f := s.smp.frame
  let stale := fun c => (upTo 52).map fun n => stlWord (n == f.chk) c
  if 16 ≤ popCount 22 s.bar.rxMap then stale 6
  else if !f.conv then f.words
  else
    let sent := (frameBits f.words).zipIdx.map fun (x : Bool × Nat) => x.1 ^^ err.testBit x.2
    let bits := fromLanes (sampleLanes s.bar.rxMap) (laneBits (sampleLanes s.bar.txMap) sent)
    let body := bits.take 1040
    if remapping s || crc10 body != bitsNat (bits.drop 1040) then stale 3
    else (List.range 52).map fun i => bitsNat ((body.drop (20 * i)).take 20)

/-- The frame that a SAMPLES subscription to the channels of `mask` receives (R281); none when every one of its channels
carries STL with cause 0x0000 (R282). -/
def samplesItems (tag : Nat) (ws : List Nat) (mask : Nat) : Option (List Word) :=
  let chs := (upTo 52).filter fun n => mask.testBit (n - 1)
  if chs.all fun n => !isWord (ws.getD (n - 1) 0) then none
  else some (tagItems tag ++ chs.map fun n => w32 (n * 2 ^ 20 + ws.getD (n - 1) 0 % 2 ^ 20))

/-- An epoch's words go to the SAMPLES subscriptions. -/
def feedSamples (tag : Nat) (ws : List Nat) (s : State) : State :=
  feed 1 [nodeBRX] 0 false (fun _ w0 w1 => samplesItems tag ws (entMask w0 w1)) s

/-- The frame of the epoch that left the pipeline last arrives. SOC takes the safety current channel's word directly, the
fabric delivers the words with their tag, the tap records them. -/
def sampleFrame (err memErr : Nat) (s : State) : State :=
  if s.smp.frame.words.length ≠ 52 then s
  else
    let ent : PipeEnt := { s.smp.frame with words := received err s }
    let ax := wordOf (ent.words.getD (48 + s.fg R.SAF_ENV0_AXM) 0)
    let s1 := { s with
      rx := ent
      smp := { s.smp with frame := {} }
      soc := { s.soc with ivl := s.soc.ivl ++ [ax] } }
    let s2 := feedSamples ent.tag ent.words
      (svcFrame ent.tag ent.words ((rollSums ent s1).emit .stream (0 :: 0 :: ent.tag :: ent.words)))
    (List.range 16).foldl (fun t k => capRecord ent (memErr.testBit k) k t) s2

def execSampleFrame (err memErr : Nat) (s : State) := run (sampleFrame err memErr) s

/-! ## Configuration (R565, R566) -/

/-- The sum of two fractions. -/
def addFrac (a b : Nat × Nat) : Nat × Nat := (a.1 * b.2 + b.1 * a.2, a.2 * b.2)

/-- Tap load in bit/s of a spacing and a number of channels, as a fraction. -/
def tapLoad (dec n : Nat) : Nat × Nat := (20000000 * 4096 * 8, dec * recPerBlock n)

/-- The EN bit, DEC and number of channels of buffer `k` once its accepted configurations have taken effect. -/
def State.bufPlan (s : State) (k : Nat) : Bool × Nat × Nat :=
  match (s.buf k).pend.getLast? with
  | some (_, w) =>
    let g := fun i => (w.getD i (0 : Word)).toNat
    ((g 0).testBit 31, g 0 % 65536, (capChannels (g 1) (g 2)).length)
  | none => (s.fb (R.CAP_B_W0_EN k), s.fg (R.CAP_B_W0_DEC k), (s.bufChannels k).length)

/-- The load of the buffers of other parcels than `q` that are enabled, or will be. -/
def planLoad (s : State) (q : Nat) : Nat × Nat :=
  (List.range 16).foldl (fun a k =>
    let b := s.bufPlan k
    if k / 2 != q && b.1 then addFrac a (tapLoad b.2.1 b.2.2) else a) (0, 1)

/-- The load of the enabled buffers for which `p` holds. -/
def loadOf (s : State) (p : Nat → Bool) : Nat × Nat :=
  (List.range 16).foldl (fun a k =>
    if p k && s.fb (R.CAP_B_W0_EN k) then addFrac a (tapLoad (s.fg (R.CAP_B_W0_DEC k)) (s.bufChannels k).length) else a)
    (0, 1)

/-- CAP_STAT.TAPLOAD. -/
def tapRefresh (s : State) : State :=
  let f := loadOf s fun _ => true
  s.fs R.CAP_STAT_TAPLOAD (clampU 8 ((2 * f.1 + 100000000 * f.2) / (200000000 * f.2)))

/-- The first row of R566 for one buffer's six words. [DEDUCED, log 150] -/
def capWordsBad (w : List Nat) : Bool :=
  let g := fun i => w.getD i 0
  let dec := g 0 % 65536
  decide (dec = 0 ∨ g 4 < 2 ∨ g 4 * recPerBlock (capChannels (g 1) (g 2)).length ≤ g 5)
    || decide (bitsOf (g 0) 28 3 ≠ 0 ∨ bitsOf (g 0) 21 1 ≠ 0 ∨ 2 ^ 20 ≤ g 2 ∨ 2 ^ 18 ≤ g 3 ∨ 2 ^ 19 ≤ g 4)

/-- CAPTURE_CFG. -/
def captureCfg (p : Packet) (s : State) : State :=
  let q := p.parcel
  let ws := fun i => (List.range 6).map fun j => u32 p.payload (24 * i + 4 * j)
  let a := ws 0
  let b := ws 1
  let g := fun (w : List Nat) i => w.getD i 0
  let size := s.fg (R.CAD_PCAP_CAPSZ q) * 256
  let outside := fun (w : List Nat) => decide (size < g w 3 + g w 4)
  let meets := decide (g a 3 < g b 3 + g b 4 ∧ g b 3 < g a 3 + g a 4)
  let chans := capChannels (g a 1) (g a 2) ++ capChannels (g b 1) (g b 2)
  let add := fun (f : Nat × Nat) (w : List Nat) =>
    if (g w 0).testBit 31 then addFrac f (tapLoad (g w 0 % 65536) (capChannels (g w 1) (g w 2)).length) else f
  let load := add (add (planLoad s q) a) b
  if !s.capFit then reply p .absent [] 0 s
  else if p.payload.length ≠ 48 then reply p (.badParam rLENGTH) [] 0 s
  else if capWordsBad a || capWordsBad b then reply p .badParam [] 0 s
  else if size = 0 ∨ outside a ∨ outside b ∨ meets then reply p (.refused rPERMISSION) [] 0 s
  else if chans.any fun n => !s.chanOk q n then reply p (.refused rPERMISSION) [] 0 s
  else if 24000000000 * load.2 < load.1 then reply p (.refused rCAPACITY) [] 0 s
  else if s.fb R.PWR_CTRL_CAPOFF then reply p (.refused rSTATE) [] 0 s
  else
    let e := firstMultiple 1024 2000 s.now
    let put := fun (k : Nat) (w : List Nat) (t : State) =>
      let st := t.fg (R.CAP_B_W6_STATE k)
      let t1 := if (g w 0).testBit 31 && (st == 0 || st == 4) then t.fs (R.CAP_B_W6_STATE k) 1 else t
      let b := t1.buf k
      t1.setBuf k { b with pend := b.pend ++ [(e, w.map w32)] }
    reply p .ok (leBytes 4 (e % 2 ^ 32)) 0 (put (2 * q + 1) b (put (2 * q) a s))

def execCaptureCfg (p : Packet) (s : State) := run (request 0x21 p captureCfg) s

/-- A buffer's new configuration takes effect: with EN it discards its contents and records, without it becomes IDLE. -/
def capEffect (k : Nat) (w : List Word) (s : State) : State :=
  let st := s.fg (R.CAP_B_W6_STATE k)
  let g := fun i => w.getD i 0
  let s0 := capClose k s
  let s1 := (List.range 6).foldl (fun t i => t.setReg (R.CAP_B_W0 k + 4 * i) (g i)) s0
  let keep := (s1.buf k).pend
  if (g 0).toNat.testBit 31 then
    let s2 := (((s1.setReg (R.CAP_B_W6 k) 0).setReg (R.CAP_B_W7 k) 0).setReg (R.CAP_B_W8 k) 0).setReg (R.CAP_B_W9 k) 0
    let nb : CapBuf := { pend := keep }
    (s2.fs (R.CAP_B_W6_STATE k) 2).setBuf k nb
  else
    let s2 := s1.fs (R.CAP_B_W6_STATE k) 0
    if st = 2 ∨ st = 3 then s2.fs (R.CAP_B_W6_STOP k) 2 else s2

/-- The effect epoch of accepted configurations has come. -/
def captureConfigEffect (s : State) : State :=
  let due := fun (w : Nat × List Word) => decide (w.1 ≤ s.epoch)
  tapRefresh ((List.range 16).foldl (fun t k =>
    let b := t.buf k
    let t1 := t.setBuf k { b with pend := b.pend.filter fun w => !due w }
    (b.pend.filter due).foldl (fun x w => capEffect k w.2 x) t1) s)

def execCaptureConfigEffect (s : State) := run captureConfigEffect s

/-! ## Triggers and reading (R567, R569) -/

/-- CAPTURE_TRIG. -/
def captureTrig (p : Packet) (s : State) : State :=
  let m := u64 p.payload 0
  let named := (List.range 16).filter fun k => m.testBit k
  if !s.capFit then reply p .absent [] 0 s
  else if p.payload.length ≠ 8 then reply p (.badParam rLENGTH) [] 0 s
  else if 2 ^ 16 ≤ m then reply p .badParam [] 0 s
  else if p.parcel ≠ 0 ∧ named.any (fun k => k / 2 != p.parcel) then reply p (.refused rPERMISSION) [] 0 s
  else if !(named.any fun k => s.fg (R.CAP_B_W6_STATE k) == 2) then reply p (.refused rSTATE) [] 0 s
  else
    let s1 := named.foldl (fun t k => if t.fg (R.CAP_B_W6_STATE k) = 2 then capFire 0 t.epoch k t else t) s
    reply p .ok (leBytes 4 (s.epoch % 2 ^ 32)) 0 s1

def execCaptureTrig (p : Packet) (s : State) := run (request 0x22 p captureTrig) s

/-- POST records after the first at or after TRIGEP are written: FROZEN, STOP 0b001. -/
def capturePostComplete (k : Nat) (s : State) : State :=
  let b := s.buf k
  if s.fg (R.CAP_B_W6_STATE k) = 3 ∧ b.hit ∧ b.post = 0 then capFreeze 1 k s else s

def execCapturePostComplete (k : Fin 16) (s : State) := run (capturePostComplete k.val) s

/-- CAPTURE_READ; `bad` names the 64-byte units of the buffer that show an uncorrectable error. [DEDUCED, log 151] -/
def captureRead (bad : List Nat) (p : Packet) (s : State) : State :=
  let k := u8 p.payload 0
  let off := u64 p.payload 4
  let len := u16 p.payload 12
  if !s.capFit then reply p .absent [] 0 s
  else if p.payload.length ≠ 16 then reply p (.badParam rLENGTH) [] 0 s
  else if 15 < k ∨ leAt p.payload 1 3 ≠ 0 ∨ u16 p.payload 14 ≠ 0 ∨ len < 64 ∨ 2000 < len ∨ len % 4 ≠ 0 then
    reply p .badParam [] 0 s
  else if p.parcel ≠ 0 ∧ k / 2 ≠ p.parcel then reply p (.refused rPERMISSION) [] 0 s
  else if !(s.fg (R.CAP_B_W6_STATE k) == 0 || s.fg (R.CAP_B_W6_STATE k) == 4) then reply p (.refused rSTATE) [] 0 s
  else if s.fg (R.CAP_B_W4_SIZE k) * 4096 < off + len then reply p .badParam [] 0 s
  else if !capServes s then reply p .blockReset [] 0 s
  else
    let units := (bad.filter fun u => off / 64 ≤ u ∧ u ≤ (off + len - 1) / 64).eraseDups
    let s1 := units.foldl (fun t _ => (t.inc (R.CAP_B_W6_ECCU k)).raise 0x6F islDRC k) s
    let data := (List.range len).map fun i =>
      if units.contains ((off + i) / 64) then 0 else Smap.get zeroByte s.cap.dram (capBase s k + off + i)
    reply p .ok (leBytes 8 off ++ leBytes 2 len ++ leBytes 2 0 ++ data) 0 s1

def execCaptureRead (p : Packet) (bad : List Nat) (s : State) := run (request 0x23 p (captureRead bad)) s

/-! ## What else ends a recording (R568) -/

/-- SYS-WARM: the open block is closed and the buffer is FROZEN with STOP 0b011. -/
def capWarm (s : State) : State :=
  (List.range 16).foldl (fun t k =>
    let st := t.fg (R.CAP_B_W6_STATE k)
    if st = 2 ∨ st = 3 then capFreeze 3 k t else t) s

/-- SYS-COLD, SYS-POR, CAPOFF: contents are lost and every buffer resets to IDLE. -/
def capLost (s : State) : State :=
  { s with cap := {} }.clearRegs fun a => decide (0x1D0100 ≤ a ∧ a < 0x1D0500)

end Sys2Proof.Machine
end

