-- ==== Sys2Proof/Machine/Sweep.lean ====
section
/-! DEFINITION. The sweep converter: the meanings of the rows SWEEP_ROUND_START to REF_NOT_SETTLED_TIMEOUT,
CALIBRATION_SETTLE_LOW and CALIBRATION_SETTLE_HIGH, and the start judgement of R455 step 4 (R105 to R124, R130 to R134). -/
namespace Sys2Proof.Machine

/-! ## Slots -/

def srcBGB : Nat := 0x48
def srcSHORT : Nat := 0x49
def srcMUXA : Nat := 0x4A
def srcDAC : Nat := 0x4B
def srcTRIG : Nat := 0x7F

/-- An injected sequence is running (R115): it has a slot that is not converted yet. -/
def State.injRunning (s : State) : Bool := s.swp.injOn && decide (s.swp.injIdx < s.fg R.SWC_CTRL_ILEN)

/-- The source code and RAT of the slot in progress; none between slots, in a calibration slot, and once an injected sequence
has no further slot. -/
def State.slot (s : State) : Option (Nat × Nat) :=
  if s.swp.inCal ∨ (s.swp.injOn ∧ !s.injRunning) then none
  else if s.fg R.SWC_STAT_STATE = 3 then
    some (s.fg (R.SWC_ISEQ_SRC s.swp.injIdx), s.fg (R.SWC_ISEQ_RAT s.swp.injIdx))
  else if s.fg R.SWC_STAT_STATE = 2 then
    let k := s.fg R.SWC_STAT_SLOT
    if k < 96 then some (s.fg (R.SWC_SEQ_SRC k), s.fg (R.SWC_SEQ_RAT k)) else none
  else none

/-- The next injected slot from index `i` that takes time: a TRIG slot takes none when no source named a cell.
[DEDUCED, log 40] -/
def injNext (s : State) (i : Nat) : Nat :=
  let n := s.fg R.SWC_CTRL_ILEN
  (((List.range n).filter fun k => decide (i ≤ k)
    && !(s.fg (R.SWC_ISEQ_SRC k) == srcTRIG && s.swp.injCell == 0)).head?).getD n

/-- The reference of the slot in progress is not settled. -/
def slotUnsettled (s : State) : Bool :=
  match s.slot with
  | some (_, 1) => !s.fb R.SWC_STAT_RAT_SETTLED
  | _ => !s.fb R.SWC_STAT_REF_SETTLED

/-- Shows the slot that is in progress and starts it at epoch `e`. -/
def openSlot (e st sl : Nat) (s : State) : State :=
  let s1 := (s.fs R.SWC_STAT_STATE st).fs R.SWC_STAT_SLOT sl
  let s2 := { s1 with swp := { s1.swp with slotAt := e, win := [], dacMoved := false } }
  { s2 with swp := { s2.swp with uns := slotUnsettled s2 } }

/-- The regular or calibration slot that comes next at epoch `e` (R116, R117): a calibration slot that waits, the
regular slot that waits or was abandoned, or none. While a calibration slot runs SWC_STAT reads STATE 0b10 and SLOT 127.
[DESIGN CHOICE, log 165] -/
def resume (e : Nat) (s : State) : State :=
  if !s.sweepOn then
    openSlot e 0 127 { s with swp := { s.swp with inCal := false } }
  else if s.swp.calSlot ≠ 0 then openSlot e 2 127 { s with swp := { s.swp with inCal := true } }
  else
    let s1 := { s with swp := { s.swp with inCal := false } }
    match s1.swp.round with
    | some (_, k) => openSlot e 2 k s1
    | none => openSlot e 1 127 s1

/-! ## References (R118, R119) -/

/-- The settling time of the reference in force, in ns. -/
def refTime (s : State) : Nat := if s.fb R.SWC_REF_SEL then 1000000 * s.fg R.SWC_REF_XSETTLE else 2000000

/-- REF_SETTLED is cleared: the settling time starts; `muxa` says that a MUXA result inside its window must follow.
[DEDUCED, log 39] -/
def refUnsettle (muxa : Bool) (s : State) : State :=
  let s1 := s.fs R.SWC_STAT_REF_SETTLED 0
  calUnsettled { s1 with swp := { s1.swp with
    refAt := s.lt, refTimed := false, refMuxa := muxa || s.fb R.SWC_REF_SEL, refFault := false, uns := true } }

/-- A flag that is set before the integration begins leaves the slot settled (R107). -/
def unsRefresh (s : State) : State :=
  if s.epoch < s.swp.slotAt + 8 then { s with swp := { s.swp with uns := slotUnsettled s } } else s

def refSet (s : State) : State := unsRefresh (s.fs R.SWC_STAT_REF_SETTLED 1)

/-- The settling time of the selected reference has elapsed. -/
def refSettleTimer (s : State) : State :=
  if s.sweepOn && !s.fb R.SWC_STAT_REF_SETTLED && !s.swp.refTimed && s.due s.swp.refAt (refTime s) then
    let s1 := { s with swp := { s.swp with refTimed := true } }
    if s1.swp.refMuxa then s1 else refSet s1
  else s

def execRefSettleTimer (s : State) := run refSettleTimer s

def ratSettleTimer (s : State) : State :=
  if s.sweepOn && s.due s.swp.ratAt 1000000 then unsRefresh (s.fs R.SWC_STAT_RAT_SETTLED 1) else s

def execRatSettleTimer (s : State) := run ratSettleTimer s

/-- 100 ms without REF_SETTLED (R119). -/
def refNotSettledTimeout (s : State) : State :=
  if s.sweepOn && !s.fb R.SWC_STAT_REF_SETTLED && !s.swp.refFault && s.due s.swp.refAt 100000000 then
    { s with swp := { s.swp with refFault := true } }.raise 0x23 islSWC 0
  else s

def execRefNotSettledTimeout (s : State) := run refNotSettledTimeout s

/-- The sweep domain has come on (R46 step 4, R119). -/
def sweepDomainOn (s : State) : State :=
  let s1 := refUnsettle false (s.fs R.SWC_STAT_RAT_SETTLED 0)
  updatePlna (openSlot s1.epoch 1 127 { s1 with swp := { s1.swp with ratAt := s.lt } })

/-- The sweep domain has gone off: both flags read 0 and no slot runs. -/
def sweepDomainOff (s : State) : State :=
  let s1 := calUnsettled ((s.fs R.SWC_STAT_RAT_SETTLED 0).fs R.SWC_STAT_REF_SETTLED 0)
  updatePlna (openSlot s1.epoch 0 127 { s1 with swp := { s1.swp with
    round := none, roundHeld := false, injOn := false, heldSsv := false, inCal := false } })

/-! ## Triggers (R114 to R116) -/

/-- Opens the first slot of an injected sequence that takes time, if it has one, at epoch `e`. -/
def injOpen (e : Nat) (s : State) : State :=
  let i := injNext s 0
  let s1 := { s with swp := { s.swp with injIdx := i } }
  if i < s.fg R.SWC_CTRL_ILEN then openSlot e 3 (96 + i) s1 else s1

/-- Starts an injected sequence in the epoch after this one. A sequence that has no slot but TRIG slots without a cell takes no
time (R114): it ends in the epoch in which it starts, and what it abandoned restarts there. -/
def injStart (src cell : Nat) (s : State) : State :=
  let e := s.epoch + 1
  let idle := s.swp.round.isNone && !s.swp.inCal
  let s1 := { s with swp := { s.swp with
    injOn := true, injIdx := 0, injCell := cell, injFromIdle := idle, inCal := false
    injEpoch := some s.epoch, injStop := e, injPri := if cell = 0 then 0 else src + 1, inj := (s.swp.inj + 1) % 16 } }
  let s2 := (((s1.fs R.SWC_INJSRC_SRC (2 ^ src)).fs R.SWC_INJSRC_CELL cell).fs R.SWC_IEPOCH_EPOCH e)
  injOpen e s2

/-- A trigger joins the sequence that started in this epoch (R114). -/
def injMerge (src cell : Nat) (s : State) : State :=
  let s1 := s.fbit R.SWC_INJSRC_SRC src true
  let better := cell ≠ 0 ∧ (s.swp.injPri < src + 1 ∨ (s.swp.injPri = src + 1 ∧ cell < s.swp.injCell))
  if better then
    let s2 := { s1.fs R.SWC_INJSRC_CELL cell with swp := { s1.swp with injCell := cell, injPri := src + 1 } }
    injOpen (s.epoch + 1) { s2 with swp := { s2.swp with inCal := false } }
  else s1

/-- A trigger: source 0 CMD, 1 DIS, 2 CMP, 3 SSV, with the cell it names or 0. The SSV trigger of a start names none
and is held while a sequence runs. -/
def fireTrigger (src cell : Nat) (s : State) : State :=
  if !s.tb ⟨R.SWC_INJEN, 0, 4⟩ src || s.fg R.SWC_STAT_STATE == 0 then s
  else if s.swp.injOn ∧ s.swp.injEpoch = some s.epoch then injMerge src cell s
  else if s.injRunning then
    if src = 3 ∧ cell = 0 then { s with swp := { s.swp with heldSsv := true } }
    else s.inc R.SWC_INJDROP_COUNT
  else injStart src cell s

def injectedTrigger (src cell : Nat) (s : State) : State := fireTrigger src cell s

def execInjectedTrigger (src : Fin 4) (cell : Nat) (s : State) := run (injectedTrigger src.val cell) s

/-- SWC_INJCTL: DCLR, then GO (R115, R132). -/
def swcInjctlWrite (v : Word) (s : State) : Stat × State :=
  let go := wf v R.SWC_INJCTL_GO = 1
  let cell := wf v R.SWC_INJCTL_CELL
  let clr := fun (t : State) => if wf v R.SWC_INJCTL_DCLR = 1 then
      (t.fs R.SWC_INJDROP_COUNT 0).fs R.SWC_OVRUN_COUNT 0 else t
  if go ∧ 48 < cell then (.badParam, s)
  else if go ∧ s.fg R.SWC_STAT_STATE = 0 then (.refused rSTATE, s)
  else if go then (.ok, fireTrigger 0 cell (clr s))
  else (.ok, clr s)

def execSwcInjctlGo (v : Word) (s : State) :=
  run (direct R.SWC_INJCTL (w32 (setBit v.toNat 31 true)) swcInjctlWrite) s
def execSwcInjctlDclr (v : Word) (s : State) :=
  run (direct R.SWC_INJCTL (w32 (setBit v.toNat 30 true)) swcInjctlWrite) s

/-! ## Rounds (R109, R111, R112) -/

/-- A pending safety-set change of a sweep register takes effect. -/
def applySweep (a : Nat) (v : Word) (s : State) : State :=
  let s1 := s.setReg a (if a = R.SWC_CTRL then w32 (withBits v.toNat 0 1 (s.fg R.SWC_CTRL_EN)) else v)
  if a = R.SWC_REF ∧ s1.fg R.SWC_REF_SEL ≠ s.fg R.SWC_REF_SEL then refUnsettle false s1 else s1

/-- The counts of consecutive failing rounds at the end of a round (R121): a round in which every result of a kind was
judged and passed resets the count. -/
def closeCounts (s : State) : State :=
  { s with swp := { s.swp with
    cnt := s.swp.cnt.filter fun c => Smap.get (fun _ => 0) s.swp.seen c.1 != 1
    seen := [] } }

/-- The round that starts at epoch `e`, after the changes that wait for it. -/
def beginRound (e : Nat) (s : State) : State :=
  let s1 := s.swp.pendSet.foldl (fun t c => applySweep c.1 c.2 t) { s with swp := { s.swp with pendSet := [] } }
  let s2 := closeCounts s1
  let s3 := { s2 with swp := { s2.swp with round := some (e, 0), rnd := (s2.swp.rnd + 1) % 16, roundHeld := false }
                      ssv := { s2.ssv with roundOn := s2.ssv.judge == 2 } }
  if s3.swp.inCal || s3.injRunning then s3 else resume e s3

/-- A round start arrives at epoch `e`, a multiple of 40 x PERIOD whose aperture has not passed (R109). A domain that is to go
off while the old round is unfinished or an injected sequence runs is requested off at the first round start at which neither
holds. [DESIGN CHOICE, log 166] -/
def sweepRoundStart (e : Nat) (s : State) : State :=
  if e % (40 * s.fg R.SWC_CTRL_PERIOD) ≠ 0 ∨ e < s.epoch then s
  else
  let s0 := s.until (50 * e)
  if s0.fg R.SWC_STAT_STATE = 0 then s0
  else if s0.swp.round.isSome then s0.inc R.SWC_OVRUN_COUNT
  else if s0.swp.offNext then
    if s0.injRunning then s0 else domReqOff domSWEEP { s0 with swp := { s0.swp with offNext := false } }
  else if !s0.fb R.SWC_CTRL_EN then s0
  else if s0.injRunning ∧ s0.swp.injFromIdle then { s0 with swp := { s0.swp with roundHeld := true } }
  else beginRound e s0

def execSweepRoundStart (e : Nat) (s : State) := run (sweepRoundStart e) s

/-! ## The start judgement (R455 step 4) -/

/-- SSV judges its inputs once the sequence or round it waited for is done. -/
def ssvJudge (s : State) : State :=
  let trips := [R.CMP_OVTRIP0, R.CMP_OVTRIP1, R.CMP_UVTRIP0, R.CMP_UVTRIP1].any fun a => s.reg a != 0
  let live := (s.fg R.SMP_AXSAFE_SAFEI) &&& (15 ^^^ s.fg R.SMP_AXSTAT_LIVE) == 0
  if trips then ssvAnswer false 0x0B s
  else if s.fb R.SWC_DIAG_LOST || !s.ssv.seen || s.ssv.bad || !live then ssvAnswer false 0x0C s
  else ssvAnswer true 0 s

/-- A BGB, SHORT or MUXA result counts for the start in progress. -/
def ssvSees (good : Bool) (s : State) : State :=
  let mine := (s.ssv.judge == 1 && s.swp.injOn && s.tb R.SWC_INJSRC_SRC 3 && s.fg R.SWC_STAT_STATE == 3)
    || (s.ssv.judge == 2 && s.ssv.roundOn && s.fg R.SWC_STAT_STATE == 2)
  if mine then { s with ssv := { s.ssv with seen := true, bad := s.ssv.bad || !good } } else s

/-! ## Results (R106, R107, R120 to R124) -/

/-- OVR of a result (R107). -/
def sweepOvr (s : State) (src rat : Nat) (d : Int) (under : Bool) : Bool :=
  if rat = 1 then d == 0 || d == 262143
  else if 0x31 ≤ src ∧ src ≤ 0x34 then
    decide ((if s.fb (R.SMP_AXCFG_MODE (src - 0x30)) then 125000 else 120000) < d.natAbs)
  else decide (240000 < d) || under

/-- The window of a diagnostic slot: expected result and half width (R120). -/
def diagWindow (s : State) (src : Nat) : Int × Int :=
  let ext := s.fb R.SWC_REF_SEL
  let i := s.fg R.SWC_DIAG_DACIDX
  let t := if i % 2 = 0 then s.fg (R.CMP_THR_OVT (i / 2 + 1)) else s.fg (R.CMP_THR_UVT (i / 2 + 1))
  if src = srcBGB then (68000, if ext then 180 else 80)
  else if src = srcSHORT then (20000, 8)
  else if src = srcMUXA then (120000, if ext then 200 else 20)
  else (60000 + 160 * (t : Int), 400)

def inWindow (s : State) (src : Nat) (d : Int) : Bool :=
  let w := diagWindow s src
  decide ((d - w.1).natAbs ≤ w.2.natAbs)

/-- The threshold DAC that DACIDX names is driven by a comparator test. -/
def dacDriven (s : State) : Bool := s.cmp.test == some (s.fg R.SWC_DIAG_DACIDX + 2)

/-- The sweep path is lost (R121, R459). -/
def sweepLost (s : State) : State :=
  let s1 := sendUp mSWEEPLOST [] (toneDrop (s.fs R.SWC_DIAG_LOST 1))
  ssvWithdraw 0x02 0x02 (s1.raise 0x06 islSWC 0)

/-- Marks a round for a kind: bit 0 judged and passed, bit 1 failed, bit 2 not judged; a first failure adds to the
count, and the count's limit loses the path. -/
def countRound (kind : Nat) (ok : Option Bool) (s : State) : State :=
  let seen := Smap.get (fun _ => 0) s.swp.seen kind
  let mark := fun (b : Nat) (t : State) => { t with swp := { t.swp with
    seen := Smap.set (fun _ => 0) t.swp.seen kind (setBit seen b true) } }
  match ok with
  | none => mark 2 s
  | some true => mark 0 s
  | some false =>
    if seen.testBit 1 then s
    else
      let n := Smap.get (fun _ => 0) s.swp.cnt kind + 1
      let s1 := mark 1 { s with swp := { s.swp with cnt := Smap.set (fun _ => 0) s.swp.cnt kind n } }
      if s1.fg R.SWC_DIAGCFG_LIMIT ≤ n ∧ !s1.fb R.SWC_DIAG_LOST then sweepLost s1 else s1

/-- A failed diagnostic result (R121, R459): the FAIL bit and the F1 source; a failed DAC also reaches SSV, which fires
its trigger with that cell (`slotTriggers`). -/
def diagFailed (kind : Nat) (s : State) : State :=
  let dac := s.fg R.SWC_DIAG_DACIDX
  let s1 := s.fbit R.SWC_DIAG_FAIL kind true
  let s2 := s1.raise 0x24 islSWC (kind * 256 + (if kind = 3 then dac else 0))
  if kind = 3 then ssvInput (bitsOf s2.ssv.act.toNat 2 2) (sendUp mDACFAIL [dac] s2) else s2

/-- A DAC result that fails its window; an unsettled result, a threshold that changed during the slot and a DAC that a
test drives give no judgement (R120). -/
def dacFails (s : State) (d : Int) (uns : Bool) : Bool :=
  !uns && !s.swp.dacMoved && !dacDriven s && !inWindow s srcDAC d

/-- Judges a diagnostic result. -/
def judgeDiag (src : Nat) (d : Int) (uns ovr : Bool) (s : State) : State :=
  let kind := src - srcBGB
  let good := inWindow s src d
  if src = srcDAC then
    let s1 := if dacFails s d uns then diagFailed 3 s else s
    s1.fs R.SWC_DIAG_DACIDX ((s.fg R.SWC_DIAG_DACIDX + 1) % 96)
  else
    let s0 := ssvSees (good && !uns && !ovr) s
    if uns then
      let s1 := countRound kind none s0
      if src = srcMUXA ∧ good ∧ s1.swp.refTimed ∧ !s1.fb R.SWC_STAT_REF_SETTLED then refSet s1 else s1
    else if good then countRound kind (some true) s0
    else
      let s1 := countRound kind (some false) (diagFailed kind s0)
      if src = srcMUXA then refUnsettle true s1 else s1

/-- A confirmed disagreement (R124, R459). -/
def plausFailure (ch : Nat) (s : State) : State :=
  let s1 := if ch ≤ 48 then s.setCellBit R.SWC_CONF0 R.SWC_CONF1 ch true else s.fbit R.SWC_CONF1_AX (ch - 49) true
  ssvInput (bitsOf s1.ssv.act.toNat 0 2) (sendUp mPLAUS [ch] (s1.raise 0x25 islSWC ch))

/-- A comparison has disagreed or agreed (R124). -/
def judgePlaus (ch : Nat) (dis : Bool) (s : State) : State :=
  let pend := s.swp.pendDis.testBit (ch - 1)
  let setP := fun (b : Bool) (t : State) => { t with swp := { t.swp with pendDis := setBit t.swp.pendDis (ch - 1) b } }
  if !dis then setP false s
  else
    let s1 := if ch ≤ 48 then s.setCellBit R.SWC_DIS0 R.SWC_DIS1 ch true else s.fbit R.SWC_DIS1_AX (ch - 49) true
    if pend then plausFailure ch (setP false s1) else setP true s1

/-- The usable words of the window: their number and sum (R122). -/
def winSum (s : State) : Nat × Int :=
  s.swp.win.foldl (fun a x => if x.2.2 then (a.1 + 1, a.2 + x.2.1) else a) (0, 0)

/-- Epochs of the integration window that are converted at the rate in force. -/
def winConverted (s : State) : Nat :=
  (List.range 32).countP fun i => (s.swp.slotAt + 8 + i) % s.step == 0

/-- Whether the slot gives no comparison (R123). -/
def noCompare (s : State) (uns ovr : Bool) : Bool :=
  let w := (winSum s).1
  uns || ovr || s.fg R.SMP_STAT_RATE == 3 || w == 0 || decide (4 * w < 3 * winConverted s)

/-- Whether channel `ch` disagrees (R122). -/
def disagrees (s : State) (ch : Nat) (d : Int) : Bool :=
  let (w, sum) := winSum s
  let m := (4 * sum - w * d).natAbs
  if ch ≤ 48 then decide (2 * s.fg R.SWC_PLTHR_THR * w < m * 5) else decide (4 * s.fg R.SWC_PLTHR_AXTHR * w < m)

/-- The result word of R134. -/
def resultWord (uns ovr dis nocmp : Bool) (mid : Nat) (d : Int) : Nat :=
  b2n uns * 0x80000000 + b2n ovr * 0x40000000 + b2n dis * 0x20000000 + b2n nocmp * 0x10000000 + mid + ofInt 18 d

/-- The slot in progress is over: the next injected slot, or what follows a regular or calibration slot. -/
def advance (s : State) : State :=
  let e := s.swp.slotAt + 40
  if s.fg R.SWC_STAT_STATE = 3 then
    let i := injNext s (s.swp.injIdx + 1)
    let s1 := { s with swp := { s.swp with injIdx := i } }
    if i < s.fg R.SWC_CTRL_ILEN then openSlot e 3 (96 + i) s1
    else { s1.fs R.SWC_STAT_SLOT 127 with swp := { s1.swp with injStop := e } }
  else match s.swp.round with
    | some (st, k) =>
      if s.swp.inCal then resume e { s with swp := { s.swp with inCal := false } }
      else if k + 1 < s.fg R.SWC_CTRL_LEN then resume e { s with swp := { s.swp with round := some (st, k + 1) } }
      else
        let s1 := resume e { s.fs R.SWC_RSTART_EPOCH st with swp := { s.swp with round := none } }
        if s1.ssv.st = svSTARTING ∧ s1.ssv.judge = 2 ∧ s1.ssv.roundOn then ssvJudge s1 else s1
    | none => resume e { s with swp := { s.swp with inCal := false } }

/-- UNS, OVR, DIS and NOCMP of the result of the slot in progress (R107, R122, R123). -/
def slotFlags (src rat : Nat) (d : Int) (under : Bool) (s : State) : Bool × Bool × Bool × Bool :=
  let ch := s.slotChannel
  let uns := s.swp.uns || slotUnsettled s
  let ovr := sweepOvr s src rat d under
  let nocmp := ch ≠ 0 && noCompare s uns ovr
  (uns, ovr, ch ≠ 0 && !nocmp && disagrees s ch d, nocmp)

/-- The triggers that a result fires, as source and cell: DIS for a cell slot that disagrees (R124), SSV for a failed
DAC (R459). -/
def slotTriggers (src rat : Nat) (d : Int) (under : Bool) (s : State) : List (Nat × Nat) :=
  let f := slotFlags src rat d under s
  let ch := s.slotChannel
  (if f.2.2.1 ∧ ch ≤ 48 ∧ src ≠ srcTRIG then [(1, ch)] else [])
  ++ (if src = srcDAC ∧ dacFails s d f.1 then [(3, s.fg R.SWC_DIAG_DACIDX / 2 + 1)] else [])

/-- A result of a TS or DIETEMP slot that housekeeping may use (R528, R530): neither UNS nor OVR. -/
def keepTemp (src rat : Nat) (d : Int) (usable : Bool) (s : State) : State :=
  let k := if 0x35 ≤ src ∧ src ≤ 0x44 then src - 0x34 else if src = 0x4C then 17 else 0
  if k = 0 ∨ !usable then s
  else { s with thm := { s.thm with
    acc := (s.thm.acc.filter fun e => decide (s.lt < e.2.1 + 100000000)) ++ [(k, s.lt, rat, d)] } }

/-- The result of a slot with source `src` and RAT: its word, message, comparison and judgement. -/
def slotResult (src rat : Nat) (d : Int) (under : Bool) (s : State) : State :=
  let inj := s.fg R.SWC_STAT_STATE = 3
  let ch := s.slotChannel
  let (uns, ovr, dis, nocmp) := slotFlags src rat d under s
  let k := if inj then s.swp.injIdx else s.fg R.SWC_STAT_SLOT
  let cnt := if inj then s.swp.inj else s.swp.rnd
  let a := if inj then R.SWC_IRES k else R.SWC_RES k
  let s1 := s.setReg a (w32 (resultWord uns ovr dis nocmp (cnt * 0x1000000) d))
  let no := if inj then 96 + k else k
  let s2 := sendUp mSWEEP [resultWord uns ovr dis nocmp (no * 0x200000) d] { s1 with fab := { s1.fab with
    slotEnd := Smap.set (fun _ => 0) s1.fab.slotEnd no (s1.swp.slotAt + 39) } }
  let s3 := if srcBGB ≤ src ∧ src ≤ srcDAC then judgeDiag src d uns ovr s2 else s2
  let s4 := keepTemp src rat d (!uns && !ovr) s3
  if ch ≠ 0 ∧ !nocmp then judgePlaus ch dis s4 else s4

/-- The integration of the slot in progress ends. `d` is the converter's result, `under` says that the input lay below
-0.5 V. The next slot follows, and a trigger that the result fires abandons it (R116). -/
def sweepSlotResult (d : Int) (under : Bool) (s : State) : State :=
  if s.swp.inCal ∧ !s.swp.injOn then
    let s0 := s.until (50 * (s.swp.slotAt + 40))
    advance { s0.fs R.SWC_STAT_CALSLOT 0 with
      swp := { s0.swp with calSlot := 0 }
      smp := { s0.smp with cal := s0.smp.cal.map fun c =>
        if s0.swp.calSlot = 1 then { c with sweepLo := some d } else { c with sweepHi := some d } } }
  else match s.slot with
    | none => s
    | some (src, rat) =>
      let s0 := s.until (50 * (s.swp.slotAt + 40))
      if src = 0 then advance s0
      else (slotTriggers src rat d under s0).foldl (fun t g => fireTrigger g.1 g.2 t)
        (advance (slotResult src rat d under s0))

def execSweepSlotResult (d : Int) (under : Bool) (s : State) := run (sweepSlotResult d under) s

/-- The system die receives a sweep result message: RES and IRES are in the stack die; the SWEEP subscriptions get the tag of
the slot's last integration epoch and the 32-bit content (R134, R283). -/
def sweepResultMessage (w : Word) (s : State) : State :=
  let tag := epochTag s (Smap.get (fun _ => 0) s.fab.slotEnd (bitsOf w.toNat 21 7))
  feedMessage 2 tag w.toNat (s.emit .stream [1, tag, w.toNat])

def execSweepResultMessage (w : Word) (s : State) := run (sweepResultMessage w) s

/-- The injected sequence ends (R116): SSV judges a sequence of its own, a held SSV trigger fires, else the round that
waited begins or the slots that were displaced go on. -/
def injectedSequenceEnd (s : State) : State :=
  if s.swp.injOn ∧ !s.injRunning then
    let e := max s.swp.injStop s.epoch
    let mine := s.ssv.st == svSTARTING && s.ssv.judge == 1 && s.tb R.SWC_INJSRC_SRC 3
    let s1 := { s with swp := { s.swp with injOn := false } }
    let s2 := if mine then ssvJudge s1 else s1
    if s2.swp.heldSsv then injStart 3 0 { s2 with swp := { s2.swp with heldSsv := false } }
    else if s2.swp.roundHeld then beginRound e s2
    else resume e s2
  else s

def execInjectedSequenceEnd (s : State) := run injectedSequenceEnd s

/-! ## Calibration slots (R88, R117) -/

/-- A calibration node has settled: averaging begins and the sweep converter is to convert the node (R88, R117), at the next
slot boundary: that of the slot in progress, or while the sweep is idle the next multiple of 40 epochs. -/
def calAverage (phase : Nat) (s : State) : State :=
  match s.smp.cal with
  | some c =>
    if c.phase = phase ∧ c.since + 32 ≤ s.epoch then
      let s1 := calUnsettled { s.fs R.SWC_STAT_CALSLOT 1 with
        smp := { s.smp with cal := some { c with phase := phase + 1, since := s.epoch } }
        swp := { s.swp with calSlot := if phase = 1 then 1 else 2 } }
      if s1.fg R.SWC_STAT_STATE = 1 ∧ !s1.swp.injOn then resume ((s.epoch + 39) / 40 * 40) s1 else s1
    else s
  | none => s

def execCalibrationSettleLow (s : State) := run (calAverage 1) s
def execCalibrationSettleHigh (s : State) := run (calAverage 3) s

end Sys2Proof.Machine
end

