-- ==== Sys2Proof/Machine/Comparators.lean ====
section
/-! DEFINITION. The stack comparators: the meanings of the rows COMPARATOR_FILTER_TICK, COMPARATOR_TEST and
COMPARATOR_TEST_DONE (R125 to R129, R135, R136). -/
namespace Sys2Proof.Machine

/-- Comparator `k` = 2n for OVn and 2n + 1 for UVn, n from 1 to 48: whether it is enabled. -/
def cmpEnabled (s : State) (k : Nat) : Bool :=
  if k % 2 = 0 then s.cellBit R.CMP_OVEN0 R.CMP_OVEN1 (k / 2) else s.cellBit R.CMP_UVEN0 R.CMP_UVEN1 (k / 2)

/-- A threshold in uV. -/
def threshold (code : Nat) : Int := 1000000 + 4000 * (code : Int)

/-- The hysteresis in uV of a 2-bit setting. -/
def hysteresis (h : Nat) : Int := 10000 * 2 ^ h

/-- Whether comparator `k` is asserted for a cell voltage in uV, `was` before (R125). The analogue error of the
threshold is part of the voltage the command carries. -/
def asserted (s : State) (k : Nat) (uv : Int) (was : Bool) : Bool :=
  if k % 2 = 0 then
    let v := threshold (s.fg (R.CMP_THR_OVT (k / 2)))
    if was then !decide (uv < v - hysteresis (s.fg R.CMP_CTRL_OVHYS)) else decide (v < uv)
  else
    let v := threshold (s.fg (R.CMP_THR_UVT (k / 2)))
    if was then !decide (v + hysteresis (s.fg R.CMP_CTRL_UVHYS) < uv) else decide (uv < v)

/-- The filter limit L of comparator `k` (R126). -/
def filterLimit (s : State) (k : Nat) : Nat :=
  1000 * ((if k % 2 = 0 then s.fg R.CMP_CTRL_OVF else s.fg R.CMP_CTRL_UVF) + 1)

def State.filtered (s : State) (k : Nat) : Bool :=
  if k % 2 = 0 then s.cellBit R.CMP_OVST0 R.CMP_OVST1 (k / 2) else s.cellBit R.CMP_UVST0 R.CMP_UVST1 (k / 2)

def State.setFiltered (s : State) (k : Nat) (b : Bool) : State :=
  if k % 2 = 0 then s.setCellBit R.CMP_OVST0 R.CMP_OVST1 (k / 2) b
  else s.setCellBit R.CMP_UVST0 R.CMP_UVST1 (k / 2) b

/-- A filtered state becomes 1 (R127, R50): TRIP, the F0 source, FTOUT stops, SSV withdraws RUN or refuses the start, the CMP
triggers of the sweep converter and of capture fire, and CNT4 counts a UV trip (R550). -/
def comparatorTrip (k : Nat) (s : State) : State :=
  let n := k / 2
  let s1 := if k % 2 = 0 then s.setCellBit R.CMP_OVTRIP0 R.CMP_OVTRIP1 n true
    else s.setCellBit R.CMP_UVTRIP0 R.CMP_UVTRIP1 n true
  let s2 := sendUp mTRIP [k % 2, n] (toneDrop (s1.raise 0x05 islSSV 0))
  let s3 := capFireAll 1 (fun _ _ => true) (if k % 2 = 1 then s2.countUp 4 else s2)
  let s4 := if s3.ssv.st = svSLEEP then { s3 with stao := { s3.stao with cmpRose := true } } else s3
  fireTrigger 2 n (ssvWithdraw 0x01 0x01 s4)

/-- One tick of comparator `k`'s up-down filter (R126); the comparator under test has its filter bypassed (R129). -/
def filterTick (cells : List Int) (k : Nat) (s : State) : State :=
  if s.cmp.test = some k then s
  else
    let was := Smap.get (fun _ => false) s.cmp.asserted k
    let a := asserted s k (cells.getD (k / 2 - 1) 0) was
    let c := Smap.get (fun _ => 0) s.cmp.count k
    let lim := filterLimit s k
    let c' := if !cmpEnabled s k then 0 else if a then min lim (c + 1) else min lim c - 1
    let st := s.filtered k
    let st' := cmpEnabled s k && (if c' = lim then true else if c' = 0 then false else st)
    let s1 := { s with cmp := { s.cmp with
      asserted := Smap.set (fun _ => false) s.cmp.asserted k a, count := Smap.set (fun _ => 0) s.cmp.count k c' } }
    let s2 := if st' = st then s1 else s1.setFiltered k st'
    if st' ∧ !st then comparatorTrip k s2 else s2

/-- A 1 us tick of STAO moves every filter. `cells` are the cell voltages in uV. -/
def comparatorFilterTick (cells : List Int) (s : State) : State :=
  ((List.range 96).map (· + 2)).foldl (fun t k => filterTick cells k t) s

def execComparatorFilterTick (cells : List Int) (s : State) := run (comparatorFilterTick cells) s

/-- Comparator `k`'s DAC moves during the slot that converts it. -/
def dacTouched (k : Nat) (s : State) : State :=
  if s.fg R.SWC_DIAG_DACIDX + 2 = k then { s with swp := { s.swp with dacMoved := true } } else s

/-- CMP_TEST (R129): the checks of a GO write in their order, then the test starts. -/
def cmpTestWrite (v : Word) (s : State) : Stat × State :=
  let cell := wf v R.CMP_TEST_CELL
  let k := 2 * cell + wf v R.CMP_TEST_KIND
  if wf v R.CMP_TEST_GO = 0 then (.ok, s)
  else if cell < 1 ∨ 48 < cell then (.badParam, s)
  else if s.fg R.CMP_TEST_RESULT = 1 then (.refused rSTATE, s)
  else if s.ssv.run then (.refused, s)
  else (.ok, dacTouched k { s.fs R.CMP_TEST_RESULT 1 with cmp := { s.cmp with test := some k, testAt := s.lt } })

def execComparatorTest (v : Word) (s : State) := run (direct R.CMP_TEST v cmpTestWrite) s

/-- The test ends: `rose` says that the comparator asserted within 20 us of the first setting, `fell` that it released
within 20 us of the opposite one. [DESIGN CHOICE, log 42] -/
def comparatorTestDone (rose fell : Bool) (s : State) : State :=
  match s.cmp.test with
  | some k => dacTouched k { s.fs R.CMP_TEST_RESULT (if rose && fell then 2 else 3) with
      cmp := { s.cmp with test := none } }
  | none => s

def execComparatorTestDone (rose fell : Bool) (s : State) := run (comparatorTestDone rose fell) s

/-- A start request ends a running test with RESULT 0b00 (R129). -/
def endCmpTest (s : State) : State :=
  match s.cmp.test with
  | some k => dacTouched k { s.fs R.CMP_TEST_RESULT 0 with cmp := { s.cmp with test := none } }
  | none => s

/-- A W1C write of a TRIP register clears a bit only while that filtered state is 0 (R127). -/
def tripWrite (a : Nat) (v : Word) (s : State) : Stat × State :=
  let st := s.reg (a - 0x10)
  (.ok, s.setReg a (w32 ((s.reg a).toNat &&& (0xFFFFFFFF ^^^ (v.toNat &&& (0xFFFFFFFF ^^^ st.toNat))))))

end Sys2Proof.Machine
end

