-- ==== Sys2Proof/Machine/Peg.lean ====
section
/-! DEFINITION. Peg lines and SENT inputs (R575 to R595): the meanings of the rows PEG_MODE_WRITE to SENT_FRAME. Intervals
between falling edges are numbers of the island's 100 ns periods. -/
namespace Sys2Proof.Machine

def State.pegLine (s : State) (n : Nat) : PegLine := Smap.get (fun _ => {}) s.peg n
def State.setPegLine (s : State) (n : Nat) (l : PegLine) : State := { s with peg := Smap.set (fun _ => {}) s.peg n l }

/-! ## Register groups -/

/-- Clears the registers of line `n` from offset `a` to before offset `b`. -/
def pegClear (n a b : Nat) (s : State) : State :=
  let base := 0x1E0000 + 1024 * (n - 1)
  s.clearRegs fun x => decide (base + a ≤ x ∧ x < base + b)

/-- The table of numbers is emptied. -/
def pegNoNumbers (n : Nat) (s : State) : State := (pegClear n 0x100 0x180 s).fs (R.PEG_STAT_NPEG n) 0

/-! ## Frames (R580 to R585) -/

/-- The peg CRC (R583) over nibbles. -/
def pegCrc (nib : List Nat) : Nat := crcBits 4 3 5 (nib.flatMap (msbBits 4))

/-- The station sends a command frame (R585). -/
def pegSend (n : Nat) (nib : List Nat) (s : State) : State := s.emit .peg ([n, 2] ++ nib ++ [pegCrc nib])

/-- A receiver between falling edges: the calibration in force, 0 for none; the nibbles of the frame; frames discarded for
an interval; the complete frame. -/
structure PegRx where
  cal : Nat := 0
  nib : List Nat := []
  sym : Nat := 0
  frame : Option (List Nat) := none
  deriving DecidableEq, Repr

/-- One more interval (R580, R581): `len` nibbles make a frame. [DESIGN CHOICE, log 155] -/
def pegInterval (calOk : Nat → Bool) (nibble : Nat → Nat → Option Nat) (len : Nat) (r : PegRx) (i : Nat) : PegRx :=
  if r.frame.isSome then r
  else if r.cal = 0 then { r with cal := if calOk i then i else 0 }
  else match nibble r.cal i with
    | some v =>
      let l := r.nib ++ [v]
      if l.length = len then { r with frame := some l } else { r with nib := l }
    | none => { r with sym := r.sym + 1, nib := [], cal := if calOk i then i else 0 }

/-- The value of an interval whose length lies within 0.3 units of `first + v` units, the unit being `cal` over `per`. -/
def nibbleOf (per first cal i : Nat) : Option Nat :=
  (List.range 16).find? fun v => decide
    (10 * per * i ≤ 10 * (first + v) * cal + 3 * cal ∧ 10 * (first + v) * cal ≤ 10 * per * i + 3 * cal)

/-- What a list of intervals delivers in peg mode. -/
def pegRx (n : Nat) (ivs : List Nat) (s : State) : PegRx :=
  let t := s.fg (R.PEG_CTL_TICK n)
  ivs.foldl (pegInterval (fun i => decide (30 * t ≤ i ∧ i ≤ 50 * t)) (nibbleOf 40 8) 8) {}

/-- Counts discarded frames. -/
def pegCount (n : Nat) (r : PegRx) (s : State) : State := s.fadd (R.PEG_CNT_SYMERR n) r.sym

/-- The slow message in assembly at short address `a` is abandoned (R584). -/
def slowAbandon (n a : Nat) (s : State) : State :=
  s.setPegLine n { s.pegLine n with slow := (s.pegLine n).slow.filter fun (m : Nat × Nat × Nat) => m.1 != a }

/-- A status nibble feeds the slow message of short address `a` (R584). -/
def slowFeed (n a st : Nat) (s : State) : State :=
  let l := s.pegLine n
  let bit := bitNat st 3
  let cur : Option (Nat × Nat) := if st.testBit 2 then some (1, bit)
    else match l.slow.find? fun (m : Nat × Nat × Nat) => m.1 == a with
      | some m => some (m.2.1 + 1, 2 * m.2.2 + bit)
      | none => none
  let s1 := slowAbandon n a s
  match cur with
  | none => s1
  | some (k, v) =>
    if k < 16 then s1.setPegLine n { s1.pegLine n with slow := (a, k, v) :: (s1.pegLine n).slow }
    else if pegCrc [v / 4096 % 16, v / 256 % 16, v / 16 % 16] = v % 16 then s1.setReg (R.PEG_SLOW n a) (w32 (2 ^ 31 + v))
    else s1

/-- The value of nibbles, the first the most significant. -/
def nibNat (l : List Nat) : Nat := l.foldl (fun a v => 16 * a + v) 0

/-- A valid frame is stored (R582, R591). -/
def pegStore (n a : Nat) (f : List Nat) (ep : Word) (s : State) : State :=
  let st := f.headD 0
  (s.setReg (R.PEG_DAT n a) (w32 (2 ^ 31 + st * 2 ^ 24 + nibNat (f.tail.dropLast)))).setReg (R.PEG_EP n a) ep

/-! ## Modes (R575, R578) -/

/-- What a change of MODE or TICK does to the line. [DEDUCED, log 154] -/
def pegChange (n m0 m : Nat) (s : State) : State :=
  let l := s.pegLine n
  let s1 := if l.search.isSome then pegNoNumbers n (s.fs (R.PEG_STAT_RESULT n) 5) else s
  if m = m0 then
    let st := s.fg (R.PEG_STAT_STATE n)
    let s2 := s1.setPegLine n { l with search := none, read := none, part := false, slow := if l.part then [] else l.slow }
    if st = 3 ∨ st = 4 then s2.fs (R.PEG_STAT_STATE n) 2 else s2
  else
    let s2 := if m0 = 1 then pegNoNumbers n (pegClear n 0x280 0x2C0 (pegClear n 0x200 0x240 s1)) else s1
    let s3 := (s2.setPegLine n { at_ := s2.lt }).emit .peg [n, 0, m]
    if m = 0 then domReqOff (domPEG n) (s3.fs (R.PEG_STAT_STATE n) 0)
    else domReqOn (domPEG n) (s3.fs (R.PEG_STAT_STATE n) (if m = 1 then 1 else 6))

/-- A search pass begins (R587). -/
def pegPassStart (n : Nat) (s : State) : State := (pegSend n [4] s).emit .peg [n, 3]

/-- A write of PEG_CTLn (R575, R586, R595). -/
def pegCtlWrite (n : Nat) (v : Word) (s : State) : Stat × State :=
  let m := wf v (R.PEG_CTL_MODE n)
  let t := wf v (R.PEG_CTL_TICK n)
  let m0 := s.fg (R.PEG_CTL_MODE n)
  let st := s.fg (R.PEG_STAT_STATE n)
  let search := wf v (R.PEG_CTL_SEARCH n) == 1
  if m = 3 ∨ m = 1 ∧ (t < 10 ∨ 100 < t) ∨ m = 2 ∧ (t < 30 ∨ 900 < t) ∨ wf v (R.PEG_CTL_PERIOD n) = 0 then (.badParam, s)
  else if search ∧ ¬(m = 1 ∧ m0 = 1 ∧ (st = 2 ∨ st = 4)) then (.refused rSTATE, s)
  else
    let s1 := applyWrite (R.PEG_CTL n) v s
    let s2 := if wf v (R.PEG_CTL_CLR n) = 1 then s1.setReg (R.PEG_CNT n) 0 else s1
    let s3 := if m ≠ m0 ∨ t ≠ s.fg (R.PEG_CTL_TICK n) then pegChange n m0 m s2 else s2
    if search then
      let s4 := pegNoNumbers n ((s3.fs (R.PEG_STAT_RESTART n) 0).fs (R.PEG_STAT_STATE n) 3)
      let l : PegLine := { s4.pegLine n with search := some {}, read := none, part := false, miss := [], slow := [] }
      (.ok, pegPassStart n (s4.setPegLine n l))
    else (.ok, s3)

/-- A write of PEG_SENTn (R595). -/
def pegSentWrite (n : Nat) (v : Word) (s : State) : Stat × State :=
  let d := wf v (R.PEG_SENT_NDATA n)
  if d = 0 ∨ 6 < d then (.badParam, s) else (.ok, applyWrite (R.PEG_SENT n) v s)

/-- PEG_MODE_WRITE. -/
def execPegModeWrite (n : Fin 4) (v : Word) (s : State) := run (direct (R.PEG_CTL (n + 1)) v (pegCtlWrite (n + 1))) s

/-- PEG_SEARCH: a write with SEARCH at 1. -/
def execPegSearch (n : Fin 4) (v : Word) (s : State) :=
  run (direct (R.PEG_CTL (n + 1)) (w32 (setBit v.toNat 31 true)) (pegCtlWrite (n + 1))) s

/-- PEG_COUNTER_CLEAR: a write with CLR at 1. -/
def execPegCounterClear (n : Fin 4) (v : Word) (s : State) :=
  run (direct (R.PEG_CTL (n + 1)) (w32 (setBit v.toNat 30 true)) (pegCtlWrite (n + 1))) s

/-- PEG_POWER_UP_END. -/
def pegPowerUpEnd (n : Nat) (s : State) : State :=
  if s.fg (R.PEG_STAT_STATE n) = 1 ∧ s.domOn (domPEG n) ∧ s.due (s.pegLine n).at_ 50000000 then s.fs (R.PEG_STAT_STATE n) 2 else s

def execPegPowerUpEnd (n : Fin 4) (s : State) := run (pegPowerUpEnd (n + 1)) s

/-- PEG_LINE_SHORT. -/
def pegLineShort (n : Nat) (s : State) : State :=
  let st := s.fg (R.PEG_STAT_STATE n)
  if 1 ≤ st ∧ st ≤ 4 then
    let l : PegLine := { s.pegLine n with at_ := s.lt, search := none, read := none, part := false }
    (((s.setPegLine n l).fs (R.PEG_STAT_STATE n) 5).emit .peg [n, 1]).raise 0x70 (islPG n) (n - 1)
  else s

def execPegLineShort (n : Fin 4) (s : State) := run (pegLineShort (n + 1)) s

/-- PEG_FAULT_RETRY. -/
def pegFaultRetry (n : Nat) (s : State) : State :=
  if s.fg (R.PEG_STAT_STATE n) = 5 ∧ s.due (s.pegLine n).at_ 1000000000 then
    ((s.setPegLine n { s.pegLine n with at_ := s.lt }).fs (R.PEG_STAT_STATE n) 1).emit .peg [n, 0, 1]
  else s

def execPegFaultRetry (n : Fin 4) (s : State) := run (pegFaultRetry (n + 1)) s

/-! ## Search (R586 to R590) -/

/-- The lowest occupied value of a census. -/
def lowestSlot (o : Nat) : Nat := ((List.range 16).find? fun v => o.testBit v).getD 0

/-- The censuses and choices of a pass, from nibble `j - 1` down (R588): the stack and the number, none when it fails. -/
def pegPass : Nat → List Nat → List Nat → List (Nat × Nat) → Nat → Option (List (Nat × Nat) × Nat)
  | 0, _, _, st, num => some (st, num)
  | j + 1, cs, path, st, num =>
    let o := cs.headD 0
    if o = 0 then none
    else match path with
      | v :: p => if o.testBit v then pegPass j cs.tail p st (16 * num + v) else none
      | [] =>
        let v := lowestSlot o
        let m := o - 2 ^ v
        pegPass j cs.tail [] (if m = 0 then st else (j, m) :: st) (16 * num + v)

/-- A request ends. -/
def pegSearchEnd (n r : Nat) (s : State) : State :=
  ((s.setPegLine n { s.pegLine n with search := none }).fs (R.PEG_STAT_RESULT n) r).fs (R.PEG_STAT_STATE n) 2

/-- A failure restarts the request, three times at most (R590). -/
def pegFail (n : Nat) (s : State) : State :=
  let k := s.fg (R.PEG_STAT_RESTART n)
  if k < 3 then
    let s1 := pegNoNumbers n (s.fs (R.PEG_STAT_RESTART n) (k + 1))
    let q : PegSearch := { first := false }
    pegPassStart n (s1.setPegLine n { s1.pegLine n with search := some q })
  else (pegSearchEnd n 4 s).raise 0x70 (islPG n) (n - 1)

/-- PEG_SEARCH_PASS. `census` holds the 16 maps of occupied slots, from nibble 15 down. -/
def pegSearchPass (n : Nat) (census : List (BitVec 16)) (s : State) : State :=
  match (s.pegLine n).search with
  | none => s
  | some q =>
    if q.cur.isSome then s
    else
      let cs := census.map (·.toNat)
      if q.first ∧ cs.headD 0 = 0 then pegSearchEnd n 2 s
      else match pegPass 16 cs q.path q.stack 0 with
        | none => pegFail n s
        | some (st, num) =>
          let q1 : PegSearch := { q with stack := st, cur := some num, first := false }
          s.setPegLine n { s.pegLine n with search := some q1 }

def execPegSearchPass (n : Fin 4) (census : List (BitVec 16)) (s : State) := run (pegSearchPass (n + 1) census) s

/-- The nibbles of a number, nibble 15 first. -/
def numNibbles (num : Nat) : List Nat := (List.range 16).map fun k => num / 16 ^ (15 - k) % 16

/-- After a verified number: the next pass, or the request is complete (R588). -/
def pegNextPass (n num : Nat) (q : PegSearch) (s : State) : State :=
  match q.stack with
  | [] => pegSearchEnd n 1 s
  | (j, m) :: st =>
    let v := lowestSlot m
    let r := m - 2 ^ v
    let q1 : PegSearch := { q with
      path := (numNibbles num).take (15 - j) ++ [v], stack := if r = 0 then st else (j, r) :: st, cur := none }
    pegPassStart n (s.setPegLine n { s.pegLine n with search := some q1 })

/-- PEG_VERIFY. `reply` holds the intervals of the answer to READ 0xF, empty when none begins in the reply window. -/
def pegVerify (n : Nat) (reply : List Nat) (s : State) : State :=
  match (s.pegLine n).search with
  | none => s
  | some q =>
    match q.cur with
    | none => s
    | some num =>
      let s1 := pegSend n [2, 15] (pegSend n (1 :: numNibbles num) s)
      if reply = [] then pegFail n (s1.inc (R.PEG_CNT_NORESP n))
      else
        let r := pegRx n reply s
        let s2 := pegCount n r s1
        match r.frame with
        | none => pegFail n (if r.cal ≠ 0 then s2.inc (R.PEG_CNT_GAP n) else if r.sym = 0 then s2.inc (R.PEG_CNT_NORESP n) else s2)
        | some f =>
          if pegCrc f.dropLast ≠ f.getLastD 0 then pegFail n (s2.inc (R.PEG_CNT_CRCERR n))
          else
            let k := s.fg (R.PEG_STAT_NPEG n)
            if 16 ≤ k then (pegSearchEnd n 3 s2).raise 0x70 (islPG n) (n - 1)
            else
              let s3 := (s2.setReg (R.PEG_NUM n k 0) (w32 num)).setReg (R.PEG_NUM n k 1) (w32 (num / 2 ^ 32))
              pegNextPass n num q (pegSend n [3, k] (s3.fs (R.PEG_STAT_NPEG n) (k + 1)))

def execPegVerify (n : Fin 4) (reply : List Nat) (s : State) := run (pegVerify (n + 1) reply) s

/-! ## Polling (R591) -/

/-- The READ after that of short address `a`, or the end of the round. -/
def pegNextRead (n a : Nat) (s : State) : State :=
  if a + 1 < s.fg (R.PEG_STAT_NPEG n) ∧ s.fb (R.PEG_CTL_POLL n) then
    pegSend n [2, a + 1] (s.setPegLine n { s.pegLine n with read := some (a + 1), part := false })
  else (s.setPegLine n { s.pegLine n with read := none, part := false }).fs (R.PEG_STAT_STATE n) 2

/-- Sets how many READs of short address `a` went unanswered in a row. -/
def setMiss (n a k : Nat) (s : State) : State :=
  s.setPegLine n { s.pegLine n with miss := Smap.set (fun _ => 0) (s.pegLine n).miss a k }

/-- PEG_REPLY_FRAME: the intervals of a reply and the epoch recorded for its calibration's first falling edge, in polling. -/
def pegReplyFrame (n : Nat) (ivs : List Nat) (ep : Word) (s : State) : State :=
  match (s.pegLine n).read with
  | none => s
  | some a =>
    let r := pegRx n ivs s
    let s1 := pegCount n r s
    match r.frame with
    | none =>
      if r.cal ≠ 0 then
        let s2 := s1.setPegLine n { s1.pegLine n with part := true }
        setMiss n a 0 (if r.sym = 0 then s2 else slowAbandon n a s2)
      else if r.sym = 0 then s
      else pegNextRead n a (slowAbandon n a (setMiss n a 0 s1))
    | some f =>
      let s2 := if r.sym = 0 then s1 else slowAbandon n a s1
      if pegCrc f.dropLast ≠ f.getLastD 0 then
        pegNextRead n a (slowAbandon n a (setMiss n a 0 (s2.inc (R.PEG_CNT_CRCERR n))))
      else pegNextRead n a (slowFeed n a (f.headD 0) (setMiss n a 0 (pegStore n a f ep s2)))

def execPegReplyFrame (n : Fin 4) (ivs : List Nat) (ep : Word) (s : State) := run (pegReplyFrame (n + 1) ivs ep) s

/-- PEG_NO_RESPONSE: the reply window of a READ in polling ends without a calibration. -/
def pegNoResponse (n : Nat) (s : State) : State :=
  match (s.pegLine n).read with
  | none => s
  | some a =>
    if (s.pegLine n).part then s
    else
      let k := Smap.get (fun _ => 0) (s.pegLine n).miss a + 1
      let s1 := slowAbandon n a (setMiss n a k (s.inc (R.PEG_CNT_NORESP n)))
      pegNextRead n a (if k = 3 then (s1.fs (R.PEG_DAT_VALID n a) 0).raise 0x70 (islPG n) (n - 1) else s1)

def execPegNoResponse (n : Fin 4) (s : State) := run (pegNoResponse (n + 1)) s

/-- PEG_FRAME_GAP. -/
def pegFrameGap (n : Nat) (s : State) : State :=
  if !(s.pegLine n).part then s
  else
    let s1 := (s.setPegLine n { s.pegLine n with part := false, hist := [] }).inc (R.PEG_CNT_GAP n)
    match (s.pegLine n).read with
    | none => s1
    | some a => pegNextRead n a (slowAbandon n a s1)

def execPegFrameGap (n : Fin 4) (s : State) := run (pegFrameGap (n + 1)) s

/-- PEG_POLL_ROUND. -/
def pegPollRound (n : Nat) (s : State) : State :=
  let l := s.pegLine n
  let due : Bool := match l.roundAt with
    | none => true
    | some t => s.due t (s.fg (R.PEG_CTL_PERIOD n) * 1000000)
  if s.fb (R.PEG_CTL_POLL n) ∧ s.fg (R.PEG_STAT_STATE n) = 2 ∧ s.fg (R.PEG_STAT_NPEG n) ≠ 0 ∧ due then
    pegSend n [2, 0] ((s.setPegLine n { l with roundAt := some s.lt, read := some 0, part := false }).fs (R.PEG_STAT_STATE n) 4)
  else s

def execPegPollRound (n : Fin 4) (s : State) := run (pegPollRound (n + 1)) s

/-! ## SENT (R592, R593) -/

/-- The CRC-4 of SAE J2716 over nibbles: the legacy method, and the recommended one with its further round. PRESUMED: the
spec names the standard and does not give its polynomial. [PRESUMED, log 156] -/
def sentCrc (recommended : Bool) (nib : List Nat) : Nat :=
  let mul := fun c => crcBits 4 0xD c [false, false, false, false]
  let c := nib.foldl (fun c v => mul c ^^^ v) 5
  if recommended then mul c else c

/-- The CRC-6 of the enhanced serial message. PRESUMED as above. -/
def sentCrc6 (bits : List Bool) : Nat :=
  (bits ++ List.replicate 6 false).foldl (fun c b =>
    let sh := (2 * c + b2n b) % 64
    if c.testBit 5 then sh ^^^ 0x19 else sh) 0x15

/-- The number that bits spell, the first the most significant. -/
def spellBits (l : List Bool) : Nat := l.foldl (fun a b => 2 * a + b2n b) 0

/-- The short serial message that the last 16 frames spell, oldest first: the word of PEG_SLOWn,0. -/
def sentShort (recommended : Bool) (l : List (Bool × Bool)) : Option Nat :=
  let v := spellBits (l.map (·.2))
  if l.map (·.1) = true :: List.replicate 15 false ∧ sentCrc recommended [v / 4096, v / 256 % 16, v / 16 % 16] = v % 16 then
    some (2 ^ 31 + v / 4096 * 2 ^ 24 + v / 16 % 256)
  else none

/-- The enhanced serial message that the last 18 frames spell, oldest first: the word of PEG_SLOWn,1. -/
def sentEnhanced (l : List (Bool × Bool)) : Option Nat :=
  let h := spellBits (l.map (·.1))
  let crc := spellBits ((l.take 6).map (·.2))
  let d := spellBits ((l.drop 6).map (·.2))
  let idHi := h / 64 % 16
  let idLo := h / 2 % 16
  if l.length = 18 ∧ h / 2048 = 0x7E ∧ bitNat h 5 = 0 ∧ bitNat h 0 = 0
      ∧ sentCrc6 ((l.drop 6).flatMap fun p => [p.2, p.1]) = crc then
    some (2 ^ 31 + (if h.testBit 10 then 2 ^ 30 + idHi * 65536 + idLo * 4096 + d else (idHi * 16 + idLo) * 65536 + d))
  else none

/-- The serial messages after one more status nibble. -/
def sentSerial (n st : Nat) (s : State) : State :=
  if !s.fb (R.PEG_SENT_SERIAL n) then s.setPegLine n { s.pegLine n with hist := [] }
  else
    let hist := (((st.testBit 3, st.testBit 2) :: (s.pegLine n).hist).take 18)
    let s1 := s.setPegLine n { s.pegLine n with hist := hist }
    let s2 := match sentShort (s.fb (R.PEG_SENT_CRCM n)) (hist.take 16).reverse with
      | some w => s1.setReg (R.PEG_SLOW n 0) (w32 w)
      | none => s1
    match sentEnhanced hist.reverse with
    | some w => s2.setReg (R.PEG_SLOW n 1) (w32 w)
    | none => s2

/-- A discarded frame abandons the serial messages (R593). -/
def sentDiscard (n : Nat) (s : State) : State := s.setPegLine n { s.pegLine n with hist := [] }

/-- SENT_FRAME: the intervals to the end of a frame, the pause pulse of the last one first where there is one (R592), and the epoch
recorded for the frame. -/
def sentFrame (n : Nat) (ivs : List Nat) (ep : Word) (s : State) : State :=
  if s.fg (R.PEG_STAT_STATE n) ≠ 6 ∨ !s.domOn (domPEG n) then s
  else
    let t := s.fg (R.PEG_CTL_TICK n)
    let len := s.fg (R.PEG_SENT_NDATA n) + 2
    let own := if (s.pegLine n).pause then ivs.tail else ivs
    let r := own.foldl (pegInterval (fun i => decide (448 * t ≤ 10 * i ∧ 10 * i ≤ 672 * t)) (nibbleOf 56 12) len) {}
    let last := (s.pegLine n).cal
    let s1 := pegCount n r s
    let s2 := if r.sym = 0 then s1 else sentDiscard n s1
    let s3 := s2.setPegLine n { s2.pegLine n with
      cal := if r.cal = 0 then last else r.cal, pause := r.frame.isSome && s.fb (R.PEG_SENT_PAUSE n) }
    match r.frame with
    | none => if r.cal = 0 then s3 else s3.setPegLine n { s3.pegLine n with part := true }
    | some f =>
      if s.fb (R.PEG_SENT_CAL64 n) ∧ last ≠ 0 ∧ (last < 64 * (r.cal - last) ∨ last < 64 * (last - r.cal)) then
        sentDiscard n (s3.inc (R.PEG_CNT_SYMERR n))
      else if sentCrc (s.fb (R.PEG_SENT_CRCM n)) f.tail.dropLast ≠ f.getLastD 0 then
        sentDiscard n (s3.inc (R.PEG_CNT_CRCERR n))
      else sentSerial n (f.headD 0) (pegStore n 0 f ep s3)

def execSentFrame (n : Fin 4) (ivs : List Nat) (ep : Word) (s : State) := run (sentFrame (n + 1) ivs ep) s

/-- What a peg line's domain loses as it switches off: every register but PEG_CTLn and PEG_SENTn, which lie in HKP. -/
def pegDomainOff (n : Nat) (s : State) : State :=
  let m := s.fg (R.PEG_CTL_MODE n)
  ((pegClear n 8 0x400 s).setPegLine n { at_ := s.lt }).fs (R.PEG_STAT_STATE n) (if m = 1 then 1 else if m = 2 then 6 else 0)

end Sys2Proof.Machine
end

