-- ==== Sys2Proof/Machine/Faults.lean ====
section
/-! DEFINITION. Fault collection, the history and the fault tone (R478 to R491): the meanings of the rows FAULT_EVENT to
HEALTH_TIMEOUT. -/
namespace Sys2Proof.Machine

/-! ## The history (R484 to R487) -/

/-- Merges an event into the open entry (R485). -/
def mergeEntry (e : FltEv) (s : State) : State :=
  let j := s.fg R.FLT_HSEQ_NEWEST
  let c := max s.flt.openCls e.cls
  let s1 := (((s.fs (R.FLT_HQ_W3_MERGE j) (clampU 8 (s.fg (R.FLT_HQ_W3_MERGE j) + 1))).fs (R.FLT_HQ_W3_LASTSRC j) e.code).fs
    (R.FLT_HQ_W0_CLASS j) c).fs R.FLT_HSEQ_SEQ ((s.fg R.FLT_HSEQ_SEQ + 1) % 65536)
  { s1 with flt := { s1.flt with
    openCls := c, openAt := if e.cls = 3 ∧ s.flt.openCls ≠ 3 then s.now else s.flt.openAt } }

/-- Writes an event to the next entry (R484). -/
def newEntry (e : FltEv) (s : State) : State :=
  let j := (s.fg R.FLT_HSEQ_NEWEST + 1) % 32
  let q := (s.fg R.FLT_HSEQ_SEQ + 1) % 65536
  let full := s.fg R.FLT_STAT_NENT == 32
  let s1 := (s.setReg (R.FLT_HQ_W0 j) (w32 (e.code * 2 ^ 24 + e.cls * 2 ^ 22 + e.isl * 2 ^ 16 + e.param))).setReg
    (R.FLT_HQ_W1 j) (w32 s.now)
  let s2 := (s1.setReg (R.FLT_HQ_W2 j) (w32 (s.now / 2 ^ 32))).setReg (R.FLT_HQ_W3 j) (w32 q)
  let s3 := ((s2.fs R.FLT_HSEQ_NEWEST j).fs R.FLT_HSEQ_SEQ q).fs R.FLT_STAT_OPEN 1
  let s4 := if full then s3.inc R.FLT_STAT_OVW else s3.fs R.FLT_STAT_NENT (s.fg R.FLT_STAT_NENT + 1)
  { s4 with flt := { s4.flt with openAt := s.now, openCls := e.cls } }

/-- Of two events, the one that the collector takes first: the earlier, and at one instant the lower code (R486).
[DEDUCED, log 129] -/
def takenFirst (a b : FltEv) : FltEv := if b.at_ < a.at_ ∨ b.at_ = a.at_ ∧ b.code < a.code then b else a

/-- HISTORY_ENTRY_CLOSE (R485). -/
def historyEntryClose (s : State) : State :=
  let past : Bool := if s.flt.openCls = 3 then (!s.energised && !s.toggling) || decide (s.flt.openAt + 100000 ≤ s.now)
    else decide ((s.flt.openAt / 10000 + 2) * 10000 ≤ s.now)
  if s.fb R.FLT_STAT_OPEN ∧ past then s.fs R.FLT_STAT_OPEN 0 else s

/-- The collector takes an event, after an entry whose handling has ended is closed (R485): the history, the capture trigger FLT (R567), and SCS-0 for an F0 (R478). -/
def collect (e : FltEv) (s : State) : State :=
  let s := historyEntryClose s
  let s1 := if s.fb R.FLT_STAT_OPEN then mergeEntry e s else newEntry e s
  let c := s1.flt.openCls
  let s2 := capFireAll 2 (fun t k => t.fg (R.CAP_B_W0_FCLS k) != 0 && decide (t.fg (R.CAP_B_W0_FCLS k) ≤ c)) s1
  if e.cls = 3 then scs0 cF0 0 0 s2 else s2

/-- FAULT_EVENT. -/
def faultEvent (s : State) : State :=
  match s.flt.arriving with
  | [] => s
  | a :: l =>
    let e := l.foldl takenFirst a
    collect e { s with flt := { s.flt with arriving := s.flt.arriving.erase e } }

def execFaultEvent (s : State) := run faultEvent s

def execHistoryEntryClose (s : State) := run historyEntryClose s

/-- STACK_FAULT_RESEND: the oldest stack-die event reaches the collector while the stack message stream works. -/
def stackFaultResend (s : State) : State :=
  match s.stackQ with
  | [] => s
  | e :: l =>
    if s.upWorks then
      sendUp mFAULT [e.code, e.isl, e.param] { s with
        stackQ := l, flt := { s.flt with arriving := s.flt.arriving ++ [{ e with at_ := s.lt }] } }
    else s

def execStackFaultResend (s : State) := run stackFaultResend s

/-- A write of FLT_CTRL: HCLR empties the queue (R487). -/
def fltCtrlWrite (v : Word) (s : State) : Stat × State :=
  if wf v R.FLT_CTRL_HCLR = 1 then
    let s1 := s.clearRegs fun a => decide (0x150400 ≤ a ∧ a < 0x150600)
    (.ok, (((s1.fs R.FLT_STAT_OVW 0).fs R.FLT_STAT_NENT 0).fs R.FLT_STAT_OPEN 0).fs R.FLT_HSEQ_NEWEST 31)
  else (.ok, s)

def execHistoryClear (v : Word) (s : State) :=
  run (direct R.FLT_CTRL (w32 (setBit v.toNat 31 true)) fltCtrlWrite) s

/-! ## The fault tone (R488 to R490) -/

/-- FAULT_TONE_TICK. -/
def faultToneTick (s : State) : State :=
  if s.toneGood then ftout (!s.tone.level) true s else toneDrop s

def execFaultToneTick (s : State) := run (whenStack (State.periodic 11 250000 faultToneTick)) s

/-- INGOOD falls (R489). -/
def inputLost (s : State) : State :=
  let s1 := { s with tone := { s.tone with good := 0, inGood := false } }
  if s.tone.inGood then toneDrop ((s1.inc R.FLT_TONE_INLOST).raise 0x6D islSSV 0) else s1

/-- FTIN_EDGE. -/
def ftinEdge (s : State) : State :=
  if !s.rst.stackUp then s
  else
    let s1 := { s with tone := { s.tone with edgeAt := some s.lt } }
    match s.tone.edgeAt with
    | none => s1
    | some t =>
      let d := s.lt - t
      if d ≤ 150000 then inputLost s1
      else if 200000 ≤ d ∧ d ≤ 300000 then
        { s1 with tone := { s1.tone with good := min 8 (s.tone.good + 1), inGood := s.tone.inGood || decide (8 ≤ s.tone.good + 1) } }
      else { s1 with tone := { s1.tone with good := 0 } }

def execFtinEdge (s : State) := run ftinEdge s

/-- FTIN_TIMEOUT. -/
def ftinTimeout (s : State) : State :=
  match s.tone.edgeAt with
  | some t => if s.due t 400000 then inputLost s else s
  | none => s

def execFtinTimeout (s : State) := run (whenStack ftinTimeout) s

/-- HEALTH_MESSAGE: what the system half reports reaches the stack half. -/
def healthMessage (s : State) : State :=
  if s.downWorks then
    let s1 := sendDown mHEALTH [b2n s.healthGood] s
    toneDrop { s1 with tone := { s1.tone with health := s.healthGood, healthAt := s.lt } }
  else s

def execHealthMessage (s : State) := run (whenSystem (State.periodic 10 100000 healthMessage)) s

/-- HEALTH_TIMEOUT. -/
def healthTimeout (s : State) : State :=
  if s.due s.tone.healthAt 300000 then toneDrop { s with tone := { s.tone with health := false } } else s

def execHealthTimeout (s : State) := run (whenStack healthTimeout) s

end Sys2Proof.Machine
end

