-- ==== Sys2Proof/Machine/Nv.lean ====
section
/-! DEFINITION. Non-volatile memory, flash and firmware update: the page buffer, the commit journal, counters, flash
operations, the bank pointer and the FW requests (R543 to R562, R570 to R572). -/
namespace Sys2Proof.Machine

/-! ## The page buffer (R546) -/

/-- Whether the bytes from `a` lie in the NV region of parcel `q`. -/
def nvInside (s : State) (q a len : Nat) : Bool :=
  let b := 128 * s.fg (R.CAD_PNV_NVBASE q)
  decide (b ≤ a ∧ a + len ≤ b + 128 * s.fg (R.CAD_PNV_NVCNT q))

/-- The founding page is locked (R545). -/
def foundLocked (s : State) : Bool := leAt (s.nvPage 0) 76 4 != 0

/-- Bytes of the NV array as a read sees them: the CRC of page 0 is the controller's own (R544). -/
def nvRead (s : State) (a k : Nat) : List Byte :=
  let pg := s.nvPage 0
  let img := pg.take 124 ++ leBytes 4 (crc32c (pg.take 124))
  (List.range k).map fun i => if a + i < 128 then img.getD (a + i) 0 else Smap.get zeroByte s.nv.bytes (a + i)

/-- The buffer's commit has been accepted and is not durable yet, so the buffer is frozen (R547). -/
def bufFrozen (s : State) : Bool :=
  s.nv.jphase == 1 && match s.nv.jobs with | j :: _ => j.kind == 0 | [] => false

/-- NV_WRITE. -/
def nvWrite (p : Packet) (s : State) : State :=
  let b := p.payload
  let q := p.parcel
  let page := u16 b 0
  let off := u8 b 2
  let len := u8 b 3
  let a := 128 * page + off
  let mine := nvInside s q a len || (q == 0 && page == 0 && decide (96 ≤ off ∧ off + len ≤ 124) && !foundLocked s)
  let buf : NvBuf := match s.nvBuf with | some x => x | none => { owner := q }
  if b.length < 4 ∨ b.length ≠ 4 + len then reply p (.badParam rLENGTH) [] 0 s
  else if len = 0 ∨ 128 < off + len then reply p .badParam [] 0 s
  else if !mine then reply p (.refused rPERMISSION) [] 0 s
  else if buf.owner ≠ q ∨ bufFrozen s then reply p .nvBusy [] 0 s
  else
    let held := buf.pages.any fun (e : Nat × List Byte) => e.1 == page
    if !held ∧ 8 ≤ buf.pages.length then reply p (.refused rCAPACITY) [] 0 s
    else
      let img := Smap.get (fun i => s.nvPage i) buf.pages page
      let new := img.take off ++ b.drop 4 ++ img.drop (off + len)
      let nb : NvBuf := { buf with pages := Smap.put buf.pages page new, at_ := s.lt }
      reply p .ok [] 0 { s with nvBuf := some nb }

def execNvWrite (p : Packet) (s : State) := run (request 0x78 p nvWrite) s

/-- NV_COMMIT: 0 commit, 1 discard. -/
def nvCommitReq (p : Packet) (s : State) : State :=
  withLen 4 p (fun s =>
    let act := u8 p.payload 0
    let pages := match s.nvBuf with | some b => if b.owner = p.parcel then b.pages else [] | none => []
    if 1 < act ∨ leAt p.payload 1 3 ≠ 0 then reply p .badParam [] 0 s
    else if s.nvBusy then reply p .nvBusy [] 0 s
    else if pages = [] then reply p .ok (leBytes 1 0) 0 s
    else if act = 1 then reply p .ok (leBytes 1 0) 0 { s with nvBuf := none }
    else nvCommit { kind := 0, q := p.parcel, pages := pages, req := p } s) s

def execNvCommit (p : Packet) (s : State) := run (request 0x79 p nvCommitReq) s

/-- 10 s after its last NV_WRITE the buffer empties; a frozen buffer is its commit's. -/
def nvBufferExpiry (s : State) : State :=
  match s.nvBuf with
  | some b => if s.due b.at_ 10000000000 && !bufFrozen s then { s with nvBuf := none } else s
  | none => s

def execNvBufferExpiry (s : State) := run nvBufferExpiry s

/-- The errors that reading words of NV or of flash meets, true for an uncorrectable one, in the counters of R549. -/
def eccCount (cor uncor : Fld) (ecc : List Bool) (s : State) : State :=
  ecc.foldl (fun t u => t.inc (if u then uncor else cor)) s

/-- NV_READ; `ecc` lists the errors that its words meet. With an uncorrectable one the data are a free value.
[DEDUCED, log 147] [DESIGN CHOICE, log 183] -/
def nvReadReq (ecc : List Bool) (p : Packet) (s : State) : State :=
  withLen 6 p (fun s =>
    let b := p.payload
    let page := u16 b 0
    let off := u8 b 2
    let len := u16 b 4
    let a := 128 * page + off
    if u8 b 3 ≠ 0 ∨ 127 < off ∨ len = 0 ∨ 1024 < len then reply p .badParam [] 0 s
    else if !(nvInside s p.parcel a len || (p.parcel == 0 && decide (a + len ≤ 128) && !foundLocked s)) then
      reply p (.refused rPERMISSION) [] 0 s
    else
      let s1 := eccCount R.NVM_ECC_COR R.NVM_ECC_UNCOR ecc s
      if ecc.any id then
        let (f, s2) := s1.free
        reply p .ok (leBytes len f) 0 s2
      else reply p .ok (nvRead s a len) 0 s1) s

def execNvRead (p : Packet) (ecc : List Bool) (s : State) := run (request 0x7A p (nvReadReq ecc)) s

/-! ## The journal (R547, R548) -/

/-- What a durable commit leaves in NV. -/
def nvApply (j : NvJob) (s : State) : State :=
  if j.kind = 1 then storeSnapshot j.snap s
  else if j.kind = 4 then
    { s with nv := { s.nv with estPar := Smap.put s.nv.estPar j.ptype j.pbytes } }
  else if j.kind = 5 then
    let cfg := j.cfg.foldl (fun m (e : Nat × Word) => Smap.put m e.1 e.2) s.nv.cfg
    { s with nv := { s.nv with
      kern := j.kern.getD s.nv.kern
      cfg := cfg
      retired := j.retired.getD s.nv.retired
      sdlog := match j.sd with
        | some e => (s.nv.sdlog ++ [e]).drop (s.nv.sdlog.length + 1 - 8)
        | none => s.nv.sdlog } }
  else if j.kind = 7 then cadStore j.cad s
  else writePages j.kind j.pages s

/-- Steps 2 and 3: the pages and the commit mark are written. The commits of the safety set (2) and of a deed (3) have rows
of their own. -/
def nvJournalDurable (s : State) : State :=
  match s.journalHead with
  | none => s
  | some j =>
    if j.kind = 2 ∨ j.kind = 3 then s
    else
      let s1 := nvStat (nvApply j { s with nv := { s.nv with jphase := 2 } })
      if j.kind = 0 then reply j.req .ok (leBytes 1 j.pages.length) 0 { s1 with nvBuf := none }
      else if j.kind = 6 then reply j.req .ok [] 0 s1
      else s1

def execNvJournalDurable (s : State) := run nvJournalDurable s

/-- Steps 4 and 5: the pages are in their places and the mark is cleared; a commit that waits begins. -/
def nvCopyDone (s : State) : State :=
  if s.nv.jphase ≠ 2 then s
  else
    let l := s.nv.jobs.drop 1
    commitRecord (nvStat { s with nv := { s.nv with jobs := l, jphase := if l = [] then 0 else 1 } })

def execNvCopyDone (s : State) := run nvCopyDone s

/-- A write of NVM_CNTINC (R570). -/
def cntincWrite (v : Word) (s : State) : Stat × State :=
  let k := wf v R.NVM_CNTINC_CNT
  if k < 8 then (.refused, s) else (.ok, s.countUp k)

def execCounterIncrement (v : Word) (s : State) := run (direct R.NVM_CNTINC v cntincWrite) s

/-! ## Flash (R551 to R553) -/

/-- The next operation of the queue begins. -/
def flashNext (s : State) : State :=
  flashBackground (flashHead { s with fls := { s.fls with ops := s.fls.ops.drop 1, at_ := s.lt } })

/-- The erase in progress completes: the sector is blank, its bitmap bit and its erase record clear. -/
def flashEraseComplete (s : State) : State :=
  match s.fls.ops with
  | [] => s
  | o :: _ =>
    if o.op ≠ 1 ∨ s.fls.susp ∨ !s.domOn domFLASH then s
    else
      let n := o.sector
      flashNext { s with nv := { s.nv with
        incomp := setBit s.nv.incomp n false
        eraseRec := none
        ksErase := s.nv.ksErase.filter fun x => x != n
        flash := Smap.clear s.nv.flash fun a => a / 65536 == n } }

def execFlashEraseComplete (s : State) := run flashEraseComplete s

/-- A write of FLS_CTL. -/
def flsCtlWrite (v : Word) (s : State) : Stat × State :=
  let erasing : Bool := match s.fls.ops with | o :: _ => o.op == 1 | [] => false
  let s1 := if wf v R.FLS_CTL_SUSPEND = 1 ∧ erasing then
      { s.fs R.FLS_STAT_SUSP 1 with fls := { s.fls with susp := true } } else s
  let s2 := if wf v R.FLS_CTL_RESUME = 1 then
      { s1.fs R.FLS_STAT_SUSP 0 with fls := { s1.fls with susp := false } } else s1
  (.ok, s2)

def flsCtl (i : Nat) (v : Word) (s : State) : State := direct R.FLS_CTL (w32 (setBit v.toNat i true)) flsCtlWrite s

def execFlashSuspend (v : Word) (s : State) := run (flsCtl 31 v) s
def execFlashResume (v : Word) (s : State) := run (flsCtl 30 v) s

/-- A read of a bank while one of its sectors is being erased suspends the erase for that read (R553). -/
def autoSuspend (bank : Nat) (s : State) : State :=
  match s.fls.ops with
  | o :: _ => if o.op = 1 ∧ !s.fls.susp ∧ o.sector / 64 = bank then s.inc R.FLS_STAT_ASUSP else s
  | [] => s

/-! ## The bank pointer and the image check (R555 to R557) -/

/-- Writes the pointer with SEQ + 1 into the copy whose SEQ is lower or that fails its CRC. -/
def ptrWrite (f : BankPtr → BankPtr) (s : State) : State :=
  let n : BankPtr := { f s.bank with seq := s.bank.seq + 1 }
  let toA : Bool := match s.nv.ptrA, s.nv.ptrB with
    | some a, some b => decide (a.seq ≤ b.seq)
    | none, _ => true
    | some _, none => false
  if toA then { s with nv := { s.nv with ptrA := some n } } else { s with nv := { s.nv with ptrB := some n } }

/-- The pointer with the VER of a bank's image. -/
def BankPtr.ver (p : BankPtr) (bank v : Nat) : BankPtr := if bank = 0 then { p with vera := v } else { p with verb := v }

/-- `k` bytes of the image of a bank from offset `o`. -/
def bankBytes (s : State) (bank o k : Nat) : List Byte := memBytes s.nv.flash (64 * bank * 65536 + o) k

def partBit (s : State) : Nat := match s.variant with | .jx4880 => 0 | .jx4840 => 1 | .jx4810 => 2

/-- The first failing test of R556 for a bank; 0 when it passes. -/
def imageFail (s : State) (bank : Nat) : Nat :=
  let h := bankBytes s bank 0 136
  let body := u32 h 16
  let p := s.bank
  if bank ≠ p.active ∧ p.stage = 1 then 1
  else if u32 h 0 ≠ 0x4A584657 ∨ u16 h 4 ≠ 1 ∨ 2097152 < 136 + body then 2
  else if !(u16 h 6).testBit (partBit s) then 3
  else if (Config.sha256 (bankBytes s bank 136 body)).toList ≠ (h.drop 20).take 32 then 4
  else if !Config.ecdsaVerify (Config.romKey 0) (Config.sha256 (h.take 72)).toList (h.drop 72) then 5
  else if u32 h 8 < p.minver then 6
  else if (List.range 32).any fun i => s.nv.incomp.testBit (64 * bank + i) then 7
  else 0

/-- The check of a bank, recorded in UPD_STAT.VFAIL. -/
def checkBank (bank : Nat) (s : State) : Nat × State :=
  let f := imageFail s bank
  (f, autoSuspend bank (s.fs R.UPD_STAT_VFAIL f))

/-- OK, or REVERTED while PSTATE is REVERTED (R561). -/
def fwStat (s : State) : Stat := if s.bank.pstate = 2 then .reverted else .ok

/-! ## The FW requests (R558, R559, R561, R572) -/

/-- The lease of a firmware session in ms (R432). -/
def fwLease (s : State) : Nat := 1000 * s.fg R.UPD_LEASE_LEASE

/-- The bank that is not active. -/
def State.otherBank (s : State) : Nat := 1 - s.bank.active

/-- FW_DOWNLOAD. [DEDUCED, log 149] -/
def fwDownload (p : Packet) (s : State) : State :=
  let b := p.payload
  let c := s.fls.sess.getD {}
  match chunkForm b with
  | some t => reply p t [] 0 s
  | none =>
    if u8 b 12 ≠ 0 then reply p .badParam [] 0 s
    else match chunkCase c b with
      | .fail t => reply p t [] 0 s
      | .again => reply p (fwStat s) (chunkReply c (fwLease s)) 0 { s with fls := { s.fls with sess := some { c with at_ := s.lt } } }
      | .write =>
        let opening := c.id == 0
        if opening && s.bank.pstate == 1 then reply p (.refused rSTATE) [] 0 s
        else if opening && decide (2097152 < u32 b 8) then reply p .badParam [] 0 s
        else
          let bank := s.otherBank
          let (f, s1) := if opening then s.free else (0, s)
          let s2 := if opening && s1.bank.stage != 1 then ptrWrite (fun x => ({ x with stage := 1 }).ver bank 0) s1 else s1
          let c0 : Sess := if opening then { id := f % (2 ^ 32 - 1) + 1, total := u32 b 8 } else c
          let off := u32 b 4
          let c1 := { chunkTake c0 b s.lt with data := [] }
          let first := (List.range 32).filter fun j => decide (off ≤ 65536 * j ∧ 65536 * j < off + u16 b 14)
          let s3 := first.foldl (fun t j => flashOp { op := 1, sector := 64 * bank + j } t)
            { s2 with fls := { s2.fls with sess := some c1 } }
          flashOp { op := 2, sector := 64 * bank + off / 65536, units := (u16 b 14 + 255) / 256
                    reply := some (p, chunkReply c1 (fwLease s)) } s3

def execFwDownload (p : Packet) (s : State) := run (request 0x7B p fwDownload) s

/-- The last byte of a download has been programmed: STAGE becomes COMPLETE and the session closes. -/
def downloadDone (p : Packet) (sector : Nat) (s : State) : State :=
  match s.fls.sess with
  | some c =>
    if c.acc = c.total ∧ u32 p.payload 4 + u16 p.payload 14 = c.total then
      let bank := sector / 64
      let v := u32 (bankBytes s bank 0 12) 8
      ptrWrite (fun x => ({ x with stage := 2 }).ver bank v) { s with fls := { s.fls with sess := none } }
    else s
  | none => s

/-- A unit of 256 bytes is programmed; after a chunk's last unit its reply is sent. A firmware chunk's bytes lie in its
bank's image region from here. -/
def flashProgramComplete (s : State) : State :=
  match s.fls.ops with
  | [] => s
  | o :: rest =>
    if o.op ≠ 2 ∨ !s.domOn domFLASH then s
    else
      let fw : Option Packet := match o.reply with | some (p, _) => if p.opcode = 0x7B then some p else none | none => none
      let s1 := match fw with
        | some p =>
          let off := u32 p.payload 4
          let n := (u16 p.payload 14 + 255) / 256 - o.units
          let piece := (p.payload.drop (16 + 256 * n)).take 256
          let a := 65536 * o.sector + off % 65536 + 256 * n
          { s with nv := { s.nv with flash := memWrite s.nv.flash a piece } }
        | none => s
      if 1 < o.units then
        { s1 with fls := { s1.fls with ops := { o with units := o.units - 1 } :: rest, at_ := s1.lt } }
      else
        let s2 := match fw with | some p => downloadDone p o.sector s1 | none => s1
        let s3 := flashNext s2
        match o.reply with
        | some (p, body) => reply p (if p.opcode = 0x7B then fwStat s3 else .ok) body 0 s3
        | none => s3

def execFlashProgramComplete (s : State) := run flashProgramComplete s

/-- The lease of a firmware session passes: the session closes and its bank stays INCOMPLETE (R432). -/
def fwLeaseExpiry (s : State) : State :=
  match s.fls.sess with
  | some c =>
    if s.due c.at_ (1000000 * fwLease s) then
      let s1 := { s with fls := { s.fls with sess := none } }
      if s1.bank.stage = 1 then s1 else ptrWrite (fun x => { x with stage := 1 }) s1
    else s
  | none => s

def execFwLeaseExpiry (s : State) := run fwLeaseExpiry s

/-- FW_VERIFY; `ecc` lists the errors that the bank's words meet (R549). With an uncorrectable one the test that fails first
is a free value. [DESIGN CHOICE, log 183] -/
def fwVerify (ecc : List Bool) (p : Packet) (s : State) : State :=
  withLen 0 p (fun s =>
    let s0 := eccCount R.FLS_ECC_COR R.FLS_ECC_UNCOR ecc s
    let (f, s1) := checkBank s0.otherBank s0
    let (g, s2) := if ecc.any id then
        let (x, t) := s1.free
        (x % 8, t.fs R.UPD_STAT_VFAIL (x % 8))
      else (f, s1)
    reply p (fwStat s2) (leBytes 4 (b2n (decide (g = 0)))) 0 s2) s

def execFwVerify (p : Packet) (ecc : List Bool) (s : State) := run (request 0x7C p (fwVerify ecc)) s

/-- FW_ACTIVATE. -/
def fwActivate (p : Packet) (s : State) : State :=
  withLen 0 p (fun s =>
    if s.fls.sess.isSome ∨ s.bank.pstate = 1 ∨ s.bank.stage ≠ 2 then reply p (.refused rSTATE) [] 0 s
    else
      let (f, s1) := checkBank s.otherBank s
      if f = 7 then reply p .eraseIncomplete [] 0 s1
      else if 2 ≤ f ∧ f ≤ 5 then reply p (.authFail rSIGNATURE) [] 0 s1
      else if f = 6 then reply p (.refused rFIELD) [] 0 s1
      else
        let s2 := (ptrWrite (fun x => { x with active := s.otherBank, pstate := 1, stage := 0, tbase := s.cnt 1 }) s1).countUp 6
        reply p (fwStat s2) (leBytes 4 s2.bank.seq) 0 s2) s

def execFwActivate (p : Packet) (s : State) := run (request 0x7D p fwActivate) s

/-- FW_CONFIRM. -/
def fwConfirm (p : Packet) (s : State) : State :=
  withLen 0 p (fun s =>
    if s.bank.pstate ≠ 1 ∨ s.fg R.UPD_STAT_BOOTED ≠ s.bank.active then reply p (.refused rSTATE) [] 0 s
    else
      let rb := u32 (bankBytes s s.bank.active 0 16) 12
      let s1 := ptrWrite (fun x => { x with pstate := 0, minver := max x.minver rb }) s
      reply p (fwStat s1) [] 0 s1) s

def execFwConfirm (p : Packet) (s : State) := run (request 0x7E p fwConfirm) s

/-- The UPD registers that follow the pointer and the session (R572); others as stored. -/
def updWord (s : State) (a : Nat) : Word :=
  let p := s.bank
  let ver := fun (bank : Nat) => if bank = 0 then p.vera else p.verb
  if a = R.UPD_STAT then
    let trials := if p.pstate = 1 then clampU 8 (s.cnt 1 - p.tbase) else 0
    w32 (p.pstate * 2 ^ 30 + p.active * 2 ^ 29 + s.fg R.UPD_STAT_BOOTED * 2 ^ 28 + p.stage * 2 ^ 26
      + b2n s.fls.sess.isSome * 2 ^ 25 + trials * 256 + s.fg R.UPD_STAT_VFAIL)
  else if a = R.UPD_PTRSEQ then w32 p.seq
  else if a = R.UPD_ACTVER then w32 (ver p.active)
  else if a = R.UPD_STGVER then w32 (ver s.otherBank)
  else if a = R.UPD_MINVER then w32 p.minver
  else if a = R.UPD_SESS then
    match s.fls.sess with
    | some c =>
      let left := (c.at_ + 1000000 * fwLease s - s.lt) / 1000000000
      w32 (clampU 10 left * 2 ^ 22 + clampU 22 c.acc)
    | none => 0
  else s.reg a

/-- UPD_STAT. -/
def updStat (p : Packet) (s : State) : State :=
  withLen 0 p (fun s =>
    reply p (fwStat s) ((List.range 6).flatMap fun i => leBytes 4 (updWord s (R.UPD_STAT + 4 * i)).toNat) 0 s) s

def execUpdStat (p : Packet) (s : State) := run (request 0x7F p updStat) s

/-! ## Views of NVM and FLS registers (R570, R571) -/

/-- NVM_STAT, NVM_CNTk, FLS_STAT, FLS_KSFREE and FLS_INCOMPw as read; other addresses as stored. -/
def nvWord (s : State) (a : Nat) : Word :=
  if a = R.NVM_STAT then
    let (o, n) := match s.nvBuf with | some b => (b.owner, b.pages.length) | none => (0, 0)
    w32 (o * 2 ^ 20 + n * 2 ^ 16 + s.fg R.NVM_STAT_REPLAY * 8 + b2n (foundLocked s) * 4
      + b2n (s.nv.jphase == 2) * 2 + b2n (s.nv.jphase != 0))
  else if 0x1A0040 ≤ a ∧ a < 0x1A0080 then w32 (s.cnt ((a - 0x1A0040) / 4))
  else if a = R.FLS_STAT then w32 (withBits (s.reg a).toNat 0 8 (popCount 128 s.nv.incomp))
  else if a = R.FLS_KSFREE then w32 (ksFree s).length
  else if 0x1B0010 ≤ a ∧ a < 0x1B0020 then w32 (bitsOf s.nv.incomp (8 * (a - 0x1B0010)) 32)
  else s.reg a

end Sys2Proof.Machine
end

