-- ==== Sys2Proof/Machine/SafetySoc.lean ====
section
/-! DEFINITION. The safety output controller, the stack-side supervisor and their messages: the meanings of the rows
KERNEL_DEMAND_FRAME to SOC_SELF_CHECK and of the rows SCS1_NOTICE, START_WITHDRAWAL, LIVE_LOSS_REPORT (R434 to R461,
R482). -/
namespace Sys2Proof.Machine

/-! ## Demand (R441 to R443) -/

/-- A kernel frame that R442 calls valid, as its SEQ, demand and request. -/
def kernelFrame (s : State) (items : List Word) : Option (Nat × Nat × Nat) :=
  match items with
  | [a, b] =>
    let seq := a.toNat % 65536
    let req := b.toNat / 16 % 4
    let fresh : Bool := match s.soc.kSeq with
      | none => true
      | some q => decide (1 ≤ (seq + 65536 - q) % 65536 ∧ (seq + 65536 - q) % 65536 ≤ 32767)
    if a.toNat / 65536 = 0 ∧ b.toNat / 64 = 0 ∧ req ≠ 3 ∧ fresh then some (seq, b.toNat % 16, req) else none
  | _ => none

/-- A request of the demand sources: 1 SCS-1, 2 SCS-0. -/
def demandRequest (req cause idx : Nat) (s : State) : State :=
  if req = 1 then scs1 cause idx s else if req = 2 then scs0 cause idx 0 s else s

def kernelDemandFrame (items : List Word) (s : State) : State :=
  match kernelFrame s items with
  | none => s.inc R.SAF_PDUERR_KDISC
  | some (seq, dem, req) =>
    let s1 := { s with soc := { s.soc with kSeq := some seq, kAt := s.lt, kSeen := true, kEver := true, kDem := dem } }
    let s2 := if s.fg R.SAF_CFG_DSRC = 0 then setDemand dem s1 else s1
    demandRequest req cKERNEL 0 s2

def execKernelDemandFrame (items : List Word) (s : State) := run (whenSystem (kernelDemandFrame items)) s

/-- KACT, when KEN is 1 and no valid frame has arrived for KTE ms (R443). -/
def kernelDemandTimeout (s : State) : State :=
  if s.fb R.SAF_CFG_KEN && s.due s.soc.kAt (1000000 * s.fg R.SAF_CFG_KTE) then
    stopBy (s.fg R.SAF_CFG_KACT) cKTIME 0 s
  else s

def execKernelDemandTimeout (s : State) := run (whenSystem kernelDemandTimeout) s

/-- Whether the demand source counts as live in SAFE (R441, R443). -/
def demandLive (s : State) : Bool :=
  if s.fg R.SAF_CFG_DSRC = 0 then
    if s.fb R.SAF_CFG_KEN then s.soc.kEver && !s.due s.soc.kAt (1000000 * s.fg R.SAF_CFG_KTE) else s.soc.kSeen
  else
    let k := s.fg R.SAF_CFG_DCONN
    s.fg (R.SAF_CONN_W1_USE k) == 1 && s.fb (R.SAF_CONN_W3_LIVE k)

/-! ## SCS-1 (R447 to R450) -/

/-- The value of an interval (R447): 65,535 with an OVR word; the magnitude of the mean of the words that carry neither
STL nor EMS, in units of 16 LSB rounded up; none without such a word. [DEDUCED, log 113] -/
def intervalValue (ws : List Word20) : Option Nat :=
  let good := ws.filter fun w => !w.stl && !w.ems
  if ws.any fun w => w.ovr then some 65535
  else if good.isEmpty then none
  else
    let sum := good.foldl (fun (a : Int) w => a + w.code) 0
    let d := 16 * good.length
    some (clampU 16 ((sum.natAbs + d - 1) / d))

/-- Whether value `v` lies above E(t) of R449, evaluated exactly; `t` in ns since RAMP began. -/
def aboveEnvelope (i0 imarg iopen tdly tramp v t : Nat) : Bool :=
  let dI := i0 - iopen
  let td := 1000000 * tdly
  let tr := 1000000 * tramp
  if t ≤ td then decide (i0 + imarg < v)
  else if t < td + tr then
    decide (((i0 : Int) + imarg) * tr - dI * ((t : Int) - td) < (v : Int) * tr)
  else decide (iopen + imarg < v)

/-- One 10 us interval has ended: its value is formed; a ramp that was accepted begins at this boundary (R448); in RAMP
the cases of R449 are judged in the order of their table. -/
def rampInterval (s : State) : State :=
  let v := intervalValue s.soc.ivl
  let vals := (v :: s.soc.vals).take 3
  let s1 := { s with soc := { s.soc with vals := vals, ivl := [] } }
  if s1.socState = stRUN ∧ s1.soc.rampPend then
    let s2 := { s1 with soc := { s1.soc with rampPend := false, rampAt := s1.lt, low := 0, noVal := 0 } }
    let s3 := socGoto stRAMP s2
    match vals.find? fun x => x.isSome with
    | some (some i) => { s3 with soc := { s3.soc with i0 := i } }
    | _ => endRamp 0x4 s3
  else if s1.socState = stRAMP then
    let t := s1.lt - s1.soc.rampAt
    match v with
    | none =>
      let n := s1.soc.noVal + 1
      let s2 := { s1 with soc := { s1.soc with noVal := n, low := 0 } }
      if 1000000 * s1.fg R.SAF_ENV2_TWIN ≤ t then endRamp 0x3 s2
      else if 3 ≤ n then endRamp 0x4 s2 else s2
    | some x =>
      let low := if x < s1.fg R.SAF_ENV1_IOPEN then s1.soc.low + 1 else 0
      let s2 := { s1 with soc := { s1.soc with noVal := 0, low := low } }
      if 3 ≤ low then endRamp 0x1 s2
      else if aboveEnvelope s1.soc.i0 (s1.fg R.SAF_ENV1_IMARG) (s1.fg R.SAF_ENV1_IOPEN) (s1.fg R.SAF_ENV0_TDLY)
          (s1.fg R.SAF_ENV0_TRAMP) x t then endRamp 0x2 s2
      else if 1000000 * s1.fg R.SAF_ENV2_TWIN ≤ t then endRamp 0x3 s2
      else s2
  else s1

def execRampInterval (s : State) := run (whenSystem (State.aligned 1 200 0 rampInterval)) s

/-- The stack half receives an SCS-1 notice: the backstop starts with the TWIN it carries, or stops (R450). -/
def scs1Notice (begin_ : Bool) (twin : Nat) (s : State) : State :=
  { s with ssv := { s.ssv with backstop := if begin_ then some (s.lt + 1000000 * (twin + 1)) else none } }

def execScs1Notice (begin_ : Bool) (twin : Nat) (s : State) := run (whenStack (scs1Notice begin_ twin)) s

def scs1Backstop (s : State) : State :=
  match s.ssv.backstop with
  | some t => if t ≤ s.lt then ssvWithdraw 0x07 0x08 { s with ssv := { s.ssv with backstop := none } } else s
  | none => s

def execScs1Backstop (s : State) := run (whenStack scs1Backstop) s

/-- SOC receives the report that LIVE of AXm fell (R449, R459). -/
def liveLossReport (m : Nat) (s : State) : State :=
  if s.socState = stRAMP ∧ s.fg R.SAF_ENV0_AXM + 1 = m then endRamp 0x4 s else s

def execLiveLossReport (m : Fin 4) (s : State) := run (whenSystem (liveLossReport (m.val + 1))) s

/-- SOC receives an SCS-1 request from the supervisor (R459, R460). -/
def execSupervisorScs1Request (s : State) := run (whenSystem (scs1 cSUPER 0)) s

/-! ## Dual-contact inputs (R451 to R453) -/

/-- The made bits of pair `i`: contact A, contact B. -/
def State.contacts (s : State) (i : Nat) : Nat := bitsOf (s.fg R.SAF_SISTAT_RAW) (2 * (i - 1)) 2

/-- The discrepancy time of pair `i` in ms. -/
def pairDT (s : State) (i : Nat) : Nat :=
  if i = 1 then s.fg R.SAF_SIDT0_DTLO else if i = 2 then s.fg R.SAF_SIDT0_DTHI
  else if i = 3 then s.fg R.SAF_SIDT1_DTLO else s.fg R.SAF_SIDT1_DTHI

/-- Contact B (or A) of pair `i` has been stable for 1 ms: the pair changes state (R452). [DESIGN CHOICE, log 117] -/
def contactChange (i : Nat) (b made : Bool) (s : State) : State :=
  let old := s.contacts i
  let new := setBit old (if b then 1 else 0) made
  let s1 := s.fs R.SAF_SISTAT_RAW (withBits (s.fg R.SAF_SISTAT_RAW) (2 * (i - 1)) 2 new)
  let s2 := s1.setPair i { s1.pair i with
    noneAt := if new = 0 then (if old = 0 then (s1.pair i).noneAt else some s.lt) else none }
  if new = old then s
  else if !(s.pairCfg i).testBit 0 then s2
  else
    let st := s.pairState i
    if st = 1 ∨ st = 2 then
      let s3 := s2.setPair i { s2.pair i with fromNone := decide (old = 0), discAt := s.lt }
      if new = 1 ∨ new = 2 then pairStop i (s3.setPairState i 3) else s3
    else if st = 3 then
      if s2.due (s2.pair i).discAt (1000000 * pairDT s2 i) then pairFault i false s2
      else if new = 3 ∧ (s2.pair i).fromNone then s2.setPairState i 1
      else if new = 0 ∨ new = 3 then pairStop i (s2.setPairState i 2)
      else s2
    else s2

def execContactChange (i : Fin 4) (b made : Bool) (s : State) := run (whenSystem (contactChange (i.val + 1) b made)) s

def discrepancyTimeout (i : Nat) (s : State) : State :=
  if s.pairState i = 3 ∧ s.due (s.pair i).discAt (1000000 * pairDT s i) then pairFault i false s else s

def execDiscrepancyTimeout (i : Fin 4) (s : State) := run (whenSystem (discrepancyTimeout (i.val + 1))) s

def inputFaultRecovery (i : Nat) (s : State) : State :=
  match s.pairState i, (s.pair i).noneAt with
  | 4, some t =>
    if s.due (max t (s.pair i).faultAt) 100000000 then s.setPairState i 2 else s
  | _, _ => s

def execInputFaultRecovery (i : Fin 4) (s : State) := run (whenSystem (inputFaultRecovery (i.val + 1))) s

/-- Whether contact `c` (0 A, 1 B) of pair `i` is closed: made, or not made for the normally open B of an antivalent
pair (R451). -/
def contactClosed (s : State) (i c : Nat) : Bool :=
  let made := (s.contacts i).testBit c
  if c = 1 ∧ (s.pairCfg i).testBit 1 then !made else made

/-- TP1 or TP2 pulses low for TPW us: a closed contact wired to it must read low in time; `failed` has bit 2(i-1) + c for a contact
that did not (R453). -/
def testPulse (src failed : Nat) (s : State) : State :=
  let s := s.emit .pin [2 + src, s.fg R.SAF_TP_TPW]
  (upTo 4).foldl (fun t i =>
    let cfg := t.pairCfg i
    let bad := fun c => failed.testBit (2 * (i - 1) + c) && contactClosed t i c
      && bitsOf cfg (if c = 0 then 4 else 6) 2 == src
    if cfg.testBit 0 && (bad 0 || bad 1) && t.pairState i != 4 then pairFault i true t else t) s

/-- A pulse of TP1 every TPP ms, and of TP2 half a period after it. -/
def testPulseDue (src failed : Nat) (s : State) : State :=
  let p := 1000000 * s.fg R.SAF_TP_TPP
  let last := fun k => Smap.get (fun _ => 0) s.duty k
  if src = 1 then s.periodic 2 p (testPulse 1 failed)
  else if src = 2 ∧ last 3 ≤ last 2 ∧ s.due (last 2) (p / 2) then s.periodic 3 0 (testPulse 2 failed)
  else s

def execTestPulse (src : Fin 4) (failed : BitVec 8) (s : State) := run (whenSystem (testPulseDue src.val failed.toNat)) s

/-! ## SRST (R454) and the start handshake (R455) -/

def srstRising (s : State) : State :=
  if s.fg R.SAF_SRST_LSTATE = 2 then { s with soc := { s.soc with srstLowAt := none } }
  else { s.fs R.SAF_SRST_LSTATE 1 with soc := { s.soc with srstSeen := true, srstAt := s.lt } }

/-- The land goes high; SOC follows it while the system half runs. -/
def execSrstRising (s : State) := run (fun s => whenSystem srstRising { s with srstHigh := true }) s

/-- A rejected pulse: REJ increments and LASTREJ takes the code. -/
def rejectPulse (code : Nat) (s : State) : State := (s.inc R.SAF_SRST_REJ).fs R.SAF_SRST_LASTREJ code

/-- The first start check that fails (R455 step 1), as its LASTREJ code. -/
def startCheck (s : State) : Option Nat :=
  if !(s.fb R.SAF_STAT_LOADED && s.soc.setOk) then some 0x04
  else if !demandLive s || s.fg R.SAF_OUT_DEM % 16 != 0 then some 0x05
  else if (upTo 4).any fun i => (s.pairCfg i).testBit 0 && s.pairState i != 1 then some 0x06
  else if s.consumers.any fun k => s.fg (R.SAF_CONN_W1_ACT k) != 0 && !s.fb (R.SAF_CONN_W3_LIVE k) then some 0x07
  else if s.active = 3 then some 0x08
  else if s.fb R.SAF_RBF_STUCK then some 0x09
  else if !s.fb R.SAF_OUTEN_EN then some 0x0A
  else none

/-- High for more than 5 s: JAMMED (R454). -/
def srstJammed (s : State) : State :=
  if s.fg R.SAF_SRST_LSTATE = 1 ∧ s.soc.srstAt + 5000000000 < s.lt then
    { (s.fs R.SAF_SRST_LSTATE 2).raise 0x36 islSOC 0 with soc := { s.soc with srstLowAt := none } }
  else s

def execSrstJammed (s : State) := run (whenSystem srstJammed) s

/-- A falling edge of SRST (R454): the pulse is judged by its length, then by the state; an accepted pulse runs the
start checks and sends the start request. -/
def srstFalling (s : State) : State :=
  let j := srstJammed s
  let s0 := { j with soc := { j.soc with srstLowAt := some s.lt } }
  if j.fg R.SAF_SRST_LSTATE = 2 then s0
  else if j.fg R.SAF_SRST_LSTATE = 0 then s0
  else
    let s1 := s0.fs R.SAF_SRST_LSTATE 0
    if !s.soc.srstSeen then rejectPulse 0x0D s1
    else if s.lt < s.soc.srstAt + 50000000 then rejectPulse 0x02 s1
    else if s.soc.srstAt + 2000000000 < s.lt then rejectPulse 0x03 s1
    else if s.socState ≠ stSAFE then rejectPulse 0x01 s1
    else
      let s2 := s1.inc R.SAF_SRST_ACC
      match startCheck s2 with
      | some c => s2.fs R.SAF_SRST_LASTREJ c
      | none =>
        let s3 := socGoto stSTARTING s2
        sendDown mSTART [] { s3 with soc := { s3.soc with startAt := s.lt } }

def execSrstFalling (s : State) := run (fun s => whenSystem srstFalling { s with srstHigh := false }) s

/-- Low for 100 ms without interruption ends JAMMED. -/
def srstUnjam (s : State) : State :=
  match s.soc.srstLowAt with
  | some t =>
    if s.fg R.SAF_SRST_LSTATE = 2 ∧ s.due t 100000000 then
      { s.fs R.SAF_SRST_LSTATE 0 with soc := { s.soc with srstSeen := false } }
    else s
  | none => s

def execSrstUnjam (s : State) := run (whenSystem srstUnjam) s

/-- Whether the injected sequence holds a BGB, SHORT or MUXA slot. -/
def injJudges (s : State) : Bool :=
  (List.range (s.fg R.SWC_CTRL_ILEN)).any fun k =>
    let c := s.fg (R.SWC_ISEQ_SRC k)
    c == 0x48 || c == 0x49 || c == 0x4A

/-- SSV receives a start request (R455 step 3): a comparator test ends, the SSV trigger fires without a cell, or the next
regular round is awaited; without a running sweep converter SSV refuses at once. [DEDUCED, log 119] -/
def startRequest (s : State) : State :=
  if s.ssv.st = svSLEEP ∨ s.ssv.st = svRUN then s
  else
    let s1 := endCmpTest s
    let start := fun (j : Nat) (t : State) => { t with ssv := { t.ssv with
      st := svSTARTING, judge := j, seen := false, bad := false, roundOn := false } }
    if !s1.fb R.SWC_CTRL_EN || !s1.fb R.SWC_STAT_REF_SETTLED then ssvAnswer false 0x0C s1
    else if s1.tb R.SWC_INJEN_SRCS 2 then fireTrigger 3 0 (start (if injJudges s1 then 1 else 2) s1)
    else start 2 s1

def execStartRequest (s : State) := run (whenStack startRequest) s

/-- SOC receives the stack half's answer (R455 step 5). -/
def startAnswer (ok : Bool) (cause : Nat) (s : State) : State :=
  if s.socState = stSTARTING then
    if ok then
      let s1 := (s.fs R.SAF_STAT_SRUN 1).fs R.SAF_STAT_YRUN 1
      countStart (socGoto stRUN s1)
    else
      socGoto stSAFE (socDropped (((s.fs R.SAF_TOKEN_SCAUSE cause).fs R.SAF_SRST_LASTREJ 0x0B).fs R.SAF_STAT_SRUN 0))
  else s

def execStartAnswer (ok : Bool) (cause : Nat) (s : State) := run (whenSystem (startAnswer ok cause)) s

def startTimeout (s : State) : State :=
  if s.socState = stSTARTING ∧ s.due s.soc.startAt 2000000 then
    socGoto stSAFE (socDropped (s.fs R.SAF_SRST_LASTREJ 0x0C))
  else s

def execStartTimeout (s : State) := run (whenSystem startTimeout) s

/-- The stack half receives a start withdrawal: HOLD, without asserting RUN (R445). -/
def startWithdrawal (s : State) : State :=
  if s.ssv.st = svSTARTING ∨ s.ssv.st = svRUN then
    { s with ssv := { s.ssv with st := svHOLD, run := false, judge := 0, dropAt := some s.lt } }
  else s

def execStartWithdrawal (s : State) := run (whenStack startWithdrawal) s

/-! ## Authority (R456, R457) -/

/-- A run token's word (R456). -/
def tokenWord (runBit : Bool) (st seq ck : Nat) : Nat :=
  b2n runBit * 0x80000000 + st % 8 * 0x10000000 + seq % 256 * 0x100000 + ck % 65536

/-- A word of the stack part as the stack half holds it: a sweep register whose change waits for a round start (R111) is
already live, and SAF_SSVACT is the stack half's copy. -/
def stackLive (s : State) (a : Nat) : Word :=
  if a = R.SAF_SSVACT then s.ssv.act
  else match s.swp.pendSet.find? fun (e : Nat × Word) => e.1 == a with
    | some e => e.2
    | none => s.reg a

/-- SCK as the stack half computes it. -/
def stackSck (s : State) : Nat := sckOf (stackLive s)

def runTokenSend (bySystem : Bool) (s : State) : State :=
  if bySystem then
    let w := tokenWord (s.fb R.SAF_STAT_YRUN) s.socState s.soc.tokSeq s.committedSck
    sendDown mTOKEN [w] { s with soc := { s.soc with tokSeq := (s.soc.tokSeq + 1) % 256 } }
  else
    let w := tokenWord s.ssv.run s.ssv.st s.ssv.tokSeq (stackSck s)
    sendUp mTOKEN [w] { s with ssv := { s.ssv with tokSeq := (s.ssv.tokSeq + 1) % 256 } }

/-- The system half sends at epochs that are multiples of 2,000, the stack half 1,000 later. -/
def execRunTokenSend (bySystem : Bool) (s : State) :=
  run (if bySystem then whenSystem (State.aligned 4 2000 0 (runTokenSend true))
    else whenStack (State.aligned 5 2000 1000 (runTokenSend false))) s

/-- Whether a RUN withdrawal or the end of a handshake lies at most 120 us back. -/
def recently (s : State) (t : Option Nat) : Bool :=
  match t with | some a => decide (s.lt ≤ a + 120000) | none => false

/-- SOC judges a token of the stack half (R457). [DEDUCED, log 116] -/
def socToken (w : Nat) (s : State) : State :=
  let runBit := w.testBit 31
  let st := w / 0x10000000 % 8
  let seq := w / 0x100000 % 256
  let follows : Bool := match s.soc.peerSeq with | none => true | some q => decide (seq = (q + 1) % 256)
  let alone := runBit && !s.fb R.SAF_STAT_YRUN && s.socState != stSTARTING && !recently s s.soc.dropAt
  let seen := { s with soc := { s.soc with peerSeq := some seq } }
  if !follows || decide (4 < st) || alone then
    socDisagree cTOKCONF true (seen.inc R.SAF_TOKEN_CONFL)
  else
    let s1 := { seen with soc := { seen.soc with peerAt := s.lt } }
    let s2 := (s1.fs R.SAF_TOKEN_SSTATE st).fs R.SAF_STAT_SRUN (b2n runBit)
    if s.socState ≠ stINIT ∧ w % 65536 ≠ s.committedSck % 65536 then socDisagree cCHECK true s2
    else if !runBit && (s.socState == stRUN || s.socState == stRAMP) then scs0 cSTACK 0 0 s2
    else drive s2

/-- SSV judges a token of the system half. A system half that has stopped shows RUN 0 outside STARTING: SSV then lets
its own RUN go without a disagreement (R457). [DEDUCED, log 160] -/
def ssvToken (w : Nat) (s : State) : State :=
  let runBit := w.testBit 31
  let st := w / 0x10000000 % 8
  let seq := w / 0x100000 % 256
  let follows : Bool := match s.ssv.peerSeq with | none => true | some q => decide (seq = (q + 1) % 256)
  let alone := runBit && !s.ssv.run && s.ssv.st != svSTARTING && !recently s s.ssv.dropAt
  let seen := { s with ssv := { s.ssv with peerSeq := some seq } }
  if s.ssv.st = svSLEEP then seen
  else if !follows || decide (4 < st) || alone then ssvDisagree 0x05 true seen
  else
    let s1 := { seen with ssv := { seen.ssv with peerAt := s.lt } }
    if st ≠ stINIT ∧ w % 65536 ≠ stackSck s % 65536 then ssvDisagree 0x06 true s1
    else if !runBit && s.ssv.run && st != stSTARTING then
      { s1 with ssv := { s1.ssv with st := svHOLD, run := false, judge := 0, dropAt := some s.lt } }
    else s1

def execRunToken (atSystem : Bool) (w : Word) (s : State) :=
  run (if atSystem then whenSystem (socToken w.toNat) else whenStack (ssvToken w.toNat)) s

/-- No valid token for 120 us (R457). -/
def tokenMissing (atSystem : Bool) (s : State) : State :=
  if atSystem then
    if s.due s.soc.peerAt 120000 then
      let s1 := s.inc R.SAF_TOKEN_MISS
      socDisagree cTOKMISS true { s1 with soc := { s1.soc with peerAt := s.lt, peerSeq := none } }
    else s
  else if s.due s.ssv.peerAt 120000 ∧ s.ssv.st ≠ svSLEEP then
    ssvDisagree 0x04 true { s with ssv := { s.ssv with peerAt := s.lt, peerSeq := none } }
  else s

def execTokenMissing (atSystem : Bool) (s : State) := run (whenHalf atSystem (tokenMissing atSystem)) s

/-- A half receives the other half's disagreement notice and takes up its own disagreement state, with the cause that
the notice carries in the receiver's numbering (R457, R475). -/
def disagreementNotice (atSystem : Bool) (cause : Nat) (s : State) : State :=
  if atSystem then
    let c := if cause = 0x05 then cTOKCONF else if cause = 0x06 then cCHECK else cTOKMISS
    socDisagree c false (s.fs R.SAF_TOKEN_SCAUSE cause)
  else
    ssvDisagree (if cause = cTOKCONF then 0x05 else if cause = cCHECK then 0x06 else 0x04) false s

def execDisagreementNotice (atSystem : Bool) (cause : Nat) (s : State) := run (whenHalf atSystem (disagreementNotice atSystem cause)) s

/-- SOC receives the stack half's RUN withdrawal (R50, R441): CAUSE 0x07 for a comparator trip, 0x08 otherwise. -/
def runWithdrawal (cause : Nat) (s : State) : State :=
  let s1 := (s.fs R.SAF_STAT_SRUN 0).fs R.SAF_TOKEN_SCAUSE cause
  drive (scs0 (if cause = 0x01 then cTRIP else cSTACK) 0 0 s1)

def execRunWithdrawal (cause : Nat) (s : State) := run (whenSystem (runWithdrawal cause)) s

/-- SOC receives the stack release notice and records cause 0x0A (R494). -/
def execStackReleaseNotice (s : State) := run (whenSystem (fun s => s.fs R.SAF_TOKEN_SCAUSE 0x0A)) s

/-! ## The output stage (R438 to R440, R604, R482) -/

/-- Consecutive readbacks of kind `k` at output `o`. -/
def State.rbCount (s : State) (o k : Nat) : Nat := Smap.get (fun _ => 0) s.soc.rb (4 * o + k)
def State.setRb (s : State) (o k n : Nat) : State :=
  { s with soc := { s.soc with rb := Smap.set (fun _ => 0) s.soc.rb (4 * o + k) n } }

/-- The SO output (0 to 3) paired with SL output 4 or 5; none when it has no pair. -/
def pairedSo (s : State) (o : Nat) : Option Nat :=
  let p := if o = 4 then s.fg R.SAF_OUTEN_PAIR1 else s.fg R.SAF_OUTEN_PAIR2
  if 1 ≤ p ∧ p ≤ 4 then some (p - 1) else none

/-- A driver is stuck on (R439): STUCK, the F0 source with the output, and SCS-0. -/
def stuckOn (o : Nat) (s : State) : State :=
  scs0 cREADBACK o 0 ((s.fbit R.SAF_RBF_STUCK o true).raise 0x03 islSOC o)

/-- One output's readback. `on`: the readback levels say conducting; `low`: the current is below the open-load level. -/
def readbackOne (on_ openl : Nat) (o : Nat) (s : State) : State :=
  let cond := (driven s).testBit o && !(match s.soc.pulse with | some (p, _) => p == o | none => false)
  let pulsed := match s.soc.pulse with | some (p, _) => p == o | none => false
  let judged := if o < 4 then true
    else match pairedSo s o with | some p => s.tb R.SAF_OUT_ON p | none => false
  let r := on_.testBit o
  let stuck := if !s.tb R.SAF_OUT_ON o && !pulsed && judged && r then s.rbCount o 0 + 1 else 0
  let low := if cond && !r then s.rbCount o 1 + 1 else 0
  let opn := if s.tb R.SAF_OUT_ON o && openl.testBit o then s.rbCount o 2 + 1 else 0
  let s1 := ((s.setRb o 0 (min stuck 3)).setRb o 1 (min low 3)).setRb o 2 (min opn 3)
  let s2 := if low = 3 then (s1.fbit R.SAF_RBF_LOW o true).raise 0x33 islSOC o else s1
  let s3 := if opn = 3 then (s2.fbit R.SAF_RBF_OPEN o true).raise 0x34 islSOC o else s2
  if stuck = 3 then stuckOn o s3 else s3

/-- SOC reads back every output, as it drives them before the readback (R439). -/
def outputReadback (on_ openl : BitVec 6) (s : State) : State :=
  let s1 := { s with soc := { s.soc with readOn := on_.toNat } }
  (List.range 6).foldl (fun t o => readbackOne on_.toNat openl.toNat o t) s1

def execOutputReadback (on_ openl : BitVec 6) (s : State) := run (whenSystem (State.periodic 6 100000 (outputReadback on_ openl))) s

/-- Whether an off-pulse of output `o` may start (R440). -/
def pulseMay (s : State) (o : Nat) : Bool :=
  s.tb R.SAF_OUT_ON o && s.socState == stRUN && s.soc.pulse.isNone
  && (match s.soc.lastPulse with | some t => s.due t 10000000 | none => true)
  && (match s.soc.demAt with | some t => s.due t 1000000000 | none => true)
  && (match Smap.get (fun _ => none) (s.soc.pulseAt.map fun e => (e.1, some e.2)) o with
      | some t => s.due t (1000000000 * s.fg R.SAF_OPT_OFFPER) | none => true)

def offPulseStart (o : Nat) (s : State) : State :=
  if pulseMay s o then
    showOn { s with soc := { s.soc with
      pulse := some (o, s.lt), lastPulse := some s.lt
      pulseAt := (s.soc.pulseAt.filter fun e => e.1 != o) ++ [(o, s.lt)] } }
  else s

def execOffPulseStart (o : Fin 6) (s : State) := run (whenSystem (offPulseStart o.val)) s

/-- The off-pulse ends, OFFPW us after its start; `readOff`: the readback showed the off level 50 us before its end at the latest. -/
def offPulseEnd (readOff : Bool) (s : State) : State :=
  match s.soc.pulse with
  | none => s
  | some (o, t) =>
    let s1 := showOn { s with soc := { s.soc with pulse := none } }
    if !s.due t (1000 * s.fg R.SAF_OPT_OFFPW) then s else if readOff then s1 else stuckOn o s1

def execOffPulseEnd (readOff : Bool) (s : State) := run (whenSystem (offPulseEnd readOff)) s

/-- A driver whose enable has not toggled for 20 us turns off by itself (R438). -/
def driverSelfOff (o : Nat) (s : State) : State :=
  drive { s with soc := { s.soc with togStop := setBit s.soc.togStop o true } }

def execDriverSelfOff (o : Fin 6) (s : State) := run (driverSelfOff o.val) s

/-- A driver in current limit for 1 ms turns itself off until its demand falls to 0 (R604). -/
def driverCurrentLimit (o : Nat) (s : State) : State :=
  if s.tb R.SAF_OUT_ON o then drive { s with soc := { s.soc with selfOff := setBit s.soc.selfOff o true } } else s

def execDriverCurrentLimit (o : Fin 6) (s : State) := run (whenSystem (driverCurrentLimit o.val)) s

/-- The 1 ms self-check (R482): oscillator within 5 % of DTM, and every conducting driver's enable toggling. -/
def socSelfCheck (oscOk : Bool) (tog : BitVec 6) (s : State) : State :=
  let on_ := s.fg R.SAF_OUT_ON
  if oscOk && (on_ &&& tog.toNat) == on_ then s
  else (drive { s with soc := { s.soc with togStop := 63 } }).raise 0x04 islSOC 0

def execSocSelfCheck (oscOk : Bool) (tog : BitVec 6) (s : State) := run (whenSystem (State.periodic 7 1000000 (socSelfCheck oscOk tog))) s

end Sys2Proof.Machine
end

