-- ==== Sys2Proof/Machine/SafetySet.lean ====
section
/-! DEFINITION. The black channel's consumers and producers (R462 to R465), the safety set, its changes, the safety
password and the change log (R466 to R472). -/
namespace Sys2Proof.Machine

/-! ## Black channel (R463 to R465) -/

/-- The reserved and range checks of a PDU for connection `k` (R464). -/
def pduFieldsBad (s : State) (k : Nat) (b : List Byte) : Bool :=
  u16 b 6 != s.fg (R.SAF_CONN_W2_TE k) || decide (64 < u8 b 8) || decide (1 < u8 b 9) || u16 b 10 != 0

/-- The demand item of a PDU's data is malformed. -/
def pduDemandBad (b : List Byte) : Bool :=
  let d := u16 b 12
  decide (u8 b 8 < 2) || decide (64 ≤ d) || d / 16 % 4 == 3

/-- A CRC failure of connection `k`: the eighth within 1 s raises the channel source and restarts the count. -/
def pduCrcFail (k : Nat) (s : State) : State :=
  let c := s.conn k
  let l := (c.crcAt.filter fun t => decide (s.lt < t + 1000000000)) ++ [s.lt]
  let s1 := s.inc (R.SAF_CONN_W3_CRCF k)
  if 8 ≤ l.length then (s1.setConn k { c with crcAt := [] }).raise 0x39 islSOC k
  else s1.setConn k { c with crcAt := l }

/-- A PDU that passes every check: the connection is live, its data are kept, and a DEMAND connection's first two bytes
act as item 1 of R442; FS asks for SCS-0. -/
def pduTake (k : Nat) (b : List Byte) (s : State) : State :=
  let len := u8 b 8
  let data := (b.drop 12).take len
  let c := s.conn k
  let d := u16 b 12
  let s1 := s.setConn k { c with lastSeq := some (u16 b 4), lastAt := s.lt, dem := d, late := false }
  let s2 := (s1.fs (R.SAF_CONN_W3_LIVE k) 1).fs (R.SAF_CONN_W3_VALID k) ((s1.fg (R.SAF_CONN_W3_VALID k) + 1) % 2 ^ 15)
  let s3 := (List.range 16).foldl (fun t w => t.setReg (R.SAF_RXD k w) (w32 (u32 data (4 * w)))) s2
  if s3.fg (R.SAF_CONN_W1_USE k) = 1 then
    let s4 := if s3.fg R.SAF_CFG_DSRC = 1 ∧ s3.fg R.SAF_CFG_DCONN = k then setDemand (d % 16) s3 else s3
    demandRequest (if u8 b 9 = 1 then 2 else d / 16 % 4) cDEMCONN k s4
  else s3

/-- SOC checks a PDU in the order of R464. -/
def pduCheck (b : List Byte) (s : State) : State :=
  if b.length < 16 ∨ b.length ≠ 16 + u8 b 8 then s
  else match s.consumers.find? fun k => s.fg (R.SAF_CONN_W0_CID k) == u32 b 0 with
    | none => (s.inc R.SAF_PDUERR_UNKN).raise 0x38 islSOC 0
    | some k =>
      let n := u8 b 8
      if u32 b (12 + n) ≠ safetyCrc (b.take (12 + n)) then pduCrcFail k s
      else if pduFieldsBad s k b || (s.fg (R.SAF_CONN_W1_USE k) == 1 && pduDemandBad b) then s.inc (R.SAF_CONN_W3_SEQF k)
      else match (s.conn k).lastSeq with
        | none => pduTake k b s
        | some q =>
          let d := (u16 b 4 + 65536 - q) % 65536
          if d = 0 then s
          else if d ≤ 32767 then pduTake k b s
          else s.inc (R.SAF_CONN_W3_SEQF k)

/-- SAFETY_PDU: no reply whatever the outcome (R420). -/
def safetyPdu (p : Packet) (s : State) : State := pduCheck p.payload s

def execSafetyPdu (p : Packet) (s : State) := run (request 0x70 p safetyPdu) s

/-- The data registers of connection `k` read 0. -/
def clearRxd (k : Nat) (s : State) : State :=
  s.clearRegs fun a => decide (R.SAF_RXD k 0 ≤ a ∧ a ≤ R.SAF_RXD k 15)

/-- No valid PDU for TE: the connection is not live and its ACT applies. [DEDUCED, log 120] -/
def connectionTimeout (k : Nat) (s : State) : State :=
  if s.fg (R.SAF_CONN_W1_ROLE k) = 1 ∧ !(s.conn k).late
      ∧ s.due (s.conn k).lastAt (1000000 * s.fg (R.SAF_CONN_W2_TE k)) then
    let s0 := s.setConn k { s.conn k with late := true }
    let s1 := (clearRxd k (s0.fs (R.SAF_CONN_W3_LIVE k) 0)).fs R.SAF_STAT_CONN k
    stopBy (s1.fg (R.SAF_CONN_W1_ACT k)) cCONN k s1
  else s

def execConnectionTimeout (k : Fin 8) (s : State) := run (whenSystem (connectionTimeout k.val)) s

/-- PERIOD has passed since the last PDU of producer connection `k`. -/
def producerPdu (k : Nat) (s : State) : State :=
  if s.fg (R.SAF_CONN_W1_ROLE k) = 2 ∧ (s.conn k).nextAt ≤ s.lt then sendPdu k s else s

def execProducerPdu (k : Fin 8) (s : State) := run (whenSystem (producerPdu k.val)) s

/-- The TAG of a session fetch for connection `k` (assumption log 121). [DESIGN CHOICE, log 121] -/
def fetchTag (k : Nat) : Nat := 0x7F00 + k

/-- Asks the peer of producer connection `k` for its SESSION and HI. -/
def sessionFetch (k : Nat) (s : State) : State :=
  let p : Packet := { cls := 1, opcode := 0x63, hops := 15, dest := s.fg (R.SAF_CONN_W1_PEER k), src := s.ownAddr
                      tag := fetchTag k, payload := leBytes 4 0, via := .self }
  let c := s.conn k
  let s1 := s.setConn k { c with fetchAt := s.lt }
  sendOut p { s1 with cp := { s1.cp with await := (s1.cp.await.filter fun t => t != fetchTag k) ++ [fetchTag k] } }

/-- The peer's roll-call entry in the cycle being merged shows STATE 0x1 (R375, R465). -/
def peerBooting (s : State) (k : Nat) : Bool :=
  let peer := s.fg (R.SAF_CONN_W1_PEER k)
  peer / 64 % 64 == s.ownAddr / 64 && s.net.rcBuf.any fun (e : Nat × List Byte) => e.1 == peer % 64 && leAt e.2 0 1 % 16 == 1

/-- Every 1 s, and when the peer boots, the fast path fetches the peer station's SESSION and HI. -/
def producerSessionFetch (k : Nat) (s : State) : State :=
  if s.fg (R.SAF_CONN_W1_ROLE k) = 2 ∧ addrMode (s.fg (R.SAF_CONN_W1_PEER k)) = 0
      ∧ (s.due (s.conn k).fetchAt 1000000000 ∨ peerBooting s k) then
    sessionFetch k s
  else s

def execProducerSessionFetch (k : Fin 8) (s : State) := run (whenSystem (producerSessionFetch k.val)) s

/-- The reply to a session fetch: the next block is made with a COUNT above the last one used. -/
def sessionReply (k : Nat) (body : List Byte) (s : State) : State :=
  let c := s.conn k
  let sess := u32 body 0
  let hi := u32 body 4
  s.setConn k { c with pSess := sess, pCount := if sess = c.pSess then max c.pCount hi else hi }

/-! ## The set in force and the staged set (R466 to R469) -/

/-- The committed value of a word of the set; its reset value while nothing is committed. -/
def inForce (s : State) (a : Nat) : Word :=
  match s.safRec with
  | some r => Smap.get resetWord r.words a
  | none => resetWord a

/-- The merged set: the staged words over the set in force. -/
def mergedSet (s : State) (staged : List (Nat × Word)) (a : Nat) : Word :=
  match staged.find? fun (e : Nat × Word) => e.1 == a with
  | some e => e.2
  | none => inForce s a

def inRange (lo hi n : Nat) : Bool := decide (lo ≤ n ∧ n ≤ hi)

/-- Source codes of R106. -/
def sourceCode (c : Nat) : Bool := decide (c ≤ 0x44) || inRange 0x48 0x4C c || c == 0x7F

/-- Whether a word of the safety set lies in the ranges its register states (R106, R109, R131, R133, R134, R476, R477). -/
def setWordOk (a : Nat) (v : Word) : Bool :=
  let n := v.toNat
  let g := fun (f : Fld) => wf v f
  if a = R.SWC_CTRL then
    inRange 1 96 (g R.SWC_CTRL_LEN) && inRange 1 8 (g R.SWC_CTRL_ILEN) && decide (g R.SWC_CTRL_LEN ≤ g R.SWC_CTRL_PERIOD)
  else if a = R.SWC_REF then g R.SWC_REF_XSETTLE != 0
  else if a = R.SWC_PLTHR then decide (100 ≤ g R.SWC_PLTHR_THR ∧ 4 ≤ g R.SWC_PLTHR_AXTHR)
  else if a = R.SWC_DIAGCFG then g R.SWC_DIAGCFG_LIMIT != 0
  else if 0x020100 ≤ a ∧ a < 0x0202A0 then
    let c := n % 128
    sourceCode c && (!n.testBit 7 || inRange 0x35 0x44 c) && (decide (0x020280 ≤ a) || c != 0x7F)
  else if a = R.SAF_OUTEN then decide (g R.SAF_OUTEN_PAIR1 ≤ 4 ∧ g R.SAF_OUTEN_PAIR2 ≤ 4)
  else if a = R.SAF_OPT then inRange 1 600 (g R.SAF_OPT_OFFPER) && inRange 200 500 (g R.SAF_OPT_OFFPW)
  else if a = R.SAF_CFG then g R.SAF_CFG_KTE != 0
  else if a = R.SAF_ENV0 then decide (g R.SAF_ENV0_TDLY ≤ 1000) && inRange 1 5000 (g R.SAF_ENV0_TRAMP)
  else if a = R.SAF_ENV2 then inRange 1 10000 (g R.SAF_ENV2_TWIN)
  else if a = R.SAF_SI then (List.range 4).all fun i => (List.range 3).all fun j => bitsOf n (8 * i + 2 + 2 * j) 2 != 3
  else if a = R.SAF_SIDT0 ∨ a = R.SAF_SIDT1 then inRange 1 500 (bitsOf n 16 9) && inRange 1 500 (bitsOf n 0 9)
  else if a = R.SAF_TP then inRange 10 1000 (g R.SAF_TP_TPP) && inRange 100 1000 (g R.SAF_TP_TPW)
  else if a = R.SAF_SSVACT then (List.range 3).all fun j => bitsOf n (2 * j) 2 != 3
  else if 0x140100 ≤ a ∧ a < 0x140180 then
    if a % 16 = 4 then bitsOf n 20 2 != 3 && decide (bitsOf n 18 2 < 2) && bitsOf n 16 2 != 3
    else if a % 16 = 8 then inRange 1 1000 (bitsOf n 16 10) && bitsOf n 0 10 != 0
    else true
  else true

/-- The last row of the table of R469. -/
def setInvalid (m : Nat → Word) : Bool :=
  let g := fun (f : Fld) => wf (m f.adr) f
  let en := g R.SAF_OUTEN_EN
  let p1 := g R.SAF_OUTEN_PAIR1
  let p2 := g R.SAF_OUTEN_PAIR2
  let used := (List.range 8).filter fun k => g (R.SAF_CONN_W1_ROLE k) != 0
  let badMode := fun (k : Nat) =>
    let md := addrMode (g (R.SAF_CONN_W1_PEER k))
    !(md == 0 || inRange 8 12 md)
  (en.testBit 4 && p1 == 0) || (en.testBit 5 && p2 == 0) || (p1 != 0 && p1 == p2)
  || decide (g R.SAF_ENV2_TWIN < g R.SAF_ENV0_TDLY + g R.SAF_ENV0_TRAMP)
  || (g R.SAF_ENV0_S1EN == 1 && !(m R.SMP_AXSAFE).toNat.testBit (g R.SAF_ENV0_AXM))
  || used.any (fun k => g (R.SAF_CONN_W1_ROLE k) == 2 && decide (g (R.SAF_CONN_W2_TE k) < 3 * g (R.SAF_CONN_W2_PERIOD k)))
  || used.any (fun k => used.any fun j => k != j && g (R.SAF_CONN_W0_CID k) == g (R.SAF_CONN_W0_CID j))
  || !inRange 1 2 (g R.SAF_CFG_KACT)
  || used.any badMode

/-! ## Making a set live (R467, R469 step 4) -/

/-- The RWS bits of `new` over the other bits of `old`. -/
def mergeRws (mask : Nat) (old new : Word) : Word :=
  w32 ((old.toNat &&& (0xFFFFFFFF ^^^ mask)) ||| (new.toNat &&& mask))

/-- One word of the stack part goes live. Sweep settings wait for a round start, EN switches the domain (R111). -/
def stackWord (m : Nat → Word) (s : State) (e : Nat × Nat) : State :=
  let a := e.1
  let old := stackLive s a
  let new := mergeRws e.2 old (m a)
  if new = old then s
  else if a = R.SAF_SSVACT then { s with ssv := { s.ssv with act := new } }
  else if a = R.SWC_CTRL ∨ a = R.SWC_REF ∨ (0x020100 ≤ a ∧ a < 0x0202A0) then
    let s1 := { s with swp := { s.swp with
      pendSet := (s.swp.pendSet.filter fun (x : Nat × Word) => x.1 != a) ++ [(a, new)] } }
    if a = R.SWC_CTRL ∧ new.toNat % 2 ≠ s.fg R.SWC_CTRL_EN then
      let s2 := s1.fs R.SWC_CTRL_EN (new.toNat % 2)
      if new.toNat % 2 = 1 then domReqOn domSWEEP { s2 with swp := { s2.swp with offNext := false } }
      else { s2 with swp := { s2.swp with offNext := true } }
    else s1
  else if 0x030100 ≤ a ∧ a < 0x0301C0 then
    let n := (a - 0x030100) / 4 + 1
    let s1 := s.setReg a new
    let s2 := if bitsOf old.toNat 16 10 ≠ bitsOf new.toNat 16 10 then dacTouched (2 * n) s1 else s1
    if bitsOf old.toNat 0 10 ≠ bitsOf new.toNat 0 10 then dacTouched (2 * n + 1) s2 else s2
  else s.setReg a new

/-- The stack part goes live in the stack half. [DEDUCED, log 124] -/
def stackLoad (m : Nat → Word) (s : State) : State :=
  balRefresh (liveRateCheck (stackPart.foldl (stackWord m) s))

/-- A contact B whose run position changes with ANTI is made where it was not made (R451). -/
def contactSense (old i : Nat) (s : State) : State :=
  if old.testBit (8 * (i - 1) + 1) = (s.pairCfg i).testBit 1 then s
  else s.fs R.SAF_SISTAT_RAW (s.fg R.SAF_SISTAT_RAW ^^^ 2 ^ (2 * (i - 1) + 1))

/-- Pairs whose EN bit becomes 1 start in OPEN, those whose EN bit becomes 0 are disabled (R452). -/
def pairEnables (old : Nat) (s : State) : State :=
  (upTo 4).foldl (fun t i =>
    let t := contactSense old i t
    let was := old.testBit (8 * (i - 1))
    let is := (t.pairCfg i).testBit 0
    if is && !was then
      pairStop i ((t.setPairState i 2).setPair i { noneAt := if t.contacts i = 0 then some t.lt else none })
    else if !is && was then t.setPairState i 0 else t) s

/-- Connection `k` starts or restarts at a switch (R469). -/
def connRestart (oldCid k : Nat) (s : State) : State :=
  let role := s.fg (R.SAF_CONN_W1_ROLE k)
  let c := s.conn k
  let seq := if s.fg (R.SAF_CONN_W0_CID k) = oldCid then c.pSeq else 0
  let nc : Conn := { pSeq := seq, pSess := c.pSess, pCount := c.pCount, lastAt := s.lt }
  let s1 := (clearRxd k (s.setReg (R.SAF_CONN_W3 k) 0)).setConn k nc
  if role = 2 then
    let s2 := if addrMode (s1.fg (R.SAF_CONN_W1_PEER k)) = 0 then sessionFetch k s1 else s1
    sendPdu k s2
  else s1

/-- The system part goes live in SOC. -/
def systemLoad (m : Nat → Word) (s : State) : State :=
  let old := s.reg
  let put := fun (t : State) (e : Nat × Nat) => t.setReg e.1 (mergeRws e.2 (t.reg e.1) (m e.1))
  let s1 := put (systemPart.foldl put s) (R.SAF_SSVACT, 0x3F)
  let s2 := pairEnables (old R.SAF_SI).toNat s1
  let s3 := if old R.SAF_CRQ = s2.reg R.SAF_CRQ then s2 else setCrq (s2.fb R.SAF_OUT_CRQREQ) s2
  let s4 := (List.range 8).foldl (fun t k =>
    let w := fun i => R.SAF_CONN_W0 k + 4 * i
    if old (w 0) = t.reg (w 0) ∧ old (w 1) = t.reg (w 1) ∧ old (w 2) = t.reg (w 2) then t
    else connRestart (old (w 0)).toNat k t) s3
  setDemand (sourceDemand s4) s4

/-- The stack half can be reached (R41, R42). -/
def stackReachable (s : State) : Bool := (unreachable s 0x010000).isNone

/-- SOC leaves INIT once both halves hold the committed set (R444); CRQ begins with its idle duty (R448, R497). -/
def leaveInit (s : State) : State :=
  if s.socState = stINIT ∧ s.fb R.SAF_STAT_LOADED ∧ s.soc.setOk ∧ s.nv.foundOk ∧ !s.rst.fabHeld ∧ !s.rst.p0Held then socGoto stSAFE (setCrq false s) else s

/-- A record's values go live; the stack part only where the stack half can be reached. -/
def applySet (r : SafRec) (s : State) : State :=
  let m := fun a => Smap.get resetWord r.words a
  let up := stackReachable s
  let s1 := systemLoad m (if up then stackLoad m s else s)
  let s2 := ((s1.setReg R.SAF_SCK (w32 r.sck)).setReg R.SAF_YCK (w32 r.yck)).setReg R.SAF_CKSUM (w32 r.ck)
  leaveInit { s2.fs R.SAF_STAT_LOADED 1 with soc := { s2.soc with setOk := up } }

/-! ## The change log (R472) -/

/-- Writes an entry into the next slot. -/
def logPut (e : LogEnt) (s : State) : State :=
  { s with nv := { s.nv with
    log := Smap.put s.nv.log s.nv.logNext e
    logNext := (s.nv.logNext + 1) % 64
    logUnack := s.nv.logUnack + 1 } }

/-- The entry of a committed record. -/
def SafRec.entry (r : SafRec) : LogEnt :=
  { seq := r.seq, time := r.time, oldCk := r.oldCk, newCk := r.ck, src := r.src, kind := 1, nreg := min 255 r.nreg
    first := r.first }

/-- The 32 bytes of an entry. -/
def LogEnt.bytes (e : LogEnt) : List Byte :=
  let b := leBytes 4 e.seq ++ leBytes 8 e.time ++ leBytes 4 e.oldCk ++ leBytes 4 e.newCk ++ leBytes 2 e.src
    ++ leBytes 1 e.kind ++ leBytes 1 e.nreg ++ leBytes 4 e.first
  b ++ leBytes 4 (safetyCrc b)

/-- SAFELOG_READ. [DEDUCED, log 127] -/
def safelogRead (p : Packet) (s : State) : State :=
  withLen 2 p (fun s =>
    let first := u8 p.payload 0
    let n := u8 p.payload 1
    if 63 < first ∨ n = 0 ∨ 64 < n then reply p .badParam [] 0 s
    else
      let m := min n (if p.auth.isSome then 62 else 63)
      let ent := fun i => match s.nv.log.find? fun (e : Nat × LogEnt) => e.1 == (first + i) % 64 with
        | some e => e.2.bytes
        | none => List.replicate 32 0
      reply p .ok (leBytes 4 m ++ (List.range m).flatMap ent) 0 s) s

def execSafelogRead (p : Packet) (s : State) := run (request 0x75 p safelogRead) s

/-- SAFELOG_ACK: the named slot and every older unacknowledged one. -/
def safelogAck (p : Packet) (s : State) : State :=
  withLen 1 p (fun s =>
    let n := u8 p.payload 0
    let un := s.nv.logUnack
    let d := (n + 128 - (s.nv.logNext + 64 - un)) % 64
    if 63 < n then reply p .badParam [] 0 s
    else if un ≤ d then reply p .ok [] 0 s
    else reply p .ok [] 0 { s with nv := { s.nv with logUnack := un - d - 1 } }) s

def execSafelogAck (p : Packet) (s : State) := run (request 0x76 p safelogAck) s

/-! ## The password (R471) -/

/-- The station serial as 16 upper-case hexadecimal characters. -/
def serialText (s : State) : List Byte :=
  let n := u64 (s.nvPage 0) 0
  (List.range 16).map fun i =>
    let d := n / 16 ^ (15 - i) % 16
    BitVec.ofNat 8 (if d < 10 then 48 + d else 55 + d)

/-- A password field of R429 at offset `o`: its bytes; none when its form is wrong. -/
def passwordField (b : List Byte) (o : Nat) : Option (List Byte) :=
  let n := u8 b o
  let f := sliceBytes b (o + 4) 32
  if 8 ≤ n ∧ n ≤ 32 ∧ leAt b (o + 1) 3 = 0 ∧ (f.drop n).all (fun x => x == 0) then some (f.take n) else none

/-- The delivery password is in force. -/
def pwDefault (s : State) : Bool := s.nv.pwHash == []

def pwRight (s : State) (w : List Byte) : Bool :=
  if pwDefault s then w == serialText s else Config.pbkdf2 w s.nv.pwSalt == s.nv.pwHash

/-- A password is tried: the failure count clears or rises, five in a row set LOCKOUT. [DEDUCED, log 126] -/
def pwTry (w : List Byte) (s : State) : Bool × State :=
  if pwRight s w then (true, { s with pwd := { s.pwd with fails := 0 } })
  else
    let n := clampU 8 (s.pwd.fails + 1)
    (false, { s with pwd := { fails := n, lockAt := if 5 ≤ n then some s.lt else s.pwd.lockAt } })

/-- LOCKOUT holds for 60 s from when it was set (R471). -/
def State.locked (s : State) : Bool := match s.pwd.lockAt with | some t => !s.due t 60000000000 | none => false

/-- SAFE_PASSWORD. -/
def safePassword (p : Packet) (s : State) : State :=
  withLen 72 p (fun s =>
    if s.locked then reply p (.authFail rPASSWORD) [] 0 s
    else match passwordField p.payload 0, passwordField p.payload 36 with
      | some old, some new =>
        let (ok, s1) := pwTry old s
        if !ok then reply p (.authFail rPASSWORD) [] 0 s1
        else if 64 ≤ s1.nv.logUnack then reply p (.refused rCAPACITY) [] 0 s1
        else
          let (f, s2) := s1.free
          let salt := leBytes 16 f
          let s3 := { s2 with nv := { s2.nv with pwSalt := salt, pwHash := Config.pbkdf2 new salt } }.countUp 2
          let ck := (s3.reg R.SAF_CKSUM).toNat
          reply p .ok [] 0 (logPut {
            seq := s3.cnt 2, time := s3.now, oldCk := ck, newCk := ck, src := p.src, kind := 2 } s3)
      | _, _ => reply p .badParam [] 0 s) s

def execSafePassword (p : Packet) (s : State) := run (request 0x77 p safePassword) s

/-- 60 s after LOCKOUT was set it clears. -/
def passwordLockoutEnd (s : State) : State :=
  match s.pwd.lockAt with
  | some t => if s.due t 60000000000 then { s with pwd := { s.pwd with lockAt := none } } else s
  | none => s

def execPasswordLockoutEnd (s : State) := run passwordLockoutEnd s

/-! ## Changes (R468, R469) -/

/-- Closes the open change. -/
def changeClose (s : State) : State := { s.fs R.SAF_STAT_OPEN 0 with change := none }

/-- SAFESET_OPEN. -/
def safesetOpen (p : Packet) (s : State) : State :=
  withLen 36 p (fun s =>
    if s.locked then reply p (.authFail rPASSWORD) [] 0 s
    else match passwordField p.payload 0 with
      | none => reply p .badParam [] 0 s
      | some w =>
        if pwDefault s then reply p (.refused rSTATE) [] 0 s
        else
          let (ok, s1) := pwTry w s
          if !ok then reply p (.authFail rPASSWORD) [] 0 s1
          else if s1.change.isSome then reply p (.refused rSTATE) [] 0 s1
          else
            let (f, s2) := s1.free
            let h := f % 2 ^ 32
            reply p .ok (leBytes 4 h) 0
              { s2.fs R.SAF_STAT_OPEN 1 with change := some { handle := h, at_ := s2.lt } }) s

def execSafesetOpen (p : Packet) (s : State) := run (request 0x71 p safesetOpen) s

/-- The open change that a request names by its HANDLE and that is not being committed. -/
def openChange (p : Packet) (s : State) : Option SafChange :=
  match s.change with
  | some c => if c.phase = 0 ∧ u32 p.payload 0 = c.handle then some c else none
  | none => none

/-- Stages one pair: the status, and the staged words. [DEDUCED, log 123] -/
def stageOne (s : State) (staged : List (Nat × Word)) (a : Nat) (v : Word) : Stat × List (Nat × Word) :=
  match (stackPart ++ systemPart).find? fun (e : Nat × Nat) => e.1 == a, findReg a with
  | some e, some r =>
    let new := mergeRws e.2 (mergedSet s staged a) v
    if v.toNat &&& r.resv ≠ 0 then (.badParam, staged)
    else if !setWordOk a new then (.badParam, staged)
    else (.ok, (staged.filter fun (x : Nat × Word) => x.1 != a) ++ [(a, new)])
  | _, _ => (.badParam rADDRESS, staged)

/-- SAFESET_STAGE. -/
def safesetStage (p : Packet) (s : State) : State :=
  let b := p.payload
  let n := u8 b 4
  if b.length < 8 ∨ b.length ≠ 8 + 8 * n then reply p (.badParam rLENGTH) [] 0 s
  else if n = 0 ∨ 64 < n ∨ leAt b 5 3 ≠ 0 then reply p .badParam [] 0 s
  else match openChange p s with
    | none => reply p (.refused rSTATE) [] 0 s
    | some c =>
      let r := (List.range n).foldl (fun (x : List Stat × List (Nat × Word)) i =>
        let y := stageOne s x.2 (u32 b (8 + 8 * i)) (w32 (u32 b (12 + 8 * i)))
        (x.1 ++ [y.1], y.2)) ([], c.staged)
      replyUnits p r.1 [] .ok { s with change := some { c with staged := r.2, at_ := s.lt } }

def execSafesetStage (p : Packet) (s : State) := run (request 0x72 p safesetStage) s

/-- SAFESET_CLOSE. -/
def safesetClose (p : Packet) (s : State) : State :=
  withLen 4 p (fun s =>
    match openChange p s with
    | none => reply p (.refused rSTATE) [] 0 s
    | some _ => reply p .ok [] 0 (changeClose s)) s

def execSafesetClose (p : Packet) (s : State) := run (request 0x74 p safesetClose) s

/-- 60 s without a request close the change. -/
def safesetChangeExpiry (s : State) : State :=
  match s.change with
  | some c => if c.phase = 0 ∧ s.due c.at_ 60000000000 then changeClose s else s
  | none => s

def execSafesetChangeExpiry (s : State) := run safesetChangeExpiry s

/-- The record of a merged set (R469 step 1). Its sequence number is given when the commit completes. -/
def buildRecord (p : Packet) (staged : List (Nat × Word)) (s : State) : SafRec :=
  let m := mergedSet s staged
  let parts := stackPart ++ systemPart
  let changed := (parts.filter fun (e : Nat × Nat) => (m e.1).toNat &&& e.2 != (inForce s e.1).toNat &&& e.2).map
    fun (e : Nat × Nat) => e.1
  let sck := sckOf m
  let yck := yckOf m
  { words := parts.foldl (fun w (e : Nat × Nat) => Smap.set resetWord w e.1 (m e.1)) []
    sck := sck, yck := yck, ck := setCrc sck yck, oldCk := (s.reg R.SAF_CKSUM).toNat, time := s.now, src := p.src
    nreg := changed.length, first := changed.foldl min (changed.headD 0) }

/-- SAFESET_COMMIT: the checks of R469 in their order, then the record's commit. -/
def safesetCommit (p : Packet) (s : State) : State :=
  withLen 4 p (fun s =>
    match openChange p s with
    | none => reply p (.refused rSTATE) [] 0 s
    | some c =>
      let s := { s with change := some { c with at_ := s.lt } }
      if s.energised ∨ s.socState = stSTARTING then reply p .safetyLock [] 0 s
      else if s.nvBusy || s.cad.deed.isSome || s.fb R.CAD_STAT_SCRUB then reply p .nvBusy [] 0 s
      else if 64 ≤ s.nv.logUnack then reply p (.refused rCAPACITY) [] 0 s
      else if setInvalid (mergedSet s c.staged) then reply p .badParam [] 0 s
      else
        let c1 : SafChange := { c with phase := 1, newRec := buildRecord p c.staged s, req := p, at_ := s.lt }
        nvCommit { kind := 2, req := p } { s with change := some c1 }) s

def execSafesetCommit (p : Packet) (s : State) := run (request 0x73 p safesetCommit) s

/-- Stores a record in the older copy, or in one that fails its check. -/
def storeRecord (r : SafRec) (s : State) : State :=
  let seqOf := fun (c : Option SafRec) => match c with | some x => if x.ok then x.seq + 1 else 0 | none => 0
  if seqOf s.nv.safA ≤ seqOf s.nv.safB then { s with nv := { s.nv with safA := some r } }
  else { s with nv := { s.nv with safB := some r } }

/-- The record's commit is complete (R469 step 3): a switch epoch is named. [DEDUCED, log 125] -/
def safesetRecordCommitted (s : State) : State :=
  match s.journalHead, s.change with
  | some j, some c =>
    if j.kind ≠ 2 ∨ c.phase ≠ 1 then s
    else
      let s1 := { s with nv := { s.nv with jphase := 2 } }.countUp 2
      let r := { c.newRec with seq := s1.cnt 2 }
      let c1 : SafChange := { c with phase := 2, newRec := r, epoch := firstMultiple 1024 2000 s.now }
      nvStat (storeRecord r { s1 with change := some c1 })
  | _, _ => s

def execSafesetRecordCommitted (s : State) := run safesetRecordCommitted s

/-- The switch epoch: the new set is live in both halves, the log entry is written, the reply leaves and the change
closes (R469 steps 4 to 6). -/
def safetySetSwitch (s : State) : State :=
  match s.change with
  | some c =>
    if c.phase ≠ 2 then s
    else
      let s1 := applySet c.newRec (s.until (50 * c.epoch))
      let slot := s1.nv.logNext
      reply c.req .ok (leBytes 4 c.newRec.ck ++ leBytes 2 slot) 0 (changeClose (logPut c.newRec.entry s1))
  | none => s

def execSafetySetSwitch (s : State) := run (whenSystem safetySetSwitch) s

/-! ## Load and recomputation (R466, R467, R470, R496) -/

/-- The committed set is loaded at release step 6; a missing log entry is written first (R470). Without a copy that
passes its check the source is raised and SOC stays in INIT. -/
def safetySetLoad (s : State) : State :=
  match s.safRec with
  | none => s.raise 0x3A islNVF 0
  | some r =>
    let logged := s.nv.log.any fun (e : Nat × LogEnt) => e.2.kind == 1 && e.2.seq == r.seq
    applySet r (if logged then s else logPut r.entry s)

/-- The load belongs to release step 6, which begins when step 5 is complete. -/
def execSafetySetLoad (s : State) :=
  run (fun s =>
    if s.cpRuns && s.fg R.RST_STAT_STEP == 5 && !s.fb R.SAF_STAT_LOADED && !s.rst.setTried then
      safetySetLoad { s with rst := { s.rst with setTried := true } }
    else s) s

/-- After a reset of the stack half alone, the stack part is written again and applied at a switch epoch (R496).
[DEDUCED, log 128] -/
def stackHalfRewrite (s : State) : State :=
  match s.safRec with
  | some r =>
    let waits := match s.change with | some c => c.phase == 2 | none => false
    if s.fb R.SAF_STAT_LOADED && !s.soc.setOk && stackReachable s && !waits then
      let s1 := s.until (50 * firstMultiple 1024 2000 s.now)
      let s2 := stackLoad (fun a => Smap.get resetWord r.words a) s1
      leaveInit { s2 with soc := { s2.soc with setOk := true } }
    else s
  | none => s

def execStackHalfRewrite (s : State) := run (whenSystem stackHalfRewrite) s

/-- A half recomputes its checksum (R457, R466): a difference from the committed value is a disagreement, except while
SOC is in INIT or the stack half does not hold the committed set yet. -/
def checksumRecompute (bySystem : Bool) (s : State) : State :=
  if !s.fb R.SAF_STAT_LOADED || s.socState == stINIT then s
  else if bySystem then if yckOf s.reg ≠ (s.reg R.SAF_YCK).toNat then socDisagree cCHECK true s else s
  else if !s.soc.setOk then s
  else
    let s1 := sendUp mCHECKSUM [stackSck s] s
    if stackSck s ≠ s.committedSck then ssvDisagree 0x06 true s1 else s1

/-- Each half recomputes its own every 10 ms. -/
def execChecksumRecompute (bySystem : Bool) (s : State) :=
  run (whenHalf bySystem (State.periodic (if bySystem then 8 else 9) 10000000 (checksumRecompute bySystem))) s

/-- SAF_PWD, SAF_LOG and SAF_STAT.SCS1OK as read; other SAF words as stored. -/
def safWord (s : State) (a : Nat) : Word :=
  if a = R.SAF_PWD then
    w32 (b2n (pwDefault s) * 2 ^ 31 + b2n s.locked * 2 ^ 30 + s.pwd.fails)
  else if a = R.SAF_LOG then w32 (s.nv.logNext * 2 ^ 16 + s.nv.logUnack)
  else if a = R.SAF_STAT then w32 (withBits (s.reg a).toNat 25 1 (b2n (scs1Ok s)))
  else s.reg a

end Sys2Proof.Machine
end

