-- ==== Sys2Proof/Machine/Reset.lean ====
section
/-! DEFINITION. Resets and the release order (R36, R492 to R501, R560): the meanings of the rows OSCILLATOR_INPUT_LOST,
RESET_COLD to RESET_AT_EPOCH, STACK_RESET_MESSAGE, STACK_POWER_ON to LOCKSTEP_WARM_RESET and RELEASE_STACK_HALF to
PARCELS_RUNNING but for the self-test and the restore. -/
namespace Sys2Proof.Machine

/-! ## What a reset clears and keeps (R494) -/

/-- Registers that lie in the stack half: its units' registers, SBK0 to SBK7 and its islands' sticky bits. -/
def stackScope (a : Nat) : Bool :=
  stackReg a || decide (0x160080 ≤ a ∧ a < 0x1600A0) || [islSCK, islSWC, islSSV, islSTAO, islBTX].any fun i => a == R.FLT_ISL i

/-- Registers that a reset of the system half keeps: 1 SYS-POR, 2 SYS-COLD, 3 SYS-WARM. SYAO keeps the fault collector's
and the reset controller's registers; SYS-WARM also BKP0 to BKP15, DRC and the online test counts (R515). -/
def systemKeeps (scope a : Nat) : Bool :=
  stackScope a
  || (scope != 1 && (a == R.FLT_STAT || a == R.FLT_HSEQ || a == R.FLT_TONE || decide (0x150400 ≤ a ∧ a < 0x150600)
      || a == R.FLT_ISL islSYAO || a == R.RST_CAUSE || a == R.RST_STAT || a == R.RST_CNT))
  || (scope == 3 && (a == R.FLT_ISL islDRC || a == R.FLT_ISL 52 || decide (0x1D0000 ≤ a ∧ a < 0x1E0000)
      || decide (0x160040 ≤ a ∧ a < 0x160080) || a == R.BST_ONL))

/-- Domains of the stack die. -/
def stackDom (d : Nat) : Bool := isCV d || d == domSWEEP

/-- Only the domains for which `p` holds keep their state. -/
def keepDoms (p : Nat → Bool) (s : State) : State :=
  { s with dom := { s.dom with
    step := s.dom.step.filter fun e => p e.1
    want := s.dom.want.filter fun e => p e.1
    at_ := s.dom.at_.filter fun e => p e.1
    wait := s.dom.wait.filter p } }

/-- The NV controller and the flash controller lose what had not become durable (R546, R548, R552, R554). -/
def nvReset (s : State) : State :=
  let lost := s.arr.stages.flatMap fun k => k.2.sects
  { s with
    nvBuf := none, fls := {}
    nv := { s.nv with
      jobs := if s.nv.jphase = 2 then s.nv.jobs.take 1 else []
      jphase := if s.nv.jphase = 2 then 2 else 0
      ksErase := s.nv.ksErase ++ lost } }

/-- What the estimator keeps in the retained SRAM through a warm reset (R211, R502). [DEDUCED, log 59] -/
def retained (e : Est) : Est :=
  { e with pendPar := [], pendSeed := [], cells := e.cells.filter fun c => c.1 / 100 == 0
           params := e.params.filter fun c => c.1 / 4 == 0 }

/-- The duties of the stack half: run tokens, its checksum, the tone. -/
def stackDuty : List Nat := [5, 9, 11]

/-- The system half enters reset of a scope; CRQ is static high (R497), and AUXEN is high (R518). After a warm reset the check of the retained SRAM passes or not (R502).
[DEDUCED, log 59] -/
def systemClear (scope : Nat) (s : State) : State :=
  let viso := s.fg R.PWR_STAT_VISO
  let (check, s) := if scope = 3 then s.free else (0, s)
  let s1 := if scope = 3 then (capWarm s).fs R.CAP_STAT_SELFREF 1 else capLost s
  let s2 := nvReset s1
  let s3 := s2.clearRegs fun a => !systemKeeps scope a
  let s4 := keepDoms (fun d => stackDom d || (scope == 3 && (d == domDRAM || d == domDPHY))) s3
  let syao := scope != 1
  let s5 := { s4 with
    est := if scope = 3 ∧ check % 2 = 1 then retained s4.est else {}
    arr := {}, fab := {}, cad := {}, prf := {}, svc := {}, soc := {}, cp := {}, hst := {}, trv := {}, dtm := {}, pwr := {}
    peg := [], bst := {}, rx := {}, change := none
    duty := s4.duty.filter fun e => stackDuty.contains e.1
    net := if syao then { prev := s4.net.prev, groups := s4.net.groups } else {}
    flt := if syao then s4.flt else {}
    thm := if syao then { waitSd := s4.thm.waitSd } else {}
    pwd := if syao then s4.pwd else {}
    bar := { s4.bar with failed := 0, retests := [], retestAt := [], mapSeq := 0, pend := none, rxMap := 0, repDown := [] }
    dom := { s4.dom with sysAt := [], isl := s4.dom.isl.filter fun e => onStack e.1 || (syao && e.1 == islSYAO) }
    rst := { s4.rst with
      scope := scope, since := s4.lt, stepAt := s4.lt, cpHeld := false, fabHeld := false, p0Held := false, held := []
      noImage := false, setTried := false, lockAt := none, sched := []
      cpFailed := syao && s4.rst.cpFailed } }
  let s6 := ((s5.fs R.PWR_STAT_VISO viso).fs R.FLT_TONE_HEAD 0).emit .pin [1, 100, 0]
  let s6 := if s.fb R.PWR_STAT_AUXHOLD then s6 else s6.emit .pin [3, 1]
  s6.fs R.RST_STAT_STEP (b2n s.rst.stackUp)

/-- The stack half enters reset, and FTOUT is held high by its pull-up (R488, R497); the system half records it if it runs (R496). -/
def stackClear (s : State) : State :=
  let s1 := svcLeave s.epoch (fun _ => true) (keepDoms (fun d => !stackDom d) (s.clearRegs stackScope))
  let s1 := s1.emit .pin [2, 1]
  let s2 := { s1 with
    smp := {}, swp := {}, cmp := {}, bal := {}, exc := {}, ssv := {}, stackQ := [], tone := {}, stao := {}
    bar := { s1.bar with downLost := false, repUp := [], txMap := 0, pend := none, clkReturn := none }
    duty := s1.duty.filter fun e => !(stackDuty.contains e.1)
    dom := { s1.dom with cvAt := [], isl := s1.dom.isl.filter fun e => !onStack e.1 }
    rst := { s1.rst with stackUp := false, stackMsg := false } }
  if s.sysUp && s.rst.stackUp then
    let s3 := s2.inc R.RST_STAT_STKRST
    { s3 with soc := { s3.soc with setOk := false } }
  else s2

/-! ## Requests (R492, R493, R513) -/

/-- RST_CAUSE, RST_STAT.LASTKIND and RST_CNT of a reset: its cause bit, its kind if it resets the system half. -/
def recordReset (scope bit : Nat) (kind : Option Nat) (s : State) : State :=
  let s1 := s.fbit R.RST_CAUSE_CAUSE bit true
  let s2 := match kind with | some k => s1.fs R.RST_STAT_LASTKIND k | none => s1
  let s3 := s2.when (bit == 5) fun s => s.inc R.RST_CNT_WDT
  let s4 := s3.when (bit == 6) fun s => s.inc R.RST_CNT_LOCK
  let s5 := s4.when (scope == 3) fun s => s.inc R.RST_CNT_WARM
  s5.when (scope == 2) fun s => s.inc R.RST_CNT_COLD

/-- A reset of the system half: absorbed and counted while one of the same or a wider scope is in progress.
[DEDUCED, log 131] -/
def systemReset (scope bit kind : Nat) (s : State) : State :=
  if s.rst.scope ≠ 0 ∧ s.rst.scope ≤ scope then
    recordReset scope bit (some kind) { s with rst := { s.rst with absorbed := s.rst.absorbed + 1 } }
  else recordReset scope bit (some kind) (systemClear scope s)

/-- A reset of the stack half. [DEDUCED, log 133] -/
def stackReset (bit : Nat) (s : State) : State :=
  let s1 := if s.rst.stackUp then s else { s with rst := { s.rst with absorbed := s.rst.absorbed + 1 } }
  let s2 := if s.sysUp then s1 else s1.fs R.RST_STAT_STEP 0
  recordReset 0 bit none (stackClear s2)

/-- Scope STACK and SYS-COLD: the stack reset message leaves first. -/
def coldReset (bit kind : Nat) (s : State) : State :=
  let s1 := if s.downWorks then
      let t := sendDown mSTACKRESET [] s
      { t with rst := { t.rst with stackMsg := true } }
    else s
  systemReset 2 bit kind s1

def execStackPowerOn (s : State) := run (stackReset 0) s
/-- The stack brown-out applies only while VISO does not supply the stack core (R516, R598). -/
def execStackBrownOut (s : State) := run (fun s => if s.fb R.PWR_STAT_VISO then s else stackReset 1 s) s
def execSystemPowerOn (s : State) := run (systemReset 1 2 0) s
def execSystemBrownOut (s : State) := run (systemReset 1 3 1) s
def execResetnPin (s : State) := run (coldReset 4 2) s

/-- The stack half receives the stack reset message. -/
def stackResetMessage (s : State) : State := if s.rst.stackMsg then stackClear s else s

def execStackResetMessage (s : State) := run stackResetMessage s

/-- The oscillator input has been lost for 10 us (R36): SYAO runs on its RC and records the source, SOC takes the outputs
to the safe state, the system half is held in reset. -/
def oscillatorLost (s : State) : State :=
  let s1 := scs0 cF0 0 0 (s.raise 0x01 islSYAO 0)
  systemReset 2 9 4 { s1 with
    bar := { s1.bar with oscLost := true }
    dom := { s1.dom with isl := Smap.set (fun _ => 0) s1.dom.isl islSYAO 1 } }

def execOscillatorInputLost (s : State) := run oscillatorLost s

/-- A write of RST_CTRL. -/
def rstCtrlWrite (v : Word) (s : State) : Stat × State :=
  let cold := wf v R.RST_CTRL_COLD == 1
  let warm := wf v R.RST_CTRL_WARM == 1
  if cold && warm then (.badParam, s)
  else if cold then (.ok, coldReset 7 3 s)
  else if warm then (.ok, systemReset 3 8 7 s)
  else (.ok, s)

def execColdResetCommand (v : Word) (s : State) :=
  run (direct R.RST_CTRL (w32 (setBit v.toNat 31 true)) rstCtrlWrite) s
def execWarmResetCommand (v : Word) (s : State) :=
  run (direct R.RST_CTRL (w32 (setBit v.toNat 30 true)) rstCtrlWrite) s

/-- 16 us after the islands entered reset, the release order resumes at step 2 (R495). -/
def warmResetResume (s : State) : State :=
  if s.rst.scope = 3 ∧ s.due s.rst.since 16000 then { s with rst := { s.rst with scope := 0 } } else s

def execWarmResetResume (s : State) := run warmResetResume s

/-! ## Watchdog and lockstep (R498, R499) -/

/-- The watchdog's limit in ms. [DEDUCED, log 135] -/
def watchdogLimit (s : State) : Nat := if s.fg R.RST_STAT_STEP < 6 then 1000 else s.fg R.RST_WDT_TIMEOUT

def watchdogExpiry (s : State) : State :=
  if s.sysUp && decide (3 ≤ s.fg R.RST_STAT_STEP) && s.due s.rst.kickAt (1000000 * watchdogLimit s) then systemReset 3 5 5 s
  else s

def execCpWatchdogExpiry (s : State) := run watchdogExpiry s

/-- A write of RST_WDT. -/
def wdtWrite (v : Word) (s : State) : Stat × State :=
  let t := wf v R.RST_WDT_TIMEOUT
  if t < 10 ∨ 10000 < t then (.badParam, s)
  else
    let s1 := s.fs R.RST_WDT_TIMEOUT t
    (.ok, if wf v R.RST_WDT_KICK = 0xA5 then { s1 with rst := { s1.rst with kickAt := s1.lt } } else s1)

def execWatchdogKick (v : Word) (s : State) := run (direct R.RST_WDT v wdtWrite) s

/-- The lockstep comparator mismatches: both cores stop and the source is raised. -/
def lockstepMismatch (s : State) : State :=
  if s.cpRuns then
    let s1 := s.raise 0x09 islCP 0
    { s1 with rst := { s1.rst with lockAt := some s1.lt } }
  else s

def execLockstepMismatch (s : State) := run lockstepMismatch s

def lockstepWarmReset (s : State) : State :=
  match s.rst.lockAt with
  | some t => if s.due t 10000 then systemReset 3 6 6 s else s
  | none => s

def execLockstepWarmReset (s : State) := run lockstepWarmReset s

/-! ## RESET requests (R394, R424, R493) -/

/-- What a RESET of a kind does. -/
def resetAct (kind t : Nat) (s : State) : State :=
  if kind = 1 then coldReset 7 3 s
  else if kind = 2 then systemReset 3 8 7 s
  else if kind = 3 then (engPlctlWrite t (w32 (setBit (s.reg (R.ENG_PLCTL t)).toNat 31 true)) s).2
  else (pctlWrite t (w32 (setBit (s.reg (R.TRV_PCTL t)).toNat 31 true)) s).2

/-- A plot that is under test or being moved (R493). -/
def plotBusy (s : State) (p : Nat) : Bool :=
  s.plotState p == psTEST || match s.arr.move with | some m => m.src == p || m.dst == p | none => false

/-- What a RESET is refused for, if anything. -/
def resetFail (s : State) (kind t : Nat) : Option Stat :=
  if kind = 0 ∨ 4 < kind then some .badParam
  else if kind = 3 then
    if 32 ≤ t then some .badParam
    else if s.plotsFit ≤ t then some .absent
    else if plotBusy s t then some (.refused rSTATE)
    else if s.energised && (engines t).any (holdsSafety s) then some .safetyLock
    else none
  else if kind = 4 then
    if 4 ≤ t then some .badParam
    else if s.portsFit ≤ t then some .absent
    else
      let r := pctlWrite t (w32 (setBit (s.reg (R.TRV_PCTL t)).toNat 31 true)) s
      if r.1 = .ok then none else some r.1
  else none

/-- RESET: the reply leaves on acceptance, before it acts. [DEDUCED, log 134] -/
def resetReq (p : Packet) (s : State) : State :=
  withLen 4 p (fun s =>
    let kind := u8 p.payload 0
    let t := u8 p.payload 1
    if u16 p.payload 2 ≠ 0 then reply p .badParam [] 0 s
    else match resetFail s kind t with
      | some e => reply p e [] 0 s
      | none =>
        if p.seqep = 0 then resetAct kind t (reply p .ok [] 0 s)
        else if enteredHere p ∧ !leadOk s p.seqep then reply p (.badParam rLEAD) [] 0 s
        else match namedEpoch s p.seqep with
          | none => reply p .late [] 0 s
          | some e =>
            let s1 := reply p .ok [] 0 s
            { s1 with rst := { s1.rst with sched := s1.rst.sched ++ [(e, kind, t)] } }) s

/-- The RESET of one kind; a packet of another kind is not this row's event. -/
def resetRow (kind : Nat) (p : Packet) (s : State) : State :=
  if u8 p.payload 0 = kind then request 0x1F p resetReq s else s

def execResetCold (p : Packet) (s : State) := run (resetRow 1 p) s
def execResetWarm (p : Packet) (s : State) := run (resetRow 2 p) s
def execResetPlot (p : Packet) (s : State) := run (resetRow 3 p) s
def execResetPort (p : Packet) (s : State) := run (resetRow 4 p) s

/-- The epoch of the first scheduled reset arrives. -/
def resetAtEpoch (s : State) : State :=
  match s.rst.sched with
  | [] => s
  | (e, kind, t) :: l =>
    let s1 := { s with rst := { s.rst with sched := l } }.until (50 * e)
    if (resetFail s1 kind t).isSome then s1 else resetAct kind t s1

def execResetAtEpoch (s : State) := run resetAtEpoch s

/-! ## The release order (R500, R501) -/

/-- SMP_CAL from the founding extension, when the stack half is released from its reset (R87); a reset of the system half alone
leaves SMP_CAL as it is (R494). -/
def loadCal (s : State) : State :=
  if s.rst.stackUp then s.nv.cal.foldl (fun t (e : Nat × Word) => t.setReg (R.SMP_CAL e.1) e.2) s else s

/-- Step 1. While the system half runs it gets the stack release notice (R494). -/
def releaseStackHalf (s : State) : State :=
  if s.rst.stackUp then s
  else
    let s1 := balRefresh (loadCal { s with rst := { s.rst with stackUp := true }, tone := { s.tone with healthAt := s.lt } })
    if s1.sysUp then sendUp mRELEASE [0x0A] { s1 with ssv := { s1.ssv with cause := 0x0A } }
    else s1.fs R.RST_STAT_STEP 1

def execReleaseStackHalf (s : State) := run releaseStackHalf s

/-- The MAC address of the station serial (R361). -/
def loadMac (s : State) : State :=
  let n := s.serial
  (s.setReg R.HST_MACLO (w32 n)).setReg R.HST_MACHI (w32 (0x0200 + n / 2 ^ 32 % 256))

/-- The journal is replayed (R548) and an open erase record marks its sector (R552). -/
def nvRelease (s : State) : State :=
  let s1 := if s.nv.jphase = 2 then { s.fs R.NVM_STAT_REPLAY 1 with nv := { s.nv with jobs := [], jphase := 0 } } else s
  match s1.nv.eraseRec with
  | some n => { s1 with nv := { s1.nv with incomp := setBit s1.nv.incomp n true, eraseRec := none } }
  | none => s1

/-- Step 2; `failed` names the barrier lanes that do not train. -/
def releaseSystemHalf (failed : BitVec 24) (s : State) : State :=
  if 2 ≤ s.fg R.RST_STAT_STEP ∨ s.rst.scope = 3 ∨ s.bar.oscLost ∨ !s.due s.bar.oscSince 100000000 then s
  else
    let s1 := { s.fs R.RST_STAT_STEP 2 with rst := { s.rst with scope := 0, stepAt := s.lt } }
    let s2 := loadMac (nvRelease s1)
    let s3 := if s2.nv.foundOk then s2 else s2.raise 0x3D islNVF 0
    let s4 := [domHKP, domDRAM, domDPHY].foldl (fun t d => domReqOn d t) s3
    let s5 := if s4.capFit then tapRefresh (s4.fs R.CAP_STAT_SELFREF 0) else s4
    let s6 := { s5 with est := { s5.est with params := s5.nv.estPar.foldl (fun m (e : Nat × List Byte) => Smap.put m e.1 e.2) s5.est.params } }
    let s7 := if s6.srstHigh then { s6.fs R.SAF_SRST_LSTATE 1 with soc := { s6.soc with srstAt := s6.lt } } else s6
    s7.each ((List.range 24).filter fun l => failed.toNat.testBit l) barrierLaneFailed

def execReleaseSystemHalf (failed : BitVec 24) (s : State) := run (releaseSystemHalf failed) s

/-- Step 3: the boot ROM runs, serves the sideband, and the watchdog starts. -/
def releaseBootRom (s : State) : State :=
  if s.sysUp ∧ s.fg R.RST_STAT_STEP = 2 then
    { s.fs R.RST_STAT_STEP 3 with rst := { s.rst with kickAt := s.lt, stepAt := s.lt } }
  else s

def execReleaseBootRom (s : State) := run releaseBootRom s

/-- Step 5 is complete: bank `b` runs next. -/
def bootBank (b : Nat) (s : State) : State :=
  { (s.fs R.UPD_STAT_BOOTED b).fs R.RST_STAT_STEP 5 with rst := { s.rst with stepAt := s.lt } }

/-- No bank is acceptable: the release stays at step 5. -/
def noBank (s : State) : State := { s with rst := { s.rst with noImage := true } }

/-- The pointer goes back to the other bank `o` (R560 item 2). -/
def revertTo (o : Nat) (s : State) : State :=
  (ptrWrite (fun x => { x with active := o, pstate := 2, stage := 0 }) s).raise 0x6E islNVF 0

/-- The VER of a bank's image, 0 when it holds none. -/
def bankVer (s : State) (b : Nat) : Nat :=
  let h := bankBytes s b 0 12
  if u32 h 0 = 0x4A584657 then u32 h 8 else 0

/-- R560 item 1: neither copy of the pointer is valid. -/
def bootNoPointer (s : State) : State :=
  let s0 := s.raise 0x3D islNVF 0
  let put := fun (b : Nat) (t : State) => bootBank b (ptrWrite (fun _ =>
    { active := b, pstate := 2, vera := bankVer t 0, verb := bankVer t 1 }) t)
  let a := checkBank 0 s0
  if a.1 = 0 then put 0 a.2
  else
    let b := checkBank 1 a.2
    if b.1 = 0 then put 1 b.2 else noBank b.2

/-- R560 item 4: the chosen bank is checked; a bank that fails gives way to one that passes. -/
def bootChosen (b : Nat) (s : State) : State :=
  let a := checkBank b s
  if a.1 = 0 then bootBank b a.2
  else
    let o := checkBank (1 - b) (a.2.raise 0x3D islNVF 0)
    if o.1 = 0 then bootBank (1 - b) (revertTo (1 - b) o.2) else noBank o.2

/-- The kernel store's directory holds the images whose sectors can be used (R552, R554). -/
def storeScan (s : State) : State :=
  let bad := fun (k : KImg) => k.sects.any fun n => s.nv.incomp.testBit n
  let gone := (s.nv.kstore.filter fun (k : Nat × KImg) => bad k.2).flatMap fun k => k.2.sects
  let lost := ksSectors.filter fun n => s.nv.incomp.testBit n && !gone.contains n && !s.nv.ksErase.contains n
  { s with nv := { s.nv with
    kstore := s.nv.kstore.filter fun (k : Nat × KImg) => !bad k.2
    ksErase := s.nv.ksErase ++ gone ++ lost } }

/-- Step 5 (R560). [DEDUCED, log 10] -/
def imageCheck (s : State) : State :=
  if !s.cpRuns ∨ s.fg R.RST_STAT_STEP ≠ 4 ∨ s.rst.noImage then s
  else
    let s1 := storeScan s
    if s1.nv.ptrA.isNone ∧ s1.nv.ptrB.isNone then bootNoPointer s1
    else if s1.bank.pstate = 1 then
      if s1.bank.tbase + 3 ≤ s1.cnt 1 then bootChosen s1.otherBank (revertTo s1.otherBank s1)
      else bootChosen s1.bank.active (s1.countUp 1)
    else bootChosen s1.bank.active s1

def execImageCheck (s : State) := run imageCheck s

/-- Step 6: the firmware loads the safety set, HEAD and the THM configuration; the watchdog's limit is RST_WDT.TIMEOUT. -/
def firmwareStart (s : State) : State :=
  if !s.cpRuns ∨ s.fg R.RST_STAT_STEP ≠ 5 then s
  else
    let s1 := { s with rst := { s.rst with kickAt := s.lt, stepAt := s.lt } }
    let s2 := if s1.fb R.SAF_STAT_LOADED ∨ s1.rst.setTried then s1
      else safetySetLoad { s1 with rst := { s1.rst with setTried := true } }
    let s3 := toneHead ((Smap.get resetWord s2.nv.cfg R.FLT_TONE).toNat.testBit 0) s2
    let thm := s3.nv.cfg.filter fun (e : Nat × Word) => decide (0x190000 ≤ e.1 ∧ e.1 < 0x1A0000)
    (thm.foldl (fun t (e : Nat × Word) => applyWrite e.1 e.2 t) s3).fs R.RST_STAT_STEP 6

def execFirmwareStart (s : State) := run firmwareStart s

/-- Step 7: the ports take their configuration (R351). -/
def releasePortTraining (s : State) : State :=
  if !s.cpRuns ∨ s.fg R.RST_STAT_STEP ≠ 6 then s
  else
    let s1 := { s.fs R.RST_STAT_STEP 7 with rst := { s.rst with stepAt := s.lt } }
    (List.range s1.portsFit).foldl (fun t p => (pctlWrite p (Smap.get resetWord t.nv.cfg (R.TRV_PCTL p)) t).2) s1

def execReleasePortTraining (s : State) := run releasePortTraining s

/-- Step 10. -/
def parcelsRunning (s : State) : State :=
  if s.cpRuns ∧ s.fg R.RST_STAT_STEP = 9 then
    { s.fs R.RST_STAT_STEP 10 with pwr := { s.pwr with step10 := some s.lt } }
  else s

def execParcelsRunning (s : State) := run parcelsRunning s

/-- NOCOMM: 10 s after step 10 the station is in service (R521). -/
def standAloneEnd (s : State) : State :=
  match s.pwr.step10 with
  | some t => if s.fb R.PWR_CTRL_NOCOMM ∧ s.due t 10000000000 then { s with pwr := { s.pwr with served := true } } else s
  | none => s

def execStandAloneRecoveryEnd (s : State) := run standAloneEnd s

/-- 5 s after step 8 began without a good roll-call, communication counts as lost in START-UP (R521). -/
def startupLoss (s : State) : State :=
  match s.pwr.step8 with
  | some t =>
    if s.pwr.goodAt.isNone ∧ s.service = 0 ∧ s.due t 5000000000 then { s with pwr := { s.pwr with startLoss := true } } else s
  | none => s

def execStartupCommunicationTimeout (s : State) := run startupLoss s

end Sys2Proof.Machine
end

