-- ==== Sys2Proof/Machine/SelfTest.lean ====
section
/-! DEFINITION. Self-test (R503 to R509): the meanings of the rows POWER_UP_SELF_TEST and SPARE_VISIT to SELF_TEST_NOW. -/
namespace Sys2Proof.Machine

/-! ## Retired plots (R300, R504, R507) -/

/-- The fitted plots that are not retired. -/
def liveRotation (s : State) : List Nat := (List.range s.plotsFit).filter fun p => !s.isRetired p

/-- BST_ROT.NROT (R515). -/
def State.nrot (s : State) : Nat := if s.variant == .jx4810 then 0 else (liveRotation s).length

/-- The plot that the rotation visits after plot `p`: the next one in ascending order that is not retired, and from the
highest on the first again (R505). -/
def nextCursor (s : State) (p : Nat) : Nat :=
  match (liveRotation s).find? fun k => decide (p < k) with
  | some k => k
  | none => (liveRotation s).headD 0

/-- The plot is retired and recorded in NV; its quarter-plots go off (R520), and a visit that it was next for goes to the plot
after it. -/
def retirePlot (p : Nat) (s : State) : State :=
  let all := setBit (s.nv.retired ||| s.fg R.ENG_RETIRED_RET) p true
  let s0 := (s.setReg R.ENG_RETIRED (w32 all)).fs R.ENG_STAT_NRET (popCount 32 all)
  let s1 := vacate p psRETIRED (if s0.fg R.BST_ROT_CURSOR = p then s0.fs R.BST_ROT_CURSOR (nextCursor s0 p) else s0)
  let s2 := (List.range 4).foldl (fun t q => domReqOff (domQP p q) t) s1
  nvCommit { kind := 5, retired := some all } s2

/-- BST_STAT.HOLD and RST_CAUSE[10]: a block is held in reset (R504). -/
def holdBlock (s : State) : State := (s.fs R.BST_STAT_HOLD 1).fbit R.RST_CAUSE_CAUSE 10 true

/-- A plot fails a test of R503: PL00 and PL01 are safety blocks, any other plot is retired with 0x3C; `q` is the parcel
whose slot held it (R504, R481). -/
def plotFails (q p : Nat) (s : State) : State :=
  let s1 := retirePlot p (s.fbit R.BST_PLFAIL_PLOT p true)
  if p < 2 then
    let s2 := s1.raise 0x0A islTST (256 * p)
    { s2 with rst := { s2.rst with p0Held := true, held := s2.rst.held ++ [p] } }
  else
    let s2 := s1.raise 0x3C islTST (256 * p + q)
    { s2 with rst := { s2.rst with held := s2.rst.held ++ [p] } }

/-- Step 4; `cp`, `fab` and `plots` name the blocks that fail. With a failed CP no firmware runs and the release stays
here. [DESIGN CHOICE, log 136] -/
def powerUpSelfTest (cp fab : Bool) (plots : BitVec 32) (s : State) : State :=
  if !s.cpRuns ∨ s.fg R.RST_STAT_STEP ≠ 3 then s
  else
    let s0 := s.fs R.BST_STAT_CPF (b2n s.rst.cpFailed)
    if cp then
      let s1 := holdBlock ((s0.fs R.BST_STAT_CPF 1).raise 0x0A islTST 0x2000)
      { s1 with rst := { s1.rst with cpHeld := true, cpFailed := true } }
    else
      let s1 := { s0 with rst := { s0.rst with cpFailed := false } }
      let s2 := if fab then
          let t := holdBlock ((s1.fs R.BST_STAT_FABF 1).raise 0x0A islTST 0x4000)
          { t with rst := { t.rst with fabHeld := true } }
        else s1
      let tested := (List.range s2.plotsFit).filter fun p => !s2.nv.retired.testBit p
      let bad := tested.filter fun p => plots.toNat.testBit p
      let s3 := bad.foldl (fun t p => plotFails 0 p t) s2
      let s4 := if bad = [] then s3 else holdBlock s3
      let s5 := (s4.fs R.BST_STAT_NPLF bad.length).fs R.BST_STAT_DONE 1
      { s5.fs R.RST_STAT_STEP 4 with rst := { s5.rst with stepAt := s5.lt } }

def execPowerUpSelfTest (cp fab : Bool) (plots : BitVec 32) (s : State) := run (powerUpSelfTest cp fab plots) s

/-! ## The rotation (R505 to R508) -/

/-- The plot of the next visit: the cursor, or the first plot in rotation after it. -/
def visitPlot (s : State) : Option Nat :=
  let l := liveRotation s
  match l.find? fun p => decide (s.fg R.BST_ROT_CURSOR ≤ p) with
  | some p => some p
  | none => l.head?

/-- A visit to plot `p` must wait (R508). -/
def visitDeferred (s : State) (p : Nat) : Bool :=
  let q := match s.placed p with | some (q, _) => q | none => 8
  s.cad.deed.isSome || s.fg R.BST_CTL_RESULT == 1 || (s.plot p).shut || (s.plot s.spare).shut
  || (s.arr.loads.any fun l => l.plots.any fun e => e.1 == p)
  || (s.fab.pend.any fun (e : Nat × Nat × Nat × Nat × Word × Word) => e.2.1 == q)

/-- The plot's engines and memories are reset under isolation, and its test begins. -/
def beginTest (p : Nat) (s : State) : State := (vacate p psTEST (plotReset p s)).fs R.BST_STAT_TESTPLOT p

/-- The slot on `p` begins its move to the spare: a copying move from its freeze epoch, or a parallel one (R506). -/
def beginMove (q slot p : Nat) (s : State) : State :=
  let par := (engines p).any fun x => (s.engine x).key != 0 && (s.engine x).par
  let e := firstMultiple 1024 2000 s.now
  let s1 := (List.range 4).foldl (fun t k => domReqOn (domQP s.spare k) t) s
  scheduleMove { q := q, slot := slot, src := p, dst := s.spare, parallel := par, epoch := e } s1

/-- SPARE_VISIT. [DEDUCED, log 138] -/
def spareVisit (s : State) : State :=
  let gap := 1000000000 * s.fg R.BST_ROT_PERIOD / max 1 s.nrot
  let early : Bool := match s.bst.visitAt, s.bst.triedAt with
    | some t, none => !s.due t gap
    | some t, some r => !s.due t gap || !s.due r 1000000000
    | none, some r => !s.due r 1000000000
    | none, none => false
  if !s.cpRuns || s.nrot == 0 || !s.fb R.BST_ROT_EN || decide (32 ≤ s.spare) || !s.fb R.CAD_STAT_RESTORED || early
    || s.arr.move.isSome || s.fg R.BST_STAT_TESTPLOT != 0x3F then s
  else match visitPlot s with
    | none => s
    | some p =>
      if visitDeferred s p then { s with bst := { s.bst with triedAt := some s.lt } }
      else
        let s1 := { s.fs R.BST_ROT_CURSOR (nextCursor s p) with
          bst := { s.bst with visitAt := some s.lt, triedAt := none } }
        if p = s.spare then s1
        else match s.placed p with
          | some (q, slot) => beginMove q slot p { s1 with bst := { s1.bst with parcel := q + 1, slot := slot } }
          | none =>
            let s2 := (List.range 4).foldl (fun t k => domReqOn (domQP p k) t) s1
            beginTest p { s2 with bst := { s2.bst with parcel := 0 } }

def execSpareVisit (s : State) := run spareVisit s

/-- The result of an online test of plot `p`: 1 pass, 2 fail, 3 abandoned. -/
def testResult (r p : Nat) (s : State) : State :=
  let s1 := ((s.fs R.BST_LAST_RESULT r).fs R.BST_LAST_PLOT p).fs R.BST_STAT_TESTPLOT 0x3F
  let s2 := s1.inc (if r = 1 then R.BST_ONL_PASS else if r = 2 then R.BST_ONL_FAIL else R.BST_ONL_ABAND)
  if r = 3 then s2 else s2.fbit R.BST_PLFAIL_PLOT p (r == 2)

/-- The plot has passed: a free plot is free again, a tenant's becomes the spare, and P0's slot moves back to PL00 or
PL01 in parallel (R268, R506). -/
def testPassed (p : Nat) (s : State) : State :=
  let s1 := testResult 1 p s
  if s.bst.parcel = 0 then plotRefresh p (vacate p psOFF s1)
  else if s.bst.parcel = 1 ∧ p < 2 then
    match s1.slotPlot 0 s.bst.slot with
    | some src =>
      let m : Move := { q := 0, slot := s.bst.slot, src := src, dst := p, parallel := true, epoch := firstMultiple 1024 2000 s1.now, test := false }
      scheduleMove m (vacate p psOFF s1)
    | none => setSpare p s1
  else setSpare p s1

/-- The plot has failed: slots that were without a plot take one (R300), it is retired, and the spare that took its slot is
replaced (R507). -/
def testFailed (p : Nat) (s : State) : State :=
  let q := s.bst.parcel - 1
  let s1 := (retirePlot p (testResult 2 p (placeAll s))).raise 0x3C islTST (256 * p + q)
  if s.bst.parcel = 0 then s1
  else if q = 0 then findSpare s1
  else match (s1.arr.place.filter fun (e : Nat × Nat) => e.1 / 32 == q && e.2 != 0).getLast? with
    | some (k, d) => placedRefresh (setSpare (d - 1) (unplaceSlot q (k % 32) s1))
    | none => findSpare s1

/-- PLOT_TEST_COMPLETE. -/
def plotTestComplete (ok : Bool) (s : State) : State :=
  let p := s.fg R.BST_STAT_TESTPLOT
  if 32 ≤ p ∨ s.plotState p ≠ psTEST then s
  else if ok then testPassed p s else testFailed p s

def execPlotTestComplete (ok : Bool) (s : State) := run (plotTestComplete ok) s

/-! ## Patrol and test on request (R509) -/

/-- The patrol reads words of plot `p`: 0 no error, 1 a corrected one, 2 an uncorrectable one (R243). -/
def memoryPatrol (p e : Nat) (s : State) : State :=
  if s.plotsFit ≤ p ∨ e = 0 then s
  else if e = 1 then s.inc (R.ENG_PLECC_COR p)
  else
    let q := match s.placed p with | some (q, _) => q | none => 0
    ((s.inc (R.ENG_PLECC_UNCOR p)).fs (R.ENG_PLFLT_ECCU p) 1).raise 0x41 p (256 * p + q)

def execMemoryPatrol (p : Fin 32) (e : Fin 3) (s : State) := run (memoryPatrol p.val e.val) s

/-- A test on request: every kernel stops, every plot that is not retired is tested, those in `bad` are retired, the recorded
kernels load again. [DEDUCED, log 137] -/
def testAll (bad : BitVec 32) (s : State) : State :=
  let s0 := failLoads .blockReset (fun _ => true) (dropMove s)
  let tested := liveRotation s0
  let s1 := tested.foldl (fun t p => plotReset p t) s0
  let old := s1.fg R.BST_STAT_TESTPLOT
  let s2 := if old < 32 then vacate old psOFF (s1.fs R.BST_STAT_TESTPLOT 0x3F) else s1
  let fails := tested.filter fun p => bad.toNat.testBit p
  let s3 := fails.foldl (fun t p =>
    let q := match t.placed p with | some (q, _) => q | none => 0
    let t1 := { t with arr := { t.arr with place := t.arr.place.map fun (e : Nat × Nat) => if e.2 = p + 1 then (e.1, 0) else e } }
    plotFails q p { t1 with arr := { t1.arr with place := t1.arr.place.filter fun (e : Nat × Nat) => e.2 != 0 } }) s2
  let s4 := if fails = [] then s3 else holdBlock (placedRefresh s3)
  let s5 := if s4.fb R.CAD_STAT_RESTORED ∧ (32 ≤ s4.spare ∨ fails.contains s4.spare) then findSpare s4 else s4
  let s6 := (List.range s5.plotsFit).foldl (fun t p => reloadPlot p t) s5
  s6.fs R.BST_CTL_RESULT (if fails = [] then 2 else 3)

/-- A write of BST_CTL; `bad` names the plots that fail. -/
def bstCtlWrite (bad : BitVec 32) (v : Word) (s : State) : Stat × State :=
  if wf v R.BST_CTL_RUNNOW ≠ 1 then (.ok, s)
  else if s.energised then (.safetyLock, s)
  else (.ok, testAll bad s)

def execSelfTestNow (bad : BitVec 32) (v : Word) (s : State) :=
  run (direct R.BST_CTL (w32 (setBit v.toNat 31 true)) (bstCtlWrite bad)) s

end Sys2Proof.Machine
end

