-- ==== Sys2Proof/Machine/Thermal.lean ====
section
/-! DEFINITION. Temperatures and thermal limits (R528 to R536): the meanings of the rows HOUSEKEEPING_ROUND and
THERMAL_STEP_INTERVAL, and the writes of THM registers. -/
namespace Sys2Proof.Machine

/-! ## Conversion (R528 to R530) -/

/-- The usable results of sensor `k` that completed in the last 100 ms, with the right RAT for a TS input. -/
def recentTemps (s : State) (k : Nat) : List Int :=
  let rat := if s.fg (R.THM_S_W5_MODE k) = 1 then 1 else 0
  (s.thm.acc.filter fun (e : Nat × Nat × Nat × Int) =>
    e.1 == k && decide (s.lt < e.2.1 + 100000000) && (k == 17 || e.2.2.1 == rat)).map fun e => e.2.2.2

/-- A temperature in 0.01 degrees, if the format holds it. -/
def inTempRange (t : Int) : Option Int := if -32768 ≤ t ∧ t ≤ 32767 then some t else none

/-- The NTC equation on the mean of `n` results with sum `sum` (R529); none where it gives no temperature.
[DEDUCED, log 142] -/
def ntcTemp (rp b r0 n : Nat) (sum : Int) : Option Int :=
  let d := sum.toNat
  let one : Int := 2 ^ 80
  let l := lnFix (rp * d) (10000 * r0 * (n * 2 ^ 18 - d))
  let den := 100 * (b : Int) * one + 29815 * l
  if d = 0 ∨ n * 2 ^ 18 ≤ d ∨ r0 = 0 ∨ den ≤ 0 then none
  else inTempRange (roundDiv (29815 * (b : Int) * 100 * one) den - 27315)

/-- The diode equation (R529). -/
def diodeTemp (sl : Int) (v25 n : Nat) (sum : Int) : Option Int :=
  if sl = 0 ∨ n = 0 then none
  else inTempRange (2500 + roundDiv (100 * (25 * sum - ((500000 + 100 * v25) * n : Nat))) (sl * n))

/-- The stack-die sensor with its trim (R528). -/
def dieTemp (s : State) (n : Nat) (sum : Int) : Option Int :=
  if s.nv.dieS = 0 ∨ n = 0 then none
  else inTempRange (roundDiv (100000 * (25 * sum - ((500000 + s.nv.dieV0) * n : Nat))) ((s.nv.dieS * n : Nat) : Int))

/-- What a sensor gives in a round. -/
inductive Sensed where
  | invalid
  | temp (t : Int)
  /-- the rules state no temperature for these results -/
  | unstated
  deriving DecidableEq, Repr

def Sensed.of : Option Int → Sensed
  | some t => .temp t
  | none => .unstated

/-- The reading of sensor `k`; `j` gives the system-die readings. Sensor 17 keeps its temperature when no slot has
measured it. -/
def sensed (s : State) (j : List (BitVec 16)) (k : Nat) : Sensed :=
  let l := recentTemps s k
  let sum := l.foldl (· + ·) 0
  let mode := s.fg (R.THM_S_W5_MODE k)
  if 18 ≤ k then .temp (asInt 16 (j.getD (k - 18) 0).toNat)
  else if k = 17 then (if l = [] then .temp (s.fi (R.THM_S_W0_TEMP k)) else Sensed.of (dieTemp s l.length sum))
  else if l = [] then .invalid
  else if mode = 1 then
    Sensed.of (ntcTemp (Smap.get (fun _ => 10000000) s.nv.ntcRp k) (s.fg (R.THM_S_W6_B k)) (s.fg (R.THM_S_W6_R0 k)) l.length sum)
  else if mode = 2 then Sensed.of (diodeTemp (s.fi (R.THM_S_W6_B k)) (s.fg (R.THM_S_W6_R0 k)) l.length sum)
  else .invalid

/-! ## Levels (R531 to R533, R536) -/

/-- A level at the end of a round (R531). -/
def levelNext (old always : Bool) (th : Int) (hy : Nat) (t : Int) : Bool :=
  if th = 0x7FFF ∧ !always then false else if old then decide (th - 10 * hy ≤ t) else decide (th ≤ t)

/-- Bit `i` of the LVL field: 0 WARN, 1 THROT, 2 SHUT, 3 RATE, 4 VALID. -/
def State.lvl (s : State) (k i : Nat) : Bool := s.tb (R.THM_S_W0_LVL k) i
def setLvl (k i : Nat) (b : Bool) (s : State) : State := s.fbit (R.THM_S_W0_LVL k) i b

/-- A sensor acts as at its throttle level. -/
def State.throttled (s : State) (k : Nat) : Bool := s.lvl k 1 || s.lvl k 3

/-- A shutdown record waits in SYAO for NV, or is lost (R536). [DEDUCED, log 144] -/
def waitRecord (k : Nat) (s : State) : State :=
  let r := (s.now / 1000000000 % 2 ^ 32, s.fg (R.THM_S_W0_TEMP k), k, s.fg (R.THM_S_W5_REACT k))
  if 8 ≤ s.thm.waitSd.length then s.inc R.THM_STAT_SDLOST
  else { s with thm := { s.thm with waitSd := s.thm.waitSd ++ [r] } }

/-- Entry into the shutdown level (R533, R536). -/
def shutEnter (k : Nat) (s : State) : State :=
  if k ≤ 16 then waitRecord k (s.raiseAs (if s.fb (R.THM_S_W5_REACT k) then 3 else 2) 0x0B islHKP k)
  else s.raise 0x3F islHKP k

/-- The rate condition after a valid round (R532); `h` holds the temperatures, newest first. -/
def rateStep (k : Nat) (t : Int) (h : List (Option Int)) (s : State) : State :=
  let lim := s.fg (R.THM_S_W4_RLIM k)
  let w := s.fg (R.THM_S_W4_RWIN k)
  let put := fun (n : Nat) (s : State) => { s with thm := { s.thm with calm := Smap.set (fun _ => 0) s.thm.calm k n } }
  if lim = 0 then put 0 (setLvl k 3 false s)
  else match h.getD (10 * w) none with
    | none => put 0 s
    | some t0 =>
      if ((lim * w : Nat) : Int) < t - t0 then put 0 (setLvl k 3 true s)
      else
        let n := Smap.get (fun _ => 0) s.thm.calm k + 1
        put n (if 10 * w ≤ n then setLvl k 3 false s else s)

/-- Pushes a round's temperature; 60 s are kept. -/
def pushHist (k : Nat) (t : Option Int) (s : State) : State :=
  let h := Smap.get (fun _ => []) s.thm.hist k
  { s with thm := { s.thm with hist := Smap.set (fun _ => []) s.thm.hist k (t :: h.take 600) } }

/-- The number of rounds in a row in which the input has been invalid. -/
def setInval (k n : Nat) (s : State) : State :=
  { s with thm := { s.thm with inval := Smap.set (fun _ => 0) s.thm.inval k n } }

/-- A round of an invalid input: it keeps its temperature and levels; with INVSD, 10 rounds count as shutdown. -/
def invalidRound (k : Nat) (s : State) : State :=
  let n := Smap.get (fun _ => 0) s.thm.inval k + 1
  let s1 := setInval k n (pushHist k none (setLvl k 4 false s))
  if s1.fb (R.THM_S_W5_INVSD k) ∧ 10 ≤ n ∧ !s1.lvl k 2 then shutEnter k (setLvl k 2 true s1) else s1

/-- A round with a temperature: the levels, the rate, and the sources of the conditions entered. -/
def validRound (k : Nat) (t : Int) (s : State) : State :=
  let s1 := setLvl k 4 true (s.fs (R.THM_S_W0_TEMP k) (ofInt 16 t))
  let s2 := setInval k 0 (pushHist k (some t) { s1 with thm := { s1.thm with ever := setBit s1.thm.ever (k - 1) true } })
  let warn := levelNext (s.lvl k 0) false (s.fi (R.THM_S_W1_TH k)) (s.fg (R.THM_S_W1_HY k)) t
  let thr := levelNext (s.lvl k 1) false (s.fi (R.THM_S_W2_TH k)) (s.fg (R.THM_S_W2_HY k)) t
  let shut := levelNext (s.lvl k 2) (decide (18 ≤ k)) (s.fi (R.THM_S_W3_TH k)) (s.fg (R.THM_S_W3_HY k)) t
  let s3 := setLvl k 2 shut (setLvl k 1 thr (setLvl k 0 warn s2))
  let s4 := rateStep k t (Smap.get (fun _ => []) s3.thm.hist k) s3
  let s5 := if warn ∧ !s.lvl k 0 then s4.raise 0x6C islHKP k else s4
  let s6 := if s5.throttled k ∧ !s.throttled k then s5.raise 0x3E islHKP k else s5
  if shut ∧ !s.lvl k 2 then shutEnter k s6 else s6

/-- The round of one sensor. [DESIGN CHOICE, log 143] -/
def sensorRound (j : List (BitVec 16)) (k : Nat) (s : State) : State :=
  let s1 := match sensed s j k with
    | .invalid => invalidRound k s
    | .temp t => validRound k t s
    | .unstated => let (f, s1) := s.free; validRound k (asInt 16 (f % 65536)) s1
  ((s1.fbit R.THM_WSUM_SENS (k - 1) (s1.lvl k 0)).fbit R.THM_TSUM_SENS (k - 1) (s1.throttled k)).fbit
    R.THM_SSUM_SENS (k - 1) (s1.lvl k 2)

/-! ## Thermal steps (R534) -/

/-- The plot step, with the clocks of all plots (R259). -/
def setPlotStep (n : Nat) (s : State) : State :=
  (List.range s.plotsFit).foldl (fun t p => plotClockStep p t) (s.fs R.THM_STEP_PLOT n)

/-- The converter step, carried to the stack half while messages reach it. -/
def setConvStep (n : Nat) (s : State) : State :=
  let s1 := s.fs R.THM_STEP_CONV n
  if s1.downWorks then updateRate false { s1 with smp := { s1.smp with thermRate := n } } else s1

/-- Islands that the junction throttle level slows beside the plots: CP, NVF, TST and HSB. [DEDUCED, log 145] -/
def slowIslands (b : Bool) (s : State) : State :=
  [islCP, islNVF, islTST, 61].foldl (fun t i => setIsland i (b2n b) t) (s.fs R.THM_STEP_CP (b2n b))

/-- One step slower or faster, as the junction throttle level and sensor 17 ask. -/
def plotStepMove (s : State) : State :=
  let n := s.fg R.THM_STEP_PLOT
  setPlotStep (if s.fb R.THM_STAT_JTHR then min 3 (n + 1) else n - 1) s

def convStepMove (s : State) : State :=
  let n := s.fg R.THM_STEP_CONV
  if s.lvl 17 2 then setConvStep 3 s
  else setConvStep (if s.throttled 17 then min 2 (n + 1) else n - 1) s

/-- The levels of the stack die and of the junctions take effect. -/
def stepLevels (was17 wasShut17 : Bool) (s : State) : State :=
  let jthr := [18, 19, 20, 21].any fun k => s.throttled k
  let s1 := if jthr = s.fb R.THM_STAT_JTHR then s
    else
      let t := slowIslands jthr (s.fs R.THM_STAT_JTHR (b2n jthr))
      plotStepMove { t with thm := { t.thm with plotAt := t.lt } }
  if s1.lvl 17 2 then (if s1.fg R.THM_STEP_CONV = 3 then s1 else setConvStep 3 s1)
  else if wasShut17 ∧ s1.throttled 17 then
    setConvStep 2 { s1 with thm := { s1.thm with convAt := s1.lt } }
  else if wasShut17 ∨ was17 ≠ s1.throttled 17 then convStepMove { s1 with thm := { s1.thm with convAt := s1.lt } }
  else s1

/-- DRC and DPHY run at their degraded steps while the capture memory needs more than its normal refresh. -/
def dramStep (hot : Bool) (s : State) : State :=
  if !s.capFit then s
  else [islDRC, 52].foldl (fun t i => setIsland i (b2n hot) t) (s.fs R.THM_STEP_DRAM (b2n hot))

/-- THERMAL_STEP_INTERVAL. -/
def thermalStepInterval (s : State) : State :=
  let d := 100000000 * s.fg R.THM_CTRL_STEPINT
  let s1 := if s.due s.thm.plotAt d then plotStepMove { s with thm := { s.thm with plotAt := s.lt } } else s
  if s1.due s1.thm.convAt d then convStepMove { s1 with thm := { s1.thm with convAt := s1.lt } } else s1

def execThermalStepInterval (s : State) := run (fun s => if s.sysUp then thermalStepInterval s else s) s

/-! ## Junction shutdown (R535) -/

/-- A plot that P0 does not hold goes off; THSD records that it held a kernel. -/
def shutPlot (p : Nat) (s : State) : State :=
  let kern := (engines p).any fun x => (s.engine x).key != 0
  let s1 := plotReset p (if kern then s.fs (R.ENG_PLFLT_THSD p) 1 else s)
  let s2 := failLoads .blockReset (loadNames p) (s1.setPlot p { s1.plot p with shut := true })
  (List.range 4).foldl (fun t q => domReqOff (domQP p q) t) s2

/-- A test in progress is abandoned, and a move with it (R508, R535). -/
def abandonTest (s : State) : State :=
  let s0 := dropMove s
  let p := s0.fg R.BST_STAT_TESTPLOT
  if p < 32 then
    let s1 := vacate p psOFF (testResult 3 p s0)
    { s1 with bst := { s1.bst with aband := some p } }
  else s0

/-- The junction shutdown follows the shutdown levels of sensors 18 to 21. -/
def junctionShutdown (s : State) : State :=
  let shut := [18, 19, 20, 21].any fun k => s.lvl k 2
  if shut ∧ !s.fb R.THM_STAT_JSHUT then
    let s1 := abandonTest (s.fs R.THM_STAT_JSHUT 1)
    let held := fun (p : Nat) => match s1.placed p with | some (q, _) => q == 0 | none => false
    ((List.range s1.plotsFit).filter fun p => !s1.isRetired p && !held p).foldl (fun t p => shutPlot p t) s1
  else if !shut ∧ s.fb R.THM_STAT_JSHUT then s.fs R.THM_STAT_JSHUT 0
  else s

/-- HOUSEKEEPING_ROUND: `j` holds the readings of J0 to J3 in 0.01 degrees, `hot` what the capture memory reports. -/
def housekeepingRound (j : List (BitVec 16)) (hot : Bool) (s : State) : State :=
  if !s.sysUp ∨ !s.domOn domHKP then s
  else
    let t := max ((s.now + 99999999) / 100000000 * 100000000) (s.thm.roundAt + 100000000)
    let s0 := s.until t
    let s1 := { s0 with thm := { s0.thm with roundAt := t } }
    let was := s1.throttled 17
    let wasShut := s1.lvl 17 2
    let s2 := s1.each (upTo 21) (sensorRound j)
    let s3 := dramStep hot (junctionShutdown (stepLevels was wasShut s2))
    commitRecord (s3.fs R.THM_STAT_ROUND ((s.fg R.THM_STAT_ROUND + 1) % 256))

def execHousekeepingRound (j0 j1 j2 j3 : BitVec 16) (hot : Bool) (s : State) := run (housekeepingRound [j0, j1, j2, j3] hot) s

/-! ## Writes of THM registers (R531, R536, R542) -/

/-- Enabled thresholds in order: warning at most throttle, throttle at most shutdown. -/
def thresholdsOk (always : Bool) (w t d : Int) : Bool :=
  let on_ := fun (x : Int) => x != 0x7FFF
  (!(on_ w && on_ t) || decide (w ≤ t)) && (!(on_ t && (always || on_ d)) || decide (t ≤ d))

/-- MODE fits R0, B and S: word 5 `a`, word 6 `b`. -/
def biasOk (a b : Word) : Bool :=
  let m := a.toNat % 4
  m == 0 || (m == 1 && b.toNat / 65536 != 0 && b.toNat % 65536 != 0) || (m == 2 && b.toNat / 65536 != 0)

/-- What a write of word `w` of sensor `k` fails, if anything. -/
def sensorBad (s : State) (k w : Nat) (v : Word) : Bool :=
  let th := fun (i : Nat) => asInt 16 ((if w = i then v else s.reg (R.THM_S_W0 k + 4 * i)).toNat / 65536)
  if 1 ≤ w ∧ w ≤ 3 then
    (18 ≤ k && w == 3 && !(decide (10000 ≤ th 3 ∧ th 3 ≤ 12500))) || !thresholdsOk (decide (18 ≤ k)) (th 1) (th 2) (th 3)
  else if w = 4 then !(decide (1 ≤ v.toNat % 64 ∧ v.toNat % 64 ≤ 60))
  else if w = 5 then v.toNat % 4 == 3 || !biasOk v (s.reg (R.THM_S_W6 k))
  else if w = 6 then !biasOk (s.reg (R.THM_S_W5 k)) v
  else false

/-- A write of a THM register. -/
def thmWrite (a : Nat) (v : Word) (s : State) : Stat × State :=
  if a = R.THM_CTRL then
    if wf v R.THM_CTRL_STEPINT < 1 ∨ 100 < wf v R.THM_CTRL_STEPINT then (.badParam, s)
    else keeping a (fun v s => (.ok, applyWrite a v s)) v s
  else if a < 0x190100 then (.ok, s)
  else
    let k := (a - 0x190100) / 32 + 1
    let w := (a - 0x190100) % 32 / 4
    let old := s.reg a
    if 17 ≤ k ∧ 5 ≤ w then (.ok, s)
    else if sensorBad s k w v then (.badParam, s)
    else if s.energised ∧ k ≤ 16 ∧ (w = 3 ∧ old ≠ v ∨ w = 5 ∧ old.toNat / 256 ≠ v.toNat / 256) then (.safetyLock, s)
    else keeping a (fun v s => (.ok, applyWrite a v s)) v s

/-- THM_SDLOGk and THM_STAT.NEWEST as read from NV (R536, R542); others as stored. -/
def thmWord (s : State) (a : Nat) : Word :=
  let n := s.nv.sdlog.length
  if a = R.THM_STAT then w32 (withBits (s.reg a).toNat 16 3 (n - 1))
  else if 0x190040 ≤ a ∧ a < 0x190080 then
    let e := s.nv.sdlog.getD ((a - 0x190040) / 8) (0, 0, 0, 0)
    if a % 8 = 0 then w32 e.1 else w32 (e.2.1 * 65536 + e.2.2.2 * 256 + e.2.2.1)
  else s.reg a

end Sys2Proof.Machine
end

