-- ==== Sys2Proof/Machine/Power.lean ====
section
/-! DEFINITION. Sleep, wake and supplies (R516 to R527, R539, R540): the meanings of the rows SLEEP_NOTICE,
COMMUNICATION_LOSS_TIMEOUT to STACK_WAKE, CAPTURE_MEMORY_OFF, FLASH_IDLE_OFF and VISO_CHANGEOVER. -/
namespace Sys2Proof.Machine

/-! ## Sleep entry (R524, R526) -/

/-- Capture stops at sleep entry: a recording buffer closes its block and freezes with STOP disabled. -/
def captureStop (s : State) : State :=
  (List.range 16).foldl (fun t k =>
    let st := t.fg (R.CAP_B_W6_STATE k)
    if st = 2 ∨ st = 3 then capFreeze 2 k t else t) s

/-- Kernel and firmware sessions close (R432). -/
def closeSessions (s : State) : State :=
  let lost := s.arr.stages.flatMap fun k => k.2.sects
  flashBackground { s with
    arr := { s.arr with stages := [] }, fls := { s.fls with sess := none }
    nv := { s.nv with ksErase := s.nv.ksErase ++ lost } }

/-- Steps 1 to 3. [DEDUCED, log 140] -/
def sleepEntry (s : State) : State :=
  if s.fb R.PWR_STAT_SLEEP then s
  else
    let s1 := { s.fs R.PWR_STAT_SLEEP 1 with pwr := { s.pwr with pendAt := some s.lt } }
    let s2 := if s1.energised then scs0 cSLEEP 0 0 s1 else s1
    let s3 := commitSnapshot (closeSessions (captureStop s2))
    if bufFrozen s3 then s3 else { s3 with nvBuf := none }

/-- TLOSS ends (R522). -/
def lossTimeout (s : State) : State :=
  match s.pwr.lossAt with
  | some t =>
    if s.cpRuns && s.commLost && s.service == 3 && s.fg R.PWR_CTRL_TLOSS != 0 && s.due t (100000000 * s.fg R.PWR_CTRL_TLOSS) then sleepEntry s
    else s
  | none => s

def execCommunicationLossTimeout (s : State) := run lossTimeout s

/-- The capture memory goes off and its contents are lost (R520, R568). -/
def captureOff (s : State) : State := tapRefresh (capLost (domReqOff domDPHY (domReqOff domDRAM (dmaCaptureGone s))))

/-- A write of PWR_CTRL (R520, R524, R540). [DEDUCED, log 141] -/
def pwrCtrlWrite (v : Word) (s : State) : Stat × State :=
  let t := wf v R.PWR_CTRL_TLOSS
  let off := wf v R.PWR_CTRL_CAPOFF == 1
  let records := (List.range 16).any fun k => s.fg (R.CAP_B_W6_STATE k) == 2 || s.fg (R.CAP_B_W6_STATE k) == 3
  if (1 ≤ t ∧ t ≤ 9) ∨ 6000 < t then (.badParam, s)
  else if off && s.capFit && records then (.refused, s)
  else
    let s1 := applyWrite R.PWR_CTRL v s
    let s2 := if off && s.capFit && !s.fb R.PWR_CTRL_CAPOFF then captureOff s1 else s1
    (.ok, if wf v R.PWR_CTRL_SLEEPNOW = 1 then sleepEntry s2 else s2)

def execSleepNow (v : Word) (s : State) :=
  run (direct R.PWR_CTRL (w32 (setBit v.toNat 31 true)) pwrCtrlWrite) s
def execCaptureMemoryOff (v : Word) (s : State) :=
  run (direct R.PWR_CTRL (w32 (setBit v.toNat 30 true)) pwrCtrlWrite) s

/-- Step 4: NV is done, or 500 ms have passed; a SOC that still asserts RUN lets it go. -/
def sleepNoticeSend (s : State) : State :=
  match s.pwr.pendAt with
  | some t =>
    if s.fg R.PWR_STAT_SLEEP = 1 ∧ (!s.nvBusy ∨ s.due t 500000000) then
      let s1 := sendDown mSLEEP [] (scs0 cSLEEP 0 0 s)
      { s1.fs R.PWR_STAT_SLEEP 2 with pwr := { s1.pwr with noticeAt := some s1.lt } }
    else s
  | none => s

def execSleepNoticeSend (s : State) := run sleepNoticeSend s

/-- Step 5. -/
def auxenRelease (s : State) : State :=
  match s.pwr.noticeAt with
  | some t =>
    if s.fg R.PWR_STAT_SLEEP = 2 ∧ s.pwr.auxAt.isNone ∧ s.due t 20000 then
      { (s.fs R.PWR_STAT_AUXHOLD 0).emit .pin [3, 0] with pwr := { s.pwr with auxAt := some s.lt } }
    else s
  | none => s

def execAuxenRelease (s : State) := run auxenRelease s

/-- Step 6: the system half still has power. The stack half stays in SLEEP until a good down frame (R526). -/
def sleepColdReset (s : State) : State :=
  match s.pwr.auxAt with
  | some t => if s.due t 1000000000 then systemReset 2 7 3 s else s
  | none => s

def execSleepColdReset (s : State) := run sleepColdReset s

/-! ## The stack half in SLEEP (R458, R525, R527) -/

/-- Converter domains follow SMP_CHEN, the sweep converter's SWC_CTRL.EN. -/
def stackDomains (on_ : Bool) (s : State) : State :=
  let s1 := (upTo 52).foldl (fun t n => domReq (on_ && t.cellBit R.SMP_CHEN0 R.SMP_CHEN1 n) (domCV n) t) s
  domReq (on_ && s1.fb R.SWC_CTRL_EN) domSWEEP s1

/-- The stack half receives the sleep notice. -/
def sleepNotice (s : State) : State :=
  if s.rst.stackUp ∧ s.bar.repDown.contains mSLEEP ∧ s.ssv.st ≠ svSLEEP then
    let s1 := { s with
      ssv := { s.ssv with st := svSLEEP, run := false, cmd := false, judge := 0, cause := 0x09, dropAt := some s.lt }
      stao := { sleepAt := s.lt, balRan := cells.any fun n => s.fg (R.BAL_TMR_TIME n) != 0 } }
    let s2 := drive (s1.fs R.SAF_STAT_SRUN 0)
    toneDrop (balSleep true (excStop 5 (stackDomains false s2)))
  else s

def execSleepNotice (s : State) := run sleepNotice s

/-- STAO asserts or releases WAKE. -/
def wakePin (b : Bool) (s : State) : State := s.emit .pin [4, b2n b]

/-- Whether an enabled wake source fires: 0 CMP, 1 TMR, 2 BAL. -/
def wakeFires (s : State) (src : Nat) : Bool :=
  if src = 0 then s.fb R.PWR_WAKE_CMP && s.stao.cmpRose
  else if src = 1 then s.fg R.PWR_WAKE_PERIOD != 0 && s.due s.stao.sleepAt (60000000000 * s.fg R.PWR_WAKE_PERIOD)
  else s.fb R.PWR_WAKE_BAL && s.stao.balRan && cells.all fun n => s.fg (R.BAL_TMR_TIME n) == 0

/-- WAKE_SOURCE: the first source that fires asserts WAKE. -/
def wakeSource (src : Nat) (s : State) : State :=
  if s.ssv.st = svSLEEP ∧ s.stao.wakeAt.isNone ∧ s.stao.offAt.isNone ∧ wakeFires s src then
    wakePin true { s.fbit R.PWR_WCAUSE_CAUSE src true with stao := { s.stao with wakeAt := some s.lt } }
  else s

def execWakeSource (src : Fin 3) (s : State) := run (wakeSource src.val) s

/-- WAKE_REASSERT: WAKE is released after 10 s, and asserted again 1 s later. -/
def wakeReassert (s : State) : State :=
  if s.ssv.st ≠ svSLEEP then s
  else match s.stao.wakeAt, s.stao.offAt with
    | some t, _ =>
      if s.due t 10000000000 then wakePin false { s with stao := { s.stao with wakeAt := none, offAt := some s.lt } } else s
    | none, some t =>
      if s.due t 1000000000 then wakePin true { s with stao := { s.stao with wakeAt := some s.lt, offAt := none } } else s
    | none, none => s

def execWakeReassert (s : State) := run wakeReassert s

/-- STACK_WAKE: the first good down frame after the notice takes the stack half to HOLD. -/
def stackWake (s : State) : State :=
  if s.ssv.st = svSLEEP ∧ s.downWorks ∧ s.fg R.PWR_STAT_SLEEP = 0 then
    let s1 := { s with ssv := { s.ssv with st := svHOLD }, stao := {} }
    let s2 := if s.stao.wakeAt.isSome then wakePin false s1 else s1
    balSleep false (stackDomains true s2)
  else s

def execStackWake (s : State) := run stackWake s

/-! ## Supplies -/

/-- FLASH_IDLE_OFF. -/
def flashIdleOff (s : State) : State :=
  if s.fls.ops = [] ∧ s.domOn domFLASH ∧ s.due s.fls.at_ 100000000 then domReqOff domFLASH s else s

def execFlashIdleOff (s : State) := run flashIdleOff s

/-- VISO enters or leaves 4.5 V to 5.5 V; nothing is reset. -/
def visoChangeover (inside : Bool) (s : State) : State := s.fs R.PWR_STAT_VISO (b2n inside)

def execVisoChangeover (inside : Bool) (s : State) := run (visoChangeover inside) s

/-! ## PWR registers as read (R521, R539, R540) -/

/-- TLOSS remaining in 0.1 s. -/
def tleft (s : State) : Nat :=
  match s.pwr.lossAt with
  | some t =>
    if s.commLost ∧ s.service = 3 then (t + 100000000 * s.fg R.PWR_CTRL_TLOSS - s.lt + 99999999) / 100000000 else 0
  | none => 0

/-- Bits of the domains of a list that are on. -/
def domBits (s : State) (l : List Nat) : Nat :=
  (List.range l.length).foldl (fun m i => setBit m i (s.domOn (l.getD i 0))) 0

/-- An island runs: it is fitted, its half is out of reset, and its domain is on where it lies in one (R35, R44). -/
def State.islOn (s : State) (i : Nat) : Bool :=
  s.islFit i && (if onStack i then s.rst.stackUp && (i != islSWC || s.domOn domSWEEP)
    else if i < 32 then (List.range 4).any fun q => s.domOn (domQP i q)
    else if i < 40 then s.domOn (domLane ((i - 32) / 2) ((i - 32) % 2))
    else if i < 44 then s.domOn (domLane (i - 40) 0) || s.domOn (domLane (i - 40) 1)
    else if i = 52 then s.domOn domDPHY
    else if i = islHKP then s.domOn domHKP
    else if 55 ≤ i ∧ i ≤ 58 then s.domOn (domPEG (i - 54))
    else if i = islSYAO then true
    else s.sysUp)

/-- An island runs at a degraded step. -/
def State.islSlow (s : State) (i : Nat) : Bool :=
  if i < 32 then s.islFit i && s.fb (R.ENG_PLSTAT_CLK i)
  else if i < 44 then s.islFit i && islTarget s i != 0
  else Smap.get (fun _ => 0) s.dom.isl i != 0

def islBits (p : Nat → Bool) (base : Nat) : Nat := (List.range 32).foldl (fun m i => setBit m i (p (base + i))) 0

/-- A PWR register as read. -/
def pwrWord (s : State) (a : Nat) : Word :=
  if a = R.PWR_STAT then w32 (withBits (withBits (s.reg a).toNat 29 3 s.service) 0 16 (tleft s))
  else if a = R.PWR_DEG then w32 (degSteps s)
  else if a = R.PWR_ISLON0 then w32 (islBits s.islOn 0)
  else if a = R.PWR_ISLON1 then w32 (islBits s.islOn 32)
  else if a = R.PWR_ISLDEG0 then w32 (islBits s.islSlow 0)
  else if a = R.PWR_ISLDEG1 then w32 (islBits s.islSlow 32)
  else if 0x180040 ≤ a ∧ a < 0x180050 then w32 (domBits s ((List.range 32).map fun i => 8 * (a - 0x180040) + i))
  else if a = R.PWR_CV0 then w32 (domBits s ((List.range 32).map fun i => domCV (i + 1)))
  else if a = R.PWR_CV1 then w32 (domBits s ((List.range 20).map fun i => domCV (i + 33)))
  else if a = R.PWR_MISC then
    w32 (domBits s ((upTo 4).map domPEG) * 65536
      + domBits s [domDRAM, domDPHY, domFLASH, domSWEEP, domHKP] * 256 + domBits s ((List.range 8).map (180 + ·)))
  else s.reg a

end Sys2Proof.Machine
end

