-- ==== Sys2Proof/Machine/Domains.lean ====
section
/-! DEFINITION. Crossings that stall (R42) and the switching of power domains (R46 to R48, R520): the meanings of the rows
CROSSING_STALL and DOMAIN_ON_REQUEST to DOMAIN_OFF. -/
namespace Sys2Proof.Machine

/-- CROSSING_STALL: the wrapper in the sender's island completes the crossing with TIMEOUT and raises 0x20.
[DEDUCED, log 27] -/
def crossingStall (i : Nat) (s : State) : State :=
  if !s.islFit i then s
  else
    let s1 := s.raise 0x20 i 0
    (if i < 32 then failLoads .timeout (loadNames i) (s1.fs (R.ENG_PLFLT_STALL i) 1) else s1).done .timeout

def execCrossingStall (isl : Fin 64) (s : State) := run (crossingStall isl.val) s

/-- Whether an agent of R520 asks for domain `d` to be on, or to be off. -/
def domAgent (on_ : Bool) (d : Nat) (s : State) : Bool :=
  let asleep := s.ssv.st == svSLEEP
  if d < 128 then s.cpRuns && !(on_ && (s.plot (d / 4)).shut)
  else if d < 180 then s.rst.stackUp && (s.cellBit R.SMP_CHEN0 R.SMP_CHEN1 (d - 127) && !asleep) == on_
  else if d < 188 then
    let p := (d - 180) / 2
    s.sysUp && (s.fb (R.TRV_PCTL_EN p) && s.fg (R.TRV_PCTL_MODE p) != 3 && s.tb (R.TRV_PCTL_LANEEN p) ((d - 180) % 2)) == on_
  else if d < 190 then s.sysUp && s.fb R.PWR_CTRL_CAPOFF != on_
  else if d = domFLASH then s.sysUp && (if on_ then s.fls.ops != [] else s.fls.ops == [] && s.due s.fls.at_ 100000000)
  else if d = domSWEEP then s.rst.stackUp && (s.fb R.SWC_CTRL_EN && !asleep) == on_
  else if d = domHKP then s.sysUp && on_
  else s.sysUp && (s.fg (R.PEG_CTL_MODE (d - 192)) != 0) == on_

/-- DOMAIN_ON_REQUEST. -/
def domainOnRequest (d : Nat) (s : State) : State := if domAgent true d s then domReqOn d s else s

def execDomainOnRequest (d : Fin 197) (s : State) := run (domainOnRequest d.val) s

/-- DOMAIN_OFF_REQUEST: the capture memory's contents go with its domains (R520). -/
def domainOffRequest (d : Nat) (s : State) : State :=
  if domAgent false d s then (if d = domDRAM ∨ d = domDPHY then captureOff s else domReqOff d s) else s

def execDomainOffRequest (d : Fin 197) (s : State) := run (domainOffRequest d.val) s

/-- DOMAIN_INRUSH_SLOT: the oldest waiting request whose group has room begins step 1. -/
def domainInrushSlot (s : State) : State :=
  match s.dom.wait.find? (inrushAllows s) with
  | some d => beginOn d s
  | none => s

def execDomainInrushSlot (s : State) := run domainInrushSlot s

/-- 16 periods of the island clock of a domain in ns, rounded up (R35). [DESIGN CHOICE, log 24] -/
def domPeriods (s : State) (d : Nat) : Nat :=
  if d < 128 then 20 <<< s.fg (R.ENG_PLSTAT_CLK (d / 4))
  else if d < 180 then 800
  else if d < 188 then (1024 <<< s.fg (R.TRV_PSTAT_RATE ((d - 180) / 2)) + 9) / 10
  else if d < 190 then 10 <<< Smap.get (fun _ => 0) s.dom.isl 52
  else if d = domFLASH then 80 <<< Smap.get (fun _ => 0) s.dom.isl islNVF
  else if d = domSWEEP then 400
  else if d = domHKP then 320
  else 1600

/-- Whether the 16 periods of the present step have passed. -/
def domTimed (s : State) (d : Nat) : Bool := s.due (Smap.get (fun _ => 0) s.dom.at_ d) (domPeriods s d)

/-- DOMAIN_SUPPLY_GOOD. -/
def domainSupplyGood (d : Nat) (s : State) : State := if s.domStep d = 1 then s.setDomStep d 2 else s

def execDomainSupplyGood (d : Fin 197) (s : State) := run (domainSupplyGood d.val) s

/-- DOMAIN_RESET_RELEASE. -/
def domainResetRelease (d : Nat) (s : State) : State := if s.domStep d = 2 ∧ domTimed s d then s.setDomStep d 3 else s

def execDomainResetRelease (d : Fin 197) (s : State) := run (domainResetRelease d.val) s

/-- What follows when a domain has come on. [DEDUCED, log 25] -/
def domainUp (d : Nat) (s : State) : State :=
  if d < 128 then quarterUp (d / 4) (d % 4) s
  else if d < 180 then settleUntil (d - 127) (s.epoch + 2000) s
  else if d = domDRAM ∨ d = domDPHY then tapRefresh s
  else if d = domFLASH then flashBackground s
  else if d = domSWEEP then sweepDomainOn s
  else s

/-- What a domain that has gone off has lost. -/
def domainDown (d : Nat) (s : State) : State :=
  if d < 128 then quarterDown (d / 4) (d % 4) s
  else if d = domSWEEP then sweepDomainOff s
  else if 193 ≤ d then pegDomainOff (d - 192) s
  else s

/-- DOMAIN_ON: the domain is on; an off request that arrived meanwhile follows (R48). -/
def domainOn (d : Nat) (s : State) : State :=
  if s.domStep d = 3 ∧ domTimed s d then
    let s1 := domainUp d (s.setDomStep d 4)
    if s.domWant d = 2 then domReqOff d s1 else s1
  else s

def execDomainOn (d : Fin 197) (s : State) := run (domainOn d.val) s

/-- DOMAIN_WRAPPER_EMPTY. -/
def domainWrapperEmpty (d : Nat) (s : State) : State := if s.domStep d = 5 then s.setDomStep d 6 else s

def execDomainWrapperEmpty (d : Fin 197) (s : State) := run (domainWrapperEmpty d.val) s

/-- DOMAIN_OFF: the domain is off; an on request that arrived meanwhile follows (R48). -/
def domainOff (d : Nat) (s : State) : State :=
  if s.domStep d = 6 ∧ domTimed s d then
    let s1 := domainDown d (s.setDomStep d 0)
    if s.domWant d = 1 then domReqOn d (s1.setWant d 0) else s1
  else s

def execDomainOff (d : Fin 197) (s : State) := run (domainOff d.val) s

end Sys2Proof.Machine
end

