-- ==== Sys2Proof/Machine/RegAccess.lean ====
section
/-! DEFINITION. Register access as commands reach it (R15 to R17, R303, R424): what each register reads as, what a write of
it does, who may reach it, and the rows REGISTER_WRITE and REG_READ to REG_READ_BLOCK. Whoever asks is a number: a parcel from
0 to 7, or 8 for the CP firmware. -/
namespace Sys2Proof.Machine

/-! ## Reading -/

/-- FLT_ISLSUM as read (R511): the islands of a half with a sticky bit. -/
def islSum (s : State) (base : Nat) : Nat :=
  (List.range 32).foldl (fun m i => setBit m i (s.reg (R.FLT_ISL (base + i)) != 0)) 0

/-- Bits of the cells from `base` whose bleed switch is closed, by request or by excitation. -/
def closedCells (s : State) (base : Nat) : Nat :=
  (List.range (if base = 0 then 32 else 16)).foldl (fun m i =>
    setBit m i (s.bOnNow (base + i + 1) || excClosed s (base + i + 1))) 0

/-- Whether row registers of the FAB block belong to a parcel, and to which (R295). -/
def fabRow (a : Nat) : Option Nat :=
  if 0x0A0100 ≤ a ∧ a < 0x0A0200 then some ((a - 0x0A0100) / 0x20)
  else if 0x0A1000 ≤ a ∧ a < 0x0A1800 then some ((a - 0x0A1000) / 0x100)
  else if 0x0A2000 ≤ a ∧ a < 0x0A2800 then some ((a - 0x0A2000) / 0x100)
  else none

/-- A register as it reads: most are stored; the others follow what they report. [DEDUCED, log 22] -/
def viewWord (s : State) (a : Nat) : Word :=
  let st := (s.reg a).toNat
  let blk := a / 0x10000
  if a = R.IDENT_PART then w32 s.identPart
  else if a = R.IDENT_CAP then w32 s.identCap
  else if a = R.IDENT_PLOTMAP then w32 (2 ^ s.plotsFit - 1)
  else if blk = 2 then shownWord s a
  else if a = R.BAL_STAT then w32 (withBits (withBits (withBits st 24 3 (forceSources s)) 0 1 (b2n (forced s)))
    R.BAL_STAT_NCLOSED.lo R.BAL_STAT_NCLOSED.w (cells.countP fun n => s.bOnNow n || excClosed s n))
  else if a = R.BAL_ON0 then w32 (closedCells s 0)
  else if a = R.BAL_ON1 then w32 (closedCells s 32)
  else if a = R.PRF_STAT then w32 (prfStat s 0)
  else if a = R.EST_STAT then w32 (estStat s)
  else if a = R.EST_SNAP then w32 (estSnapWord s)
  else if a = R.ENG_STAT then w32 (withBits st R.ENG_STAT_NFIT.lo R.ENG_STAT_NFIT.w s.plotsFit)
  else if blk = 0x0C then cadRead s a
  else if a = R.TRV_STAT then w32 (withBits st R.TRV_STAT_FIT.lo R.TRV_STAT_FIT.w (2 ^ s.portsFit - 1))
  else if 0x100100 ≤ a ∧ a < 0x100200 ∧ a % 0x40 = 0x20 then
    w32 (withBits st (R.TRV_PQUAR_QRECENT 0).lo (R.TRV_PQUAR_QRECENT 0).w (quarRecent s ((a - 0x100100) / 0x40)))
  else if a = R.DTM_STAT then w32 (withBits st R.DTM_STAT_U.lo R.DTM_STAT_U.w (datumU s))
  else if a = R.DTM_NOWLO then w32 s.now
  else if a = R.DTM_NOWHI then s.dtm.nowHi
  else if a = R.HST_SPISTAT then spiStat s
  else if blk = 0x14 then safWord s a
  else if a = R.FLT_STAT then w32 (withBits st R.FLT_STAT_ACTIVE.lo R.FLT_STAT_ACTIVE.w s.active)
  else if a = R.FLT_ISLSUM0 then w32 (islSum s 0)
  else if a = R.FLT_ISLSUM1 then w32 (islSum s 32)
  else if a = R.FLT_TONE then toneWord s
  else if a = R.BST_ROT then w32 (withBits st R.BST_ROT_NROT.lo R.BST_ROT_NROT.w s.nrot)
  else if blk = 0x18 then pwrWord s a
  else if blk = 0x19 then thmWord s a
  else if blk = 0x1A ∨ blk = 0x1B then nvWord s a
  else if blk = 0x1C then updWord s a
  else s.reg a

/-- What a read by `r` returns, and what it latches (R195, R398, R400). -/
def readView (r a : Nat) (s : State) : Word × State :=
  if a = R.DTM_NOWLO then dtmNowRead s
  else if setHead a then (viewWord s a, registerSetLatch r a s)
  else if setTail a then (shadowWord s r a, s)
  else match fabRow a with
    | some q => if r = 8 ∨ r = q then (viewWord s a, s) else (0, s)
    | none => (viewWord s a, s)

/-! ## Who may reach a register (R269, R302, R303) -/

/-- The plot to which a plot register of the ENG block belongs. -/
def plotOf (a : Nat) : Option Nat :=
  if 0x081000 ≤ a ∧ a < 0x081800 then some ((a - 0x081000) / 0x40)
  else if 0x084000 ≤ a ∧ a < 0x088000 then some ((a - 0x084000) / 0x200)
  else none

/-- Parcel `q` holds the plot. -/
def holdsPlot (s : State) (q p : Nat) : Bool :=
  match s.placed p with
  | some (x, _) => x == q
  | none => false

/-- The addresses that a register access of tenant `q` may read. [DEDUCED, log 20] -/
def tenantReads (s : State) (q a : Nat) : Bool :=
  if a < 0x010000 then true
  else match plotOf a with
    | some p => holdsPlot s q p
    | none =>
      a == R.ENG_STAT || a == R.ENG_RETIRED || fabRow a == some q
      || decide (0x0C0100 + 0x40 * q ≤ a ∧ a < 0x0C0140 + 0x40 * q) || a == R.CAD_STAT || a == R.CAD_DEEDNO
      || decide (0x0C0040 ≤ a ∧ a < 0x0C0100) || a == R.SMP_STAT
      || (decide (R.SMP_AVG 1 ≤ a ∧ a ≤ R.SMP_AVG 52) && s.chanOk q ((a - R.SMP_AVG 1) / 4 + 1))
      || decide (0x050000 ≤ a ∧ a < 0x060000) || a == R.BAL_CTRL || a == R.BAL_STAT
      || (decide (R.BAL_TMR 1 ≤ a ∧ a ≤ R.BAL_TMR 48) && s.chanOk q ((a - R.BAL_TMR 1) / 4 + 1))

/-- The writes that a register access of tenant `q` may make; BAL_CTRL only where EN alone changes. -/
def tenantWrites (s : State) (q a : Nat) (v : Word) : Bool :=
  match plotOf a with
  | some p => holdsPlot s q p
  | none =>
    (decide (R.SMP_AVG 1 ≤ a ∧ a ≤ R.SMP_AVG 52) && s.granted q 6 && s.chanOk q ((a - R.SMP_AVG 1) / 4 + 1))
    || (decide (0x050000 ≤ a ∧ a < 0x060000) && s.granted q 4)
    || (a == R.BAL_CTRL && s.granted q 5 && ((s.reg a).toNat ^^^ v.toNat) / 2 == 0)
    || (decide (R.BAL_TMR 1 ≤ a ∧ a ≤ R.BAL_TMR 48) && s.granted q 5 && s.chanOk q ((a - R.BAL_TMR 1) / 4 + 1))

/-- A tenant parcel asks. -/
def tenant (r : Nat) : Bool := decide (1 ≤ r ∧ r ≤ 7)

/-- A register read by `r`: its status, its word, and the state after it. -/
def readReg (r a : Nat) (s : State) : Stat × Word × State :=
  if tenant r && !tenantReads s r a then (.refused rPERMISSION, 0, s)
  else if a % 4 ≠ 0 ∨ 0xFFFFFF < a then (.badParam rADDRESS, 0, s)
  else if (findReg a).isNone || absentReg s a then (.ok, 0, s)
  else match unreachable s a with
    | some t => (t, 0, s)
    | none =>
      let x := readView r a s
      (.ok, x.1, x.2)

/-! ## Writing -/

/-- A write applied by field types alone. -/
def plainWrite (a : Nat) (v : Word) (s : State) : Stat × State := (.ok, applyWrite a v s)

/-- A write refused unless its value is in range. -/
def rangeWrite (good : Bool) (f : State → State) (s : State) : Stat × State := if good then (.ok, f s) else (.badParam, s)

/-- SMP registers (R69, R84, R95 to R104). -/
def smpWrite (a : Nat) (v : Word) (s : State) : Stat × State :=
  if a = R.SMP_CTRL then smpCtrlWrite v s
  else if a = R.SMP_CHEN0 then smpChenWrite 0 v s
  else if a = R.SMP_CHEN1 then smpChenWrite 1 v s
  else if a = R.SMP_XCFG then rangeWrite (v != 0) (queueCfg a v) s
  else if a = R.SMP_EMS then smpEmsWrite v s
  else if a = R.SMP_CALCTL then smpCalctlWrite v s
  else if a = R.SMP_REFCFG then rangeWrite (wf v R.SMP_REFCFG_D != 7) (refcfgWrite v) s
  else if R.SMP_AXCFG 1 ≤ a ∧ a ≤ R.SMP_AXCFG 4 then
    rangeWrite (decide (6 ≤ v.toNat / 0x1000 ∧ v.toNat / 0x1000 ≤ 12)) (queueCfg a v) s
  else if R.SMP_AVG 1 ≤ a ∧ a ≤ R.SMP_AVG 52 then
    rangeWrite (decide (v.toNat % 16 ≤ 8 ∧ v.toNat / 16 % 16 ≤ 8)) (queueCfg a v) s
  else if R.SMP_CAL 1 ≤ a ∧ a ≤ R.SMP_CAL 52 then (.ok, queueCfg a v s)
  else plainWrite a v s

/-- BAL registers (R142 to R145, R162). -/
def balWrite (a : Nat) (v : Word) (s : State) : Stat × State :=
  if a = R.BAL_CTRL then balCtrlWrite v s
  else if R.BAL_OC0 ≤ a ∧ a ≤ R.BAL_SWS1 then balFlagWrite a v s
  else if R.BAL_TMR 1 ≤ a ∧ a ≤ R.BAL_TMR 48 then balTmrWrite ((a - R.BAL_TMR 1) / 4 + 1) v s
  else plainWrite a v s

/-- Port registers (R351, R359). -/
def trvWrite (a : Nat) (v : Word) (s : State) : Stat × State :=
  let p := (a - 0x100100) / 0x40
  if 0x100100 ≤ a ∧ a < 0x100200 ∧ a = R.TRV_PCTL p then keeping a (pctlWrite p) v s
  else if 0x100100 ≤ a ∧ a < 0x100200 ∧ a = R.TRV_PERR p then
    rangeWrite (wf v (R.TRV_PERR_LIMIT p) != 0 && wf v (R.TRV_PERR_LEAK p) != 0) (applyWrite a v) s
  else plainWrite a v s

/-- SAF registers: a STUCK bit stays set while its output reads on (R439). [DEDUCED, log 118] -/
def safWrite (a : Nat) (v : Word) (s : State) : Stat × State :=
  if a = R.SAF_RBF then plainWrite a (w32 (v.toNat ^^^ (v.toNat &&& s.soc.readOn % 64))) s else plainWrite a v s

/-- Whether a TS sensor with REACT at 1 is at its shutdown level (R536). -/
def tsShut (s : State) : Bool := (upTo 16).any fun k => s.lvl k 2 && s.fb (R.THM_S_W5_REACT k)

/-- FLT registers (R483, R487, R491, R511). -/
def fltWrite (a : Nat) (v : Word) (s : State) : Stat × State :=
  if a = R.FLT_CTRL then fltCtrlWrite v s
  else if a = R.FLT_TONE then keeping a (fun v s => (.ok, toneHead (v.toNat.testBit 0) s)) v s
  else if R.FLT_ISL 0 ≤ a ∧ a ≤ R.FLT_ISL 63 then
    let i := (a - R.FLT_ISL 0) / 4
    if v.toNat &&& (0x3FF ^^^ islMask i) ≠ 0 then (.badParam, s)
    else plainWrite a (if i = islHKP ∧ tsShut s then w32 (setBit v.toNat 4 false) else v) s
  else plainWrite a v s

/-- RST and BST registers (R513, R515). Which plots fail a test that a plain write starts is a free value. -/
def rstWrite (a : Nat) (v : Word) (s : State) : Stat × State :=
  if a = R.RST_CTRL then rstCtrlWrite v s
  else if a = R.RST_WDT then wdtWrite v s
  else if a = R.BST_ROT then
    rangeWrite (decide (60 ≤ wf v R.BST_ROT_PERIOD)) (applyWrite a v) s
  else if a = R.BST_CTL then (if wf v R.BST_CTL_RUNNOW = 1 then bstCtlWrite (BitVec.ofNat 32 s.free.1) v s.free.2 else (.ok, s))
  else plainWrite a v s

/-- The PEG block (R575, R595). -/
def pegWrite (a : Nat) (v : Word) (s : State) : Stat × State :=
  let n := (a - 0x1E0000) / 0x400 + 1
  if a % 0x400 = 0 then pegCtlWrite n v s
  else if a % 0x400 = 4 then pegSentWrite n v s
  else plainWrite a v s

/-- What a write that has passed the checks of R15 to R17 does, by block. -/
def writeRule (a : Nat) (v : Word) (s : State) : Stat × State :=
  match a / 0x10000 with
  | 0x01 => smpWrite a v s
  | 0x02 => if a = R.SWC_INJCTL then swcInjctlWrite v s else plainWrite a v s
  | 0x03 =>
    if a = R.CMP_TEST then cmpTestWrite v s
    else if R.CMP_OVTRIP0 ≤ a ∧ a ≤ R.CMP_UVTRIP1 then tripWrite a v s
    else plainWrite a v s
  | 0x04 => balWrite a v s
  | 0x05 => if a = R.EXC_CTRL then excCtrlWrite v s else excWrite a v s
  | 0x06 => prfWrite a v s
  | 0x07 => if a = R.EST_CTRL then estCtrlWrite v s else estWrite a v s
  | 0x08 =>
    let p := (a - 0x081000) / 0x40
    if 0x081000 ≤ a ∧ a < 0x081800 ∧ a = R.ENG_PLCTL p then engPlctlWrite p v s else plainWrite a v s
  | 0x0A =>
    let q := (a - 0x0A0100) / 0x20
    if a = R.FAB_SCLOSS then fabSclossWrite v s
    else if 0x0A0100 ≤ a ∧ a < 0x0A0200 ∧ a = R.FAB_PDEC q then fabPdecWrite q v s
    else plainWrite a v s
  | 0x0C =>
    let q := (a - 0x0C0100) / 0x40
    if 0x0C0100 ≤ a ∧ a < 0x0C0300 ∧ a = R.CAD_PAUTHF q then cadPauthfWrite q v s else plainWrite a v s
  | 0x10 => trvWrite a v s
  | 0x11 => if a = R.NET_CTRL then netCtrlWrite v s else plainWrite a v s
  | 0x12 => dtmWrite a v s
  | 0x13 => if a = R.HST_MACHI then rangeWrite (!v.toNat.testBit 8) (applyWrite a v) s else plainWrite a v s
  | 0x14 => safWrite a v s
  | 0x15 => fltWrite a v s
  | 0x16 => rstWrite a v s
  | 0x17 => rstWrite a v s
  | 0x18 => if a = R.PWR_CTRL then pwrCtrlWrite v s else plainWrite a v s
  | 0x19 => thmWrite a v s
  | 0x1A => if a = R.NVM_CNTINC then cntincWrite v s else plainWrite a v s
  | 0x1B => if a = R.FLS_CTL then flsCtlWrite v s else plainWrite a v s
  | 0x1C => if a = R.UPD_LEASE then rangeWrite (decide (10 ≤ v.toNat ∧ v.toNat ≤ 600)) (applyWrite a v) s else plainWrite a v s
  | 0x1E => pegWrite a v s
  | _ => plainWrite a v s

/-- A profile configuration that PROFILE_CFG has accepted waits for its second: its registers are held (R419). -/
def prfHeld (s : State) (a : Nat) : Bool :=
  decide (R.PRF_CTRL ≤ a ∧ a ≤ R.PRF_JTHR) && s.prf.pend.any fun (e : Nat × Nat × Nat × Word) => e.2.1 == 0 && e.2.2.1 == R.PRF_THR

/-- A register write by `r`: its status and the state after it. -/
def writeReg (r a : Nat) (v : Word) (s : State) : Stat × State :=
  let holder : Bool := match plotOf a with
    | some p => r == 8 || holdsPlot s r p
    | none => true
  if tenant r && !tenantWrites s r a v then (.refused rPERMISSION, s)
  else match accessCheck s a v with
    | some t => (t, s)
    | none => if !holder || prfHeld s a then (.refused, s) else writeRule a v s

/-- REGISTER_WRITE: a write by the CP firmware. -/
def execRegisterWrite (a : BitVec 24) (v : Word) (s : State) :=
  run (fun s => let x := writeReg 8 a.toNat v s; x.2.done x.1) s

/-! ## Opcodes 0x10 to 0x13 (R424) -/

/-- A reply, unless the request has reset the system half (R419). -/
def replyAlive (f : State → State) (s : State) : State := if s.sysUp then f s else s

/-- REG_READ. -/
def regRead (p : Packet) (s : State) : State :=
  let b := p.payload
  let n := u8 b 0
  if b.length < 4 ∨ b.length ≠ 4 + 4 * n then reply p (.badParam rLENGTH) [] 0 s
  else if n = 0 ∨ 64 < n ∨ leAt b 1 3 ≠ 0 then reply p .badParam [] 0 s
  else
    let x := (List.range n).foldl (fun (y : List Stat × List Byte × State) i =>
      let z := readReg p.parcel (u32 b (4 + 4 * i)) y.2.2
      (y.1 ++ [z.1], y.2.1 ++ leBytes 4 z.2.1.toNat, z.2.2)) ([], [], s)
    replyUnits p x.1 x.2.1 .ok x.2.2

def execRegRead (p : Packet) (s : State) := run (request 0x10 p regRead) s

/-- REG_WRITE. A unit that resets the system half ends the request (R419). -/
def regWrite (p : Packet) (s : State) : State :=
  let b := p.payload
  let n := u8 b 0
  if b.length < 4 ∨ b.length ≠ 4 + 8 * n then reply p (.badParam rLENGTH) [] 0 s
  else if n = 0 ∨ 64 < n ∨ leAt b 1 3 ≠ 0 then reply p .badParam [] 0 s
  else
    let x := (List.range n).foldl (fun (y : List Stat × State) i =>
      if !y.2.sysUp then y
      else
        let z := writeReg p.parcel (u32 b (4 + 8 * i)) (w32 (u32 b (8 + 8 * i))) y.2
        (y.1 ++ [z.1], z.2)) ([], s)
    replyAlive (replyUnits p x.1 [] .ok) x.2

def execRegWrite (p : Packet) (s : State) := run (request 0x11 p regWrite) s

/-- REG_RMW: nothing changes unless both the read and the write are served. -/
def regRmw (p : Packet) (s : State) : State :=
  withLen 12 p (fun s =>
    let b := p.payload
    let a := u32 b 0
    let m := u32 b 4
    let x := readReg p.parcel a s
    if x.1.code ≠ 0 then reply p x.1 [] 0 s
    else
      let old := x.2.1.toNat
      let new := (old &&& (0xFFFFFFFF ^^^ m)) ||| (u32 b 8 &&& m)
      let y := writeReg p.parcel a (w32 new) x.2.2
      if y.1.code ≠ 0 then reply p y.1 [] 0 s
      else replyAlive (reply p .ok (leBytes 4 old ++ leBytes 4 new) 0) y.2) s

def execRegRmw (p : Packet) (s : State) := run (request 0x12 p regRmw) s

/-- REG_READ_BLOCK: the first failing status, and 0 for every value that could not be read (R413). -/
def regReadBlock (p : Packet) (s : State) : State :=
  withLen 8 p (fun s =>
    let b := p.payload
    let a := u32 b 0
    let n := u16 b 4
    if n = 0 ∨ 496 < n ∨ u16 b 6 ≠ 0 then reply p .badParam [] 0 s
    else
      let x := (List.range n).foldl (fun (y : Stat × List Byte × State) i =>
        let z := readReg p.parcel (a + 4 * i) y.2.2
        (if y.1.code = 0 then z.1 else y.1, y.2.1 ++ leBytes 4 z.2.1.toNat, z.2.2)) (.ok, [], s)
      reply p x.1 (leBytes 4 a ++ leBytes 2 n ++ leBytes 2 0 ++ x.2.1) 0 x.2.2) s

def execRegReadBlock (p : Packet) (s : State) := run (request 0x13 p regReadBlock) s

end Sys2Proof.Machine
end

