-- ==== Sys2Proof/Machine/Serve.lean ====
section
/-! DEFINITION. How packets arrive, travel on, wait and are served (R337 to R343, R353 to R355, R371, R404 to R407, R417 to
R420): the meanings of the rows FRAME_RECEIVED, SPI_WRITE, ETHERNET_FRAME and REPLY_RECEIVED to REQUEST_SERVICE_START. -/
namespace Sys2Proof.Machine

/-! ## Serving (R420, R422) -/

/-- The rule of a request that has passed every check of R407. `bad` names the 64-byte units of capture memory with an
uncorrectable error (R569); for NV_READ and FW_VERIFY it lists the errors of the words read, odd for an uncorrectable one (R549).
[DEDUCED, log 96] -/
def serveOp (bad : List Nat) (p : Packet) (s : State) : State :=
  match p.opcode with
  | 0x00 => ident p s
  | 0x01 => survey p s
  | 0x02 => assign p s
  | 0x03 => linkNotice p s
  | 0x04 => heartbeat p s
  | 0x05 => barrier p s
  | 0x06 => groupSet p s
  | 0x10 => regRead p s
  | 0x11 => regWrite p s
  | 0x12 => regRmw p s
  | 0x13 => regReadBlock p s
  | 0x1F => resetReq p s
  | 0x20 => snapshotAt p s
  | 0x21 => captureCfg p s
  | 0x22 => captureTrig p s
  | 0x23 => captureRead bad p s
  | 0x30 => balSet p s
  | 0x31 => excStartReq p s
  | 0x32 => excStopReq p s
  | 0x40 => profileCfg p s
  | 0x41 => profileRead p s
  | 0x42 => profileDerived p s
  | 0x43 => estParams p s
  | 0x44 => estRead p s
  | 0x45 => estSeed p s
  | 0x50 => kernelStage p s
  | 0x51 => loadKernel p s
  | 0x52 => engineCtl p s
  | 0x53 => engineStat p s
  | 0x54 => streamSub p s
  | 0x55 => streamStat p s
  | 0x60 => deedApply p s
  | 0x61 => cadastreRead p s
  | 0x62 => holderEnrol p s
  | 0x63 => authSession p s
  | 0x70 => safetyPdu p s
  | 0x71 => safesetOpen p s
  | 0x72 => safesetStage p s
  | 0x73 => safesetCommit p s
  | 0x74 => safesetClose p s
  | 0x75 => safelogRead p s
  | 0x76 => safelogAck p s
  | 0x77 => safePassword p s
  | 0x78 => nvWrite p s
  | 0x79 => nvCommitReq p s
  | 0x7A => nvReadReq (bad.map fun u => u % 2 == 1) p s
  | 0x7B => fwDownload p s
  | 0x7C => fwVerify (bad.map fun u => u % 2 == 1) p s
  | 0x7D => fwActivate p s
  | 0x7E => fwConfirm p s
  | 0x7F => updStat p s
  | _ => s

/-- A request for which places of class 1 are kept (R417). [DEDUCED, log 92] -/
def kept (p : Packet) : Bool := p.parcel == 0 || addrMode p.dest == 4

/-- A checked request joins its class queue (R417). -/
def enqueueReq (p : Packet) (s : State) : State :=
  let h : Held := { pkt := p, at_ := s.lt }
  if p.cls = 1 then
    if 32 ≤ s.cp.q1.length ∨ (!kept p ∧ 24 ≤ s.cp.q1.countP fun x => !kept x.pkt) then reply p (.refused rCAPACITY) [] 0 s
    else { s with cp := { s.cp with q1 := s.cp.q1 ++ [h] } }
  else if p.cls = 2 then
    if 16 ≤ s.cp.q2.length then reply p (.refused rCAPACITY) [] 0 s else { s with cp := { s.cp with q2 := s.cp.q2 ++ [h] } }
  else if 4 ≤ s.cp.q3.length then reply p (.refused rCAPACITY) [] 0 s
  else { s with cp := { s.cp with q3 := s.cp.q3 ++ [h] } }

/-- A request addressed to this station: the checks of R407, then the fast path or a queue. Packets that stations send each
other without a service (R422) go to their subscriptions. -/
def takeRequest (p : Packet) (s : State) : State :=
  if p.opcode = 0x24 then crefBlocks p s
  else if p.opcode = 0x25 then s
  else checked p (fun q s => if fastPath q.opcode then serveOp [] q s else enqueueReq q s) s

/-! ## Replies (R405, R407 row 2) -/

/-- The packet is for a host or the sideband of this station. -/
def forHost (s : State) (p : Packet) : Bool :=
  decide (8 ≤ addrMode p.dest ∧ addrMode p.dest ≤ 12) && addrField p.dest == s.ownAddr

/-- The packet goes from a ring to a host port or the sideband; between two of these HOPS stays (R405). -/
def handOver (p : Packet) (s : State) : State :=
  if enteredHere p then sendOut p s
  else if p.hops ≠ 0 then sendOut { p with hops := p.hops - 1 } s
  else if p.opcode < 128 then reply p (.refused rHOPS) [] 0 s
  else s

/-- A reply reaches its requester: a host, or this station where it awaits the TAG. -/
def replyReceived (p : Packet) (s : State) : State :=
  if p.opcode < 128 then s
  else if forHost s p then handOver p s
  else if addrMode p.dest ≠ 0 ∨ addrField p.dest ≠ s.ownAddr ∨ !s.cp.await.contains p.tag then s
  else
    let s1 := { s with cp := { s.cp with await := s.cp.await.erase p.tag } }
    let k := p.tag - fetchTag 0
    if p.opcode = 0xE3 ∧ fetchTag 0 ≤ p.tag ∧ k < 8 ∧ u8 p.payload 0 = 0 then sessionReply k (p.payload.drop 8) s1 else s1

def execReplyReceived (p : Packet) (s : State) := run (fun s => if s.sysUp then replyReceived p s else s) s

/-! ## Where a packet goes (R371, R403 to R405) -/

/-- DEST reaches this station itself; a reserved mode is answered by the first station (R407 row 5). -/
def destHere (s : State) (p : Packet) : Bool :=
  let m := addrMode p.dest
  let f := addrField p.dest
  if p.opcode = 1 ∨ p.opcode = 2 then true
  else if m = 0 then !s.addressed || f == s.ownAddr
  else if m = 1 then !s.addressed || f / 64 == s.ownAddr / 64
  else if m = 2 then true
  else if m = 3 then !s.addressed || s.net.groups.testBit (f % 64)
  else if m = 4 then enteredHere p
  else !decide (8 ≤ m ∧ m ≤ 12)

/-- DEST reaches, or may reach, other stations. -/
def destBeyond (s : State) (p : Packet) : Bool :=
  let m := addrMode p.dest
  s.addressed && (m == 1 || m == 2 || m == 3 || ((m == 0 || decide (8 ≤ m ∧ m ≤ 12)) && addrField p.dest != s.ownAddr))

/-- R404: the host names itself in SRC. -/
def srcOk (s : State) (p : Packet) : Bool :=
  match p.via with
  | .host k => p.src == (8 + k) * 0x1000 + s.ownAddr
  | .side => p.src == 0xC000 + s.ownAddr
  | _ => true

/-- A packet of a host goes into the ring as a frame of this station (R363, R405). -/
def carry (p : Packet) (s : State) : State :=
  if p.hops = 0 then (if p.opcode < 128 then reply p (.refused rHOPS) [] 0 s else s)
  else enter { p with hops := p.hops - 1 } s

/-- A packet that has entered at this station, its CRC-32C good. -/
def entered (p : Packet) (s : State) : State :=
  if p.opcode < 128 ∧ !srcOk s p then reply p (.badParam rADDRESS) [] 0 s
  else if p.opcode < 128 ∧ p.cls = 0 ∧ 176 < packetLen p then reply p (.badParam rLENGTH) [] 0 s
  else if p.opcode = 0x20 ∧ destBeyond s p ∧ !leadOk s p.seqep then reply p (.badParam rLEAD) [] 0 s
  else
    let s1 := if destBeyond s p then carry p s else s
    if 128 ≤ p.opcode then replyReceived p s1
    else if forHost s p then handOver p s1
    else if destHere s p then takeRequest p s1
    else s1

/-- A packet that has come from a ring, its CRC-32C good. -/
def fromRing (p : Packet) (s : State) : State :=
  if 128 ≤ p.opcode then replyReceived p s
  else if forHost s p then handOver p s
  else if destHere s p then takeRequest p s
  else s

/-! ## Frames (R337 to R343, R371) -/

/-- A frame body with its packet's HOPS decremented and its CRC-32C renewed (R405). -/
def hopBody (b : List Byte) : List Byte :=
  let head := (b.take (b.length - 4)).set 3 (BitVec.ofNat 8 (leAt b 3 1 - 16))
  head ++ leBytes 4 (crc32c head)

/-- The ports of the other ring out of which a tie station copies a packet frame (R371). -/
def crossPorts (s : State) (p : Nat) (dest : Nat) : List Nat :=
  let m := addrMode dest
  let here := addrField dest / 64 == s.ownAddr / 64
  if !s.fb R.NET_STAT_TIEROLE ∨ m = 4 then []
  else if p < 2 then (if m = 2 ∨ m = 3 ∨ !here then [2, 3] else [])
  else if m = 2 ∨ m = 3 ∨ here then [0, 1] else []

/-- A good packet frame on ring port `p`: delivered, forwarded and copied to the other ring; where its class is not that of its
packet, only forwarded (R406). -/
def packetFrame (p : Nat) (f : Frame) (s : State) : State :=
  let q := parsePacket (.ring p) f.body
  let uni := addrMode q.dest == 0 && s.addressed && addrField q.dest == s.ownAddr
  let o := otherPort p
  let survey := q.opcode = 1
  let s1 := if survey then s
    else { s with trv := { s.trv with recent :=
      (s.trv.recent.filter fun (e : Nat × Nat × Nat) => s.lt < e.2.2 + 64000) ++ [(f.origin, f.fseq, s.lt)] } }
  let s2 := if uni || survey || forHost s q || f.ttl = 0 || !ringRun s o then s1
    else forwardFrame o { f with ttl := f.ttl - 1 } s1
  let cross := if survey || uni || forHost s q || f.cls != q.cls then [] else (crossPorts s p q.dest).filter (ringRun s)
  let s3 := if cross = [] then s2
    else if q.hops = 0 then (if q.opcode < 128 then reply q (.refused rHOPS) [] 0 s2 else s2)
    else cross.foldl (fun t k => forwardFrame k { f with ttl := f.ttl - 1, body := hopBody f.body } t) s2
  if f.cls = q.cls then fromRing q s3 else s3

/-- A frame with link header `h` has ended on port `p`: 0 with TERM, 1 with ABORT. -/
def frameDone (p h : Nat) (body : List Byte) (fin : Nat) (s : State) : State :=
  let ring := s.portMode p == 0
  let f := headerFrame h body
  if fin = 1 then abortPass p h body (s.inc (R.TRV_PFRM_ABRX p))
  else if ring && headerHost h then s
  else if f.ftype = 2 then (if ring then rollCall p f s else s)
  else if !crcGood body then
    limitCheck p (abortPass p h body (addError p 1 (s.inc (R.TRV_PFRM_CRCF p))))
  else if !ring then
    let q := parsePacket (.host p) body
    if f.cls = q.cls then entered q s else s
  else
    let own := s.addressed && f.origin == s.ownAddr
    let sv := leAt body 2 1 == 1
    if own && !sv then s
    else if !sv && isDuplicate s f then s.inc (R.TRV_PDUP_DUP p)
    else packetFrame p f s

/-- Port `p` is in RUN with the framing of this chapter and has seen a MARK. -/
def receiving (s : State) (p : Nat) : Bool :=
  s.sysUp && decide (p < s.portsFit) && decide (s.portMode p < 2) && s.portState p == poRUN && (s.port p).acc

/-- A control block on lane `l` (R333, R334, R337, R342). MARK and DLY do not affect the frame. -/
def takeControl (p l : Nat) (b : Blk) (s : State) : State :=
  if !b.typeOk then limitCheck p (abortHere p (s.inc (R.TRV_PLANE_TYPERR p l)))
  else if b.type = btMARK ∨ b.type = btDLY then s
  else if b.type = btSOF then
    let s1 := abortHere p s
    let h := leAt b.bytes 1 7
    if headerGood h then limitCheck p (s1.setPort p { s1.port p with rx := some (h, []) }) else limitCheck p (addError p 1 s1)
  else match (s.port p).rx with
    | none => s
    | some (h, body) =>
      let s1 := s.setPort p { s.port p with rx := none }
      if b.type = btTERM then frameDone p h (body ++ (b.bytes.drop 2).take (leAt b.bytes 1 1)) 0 s1
      else if b.type = btABORT then frameDone p h body 1 s1
      else limitCheck p (abortHere p s)

/-- The next block of port `p`, which came on lane `l`; none where the receiver loses signal. -/
def takeBlock (p : Nat) (x : Nat × Option Blk) (s : State) : State :=
  if !receiving s p then s
  else match x.2 with
    | none => limitCheck p (abortHere p s)
    | some b =>
      if b.hdr = hdrDATA then
        match (s.port p).rx with
        | some (h, body) => s.setPort p { s.port p with rx := some (h, body ++ b.bytes) }
        | none => s
      else if b.hdr = hdrCTRL then takeControl p x.1 b s
      else limitCheck p (abortHere p (s.inc (R.TRV_PLANE_HDRERR p x.1)))

/-- The blocks that lane `l` of port `p` brings, descrambled. -/
def readLane (l : Nat) : Nat → List (Option (BitVec 66)) → List (Option Blk) × Nat
  | st, [] => ([], st)
  | st, none :: ws => let r := readLane l st ws; (none :: r.1, r.2)
  | st, some w :: ws =>
    let b := readWord st w.toNat
    let r := readLane l b.2 ws
    (some b.1 :: r.1, r.2)

/-- FRAME_RECEIVED: what the lanes of port `p` have brought since the last such row, to the end of a frame: the 66-bit blocks of
each lane in use, none where it lost signal, `first` saying that lane 1 brought the first (R330, R331). -/
def frameReceived (p : Nat) (first : Bool) (l0 l1 : List (Option (BitVec 66))) (s : State) : State :=
  let d := (s.port p).desc
  let use := fun (l : Nat) (ws : List (Option (BitVec 66))) => if s.tb (R.TRV_PSTAT_RXL p) l then ws else []
  let a := readLane 0 (Smap.get (fun _ => 0) d 0) (use 0 l0)
  let b := readLane 1 (Smap.get (fun _ => 0) d 1) (use 1 l1)
  let s1 := s.setPort p { s.port p with desc := Smap.set (fun _ => 0) (Smap.set (fun _ => 0) d 0 a.2) 1 b.2 }
  (dealBack first a.1 b.1).foldl (fun t x => takeBlock p x t) s1

def execFrameReceived (p : Fin 4) (first : Bool) (l0 l1 : List (Option (BitVec 66))) (s : State) :=
  run (frameReceived p.val first l0 l1) s

/-! ## The sideband and Ethernet (R353 to R355) -/

/-- SPI_WRITE: the packet of one WRITE transaction. While the CP does not run, it waits in one of two places, but for the
fast path. [DEDUCED, log 91] -/
def spiWrite (b : List Byte) (s : State) : State :=
  if !s.sysUp then s
  else if s.sideBusy then s.inc R.HST_SPICNT_OVF
  else if !crcGood b then s.inc R.HST_SPICNT_CRCERR
  else if (s.cpRuns ∧ s.hst.rx = []) ∨ fastPath (leAt b 2 1) then entered (parsePacket .side b) s
  else { s with hst := { s.hst with rx := s.hst.rx ++ [b] } }

def execSpiWrite (b : List Byte) (s : State) := run (spiWrite b) s

/-- This station's MAC address (R361). -/
def stationMac (s : State) : Nat := (s.reg R.HST_MACHI).toNat * 2 ^ 32 + (s.reg R.HST_MACLO).toNat

/-- The packet in an Ethernet payload: the header gives its length, the rest is padding (R354). -/
def etherPacket (b : List Byte) : List Byte := b.take (20 + leAt b 10 2)

/-- ETHERNET_FRAME: destination, source, IEEE 802.1Q tag (0 for none), EtherType, whether the FCS holds, the length of the
frame, and its payload. EtherType 0x88F7 goes to the datum (PTP_MESSAGE). [DEDUCED, log 95] -/
def ethernetFrame (p : Nat) (dst src tag etype : Nat) (fcs : Bool) (len : Nat) (body : List Byte) (s : State) : State :=
  if !s.sysUp ∨ s.portsFit ≤ p ∨ s.portMode p ≠ 2 ∨ s.portState p ≠ poRUN then s
  else if !fcs then s.inc (R.HST_ETHCNT_W1_FCSERR p)
  else if len < 64 ∨ 2090 < len then s.inc (R.HST_ETHCNT_W1_DISC p)
  else if dst ≠ stationMac s ∧ ¬(dst = 0xFFFFFFFFFFFF ∧ s.fb R.HST_ETHCFG_BCAST) then s.inc (R.HST_ETHCNT_W1_DISC p)
  else if etype = 0x88F7 then s
  else if etype ≠ s.fg R.HST_ETHCFG_ETYPE then s.inc (R.HST_ETHCNT_W1_DISC p)
  else if !crcGood (etherPacket body) then s.inc (R.HST_ETHCNT_W1_DISC p)
  else
    let q := parsePacket (.host p) (etherPacket body)
    let peers := Smap.set (fun _ => ((0 : Nat), (0 : Nat))) s.hst.peers (65536 * p + q.tag) (src, tag)
    entered q { s.inc (R.HST_ETHCNT_W0_RXOK p) with hst := { s.hst with peers := peers } }

def execEthernetFrame (p : Fin 4) (dst src : BitVec 48) (tag etype : BitVec 16) (fcs : Bool) (len : Nat) (body : List Byte)
    (s : State) := run (ethernetFrame p.val dst.toNat src.toNat tag.toNat etype.toNat fcs len body) s

/-! ## Queues (R417 to R419) -/

/-- DEFERRED_INTERIM_REPLY: the first request of class 1 or 2 that has waited 1 ms is told so, once; WAIT is the station's
estimate, a free value. [DESIGN CHOICE, log 93] -/
def deferredInterim (s : State) : State :=
  if !s.cpRuns then s
  else
    let late := fun (h : Held) => !h.interim && s.due h.at_ 1000000
    let mark := fun (x : Held) (l : List Held) => l.map fun h => if h = x then { h with interim := true } else h
    match s.cp.q1.find? late with
    | some h =>
      let f := s.free
      reply h.pkt .queued [] (f.1 % 2 ^ 32) { f.2 with cp := { s.cp with q1 := mark h s.cp.q1 } }
    | none => match s.cp.q2.find? late with
      | some h =>
        let f := s.free
        reply h.pkt .queued [] (f.1 % 2 ^ 32) { f.2 with cp := { s.cp with q2 := mark h s.cp.q2 } }
      | none => s

def execDeferredInterimReply (s : State) := run deferredInterim s

/-- REQUEST_DEADLINE: the first request past its deadline is dropped. -/
def requestDeadline (s : State) : State :=
  if !s.cpRuns then s
  else match s.cp.q1.find? fun (h : Held) => s.due h.at_ 10000000 with
    | some h => reply h.pkt (.refused rDEADLINE) [] 0 { s with cp := { s.cp with q1 := s.cp.q1.erase h } }
    | none => match s.cp.q2.find? fun (h : Held) => s.due h.at_ 100000000 with
      | some h => reply h.pkt (.refused rDEADLINE) [] 0 { s with cp := { s.cp with q2 := s.cp.q2.erase h } }
      | none => s

def execRequestDeadline (s : State) := run requestDeadline s

/-- An atomic request in progress holds what the request needs (R419): a load of the same parcel, a change of its stream tables that
waits for its epoch, an enrolment that is being recorded. [DEDUCED, log 77] -/
def blocked (s : State) (p : Packet) : Bool :=
  (p.opcode == 0x51 && s.arr.loads.any fun l => match l.req with | some r => r.parcel == p.parcel | none => false)
  || (p.opcode == 0x54 && s.fab.pend.any fun (e : Nat × Nat × Nat × Nat × Word × Word) => e.2.1 == p.parcel)
  || (p.opcode == 0x62 && s.nv.jobs.any fun j => j.kind == 6)

/-- The head of a queue, if it can start. -/
def startable (s : State) (l : List Held) : Option Packet :=
  match l with
  | [] => none
  | h :: _ => if blocked s h.pkt then none else some h.pkt

/-- REQUEST_SERVICE_START: a packet that waits on the sideband is taken first; then the CP serves class 1 before class 2 before
class 3, each in order of arrival. -/
def serviceStart (bad : List Nat) (s : State) : State :=
  if !s.cpRuns then s
  else match s.hst.rx with
    | b :: l => entered (parsePacket .side b) { s with hst := { s.hst with rx := l } }
    | [] => match startable s s.cp.q1 with
      | some p => serveOp bad p { s with cp := { s.cp with q1 := s.cp.q1.drop 1 } }
      | none => match startable s s.cp.q2 with
        | some p => serveOp bad p { s with cp := { s.cp with q2 := s.cp.q2.drop 1 } }
        | none => match startable s s.cp.q3 with
          | some p => serveOp bad p { s with cp := { s.cp with q3 := s.cp.q3.drop 1 } }
          | none => s

def execRequestServiceStart (bad : List Nat) (s : State) := run (serviceStart bad) s

end Sys2Proof.Machine
end

