-- ==== Sys2Proof/Machine/Dispatch.lean ====
section
/-! DEFINITION. The dispatch of a command to its meaning: one arm for each constructor. -/
namespace Sys2Proof.Machine

def exec (i : Instr) (s : State) : Host.Outcome State Fault Refusal :=
  match i with
  | .registerWrite a v => Sys2Proof.Machine.execRegisterWrite a v s
  | .registerSetLatch r a => Sys2Proof.Machine.execRegisterSetLatch r a s
  | .dtmNowRead => Sys2Proof.Machine.execDtmNowRead s
  | .sampleFrame err memErr => Sys2Proof.Machine.execSampleFrame err memErr s
  | .barrierLaneFailed l => Sys2Proof.Machine.execBarrierLaneFailed l s
  | .laneMapSwitch got => Sys2Proof.Machine.execLaneMapSwitch got s
  | .barrierLaneRetest l good => Sys2Proof.Machine.execBarrierLaneRetest l good s
  | .stackStreamLoss => Sys2Proof.Machine.execStackStreamLoss s
  | .downStreamLoss => Sys2Proof.Machine.execDownStreamLoss s
  | .downStreamReturn => Sys2Proof.Machine.execDownStreamReturn s
  | .sampleClockLost => Sys2Proof.Machine.execSampleClockLost s
  | .sampleClockReturnReport => Sys2Proof.Machine.execSampleClockReturnReport s
  | .sampleClockReturn got => Sys2Proof.Machine.execSampleClockReturn got s
  | .oscillatorInputLost => Sys2Proof.Machine.execOscillatorInputLost s
  | .crossingStall isl => Sys2Proof.Machine.execCrossingStall isl s
  | .islandFrequencyChange isl k => Sys2Proof.Machine.execIslandFrequencyChange isl k s
  | .domainOnRequest d => Sys2Proof.Machine.execDomainOnRequest d s
  | .domainInrushSlot => Sys2Proof.Machine.execDomainInrushSlot s
  | .domainSupplyGood d => Sys2Proof.Machine.execDomainSupplyGood d s
  | .domainResetRelease d => Sys2Proof.Machine.execDomainResetRelease d s
  | .domainOn d => Sys2Proof.Machine.execDomainOn d s
  | .domainOffRequest d => Sys2Proof.Machine.execDomainOffRequest d s
  | .domainWrapperEmpty d => Sys2Proof.Machine.execDomainWrapperEmpty d s
  | .domainOff d => Sys2Proof.Machine.execDomainOff d s
  | .epochAperture e inputs => Sys2Proof.Machine.execEpochAperture e inputs s
  | .smpCtrlWrite v => Sys2Proof.Machine.execSmpCtrlWrite v s
  | .smpChenWrite idx v => Sys2Proof.Machine.execSmpChenWrite idx v s
  | .smpEmsWrite v => Sys2Proof.Machine.execSmpEmsWrite v s
  | .emsBurst n d => Sys2Proof.Machine.execEmsBurst n d s
  | .configurationBoundary e => Sys2Proof.Machine.execConfigurationBoundary e s
  | .converterSettled n => Sys2Proof.Machine.execConverterSettled n s
  | .averagingWindowEnd n => Sys2Proof.Machine.execAveragingWindowEnd n s
  | .rateChange => Sys2Proof.Machine.execRateChange s
  | .crossRoundStart r => Sys2Proof.Machine.execCrossRoundStart r s
  | .crossRoundEnd => Sys2Proof.Machine.execCrossRoundEnd s
  | .ditherPeriod m amp2 => Sys2Proof.Machine.execDitherPeriod m amp2 s
  | .referenceBlockComplete => Sys2Proof.Machine.execReferenceBlockComplete s
  | .currentReferenceMessage w => Sys2Proof.Machine.execCurrentReferenceMessage w s
  | .autocalInterval => Sys2Proof.Machine.execAutocalInterval s
  | .calibrationGo v => Sys2Proof.Machine.execCalibrationGo v s
  | .calibrationWaitEnd => Sys2Proof.Machine.execCalibrationWaitEnd s
  | .calibrationSettleLow => Sys2Proof.Machine.execCalibrationSettleLow s
  | .calibrationAverageLowDone => Sys2Proof.Machine.execCalibrationAverageLowDone s
  | .calibrationSettleHigh => Sys2Proof.Machine.execCalibrationSettleHigh s
  | .calibrationAverageHighDone => Sys2Proof.Machine.execCalibrationAverageHighDone s
  | .sweepRoundStart e => Sys2Proof.Machine.execSweepRoundStart e s
  | .sweepSlotResult d under => Sys2Proof.Machine.execSweepSlotResult d under s
  | .sweepResultMessage w => Sys2Proof.Machine.execSweepResultMessage w s
  | .injectedTrigger src cell => Sys2Proof.Machine.execInjectedTrigger src cell s
  | .swcInjctlGo v => Sys2Proof.Machine.execSwcInjctlGo v s
  | .swcInjctlDclr v => Sys2Proof.Machine.execSwcInjctlDclr v s
  | .injectedSequenceEnd => Sys2Proof.Machine.execInjectedSequenceEnd s
  | .refSettleTimer => Sys2Proof.Machine.execRefSettleTimer s
  | .ratSettleTimer => Sys2Proof.Machine.execRatSettleTimer s
  | .refNotSettledTimeout => Sys2Proof.Machine.execRefNotSettledTimeout s
  | .comparatorFilterTick cells => Sys2Proof.Machine.execComparatorFilterTick cells s
  | .comparatorTest v => Sys2Proof.Machine.execComparatorTest v s
  | .comparatorTestDone rose fell => Sys2Proof.Machine.execComparatorTestDone rose fell s
  | .balanceSchedulerTick => Sys2Proof.Machine.execBalanceSchedulerTick s
  | .balTmrWrite c v => Sys2Proof.Machine.execBalTmrWrite c v s
  | .balanceAccumulatorSecond c => Sys2Proof.Machine.execBalanceAccumulatorSecond c s
  | .bleedOvercurrent c => Sys2Proof.Machine.execBleedOvercurrent c s
  | .bleedSwitchOpen c mv => Sys2Proof.Machine.execBleedSwitchOpen c mv s
  | .bleedSwitchShort c mv => Sys2Proof.Machine.execBleedSwitchShort c mv s
  | .thermalBandChange temp => Sys2Proof.Machine.execThermalBandChange temp s
  | .balanceForceOn => Sys2Proof.Machine.execBalanceForceOn s
  | .balanceForceOff => Sys2Proof.Machine.execBalanceForceOff s
  | .excitationGo v => Sys2Proof.Machine.execExcitationGo v s
  | .excitationStart => Sys2Proof.Machine.execExcitationStart s
  | .excitationStopWrite v => Sys2Proof.Machine.execExcitationStopWrite v s
  | .excitationBlockEnd data => Sys2Proof.Machine.execExcitationBlockEnd data s
  | .excitationStatusMessage w => Sys2Proof.Machine.execExcitationStatusMessage w s
  | .excitationBiasMessage w => Sys2Proof.Machine.execExcitationBiasMessage w s
  | .bleedStateMessage w => Sys2Proof.Machine.execBleedStateMessage w s
  | .profileWindowComplete q c idx j => Sys2Proof.Machine.execProfileWindowComplete q c idx j s
  | .profileConfigEffect => Sys2Proof.Machine.execProfileConfigEffect s
  | .prfDiscClear v => Sys2Proof.Machine.execPrfDiscClear v s
  | .profileCfg p => Sys2Proof.Machine.execProfileCfg p s
  | .profileRead p => Sys2Proof.Machine.execProfileRead p s
  | .profileDerived p => Sys2Proof.Machine.execProfileDerived p s
  | .estStep q k => Sys2Proof.Machine.execEstStep q k s
  | .resistanceUpdate q => Sys2Proof.Machine.execResistanceUpdate q s
  | .microShortEvaluation q => Sys2Proof.Machine.execMicroShortEvaluation q s
  | .estPublication q k => Sys2Proof.Machine.execEstPublication q k s
  | .estSnapshot => Sys2Proof.Machine.execEstSnapshot s
  | .estSave v => Sys2Proof.Machine.execEstSave v s
  | .estParams p => Sys2Proof.Machine.execEstParams p s
  | .estParamsEffect => Sys2Proof.Machine.execEstParamsEffect s
  | .estRead p => Sys2Proof.Machine.execEstRead p s
  | .estSeed p => Sys2Proof.Machine.execEstSeed p s
  | .estSeedEffect => Sys2Proof.Machine.execEstSeedEffect s
  | .engAdd x ecc => Sys2Proof.Machine.execEngAdd x ecc s
  | .engSub x ecc => Sys2Proof.Machine.execEngSub x ecc s
  | .engAnd x ecc => Sys2Proof.Machine.execEngAnd x ecc s
  | .engOr x ecc => Sys2Proof.Machine.execEngOr x ecc s
  | .engXor x ecc => Sys2Proof.Machine.execEngXor x ecc s
  | .engShl x ecc => Sys2Proof.Machine.execEngShl x ecc s
  | .engShr x ecc => Sys2Proof.Machine.execEngShr x ecc s
  | .engShra x ecc => Sys2Proof.Machine.execEngShra x ecc s
  | .engCmp x ecc => Sys2Proof.Machine.execEngCmp x ecc s
  | .engAndn x ecc => Sys2Proof.Machine.execEngAndn x ecc s
  | .engMin x ecc => Sys2Proof.Machine.execEngMin x ecc s
  | .engMax x ecc => Sys2Proof.Machine.execEngMax x ecc s
  | .engAdds x ecc => Sys2Proof.Machine.execEngAdds x ecc s
  | .engSubs x ecc => Sys2Proof.Machine.execEngSubs x ecc s
  | .engMul x ecc => Sys2Proof.Machine.execEngMul x ecc s
  | .engMulh x ecc => Sys2Proof.Machine.execEngMulh x ecc s
  | .engMulhu x ecc => Sys2Proof.Machine.execEngMulhu x ecc s
  | .engClz x ecc => Sys2Proof.Machine.execEngClz x ecc s
  | .engAbs x ecc => Sys2Proof.Machine.execEngAbs x ecc s
  | .engPadd x ecc => Sys2Proof.Machine.execEngPadd x ecc s
  | .engPsub x ecc => Sys2Proof.Machine.execEngPsub x ecc s
  | .engPack x ecc => Sys2Proof.Machine.execEngPack x ecc s
  | .engCmul x ecc => Sys2Proof.Machine.execEngCmul x ecc s
  | .engCmulc x ecc => Sys2Proof.Machine.execEngCmulc x ecc s
  | .engConj x ecc => Sys2Proof.Machine.execEngConj x ecc s
  | .engMov x ecc => Sys2Proof.Machine.execEngMov x ecc s
  | .engAddi x ecc => Sys2Proof.Machine.execEngAddi x ecc s
  | .engAndi x ecc => Sys2Proof.Machine.execEngAndi x ecc s
  | .engOri x ecc => Sys2Proof.Machine.execEngOri x ecc s
  | .engXori x ecc => Sys2Proof.Machine.execEngXori x ecc s
  | .engCmpi x ecc => Sys2Proof.Machine.execEngCmpi x ecc s
  | .engShli x ecc => Sys2Proof.Machine.execEngShli x ecc s
  | .engShri x ecc => Sys2Proof.Machine.execEngShri x ecc s
  | .engShrai x ecc => Sys2Proof.Machine.execEngShrai x ecc s
  | .engMovi x ecc => Sys2Proof.Machine.execEngMovi x ecc s
  | .engMovh x ecc => Sys2Proof.Machine.execEngMovh x ecc s
  | .engLdw x ecc => Sys2Proof.Machine.execEngLdw x ecc s
  | .engLdh x ecc => Sys2Proof.Machine.execEngLdh x ecc s
  | .engLdhu x ecc => Sys2Proof.Machine.execEngLdhu x ecc s
  | .engLdb x ecc => Sys2Proof.Machine.execEngLdb x ecc s
  | .engLdbu x ecc => Sys2Proof.Machine.execEngLdbu x ecc s
  | .engStw x ecc => Sys2Proof.Machine.execEngStw x ecc s
  | .engSth x ecc => Sys2Proof.Machine.execEngSth x ecc s
  | .engStb x ecc => Sys2Proof.Machine.execEngStb x ecc s
  | .engBeq x ecc => Sys2Proof.Machine.execEngBeq x ecc s
  | .engBne x ecc => Sys2Proof.Machine.execEngBne x ecc s
  | .engBlt x ecc => Sys2Proof.Machine.execEngBlt x ecc s
  | .engBge x ecc => Sys2Proof.Machine.execEngBge x ecc s
  | .engBltu x ecc => Sys2Proof.Machine.execEngBltu x ecc s
  | .engBgeu x ecc => Sys2Proof.Machine.execEngBgeu x ecc s
  | .engBsf x ecc => Sys2Proof.Machine.execEngBsf x ecc s
  | .engBra x ecc => Sys2Proof.Machine.execEngBra x ecc s
  | .engCall x ecc => Sys2Proof.Machine.execEngCall x ecc s
  | .engRet x ecc => Sys2Proof.Machine.execEngRet x ecc s
  | .engJmpr x ecc => Sys2Proof.Machine.execEngJmpr x ecc s
  | .engLoop x ecc => Sys2Proof.Machine.execEngLoop x ecc s
  | .engCmac x ecc => Sys2Proof.Machine.execEngCmac x ecc s
  | .engCmacc x ecc => Sys2Proof.Machine.execEngCmacc x ecc s
  | .engCmac2 x ecc => Sys2Proof.Machine.execEngCmac2 x ecc s
  | .engCmac2c x ecc => Sys2Proof.Machine.execEngCmac2c x ecc s
  | .engMacr x ecc => Sys2Proof.Machine.execEngMacr x ecc s
  | .engMsur x ecc => Sys2Proof.Machine.execEngMsur x ecc s
  | .engAclr x ecc => Sys2Proof.Machine.execEngAclr x ecc s
  | .engAcrd x ecc => Sys2Proof.Machine.execEngAcrd x ecc s
  | .engAcget x ecc => Sys2Proof.Machine.execEngAcget x ecc s
  | .engAcwr x ecc => Sys2Proof.Machine.execEngAcwr x ecc s
  | .engNcosync x ecc => Sys2Proof.Machine.execEngNcosync x ecc s
  | .engNcoadv x ecc => Sys2Proof.Machine.execEngNcoadv x ecc s
  | .engNcoq x ecc => Sys2Proof.Machine.execEngNcoq x ecc s
  | .engNcoqp x ecc => Sys2Proof.Machine.execEngNcoqp x ecc s
  | .engPop x ecc => Sys2Proof.Machine.execEngPop x ecc s
  | .engPopn x ecc => Sys2Proof.Machine.execEngPopn x ecc s
  | .engAvail x ecc => Sys2Proof.Machine.execEngAvail x ecc s
  | .engPush x ecc => Sys2Proof.Machine.execEngPush x ecc s
  | .engPushe x ecc => Sys2Proof.Machine.execEngPushe x ecc s
  | .engMfs x ecc => Sys2Proof.Machine.execEngMfs x ecc s
  | .engMts x ecc => Sys2Proof.Machine.execEngMts x ecc s
  | .engDmaq x ecc => Sys2Proof.Machine.execEngDmaq x ecc s
  | .engWait x ecc => Sys2Proof.Machine.execEngWait x ecc s
  | .engBar x ecc => Sys2Proof.Machine.execEngBar x ecc s
  | .engFence x ecc => Sys2Proof.Machine.execEngFence x ecc s
  | .engWdr x ecc => Sys2Proof.Machine.execEngWdr x ecc s
  | .engHalt x ecc => Sys2Proof.Machine.execEngHalt x ecc s
  | .engBrk x ecc => Sys2Proof.Machine.execEngBrk x ecc s
  | .engineStallRelease x => Sys2Proof.Machine.execEngineStallRelease x s
  | .engineWatchdog x => Sys2Proof.Machine.execEngineWatchdog x s
  | .dmaDescriptorStart p ecc => Sys2Proof.Machine.execDmaDescriptorStart p ecc s
  | .dmaDescriptorComplete p bad cor => Sys2Proof.Machine.execDmaDescriptorComplete p bad cor s
  | .streamFrameDelivery x p lost => Sys2Proof.Machine.execStreamFrameDelivery x p lost s
  | .engineStart e => Sys2Proof.Machine.execEngineStart e s
  | .kernelStage p => Sys2Proof.Machine.execKernelStage p s
  | .kernelLeaseExpiry q => Sys2Proof.Machine.execKernelLeaseExpiry q s
  | .loadKernel p => Sys2Proof.Machine.execLoadKernel p s
  | .engineHalt p => Sys2Proof.Machine.execEngineHalt p s
  | .engineResume p => Sys2Proof.Machine.execEngineResume p s
  | .engineRestart p => Sys2Proof.Machine.execEngineRestart p s
  | .engineStat p => Sys2Proof.Machine.execEngineStat p s
  | .plotReset p v => Sys2Proof.Machine.execPlotReset p v s
  | .plotHalt p v => Sys2Proof.Machine.execPlotHalt p v s
  | .plotResume p v => Sys2Proof.Machine.execPlotResume p v s
  | .plotEccClear p v => Sys2Proof.Machine.execPlotEccClear p v s
  | .plotClockStep p => Sys2Proof.Machine.execPlotClockStep p s
  | .parcelMoveFreeze => Sys2Proof.Machine.execParcelMoveFreeze s
  | .parallelMoveStart => Sys2Proof.Machine.execParallelMoveStart s
  | .parallelMoveHandover => Sys2Proof.Machine.execParallelMoveHandover s
  | .plotThermalRestore p => Sys2Proof.Machine.execPlotThermalRestore p s
  | .meshLinkFailed l => Sys2Proof.Machine.execMeshLinkFailed l s
  | .meshLinkRetest l good => Sys2Proof.Machine.execMeshLinkRetest l good s
  | .streamSub p => Sys2Proof.Machine.execStreamSub p s
  | .streamSubEffect => Sys2Proof.Machine.execStreamSubEffect s
  | .streamStat p => Sys2Proof.Machine.execStreamStat p s
  | .fabSclossClear v => Sys2Proof.Machine.execFabSclossClear v s
  | .fabPdecClear q v => Sys2Proof.Machine.execFabPdecClear q v s
  | .deedApply p => Sys2Proof.Machine.execDeedApply p s
  | .deedCommitComplete => Sys2Proof.Machine.execDeedCommitComplete s
  | .deedEffect => Sys2Proof.Machine.execDeedEffect s
  | .scrubComplete => Sys2Proof.Machine.execScrubComplete s
  | .holderEnrol p => Sys2Proof.Machine.execHolderEnrol p s
  | .cadastreRead p => Sys2Proof.Machine.execCadastreRead p s
  | .authSession p => Sys2Proof.Machine.execAuthSession p s
  | .cadPauthfClear q v => Sys2Proof.Machine.execCadPauthfClear q v s
  | .frameReceived p first l0 l1 => Sys2Proof.Machine.execFrameReceived p first l0 l1 s
  | .transmitFrameStart p => Sys2Proof.Machine.execTransmitFrameStart p s
  | .laneBlockLock p l hdrs last => Sys2Proof.Machine.execLaneBlockLock p l hdrs last s
  | .laneLockLoss p l hdrs => Sys2Proof.Machine.execLaneLockLoss p l hdrs s
  | .portHuntTimeout p => Sys2Proof.Machine.execPortHuntTimeout p s
  | .errorCountLeak p => Sys2Proof.Machine.execErrorCountLeak p s
  | .markBlock p lanes aligned j b t => Sys2Proof.Machine.execMarkBlock p lanes aligned j b t s
  | .dlyBlock p b meas => Sys2Proof.Machine.execDlyBlock p b meas s
  | .lstatBlock p b => Sys2Proof.Machine.execLstatBlock p b s
  | .trainBlock p l n b => Sys2Proof.Machine.execTrainBlock p l n b s
  | .portTrainingStart p => Sys2Proof.Machine.execPortTrainingStart p s
  | .trainingStepDown p => Sys2Proof.Machine.execTrainingStepDown p s
  | .trainingTimeout p => Sys2Proof.Machine.execTrainingTimeout p s
  | .portRetrain p v => Sys2Proof.Machine.execPortRetrain p v s
  | .portCounterClear p v => Sys2Proof.Machine.execPortCounterClear p v s
  | .portEnable p v => Sys2Proof.Machine.execPortEnable p v s
  | .spiStatus => Sys2Proof.Machine.execSpiStatus s
  | .spiWrite b => Sys2Proof.Machine.execSpiWrite b s
  | .spiRead n => Sys2Proof.Machine.execSpiRead n s
  | .spiFlush => Sys2Proof.Machine.execSpiFlush s
  | .spiUnknownCommand => Sys2Proof.Machine.execSpiUnknownCommand s
  | .ethernetFrame p dst src tag etype fcs len body => Sys2Proof.Machine.execEthernetFrame p dst src tag etype fcs len body s
  | .ptpMessage p kind domain seq two t corr => Sys2Proof.Machine.execPtpMessage p kind domain seq two t corr s
  | .cycleStart k => Sys2Proof.Machine.execCycleStart k s
  | .rollCallFrame p h body => Sys2Proof.Machine.execRollCallFrame p h body s
  | .rollCallLost => Sys2Proof.Machine.execRollCallLost s
  | .fastPathDeadlineMiss p => Sys2Proof.Machine.execFastPathDeadlineMiss p s
  | .discoveryStart => Sys2Proof.Machine.execDiscoveryStart s
  | .survey q => Sys2Proof.Machine.execSurvey q s
  | .surveyTimeout => Sys2Proof.Machine.execSurveyTimeout s
  | .discoveryResultsDone => Sys2Proof.Machine.execDiscoveryResultsDone s
  | .assign q => Sys2Proof.Machine.execAssign q s
  | .addressEffect => Sys2Proof.Machine.execAddressEffect s
  | .linkNotice q => Sys2Proof.Machine.execLinkNotice q s
  | .rediscover v => Sys2Proof.Machine.execRediscover v s
  | .datumHoldEntry => Sys2Proof.Machine.execDatumHoldEntry s
  | .datumReferenceWaitTimeout => Sys2Proof.Machine.execDatumReferenceWaitTimeout s
  | .ppsEdge rising => Sys2Proof.Machine.execPpsEdge rising s
  | .dtmTodArm v => Sys2Proof.Machine.execDtmTodArm v s
  | .heartbeat p => Sys2Proof.Machine.execHeartbeat p s
  | .barrier p => Sys2Proof.Machine.execBarrier p s
  | .barrierReached => Sys2Proof.Machine.execBarrierReached s
  | .barrierCollectToken b abs => Sys2Proof.Machine.execBarrierCollectToken b abs s
  | .groupSet q => Sys2Proof.Machine.execGroupSet q s
  | .ident q => Sys2Proof.Machine.execIdent q s
  | .snapshotAt p => Sys2Proof.Machine.execSnapshotAt p s
  | .snapshotCapture => Sys2Proof.Machine.execSnapshotCapture s
  | .snapshotReply => Sys2Proof.Machine.execSnapshotReply s
  | .crefBlocks p => Sys2Proof.Machine.execCrefBlocks p s
  | .replyReceived p => Sys2Proof.Machine.execReplyReceived p s
  | .deferredInterimReply => Sys2Proof.Machine.execDeferredInterimReply s
  | .requestDeadline => Sys2Proof.Machine.execRequestDeadline s
  | .requestServiceStart bad => Sys2Proof.Machine.execRequestServiceStart bad s
  | .originationRelease => Sys2Proof.Machine.execOriginationRelease s
  | .regRead p => Sys2Proof.Machine.execRegRead p s
  | .regWrite p => Sys2Proof.Machine.execRegWrite p s
  | .regRmw p => Sys2Proof.Machine.execRegRmw p s
  | .regReadBlock p => Sys2Proof.Machine.execRegReadBlock p s
  | .resetCold p => Sys2Proof.Machine.execResetCold p s
  | .resetWarm p => Sys2Proof.Machine.execResetWarm p s
  | .resetPlot p => Sys2Proof.Machine.execResetPlot p s
  | .resetPort p => Sys2Proof.Machine.execResetPort p s
  | .resetAtEpoch => Sys2Proof.Machine.execResetAtEpoch s
  | .captureCfg p => Sys2Proof.Machine.execCaptureCfg p s
  | .captureConfigEffect => Sys2Proof.Machine.execCaptureConfigEffect s
  | .captureTrig p => Sys2Proof.Machine.execCaptureTrig p s
  | .capturePostComplete k => Sys2Proof.Machine.execCapturePostComplete k s
  | .captureRead p bad => Sys2Proof.Machine.execCaptureRead p bad s
  | .balSet p => Sys2Proof.Machine.execBalSet p s
  | .excStart p => Sys2Proof.Machine.execExcStart p s
  | .excStop p => Sys2Proof.Machine.execExcStop p s
  | .kernelDemandFrame items => Sys2Proof.Machine.execKernelDemandFrame items s
  | .kernelDemandTimeout => Sys2Proof.Machine.execKernelDemandTimeout s
  | .rampInterval => Sys2Proof.Machine.execRampInterval s
  | .scs1Backstop => Sys2Proof.Machine.execScs1Backstop s
  | .contactChange idx b made => Sys2Proof.Machine.execContactChange idx b made s
  | .discrepancyTimeout idx => Sys2Proof.Machine.execDiscrepancyTimeout idx s
  | .inputFaultRecovery idx => Sys2Proof.Machine.execInputFaultRecovery idx s
  | .testPulse src failed => Sys2Proof.Machine.execTestPulse src failed s
  | .srstRising => Sys2Proof.Machine.execSrstRising s
  | .srstFalling => Sys2Proof.Machine.execSrstFalling s
  | .srstJammed => Sys2Proof.Machine.execSrstJammed s
  | .srstUnjam => Sys2Proof.Machine.execSrstUnjam s
  | .startRequest => Sys2Proof.Machine.execStartRequest s
  | .startAnswer ok cause => Sys2Proof.Machine.execStartAnswer ok cause s
  | .startTimeout => Sys2Proof.Machine.execStartTimeout s
  | .runTokenSend bySystem => Sys2Proof.Machine.execRunTokenSend bySystem s
  | .runToken atSystem w => Sys2Proof.Machine.execRunToken atSystem w s
  | .tokenMissing atSystem => Sys2Proof.Machine.execTokenMissing atSystem s
  | .disagreementNotice atSystem cause => Sys2Proof.Machine.execDisagreementNotice atSystem cause s
  | .runWithdrawal cause => Sys2Proof.Machine.execRunWithdrawal cause s
  | .supervisorScs1Request => Sys2Proof.Machine.execSupervisorScs1Request s
  | .sleepNotice => Sys2Proof.Machine.execSleepNotice s
  | .stackResetMessage => Sys2Proof.Machine.execStackResetMessage s
  | .stackReleaseNotice => Sys2Proof.Machine.execStackReleaseNotice s
  | .outputReadback on_ openl => Sys2Proof.Machine.execOutputReadback on_ openl s
  | .offPulseStart o => Sys2Proof.Machine.execOffPulseStart o s
  | .offPulseEnd readOff => Sys2Proof.Machine.execOffPulseEnd readOff s
  | .driverSelfOff o => Sys2Proof.Machine.execDriverSelfOff o s
  | .driverCurrentLimit o => Sys2Proof.Machine.execDriverCurrentLimit o s
  | .socSelfCheck oscOk tog => Sys2Proof.Machine.execSocSelfCheck oscOk tog s
  | .safetyPdu p => Sys2Proof.Machine.execSafetyPdu p s
  | .connectionTimeout k => Sys2Proof.Machine.execConnectionTimeout k s
  | .producerPdu k => Sys2Proof.Machine.execProducerPdu k s
  | .producerSessionFetch k => Sys2Proof.Machine.execProducerSessionFetch k s
  | .checksumRecompute bySystem => Sys2Proof.Machine.execChecksumRecompute bySystem s
  | .safetySetLoad => Sys2Proof.Machine.execSafetySetLoad s
  | .safesetOpen p => Sys2Proof.Machine.execSafesetOpen p s
  | .safesetStage p => Sys2Proof.Machine.execSafesetStage p s
  | .safesetCommit p => Sys2Proof.Machine.execSafesetCommit p s
  | .safesetRecordCommitted => Sys2Proof.Machine.execSafesetRecordCommitted s
  | .safetySetSwitch => Sys2Proof.Machine.execSafetySetSwitch s
  | .safesetClose p => Sys2Proof.Machine.execSafesetClose p s
  | .safesetChangeExpiry => Sys2Proof.Machine.execSafesetChangeExpiry s
  | .safelogRead p => Sys2Proof.Machine.execSafelogRead p s
  | .safelogAck p => Sys2Proof.Machine.execSafelogAck p s
  | .safePassword p => Sys2Proof.Machine.execSafePassword p s
  | .passwordLockoutEnd => Sys2Proof.Machine.execPasswordLockoutEnd s
  | .faultEvent => Sys2Proof.Machine.execFaultEvent s
  | .historyEntryClose => Sys2Proof.Machine.execHistoryEntryClose s
  | .stackFaultResend => Sys2Proof.Machine.execStackFaultResend s
  | .historyClear v => Sys2Proof.Machine.execHistoryClear v s
  | .faultToneTick => Sys2Proof.Machine.execFaultToneTick s
  | .ftinEdge => Sys2Proof.Machine.execFtinEdge s
  | .ftinTimeout => Sys2Proof.Machine.execFtinTimeout s
  | .healthMessage => Sys2Proof.Machine.execHealthMessage s
  | .healthTimeout => Sys2Proof.Machine.execHealthTimeout s
  | .stackPowerOn => Sys2Proof.Machine.execStackPowerOn s
  | .stackBrownOut => Sys2Proof.Machine.execStackBrownOut s
  | .systemPowerOn => Sys2Proof.Machine.execSystemPowerOn s
  | .systemBrownOut => Sys2Proof.Machine.execSystemBrownOut s
  | .resetnPin => Sys2Proof.Machine.execResetnPin s
  | .coldResetCommand v => Sys2Proof.Machine.execColdResetCommand v s
  | .warmResetCommand v => Sys2Proof.Machine.execWarmResetCommand v s
  | .warmResetResume => Sys2Proof.Machine.execWarmResetResume s
  | .cpWatchdogExpiry => Sys2Proof.Machine.execCpWatchdogExpiry s
  | .watchdogKick v => Sys2Proof.Machine.execWatchdogKick v s
  | .lockstepMismatch => Sys2Proof.Machine.execLockstepMismatch s
  | .lockstepWarmReset => Sys2Proof.Machine.execLockstepWarmReset s
  | .stackHalfRewrite => Sys2Proof.Machine.execStackHalfRewrite s
  | .releaseStackHalf => Sys2Proof.Machine.execReleaseStackHalf s
  | .releaseSystemHalf failed => Sys2Proof.Machine.execReleaseSystemHalf failed s
  | .releaseBootRom => Sys2Proof.Machine.execReleaseBootRom s
  | .powerUpSelfTest cp fab plots => Sys2Proof.Machine.execPowerUpSelfTest cp fab plots s
  | .imageCheck => Sys2Proof.Machine.execImageCheck s
  | .firmwareStart => Sys2Proof.Machine.execFirmwareStart s
  | .releasePortTraining => Sys2Proof.Machine.execReleasePortTraining s
  | .cadastreRestore => Sys2Proof.Machine.execCadastreRestore s
  | .parcelsRunning => Sys2Proof.Machine.execParcelsRunning s
  | .spareVisit => Sys2Proof.Machine.execSpareVisit s
  | .plotTestComplete ok => Sys2Proof.Machine.execPlotTestComplete ok s
  | .memoryPatrol p e => Sys2Proof.Machine.execMemoryPatrol p e s
  | .selfTestNow bad v => Sys2Proof.Machine.execSelfTestNow bad v s
  | .communicationLossTimeout => Sys2Proof.Machine.execCommunicationLossTimeout s
  | .sleepNow v => Sys2Proof.Machine.execSleepNow v s
  | .sleepNoticeSend => Sys2Proof.Machine.execSleepNoticeSend s
  | .auxenRelease => Sys2Proof.Machine.execAuxenRelease s
  | .sleepColdReset => Sys2Proof.Machine.execSleepColdReset s
  | .wakeSource src => Sys2Proof.Machine.execWakeSource src s
  | .wakeReassert => Sys2Proof.Machine.execWakeReassert s
  | .stackWake => Sys2Proof.Machine.execStackWake s
  | .housekeepingRound j0 j1 j2 j3 hot => Sys2Proof.Machine.execHousekeepingRound j0 j1 j2 j3 hot s
  | .thermalStepInterval => Sys2Proof.Machine.execThermalStepInterval s
  | .captureMemoryOff v => Sys2Proof.Machine.execCaptureMemoryOff v s
  | .flashIdleOff => Sys2Proof.Machine.execFlashIdleOff s
  | .nvWrite p => Sys2Proof.Machine.execNvWrite p s
  | .nvCommit p => Sys2Proof.Machine.execNvCommit p s
  | .nvJournalDurable => Sys2Proof.Machine.execNvJournalDurable s
  | .nvCopyDone => Sys2Proof.Machine.execNvCopyDone s
  | .nvBufferExpiry => Sys2Proof.Machine.execNvBufferExpiry s
  | .nvRead p ecc => Sys2Proof.Machine.execNvRead p ecc s
  | .counterIncrement v => Sys2Proof.Machine.execCounterIncrement v s
  | .flashEraseComplete => Sys2Proof.Machine.execFlashEraseComplete s
  | .flashSuspend v => Sys2Proof.Machine.execFlashSuspend v s
  | .flashResume v => Sys2Proof.Machine.execFlashResume v s
  | .fwDownload p => Sys2Proof.Machine.execFwDownload p s
  | .fwLeaseExpiry => Sys2Proof.Machine.execFwLeaseExpiry s
  | .fwVerify p ecc => Sys2Proof.Machine.execFwVerify p ecc s
  | .fwActivate p => Sys2Proof.Machine.execFwActivate p s
  | .fwConfirm p => Sys2Proof.Machine.execFwConfirm p s
  | .updStat p => Sys2Proof.Machine.execUpdStat p s
  | .pegModeWrite n v => Sys2Proof.Machine.execPegModeWrite n v s
  | .pegPowerUpEnd n => Sys2Proof.Machine.execPegPowerUpEnd n s
  | .pegLineShort n => Sys2Proof.Machine.execPegLineShort n s
  | .pegFaultRetry n => Sys2Proof.Machine.execPegFaultRetry n s
  | .pegSearch n v => Sys2Proof.Machine.execPegSearch n v s
  | .pegSearchPass n census => Sys2Proof.Machine.execPegSearchPass n census s
  | .pegVerify n reply => Sys2Proof.Machine.execPegVerify n reply s
  | .pegReplyFrame n ivs ep => Sys2Proof.Machine.execPegReplyFrame n ivs ep s
  | .pegNoResponse n => Sys2Proof.Machine.execPegNoResponse n s
  | .pegFrameGap n => Sys2Proof.Machine.execPegFrameGap n s
  | .pegPollRound n => Sys2Proof.Machine.execPegPollRound n s
  | .pegCounterClear n v => Sys2Proof.Machine.execPegCounterClear n v s
  | .sentFrame n ivs ep => Sys2Proof.Machine.execSentFrame n ivs ep s
  | .oscillatorInputReturn => Sys2Proof.Machine.execOscillatorInputReturn s
  | .visoChangeover inside => Sys2Proof.Machine.execVisoChangeover inside s
  | .ppsReferenceLost => Sys2Proof.Machine.execPpsReferenceLost s
  | .trainingRateStep p => Sys2Proof.Machine.execTrainingRateStep p s
  | .parcelMoveComplete => Sys2Proof.Machine.execParcelMoveComplete s
  | .scs1Notice begin_ twin => Sys2Proof.Machine.execScs1Notice begin_ twin s
  | .startWithdrawal => Sys2Proof.Machine.execStartWithdrawal s
  | .liveLossReport m => Sys2Proof.Machine.execLiveLossReport m s
  | .safetyMessageAcknowledge bySystem kind => Sys2Proof.Machine.execSafetyMessageAcknowledge bySystem kind s
  | .startupCommunicationTimeout => Sys2Proof.Machine.execStartupCommunicationTimeout s
  | .standAloneRecoveryEnd => Sys2Proof.Machine.execStandAloneRecoveryEnd s
  | .broadcastBoundUpdate nTrav nTie h dmax => Sys2Proof.Machine.execBroadcastBoundUpdate nTrav nTie h dmax s
  | .flashProgramComplete => Sys2Proof.Machine.execFlashProgramComplete s

end Sys2Proof.Machine
end

