-- ==== Sys2Proof/Safety.lean ====
section
/-! DEFINITION. What counts as safe, in the terms claims use: outputs off, the safe state, and no authority to run. -/
namespace Sys2Proof.Machine

/-- No output conducts (R437, R445). -/
def State.outputsOff (s : State) : Prop := s.fg R.SAF_OUT_ON = 0

/-- SOC is in SAFE (R444). -/
def State.isSafe (s : State) : Prop := s.socState = stSAFE

/-- Neither half asserts RUN (R441, R456). -/
def State.noRun (s : State) : Prop := s.fg R.SAF_STAT_YRUN = 0 ∧ s.ssv.run = false

/-- Command `c` completes: it answers a next state, of which `P` holds. -/
def Does (c : Instr) (s : State) (P : State → Prop) : Prop := ∃ t, exec c s = .next t ∧ P t

/-- Every register whose address is not listed reads as before. -/
def SameRegs (l : List Nat) (s t : State) : Prop := ∀ a, a ∉ l → t.reg a = s.reg a

/-- The sticky bit of a fault source is set on its island (R479, R480). -/
abbrev Raised (code isl : Nat) (t : State) : Prop := (t.reg (R.FLT_ISL isl)).toNat.testBit (faultBit code) = true

/-- Sparse contents `m'` that differ from `m` at most at key `k`. -/
def SameBut {α : Type} (d : Nat → α) (k : Nat) (m m' : List (Nat × α)) : Prop :=
  ∀ j, j ≠ k → Smap.get d m' j = Smap.get d m j

/-- A request of opcode `op` passes the checks of R407 (rows 3 to 12): `q` is the request without its authentication
block and `s1` the state in which its own rule starts. -/
abbrev Admits (op : Nat) (p : Packet) (s : State) (q : Packet) (s1 : State) : Prop :=
  (if fastPath op then s.sysUp else s.cpRuns) = true ∧ headerCheck s { p with opcode := op } = none ∧
  authenticate { p with opcode := op } s = (.ok q, s1) ∧ mayPerm s1 q = true ∧
  (q.parcel = 0 ∨ s1.fb R.CAD_STAT_RESTORED = true) ∧ admission s1 q = none

/-- Status and reason of the last reply that the station made (R408, R410). -/
def State.lastReply (s : State) : Option (List Nat) :=
  ((s.out.filter fun o => o.ch == .reply).getLast?).map fun o => o.args.take 2

/-- The body of that reply. -/
def State.lastBody (s : State) : Option (List Byte) :=
  ((s.out.filter fun o => o.ch == .reply).getLast?).map fun o => o.data

/-- The counters that the sending of a reply may step: frames out of the host port by which it leaves (R354). -/
def replyCounters : Via → List Nat
  | .host k => [R.HST_ETHCNT_W2 k]
  | .ring _ => [R.HST_ETHCNT_W2 0, R.HST_ETHCNT_W2 1, R.HST_ETHCNT_W2 2, R.HST_ETHCNT_W2 3]
  | _ => []

/-- An Ethernet frame of source `sr` and tag `tg` has been accepted on port `p`: it is counted, and its source is kept for the
reply to its packet (R353, R354). -/
def etherSeen (p sr tg : Nat) (b : List Byte) (s : State) : State :=
  let k := 65536 * p + (parsePacket (.host p) (etherPacket b)).tag
  let peers := Smap.set (fun _ => ((0 : Nat), (0 : Nat))) s.hst.peers k (sr, tg)
  { s.inc (R.HST_ETHCNT_W0_RXOK p) with hst := { s.hst with peers := peers } }

/-- What lane `l` brings when the blocks of frame `f` are dealt over `lanes`, the `i`-th of them first, through scramblers that stand
as `st` says (R330, R331). -/
def laneWords (lanes : List Nat) (i : Nat) (st : List (Nat × Nat)) (f : Frame) (l : Nat) : List (Option (BitVec 66)) :=
  ((dealOut lanes i st (frameBlocks f)).filter fun e => e.1 == l).map fun e => some (BitVec.ofNat 66 e.2)

/-- Port `p` takes frames on the lanes `lanes`, none has begun, and its error count lies below its limit (R330, R337, R348). -/
abbrev Listens (p : Fin 4) (lanes : List Nat) (s : State) : Prop :=
  receiving s p.val = true ∧ (s.port p.val).rx = none ∧ s.fg (R.TRV_PERR_COUNT p.val) < s.fg (R.TRV_PERR_LIMIT p.val) ∧
  lanes ∈ [[0], [1], [0, 1]] ∧ s.fg (R.TRV_PSTAT_RXL p.val) = (if lanes = [0] then 1 else if lanes = [1] then 2 else 3)

/-- A frame whose link header and body the blocks of R335 carry as they are. -/
abbrev Sendable (f : Frame) : Prop :=
  headerGood (linkHeader f) = true ∧ linkHeader f < 2 ^ 56 ∧ f.body.length % 8 ≠ 7

/-- The last entry of the output trace. -/
def State.lastOut (s : State) : Option Out := s.out.getLast?

/-- The last entry's channel and arguments. -/
def State.lastMsg (s : State) : Option (Chan × List Nat) := s.out.getLast?.map fun o => (o.ch, o.args)

/-- Engine `x` runs, is not stalled, has no exception of a descriptor waiting, and the word at its PC is `w`, of opcode
`opc` (R230, R231). -/
abbrev Issues (x : Fin 1024) (opc w : Nat) (s : State) : Prop :=
  (s.engine x.val).st = esRUNNING ∧ (s.engine x.val).stall = 0 ∧ (s.engine x.val).dmaExc = none ∧
  (Smap.get (fun _ => (0 : Word)) (s.engine x.val).imem (s.engine x.val).pc).toNat = w ∧ iOPC w = opc

/-- The memory code's count when it corrected a word that the instruction read (R243). -/
def eccDone (x : Fin 1024) (ecc : Fin 4) (s : State) : State := if ecc = 1 then s.inc (R.ENG_PLECC_COR (x.val / 32)) else s

/-- The engine counts the instruction that it issues (R228). -/
def Eng.counted (e : Eng) : Eng := { e with cyc := e.cyc + 1 }

/-- An instruction of engine `x` left the engine `e` and was counted, and execution went on after it; no other engine and
nothing outside the engines changed, but for the count of corrected words. -/
abbrev Goes (x : Fin 1024) (ecc : Fin 4) (e : Eng) (s t : State) : Prop :=
  t.engine x.val = e.counted.seq (s.engine x.val).pc ∧ SameBut (fun _ => ({} : Eng)) x.val s.arr.engs t.arr.engs ∧
  t = { eccDone x ecc s with arr := { s.arr with engs := t.arr.engs } }

/-- The same for an instruction that transfers control to `a` and leaves the engine `e` otherwise (R233, R237). -/
abbrev Jumps (x : Fin 1024) (ecc : Fin 4) (a : Nat) (e : Eng) (s t : State) : Prop :=
  t.engine x.val = { e.counted with pc := a, loops := afterJump e.loops a, stall := 0 } ∧
  SameBut (fun _ => ({} : Eng)) x.val s.arr.engs t.arr.engs ∧
  t = { eccDone x ecc s with arr := { s.arr with engs := t.arr.engs } }

/-- An instruction of engine `x` wrote `v` into the register its D field names, and execution went on after it. -/
abbrev Writes (x : Fin 1024) (ecc : Fin 4) (w : Nat) (v : Word) (s t : State) : Prop :=
  Goes x ecc ((s.engine x.val).setGr (iD w) v) s t

/-- The system half entered a reset of scope `k` (1 SYS-POR, 2 SYS-COLD, 3 SYS-WARM) and nothing of the stack half changed:
every register outside capture memory that the scope does not keep holds its reset value, the others what they held; the
registers in which the reset is recorded are stated beside this. What the check of the retained memory finds after a warm
reset is free (R494, R495, R502). -/
abbrev SystemResets (k : Nat) (s t : State) : Prop :=
  t.rst.scope = k ∧ t.rst.since = s.lt ∧ t.lt = s.lt ∧ t.arr = {} ∧ t.fab = {} ∧ t.cp = {} ∧ t.hst = {} ∧ t.trv = {} ∧
  t.cad = {} ∧ t.soc = {} ∧ t.prf = {} ∧ t.svc = {} ∧ t.peg = [] ∧ t.change = none ∧ t.nvBuf = none ∧
  (t.est = {} ∨ (k = 3 ∧ t.est = retained s.est)) ∧ (k = 3 ∨ t.cap = {}) ∧ t.smp = s.smp ∧ t.swp = s.swp ∧ t.cmp = s.cmp ∧
  t.bal = s.bal ∧ t.exc = s.exc ∧ t.ssv = s.ssv ∧ t.stao = s.stao ∧ t.stackQ = s.stackQ ∧
  t.fg R.RST_STAT_STEP = b2n s.rst.stackUp ∧
  (∀ a, a ∉ [R.RST_CAUSE, R.RST_STAT, R.RST_CNT, R.PWR_STAT, R.FLT_TONE] → a < 0x1D0000 ∨ 0x1E0000 ≤ a →
    t.reg a = if systemKeeps k a = true then s.reg a else resetWord a)

/-- The stack half entered reset and nothing of the system half changed but what records it (R494, R496). -/
abbrev StackResets (s t : State) : Prop :=
  t.rst.stackUp = false ∧ t.lt = s.lt ∧ t.smp = {} ∧ t.swp = {} ∧ t.cmp = {} ∧ t.bal = {} ∧ t.exc = {} ∧ t.ssv = {} ∧
  t.stackQ = [] ∧ t.tone = {} ∧ t.stao = {} ∧ t.arr = s.arr ∧ t.cp = s.cp ∧ t.nv = s.nv ∧ t.est = s.est ∧
  (∀ a, a ∉ [R.RST_CAUSE, R.RST_STAT] → t.reg a = if stackScope a = true then resetWord a else s.reg a)

/-- The registers that sending a reply may step are counters of host ports that exist. -/
abbrev realVia (v : Via) : Prop := ∀ a ∈ replyCounters v, a < 0x140000

/-- SOC took its outputs to the safe state with an initiator, its index and the END of a ramp (R444, R445, R475): SAFE, no
output conducts, no half's RUN of its own, CRQ idle, the record with the present epoch, and CNT5 for an output that
conducted. -/
abbrev Stopped (cause index fin : Nat) (s t : State) : Prop :=
  t.fg R.SAF_STAT_STATE = stSAFE ∧ t.fg R.SAF_OUT_ON = 0 ∧ t.fg R.SAF_STAT_YRUN = 0 ∧ t.fg R.SAF_OUT_CRQREQ = 0 ∧
  t.fg R.SAF_CAUSE_CAUSE = cause ∧ t.fg R.SAF_CAUSE_INDEX = index ∧ t.fg R.SAF_CAUSE_END = fin ∧
  t.fg R.SAF_CEPOCH_EPOCH = s.epoch % 2 ^ 32 ∧ t.soc.rampPend = false ∧ t.soc.dropAt = some s.lt ∧
  t.cnt 5 = (if s.energised = true then min 4294967295 (s.cnt 5 + 1) else s.cnt 5)

/-- SOC accepted a controlled stop (R446, R448): the outputs stay, the ramp begins at the next boundary, CRQ requests the
reduction, and the stack half gets the SCS-1 begin notice with TWIN. -/
abbrev Ramps (cause index : Nat) (s t : State) : Prop :=
  t.soc.rampPend = true ∧ t.fg R.SAF_STAT_STATE = s.fg R.SAF_STAT_STATE ∧ t.fg R.SAF_OUT_ON = s.fg R.SAF_OUT_ON ∧
  t.fg R.SAF_OUT_CRQREQ = 1 ∧ t.fg R.SAF_CAUSE_CAUSE = cause ∧ t.fg R.SAF_CAUSE_INDEX = index ∧
  t.fg R.SAF_CEPOCH_EPOCH = s.epoch % 2 ^ 32 ∧
  t.lastMsg = some (.down, [mSCS1BEGIN, s.fg R.SAF_ENV2_TWIN])

/-- Word 0 of the record of an exception: the cause, the PC, and 1 in MORE when the watchdog expired with it (R257, R258, R272). -/
def exrWord (cause pc : Nat) (more : Bool) : Word :=
  let w := w32 (cause * 0x1000000 + pc)
  if more then w32 (withBits w.toNat 16 8 (clampU 8 (bitsOf w.toNat 16 8 + 1))) else w

/-- The engines of the instance that engine `x` belongs to (R235, R266). -/
def State.mates (s : State) (x : Fin 1024) : List Nat :=
  (engines (x.val / 32)).filter fun y => (s.engine y).inst == (s.engine x.val).inst && (s.engine y).key != 0

/-- The registers Ga and Gb that an instruction word names. -/
def State.ga (s : State) (x : Fin 1024) (w : Nat) : Word := (s.engine x.val).gr (iA w)
def State.gb (s : State) (x : Fin 1024) (w : Nat) : Word := (s.engine x.val).gr (iB w)

/-! ## Families of commands, and what their steps keep -/

/-- The next boundary of the 10 us intervals that has not been served (R447): time goes on to it. -/
def State.boundary (s : State) : State := State.aligned 1 200 0 id s

/-- The engine whose instruction a row is (R232 to R235). -/
def engineOf : Instr → Option (Fin 1024)
  | .engAdd x _ | .engSub x _ | .engAnd x _ | .engOr x _ | .engXor x _ | .engShl x _ | .engShr x _ | .engShra x _
  | .engCmp x _ | .engAndn x _ | .engMin x _ | .engMax x _ | .engAdds x _ | .engSubs x _ | .engMul x _ | .engMulh x _
  | .engMulhu x _ | .engClz x _ | .engAbs x _ | .engPadd x _ | .engPsub x _ | .engPack x _ | .engCmul x _ | .engCmulc x _
  | .engConj x _ | .engMov x _ | .engAddi x _ | .engAndi x _ | .engOri x _ | .engXori x _ | .engCmpi x _ | .engShli x _
  | .engShri x _ | .engShrai x _ | .engMovi x _ | .engMovh x _ | .engLdw x _ | .engLdh x _ | .engLdhu x _ | .engLdb x _
  | .engLdbu x _ | .engStw x _ | .engSth x _ | .engStb x _ | .engBeq x _ | .engBne x _ | .engBlt x _ | .engBge x _
  | .engBltu x _ | .engBgeu x _ | .engBsf x _ | .engBra x _ | .engCall x _ | .engRet x _ | .engJmpr x _ | .engLoop x _
  | .engCmac x _ | .engCmacc x _ | .engCmac2 x _ | .engCmac2c x _ | .engMacr x _ | .engMsur x _ | .engAclr x _
  | .engAcrd x _ | .engAcget x _ | .engAcwr x _ | .engNcosync x _ | .engNcoadv x _ | .engNcoq x _ | .engNcoqp x _
  | .engPop x _ | .engPopn x _ | .engAvail x _ | .engPush x _ | .engPushe x _ | .engMfs x _ | .engMts x _ | .engDmaq x _
  | .engWait x _ | .engBar x _ | .engFence x _ | .engWdr x _ | .engHalt x _ | .engBrk x _ => some x
  | _ => none

/-- The rows of the peg lines and SENT inputs (R575 to R595). -/
def isPegRow : Instr → Bool
  | .pegModeWrite _ _ | .pegPowerUpEnd _ | .pegLineShort _ | .pegFaultRetry _ | .pegSearch _ _ | .pegSearchPass _ _
  | .pegVerify _ _ | .pegReplyFrame _ _ _ | .pegNoResponse _ | .pegFrameGap _ | .pegPollRound _ | .pegCounterClear _ _
  | .sentFrame _ _ _ => true
  | _ => false

/-- The rows of SOC, SSV and the output stage (R434 to R461, R482). -/
def isOutputRow : Instr → Bool
  | .kernelDemandFrame _ | .kernelDemandTimeout | .rampInterval | .scs1Notice _ _ | .scs1Backstop | .liveLossReport _
  | .supervisorScs1Request | .contactChange _ _ _ | .discrepancyTimeout _ | .inputFaultRecovery _ | .testPulse _ _
  | .srstRising | .srstFalling | .srstJammed | .srstUnjam | .startRequest | .startAnswer _ _ | .startTimeout
  | .startWithdrawal | .runTokenSend _ | .runToken _ _ | .tokenMissing _ | .disagreementNotice _ _ | .runWithdrawal _
  | .stackReleaseNotice | .outputReadback _ _ | .offPulseStart _ | .offPulseEnd _ | .driverSelfOff _
  | .driverCurrentLimit _ | .socSelfCheck _ _ => true
  | _ => false

/-- No peg line shows what the registers do not have: at most 16 numbers, a STATE of R595, a search only in SEARCH and a
READ in polling only in POLL. -/
abbrev State.pegOk (s : State) : Prop :=
  ∀ n ∈ [1, 2, 3, 4], s.fg (R.PEG_STAT_NPEG n) ≤ 16 ∧ s.fg (R.PEG_STAT_STATE n) ≤ 6 ∧ s.fg (R.PEG_STAT_RESULT n) ≤ 5 ∧
    ((s.pegLine n).search ≠ none → s.fg (R.PEG_STAT_STATE n) = 3) ∧ ((s.pegLine n).read ≠ none → s.fg (R.PEG_STAT_STATE n) = 4)

/-- Outputs conduct only in RUN or RAMP, and only while both halves assert RUN (R437). -/
abbrev State.outputsOk (s : State) : Prop :=
  s.fg R.SAF_OUT_ON ≠ 0 → (s.fg R.SAF_STAT_STATE = stRUN ∨ s.fg R.SAF_STAT_STATE = stRAMP) ∧
    s.fg R.SAF_STAT_SRUN = 1 ∧ s.fg R.SAF_STAT_YRUN = 1

end Sys2Proof.Machine
end

