-- ==== Sys2Proof/Certificates/Slice0/Obligations.lean ====
section
/-! DEFINITION. The statements about the model that the provers are given. -/
open Sys2Proof Sys2Proof.Machine

/-- An up lane that fails joins the failed set, raises source 0x21 on BRX and starts a lane map whose switch epoch is 40 epochs ahead; a down lane raises it on BTX and starts no map. At the switch epoch both islands use the map; where the rate in force stays the same, nothing else changes. A retest 10 ms after the failure or the last retest counts if it is good, the tenth returns the lane, a bad one starts the count again. The acknowledgement of a repeated message ends its repetition. Everything else stays as it was. -/
def Obligations.BarrierLaneEventsTakeEffect : Prop :=
  (∀ (l : Fin 24) (s : State), l.val < 22 → s.bar.failed.testBit l.val = false → s.bar.downLost = false →
    Does (.barrierLaneFailed l) s fun t =>
      t.bar.failed = setBit s.bar.failed l.val true ∧ t.bar.mapSeq = s.bar.mapSeq + 1 ∧
      t.bar.pend = some { seq := s.bar.mapSeq + 1, epoch := s.epoch + 40, failed := t.bar.failed % 2 ^ 22 } ∧
      Raised 0x21 islBRX t ∧ SameRegs [R.FLT_ISL islBRX] s t ∧
      t = { s with regs := t.regs, flt := t.flt, bar := t.bar, out := t.out }) ∧
  (∀ (l : Fin 24) (s : State), 22 ≤ l.val → s.bar.failed.testBit l.val = false →
    Does (.barrierLaneFailed l) s fun t =>
      t.bar.failed = setBit s.bar.failed l.val true ∧ t.bar.pend = s.bar.pend ∧
      Raised 0x21 islBTX t ∧ SameRegs [R.FLT_ISL islBTX, R.FLT_STAT] s t ∧
      t = { s with regs := t.regs, stackQ := t.stackQ, bar := t.bar }) ∧
  (∀ (m : LaneMap) (s : State), s.bar.pend = some m → rateInForce { s with bar := { s.bar with txMap := m.failed } }
      = (s.fg R.SMP_STAT_RATE, s.fg R.SMP_STAT_RATESRC) →
    Does (.laneMapSwitch true) s fun t =>
      t.bar.rxMap = m.failed ∧ t.bar.txMap = m.failed ∧ t.bar.pend = none ∧ t.now = max s.now (50 * m.epoch) ∧
      SameRegs [R.SMP_STAT] s t ∧ t = { s with regs := t.regs, bar := t.bar, now := t.now, lt := t.lt }) ∧
  (∀ (l : Fin 24) (s : State), s.bar.failed.testBit l.val = true → Smap.get (fun _ => 0) s.bar.retests l.val < 9 →
    s.due (Smap.get (fun _ => 0) s.bar.retestAt l.val) 10000000 = true →
    Does (.barrierLaneRetest l true) s fun t =>
      Smap.get (fun _ => 0) t.bar.retests l.val = Smap.get (fun _ => 0) s.bar.retests l.val + 1 ∧
      Smap.get (fun _ => 0) t.bar.retestAt l.val = s.lt ∧
      t = { s with bar := { s.bar with retests := t.bar.retests, retestAt := t.bar.retestAt } }) ∧
  (∀ (l : Fin 24) (s : State), s.bar.failed.testBit l.val = true → 9 ≤ Smap.get (fun _ => 0) s.bar.retests l.val →
    s.due (Smap.get (fun _ => 0) s.bar.retestAt l.val) 10000000 = true →
    s.bar.downLost = false → l.val < 22 →
    Does (.barrierLaneRetest l true) s fun t =>
      t.bar.failed = setBit s.bar.failed l.val false ∧
      t.bar.pend = some { seq := s.bar.mapSeq + 1, epoch := s.epoch + 40, failed := t.bar.failed % 2 ^ 22 } ∧
      t = { s with bar := t.bar, out := t.out }) ∧
  (∀ (l : Fin 24) (s : State), s.bar.failed.testBit l.val = true →
    s.due (Smap.get (fun _ => 0) s.bar.retestAt l.val) 10000000 = true →
    Does (.barrierLaneRetest l false) s fun t =>
      Smap.get (fun _ => 0) t.bar.retests l.val = 0 ∧ Smap.get (fun _ => 0) t.bar.retestAt l.val = s.lt ∧
      t = { s with bar := { s.bar with retests := t.bar.retests, retestAt := t.bar.retestAt } }) ∧
  (∀ (k : Nat) (s : State), exec (.safetyMessageAcknowledge true k) s
    = .next { s with bar := { s.bar with repDown := s.bar.repDown.erase k } }) ∧
  (∀ (k : Nat) (s : State), Does (.safetyMessageAcknowledge false k) s fun t => t.bar.repUp = s.bar.repUp.erase k)

/-- The loss of the stack stream is a missing token for SOC: its run token falls and the disagreement source is set. The loss of the down streams stops the stack half's run token, puts SSV in FAULT unless it sleeps, and is reported; their return is reported and a fresh map follows 40 epochs later. The loss of the sample clock sets RCK and clears COH; after 1,000 good edges a return epoch 40 epochs ahead is named; at that epoch RCK falls if the notice arrived, and without it a new epoch is named. -/
def Obligations.StreamAndClockLossTakeEffect : Prop :=
  (∀ s : State, Does .stackStreamLoss s fun t =>
    t.fg R.SAF_STAT_YRUN = 0 ∧ Raised 0x02 islSOC t ∧ t.lastMsg = some (.down, [mDISAGREE, cTOKMISS])) ∧
  (∀ s : State, s.ssv.st ≠ svSLEEP → Does .downStreamLoss s fun t =>
    t.bar.downLost = true ∧ t.ssv.run = false ∧ t.ssv.st = svFAULT ∧ mSTREAMLOST ∈ t.bar.repUp ∧ t.excBusy = false) ∧
  (∀ s : State, Does .downStreamReturn s fun t =>
    t.bar.downLost = false ∧ mSTREAMBACK ∈ t.bar.repUp ∧ t.bar.mapSeq = s.bar.mapSeq + 1 ∧
    t.bar.pend = some { seq := s.bar.mapSeq + 1, epoch := s.epoch + 40, failed := s.bar.failed % 2 ^ 22 } ∧
    t = { s with bar := t.bar, out := t.out }) ∧
  (∀ s : State, Does .sampleClockLost s fun t =>
    t.fg R.SMP_STAT_RCK = 1 ∧ t.fg R.SMP_STAT_COH = 0 ∧ t.fg R.DTM_STAT_COH = 0 ∧
    SameRegs [R.SMP_STAT, R.DTM_STAT] s t ∧ t = { s with regs := t.regs }) ∧
  (∀ s : State, s.fg R.SMP_STAT_RCK = 1 → Does .sampleClockReturnReport s fun t =>
    t.bar.clkReturn = some (s.epoch + 40) ∧ t.regs = s.regs ∧
    t.lastMsg = some (.down, [mCLOCKRETURN, s.epoch + 40])) ∧
  (∀ (e : Nat) (s : State), s.bar.clkReturn = some e → Does (.sampleClockReturn true) s fun t =>
    t.fg R.SMP_STAT_RCK = 0 ∧ t.bar.clkReturn = none ∧ t.now = max s.now (50 * e) ∧
    SameRegs [R.SMP_STAT, R.DTM_STAT] s t) ∧
  (∀ (e : Nat) (s : State), s.bar.clkReturn = some e → s.fg R.SMP_STAT_RCK = 1 →
    Does (.sampleClockReturn false) s fun t => t.fg R.SMP_STAT_RCK = 1 ∧ t.bar.clkReturn = some (t.epoch + 40))

/-- An island takes the step that its condition of R35 asks for, if it is among its listed steps, and nothing else changes; a plot shows it in its status register, with the throttle of R259; a step that nothing asks for is not taken. A stalled crossing raises source 0x20 on the sender's island and ends with TIMEOUT. When the oscillator input is lost the system half is held in reset with the outputs off and its cause bit 9 is recorded, and the flash keeps its contents; the return starts the 100 ms and brings SYAO back to it. -/
def Obligations.IslandAndOscillatorEventsTakeEffect : Prop :=
  (∀ (i : Fin 64) (k : Fin 4) (s : State), s.islFit i.val = true → 32 ≤ i.val → i.val ≠ islDRC → i.val ≠ 52 →
    k.val = min (islTarget s i.val) (islSteps i.val) →
    Does (.islandFrequencyChange i k) s fun t =>
      Smap.get (fun _ => 0) t.dom.isl i.val = k.val ∧ SameBut (fun _ => 0) i.val s.dom.isl t.dom.isl ∧
      t = { s with dom := { s.dom with isl := t.dom.isl } }) ∧
  (∀ (i : Fin 64) (k : Fin 4) (s : State), s.islFit i.val = true → i.val = islDRC ∨ i.val = 52 →
    k.val = min (islTarget s i.val) (islSteps i.val) →
    Does (.islandFrequencyChange i k) s fun t =>
      Smap.get (fun _ => 0) t.dom.isl islDRC = k.val ∧ Smap.get (fun _ => 0) t.dom.isl 52 = k.val ∧
      (∀ j, j ≠ islDRC → j ≠ 52 → Smap.get (fun _ => 0) t.dom.isl j = Smap.get (fun _ => 0) s.dom.isl j) ∧
      t = { s with dom := { s.dom with isl := t.dom.isl } }) ∧
  (∀ (i : Fin 64) (k : Fin 4) (s : State), i.val < s.plotsFit → i.val < 32 → k.val = min (islTarget s i.val) (islSteps i.val) →
    Does (.islandFrequencyChange i k) s fun t =>
      t.fg (R.ENG_PLSTAT_CLK i.val) = max (s.fg (R.ENG_PLCTL_CLKREQ i.val)) (s.fg R.THM_STEP_PLOT) ∧
      t.fg (R.ENG_PLSTAT_THROT i.val) = b2n (decide (s.fg (R.ENG_PLCTL_CLKREQ i.val) < s.fg R.THM_STEP_PLOT)) ∧
      SameRegs [R.ENG_PLSTAT i.val] s t ∧ t = { s with regs := t.regs }) ∧
  (∀ (i : Fin 64) (k : Fin 4) (s : State), k.val ≠ min (islTarget s i.val) (islSteps i.val) →
    exec (.islandFrequencyChange i k) s = .next s) ∧
  (∀ (i : Fin 64) (s : State), s.islFit i.val = true → Does (.crossingStall i) s fun t =>
    Raised 0x20 i.val t ∧ t.lastOut = some { ch := .status, args := [0x0C, 0, 0] } ∧ t.nv = s.nv ∧ t.bar = s.bar) ∧
  (∀ s : State, s.rst.scope = 0 → Does .oscillatorInputLost s fun t =>
    t.rst.scope = 2 ∧ t.bar.oscLost = true ∧ t.fg R.SAF_OUT_ON = 0 ∧ t.tb R.RST_CAUSE_CAUSE 9 = true ∧
    t.sysUp = false ∧ t.nv.flash = s.nv.flash) ∧
  (∀ s : State, Does .oscillatorInputReturn s fun t =>
    t.bar.oscLost = false ∧ t.bar.oscSince = s.lt ∧ Smap.get (fun _ => 0) t.dom.isl islSYAO = 0 ∧
    t.regs = s.regs ∧ t.nv = s.nv)

/-- A domain that an agent asks for begins step 1 when the inrush limit has room and waits at the end of the queue otherwise; each event moves it one step once its 16 clock periods have passed; an off request starts step 5, the empty wrapper gives step 6, and 16 periods later the domain is off. A plot whose first quarter begins shows STATE 0b001. The sweep converter leaves its rounds when its domain begins to switch off. Otherwise a step changes the step record alone. -/
def Obligations.PowerDomainsFollowTheirSteps : Prop :=
  (∀ (d : Fin 197) (s : State), 128 ≤ d.val → s.domFit d.val = true → domAgent true d.val s = true → s.domStep d.val = 0 →
    s.dom.wait = [] → inrushAllows s d.val = true →
    Does (.domainOnRequest d) s fun t => t.domStep d.val = 1 ∧ t.dom.wait = [] ∧
      SameBut (fun _ => 0) d.val s.dom.step t.dom.step ∧ t = { s with dom := t.dom }) ∧
  (∀ (d : Fin 197) (s : State), d.val < 128 → s.domFit d.val = true → s.cpRuns = true → s.domStep d.val = 0 →
    s.dom.wait = [] → inrushAllows s d.val = true →
    Does (.domainOnRequest d) s fun t => t.domStep d.val = 1 ∧
      t.fg (R.ENG_PLSTAT_STATE (d.val / 4))
        = (if s.fg (R.ENG_PLSTAT_STATE (d.val / 4)) = 0 then 1 else s.fg (R.ENG_PLSTAT_STATE (d.val / 4))) ∧
      SameBut (fun _ => 0) d.val s.dom.step t.dom.step ∧ SameRegs [R.ENG_PLSTAT (d.val / 4)] s t ∧
      t = { s with dom := t.dom, regs := t.regs }) ∧
  (∀ (d : Fin 197) (s : State), s.domFit d.val = true → domAgent true d.val s = true → s.domStep d.val = 0 →
    d.val ∉ s.dom.wait → inrushAllows s d.val = false →
    exec (.domainOnRequest d) s = .next { s with dom := { s.dom with wait := s.dom.wait ++ [d.val] } }) ∧
  (∀ (d : Nat) (s : State), s.dom.wait = [d] → inrushAllows s d = true →
    Does .domainInrushSlot s fun t => t.domStep d = 1 ∧ t.dom.wait = [] ∧ SameRegs [R.ENG_PLSTAT (d / 4)] s t ∧
      t = { s with dom := t.dom, regs := t.regs }) ∧
  (∀ (d : Fin 197) (s : State), s.domStep d.val = 1 →
    Does (.domainSupplyGood d) s fun t => t.domStep d.val = 2 ∧
      SameBut (fun _ => 0) d.val s.dom.step t.dom.step ∧ t = { s with dom := t.dom }) ∧
  (∀ (d : Fin 197) (s : State), s.domStep d.val = 2 → domTimed s d.val = true →
    Does (.domainResetRelease d) s fun t => t.domStep d.val = 3 ∧
      SameBut (fun _ => 0) d.val s.dom.step t.dom.step ∧ t = { s with dom := t.dom }) ∧
  (∀ (d : Fin 197) (s : State), 180 ≤ d.val → d.val < 188 → s.domStep d.val = 3 → domTimed s d.val = true →
    s.domWant d.val ≠ 2 →
    Does (.domainOn d) s fun t => t.domStep d.val = 4 ∧ t.domOn d.val = true ∧ t = { s with dom := t.dom }) ∧
  (∀ (d : Fin 197) (s : State), 180 ≤ d.val → d.val < 188 → s.domStep d.val = 3 → domTimed s d.val = true →
    s.domWant d.val = 2 →
    Does (.domainOn d) s fun t => t.domStep d.val = 5 ∧ t.domWant d.val = 0 ∧ t = { s with dom := t.dom }) ∧
  (∀ (d : Fin 197) (s : State), 128 ≤ d.val → d.val < 180 → s.domStep d.val = 3 → domTimed s d.val = true →
    s.domWant d.val ≠ 2 →
    Does (.domainOn d) s fun t => t.domStep d.val = 4 ∧
      Smap.get (fun _ => 0) t.smp.settle (d.val - 127) = s.epoch + 2000 ∧ t.regs = s.regs) ∧
  (∀ (d : Fin 197) (s : State), d.val ≠ 188 → d.val ≠ 189 → d.val ≠ 191 → domAgent false d.val s = true → s.domStep d.val = 4 →
    Does (.domainOffRequest d) s fun t => t.domStep d.val = 5 ∧ t.domWant d.val = 0 ∧ t = { s with dom := t.dom }) ∧
  (∀ s : State, domAgent false 191 s = true → s.domStep 191 = 4 →
    Does (.domainOffRequest 191) s fun t => t.domStep 191 = 5 ∧ t.fg R.SWC_STAT_STATE = 0 ∧ t.fg R.SWC_STAT_SLOT = 127 ∧
      t.fg R.SWC_STAT_PLNA = 1 ∧ t.swp.round = none ∧ SameRegs [R.SWC_STAT] s t ∧
      t = { s with dom := t.dom, regs := t.regs, swp := t.swp }) ∧
  (∀ (d : Fin 197) (s : State), s.domStep d.val = 5 →
    Does (.domainWrapperEmpty d) s fun t => t.domStep d.val = 6 ∧
      SameBut (fun _ => 0) d.val s.dom.step t.dom.step ∧ t = { s with dom := t.dom }) ∧
  (∀ (d : Fin 197) (s : State), 180 ≤ d.val → d.val < 191 → s.domStep d.val = 6 → domTimed s d.val = true →
    s.domWant d.val ≠ 1 →
    Does (.domainOff d) s fun t => t.domStep d.val = 0 ∧ t = { s with dom := t.dom }) ∧
  (∀ (d : Fin 197) (s : State), 180 ≤ d.val → d.val < 188 → s.domFit d.val = true → s.domStep d.val = 6 →
    domTimed s d.val = true → s.domWant d.val = 1 → s.dom.wait = [] → inrushAllows s d.val = true →
    Does (.domainOff d) s fun t => t.domStep d.val = 1 ∧ t.domWant d.val = 0)

/-- Requests for domains, from any command, and the inrush slot keep the inrush bound: if at most 4 system-die domains and at most 8 converter domains are recorded as having begun step 1 within the last microsecond, the same holds after a request and after a slot. A request for a domain that is off and cannot begin is not refused: it waits behind the requests that arrived before it. A slot starts the first waiting request, in order of arrival, whose group has room. -/
def Obligations.InrushLimitHoldsAndRequestsWait : Prop :=
  (∀ (d : Nat) (s : State), (recentStarts s false).length ≤ 4 → (recentStarts s true).length ≤ 8 →
    (recentStarts (domReqOn d s) false).length ≤ 4 ∧ (recentStarts (domReqOn d s) true).length ≤ 8) ∧
  (∀ s : State, (recentStarts s false).length ≤ 4 → (recentStarts s true).length ≤ 8 →
    Does .domainInrushSlot s fun t => (recentStarts t false).length ≤ 4 ∧ (recentStarts t true).length ≤ 8) ∧
  (∀ (d : Nat) (s : State), s.domFit d = true → s.domStep d = 0 → d ∉ s.dom.wait →
    (domReqOn d s).domStep d = 1 ∨ domReqOn d s = { s with dom := { s.dom with wait := s.dom.wait ++ [d] } }) ∧
  (∀ (l r : List Nat) (d : Nat) (s : State), s.dom.wait = l ++ d :: r → l.all (fun x => !inrushAllows s x) = true →
    inrushAllows s d = true → Does .domainInrushSlot s fun t => t.domStep d = 1)

/-- An aperture brings the datum to its epoch and puts an entry for it into the pipeline. SMP_CTRL takes RUN and AUTOCAL at once and queues the rest for the boundary of R69; an enable register takes its word; the burst detector marks the channel to d + HOLD; a boundary applies what waits for it and names its epoch; a channel's settling ends; the rate in force becomes the one R60 gives; a window that has ended puts its word into the last slot and starts afresh. -/
def Obligations.ConverterCommandsTakeEffect : Prop :=
  (∀ (e : Nat) (inputs : List Int) (s : State), Does (.epochAperture e inputs) s fun t =>
    t.now = max s.now (50 * e) ∧ (t.smp.pipe.getLast?.map fun p => p.epoch) = some e ∧ t.nv = s.nv ∧ t.dom = s.dom) ∧
  (∀ (v : Word) (s : State), accessCheck s R.SMP_CTRL v = none → Does (.smpCtrlWrite v) s fun t =>
    t.fg R.SMP_CTRL_RUN = wf v R.SMP_CTRL_RUN ∧ t.fg R.SMP_CTRL_AUTOCAL = wf v R.SMP_CTRL_AUTOCAL ∧
    t.smp.pend = s.smp.pend ++ [(firstMultiple 1024 2000 s.now, R.SMP_CTRL, v)] ∧
    t.lastOut = some { ch := .status, args := [0, 0, 0] } ∧ SameRegs [R.SMP_CTRL] s t ∧ t.nv = s.nv) ∧
  (∀ (v : Word) (s : State), accessCheck s R.SMP_CHEN0 v = none → Does (.smpChenWrite 0 v) s fun t =>
    t.reg R.SMP_CHEN0 = v ∧ SameRegs [R.SMP_CHEN0] s t ∧ t.lastOut = some { ch := .status, args := [0, 0, 0] }) ∧
  (∀ (v : Word) (s : State), accessCheck s R.SMP_CHEN1 v = none → Does (.smpChenWrite 1 v) s fun t =>
    t.reg R.SMP_CHEN1 = v ∧ SameRegs [R.SMP_CHEN1] s t ∧ t.lastOut = some { ch := .status, args := [0, 0, 0] }) ∧
  (∀ (v : Word) (s : State), accessCheck s R.SMP_EMS v = none →
    exec (.smpEmsWrite v) s = .next ((s.setReg R.SMP_EMS v).done .ok)) ∧
  (∀ (n : Fin 52) (d : Nat) (s : State), s.fg R.SMP_EMS_THR ≠ 0 → Does (.emsBurst n d) s fun t =>
    Smap.get (fun _ => 0) t.smp.ems (n.val + 1)
      = max (Smap.get (fun _ => 0) s.smp.ems (n.val + 1)) (d + s.fg R.SMP_EMS_HOLD + 1) ∧
    t.regs = s.regs ∧ t = { s with smp := t.smp, swp := t.swp }) ∧
  (∀ (e : Nat) (s : State), s.smp.pend = [] → e % 1024 = 0 → s.epoch ≤ e → exec (.configurationBoundary e) s = .next (s.until (50 * e))) ∧
  (∀ (e : Nat) (v : Word) (s : State), s.smp.pend = [(e, R.SMP_XCFG, v)] → e % 1024 = 0 → s.epoch ≤ e →
    Does (.configurationBoundary e) s fun t =>
    t.reg R.SMP_XCFG = v ∧ t.fg R.SMP_CFGEPOCH_EPOCH = e % 2 ^ 32 ∧ t.smp.pend = [] ∧ t.now = max s.now (50 * e)) ∧
  (∀ (n : Fin 52) (s : State), Smap.get (fun _ => 0) s.smp.settle (n.val + 1) ≤ s.epoch → s.smp.cal = none →
    Does (.converterSettled n) s fun t => Smap.get (fun _ => 0) t.smp.settle (n.val + 1) = 0 ∧
      SameBut (fun _ => 0) (n.val + 1) s.smp.settle t.smp.settle ∧ t = { s with smp := { s.smp with settle := t.smp.settle } }) ∧
  (∀ s : State, s.smp.thermRate ≤ 3 → Does .rateChange s fun t =>
    (t.fg R.SMP_STAT_RATE, t.fg R.SMP_STAT_RATESRC) = rateInForce s ∧ t.nv = s.nv) ∧
  (∀ (n : Fin 52) (p : PipeEnt) (s : State), (s.avgOf (n.val + 1)).full = true → s.smp.pipe.getLast? = some p →
    exec (.averagingWindowEnd n) s
      = .next ((patchWord p.epoch (n.val + 1) (windowWord s (n.val + 1) (s.avgOf (n.val + 1))) s).setAvg (n.val + 1) {}))

/-- A CROSS round sends converter r mod 48 + 1 to its partner's cell and lets it settle 32 epochs; its end brings the converter back and records the rounded mean difference when 1,024 common epochs were valid, and no result otherwise; a difference above SMP_XTHR raises source 0x22 and marks the cell. The eighth good dither period makes the channel live. A completed reference block leaves as a message, its sums start afresh. -/
def Obligations.CrossDitherAndReferenceTakeEffect : Prop :=
  (∀ (r : Nat) (s : State), s.fb R.SMP_STAT_XACT = true → s.cellBit R.SMP_CHEN0 R.SMP_CHEN1 (r % 48 + 1) = true →
    s.cellBit R.SMP_CHEN0 R.SMP_CHEN1 (partner (r % 48 + 1)) = true → s.smp.cal = none → s.smp.xr = none →
    s.epoch ≤ r * (s.fg R.SMP_XCFG_ROUND * 1024) →
    Does (.crossRoundStart r) s fun t => t.redirected = r % 48 + 1 ∧
      t.smp.xr = some { r := r, stop := (r + 1) * (s.fg R.SMP_XCFG_ROUND * 1024) } ∧
      Smap.get (fun _ => 0) t.smp.settle (r % 48 + 1) = r * (s.fg R.SMP_XCFG_ROUND * 1024) + 32 ∧
      SameRegs [R.SMP_STAT] s t) ∧
  (∀ (k : XRound) (s : State), s.smp.xr = some k → k.n < 1024 ∨ s.redirected = 0 →
    Does .crossRoundEnd s fun t => t.fg R.SMP_XSTAT_VALID = 0 ∧ t.redirected = 0 ∧ t.smp.xr = none ∧
      t.now = max s.now (50 * k.stop) ∧
      SameRegs [R.SMP_STAT, R.SMP_XSTAT] s t) ∧
  (∀ (k : XRound) (s : State), s.smp.xr = some k → 1024 ≤ k.n → s.redirected ≠ 0 →
    s.redirected ≤ 48 →
    (clampS 16 ((2 * 10 * (k.chk - k.own) + k.n) / (2 * k.n))).natAbs ≤ s.fg R.SMP_XTHR_XTHR →
    Does .crossRoundEnd s fun t => t.fg R.SMP_XSTAT_VALID = 1 ∧ t.fg R.SMP_XSTAT_CELL = partner s.redirected ∧ t.now = max s.now (50 * k.stop) ∧
      t.fi R.SMP_XSTAT_DIFF = clampS 16 ((2 * 10 * (k.chk - k.own) + k.n) / (2 * k.n)) ∧ t.redirected = 0 ∧
      SameRegs [R.SMP_STAT, R.SMP_XSTAT] s t) ∧
  (∀ (k : XRound) (s : State), s.smp.xr = some k → 1024 ≤ k.n → s.redirected ≠ 0 →
    s.redirected ≤ 48 →
    s.fg R.SMP_XTHR_XTHR < (clampS 16 ((2 * 10 * (k.chk - k.own) + k.n) / (2 * k.n))).natAbs →
    Does .crossRoundEnd s fun t => t.fg R.SMP_XSTAT_VALID = 1 ∧ Raised 0x22 islSCK t ∧
      t.cellBit R.SMP_XFAIL0 R.SMP_XFAIL1 (partner s.redirected) = true) ∧
  (∀ (m : Fin 4) (amp2 : Nat) (s : State), ditherRateOk s (m.val + 1) = true →
    staleCause s (49 + m.val) s.epoch = none → 7 ≤ Smap.get (fun _ => 0) s.smp.dith (m.val + 1) →
    ditherOn s (m.val + 1) = true → s.fg (R.SMP_AXCFG_DITH (m.val + 1)) ≤ amp2 →
    amp2 ≤ 3 * s.fg (R.SMP_AXCFG_DITH (m.val + 1)) →
    Does (.ditherPeriod m amp2) s fun t => t.tb R.SMP_AXSTAT_LIVE m.val = true ∧
      Smap.get (fun _ => 0) t.smp.dith (m.val + 1) = 8 ∧ SameRegs [R.SMP_AXSTAT] s t) ∧
  (∀ s : State, s.fb R.SMP_REFCFG_EN = true → s.smp.refRun = true → s.bar.repUp = [] → s.smp.refQ = [] →
    messageLane s.bar.txMap ≠ none → (s.smp.refB + 1) * refBlock (s.fg R.SMP_REFCFG_D) ≤ s.smp.refE + 1 →
    Does .referenceBlockComplete s fun t => t.smp.refB = s.smp.refB + 1 ∧ t.smp.refN = 0 ∧ t.smp.refSum = 0 ∧
      t.lastMsg = some (.up,
        [mCREF, refWord s.smp.refB s.smp.refSum s.smp.refN s.smp.refOvr s.smp.refEms]) ∧ t.regs = s.regs)

/-- The interval or GO starts the next channel's calibration; a calibration that waits starts when the reference has settled; 32 epochs after the switch the averaging of CALLO begins and the sweep converter is told; 1,024 samples later the input goes to CALHI, which is averaged in the same way; at the end the new coefficients wait for a boundary, or source 0x60 is raised and the old ones stay; the channel settles 32 epochs on its own input, and with that the calibration ends. -/
def Obligations.CalibrationStepsTakeEffect : Prop :=
  (∀ s : State, s.fb R.SMP_CTRL_AUTOCAL = true → s.smp.cal = none →
    s.due s.smp.calLast (1000000 * s.fg R.SMP_CALCTL_INTERVAL) = true → calSkipped s s.smp.calNext = false →
    s.fb R.SWC_STAT_REF_SETTLED = true → s.redirected ≠ s.smp.calNext →
    Does .autocalInterval s fun t => t.smp.cal = some { ch := s.smp.calNext, phase := 1, since := s.epoch } ∧
      t.smp.calNext = s.smp.calNext % 52 + 1 ∧ t.fg R.SMP_STAT_CALBUSY = 1 ∧ SameRegs [R.SMP_STAT] s t) ∧
  (∀ (v : Word) (s : State), accessCheck s R.SMP_CALCTL v = none → wf v R.SMP_CALCTL_GO = 1 →
    10 ≤ wf v R.SMP_CALCTL_INTERVAL → 1 ≤ wf v R.SMP_CALCTL_CH → wf v R.SMP_CALCTL_CH ≤ 52 → s.smp.cal = none →
    s.redirected ≠ wf v R.SMP_CALCTL_CH → calSkipped s (wf v R.SMP_CALCTL_CH) = false →
    Does (.calibrationGo v) s fun t => (t.smp.cal.map fun c => c.ch) = some (wf v R.SMP_CALCTL_CH) ∧
      t.fg R.SMP_CALCTL_INTERVAL = wf v R.SMP_CALCTL_INTERVAL ∧
      t.lastOut = some { ch := .status, args := [0, 0, 0] } ∧ SameRegs [R.SMP_STAT, R.SMP_CALCTL] s t) ∧
  (∀ (c : Cal) (s : State), s.smp.cal = some c → c.phase = 0 → s.fb R.SWC_STAT_REF_SETTLED = true → s.redirected ≠ c.ch →
    Does .calibrationWaitEnd s fun t => t.smp.cal = some { c with phase := 1, since := s.epoch } ∧
      t.fg R.SMP_STAT_CALBUSY = 1 ∧ t.fg R.SMP_STAT_CALCH = c.ch % 64 ∧ SameRegs [R.SMP_STAT] s t) ∧
  (∀ (c : Cal) (s : State), s.smp.cal = some c → c.phase = 1 → c.since + 32 ≤ s.epoch →
    s.fb R.SWC_STAT_REF_SETTLED = true → s.fg R.SWC_STAT_STATE ≠ 1 ∨ s.swp.injOn = true →
    Does .calibrationSettleLow s fun t => t.smp.cal = some { c with phase := 2, since := s.epoch } ∧
      t.swp.calSlot = 1 ∧ t.fg R.SWC_STAT_CALSLOT = 1 ∧ SameRegs [R.SWC_STAT] s t) ∧
  (∀ (c : Cal) (s : State), s.smp.cal = some c → c.phase = 1 → c.since + 32 ≤ s.epoch →
    s.fb R.SWC_STAT_REF_SETTLED = true → s.fg R.SWC_STAT_STATE = 1 → s.swp.injOn = false → s.sweepOn = true →
    Does .calibrationSettleLow s fun t => t.smp.cal = some { c with phase := 2, since := s.epoch } ∧
      t.swp.inCal = true ∧ t.swp.slotAt = (s.epoch + 39) / 40 * 40 ∧ t.fg R.SWC_STAT_STATE = 2 ∧
      t.fg R.SWC_STAT_CALSLOT = 1 ∧ SameRegs [R.SWC_STAT] s t) ∧
  (∀ (c : Cal) (s : State), s.smp.cal = some c → c.phase = 2 → c.nLo = 1024 →
    exec .calibrationAverageLowDone s
      = .next { s with smp := { s.smp with cal := some { c with phase := 3, since := s.epoch } } }) ∧
  (∀ (c : Cal) (s : State), s.smp.cal = some c → c.phase = 3 → c.since + 32 ≤ s.epoch →
    s.fb R.SWC_STAT_REF_SETTLED = true → s.fg R.SWC_STAT_STATE ≠ 1 ∨ s.swp.injOn = true →
    Does .calibrationSettleHigh s fun t => t.smp.cal = some { c with phase := 4, since := s.epoch } ∧
      t.swp.calSlot = 2 ∧ t.fg R.SWC_STAT_CALSLOT = 1 ∧ SameRegs [R.SWC_STAT] s t) ∧
  (∀ (c : Cal) (lo hi g o : Int) (s : State), s.smp.cal = some c → c.phase = 4 → c.nHi = 1024 → c.unsettled = false →
    c.sweepLo = some lo → c.sweepHi = some hi → newCal c.sumLo c.sumHi lo hi = some (g, o) →
    (g - s.fi (R.SMP_CAL_GAIN c.ch)).natAbs ≤ 2097 → (o - s.fi (R.SMP_CAL_OFS c.ch)).natAbs ≤ 160 →
    clampS 16 g = g → clampS 16 o = o →
    Does .calibrationAverageHighDone s fun t => t.smp.cal = some { c with phase := 5 } ∧
      t.smp.pend = s.smp.pend ++ [(firstMultiple 1024 2000 s.now, R.SMP_CAL c.ch, w32 (ofInt 16 g * 65536 + ofInt 16 o))] ∧
      Smap.get (fun _ => 0) t.smp.settle c.ch = s.nextEpoch + 32 ∧ t.regs = s.regs) ∧
  (∀ (c : Cal) (s : State), s.smp.cal = some c → c.phase = 4 → c.nHi = 1024 → c.unsettled = true →
    Does .calibrationAverageHighDone s fun t => t.smp.cal = some { c with phase := 5 } ∧ Raised 0x60 islSCK t ∧
      t.smp.pend = s.smp.pend ∧ SameRegs [R.FLT_ISL islSCK, R.FLT_STAT] s t) ∧
  (∀ (n : Fin 52) (c : Cal) (s : State), s.smp.cal = some c → c.phase = 5 → c.ch = n.val + 1 →
    Smap.get (fun _ => 0) s.smp.settle (n.val + 1) ≤ s.epoch →
    Does (.converterSettled n) s fun t => t.smp.cal = none ∧ t.smp.calLast = s.lt ∧ t.fg R.SMP_STAT_CALBUSY = 0 ∧
      t.fg R.SMP_STAT_CALCH = 0 ∧ Smap.get (fun _ => 0) t.smp.settle (n.val + 1) = 0 ∧ SameRegs [R.SMP_STAT] s t)

/-- A round start opens slot 0 of a new round, or counts an overrun while a round is in progress. The result of a slot goes to its result register with its flags; an idle slot gives way to the next one; a calibration slot hands its result to the calibration. A trigger whose enable is set starts an injected sequence with its source and cell, or is counted as dropped while one runs. A sequence that is over frees the converter. The settling flags follow their timers, and 100 ms without the reference raise source 0x23. -/
def Obligations.SweepCommandsTakeEffect : Prop :=
  (∀ (e : Nat) (s : State), s.fg R.SWC_STAT_STATE = 1 → s.swp.round = none → s.swp.offNext = false →
    s.fb R.SWC_CTRL_EN = true → s.injRunning = false → s.swp.inCal = false → s.swp.calSlot = 0 → s.swp.pendSet = [] →
    s.sweepOn = true → e % (40 * s.fg R.SWC_CTRL_PERIOD) = 0 → s.epoch ≤ e →
    Does (.sweepRoundStart e) s fun t => t.swp.round = some (e, 0) ∧ t.swp.slotAt = e ∧ t.fg R.SWC_STAT_STATE = 2 ∧
      t.fg R.SWC_STAT_SLOT = 0 ∧ t.swp.rnd = (s.swp.rnd + 1) % 16 ∧ SameRegs [R.SWC_STAT] s t) ∧
  (∀ (e : Nat) (s : State), s.fg R.SWC_STAT_STATE ≠ 0 → s.swp.round.isSome = true →
    e % (40 * s.fg R.SWC_CTRL_PERIOD) = 0 → s.epoch ≤ e →
    exec (.sweepRoundStart e) s = .next ((s.until (50 * e)).inc R.SWC_OVRUN_COUNT)) ∧
  (∀ (d : Int) (under : Bool) (k st : Nat) (s : State), s.swp.inCal = false → s.fg R.SWC_STAT_STATE = 2 →
    s.swp.injOn = false → s.fg R.SWC_STAT_SLOT = k → k < 96 → s.fg (R.SWC_SEQ_SRC k) ≠ 0 → s.swp.round = some (st, k) →
    Does (.sweepSlotResult d under) s fun t => t.reg (R.SWC_RES k) =
      w32 (resultWord (slotFlags (s.fg (R.SWC_SEQ_SRC k)) (s.fg (R.SWC_SEQ_RAT k)) d under (s.until (50 * (s.swp.slotAt + 40)))).1
        (slotFlags (s.fg (R.SWC_SEQ_SRC k)) (s.fg (R.SWC_SEQ_RAT k)) d under (s.until (50 * (s.swp.slotAt + 40)))).2.1
        (slotFlags (s.fg (R.SWC_SEQ_SRC k)) (s.fg (R.SWC_SEQ_RAT k)) d under (s.until (50 * (s.swp.slotAt + 40)))).2.2.1
        (slotFlags (s.fg (R.SWC_SEQ_SRC k)) (s.fg (R.SWC_SEQ_RAT k)) d under (s.until (50 * (s.swp.slotAt + 40)))).2.2.2
        (s.swp.rnd * 0x1000000) d)) ∧
  (∀ (d : Int) (under : Bool) (k st : Nat) (s : State), s.swp.inCal = false → s.fg R.SWC_STAT_STATE = 2 →
    s.swp.injOn = false → s.fg R.SWC_STAT_SLOT = k → k < 96 → s.fg (R.SWC_SEQ_SRC k) = 0 → s.swp.round = some (st, k) →
    k + 1 < s.fg R.SWC_CTRL_LEN → s.sweepOn = true → s.swp.calSlot = 0 →
    Does (.sweepSlotResult d under) s fun t => t.swp.round = some (st, k + 1) ∧ t.fg R.SWC_STAT_SLOT = k + 1 ∧
      t.swp.slotAt = s.swp.slotAt + 40 ∧ SameRegs [R.SWC_STAT] s t) ∧
  (∀ (d : Int) (under : Bool) (c : Cal) (s : State), s.swp.inCal = true → s.swp.injOn = false → s.swp.calSlot = 1 →
    s.smp.cal = some c →
    Does (.sweepSlotResult d under) s fun t => t.smp.cal = some { c with sweepLo := some d } ∧ t.swp.calSlot = 0 ∧
      t.fg R.SWC_STAT_CALSLOT = 0) ∧
  (∀ (w : Word) (s : State), (∀ q ∈ List.range 8, s.fg (R.FAB_PSUB_EN q) = 0) → exec (.sweepResultMessage w) s = .next (s.emit .stream
      [1, epochTag s (Smap.get (fun _ => 0) s.fab.slotEnd (bitsOf w.toNat 21 7)), w.toNat])) ∧
  (∀ (src : Fin 4) (cell : Nat) (s : State), s.tb ⟨R.SWC_INJEN, 0, 4⟩ src.val = true → s.fg R.SWC_STAT_STATE ≠ 0 →
    s.swp.injOn = false →
    cell ≠ 0 ∨ s.fg (R.SWC_ISEQ_SRC 0) ≠ srcTRIG → 0 < s.fg R.SWC_CTRL_ILEN →
    Does (.injectedTrigger src cell) s fun t => t.swp.injOn = true ∧ t.swp.injCell = cell ∧
      t.swp.slotAt = s.epoch + 1 ∧ t.fg R.SWC_INJSRC_SRC = 2 ^ src.val ∧ t.fg R.SWC_INJSRC_CELL = cell % 64 ∧
      t.fg R.SWC_STAT_STATE = 3 ∧ SameRegs [R.SWC_STAT, R.SWC_INJSRC, R.SWC_IEPOCH] s t) ∧
  (∀ (src : Fin 4) (cell : Nat) (s : State), s.tb ⟨R.SWC_INJEN, 0, 4⟩ src.val = true → s.fg R.SWC_STAT_STATE ≠ 0 →
    s.injRunning = true → s.swp.injEpoch ≠ some s.epoch → cell ≠ 0 →
    exec (.injectedTrigger src cell) s = .next (s.inc R.SWC_INJDROP_COUNT)) ∧
  (∀ (v : Word) (s : State), accessCheck s R.SWC_INJCTL (w32 (setBit v.toNat 31 true)) = none →
    wf v R.SWC_INJCTL_CELL ≤ 48 → s.fg R.SWC_STAT_STATE ≠ 0 → s.swp.injOn = false → s.tb ⟨R.SWC_INJEN, 0, 4⟩ 0 = true →
    Does (.swcInjctlGo v) s fun t => t.swp.injOn = true ∧ t.swp.injCell = wf v R.SWC_INJCTL_CELL ∧
      t.fg R.SWC_INJSRC_SRC = 1 ∧ t.lastOut = some { ch := .status, args := [0, 0, 0] }) ∧
  (∀ (v : Word) (s : State), accessCheck s R.SWC_INJCTL (w32 (setBit v.toNat 30 true)) = none → wf v R.SWC_INJCTL_GO = 0 →
    exec (.swcInjctlDclr v) s = .next (((s.fs R.SWC_INJDROP_COUNT 0).fs R.SWC_OVRUN_COUNT 0).done .ok)) ∧
  (∀ s : State, s.swp.injOn = true → s.injRunning = false → s.ssv.st ≠ svSTARTING → s.swp.heldSsv = false →
    s.swp.roundHeld = false → s.swp.calSlot = 0 → s.swp.round = none → s.sweepOn = true →
    Does .injectedSequenceEnd s fun t => t.swp.injOn = false ∧ t.fg R.SWC_STAT_STATE = 1 ∧ SameRegs [R.SWC_STAT] s t) ∧
  (∀ s : State, s.sweepOn = true → s.fg R.SWC_STAT_REF_SETTLED = 0 → s.swp.refTimed = false → s.swp.refMuxa = false →
    s.due s.swp.refAt (refTime s) = true →
    Does .refSettleTimer s fun t => t.fg R.SWC_STAT_REF_SETTLED = 1 ∧ t.swp.refTimed = true ∧ SameRegs [R.SWC_STAT] s t) ∧
  (∀ s : State, s.sweepOn = true → s.due s.swp.ratAt 1000000 = true →
    Does .ratSettleTimer s fun t => t.fg R.SWC_STAT_RAT_SETTLED = 1 ∧ SameRegs [R.SWC_STAT] s t) ∧
  (∀ s : State, s.sweepOn = true → s.fg R.SWC_STAT_REF_SETTLED = 0 → s.swp.refFault = false →
    s.due s.swp.refAt 100000000 = true →
    Does .refNotSettledTimeout s fun t => t.swp.refFault = true ∧ Raised 0x23 islSWC t ∧
      SameRegs [R.FLT_ISL islSWC, R.FLT_STAT] s t)

/-- On a tick each comparator that is not under test counts up to its limit while it is asserted and down to 0 otherwise, and holds 0 while disabled; a comparator whose count reaches the limit sets its TRIP bit and raises source 0x05. A legal GO starts the test of the named comparator; the test's end records pass or fail. -/
def Obligations.ComparatorCommandsTakeEffect : Prop :=
  (∀ (cells : List Int) (k : Nat) (s : State), 2 ≤ k → k < 98 → s.cmp.test ≠ some k →
    Does (.comparatorFilterTick cells) s fun t => Smap.get (fun _ => 0) t.cmp.count k =
      (if cmpEnabled s k = false then 0
       else if asserted s k (cells.getD (k / 2 - 1) 0) (Smap.get (fun _ => false) s.cmp.asserted k) = true then
         min (filterLimit s k) (Smap.get (fun _ => 0) s.cmp.count k + 1)
       else min (filterLimit s k) (Smap.get (fun _ => 0) s.cmp.count k) - 1)) ∧
  (∀ (cells : List Int) (n : Nat) (s : State), 1 ≤ n → n ≤ 48 → s.cmp.test ≠ some (2 * n) → cmpEnabled s (2 * n) = true →
    s.filtered (2 * n) = false →
    asserted s (2 * n) (cells.getD (n - 1) 0) (Smap.get (fun _ => false) s.cmp.asserted (2 * n)) = true →
    filterLimit s (2 * n) ≤ Smap.get (fun _ => 0) s.cmp.count (2 * n) + 1 →
    Does (.comparatorFilterTick cells) s fun t => t.cellBit R.CMP_OVTRIP0 R.CMP_OVTRIP1 n = true ∧ Raised 0x05 islSSV t) ∧
  (∀ (v : Word) (s : State), accessCheck s R.CMP_TEST v = none → wf v R.CMP_TEST_GO = 1 → 1 ≤ wf v R.CMP_TEST_CELL →
    wf v R.CMP_TEST_CELL ≤ 48 → s.fg R.CMP_TEST_RESULT ≠ 1 → s.ssv.run = false →
    Does (.comparatorTest v) s fun t => t.fg R.CMP_TEST_RESULT = 1 ∧
      t.cmp.test = some (2 * wf v R.CMP_TEST_CELL + wf v R.CMP_TEST_KIND) ∧
      t.lastOut = some { ch := .status, args := [0, 0, 0] } ∧ SameRegs [R.CMP_TEST] s t) ∧
  (∀ (rose fell : Bool) (k : Nat) (s : State), s.cmp.test = some k →
    Does (.comparatorTestDone rose fell) s fun t => t.fg R.CMP_TEST_RESULT = (if (rose && fell) = true then 2 else 3) ∧
      t.cmp.test = none ∧ SameRegs [R.CMP_TEST] s t)

/-- A scheduler tick counts and runs the scheduler. A legal write of TIME takes effect, clears the on-time accumulator of a cell that excitation does not drive and completes with OK. A full second of on-time decrements TIME, and the last one sets DONE. A switch closed for balancing or driven by excitation that trips or stays open is flagged, raises its source and ends open and undriven; one that is shorted is flagged, raises its source and holds its neighbours open. A temperature gives the band by the bounds of R149 with their hysteresis, and a cap below the number of excited cells stops excitation with cause 3. A force source that becomes active stops excitation with cause 2 and, when enabled, leaves every switch open. BAL_SET writes each entry's TIME and replies. -/
def Obligations.BalanceCommandsTakeEffect : Prop :=
  (∀ s : State, s.exc.retAt = none → Does .balanceSchedulerTick s fun t => t.bal.tick = s.bal.tick + 1 ∧
    t.bal.sched = schedule ({ s with bal := { s.bal with tick := s.bal.tick + 1 } }.fs R.BAL_STAT_CAP (capOf s)) ∧
    t.nv = s.nv ∧ t.smp = s.smp) ∧
  (∀ (c : Fin 48) (v : Word) (s : State), accessCheck s (R.BAL_TMR (cellOf c)) v = none → s.bEn (cellOf c) = true →
    Does (.balTmrWrite c v) s fun t => t.fg (R.BAL_TMR_TIME (cellOf c)) = v.toNat % 65536 ∧
      (cellOf c ∉ s.excited → t.accOf (cellOf c) = 0) ∧ t.lastOut = some { ch := .status, args := [0, 0, 0] }) ∧
  (∀ (c : Fin 48) (s : State), 320000000 ≤ (accrue (cellOf c) s).accOf (cellOf c) → 2 ≤ s.fg (R.BAL_TMR_TIME (cellOf c)) →
    Does (.balanceAccumulatorSecond c) s fun t => t.fg (R.BAL_TMR_TIME (cellOf c)) = s.fg (R.BAL_TMR_TIME (cellOf c)) - 1 ∧
      SameRegs [R.BAL_TMR (cellOf c)] s t) ∧
  (∀ (c : Fin 48) (s : State), 320000000 ≤ (accrue (cellOf c) s).accOf (cellOf c) → s.fg (R.BAL_TMR_TIME (cellOf c)) = 1 →
    Does (.balanceAccumulatorSecond c) s fun t => t.fg (R.BAL_TMR_TIME (cellOf c)) = 0 ∧
      t.cellBit R.BAL_DONE0 R.BAL_DONE1 (cellOf c) = true) ∧
  (∀ (c : Fin 48) (s : State), s.bOn (cellOf c) = true ∨ cellOf c ∈ s.bal.driven →
    Does (.bleedOvercurrent c) s fun t => t.bOc (cellOf c) = true ∧ Raised 0x26 islSTAO t ∧ t.bOn (cellOf c) = false ∧
      cellOf c ∉ t.bal.driven) ∧
  (∀ (c : Fin 48) (mv : Int) (s : State), s.bOn (cellOf c) = true ∨ cellOf c ∈ s.bal.driven → 500 ≤ mv →
    Does (.bleedSwitchOpen c mv) s fun t => t.bSwo (cellOf c) = true ∧ Raised 0x27 islSTAO t ∧ t.bOn (cellOf c) = false ∧
      cellOf c ∉ t.bal.driven) ∧
  (∀ (c : Fin 48) (mv : Int) (s : State), s.bOn (cellOf c) = false → cellOf c ∉ s.bal.driven → 500 ≤ mv → c.val < 47 →
    Does (.bleedSwitchShort c mv) s fun t => t.bSws (cellOf c) = true ∧ Raised 0x28 islSTAO t ∧
      t.bOn (cellOf c + 1) = false) ∧
  (∀ (temp : Int) (s : State), s.fg R.BAL_STAT_TBAND ≤ 4 →
    Does (.thermalBandChange temp) s fun t => t.fg R.BAL_STAT_TBAND = bandOf (s.fg R.BAL_STAT_TBAND) temp) ∧
  (∀ (temp : Int) (s : State), s.fg R.BAL_STAT_TBAND ≤ 1 → 10500 ≤ temp →
    Does (.thermalBandChange temp) s fun t => 2 ≤ t.fg R.BAL_STAT_TBAND ∧ Raised 0x61 islSTAO t) ∧
  (∀ (temp : Int) (s : State), 12500 ≤ temp → s.excited ≠ [] → s.excBusy = true → s.exc.retAt = none →
    Does (.thermalBandChange temp) s fun t => t.fg R.BAL_STAT_CAP = 0 ∧ t.excBusy = false ∧ t.fg R.EXC_STAT_STOPCAUSE = 3) ∧
  (∀ s : State, forced s = true → s.excBusy = true → Does .balanceForceOn s fun t =>
    t.excBusy = false ∧ t.fg R.EXC_STAT_STOPCAUSE = 2 ∧ (cells.all fun n => !t.bOn n) = true) ∧
  (∀ s : State, forced s = false → s.exc.retAt = none → Does .balanceForceOff s fun t => t.bal.sched = schedule (s.fs R.BAL_STAT_CAP (capOf s))) ∧
  (∀ (p q : Packet) (c lo hi : Byte) (s s1 : State), Admits 0x30 p s q s1 → q.payload = [1, 0, 0, 0, c, 0, lo, hi] →
    q.noReply = false → 1 ≤ c.toNat → c.toNat ≤ 48 → s1.bEn c.toNat = true →
    accessCheck s1 (R.BAL_TMR c.toNat) (w32 (lo.toNat + 256 * hi.toNat)) = none →
    Does (.balSet p) s fun t => t.fg (R.BAL_TMR_TIME c.toNat) = lo.toNat + 256 * hi.toNat ∧ t.lastReply = some [0, 0])

/-- After a scheduler tick and after every other event that brings the balancing switches up to date (a write of a timer, an overcurrent, a short, a force source), no two adjacent cells have their switches on, whatever the state before, so that the two never short their cells; a switch next to one that is flagged shorted is open. -/
def Obligations.AdjacentBleedSwitchesNeverBothClosed : Prop :=
  (∀ (s : State) (n : Nat), 1 ≤ n → n < 48 →
    Does .balanceSchedulerTick s fun t => ¬ (t.bOn n = true ∧ t.bOn (n + 1) = true)) ∧
  (∀ (s : State) (n : Nat), 1 ≤ n → n < 48 → s.bSws n = true →
    Does .balanceSchedulerTick s fun t => t.bOn (n + 1) = false) ∧
  (∀ (s : State) (n : Nat), 1 ≤ n → n < 48 → s.bSws (n + 1) = true →
    Does .balanceSchedulerTick s fun t => t.bOn n = false) ∧
  (∀ (s : State) (n : Nat), 1 ≤ n → n < 48 → ¬ ((balRefresh s).bOn n = true ∧ (balRefresh s).bOn (n + 1) = true)) ∧
  (∀ (c : Fin 48) (s : State) (n : Nat), 1 ≤ n → n < 48 → s.bOn (cellOf c) = true ∨ cellOf c ∈ s.bal.driven →
    Does (.bleedOvercurrent c) s fun t => ¬ (t.bOn n = true ∧ t.bOn (n + 1) = true))

/-- A legal GO names the start epoch, the first multiple of 5,120 at least 2,000 ns ahead, and sets PEND; at that epoch excitation runs on the selected cells with depth 0, or stops at once with cause 3 where they exceed the cap. The switches return to the scheduler at the next carrier boundary after a stop. A block's end moves the block on by 5,120 epochs and the PRBS register with it. A STOP write, the STOP request and the loss of every cell end excitation with their causes. EXC_START writes its registers and starts; EXC_STOP stops and replies. -/
def Obligations.ExcitationCommandsTakeEffect : Prop :=
  (∀ (v : Word) (s : State), accessCheck s R.EXC_CTRL (w32 (setBit v.toNat 31 true)) = none →
    wf v R.EXC_CTRL_STOP = 0 → wf v R.EXC_CTRL_SHAPE ≤ 1 → wf v R.EXC_CTRL_CARRIER ≠ 3 →
    32 ≤ wf v R.EXC_CTRL_BIAS → wf v R.EXC_CTRL_BIAS ≤ 224 → 32 ≤ wf v R.EXC_CTRL_BALBIAS →
    wf v R.EXC_CTRL_BALBIAS ≤ 224 → excGoCheck s (wf v R.EXC_CTRL_SHAPE) (wf v R.EXC_CTRL_CARRIER) = .ok →
    Does (.excitationGo v) s fun t => t.fg R.EXC_STAT_PEND = 1 ∧ t.exc.start = firstMultiple 5120 2000 s.now ∧
      t.fg R.EXC_START_EPOCH = firstMultiple 5120 2000 s.now % 2 ^ 32 ∧
      t.lastOut = some { ch := .status, args := [0, 0, 0] } ∧ SameRegs [R.EXC_CTRL, R.EXC_STAT, R.EXC_START] s t) ∧
  (∀ s : State, s.fg R.EXC_STAT_PEND = 1 → s.selected.length ≤ capOf s →
    Does .excitationStart s fun t => t.fg R.EXC_STAT_PEND = 0 ∧
    t.fg R.EXC_STAT_RUN = 1 ∧ t.excited = s.selected ∧ (t.exc.cells.all fun c => c.2.m == 0) = true ∧
    t.exc.blk = s.exc.start ∧ t.now = max s.now (50 * s.exc.start)) ∧
  (∀ s : State, s.fg R.EXC_STAT_PEND = 1 → capOf s < s.selected.length →
    Does .excitationStart s fun t => t.excBusy = false ∧ t.fg R.EXC_STAT_STOPCAUSE = 3) ∧
  (∀ (v : Word) (s : State), accessCheck s R.EXC_CTRL (w32 (setBit v.toNat 30 true)) = none →
    wf v R.EXC_CTRL_GO = 0 → wf v R.EXC_CTRL_SHAPE ≤ 1 → wf v R.EXC_CTRL_CARRIER ≠ 3 →
    32 ≤ wf v R.EXC_CTRL_BIAS → wf v R.EXC_CTRL_BIAS ≤ 224 → 32 ≤ wf v R.EXC_CTRL_BALBIAS →
    wf v R.EXC_CTRL_BALBIAS ≤ 224 → v.toNat &&& 0x00FFFF33 = (s.reg R.EXC_CTRL).toNat → s.excBusy = true →
    Does (.excitationStopWrite v) s fun t => t.excBusy = false ∧ t.fg R.EXC_STAT_STOPCAUSE = 1 ∧
      (if nextCarrier s ≤ s.epoch then t.excited = [] else t.exc.retAt = some (nextCarrier s)) ∧
      t.lastOut = some { ch := .status, args := [0, 0, 0] }) ∧
  (∀ (e r : Nat) (inputs : List Int) (s : State), s.exc.retAt = some r → r ≤ e →
    Does (.epochAperture e inputs) s fun t => t.excited = [] ∧ t.exc.retAt = none) ∧
  (∀ (data : List SenseBlock) (s : State), s.fg R.EXC_STAT_RUN = 1 → Does (.excitationBlockEnd data) s fun t =>
    t.exc.blk = s.exc.blk + 5120 ∧ t.now = max s.now (50 * (s.exc.blk + 5120)) ∧
    (t.exc.lfsr, t.exc.chip) = blockReg s) ∧
  (∀ (data : List SenseBlock) (s : State), s.fg R.EXC_STAT_RUN = 1 → s.exc.cells = [] →
    Does (.excitationBlockEnd data) s fun t => t.excBusy = false ∧ t.fg R.EXC_STAT_STOPCAUSE = 4) ∧
  (∀ (p q : Packet) (s s1 : State), Admits 0x32 p s q s1 → q.payload = [] → q.noReply = false →
    accessCheck s1 R.EXC_CTRL (s1.reg R.EXC_CTRL) = none → s1.excBusy = true →
    Does (.excStop p) s fun t => t.excBusy = false ∧ t.fg R.EXC_STAT_STOPCAUSE = 1 ∧ t.lastReply = some [0, 0] ∧
      t.lastBody = some (leBytes 4 1)) ∧
  (∀ (p q : Packet) (s s1 : State), Admits 0x31 p s q s1 → q.payload.length = 84 → q.noReply = false →
    wf (w32 (u32 q.payload 0)) R.EXC_CTRL_GO = 1 → wf (w32 (u32 q.payload 0)) R.EXC_CTRL_STOP = 0 → s1.excBusy = false →
    accessCheck s1 R.EXC_CTRL (w32 (u32 q.payload 0)) = none →
    ((excStartRegs q.payload).foldl excTry (.ok, (s1.fs R.EXC_STAT_RUN 0).fs R.EXC_STAT_PEND 0)).1 = .ok →
    (excCtrlWrite (w32 (u32 q.payload 0))
      ((excStartRegs q.payload).foldl excTry (.ok, (s1.fs R.EXC_STAT_RUN 0).fs R.EXC_STAT_PEND 0)).2).1 = .ok →
    Does (.excStart p) s fun t => t.fg R.EXC_STAT_PEND = 1 ∧ t.exc.start = firstMultiple 5120 2000 s1.now ∧
      t.reg R.EXC_SEL0 = w32 (u32 q.payload 4) ∧ t.lastReply = some [0, 0])

/-- A bleed-state or excitation bias message records its switch change and the next expected sequence number; a skipped number records a gap. A bleed-state message and an excitation status message go to the subscribers and are kept for the services. A complete window of a running instance that has enough good words gives the point the record of the impedance, and is complete once; a window of an instance that does not run has no effect. Configuration that waits takes effect at its second. CLR clears the discard counters. PROFILE_CFG queues the ten words for the named second; PROFILE_READ and PROFILE_DERIVED return records. Reading word 0 of a set latches the four words of that set for the reader. -/
def Obligations.ProfileCommandsTakeEffect : Prop :=
  (∀ (w : Word) (s : State), s.prf.seqNext = none → Does (.bleedStateMessage w) s fun t =>
    t.prf.changes.getLast? = some (w.toNat / 0x4000000, epochOf s 21 (w.toNat % 0x200000)) ∧
    t.prf.seqNext = some ((w.toNat / 0x200000 % 16 + 1) % 16) ∧
    t.svc.bleed.getLast? = some (w.toNat / 0x4000000, epochOf s 21 (w.toNat % 0x200000), w.toNat.testBit 25) ∧
    t.lastOut = some { ch := .stream, args := [6, epochOf s 21 (w.toNat % 0x200000), w.toNat] } ∧
    t = { s with prf := t.prf, svc := t.svc, out := t.out, fab := t.fab, arr := t.arr, regs := t.regs }) ∧
  (∀ (w : Word) (n : Nat) (s : State), s.prf.seqNext = some n → n ≠ w.toNat / 0x200000 % 16 →
    Does (.excitationBiasMessage w) s fun t => t.prf.gaps.getLast? = some s.epoch ∧
      t.prf.changes.getLast? = some (w.toNat / 0x4000000, epochOf s 21 (w.toNat % 0x200000)) ∧
      t.prf.seqNext = some ((w.toNat / 0x200000 % 16 + 1) % 16) ∧
      t.svc.bias.getLast? = some (w.toNat / 0x4000000, epochOf s 21 (w.toNat % 0x200000), w.toNat.testBit 25)) ∧
  (∀ (w : Word) (s : State), Does (.excitationStatusMessage w) s fun t =>
    t.lastOut = some { ch := .stream, args := [2, (s.epoch / 5120 - 1) * 5120, w.toNat] } ∧
    t.svc.stats.getLast? = some { cell := w.toNat / 0x4000000, blk := (s.epoch / 5120 - 1) * 5120,
                                  m := w.toNat / 0x10000 % 1024, ion := w.toNat % 0x10000, arr := s.now,
                                  heard := tenantsOf s 6 none } ∧
    t = { s with svc := t.svc, out := t.out, fab := t.fab, arr := t.arr, regs := t.regs }) ∧
  (∀ (q : Fin 8) (c : Fin 48) (i : Fin 71) (j coh kind : Nat) (v x : Phasor) (part frz xst : Bool) (s : State),
    prfRun s q.val = true → profiled s q.val (cellOf c) = true → pointOn s q.val i.val = true → i.val ≤ prfImax s q.val →
    rateOk s q.val (cellOf c) i.val = true → j % 2 ^ prfRdiv s q.val = 0 →
    Smap.get (fun _ => 0) s.prf.next (ptKey q.val (cellOf c) i.val) ≤ j →
    Smap.get (fun _ => 0) s.prf.since (ptKey q.val (cellOf c) i.val) ≤ j * windowLen i.val →
    s.prf.gaps = [] → s.prf.changes = [] →
    windowOut s q.val (cellOf c) i.val (20000000 * (j * windowLen i.val)) (20000000 * ((j + 1) * windowLen i.val))
      (1000000000 * ((j + 1) * windowLen i.val) + 1000000 * s.pg q.val R.PRF_CTRL_LATE) = .good v x kind part frz xst →
    coherence (((v, x) :: Smap.get (fun _ => []) s.prf.hist (ptKey q.val (cellOf c) i.val)).take
      (s.pg q.val R.PRF_CTRL_NCOH)) = some coh →
    Does (.profileWindowComplete q c i j) s fun t =>
      t.pw q.val (R.PRF_REC_W0 (cellOf c) i.val) = w32 (ofInt 32 (zPart (v.mulConj x).re x.norm)) ∧
      t.pw q.val (R.PRF_REC_W1 (cellOf c) i.val) = w32 (ofInt 32 (zPart (v.mulConj x).im x.norm)) ∧
      t.pw q.val (R.PRF_REC_W2 (cellOf c) i.val) = w32 (ermsOf x * 65536 + coh) ∧
      t.now = max s.now (1000000000 * ((j + 1) * windowLen i.val) + 1000000 * s.pg q.val R.PRF_CTRL_LATE) ∧
      Smap.get (fun _ => 0) t.prf.next (ptKey q.val (cellOf c) i.val) = j + 1) ∧
  (∀ (q : Fin 8) (c : Fin 48) (i : Fin 71) (j : Nat) (s : State), prfRun s q.val = false →
    exec (.profileWindowComplete q c i j) s = .next (s.until
      (1000000000 * ((j + 1) * windowLen i.val) + 1000000 * s.pg q.val R.PRF_CTRL_LATE))) ∧
  (∀ (t0 : Nat) (v : Word) (s : State), s.prf.pend = [(t0, 0, R.PRF_ISCALE, v)] → t0 ≤ s.now / 1000000000 →
    Does .profileConfigEffect s fun t => t.reg R.PRF_ISCALE = v ∧ t.prf.pend = []) ∧
  (∀ (v : Word) (s : State), accessCheck s R.PRF_CTRL (w32 (setBit v.toNat 31 true)) = none →
    prfBad R.PRF_CTRL (w32 (setBit v.toNat 31 true)) = false →
    Does (.prfDiscClear v) s fun t => t.reg R.PRF_DISC = 0 ∧ SameRegs [R.PRF_DISC] s t ∧
      t.lastOut = some { ch := .status, args := [0, 0, 0] }) ∧
  (∀ (p q : Packet) (s s1 : State), Admits 0x40 p s q s1 → q.payload.length = 44 → q.noReply = false →
    ((List.range 11).any fun k => prfBad (R.PRF_CTRL + 4 * k) (w32 (u32 q.payload (4 * k)))
      || (match findReg (R.PRF_CTRL + 4 * k) with | some r => (w32 (u32 q.payload (4 * k))).toNat &&& r.resv != 0 | none => true)) = false →
    w32 (u32 q.payload 4) = 0 → (w32 (u32 q.payload 0)).toNat.testBit 31 = false →
    Does (.profileCfg p) s fun t => t.prf.pend = s1.prf.pend ++ ([0, 2, 3, 4, 5, 6, 7, 8, 9, 10].map fun k =>
        (prfEffect s1, q.parcel, R.PRF_CTRL + 4 * k, w32 (u32 q.payload (4 * k)))) ∧
      t.lastReply = some [0, 0] ∧ t.lastBody = some (leBytes 8 (1000000000 * prfEffect s1))) ∧
  (∀ (p q : Packet) (i m n : Byte) (s s1 : State), Admits 0x41 p s q s1 → q.payload = [i, m, 1, 0, n, 0, 0, 0] →
    q.noReply = false → 1 ≤ m.toNat → i.toNat + m.toNat ≤ 71 → 1 ≤ n.toNat → n.toNat ≤ 48 →
    profiled s1 q.parcel n.toNat = true → degSteps s1 = 0 →
    Does (.profileRead p) s fun t => t.lastReply = some [0, 0] ∧ t.lastBody = some (unitBody [.ok]
      ((List.range m.toNat).flatMap fun x => recBytes s1 q.parcel n.toNat (i.toNat + x)))) ∧
  (∀ (p q : Packet) (n : Byte) (s s1 : State), Admits 0x42 p s q s1 → q.payload = [1, 0, 0, 0, n, 0, 0, 0] →
    q.noReply = false → 1 ≤ n.toNat → n.toNat ≤ 48 → profiled s1 q.parcel n.toNat = true → degSteps s1 = 0 →
    Does (.profileDerived p) s fun t => t.lastReply = some [0, 0] ∧ t.lastBody = some (unitBody [.ok]
      (wordBytes (s1.pw q.parcel (R.PRF_DER_W0 n.toNat)) ++ wordBytes (s1.pw q.parcel (R.PRF_DER_W1 n.toNat))
        ++ wordBytes (s1.pw q.parcel (R.PRF_DER_W2 n.toNat)) ++ wordBytes (s1.pw q.parcel (R.PRF_DER_W3 n.toNat))))) ∧
  (∀ (r : Fin 9) (a : BitVec 24) (s : State), setHead a.toNat = true →
    Does (.registerSetLatch r a) s fun t =>
      ((List.range 4).all fun k => shadowWord t r.val (a.toNat + 4 * k) == s.reg (a.toNat + 4 * k)) = true ∧
      t = { s with prf := { s.prf with shadow := t.prf.shadow } })

/-- A step of a running instance that lies after its last one gives every estimated cell its new state from that cell's inputs. RGR follows from HFR where F0V is 1 and from the filter otherwise. The micro-short scores are 0 with fewer than 8 valid cells and follow the deviation of the self-discharge current from the median otherwise. A publication that is due writes each cell's four words, clears the flags of the interval and, for P0, gives EST_SUM. A timed snapshot enters the journal, or is dropped while a commit runs. -/
def Obligations.EstimatorRowsTakeEffect : Prop :=
  (∀ (q : Fin 8) (k : Nat) (s : State), estRun s q.val = true →
    atOf s.est.stepAt q.val < k * stepLen s q.val ∨ s.now < atOf s.est.stepAt q.val →
    Does (.estStep q k) s fun t => t.now = max s.now (k * stepLen s q.val + 1000000) ∧
      atOf t.est.stepAt q.val = k * stepLen s q.val ∧ (q.val = 0 → t.fg R.EST_STAT_STEPDIV = stepDiv s 0) ∧
      ∀ n ∈ estCells s q.val, t.ecell q.val n =
        { cellAfter (stepBegin q.val (k * stepLen s q.val) s) q.val n (stepLen s q.val) (k * stepLen s q.val) with
          hist := (t.ecell q.val n).hist }) ∧
  (∀ (q : Fin 8) (s : State), estRun s q.val = true → s.due (atOf s.est.resAt q.val) 60000000000 = true →
    Does (.resistanceUpdate q) s fun t => t = { s with est := t.est } ∧ atOf t.est.resAt q.val = s.lt ∧
    ∀ n ∈ estCells s q.val, (s.ecell q.val n).conv ≠ 0 →
      ((s.pg q.val (R.PRF_DER_W3_FLAGS n)) % 2 = 0 →
        (t.ecell q.val n).rgr = clampU 16 ((s.ecell q.val n).comps.getD 2 0).toNat) ∧
      ((s.pg q.val (R.PRF_DER_W3_FLAGS n)) % 2 = 1 → (t.ecell q.val n).rgr = clampU 16 (hfrGrowth
        (estPar s q.val (estType s q.val n)) (asInt 32 (s.pw q.val (R.PRF_DER_W1 n)).toNat) (s.ecell q.val n).tfus).toNat)) ∧
  (∀ (q : Fin 8) (s : State), estRun s q.val = true → s.due (atOf s.est.mssAt q.val) 3600000000000 = true →
    (estValid s q.val).length < 8 →
    Does (.microShortEvaluation q) s fun t => atOf t.est.mssAt q.val = s.lt ∧
      (∀ n ∈ estCells s q.val, (t.ecell q.val n).mss = 0 ∧ (t.ecell q.val n).msh = false)) ∧
  (∀ (q : Fin 8) (s : State), estRun s q.val = true → s.due (atOf s.est.mssAt q.val) 3600000000000 = true →
    8 ≤ (estValid s q.val).length →
    (∀ m ∈ estCells s q.val, (selfDischarge (estPar s q.val (estType s q.val m)) (s.ecell q.val m)).isSome = true) →
    Does (.microShortEvaluation q) s fun t => ∀ n ∈ estCells s q.val, (s.ecell q.val n).balAt = none →
      (t.ecell q.val n).mss = microScore
        ((estValid s q.val).map fun m => (selfDischarge (estPar s q.val (estType s q.val m)) (s.ecell q.val m)).getD 0)
        ((selfDischarge (estPar s q.val (estType s q.val n)) (s.ecell q.val n)).getD 0)) ∧
  (∀ (q : Fin 8) (k : Nat) (s : State), estRun s q.val = true →
    atOf s.est.pubAt q.val < k ∨ s.now < 100000000 * atOf s.est.pubAt q.val →
    atOf s.est.stepAt q.val ≤ 100000000 * k ∨ s.now < atOf s.est.stepAt q.val →
    Does (.estPublication q k) s fun t =>
    t.now = max s.now (100000000 * k) ∧ atOf t.est.pubAt q.val = k ∧
    (q.val = 0 → t.fg R.EST_SUM_SUM = estSum ((estCells s 0).map fun n => s.ecell 0 n) % 65536) ∧
    (∀ n ∈ estCells s q.val, (List.range 4).map (fun w => t.pw q.val (R.EST_STATE_W0 n + 4 * w))
      = estRecord n k (s.ecell q.val n) ∧ (t.ecell q.val n).pred = false ∧ (t.ecell q.val n).ilost = false ∧
      (t.ecell q.val n).nco = false)) ∧
  (∀ s : State, s.due s.est.snapAt 3600000000000 = true → s.nvBusy = false → Does .estSnapshot s fun t =>
    t.nv.jobs = s.nv.jobs ++ [{ kind := 1, snap := takeSnapshot s }] ∧ t.nv.jphase = 1 ∧ t.est.snapAt = s.lt ∧
    t.fg R.NVM_STAT_BUSY = 1 ∧ SameRegs [R.NVM_STAT] s t) ∧
  (∀ s : State, s.due s.est.snapAt 3600000000000 = true → s.nvBusy = true →
    exec .estSnapshot s = .next { s with est := { s.est with snapAt := s.lt } })

/-- SAVE commits a snapshot. A parameter set and a seed wait for the next 100 ms boundary and then take effect: the cells of the set's type restart at equilibrium for their state of charge, and a seeded cell takes SOC and CAPR and becomes converging. EST_READ returns a cell's record. -/
def Obligations.EstimatorCommandsTakeEffect : Prop :=
  (∀ (v : Word) (s : State), accessCheck s R.EST_CTRL (w32 (setBit v.toNat 31 true)) = none → s.nvBusy = false →
    Does (.estSave v) s fun t => t.nv.jphase = 1 ∧ (t.nv.jobs.getLast?.map fun j => j.kind) = some 1 ∧
      t.reg R.EST_CTRL = w32 (v.toNat % 16) ∧ t.lastOut = some { ch := .status, args := [0, 0, 0] }) ∧
  (∀ (p q : Packet) (s s1 : State), Admits 0x43 p s q s1 → q.payload.length = 736 → paramsOk q.payload = true →
    q.noReply = false →
    Does (.estParams p) s fun t => t.est.pendPar = s1.est.pendPar ++ [(nextBoundary s1, q.parcel, u8 q.payload 0, q.payload)] ∧
      t.lastReply = some [0, 0] ∧ t.lastBody = some (leBytes 8 (nextBoundary s1))) ∧
  (∀ (t0 q ty : Nat) (b : List Byte) (s : State), s.est.pendPar = [(t0, q, ty, b)] → t0 ≤ s.now →
    Does .estParamsEffect s fun t => Smap.get (fun _ => []) t.est.params (4 * q + ty) = b ∧ t.est.pendPar = [] ∧
      (∀ n ∈ estCells s q, estType s q n = ty → (s.ecell q n).conv ≠ 0 →
        t.ecell q n = (s.ecell q n).restart n t0 b) ∧ t = { s with est := t.est }) ∧
  (∀ (p q : Packet) (n : Byte) (s s1 : State), Admits 0x44 p s q s1 → q.payload = [1, 0, 0, 0, n, 0, 0, 0] →
    q.noReply = false → 1 ≤ n.toNat → n.toNat ≤ 48 → estimated s1 q.parcel n.toNat = true → degSteps s1 = 0 →
    Does (.estRead p) s fun t => t.lastReply = some [0, 0] ∧ t.lastBody = some (unitBody [.ok]
      ((List.range 4).flatMap fun w => wordBytes (s1.pw q.parcel (R.EST_STATE_W0 n.toNat + 4 * w))))) ∧
  (∀ (p q : Packet) (n a b c d : Byte) (s s1 : State), Admits 0x45 p s q s1 →
    q.payload = [1, 0, 0, 0, n, 0, 0, 0, a, b, c, d] → q.noReply = false → 1 ≤ n.toNat → n.toNat ≤ 48 →
    a.toNat + 256 * b.toNat ≤ 10000 → estimated s1 q.parcel n.toNat = true →
    Does (.estSeed p) s fun t => t.est.pendSeed = s1.est.pendSeed ++
        [(nextBoundary s1, q.parcel, n.toNat, a.toNat + 256 * b.toNat, c.toNat + 256 * d.toNat)] ∧
      t.lastReply = some [0, 0] ∧ t.lastBody = some (unitBody [.ok] (leBytes 8 (nextBoundary s1)))) ∧
  (∀ (t0 q n soc capr : Nat) (s : State), s.est.pendSeed = [(t0, q, n, soc, capr)] → t0 ≤ s.now →
    estLoaded s q (estType s q n) = true → soc ≤ 10000 → capr < 65536 → (s.ecell q n).conv = 0 →
    Does .estSeedEffect s fun t => (t.ecell q n).soc = soc ∧ (t.ecell q n).capr = capr ∧ (t.ecell q n).rgr = 1000 ∧
      (t.ecell q n).conv = 1 ∧ (t.ecell q n).convAt = t0 ∧ t.est.pendSeed = []) ∧
  (∀ (t0 q n soc capr : Nat) (s : State), s.est.pendSeed = [(t0, q, n, soc, capr)] → t0 ≤ s.now →
    estLoaded s q (estType s q n) = true → soc ≤ 10000 → capr < 65536 → (s.ecell q n).conv ≠ 0 →
    2 ≤ (s.ecell q n).comps.length →
    Does .estSeedEffect s fun t => (t.ecell q n).soc = soc ∧ (t.ecell q n).capr = capr ∧ (t.ecell q n).conv = 1 ∧
      (t.ecell q n).convAt = t0 ∧ t.est.pendSeed = [])

/-- Engine x, running, not stalled, issues a word with the opcode and the zero fields of R232, and the memory code finds no uncorrectable error: the destination register takes the result of the rule's operation column, computed from Ga and Gb; CMP sets Z, N, C and V (SFLAGS bits 8 to 11) and leaves every other flag; execution goes on after the instruction. Every other register, accumulator and flag of the engine, every other engine and everything outside the engines stays (the engine's count of cycles apart, and the plot's count of corrected words when a word was corrected). -/
def Obligations.IntegerInstructionsComplete : Prop :=
  (∀ (x : Fin 1024) (ecc : Fin 4) (w : Nat) (s : State), ecc ≠ 2 → Issues x 0x01 w s → iX w = 0 →
    Does (.engAdd x ecc) s fun t => Writes x ecc w (s.ga x w + s.gb x w) s t) ∧
  (∀ (x : Fin 1024) (ecc : Fin 4) (w : Nat) (s : State), ecc ≠ 2 → Issues x 0x02 w s → iX w = 0 →
    Does (.engSub x ecc) s fun t => Writes x ecc w (s.ga x w - s.gb x w) s t) ∧
  (∀ (x : Fin 1024) (ecc : Fin 4) (w : Nat) (s : State), ecc ≠ 2 → Issues x 0x03 w s → iX w = 0 →
    Does (.engAnd x ecc) s fun t => Writes x ecc w (s.ga x w &&& s.gb x w) s t) ∧
  (∀ (x : Fin 1024) (ecc : Fin 4) (w : Nat) (s : State), ecc ≠ 2 → Issues x 0x04 w s → iX w = 0 →
    Does (.engOr x ecc) s fun t => Writes x ecc w (s.ga x w ||| s.gb x w) s t) ∧
  (∀ (x : Fin 1024) (ecc : Fin 4) (w : Nat) (s : State), ecc ≠ 2 → Issues x 0x05 w s → iX w = 0 →
    Does (.engXor x ecc) s fun t => Writes x ecc w (s.ga x w ^^^ s.gb x w) s t) ∧
  (∀ (x : Fin 1024) (ecc : Fin 4) (w : Nat) (s : State), ecc ≠ 2 → Issues x 0x06 w s → iX w = 0 →
    Does (.engShl x ecc) s fun t => Writes x ecc w (s.ga x w <<< ((s.gb x w).toNat % 32)) s t) ∧
  (∀ (x : Fin 1024) (ecc : Fin 4) (w : Nat) (s : State), ecc ≠ 2 → Issues x 0x07 w s → iX w = 0 →
    Does (.engShr x ecc) s fun t => Writes x ecc w (s.ga x w >>> ((s.gb x w).toNat % 32)) s t) ∧
  (∀ (x : Fin 1024) (ecc : Fin 4) (w : Nat) (s : State), ecc ≠ 2 → Issues x 0x08 w s → iX w = 0 →
    Does (.engShra x ecc) s fun t => Writes x ecc w ((s.ga x w).sshiftRight ((s.gb x w).toNat % 32)) s t) ∧
  (∀ (x : Fin 1024) (ecc : Fin 4) (w : Nat) (s : State), ecc ≠ 2 → Issues x 0x0A w s → iX w = 0 →
    Does (.engAndn x ecc) s fun t => Writes x ecc w (s.ga x w &&& ~~~(s.gb x w)) s t) ∧
  (∀ (x : Fin 1024) (ecc : Fin 4) (w : Nat) (s : State), ecc ≠ 2 → Issues x 0x0B w s → iX w = 0 →
    Does (.engMin x ecc) s fun t => Writes x ecc w (if (s.ga x w).toInt ≤ (s.gb x w).toInt then s.ga x w else s.gb x w) s t) ∧
  (∀ (x : Fin 1024) (ecc : Fin 4) (w : Nat) (s : State), ecc ≠ 2 → Issues x 0x0C w s → iX w = 0 →
    Does (.engMax x ecc) s fun t => Writes x ecc w (if (s.ga x w).toInt ≤ (s.gb x w).toInt then s.gb x w else s.ga x w) s t) ∧
  (∀ (x : Fin 1024) (ecc : Fin 4) (w : Nat) (s : State), ecc ≠ 2 → Issues x 0x0D w s → iX w = 0 →
    Does (.engAdds x ecc) s fun t => Writes x ecc w (BitVec.ofInt 32 (clampS 32 ((s.ga x w).toInt + (s.gb x w).toInt))) s t) ∧
  (∀ (x : Fin 1024) (ecc : Fin 4) (w : Nat) (s : State), ecc ≠ 2 → Issues x 0x0E w s → iX w = 0 →
    Does (.engSubs x ecc) s fun t => Writes x ecc w (BitVec.ofInt 32 (clampS 32 ((s.ga x w).toInt - (s.gb x w).toInt))) s t) ∧
  (∀ (x : Fin 1024) (ecc : Fin 4) (w : Nat) (s : State), ecc ≠ 2 → Issues x 0x0F w s → iX w = 0 →
    Does (.engMul x ecc) s fun t => Writes x ecc w (s.ga x w * s.gb x w) s t) ∧
  (∀ (x : Fin 1024) (ecc : Fin 4) (w : Nat) (s : State), ecc ≠ 2 → Issues x 0x10 w s → iX w = 0 →
    Does (.engMulh x ecc) s fun t => Writes x ecc w (((s.ga x w).signExtend 64 * (s.gb x w).signExtend 64).extractLsb' 32 32) s t) ∧
  (∀ (x : Fin 1024) (ecc : Fin 4) (w : Nat) (s : State), ecc ≠ 2 → Issues x 0x11 w s → iX w = 0 →
    Does (.engMulhu x ecc) s fun t => Writes x ecc w (((s.ga x w).zeroExtend 64 * (s.gb x w).zeroExtend 64).extractLsb' 32 32) s t) ∧
  (∀ (x : Fin 1024) (ecc : Fin 4) (w : Nat) (s : State), ecc ≠ 2 → Issues x 0x09 w s → iX w = 0 → iD w = 0 →
    Does (.engCmp x ecc) s fun t => Goes x ecc { s.engine x.val with sflags := (s.engine x.val).sflags % 256 + cmpFlags (s.ga x w) (s.gb x w) } s t) ∧
  (∀ (x : Fin 1024) (ecc : Fin 4) (w : Nat) (s : State), ecc ≠ 2 → Issues x 0x12 w s → iX w = 0 → iB w = 0 →
    Does (.engClz x ecc) s fun t => Writes x ecc w ((s.ga x w).clz) s t) ∧
  (∀ (x : Fin 1024) (ecc : Fin 4) (w : Nat) (s : State), ecc ≠ 2 → Issues x 0x13 w s → iX w = 0 → iB w = 0 →
    Does (.engAbs x ecc) s fun t => Writes x ecc w (BitVec.ofInt 32 (clampS 32 (s.ga x w).toInt.natAbs)) s t) ∧
  (∀ (x : Fin 1024) (ecc : Fin 4) (w : Nat) (s : State), ecc ≠ 2 → Issues x 0x1A w s → iX w = 0 → iB w = 0 →
    Does (.engMov x ecc) s fun t => Writes x ecc w (s.ga x w) s t)

/-- The same for PADD to CONJ, whose operands hold a 16-bit part in each half (real in [31:16]; products rounded to Q15 with halves towards plus infinity, and saturated), and for the immediate instructions: IMM sign-extended from 14 bits for ADDI and CMPI and zero-extended for ANDI, ORI and XORI, shifts by IMM[4:0] with IMM[13:5] = 0, MOVI sign-extended from 19 bits, and MOVH, which keeps Gd[15:0]. -/
def Obligations.PackedAndImmediateInstructionsComplete : Prop :=
  (∀ (x : Fin 1024) (ecc : Fin 4) (w : Nat) (s : State), ecc ≠ 2 → Issues x 0x14 w s → iX w = 0 →
    Does (.engPadd x ecc) s fun t => Writes x ecc w (packHalves (sat16 (reOf (s.ga x w) + reOf (s.gb x w))) (sat16 (imOf (s.ga x w) + imOf (s.gb x w)))) s t) ∧
  (∀ (x : Fin 1024) (ecc : Fin 4) (w : Nat) (s : State), ecc ≠ 2 → Issues x 0x15 w s → iX w = 0 →
    Does (.engPsub x ecc) s fun t => Writes x ecc w (packHalves (sat16 (reOf (s.ga x w) - reOf (s.gb x w))) (sat16 (imOf (s.ga x w) - imOf (s.gb x w)))) s t) ∧
  (∀ (x : Fin 1024) (ecc : Fin 4) (w : Nat) (s : State), ecc ≠ 2 → Issues x 0x16 w s → iX w = 0 →
    Does (.engPack x ecc) s fun t => Writes x ecc w ((s.ga x w).setWidth 16 ++ (s.gb x w).setWidth 16) s t) ∧
  (∀ (x : Fin 1024) (ecc : Fin 4) (w : Nat) (s : State), ecc ≠ 2 → Issues x 0x17 w s → iX w = 0 →
    Does (.engCmul x ecc) s fun t => Writes x ecc w (packHalves (q15 (reOf (s.ga x w) * reOf (s.gb x w) - imOf (s.ga x w) * imOf (s.gb x w))) (q15 (reOf (s.ga x w) * imOf (s.gb x w) + imOf (s.ga x w) * reOf (s.gb x w)))) s t) ∧
  (∀ (x : Fin 1024) (ecc : Fin 4) (w : Nat) (s : State), ecc ≠ 2 → Issues x 0x18 w s → iX w = 0 →
    Does (.engCmulc x ecc) s fun t => Writes x ecc w (packHalves (q15 (reOf (s.ga x w) * reOf (s.gb x w) + imOf (s.ga x w) * imOf (s.gb x w))) (q15 (imOf (s.ga x w) * reOf (s.gb x w) - reOf (s.ga x w) * imOf (s.gb x w)))) s t) ∧
  (∀ (x : Fin 1024) (ecc : Fin 4) (w : Nat) (s : State), ecc ≠ 2 → Issues x 0x19 w s → iX w = 0 → iB w = 0 →
    Does (.engConj x ecc) s fun t => Writes x ecc w (packHalves ((s.ga x w).toNat / 65536) (sat16 (-imOf (s.ga x w)))) s t) ∧
  (∀ (x : Fin 1024) (ecc : Fin 4) (w : Nat) (s : State), ecc ≠ 2 → Issues x 0x20 w s →
    Does (.engAddi x ecc) s fun t => Writes x ecc w (s.ga x w + (BitVec.ofNat 14 (iIMM w)).signExtend 32) s t) ∧
  (∀ (x : Fin 1024) (ecc : Fin 4) (w : Nat) (s : State), ecc ≠ 2 → Issues x 0x21 w s →
    Does (.engAndi x ecc) s fun t => Writes x ecc w (s.ga x w &&& (BitVec.ofNat 14 (iIMM w)).zeroExtend 32) s t) ∧
  (∀ (x : Fin 1024) (ecc : Fin 4) (w : Nat) (s : State), ecc ≠ 2 → Issues x 0x22 w s →
    Does (.engOri x ecc) s fun t => Writes x ecc w (s.ga x w ||| (BitVec.ofNat 14 (iIMM w)).zeroExtend 32) s t) ∧
  (∀ (x : Fin 1024) (ecc : Fin 4) (w : Nat) (s : State), ecc ≠ 2 → Issues x 0x23 w s →
    Does (.engXori x ecc) s fun t => Writes x ecc w (s.ga x w ^^^ (BitVec.ofNat 14 (iIMM w)).zeroExtend 32) s t) ∧
  (∀ (x : Fin 1024) (ecc : Fin 4) (w : Nat) (s : State), ecc ≠ 2 → Issues x 0x24 w s → iD w = 0 →
    Does (.engCmpi x ecc) s fun t => Goes x ecc
      { s.engine x.val with sflags := (s.engine x.val).sflags % 256 + cmpFlags (s.ga x w) ((BitVec.ofNat 14 (iIMM w)).signExtend 32) } s t) ∧
  (∀ (x : Fin 1024) (ecc : Fin 4) (w : Nat) (s : State), ecc ≠ 2 → Issues x 0x25 w s → iIMM w < 32 →
    Does (.engShli x ecc) s fun t => Writes x ecc w (s.ga x w <<< iIMM w) s t) ∧
  (∀ (x : Fin 1024) (ecc : Fin 4) (w : Nat) (s : State), ecc ≠ 2 → Issues x 0x26 w s → iIMM w < 32 →
    Does (.engShri x ecc) s fun t => Writes x ecc w (s.ga x w >>> iIMM w) s t) ∧
  (∀ (x : Fin 1024) (ecc : Fin 4) (w : Nat) (s : State), ecc ≠ 2 → Issues x 0x27 w s → iIMM w < 32 →
    Does (.engShrai x ecc) s fun t => Writes x ecc w ((s.ga x w).sshiftRight (iIMM w)) s t) ∧
  (∀ (x : Fin 1024) (ecc : Fin 4) (w : Nat) (s : State), ecc ≠ 2 → Issues x 0x28 w s →
    Does (.engMovi x ecc) s fun t => Writes x ecc w ((BitVec.ofNat 19 (iWIDE w)).signExtend 32) s t) ∧
  (∀ (x : Fin 1024) (ecc : Fin 4) (w : Nat) (s : State), ecc ≠ 2 → Issues x 0x29 w s → iWIDE w < 65536 →
    Does (.engMovh x ecc) s fun t => Writes x ecc w (BitVec.ofNat 16 (iWIDE w) ++ ((s.engine x.val).gr (iD w)).setWidth 16) s t)

/-- A load or store addresses the byte Ga + IMM. When the address is a multiple of the access size and lies in data or shared memory, a load writes the bytes the engine sees there, least significant first, extended as its row says; a store changes exactly the bytes it stores to, as its own engine sees memory: reading them back gives the low bytes of Gd and every other byte reads as before. A store to shared memory that finds the four-entry buffer full stalls (log entry 176 says when it drains). Nothing else changes but the engine's count of cycles. -/
def Obligations.LoadsAndStoresComplete : Prop :=
  (∀ (x : Fin 1024) (ecc : Fin 4) (w : Nat) (s : State), ecc ≠ 2 → ecc ≠ 3 → Issues x 0x30 w s → dataAddr w (s.engine x.val) % 4 = 0 → (dataAddr w (s.engine x.val) < 0x4000 ∨ isShared (dataAddr w (s.engine x.val)) = true) →
    Does (.engLdw x ecc) s fun t => Writes x ecc w (w32 (engRead s x.val (dataAddr w (s.engine x.val)) 4)) s t) ∧
  (∀ (x : Fin 1024) (ecc : Fin 4) (w : Nat) (s : State), ecc ≠ 2 → ecc ≠ 3 → Issues x 0x31 w s → dataAddr w (s.engine x.val) % 2 = 0 → (dataAddr w (s.engine x.val) < 0x4000 ∨ isShared (dataAddr w (s.engine x.val)) = true) →
    Does (.engLdh x ecc) s fun t => Writes x ecc w ((BitVec.ofNat 16 (engRead s x.val (dataAddr w (s.engine x.val)) 2)).signExtend 32) s t) ∧
  (∀ (x : Fin 1024) (ecc : Fin 4) (w : Nat) (s : State), ecc ≠ 2 → ecc ≠ 3 → Issues x 0x32 w s → dataAddr w (s.engine x.val) % 2 = 0 → (dataAddr w (s.engine x.val) < 0x4000 ∨ isShared (dataAddr w (s.engine x.val)) = true) →
    Does (.engLdhu x ecc) s fun t => Writes x ecc w (w32 (engRead s x.val (dataAddr w (s.engine x.val)) 2)) s t) ∧
  (∀ (x : Fin 1024) (ecc : Fin 4) (w : Nat) (s : State), ecc ≠ 2 → ecc ≠ 3 → Issues x 0x33 w s → dataAddr w (s.engine x.val) % 1 = 0 → (dataAddr w (s.engine x.val) < 0x4000 ∨ isShared (dataAddr w (s.engine x.val)) = true) →
    Does (.engLdb x ecc) s fun t => Writes x ecc w ((BitVec.ofNat 8 (engRead s x.val (dataAddr w (s.engine x.val)) 1)).signExtend 32) s t) ∧
  (∀ (x : Fin 1024) (ecc : Fin 4) (w : Nat) (s : State), ecc ≠ 2 → ecc ≠ 3 → Issues x 0x34 w s → dataAddr w (s.engine x.val) % 1 = 0 → (dataAddr w (s.engine x.val) < 0x4000 ∨ isShared (dataAddr w (s.engine x.val)) = true) →
    Does (.engLdbu x ecc) s fun t => Writes x ecc w (w32 (engRead s x.val (dataAddr w (s.engine x.val)) 1)) s t) ∧
  (∀ (x : Fin 1024) (ecc : Fin 4) (w : Nat) (s : State), ecc ≠ 2 → Issues x 0x38 w s → dataAddr w (s.engine x.val) % 4 = 0 → (dataAddr w (s.engine x.val) < 0x4000 ∨ isShared (dataAddr w (s.engine x.val)) = true ∧ (s.engine x.val).buf < 4) →
    Does (.engStw x ecc) s fun t => Goes x ecc (engStore (s.engine x.val) (dataAddr w (s.engine x.val)) 4 ((s.engine x.val).gr (iD w)).toNat) s t ∧
      engRead t x.val (dataAddr w (s.engine x.val)) 4 = ((s.engine x.val).gr (iD w)).toNat % 256 ^ 4 ∧
      (∀ a, (a < dataAddr w (s.engine x.val) ∨ dataAddr w (s.engine x.val) + 4 ≤ a) → engByte t x.val a = engByte s x.val a)) ∧
  (∀ (x : Fin 1024) (ecc : Fin 4) (w : Nat) (s : State), ecc ≠ 2 → Issues x 0x39 w s → dataAddr w (s.engine x.val) % 2 = 0 → (dataAddr w (s.engine x.val) < 0x4000 ∨ isShared (dataAddr w (s.engine x.val)) = true ∧ (s.engine x.val).buf < 4) →
    Does (.engSth x ecc) s fun t => Goes x ecc (engStore (s.engine x.val) (dataAddr w (s.engine x.val)) 2 ((s.engine x.val).gr (iD w)).toNat) s t ∧
      engRead t x.val (dataAddr w (s.engine x.val)) 2 = ((s.engine x.val).gr (iD w)).toNat % 256 ^ 2 ∧
      (∀ a, (a < dataAddr w (s.engine x.val) ∨ dataAddr w (s.engine x.val) + 2 ≤ a) → engByte t x.val a = engByte s x.val a)) ∧
  (∀ (x : Fin 1024) (ecc : Fin 4) (w : Nat) (s : State), ecc ≠ 2 → Issues x 0x3A w s → dataAddr w (s.engine x.val) % 1 = 0 → (dataAddr w (s.engine x.val) < 0x4000 ∨ isShared (dataAddr w (s.engine x.val)) = true ∧ (s.engine x.val).buf < 4) →
    Does (.engStb x ecc) s fun t => Goes x ecc (engStore (s.engine x.val) (dataAddr w (s.engine x.val)) 1 ((s.engine x.val).gr (iD w)).toNat) s t ∧
      engRead t x.val (dataAddr w (s.engine x.val)) 1 = ((s.engine x.val).gr (iD w)).toNat % 256 ^ 1 ∧
      (∀ a, (a < dataAddr w (s.engine x.val) ∨ dataAddr w (s.engine x.val) + 1 ≤ a) → engByte t x.val a = engByte s x.val a)) ∧
  (∀ (x : Fin 1024) (ecc : Fin 4) (w : Nat) (s : State), ecc ≠ 2 → Issues x 0x38 w s → dataAddr w (s.engine x.val) % 4 = 0 → isShared (dataAddr w (s.engine x.val)) = true → 4 ≤ (s.engine x.val).buf →
    Does (.engStw x ecc) s fun t => t.engine x.val = { (s.engine x.val).counted with stall := 8, wake := false } ∧
      t = { eccDone x ecc s with arr := { s.arr with engs := t.arr.engs } })

/-- A branch whose target PC + OFF lies in 0 to 1,023 goes there when its condition on the flags holds, and otherwise on; BSF tests the bit of SFLAGS that N names; CALL also sets LNK to PC + 1; RET goes to LNK and JMPR to Ga[9:0]. A taken transfer whose target lies outside the innermost loop body ends that level. LOOP reads its count once: 0 continues after the body, another count pushes a level of n instructions. Every other part of the machine stays. -/
def Obligations.BranchAndLoopInstructionsComplete : Prop :=
  (∀ (x : Fin 1024) (ecc : Fin 4) (w : Nat) (s : State), ecc ≠ 2 → Issues x 0x40 w s → 0 ≤ ((s.engine x.val).pc : Int) + iOFF w → ((s.engine x.val).pc : Int) + iOFF w ≤ 1023 → iD w = 0 → (s.engine x.val).zf = true →
    Does (.engBeq x ecc) s fun t => Jumps x ecc ((((s.engine x.val).pc : Int) + iOFF w).toNat) (s.engine x.val) s t) ∧
  (∀ (x : Fin 1024) (ecc : Fin 4) (w : Nat) (s : State), ecc ≠ 2 → Issues x 0x40 w s → 0 ≤ ((s.engine x.val).pc : Int) + iOFF w → ((s.engine x.val).pc : Int) + iOFF w ≤ 1023 → iD w = 0 → ¬ ((s.engine x.val).zf = true) →
    Does (.engBeq x ecc) s fun t => Goes x ecc (s.engine x.val) s t) ∧
  (∀ (x : Fin 1024) (ecc : Fin 4) (w : Nat) (s : State), ecc ≠ 2 → Issues x 0x41 w s → 0 ≤ ((s.engine x.val).pc : Int) + iOFF w → ((s.engine x.val).pc : Int) + iOFF w ≤ 1023 → iD w = 0 → (s.engine x.val).zf = false →
    Does (.engBne x ecc) s fun t => Jumps x ecc ((((s.engine x.val).pc : Int) + iOFF w).toNat) (s.engine x.val) s t) ∧
  (∀ (x : Fin 1024) (ecc : Fin 4) (w : Nat) (s : State), ecc ≠ 2 → Issues x 0x41 w s → 0 ≤ ((s.engine x.val).pc : Int) + iOFF w → ((s.engine x.val).pc : Int) + iOFF w ≤ 1023 → iD w = 0 → ¬ ((s.engine x.val).zf = false) →
    Does (.engBne x ecc) s fun t => Goes x ecc (s.engine x.val) s t) ∧
  (∀ (x : Fin 1024) (ecc : Fin 4) (w : Nat) (s : State), ecc ≠ 2 → Issues x 0x42 w s → 0 ≤ ((s.engine x.val).pc : Int) + iOFF w → ((s.engine x.val).pc : Int) + iOFF w ≤ 1023 → iD w = 0 → (s.engine x.val).nf ≠ (s.engine x.val).vf →
    Does (.engBlt x ecc) s fun t => Jumps x ecc ((((s.engine x.val).pc : Int) + iOFF w).toNat) (s.engine x.val) s t) ∧
  (∀ (x : Fin 1024) (ecc : Fin 4) (w : Nat) (s : State), ecc ≠ 2 → Issues x 0x42 w s → 0 ≤ ((s.engine x.val).pc : Int) + iOFF w → ((s.engine x.val).pc : Int) + iOFF w ≤ 1023 → iD w = 0 → ¬ ((s.engine x.val).nf ≠ (s.engine x.val).vf) →
    Does (.engBlt x ecc) s fun t => Goes x ecc (s.engine x.val) s t) ∧
  (∀ (x : Fin 1024) (ecc : Fin 4) (w : Nat) (s : State), ecc ≠ 2 → Issues x 0x43 w s → 0 ≤ ((s.engine x.val).pc : Int) + iOFF w → ((s.engine x.val).pc : Int) + iOFF w ≤ 1023 → iD w = 0 → (s.engine x.val).nf = (s.engine x.val).vf →
    Does (.engBge x ecc) s fun t => Jumps x ecc ((((s.engine x.val).pc : Int) + iOFF w).toNat) (s.engine x.val) s t) ∧
  (∀ (x : Fin 1024) (ecc : Fin 4) (w : Nat) (s : State), ecc ≠ 2 → Issues x 0x43 w s → 0 ≤ ((s.engine x.val).pc : Int) + iOFF w → ((s.engine x.val).pc : Int) + iOFF w ≤ 1023 → iD w = 0 → ¬ ((s.engine x.val).nf = (s.engine x.val).vf) →
    Does (.engBge x ecc) s fun t => Goes x ecc (s.engine x.val) s t) ∧
  (∀ (x : Fin 1024) (ecc : Fin 4) (w : Nat) (s : State), ecc ≠ 2 → Issues x 0x44 w s → 0 ≤ ((s.engine x.val).pc : Int) + iOFF w → ((s.engine x.val).pc : Int) + iOFF w ≤ 1023 → iD w = 0 → (s.engine x.val).cf = true →
    Does (.engBltu x ecc) s fun t => Jumps x ecc ((((s.engine x.val).pc : Int) + iOFF w).toNat) (s.engine x.val) s t) ∧
  (∀ (x : Fin 1024) (ecc : Fin 4) (w : Nat) (s : State), ecc ≠ 2 → Issues x 0x44 w s → 0 ≤ ((s.engine x.val).pc : Int) + iOFF w → ((s.engine x.val).pc : Int) + iOFF w ≤ 1023 → iD w = 0 → ¬ ((s.engine x.val).cf = true) →
    Does (.engBltu x ecc) s fun t => Goes x ecc (s.engine x.val) s t) ∧
  (∀ (x : Fin 1024) (ecc : Fin 4) (w : Nat) (s : State), ecc ≠ 2 → Issues x 0x45 w s → 0 ≤ ((s.engine x.val).pc : Int) + iOFF w → ((s.engine x.val).pc : Int) + iOFF w ≤ 1023 → iD w = 0 → (s.engine x.val).cf = false →
    Does (.engBgeu x ecc) s fun t => Jumps x ecc ((((s.engine x.val).pc : Int) + iOFF w).toNat) (s.engine x.val) s t) ∧
  (∀ (x : Fin 1024) (ecc : Fin 4) (w : Nat) (s : State), ecc ≠ 2 → Issues x 0x45 w s → 0 ≤ ((s.engine x.val).pc : Int) + iOFF w → ((s.engine x.val).pc : Int) + iOFF w ≤ 1023 → iD w = 0 → ¬ ((s.engine x.val).cf = false) →
    Does (.engBgeu x ecc) s fun t => Goes x ecc (s.engine x.val) s t) ∧
  (∀ (x : Fin 1024) (ecc : Fin 4) (w : Nat) (s : State), ecc ≠ 2 → Issues x 0x46 w s → 0 ≤ ((s.engine x.val).pc : Int) + iOFF w → ((s.engine x.val).pc : Int) + iOFF w ≤ 1023 → iD w ≤ 11 →
    Does (.engBsf x ecc) s fun t => (if (s.engine x.val).sflags.testBit (iD w) = true then Jumps x ecc (((s.engine x.val).pc : Int) + iOFF w).toNat (s.engine x.val) s t else Goes x ecc (s.engine x.val) s t)) ∧
  (∀ (x : Fin 1024) (ecc : Fin 4) (w : Nat) (s : State), ecc ≠ 2 → Issues x 0x47 w s → 0 ≤ ((s.engine x.val).pc : Int) + iOFF w → ((s.engine x.val).pc : Int) + iOFF w ≤ 1023 → iD w = 0 →
    Does (.engBra x ecc) s fun t => Jumps x ecc ((((s.engine x.val).pc : Int) + iOFF w).toNat) (s.engine x.val) s t) ∧
  (∀ (x : Fin 1024) (ecc : Fin 4) (w : Nat) (s : State), ecc ≠ 2 → Issues x 0x48 w s → 0 ≤ ((s.engine x.val).pc : Int) + iOFF w → ((s.engine x.val).pc : Int) + iOFF w ≤ 1023 → iD w = 0 →
    Does (.engCall x ecc) s fun t => Jumps x ecc ((((s.engine x.val).pc : Int) + iOFF w).toNat) { (s.engine x.val) with lnk := ((s.engine x.val).pc + 1) % 1024 } s t) ∧
  (∀ (x : Fin 1024) (ecc : Fin 4) (w : Nat) (s : State), ecc ≠ 2 → Issues x 0x49 w s → iD w = 0 → iA w = 0 → iB w = 0 → iX w = 0 →
    Does (.engRet x ecc) s fun t => Jumps x ecc ((s.engine x.val).lnk) (s.engine x.val) s t) ∧
  (∀ (x : Fin 1024) (ecc : Fin 4) (w : Nat) (s : State), ecc ≠ 2 → Issues x 0x4A w s → iD w = 0 → iB w = 0 → iX w = 0 →
    Does (.engJmpr x ecc) s fun t => Jumps x ecc ((s.ga x w).toNat % 1024) (s.engine x.val) s t) ∧
  (∀ (x : Fin 1024) (ecc : Fin 4) (w : Nat) (s : State), ecc ≠ 2 → Issues x 0x4B w s → iA w = 0 → iIMM w ≠ 0 → (s.engine x.val).pc + iIMM w ≤ 1023 → ((s.engine x.val).gr (iD w)) = 0 →
    Does (.engLoop x ecc) s fun t => t.engine x.val = { (s.engine x.val).counted with pc := (afterSeq (s.engine x.val).loops ((s.engine x.val).pc + iIMM w)).1, loops := (afterSeq (s.engine x.val).loops ((s.engine x.val).pc + iIMM w)).2 } ∧
      t = { eccDone x ecc s with arr := { s.arr with engs := t.arr.engs } }) ∧
  (∀ (x : Fin 1024) (ecc : Fin 4) (w : Nat) (s : State), ecc ≠ 2 → Issues x 0x4B w s → iA w = 0 → iIMM w ≠ 0 → (s.engine x.val).pc + iIMM w ≤ 1023 → ((s.engine x.val).gr (iD w)) ≠ 0 → (s.engine x.val).loops.length < 2 →
    Does (.engLoop x ecc) s fun t => Goes x ecc { (s.engine x.val) with loops :=
      { first := (s.engine x.val).pc + 1, last := (s.engine x.val).pc + iIMM w, left := ((s.engine x.val).gr (iD w)).toNat } :: (s.engine x.val).loops } s t)

/-- CMAC to MSUR add exact products to their accumulators of 80 bits, and set AOV when one wraps; ACLR, ACRD, ACGET and ACWR clear, round, extract and load as their rows say. NCOSYNC sets the phase to (h × INC) mod 2^48 with h = 2 × (Ga[26:0], Gb) + Gd, NCOADV advances it by Ga × INC, and NCOQ and NCOQP give the model's reading of the oscillator, whose parts lie within 1 LSB of the exact value (a free value, log entry 70). Nothing else changes. -/
def Obligations.AccumulatorAndOscillatorInstructionsComplete : Prop :=
  (∀ (x : Fin 1024) (ecc : Fin 4) (w : Nat) (s : State), ecc ≠ 2 → Issues x 0x50 w s → iX w = 0 → iD w ≤ 1 →
    Does (.engCmac x ecc) s fun t => Goes x ecc (((s.engine x.val).accAdd (2 * iD w) (cprod (s.ga x w) (s.gb x w)).1).accAdd (2 * iD w + 1) (cprod (s.ga x w) (s.gb x w)).2) s t) ∧
  (∀ (x : Fin 1024) (ecc : Fin 4) (w : Nat) (s : State), ecc ≠ 2 → Issues x 0x51 w s → iX w = 0 → iD w ≤ 1 →
    Does (.engCmacc x ecc) s fun t => Goes x ecc (((s.engine x.val).accAdd (2 * iD w) (cprodC (s.ga x w) (s.gb x w)).1).accAdd (2 * iD w + 1) (cprodC (s.ga x w) (s.gb x w)).2) s t) ∧
  (∀ (x : Fin 1024) (ecc : Fin 4) (w : Nat) (s : State), ecc ≠ 2 → Issues x 0x52 w s → iX w = 0 →
    Does (.engCmac2 x ecc) s fun t => Goes x ecc (((s.engine x.val).pairAdd 0 (cprod (s.ga x w) ((s.engine x.val).gr (iD w)))).pairAdd 1 (cprod (s.gb x w) ((s.engine x.val).gr (iD w)))) s t) ∧
  (∀ (x : Fin 1024) (ecc : Fin 4) (w : Nat) (s : State), ecc ≠ 2 → Issues x 0x53 w s → iX w = 0 →
    Does (.engCmac2c x ecc) s fun t => Goes x ecc (((s.engine x.val).pairAdd 0 (cprodC (s.ga x w) ((s.engine x.val).gr (iD w)))).pairAdd 1 (cprodC (s.gb x w) ((s.engine x.val).gr (iD w)))) s t) ∧
  (∀ (x : Fin 1024) (ecc : Fin 4) (w : Nat) (s : State), ecc ≠ 2 → Issues x 0x54 w s → iX w = 0 → iD w ≤ 3 →
    Does (.engMacr x ecc) s fun t => Goes x ecc ((s.engine x.val).accAdd (iD w) ((s.ga x w).toInt * (s.gb x w).toInt)) s t) ∧
  (∀ (x : Fin 1024) (ecc : Fin 4) (w : Nat) (s : State), ecc ≠ 2 → Issues x 0x55 w s → iX w = 0 → iD w ≤ 3 →
    Does (.engMsur x ecc) s fun t => Goes x ecc ((s.engine x.val).accAdd (iD w) (-((s.ga x w).toInt * (s.gb x w).toInt))) s t) ∧
  (∀ (x : Fin 1024) (ecc : Fin 4) (w : Nat) (s : State), ecc ≠ 2 → Issues x 0x56 w s → iX w = 0 → iA w = 0 → iB w = 0 → iD w ≤ 15 →
    Does (.engAclr x ecc) s fun t => Goes x ecc { (s.engine x.val) with ac := (t.engine x.val).ac } s t ∧
      (∀ n, (t.engine x.val).acc n = if (iD w).testBit n = true then 0 else (s.engine x.val).acc n)) ∧
  (∀ (x : Fin 1024) (ecc : Fin 4) (w : Nat) (s : State), ecc ≠ 2 → Issues x 0x57 w s → iX w ≤ 63 → iA w ≤ 3 → iB w = 0 →
    Does (.engAcrd x ecc) s fun t => Writes x ecc w (BitVec.ofInt 32 (clampS 32 (roundShift ((s.engine x.val).acc (iA w)).toInt (iX w)))) s t) ∧
  (∀ (x : Fin 1024) (ecc : Fin 4) (w : Nat) (s : State), ecc ≠ 2 → Issues x 0x58 w s → iX w ≤ 48 → iA w ≤ 3 → iB w = 0 →
    Does (.engAcget x ecc) s fun t => Writes x ecc w (((s.engine x.val).acc (iA w)).extractLsb' (iX w) 32) s t) ∧
  (∀ (x : Fin 1024) (ecc : Fin 4) (w : Nat) (s : State), ecc ≠ 2 → Issues x 0x59 w s → iX w ≤ 48 → iD w ≤ 3 → iB w = 0 →
    Does (.engAcwr x ecc) s fun t => Goes x ecc ((s.engine x.val).setAcc (iD w) ((s.ga x w).signExtend 80 <<< iX w)) s t) ∧
  (∀ (x : Fin 1024) (ecc : Fin 4) (w : Nat) (s : State), ecc ≠ 2 → Issues x 0x60 w s → iX w = 0 →
    Does (.engNcosync x ecc) s fun t => Goes x ecc { (s.engine x.val) with ph := (((2 * (((s.ga x w).toNat % 2 ^ 27 * 2 ^ 32 + (s.gb x w).toNat : Nat) : Int) + ((s.engine x.val).gr (iD w)).toInt) * ((s.engine x.val).inc : Int)) % 2 ^ 48).toNat } s t) ∧
  (∀ (x : Fin 1024) (ecc : Fin 4) (w : Nat) (s : State), ecc ≠ 2 → Issues x 0x61 w s → iX w = 0 → iD w = 0 → iB w = 0 →
    Does (.engNcoadv x ecc) s fun t => Goes x ecc { (s.engine x.val) with ph := ((s.engine x.val).ph + (s.ga x w).toNat * (s.engine x.val).inc) % 2 ^ 48 } s t) ∧
  (∀ (x : Fin 1024) (ecc : Fin 4) (w : Nat) (s : State), ecc ≠ 2 → Issues x 0x62 w s → iX w = 0 → iA w = 0 → iB w = 0 →
    Does (.engNcoq x ecc) s fun t => Writes x ecc w (ncoOut (-1) (s.engine x.val).ph) s t) ∧
  (∀ (x : Fin 1024) (ecc : Fin 4) (w : Nat) (s : State), ecc ≠ 2 → Issues x 0x63 w s → iX w = 0 → iA w = 0 → iB w = 0 →
    Does (.engNcoqp x ecc) s fun t => Writes x ecc w (ncoOut (1) (s.engine x.val).ph) s t)

/-- POP and POPN take the next item of a bound port into Gd and set FIRST accordingly; a POP on an empty port stalls, and a POPN sets EMPTY and leaves Gd. AVAIL gives the number of items. PUSH appends to the open frame, which PUSHE closes and publishes with all its items to the subscribers of an enabled entry. MFS reads a special register, with the HI partner latched by the read of its LO register (the epoch within one of the datum's, its error and the cycles that stalls take being free values); MTS writes the writable ones. -/
def Obligations.PortAndSpecialRegisterInstructionsComplete : Prop :=
  (∀ (x : Fin 1024) (ecc : Fin 4) (w i : Nat) (b : Bool) (v : Word) (r : List (Bool × Word)) (s : State), ecc ≠ 2 → Issues x 0x68 w s → iX w = 0 → iB w = 0 → iA w = i → i ≤ 1 → ((s.engine x.val).bound i).isSome = true → (s.engine x.val).queue i = (b, v) :: r →
    Does (.engPop x ecc) s fun t => t.engine x.val = (takeItem i b v r (iD w) (s.engine x.val)).counted.seq (s.engine x.val).pc ∧
      SameBut (fun _ => ({} : Eng)) x.val s.arr.engs t.arr.engs ∧
      t = { eccDone x ecc s with arr := { s.arr with engs := t.arr.engs }, fab := { s.fab with got := t.fab.got } } ∧
      (t.engine x.val).gr (iD w) = v ∧ (t.engine x.val).sflags.testBit (3 * i) = b ∧
      (((s.engine x.val).dec i).held = none → (t.engine x.val).queue i = r ∧ t.fab = s.fab) ∧
      (∀ f ∈ ((s.engine x.val).dec i).held, (r.length + f.length ≤ 1024 → (t.engine x.val).queue i = r ++ frameItems f))) ∧
  (∀ (x : Fin 1024) (ecc : Fin 4) (w i : Nat) (s : State), ecc ≠ 2 → Issues x 0x68 w s → iX w = 0 → iB w = 0 → iA w = i → i ≤ 1 → ((s.engine x.val).bound i).isSome = true → (s.engine x.val).queue i = [] →
    Does (.engPop x ecc) s fun t => t.engine x.val = { (s.engine x.val).counted with stall := 1, wake := false } ∧
      t = { eccDone x ecc s with arr := { s.arr with engs := t.arr.engs } }) ∧
  (∀ (x : Fin 1024) (ecc : Fin 4) (w i : Nat) (b : Bool) (v : Word) (r : List (Bool × Word)) (s : State), ecc ≠ 2 → Issues x 0x69 w s → iX w = 0 → iB w = 0 → iA w = i → i ≤ 1 → ((s.engine x.val).bound i).isSome = true → ((s.engine x.val).dec i).held = none → (s.engine x.val).queue i = (b, v) :: r →
    Does (.engPopn x ecc) s fun t => Goes x ecc ((takeItem i b v r (iD w) (s.engine x.val)).flag (3 * i + 2) false) s t ∧
      (t.engine x.val).gr (iD w) = v) ∧
  (∀ (x : Fin 1024) (ecc : Fin 4) (w i : Nat) (s : State), ecc ≠ 2 → Issues x 0x69 w s → iX w = 0 → iB w = 0 → iA w = i → i ≤ 1 → ((s.engine x.val).bound i).isSome = true → (s.engine x.val).queue i = [] →
    Does (.engPopn x ecc) s fun t => Goes x ecc ((s.engine x.val).flag (3 * i + 2) true) s t) ∧
  (∀ (x : Fin 1024) (ecc : Fin 4) (w i : Nat) (s : State), ecc ≠ 2 → Issues x 0x6A w s → iX w = 0 → iB w = 0 → iA w = i → i ≤ 1 → ((s.engine x.val).bound i).isSome = true →
    Does (.engAvail x ecc) s fun t => Writes x ecc w (BitVec.ofNat 32 ((s.engine x.val).queue i).length) s t) ∧
  (∀ (x : Fin 1024) (ecc : Fin 4) (w : Nat) (s : State), ecc ≠ 2 → Issues x 0x6B w s → iX w = 0 → iB w = 0 → iD w = 0 → (s.engine x.val).out.length < 512 → (s.engine x.val).fill < 64 → (s.engine x.val).bout.isSome = true →
    Does (.engPush x ecc) s fun t => Goes x ecc { (s.engine x.val) with out := (s.engine x.val).out ++ [s.ga x w], isOpen := true, fill := (s.engine x.val).fill + 1 } s t) ∧
  (∀ (x : Fin 1024) (ecc : Fin 4) (w : Nat) (s : State), ecc ≠ 2 → Issues x 0x6C w s → iX w = 0 → iB w = 0 → iD w = 0 → (s.engine x.val).out.length < 512 → (s.engine x.val).fill < 64 → (s.engine x.val).bout.isSome = true → (s.engine x.val).mute = true →
    Does (.engPushe x ecc) s fun t => Goes x ecc { (s.engine x.val) with out := [], isOpen := false, fill := (s.engine x.val).fill + 1 } s t) ∧
  (∀ (x : Fin 1024) (ecc : Fin 4) (w i : Nat) (s : State), ecc ≠ 2 → Issues x 0x6C w s → iX w = 0 → iB w = 0 → iD w = 0 → (s.engine x.val).out.length < 512 → (s.engine x.val).fill < 64 → (s.engine x.val).bout = some i → (s.engine x.val).mute = false → entOn (s.pubW0 (s.plotParcel (x.val / 32)) i) = true → s.pubW1 (s.plotParcel (x.val / 32)) i = 0 →
    Does (.engPushe x ecc) s fun t => t.engine x.val = ({ (s.engine x.val) with out := [], isOpen := false, fill := (s.engine x.val).fill + 1 } : Eng).counted.seq (s.engine x.val).pc ∧
      t.lastOut = some { ch := .stream, args := [4, s.plotParcel (x.val / 32), i] ++ ((s.engine x.val).out ++ [s.ga x w]).map fun v => v.toNat }) ∧
  (∀ (x : Fin 1024) (ecc : Fin 4) (w : Nat) (s : State), ecc ≠ 2 → Issues x 0x6B w s → iX w = 0 → iB w = 0 → iD w = 0 → (s.engine x.val).out.length < 512 → 64 ≤ (s.engine x.val).fill → (s.engine x.val).bout.isSome = true →
    Does (.engPush x ecc) s fun t => t.engine x.val = { (s.engine x.val).counted with stall := 2, wake := false } ∧
      t = { eccDone x ecc s with arr := { s.arr with engs := t.arr.engs } }) ∧
  (∀ (x : Fin 1024) (ecc : Fin 4) (w : Nat) (s : State), ecc ≠ 2 → Issues x 0x70 w s → iX w = 0 → iA w = 0 → iB w ≤ 17 → iB w ∉ [3, 4, 5, 6, 8, 9, 10, 11] →
    Does (.engMfs x ecc) s fun t => Writes x ecc w (w32 (special (iB w) x.val (s.engine x.val) (eccDone x ecc s))) s t) ∧
  (∀ (x : Fin 1024) (ecc : Fin 4) (w : Nat) (s : State), ecc ≠ 2 → Issues x 0x70 w s → iX w = 0 → iA w = 0 → iB w = 8 →
    Does (.engMfs x ecc) s fun t => Goes x ecc (({ (s.engine x.val) with latch := Smap.set (fun _ => 2 ^ 32) (s.engine x.val).latch 9 ((s.engine x.val).inc / 2 ^ 32) } : Eng).setGr (iD w) (w32 (s.engine x.val).inc)) s t) ∧
  (∀ (x : Fin 1024) (ecc : Fin 4) (w : Nat) (s : State), ecc ≠ 2 → Issues x 0x70 w s → iX w = 0 → iA w = 0 → iB w = 10 →
    Does (.engMfs x ecc) s fun t => Goes x ecc (({ (s.engine x.val) with latch := Smap.set (fun _ => 2 ^ 32) (s.engine x.val).latch 11 ((s.engine x.val).ph / 2 ^ 32) } : Eng).setGr (iD w) (w32 (s.engine x.val).ph)) s t) ∧
  (∀ (x : Fin 1024) (ecc : Fin 4) (w : Nat) (s : State), ecc ≠ 2 → Issues x 0x70 w s → iX w = 0 → iA w = 0 → iB w ∈ [4, 6, 9, 11] → Smap.get (fun _ => 2 ^ 32) (s.engine x.val).latch (iB w) < 2 ^ 32 →
    Does (.engMfs x ecc) s fun t => Goes x ecc (({ (s.engine x.val) with latch := Smap.set (fun _ => 2 ^ 32) (s.engine x.val).latch (iB w) (2 ^ 32) } : Eng).setGr (iD w)
      (w32 (Smap.get (fun _ => 2 ^ 32) (s.engine x.val).latch (iB w)))) s t) ∧
  (∀ (x : Fin 1024) (ecc : Fin 4) (w : Nat) (s : State), ecc ≠ 2 → Issues x 0x70 w s → iX w = 0 → iA w = 0 → iB w = 3 →
    Does (.engMfs x ecc) s fun t => (∃ n : Nat, (t.engine x.val).cyc = ((s.engine x.val).cyc + 1 + n) % 2 ^ 64) ∧
      (t.engine x.val).gr (iD w) = w32 (t.engine x.val).cyc ∧
      Smap.get (fun _ => 2 ^ 32) (t.engine x.val).latch 4 = (t.engine x.val).cyc / 2 ^ 32 ∧
      t = { eccDone x ecc s with arr := { s.arr with engs := t.arr.engs }, freeCtr := t.freeCtr }) ∧
  (∀ (x : Fin 1024) (ecc : Fin 4) (w : Nat) (s : State), ecc ≠ 2 → Issues x 0x70 w s → iX w = 0 → iA w = 0 → iB w = 5 → s.epoch + 1 < 2 ^ 63 →
    Does (.engMfs x ecc) s fun t => ∃ v : Nat, (t.engine x.val).gr (iD w) = w32 v ∧
      (Smap.get (fun _ => 2 ^ 32) (t.engine x.val).latch 6) = v / 2 ^ 32 ∧
      v % 2 ^ 63 ≤ s.epoch + 1 ∧ s.epoch ≤ v % 2 ^ 63 + 1 ∧ (v / 2 ^ 63 = if s.fb R.DTM_STAT_COH = true then 1 else 0)) ∧
  (∀ (x : Fin 1024) (ecc : Fin 4) (w : Nat) (s : State), ecc ≠ 2 → Issues x 0x71 w s → iX w = 0 → iB w = 0 → iD w = 7 → (s.ga x w).toNat < 4096 →
    Does (.engMts x ecc) s fun t => Goes x ecc { (s.engine x.val) with sflags := (s.ga x w).toNat } s t) ∧
  (∀ (x : Fin 1024) (ecc : Fin 4) (w : Nat) (s : State), ecc ≠ 2 → Issues x 0x71 w s → iX w = 0 → iB w = 0 → iD w = 14 →
    Does (.engMts x ecc) s fun t => Goes x ecc { (s.engine x.val) with wdog := (s.ga x w).toNat, wdogAt := s.now } s t) ∧
  (∀ (x : Fin 1024) (ecc : Fin 4) (w : Nat) (s : State), ecc ≠ 2 → Issues x 0x71 w s → iX w = 0 → iB w = 0 → iD w = 17 →
    Does (.engMts x ecc) s fun t => Goes x ecc { (s.engine x.val) with lnk := (s.ga x w).toNat % 1024 } s t) ∧
  (∀ (x : Fin 1024) (ecc : Fin 4) (w : Nat) (s : State), ecc ≠ 2 → Issues x 0x71 w s → iX w = 0 → iB w = 0 → iD w = 8 →
    Does (.engMts x ecc) s fun t => Goes x ecc { (s.engine x.val) with inc := withBits (s.engine x.val).inc 0 32 (s.ga x w).toNat } s t) ∧
  (∀ (x : Fin 1024) (ecc : Fin 4) (w : Nat) (s : State), ecc ≠ 2 → Issues x 0x71 w s → iX w = 0 → iB w = 0 → iD w = 10 →
    Does (.engMts x ecc) s fun t => Goes x ecc { (s.engine x.val) with ph := withBits (s.engine x.val).ph 0 32 (s.ga x w).toNat } s t) ∧
  (∀ (x : Fin 1024) (ecc : Fin 4) (w : Nat) (s : State), ecc ≠ 2 → Issues x 0x71 w s → iX w = 0 → iB w = 0 → iD w = 9 →
    Does (.engMts x ecc) s fun t => (t.engine x.val).inc = withBits (s.engine x.val).inc 32 16 (s.ga x w).toNat ∧
      Goes x ecc { (s.engine x.val) with inc := (t.engine x.val).inc, latch := (t.engine x.val).latch } s t) ∧
  (∀ (x : Fin 1024) (ecc : Fin 4) (w : Nat) (s : State), ecc ≠ 2 → Issues x 0x71 w s → iX w = 0 → iB w = 0 → iD w = 11 →
    Does (.engMts x ecc) s fun t => (t.engine x.val).ph = withBits (s.engine x.val).ph 32 16 (s.ga x w).toNat ∧
      Goes x ecc { (s.engine x.val) with ph := (t.engine x.val).ph, latch := (t.engine x.val).latch } s t)

/-- DMAQ queues a descriptor of 16 at most and answers 0, or 1 when the queue is full. WAIT, a BAR that another running engine of the instance has not reached and a FENCE with descriptors left stall the engine; the last BAR of an instance completes it for every engine there. FENCE makes the engine's stores visible to its plot and WDR restarts the watchdog. HALT stops the engine after the instruction with its registers kept and an open frame closed. BRK, and a watchdog that ran out, take the exception: the record names the cause and the address, the plot's sticky bit and the fault are set. A stall ends when what it awaits has arrived. -/
def Obligations.WaitingStoppingAndDmaInstructionsComplete : Prop :=
  (∀ (x : Fin 1024) (ecc : Fin 4) (w : Nat) (s : State), ecc ≠ 2 → Issues x 0x72 w s → iX w = 0 → iB w = 0 → (s.ga x w).toNat % 16 = 0 → isShared (s.ga x w).toNat = true → s.capFit = true → (s.plot (x.val / 32)).dma.length < 16 →
    Does (.engDmaq x ecc) s fun t => (t.plot (x.val / 32)).dma = (s.plot (x.val / 32)).dma ++ [{ eng := x.val, adr := (s.ga x w).toNat }] ∧
      t.engine x.val = ((s.engine x.val).setGr (iD w) 0).counted.seq (s.engine x.val).pc ∧ t.fg (R.ENG_PLDMA_QUEUED (x.val / 32)) = (s.plot (x.val / 32)).dma.length + 1 ∧
      SameRegs [R.ENG_PLDMA (x.val / 32), R.ENG_PLECC (x.val / 32)] s t) ∧
  (∀ (x : Fin 1024) (ecc : Fin 4) (w : Nat) (s : State), ecc ≠ 2 → Issues x 0x72 w s → iX w = 0 → iB w = 0 → (s.ga x w).toNat % 16 = 0 → isShared (s.ga x w).toNat = true → s.capFit = true → 16 ≤ (s.plot (x.val / 32)).dma.length →
    Does (.engDmaq x ecc) s fun t => Writes x ecc w 1 s t) ∧
  (∀ (x : Fin 1024) (ecc : Fin 4) (w : Nat) (s : State), ecc ≠ 2 → Issues x 0x72 w s → iX w = 0 → iB w = 0 → (s.ga x w).toNat % 16 = 0 → isShared (s.ga x w).toNat = true → s.capFit = false →
    Does (.engDmaq x ecc) s fun t => (t.engine x.val).dmaExc = some (s.ga x w).toNat ∧ (t.engine x.val).gr (iD w) = 0 ∧
      leNat (memBytes (t.plot (x.val / 32)).mem ((s.ga x w).toNat + 12) 4) = 0x82000000 ∧ t.fg (R.ENG_PLFLT_DMAE (x.val / 32)) = 1) ∧
  (∀ (x : Fin 1024) (ecc : Fin 4) (w : Nat) (s : State), ecc ≠ 2 → Issues x 0x73 w s → iD w = 0 → iA w = 0 → iB w = 0 → iX w = 0 →
    Does (.engWait x ecc) s fun t => t.engine x.val = { (s.engine x.val).counted with stall := 3, wake := false } ∧
      t = { eccDone x ecc s with arr := { s.arr with engs := t.arr.engs } }) ∧
  (∀ (x y : Fin 1024) (ecc : Fin 4) (w : Nat) (s : State), ecc ≠ 2 → Issues x 0x74 w s → iD w = 0 → iA w = 0 → iB w = 0 → iX w = 0 → y ≠ x → y.val / 32 = x.val / 32 → (s.engine y.val).inst = (s.engine x.val).inst → (s.engine y.val).key ≠ 0 → (s.engine y.val).st = esRUNNING → (s.engine y.val).stall ≠ 4 →
    Does (.engBar x ecc) s fun t => t.engine x.val = { (s.engine x.val).counted with stall := 4, wake := false } ∧
      t = { eccDone x ecc s with arr := { s.arr with engs := t.arr.engs } }) ∧
  (∀ (x : Fin 1024) (ecc : Fin 4) (w : Nat) (s : State), ecc ≠ 2 → Issues x 0x74 w s → iD w = 0 → iA w = 0 → iB w = 0 → iX w = 0 → (s.engine x.val).key ≠ 0 → (∀ y ∈ s.mates x, (y ≠ x.val → (s.engine y).st = esRUNNING ∧ (s.engine y).stall = 4)) →
    Does (.engBar x ecc) s fun t => (t.engine x.val).stall = 6 ∧ (t.engine x.val).barx = false ∧
      (∀ y ∈ s.mates x, (t.engine y).stall = 6)) ∧
  (∀ (x : Fin 1024) (ecc : Fin 4) (w : Nat) (s : State), ecc ≠ 2 → Issues x 0x75 w s → iD w = 0 → iA w = 0 → iB w = 0 → iX w = 0 → hasDesc s x.val = false →
    Does (.engFence x ecc) s fun t => t.engine x.val = ({ s.engine x.val with posted := [], buf := 0 } : Eng).counted.seq (s.engine x.val).pc ∧
      (∀ a, 0x4000 ≤ a → Smap.get zeroByte (t.plot (x.val / 32)).mem a = engByte s x.val a)) ∧
  (∀ (x : Fin 1024) (ecc : Fin 4) (w : Nat) (s : State), ecc ≠ 2 → Issues x 0x75 w s → iD w = 0 → iA w = 0 → iB w = 0 → iX w = 0 → hasDesc s x.val = true →
    Does (.engFence x ecc) s fun t => t.engine x.val = { (s.engine x.val).counted with stall := 5, wake := false } ∧
      t = { eccDone x ecc s with arr := { s.arr with engs := t.arr.engs } }) ∧
  (∀ (x : Fin 1024) (ecc : Fin 4) (w : Nat) (s : State), ecc ≠ 2 → Issues x 0x76 w s → iD w = 0 → iA w = 0 → iB w = 0 → iX w = 0 →
    Does (.engWdr x ecc) s fun t => Goes x ecc { (s.engine x.val) with wdogAt := s.now } s t) ∧
  (∀ (x : Fin 1024) (ecc : Fin 4) (w : Nat) (s : State), ecc ≠ 2 → Issues x 0x77 w s → iD w = 0 → iA w = 0 → iB w = 0 → iX w = 0 →
    Does (.engHalt x ecc) s fun t => (t.engine x.val).st = esHALTED ∧ (t.engine x.val).pc = ((s.engine x.val).seq (s.engine x.val).pc).pc ∧ (t.engine x.val).g = (s.engine x.val).g ∧
      (t.engine x.val).isOpen = false ∧ (t.engine x.val).posted = []) ∧
  (∀ (x : Fin 1024) (ecc : Fin 4) (w : Nat) (s : State), ecc ≠ 2 → Issues x 0x78 w s → iD w = 0 → iA w = 0 → iB w = 0 → iX w = 0 → (s.engine x.val).pc < 1024 →
    Does (.engBrk x ecc) s fun t => (t.engine x.val).st = esEXCEPTION ∧ (t.engine x.val).pc = (s.engine x.val).pc ∧ t.reg (R.ENG_EXR_W0 x.val) = w32 (8 * 0x1000000 + (if wdogDue s (s.engine x.val) = true then 0x10000 else 0) + (s.engine x.val).pc) ∧
      t.reg (R.ENG_EXR_W1 x.val) = 0 ∧ t.reg (R.ENG_EXR_W2 x.val) = w32 s.epoch ∧ t.reg (R.ENG_EXR_W3 x.val) = w32 w ∧
      t.fg (R.ENG_PLFLT_EXC (x.val / 32)) = 1 ∧ Raised (if (s.engine x.val).safety then 0x08 else 0x66) (x.val / 32) t) ∧
  (∀ (x : Fin 1024) (w : Nat) (s : State), (s.engine x.val).st = esRUNNING → (s.engine x.val).stall = 1 → (Smap.get (fun _ => (0 : Word)) (s.engine x.val).imem (s.engine x.val).pc).toNat = w → (s.engine x.val).queue (iA w) ≠ [] → 
    Does (.engineStallRelease x) s fun t => t.engine x.val = { (s.engine x.val) with stall := 0 } ∧ SameBut (fun _ => ({} : Eng)) x.val s.arr.engs t.arr.engs ∧
      t = { s with arr := { s.arr with engs := t.arr.engs } }) ∧
  (∀ (x : Fin 1024) (s : State), (s.engine x.val).st = esRUNNING → (s.engine x.val).stall = 2 → portAccepts s x.val (s.engine x.val) = true →
    Does (.engineStallRelease x) s fun t => t.engine x.val = { (s.engine x.val) with stall := 0, fill := 0 } ∧ SameBut (fun _ => ({} : Eng)) x.val s.arr.engs t.arr.engs ∧
      t = { s with arr := { s.arr with engs := t.arr.engs } }) ∧
  (∀ (x : Fin 1024) (s : State), (s.engine x.val).st = esRUNNING → (s.engine x.val).stall = 8 →
    Does (.engineStallRelease x) s fun t => t.engine x.val = { (s.engine x.val) with stall := 0, buf := (s.engine x.val).buf - 1 } ∧ SameBut (fun _ => ({} : Eng)) x.val s.arr.engs t.arr.engs ∧
      t = { s with arr := { s.arr with engs := t.arr.engs } }) ∧
  (∀ (x : Fin 1024) (s : State), (s.engine x.val).st = esRUNNING → (s.engine x.val).stall = 3 → (s.engine x.val).wake = true → 
    Does (.engineStallRelease x) s fun t => t.engine x.val = (s.engine x.val).seq (s.engine x.val).pc ∧ SameBut (fun _ => ({} : Eng)) x.val s.arr.engs t.arr.engs ∧
      t = { s with arr := { s.arr with engs := t.arr.engs } }) ∧
  (∀ (x : Fin 1024) (s : State), (s.engine x.val).st = esRUNNING → (s.engine x.val).stall = 5 → hasDesc s x.val = false → 
    Does (.engineStallRelease x) s fun t => t.engine x.val = ({ s.engine x.val with posted := [], buf := 0 } : Eng).seq (s.engine x.val).pc ∧
      (∀ a, 0x4000 ≤ a → Smap.get zeroByte (t.plot (x.val / 32)).mem a = engByte s x.val a)) ∧
  (∀ (x : Fin 1024) (s : State), (s.engine x.val).st = esRUNNING → (s.engine x.val).stall = 6 → 
    Does (.engineStallRelease x) s fun t => t.engine x.val = ((s.engine x.val).flag 7 (s.engine x.val).barx).seq (s.engine x.val).pc ∧ SameBut (fun _ => ({} : Eng)) x.val s.arr.engs t.arr.engs ∧
      t = { s with arr := { s.arr with engs := t.arr.engs } }) ∧
  (∀ (x : Fin 1024) (s : State), (s.engine x.val).st = esRUNNING → wdogDue s (s.engine x.val) = true → (s.engine x.val).boundary.pc < 1024 →
    Does (.engineWatchdog x) s fun t => (t.engine x.val).st = esEXCEPTION ∧ (t.engine x.val).pc = (s.engine x.val).boundary.pc ∧
      t.reg (R.ENG_EXR_W0 x.val) = w32 (7 * 0x1000000 + (s.engine x.val).boundary.pc) ∧ t.fg (R.ENG_PLFLT_EXC (x.val / 32)) = 1 ∧
      Raised (if (s.engine x.val).safety then 0x08 else 0x66) (x.val / 32) t)

/-- With no kernel load waiting for a descriptor to end: the descriptor at the head of a plot's queue starts when its plot reaches the capture memory's gateway, its words read well, its fields are in order and capture memory serves; otherwise it ends with its error in its word 3: 3 for an uncorrectable word, 1 for a field that is not in order, 4 where capture memory does not serve. A completed one moves exactly its bytes between shared memory and capture memory, writes word 3 with the done bit and its units of 64 bytes, and leaves the queue. The oldest frame on its way to a port leaves the fabric: a whole one that fits enters the queue of its port and wakes a waiting engine; one that does not fit is discarded for class S, with FAB_SCLOSS and source 0x2A, and held for classes M and B. An aborted frame, or one that lost flits, is discarded with LOSS set. -/
def Obligations.DmaTransfersAndStreamFramesTakeEffect : Prop :=
  (∀ (p : Fin 32) (ecc : Fin 3) (d : Desc) (r : List Desc) (f : Bool × Nat × Nat × Nat) (s : State), (s.plot p.val).dma = d :: r → d.running = false → drcReached s p.val = true → ecc ≠ 2 → descFields s d = some f → capServes s = true → s.arr.loads = [] →
    Does (.dmaDescriptorStart p ecc) s fun t => (t.plot p.val).dma = { d with running := true } :: r ∧
      t = { (if ecc = 1 then s.inc (R.ENG_PLECC_COR p.val) else s) with arr := { s.arr with plots := t.arr.plots } }) ∧
  (∀ (p : Fin 32) (ecc : Fin 3) (d : Desc) (r : List Desc) (s : State), (s.plot p.val).dma = d :: r → d.running = false → d.eng / 32 = p.val → r.length < 16 → drcReached s p.val = true → (ecc = 2 ∨ descFields s d = none ∨ capServes s = false) → s.arr.loads = [] →
    Does (.dmaDescriptorStart p ecc) s fun t => (t.plot p.val).dma = r ∧ t.fg (R.ENG_PLDMA_QUEUED p.val) = r.length ∧
      leNat (memBytes (t.plot p.val).mem (d.adr + 12) 4) =
        0x80000000 + 0x1000000 * (if ecc = 2 then 3 else if descFields s d = none then 1 else 4) ∧ t.fg (R.ENG_PLFLT_DMAE p.val) = 1) ∧
  (∀ (p : Fin 32) (cor : Nat) (d : Desc) (r : List Desc) (len sh ca : Nat) (s : State), (s.plot p.val).dma = d :: r → d.running = true → d.eng / 32 = p.val → r.length < 16 → descFields s d = some (true, len, sh, ca) → capServes s = true → s.arr.loads = [] →
    Does (.dmaDescriptorComplete p none cor) s fun t => (t.plot p.val).dma = r ∧
      t.cap.dram = memWrite s.cap.dram ca ((List.range len).map fun i => engByte s d.eng (sh + i)) ∧
      leNat (memBytes (t.plot p.val).mem (d.adr + 12) 4) = 0x80000000 + len / 64 ∧
      t.fg (R.ENG_PLECC_COR p.val) = min 65535 (s.fg (R.ENG_PLECC_COR p.val) + cor) ∧ SameRegs [R.ENG_PLDMA p.val, R.ENG_PLECC p.val] s t) ∧
  (∀ (p : Fin 32) (cor : Nat) (d : Desc) (r : List Desc) (len sh ca : Nat) (s : State), (s.plot p.val).dma = d :: r → d.running = true → d.eng / 32 = p.val → r.length < 16 → descFields s d = some (false, len, sh, ca) → capServes s = true → s.arr.loads = [] →
    Does (.dmaDescriptorComplete p none cor) s fun t => (t.plot p.val).dma = r ∧
      (t.plot p.val).mem = memWrite (memWrite (s.plot p.val).mem sh (memBytes s.cap.dram ca len)) (d.adr + 12) (leBytes 4 (0x80000000 + len / 64)) ∧
      t.cap.dram = s.cap.dram ∧ SameRegs [R.ENG_PLDMA p.val] s t) ∧
  (∀ (x : Fin 1024) (i : Fin 2) (fl : Flight) (s : State), (s.fab.flight.find? fun f => f.eng == x.val && f.port == i.val) = some fl → (s.engine x.val).bound i.val = some fl.ent → entOn (s.subW0 (s.plotParcel (x.val / 32)) fl.ent) = true → s.quarterOn x.val = true → fl.aborted = false → (fl.cls = 0 ∨ (s.engine x.val).dec i.val = {}) → fits (s.engine x.val) i.val fl.items = true →
    Does (.streamFrameDelivery x i false) s fun t => (t.engine x.val).queue i.val = (s.engine x.val).queue i.val ++ frameItems fl.items ∧
      ((s.engine x.val).waits = true → (t.engine x.val).wake = true) ∧ (t.engine x.val).g = (s.engine x.val).g ∧ SameBut (fun _ => ({} : Eng)) x.val s.arr.engs t.arr.engs ∧
      t.fab.flight = s.fab.flight.erase fl) ∧
  (∀ (x : Fin 1024) (i : Fin 2) (fl : Flight) (s : State), (s.fab.flight.find? fun f => f.eng == x.val && f.port == i.val) = some fl → (s.engine x.val).bound i.val = some fl.ent → entOn (s.subW0 (s.plotParcel (x.val / 32)) fl.ent) = true → s.quarterOn x.val = true → fl.aborted = false → fl.cls = 0 → fits (s.engine x.val) i.val fl.items = false →
    Does (.streamFrameDelivery x i false) s fun t => (t.engine x.val).queue i.val = (s.engine x.val).queue i.val ∧
      (t.engine x.val).sflags.testBit (3 * i.val + 1) = true ∧ t.fg R.FAB_SCLOSS_PLOT = x.val / 32 ∧ t.fg R.FAB_SCLOSS_ENG = x.val % 32 ∧
      t.fg R.FAB_SCLOSS_COUNT = min 65535 (s.fg R.FAB_SCLOSS_COUNT + 1) ∧ Raised 0x2A (x.val / 32) t ∧ t.fab.flight = s.fab.flight.erase fl) ∧
  (∀ (x : Fin 1024) (i : Fin 2) (fl : Flight) (s : State), (s.fab.flight.find? fun f => f.eng == x.val && f.port == i.val) = some fl → (s.engine x.val).bound i.val = some fl.ent → entOn (s.subW0 (s.plotParcel (x.val / 32)) fl.ent) = true → s.quarterOn x.val = true → fl.aborted = false → fl.cls = 1 → (s.engine x.val).dec i.val = {} → fits (s.engine x.val) i.val fl.items = false →
    Does (.streamFrameDelivery x i false) s fun t => (t.engine x.val).dec i.val = { cnt := 1, held := some fl.items } ∧
      (t.engine x.val).queue i.val = (s.engine x.val).queue i.val ∧ t.fab.flight = s.fab.flight.erase fl) ∧
  (∀ (x : Fin 1024) (i : Fin 2) (fl : Flight) (s : State), (s.fab.flight.find? fun f => f.eng == x.val && f.port == i.val) = some fl → (s.engine x.val).bound i.val = some fl.ent → entOn (s.subW0 (s.plotParcel (x.val / 32)) fl.ent) = true → s.quarterOn x.val = true → fl.aborted = false → 2 ≤ fl.cls → ((s.engine x.val).dec i.val).held = none → fits (s.engine x.val) i.val fl.items = false →
    Does (.streamFrameDelivery x i false) s fun t => (t.engine x.val).dec i.val = { (s.engine x.val).dec i.val with held := some fl.items } ∧
      t = { s with arr := { s.arr with engs := t.arr.engs }, fab := { s.fab with flight := s.fab.flight.erase fl } }) ∧
  (∀ (x : Fin 1024) (i : Fin 2) (lost : Bool) (fl : Flight) (s : State), (s.fab.flight.find? fun f => f.eng == x.val && f.port == i.val) = some fl → (s.engine x.val).bound i.val = some fl.ent → entOn (s.subW0 (s.plotParcel (x.val / 32)) fl.ent) = true → s.quarterOn x.val = true → (fl.aborted || lost) = true →
    Does (.streamFrameDelivery x i lost) s fun t => (t.engine x.val).sflags.testBit (3 * i.val + 1) = true ∧
      (t.engine x.val).queue i.val = (s.engine x.val).queue i.val ∧ t.fab.flight = s.fab.flight.erase fl ∧
      SameRegs [(R.FAB_PDEC_DROPS (s.plotParcel (x.val / 32))).adr] s t)

/-- At its start epoch every READY engine runs from its entry point with its registers at 0. A chunk of a staging session that continues the session's image is appended to it and queued for programming; 60 s after the last chunk the image is discarded and its sectors are released. LOAD_KERNEL of a good image into an owned, free plot whose quarter-plots are on loads every named engine, which is then READY, and answers OK; a bad image and a bad signature are turned away. ENGINE_CTL halts, resumes and restarts the named engines in the states its table gives, and ENGINE_STAT returns the plot's and the engines' words. -/
def Obligations.KernelCommandsTakeEffect : Prop :=
  (∀ (e : Nat) (x : Fin 1024) (s : State), (s.engine x.val).st = esREADY → (s.engine x.val).startAt ≤ e →
    s.quarterOn x.val = true →
    Does (.engineStart e) s fun t => (t.engine x.val).st = esRUNNING ∧ (t.engine x.val).pc = (s.engine x.val).entry ∧
      (t.engine x.val).g = [] ∧ (t.engine x.val).ac = [] ∧ (t.engine x.val).sflags = 0 ∧ (t.engine x.val).loops = [] ∧
      (t.engine x.val).wdog = (s.engine x.val).wdog0 ∧ t.reg (R.ENG_EXR_W0 x.val) = 0) ∧
  (∀ (p q : Packet) (s s1 : State), Admits 0x50 p s q s1 → (s1.stage q.parcel).id ≠ 0 →
    u32 q.payload 0 = (s1.stage q.parcel).id → u32 q.payload 4 = (s1.stage q.parcel).acc →
    (s1.stage q.parcel).acc ≠ (s1.stage q.parcel).lastOff → u32 q.payload 8 = (s1.stage q.parcel).total →
    u8 q.payload 12 = (s1.stage q.parcel).target → u8 q.payload 12 ≤ 7 → u8 q.payload 13 = 0 →
    q.payload.length = 16 + u16 q.payload 14 → u16 q.payload 14 ≠ 0 → u16 q.payload 14 ≤ 2000 → u16 q.payload 14 % 4 = 0 →
    (s1.stage q.parcel).acc + u16 q.payload 14 < (s1.stage q.parcel).total →
    Does (.kernelStage p) s fun t => (t.stage q.parcel).acc = (s1.stage q.parcel).acc + u16 q.payload 14 ∧
      (t.stage q.parcel).data = (s1.stage q.parcel).data ++ q.payload.drop 16 ∧ (t.stage q.parcel).at_ = s1.lt ∧
      t.fls.ops.length = s1.fls.ops.length + 1) ∧
  (∀ (q : Fin 8) (s : State), (s.stage q.val).id ≠ 0 → s.due (s.stage q.val).at_ 60000000000 = true →
    Does (.kernelLeaseExpiry q) s fun t => t.stage q.val = {} ∧ t.nv.ksErase = s.nv.ksErase ++ (s.stage q.val).sects) ∧
  (∀ (p q : Packet) (pl : Fin 32) (i : Fin 32) (s s1 : State), Admits 0x51 p s q s1 → q.payload.length = 12 →
    q.noReply = false → u8 q.payload 0 ≤ 7 → leAt q.payload 1 3 = 0 → u32 q.payload 4 = 2 ^ i.val → u32 q.payload 8 ≠ 0 →
    (q.parcel = 0 ∨ kiSAFETY (s1.kernel (8 * q.parcel + u8 q.payload 0)) = false) → s1.slotPlot q.parcel i.val = some pl.val →
    s1.plotState pl.val < psMIGR → s1.tb R.ENG_RETIRED_RET pl.val = false → (s1.plot pl.val).shut = false →
    ((List.range (kiNBIND (s1.kernel (8 * q.parcel + u8 q.payload 0)))).all fun k => streamOk s1 q.parcel
      (kiBinding (s1.kernel (8 * q.parcel + u8 q.payload 0)) k).2.1 (kiBinding (s1.kernel (8 * q.parcel + u8 q.payload 0)) k).2.2) = true →
    (kiDMA (s1.kernel (8 * q.parcel + u8 q.payload 0)) = false ∨ s1.capFit = true ∧ s1.fg (R.CAD_PCAP_CAPSZ q.parcel) ≠ 0) →
    s1.energised = false → ((quarters pl.val (u32 q.payload 8)).all fun d => s1.domOn d) = true → (s1.plot pl.val).dma = [] → s1.arr.loads = [] →
    Does (.loadKernel p) s fun t =>
      (if kernelOk (s1.kernel (8 * q.parcel + u8 q.payload 0)) = false then
        t.lastReply = some [0x05, rFIELD]
      else if kernelSigned s1 (s1.kernel (8 * q.parcel + u8 q.payload 0)) = false then
        t.lastReply = some [0x03, rTAG]
      else t.lastReply = some [0, 0] ∧
        (∀ x ∈ masked pl.val (u32 q.payload 8), ((t.engine x).st = esREADY ∧
          (t.engine x).kid = kiKID (s1.kernel (8 * q.parcel + u8 q.payload 0)) ∧
          (t.engine x).entry = kiENTRY (s1.kernel (8 * q.parcel + u8 q.payload 0)) ∧
          (t.engine x).dmem = dataImage (s1.kernel (8 * q.parcel + u8 q.payload 0)))))) ∧
  (∀ (p q : Packet) (pl : Fin 32) (s s1 : State), Admits 0x52 p s q s1 → q.payload.length = 8 → q.noReply = false →
    u8 p.payload 1 = 1 → u8 q.payload 1 = 1 → u8 q.payload 0 ≤ 31 → u16 q.payload 2 = 0 → u32 q.payload 4 ≠ 0 →
    s1.slotPlot q.parcel (u8 q.payload 0) = some pl.val → (s1.plot pl.val).shut = false → s1.energised = false →
    (∀ x ∈ masked pl.val (u32 q.payload 4), (s1.engine x).st = esRUNNING) →
    Does (.engineHalt p) s fun t => t.lastReply = some [0, 0] ∧
      (∀ x ∈ masked pl.val (u32 q.payload 4), ((t.engine x).st = esHALTED ∧ (t.engine x).pc = (s1.engine x).pc ∧
        (t.engine x).g = (s1.engine x).g))) ∧
  (∀ (p q : Packet) (pl : Fin 32) (s s1 : State), Admits 0x52 p s q s1 → q.payload.length = 8 → q.noReply = false →
    u8 p.payload 1 = 2 → u8 q.payload 1 = 2 → u8 q.payload 0 ≤ 31 → u16 q.payload 2 = 0 → u32 q.payload 4 ≠ 0 →
    s1.slotPlot q.parcel (u8 q.payload 0) = some pl.val → (s1.plot pl.val).shut = false →
    (∀ x ∈ masked pl.val (u32 q.payload 4), ((s1.engine x).st = esHALTED ∧ (s1.engine x).dmaExc = none)) →
    Does (.engineResume p) s fun t => t.lastReply = some [0, 0] ∧
      (∀ x ∈ masked pl.val (u32 q.payload 4), (t.engine x = { s1.engine x with st := esRUNNING, wdogAt := s1.now - (s1.engine x).wdogUsed }))) ∧
  (∀ (p q : Packet) (pl : Fin 32) (s s1 : State), Admits 0x52 p s q s1 → q.payload.length = 8 → q.noReply = false →
    u8 p.payload 1 = 3 → u8 q.payload 1 = 3 → u8 q.payload 0 ≤ 31 → u16 q.payload 2 = 0 → u32 q.payload 4 ≠ 0 →
    s1.slotPlot q.parcel (u8 q.payload 0) = some pl.val → (s1.plot pl.val).shut = false → s1.energised = false →
    (∀ x ∈ masked pl.val (u32 q.payload 4), ((s1.engine x).st = esHALTED ∨ (s1.engine x).st = esEXCEPTION)) →
    Does (.engineRestart p) s fun t => t.lastReply = some [0, 0] ∧
      (∀ x ∈ masked pl.val (u32 q.payload 4), ((t.engine x).st = esRUNNING ∧ (t.engine x).pc = (s1.engine x).entry ∧
        (t.engine x).g = [] ∧ (t.engine x).dmem = dataImage (s1.kernel ((s1.engine x).key - 1)) ∧
        t.reg (R.ENG_EXR_W0 x) = 0))) ∧
  (∀ (p q : Packet) (pl : Fin 32) (i : Byte) (s s1 : State), Admits 0x53 p s q s1 → q.payload = [1, i, 0, 0] →
    q.noReply = false → s1.slotPlot q.parcel i.toNat = some pl.val →
    Does (.engineStat p) s fun t => t.lastReply = some [0, 0] ∧
      t.lastBody = some (unitBody [.ok] (wordBytes (s1.reg (R.ENG_PLSTAT pl.val)) ++ wordBytes (s1.reg (R.ENG_PLFLT pl.val)) ++
        wordBytes (s1.reg (R.ENG_PLRUN pl.val)) ++ wordBytes (s1.reg (R.ENG_PLEXC pl.val)) ++ (engines pl.val).flatMap fun x =>
          (List.range 4).flatMap fun w => wordBytes (s1.reg (R.ENG_EXR_W0 x + 4 * w)))))

/-- A write of ENG_PLCTLp resets the plot (engines to IDLE or OFF, memories cleared, descriptors ended), halts its running engines, resumes its halted ones or clears its error counters, when no safety kernel is under it with an output on. The plot's clock is the slower of CLKREQ and the thermal step. A copying move takes the engines and the memory to the destination, and at its end remaps the slot and lets the engines continue; a parallel move starts the destination with its outputs suppressed and hands over. A plot shut for temperature is restored once the shutdown has ended. -/
def Obligations.PlotCommandsTakeEffect : Prop :=
  (∀ (p : Fin 32) (v : Word) (s : State), accessCheck s (R.ENG_PLCTL p.val) (w32 (setBit v.toNat 31 true)) = none →
    s.energised = false → s.arr.loads = [] →
    Does (.plotReset p v) s fun t => (t.plot p.val).mem = [] ∧ (t.plot p.val).dma = [] ∧
      (∀ x ∈ engines p.val, (t.engine x = { st := if s.quarterOn x = true then esIDLE else esOFF })) ∧
      t.lastOut = some { ch := .status, args := [0, 0, 0] }) ∧
  (∀ (p : Fin 32) (v : Word) (s : State), accessCheck s (R.ENG_PLCTL p.val) (w32 (setBit v.toNat 30 true)) = none →
    s.energised = false → wf v (R.ENG_PLCTL_RST p.val) = 0 → wf v (R.ENG_PLCTL_RESUME p.val) = 0 →
    Does (.plotHalt p v) s fun t => (∀ x ∈ engines p.val, (t.engine x).st =
        if (s.engine x).st = esRUNNING then esHALTED else (s.engine x).st) ∧
      t.lastOut = some { ch := .status, args := [0, 0, 0] }) ∧
  (∀ (p : Fin 32) (v : Word) (s : State), accessCheck s (R.ENG_PLCTL p.val) (w32 (setBit v.toNat 29 true)) = none →
    wf v (R.ENG_PLCTL_RST p.val) = 0 → wf v (R.ENG_PLCTL_HALT p.val) = 0 →
    (∀ x ∈ engines p.val, (s.engine x).dmaExc = none) →
    Does (.plotResume p v) s fun t => (∀ x ∈ engines p.val, (t.engine x).st =
        if (s.engine x).st = esHALTED then esRUNNING else (s.engine x).st) ∧
      t.fg (R.ENG_PLCTL_CLKREQ p.val) = wf v (R.ENG_PLCTL_CLKREQ p.val) ∧
      t.lastOut = some { ch := .status, args := [0, 0, 0] }) ∧
  (∀ (p : Fin 32) (v : Word) (s : State), accessCheck s (R.ENG_PLCTL p.val) (w32 (setBit v.toNat 28 true)) = none →
    wf v (R.ENG_PLCTL_RST p.val) = 0 → wf v (R.ENG_PLCTL_HALT p.val) = 0 → wf v (R.ENG_PLCTL_RESUME p.val) = 0 →
    Does (.plotEccClear p v) s fun t => t.reg (R.ENG_PLECC p.val) = 0 ∧ SameRegs [R.ENG_PLECC p.val, R.ENG_PLCTL p.val] s t ∧
      t.lastOut = some { ch := .status, args := [0, 0, 0] }) ∧
  (∀ (p : Fin 32) (s : State), p.val < s.plotsFit →
    Does (.plotClockStep p) s fun t =>
      t.fg (R.ENG_PLSTAT_CLK p.val) = max (s.fg (R.ENG_PLCTL_CLKREQ p.val)) (s.fg R.THM_STEP_PLOT) ∧
      t.fg (R.ENG_PLSTAT_THROT p.val) = (if s.fg (R.ENG_PLCTL_CLKREQ p.val) < s.fg R.THM_STEP_PLOT then 1 else 0) ∧
      SameRegs [R.ENG_PLSTAT p.val] s t) ∧
  (∀ (m : Move) (s : State), s.arr.move = some m → m.parallel = false → m.phase = 0 → m.src ≠ m.dst →
    (s.plot m.src).dma = [] →
    Does .parcelMoveFreeze s fun t => t.arr.move = some { m with phase := 1 } ∧ (t.plot m.dst).mem = (s.plot m.src).mem ∧
      (∀ e ∈ List.range 32, (t.engine (32 * m.dst + e) = if (s.engine (32 * m.src + e)).st = esRUNNING then
          { s.engine (32 * m.src + e) with saved := (s.engine (32 * m.src + e)).stall, stall := 7 }
        else s.engine (32 * m.src + e)))) ∧
  (∀ (m : Move) (s : State), s.arr.move = some m → m.parallel = false → m.phase = 1 → m.src ≠ m.dst →
    (s.plot m.src).dma = [] → s.arr.loads = [] →
    Does .parcelMoveComplete s fun t => t.arr.move = none ∧ t.slotPlot m.q m.slot = some m.dst ∧
      (∀ x ∈ engines m.dst, ((t.engine x).stall = (if (s.engine x).stall = 7 then (s.engine x).saved else (s.engine x).stall) ∧
        (t.engine x).st = (s.engine x).st ∧ (t.engine x).pc = (s.engine x).pc ∧ (t.engine x).g = (s.engine x).g))) ∧
  (∀ (m : Move) (s : State), s.arr.move = some m → m.parallel = true → m.phase = 0 → m.src ≠ m.dst →
    Does .parallelMoveStart s fun t => t.arr.move.isSome = true ∧
      (∀ e ∈ List.range 32, ((s.engine (32 * m.src + e)).key ≠ 0 → (t.engine (32 * m.dst + e)).st = esRUNNING ∧
        (t.engine (32 * m.dst + e)).mute = true ∧ (t.engine (32 * m.dst + e)).key = (s.engine (32 * m.src + e)).key))) ∧
  (∀ (m : Move) (s : State), s.arr.move = some m → m.parallel = true → m.phase = 1 → m.src ≠ m.dst →
    (s.plot m.src).dma = [] → s.arr.loads = [] →
    Does .parallelMoveHandover s fun t => t.arr.move = none ∧ t.slotPlot m.q m.slot = some m.dst ∧
      (∀ x ∈ engines m.dst, ((t.engine x).mute = false ∧ (t.engine x).st = (s.engine x).st ∧ (t.engine x).pc = (s.engine x).pc ∧
        (t.engine x).g = (s.engine x).g)) ∧
      (∀ e ∈ List.range 32, ((t.engine (32 * m.src + e)).st ≠ esRUNNING))) ∧
  (∀ (p : Fin 32) (s : State), (s.plot p.val).shut = true → s.fb R.THM_STAT_JSHUT = false →
    Does (.plotThermalRestore p) s fun t => (t.plot p.val).shut = false)

/-- A link in service that fails joins the failed links and raises source 0x29; no other register changes but the failure words, the fabric's status word and the fault word of SYAO. A good retest of the link, 10 ms after the one before, counts, the tenth returns the link, a bad one starts again. A STREAM_SUB that passes every check of R285 is answered with its effect epoch, at least 2,000 ns ahead and a multiple of 1,024, and its words wait; at that epoch the entry's two words and its EN bit hold them. STREAM_STAT returns the words and counts of an entry. The two clear writes zero their counters and nothing else. -/
def Obligations.FabricCommandsTakeEffect : Prop :=
  (∀ (l : Fin 52) (s : State), s.linkBad l.val = false →
    Does (.meshLinkFailed l) s fun t => t.linkBad l.val = true ∧ Raised 0x29 islSYAO t ∧
      (∀ k ∈ List.range 52, (k ≠ l.val → t.linkBad k = s.linkBad k)) ∧
      SameRegs [(R.FAB_LFAIL0_LINK).adr, (R.FAB_LFAIL1_LINK).adr, (R.FAB_STAT_NLFAIL).adr, R.FLT_ISL islSYAO] s t) ∧
  (∀ (l : Fin 52) (s : State), s.linkBad l.val = true →
    s.due (Smap.get (fun _ => 0) s.fab.retestAt l.val) 10000000 = true → Smap.get (fun _ => 0) s.fab.retests l.val < 9 →
    Does (.meshLinkRetest l true) s fun t =>
      Smap.get (fun _ => 0) t.fab.retests l.val = Smap.get (fun _ => 0) s.fab.retests l.val + 1 ∧ t = { s with fab := t.fab }) ∧
  (∀ (l : Fin 52) (s : State), s.linkBad l.val = true →
    s.due (Smap.get (fun _ => 0) s.fab.retestAt l.val) 10000000 = true → 9 ≤ Smap.get (fun _ => 0) s.fab.retests l.val →
    Does (.meshLinkRetest l true) s fun t => t.linkBad l.val = false ∧ Smap.get (fun _ => 0) t.fab.retests l.val = 0 ∧
      (∀ k ∈ List.range 52, (k ≠ l.val → t.linkBad k = s.linkBad k))) ∧
  (∀ (l : Fin 52) (s : State), s.linkBad l.val = true →
    s.due (Smap.get (fun _ => 0) s.fab.retestAt l.val) 10000000 = true →
    Does (.meshLinkRetest l false) s fun t => Smap.get (fun _ => 0) t.fab.retests l.val = 0 ∧ t = { s with fab := t.fab }) ∧
  (∀ (p q : Packet) (e : SubEnt) (s s1 : State), Admits 0x54 p s q s1 → subEnts q.payload = [e] → q.payload.length = 16 →
    leAt q.payload 1 3 = 0 → q.noReply = false → subFormOk s1 q.parcel [e] e = true → e.act = 0 → subAbsent s1 e = false →
    subMay s1 q.parcel e.w0 e.w1 = true → boundTo s1 q.parcel e.tab e.idx = [] →
    declared s1 q.parcel [e] 1 ≤ s1.fg (R.FAB_PRES_MRES q.parcel) * 100000000 →
    declared s1 q.parcel [e] 2 ≤ s1.fg (R.FAB_PRES_BRES q.parcel) * 100000000 → (q.parcel ≠ 0 ∨ classS s1 [e] ≤ 160) →
    sourceReached s1 q.parcel e = true →
    Does (.streamSub p) s fun t => t.lastReply = some [0, 0] ∧ t.lastBody = some (leBytes 8 (firstMultiple 1024 2000 s1.now)) ∧
      t.fab.pend = s1.fab.pend ++ [(firstMultiple 1024 2000 s1.now, q.parcel, e.tab, e.idx, w32 e.w0, w32 e.w1)]) ∧
  (∀ (e : Nat) (q : Fin 8) (i : Fin 32) (w0 w1 : Word) (s : State), s.fab.pend = [(e, q.val, 0, i.val, w0, w1)] →
    Does .streamSubEffect s fun t => t.reg (R.FAB_SUB q.val i.val 0) = w0 ∧ t.reg (R.FAB_SUB q.val i.val 1) = w1 ∧
      t.tb (R.FAB_PSUB_EN q.val) i.val = entOn w0.toNat ∧ t.fab.pend = [] ∧ t.now = max s.now (50 * e) ∧
      SameRegs [R.FAB_SUB q.val i.val 0, R.FAB_SUB q.val i.val 1, (R.FAB_PSUB_EN q.val).adr] s t) ∧
  (∀ (e : Nat) (q : Fin 8) (i : Fin 32) (w0 w1 : Word) (s : State), s.fab.pend = [(e, q.val, 1, i.val, w0, w1)] →
    Does .streamSubEffect s fun t => t.reg (R.FAB_PUB q.val i.val 0) = w0 ∧ t.reg (R.FAB_PUB q.val i.val 1) = w1 ∧
      t.tb (R.FAB_PPUB_EN q.val) i.val = entOn w0.toNat ∧ t.fab.pend = [] ∧
      SameRegs [R.FAB_PUB q.val i.val 0, R.FAB_PUB q.val i.val 1, (R.FAB_PPUB_EN q.val).adr] s t) ∧
  (∀ (p q : Packet) (i : Byte) (s s1 : State), Admits 0x55 p s q s1 → q.payload = [1, 0, 0, 0, 0, i, 0, 0] → i.toNat ≤ 31 →
    q.noReply = false →
    Does (.streamStat p) s fun t => t.lastReply = some [0, 0] ∧ t.lastBody = some (unitBody [.ok]
      (leBytes 4 (s1.subW0 q.parcel i.toNat) ++ leBytes 4 (s1.subW1 q.parcel i.toNat) ++
       leBytes 4 (Smap.get (fun _ => 0) s1.fab.got (32 * q.parcel + i.toNat)) ++
       leBytes 4 (Smap.get (fun _ => 0) s1.fab.lost (32 * q.parcel + i.toNat)) ++ leBytes 4 (entryQmax s1 q.parcel i.toNat)))) ∧
  (∀ (v : Word) (s : State), accessCheck s R.FAB_SCLOSS (w32 (setBit v.toNat 31 true)) = none →
    Does (.fabSclossClear v) s fun t => t.fg R.FAB_SCLOSS_COUNT = 0 ∧ t.fg R.FAB_SCLOSS_PLOT = s.fg R.FAB_SCLOSS_PLOT ∧
      t.lastOut = some { ch := .status, args := [0, 0, 0] } ∧ SameRegs [R.FAB_SCLOSS] s t) ∧
  (∀ (q : Fin 8) (v : Word) (s : State), accessCheck s (R.FAB_PDEC q.val) (w32 (setBit v.toNat 15 true)) = none →
    Does (.fabPdecClear q v) s fun t => t.fg (R.FAB_PDEC_DROPS q.val) = 0 ∧
      t.fg (R.FAB_PDEC_QMAX q.val) = s.fg (R.FAB_PDEC_QMAX q.val) ∧
      t.lastOut = some { ch := .status, args := [0, 0, 0] } ∧ SameRegs [R.FAB_PDEC q.val] s t)

/-- A deed without a key or holder item that passes every check before and after the fourth is judged by its two signatures: when they hold, the station is BUSY with it, CAD_LASTRES says OK and the new record goes to the journal; when not, it is turned away with AUTH_FAIL. Its commit stores the record, counts the deed, names the effect epoch and answers; at that epoch the rows of every parcel hold the new record. A scrub that has taken its time leaves its memory reading zero. HOLDER_ENROL writes the founding page when its signature holds. CADASTRE_READ and AUTH_SESSION return the rows. The restore puts the stored record in force and ends release step 9. (How a signature is verified is uninterpreted.) -/
def Obligations.CadastreCommandsTakeEffect : Prop :=
  (∀ (p q : Packet) (l : List Item) (w : Work) (s s1 : State), Admits 0x60 p s q s1 → q.noReply = false →
    s1.cad.deed = none → deedForm s1 q.payload = some l → (l.all fun i => i.type != 7 && i.type != 9) = true →
    applyItems s1 (deedNo q.payload) l = w → w.err = none → w.lock = none →
    ((given s1.cad.now w.rec_).any fun u => s1.cad.now.scrub.contains u) = false → deedNo q.payload = s1.cnt 0 + 1 →
    easesOk w.rec_ = true → s1.capFit = true → capacityOk s1 w.rec_ = true → sumOf w.rec_ (fun c => c.mres + c.bres) ≤ 1500 →
    sumOf w.rec_ (fun c => c.dres) ≤ 720 → sumOf w.rec_ (fun c => c.tres) ≤ 120 →
    s1.energised = false →
    Does (.deedApply p) s fun t => (if deedSigned s1 q.payload l = true then
        t.fb R.CAD_STAT_BUSY = true ∧ t.reg R.CAD_LASTRES = 0xFF00 ∧
        (t.cad.deed.map fun d => (d.new.par, d.new.ease, d.page0, d.epoch)) = some (w.rec_.par, w.rec_.ease, w.page, none) ∧
        (t.nv.jobs.getLast?).map (fun j => (j.kind, j.cad.par, j.cad.ease)) = some (3, w.rec_.par, w.rec_.ease)
      else t.lastReply = some [0x03, rTAG] ∧ t.reg R.CAD_LASTRES = 0x0306FF00 ∧ t.cad = s1.cad)) ∧
  (∀ (j : NvJob) (d : Deed) (s : State), s.journalHead = some j → j.kind = 3 → s.cad.deed = some d → d.epoch = none →
    d.req.noReply = false →
    Does .deedCommitComplete s fun t => t.lastReply = some [0, 0] ∧ t.cnt 0 = min (2 ^ 32 - 1) (s.cnt 0 + 1) ∧
      (t.cad.deed.map fun x => (x.new, x.epoch)) = some (d.new, some (firstMultiple 1024 2000 (moveBound s))) ∧
      ((t.nv.cadA.map fun x => (x.par, x.ease)) = some (j.cad.par, j.cad.ease) ∨
       (t.nv.cadB.map fun x => (x.par, x.ease)) = some (j.cad.par, j.cad.ease))) ∧
  (∀ (d : Deed) (e : Nat) (s : State), s.cad.deed = some d → d.epoch = some e →
    Does .deedEffect s fun t => t.cad.now = d.new ∧ t.cad.deed = none ∧ t.fg R.CAD_STAT_BUSY = 0 ∧
      (∀ q ∈ List.range 8, (t.fg (R.CAD_PSTAT_FORMED q) = (if (d.new.parcel q).formed = true then 1 else 0) ∧
        (q ≠ 0 → t.reg (R.CAD_PPERM0 q) = w32 (d.new.parcel q).chan ∧ t.reg (R.CAD_PFLAG q) = w32 (d.new.parcel q).grant) ∧
        t.reg (R.CAD_PTRV q) = w32 (d.new.parcel q).tres))) ∧
  (∀ s : State, s.cad.now.scrub ≠ [] → s.due s.cad.scrubAt (scrubTime s.cad.now.scrub) = true →
    Does .scrubComplete s fun t => t.cad.now.scrub = [] ∧ t.fg R.CAD_STAT_SCRUB = 0 ∧
      (∀ a, Smap.get zeroByte t.cap.dram a = if s.cad.now.scrub.contains (0, a / 2 ^ 20) = true then 0 else Smap.get zeroByte s.cap.dram a) ∧
      (∀ a, Smap.get zeroByte t.nv.bytes a = if s.cad.now.scrub.contains (1, a / 128) = true then 0 else Smap.get zeroByte s.nv.bytes a)) ∧
  (∀ (p q : Packet) (s s1 : State), Admits 0x62 p s q s1 → q.payload.length = 132 → q.noReply = false → q.via = .side →
    s1.founded = false → s1.foundLocked = false → u8 q.payload 0 ≤ 3 → u8 (pendingPage0 s1) (8 + 17 * u8 q.payload 0) = 0 →
    1 ≤ u8 q.payload 1 → u8 q.payload 1 ≤ 2 → u16 q.payload 2 = 0 →
    Does (.holderEnrol p) s fun t => (if Config.ecdsaVerify ((q.payload.drop 4).take 64)
          (Config.sha256 (leBytes 8 s1.serial ++ leBytes 1 (u8 q.payload 0) ++ leBytes 1 (u8 q.payload 1) ++
            (q.payload.drop 4).take 64)).toList ((q.payload.drop 68).take 64) = true then
        (t.nv.jobs.getLast?).map (fun j => (j.kind, j.pages)) = some (6, [(0, pageHolder (pendingPage0 s1) (u8 q.payload 0)
          (u8 q.payload 1) ((Config.sha256 ((q.payload.drop 4).take 64)).toList.take 16))])
      else t.lastReply = some [0x03, rTAG] ∧ t.nv = s1.nv)) ∧
  (∀ (p q : Packet) (m : Byte) (s s1 : State), Admits 0x61 p s q s1 → q.payload = [m, 0, 0, 0] → m ≠ 0 → q.parcel = 0 →
    q.noReply = false →
    Does (.cadastreRead p) s fun t => t.lastReply = some [0, 0] ∧
      t.lastBody = some (unitBody (((List.range 8).filter fun k => m.toNat.testBit k).map fun _ => Stat.ok)
        (((List.range 8).filter fun k => m.toNat.testBit k).flatMap fun k =>
          ((List.range 10).flatMap fun w => wordBytes (cadRead s1 (R.CAD_PSTAT k + 4 * w))) ++ wordBytes (s1.reg (R.FAB_PRES k))))) ∧
  (∀ (p q : Packet) (k : Byte) (s s1 : State), Admits 0x63 p s q s1 → q.payload = [k, 0, 0, 0] → k.toNat ≤ 7 →
    q.noReply = false →
    Does (.authSession p) s fun t => t.lastReply = some [0, 0] ∧
      t.lastBody = some (wordBytes (s1.reg (R.CAD_PSESS k.toNat)) ++ wordBytes (s1.reg (R.CAD_PCNT k.toNat)))) ∧
  (∀ (q : Fin 8) (v : Word) (s : State), accessCheck s (R.CAD_PAUTHF q.val) (w32 (setBit v.toNat 31 true)) = none →
    Does (.cadPauthfClear q v) s fun t => t.fg (R.CAD_PAUTHF_COUNT q.val) = 0 ∧ SameRegs [R.CAD_PAUTHF q.val] s t ∧
      t.lastOut = some { ch := .status, args := [0, 0, 0] }) ∧
  (∀ s : State, s.cpRuns = true → 7 ≤ s.fg R.RST_STAT_STEP → s.fb R.CAD_STAT_RESTORED = false →
    (s.addressed = true ∨ s.due s.rst.stepAt 2000000000 = true) →
    Does .cadastreRestore s fun t => t.fb R.CAD_STAT_RESTORED = true ∧ t.fg R.RST_STAT_STEP = 9 ∧
      t.cad.now = s.cadRec.getD {})

/-- Lane lock is recorded; its loss in RUN counts 4 errors and starts hunting, and 10 ms of hunting with a lane without lock end in quarantine: the port's frames are discarded, the quarantine is counted and source 0x69 is raised. An LSTAT block of the far end is recorded, and one with QUAR starts quarantine; after the last LSTAT training starts with COUNT at 0, and a port whose MODE is off stops instead. Good TRAIN blocks in a row count, and a trained port enters RUN at the trial rate. A lane that has not passed in 20 ms sends STEP, and after it the next lower rate is tried; after 1 s TRFAIL and source 0x2E report. The error count leaks by 1. A retrain write starts quarantine, a clear write zeroes the port's counters, and EN starts training or stops the port. -/
def Obligations.PortLinkCommandsTakeEffect : Prop :=
  (∀ (p : Fin 4) (l : Fin 2) (hdrs : List (BitVec 2)) (last : BitVec 58) (s : State), s.portState p.val ≠ poOFF →
    s.tb (R.TRV_PCTL_LANEEN p.val) l.val = true → s.tb (R.TRV_PSTAT_LOCK p.val) l.val = false → 64 ≤ hdrs.length →
    (hdrs.drop (hdrs.length - 64)).all headerValid = true → s.portMode p.val ≠ 2 →
    Does (.laneBlockLock p l hdrs last) s fun t => t.tb (R.TRV_PSTAT_LOCK p.val) l.val = true ∧ t.portState p.val = s.portState p.val ∧
      Smap.get (fun _ => 0) (t.port p.val).desc l.val = last.toNat ∧ SameRegs [R.TRV_PSTAT p.val] s t) ∧
  (∀ (p : Fin 4) (hdrs : List (BitVec 2)) (last : BitVec 58) (s : State), s.portState p.val ≠ poOFF →
    s.tb (R.TRV_PCTL_LANEEN p.val) 0 = true → s.tb (R.TRV_PSTAT_LOCK p.val) 0 = false → 64 ≤ hdrs.length →
    (hdrs.drop (hdrs.length - 64)).all headerValid = true → s.portMode p.val = 2 →
    Does (.laneBlockLock p 0 hdrs last) s fun t => t.portState p.val = poRUN ∧ t.tb R.TRV_STAT_RUN p.val = true ∧
      t.fg (R.TRV_PSTAT_RATE p.val) = 0 ∧ t.fg (R.TRV_PSTAT_RXL p.val) = 1 ∧ t.fg (R.TRV_PSTAT_TXL p.val) = 1) ∧
  (∀ (p : Fin 4) (l : Fin 2) (hdrs : List (BitVec 2)) (s : State), s.portState p.val = poRUN → s.tb (R.TRV_PSTAT_LOCK p.val) l.val = true →
    s.tb (R.TRV_PSTAT_RXL p.val) l.val = true → s.fg (R.TRV_PERR_COUNT p.val) + 4 < s.fg (R.TRV_PERR_LIMIT p.val) →
    (s.port p.val).rx = none → hdrs.length ≤ 64 → (hdrs = [] ∨ 16 ≤ hdrs.countP fun h => !headerValid h) →
    Does (.laneLockLoss p l hdrs) s fun t => t.portState p.val = poHUNT ∧ t.tb (R.TRV_PSTAT_LOCK p.val) l.val = false ∧
      t.fg (R.TRV_PERR_COUNT p.val) = s.fg (R.TRV_PERR_COUNT p.val) + 4 ∧ (t.port p.val).huntAt = s.lt ∧
      t.fg (R.TRV_PLANE_LOCKLOSS p.val l.val) = min 255 (s.fg (R.TRV_PLANE_LOCKLOSS p.val l.val) + 1)) ∧
  (∀ (p : Fin 4) (s : State), s.portState p.val = poHUNT → s.due (s.port p.val).huntAt 10000000 = true →
    s.fg (R.TRV_PSTAT_LOCK p.val) &&& s.fg (R.TRV_PSTAT_RXL p.val) ≠ s.fg (R.TRV_PSTAT_RXL p.val) →
    Does (.portHuntTimeout p) s fun t => t.portState p.val = poQUAR ∧ (t.port p.val).tx = [] ∧
      t.fg (R.TRV_PQUAR_QTOTAL p.val) = min 65535 (s.fg (R.TRV_PQUAR_QTOTAL p.val) + 1) ∧ Raised 0x69 (islPTX p.val) t) ∧
  (∀ (p : Fin 4) (s : State), s.due (s.port p.val).leakAt (1000000 * s.fg (R.TRV_PERR_LEAK p.val)) = true →
    Does (.errorCountLeak p) s fun t => t.fg (R.TRV_PERR_COUNT p.val) = s.fg (R.TRV_PERR_COUNT p.val) - 1 ∧
      (t.port p.val).leakAt = s.lt ∧ SameRegs [R.TRV_PERR p.val] s t) ∧
  (∀ (p : Fin 4) (b : List Byte) (s : State), blockCrcOk b = true → s.portState p.val ≠ poOFF → (u8 b 0).testBit 7 = false →
    Does (.lstatBlock p b) s fun t => t.fg (R.TRV_PSTAT_FAR p.val) = 1 ∧ t.portState p.val = s.portState p.val ∧
      SameRegs [R.TRV_PSTAT p.val] s t) ∧
  (∀ (p : Fin 4) (b : List Byte) (s : State), blockCrcOk b = true → s.portState p.val ≠ poOFF → s.portState p.val ≠ poQUAR →
    (u8 b 0).testBit 7 = true →
    Does (.lstatBlock p b) s fun t => t.portState p.val = poQUAR ∧ (t.port p.val).tx = [] ∧ Raised 0x69 (islPTX p.val) t) ∧
  (∀ (p : Fin 4) (l : Fin 2) (n : Nat) (b : List Byte) (s : State), s.portState p.val = poTRAIN →
    s.tb (R.TRV_PCTL_LANEEN p.val) l.val = true → s.tb (R.TRV_PSTAT_LOCK p.val) l.val = true → n ≠ 0 → blockCrcOk b = true →
    (u8 b 0).testBit 4 = (l == 1) → (Smap.get (fun _ => 65536) (s.port p.val).tcnt l.val + n) % 65536 = u16 b 1 →
    Smap.get (fun _ => 65536) (s.port p.val).tcnt l.val ≠ 65536 →
    Does (.trainBlock p l n b) s fun t => Smap.get (fun _ => 0) (t.port p.val).good l.val =
        min 65536 (Smap.get (fun _ => 0) (s.port p.val).good l.val + n) ∧ t.fg (R.TRV_PSTAT_FAR p.val) = 1 ∧
      (t.port p.val).farRx = u8 b 3 % 4) ∧
  (∀ (p : Fin 4) (l : Fin 2) (n : Nat) (b : List Byte) (s : State), s.portState p.val = poTRAIN →
    s.tb (R.TRV_PCTL_LANEEN p.val) l.val = true → s.tb (R.TRV_PSTAT_LOCK p.val) l.val = true → n ≠ 0 → blockCrcOk b = true →
    (u8 b 0).testBit 4 = (l == 1) → (s.port p.val).rxok ≠ 0 → u8 b 3 % 4 ≠ 0 → (u8 b 0).testBit 7 = true →
    16 ≤ (s.port p.val).ready + n → (s.port p.val).trial ≤ 2 →
    Does (.trainBlock p l n b) s fun t => t.portState p.val = poRUN ∧ t.fg (R.TRV_PSTAT_RATE p.val) = (s.port p.val).trial ∧
      t.tb R.TRV_STAT_RUN p.val = true) ∧
  (∀ (p : Fin 4) (s : State), s.portState p.val = poQUAR → s.fg (R.TRV_PCTL_MODE p.val) ≠ 3 →
    Does (.portTrainingStart p) s fun t => t.portState p.val = poTRAIN ∧ t.fg (R.TRV_PERR_COUNT p.val) = 0 ∧
      t.fg (R.TRV_PSTAT_LOCK p.val) = 0 ∧ t.fg (R.TRV_PSTAT_TRFAIL p.val) = 0 ∧ (t.port p.val).trainAt = s.lt ∧
      SameRegs [R.TRV_PSTAT p.val, R.TRV_PERR p.val] s t) ∧
  (∀ (p : Fin 4) (s : State), s.portState p.val = poQUAR → s.fg (R.TRV_PCTL_MODE p.val) = 3 →
    Does (.portTrainingStart p) s fun t => t.portState p.val = poOFF ∧ (t.port p.val).tx = []) ∧
  (∀ (p : Fin 4) (e : Nat × Nat) (s : State), s.portState p.val = poTRAIN → (s.port p.val).trial < 2 →
    e ∈ (s.port p.val).lockAt → (s.port p.val).rxok.testBit e.1 = false → s.due e.2 20000000 = true →
    Does (.trainingStepDown p) s fun t => t.port p.val = { s.port p.val with step := true } ∧ t = { s with trv := t.trv }) ∧
  (∀ (p : Fin 4) (s : State), s.portState p.val = poTRAIN → (s.port p.val).step = true → (s.port p.val).trial < 2 →
    Does (.trainingRateStep p) s fun t => (t.port p.val).trial = (s.port p.val).trial + 1 ∧ (t.port p.val).step = false ∧
      t.fg (R.TRV_PSTAT_LOCK p.val) = 0 ∧ SameRegs [R.TRV_PSTAT p.val] s t) ∧
  (∀ (p : Fin 4) (s : State), s.portState p.val = poTRAIN → s.fb (R.TRV_PSTAT_TRFAIL p.val) = false →
    s.due (s.port p.val).trainAt 1000000000 = true →
    Does (.trainingTimeout p) s fun t => t.fg (R.TRV_PSTAT_TRFAIL p.val) = 1 ∧ t.portState p.val = poTRAIN ∧
      Raised 0x2E (islPTX p.val) t) ∧
  (∀ (p : Fin 4) (v : Word) (s : State), accessCheck s (R.TRV_PCTL p.val) (w32 (setBit v.toNat 31 true)) = none →
    wf v (R.TRV_PCTL_RATEMAX p.val) ≠ 3 → wf v (R.TRV_PCTL_LANEEN p.val) ≠ 0 → wf v (R.TRV_PCTL_MODE p.val) ≤ 1 →
    wf v (R.TRV_PCTL_EN p.val) = 1 → s.fb (R.TRV_PCTL_EN p.val) = true → s.portState p.val ≠ poOFF →
    Does (.portRetrain p v) s fun t => t.portState p.val = poQUAR ∧ (t.port p.val).tx = [] ∧ Raised 0x69 (islPTX p.val) t ∧
      t.lastOut = some { ch := .status, args := [0, 0, 0] }) ∧
  (∀ (p : Fin 4) (v : Word) (s : State), accessCheck s (R.TRV_PCTL p.val) (w32 (setBit v.toNat 30 true)) = none →
    wf v (R.TRV_PCTL_RATEMAX p.val) ≠ 3 → wf v (R.TRV_PCTL_LANEEN p.val) ≠ 0 → wf v (R.TRV_PCTL_MODE p.val) ≠ 3 →
    wf v (R.TRV_PCTL_RETRAIN p.val) = 0 → wf v (R.TRV_PCTL_EN p.val) = 1 → s.fb (R.TRV_PCTL_EN p.val) = true →
    s.portState p.val ≠ poOFF →
    Does (.portCounterClear p v) s fun t => t.reg (R.TRV_PFRM p.val) = 0 ∧ t.reg (R.TRV_PLOC p.val) = 0 ∧
      t.reg (R.TRV_PDUP p.val) = 0 ∧ t.reg (R.TRV_PLANE p.val 0) = 0 ∧ t.reg (R.TRV_PLANE p.val 1) = 0 ∧
      t.reg (R.TRV_PQUAR p.val) = 0 ∧ t.portState p.val = s.portState p.val ∧
      t.lastOut = some { ch := .status, args := [0, 0, 0] }) ∧
  (∀ (p : Fin 4) (v : Word) (s : State), accessCheck s (R.TRV_PCTL p.val) v = none → wf v (R.TRV_PCTL_RATEMAX p.val) ≠ 3 →
    wf v (R.TRV_PCTL_LANEEN p.val) ≠ 0 → wf v (R.TRV_PCTL_MODE p.val) ≠ 3 → wf v (R.TRV_PCTL_RETRAIN p.val) = 0 →
    wf v (R.TRV_PCTL_EN p.val) = 1 → s.fb (R.TRV_PCTL_EN p.val) = false →
    Does (.portEnable p v) s fun t => t.fg (R.TRV_PCTL_EN p.val) = 1 ∧ t.portState p.val = poTRAIN ∧
      (t.port p.val).trial = wf v (R.TRV_PCTL_RATEMAX p.val) ∧ t.lastOut = some { ch := .status, args := [0, 0, 0] }) ∧
  (∀ (p : Fin 4) (v : Word) (s : State), accessCheck s (R.TRV_PCTL p.val) v = none → wf v (R.TRV_PCTL_RATEMAX p.val) ≠ 3 →
    wf v (R.TRV_PCTL_LANEEN p.val) ≠ 0 → wf v (R.TRV_PCTL_MODE p.val) ≠ 2 → wf v (R.TRV_PCTL_EN p.val) = 0 →
    s.portState p.val ≠ poOFF →
    Does (.portEnable p v) s fun t => t.fg (R.TRV_PCTL_EN p.val) = 0 ∧ t.portState p.val = poOFF ∧ (t.port p.val).tx = [] ∧
      t.tb R.TRV_STAT_RUN p.val = false ∧ t.lastOut = some { ch := .status, args := [0, 0, 0] })

/-- The 66 bits that the transmitter makes of a block, its two header bits as they are and its eight bytes scrambled, read back as that block at a descrambler in the same state, which then is again in the transmitter's state; after 58 bits the descrambler's state depends on nothing but those bits. And the blocks of a frame, dealt over one lane or two from either one on and sent through scramblers that stand as the receiver's descramblers do, end at the receiver with exactly the frame's link header and body, whatever these are (but for a body of 8n + 7 bytes, log entry 97); up to there nothing has changed but the descramblers. -/
def Obligations.FramesCrossTheLanes : Prop :=
  (∀ (st : Nat) (b : Blk), b.hdr < 4 → b.bytes.length = 8 →
    readWord st (blockWord st b).1 = (b, (blockWord st b).2)) ∧
  (∀ (st st1 : Nat) (l : List Bool), l.length = 58 → (descramble st l).2 = (descramble st1 l).2) ∧
  (∀ (p : Fin 4) (i : Fin 2) (lanes : List Nat) (f : Frame) (s : State), Listens p lanes s → Sendable f → f.abort = false →
    ∃ u : State, exec (.frameReceived p (i == 1) (laneWords lanes i.val (s.port p.val).desc f 0) (laneWords lanes i.val (s.port p.val).desc f 1)) s =
        run (frameDone p.val (linkHeader f) f.body 0) u ∧
      u.port p.val = { s.port p.val with desc := (u.port p.val).desc } ∧ (∀ q, q ≠ p.val → u.port q = s.port q) ∧
      u = { s with trv := { s.trv with ports := u.trv.ports } })

/-- A port in RUN takes a frame whose rank no waiting frame undercuts, sends its header and body, and removes exactly it from its queue; on an Ethernet port nothing but the queue and the output changes, and on another the frame's blocks go scrambled over its lanes in turn (which lane comes first and the scramblers' state, after the idle blocks before the frame, are free values, log entry 97). While the roll-call window is open no frame of class 1 or higher starts. On the sideband STATUS answers its four bytes, READ clocks out bytes of the oldest reply and removes it once it is whole, FLUSH discards every reply, and another command byte answers 0xFF and is counted. -/
def Obligations.TransmitterAndSidebandTakeEffect : Prop :=
  (∀ (p : Fin 4) (i : Nat) (s : State), s.portState p.val = poRUN → nextFrame (s.port p.val).tx = some i →
    (rollWindow s p.val = false ∨ frameRank ((s.port p.val).tx.getD i {}) < 4) → s.portMode p.val = 2 →
    Does (.transmitFrameStart p) s fun t => (t.port p.val).tx = (s.port p.val).tx.eraseIdx i ∧
      (∀ f ∈ (s.port p.val).tx, frameRank ((s.port p.val).tx.getD i {}) ≤ frameRank f) ∧
      t = { s with trv := t.trv, out := s.out ++ [{ ch := .block, args := [p.val, 0x55, linkHeader ((s.port p.val).tx.getD i {}), b2n ((s.port p.val).tx.getD i {}).abort], data := ((s.port p.val).tx.getD i {}).body }] }) ∧
  (∀ (p : Fin 4) (i : Nat) (s : State), s.portState p.val = poRUN → nextFrame (s.port p.val).tx = some i →
    (rollWindow s p.val = false ∨ frameRank ((s.port p.val).tx.getD i {}) < 4) → s.portMode p.val ≠ 2 →
    s.fg (R.TRV_PSTAT_TXL p.val) ≠ 0 →
    Does (.transmitFrameStart p) s fun t => (t.port p.val).tx = (s.port p.val).tx.eraseIdx i ∧
      (∀ f ∈ (s.port p.val).tx, frameRank ((s.port p.val).tx.getD i {}) ≤ frameRank f) ∧
      (∃ x : Nat, t.out = s.out ++ [{ ch := .block, args := [p.val, 0x55, linkHeader ((s.port p.val).tx.getD i {}), b2n ((s.port p.val).tx.getD i {}).abort], data := ((s.port p.val).tx.getD i {}).body },
        { ch := .wire, args := p.val :: (wireOut ([0, 1].filter fun l => s.tb (R.TRV_PSTAT_TXL p.val) l) x
          (frameBlocks ((s.port p.val).tx.getD i {}))).flatMap fun e => [e.1, e.2] }]) ∧
      t = { s with trv := t.trv, out := t.out, freeCtr := t.freeCtr }) ∧
  (∀ (p : Fin 4) (i : Nat) (s : State), nextFrame (s.port p.val).tx = some i → rollWindow s p.val = true →
    4 ≤ frameRank ((s.port p.val).tx.getD i {}) →
    exec (.transmitFrameStart p) s = .next s) ∧
  (∀ s : State, s.sideServed = true → Does .spiStatus s fun t =>
    t = s.emit .side [] [BitVec.ofNat 8 (128 + 64 * b2n s.sideBusy), BitVec.ofNat 8 s.hst.replies.length,
      BitVec.ofNat 8 ((s.hst.replies.headD []).length / 256), BitVec.ofNat 8 (s.hst.replies.headD []).length]) ∧
  (∀ (n : Nat) (r : List Byte) (rs : List (List Byte)) (s : State), s.sideServed = true → s.hst.replies = r :: rs →
    n < r.length → exec (.spiRead n) s = .next (s.emit .side [] (r.take n))) ∧
  (∀ (n : Nat) (r : List Byte) (rs : List (List Byte)) (s : State), s.sideServed = true → s.hst.replies = r :: rs →
    r.length ≤ n → Does (.spiRead n) s fun t => t.lastOut = some { ch := .side, data := r } ∧
      t.hst = { s.hst with replies := rs ++ s.hst.backlog.take 1, backlog := s.hst.backlog.drop 1 }) ∧
  (∀ s : State, s.sideServed = true → exec .spiFlush s = .next { s with hst := { s.hst with replies := [], backlog := [] } }) ∧
  (∀ s : State, s.sideServed = true → exec .spiUnknownCommand s = .next ((s.emit .side [] [0xFF]).inc R.HST_SPICNT_OVF))

/-- The root without an address starts discovery with a survey of its own traverse. A survey of this station that comes back on the port it left by gives its records; one of another station goes on with this station's record appended. After 200 us the survey leaves by the other port. When the results are in, the root assigns its own traverse address 0 for a named cycle. ASSIGN that lists this station's serial waits for its cycle, at which the address, the role bits and the size are taken. A link notice makes the origin owe a survey, a REDISC write of the origin starts one. GROUP_SET, IDENT and the bounds update do what their rows say. -/
def Obligations.DiscoveryCommandsTakeEffect : Prop :=
  (∀ s : State, s.fb R.NET_CTRL_ROOT = true → s.net.yielded = false → s.addressed = false → s.net.phase = 0 →
    7 ≤ s.fg R.RST_STAT_STEP → ringRun s 0 = true →
    Does .discoveryStart s fun t => t.fg R.NET_STAT_DSTATE = 1 ∧ t.net.phase = 1 ∧
      t.net.survey = some { ring := 0, port := 0, at_ := s.lt } ∧ (t.port 0).tx.length = (s.port 0).tx.length + 1 ∧
      SameRegs [R.NET_STAT] s t) ∧
  (∀ (p q : Packet) (k : Nat) (sv : Survey) (rs : List SurvRec) (s s1 : State), Admits 0x01 p s q s1 → q.via = .ring k →
    parseRecs (u8 q.payload 0) (q.payload.drop 4) = some rs → u8 q.payload 1 = k → k ≠ 0xFF → s1.net.survey = some sv →
    q.src % 4096 = s1.ownAddr → sv.ring = k / 2 → sv.port = k → sv.second = false →
    Does (.survey p) s fun t => t.net.survey = some { sv with recs := rs }) ∧
  (∀ (p q : Packet) (k : Nat) (rs : List SurvRec) (s s1 : State), Admits 0x01 p s q s1 → q.via = .ring k → k < 2 →
    parseRecs (u8 q.payload 0) (q.payload.drop 4) = some rs → u8 q.payload 1 ≠ 0xFF → s1.net.survey = none →
    (rs.any fun r => r.serial == s1.serial) = false → ringRun s1 (otherPort k) = true → (s1.port (otherPort k)).tx = [] →
    Does (.survey p) s fun t => t.net = s1.net ∧ t.trv = (forwardFrame (otherPort k)
      { cls := 1, origin := q.src % 4096, own := false, copy := otherPort k % 2 == 1, body := packetBytes { q with
        payload := leBytes 1 (rs.length + 1) ++ (q.payload.drop 1).take 3 ++ (rs ++ [ownRecord s1]).flatMap SurvRec.bytes,
        len := (leBytes 1 (rs.length + 1) ++ (q.payload.drop 1).take 3 ++ (rs ++ [ownRecord s1]).flatMap SurvRec.bytes).length } }
      s1).trv) ∧
  (∀ (sv : Survey) (s : State), s.net.survey = some sv → s.due sv.at_ 200000 = true → sv.second = false →
    ringRun s (otherPort sv.port) = true →
    Does .surveyTimeout s fun t => t.net.survey = some { sv with port := otherPort sv.port, at_ := s.lt, second := true } ∧
      (t.port (otherPort sv.port)).tx.length = (s.port (otherPort sv.port)).tx.length + 1) ∧
  (∀ s : State, s.fb R.NET_CTRL_ROOT = true → s.net.yielded = false → s.net.phase = 3 → s.due s.net.phaseAt 2000000 = true →
    Does .discoveryResultsDone s fun t => t.net.phase = 0 ∧ t.net.results = [] ∧
      (t.net.assigned.getLast?).map (fun a => (a.cycle, a.addr, a.orig)) = some (effectCycle s, 0, true)) ∧
  (∀ (p q : Packet) (k : Nat) (s s1 : State), Admits 0x02 p s q s1 → fromStation q = true → q.payload.length = 24 + 8 * u8 q.payload 9 →
    u8 q.payload 9 ≠ 0 → u8 q.payload 9 ≤ 64 → u8 q.payload 8 ≤ 63 → u16 q.payload 10 = 0 → q.noReply = false →
    ((List.range (u8 q.payload 9)).find? fun i => leAt q.payload (24 + 8 * i) 8 == s1.serial) = some k →
    Does (.assign p) s fun t => t.lastReply = some [0, 0] ∧ t.net.datum = leAt q.payload 12 8 ∧
      t.fg R.NET_BBOUND_BTIE = u16 q.payload 20 ∧ t.fg R.NET_BBOUND_BANY = u16 q.payload 22 ∧
      (t.net.assigned.getLast?).map (fun a => (a.cycle, a.addr, a.n, a.orig)) =
        some (leAt q.payload 0 8, 64 * u8 q.payload 8 + k, u8 q.payload 9, false)) ∧
  (∀ (a : Assigned) (s : State), s.net.assigned = [a] → a.cycle ≤ s.now / 10000 → a.addr < 4096 → a.n ≤ 64 →
    Does .addressEffect s fun t => t.fg R.NET_STAT_ADDR = a.addr ∧ t.fg R.NET_STAT_DSTATE = 2 ∧
      t.fg R.NET_STAT_ORIG = (if a.orig = true then 1 else 0) ∧ t.fg R.NET_STAT_TIEROLE = (if a.tie = true then 1 else 0) ∧
      t.fg R.NET_SIZE_N = a.n ∧ t.net.assigned = [] ∧ t.net.prev = some a.addr ∧
      (s.fg R.RST_STAT_STEP = 7 → t.fg R.RST_STAT_STEP = 8)) ∧
  (∀ (p q : Packet) (k u : Byte) (s s1 : State), Admits 0x03 p s q s1 → fromStation q = true → q.payload = [k, u, 0, 0] → k.toNat ≤ 1 → u.toNat ≤ 1 →
    q.noReply = false → s1.fb R.NET_STAT_ORIG = true → s1.net.survey = none →
    Does (.linkNotice p) s fun t => t.lastReply = some [0, 0] ∧ t.net = { s1.net with again := true }) ∧
  (∀ (v : Word) (s : State), accessCheck s R.NET_CTRL (w32 (setBit v.toNat 31 true)) = none → s.fb R.NET_STAT_ORIG = true →
    ringRun s 0 = true →
    Does (.rediscover v) s fun t => t.net.survey = some { ring := 0, port := 0, at_ := s.lt } ∧
      t.fg R.NET_CTRL_ROOT = wf v R.NET_CTRL_ROOT ∧ t.lastOut = some { ch := .status, args := [0, 0, 0] }) ∧
  (∀ (p q : Packet) (s s1 : State), Admits 0x06 p s q s1 → q.payload.length = 8 →
    (addrMode q.dest = 4 ∨ q.src % 4096 = 0) → q.noReply = false →
    Does (.groupSet p) s fun t => t.lastReply = some [0, 0] ∧ t.net = { s1.net with groups := leAt q.payload 0 8 }) ∧
  (∀ (p q : Packet) (s s1 : State), Admits 0x00 p s q s1 → q.payload = [] → q.noReply = false →
    Does (.ident p) s fun t => t.lastReply = some [0, 0] ∧ t.lastBody = some (leBytes 4 s1.identPart ++
      leBytes 4 (s1.reg R.IDENT_STEP).toNat ++ leBytes 4 s1.identCap ++ leBytes 4 (2 ^ s1.plotsFit - 1) ++ leBytes 8 s1.serial ++
      leBytes 2 (s1.ownAddr + 8192 * s1.fg R.NET_STAT_DSTATE) ++ leBytes 2 0 ++ leBytes 8 s1.net.groups ++
      leBytes 4 (if s1.bank.active = 0 then s1.bank.vera else s1.bank.verb))) ∧
  (∀ (a b h d : Nat) (s : State), s.fb R.NET_CTRL_ROOT = true → s.net.yielded = false → s.due s.net.boundAt 100000000 = true →
    Does (.broadcastBoundUpdate a b h d) s fun t =>
      t.fg R.NET_BBOUND_BTIE = min 65535 (((a + 1) / 2 + (b + 1) / 2) * (h + d)) ∧
      t.fg R.NET_BBOUND_BANY = min 65535 ((2 * ((a + 1) / 2) + (b + 1) / 2) * (h + d)) ∧ SameRegs [R.NET_BBOUND] s t)

/-- A cycle's start renews the budgets and computes this station's entry. A good roll-call copy is merged: its cycle is recorded and RCLOST falls; without one for 1 ms a secondary tie station becomes the origin of a split segment, the datum station the origin of its segment (log entry 184), and any other is orphaned. A missed deadline owes an empty slot and raises 0x32. HEARTBEAT answers a source once a cycle with the datum and the entry. A barrier waits for the commands accepted before it, and a tie station passes its token on. A snapshot is armed for its epoch, captured there, and answered in a later cycle, NOT_COHERENT when its frame was not coherent. Current reference blocks reach the subscribers and, with EN, the ring. A waiting packet leaves when its budget allows it. -/
def Obligations.CycleAndRollCallCommandsTakeEffect : Prop :=
  (∀ (w : Word) (s : State), s.fb R.NET_CREF_EN = true →
    Does (.currentReferenceMessage w) s fun t => t.net.cref = s.net.cref ++ [(s.epoch / refBlock (s.fg R.SMP_REFCFG_D) -
        (s.epoch / refBlock (s.fg R.SMP_REFCFG_D) + 16 - w.toNat / 2 ^ 24 % 16) % 16, s.fb R.SMP_STAT_COH, w)] ∧
      t.lastOut = some { ch := .stream, args := [4, s.ownAddr, s.epoch / refBlock (s.fg R.SMP_REFCFG_D) -
        (s.epoch / refBlock (s.fg R.SMP_REFCFG_D) + 16 - w.toNat / 2 ^ 24 % 16) % 16, b2n (s.fb R.SMP_STAT_COH), w.toNat] }) ∧
  (∀ (k : Nat) (s : State), Does (.cycleStart k) s fun t => t.now = max s.now (10000 * k) ∧ t.cp.c0 = 0 ∧ t.cp.hb = 0 ∧
      t.cp.hbSrc = [] ∧ t.cp.tok1 = min 2068 (s.cp.tok1 + 512) ∧
      t.net.rcOwn = ownEntry (rollMeans (refill (s.until (10000 * k)))) ∧
      (∀ p ∈ List.range s.portsFit, (s.portState p = poRUN → s.portMode p ≠ 2 →
        (t.port p).dlyWait = true ∧ (t.port p).dlySeq = ((s.port p).dlySeq + 1) % 128))) ∧
  (∀ (p : Fin 4) (h : Nat) (body : List Byte) (s : State), ringRun s p.val = true → p.val < 2 → headerGood h = true →
    h % 8 = 2 → rollGood body = true → s.net.rcLast ≤ leAt body 0 8 / 10000 →
    Does (.rollCallFrame p h body) s fun t => t.fg R.NET_RCCYC_CYCLE = leAt body 0 8 / 10000 % 2 ^ 32 ∧
      t.fg R.NET_STAT_RCLOST = 0 ∧ t.net.rcLast = leAt body 0 8 / 10000 ∧ t.net.rcAt = s.lt ∧ t.net.rcMiss = false) ∧
  (∀ s : State, s.addressed = true → s.fb R.NET_STAT_ORIG = false → s.fb R.NET_STAT_RCLOST = false →
    s.due s.net.rcAt 1000000 = true → s.fb R.NET_STAT_TIEROLE = false → s.dtmState ≠ dsDATUM →
    Does .rollCallLost s fun t => t.fg R.NET_STAT_RCLOST = 1 ∧ t.fg R.NET_STAT_DSTATE = 3 ∧ t.pwr.lossAt = some s.lt ∧
      SameRegs [R.NET_STAT] s t) ∧
  (∀ s : State, s.addressed = true → s.fb R.NET_STAT_ORIG = false → s.fb R.NET_STAT_RCLOST = false →
    s.due s.net.rcAt 1000000 = true → s.fb R.NET_STAT_TIEROLE = true →
    Does .rollCallLost s fun t => t.fg R.NET_STAT_ORIG = 1 ∧ t.fg R.NET_STAT_SPLIT = 1 ∧ SameRegs [R.NET_STAT] s t) ∧
  (∀ s : State, s.addressed = true → s.fb R.NET_STAT_ORIG = false → s.fb R.NET_STAT_RCLOST = false →
    s.due s.net.rcAt 1000000 = true → s.fb R.NET_STAT_TIEROLE = false → s.dtmState = dsDATUM →
    Does .rollCallLost s fun t => t.fg R.NET_STAT_ORIG = 1 ∧ t.fg R.NET_STAT_DSTATE = s.fg R.NET_STAT_DSTATE ∧ SameRegs [R.NET_STAT] s t) ∧
  (∀ (p : Fin 4) (s : State), p.val < s.portsFit → Does (.fastPathDeadlineMiss p) s fun t => t.net = { s.net with rcMiss := true } ∧
      Raised 0x32 (islPTX p.val) t) ∧
  (∀ (p q : Packet) (s s1 : State), Admits 0x04 p s q s1 → q.payload = [] → q.noReply = false →
    s1.cp.hbSrc.contains q.src = false →
    Does (.heartbeat p) s fun t => t.lastReply = some [0, 0] ∧
      t.lastBody = some (leBytes 8 s1.now ++ sliceBytes s1.net.rcOwn 0 16) ∧ t.cp.hbSrc = s1.cp.hbSrc ++ [q.src]) ∧
  (∀ (p q : Packet) (s s1 : State), Admits 0x05 p s q s1 → q.payload.length = 4 → addrMode q.dest = 2 →
    Does (.barrier p) s fun t => t.net = { s1.net with barPend := some (u32 q.payload 0), barAt := s1.lt }) ∧
  (∀ (p q : Packet) (s s1 : State), Admits 0x05 p s q s1 → q.payload.length = 4 → addrMode q.dest ≠ 2 →
    s1.fb R.NET_STAT_TIEROLE = true →
    Does (.barrier p) s fun t => t.net.barOwn = some { req := q, b := u32 q.payload 0 } ∧
      t.net.barPend = some (u32 q.payload 0) ∧ t.lastOut = some { ch := .packet, args := [0x05, 0x2000, 0, 0, u32 q.payload 0, 1] }) ∧
  (∀ (b : Nat) (s : State), s.net.barPend = some b →
    ((s.cp.q1 ++ s.cp.q2 ++ s.cp.q3).any fun h => decide (h.at_ ≤ s.net.barAt)) = false →
    exec .barrierReached s = .next { s with net := { s.net with bar := b, barPend := none } }) ∧
  (∀ (b : Nat) (l : List Nat) (s : State), s.fb R.NET_STAT_TIEROLE = true → s.net.barOwn = none → showsBarrier s b = true →
    Does (.barrierCollectToken b l) s fun t => t.net.token = none ∧
      t.lastOut = some { ch := .packet, args := [0x05, 0x2000, 0, 0, b, 1] ++ (l ++ absentHere s) }) ∧
  (∀ (b : Nat) (l : List Nat) (s : State), s.fb R.NET_STAT_TIEROLE = true → showsBarrier s b = false →
    exec (.barrierCollectToken b l) s = .next { s with net := { s.net with token := some (b, l) } }) ∧
  (∀ (p q : Packet) (e : Nat) (s s1 : State), Admits 0x20 p s q s1 → q.payload = [] → namedEpoch s1 q.seqep = some e →
    (enteredHere q = false ∨ leadOk s1 q.seqep = true) →
    Does (.snapshotAt p) s fun t => t.net.snaps = s1.net.snaps ++ [{ req := q, epoch := e }]) ∧
  (∀ (z : Snap) (s : State), z ∈ s.net.snaps → z.got = none → z.epoch = s.rx.epoch →
    Does .snapshotCapture s fun t => ({ z with got := some (s.rx.tag, s.rx.words, s.rx.tag.testBit 63), at_ := s.now } ∈ t.net.snaps) ∧
      t = { s with net := { s.net with snaps := t.net.snaps } }) ∧
  (∀ (z : Snap) (tag : Nat) (ws : List Nat) (c : Bool) (s : State), s.net.snaps = [z] → z.got = some (tag, ws, c) →
    z.at_ / 10000 < s.now / 10000 → z.req.noReply = false →
    Does .snapshotReply s fun t => t.net.snaps = [] ∧ t.lastBody = some (leBytes 8 tag ++ ws.flatMap (leBytes 4)) ∧
      t.lastReply = some [(if c then goodStat s else .notCoherent).code, (if c then goodStat s else .notCoherent).reason]) ∧
  (∀ (p : Packet) (s : State), p.ver = 1 → p.cls = 2 → p.payload.length = 16 → u8 p.payload 8 = 1 → u8 p.payload 9 ≤ 6 →
    u16 p.payload 10 = 0 →
    Does (.crefBlocks p) s fun t => t.lastOut = some { ch := .stream, args := [4, p.src % 4096, leAt p.payload 0 8 % 2 ^ 63,
      b2n ((leAt p.payload 0 8).testBit 63), u32 p.payload 12] }) ∧
  (∀ (p : Packet) (s : State), s.cp.orig = [p] → budgetAllows p s = true →
    Does .originationRelease s fun t => t.cp.orig = [] ∧
      t.lastOut = some { ch := .packet, args := [p.opcode, p.dest, p.cls, p.parcel, p.tag], data := packetBytes p })

/-- A read of DTM_NOWLO answers the low half of the datum and latches the high half. A MARK's content is kept when its CRC holds and breaks the row when not; a free station that sees a valid one begins to acquire. A DLY request is answered, and the first response gives the link's delay. Without a valid upstream the servo holds. A datum station whose reference stays out runs free after GMWAIT. A PPS edge of the chosen polarity is recorded and uses up the armed value; two missing ones end the reference. A write of DTM_TODHI 100 ms to 900 ms after an edge arms its value. A serving PTP clock answers a Delay_Req with its datum. -/
def Obligations.DatumCommandsTakeEffect : Prop :=
  (∀ s : State, s.sysUp = true → Does .dtmNowRead s fun t => t.dtm = { s.dtm with nowHi := w32 (s.now / 2 ^ 32) } ∧
      t.lastOut = some { ch := .status, args := [0, 0, s.now % 2 ^ 32] } ∧ SameRegs [] s t) ∧
  (∀ (p : Fin 4) (l : Nat) (j : Fin 4) (b : List Byte) (x : Nat) (s : State), ringRun s p.val = true →
    u8 b 6 = crc8 (b.take 6) → (u8 b 0).testBit 7 = true → s.dtmState = dsFREE →
    Does (.markBlock p l true j b x) s fun t => (t.port p.val).mark.n = (s.port p.val).mark.n + 1 ∧
      (t.port p.val).mark.sync = true ∧ (t.port p.val).mark.depth = u8 b 0 % 128 ∧ (t.port p.val).mark.u = u8 b 5 ∧
      (t.port p.val).acc = true ∧ t.dtmState = dsACQ) ∧
  (∀ (p : Fin 4) (l : Nat) (j : Fin 4) (b : List Byte) (x : Nat) (s : State), ringRun s p.val = true →
    u8 b 6 ≠ crc8 (b.take 6) →
    Does (.markBlock p l true j b x) s fun t => (t.port p.val).mark.n = 0 ∧ (t.port p.val).mark.cycle = none) ∧
  (∀ (p : Fin 4) (b : List Byte) (m : Nat) (s : State), blockCrcOk b = true → s.portState p.val = poRUN → s.portMode p.val ≠ 2 →
    u8 b 0 < 128 →
    exec (.dlyBlock p b m) s = .next (s.emit .block [p.val, 0xAA] (dlyBytes true (u8 b 0) (m % 2 ^ 32)))) ∧
  (∀ (p : Fin 4) (b : List Byte) (m : Nat) (s : State), blockCrcOk b = true → s.portState p.val = poRUN → s.portMode p.val ≠ 2 →
    128 ≤ u8 b 0 → (s.port p.val).dlyWait = true → (s.port p.val).dlySeq = u8 b 0 % 128 → (s.port p.val).dly = [] →
    leAt b 1 4 ≤ m →
    Does (.dlyBlock p b m) s fun t => t.fg (R.DTM_LINK_DELAY p.val) = min (2 ^ 32 - 1) ((m - leAt b 1 4) / 2) ∧
      (t.port p.val).dlyWait = false ∧ SameRegs [R.DTM_LINK p.val] s t) ∧
  (∀ s : State, (s.dtmState = dsACQ ∨ s.dtmState = dsLOCK) → selectable s 1 (s.fg R.DTM_STAT_UP) = false →
    bestPort s 1 = none →
    Does .datumHoldEntry s fun t => t.dtmState = dsHOLD ∧ t.fg R.DTM_STAT_UP = 7 ∧ t.fg R.DTM_STAT_DEPTH = 127 ∧
      t.fg R.DTM_EVT_HOLDS = min 255 (s.fg R.DTM_EVT_HOLDS + 1) ∧ t.dtm.holdAt = s.lt ∧ t.dtm.holdU = s.fg R.DTM_STAT_U) ∧
  (∀ (t0 : Nat) (s : State), s.dtm.waitAt = some t0 → s.dtmState = dsDATUM → s.dtm.running = false →
    s.due t0 (100000000 * s.fg R.DTM_CTRL_GMWAIT) = true →
    exec .datumReferenceWaitTimeout s = .next { s with dtm := { s.dtm with running := true, waitAt := none } }) ∧
  (∀ (r : Bool) (s : State), r ≠ s.fb R.DTM_CTRL_PPSPOL →
    Does (.ppsEdge r) s fun t => t.dtm.ppsAt = some s.lt ∧ t.dtm.ppsArm = none ∧ t.dtm.ppsMiss = 0) ∧
  (∀ (t0 v : Nat) (s : State), s.dtm.ppsAt = some t0 → s.dtm.ppsArm = some v → s.fg R.DTM_CTRL_SRC = 1 → s.dtmState = dsDATUM →
    s.dtm.running = false → s.lt ≤ t0 + 1100000000 → s.fb R.DTM_CTRL_PPSPOL = false →
    Does (.ppsEdge true) s fun t => t.now = v ∧ t.dtm.running = true ∧ t.dtm.refOk = true ∧ t.fg R.DTM_STAT_TRACE = 1 ∧
      t.fg R.DTM_EXT_EXT = 0) ∧
  (∀ (v : Word) (t0 : Nat) (s : State), accessCheck s R.DTM_TODHI v = none → s.dtm.ppsAt = some t0 → t0 + 100000000 ≤ s.lt →
    s.lt ≤ t0 + 900000000 →
    Does (.dtmTodArm v) s fun t => t.reg R.DTM_TODHI = v ∧ t.dtm.ppsArm = some (v.toNat * 2 ^ 32 + (s.reg R.DTM_TODLO).toNat) ∧
      t.lastOut = some { ch := .status, args := [0, 0, 0] } ∧ SameRegs [R.DTM_TODHI] s t) ∧
  (∀ (t0 : Nat) (s : State), s.dtm.ppsAt = some t0 → s.fg R.DTM_CTRL_SRC = 1 → s.dtm.refOk = true → s.due t0 2000000000 = true →
    Does .ppsReferenceLost s fun t => t.fg R.DTM_STAT_TRACE = 0 ∧ t.dtm.refOk = false ∧ SameRegs [R.DTM_STAT] s t) ∧
  (∀ (p : Fin 4) (q : Nat) (two : Bool) (ts co : Int) (s : State), s.portMode p.val = 2 → s.portState p.val = poRUN →
    s.dtmState = dsDATUM → s.fg R.DTM_PTPCFG_PORT = p.val → s.fb R.DTM_PTPCFG_MASTER = true →
    Does (.ptpMessage p 2 (s.fg R.DTM_PTPCFG_DOMAIN) q two ts co) s fun t =>
      t.lastOut = some { ch := .packet, args := [0x88F7, 3, q, p.val, s.now] } ∧
      t.fg R.DTM_PTPCNT_RXMSG = min 65535 (s.fg R.DTM_PTPCNT_RXMSG + 1) ∧ SameRegs [R.DTM_PTPCNT] s t)

/-- A register write that passes its checks, to a register without a rule of its own, sets each RW bit to the value written, clears each W1C bit written 1, keeps every other bit and every other register, and completes with OK. REG_READ of 1 to 64 registers whose reading latches nothing returns every unit served and the values in order; a unit that is not served, or that latches, is answered by its own status. REG_WRITE and REG_RMW leave what the register's write rule leaves, REG_RMW with the bits outside the mask as they were read, and answer with its status. REG_READ_BLOCK returns the values of consecutive registers. -/
def Obligations.RegisterAccessTakesEffect : Prop :=
  (∀ (a : BitVec 24) (v : Word) (r : RegRow) (s : State), findReg a.toNat = some r → accessCheck s a.toNat v = none →
    writeRule a.toNat v s = plainWrite a.toNat v s → prfHeld s a.toNat = false →
    Does (.registerWrite a v) s fun t => (∀ i ∈ List.range 32, (t.reg a.toNat).toNat.testBit i =
        (if r.rw.testBit i = true then v.toNat.testBit i
         else if r.w1c.testBit i = true ∧ v.toNat.testBit i = true then false else (s.reg a.toNat).toNat.testBit i)) ∧
      t.lastOut = some { ch := .status, args := [0, 0, 0] } ∧ SameRegs [a.toNat] s t) ∧
  (∀ (p q : Packet) (vs : List Word) (s s1 : State), Admits 0x10 p s q s1 → q.noReply = false → u8 q.payload 0 = vs.length →
    q.payload.length = 4 + 4 * vs.length → 1 ≤ vs.length → vs.length ≤ 64 → leAt q.payload 1 3 = 0 →
    (∀ i ∈ List.range vs.length, readReg q.parcel (u32 q.payload (4 + 4 * i)) s1 = (.ok, vs.getD i 0, s1)) →
    Does (.regRead p) s fun t => t.lastReply = some [0, 0] ∧
      t.lastBody = some (leBytes 8 (2 ^ vs.length - 1) ++ List.replicate vs.length 0 ++
        List.replicate ((4 - vs.length % 4) % 4) 0 ++ vs.flatMap fun v => leBytes 4 v.toNat) ∧ t.dtm = s1.dtm) ∧
  (∀ (p q : Packet) (st : Stat) (v : Word) (s s1 s2 : State), Admits 0x10 p s q s1 → q.noReply = false →
    q.payload.length = 8 → leAt q.payload 0 4 = 1 → readReg q.parcel (u32 q.payload 4) s1 = (st, v, s2) →
    Does (.regRead p) s fun t => t.lastReply = some [st.code, if st.code = 0 then 0 else st.reason] ∧
      t.lastBody = some (leBytes 8 (b2n (st.code == 0)) ++ leBytes 1 st.code ++ [0, 0, 0] ++ leBytes 4 v.toNat) ∧ t.dtm = s2.dtm) ∧
  (∀ (p q : Packet) (st : Stat) (s s1 s2 : State), Admits 0x11 p s q s1 → q.noReply = false → q.payload.length = 12 →
    leAt q.payload 0 4 = 1 → s1.sysUp = true →
    writeReg q.parcel (u32 q.payload 4) (w32 (u32 q.payload 8)) s1 = (st, s2) → s2.sysUp = true →
    Does (.regWrite p) s fun t => t.lastReply = some [st.code, if st.code = 0 then 0 else st.reason] ∧
      t.lastBody = some (leBytes 8 (b2n (st.code == 0)) ++ leBytes 1 st.code ++ [0, 0, 0]) ∧
      SameRegs (replyCounters q.via) s2 t) ∧
  (∀ (p q : Packet) (old : Word) (s s1 s2 s3 : State), Admits 0x12 p s q s1 → q.noReply = false → q.payload.length = 12 →
    readReg q.parcel (u32 q.payload 0) s1 = (.ok, old, s2) →
    writeReg q.parcel (u32 q.payload 0) (w32 ((old.toNat &&& (0xFFFFFFFF ^^^ u32 q.payload 4)) |||
      (u32 q.payload 8 &&& u32 q.payload 4))) s2 = (.ok, s3) → s3.sysUp = true →
    Does (.regRmw p) s fun t => t.lastReply = some [0, 0] ∧
      t.lastBody = some (leBytes 4 old.toNat ++ leBytes 4 ((old.toNat &&& (0xFFFFFFFF ^^^ u32 q.payload 4)) |||
        (u32 q.payload 8 &&& u32 q.payload 4))) ∧ SameRegs (replyCounters q.via) s3 t) ∧
  (∀ (p q : Packet) (vs : List Word) (s s1 : State), Admits 0x13 p s q s1 → q.noReply = false → q.payload.length = 8 →
    u16 q.payload 4 = vs.length → 1 ≤ vs.length → vs.length ≤ 496 → u16 q.payload 6 = 0 →
    (∀ i ∈ List.range vs.length, readReg q.parcel (u32 q.payload 0 + 4 * i) s1 = (.ok, vs.getD i 0, s1)) →
    Does (.regReadBlock p) s fun t => t.lastReply = some [0, 0] ∧
      t.lastBody = some (leBytes 4 (u32 q.payload 0) ++ leBytes 2 vs.length ++ [0, 0] ++ vs.flatMap fun v => leBytes 4 v.toNat))

/-- A good frame that arrives on a host port in step with its descramblers and carries an admitted request of class 1 for this station puts it in the class queue. A new packet frame of a ring for another station's address leaves by the ring's other port with TTL one less. An aborted frame is counted and otherwise ignored. An admitted class 1 request written on the sideband joins the queue while the CP serves it, and waits in one of two places while it does not; a packet with a bad CRC is counted. An Ethernet frame to this station with the configured type does the same as a host frame, is counted and has its source remembered; one with a bad FCS is counted. A reply for the station's own request ends its wait. A request that has waited 1 ms is answered DEFERRED, QUEUED once; one past its deadline is dropped with REFUSED, DEADLINE. The CP starts the head of the first class queue that can start. -/
def Obligations.PacketIntakeAndQueuesTakeEffect : Prop :=
  (∀ (p : Fin 4) (i : Fin 2) (lanes : List Nat) (f : Frame) (q : Packet) (s s1 : State), Listens p lanes s → Sendable f → f.abort = false →
    s.portMode p.val = 1 → bitsOf (linkHeader f) 0 3 = 1 → bitsOf (linkHeader f) 3 2 = 1 → crcGood f.body = true →
    Admits (parsePacket (.host p.val) f.body).opcode (parsePacket (.host p.val) f.body) s q s1 → (parsePacket (.host p.val) f.body).cls = 1 → q.cls = 1 → fastPath q.opcode = false → (parsePacket (.host p.val) f.body).opcode ∉ [0x24, 0x25] → (parsePacket (.host p.val) f.body).opcode < 128 →
    srcOk s (parsePacket (.host p.val) f.body) = true → destBeyond s (parsePacket (.host p.val) f.body) = false → forHost s (parsePacket (.host p.val) f.body) = false → destHere s (parsePacket (.host p.val) f.body) = true → s1.cp.q1.length < 24 →
    Does (.frameReceived p (i == 1) (laneWords lanes i.val (s.port p.val).desc f 0) (laneWords lanes i.val (s.port p.val).desc f 1)) s fun t =>
      t = { s1 with trv := { s1.trv with ports := t.trv.ports }, cp := { s1.cp with q1 := s1.cp.q1 ++ [{ pkt := q, at_ := s1.lt }] } }) ∧
  (∀ (p : Fin 4) (i : Fin 2) (lanes : List Nat) (f : Frame) (s : State), Listens p lanes s → Sendable f → f.abort = false →
    s.portMode p.val = 0 → headerHost (linkHeader f) = false → bitsOf (linkHeader f) 0 3 = 1 → crcGood f.body = true →
    s.addressed = true → bitsOf (linkHeader f) 8 12 ≠ s.ownAddr → isDuplicate s (headerFrame (linkHeader f) f.body) = false →
    (parsePacket (.ring p.val) f.body).opcode ∉ [1, 2] → addrMode (parsePacket (.ring p.val) f.body).dest = 0 → addrField (parsePacket (.ring p.val) f.body).dest ≠ s.ownAddr → bitsOf (linkHeader f) 20 7 ≠ 0 →
    ringRun s (otherPort p.val) = true → s.fb R.NET_STAT_TIEROLE = false → (s.port (otherPort p.val)).tx = [] → f.body.length ≤ 2068 →
    Does (.frameReceived p (i == 1) (laneWords lanes i.val (s.port p.val).desc f 0) (laneWords lanes i.val (s.port p.val).desc f 1)) s fun t =>
      (t.port (otherPort p.val)).tx = [{ headerFrame (linkHeader f) f.body with ttl := bitsOf (linkHeader f) 20 7 - 1 }] ∧
      t.cp = s.cp ∧ t.regs = s.regs ∧ isDuplicate t (headerFrame (linkHeader f) f.body) = true) ∧
  (∀ (p : Fin 4) (i : Fin 2) (lanes : List Nat) (f : Frame) (s : State), Listens p lanes s → Sendable f → f.abort = true →
    f.body.length ≤ 2068 →
    Does (.frameReceived p (i == 1) (laneWords lanes i.val (s.port p.val).desc f 0) (laneWords lanes i.val (s.port p.val).desc f 1)) s fun t => t.fg (R.TRV_PFRM_ABRX p.val) = min 65535 (s.fg (R.TRV_PFRM_ABRX p.val) + 1) ∧
      SameRegs [R.TRV_PFRM p.val] s t) ∧
  (∀ (b : List Byte) (q : Packet) (s s1 : State), s.sideBusy = false → crcGood b = true → s.hst.rx = [] →
    Admits (parsePacket .side b).opcode (parsePacket .side b) s q s1 → (parsePacket .side b).cls = 1 → q.cls = 1 →
    fastPath q.opcode = false → (parsePacket .side b).opcode ∉ [0x24, 0x25] → srcOk s (parsePacket .side b) = true →
    destBeyond s (parsePacket .side b) = false → forHost s (parsePacket .side b) = false →
    destHere s (parsePacket .side b) = true → s1.cp.q1.length < 24 →
    Does (.spiWrite b) s fun t => t = { s1 with cp := { s1.cp with q1 := s1.cp.q1 ++ [{ pkt := q, at_ := s1.lt }] } }) ∧
  (∀ (b : List Byte) (s : State), s.sysUp = true → s.cpRuns = false → s.hst.rx.length < 2 → crcGood b = true →
    fastPath (leAt b 2 1) = false →
    Does (.spiWrite b) s fun t => t = { s with hst := { s.hst with rx := s.hst.rx ++ [b] } }) ∧
  (∀ (b : List Byte) (s : State), s.sysUp = true → s.hst.rx.length < 2 → crcGood b = false →
    Does (.spiWrite b) s fun t => t = s.inc R.HST_SPICNT_CRCERR) ∧
  (∀ (p : Fin 4) (d sr : BitVec 48) (tg et : BitVec 16) (n : Nat) (b : List Byte) (q : Packet) (s s1 : State), s.sysUp = true →
    p.val < s.portsFit → s.portMode p.val = 2 → s.portState p.val = poRUN → 64 ≤ n → n ≤ 2090 → d.toNat = stationMac s →
    et.toNat = s.fg R.HST_ETHCFG_ETYPE → et.toNat ≠ 0x88F7 → crcGood (etherPacket b) = true →
    Admits (parsePacket (.host p.val) (etherPacket b)).opcode (parsePacket (.host p.val) (etherPacket b))
      (etherSeen p.val sr.toNat tg.toNat b s) q s1 →
    (parsePacket (.host p.val) (etherPacket b)).cls = 1 → q.cls = 1 → fastPath q.opcode = false →
    (parsePacket (.host p.val) (etherPacket b)).opcode ∉ [0x24, 0x25] →
    srcOk s (parsePacket (.host p.val) (etherPacket b)) = true → destBeyond s (parsePacket (.host p.val) (etherPacket b)) = false →
    forHost s (parsePacket (.host p.val) (etherPacket b)) = false →
    destHere s (parsePacket (.host p.val) (etherPacket b)) = true → s1.cp.q1.length < 24 →
    Does (.ethernetFrame p d sr tg et true n b) s fun t =>
      t = { s1 with cp := { s1.cp with q1 := s1.cp.q1 ++ [{ pkt := q, at_ := s1.lt }] } }) ∧
  (∀ (p : Fin 4) (d sr : BitVec 48) (tg et : BitVec 16) (n : Nat) (b : List Byte) (s : State), s.sysUp = true →
    p.val < s.portsFit → s.portMode p.val = 2 → s.portState p.val = poRUN →
    Does (.ethernetFrame p d sr tg et false n b) s fun t => t = s.inc (R.HST_ETHCNT_W1_FCSERR p.val)) ∧
  (∀ (p : Packet) (s : State), s.sysUp = true → 128 ≤ p.opcode → addrMode p.dest = 0 → addrField p.dest = s.ownAddr →
    p.tag ∈ s.cp.await → p.opcode ≠ 0xE3 →
    Does (.replyReceived p) s fun t => t = { s with cp := { s.cp with await := s.cp.await.erase p.tag } }) ∧
  (∀ (h : Held) (l : List Held) (s : State), s.cpRuns = true → s.cp.q1 = h :: l → h.interim = false →
    s.due h.at_ 1000000 = true →
    Does .deferredInterimReply s fun t => t.lastReply = some [0x01, 0x20] ∧ t.lastBody = some [] ∧
      t.cp.q1 = { h with interim := true } :: l.map fun x => if x = h then { x with interim := true } else x) ∧
  (∀ (h : Held) (l : List Held) (s : State), s.cpRuns = true → s.cp.q1 = h :: l → s.due h.at_ 10000000 = true →
    Does .requestDeadline s fun t => t.lastReply = some [0x02, 0x13] ∧ t.cp.q1 = l) ∧
  (∀ (h : Held) (l : List Held) (s : State), s.cpRuns = true → s.cp.q1 = [] → s.cp.q2 = h :: l → s.due h.at_ 100000000 = true →
    Does .requestDeadline s fun t => t.lastReply = some [0x02, 0x13] ∧ t.cp.q2 = l) ∧
  (∀ (bad : List Nat) (h : Held) (l : List Held) (s : State), s.cpRuns = true → s.hst.rx = [] → s.cp.q1 = h :: l →
    blocked s h.pkt = false →
    exec (.requestServiceStart bad) s = .next { serveOp bad h.pkt { s with cp := { s.cp with q1 := l } } with
      pending := s.pending, variant := s.variant }) ∧
  (∀ (bad : List Nat) (h : Held) (l : List Held) (s : State), s.cpRuns = true → s.hst.rx = [] →
    startable s s.cp.q1 = none → s.cp.q2 = h :: l → blocked s h.pkt = false →
    exec (.requestServiceStart bad) s = .next { serveOp bad h.pkt { s with cp := { s.cp with q2 := l } } with
      pending := s.pending, variant := s.variant })

/-- A sample frame that arrives whole becomes the system half's frame with every word as it was sent, and SOC takes the safety current channel's word. A wrong frame check, a frame that a lane's failure or two different maps meet, or a barrier that carries no samples marks all words stale with BRX's cause. A recording buffer whose spacing the epoch meets gets one record more, its words packed in channel order at the record's place. CAPTURE_CFG answers with the effect epoch and both configurations wait for it; the effect puts an enabled buffer into recording with nothing written. CAPTURE_TRIG triggers a recording buffer with source CMD at the present epoch; when POST records are written the buffer freezes with STOP 0b001. CAPTURE_READ returns the bytes of an idle or frozen buffer; an uncorrectable unit reads zero, is counted and raises source 0x6F. -/
def Obligations.CaptureCommandsTakeEffect : Prop :=
  (∀ (m : Nat) (s : State), s.smp.frame.words.length = 52 → (∀ w ∈ s.smp.frame.words, w < 2 ^ 20) → popCount 22 s.bar.rxMap < 16 → remapping s = false →
    Does (.sampleFrame 0 m) s fun t => t.rx = s.smp.frame ∧ t.smp = { s.smp with frame := {} } ∧
      t.soc = { s.soc with ivl := s.soc.ivl ++ [wordOf (s.smp.frame.words.getD (48 + s.fg R.SAF_ENV0_AXM) 0)] }) ∧
  (∀ (m i : Nat) (s : State), s.smp.frame.words.length = 52 → 1040 ≤ i → i < 1050 → popCount 22 s.bar.rxMap < 16 →
    s.smp.frame.conv = true →
    Does (.sampleFrame (2 ^ i) m) s fun t =>
      t.rx = { s.smp.frame with words := (upTo 52).map fun n => stlWord (n == s.smp.frame.chk) 3 }) ∧
  (∀ (e m : Nat) (s : State), s.smp.frame.words.length = 52 → popCount 22 s.bar.rxMap < 16 → s.smp.frame.conv = true →
    remapping s = true → Does (.sampleFrame e m) s fun t =>
      t.rx = { s.smp.frame with words := (upTo 52).map fun n => stlWord (n == s.smp.frame.chk) 3 }) ∧
  (∀ (e m : Nat) (s : State), s.smp.frame.words.length = 52 → 16 ≤ popCount 22 s.bar.rxMap →
    Does (.sampleFrame e m) s fun t =>
      t.rx = { s.smp.frame with words := (upTo 52).map fun n => stlWord (n == s.smp.frame.chk) 6 }) ∧
  (∀ (e m : Nat) (k : Fin 16) (c : CapBuf) (s : State), s.smp.frame.words.length = 52 → s.buf k.val = c →
    s.fg (R.CAP_B_W6_STATE k.val) = 2 → m.testBit k.val = false → capServes s = true →
    (∀ j ∈ List.range 16, j = k.val ∨ s.fg (R.CAP_B_W6_STATE j) ≠ 2 ∧ s.fg (R.CAP_B_W6_STATE j) ≠ 3) →
    (s.smp.frame.epoch + 1) % s.fg (R.CAP_B_W0_DEC k.val) = 0 → c.isOpen = true → c.hit = false →
    s.smp.frame.tag / 2 ^ 59 = c.tag / 2 ^ 59 → s.smp.frame.epoch = c.e0 + c.n * s.fg (R.CAP_B_W0_DEC k.val) →
    c.n + 1 < recPerBlock (s.bufChannels k.val).length →
    Does (.sampleFrame e m) s fun t => (t.buf k.val).n = c.n + 1 ∧ SameRegs ((List.range 8).map R.FAB_PDEC) s t ∧
      memBytes t.cap.dram (capBase s k.val + (4096 * c.blk + 16 + recLen (s.bufChannels k.val).length * c.n))
          (recLen (s.bufChannels k.val).length) =
        leBytes (recLen (s.bufChannels k.val).length)
          ((s.bufChannels k.val).foldr (fun n a => (received e s).getD (n - 1) 0 % 2 ^ 20 + 2 ^ 20 * a) 0)) ∧
  (∀ (p q : Packet) (a b : List Nat) (f : Nat × Nat) (s s1 : State), Admits 0x21 p s q s1 → q.noReply = false → s1.capFit = true →
    q.payload.length = 48 → a = (List.range 6).map (fun j => u32 q.payload (4 * j)) →
    b = (List.range 6).map (fun j => u32 q.payload (24 + 4 * j)) → capWordsBad a = false → capWordsBad b = false →
    s1.fg (R.CAD_PCAP_CAPSZ q.parcel) ≠ 0 → a.getD 3 0 + a.getD 4 0 ≤ s1.fg (R.CAD_PCAP_CAPSZ q.parcel) * 256 →
    b.getD 3 0 + b.getD 4 0 ≤ s1.fg (R.CAD_PCAP_CAPSZ q.parcel) * 256 →
    (b.getD 3 0 + b.getD 4 0 ≤ a.getD 3 0 ∨ a.getD 3 0 + a.getD 4 0 ≤ b.getD 3 0) →
    (capChannels (a.getD 1 0) (a.getD 2 0) ++ capChannels (b.getD 1 0) (b.getD 2 0)).all (s1.chanOk q.parcel) = true →
    f = [a, b].foldl (fun x w => if (w.getD 0 0).testBit 31 then addFrac x (tapLoad (w.getD 0 0 % 65536)
      (capChannels (w.getD 1 0) (w.getD 2 0)).length) else x) (planLoad s1 q.parcel) →
    f.1 ≤ 24000000000 * f.2 → s1.fb R.PWR_CTRL_CAPOFF = false →
    R.CAP_B_W6 (2 * q.parcel) ∉ replyCounters q.via → R.CAP_B_W6 (2 * q.parcel + 1) ∉ replyCounters q.via →
    Does (.captureCfg p) s fun t => t.lastReply = some [0, 0] ∧
      t.lastBody = some (leBytes 4 (firstMultiple 1024 2000 s1.now % 2 ^ 32)) ∧
      (t.buf (2 * q.parcel)).pend = (s1.buf (2 * q.parcel)).pend ++ [(firstMultiple 1024 2000 s1.now, a.map w32)] ∧
      t.fg (R.CAP_B_W6_STATE (2 * q.parcel)) = (if (a.getD 0 0).testBit 31 = true ∧
          (s1.fg (R.CAP_B_W6_STATE (2 * q.parcel)) = 0 ∨ s1.fg (R.CAP_B_W6_STATE (2 * q.parcel)) = 4) then 1
        else s1.fg (R.CAP_B_W6_STATE (2 * q.parcel))) ∧
      (t.buf (2 * q.parcel + 1)).pend = (s1.buf (2 * q.parcel + 1)).pend ++ [(firstMultiple 1024 2000 s1.now, b.map w32)] ∧
      t.fg (R.CAP_B_W6_STATE (2 * q.parcel + 1)) = (if (b.getD 0 0).testBit 31 = true ∧
          (s1.fg (R.CAP_B_W6_STATE (2 * q.parcel + 1)) = 0 ∨ s1.fg (R.CAP_B_W6_STATE (2 * q.parcel + 1)) = 4) then 1
        else s1.fg (R.CAP_B_W6_STATE (2 * q.parcel + 1)))) ∧
  (∀ (k : Fin 16) (e : Nat) (w : List Word) (s : State), (s.buf k.val).pend = [(e, w)] → e ≤ s.epoch → w.length = 6 →
    (∀ j ∈ List.range 16, j = k.val ∨ (s.buf j).pend = []) → (w.getD 0 0).toNat.testBit 31 = true →
    Does .captureConfigEffect s fun t => t.buf k.val = {} ∧ t.reg (R.CAP_B_W6 k.val) = 0x40000000 ∧
      (∀ i ∈ List.range 6, t.reg (R.CAP_B_W0 k.val + 4 * i) = w.getD i 0) ∧ t.reg (R.CAP_B_W7 k.val) = 0 ∧
      t.reg (R.CAP_B_W8 k.val) = 0 ∧ t.reg (R.CAP_B_W9 k.val) = 0) ∧
  (∀ (p q : Packet) (k : Fin 16) (s s1 : State), Admits 0x22 p s q s1 → q.noReply = false → s1.capFit = true →
    q.payload.length = 8 → u64 q.payload 0 < 2 ^ 16 → (u64 q.payload 0).testBit k.val = true →
    (q.parcel = 0 ∨ ∀ j ∈ List.range 16, (u64 q.payload 0).testBit j = true → j / 2 = q.parcel) →
    s1.fg (R.CAP_B_W6_STATE k.val) = 2 → (s1.fg (R.CAP_B_W0_TRIG k.val)).testBit 0 = true →
    R.CAP_B_W6 k.val ∉ replyCounters q.via → R.CAP_B_W7 k.val ∉ replyCounters q.via →
    Does (.captureTrig p) s fun t => t.lastReply = some [0, 0] ∧ t.lastBody = some (leBytes 4 (s1.epoch % 2 ^ 32)) ∧
      t.fg (R.CAP_B_W6_STATE k.val) = 3 ∧ t.fg (R.CAP_B_W6_TSRC k.val) = 1 ∧ t.reg (R.CAP_B_W7 k.val) = w32 s1.epoch) ∧
  (∀ (k : Fin 16) (s : State), s.fg (R.CAP_B_W6_STATE k.val) = 3 → (s.buf k.val).hit = true → (s.buf k.val).post = 0 →
    Does (.capturePostComplete k) s fun t => t.fg (R.CAP_B_W6_STATE k.val) = 4 ∧ t.fg (R.CAP_B_W6_STOP k.val) = 1 ∧
      (t.buf k.val).isOpen = false ∧ t.fg (R.CAP_B_W6_TSRC k.val) = s.fg (R.CAP_B_W6_TSRC k.val) ∧
      SameRegs [R.CAP_B_W6 k.val] s t) ∧
  (∀ (p q : Packet) (bad : List Nat) (s s1 : State), Admits 0x23 p s q s1 → q.noReply = false → s1.capFit = true →
    q.payload.length = 16 → u8 q.payload 0 ≤ 15 → leAt q.payload 1 3 = 0 → u16 q.payload 14 = 0 →
    64 ≤ u16 q.payload 12 → u16 q.payload 12 ≤ 2000 → u16 q.payload 12 % 4 = 0 →
    (q.parcel = 0 ∨ u8 q.payload 0 / 2 = q.parcel) →
    (s1.fg (R.CAP_B_W6_STATE (u8 q.payload 0)) = 0 ∨ s1.fg (R.CAP_B_W6_STATE (u8 q.payload 0)) = 4) →
    u64 q.payload 4 + u16 q.payload 12 ≤ s1.fg (R.CAP_B_W4_SIZE (u8 q.payload 0)) * 4096 → capServes s1 = true →
    (∀ u ∈ bad, u < u64 q.payload 4 / 64 ∨ (u64 q.payload 4 + u16 q.payload 12 - 1) / 64 < u) →
    Does (.captureRead p bad) s fun t => t.lastReply = some [0, 0] ∧
      t.lastBody = some (leBytes 8 (u64 q.payload 4) ++ leBytes 2 (u16 q.payload 12) ++ [0, 0] ++
        memBytes s1.cap.dram (capBase s1 (u8 q.payload 0) + u64 q.payload 4) (u16 q.payload 12)) ∧ t.cap = s1.cap) ∧
  (∀ (p q : Packet) (s s1 : State), Admits 0x23 p s q s1 → q.noReply = false → s1.capFit = true →
    q.payload.length = 16 → u8 q.payload 0 ≤ 15 → leAt q.payload 1 3 = 0 → u16 q.payload 14 = 0 → u16 q.payload 12 = 64 →
    u64 q.payload 4 % 64 = 0 → (q.parcel = 0 ∨ u8 q.payload 0 / 2 = q.parcel) →
    (s1.fg (R.CAP_B_W6_STATE (u8 q.payload 0)) = 0 ∨ s1.fg (R.CAP_B_W6_STATE (u8 q.payload 0)) = 4) →
    u64 q.payload 4 + 64 ≤ s1.fg (R.CAP_B_W4_SIZE (u8 q.payload 0)) * 4096 → capServes s1 = true →
    R.CAP_B_W6 (u8 q.payload 0) ∉ replyCounters q.via → R.FLT_ISL islDRC ∉ replyCounters q.via →
    Does (.captureRead p [u64 q.payload 4 / 64]) s fun t => t.lastReply = some [0, 0] ∧
      t.lastBody = some (leBytes 8 (u64 q.payload 4) ++ leBytes 2 64 ++ [0, 0] ++ List.replicate 64 0) ∧
      t.fg (R.CAP_B_W6_ECCU (u8 q.payload 0)) = min 255 (s1.fg (R.CAP_B_W6_ECCU (u8 q.payload 0)) + 1) ∧ Raised 0x6F islDRC t)

/-- NV_WRITE puts its bytes into the image of its page in the parcel's page buffer, NV itself unchanged. NV_COMMIT with action 0 hands the pages to the journal and answers only when they are durable; action 1, or an empty buffer, is answered at once with 0 pages. When the journal is durable the pages of a commit are in NV and the reply counts them; a configuration commit leaves its registers, its retired plots and its shutdown record. When the copy is done the next waiting commit begins, or that of a shutdown record that waits. 10 s without a write empty the buffer. The founding page takes its integrator field from a parcel's buffer and its holder records from FOUND_DEFAULTS, and nothing once it is locked. NV_READ returns bytes of the parcel's region and counts the errors its words meet; with an uncorrectable one the data are the model's free value (log 183). A write of NVM_CNTINC steps the counter it names, which saturates, but for counters 0 to 7. -/
def Obligations.NvCommandsTakeEffect : Prop :=
  (∀ (p q : Packet) (b : NvBuf) (img : List Byte) (s s1 : State), Admits 0x78 p s q s1 → q.noReply = false →
    q.payload.length = 4 + u8 q.payload 3 → u8 q.payload 3 ≠ 0 → u8 q.payload 2 + u8 q.payload 3 ≤ 128 →
    (nvInside s1 q.parcel (128 * u16 q.payload 0 + u8 q.payload 2) (u8 q.payload 3) = true ∨ q.parcel = 0 ∧ u16 q.payload 0 = 0 ∧
      96 ≤ u8 q.payload 2 ∧ u8 q.payload 2 + u8 q.payload 3 ≤ 124 ∧ leAt (s1.nvPage 0) 76 4 = 0) →
    (s1.nvBuf = some b ∨ s1.nvBuf = none ∧ b = { owner := q.parcel }) → b.owner = q.parcel → bufFrozen s1 = false →
    ((b.pages.any fun (e : Nat × List Byte) => e.1 == u16 q.payload 0) = true ∨ b.pages.length < 8) →
    img = (Smap.get (fun i => s1.nvPage i) b.pages (u16 q.payload 0)).take (u8 q.payload 2) ++ q.payload.drop 4 ++
      (Smap.get (fun i => s1.nvPage i) b.pages (u16 q.payload 0)).drop (u8 q.payload 2 + u8 q.payload 3) →
    Does (.nvWrite p) s fun t => t.lastReply = some [0, 0] ∧ t.lastBody = some [] ∧ t.nv = s1.nv ∧
      t.nvBuf = some { b with at_ := s1.lt, pages := Smap.put b.pages (u16 q.payload 0) img }) ∧
  (∀ (p q : Packet) (b : NvBuf) (s s1 : State), Admits 0x79 p s q s1 → q.payload = [0, 0, 0, 0] → s1.nvBuf = some b →
    b.owner = q.parcel → b.pages ≠ [] → s1.nv.jphase = 0 →
    Does (.nvCommit p) s fun t => t.fg R.NVM_STAT_BUSY = 1 ∧ t.out = s1.out ∧ t.nvBuf = s1.nvBuf ∧
      t.nv = { s1.nv with jphase := 1, jobs := s1.nv.jobs ++ [{ q := q.parcel, pages := b.pages, req := q }] }) ∧
  (∀ (p q : Packet) (b : NvBuf) (s s1 : State), Admits 0x79 p s q s1 → q.noReply = false → q.payload = [1, 0, 0, 0] →
    s1.nvBuf = some b → b.owner = q.parcel → b.pages ≠ [] → s1.nv.jphase = 0 →
    Does (.nvCommit p) s fun t => t.lastReply = some [0, 0] ∧ t.lastBody = some [0] ∧ t.nvBuf = none ∧ t.nv = s1.nv) ∧
  (∀ (p q : Packet) (s s1 : State), Admits 0x79 p s q s1 → q.noReply = false → q.payload = [0, 0, 0, 0] → s1.nvBuf = none →
    s1.nv.jphase = 0 →
    Does (.nvCommit p) s fun t => t.lastReply = some [0, 0] ∧ t.lastBody = some [0] ∧ t.nv = s1.nv) ∧
  (∀ (j : NvJob) (l : List NvJob) (s : State), s.nv.jphase = 1 → s.nv.jobs = j :: l → j.kind = 0 → j.req.noReply = false → (∀ e ∈ j.pages, e.1 ≠ 0) →
    Does .nvJournalDurable s fun t => t.lastReply = some [0, 0] ∧ t.lastBody = some (leBytes 1 j.pages.length) ∧
      t.nvBuf = none ∧ t.nv = { s.nv with jphase := 2, bytes := j.pages.foldl (fun m e => memWrite m (128 * e.1) e.2) s.nv.bytes }) ∧
  (∀ (j : NvJob) (l : List NvJob) (img : List Byte) (s : State), s.nv.jphase = 1 → s.nv.jobs = j :: l → j.kind = 0 →
    j.req.noReply = false → j.pages = [(0, img)] →
    Does .nvJournalDurable s fun t => t.lastReply = some [0, 0] ∧ t.lastBody = some [1] ∧ t.nvBuf = none ∧
      t.nv = { s.nv with
        jphase := 2,
        bytes := if s.foundLocked = true then s.nv.bytes else memWrite s.nv.bytes 0 ((s.nvPage 0).take 96 ++ (img.drop 96).take 28 ++ (s.nvPage 0).drop 124) }) ∧
  (∀ (j : NvJob) (l : List NvJob) (s : State), s.nv.jphase = 1 → s.nv.jobs = j :: l → j.kind = 5 →
    Does .nvJournalDurable s fun t => t.nvBuf = s.nvBuf ∧ t.out = s.out ∧ t.nv = { s.nv with
      jphase := 2, kern := j.kern.getD s.nv.kern, retired := j.retired.getD s.nv.retired,
      cfg := j.cfg.foldl (fun m e => Smap.put m e.1 e.2) s.nv.cfg,
      sdlog := match j.sd with
        | some e => (s.nv.sdlog ++ [e]).drop (s.nv.sdlog.length + 1 - 8)
        | none => s.nv.sdlog }) ∧
  (∀ (j : NvJob) (l : List NvJob) (img : List Byte) (s : State), s.nv.jphase = 1 → s.nv.jobs = j :: l → j.kind = 6 →
    j.req.noReply = false → j.pages = [(0, img)] →
    Does .nvJournalDurable s fun t => t.lastReply = some [0, 0] ∧ t.nvBuf = s.nvBuf ∧
      t.nv = { s.nv with
        jphase := 2,
        bytes := if s.foundLocked = true then s.nv.bytes else memWrite s.nv.bytes 0 ((s.nvPage 0).take 8 ++ (img.drop 8).take 72 ++ (s.nvPage 0).drop 80) }) ∧
  (∀ (j : NvJob) (l : List NvJob) (s : State), s.nv.jphase = 2 → s.nv.jobs = j :: l → (l ≠ [] ∨ s.thm.waitSd = []) →
    Does .nvCopyDone s fun t => t.nv = { s.nv with jobs := l, jphase := if l = [] then 0 else 1 } ∧
      t.fg R.NVM_STAT_BUSY = (if l = [] then 0 else 1) ∧ t.fg R.NVM_STAT_JCOPY = 0 ∧ SameRegs [R.NVM_STAT] s t) ∧
  (∀ (j : NvJob) (r : Nat × Nat × Nat × Nat) (k : List (Nat × Nat × Nat × Nat)) (s : State), s.nv.jphase = 2 → s.nv.jobs = [j] →
    s.thm.waitSd = r :: k →
    Does .nvCopyDone s fun t => t.nv = { s.nv with jobs := [{ kind := 5, sd := some r }], jphase := 1 } ∧
      t.thm = { s.thm with waitSd := k } ∧ t.fg R.NVM_STAT_BUSY = 1 ∧ t.fg R.NVM_STAT_JCOPY = 0 ∧ SameRegs [R.NVM_STAT] s t) ∧
  (∀ (b : NvBuf) (s : State), s.nvBuf = some b → s.due b.at_ 10000000000 = true → bufFrozen s = false →
    Does .nvBufferExpiry s fun t => t = { s with nvBuf := none }) ∧
  (∀ (p q : Packet) (ecc : List Bool) (s s1 : State), Admits 0x7A p s q s1 → q.noReply = false → q.payload.length = 6 →
    u8 q.payload 3 = 0 → u8 q.payload 2 ≤ 127 → 1 ≤ u16 q.payload 4 → u16 q.payload 4 ≤ 1024 → 1 ≤ u16 q.payload 0 →
    nvInside s1 q.parcel (128 * u16 q.payload 0 + u8 q.payload 2) (u16 q.payload 4) = true →
    ecc.any id = false → R.NVM_ECC ∉ replyCounters q.via →
    Does (.nvRead p ecc) s fun t => t.lastReply = some [0, 0] ∧
      t.lastBody = some (memBytes s1.nv.bytes (128 * u16 q.payload 0 + u8 q.payload 2) (u16 q.payload 4)) ∧ t.nv = s1.nv ∧
      t.fg R.NVM_ECC_COR = min 65535 (s1.fg R.NVM_ECC_COR + ecc.length) ∧ t.fg R.NVM_ECC_UNCOR = s1.fg R.NVM_ECC_UNCOR) ∧
  (∀ (p q : Packet) (s s1 : State), Admits 0x7A p s q s1 → q.noReply = false → q.payload.length = 6 →
    u8 q.payload 3 = 0 → u8 q.payload 2 ≤ 127 → 1 ≤ u16 q.payload 4 → u16 q.payload 4 ≤ 1024 → 1 ≤ u16 q.payload 0 →
    nvInside s1 q.parcel (128 * u16 q.payload 0 + u8 q.payload 2) (u16 q.payload 4) = true → R.NVM_ECC ∉ replyCounters q.via →
    Does (.nvRead p [false, true]) s fun t => t.lastReply = some [0, 0] ∧ t.nv = s1.nv ∧
      t.lastBody = some (leBytes (u16 q.payload 4) (Config.freeValue s1.freeCtr)) ∧
      t.fg R.NVM_ECC_COR = min 65535 (s1.fg R.NVM_ECC_COR + 1) ∧ t.fg R.NVM_ECC_UNCOR = min 65535 (s1.fg R.NVM_ECC_UNCOR + 1)) ∧
  (∀ (p q : Packet) (s s1 : State), Admits 0x7A p s q s1 → q.noReply = false → q.payload = [0, 0, 0, 0, 124, 0] →
    q.parcel = 0 → leAt (s1.nvPage 0) 76 4 = 0 →
    Does (.nvRead p []) s fun t => t.lastReply = some [0, 0] ∧ t.lastBody = some (memBytes s1.nv.bytes 0 124)) ∧
  (∀ (v : Word) (s : State), accessCheck s R.NVM_CNTINC v = none → 8 ≤ wf v R.NVM_CNTINC_CNT →
    Does (.counterIncrement v) s fun t =>
      t.cnt (wf v R.NVM_CNTINC_CNT) = min 4294967295 (s.cnt (wf v R.NVM_CNTINC_CNT) + 1) ∧ t.regs = s.regs ∧
      SameBut (fun _ => 0) (wf v R.NVM_CNTINC_CNT) s.nv.cnt t.nv.cnt ∧ t.lastOut = some { ch := .status, args := [0, 0, 0] }) ∧
  (∀ (v : Word) (s : State), accessCheck s R.NVM_CNTINC v = none → wf v R.NVM_CNTINC_CNT < 8 →
    Does (.counterIncrement v) s fun t => t = s.done (.refused))

/-- An erase leaves its sector blank, its bitmap bit and its erase record clear, and the next operation begins. Suspend and resume act on an erase in progress. A programmed unit of a firmware chunk is in its bank, a chunk's last unit sends its reply, and the last byte of a download makes STAGE complete and closes the session. FW_DOWNLOAD opens a session with an identity, erases each sector as its first byte arrives and programs the chunk; a repeated chunk is only answered. A lease that passes closes the session with its bank incomplete. FW_VERIFY records the first failing test. FW_ACTIVATE switches the bank pointer to a good image on probation and counts it, and refuses others by their first failing test. FW_CONFIRM ends probation and raises the lowest version. UPD_STAT returns the UPD registers. -/
def Obligations.FlashAndFirmwareCommandsTakeEffect : Prop :=
  (∀ (o : FlsOp) (r : List FlsOp) (s : State), s.fls.ops = o :: r → o.op = 1 → s.fls.susp = false → s.domOn domFLASH = true →
    (r ≠ [] ∨ ∀ n ∈ s.nv.ksErase, n = o.sector) →
    Does .flashEraseComplete s fun t => t.fls.ops = r ∧ t.nv.incomp = setBit s.nv.incomp o.sector false ∧
      t.nv.eraseRec = (match r with | n :: _ => if n.op = 1 then some n.sector else none | [] => none) ∧
      (∀ a, Smap.get zeroByte t.nv.flash a = if a / 65536 = o.sector then zeroByte a else Smap.get zeroByte s.nv.flash a)) ∧
  (∀ (v : Word) (o : FlsOp) (r : List FlsOp) (s : State), accessCheck s R.FLS_CTL (w32 (setBit v.toNat 31 true)) = none →
    s.fls.ops = o :: r → o.op = 1 → wf v R.FLS_CTL_RESUME = 0 →
    Does (.flashSuspend v) s fun t => t.fls = { s.fls with susp := true } ∧ t.fg R.FLS_STAT_SUSP = 1 ∧
      SameRegs [R.FLS_STAT] s t ∧ t.lastOut = some { ch := .status, args := [0, 0, 0] }) ∧
  (∀ (v : Word) (s : State), accessCheck s R.FLS_CTL (w32 (setBit v.toNat 30 true)) = none →
    Does (.flashResume v) s fun t => t.fls = { s.fls with susp := false } ∧ t.fg R.FLS_STAT_SUSP = 0 ∧
      SameRegs [R.FLS_STAT] s t ∧ t.lastOut = some { ch := .status, args := [0, 0, 0] }) ∧
  (∀ (o : FlsOp) (r : List FlsOp) (p : Packet) (b : List Byte) (s : State), s.fls.ops = o :: r → o.op = 2 →
    s.domOn domFLASH = true → o.reply = some (p, b) → p.opcode = 0x7B → 2 ≤ o.units → o.units = (u16 p.payload 14 + 255) / 256 →
    Does .flashProgramComplete s fun t => t.fls = { s.fls with ops := { o with units := o.units - 1 } :: r, at_ := s.lt } ∧
      t.nv = { s.nv with flash := memWrite s.nv.flash (65536 * o.sector + u32 p.payload 4 % 65536) ((p.payload.drop 16).take 256) } ∧ t.out = s.out) ∧
  (∀ (o : FlsOp) (r : List FlsOp) (p : Packet) (b : List Byte) (s : State), s.fls.ops = o :: r → o.op = 2 →
    s.domOn domFLASH = true → o.reply = some (p, b) → p.opcode ≠ 0x7B → o.units ≤ 1 → p.noReply = false →
    (r ≠ [] ∨ s.nv.ksErase = []) →
    Does .flashProgramComplete s fun t => t.fls.ops = r ∧ t.lastReply = some [0, 0] ∧ t.lastBody = some b) ∧
  (∀ (o : FlsOp) (r : List FlsOp) (p : Packet) (b : List Byte) (c : Sess) (s : State), s.fls.ops = o :: r → o.op = 2 →
    s.domOn domFLASH = true → o.reply = some (p, b) → p.opcode = 0x7B → o.units = 1 → p.noReply = false →
    s.fls.sess = some c → c.acc = c.total → u32 p.payload 4 + u16 p.payload 14 = c.total →
    Does .flashProgramComplete s fun t => t.fls.sess = none ∧ t.bank.stage = 2 ∧ t.bank.active = s.bank.active ∧
      t.bank.seq = s.bank.seq + 1 ∧ t.lastReply = some [(if s.bank.pstate = 2 then 0x0D else 0), 0] ∧ t.lastBody = some b) ∧
  (∀ (p q : Packet) (id : Nat) (s s1 : State), Admits 0x7B p s q s1 → chunkForm q.payload = none → u8 q.payload 12 = 0 →
    s1.fls.sess = none → u32 q.payload 0 = 0 → u32 q.payload 4 = 0 → u16 q.payload 14 ≤ u32 q.payload 8 →
    u32 q.payload 8 ≤ 2097152 → s1.bank.pstate ≠ 1 → id = Config.freeValue s1.freeCtr % (2 ^ 32 - 1) + 1 →
    Does (.fwDownload p) s fun t => t.bank.stage = 1 ∧ t.bank.active = s1.bank.active ∧
      t.fls.sess = some { id := id, total := u32 q.payload 8, acc := u16 q.payload 14, at_ := s1.lt, lastOff := 0, lastLen := u16 q.payload 14 } ∧
      t.fls.ops = s1.fls.ops ++ [{ op := 1, sector := 64 * s1.otherBank }, {
        op := 2, sector := 64 * s1.otherBank,
        units := (u16 q.payload 14 + 255) / 256, reply := some (q, leBytes 4 id ++ leBytes 4 (u16 q.payload 14) ++ leBytes 4 (fwLease s1)) }]) ∧
  (∀ (p q : Packet) (c : Sess) (s s1 : State), Admits 0x7B p s q s1 → chunkForm q.payload = none → u8 q.payload 12 = 0 →
    s1.fls.sess = some c → c.id ≠ 0 → u32 q.payload 0 = c.id → (c.lastOff ≠ c.acc ∨ c.lastLen = 0) → u32 q.payload 4 = c.acc →
    c.acc + u16 q.payload 14 ≤ c.total → u32 q.payload 8 = c.total → c.target = 0 →
    Does (.fwDownload p) s fun t => t.bank = s1.bank ∧
      t.fls.sess = some { chunkTake c q.payload s1.lt with data := [] } ∧
      t.fls.ops = s1.fls.ops ++ (((List.range 32).filter fun j => decide (c.acc ≤ 65536 * j ∧ 65536 * j < c.acc + u16 q.payload 14)).map
        fun j => { op := 1, sector := 64 * s1.otherBank + j }) ++ [{
        op := 2, sector := 64 * s1.otherBank + c.acc / 65536,
        units := (u16 q.payload 14 + 255) / 256, reply := some (q, leBytes 4 c.id ++ leBytes 4 (c.acc + u16 q.payload 14) ++ leBytes 4 (fwLease s1)) }]) ∧
  (∀ (p q : Packet) (c : Sess) (s s1 : State), Admits 0x7B p s q s1 → chunkForm q.payload = none → u8 q.payload 12 = 0 →
    q.noReply = false → s1.fls.sess = some c → c.id ≠ 0 → u32 q.payload 0 = c.id → c.lastLen ≠ 0 →
    u32 q.payload 4 = c.lastOff → u16 q.payload 14 = c.lastLen →
    Does (.fwDownload p) s fun t => t.bank = s1.bank ∧ t.fls = { s1.fls with sess := some { c with at_ := s1.lt } } ∧
      t.lastReply = some [(if s1.bank.pstate = 2 then 0x0D else 0), 0] ∧
      t.lastBody = some (leBytes 4 c.id ++ leBytes 4 c.acc ++ leBytes 4 (fwLease s1))) ∧
  (∀ (c : Sess) (s : State), s.fls.sess = some c → s.due c.at_ (1000000 * fwLease s) = true →
    Does .fwLeaseExpiry s fun t => t.fls = { s.fls with sess := none } ∧ t.bank.stage = 1 ∧ t.bank.active = s.bank.active ∧
      t.regs = s.regs) ∧
  (∀ (p q : Packet) (ecc : List Bool) (s s1 : State), Admits 0x7C p s q s1 → q.noReply = false → q.payload = [] →
    R.UPD_STAT ∉ replyCounters q.via → ecc.any id = false →
    Does (.fwVerify p ecc) s fun t => t.fg R.UPD_STAT_VFAIL = imageFail s1 s1.otherBank ∧ t.nv = s1.nv ∧
      t.lastReply = some [(if s1.bank.pstate = 2 then 0x0D else 0), 0] ∧
      t.lastBody = some (leBytes 4 (if imageFail s1 s1.otherBank = 0 then 1 else 0))) ∧
  (∀ (p q : Packet) (s s1 : State), Admits 0x7D p s q s1 → q.noReply = false → q.payload = [] → s1.fls.sess = none →
    s1.bank.pstate ≠ 1 → s1.bank.stage = 2 → R.UPD_STAT ∉ replyCounters q.via →
    Does (.fwActivate p) s fun t => t.fg R.UPD_STAT_VFAIL = imageFail s1 s1.otherBank ∧
      (if imageFail s1 s1.otherBank = 0 then t.lastReply = some [0, 0] ∧ t.lastBody = some (leBytes 4 (s1.bank.seq + 1)) ∧
          t.bank.active = 1 - s1.bank.active ∧ t.bank.pstate = 1 ∧ t.bank.stage = 0 ∧ t.bank.tbase = s1.cnt 1 ∧
          t.cnt 6 = min 4294967295 (s1.cnt 6 + 1)
        else t.nv = s1.nv ∧ t.lastReply = some (if imageFail s1 s1.otherBank = 7 then [0x0A, 0x0F]
          else if imageFail s1 s1.otherBank = 6 then [0x02, 0x0D] else [0x03, 0x15]))) ∧
  (∀ (p q : Packet) (s s1 : State), Admits 0x7E p s q s1 → q.noReply = false → q.payload = [] → s1.bank.pstate = 1 →
    s1.fg R.UPD_STAT_BOOTED = s1.bank.active →
    Does (.fwConfirm p) s fun t => t.lastReply = some [0, 0] ∧ t.bank.pstate = 0 ∧ t.bank.active = s1.bank.active ∧
      t.bank.minver = max s1.bank.minver (u32 (bankBytes s1 s1.bank.active 0 16) 12) ∧ t.bank.seq = s1.bank.seq + 1) ∧
  (∀ (p q : Packet) (s s1 : State), Admits 0x7F p s q s1 → q.noReply = false → q.payload = [] →
    Does (.updStat p) s fun t => t.lastReply = some [(if s1.bank.pstate = 2 then 0x0D else 0), 0] ∧ t.nv = s1.nv ∧
      t.lastBody = some ((List.range 6).flatMap fun i => leBytes 4 (viewWord s1 (R.UPD_STAT + 4 * i)).toNat))

/-- A reset of the system half takes back every register and record that its scope does not keep, keeps the stack half, and is recorded: its cause bit is set, its kind stands in LASTKIND and its counter steps. The pin, a command and RESET kind 1 reset cold; power-on and brown-out reset wholly; a command, RESET kind 2, the watchdog and a lockstep mismatch after 10 us reset warm. A request that a reset in progress covers is only recorded. Power-on, brown-out while VISO does not supply the stack core, and the stack reset message reset the stack half and nothing else. RESET kinds 3 and 4 reset a plot and retrain a port; one with a named epoch waits for it. 16 us after a warm reset the release resumes. A kick restarts the watchdog; a mismatch stops the CP. -/
def Obligations.ResetCommandsTakeEffect : Prop :=
  (∀ s : State, s.rst.scope ≠ 1 → s.rst.scope ≠ 2 →
    Does .resetnPin s fun t => SystemResets 2 s t ∧ t.tb R.RST_CAUSE_CAUSE 4 = true ∧ t.fg R.RST_STAT_LASTKIND = 2 ∧
      t.fg R.RST_CNT_COLD = min 255 (s.fg R.RST_CNT_COLD + 1)) ∧
  (∀ s : State, s.rst.scope ≠ 1 →
    Does .systemPowerOn s fun t => SystemResets 1 s t ∧ t.reg R.RST_CAUSE = 4 ∧ t.fg R.RST_STAT_LASTKIND = 0 ∧ t.reg R.RST_CNT = 0) ∧
  (∀ s : State, s.rst.scope ≠ 1 →
    Does .systemBrownOut s fun t => SystemResets 1 s t ∧ t.tb R.RST_CAUSE_CAUSE 3 = true ∧ t.fg R.RST_STAT_LASTKIND = 1) ∧
  (∀ s : State, s.rst.scope = 1 →
    Does .systemPowerOn s fun t => t.rst = { s.rst with absorbed := s.rst.absorbed + 1 } ∧ t.tb R.RST_CAUSE_CAUSE 2 = true ∧
      SameRegs [R.RST_CAUSE, R.RST_STAT, R.RST_CNT] s t) ∧
  (∀ (v : Word) (s : State), accessCheck s R.RST_CTRL (w32 (setBit v.toNat 31 true)) = none → wf v R.RST_CTRL_WARM = 0 →
    Does (.coldResetCommand v) s fun t => SystemResets 2 s t ∧ t.tb R.RST_CAUSE_CAUSE 7 = true ∧ t.fg R.RST_STAT_LASTKIND = 3 ∧
      t.fg R.RST_CNT_COLD = min 255 (s.fg R.RST_CNT_COLD + 1)) ∧
  (∀ (v : Word) (s : State), accessCheck s R.RST_CTRL (w32 (setBit v.toNat 30 true)) = none → wf v R.RST_CTRL_COLD = 0 →
    Does (.warmResetCommand v) s fun t => SystemResets 3 s t ∧ t.tb R.RST_CAUSE_CAUSE 8 = true ∧ t.fg R.RST_STAT_LASTKIND = 7 ∧
      t.fg R.RST_CNT_WARM = min 255 (s.fg R.RST_CNT_WARM + 1)) ∧
  (∀ s : State, s.sysUp = true → 3 ≤ s.fg R.RST_STAT_STEP → s.due s.rst.kickAt (1000000 * watchdogLimit s) = true →
    Does .cpWatchdogExpiry s fun t => SystemResets 3 s t ∧ t.tb R.RST_CAUSE_CAUSE 5 = true ∧ t.fg R.RST_STAT_LASTKIND = 5 ∧
      t.fg R.RST_CNT_WDT = min 255 (s.fg R.RST_CNT_WDT + 1) ∧ t.fg R.RST_CNT_WARM = min 255 (s.fg R.RST_CNT_WARM + 1)) ∧
  (∀ (a : Nat) (s : State), s.rst.lockAt = some a → s.due a 10000 = true → s.rst.scope = 0 →
    Does .lockstepWarmReset s fun t => SystemResets 3 s t ∧ t.tb R.RST_CAUSE_CAUSE 6 = true ∧ t.fg R.RST_STAT_LASTKIND = 6 ∧
      t.fg R.RST_CNT_LOCK = min 255 (s.fg R.RST_CNT_LOCK + 1)) ∧
  (∀ s : State, s.cpRuns = true →
    Does .lockstepMismatch s fun t => t.cpRuns = false ∧ t.rst.lockAt = some s.lt ∧ Raised 0x09 islCP t ∧
      SameRegs [R.FLT_ISL islCP] s t) ∧
  (∀ (v : Word) (s : State), accessCheck s R.RST_WDT v = none → 10 ≤ wf v R.RST_WDT_TIMEOUT → wf v R.RST_WDT_TIMEOUT ≤ 10000 →
    Does (.watchdogKick v) s fun t => t.fg R.RST_WDT_TIMEOUT = wf v R.RST_WDT_TIMEOUT ∧ SameRegs [R.RST_WDT] s t ∧
      t.rst.kickAt = (if wf v R.RST_WDT_KICK = 0xA5 then s.lt else s.rst.kickAt) ∧
      t.lastOut = some { ch := .status, args := [0, 0, 0] }) ∧
  (∀ s : State, s.rst.scope = 3 → s.due s.rst.since 16000 = true →
    Does .warmResetResume s fun t => t = { s with rst := { s.rst with scope := 0 } }) ∧
  (∀ s : State, s.rst.stackMsg = true → Does .stackResetMessage s fun t => StackResets s t ∧ t.rst.stackMsg = false ∧
      t.fg R.RST_STAT_STKRST = (if s.sysUp = true ∧ s.rst.stackUp = true then min 255 (s.fg R.RST_STAT_STKRST + 1)
        else s.fg R.RST_STAT_STKRST)) ∧
  (∀ s : State, Does .stackPowerOn s fun t => StackResets s t ∧ t.tb R.RST_CAUSE_CAUSE 0 = true) ∧
  (∀ s : State, s.fb R.PWR_STAT_VISO = false → Does .stackBrownOut s fun t => StackResets s t ∧ t.tb R.RST_CAUSE_CAUSE 1 = true) ∧
  (∀ s : State, s.fb R.PWR_STAT_VISO = true → Does .stackBrownOut s fun t => t = s) ∧
  (∀ (p q : Packet) (s s1 : State), Admits 0x1F p s q s1 → u8 p.payload 0 = 1 → q.payload.length = 4 → u8 q.payload 0 = 1 →
    u16 q.payload 2 = 0 → q.noReply = false → q.seqep = 0 → realVia q.via →
    Does (.resetCold p) s fun t => t.lastReply = some [0, 0] ∧ SystemResets 2 s1 t ∧ t.tb R.RST_CAUSE_CAUSE 7 = true ∧
      t.fg R.RST_STAT_LASTKIND = 3) ∧
  (∀ (p q : Packet) (s s1 : State), Admits 0x1F p s q s1 → u8 p.payload 0 = 2 → q.payload.length = 4 → u8 q.payload 0 = 2 →
    u16 q.payload 2 = 0 → q.noReply = false → q.seqep = 0 → realVia q.via →
    Does (.resetWarm p) s fun t => t.lastReply = some [0, 0] ∧ SystemResets 3 s1 t ∧ t.tb R.RST_CAUSE_CAUSE 8 = true ∧
      t.fg R.RST_STAT_LASTKIND = 7) ∧
  (∀ (p q : Packet) (s s1 : State), Admits 0x1F p s q s1 → u8 p.payload 0 = 3 → q.payload.length = 4 → u8 q.payload 0 = 3 →
    u16 q.payload 2 = 0 → q.noReply = false → q.seqep = 0 → u8 q.payload 1 < s1.plotsFit → plotBusy s1 (u8 q.payload 1) = false →
    s1.energised = false → s1.arr.loads = [] → realVia q.via →
    Does (.resetPlot p) s fun t => t.lastReply = some [0, 0] ∧ (t.plot (u8 q.payload 1)).mem = [] ∧
      (t.plot (u8 q.payload 1)).dma = [] ∧ (∀ x ∈ engines (u8 q.payload 1), (t.engine x).key = 0 ∧ (t.engine x).imem = [] ∧
        (t.engine x).st = if s1.quarterOn x = true then esIDLE else esOFF)) ∧
  (∀ (p q : Packet) (s s1 : State), Admits 0x1F p s q s1 → u8 p.payload 0 = 4 → q.payload.length = 4 → u8 q.payload 0 = 4 →
    u16 q.payload 2 = 0 → q.noReply = false → q.seqep = 0 → u8 q.payload 1 < s1.portsFit → realVia q.via →
    s1.fb (R.TRV_PCTL_EN (u8 q.payload 1)) = true → s1.fg (R.TRV_PCTL_MODE (u8 q.payload 1)) < 2 →
    s1.fg (R.TRV_PCTL_RATEMAX (u8 q.payload 1)) ≠ 3 → s1.fg (R.TRV_PCTL_LANEEN (u8 q.payload 1)) ≠ 0 →
    s1.portState (u8 q.payload 1) ≠ poOFF →
    Does (.resetPort p) s fun t => t.lastReply = some [0, 0] ∧ t.portState (u8 q.payload 1) = poQUAR ∧
      Raised 0x69 (islPTX (u8 q.payload 1)) t) ∧
  (∀ (p q : Packet) (e : Nat) (s s1 : State), Admits 0x1F p s q s1 → u8 p.payload 0 = 1 → q.payload.length = 4 →
    u8 q.payload 0 = 1 → u16 q.payload 2 = 0 → q.noReply = false → q.seqep ≠ 0 → leadOk s1 q.seqep = true →
    namedEpoch s1 q.seqep = some e →
    Does (.resetCold p) s fun t => t.lastReply = some [0, 0] ∧
      t.rst = { s1.rst with sched := s1.rst.sched ++ [(e, 1, u8 q.payload 1)] }) ∧
  (∀ (e n : Nat) (l : List (Nat × Nat × Nat)) (s : State), s.rst.sched = (e, 2, n) :: l → s.rst.scope = 0 →
    Does .resetAtEpoch s fun t => SystemResets 3 (s.until (50 * e)) t ∧ t.fg R.RST_STAT_LASTKIND = 7 ∧
      t.now = max s.now (50 * e))

/-- The stack half is released with SMP_CAL loaded and BAL_STAT.CAP as the temperature band gives it; while the system half runs it sends its release notice with cause 0x0A. 100 ms after the oscillator input runs the system half is released: its MAC address follows the station serial, the journal is replayed and an open erase record marks its sector, and the lanes that do not train are failed. The boot ROM then runs with the watchdog restarted. The image check boots the active bank if it passes; otherwise the other bank if that passes, with the pointer reverted, and with neither stays at step 5; a bank on probation counts a trial. The firmware starts with the watchdog restarted, the ports take their configuration, and step 10 ends the order. NOCOMM puts the station in service after 10 s; 5 s without a roll-call in start-up count as a loss. -/
def Obligations.ReleaseOrderTakesEffect : Prop :=
  (∀ (c : Nat) (v : Word) (s : State), s.rst.stackUp = false → s.sysUp = false → s.nv.cal = [(c, v)] → 1 ≤ c → c ≤ 52 →
    Does .releaseStackHalf s fun t => t.rst = { s.rst with stackUp := true } ∧ t.fg R.RST_STAT_STEP = 1 ∧
      t.reg (R.SMP_CAL c) = v ∧ t.tone = { s.tone with healthAt := s.lt } ∧ t.fg R.BAL_STAT_CAP = capOf s ∧
      (∀ a, a ≠ R.SMP_CAL c → a ≠ R.RST_STAT → a < 0x040000 ∨ 0x050000 ≤ a → t.reg a = s.reg a)) ∧
  (∀ (l : Nat) (s : State), s.rst.stackUp = false → s.sysUp = true → s.nv.cal = [] → messageLane s.bar.txMap = some l →
    Does .releaseStackHalf s fun t => t.rst.stackUp = true ∧ t.ssv = { s.ssv with cause := 0x0A } ∧
      t.lastMsg = some (.up, [mRELEASE, 0x0A]) ∧ t.fg R.BAL_STAT_CAP = capOf s ∧
      (∀ a, a < 0x040000 ∨ 0x050000 ≤ a → t.reg a = s.reg a)) ∧
  (∀ (f : BitVec 24) (s : State), s.fg R.RST_STAT_STEP < 2 → s.rst.scope ≠ 3 → s.bar.oscLost = false →
    s.due s.bar.oscSince 100000000 = true → s.nv.foundOk = true →
    Does (.releaseSystemHalf f) s fun t => t.fg R.RST_STAT_STEP = 2 ∧ t.sysUp = true ∧ t.nv.jphase ≠ 2 ∧
      t.nv.eraseRec = none ∧ (∀ n ∈ s.nv.eraseRec.toList, t.nv.incomp = setBit s.nv.incomp n true) ∧
      t.reg R.HST_MACLO = w32 s.serial ∧ t.reg R.HST_MACHI = w32 (0x0200 + s.serial / 2 ^ 32 % 256) ∧
      (∀ l ∈ List.range 24, t.bar.failed.testBit l = (f.toNat.testBit l || s.bar.failed.testBit l))) ∧
  (∀ s : State, s.sysUp = true → s.fg R.RST_STAT_STEP = 2 →
    Does .releaseBootRom s fun t => t.fg R.RST_STAT_STEP = 3 ∧ t.rst = { s.rst with kickAt := s.lt, stepAt := s.lt } ∧
      SameRegs [R.RST_STAT] s t) ∧
  (∀ (b : Nat) (s : State), s.cpRuns = true → s.fg R.RST_STAT_STEP = 4 → s.rst.noImage = false →
    (s.nv.ptrA.isSome = true ∨ s.nv.ptrB.isSome = true) → s.bank.pstate ≠ 1 → s.bank.active = b → b ≤ 1 →
    Does .imageCheck s fun t => (if imageFail s b = 0 then t.fg R.RST_STAT_STEP = 5 ∧ t.fg R.UPD_STAT_BOOTED = b ∧ t.bank = s.bank
      else if imageFail (s.raise 0x3D islNVF 0) (1 - b) = 0 then t.fg R.RST_STAT_STEP = 5 ∧ t.fg R.UPD_STAT_BOOTED = 1 - b ∧
        t.bank.active = 1 - b ∧ t.bank.pstate = 2 ∧ Raised 0x3D islNVF t ∧ Raised 0x6E islNVF t
      else t.fg R.RST_STAT_STEP = 4 ∧ t.rst.noImage = true ∧ Raised 0x3D islNVF t)) ∧
  (∀ s : State, s.cpRuns = true → s.fg R.RST_STAT_STEP = 4 → s.rst.noImage = false →
    (s.nv.ptrA.isSome = true ∨ s.nv.ptrB.isSome = true) → s.bank.pstate = 1 → s.cnt 1 < s.bank.tbase + 3 →
    Does .imageCheck s fun t => t.cnt 1 = min 4294967295 (s.cnt 1 + 1) ∧
      (if imageFail s s.bank.active = 0 then t.fg R.RST_STAT_STEP = 5 ∧ t.bank = s.bank
        else Raised 0x3D islNVF t)) ∧
  (∀ s : State, s.cpRuns = true → s.fg R.RST_STAT_STEP = 5 →
    Does .firmwareStart s fun t => t.fg R.RST_STAT_STEP = 6 ∧ t.rst.kickAt = s.lt ∧
      (s.fb R.SAF_STAT_LOADED = true ∨ t.rst.setTried = true)) ∧
  (∀ s : State, s.cpRuns = true → s.fg R.RST_STAT_STEP = 6 →
    (∀ p ∈ List.range 4, wf (Smap.get resetWord s.nv.cfg (R.TRV_PCTL p)) (R.TRV_PCTL_RATEMAX p) ≠ 3 ∧
      wf (Smap.get resetWord s.nv.cfg (R.TRV_PCTL p)) (R.TRV_PCTL_LANEEN p) ≠ 0 ∧
      wf (Smap.get resetWord s.nv.cfg (R.TRV_PCTL p)) (R.TRV_PCTL_RETRAIN p) = 0) →
    Does .releasePortTraining s fun t => t.fg R.RST_STAT_STEP = 7 ∧
      (∀ p ∈ List.range s.portsFit, (t.reg (R.TRV_PCTL p)).toNat % 512 =
        (s.reg (R.TRV_PCTL p)).toNat &&& 0xC ||| (Smap.get resetWord s.nv.cfg (R.TRV_PCTL p)).toNat &&& 0x1F3)) ∧
  (∀ s : State, s.cpRuns = true → s.fg R.RST_STAT_STEP = 9 →
    Does .parcelsRunning s fun t => t.fg R.RST_STAT_STEP = 10 ∧ t.pwr = { s.pwr with step10 := some s.lt } ∧
      SameRegs [R.RST_STAT] s t) ∧
  (∀ (a : Nat) (s : State), s.pwr.step10 = some a → s.fb R.PWR_CTRL_NOCOMM = true → s.due a 10000000000 = true →
    Does .standAloneRecoveryEnd s fun t => t = { s with pwr := { s.pwr with served := true } }) ∧
  (∀ (a : Nat) (s : State), s.pwr.step8 = some a → s.pwr.goodAt = none → s.service = 0 → s.due a 5000000000 = true →
    Does .startupCommunicationTimeout s fun t => t = { s with pwr := { s.pwr with startLoss := true } })

/-- A valid kernel frame sets the demand, which can only fall in RAMP, and its request stops; an invalid one is counted. A missing one stops by KACT. Time goes on to the end of a 10 us interval, which gives its value; an accepted SCS-1 enters RAMP there with the last value, and the third value below IOPEN, one above the envelope, TWIN, or the third interval without a value end the ramp with END 1, 2, 3 or 4. The SCS-1 notice starts and ends the backstop, which withdraws RUN; the loss of LIVE ends a ramp with END 4. A contact of an enabled pair leaves CLOSED for DISCREP, and DISCREP for CLOSED or OPEN; a discrepancy that lasts and a test pulse that is not read put the pair in FAULT with its flag and source 0x35, which 100 ms without contact end. The rising edge of SRST is noted, a pulse of 50 ms to 2 s in SAFE with good checks starts the handshake, a short or refused one is recorded, 5 s jam it, and 100 ms low unjam it. -/
def Obligations.SafetyInputsTakeEffect : Prop :=
  (∀ (i : List Word) (q d : Nat) (s : State), kernelFrame s i = some (q, d, 0) → s.fg R.SAF_CFG_DSRC = 0 →
    s.sysUp = true → Does (.kernelDemandFrame i) s fun t => t.fg R.SAF_OUT_DEM = (if s.fg R.SAF_STAT_STATE = stRAMP
        then s.fg R.SAF_OUT_DEM &&& demandSix s d else demandSix s d) ∧ t.fg R.SAF_OUT_ON = conducting t ∧
      t.soc.kSeq = some q ∧ t.soc.kAt = s.lt ∧ t.soc.kDem = d ∧ t.soc.kSeen = true ∧ t.soc.kEver = true ∧ SameRegs [R.SAF_OUT] s t) ∧
  (∀ (i : List Word) (q d : Nat) (s : State), kernelFrame s i = some (q, d, 2) → s.fg R.SAF_STAT_STATE = stRUN →
    s.fg R.SAF_CFG_DSRC = 1 →
    s.sysUp = true → Does (.kernelDemandFrame i) s fun t => Stopped cKERNEL 0 0 s t) ∧
  (∀ (i : List Word) (q d : Nat) (s : State), kernelFrame s i = some (q, d, 1) → s.fg R.SAF_STAT_STATE = stRUN →
    s.fg R.SAF_CFG_DSRC = 1 → s.soc.rampPend = false → scs1Ok s = true →
    s.sysUp = true → Does (.kernelDemandFrame i) s fun t => Ramps cKERNEL 0 s t) ∧
  (∀ (i : List Word) (s : State), kernelFrame s i = none →
    s.sysUp = true → Does (.kernelDemandFrame i) s fun t => t = s.inc R.SAF_PDUERR_KDISC) ∧
  (∀ s : State, s.fb R.SAF_CFG_KEN = true → s.due s.soc.kAt (1000000 * s.fg R.SAF_CFG_KTE) = true → s.fg R.SAF_CFG_KACT = 2 →
    s.fg R.SAF_STAT_STATE = stRUN →
    s.sysUp = true → Does .kernelDemandTimeout s fun t => Stopped cKTIME 0 0 s t) ∧
  (∀ s : State, s.fb R.SAF_CFG_KEN = true → s.due s.soc.kAt (1000000 * s.fg R.SAF_CFG_KTE) = true → s.fg R.SAF_CFG_KACT = 1 →
    s.fg R.SAF_STAT_STATE = stRUN → s.soc.rampPend = false → scs1Ok s = true →
    s.sysUp = true → Does .kernelDemandTimeout s fun t => Ramps cKTIME 0 s t) ∧
  (∀ (v : Nat) (s : State), s.sysUp = true → s.fg R.SAF_STAT_STATE = stRUN → s.soc.rampPend = true →
    intervalValue s.soc.ivl = some v →
    Does .rampInterval s fun t => t.fg R.SAF_STAT_STATE = stRAMP ∧ t.soc.i0 = v ∧ t.soc.rampAt = s.boundary.lt ∧
      t.soc.rampPend = false ∧ t.soc.vals = (some v :: s.soc.vals).take 3 ∧ t.soc.ivl = [] ∧ t.now = s.boundary.now) ∧
  (∀ (v : Nat) (s : State), s.sysUp = true → s.fg R.SAF_STAT_STATE = stRAMP → intervalValue s.soc.ivl = some v →
    v < s.fg R.SAF_ENV1_IOPEN → 2 ≤ s.soc.low →
    Does .rampInterval s fun t => t.fg R.SAF_STAT_STATE = stSAFE ∧ t.fg R.SAF_OUT_ON = 0 ∧ t.fg R.SAF_CAUSE_END = 1 ∧
      t.fg R.SAF_CAUSE_CAUSE = s.fg R.SAF_CAUSE_CAUSE ∧ t.fg R.SAF_CAUSE_INDEX = s.fg R.SAF_CAUSE_INDEX ∧ t.cnt 5 = s.cnt 5) ∧
  (∀ (v : Nat) (s : State), s.sysUp = true → s.fg R.SAF_STAT_STATE = stRAMP → intervalValue s.soc.ivl = some v →
    s.fg R.SAF_ENV1_IOPEN ≤ v →
    aboveEnvelope s.soc.i0 (s.fg R.SAF_ENV1_IMARG) (s.fg R.SAF_ENV1_IOPEN) (s.fg R.SAF_ENV0_TDLY) (s.fg R.SAF_ENV0_TRAMP) v
      (s.boundary.lt - s.soc.rampAt) = true →
    Does .rampInterval s fun t => Stopped (s.fg R.SAF_CAUSE_CAUSE) (s.fg R.SAF_CAUSE_INDEX) 2 s.boundary t) ∧
  (∀ (v : Nat) (s : State), s.sysUp = true → s.fg R.SAF_STAT_STATE = stRAMP → intervalValue s.soc.ivl = some v →
    s.fg R.SAF_ENV1_IOPEN ≤ v →
    aboveEnvelope s.soc.i0 (s.fg R.SAF_ENV1_IMARG) (s.fg R.SAF_ENV1_IOPEN) (s.fg R.SAF_ENV0_TDLY) (s.fg R.SAF_ENV0_TRAMP) v
      (s.boundary.lt - s.soc.rampAt) = false →
    Does .rampInterval s fun t => if 1000000 * s.fg R.SAF_ENV2_TWIN ≤ s.boundary.lt - s.soc.rampAt
      then Stopped (s.fg R.SAF_CAUSE_CAUSE) (s.fg R.SAF_CAUSE_INDEX) 3 s.boundary t
      else t = { s.boundary with soc := { s.soc with vals := (some v :: s.soc.vals).take 3, ivl := [], noVal := 0, low := 0 } }) ∧
  (∀ s : State, s.sysUp = true → s.fg R.SAF_STAT_STATE = stRAMP → intervalValue s.soc.ivl = none → 2 ≤ s.soc.noVal →
    s.boundary.lt < s.soc.rampAt + 1000000 * s.fg R.SAF_ENV2_TWIN →
    Does .rampInterval s fun t => Stopped (s.fg R.SAF_CAUSE_CAUSE) (s.fg R.SAF_CAUSE_INDEX) 4 s.boundary t) ∧
  (∀ (n : Nat) (s : State), s.rst.stackUp = true → Does (.scs1Notice true n) s fun t =>
    t = { s with ssv := { s.ssv with backstop := some (s.lt + 1000000 * (n + 1)) } }) ∧
  (∀ (n : Nat) (s : State), s.rst.stackUp = true → Does (.scs1Notice false n) s fun t => t = { s with ssv := { s.ssv with backstop := none } }) ∧
  (∀ (a l : Nat) (s : State), messageLane s.bar.txMap = some l → s.ssv.backstop = some a → a ≤ s.lt → s.ssv.st = svRUN → s.ssv.run = true →
    s.rst.stackUp = true → Does .scs1Backstop s fun t => t.ssv = { s.ssv with backstop := none, run := false, st := svHOLD, cause := 7, dropAt := some s.lt } ∧
      t.lastMsg = some (.up, [mRUNDROP, 7]) ∧ t.regs = s.regs) ∧
  (∀ (m : Fin 4) (s : State), s.fg R.SAF_STAT_STATE = stRAMP → s.fg R.SAF_ENV0_AXM = m.val →
    s.sysUp = true → Does (.liveLossReport m) s fun t => Stopped (s.fg R.SAF_CAUSE_CAUSE) (s.fg R.SAF_CAUSE_INDEX) 4 s t) ∧
  (∀ (i : Fin 4) (b m : Bool) (s : State), (s.pairCfg (i.val + 1)).testBit 0 = false →
    setBit (s.contacts (i.val + 1)) (b2n b) m ≠ s.contacts (i.val + 1) →
    s.sysUp = true → Does (.contactChange i b m) s fun t => t.contacts (i.val + 1) = setBit (s.contacts (i.val + 1)) (b2n b) m ∧
      t.fg R.SAF_SISTAT_STATE = s.fg R.SAF_SISTAT_STATE ∧ SameRegs [R.SAF_SISTAT] s t) ∧
  (∀ (i : Fin 4) (b m : Bool) (s : State), (s.pairCfg (i.val + 1)).testBit 0 = true → s.pairState (i.val + 1) = 1 →
    s.contacts (i.val + 1) = 3 → m = false → bitsOf (s.pairCfg (i.val + 1)) 2 2 = 2 → s.fg R.SAF_STAT_STATE = stRUN →
    s.sysUp = true → Does (.contactChange i b m) s fun t => t.pairState (i.val + 1) = 3 ∧ t.contacts (i.val + 1) = (if b = true then 1 else 2) ∧
      (t.pair (i.val + 1)).discAt = s.lt ∧ Stopped cPAIROPEN (i.val + 1) 0 s t) ∧
  (∀ (i : Fin 4) (b m : Bool) (s : State), (s.pairCfg (i.val + 1)).testBit 0 = true → s.pairState (i.val + 1) = 3 →
    setBit (s.contacts (i.val + 1)) (b2n b) m ≠ s.contacts (i.val + 1) → bitsOf (s.pairCfg (i.val + 1)) 2 2 = 0 →
    s.due (s.pair (i.val + 1)).discAt (1000000 * pairDT s (i.val + 1)) = true → s.sysUp = true →
    Does (.contactChange i b m) s fun t => t.pairState (i.val + 1) = 4 ∧ t.tb R.SAF_SISTAT_DTF i.val = true ∧
      Raised 0x35 islSOC t ∧ (t.pair (i.val + 1)).faultAt = s.lt ∧ SameRegs [R.SAF_SISTAT, R.FLT_ISL islSOC] s t) ∧
  (∀ (i : Fin 4) (b m : Bool) (s : State), (s.pairCfg (i.val + 1)).testBit 0 = true → s.pairState (i.val + 1) = 3 →
    s.contacts (i.val + 1) ≠ 3 → setBit (s.contacts (i.val + 1)) (b2n b) m = 3 → (s.pair (i.val + 1)).fromNone = true →
    s.due (s.pair (i.val + 1)).discAt (1000000 * pairDT s (i.val + 1)) = false →
    s.sysUp = true → Does (.contactChange i b m) s fun t => t.pairState (i.val + 1) = 1 ∧ t.contacts (i.val + 1) = 3 ∧
      SameRegs [R.SAF_SISTAT] s t) ∧
  (∀ (i : Fin 4) (b m : Bool) (s : State), (s.pairCfg (i.val + 1)).testBit 0 = true → s.pairState (i.val + 1) = 3 →
    s.contacts (i.val + 1) ≠ 0 → setBit (s.contacts (i.val + 1)) (b2n b) m = 0 → bitsOf (s.pairCfg (i.val + 1)) 2 2 = 0 →
    s.due (s.pair (i.val + 1)).discAt (1000000 * pairDT s (i.val + 1)) = false →
    s.sysUp = true → Does (.contactChange i b m) s fun t => t.pairState (i.val + 1) = 2 ∧ t.contacts (i.val + 1) = 0 ∧
      SameRegs [R.SAF_SISTAT] s t) ∧
  (∀ (i : Fin 4) (s : State), s.pairState (i.val + 1) = 3 → s.due (s.pair (i.val + 1)).discAt (1000000 * pairDT s (i.val + 1)) = true →
    s.sysUp = true → Does (.discrepancyTimeout i) s fun t => t.pairState (i.val + 1) = 4 ∧ t.tb R.SAF_SISTAT_DTF i.val = true ∧
      Raised 0x35 islSOC t ∧ (t.pair (i.val + 1)).faultAt = s.lt) ∧
  (∀ (i : Fin 4) (a : Nat) (s : State), s.pairState (i.val + 1) = 4 → (s.pair (i.val + 1)).noneAt = some a →
    s.due a 100000000 = true → s.due (s.pair (i.val + 1)).faultAt 100000000 = true →
    s.sysUp = true → Does (.inputFaultRecovery i) s fun t => t.pairState (i.val + 1) = 2 ∧ SameRegs [R.SAF_SISTAT] s t) ∧
  (∀ (z i : Fin 4) (f : BitVec 8) (s : State), (s.pairCfg (i.val + 1)).testBit 0 = true → s.pairState (i.val + 1) ≠ 4 →
    f.toNat.testBit (2 * i.val) = true → contactClosed s (i.val + 1) 0 = true → bitsOf (s.pairCfg (i.val + 1)) 4 2 = z.val →
    (z.val = 1 ∧ s.due (Smap.get (fun _ => 0) s.duty 2) (1000000 * s.fg R.SAF_TP_TPP) = true ∨
      z.val = 2 ∧ Smap.get (fun _ => 0) s.duty 3 ≤ Smap.get (fun _ => 0) s.duty 2 ∧
        s.due (Smap.get (fun _ => 0) s.duty 2) (1000000 * s.fg R.SAF_TP_TPP / 2) = true) →
    s.sysUp = true → Does (.testPulse z f) s fun t => t.pairState (i.val + 1) = 4 ∧ t.tb R.SAF_SISTAT_TPF i.val = true ∧ Raised 0x35 islSOC t) ∧
  (∀ s : State, s.fg R.SAF_SRST_LSTATE ≠ 2 →
    s.sysUp = true → Does .srstRising s fun t => t.fg R.SAF_SRST_LSTATE = 1 ∧ t.soc = { s.soc with srstSeen := true, srstAt := s.lt } ∧ t.srstHigh = true ∧
      SameRegs [R.SAF_SRST] s t) ∧
  (∀ s : State, s.fg R.SAF_SRST_LSTATE = 1 → s.soc.srstSeen = true → s.soc.srstAt + 50000000 ≤ s.lt →
    s.lt ≤ s.soc.srstAt + 2000000000 → s.fg R.SAF_STAT_STATE = stSAFE → startCheck s = none →
    s.sysUp = true → Does .srstFalling s fun t => t.fg R.SAF_STAT_STATE = stSTARTING ∧ t.fg R.SAF_SRST_LSTATE = 0 ∧
      t.fg R.SAF_SRST_ACC = min 255 (s.fg R.SAF_SRST_ACC + 1) ∧ t.soc.startAt = s.lt ∧ t.fg R.SAF_OUT_ON = 0 ∧
      t.lastMsg = some (.down, [mSTART])) ∧
  (∀ (c : Nat) (s : State), s.fg R.SAF_SRST_LSTATE = 1 → s.soc.srstSeen = true → s.soc.srstAt + 50000000 ≤ s.lt →
    s.lt ≤ s.soc.srstAt + 2000000000 → s.fg R.SAF_STAT_STATE = stSAFE → startCheck s = some c →
    s.sysUp = true → Does .srstFalling s fun t => t.fg R.SAF_SRST_LASTREJ = c ∧ t.fg R.SAF_STAT_STATE = stSAFE ∧
      t.fg R.SAF_SRST_ACC = min 255 (s.fg R.SAF_SRST_ACC + 1) ∧ SameRegs [R.SAF_SRST] s t) ∧
  (∀ s : State, s.fg R.SAF_SRST_LSTATE = 1 → s.soc.srstSeen = true → s.lt < s.soc.srstAt + 50000000 →
    s.sysUp = true → Does .srstFalling s fun t => t.fg R.SAF_SRST_LASTREJ = 2 ∧ t.fg R.SAF_SRST_REJ = min 255 (s.fg R.SAF_SRST_REJ + 1) ∧
      t.fg R.SAF_SRST_LSTATE = 0 ∧ SameRegs [R.SAF_SRST] s t) ∧
  (∀ s : State, s.fg R.SAF_SRST_LSTATE = 1 → s.soc.srstAt + 5000000000 < s.lt →
    s.sysUp = true → Does .srstJammed s fun t => t.fg R.SAF_SRST_LSTATE = 2 ∧ Raised 0x36 islSOC t ∧ SameRegs [R.SAF_SRST, R.FLT_ISL islSOC] s t) ∧
  (∀ (a : Nat) (s : State), s.fg R.SAF_SRST_LSTATE = 2 → s.soc.srstLowAt = some a → s.due a 100000000 = true →
    s.sysUp = true → Does .srstUnjam s fun t => t.fg R.SAF_SRST_LSTATE = 0 ∧ t.soc = { s.soc with srstSeen := false } ∧ SameRegs [R.SAF_SRST] s t)

/-- A start request makes SSV judge the injected sequence or the next round, and is refused with 0x0C without a running sweep converter; its good answer puts SOC in RUN and is counted, a refusal or 2 ms without an answer put it back in SAFE, and a withdrawal puts SSV in HOLD. Each half sends tokens with its RUN, state, sequence and checksum, at its epochs of each 100 us; a good token is recorded, one out of sequence is a disagreement, and so is 120 us without one and the other half's notice: SOC stops with source 0x02, SSV faults. That SSV lets its RUN go on a good token without RUN is the model's reading (log entry 160). RUN withdrawal, a supervisor's SCS-1 request and the sleep and release notices act as their rules say. Three readbacks on of an undriven output are stuck: source 0x03 and a stop. An off-pulse opens one output for OFFPW; one not read off is stuck. A driver turns itself off without toggling or in current limit, and a failed self-check turns all off with source 0x04. -/
def Obligations.HandshakeAndOutputStageTakeEffect : Prop :=
  (∀ s : State, s.ssv.st ≠ svSLEEP → s.ssv.st ≠ svRUN → s.cmp.test = none → s.fb R.SWC_CTRL_EN = true → s.fb R.SWC_STAT_REF_SETTLED = true →
    s.tb R.SWC_INJEN_SRCS 2 = false →
    s.rst.stackUp = true → Does .startRequest s fun t => t = { s with ssv := { s.ssv with st := svSTARTING, judge := 2, seen := false, bad := false, roundOn := false } }) ∧
  (∀ s : State, s.ssv.st ≠ svSLEEP → s.ssv.st ≠ svRUN → s.cmp.test = none → s.fb R.SWC_CTRL_EN = true → s.fb R.SWC_STAT_REF_SETTLED = true →
    s.tb R.SWC_INJEN_SRCS 2 = true →
    s.rst.stackUp = true → Does .startRequest s fun t => t.ssv = { s.ssv with st := svSTARTING, judge := if injJudges s = true then 1 else 2, seen := false, bad := false, roundOn := false }) ∧
  (∀ (l : Nat) (s : State), messageLane s.bar.txMap = some l → s.ssv.st ≠ svSLEEP → s.ssv.st ≠ svRUN → s.cmp.test = none → s.fb R.SWC_CTRL_EN = false →
    s.rst.stackUp = true → Does .startRequest s fun t => t.ssv = { s.ssv with st := svHOLD, run := false, judge := 0, cause := 0x0C, dropAt := some s.lt } ∧
      t.lastMsg = some (.up, [mANSWER, 0, 0x0C])) ∧
  (∀ (c : Nat) (s : State), s.fg R.SAF_STAT_STATE = stSTARTING →
    s.sysUp = true → Does (.startAnswer true c) s fun t => t.fg R.SAF_STAT_STATE = stRUN ∧ t.fg R.SAF_STAT_SRUN = 1 ∧ t.fg R.SAF_STAT_YRUN = 1 ∧
      t.fg R.SAF_OUT_ON = conducting t ∧ t.cnt 3 = min 4294967295 (s.cnt 3 + 1)) ∧
  (∀ (c : Nat) (s : State), s.fg R.SAF_STAT_STATE = stSTARTING →
    s.sysUp = true → Does (.startAnswer false c) s fun t => t.fg R.SAF_STAT_STATE = stSAFE ∧ t.fg R.SAF_STAT_SRUN = 0 ∧ t.fg R.SAF_STAT_YRUN = 0 ∧
      t.fg R.SAF_TOKEN_SCAUSE = c % 256 ∧ t.fg R.SAF_SRST_LASTREJ = 0x0B ∧ t.fg R.SAF_OUT_ON = 0 ∧ t.cnt 3 = s.cnt 3) ∧
  (∀ s : State, s.fg R.SAF_STAT_STATE = stSTARTING → s.due s.soc.startAt 2000000 = true →
    s.sysUp = true → Does .startTimeout s fun t => t.fg R.SAF_STAT_STATE = stSAFE ∧ t.fg R.SAF_SRST_LASTREJ = 0x0C ∧ t.fg R.SAF_OUT_ON = 0 ∧
      t.soc.dropAt = some s.lt) ∧
  (∀ s : State, s.ssv.st = svRUN ∨ s.ssv.st = svSTARTING →
    s.rst.stackUp = true → Does .startWithdrawal s fun t => t = { s with ssv := { s.ssv with st := svHOLD, run := false, judge := 0, dropAt := some s.lt } }) ∧
  (∀ s : State, s.sysUp = true → Does (.runTokenSend true) s fun t => t.soc = { s.soc with tokSeq := (s.soc.tokSeq + 1) % 256 } ∧ t.regs = s.regs ∧
      t.now % 100000 = 0 ∧ s.now ≤ t.now ∧
      t.lastMsg = some (.down, [mTOKEN, tokenWord (s.fb R.SAF_STAT_YRUN) (s.fg R.SAF_STAT_STATE) s.soc.tokSeq s.committedSck])) ∧
  (∀ (l : Nat) (s : State), messageLane s.bar.txMap = some l → s.rst.stackUp = true → Does (.runTokenSend false) s fun t => t.ssv = { s.ssv with tokSeq := (s.ssv.tokSeq + 1) % 256 } ∧ t.regs = s.regs ∧
      t.now % 100000 = 50000 ∧ s.now ≤ t.now ∧
      t.lastMsg = some (.up, [mTOKEN, tokenWord s.ssv.run s.ssv.st s.ssv.tokSeq (stackSck s)])) ∧
  (∀ (n : Nat) (w : Word) (s : State), s.soc.peerSeq = some n → w.toNat / 0x100000 % 256 = (n + 1) % 256 →
    w.toNat / 0x10000000 % 8 ≤ 4 → w.toNat.testBit 31 = true → s.fb R.SAF_STAT_YRUN = true →
    w.toNat % 65536 = s.committedSck % 65536 → s.fg R.SAF_OUT_ON = conducting s → s.fg R.SAF_STAT_SRUN = 1 → s.soc.pulse = none →
    s.sysUp = true → Does (.runToken true w) s fun t => t.soc = { s.soc with peerSeq := some (w.toNat / 0x100000 % 256), peerAt := s.lt } ∧
      t.fg R.SAF_TOKEN_SSTATE = w.toNat / 0x10000000 % 8 ∧ SameRegs [R.SAF_TOKEN] s t) ∧
  (∀ (n : Nat) (w : Word) (s : State), s.soc.peerSeq = some n → w.toNat / 0x100000 % 256 ≠ (n + 1) % 256 →
    s.fg R.SAF_STAT_STATE = stRUN →
    s.sysUp = true → Does (.runToken true w) s fun t => Stopped cTOKCONF 0 0 s t ∧ Raised 0x02 islSOC t ∧
      t.fg R.SAF_TOKEN_CONFL = min 255 (s.fg R.SAF_TOKEN_CONFL + 1) ∧
      t.lastMsg = some (.down, [mDISAGREE, cTOKCONF])) ∧
  (∀ (n : Nat) (w : Word) (s : State), s.ssv.peerSeq = some n → w.toNat / 0x100000 % 256 = (n + 1) % 256 → s.ssv.st ≠ svSLEEP →
    w.toNat / 0x10000000 % 8 = stINIT → w.toNat.testBit 31 = false → s.ssv.run = false →
    s.rst.stackUp = true → Does (.runToken false w) s fun t => t = { s with ssv := { s.ssv with peerSeq := some (w.toNat / 0x100000 % 256), peerAt := s.lt } }) ∧
  (∀ (n : Nat) (w : Word) (s : State), s.ssv.peerSeq = some n → w.toNat / 0x100000 % 256 = (n + 1) % 256 → s.ssv.st ≠ svSLEEP →
    w.toNat / 0x10000000 % 8 = stINIT → w.toNat.testBit 31 = false → s.ssv.run = true →
    s.rst.stackUp = true → Does (.runToken false w) s fun t => t = { s with ssv := { s.ssv with
      peerSeq := some (w.toNat / 0x100000 % 256), peerAt := s.lt, st := svHOLD, run := false, judge := 0, dropAt := some s.lt } }) ∧
  (∀ (n l : Nat) (w : Word) (s : State), messageLane s.bar.txMap = some l → s.ssv.peerSeq = some n → w.toNat / 0x100000 % 256 ≠ (n + 1) % 256 → s.ssv.st ≠ svSLEEP →
    s.rst.stackUp = true → Does (.runToken false w) s fun t => t.ssv.st = svFAULT ∧ t.ssv.run = false ∧ t.ssv.cause = 5 ∧ t.ssv.dropAt = some s.lt ∧
      t.lastMsg = some (.up, [mDISAGREE, 5])) ∧
  (∀ s : State, s.due s.soc.peerAt 120000 = true → s.fg R.SAF_STAT_STATE = stRUN →
    s.sysUp = true → Does (.tokenMissing true) s fun t => Stopped cTOKMISS 0 0 s t ∧ Raised 0x02 islSOC t ∧
      t.fg R.SAF_TOKEN_MISS = min 255 (s.fg R.SAF_TOKEN_MISS + 1) ∧ t.soc.peerSeq = none) ∧
  (∀ (l : Nat) (s : State), messageLane s.bar.txMap = some l → s.due s.ssv.peerAt 120000 = true → s.ssv.st ≠ svSLEEP →
    s.rst.stackUp = true → Does (.tokenMissing false) s fun t => t.ssv.st = svFAULT ∧ t.ssv.run = false ∧ t.ssv.cause = 4 ∧ t.ssv.peerSeq = none ∧
      t.lastMsg = some (.up, [mDISAGREE, 4])) ∧
  (∀ s : State, s.fg R.SAF_STAT_STATE = stRUN →
    s.sysUp = true → Does (.disagreementNotice true 5) s fun t => Stopped cTOKCONF 0 0 s t ∧ Raised 0x02 islSOC t ∧ t.fg R.SAF_TOKEN_SCAUSE = 5) ∧
  (∀ s : State, s.rst.stackUp = true → Does (.disagreementNotice false cCHECK) s fun t => t.ssv.st = svFAULT ∧ t.ssv.run = false ∧ t.ssv.cause = 6 ∧
      t.regs = s.regs ∧ t.bar = s.bar) ∧
  (∀ (c : Nat) (s : State), s.fg R.SAF_STAT_STATE = stRUN →
    s.sysUp = true → Does (.runWithdrawal c) s fun t => Stopped (if c = 1 then cTRIP else cSTACK) 0 0 s t ∧ t.fg R.SAF_STAT_SRUN = 0 ∧
      t.fg R.SAF_TOKEN_SCAUSE = c % 256) ∧
  (∀ s : State, s.fg R.SAF_STAT_STATE = stRUN → s.soc.rampPend = false →
    s.sysUp = true → Does .supervisorScs1Request s fun t => if scs1Ok s = true then Ramps cSUPER 0 s t else Stopped cSUPER 0 0 s t) ∧
  (∀ s : State, s.rst.stackUp = true → mSLEEP ∈ s.bar.repDown → s.ssv.st ≠ svSLEEP →
    Does .sleepNotice s fun t => t.ssv.st = svSLEEP ∧ t.ssv.run = false ∧ t.ssv.cause = 9 ∧ t.stao = { sleepAt := s.lt, balRan := cells.any fun n => s.fg (R.BAL_TMR_TIME n) != 0 } ∧
      t.fg R.SAF_STAT_SRUN = 0 ∧ t.bal.asleep = true) ∧
  (∀ s : State, s.sysUp = true → Does .stackReleaseNotice s fun t => t.fg R.SAF_TOKEN_SCAUSE = 0x0A ∧ SameRegs [R.SAF_TOKEN] s t) ∧
  (∀ (n p : BitVec 6) (s : State), s.due (Smap.get (fun _ => 0) s.duty 6) 100000 = true → n.toNat = driven s → s.fg R.SAF_OUT_ON = driven s → s.soc.pulse = none → p.toNat &&& s.fg R.SAF_OUT_ON = 0 →
    s.sysUp = true → Does (.outputReadback n p) s fun t => t.regs = s.regs ∧ t.soc.readOn = n.toNat ∧
      (∀ k ∈ List.range 24, k % 4 < 3 → Smap.get (fun _ => 0) t.soc.rb k = 0)) ∧
  (∀ (o : Fin 6) (n p : BitVec 6) (s : State), s.due (Smap.get (fun _ => 0) s.duty 6) 100000 = true → o.val < 4 → s.tb R.SAF_OUT_ON o.val = false → s.soc.pulse = none →
    n.toNat.testBit o.val = true → s.rbCount o.val 0 = 2 → (∀ k ∈ List.range 6, k = o.val ∨ s.rbCount k 0 ≤ 1) →
    s.fg R.SAF_STAT_STATE = stRUN →
    s.sysUp = true → Does (.outputReadback n p) s fun t => t.tb R.SAF_RBF_STUCK o.val = true ∧ Raised 0x03 islSOC t ∧ Stopped cREADBACK o.val 0 s t) ∧
  (∀ (o : Fin 6) (s : State), pulseMay s o.val = true →
    s.sysUp = true → Does (.offPulseStart o) s fun t => t.soc.pulse = some (o.val, s.lt) ∧ t.soc.lastPulse = some s.lt ∧
      t.tb R.SAF_OUT_ON o.val = false ∧ SameRegs [R.SAF_OUT] s t) ∧
  (∀ (o a : Nat) (s : State), s.soc.pulse = some (o, a) → s.due a (1000 * s.fg R.SAF_OPT_OFFPW) = true →
    s.sysUp = true → Does (.offPulseEnd true) s fun t => t.soc = { s.soc with pulse := none } ∧ t.fg R.SAF_OUT_ON = conducting t ∧
      SameRegs [R.SAF_OUT] s t) ∧
  (∀ (o a : Nat) (s : State), s.soc.pulse = some (o, a) → o < 6 → s.due a (1000 * s.fg R.SAF_OPT_OFFPW) = true →
    s.sysUp = true → Does (.offPulseEnd false) s fun t => t.tb R.SAF_RBF_STUCK o = true ∧ Raised 0x03 islSOC t ∧
      (s.fg R.SAF_STAT_STATE = stRUN → t.fg R.SAF_STAT_STATE = stSAFE ∧ t.fg R.SAF_CAUSE_CAUSE = cREADBACK ∧
        t.fg R.SAF_CAUSE_INDEX = o)) ∧
  (∀ (o : Fin 6) (s : State), Does (.driverSelfOff o) s fun t => t.soc = { s.soc with togStop := setBit s.soc.togStop o.val true, pulse := t.soc.pulse } ∧
      (t.soc.pulse = s.soc.pulse ∨ t.soc.pulse = none) ∧ (s.soc.pulse.map (fun e => e.1) = some o.val → t.soc.pulse = none) ∧
      t.tb R.SAF_OUT_ON o.val = false ∧ t.fg R.SAF_OUT_ON = conducting t ∧ SameRegs [R.SAF_OUT] s t) ∧
  (∀ (o : Fin 6) (s : State), s.tb R.SAF_OUT_ON o.val = true →
    s.sysUp = true → Does (.driverCurrentLimit o) s fun t => t.soc = { s.soc with selfOff := setBit s.soc.selfOff o.val true, pulse := t.soc.pulse } ∧
      (t.soc.pulse = s.soc.pulse ∨ t.soc.pulse = none) ∧ (s.soc.pulse.map (fun e => e.1) = some o.val → t.soc.pulse = none) ∧
      t.tb R.SAF_OUT_ON o.val = false ∧ t.fg R.SAF_OUT_ON = conducting t ∧ SameRegs [R.SAF_OUT] s t) ∧
  (∀ (k : Bool) (g : BitVec 6) (s : State), s.due (Smap.get (fun _ => 0) s.duty 7) 1000000 = true → (k = false ∨ s.fg R.SAF_OUT_ON &&& g.toNat ≠ s.fg R.SAF_OUT_ON) →
    s.sysUp = true → Does (.socSelfCheck k g) s fun t => t.fg R.SAF_OUT_ON = 0 ∧ Raised 0x04 islSOC t ∧ SameRegs [R.SAF_OUT, R.FLT_ISL islSOC] s t) ∧
  (∀ (g : BitVec 6) (s : State), s.due (Smap.get (fun _ => 0) s.duty 7) 1000000 = true → s.fg R.SAF_OUT_ON &&& g.toNat = s.fg R.SAF_OUT_ON → s.sysUp = true → Does (.socSelfCheck true g) s fun t =>
      t = { s with duty := Smap.set (fun _ => 0) s.duty 7 s.lt })

/-- A PDU that passes R464 makes its connection live, counts, and leaves its data; on a DEMAND connection FS stops. An unknown CID raises 0x38, a wrong check is counted, and nothing is answered. A connection without a PDU for TE is not live, its data read 0, and ACT stops. A producer sends its PDU as PERIOD passes and asks for its peer's session. A wrong system checksum stops with source 0x02 or faults SSV; an unchanged one does nothing. A reset stack half is rewritten with the set in force. -/
def Obligations.BlackChannelAndChecksumsTakeEffect : Prop :=
  (∀ (p q : Packet) (k n : Nat) (b : List Byte) (s s1 : State), Admits 0x70 p s q s1 → q.payload = b → n = u8 b 8 →
    b.length = 16 + n → (s1.consumers.find? fun k => s1.fg (R.SAF_CONN_W0_CID k) == u32 b 0) = some k →
    u32 b (12 + n) = safetyCrc (b.take (12 + n)) → pduFieldsBad s1 k b = false → s1.fg (R.SAF_CONN_W1_USE k) ≠ 1 →
    ((s1.conn k).lastSeq = none ∨ ∃ z ∈ (s1.conn k).lastSeq, 1 ≤ (u16 b 4 + 65536 - z) % 65536 ∧ (u16 b 4 + 65536 - z) % 65536 ≤ 32767) →
    Does (.safetyPdu p) s fun t => t.fg (R.SAF_CONN_W3_LIVE k) = 1 ∧ (t.conn k).lastSeq = some (u16 b 4) ∧ (t.conn k).lastAt = s1.lt ∧
      t.fg (R.SAF_CONN_W3_VALID k) = (s1.fg (R.SAF_CONN_W3_VALID k) + 1) % 2 ^ 15 ∧ t.out = s1.out ∧
      (∀ w ∈ List.range 16, t.reg (R.SAF_RXD k w) = w32 (u32 ((b.drop 12).take n) (4 * w)))) ∧
  (∀ (p q : Packet) (k : Nat) (b : List Byte) (s s1 : State), Admits 0x70 p s q s1 → q.payload = b → b.length = 16 + u8 b 8 →
    (s1.consumers.find? fun k => s1.fg (R.SAF_CONN_W0_CID k) == u32 b 0) = some k →
    u32 b (12 + u8 b 8) = safetyCrc (b.take (12 + u8 b 8)) → pduFieldsBad s1 k b = false → s1.fg (R.SAF_CONN_W1_USE k) = 1 →
    pduDemandBad b = false → u8 b 9 = 1 → (s1.conn k).lastSeq = none → s1.fg R.SAF_STAT_STATE = stRUN → s1.fg R.SAF_CFG_DSRC = 0 →
    Does (.safetyPdu p) s fun t => t.fg (R.SAF_CONN_W3_LIVE k) = 1 ∧ Stopped cDEMCONN k 0 s1 t) ∧
  (∀ (p q : Packet) (s s1 : State), Admits 0x70 p s q s1 → q.payload.length = 16 + u8 q.payload 8 →
    (s1.consumers.find? fun k => s1.fg (R.SAF_CONN_W0_CID k) == u32 q.payload 0) = none →
    Does (.safetyPdu p) s fun t => t.fg R.SAF_PDUERR_UNKN = min 65535 (s1.fg R.SAF_PDUERR_UNKN + 1) ∧ Raised 0x38 islSOC t ∧
      t.out = s1.out ∧ SameRegs [R.SAF_PDUERR, R.FLT_ISL islSOC] s1 t) ∧
  (∀ (p q : Packet) (k : Nat) (s s1 : State), Admits 0x70 p s q s1 → q.payload.length = 16 + u8 q.payload 8 →
    (s1.consumers.find? fun k => s1.fg (R.SAF_CONN_W0_CID k) == u32 q.payload 0) = some k →
    u32 q.payload (12 + u8 q.payload 8) ≠ safetyCrc (q.payload.take (12 + u8 q.payload 8)) → (s1.conn k).crcAt = [] →
    Does (.safetyPdu p) s fun t => t.fg (R.SAF_CONN_W3_CRCF k) = min 255 (s1.fg (R.SAF_CONN_W3_CRCF k) + 1) ∧
      t.out = s1.out ∧ (t.conn k).crcAt = [s1.lt] ∧ SameRegs [R.SAF_CONN_W3 k] s1 t) ∧
  (∀ (k : Fin 8) (s : State), s.fg (R.SAF_CONN_W1_ROLE k.val) = 1 → (s.conn k.val).late = false → s.sysUp = true →
    s.due (s.conn k.val).lastAt (1000000 * s.fg (R.SAF_CONN_W2_TE k.val)) = true →
    Does (.connectionTimeout k) s fun t => t.fg (R.SAF_CONN_W3_LIVE k.val) = 0 ∧ t.fg R.SAF_STAT_CONN = k.val ∧
      (∀ w ∈ List.range 16, t.reg (R.SAF_RXD k.val w) = 0) ∧
      (s.fg (R.SAF_CONN_W1_ACT k.val) = 2 → s.fg R.SAF_STAT_STATE = stRUN → Stopped cCONN k.val 0 s t)) ∧
  (∀ (k : Fin 8) (s : State), s.fg (R.SAF_CONN_W1_ROLE k.val) = 2 → (s.conn k.val).nextAt ≤ s.lt →
    addrMode (s.fg (R.SAF_CONN_W1_PEER k.val)) = 0xC → addrField (s.fg (R.SAF_CONN_W1_PEER k.val)) = s.ownAddr →
    s.hst.replies.length < 8 → s.sysUp = true →
    Does (.producerPdu k) s fun t => (t.conn k.val).pSeq = ((s.conn k.val).pSeq + 1) % 65536 ∧
      (t.conn k.val).pCount = (s.conn k.val).pCount + 1 ∧ t.regs = s.regs ∧
      (t.conn k.val).nextAt = s.lt + 1000000 * s.fg (R.SAF_CONN_W2_PERIOD k.val) ∧
      t.hst.replies.length = s.hst.replies.length + 1 ∧
      (t.hst.replies.getLast?.map fun b => sliceBytes b 16 (producerPduBytes s k.val).length) = some (producerPduBytes s k.val)) ∧
  (∀ (k : Fin 8) (s : State), s.fg (R.SAF_CONN_W1_ROLE k.val) = 2 → addrMode (s.fg (R.SAF_CONN_W1_PEER k.val)) = 0 →
    s.due (s.conn k.val).fetchAt 1000000000 = true → s.sysUp = true →
    Does (.producerSessionFetch k) s fun t => (t.conn k.val).fetchAt = s.lt ∧ fetchTag k.val ∈ t.cp.await ∧ t.soc.dropAt = s.soc.dropAt) ∧
  (∀ s : State, s.sysUp = true → s.due (Smap.get (fun _ => 0) s.duty 8) 10000000 = true → s.fb R.SAF_STAT_LOADED = true →
    s.fg R.SAF_STAT_STATE = stRUN → yckOf s.reg ≠ (s.reg R.SAF_YCK).toNat →
    Does (.checksumRecompute true) s fun t => Stopped cCHECK 0 0 s t ∧ Raised 0x02 islSOC t) ∧
  (∀ s : State, s.sysUp = true → s.due (Smap.get (fun _ => 0) s.duty 8) 10000000 = true →
    (s.fb R.SAF_STAT_LOADED = true → yckOf s.reg = (s.reg R.SAF_YCK).toNat) →
    Does (.checksumRecompute true) s fun t => t = { s with duty := Smap.set (fun _ => 0) s.duty 8 s.lt }) ∧
  (∀ (l : Nat) (s : State), messageLane s.bar.txMap = some l → s.rst.stackUp = true →
    s.due (Smap.get (fun _ => 0) s.duty 9) 10000000 = true → s.fb R.SAF_STAT_LOADED = true → s.fg R.SAF_STAT_STATE ≠ stINIT →
    s.soc.setOk = true → stackSck s ≠ s.committedSck →
    Does (.checksumRecompute false) s fun t => t.ssv.st = svFAULT ∧ t.ssv.cause = 6 ∧ t.lastMsg = some (.up, [mDISAGREE, 6])) ∧
  (∀ (r : SafRec) (s : State), s.safRec = some r → s.fb R.SAF_STAT_LOADED = true → s.soc.setOk = false → stackReachable s = true →
    s.sysUp = true → (∀ c ∈ s.change, c.phase ≠ 2) →
    Does .stackHalfRewrite s fun t => t.soc.setOk = true ∧ t.now = max s.now (50 * firstMultiple 1024 2000 s.now))

/-- The load puts the committed record in force and SOC in SAFE, or raises 0x3A. A right password opens a change with a handle, a wrong one counts and the fifth locks; staging keeps good words, commit hands the record to the journal, its durable copy names the switch epoch, the switch puts it in force, logs it and answers; close and 60 s end a change. The log is read and acknowledged; a new password is kept by its hash; LOCKOUT ends after 60 s. -/
def Obligations.SafetySetChangesTakeEffect : Prop :=
  (∀ (r : SafRec) (s : State), s.cpRuns = true → s.fg R.RST_STAT_STEP = 5 → s.fb R.SAF_STAT_LOADED = false → s.rst.setTried = false →
    s.safRec = some r → stackReachable s = true → s.fg R.SAF_STAT_STATE = stINIT → s.nv.foundOk = true → s.rst.fabHeld = false →
    s.rst.p0Held = false →
    Does .safetySetLoad s fun t => t.reg R.SAF_SCK = w32 r.sck ∧ t.reg R.SAF_YCK = w32 r.yck ∧ t.reg R.SAF_CKSUM = w32 r.ck ∧
      t.fg R.SAF_STAT_LOADED = 1 ∧ t.soc.setOk = true ∧ t.fg R.SAF_STAT_STATE = stSAFE ∧ t.fg R.SAF_OUT_ON = 0) ∧
  (∀ s : State, s.cpRuns = true → s.fg R.RST_STAT_STEP = 5 → s.fb R.SAF_STAT_LOADED = false → s.rst.setTried = false → s.safRec = none →
    Does .safetySetLoad s fun t => Raised 0x3A islNVF t ∧ t.rst.setTried = true ∧ SameRegs [R.FLT_ISL islNVF] s t) ∧
  (∀ (p q : Packet) (w : List Byte) (s s1 : State), Admits 0x71 p s q s1 → q.noReply = false → q.payload.length = 36 →
    s1.pwd.lockAt = none → passwordField q.payload 0 = some w → pwDefault s1 = false → s1.change = none → realVia q.via →
    Does (.safesetOpen p) s fun t => (if pwRight s1 w = true then t.lastReply = some [0, 0] ∧ t.pwd = { s1.pwd with fails := 0 } ∧
        t.change = some { handle := Config.freeValue s1.freeCtr % 2 ^ 32, at_ := s1.lt } ∧ t.fg R.SAF_STAT_OPEN = 1 ∧
        t.lastBody = some (leBytes 4 (Config.freeValue s1.freeCtr % 2 ^ 32))
      else t.lastReply = some [3, 0x14] ∧ t.change = none ∧ t.pwd.fails = min 255 (s1.pwd.fails + 1) ∧
        t.pwd.lockAt = if 5 ≤ min 255 (s1.pwd.fails + 1) then some s1.lt else none)) ∧
  (∀ (p q : Packet) (c : SafChange) (st : Stat) (l : List (Nat × Word)) (s s1 : State), Admits 0x72 p s q s1 → q.noReply = false →
    q.payload.length = 16 → leAt q.payload 4 4 = 1 → openChange q s1 = some c →
    stageOne s1 c.staged (u32 q.payload 8) (w32 (u32 q.payload 12)) = (st, l) →
    Does (.safesetStage p) s fun t => t.lastReply = some [st.code, if st.code = 0 then 0 else st.reason] ∧
      t.change = some { c with staged := l, at_ := s1.lt }) ∧
  (∀ (p q : Packet) (c : SafChange) (s s1 : State), Admits 0x73 p s q s1 → q.payload.length = 4 → openChange q s1 = some c →
    s1.energised = false → s1.fg R.SAF_STAT_STATE ≠ stSTARTING → s1.nv.jphase = 0 → s1.cad.deed = none →
    s1.fb R.CAD_STAT_SCRUB = false → s1.nv.logUnack < 64 → setInvalid (mergedSet s1 c.staged) = false →
    Does (.safesetCommit p) s fun t => t.out = s1.out ∧ t.nv.jphase = 1 ∧ t.nv.jobs = s1.nv.jobs ++ [{ kind := 2, req := q }] ∧
      t.change = some { c with phase := 1, newRec := buildRecord q c.staged s1, req := q, at_ := s1.lt }) ∧
  (∀ (j : NvJob) (l : List NvJob) (c : SafChange) (s : State), s.nv.jphase = 1 → s.nv.jobs = j :: l → j.kind = 2 → s.change = some c →
    c.phase = 1 →
    Does .safesetRecordCommitted s fun t => t.nv.jphase = 2 ∧ t.cnt 2 = min 4294967295 (s.cnt 2 + 1) ∧
      t.change = some { c with phase := 2, newRec := { c.newRec with seq := t.cnt 2 }, epoch := firstMultiple 1024 2000 s.now } ∧
      (t.nv.safA = some { c.newRec with seq := t.cnt 2 } ∨ t.nv.safB = some { c.newRec with seq := t.cnt 2 })) ∧
  (∀ (c : SafChange) (s : State), s.change = some c → c.phase = 2 → s.sysUp = true → c.req.noReply = false → realVia c.req.via →
    Does .safetySetSwitch s fun t => t.change = none ∧ t.fg R.SAF_STAT_OPEN = 0 ∧ t.reg R.SAF_SCK = w32 c.newRec.sck ∧
      t.reg R.SAF_YCK = w32 c.newRec.yck ∧ t.reg R.SAF_CKSUM = w32 c.newRec.ck ∧ t.fg R.SAF_STAT_LOADED = 1 ∧
      t.now = max s.now (50 * c.epoch) ∧ t.nv.logNext = (s.nv.logNext + 1) % 64 ∧ t.nv.logUnack = s.nv.logUnack + 1 ∧
      t.nv.log = Smap.put s.nv.log s.nv.logNext c.newRec.entry ∧ t.lastReply = some [0, 0] ∧
      t.lastBody = some (leBytes 4 c.newRec.ck ++ leBytes 2 s.nv.logNext)) ∧
  (∀ (p q : Packet) (c : SafChange) (s s1 : State), Admits 0x74 p s q s1 → q.noReply = false → q.payload.length = 4 →
    openChange q s1 = some c → realVia q.via →
    Does (.safesetClose p) s fun t => t.lastReply = some [0, 0] ∧ t.change = none ∧ t.fg R.SAF_STAT_OPEN = 0) ∧
  (∀ (c : SafChange) (s : State), s.change = some c → c.phase = 0 → s.due c.at_ 60000000000 = true →
    Does .safesetChangeExpiry s fun t => t.change = none ∧ t.fg R.SAF_STAT_OPEN = 0 ∧ SameRegs [R.SAF_STAT] s t) ∧
  (∀ (p q : Packet) (s s1 : State), Admits 0x75 p s q s1 → q.noReply = false → q.payload.length = 2 → u8 q.payload 0 ≤ 63 →
    1 ≤ u8 q.payload 1 → u8 q.payload 1 ≤ 64 → q.auth = none →
    Does (.safelogRead p) s fun t => t.lastReply = some [0, 0] ∧ t.nv = s1.nv ∧
      t.lastBody = some (leBytes 4 (min (u8 q.payload 1) 63) ++ (List.range (min (u8 q.payload 1) 63)).flatMap fun i =>
        match s1.nv.log.find? fun (e : Nat × LogEnt) => e.1 == (u8 q.payload 0 + i) % 64 with
        | some e => e.2.bytes
        | none => List.replicate 32 0)) ∧
  (∀ (p q : Packet) (d : Nat) (s s1 : State), Admits 0x76 p s q s1 → q.noReply = false → q.payload.length = 1 → u8 q.payload 0 ≤ 63 →
    s1.nv.logUnack ≤ 64 → s1.nv.logNext < 64 → d < s1.nv.logUnack → u8 q.payload 0 = (s1.nv.logNext + 64 - s1.nv.logUnack + d) % 64 →
    Does (.safelogAck p) s fun t => t.lastReply = some [0, 0] ∧ t.nv = { s1.nv with logUnack := s1.nv.logUnack - d - 1 }) ∧
  (∀ (p q : Packet) (o w : List Byte) (s s1 : State), Admits 0x77 p s q s1 → q.noReply = false → q.payload.length = 72 →
    s1.pwd.lockAt = none → passwordField q.payload 0 = some o → passwordField q.payload 36 = some w → s1.nv.logUnack < 64 →
    Does (.safePassword p) s fun t => (if pwRight s1 o = true then t.lastReply = some [0, 0] ∧
        t.nv.pwSalt = leBytes 16 (Config.freeValue s1.freeCtr) ∧ t.pwd = { s1.pwd with fails := 0 } ∧
        t.nv.pwHash = Config.pbkdf2 w (leBytes 16 (Config.freeValue s1.freeCtr)) ∧
        t.cnt 2 = min 4294967295 (s1.cnt 2 + 1) ∧ t.nv.logUnack = s1.nv.logUnack + 1
      else t.lastReply = some [3, 0x14] ∧ t.nv = s1.nv ∧ t.pwd.fails = min 255 (s1.pwd.fails + 1))) ∧
  (∀ (a : Nat) (s : State), s.pwd.lockAt = some a → s.due a 60000000000 = true →
    Does .passwordLockoutEnd s fun t => t = { s with pwd := { s.pwd with lockAt := none } })

/-- Of the events at the collector the earliest is taken, at one instant the lowest code. With no entry open it writes the next entry of the history: source, class, island, parameter, datum and sequence; in a full queue it is counted as an overwrite. With an entry open whose handling goes on it is merged: MERGE, the last source, the higher class and the sequence step. An F0 event in RUN stops with initiator 0x0D. A closed condition clears OPEN, a waiting stack-die event reaches the collector, and HCLR empties the queue and keeps the sequence. While the tone is good FTOUT toggles; when it ceases to be, FTOUT is high. Edges of FTIN at good intervals count up to INGOOD; a short interval or 400 us without one ends INGOOD, counts and raises 0x6D. The health message reaches the stack half, and its absence for 300 us ends OWNGOOD. -/
def Obligations.FaultCommandsTakeEffect : Prop :=
  (∀ (e : FltEv) (j : Nat) (s : State), e ∈ s.flt.arriving → (∀ x ∈ s.flt.arriving, x = e ∨ e.at_ < x.at_ ∨ e.at_ = x.at_ ∧ e.code < x.code) →
    s.fb R.FLT_STAT_OPEN = false → e.cls < 3 → j = (s.fg R.FLT_HSEQ_NEWEST + 1) % 32 →
    Does .faultEvent s fun t => t.reg (R.FLT_HQ_W0 j) = w32 (e.code * 2 ^ 24 + e.cls * 2 ^ 22 + e.isl * 2 ^ 16 + e.param) ∧
      t.reg (R.FLT_HQ_W1 j) = w32 s.now ∧ t.reg (R.FLT_HQ_W2 j) = w32 (s.now / 2 ^ 32) ∧
      t.reg (R.FLT_HQ_W3 j) = w32 ((s.fg R.FLT_HSEQ_SEQ + 1) % 65536) ∧ t.fg R.FLT_HSEQ_NEWEST = j ∧
      t.fg R.FLT_HSEQ_SEQ = (s.fg R.FLT_HSEQ_SEQ + 1) % 65536 ∧ t.fg R.FLT_STAT_OPEN = 1 ∧
      (s.fg R.FLT_STAT_NENT = 32 → t.fg R.FLT_STAT_NENT = 32 ∧ t.fg R.FLT_STAT_OVW = min 255 (s.fg R.FLT_STAT_OVW + 1)) ∧
      (s.fg R.FLT_STAT_NENT < 32 → t.fg R.FLT_STAT_NENT = s.fg R.FLT_STAT_NENT + 1 ∧ t.fg R.FLT_STAT_OVW = s.fg R.FLT_STAT_OVW) ∧
      t.flt.arriving = s.flt.arriving.erase e ∧ t.out = s.out ∧ t.fg R.SAF_STAT_STATE = s.fg R.SAF_STAT_STATE) ∧
  (∀ (e : FltEv) (j : Nat) (s : State), e ∈ s.flt.arriving → (∀ x ∈ s.flt.arriving, x = e ∨ e.at_ < x.at_ ∨ e.at_ = x.at_ ∧ e.code < x.code) →
    s.fb R.FLT_STAT_OPEN = true → e.cls < 3 → e.code < 256 → s.flt.openCls ≤ 3 → j = s.fg R.FLT_HSEQ_NEWEST →
    (s.flt.openCls = 3 → (s.energised = true ∨ s.toggling = true) ∧ s.now < s.flt.openAt + 100000) →
    (s.flt.openCls ≠ 3 → s.now < (s.flt.openAt / 10000 + 2) * 10000) →
    Does .faultEvent s fun t => t.fg (R.FLT_HQ_W3_MERGE j) = min 255 (s.fg (R.FLT_HQ_W3_MERGE j) + 1) ∧
      t.fg (R.FLT_HQ_W3_LASTSRC j) = e.code ∧ t.fg (R.FLT_HQ_W3_SEQ j) = s.fg (R.FLT_HQ_W3_SEQ j) ∧
      t.fg (R.FLT_HQ_W0_CLASS j) = max s.flt.openCls e.cls ∧ t.fg (R.FLT_HQ_W0_SRC j) = s.fg (R.FLT_HQ_W0_SRC j) ∧
      t.reg (R.FLT_HQ_W1 j) = s.reg (R.FLT_HQ_W1 j) ∧ t.fg R.FLT_HSEQ_NEWEST = j ∧
      t.fg R.FLT_HSEQ_SEQ = (s.fg R.FLT_HSEQ_SEQ + 1) % 65536 ∧ t.fg R.FLT_STAT_OPEN = 1 ∧
      t.flt.arriving = s.flt.arriving.erase e ∧ t.out = s.out) ∧
  (∀ (e : FltEv) (j : Nat) (s : State), s.flt.arriving = [e] → s.fb R.FLT_STAT_OPEN = true → s.flt.openCls ≠ 3 →
    (s.flt.openAt / 10000 + 2) * 10000 ≤ s.now → e.cls < 3 → j = (s.fg R.FLT_HSEQ_NEWEST + 1) % 32 →
    Does .faultEvent s fun t => t.reg (R.FLT_HQ_W0 j) = w32 (e.code * 2 ^ 24 + e.cls * 2 ^ 22 + e.isl * 2 ^ 16 + e.param) ∧
      t.reg (R.FLT_HQ_W1 j) = w32 s.now ∧ t.fg R.FLT_HSEQ_NEWEST = j ∧ t.fg R.FLT_STAT_OPEN = 1 ∧ t.flt.openAt = s.now ∧
      t.flt.openCls = e.cls ∧ t.out = s.out) ∧
  (∀ (e : FltEv) (s : State), e ∈ s.flt.arriving → (∀ x ∈ s.flt.arriving, x = e ∨ e.at_ < x.at_ ∨ e.at_ = x.at_ ∧ e.code < x.code) →
    e.cls = 3 → s.fg R.SAF_STAT_STATE = stRUN →
    Does .faultEvent s fun t => Stopped cF0 0 0 s t ∧ t.fg R.FLT_STAT_OPEN = 1 ∧ 3 ≤ t.flt.openCls ∧
      t.fg R.FLT_HSEQ_SEQ = (s.fg R.FLT_HSEQ_SEQ + 1) % 65536 ∧ t.flt.arriving = s.flt.arriving.erase e) ∧
  (∀ s : State, s.fb R.FLT_STAT_OPEN = true → s.flt.openCls ≠ 3 → (s.flt.openAt / 10000 + 2) * 10000 ≤ s.now →
    Does .historyEntryClose s fun t => t.fg R.FLT_STAT_OPEN = 0 ∧ SameRegs [R.FLT_STAT] s t) ∧
  (∀ s : State, s.fb R.FLT_STAT_OPEN = true → s.flt.openCls = 3 → s.flt.openAt + 100000 ≤ s.now →
    Does .historyEntryClose s fun t => t.fg R.FLT_STAT_OPEN = 0 ∧ SameRegs [R.FLT_STAT] s t) ∧
  (∀ s : State, s.fb R.FLT_STAT_OPEN = true → s.flt.openCls = 3 → s.energised = false → s.toggling = false →
    Does .historyEntryClose s fun t => t.fg R.FLT_STAT_OPEN = 0 ∧ SameRegs [R.FLT_STAT] s t) ∧
  (∀ (c : Nat) (e : FltEv) (l : List FltEv) (s : State), messageLane s.bar.txMap = some c → s.stackQ = e :: l → s.upWorks = true →
    Does .stackFaultResend s fun t => t.stackQ = l ∧ t.flt.arriving = s.flt.arriving ++ [{ e with at_ := s.lt }] ∧ t.regs = s.regs ∧
      t.lastMsg = some (.up, [mFAULT, e.code, e.isl, e.param])) ∧
  (∀ (v : Word) (s : State), accessCheck s R.FLT_CTRL (w32 (setBit v.toNat 31 true)) = none →
    Does (.historyClear v) s fun t => t.fg R.FLT_STAT_NENT = 0 ∧ t.fg R.FLT_STAT_OVW = 0 ∧ t.fg R.FLT_STAT_OPEN = 0 ∧
      t.fg R.FLT_HSEQ_NEWEST = 31 ∧ t.fg R.FLT_HSEQ_SEQ = s.fg R.FLT_HSEQ_SEQ ∧
      (∀ j ∈ List.range 32, t.reg (R.FLT_HQ_W0 j) = 0 ∧ t.reg (R.FLT_HQ_W1 j) = 0 ∧ t.reg (R.FLT_HQ_W2 j) = 0 ∧ t.reg (R.FLT_HQ_W3 j) = 0) ∧
      t.lastOut = some { ch := .status, args := [0, 0, 0] }) ∧
  (∀ s : State, s.rst.stackUp = true → s.due (Smap.get (fun _ => 0) s.duty 11) 250000 = true → s.toneGood = true →
    Does .faultToneTick s fun t => t.tone = { s.tone with level := !s.tone.level, tog := true } ∧ t.regs = s.regs ∧
      t.lastOut = some { ch := .pin, args := [2, b2n (!s.tone.level)] }) ∧
  (∀ s : State, s.rst.stackUp = true → s.due (Smap.get (fun _ => 0) s.duty 11) 250000 = true → s.toneGood = false →
    Does .faultToneTick s fun t => (if s.tone.tog = true then t.tone = { s.tone with level := true, tog := false } ∧
      t.lastOut = some { ch := .pin, args := [2, 1] }
      else t = { s with duty := Smap.set (fun _ => 0) s.duty 11 s.lt })) ∧
  (∀ (x : Nat) (s : State), s.rst.stackUp = true → s.tone.edgeAt = some x → 200000 ≤ s.lt - x → s.lt - x ≤ 300000 →
    Does .ftinEdge s fun t => t.tone.edgeAt = some s.lt ∧ t.tone.good = min 8 (s.tone.good + 1) ∧ t.regs = s.regs ∧
      (8 ≤ s.tone.good + 1 → t.tone.inGood = true) ∧ (s.tone.good + 1 < 8 → t.tone.inGood = s.tone.inGood)) ∧
  (∀ (x : Nat) (s : State), s.rst.stackUp = true → s.tone.edgeAt = some x → s.lt - x ≤ 150000 → s.tone.inGood = true →
    s.stackQ.length < 16 →
    Does .ftinEdge s fun t => t.tone.inGood = false ∧ t.tone.good = 0 ∧ Raised 0x6D islSSV t ∧
      t.fg R.FLT_TONE_INLOST = min 255 (s.fg R.FLT_TONE_INLOST + 1) ∧
      (s.tone.tog = true → s.tone.head = false → t.tone.level = true) ∧ SameRegs [R.FLT_TONE, R.FLT_ISL islSSV] s t) ∧
  (∀ (x : Nat) (s : State), s.rst.stackUp = true → s.tone.edgeAt = some x → s.due x 400000 = true → s.tone.inGood = true → s.stackQ.length < 16 →
    Does .ftinTimeout s fun t => t.tone.inGood = false ∧ t.tone.good = 0 ∧ Raised 0x6D islSSV t ∧
      t.fg R.FLT_TONE_INLOST = min 255 (s.fg R.FLT_TONE_INLOST + 1) ∧ SameRegs [R.FLT_TONE, R.FLT_ISL islSSV] s t) ∧
  (∀ s : State, s.downWorks = true → s.tone.tog = false → s.due (Smap.get (fun _ => 0) s.duty 10) 100000 = true →
    Does .healthMessage s fun t => t.tone = { s.tone with health := s.healthGood, healthAt := s.lt } ∧ t.regs = s.regs ∧
      t.lastMsg = some (.down, [mHEALTH, b2n s.healthGood])) ∧
  (∀ s : State, s.rst.stackUp = true → s.due s.tone.healthAt 300000 = true →
    Does .healthTimeout s fun t => t.tone.health = false ∧ t.ownGood = false ∧ t.regs = s.regs ∧
      (s.tone.tog = true → t.tone.level = true ∧ t.tone.tog = false ∧ t.lastOut = some { ch := .pin, args := [2, 1] }))

/-- The power-up test that nothing fails completes release step 4; a failed CP is held and the release stays; a failed fabric is held; a failed plot is retired and reported, PL00 and PL01 as safety blocks with 0x0A. A visit advances the cursor: to the spare it tests nothing, a free plot is reset and tested, a placed plot's slot begins its move to the spare at a freeze epoch, and a visit that must wait only notes the attempt. A passed test is counted and frees its plot or makes it the spare; a failed one retires the plot and raises 0x3C. The patrol counts a corrected word, and counts and raises 0x41 for an uncorrectable one. A test on request is turned away while an output conducts; else RESULT tells its outcome, and the plots that fail are retired. -/
def Obligations.SelfTestCommandsTakeEffect : Prop :=
  (∀ (b : BitVec 32) (s : State), s.cpRuns = true → s.fg R.RST_STAT_STEP = 3 →
    (∀ p ∈ List.range 32, p < s.plotsFit → s.nv.retired.testBit p = false → b.toNat.testBit p = false) →
    Does (.powerUpSelfTest false false b) s fun t => t.fg R.BST_STAT_DONE = 1 ∧ t.fg R.BST_STAT_NPLF = 0 ∧ t.fg R.RST_STAT_STEP = 4 ∧
      t.rst.stepAt = s.lt ∧ t.rst.cpFailed = false ∧ t.flt = s.flt ∧ SameRegs [R.BST_STAT, R.RST_STAT] s t) ∧
  (∀ (f : Bool) (b : BitVec 32) (s : State), s.cpRuns = true → s.fg R.RST_STAT_STEP = 3 →
    Does (.powerUpSelfTest true f b) s fun t => t.fg R.BST_STAT_CPF = 1 ∧ t.fg R.BST_STAT_HOLD = 1 ∧ t.fg R.RST_STAT_STEP = 3 ∧
      t.cpRuns = false ∧ t.tb R.RST_CAUSE_CAUSE 10 = true ∧ Raised 0x0A islTST t ∧
      SameRegs [R.BST_STAT, R.RST_CAUSE, R.FLT_ISL islTST] s t) ∧
  (∀ s : State, s.cpRuns = true → s.fg R.RST_STAT_STEP = 3 →
    Does (.powerUpSelfTest false true 0) s fun t => t.fg R.BST_STAT_FABF = 1 ∧ t.fg R.BST_STAT_HOLD = 1 ∧ t.fg R.RST_STAT_STEP = 4 ∧
      t.rst.fabHeld = true ∧ t.tb R.RST_CAUSE_CAUSE 10 = true ∧ Raised 0x0A islTST t ∧
      SameRegs [R.BST_STAT, R.RST_CAUSE, R.RST_STAT, R.FLT_ISL islTST] s t) ∧
  (∀ (p : Fin 32) (s : State), s.cpRuns = true → s.fg R.RST_STAT_STEP = 3 → p.val < s.plotsFit → s.nv.retired.testBit p.val = false →
    Does (.powerUpSelfTest false false (BitVec.ofNat 32 (2 ^ p.val))) s fun t => t.tb R.BST_PLFAIL_PLOT p.val = true ∧
      t.fg R.BST_STAT_NPLF = 1 ∧ t.fg R.BST_STAT_HOLD = 1 ∧ t.fg R.RST_STAT_STEP = 4 ∧ t.tb R.ENG_RETIRED_RET p.val = true ∧
      t.fg (R.ENG_PLSTAT_STATE p.val) = psRETIRED ∧ p.val ∈ t.rst.held ∧ Raised (if p.val < 2 then 0x0A else 0x3C) islTST t ∧
      (p.val < 2 → t.rst.p0Held = true)) ∧
  (∀ (p : Nat) (s : State), s.cpRuns = true → s.nrot ≠ 0 → s.fb R.BST_ROT_EN = true → s.spare < 32 → s.fb R.CAD_STAT_RESTORED = true →
    (∀ v ∈ s.bst.visitAt, s.due v (1000000000 * s.fg R.BST_ROT_PERIOD / max 1 s.nrot) = true) → (∀ v ∈ s.bst.triedAt, s.due v 1000000000 = true) →
    s.arr.move = none → s.fg R.BST_STAT_TESTPLOT = 0x3F → visitPlot s = some p → visitDeferred s p = false → p = s.spare →
    Does .spareVisit s fun t => t.bst = { s.bst with visitAt := some s.lt, triedAt := none } ∧ t.arr = s.arr ∧
      t.fg R.BST_ROT_CURSOR = nextCursor s p ∧ SameRegs [R.BST_ROT] s t) ∧
  (∀ (p : Nat) (s : State), s.cpRuns = true → s.nrot ≠ 0 → s.fb R.BST_ROT_EN = true → s.spare < 32 → s.fb R.CAD_STAT_RESTORED = true →
    (∀ v ∈ s.bst.visitAt, s.due v (1000000000 * s.fg R.BST_ROT_PERIOD / max 1 s.nrot) = true) → (∀ v ∈ s.bst.triedAt, s.due v 1000000000 = true) →
    s.arr.move = none → s.fg R.BST_STAT_TESTPLOT = 0x3F → visitPlot s = some p → visitDeferred s p = false → p ≠ s.spare →
    s.placed p = none →
    Does .spareVisit s fun t => t.bst = { s.bst with visitAt := some s.lt, triedAt := none, parcel := 0 } ∧
      t.fg R.BST_ROT_CURSOR = nextCursor s p ∧ t.fg R.BST_STAT_TESTPLOT = p ∧ t.fg (R.ENG_PLSTAT_STATE p) = psTEST ∧
      (t.plot p).mem = [] ∧ (∀ x ∈ engines p, (t.engine x).key = 0 ∧ (t.engine x).imem = [])) ∧
  (∀ (p q n : Nat) (s : State), s.cpRuns = true → s.nrot ≠ 0 → s.fb R.BST_ROT_EN = true → s.spare < 32 → s.fb R.CAD_STAT_RESTORED = true →
    (∀ v ∈ s.bst.visitAt, s.due v (1000000000 * s.fg R.BST_ROT_PERIOD / max 1 s.nrot) = true) → (∀ v ∈ s.bst.triedAt, s.due v 1000000000 = true) →
    s.arr.move = none → s.fg R.BST_STAT_TESTPLOT = 0x3F → visitPlot s = some p → visitDeferred s p = false → p ≠ s.spare →
    s.placed p = some (q, n) →
    Does .spareVisit s fun t => t.bst = { s.bst with visitAt := some s.lt, triedAt := none, parcel := q + 1, slot := n } ∧
      t.fg R.BST_ROT_CURSOR = nextCursor s p ∧ t.fg R.BST_STAT_TESTPLOT = 0x3F ∧
      t.plotState p = psMIGR ∧ t.plotState s.spare = psMIGR ∧ t.arr.move = some {
        q := q, slot := n, src := p, dst := s.spare, epoch := firstMultiple 1024 2000 s.now,
        parallel := (engines p).any fun x => (s.engine x).key != 0 && (s.engine x).par }) ∧
  (∀ (p : Nat) (s : State), s.cpRuns = true → s.nrot ≠ 0 → s.fb R.BST_ROT_EN = true → s.spare < 32 → s.fb R.CAD_STAT_RESTORED = true →
    (∀ v ∈ s.bst.visitAt, s.due v (1000000000 * s.fg R.BST_ROT_PERIOD / max 1 s.nrot) = true) → (∀ v ∈ s.bst.triedAt, s.due v 1000000000 = true) →
    s.arr.move = none → s.fg R.BST_STAT_TESTPLOT = 0x3F → visitPlot s = some p → visitDeferred s p = true →
    Does .spareVisit s fun t => t = { s with bst := { s.bst with triedAt := some s.lt } }) ∧
  (∀ (p : Nat) (s : State), p = s.fg R.BST_STAT_TESTPLOT → p < 32 → s.plotState p = psTEST → s.bst.parcel = 0 →
    Does (.plotTestComplete true) s fun t => t.fg R.BST_LAST_RESULT = 1 ∧ t.fg R.BST_LAST_PLOT = p ∧ t.fg R.BST_STAT_TESTPLOT = 0x3F ∧
      t.fg R.BST_ONL_PASS = min 65535 (s.fg R.BST_ONL_PASS + 1) ∧ t.tb R.BST_PLFAIL_PLOT p = false ∧
      t.fg (R.ENG_PLSTAT_STATE p) ∈ [psOFF, psRESET, psIDLE, psHOLD] ∧ t.fg R.ENG_STAT_SPARE = s.fg R.ENG_STAT_SPARE) ∧
  (∀ (p : Nat) (s : State), p = s.fg R.BST_STAT_TESTPLOT → p < 32 → s.plotState p = psTEST → 2 ≤ s.bst.parcel →
    Does (.plotTestComplete true) s fun t => t.fg R.BST_LAST_RESULT = 1 ∧ t.fg R.BST_STAT_TESTPLOT = 0x3F ∧
      t.fg (R.ENG_PLSTAT_STATE p) = psSPARE ∧ t.fg R.ENG_STAT_SPARE = p) ∧
  (∀ (p : Nat) (s : State), p = s.fg R.BST_STAT_TESTPLOT → p < 32 → s.plotState p = psTEST → s.bst.parcel = 0 →
    Does (.plotTestComplete false) s fun t => t.fg R.BST_LAST_RESULT = 2 ∧ t.fg R.BST_LAST_PLOT = p ∧ t.fg R.BST_STAT_TESTPLOT = 0x3F ∧
      t.fg R.BST_ONL_FAIL = min 255 (s.fg R.BST_ONL_FAIL + 1) ∧ t.tb R.BST_PLFAIL_PLOT p = true ∧
      t.tb R.ENG_RETIRED_RET p = true ∧ t.fg (R.ENG_PLSTAT_STATE p) = psRETIRED ∧ Raised 0x3C islTST t) ∧
  (∀ (p : Fin 32) (s : State), p.val < s.plotsFit →
    Does (.memoryPatrol p 1) s fun t => t.fg (R.ENG_PLECC_COR p.val) = min 65535 (s.fg (R.ENG_PLECC_COR p.val) + 1) ∧ t.flt = s.flt ∧
      SameRegs [R.ENG_PLECC p.val] s t) ∧
  (∀ (p : Fin 32) (s : State), p.val < s.plotsFit →
    Does (.memoryPatrol p 2) s fun t => t.fg (R.ENG_PLECC_UNCOR p.val) = min 65535 (s.fg (R.ENG_PLECC_UNCOR p.val) + 1) ∧
      t.fg (R.ENG_PLFLT_ECCU p.val) = 1 ∧ Raised 0x41 p.val t ∧
      SameRegs [R.ENG_PLECC p.val, R.ENG_PLFLT p.val, R.FLT_ISL p.val] s t) ∧
  (∀ (b : BitVec 32) (v : Word) (s : State), accessCheck s R.BST_CTL (w32 (setBit v.toNat 31 true)) = none → s.energised = false →
    (∀ p ∈ liveRotation s, b.toNat.testBit p = false) →
    Does (.selfTestNow b v) s fun t => t.fg R.BST_CTL_RESULT = 2 ∧ t.arr.move = none ∧
      t.lastOut = some { ch := .status, args := [0, 0, 0] }) ∧
  (∀ (p : Nat) (b : BitVec 32) (v : Word) (s : State), accessCheck s R.BST_CTL (w32 (setBit v.toNat 31 true)) = none →
    s.energised = false → p ∈ liveRotation s → b.toNat.testBit p = true →
    Does (.selfTestNow b v) s fun t => t.fg R.BST_CTL_RESULT = 3 ∧ t.arr.move = none ∧ t.fg R.BST_STAT_HOLD = 1 ∧
      t.tb R.BST_PLFAIL_PLOT p = true ∧ t.tb R.ENG_RETIRED_RET p = true ∧ t.lastOut = some { ch := .status, args := [0, 0, 0] }) ∧
  (∀ (b : BitVec 32) (v : Word) (s : State), accessCheck s R.BST_CTL (w32 (setBit v.toNat 31 true)) = none → s.energised = true →
    Does (.selfTestNow b v) s fun t => t.regs = s.regs ∧ t.arr = s.arr ∧
      t.lastOut = some { ch := .status, args := [8, 0x16, 0] })

/-- Loss of communication for TLOSS, and SLEEPNOW, begin the sleep entry: SLEEP shows 1, a running station stops with initiator 0x0E, sessions close and the time is kept. TLOSS out of range is answered BAD_PARAM and changes nothing. Once NV is done, or after 500 ms, the sleep notice leaves; 20 us later AUXEN is released; a station that still has power 1 s later resets cold. In SLEEP an enabled wake source that fires sets its cause and asserts WAKE, which is released after 10 s and asserted again 1 s later. The first good down frame takes the stack half to HOLD and ends its sleep. CAPOFF switches the capture memory off and loses its contents, and is refused while a buffer records. The flash goes off after 100 ms without an operation, and a change of VISO resets nothing. -/
def Obligations.SleepAndSupplyCommandsTakeEffect : Prop :=
  (∀ (x : Nat) (s : State), s.pwr.lossAt = some x → s.cpRuns = true → s.commLost = true → s.service = 3 → s.fg R.PWR_CTRL_TLOSS ≠ 0 →
    s.due x (100000000 * s.fg R.PWR_CTRL_TLOSS) = true → s.fg R.PWR_STAT_SLEEP = 0 →
    Does .communicationLossTimeout s fun t => t.fg R.PWR_STAT_SLEEP = 1 ∧ t.pwr.pendAt = some s.lt ∧ t.fls.sess = none ∧ t.arr.stages = [] ∧
      (s.energised = true → s.fg R.SAF_STAT_STATE = stRUN → Stopped cSLEEP 0 0 s t)) ∧
  (∀ (x : Nat) (s : State), s.pwr.lossAt = some x → s.due x (100000000 * s.fg R.PWR_CTRL_TLOSS) = false →
    Does .communicationLossTimeout s fun t => t = s) ∧
  (∀ (v : Word) (s : State), accessCheck s R.PWR_CTRL (w32 (setBit v.toNat 31 true)) = none → v.toNat.testBit 30 = false →
    (v.toNat % 8192 = 0 ∨ 10 ≤ v.toNat % 8192 ∧ v.toNat % 8192 ≤ 6000) → s.fg R.PWR_STAT_SLEEP = 0 →
    Does (.sleepNow v) s fun t => t.fg R.PWR_STAT_SLEEP = 1 ∧ t.pwr.pendAt = some s.lt ∧ t.fls.sess = none ∧ t.arr.stages = [] ∧
      t.fg R.PWR_CTRL_TLOSS = v.toNat % 8192 ∧ t.lastOut = some { ch := .status, args := [0, 0, 0] } ∧
      (s.energised = true → s.fg R.SAF_STAT_STATE = stRUN → Stopped cSLEEP 0 0 s t)) ∧
  (∀ (v : Word) (s : State), accessCheck s R.PWR_CTRL (w32 (setBit v.toNat 31 true)) = none →
    (1 ≤ v.toNat % 8192 ∧ v.toNat % 8192 ≤ 9 ∨ 6000 < v.toNat % 8192) →
    Does (.sleepNow v) s fun t => t.regs = s.regs ∧ t.pwr = s.pwr ∧ t.lastOut = some { ch := .status, args := [5, 0x0D, 0] }) ∧
  (∀ (x : Nat) (s : State), s.pwr.pendAt = some x → s.fg R.PWR_STAT_SLEEP = 1 → (s.nvBusy = false ∨ s.due x 500000000 = true) →
    Does .sleepNoticeSend s fun t => t.fg R.PWR_STAT_SLEEP = 2 ∧ t.pwr.noticeAt = some s.lt ∧ mSLEEP ∈ t.bar.repDown ∧
      t.lastMsg = some (.down, [mSLEEP]) ∧ (s.fg R.SAF_STAT_STATE = stRUN → Stopped cSLEEP 0 0 s t)) ∧
  (∀ (x : Nat) (s : State), s.pwr.noticeAt = some x → s.fg R.PWR_STAT_SLEEP = 2 → s.pwr.auxAt = none → s.due x 20000 = true →
    Does .auxenRelease s fun t => t.fg R.PWR_STAT_AUXHOLD = 0 ∧ t.pwr = { s.pwr with auxAt := some s.lt } ∧
      t.lastOut = some { ch := .pin, args := [3, 0] } ∧ SameRegs [R.PWR_STAT] s t) ∧
  (∀ (x : Nat) (s : State), s.pwr.auxAt = some x → s.due x 1000000000 = true → s.rst.scope = 0 →
    Does .sleepColdReset s fun t => SystemResets 2 s t ∧ t.tb R.RST_CAUSE_CAUSE 7 = true ∧ t.fg R.RST_STAT_LASTKIND = 3) ∧
  (∀ s : State, s.ssv.st = svSLEEP → s.stao.wakeAt = none → s.stao.offAt = none → s.fb R.PWR_WAKE_CMP = true →
    s.stao.cmpRose = true →
    Does (.wakeSource 0) s fun t => t.tb R.PWR_WCAUSE_CAUSE 0 = true ∧ t.stao = { s.stao with wakeAt := some s.lt } ∧
      t.lastOut = some { ch := .pin, args := [4, 1] } ∧ SameRegs [R.PWR_WCAUSE] s t) ∧
  (∀ s : State, s.ssv.st = svSLEEP → s.stao.wakeAt = none → s.stao.offAt = none → s.fg R.PWR_WAKE_PERIOD ≠ 0 →
    s.due s.stao.sleepAt (60000000000 * s.fg R.PWR_WAKE_PERIOD) = true →
    Does (.wakeSource 1) s fun t => t.tb R.PWR_WCAUSE_CAUSE 1 = true ∧ t.stao = { s.stao with wakeAt := some s.lt } ∧
      t.lastOut = some { ch := .pin, args := [4, 1] } ∧ SameRegs [R.PWR_WCAUSE] s t) ∧
  (∀ s : State, s.ssv.st = svSLEEP → s.stao.wakeAt = none → s.stao.offAt = none → s.fb R.PWR_WAKE_BAL = true → s.stao.balRan = true →
    (∀ n ∈ List.range 48, s.fg (R.BAL_TMR_TIME (n + 1)) = 0) →
    Does (.wakeSource 2) s fun t => t.tb R.PWR_WCAUSE_CAUSE 2 = true ∧ t.stao = { s.stao with wakeAt := some s.lt } ∧
      t.lastOut = some { ch := .pin, args := [4, 1] } ∧ SameRegs [R.PWR_WCAUSE] s t) ∧
  (∀ (x : Nat) (s : State), s.ssv.st = svSLEEP → s.stao.wakeAt = some x → s.due x 10000000000 = true →
    Does .wakeReassert s fun t => t.stao = { s.stao with wakeAt := none, offAt := some s.lt } ∧ t.regs = s.regs ∧
      t.lastOut = some { ch := .pin, args := [4, 0] }) ∧
  (∀ (x : Nat) (s : State), s.ssv.st = svSLEEP → s.stao.wakeAt = none → s.stao.offAt = some x → s.due x 1000000000 = true →
    Does .wakeReassert s fun t => t.stao = { s.stao with wakeAt := some s.lt, offAt := none } ∧ t.regs = s.regs ∧
      t.lastOut = some { ch := .pin, args := [4, 1] }) ∧
  (∀ s : State, s.ssv.st = svSLEEP → s.downWorks = true → s.fg R.PWR_STAT_SLEEP = 0 →
    Does .stackWake s fun t => t.ssv = { s.ssv with st := svHOLD } ∧ t.stao = {} ∧ t.bal.asleep = false) ∧
  (∀ (v : Word) (s : State), accessCheck s R.PWR_CTRL (w32 (setBit v.toNat 30 true)) = none → v.toNat.testBit 31 = false →
    v.toNat % 8192 = 0 → s.capFit = true → s.fb R.PWR_CTRL_CAPOFF = false → s.domStep domDRAM = 4 → s.domStep domDPHY = 4 →
    (∀ k ∈ List.range 16, s.fg (R.CAP_B_W6_STATE k) ≠ 2 ∧ s.fg (R.CAP_B_W6_STATE k) ≠ 3) →
    Does (.captureMemoryOff v) s fun t => t.fg R.PWR_CTRL_CAPOFF = 1 ∧ t.cap = {} ∧ t.domStep domDRAM = 5 ∧ t.domStep domDPHY = 5 ∧
      (∀ k ∈ List.range 16, t.fg (R.CAP_B_W6_STATE k) = 0) ∧ t.lastOut = some { ch := .status, args := [0, 0, 0] }) ∧
  (∀ (k : Fin 16) (v : Word) (s : State), accessCheck s R.PWR_CTRL (w32 (setBit v.toNat 30 true)) = none → v.toNat % 8192 = 0 →
    s.capFit = true → s.fg (R.CAP_B_W6_STATE k.val) = 2 →
    Does (.captureMemoryOff v) s fun t => t.regs = s.regs ∧ t.cap = s.cap ∧ t.lastOut = some { ch := .status, args := [2, 0x0F, 0] }) ∧
  (∀ s : State, s.fls.ops = [] → s.domStep domFLASH = 4 → s.due s.fls.at_ 100000000 = true →
    Does .flashIdleOff s fun t => t.domStep domFLASH = 5 ∧ t.regs = s.regs ∧ t.fls = s.fls) ∧
  (∀ (b : Bool) (s : State), Does (.visoChangeover b) s fun t => t.fg R.PWR_STAT_VISO = b2n b ∧ t.rst = s.rst ∧ SameRegs [R.PWR_STAT] s t)

/-- A housekeeping round ends at the next 100 ms boundary and counts. A sensor with a temperature shows it and VALID; its warning level is entered at the threshold, left 0.1 degrees times the hysteresis below, and is off while disabled. An input without a result is not VALID and keeps its temperature and its warning level. The junction sensors show the readings given; their shutdown level cannot be disabled, raises 0x3F as it is entered, and sets JSHUT, on which every plot that P0 does not hold and that is not retired is shut; any junction at its throttle level shows JTHR. At each step interval the plot step rises while JTHR is 1 and falls otherwise, and the converter step follows sensor 17. -/
def Obligations.ThermalCommandsTakeEffect : Prop :=
  (∀ (j0 j1 j2 j3 : BitVec 16) (h : Bool) (k r : Nat) (x : Int) (s : State), s.sysUp = true → s.domOn domHKP = true →
    r = max ((s.now + 99999999) / 100000000 * 100000000) (s.thm.roundAt + 100000000) → 1 ≤ k → k ≤ 21 →
    sensed (s.until r) [j0, j1, j2, j3] k = .temp x →
    Does (.housekeepingRound j0 j1 j2 j3 h) s fun t => t.now = r ∧ t.thm.roundAt = r ∧
      t.fg R.THM_STAT_ROUND = (s.fg R.THM_STAT_ROUND + 1) % 256 ∧ t.fg (R.THM_S_W0_TEMP k) = ofInt 16 x ∧ t.lvl k 4 = true ∧
      (s.fi (R.THM_S_W1_TH k) = 0x7FFF → t.lvl k 0 = false) ∧
      (s.fi (R.THM_S_W1_TH k) ≠ 0x7FFF → s.fi (R.THM_S_W1_TH k) ≤ x → t.lvl k 0 = true ∧ (s.lvl k 0 = false → Raised 0x6C islHKP t)) ∧
      (s.fi (R.THM_S_W1_TH k) ≠ 0x7FFF → x < s.fi (R.THM_S_W1_TH k) - 10 * s.fg (R.THM_S_W1_HY k) → t.lvl k 0 = false) ∧
      (s.fi (R.THM_S_W1_TH k) ≠ 0x7FFF → s.fi (R.THM_S_W1_TH k) - 10 * s.fg (R.THM_S_W1_HY k) ≤ x → x < s.fi (R.THM_S_W1_TH k) →
        t.lvl k 0 = s.lvl k 0) ∧
      t.tb R.THM_WSUM_SENS (k - 1) = t.lvl k 0 ∧ t.tb R.THM_TSUM_SENS (k - 1) = t.throttled k ∧ t.tb R.THM_SSUM_SENS (k - 1) = t.lvl k 2) ∧
  (∀ (j0 j1 j2 j3 : BitVec 16) (h : Bool) (k : Nat) (s : State), s.sysUp = true → s.domOn domHKP = true → 1 ≤ k → k ≤ 16 →
    (s.thm.acc.filter fun (e : Nat × Nat × Nat × Int) => e.1 == k) = [] →
    Does (.housekeepingRound j0 j1 j2 j3 h) s fun t => t.lvl k 4 = false ∧ t.fg (R.THM_S_W0_TEMP k) = s.fg (R.THM_S_W0_TEMP k) ∧
      t.lvl k 0 = s.lvl k 0 ∧ t.lvl k 1 = s.lvl k 1 ∧ t.lvl k 3 = s.lvl k 3) ∧
  (∀ (j0 j1 j2 j3 : BitVec 16) (h : Bool) (k : Nat) (x : BitVec 16) (s : State), s.sysUp = true → s.domOn domHKP = true →
    (k, x) ∈ [(18, j0), (19, j1), (20, j2), (21, j3)] →
    Does (.housekeepingRound j0 j1 j2 j3 h) s fun t => t.fg (R.THM_S_W0_TEMP k) = x.toNat ∧
      (s.fi (R.THM_S_W3_TH k) ≤ asInt 16 x.toNat → t.lvl k 2 = true ∧ (s.lvl k 2 = false → Raised 0x3F islHKP t)) ∧
      (asInt 16 x.toNat < s.fi (R.THM_S_W3_TH k) - 10 * s.fg (R.THM_S_W3_HY k) → t.lvl k 2 = false) ∧
      t.fg R.THM_STAT_JSHUT = b2n ([18, 19, 20, 21].any fun i => t.lvl i 2) ∧
      t.fg R.THM_STAT_JTHR = b2n ([18, 19, 20, 21].any fun i => t.throttled i) ∧
      (s.fi (R.THM_S_W3_TH k) ≤ asInt 16 x.toNat → s.fg R.THM_STAT_JSHUT = 0 → (∀ p ∈ List.range s.plotsFit,
        s.isRetired p = false → ((s.placed p).map fun (e : Nat × Nat) => e.1) ≠ some 0 → (s.arr.move.map fun m => m.dst) ≠ some p → (t.plot p).shut = true))) ∧
  (∀ s : State, s.sysUp = true → s.due s.thm.plotAt (100000000 * s.fg R.THM_CTRL_STEPINT) = true →
    s.due s.thm.convAt (100000000 * s.fg R.THM_CTRL_STEPINT) = true →
    Does .thermalStepInterval s fun t =>
      t.fg R.THM_STEP_PLOT = (if s.fb R.THM_STAT_JTHR = true then min 3 (s.fg R.THM_STEP_PLOT + 1) else s.fg R.THM_STEP_PLOT - 1) ∧
      t.fg R.THM_STEP_CONV = (if s.lvl 17 2 = true then 3 else if s.throttled 17 = true then min 2 (s.fg R.THM_STEP_CONV + 1)
        else s.fg R.THM_STEP_CONV - 1) ∧ t.thm = { s.thm with plotAt := s.lt, convAt := s.lt } ∧
      (∀ p ∈ List.range s.plotsFit, t.fg (R.ENG_PLSTAT_CLK p) = max (s.fg (R.ENG_PLCTL_CLKREQ p)) (t.fg R.THM_STEP_PLOT))) ∧
  (∀ s : State, s.sysUp = true → s.due s.thm.plotAt (100000000 * s.fg R.THM_CTRL_STEPINT) = false →
    s.due s.thm.convAt (100000000 * s.fg R.THM_CTRL_STEPINT) = false →
    Does .thermalStepInterval s fun t => t = s)

/-- A write that puts a line in peg mode starts its power-up and lets its numbers and data go when it leaves; a bad mode changes nothing. After 50 ms the line is idle; a short makes it FAULT with 0x70 and it retries after 1 s. SEARCH starts a pass with the numbers forgotten and is turned away while the line is not idle or polling. A first pass nobody answers ends with RESULT 2; a census of one slot a nibble finds its number; a failed pass restarts three times, then RESULT 4 with 0x70. A good answer to READ 0xF numbers the peg and, with no branch left, ends with RESULT 1; a seventeenth ends with RESULT 3; no answer counts. In polling a good frame of nominal intervals stores status, data and epoch and the next peg is read; a wrong CRC counts; the third missing reply in a row clears VALID with 0x70; a gap in a frame counts. A poll round reads peg 0; CLR clears the counters. -/
def Obligations.PegCommandsTakeEffect : Prop :=
  (∀ (k : Fin 4) (n : Nat) (v : Word) (s : State), n = k.val + 1 → accessCheck s (R.PEG_CTL n) v = none → wf v (R.PEG_CTL_MODE n) = 1 →
    wf v (R.PEG_CTL_SEARCH n) = 0 → 10 ≤ wf v (R.PEG_CTL_TICK n) → wf v (R.PEG_CTL_TICK n) ≤ 100 → wf v (R.PEG_CTL_PERIOD n) ≠ 0 →
    s.fg (R.PEG_CTL_MODE n) ≠ 1 →
    Does (.pegModeWrite k v) s fun t => t.fg (R.PEG_CTL_MODE n) = 1 ∧ t.fg (R.PEG_CTL_TICK n) = wf v (R.PEG_CTL_TICK n) ∧
      t.fg (R.PEG_STAT_STATE n) = 1 ∧ t.pegLine n = { at_ := s.lt } ∧ ({ ch := .peg, args := [n, 0, 1] } ∈ t.out) ∧
      t.lastOut = some { ch := .status, args := [0, 0, 0] }) ∧
  (∀ (k : Fin 4) (n : Nat) (v : Word) (s : State), n = k.val + 1 → accessCheck s (R.PEG_CTL n) v = none → wf v (R.PEG_CTL_MODE n) = 3 →
    Does (.pegModeWrite k v) s fun t => t.regs = s.regs ∧ t.peg = s.peg ∧ t.lastOut = some { ch := .status, args := [5, 0x0D, 0] }) ∧
  (∀ (k : Fin 4) (n : Nat) (v : Word) (s : State), n = k.val + 1 → accessCheck s (R.PEG_CTL n) v = none → wf v (R.PEG_CTL_MODE n) = 0 →
    wf v (R.PEG_CTL_SEARCH n) = 0 → wf v (R.PEG_CTL_PERIOD n) ≠ 0 → s.fg (R.PEG_CTL_MODE n) = 1 →
    Does (.pegModeWrite k v) s fun t => t.fg (R.PEG_STAT_STATE n) = 0 ∧ t.fg (R.PEG_STAT_NPEG n) = 0 ∧
      (∀ a ∈ List.range 16, t.reg (R.PEG_DAT n a) = 0 ∧ t.reg (R.PEG_SLOW n a) = 0 ∧ t.reg (R.PEG_NUM n a 0) = 0 ∧ t.reg (R.PEG_NUM n a 1) = 0) ∧
      ((s.pegLine n).search ≠ none → t.fg (R.PEG_STAT_RESULT n) = 5) ∧ t.lastOut = some { ch := .status, args := [0, 0, 0] }) ∧
  (∀ (k : Fin 4) (n : Nat) (s : State), n = k.val + 1 → s.fg (R.PEG_STAT_STATE n) = 1 → s.domOn (domPEG n) = true →
    s.due (s.pegLine n).at_ 50000000 = true →
    Does (.pegPowerUpEnd k) s fun t => t.fg (R.PEG_STAT_STATE n) = 2 ∧ SameRegs [R.PEG_STAT n] s t) ∧
  (∀ (k : Fin 4) (n : Nat) (s : State), n = k.val + 1 → 1 ≤ s.fg (R.PEG_STAT_STATE n) → s.fg (R.PEG_STAT_STATE n) ≤ 4 →
    Does (.pegLineShort k) s fun t => t.fg (R.PEG_STAT_STATE n) = 5 ∧ Raised 0x70 (islPG n) t ∧
      t.pegLine n = { s.pegLine n with at_ := s.lt, search := none, read := none, part := false } ∧
      t.lastOut = some { ch := .peg, args := [n, 1] } ∧ SameRegs [R.PEG_STAT n, R.FLT_ISL (islPG n)] s t) ∧
  (∀ (k : Fin 4) (n : Nat) (s : State), n = k.val + 1 → s.fg (R.PEG_STAT_STATE n) = 5 → s.due (s.pegLine n).at_ 1000000000 = true →
    Does (.pegFaultRetry k) s fun t => t.fg (R.PEG_STAT_STATE n) = 1 ∧ t.pegLine n = { s.pegLine n with at_ := s.lt } ∧
      t.lastOut = some { ch := .peg, args := [n, 0, 1] } ∧ SameRegs [R.PEG_STAT n] s t) ∧
  (∀ (k : Fin 4) (n : Nat) (v : Word) (s : State), n = k.val + 1 → accessCheck s (R.PEG_CTL n) (w32 (setBit v.toNat 31 true)) = none →
    wf v (R.PEG_CTL_MODE n) = 1 → s.fg (R.PEG_CTL_MODE n) = 1 → 10 ≤ wf v (R.PEG_CTL_TICK n) → wf v (R.PEG_CTL_TICK n) ≤ 100 →
    wf v (R.PEG_CTL_PERIOD n) ≠ 0 → (s.fg (R.PEG_STAT_STATE n) = 2 ∨ s.fg (R.PEG_STAT_STATE n) = 4) →
    Does (.pegSearch k v) s fun t => t.fg (R.PEG_STAT_STATE n) = 3 ∧ t.fg (R.PEG_STAT_RESTART n) = 0 ∧ t.fg (R.PEG_STAT_NPEG n) = 0 ∧
      (t.pegLine n).search = some {} ∧ (t.pegLine n).read = none ∧ (∀ a ∈ List.range 16, t.reg (R.PEG_NUM n a 0) = 0 ∧ t.reg (R.PEG_NUM n a 1) = 0) ∧
      ({ ch := .peg, args := [n, 2, 4, pegCrc [4]] } ∈ t.out) ∧ ({ ch := .peg, args := [n, 3] } ∈ t.out) ∧
      t.lastOut = some { ch := .status, args := [0, 0, 0] }) ∧
  (∀ (k : Fin 4) (n : Nat) (v : Word) (s : State), n = k.val + 1 → accessCheck s (R.PEG_CTL n) (w32 (setBit v.toNat 31 true)) = none →
    wf v (R.PEG_CTL_MODE n) = 1 → 10 ≤ wf v (R.PEG_CTL_TICK n) → wf v (R.PEG_CTL_TICK n) ≤ 100 → wf v (R.PEG_CTL_PERIOD n) ≠ 0 →
    s.fg (R.PEG_STAT_STATE n) ≠ 2 → s.fg (R.PEG_STAT_STATE n) ≠ 4 →
    Does (.pegSearch k v) s fun t => t.regs = s.regs ∧ t.peg = s.peg ∧ t.lastOut = some { ch := .status, args := [2, 0x0F, 0] }) ∧
  (∀ (k : Fin 4) (n : Nat) (q : PegSearch) (c : List (BitVec 16)) (s : State), n = k.val + 1 → (s.pegLine n).search = some q → q.cur = none →
    q.first = true → c.headD 0 = 0 →
    Does (.pegSearchPass k c) s fun t => t.fg (R.PEG_STAT_RESULT n) = 2 ∧ t.fg (R.PEG_STAT_STATE n) = 2 ∧ (t.pegLine n).search = none ∧
      SameRegs [R.PEG_STAT n] s t) ∧
  (∀ (k : Fin 4) (n m : Nat) (c : List (BitVec 16)) (q : PegSearch) (s : State), n = k.val + 1 → (s.pegLine n).search = some q → q.cur = none →
    q.path = [] → q.stack = [] → m < 2 ^ 64 → c = ((numNibbles m).map fun d => BitVec.ofNat 16 (2 ^ d)) →
    Does (.pegSearchPass k c) s fun t =>
      (t.pegLine n).search = some { q with cur := some m, first := false } ∧ t.regs = s.regs ∧ t.out = s.out) ∧
  (∀ (k : Fin 4) (n : Nat) (q : PegSearch) (c : List (BitVec 16)) (s : State), n = k.val + 1 → (s.pegLine n).search = some q → q.cur = none →
    q.first = false → c.headD 0 = 0 → s.fg (R.PEG_STAT_RESTART n) < 3 →
    Does (.pegSearchPass k c) s fun t => t.fg (R.PEG_STAT_RESTART n) = s.fg (R.PEG_STAT_RESTART n) + 1 ∧ t.fg (R.PEG_STAT_NPEG n) = 0 ∧
      (t.pegLine n).search = some { first := false } ∧ t.lastOut = some { ch := .peg, args := [n, 3] }) ∧
  (∀ (k : Fin 4) (n : Nat) (q : PegSearch) (c : List (BitVec 16)) (s : State), n = k.val + 1 → (s.pegLine n).search = some q → q.cur = none →
    q.first = false → c.headD 0 = 0 → s.fg (R.PEG_STAT_RESTART n) = 3 →
    Does (.pegSearchPass k c) s fun t => t.fg (R.PEG_STAT_RESULT n) = 4 ∧ t.fg (R.PEG_STAT_STATE n) = 2 ∧ (t.pegLine n).search = none ∧
      Raised 0x70 (islPG n) t) ∧
  (∀ (k : Fin 4) (n m c : Nat) (f r : List Nat) (q : PegSearch) (s : State), n = k.val + 1 → (s.pegLine n).search = some q → q.cur = some m →
    q.stack = [] → r ≠ [] → (pegRx n r s).frame = some f → pegCrc f.dropLast = f.getLastD 0 → c = s.fg (R.PEG_STAT_NPEG n) → c < 16 →
    Does (.pegVerify k r) s fun t => t.reg (R.PEG_NUM n c 0) = w32 m ∧ t.reg (R.PEG_NUM n c 1) = w32 (m / 2 ^ 32) ∧
      t.fg (R.PEG_STAT_NPEG n) = c + 1 ∧ t.fg (R.PEG_STAT_RESULT n) = 1 ∧ t.fg (R.PEG_STAT_STATE n) = 2 ∧ (t.pegLine n).search = none ∧
      t.lastOut = some { ch := .peg, args := [n, 2, 3, c, pegCrc [3, c]] }) ∧
  (∀ (k : Fin 4) (n m : Nat) (f r : List Nat) (q : PegSearch) (s : State), n = k.val + 1 → (s.pegLine n).search = some q → q.cur = some m →
    r ≠ [] → (pegRx n r s).frame = some f → pegCrc f.dropLast = f.getLastD 0 → s.fg (R.PEG_STAT_NPEG n) = 16 →
    Does (.pegVerify k r) s fun t => t.fg (R.PEG_STAT_NPEG n) = 16 ∧ t.fg (R.PEG_STAT_RESULT n) = 3 ∧ t.fg (R.PEG_STAT_STATE n) = 2 ∧
      (t.pegLine n).search = none ∧ Raised 0x70 (islPG n) t) ∧
  (∀ (k : Fin 4) (n m : Nat) (q : PegSearch) (s : State), n = k.val + 1 → (s.pegLine n).search = some q → q.cur = some m →
    s.fg (R.PEG_STAT_RESTART n) < 3 →
    Does (.pegVerify k []) s fun t => t.fg (R.PEG_CNT_NORESP n) = min 255 (s.fg (R.PEG_CNT_NORESP n) + 1) ∧
      t.fg (R.PEG_STAT_RESTART n) = s.fg (R.PEG_STAT_RESTART n) + 1 ∧ (t.pegLine n).search = some { first := false } ∧
      ({ ch := .peg, args := [n, 2] ++ (1 :: numNibbles m) ++ [pegCrc (1 :: numNibbles m)] } ∈ t.out)) ∧
  (∀ (k : Fin 4) (n a t : Nat) (f r : List Nat) (e : Word) (s : State), n = k.val + 1 → (s.pegLine n).read = some a → a < 16 →
    t = s.fg (R.PEG_CTL_TICK n) → t ≠ 0 → f.length = 8 → (∀ d ∈ f, d < 16) → pegCrc f.dropLast = f.getLastD 0 →
    r = (40 * t :: f.map fun d => (8 + d) * t) →
    Does (.pegReplyFrame k r e) s fun t =>
      t.reg (R.PEG_DAT n a) = w32 (2 ^ 31 + f.headD 0 * 2 ^ 24 + nibNat f.tail.dropLast) ∧ t.reg (R.PEG_EP n a) = e ∧
      (t.pegLine n).read = (if a + 1 < s.fg (R.PEG_STAT_NPEG n) ∧ s.fb (R.PEG_CTL_POLL n) = true then some (a + 1) else none) ∧
      t.reg (R.PEG_CNT n) = s.reg (R.PEG_CNT n)) ∧
  (∀ (k : Fin 4) (n a t : Nat) (f r : List Nat) (e : Word) (s : State), n = k.val + 1 → (s.pegLine n).read = some a →
    t = s.fg (R.PEG_CTL_TICK n) → t ≠ 0 → f.length = 8 → (∀ d ∈ f, d < 16) → pegCrc f.dropLast ≠ f.getLastD 0 →
    r = (40 * t :: f.map fun d => (8 + d) * t) →
    Does (.pegReplyFrame k r e) s fun t =>
      t.fg (R.PEG_CNT_CRCERR n) = min 255 (s.fg (R.PEG_CNT_CRCERR n) + 1) ∧ SameRegs [R.PEG_CNT n, R.PEG_STAT n] s t ∧
      (t.pegLine n).read = (if a + 1 < s.fg (R.PEG_STAT_NPEG n) ∧ s.fb (R.PEG_CTL_POLL n) = true then some (a + 1) else none)) ∧
  (∀ (k : Fin 4) (n a : Nat) (s : State), n = k.val + 1 → (s.pegLine n).read = some a → a < 16 → (s.pegLine n).part = false →
    Smap.get (fun _ => 0) (s.pegLine n).miss a = 2 →
    Does (.pegNoResponse k) s fun t => t.fg (R.PEG_CNT_NORESP n) = min 255 (s.fg (R.PEG_CNT_NORESP n) + 1) ∧
      t.fg (R.PEG_DAT_VALID n a) = 0 ∧ Raised 0x70 (islPG n) t ∧
      (t.pegLine n).read = (if a + 1 < s.fg (R.PEG_STAT_NPEG n) ∧ s.fb (R.PEG_CTL_POLL n) = true then some (a + 1) else none)) ∧
  (∀ (k : Fin 4) (n a : Nat) (s : State), n = k.val + 1 → (s.pegLine n).read = some a → (s.pegLine n).part = false →
    Smap.get (fun _ => 0) (s.pegLine n).miss a ≠ 2 →
    Does (.pegNoResponse k) s fun t => t.fg (R.PEG_CNT_NORESP n) = min 255 (s.fg (R.PEG_CNT_NORESP n) + 1) ∧
      Smap.get (fun _ => 0) (t.pegLine n).miss a = Smap.get (fun _ => 0) (s.pegLine n).miss a + 1 ∧ t.flt = s.flt ∧
      SameRegs [R.PEG_CNT n, R.PEG_STAT n] s t) ∧
  (∀ (k : Fin 4) (n : Nat) (s : State), n = k.val + 1 → (s.pegLine n).part = true →
    Does (.pegFrameGap k) s fun t => t.fg (R.PEG_CNT_GAP n) = min 255 (s.fg (R.PEG_CNT_GAP n) + 1) ∧ (t.pegLine n).part = false ∧
      SameRegs [R.PEG_CNT n, R.PEG_STAT n] s t) ∧
  (∀ (k : Fin 4) (n x : Nat) (s : State), n = k.val + 1 → s.fb (R.PEG_CTL_POLL n) = true → s.fg (R.PEG_STAT_STATE n) = 2 →
    s.fg (R.PEG_STAT_NPEG n) ≠ 0 → (s.pegLine n).roundAt = some x → s.due x (s.fg (R.PEG_CTL_PERIOD n) * 1000000) = true →
    Does (.pegPollRound k) s fun t => t.fg (R.PEG_STAT_STATE n) = 4 ∧
      t.pegLine n = { s.pegLine n with roundAt := some s.lt, read := some 0, part := false } ∧
      t.lastOut = some { ch := .peg, args := [n, 2, 2, 0, pegCrc [2, 0]] } ∧ SameRegs [R.PEG_STAT n] s t) ∧
  (∀ (k : Fin 4) (n : Nat) (v : Word) (s : State), n = k.val + 1 → accessCheck s (R.PEG_CTL n) (w32 (setBit v.toNat 30 true)) = none →
    wf v (R.PEG_CTL_MODE n) = s.fg (R.PEG_CTL_MODE n) → wf v (R.PEG_CTL_TICK n) = s.fg (R.PEG_CTL_TICK n) →
    wf v (R.PEG_CTL_MODE n) = 1 → 10 ≤ wf v (R.PEG_CTL_TICK n) → wf v (R.PEG_CTL_TICK n) ≤ 100 →
    wf v (R.PEG_CTL_SEARCH n) = 0 → wf v (R.PEG_CTL_PERIOD n) ≠ 0 →
    Does (.pegCounterClear k v) s fun t => t.reg (R.PEG_CNT n) = 0 ∧ t.peg = s.peg ∧ SameRegs [R.PEG_CTL n, R.PEG_CNT n] s t ∧
      t.lastOut = some { ch := .status, args := [0, 0, 0] })

/-- On a line in SENT mode whose domain is on, a frame of nominal intervals whose CRC-4 is right stores its status, data and epoch in place 0 and counts nothing; one whose CRC-4 is wrong counts and stores nothing, and so does one whose calibration differs from the last by more than 1/64 while CAL64 is 1. A line in another state ignores frames. Where the last frame was followed by a pause pulse, the intervals begin with it. That CRC-4 has the polynomial and seed of SAE J2716 is the model's presumption (log entry 156): the spec names the standard only. -/
def Obligations.SentFramesTakeEffect : Prop :=
  (∀ (k : Fin 4) (n u g : Nat) (f r : List Nat) (e : Word) (s : State), n = k.val + 1 → s.fg (R.PEG_STAT_STATE n) = 6 → s.domOn (domPEG n) = true →
    s.fg (R.PEG_CTL_TICK n) = u → u ≠ 0 → f.length = s.fg (R.PEG_SENT_NDATA n) + 2 → (∀ d ∈ f, d < 16) →
    (s.fb (R.PEG_SENT_CAL64 n) = false ∨ (s.pegLine n).cal = 0 ∨
      64 * (56 * u - (s.pegLine n).cal) ≤ (s.pegLine n).cal ∧ 64 * ((s.pegLine n).cal - 56 * u) ≤ (s.pegLine n).cal) →
    sentCrc (s.fb (R.PEG_SENT_CRCM n)) f.tail.dropLast = f.getLastD 0 →
    r = (if (s.pegLine n).pause = true then [g] else []) ++ (56 * u :: f.map fun d => (12 + d) * u) →
    Does (.sentFrame k r e) s fun t =>
      t.reg (R.PEG_DAT n 0) = w32 (2 ^ 31 + f.headD 0 * 2 ^ 24 + nibNat f.tail.dropLast) ∧ t.reg (R.PEG_EP n 0) = e ∧
      (t.pegLine n).cal = 56 * u ∧
      SameRegs [R.PEG_DAT n 0, R.PEG_EP n 0, R.PEG_SLOW n 0, R.PEG_SLOW n 1] s t) ∧
  (∀ (k : Fin 4) (n u g : Nat) (f r : List Nat) (e : Word) (s : State), n = k.val + 1 → s.fg (R.PEG_STAT_STATE n) = 6 → s.domOn (domPEG n) = true →
    s.fg (R.PEG_CTL_TICK n) = u → u ≠ 0 → f.length = s.fg (R.PEG_SENT_NDATA n) + 2 → (∀ d ∈ f, d < 16) →
    s.fb (R.PEG_SENT_CAL64 n) = true → (s.pegLine n).cal ≠ 0 →
    ((s.pegLine n).cal < 64 * (56 * u - (s.pegLine n).cal) ∨ (s.pegLine n).cal < 64 * ((s.pegLine n).cal - 56 * u)) →
    r = (if (s.pegLine n).pause = true then [g] else []) ++ (56 * u :: f.map fun d => (12 + d) * u) →
    Does (.sentFrame k r e) s fun t =>
      t.fg (R.PEG_CNT_SYMERR n) = min 255 (s.fg (R.PEG_CNT_SYMERR n) + 1) ∧ (t.pegLine n).cal = 56 * u ∧ SameRegs [R.PEG_CNT n] s t) ∧
  (∀ (k : Fin 4) (n u g : Nat) (f r : List Nat) (e : Word) (s : State), n = k.val + 1 → s.fg (R.PEG_STAT_STATE n) = 6 → s.domOn (domPEG n) = true →
    s.fg (R.PEG_CTL_TICK n) = u → u ≠ 0 → f.length = s.fg (R.PEG_SENT_NDATA n) + 2 → (∀ d ∈ f, d < 16) →
    (s.fb (R.PEG_SENT_CAL64 n) = false ∨ (s.pegLine n).cal = 0 ∨
      64 * (56 * u - (s.pegLine n).cal) ≤ (s.pegLine n).cal ∧ 64 * ((s.pegLine n).cal - 56 * u) ≤ (s.pegLine n).cal) → sentCrc (s.fb (R.PEG_SENT_CRCM n)) f.tail.dropLast ≠ f.getLastD 0 →
    r = (if (s.pegLine n).pause = true then [g] else []) ++ (56 * u :: f.map fun d => (12 + d) * u) →
    Does (.sentFrame k r e) s fun t =>
      t.fg (R.PEG_CNT_CRCERR n) = min 255 (s.fg (R.PEG_CNT_CRCERR n) + 1) ∧ (t.pegLine n).hist = [] ∧ SameRegs [R.PEG_CNT n] s t) ∧
  (∀ (k : Fin 4) (i : List Nat) (e : Word) (s : State), s.fg (R.PEG_STAT_STATE (k.val + 1)) ≠ 6 →
    Does (.sentFrame k i e) s fun t => t = s)

/-- With a command at the front of the queue, a step is that command's effect on the state with the queue's rest. -/
def Obligations.StepRunsTheFrontCommand : Prop :=
  ∀ (c : Instr) (rest : List Instr) (s : State), s.pending = c :: rest → step s = exec c { s with pending := rest }

/-- With nothing waiting, one epoch of 50 ns passes at the station and nothing else changes. That an idle step is one epoch is the model's design choice (assumption log 1). -/
def Obligations.IdleStepPassesOneEpoch : Prop :=
  ∀ s : State, s.pending = [] → step s = .next { s with now := s.now + 50, lt := s.lt + 50 }

/-- After reset no command waits; every register reads the reset value of its row, so SOC is in INIT with no output on, the history is empty with NEWEST at 31, no datum is coherent, and both halves are unreleased; memory lists nothing, and the invariants stated for steps hold. -/
def Obligations.ResetState : Prop :=
  State.reset.pending = [] ∧ (∀ a, State.reset.reg a = resetWord a) ∧ State.reset.fg R.SAF_STAT_STATE = stINIT ∧
  State.reset.outputsOff ∧ State.reset.fg R.FLT_HSEQ_NEWEST = 31 ∧ State.reset.fg R.FLT_STAT_NENT = 0 ∧
  State.reset.fg R.DTM_STAT_COH = 0 ∧ State.reset.rst.stackUp = false ∧ State.reset.sysUp = false ∧
  State.reset.nv.bytes = [] ∧ State.reset.arr.engs = [] ∧ State.reset.peg = [] ∧ State.reset.pegOk ∧ State.reset.outputsOk ∧
  Smap.wf resetWord State.reset.regs

/-- A packet whose fields fit their places, laid out in bytes, has a good CRC-32C and is read back field for field, payload and all, whatever way it came. A frame's link header passes the check of R337, is no host frame, and gives the frame back. -/
def Obligations.PacketsAndLinkHeadersRoundTrip : Prop :=
  (∀ p : Packet, p.wf = true → p.len = p.payload.length → p.auth = none →
    crcGood (packetBytes p) = true ∧ parsePacket p.via (packetBytes p) = p) ∧
  (∀ f : Frame, (f.ftype = 1 ∨ f.ftype = 2) → f.cls < 4 → f.origin < 4096 → f.ttl < 128 → f.fseq < 4096 → f.own = false →
    f.abort = false →
    headerGood (linkHeader f) = true ∧ headerHost (linkHeader f) = false ∧ headerFrame (linkHeader f) f.body = f)

/-- Once a COUNT has been accepted, no further sequence of COUNTs, accepted or not, makes the same COUNT acceptable again; and a COUNT above the highest accepted one is accepted and becomes the highest. -/
def Obligations.NoCountIsAcceptedTwice : Prop :=
  (∀ (hi seen c : Nat) (st : Nat × Nat) (l : List Nat), countCheck hi seen c = some st →
    let r := l.foldl (fun (x : Nat × Nat) d => (countCheck x.1 x.2 d).getD x) st
    countCheck r.1 r.2 c = none) ∧
  (∀ (hi seen c : Nat), hi < c → ∃ m, countCheck hi seen c = some (c, m))

/-- In a state in which an output conducts only in RUN or RAMP with both halves asserting RUN, whatever else that state holds, every command of SOC, SSV and the output stage leaves such a state. -/
def Obligations.StepsKeepOutputsUnderBothRuns : Prop :=
  (∀ (c : Instr) (rest : List Instr) (s t : State), s.pending = c :: rest → isOutputRow c = true → s.outputsOk →
    step s = .next t → t.outputsOk)

/-- In a state in which no line shows more than 16 numbers, a STATE or RESULT that R595 does not have, a search outside SEARCH or a READ in polling outside POLL, every command of the peg lines and SENT inputs leaves such a state. -/
def Obligations.StepsKeepPegLinesConsistent : Prop :=
  (∀ (c : Instr) (rest : List Instr) (s t : State), s.pending = c :: rest → isPegRow c = true → s.pegOk → step s = .next t → t.pegOk)

/-- Whatever instruction an engine executes, exceptions included: the engines and memories of every other plot (but for the loss counts and flags of an engine that loses a frame of a publication, R284), SOC, SSV, the safety password and an open change, NV, the cadastre, and every register of the SAF block and of the stack half's blocks are as before. -/
def Obligations.EngineInstructionsStayInTheirPlot : Prop :=
  (∀ (c : Instr) (x : Fin 1024) (s t : State), engineOf c = some x → exec c s = .next t →
    (∀ y, y / 32 ≠ x.val / 32 → ∃ d0 d1 f, t.engine y = { s.engine y with drop0 := d0, drop1 := d1, sflags := f }) ∧ (∀ p, p ≠ x.val / 32 → t.plot p = s.plot p) ∧
    t.soc = s.soc ∧ t.ssv = s.ssv ∧ t.pwd = s.pwd ∧ t.change = s.change ∧ t.nv = s.nv ∧ t.cad = s.cad ∧
    (∀ a, 0x140000 ≤ a → a < 0x150000 → t.reg a = s.reg a) ∧ (∀ a, a < 0x060000 → t.reg a = s.reg a))

/-- A three-register integer or packed instruction whose X field is not 0 raises ILLEGAL; a load at a misaligned address raises MISALIGN with that address, one outside DMEM and shared memory ACCESS; at a good address an uncorrectable data word raises MEMORY with that address, and an uncorrectable instruction word MEMORY with 0, which UNCOR counts. A watchdog that expires with it counts in MORE. Each leaves the engine in EXCEPTION with its record, its registers and PC as before, and the plot's sticky bit and source. -/
def Obligations.EngineInstructionsTakeExceptions : Prop :=
  (∀ (x : Fin 1024) (e : Fin 4) (w o : Nat) (c : Instr) (s : State), (o, c) ∈ [(0x01, .engAdd x e), (0x02, .engSub x e), (0x03, .engAnd x e), (0x04, .engOr x e), (0x05, .engXor x e),
      (0x06, .engShl x e), (0x07, .engShr x e), (0x08, .engShra x e), (0x0A, .engAndn x e), (0x0B, .engMin x e),
      (0x0C, .engMax x e), (0x0D, .engAdds x e), (0x0E, .engSubs x e), (0x0F, .engMul x e), (0x10, .engMulh x e),
      (0x11, .engMulhu x e), (0x14, .engPadd x e), (0x15, .engPsub x e), (0x16, .engPack x e), (0x17, .engCmul x e),
      (0x18, .engCmulc x e)] →
    Issues x o w s → iX w ≠ 0 →
    Does c s fun t => (t.engine x.val).st = esEXCEPTION ∧ t.reg (R.ENG_EXR_W0 x.val) = exrWord 1 (s.engine x.val).pc (wdogDue s (s.engine x.val)) ∧
      t.reg (R.ENG_EXR_W1 x.val) = 0 ∧ t.reg (R.ENG_EXR_W2 x.val) = w32 s.epoch ∧ t.reg (R.ENG_EXR_W3 x.val) = w32 w ∧
      t.fg (R.ENG_PLFLT_EXC (x.val / 32)) = 1 ∧ Raised (if (s.engine x.val).safety = true then 0x08 else 0x66) (x.val / 32) t ∧ (t.engine x.val).g = (s.engine x.val).g ∧ (t.engine x.val).pc = (s.engine x.val).pc) ∧
  (∀ (x : Fin 1024) (e : Fin 4) (w k a o : Nat) (c : Instr) (s : State), (o, k, c) ∈ [(0x30, 4, .engLdw x e), (0x31, 2, .engLdh x e), (0x32, 2, .engLdhu x e), (0x33, 1, .engLdb x e), (0x34, 1, .engLdbu x e)] →
    Issues x o w s → a = dataAddr w (s.engine x.val) → a % k ≠ 0 →
    Does c s fun t => (t.engine x.val).st = esEXCEPTION ∧ t.reg (R.ENG_EXR_W0 x.val) = exrWord 2 (s.engine x.val).pc (wdogDue s (s.engine x.val)) ∧
      t.reg (R.ENG_EXR_W1 x.val) = w32 a ∧ t.reg (R.ENG_EXR_W2 x.val) = w32 s.epoch ∧ t.reg (R.ENG_EXR_W3 x.val) = w32 w ∧
      t.fg (R.ENG_PLFLT_EXC (x.val / 32)) = 1 ∧ Raised (if (s.engine x.val).safety = true then 0x08 else 0x66) (x.val / 32) t ∧ (t.engine x.val).g = (s.engine x.val).g ∧ (t.engine x.val).pc = (s.engine x.val).pc) ∧
  (∀ (x : Fin 1024) (e : Fin 4) (w k a o : Nat) (c : Instr) (s : State), (o, k, c) ∈ [(0x30, 4, .engLdw x e), (0x31, 2, .engLdh x e), (0x32, 2, .engLdhu x e), (0x33, 1, .engLdb x e), (0x34, 1, .engLdbu x e)] →
    Issues x o w s → a = dataAddr w (s.engine x.val) → a % k = 0 → 0x4000 ≤ a → isShared a = false →
    Does c s fun t => (t.engine x.val).st = esEXCEPTION ∧ t.reg (R.ENG_EXR_W0 x.val) = exrWord 3 (s.engine x.val).pc (wdogDue s (s.engine x.val)) ∧
      t.reg (R.ENG_EXR_W1 x.val) = w32 a ∧ t.reg (R.ENG_EXR_W2 x.val) = w32 s.epoch ∧ t.reg (R.ENG_EXR_W3 x.val) = w32 w ∧
      t.fg (R.ENG_PLFLT_EXC (x.val / 32)) = 1 ∧ Raised (if (s.engine x.val).safety = true then 0x08 else 0x66) (x.val / 32) t ∧ (t.engine x.val).g = (s.engine x.val).g ∧ (t.engine x.val).pc = (s.engine x.val).pc) ∧
  (∀ (x : Fin 1024) (e : Fin 4) (w k a o : Nat) (c : Instr) (s : State), (o, k, c) ∈ [(0x30, 4, .engLdw x e), (0x31, 2, .engLdh x e), (0x32, 2, .engLdhu x e), (0x33, 1, .engLdb x e), (0x34, 1, .engLdbu x e)] →
    2 ≤ e.val → Issues x o w s → a = dataAddr w (s.engine x.val) → a % k = 0 → (a < 0x4000 ∨ isShared a = true) →
    Does c s fun t => (t.engine x.val).st = esEXCEPTION ∧ t.reg (R.ENG_EXR_W0 x.val) = exrWord 4 (s.engine x.val).pc (wdogDue s (s.engine x.val)) ∧
      t.reg (R.ENG_EXR_W1 x.val) = (if e = 3 then w32 a else 0) ∧ t.reg (R.ENG_EXR_W2 x.val) = w32 s.epoch ∧ t.reg (R.ENG_EXR_W3 x.val) = w32 w ∧
      t.fg (R.ENG_PLFLT_EXC (x.val / 32)) = 1 ∧ Raised (if (s.engine x.val).safety = true then 0x08 else 0x66) (x.val / 32) t ∧ (t.engine x.val).g = (s.engine x.val).g ∧ (t.engine x.val).pc = (s.engine x.val).pc ∧
      t.fg (R.ENG_PLECC_UNCOR (x.val / 32)) = min 65535 (s.fg (R.ENG_PLECC_UNCOR (x.val / 32)) + 1) ∧
      t.fg (R.ENG_PLFLT_ECCU (x.val / 32)) = 1)
end

