-- ==== Sys2Proof/Laws/Smap.lean ====
section
/-! SUPPORT. Sparse contents: reading after each update, and that every update keeps the canonical form. -/
namespace Sys2Proof.Machine

variable {α : Type}

@[simp] theorem Smap.get_nil (d : Nat → α) (k : Nat) : Smap.get d [] k = d k := rfl

theorem Smap.get_erase (d : Nat → α) (m : List (Nat × α)) (k j : Nat) :
    Smap.get d (Smap.erase m k) j = if j = k then d k else Smap.get d m j := by
  induction m with
  | nil => by_cases h : j = k <;> simp [Smap.erase, Smap.get, h]
  | cons e m ih =>
    obtain ⟨i, v⟩ := e
    by_cases h : i = k <;> by_cases hj : j = k <;> by_cases hi : i = j <;>
      simp_all [Smap.erase, Smap.get]

theorem Smap.get_put (d : Nat → α) (m : List (Nat × α)) (k j : Nat) (v : α) :
    Smap.get d (Smap.put m k v) j = if j = k then v else Smap.get d m j := by
  induction m with
  | nil =>
    by_cases h : j = k
    · simp [Smap.put, Smap.get, h]
    · simp [Smap.put, Smap.get, h, Ne.symm h]
  | cons e m ih =>
    obtain ⟨i, u⟩ := e
    simp only [Smap.put]
    split
    · by_cases h : j = k
      · simp [Smap.get, h]
      · simp [Smap.get, h, Ne.symm h]
    · split
      · by_cases h : j = k
        · simp [Smap.get, h]
        · have hi : i ≠ j := by omega
          have hk : k ≠ j := by omega
          simp [Smap.get, h, hi, hk]
      · by_cases h : i = j
        · have hk : j ≠ k := by omega
          simp [Smap.get, h, hk]
        · simp [Smap.get, h, ih]

/-- Reading after a write: the value at the key written, what was there elsewhere. -/
theorem Smap.get_set [DecidableEq α] (d : Nat → α) (m : List (Nat × α)) (k j : Nat) (v : α) :
    Smap.get d (Smap.set d m k v) j = if j = k then v else Smap.get d m j := by
  unfold Smap.set
  split
  · rename_i h; rw [Smap.get_erase]; simp [h]
  · rw [Smap.get_put]

@[simp] theorem Smap.get_set_same [DecidableEq α] (d : Nat → α) (m : List (Nat × α)) (k : Nat) (v : α) :
    Smap.get d (Smap.set d m k v) k = v := by simp [Smap.get_set]

theorem Smap.get_set_ne [DecidableEq α] (d : Nat → α) (m : List (Nat × α)) {k j : Nat} (v : α) (h : j ≠ k) :
    Smap.get d (Smap.set d m k v) j = Smap.get d m j := by simp [Smap.get_set, h]

theorem Smap.get_clear (d : Nat → α) (m : List (Nat × α)) (p : Nat → Bool) (j : Nat) :
    Smap.get d (Smap.clear m p) j = if p j then d j else Smap.get d m j := by
  induction m with
  | nil => simp [Smap.clear, Smap.get]
  | cons e m ih =>
    obtain ⟨i, v⟩ := e
    simp only [Smap.clear, List.filter] at ih ⊢
    cases hp : p i <;> by_cases hi : i = j <;> simp_all [Smap.get]

/-- The keys of an erased map are among the old ones. -/
theorem Smap.mem_erase {m : List (Nat × α)} {k : Nat} {e : Nat × α} (h : e ∈ Smap.erase m k) : e ∈ m ∧ e.1 ≠ k := by
  induction m with
  | nil => simp [Smap.erase] at h
  | cons x m ih =>
    obtain ⟨i, v⟩ := x
    simp only [Smap.erase] at h
    split at h
    · exact ⟨List.mem_cons_of_mem _ (ih h).1, (ih h).2⟩
    · rcases List.mem_cons.1 h with rfl | h
      · exact ⟨List.mem_cons_self .., by simpa⟩
      · exact ⟨List.mem_cons_of_mem _ (ih h).1, (ih h).2⟩

theorem Smap.mem_put {m : List (Nat × α)} {k : Nat} {v : α} {e : Nat × α} (h : e ∈ Smap.put m k v) :
    e = (k, v) ∨ e ∈ m := by
  induction m with
  | nil => simp [Smap.put] at h; exact .inl h
  | cons x m ih =>
    obtain ⟨i, u⟩ := x
    simp only [Smap.put] at h
    split at h
    · rcases List.mem_cons.1 h with rfl | h
      · exact .inl rfl
      · exact .inr h
    · split at h
      · rcases List.mem_cons.1 h with rfl | h
        · exact .inl rfl
        · exact .inr (List.mem_cons_of_mem _ h)
      · rcases List.mem_cons.1 h with rfl | h
        · exact .inr (List.mem_cons_self ..)
        · rcases ih h with rfl | h
          · exact .inl rfl
          · exact .inr (List.mem_cons_of_mem _ h)

theorem Smap.sorted_erase {m : List (Nat × α)} {k : Nat} (h : m.Pairwise (fun a b => a.1 < b.1)) :
    (Smap.erase m k).Pairwise (fun a b => a.1 < b.1) := by
  induction m with
  | nil => simp [Smap.erase]
  | cons x m ih =>
    obtain ⟨i, v⟩ := x
    simp only [Smap.erase]
    rw [List.pairwise_cons] at h
    split
    · exact ih h.2
    · exact List.pairwise_cons.2 ⟨fun e he => h.1 e (Smap.mem_erase he).1, ih h.2⟩

theorem Smap.sorted_put {m : List (Nat × α)} {k : Nat} {v : α} (h : m.Pairwise (fun a b => a.1 < b.1)) :
    (Smap.put m k v).Pairwise (fun a b => a.1 < b.1) := by
  induction m with
  | nil => simp [Smap.put]
  | cons x m ih =>
    obtain ⟨i, u⟩ := x
    simp only [Smap.put]
    have h' := List.pairwise_cons.1 h
    split
    · rename_i hk
      refine List.pairwise_cons.2 ⟨fun e he => ?_, h⟩
      rcases List.mem_cons.1 he with rfl | he
      · exact hk
      · exact Nat.lt_trans hk (h'.1 e he)
    · split
      · rename_i hk; subst hk; exact List.pairwise_cons.2 ⟨h'.1, h'.2⟩
      · rename_i h1 h2
        refine List.pairwise_cons.2 ⟨fun e he => ?_, ih h'.2⟩
        rcases Smap.mem_put he with rfl | he
        · show i < k; omega
        · exact h'.1 e he

theorem Smap.wf_nil [DecidableEq α] (d : Nat → α) : Smap.wf d [] := by simp [Smap.wf]

/-- A write keeps the canonical form. -/
theorem Smap.wf_set [DecidableEq α] {d : Nat → α} {m : List (Nat × α)} (k : Nat) (v : α) (h : Smap.wf d m) :
    Smap.wf d (Smap.set d m k v) := by
  unfold Smap.set
  split
  · exact ⟨Smap.sorted_erase h.1, fun e he => h.2 e (Smap.mem_erase he).1⟩
  · rename_i hv
    refine ⟨Smap.sorted_put h.1, fun e he => ?_⟩
    rcases Smap.mem_put he with rfl | he
    · exact hv
    · exact h.2 e he

/-- Clearing keeps the canonical form. -/
theorem Smap.wf_clear [DecidableEq α] {d : Nat → α} {m : List (Nat × α)} (p : Nat → Bool) (h : Smap.wf d m) :
    Smap.wf d (Smap.clear m p) :=
  ⟨h.1.filter _, fun e he => h.2 e (List.mem_filter.1 he).1⟩

end Sys2Proof.Machine
end

