-- ==== Sys2Proof/Laws/Regs.lean ====
section
/-! SUPPORT. Bit fields and registers: what a register or a field holds after each way of writing one. -/
namespace Sys2Proof.Machine

/-! ## Bits -/

theorem bitsOf_lt (n lo w : Nat) : bitsOf n lo w < 2 ^ w := Nat.mod_lt _ (Nat.two_pow_pos w)

theorem testBit_bitsOf (n lo w i : Nat) : (bitsOf n lo w).testBit i = (decide (i < w) && n.testBit (lo + i)) := by
  simp [bitsOf, Nat.testBit_mod_two_pow, Nat.testBit_shiftRight]

theorem testBit_withBits (n lo w v i : Nat) :
    (withBits n lo w v).testBit i =
      if i < lo then n.testBit i else if i < lo + w then v.testBit (i - lo) else n.testBit i := by
  simp only [withBits, Nat.testBit_or, Nat.testBit_shiftLeft, Nat.testBit_shiftRight, Nat.testBit_mod_two_pow]
  by_cases h1 : i < lo
  · have : ¬ (lo + w ≤ i) := by omega
    have : ¬ (lo ≤ i) := by omega
    simp [*]
  · by_cases h2 : i < lo + w
    · have : ¬ (lo + w ≤ i) := by omega
      have : lo ≤ i := by omega
      have : i - lo < w := by omega
      simp [*]
    · have : lo + w ≤ i := by omega
      have : lo + w + (i - (lo + w)) = i := by omega
      have : ¬ (i - lo < w) := by omega
      simp [*]

theorem bitsOf_withBits_same (n lo w v : Nat) : bitsOf (withBits n lo w v) lo w = v % 2 ^ w := by
  apply Nat.eq_of_testBit_eq
  intro i
  rw [testBit_bitsOf, testBit_withBits, Nat.testBit_mod_two_pow]
  by_cases h : i < w <;> simp [h]

theorem bitsOf_withBits_disj (n lo w v lo' w' : Nat) (h : lo' + w' ≤ lo ∨ lo + w ≤ lo') :
    bitsOf (withBits n lo w v) lo' w' = bitsOf n lo' w' := by
  apply Nat.eq_of_testBit_eq
  intro i
  rw [testBit_bitsOf, testBit_bitsOf, testBit_withBits]
  by_cases h' : i < w'
  · by_cases h1 : lo' + i < lo
    · simp [h1]
    · have : ¬ (lo' + i < lo + w) := by omega
      simp [h1, this]
  · simp [h']

theorem withBits_lt (n lo w v N : Nat) (hn : n < 2 ^ N) (h : lo + w ≤ N) : withBits n lo w v < 2 ^ N := by
  apply Nat.lt_pow_two_of_testBit
  intro i hi
  have h1 : ¬ (i < lo) := by omega
  have h2 : ¬ (i < lo + w) := by omega
  rw [testBit_withBits, if_neg h1, if_neg h2]
  exact Nat.testBit_lt_two_pow (Nat.lt_of_lt_of_le hn (Nat.pow_le_pow_right (by decide) hi))

/-! ## Whole registers -/

@[simp] theorem State.reg_setReg_same (s : State) (a : Nat) (v : Word) : (s.setReg a v).reg a = v := by
  simp [State.reg, State.setReg]

theorem State.reg_setReg (s : State) (a b : Nat) (v : Word) :
    (s.setReg a v).reg b = if b = a then v else s.reg b := Smap.get_set ..

theorem State.reg_setReg_ne (s : State) {a b : Nat} (v : Word) (h : b ≠ a) : (s.setReg a v).reg b = s.reg b := by
  simp [State.reg_setReg, h]

theorem State.reg_clearRegs (s : State) (p : Nat → Bool) (a : Nat) :
    (s.clearRegs p).reg a = if p a then resetWord a else s.reg a := Smap.get_clear ..

theorem State.reg_reset (a : Nat) : State.reset.reg a = resetWord a := rfl

/-- A state that differs only outside the registers reads the same. -/
theorem State.reg_congr {s t : State} (h : t.regs = s.regs) (a : Nat) : t.reg a = s.reg a := by
  simp [State.reg, h]

/-! ## Fields -/

theorem State.fg_congr {s t : State} (f : Fld) (h : t.reg f.adr = s.reg f.adr) : t.fg f = s.fg f := by
  simp [State.fg, h]

theorem State.fg_lt (s : State) (f : Fld) : s.fg f < 2 ^ f.w := bitsOf_lt ..

theorem State.fs_toNat (s : State) (f : Fld) (v : Nat) (h : f.lo + f.w ≤ 32) :
    ((s.fs f v).reg f.adr).toNat = withBits (s.reg f.adr).toNat f.lo f.w v := by
  simp only [State.fs, State.reg_setReg_same, w32, BitVec.toNat_ofNat]
  exact Nat.mod_eq_of_lt (withBits_lt _ _ _ _ 32 (s.reg f.adr).isLt h)

/-- A field reads what was written, cut to its width. -/
theorem State.fg_fs_same (s : State) (f : Fld) (v : Nat) (h : f.lo + f.w ≤ 32) : (s.fs f v).fg f = v % 2 ^ f.w := by
  unfold State.fg; rw [State.fs_toNat s f v h]; exact bitsOf_withBits_same ..

/-- Another field of the same register keeps its value. -/
theorem State.fg_fs_disj (s : State) (f g : Fld) (v : Nat) (h : f.lo + f.w ≤ 32) (ha : g.adr = f.adr)
    (hd : g.lo + g.w ≤ f.lo ∨ f.lo + f.w ≤ g.lo) : (s.fs f v).fg g = s.fg g := by
  unfold State.fg; rw [ha, State.fs_toNat s f v h]; exact bitsOf_withBits_disj _ _ _ _ _ _ hd

theorem State.reg_fs_ne (s : State) (f : Fld) (v : Nat) {a : Nat} (h : a ≠ f.adr) : (s.fs f v).reg a = s.reg a :=
  State.reg_setReg_ne _ _ h

/-- A field of another register keeps its value. -/
theorem State.fg_fs_ne (s : State) (f g : Fld) (v : Nat) (h : g.adr ≠ f.adr) : (s.fs f v).fg g = s.fg g := by
  unfold State.fg; rw [State.reg_fs_ne s f v h]

end Sys2Proof.Machine
end

