-- ==== Sys2Proof/Laws/Ops.lean ====
section
/-! SUPPORT. What each shared operation can do, said once: `run`, raising a source, sending a message, replying. -/
namespace Sys2Proof.Machine

@[simp] theorem run_eq (f : State → State) (s : State) :
    run f s = .next { f s with pending := s.pending, variant := s.variant } := rfl

/-! ## Registers leave everything else -/

theorem State.setReg_frame (s : State) (a : Nat) (v : Word) : s.setReg a v = { s with regs := (s.setReg a v).regs } := rfl
theorem State.fs_frame (s : State) (f : Fld) (v : Nat) : s.fs f v = { s with regs := (s.fs f v).regs } := rfl
theorem State.fadd_frame (s : State) (f : Fld) (n : Nat) : s.fadd f n = { s with regs := (s.fadd f n).regs } := rfl
theorem State.inc_frame (s : State) (f : Fld) : s.inc f = { s with regs := (s.inc f).regs } := rfl
theorem State.clearRegs_frame (s : State) (p : Nat → Bool) :
    s.clearRegs p = { s with regs := (s.clearRegs p).regs } := rfl
theorem State.emit_frame (s : State) (c : Chan) (a : List Nat) (d : List Byte) :
    s.emit c a d = { s with out := s.out ++ [{ ch := c, args := a, data := d }] } := rfl

/-- A saturating counter. -/
theorem State.fg_inc (s : State) (f : Fld) (h : f.lo + f.w ≤ 32) :
    (s.inc f).fg f = min (s.fg f + 1) (2 ^ f.w - 1) := by
  rw [State.inc, State.fadd, State.fg_fs_same _ _ _ h, clampU]
  apply Nat.mod_eq_of_lt
  have := Nat.two_pow_pos f.w
  omega

/-! ## Raising a fault source (R479) -/

theorem testBit_setBit_self (n i : Nat) : (setBit n i true).testBit i = true := by
  simp [setBit, Nat.testBit_two_pow_self]

theorem setBit_lt (n i N : Nat) (h : n < 2 ^ N) (hi : i < N) : setBit n i true < 2 ^ N := by
  simp only [setBit, if_true]
  exact Nat.or_lt_two_pow h (Nat.pow_lt_pow_right (by decide) hi)

/-- What a raise can change: the sticky register of the island, SLOST when the stack queue is full, and the queues of
events. -/
theorem State.raiseAs_frame (s : State) (cls code isl param : Nat) :
    s.raiseAs cls code isl param = { s with
      regs := (s.raiseAs cls code isl param).regs
      flt := (s.raiseAs cls code isl param).flt
      stackQ := (s.raiseAs cls code isl param).stackQ } := by
  unfold State.raiseAs
  by_cases h1 : code = 0x0B <;> by_cases h2 : onStack isl <;> simp only [h1, h2, if_true, if_false] <;>
    first | rfl | (split <;> rfl)

theorem FLT_ISL_ne_STAT (i : Nat) : R.FLT_ISL i ≠ R.FLT_STAT := by
  simp only [R.FLT_ISL, R.FLT_STAT]; omega

/-- The sticky register after a raise. -/
theorem State.raiseAs_sticky (s : State) (cls code isl param : Nat) :
    (s.raiseAs cls code isl param).reg (R.FLT_ISL isl)
      = w32 (setBit (s.reg (R.FLT_ISL isl)).toNat (faultBit code) true) := by
  unfold State.raiseAs
  by_cases h1 : code = 0x0B <;> by_cases h2 : onStack isl <;> simp only [h1, h2, if_true, if_false] <;>
    first
    | exact State.reg_setReg_same ..
    | (split
       · exact State.reg_setReg_same ..
       · rw [State.inc, State.fadd, State.reg_fs_ne _ _ _ (FLT_ISL_ne_STAT isl)]; exact State.reg_setReg_same ..)

/-- Every other register keeps its value, but for FLT_STAT.SLOST. -/
theorem State.raiseAs_reg (s : State) (cls code isl param a : Nat) (h : a ≠ R.FLT_ISL isl) (h' : a ≠ R.FLT_STAT) :
    (s.raiseAs cls code isl param).reg a = s.reg a := by
  unfold State.raiseAs
  by_cases h1 : code = 0x0B <;> by_cases h2 : onStack isl <;> simp only [h1, h2, if_true, if_false] <;>
    first
    | exact State.reg_setReg_ne _ _ h
    | (split
       · exact State.reg_setReg_ne _ _ h
       · rw [State.inc, State.fadd, State.reg_fs_ne _ _ _ h']; exact State.reg_setReg_ne _ _ h)

/-- A system-die source changes no register but its island's. -/
theorem State.raiseAs_reg_sys (s : State) (cls code isl param a : Nat) (hs : onStack isl = false)
    (h : a ≠ R.FLT_ISL isl) : (s.raiseAs cls code isl param).reg a = s.reg a := by
  unfold State.raiseAs
  by_cases h1 : code = 0x0B <;> simp only [h1, hs, if_true, if_false, Bool.false_eq_true] <;>
    exact State.reg_setReg_ne _ _ h

theorem State.raise_frame (s : State) (code isl param : Nat) :
    s.raise code isl param = { s with
      regs := (s.raise code isl param).regs
      flt := (s.raise code isl param).flt
      stackQ := (s.raise code isl param).stackQ } := State.raiseAs_frame ..

theorem State.raise_reg (s : State) (code isl param a : Nat) (h : a ≠ R.FLT_ISL isl) (h' : a ≠ R.FLT_STAT) :
    (s.raise code isl param).reg a = s.reg a := State.raiseAs_reg _ _ _ _ _ _ h h'

theorem State.raise_reg_sys (s : State) (code isl param a : Nat) (hs : onStack isl = false) (h : a ≠ R.FLT_ISL isl) :
    (s.raise code isl param).reg a = s.reg a := State.raiseAs_reg_sys _ _ _ _ _ _ hs h

/-- The sticky bit of the source is set (R483). -/
theorem State.raise_bit (s : State) (code isl param : Nat) (h : faultBit code < 32) :
    ((s.raise code isl param).reg (R.FLT_ISL isl)).toNat.testBit (faultBit code) = true := by
  rw [State.raise, State.raiseAs_sticky]
  simp only [w32, BitVec.toNat_ofNat]
  rw [Nat.mod_eq_of_lt (setBit_lt _ _ 32 (s.reg (R.FLT_ISL isl)).isLt h)]
  exact testBit_setBit_self ..

/-! ## Barrier messages (R27, R28) -/

/-- What sending changes: the trace of what left, and the barrier's record of frames taken and of repetitions. -/
theorem sendDown_frame (k : Nat) (a : List Nat) (s : State) :
    sendDown k a s = { s with out := (sendDown k a s).out, bar := (sendDown k a s).bar } := by
  unfold sendDown; cases repeated k <;> rfl

theorem sendUp_frame (k : Nat) (a : List Nat) (s : State) :
    sendUp k a s = { s with out := (sendUp k a s).out, bar := (sendUp k a s).bar } := by
  unfold sendUp; cases messageLane s.bar.txMap <;> cases repeated k <;> rfl

/-- The frames of a message to the stack half leave in the first places that are free, on B22 (R25, R27). -/
theorem sendDown_out (k : Nat) (a : List Nat) (s : State) :
    (sendDown k a s).out = s.out ++
      [{ ch := .down, args := k :: a, data := msgData 22 (max (s.lt / 50 + 1) s.bar.downNext) (msgFrames k a) }] := by
  unfold sendDown; cases repeated k <;> rfl

/-- What a message to the stack half leaves of the barrier's state: the places it took, and its repetition (R28). -/
theorem sendDown_bar (k : Nat) (a : List Nat) (s : State) :
    (sendDown k a s).bar = { s.bar with
      downNext := max (s.lt / 50 + 1) s.bar.downNext + (msgFrames k a).length
      repDown := if repeated k then s.bar.repDown ++ [k] else s.bar.repDown } := by
  unfold sendDown; cases repeated k <;> rfl

/-- The frames of a message to the system half leave on the message lane, if a lane is healthy (R25, R31). -/
theorem sendUp_out (k l : Nat) (a : List Nat) (s : State) (h : messageLane s.bar.txMap = some l) :
    (sendUp k a s).out = s.out ++
      [{ ch := .up, args := k :: a, data := msgData l (max (s.lt / 50 + 1) s.bar.upNext) (msgFrames k a) }] := by
  unfold sendUp; rw [h]; cases repeated k <;> rfl

theorem sendUp_out_none (k : Nat) (a : List Nat) (s : State) (h : messageLane s.bar.txMap = none) :
    (sendUp k a s).out = s.out := by
  unfold sendUp; rw [h]; cases repeated k <;> rfl

theorem sendUp_bar (k l : Nat) (a : List Nat) (s : State) (h : messageLane s.bar.txMap = some l) :
    (sendUp k a s).bar = { s.bar with
      upNext := max (s.lt / 50 + 1) s.bar.upNext + (msgFrames k a).length
      repUp := if repeated k then s.bar.repUp ++ [k] else s.bar.repUp } := by
  unfold sendUp; rw [h]; cases repeated k <;> rfl

/-! ## Periodic duties -/

/-- A duty of one half does nothing while that half is in reset, one of the running parcels nothing before them. -/
@[simp] theorem whenSystem_up (f : State → State) (s : State) (h : s.sysUp = true) : whenSystem f s = f s := by
  simp [whenSystem, h]
@[simp] theorem whenStack_up (f : State → State) (s : State) (h : s.rst.stackUp = true) : whenStack f s = f s := by
  simp [whenStack, h]

/-- A duty that is due runs, and is due again `ns` later; one that is not does nothing. -/
@[simp] theorem State.periodic_due (k ns : Nat) (f : State → State) (s : State)
    (h : s.due (Smap.get (fun _ => 0) s.duty k) ns = true) :
    s.periodic k ns f = f { s with duty := Smap.set (fun _ => 0) s.duty k s.lt } := by simp [State.periodic, h]
@[simp] theorem State.periodic_early (k ns : Nat) (f : State → State) (s : State)
    (h : s.due (Smap.get (fun _ => 0) s.duty k) ns = false) : s.periodic k ns f = s := by simp [State.periodic, h]

end Sys2Proof.Machine
end

