-- ==== Sys2Proof/Laws/State.lean ====
section
/-! SUPPORT. One lemma per field of State per named update: what the update leaves in that field. -/
namespace Sys2Proof.Machine

variable (s : State)

/-! ## `setReg` -/

@[simp] theorem State.setReg_pending (a : Nat) (v : Word) : (s.setReg a v).pending = s.pending := rfl
@[simp] theorem State.setReg_variant (a : Nat) (v : Word) : (s.setReg a v).variant = s.variant := rfl
@[simp] theorem State.setReg_now (a : Nat) (v : Word) : (s.setReg a v).now = s.now := rfl
@[simp] theorem State.setReg_lt (a : Nat) (v : Word) : (s.setReg a v).lt = s.lt := rfl
@[simp] theorem State.setReg_duty (a : Nat) (v : Word) : (s.setReg a v).duty = s.duty := rfl
@[simp] theorem State.setReg_srstHigh (a : Nat) (v : Word) : (s.setReg a v).srstHigh = s.srstHigh := rfl
@[simp] theorem State.setReg_freeCtr (a : Nat) (v : Word) : (s.setReg a v).freeCtr = s.freeCtr := rfl
@[simp] theorem State.setReg_regs (a : Nat) (v : Word) : (s.setReg a v).regs = Smap.set resetWord s.regs a v := rfl
@[simp] theorem State.setReg_out (a : Nat) (v : Word) : (s.setReg a v).out = s.out := rfl
@[simp] theorem State.setReg_bar (a : Nat) (v : Word) : (s.setReg a v).bar = s.bar := rfl
@[simp] theorem State.setReg_dom (a : Nat) (v : Word) : (s.setReg a v).dom = s.dom := rfl
@[simp] theorem State.setReg_smp (a : Nat) (v : Word) : (s.setReg a v).smp = s.smp := rfl
@[simp] theorem State.setReg_swp (a : Nat) (v : Word) : (s.setReg a v).swp = s.swp := rfl
@[simp] theorem State.setReg_cmp (a : Nat) (v : Word) : (s.setReg a v).cmp = s.cmp := rfl
@[simp] theorem State.setReg_bal (a : Nat) (v : Word) : (s.setReg a v).bal = s.bal := rfl
@[simp] theorem State.setReg_exc (a : Nat) (v : Word) : (s.setReg a v).exc = s.exc := rfl
@[simp] theorem State.setReg_prf (a : Nat) (v : Word) : (s.setReg a v).prf = s.prf := rfl
@[simp] theorem State.setReg_svc (a : Nat) (v : Word) : (s.setReg a v).svc = s.svc := rfl
@[simp] theorem State.setReg_est (a : Nat) (v : Word) : (s.setReg a v).est = s.est := rfl
@[simp] theorem State.setReg_arr (a : Nat) (v : Word) : (s.setReg a v).arr = s.arr := rfl
@[simp] theorem State.setReg_fab (a : Nat) (v : Word) : (s.setReg a v).fab = s.fab := rfl
@[simp] theorem State.setReg_soc (a : Nat) (v : Word) : (s.setReg a v).soc = s.soc := rfl
@[simp] theorem State.setReg_ssv (a : Nat) (v : Word) : (s.setReg a v).ssv = s.ssv := rfl
@[simp] theorem State.setReg_flt (a : Nat) (v : Word) : (s.setReg a v).flt = s.flt := rfl
@[simp] theorem State.setReg_stackQ (a : Nat) (v : Word) : (s.setReg a v).stackQ = s.stackQ := rfl
@[simp] theorem State.setReg_tone (a : Nat) (v : Word) : (s.setReg a v).tone = s.tone := rfl
@[simp] theorem State.setReg_rst (a : Nat) (v : Word) : (s.setReg a v).rst = s.rst := rfl
@[simp] theorem State.setReg_bst (a : Nat) (v : Word) : (s.setReg a v).bst = s.bst := rfl
@[simp] theorem State.setReg_cp (a : Nat) (v : Word) : (s.setReg a v).cp = s.cp := rfl
@[simp] theorem State.setReg_hst (a : Nat) (v : Word) : (s.setReg a v).hst = s.hst := rfl
@[simp] theorem State.setReg_cad (a : Nat) (v : Word) : (s.setReg a v).cad = s.cad := rfl
@[simp] theorem State.setReg_nv (a : Nat) (v : Word) : (s.setReg a v).nv = s.nv := rfl
@[simp] theorem State.setReg_fls (a : Nat) (v : Word) : (s.setReg a v).fls = s.fls := rfl
@[simp] theorem State.setReg_cap (a : Nat) (v : Word) : (s.setReg a v).cap = s.cap := rfl
@[simp] theorem State.setReg_nvBuf (a : Nat) (v : Word) : (s.setReg a v).nvBuf = s.nvBuf := rfl
@[simp] theorem State.setReg_thm (a : Nat) (v : Word) : (s.setReg a v).thm = s.thm := rfl
@[simp] theorem State.setReg_pwr (a : Nat) (v : Word) : (s.setReg a v).pwr = s.pwr := rfl
@[simp] theorem State.setReg_stao (a : Nat) (v : Word) : (s.setReg a v).stao = s.stao := rfl
@[simp] theorem State.setReg_change (a : Nat) (v : Word) : (s.setReg a v).change = s.change := rfl
@[simp] theorem State.setReg_pwd (a : Nat) (v : Word) : (s.setReg a v).pwd = s.pwd := rfl
@[simp] theorem State.setReg_peg (a : Nat) (v : Word) : (s.setReg a v).peg = s.peg := rfl
@[simp] theorem State.setReg_trv (a : Nat) (v : Word) : (s.setReg a v).trv = s.trv := rfl
@[simp] theorem State.setReg_net (a : Nat) (v : Word) : (s.setReg a v).net = s.net := rfl
@[simp] theorem State.setReg_dtm (a : Nat) (v : Word) : (s.setReg a v).dtm = s.dtm := rfl
@[simp] theorem State.setReg_rx (a : Nat) (v : Word) : (s.setReg a v).rx = s.rx := rfl

/-! ## `fs` -/

@[simp] theorem State.fs_pending (f : Fld) (v : Nat) : (s.fs f v).pending = s.pending := rfl
@[simp] theorem State.fs_variant (f : Fld) (v : Nat) : (s.fs f v).variant = s.variant := rfl
@[simp] theorem State.fs_now (f : Fld) (v : Nat) : (s.fs f v).now = s.now := rfl
@[simp] theorem State.fs_lt (f : Fld) (v : Nat) : (s.fs f v).lt = s.lt := rfl
@[simp] theorem State.fs_duty (f : Fld) (v : Nat) : (s.fs f v).duty = s.duty := rfl
@[simp] theorem State.fs_srstHigh (f : Fld) (v : Nat) : (s.fs f v).srstHigh = s.srstHigh := rfl
@[simp] theorem State.fs_freeCtr (f : Fld) (v : Nat) : (s.fs f v).freeCtr = s.freeCtr := rfl
@[simp] theorem State.fs_out (f : Fld) (v : Nat) : (s.fs f v).out = s.out := rfl
@[simp] theorem State.fs_bar (f : Fld) (v : Nat) : (s.fs f v).bar = s.bar := rfl
@[simp] theorem State.fs_dom (f : Fld) (v : Nat) : (s.fs f v).dom = s.dom := rfl
@[simp] theorem State.fs_smp (f : Fld) (v : Nat) : (s.fs f v).smp = s.smp := rfl
@[simp] theorem State.fs_swp (f : Fld) (v : Nat) : (s.fs f v).swp = s.swp := rfl
@[simp] theorem State.fs_cmp (f : Fld) (v : Nat) : (s.fs f v).cmp = s.cmp := rfl
@[simp] theorem State.fs_bal (f : Fld) (v : Nat) : (s.fs f v).bal = s.bal := rfl
@[simp] theorem State.fs_exc (f : Fld) (v : Nat) : (s.fs f v).exc = s.exc := rfl
@[simp] theorem State.fs_prf (f : Fld) (v : Nat) : (s.fs f v).prf = s.prf := rfl
@[simp] theorem State.fs_svc (f : Fld) (v : Nat) : (s.fs f v).svc = s.svc := rfl
@[simp] theorem State.fs_est (f : Fld) (v : Nat) : (s.fs f v).est = s.est := rfl
@[simp] theorem State.fs_arr (f : Fld) (v : Nat) : (s.fs f v).arr = s.arr := rfl
@[simp] theorem State.fs_fab (f : Fld) (v : Nat) : (s.fs f v).fab = s.fab := rfl
@[simp] theorem State.fs_soc (f : Fld) (v : Nat) : (s.fs f v).soc = s.soc := rfl
@[simp] theorem State.fs_ssv (f : Fld) (v : Nat) : (s.fs f v).ssv = s.ssv := rfl
@[simp] theorem State.fs_flt (f : Fld) (v : Nat) : (s.fs f v).flt = s.flt := rfl
@[simp] theorem State.fs_stackQ (f : Fld) (v : Nat) : (s.fs f v).stackQ = s.stackQ := rfl
@[simp] theorem State.fs_tone (f : Fld) (v : Nat) : (s.fs f v).tone = s.tone := rfl
@[simp] theorem State.fs_rst (f : Fld) (v : Nat) : (s.fs f v).rst = s.rst := rfl
@[simp] theorem State.fs_bst (f : Fld) (v : Nat) : (s.fs f v).bst = s.bst := rfl
@[simp] theorem State.fs_cp (f : Fld) (v : Nat) : (s.fs f v).cp = s.cp := rfl
@[simp] theorem State.fs_hst (f : Fld) (v : Nat) : (s.fs f v).hst = s.hst := rfl
@[simp] theorem State.fs_cad (f : Fld) (v : Nat) : (s.fs f v).cad = s.cad := rfl
@[simp] theorem State.fs_nv (f : Fld) (v : Nat) : (s.fs f v).nv = s.nv := rfl
@[simp] theorem State.fs_fls (f : Fld) (v : Nat) : (s.fs f v).fls = s.fls := rfl
@[simp] theorem State.fs_cap (f : Fld) (v : Nat) : (s.fs f v).cap = s.cap := rfl
@[simp] theorem State.fs_nvBuf (f : Fld) (v : Nat) : (s.fs f v).nvBuf = s.nvBuf := rfl
@[simp] theorem State.fs_thm (f : Fld) (v : Nat) : (s.fs f v).thm = s.thm := rfl
@[simp] theorem State.fs_pwr (f : Fld) (v : Nat) : (s.fs f v).pwr = s.pwr := rfl
@[simp] theorem State.fs_stao (f : Fld) (v : Nat) : (s.fs f v).stao = s.stao := rfl
@[simp] theorem State.fs_change (f : Fld) (v : Nat) : (s.fs f v).change = s.change := rfl
@[simp] theorem State.fs_pwd (f : Fld) (v : Nat) : (s.fs f v).pwd = s.pwd := rfl
@[simp] theorem State.fs_peg (f : Fld) (v : Nat) : (s.fs f v).peg = s.peg := rfl
@[simp] theorem State.fs_trv (f : Fld) (v : Nat) : (s.fs f v).trv = s.trv := rfl
@[simp] theorem State.fs_net (f : Fld) (v : Nat) : (s.fs f v).net = s.net := rfl
@[simp] theorem State.fs_dtm (f : Fld) (v : Nat) : (s.fs f v).dtm = s.dtm := rfl
@[simp] theorem State.fs_rx (f : Fld) (v : Nat) : (s.fs f v).rx = s.rx := rfl

/-! ## `fadd` -/

@[simp] theorem State.fadd_pending (f : Fld) (n : Nat) : (s.fadd f n).pending = s.pending := rfl
@[simp] theorem State.fadd_variant (f : Fld) (n : Nat) : (s.fadd f n).variant = s.variant := rfl
@[simp] theorem State.fadd_now (f : Fld) (n : Nat) : (s.fadd f n).now = s.now := rfl
@[simp] theorem State.fadd_lt (f : Fld) (n : Nat) : (s.fadd f n).lt = s.lt := rfl
@[simp] theorem State.fadd_duty (f : Fld) (n : Nat) : (s.fadd f n).duty = s.duty := rfl
@[simp] theorem State.fadd_srstHigh (f : Fld) (n : Nat) : (s.fadd f n).srstHigh = s.srstHigh := rfl
@[simp] theorem State.fadd_freeCtr (f : Fld) (n : Nat) : (s.fadd f n).freeCtr = s.freeCtr := rfl
@[simp] theorem State.fadd_out (f : Fld) (n : Nat) : (s.fadd f n).out = s.out := rfl
@[simp] theorem State.fadd_bar (f : Fld) (n : Nat) : (s.fadd f n).bar = s.bar := rfl
@[simp] theorem State.fadd_dom (f : Fld) (n : Nat) : (s.fadd f n).dom = s.dom := rfl
@[simp] theorem State.fadd_smp (f : Fld) (n : Nat) : (s.fadd f n).smp = s.smp := rfl
@[simp] theorem State.fadd_swp (f : Fld) (n : Nat) : (s.fadd f n).swp = s.swp := rfl
@[simp] theorem State.fadd_cmp (f : Fld) (n : Nat) : (s.fadd f n).cmp = s.cmp := rfl
@[simp] theorem State.fadd_bal (f : Fld) (n : Nat) : (s.fadd f n).bal = s.bal := rfl
@[simp] theorem State.fadd_exc (f : Fld) (n : Nat) : (s.fadd f n).exc = s.exc := rfl
@[simp] theorem State.fadd_prf (f : Fld) (n : Nat) : (s.fadd f n).prf = s.prf := rfl
@[simp] theorem State.fadd_svc (f : Fld) (n : Nat) : (s.fadd f n).svc = s.svc := rfl
@[simp] theorem State.fadd_est (f : Fld) (n : Nat) : (s.fadd f n).est = s.est := rfl
@[simp] theorem State.fadd_arr (f : Fld) (n : Nat) : (s.fadd f n).arr = s.arr := rfl
@[simp] theorem State.fadd_fab (f : Fld) (n : Nat) : (s.fadd f n).fab = s.fab := rfl
@[simp] theorem State.fadd_soc (f : Fld) (n : Nat) : (s.fadd f n).soc = s.soc := rfl
@[simp] theorem State.fadd_ssv (f : Fld) (n : Nat) : (s.fadd f n).ssv = s.ssv := rfl
@[simp] theorem State.fadd_flt (f : Fld) (n : Nat) : (s.fadd f n).flt = s.flt := rfl
@[simp] theorem State.fadd_stackQ (f : Fld) (n : Nat) : (s.fadd f n).stackQ = s.stackQ := rfl
@[simp] theorem State.fadd_tone (f : Fld) (n : Nat) : (s.fadd f n).tone = s.tone := rfl
@[simp] theorem State.fadd_rst (f : Fld) (n : Nat) : (s.fadd f n).rst = s.rst := rfl
@[simp] theorem State.fadd_bst (f : Fld) (n : Nat) : (s.fadd f n).bst = s.bst := rfl
@[simp] theorem State.fadd_cp (f : Fld) (n : Nat) : (s.fadd f n).cp = s.cp := rfl
@[simp] theorem State.fadd_hst (f : Fld) (n : Nat) : (s.fadd f n).hst = s.hst := rfl
@[simp] theorem State.fadd_cad (f : Fld) (n : Nat) : (s.fadd f n).cad = s.cad := rfl
@[simp] theorem State.fadd_nv (f : Fld) (n : Nat) : (s.fadd f n).nv = s.nv := rfl
@[simp] theorem State.fadd_fls (f : Fld) (n : Nat) : (s.fadd f n).fls = s.fls := rfl
@[simp] theorem State.fadd_cap (f : Fld) (n : Nat) : (s.fadd f n).cap = s.cap := rfl
@[simp] theorem State.fadd_nvBuf (f : Fld) (n : Nat) : (s.fadd f n).nvBuf = s.nvBuf := rfl
@[simp] theorem State.fadd_thm (f : Fld) (n : Nat) : (s.fadd f n).thm = s.thm := rfl
@[simp] theorem State.fadd_pwr (f : Fld) (n : Nat) : (s.fadd f n).pwr = s.pwr := rfl
@[simp] theorem State.fadd_stao (f : Fld) (n : Nat) : (s.fadd f n).stao = s.stao := rfl
@[simp] theorem State.fadd_change (f : Fld) (n : Nat) : (s.fadd f n).change = s.change := rfl
@[simp] theorem State.fadd_pwd (f : Fld) (n : Nat) : (s.fadd f n).pwd = s.pwd := rfl
@[simp] theorem State.fadd_peg (f : Fld) (n : Nat) : (s.fadd f n).peg = s.peg := rfl
@[simp] theorem State.fadd_trv (f : Fld) (n : Nat) : (s.fadd f n).trv = s.trv := rfl
@[simp] theorem State.fadd_net (f : Fld) (n : Nat) : (s.fadd f n).net = s.net := rfl
@[simp] theorem State.fadd_dtm (f : Fld) (n : Nat) : (s.fadd f n).dtm = s.dtm := rfl
@[simp] theorem State.fadd_rx (f : Fld) (n : Nat) : (s.fadd f n).rx = s.rx := rfl

/-! ## `inc` -/

@[simp] theorem State.inc_pending (f : Fld) : (s.inc f).pending = s.pending := rfl
@[simp] theorem State.inc_variant (f : Fld) : (s.inc f).variant = s.variant := rfl
@[simp] theorem State.inc_now (f : Fld) : (s.inc f).now = s.now := rfl
@[simp] theorem State.inc_lt (f : Fld) : (s.inc f).lt = s.lt := rfl
@[simp] theorem State.inc_duty (f : Fld) : (s.inc f).duty = s.duty := rfl
@[simp] theorem State.inc_srstHigh (f : Fld) : (s.inc f).srstHigh = s.srstHigh := rfl
@[simp] theorem State.inc_freeCtr (f : Fld) : (s.inc f).freeCtr = s.freeCtr := rfl
@[simp] theorem State.inc_out (f : Fld) : (s.inc f).out = s.out := rfl
@[simp] theorem State.inc_bar (f : Fld) : (s.inc f).bar = s.bar := rfl
@[simp] theorem State.inc_dom (f : Fld) : (s.inc f).dom = s.dom := rfl
@[simp] theorem State.inc_smp (f : Fld) : (s.inc f).smp = s.smp := rfl
@[simp] theorem State.inc_swp (f : Fld) : (s.inc f).swp = s.swp := rfl
@[simp] theorem State.inc_cmp (f : Fld) : (s.inc f).cmp = s.cmp := rfl
@[simp] theorem State.inc_bal (f : Fld) : (s.inc f).bal = s.bal := rfl
@[simp] theorem State.inc_exc (f : Fld) : (s.inc f).exc = s.exc := rfl
@[simp] theorem State.inc_prf (f : Fld) : (s.inc f).prf = s.prf := rfl
@[simp] theorem State.inc_svc (f : Fld) : (s.inc f).svc = s.svc := rfl
@[simp] theorem State.inc_est (f : Fld) : (s.inc f).est = s.est := rfl
@[simp] theorem State.inc_arr (f : Fld) : (s.inc f).arr = s.arr := rfl
@[simp] theorem State.inc_fab (f : Fld) : (s.inc f).fab = s.fab := rfl
@[simp] theorem State.inc_soc (f : Fld) : (s.inc f).soc = s.soc := rfl
@[simp] theorem State.inc_ssv (f : Fld) : (s.inc f).ssv = s.ssv := rfl
@[simp] theorem State.inc_flt (f : Fld) : (s.inc f).flt = s.flt := rfl
@[simp] theorem State.inc_stackQ (f : Fld) : (s.inc f).stackQ = s.stackQ := rfl
@[simp] theorem State.inc_tone (f : Fld) : (s.inc f).tone = s.tone := rfl
@[simp] theorem State.inc_rst (f : Fld) : (s.inc f).rst = s.rst := rfl
@[simp] theorem State.inc_bst (f : Fld) : (s.inc f).bst = s.bst := rfl
@[simp] theorem State.inc_cp (f : Fld) : (s.inc f).cp = s.cp := rfl
@[simp] theorem State.inc_hst (f : Fld) : (s.inc f).hst = s.hst := rfl
@[simp] theorem State.inc_cad (f : Fld) : (s.inc f).cad = s.cad := rfl
@[simp] theorem State.inc_nv (f : Fld) : (s.inc f).nv = s.nv := rfl
@[simp] theorem State.inc_fls (f : Fld) : (s.inc f).fls = s.fls := rfl
@[simp] theorem State.inc_cap (f : Fld) : (s.inc f).cap = s.cap := rfl
@[simp] theorem State.inc_nvBuf (f : Fld) : (s.inc f).nvBuf = s.nvBuf := rfl
@[simp] theorem State.inc_thm (f : Fld) : (s.inc f).thm = s.thm := rfl
@[simp] theorem State.inc_pwr (f : Fld) : (s.inc f).pwr = s.pwr := rfl
@[simp] theorem State.inc_stao (f : Fld) : (s.inc f).stao = s.stao := rfl
@[simp] theorem State.inc_change (f : Fld) : (s.inc f).change = s.change := rfl
@[simp] theorem State.inc_pwd (f : Fld) : (s.inc f).pwd = s.pwd := rfl
@[simp] theorem State.inc_peg (f : Fld) : (s.inc f).peg = s.peg := rfl
@[simp] theorem State.inc_trv (f : Fld) : (s.inc f).trv = s.trv := rfl
@[simp] theorem State.inc_net (f : Fld) : (s.inc f).net = s.net := rfl
@[simp] theorem State.inc_dtm (f : Fld) : (s.inc f).dtm = s.dtm := rfl
@[simp] theorem State.inc_rx (f : Fld) : (s.inc f).rx = s.rx := rfl

/-! ## `fbit` -/

@[simp] theorem State.fbit_pending (f : Fld) (i : Nat) (b : Bool) : (s.fbit f i b).pending = s.pending := rfl
@[simp] theorem State.fbit_variant (f : Fld) (i : Nat) (b : Bool) : (s.fbit f i b).variant = s.variant := rfl
@[simp] theorem State.fbit_now (f : Fld) (i : Nat) (b : Bool) : (s.fbit f i b).now = s.now := rfl
@[simp] theorem State.fbit_lt (f : Fld) (i : Nat) (b : Bool) : (s.fbit f i b).lt = s.lt := rfl
@[simp] theorem State.fbit_duty (f : Fld) (i : Nat) (b : Bool) : (s.fbit f i b).duty = s.duty := rfl
@[simp] theorem State.fbit_srstHigh (f : Fld) (i : Nat) (b : Bool) : (s.fbit f i b).srstHigh = s.srstHigh := rfl
@[simp] theorem State.fbit_freeCtr (f : Fld) (i : Nat) (b : Bool) : (s.fbit f i b).freeCtr = s.freeCtr := rfl
@[simp] theorem State.fbit_out (f : Fld) (i : Nat) (b : Bool) : (s.fbit f i b).out = s.out := rfl
@[simp] theorem State.fbit_bar (f : Fld) (i : Nat) (b : Bool) : (s.fbit f i b).bar = s.bar := rfl
@[simp] theorem State.fbit_dom (f : Fld) (i : Nat) (b : Bool) : (s.fbit f i b).dom = s.dom := rfl
@[simp] theorem State.fbit_smp (f : Fld) (i : Nat) (b : Bool) : (s.fbit f i b).smp = s.smp := rfl
@[simp] theorem State.fbit_swp (f : Fld) (i : Nat) (b : Bool) : (s.fbit f i b).swp = s.swp := rfl
@[simp] theorem State.fbit_cmp (f : Fld) (i : Nat) (b : Bool) : (s.fbit f i b).cmp = s.cmp := rfl
@[simp] theorem State.fbit_bal (f : Fld) (i : Nat) (b : Bool) : (s.fbit f i b).bal = s.bal := rfl
@[simp] theorem State.fbit_exc (f : Fld) (i : Nat) (b : Bool) : (s.fbit f i b).exc = s.exc := rfl
@[simp] theorem State.fbit_prf (f : Fld) (i : Nat) (b : Bool) : (s.fbit f i b).prf = s.prf := rfl
@[simp] theorem State.fbit_svc (f : Fld) (i : Nat) (b : Bool) : (s.fbit f i b).svc = s.svc := rfl
@[simp] theorem State.fbit_est (f : Fld) (i : Nat) (b : Bool) : (s.fbit f i b).est = s.est := rfl
@[simp] theorem State.fbit_arr (f : Fld) (i : Nat) (b : Bool) : (s.fbit f i b).arr = s.arr := rfl
@[simp] theorem State.fbit_fab (f : Fld) (i : Nat) (b : Bool) : (s.fbit f i b).fab = s.fab := rfl
@[simp] theorem State.fbit_soc (f : Fld) (i : Nat) (b : Bool) : (s.fbit f i b).soc = s.soc := rfl
@[simp] theorem State.fbit_ssv (f : Fld) (i : Nat) (b : Bool) : (s.fbit f i b).ssv = s.ssv := rfl
@[simp] theorem State.fbit_flt (f : Fld) (i : Nat) (b : Bool) : (s.fbit f i b).flt = s.flt := rfl
@[simp] theorem State.fbit_stackQ (f : Fld) (i : Nat) (b : Bool) : (s.fbit f i b).stackQ = s.stackQ := rfl
@[simp] theorem State.fbit_tone (f : Fld) (i : Nat) (b : Bool) : (s.fbit f i b).tone = s.tone := rfl
@[simp] theorem State.fbit_rst (f : Fld) (i : Nat) (b : Bool) : (s.fbit f i b).rst = s.rst := rfl
@[simp] theorem State.fbit_bst (f : Fld) (i : Nat) (b : Bool) : (s.fbit f i b).bst = s.bst := rfl
@[simp] theorem State.fbit_cp (f : Fld) (i : Nat) (b : Bool) : (s.fbit f i b).cp = s.cp := rfl
@[simp] theorem State.fbit_hst (f : Fld) (i : Nat) (b : Bool) : (s.fbit f i b).hst = s.hst := rfl
@[simp] theorem State.fbit_cad (f : Fld) (i : Nat) (b : Bool) : (s.fbit f i b).cad = s.cad := rfl
@[simp] theorem State.fbit_nv (f : Fld) (i : Nat) (b : Bool) : (s.fbit f i b).nv = s.nv := rfl
@[simp] theorem State.fbit_fls (f : Fld) (i : Nat) (b : Bool) : (s.fbit f i b).fls = s.fls := rfl
@[simp] theorem State.fbit_cap (f : Fld) (i : Nat) (b : Bool) : (s.fbit f i b).cap = s.cap := rfl
@[simp] theorem State.fbit_nvBuf (f : Fld) (i : Nat) (b : Bool) : (s.fbit f i b).nvBuf = s.nvBuf := rfl
@[simp] theorem State.fbit_thm (f : Fld) (i : Nat) (b : Bool) : (s.fbit f i b).thm = s.thm := rfl
@[simp] theorem State.fbit_pwr (f : Fld) (i : Nat) (b : Bool) : (s.fbit f i b).pwr = s.pwr := rfl
@[simp] theorem State.fbit_stao (f : Fld) (i : Nat) (b : Bool) : (s.fbit f i b).stao = s.stao := rfl
@[simp] theorem State.fbit_change (f : Fld) (i : Nat) (b : Bool) : (s.fbit f i b).change = s.change := rfl
@[simp] theorem State.fbit_pwd (f : Fld) (i : Nat) (b : Bool) : (s.fbit f i b).pwd = s.pwd := rfl
@[simp] theorem State.fbit_peg (f : Fld) (i : Nat) (b : Bool) : (s.fbit f i b).peg = s.peg := rfl
@[simp] theorem State.fbit_trv (f : Fld) (i : Nat) (b : Bool) : (s.fbit f i b).trv = s.trv := rfl
@[simp] theorem State.fbit_net (f : Fld) (i : Nat) (b : Bool) : (s.fbit f i b).net = s.net := rfl
@[simp] theorem State.fbit_dtm (f : Fld) (i : Nat) (b : Bool) : (s.fbit f i b).dtm = s.dtm := rfl
@[simp] theorem State.fbit_rx (f : Fld) (i : Nat) (b : Bool) : (s.fbit f i b).rx = s.rx := rfl

/-! ## `clearRegs` -/

@[simp] theorem State.clearRegs_pending (p : Nat → Bool) : (s.clearRegs p).pending = s.pending := rfl
@[simp] theorem State.clearRegs_variant (p : Nat → Bool) : (s.clearRegs p).variant = s.variant := rfl
@[simp] theorem State.clearRegs_now (p : Nat → Bool) : (s.clearRegs p).now = s.now := rfl
@[simp] theorem State.clearRegs_lt (p : Nat → Bool) : (s.clearRegs p).lt = s.lt := rfl
@[simp] theorem State.clearRegs_duty (p : Nat → Bool) : (s.clearRegs p).duty = s.duty := rfl
@[simp] theorem State.clearRegs_srstHigh (p : Nat → Bool) : (s.clearRegs p).srstHigh = s.srstHigh := rfl
@[simp] theorem State.clearRegs_freeCtr (p : Nat → Bool) : (s.clearRegs p).freeCtr = s.freeCtr := rfl
@[simp] theorem State.clearRegs_regs (p : Nat → Bool) : (s.clearRegs p).regs = Smap.clear s.regs p := rfl
@[simp] theorem State.clearRegs_out (p : Nat → Bool) : (s.clearRegs p).out = s.out := rfl
@[simp] theorem State.clearRegs_bar (p : Nat → Bool) : (s.clearRegs p).bar = s.bar := rfl
@[simp] theorem State.clearRegs_dom (p : Nat → Bool) : (s.clearRegs p).dom = s.dom := rfl
@[simp] theorem State.clearRegs_smp (p : Nat → Bool) : (s.clearRegs p).smp = s.smp := rfl
@[simp] theorem State.clearRegs_swp (p : Nat → Bool) : (s.clearRegs p).swp = s.swp := rfl
@[simp] theorem State.clearRegs_cmp (p : Nat → Bool) : (s.clearRegs p).cmp = s.cmp := rfl
@[simp] theorem State.clearRegs_bal (p : Nat → Bool) : (s.clearRegs p).bal = s.bal := rfl
@[simp] theorem State.clearRegs_exc (p : Nat → Bool) : (s.clearRegs p).exc = s.exc := rfl
@[simp] theorem State.clearRegs_prf (p : Nat → Bool) : (s.clearRegs p).prf = s.prf := rfl
@[simp] theorem State.clearRegs_svc (p : Nat → Bool) : (s.clearRegs p).svc = s.svc := rfl
@[simp] theorem State.clearRegs_est (p : Nat → Bool) : (s.clearRegs p).est = s.est := rfl
@[simp] theorem State.clearRegs_arr (p : Nat → Bool) : (s.clearRegs p).arr = s.arr := rfl
@[simp] theorem State.clearRegs_fab (p : Nat → Bool) : (s.clearRegs p).fab = s.fab := rfl
@[simp] theorem State.clearRegs_soc (p : Nat → Bool) : (s.clearRegs p).soc = s.soc := rfl
@[simp] theorem State.clearRegs_ssv (p : Nat → Bool) : (s.clearRegs p).ssv = s.ssv := rfl
@[simp] theorem State.clearRegs_flt (p : Nat → Bool) : (s.clearRegs p).flt = s.flt := rfl
@[simp] theorem State.clearRegs_stackQ (p : Nat → Bool) : (s.clearRegs p).stackQ = s.stackQ := rfl
@[simp] theorem State.clearRegs_tone (p : Nat → Bool) : (s.clearRegs p).tone = s.tone := rfl
@[simp] theorem State.clearRegs_rst (p : Nat → Bool) : (s.clearRegs p).rst = s.rst := rfl
@[simp] theorem State.clearRegs_bst (p : Nat → Bool) : (s.clearRegs p).bst = s.bst := rfl
@[simp] theorem State.clearRegs_cp (p : Nat → Bool) : (s.clearRegs p).cp = s.cp := rfl
@[simp] theorem State.clearRegs_hst (p : Nat → Bool) : (s.clearRegs p).hst = s.hst := rfl
@[simp] theorem State.clearRegs_cad (p : Nat → Bool) : (s.clearRegs p).cad = s.cad := rfl
@[simp] theorem State.clearRegs_nv (p : Nat → Bool) : (s.clearRegs p).nv = s.nv := rfl
@[simp] theorem State.clearRegs_fls (p : Nat → Bool) : (s.clearRegs p).fls = s.fls := rfl
@[simp] theorem State.clearRegs_cap (p : Nat → Bool) : (s.clearRegs p).cap = s.cap := rfl
@[simp] theorem State.clearRegs_nvBuf (p : Nat → Bool) : (s.clearRegs p).nvBuf = s.nvBuf := rfl
@[simp] theorem State.clearRegs_thm (p : Nat → Bool) : (s.clearRegs p).thm = s.thm := rfl
@[simp] theorem State.clearRegs_pwr (p : Nat → Bool) : (s.clearRegs p).pwr = s.pwr := rfl
@[simp] theorem State.clearRegs_stao (p : Nat → Bool) : (s.clearRegs p).stao = s.stao := rfl
@[simp] theorem State.clearRegs_change (p : Nat → Bool) : (s.clearRegs p).change = s.change := rfl
@[simp] theorem State.clearRegs_pwd (p : Nat → Bool) : (s.clearRegs p).pwd = s.pwd := rfl
@[simp] theorem State.clearRegs_peg (p : Nat → Bool) : (s.clearRegs p).peg = s.peg := rfl
@[simp] theorem State.clearRegs_trv (p : Nat → Bool) : (s.clearRegs p).trv = s.trv := rfl
@[simp] theorem State.clearRegs_net (p : Nat → Bool) : (s.clearRegs p).net = s.net := rfl
@[simp] theorem State.clearRegs_dtm (p : Nat → Bool) : (s.clearRegs p).dtm = s.dtm := rfl
@[simp] theorem State.clearRegs_rx (p : Nat → Bool) : (s.clearRegs p).rx = s.rx := rfl

/-! ## `wait` -/

@[simp] theorem State.wait_pending (ns : Nat) : (s.wait ns).pending = s.pending := rfl
@[simp] theorem State.wait_variant (ns : Nat) : (s.wait ns).variant = s.variant := rfl
@[simp] theorem State.wait_now (ns : Nat) : (s.wait ns).now = s.now + ns := rfl
@[simp] theorem State.wait_lt (ns : Nat) : (s.wait ns).lt = s.lt + ns := rfl
@[simp] theorem State.wait_duty (ns : Nat) : (s.wait ns).duty = s.duty := rfl
@[simp] theorem State.wait_srstHigh (ns : Nat) : (s.wait ns).srstHigh = s.srstHigh := rfl
@[simp] theorem State.wait_freeCtr (ns : Nat) : (s.wait ns).freeCtr = s.freeCtr := rfl
@[simp] theorem State.wait_regs (ns : Nat) : (s.wait ns).regs = s.regs := rfl
@[simp] theorem State.wait_out (ns : Nat) : (s.wait ns).out = s.out := rfl
@[simp] theorem State.wait_bar (ns : Nat) : (s.wait ns).bar = s.bar := rfl
@[simp] theorem State.wait_dom (ns : Nat) : (s.wait ns).dom = s.dom := rfl
@[simp] theorem State.wait_smp (ns : Nat) : (s.wait ns).smp = s.smp := rfl
@[simp] theorem State.wait_swp (ns : Nat) : (s.wait ns).swp = s.swp := rfl
@[simp] theorem State.wait_cmp (ns : Nat) : (s.wait ns).cmp = s.cmp := rfl
@[simp] theorem State.wait_bal (ns : Nat) : (s.wait ns).bal = s.bal := rfl
@[simp] theorem State.wait_exc (ns : Nat) : (s.wait ns).exc = s.exc := rfl
@[simp] theorem State.wait_prf (ns : Nat) : (s.wait ns).prf = s.prf := rfl
@[simp] theorem State.wait_svc (ns : Nat) : (s.wait ns).svc = s.svc := rfl
@[simp] theorem State.wait_est (ns : Nat) : (s.wait ns).est = s.est := rfl
@[simp] theorem State.wait_arr (ns : Nat) : (s.wait ns).arr = s.arr := rfl
@[simp] theorem State.wait_fab (ns : Nat) : (s.wait ns).fab = s.fab := rfl
@[simp] theorem State.wait_soc (ns : Nat) : (s.wait ns).soc = s.soc := rfl
@[simp] theorem State.wait_ssv (ns : Nat) : (s.wait ns).ssv = s.ssv := rfl
@[simp] theorem State.wait_flt (ns : Nat) : (s.wait ns).flt = s.flt := rfl
@[simp] theorem State.wait_stackQ (ns : Nat) : (s.wait ns).stackQ = s.stackQ := rfl
@[simp] theorem State.wait_tone (ns : Nat) : (s.wait ns).tone = s.tone := rfl
@[simp] theorem State.wait_rst (ns : Nat) : (s.wait ns).rst = s.rst := rfl
@[simp] theorem State.wait_bst (ns : Nat) : (s.wait ns).bst = s.bst := rfl
@[simp] theorem State.wait_cp (ns : Nat) : (s.wait ns).cp = s.cp := rfl
@[simp] theorem State.wait_hst (ns : Nat) : (s.wait ns).hst = s.hst := rfl
@[simp] theorem State.wait_cad (ns : Nat) : (s.wait ns).cad = s.cad := rfl
@[simp] theorem State.wait_nv (ns : Nat) : (s.wait ns).nv = s.nv := rfl
@[simp] theorem State.wait_fls (ns : Nat) : (s.wait ns).fls = s.fls := rfl
@[simp] theorem State.wait_cap (ns : Nat) : (s.wait ns).cap = s.cap := rfl
@[simp] theorem State.wait_nvBuf (ns : Nat) : (s.wait ns).nvBuf = s.nvBuf := rfl
@[simp] theorem State.wait_thm (ns : Nat) : (s.wait ns).thm = s.thm := rfl
@[simp] theorem State.wait_pwr (ns : Nat) : (s.wait ns).pwr = s.pwr := rfl
@[simp] theorem State.wait_stao (ns : Nat) : (s.wait ns).stao = s.stao := rfl
@[simp] theorem State.wait_change (ns : Nat) : (s.wait ns).change = s.change := rfl
@[simp] theorem State.wait_pwd (ns : Nat) : (s.wait ns).pwd = s.pwd := rfl
@[simp] theorem State.wait_peg (ns : Nat) : (s.wait ns).peg = s.peg := rfl
@[simp] theorem State.wait_trv (ns : Nat) : (s.wait ns).trv = s.trv := rfl
@[simp] theorem State.wait_net (ns : Nat) : (s.wait ns).net = s.net := rfl
@[simp] theorem State.wait_dtm (ns : Nat) : (s.wait ns).dtm = s.dtm := rfl
@[simp] theorem State.wait_rx (ns : Nat) : (s.wait ns).rx = s.rx := rfl
@[simp] theorem State.wait_reg (ns : Nat) (r : Nat) : (s.wait ns).reg r = s.reg r := State.reg_congr (rfl) r
@[simp] theorem State.wait_fg (ns : Nat) (x : Fld) : (s.wait ns).fg x = s.fg x := State.fg_congr x (State.reg_congr (rfl) _)

/-! ## `until` -/

@[simp] theorem State.until_pending (t : Nat) : (s.until t).pending = s.pending := rfl
@[simp] theorem State.until_variant (t : Nat) : (s.until t).variant = s.variant := rfl
@[simp] theorem State.until_duty (t : Nat) : (s.until t).duty = s.duty := rfl
@[simp] theorem State.until_srstHigh (t : Nat) : (s.until t).srstHigh = s.srstHigh := rfl
@[simp] theorem State.until_freeCtr (t : Nat) : (s.until t).freeCtr = s.freeCtr := rfl
@[simp] theorem State.until_regs (t : Nat) : (s.until t).regs = s.regs := rfl
@[simp] theorem State.until_out (t : Nat) : (s.until t).out = s.out := rfl
@[simp] theorem State.until_bar (t : Nat) : (s.until t).bar = s.bar := rfl
@[simp] theorem State.until_dom (t : Nat) : (s.until t).dom = s.dom := rfl
@[simp] theorem State.until_smp (t : Nat) : (s.until t).smp = s.smp := rfl
@[simp] theorem State.until_swp (t : Nat) : (s.until t).swp = s.swp := rfl
@[simp] theorem State.until_cmp (t : Nat) : (s.until t).cmp = s.cmp := rfl
@[simp] theorem State.until_bal (t : Nat) : (s.until t).bal = s.bal := rfl
@[simp] theorem State.until_exc (t : Nat) : (s.until t).exc = s.exc := rfl
@[simp] theorem State.until_prf (t : Nat) : (s.until t).prf = s.prf := rfl
@[simp] theorem State.until_svc (t : Nat) : (s.until t).svc = s.svc := rfl
@[simp] theorem State.until_est (t : Nat) : (s.until t).est = s.est := rfl
@[simp] theorem State.until_arr (t : Nat) : (s.until t).arr = s.arr := rfl
@[simp] theorem State.until_fab (t : Nat) : (s.until t).fab = s.fab := rfl
@[simp] theorem State.until_soc (t : Nat) : (s.until t).soc = s.soc := rfl
@[simp] theorem State.until_ssv (t : Nat) : (s.until t).ssv = s.ssv := rfl
@[simp] theorem State.until_flt (t : Nat) : (s.until t).flt = s.flt := rfl
@[simp] theorem State.until_stackQ (t : Nat) : (s.until t).stackQ = s.stackQ := rfl
@[simp] theorem State.until_tone (t : Nat) : (s.until t).tone = s.tone := rfl
@[simp] theorem State.until_rst (t : Nat) : (s.until t).rst = s.rst := rfl
@[simp] theorem State.until_bst (t : Nat) : (s.until t).bst = s.bst := rfl
@[simp] theorem State.until_cp (t : Nat) : (s.until t).cp = s.cp := rfl
@[simp] theorem State.until_hst (t : Nat) : (s.until t).hst = s.hst := rfl
@[simp] theorem State.until_cad (t : Nat) : (s.until t).cad = s.cad := rfl
@[simp] theorem State.until_nv (t : Nat) : (s.until t).nv = s.nv := rfl
@[simp] theorem State.until_fls (t : Nat) : (s.until t).fls = s.fls := rfl
@[simp] theorem State.until_cap (t : Nat) : (s.until t).cap = s.cap := rfl
@[simp] theorem State.until_nvBuf (t : Nat) : (s.until t).nvBuf = s.nvBuf := rfl
@[simp] theorem State.until_thm (t : Nat) : (s.until t).thm = s.thm := rfl
@[simp] theorem State.until_pwr (t : Nat) : (s.until t).pwr = s.pwr := rfl
@[simp] theorem State.until_stao (t : Nat) : (s.until t).stao = s.stao := rfl
@[simp] theorem State.until_change (t : Nat) : (s.until t).change = s.change := rfl
@[simp] theorem State.until_pwd (t : Nat) : (s.until t).pwd = s.pwd := rfl
@[simp] theorem State.until_peg (t : Nat) : (s.until t).peg = s.peg := rfl
@[simp] theorem State.until_trv (t : Nat) : (s.until t).trv = s.trv := rfl
@[simp] theorem State.until_net (t : Nat) : (s.until t).net = s.net := rfl
@[simp] theorem State.until_dtm (t : Nat) : (s.until t).dtm = s.dtm := rfl
@[simp] theorem State.until_rx (t : Nat) : (s.until t).rx = s.rx := rfl
@[simp] theorem State.until_reg (t : Nat) (r : Nat) : (s.until t).reg r = s.reg r := State.reg_congr (rfl) r
@[simp] theorem State.until_fg (t : Nat) (x : Fld) : (s.until t).fg x = s.fg x := State.fg_congr x (State.reg_congr (rfl) _)

/-! ## `emit` -/

@[simp] theorem State.emit_pending (c : Chan) (a : List Nat) (d : List Byte) : (s.emit c a d).pending = s.pending := rfl
@[simp] theorem State.emit_variant (c : Chan) (a : List Nat) (d : List Byte) : (s.emit c a d).variant = s.variant := rfl
@[simp] theorem State.emit_now (c : Chan) (a : List Nat) (d : List Byte) : (s.emit c a d).now = s.now := rfl
@[simp] theorem State.emit_lt (c : Chan) (a : List Nat) (d : List Byte) : (s.emit c a d).lt = s.lt := rfl
@[simp] theorem State.emit_duty (c : Chan) (a : List Nat) (d : List Byte) : (s.emit c a d).duty = s.duty := rfl
@[simp] theorem State.emit_srstHigh (c : Chan) (a : List Nat) (d : List Byte) : (s.emit c a d).srstHigh = s.srstHigh := rfl
@[simp] theorem State.emit_freeCtr (c : Chan) (a : List Nat) (d : List Byte) : (s.emit c a d).freeCtr = s.freeCtr := rfl
@[simp] theorem State.emit_regs (c : Chan) (a : List Nat) (d : List Byte) : (s.emit c a d).regs = s.regs := rfl
@[simp] theorem State.emit_out (c : Chan) (a : List Nat) (d : List Byte) : (s.emit c a d).out = s.out ++ [{ ch := c, args := a, data := d }] := rfl
@[simp] theorem State.emit_bar (c : Chan) (a : List Nat) (d : List Byte) : (s.emit c a d).bar = s.bar := rfl
@[simp] theorem State.emit_dom (c : Chan) (a : List Nat) (d : List Byte) : (s.emit c a d).dom = s.dom := rfl
@[simp] theorem State.emit_smp (c : Chan) (a : List Nat) (d : List Byte) : (s.emit c a d).smp = s.smp := rfl
@[simp] theorem State.emit_swp (c : Chan) (a : List Nat) (d : List Byte) : (s.emit c a d).swp = s.swp := rfl
@[simp] theorem State.emit_cmp (c : Chan) (a : List Nat) (d : List Byte) : (s.emit c a d).cmp = s.cmp := rfl
@[simp] theorem State.emit_bal (c : Chan) (a : List Nat) (d : List Byte) : (s.emit c a d).bal = s.bal := rfl
@[simp] theorem State.emit_exc (c : Chan) (a : List Nat) (d : List Byte) : (s.emit c a d).exc = s.exc := rfl
@[simp] theorem State.emit_prf (c : Chan) (a : List Nat) (d : List Byte) : (s.emit c a d).prf = s.prf := rfl
@[simp] theorem State.emit_svc (c : Chan) (a : List Nat) (d : List Byte) : (s.emit c a d).svc = s.svc := rfl
@[simp] theorem State.emit_est (c : Chan) (a : List Nat) (d : List Byte) : (s.emit c a d).est = s.est := rfl
@[simp] theorem State.emit_arr (c : Chan) (a : List Nat) (d : List Byte) : (s.emit c a d).arr = s.arr := rfl
@[simp] theorem State.emit_fab (c : Chan) (a : List Nat) (d : List Byte) : (s.emit c a d).fab = s.fab := rfl
@[simp] theorem State.emit_soc (c : Chan) (a : List Nat) (d : List Byte) : (s.emit c a d).soc = s.soc := rfl
@[simp] theorem State.emit_ssv (c : Chan) (a : List Nat) (d : List Byte) : (s.emit c a d).ssv = s.ssv := rfl
@[simp] theorem State.emit_flt (c : Chan) (a : List Nat) (d : List Byte) : (s.emit c a d).flt = s.flt := rfl
@[simp] theorem State.emit_stackQ (c : Chan) (a : List Nat) (d : List Byte) : (s.emit c a d).stackQ = s.stackQ := rfl
@[simp] theorem State.emit_tone (c : Chan) (a : List Nat) (d : List Byte) : (s.emit c a d).tone = s.tone := rfl
@[simp] theorem State.emit_rst (c : Chan) (a : List Nat) (d : List Byte) : (s.emit c a d).rst = s.rst := rfl
@[simp] theorem State.emit_bst (c : Chan) (a : List Nat) (d : List Byte) : (s.emit c a d).bst = s.bst := rfl
@[simp] theorem State.emit_cp (c : Chan) (a : List Nat) (d : List Byte) : (s.emit c a d).cp = s.cp := rfl
@[simp] theorem State.emit_hst (c : Chan) (a : List Nat) (d : List Byte) : (s.emit c a d).hst = s.hst := rfl
@[simp] theorem State.emit_cad (c : Chan) (a : List Nat) (d : List Byte) : (s.emit c a d).cad = s.cad := rfl
@[simp] theorem State.emit_nv (c : Chan) (a : List Nat) (d : List Byte) : (s.emit c a d).nv = s.nv := rfl
@[simp] theorem State.emit_fls (c : Chan) (a : List Nat) (d : List Byte) : (s.emit c a d).fls = s.fls := rfl
@[simp] theorem State.emit_cap (c : Chan) (a : List Nat) (d : List Byte) : (s.emit c a d).cap = s.cap := rfl
@[simp] theorem State.emit_nvBuf (c : Chan) (a : List Nat) (d : List Byte) : (s.emit c a d).nvBuf = s.nvBuf := rfl
@[simp] theorem State.emit_thm (c : Chan) (a : List Nat) (d : List Byte) : (s.emit c a d).thm = s.thm := rfl
@[simp] theorem State.emit_pwr (c : Chan) (a : List Nat) (d : List Byte) : (s.emit c a d).pwr = s.pwr := rfl
@[simp] theorem State.emit_stao (c : Chan) (a : List Nat) (d : List Byte) : (s.emit c a d).stao = s.stao := rfl
@[simp] theorem State.emit_change (c : Chan) (a : List Nat) (d : List Byte) : (s.emit c a d).change = s.change := rfl
@[simp] theorem State.emit_pwd (c : Chan) (a : List Nat) (d : List Byte) : (s.emit c a d).pwd = s.pwd := rfl
@[simp] theorem State.emit_peg (c : Chan) (a : List Nat) (d : List Byte) : (s.emit c a d).peg = s.peg := rfl
@[simp] theorem State.emit_trv (c : Chan) (a : List Nat) (d : List Byte) : (s.emit c a d).trv = s.trv := rfl
@[simp] theorem State.emit_net (c : Chan) (a : List Nat) (d : List Byte) : (s.emit c a d).net = s.net := rfl
@[simp] theorem State.emit_dtm (c : Chan) (a : List Nat) (d : List Byte) : (s.emit c a d).dtm = s.dtm := rfl
@[simp] theorem State.emit_rx (c : Chan) (a : List Nat) (d : List Byte) : (s.emit c a d).rx = s.rx := rfl
@[simp] theorem State.emit_reg (c : Chan) (a : List Nat) (d : List Byte) (r : Nat) : (s.emit c a d).reg r = s.reg r := State.reg_congr (rfl) r
@[simp] theorem State.emit_fg (c : Chan) (a : List Nat) (d : List Byte) (x : Fld) : (s.emit c a d).fg x = s.fg x := State.fg_congr x (State.reg_congr (rfl) _)

/-! ## `done` -/

@[simp] theorem State.done_pending (t : Stat) (v : Nat) : (s.done t v).pending = s.pending := rfl
@[simp] theorem State.done_variant (t : Stat) (v : Nat) : (s.done t v).variant = s.variant := rfl
@[simp] theorem State.done_now (t : Stat) (v : Nat) : (s.done t v).now = s.now := rfl
@[simp] theorem State.done_lt (t : Stat) (v : Nat) : (s.done t v).lt = s.lt := rfl
@[simp] theorem State.done_duty (t : Stat) (v : Nat) : (s.done t v).duty = s.duty := rfl
@[simp] theorem State.done_srstHigh (t : Stat) (v : Nat) : (s.done t v).srstHigh = s.srstHigh := rfl
@[simp] theorem State.done_freeCtr (t : Stat) (v : Nat) : (s.done t v).freeCtr = s.freeCtr := rfl
@[simp] theorem State.done_regs (t : Stat) (v : Nat) : (s.done t v).regs = s.regs := rfl
@[simp] theorem State.done_out (t : Stat) (v : Nat) : (s.done t v).out = s.out ++ [{ ch := .status, args := [t.code, t.reason, v] }] := rfl
@[simp] theorem State.done_bar (t : Stat) (v : Nat) : (s.done t v).bar = s.bar := rfl
@[simp] theorem State.done_dom (t : Stat) (v : Nat) : (s.done t v).dom = s.dom := rfl
@[simp] theorem State.done_smp (t : Stat) (v : Nat) : (s.done t v).smp = s.smp := rfl
@[simp] theorem State.done_swp (t : Stat) (v : Nat) : (s.done t v).swp = s.swp := rfl
@[simp] theorem State.done_cmp (t : Stat) (v : Nat) : (s.done t v).cmp = s.cmp := rfl
@[simp] theorem State.done_bal (t : Stat) (v : Nat) : (s.done t v).bal = s.bal := rfl
@[simp] theorem State.done_exc (t : Stat) (v : Nat) : (s.done t v).exc = s.exc := rfl
@[simp] theorem State.done_prf (t : Stat) (v : Nat) : (s.done t v).prf = s.prf := rfl
@[simp] theorem State.done_svc (t : Stat) (v : Nat) : (s.done t v).svc = s.svc := rfl
@[simp] theorem State.done_est (t : Stat) (v : Nat) : (s.done t v).est = s.est := rfl
@[simp] theorem State.done_arr (t : Stat) (v : Nat) : (s.done t v).arr = s.arr := rfl
@[simp] theorem State.done_fab (t : Stat) (v : Nat) : (s.done t v).fab = s.fab := rfl
@[simp] theorem State.done_soc (t : Stat) (v : Nat) : (s.done t v).soc = s.soc := rfl
@[simp] theorem State.done_ssv (t : Stat) (v : Nat) : (s.done t v).ssv = s.ssv := rfl
@[simp] theorem State.done_flt (t : Stat) (v : Nat) : (s.done t v).flt = s.flt := rfl
@[simp] theorem State.done_stackQ (t : Stat) (v : Nat) : (s.done t v).stackQ = s.stackQ := rfl
@[simp] theorem State.done_tone (t : Stat) (v : Nat) : (s.done t v).tone = s.tone := rfl
@[simp] theorem State.done_rst (t : Stat) (v : Nat) : (s.done t v).rst = s.rst := rfl
@[simp] theorem State.done_bst (t : Stat) (v : Nat) : (s.done t v).bst = s.bst := rfl
@[simp] theorem State.done_cp (t : Stat) (v : Nat) : (s.done t v).cp = s.cp := rfl
@[simp] theorem State.done_hst (t : Stat) (v : Nat) : (s.done t v).hst = s.hst := rfl
@[simp] theorem State.done_cad (t : Stat) (v : Nat) : (s.done t v).cad = s.cad := rfl
@[simp] theorem State.done_nv (t : Stat) (v : Nat) : (s.done t v).nv = s.nv := rfl
@[simp] theorem State.done_fls (t : Stat) (v : Nat) : (s.done t v).fls = s.fls := rfl
@[simp] theorem State.done_cap (t : Stat) (v : Nat) : (s.done t v).cap = s.cap := rfl
@[simp] theorem State.done_nvBuf (t : Stat) (v : Nat) : (s.done t v).nvBuf = s.nvBuf := rfl
@[simp] theorem State.done_thm (t : Stat) (v : Nat) : (s.done t v).thm = s.thm := rfl
@[simp] theorem State.done_pwr (t : Stat) (v : Nat) : (s.done t v).pwr = s.pwr := rfl
@[simp] theorem State.done_stao (t : Stat) (v : Nat) : (s.done t v).stao = s.stao := rfl
@[simp] theorem State.done_change (t : Stat) (v : Nat) : (s.done t v).change = s.change := rfl
@[simp] theorem State.done_pwd (t : Stat) (v : Nat) : (s.done t v).pwd = s.pwd := rfl
@[simp] theorem State.done_peg (t : Stat) (v : Nat) : (s.done t v).peg = s.peg := rfl
@[simp] theorem State.done_trv (t : Stat) (v : Nat) : (s.done t v).trv = s.trv := rfl
@[simp] theorem State.done_net (t : Stat) (v : Nat) : (s.done t v).net = s.net := rfl
@[simp] theorem State.done_dtm (t : Stat) (v : Nat) : (s.done t v).dtm = s.dtm := rfl
@[simp] theorem State.done_rx (t : Stat) (v : Nat) : (s.done t v).rx = s.rx := rfl
@[simp] theorem State.done_reg (t : Stat) (v : Nat) (r : Nat) : (s.done t v).reg r = s.reg r := State.reg_congr (rfl) r
@[simp] theorem State.done_fg (t : Stat) (v : Nat) (x : Fld) : (s.done t v).fg x = s.fg x := State.fg_congr x (State.reg_congr (rfl) _)

/-! ## `free` -/

@[simp] theorem State.free_pending : (s.free.2).pending = s.pending := rfl
@[simp] theorem State.free_variant : (s.free.2).variant = s.variant := rfl
@[simp] theorem State.free_now : (s.free.2).now = s.now := rfl
@[simp] theorem State.free_lt : (s.free.2).lt = s.lt := rfl
@[simp] theorem State.free_duty : (s.free.2).duty = s.duty := rfl
@[simp] theorem State.free_srstHigh : (s.free.2).srstHigh = s.srstHigh := rfl
@[simp] theorem State.free_freeCtr : (s.free.2).freeCtr = s.freeCtr + 1 := rfl
@[simp] theorem State.free_regs : (s.free.2).regs = s.regs := rfl
@[simp] theorem State.free_out : (s.free.2).out = s.out := rfl
@[simp] theorem State.free_bar : (s.free.2).bar = s.bar := rfl
@[simp] theorem State.free_dom : (s.free.2).dom = s.dom := rfl
@[simp] theorem State.free_smp : (s.free.2).smp = s.smp := rfl
@[simp] theorem State.free_swp : (s.free.2).swp = s.swp := rfl
@[simp] theorem State.free_cmp : (s.free.2).cmp = s.cmp := rfl
@[simp] theorem State.free_bal : (s.free.2).bal = s.bal := rfl
@[simp] theorem State.free_exc : (s.free.2).exc = s.exc := rfl
@[simp] theorem State.free_prf : (s.free.2).prf = s.prf := rfl
@[simp] theorem State.free_svc : (s.free.2).svc = s.svc := rfl
@[simp] theorem State.free_est : (s.free.2).est = s.est := rfl
@[simp] theorem State.free_arr : (s.free.2).arr = s.arr := rfl
@[simp] theorem State.free_fab : (s.free.2).fab = s.fab := rfl
@[simp] theorem State.free_soc : (s.free.2).soc = s.soc := rfl
@[simp] theorem State.free_ssv : (s.free.2).ssv = s.ssv := rfl
@[simp] theorem State.free_flt : (s.free.2).flt = s.flt := rfl
@[simp] theorem State.free_stackQ : (s.free.2).stackQ = s.stackQ := rfl
@[simp] theorem State.free_tone : (s.free.2).tone = s.tone := rfl
@[simp] theorem State.free_rst : (s.free.2).rst = s.rst := rfl
@[simp] theorem State.free_bst : (s.free.2).bst = s.bst := rfl
@[simp] theorem State.free_cp : (s.free.2).cp = s.cp := rfl
@[simp] theorem State.free_hst : (s.free.2).hst = s.hst := rfl
@[simp] theorem State.free_cad : (s.free.2).cad = s.cad := rfl
@[simp] theorem State.free_nv : (s.free.2).nv = s.nv := rfl
@[simp] theorem State.free_fls : (s.free.2).fls = s.fls := rfl
@[simp] theorem State.free_cap : (s.free.2).cap = s.cap := rfl
@[simp] theorem State.free_nvBuf : (s.free.2).nvBuf = s.nvBuf := rfl
@[simp] theorem State.free_thm : (s.free.2).thm = s.thm := rfl
@[simp] theorem State.free_pwr : (s.free.2).pwr = s.pwr := rfl
@[simp] theorem State.free_stao : (s.free.2).stao = s.stao := rfl
@[simp] theorem State.free_change : (s.free.2).change = s.change := rfl
@[simp] theorem State.free_pwd : (s.free.2).pwd = s.pwd := rfl
@[simp] theorem State.free_peg : (s.free.2).peg = s.peg := rfl
@[simp] theorem State.free_trv : (s.free.2).trv = s.trv := rfl
@[simp] theorem State.free_net : (s.free.2).net = s.net := rfl
@[simp] theorem State.free_dtm : (s.free.2).dtm = s.dtm := rfl
@[simp] theorem State.free_rx : (s.free.2).rx = s.rx := rfl
@[simp] theorem State.free_reg (r : Nat) : (s.free.2).reg r = s.reg r := State.reg_congr (rfl) r
@[simp] theorem State.free_fg (x : Fld) : (s.free.2).fg x = s.fg x := State.fg_congr x (State.reg_congr (rfl) _)

/-! ## `countUp` -/

@[simp] theorem State.countUp_pending (i : Nat) : (s.countUp i).pending = s.pending := rfl
@[simp] theorem State.countUp_variant (i : Nat) : (s.countUp i).variant = s.variant := rfl
@[simp] theorem State.countUp_now (i : Nat) : (s.countUp i).now = s.now := rfl
@[simp] theorem State.countUp_lt (i : Nat) : (s.countUp i).lt = s.lt := rfl
@[simp] theorem State.countUp_duty (i : Nat) : (s.countUp i).duty = s.duty := rfl
@[simp] theorem State.countUp_srstHigh (i : Nat) : (s.countUp i).srstHigh = s.srstHigh := rfl
@[simp] theorem State.countUp_freeCtr (i : Nat) : (s.countUp i).freeCtr = s.freeCtr := rfl
@[simp] theorem State.countUp_regs (i : Nat) : (s.countUp i).regs = s.regs := rfl
@[simp] theorem State.countUp_out (i : Nat) : (s.countUp i).out = s.out := rfl
@[simp] theorem State.countUp_bar (i : Nat) : (s.countUp i).bar = s.bar := rfl
@[simp] theorem State.countUp_dom (i : Nat) : (s.countUp i).dom = s.dom := rfl
@[simp] theorem State.countUp_smp (i : Nat) : (s.countUp i).smp = s.smp := rfl
@[simp] theorem State.countUp_swp (i : Nat) : (s.countUp i).swp = s.swp := rfl
@[simp] theorem State.countUp_cmp (i : Nat) : (s.countUp i).cmp = s.cmp := rfl
@[simp] theorem State.countUp_bal (i : Nat) : (s.countUp i).bal = s.bal := rfl
@[simp] theorem State.countUp_exc (i : Nat) : (s.countUp i).exc = s.exc := rfl
@[simp] theorem State.countUp_prf (i : Nat) : (s.countUp i).prf = s.prf := rfl
@[simp] theorem State.countUp_svc (i : Nat) : (s.countUp i).svc = s.svc := rfl
@[simp] theorem State.countUp_est (i : Nat) : (s.countUp i).est = s.est := rfl
@[simp] theorem State.countUp_arr (i : Nat) : (s.countUp i).arr = s.arr := rfl
@[simp] theorem State.countUp_fab (i : Nat) : (s.countUp i).fab = s.fab := rfl
@[simp] theorem State.countUp_soc (i : Nat) : (s.countUp i).soc = s.soc := rfl
@[simp] theorem State.countUp_ssv (i : Nat) : (s.countUp i).ssv = s.ssv := rfl
@[simp] theorem State.countUp_flt (i : Nat) : (s.countUp i).flt = s.flt := rfl
@[simp] theorem State.countUp_stackQ (i : Nat) : (s.countUp i).stackQ = s.stackQ := rfl
@[simp] theorem State.countUp_tone (i : Nat) : (s.countUp i).tone = s.tone := rfl
@[simp] theorem State.countUp_rst (i : Nat) : (s.countUp i).rst = s.rst := rfl
@[simp] theorem State.countUp_bst (i : Nat) : (s.countUp i).bst = s.bst := rfl
@[simp] theorem State.countUp_cp (i : Nat) : (s.countUp i).cp = s.cp := rfl
@[simp] theorem State.countUp_hst (i : Nat) : (s.countUp i).hst = s.hst := rfl
@[simp] theorem State.countUp_cad (i : Nat) : (s.countUp i).cad = s.cad := rfl
@[simp] theorem State.countUp_fls (i : Nat) : (s.countUp i).fls = s.fls := rfl
@[simp] theorem State.countUp_cap (i : Nat) : (s.countUp i).cap = s.cap := rfl
@[simp] theorem State.countUp_nvBuf (i : Nat) : (s.countUp i).nvBuf = s.nvBuf := rfl
@[simp] theorem State.countUp_thm (i : Nat) : (s.countUp i).thm = s.thm := rfl
@[simp] theorem State.countUp_pwr (i : Nat) : (s.countUp i).pwr = s.pwr := rfl
@[simp] theorem State.countUp_stao (i : Nat) : (s.countUp i).stao = s.stao := rfl
@[simp] theorem State.countUp_change (i : Nat) : (s.countUp i).change = s.change := rfl
@[simp] theorem State.countUp_pwd (i : Nat) : (s.countUp i).pwd = s.pwd := rfl
@[simp] theorem State.countUp_peg (i : Nat) : (s.countUp i).peg = s.peg := rfl
@[simp] theorem State.countUp_trv (i : Nat) : (s.countUp i).trv = s.trv := rfl
@[simp] theorem State.countUp_net (i : Nat) : (s.countUp i).net = s.net := rfl
@[simp] theorem State.countUp_dtm (i : Nat) : (s.countUp i).dtm = s.dtm := rfl
@[simp] theorem State.countUp_rx (i : Nat) : (s.countUp i).rx = s.rx := rfl
@[simp] theorem State.countUp_reg (i : Nat) (r : Nat) : (s.countUp i).reg r = s.reg r := State.reg_congr (rfl) r
@[simp] theorem State.countUp_fg (i : Nat) (x : Fld) : (s.countUp i).fg x = s.fg x := State.fg_congr x (State.reg_congr (rfl) _)

/-! ## `setDomStep` -/

@[simp] theorem State.setDomStep_pending (d v : Nat) : (s.setDomStep d v).pending = s.pending := rfl
@[simp] theorem State.setDomStep_variant (d v : Nat) : (s.setDomStep d v).variant = s.variant := rfl
@[simp] theorem State.setDomStep_now (d v : Nat) : (s.setDomStep d v).now = s.now := rfl
@[simp] theorem State.setDomStep_lt (d v : Nat) : (s.setDomStep d v).lt = s.lt := rfl
@[simp] theorem State.setDomStep_duty (d v : Nat) : (s.setDomStep d v).duty = s.duty := rfl
@[simp] theorem State.setDomStep_srstHigh (d v : Nat) : (s.setDomStep d v).srstHigh = s.srstHigh := rfl
@[simp] theorem State.setDomStep_freeCtr (d v : Nat) : (s.setDomStep d v).freeCtr = s.freeCtr := rfl
@[simp] theorem State.setDomStep_regs (d v : Nat) : (s.setDomStep d v).regs = s.regs := rfl
@[simp] theorem State.setDomStep_out (d v : Nat) : (s.setDomStep d v).out = s.out := rfl
@[simp] theorem State.setDomStep_bar (d v : Nat) : (s.setDomStep d v).bar = s.bar := rfl
@[simp] theorem State.setDomStep_smp (d v : Nat) : (s.setDomStep d v).smp = s.smp := rfl
@[simp] theorem State.setDomStep_swp (d v : Nat) : (s.setDomStep d v).swp = s.swp := rfl
@[simp] theorem State.setDomStep_cmp (d v : Nat) : (s.setDomStep d v).cmp = s.cmp := rfl
@[simp] theorem State.setDomStep_bal (d v : Nat) : (s.setDomStep d v).bal = s.bal := rfl
@[simp] theorem State.setDomStep_exc (d v : Nat) : (s.setDomStep d v).exc = s.exc := rfl
@[simp] theorem State.setDomStep_prf (d v : Nat) : (s.setDomStep d v).prf = s.prf := rfl
@[simp] theorem State.setDomStep_svc (d v : Nat) : (s.setDomStep d v).svc = s.svc := rfl
@[simp] theorem State.setDomStep_est (d v : Nat) : (s.setDomStep d v).est = s.est := rfl
@[simp] theorem State.setDomStep_arr (d v : Nat) : (s.setDomStep d v).arr = s.arr := rfl
@[simp] theorem State.setDomStep_fab (d v : Nat) : (s.setDomStep d v).fab = s.fab := rfl
@[simp] theorem State.setDomStep_soc (d v : Nat) : (s.setDomStep d v).soc = s.soc := rfl
@[simp] theorem State.setDomStep_ssv (d v : Nat) : (s.setDomStep d v).ssv = s.ssv := rfl
@[simp] theorem State.setDomStep_flt (d v : Nat) : (s.setDomStep d v).flt = s.flt := rfl
@[simp] theorem State.setDomStep_stackQ (d v : Nat) : (s.setDomStep d v).stackQ = s.stackQ := rfl
@[simp] theorem State.setDomStep_tone (d v : Nat) : (s.setDomStep d v).tone = s.tone := rfl
@[simp] theorem State.setDomStep_rst (d v : Nat) : (s.setDomStep d v).rst = s.rst := rfl
@[simp] theorem State.setDomStep_bst (d v : Nat) : (s.setDomStep d v).bst = s.bst := rfl
@[simp] theorem State.setDomStep_cp (d v : Nat) : (s.setDomStep d v).cp = s.cp := rfl
@[simp] theorem State.setDomStep_hst (d v : Nat) : (s.setDomStep d v).hst = s.hst := rfl
@[simp] theorem State.setDomStep_cad (d v : Nat) : (s.setDomStep d v).cad = s.cad := rfl
@[simp] theorem State.setDomStep_nv (d v : Nat) : (s.setDomStep d v).nv = s.nv := rfl
@[simp] theorem State.setDomStep_fls (d v : Nat) : (s.setDomStep d v).fls = s.fls := rfl
@[simp] theorem State.setDomStep_cap (d v : Nat) : (s.setDomStep d v).cap = s.cap := rfl
@[simp] theorem State.setDomStep_nvBuf (d v : Nat) : (s.setDomStep d v).nvBuf = s.nvBuf := rfl
@[simp] theorem State.setDomStep_thm (d v : Nat) : (s.setDomStep d v).thm = s.thm := rfl
@[simp] theorem State.setDomStep_pwr (d v : Nat) : (s.setDomStep d v).pwr = s.pwr := rfl
@[simp] theorem State.setDomStep_stao (d v : Nat) : (s.setDomStep d v).stao = s.stao := rfl
@[simp] theorem State.setDomStep_change (d v : Nat) : (s.setDomStep d v).change = s.change := rfl
@[simp] theorem State.setDomStep_pwd (d v : Nat) : (s.setDomStep d v).pwd = s.pwd := rfl
@[simp] theorem State.setDomStep_peg (d v : Nat) : (s.setDomStep d v).peg = s.peg := rfl
@[simp] theorem State.setDomStep_trv (d v : Nat) : (s.setDomStep d v).trv = s.trv := rfl
@[simp] theorem State.setDomStep_net (d v : Nat) : (s.setDomStep d v).net = s.net := rfl
@[simp] theorem State.setDomStep_dtm (d v : Nat) : (s.setDomStep d v).dtm = s.dtm := rfl
@[simp] theorem State.setDomStep_rx (d v : Nat) : (s.setDomStep d v).rx = s.rx := rfl
@[simp] theorem State.setDomStep_reg (d v : Nat) (r : Nat) : (s.setDomStep d v).reg r = s.reg r := State.reg_congr (rfl) r
@[simp] theorem State.setDomStep_fg (d v : Nat) (x : Fld) : (s.setDomStep d v).fg x = s.fg x := State.fg_congr x (State.reg_congr (rfl) _)

/-! ## `setWant` -/

@[simp] theorem State.setWant_pending (d v : Nat) : (s.setWant d v).pending = s.pending := rfl
@[simp] theorem State.setWant_variant (d v : Nat) : (s.setWant d v).variant = s.variant := rfl
@[simp] theorem State.setWant_now (d v : Nat) : (s.setWant d v).now = s.now := rfl
@[simp] theorem State.setWant_lt (d v : Nat) : (s.setWant d v).lt = s.lt := rfl
@[simp] theorem State.setWant_duty (d v : Nat) : (s.setWant d v).duty = s.duty := rfl
@[simp] theorem State.setWant_srstHigh (d v : Nat) : (s.setWant d v).srstHigh = s.srstHigh := rfl
@[simp] theorem State.setWant_freeCtr (d v : Nat) : (s.setWant d v).freeCtr = s.freeCtr := rfl
@[simp] theorem State.setWant_regs (d v : Nat) : (s.setWant d v).regs = s.regs := rfl
@[simp] theorem State.setWant_out (d v : Nat) : (s.setWant d v).out = s.out := rfl
@[simp] theorem State.setWant_bar (d v : Nat) : (s.setWant d v).bar = s.bar := rfl
@[simp] theorem State.setWant_smp (d v : Nat) : (s.setWant d v).smp = s.smp := rfl
@[simp] theorem State.setWant_swp (d v : Nat) : (s.setWant d v).swp = s.swp := rfl
@[simp] theorem State.setWant_cmp (d v : Nat) : (s.setWant d v).cmp = s.cmp := rfl
@[simp] theorem State.setWant_bal (d v : Nat) : (s.setWant d v).bal = s.bal := rfl
@[simp] theorem State.setWant_exc (d v : Nat) : (s.setWant d v).exc = s.exc := rfl
@[simp] theorem State.setWant_prf (d v : Nat) : (s.setWant d v).prf = s.prf := rfl
@[simp] theorem State.setWant_svc (d v : Nat) : (s.setWant d v).svc = s.svc := rfl
@[simp] theorem State.setWant_est (d v : Nat) : (s.setWant d v).est = s.est := rfl
@[simp] theorem State.setWant_arr (d v : Nat) : (s.setWant d v).arr = s.arr := rfl
@[simp] theorem State.setWant_fab (d v : Nat) : (s.setWant d v).fab = s.fab := rfl
@[simp] theorem State.setWant_soc (d v : Nat) : (s.setWant d v).soc = s.soc := rfl
@[simp] theorem State.setWant_ssv (d v : Nat) : (s.setWant d v).ssv = s.ssv := rfl
@[simp] theorem State.setWant_flt (d v : Nat) : (s.setWant d v).flt = s.flt := rfl
@[simp] theorem State.setWant_stackQ (d v : Nat) : (s.setWant d v).stackQ = s.stackQ := rfl
@[simp] theorem State.setWant_tone (d v : Nat) : (s.setWant d v).tone = s.tone := rfl
@[simp] theorem State.setWant_rst (d v : Nat) : (s.setWant d v).rst = s.rst := rfl
@[simp] theorem State.setWant_bst (d v : Nat) : (s.setWant d v).bst = s.bst := rfl
@[simp] theorem State.setWant_cp (d v : Nat) : (s.setWant d v).cp = s.cp := rfl
@[simp] theorem State.setWant_hst (d v : Nat) : (s.setWant d v).hst = s.hst := rfl
@[simp] theorem State.setWant_cad (d v : Nat) : (s.setWant d v).cad = s.cad := rfl
@[simp] theorem State.setWant_nv (d v : Nat) : (s.setWant d v).nv = s.nv := rfl
@[simp] theorem State.setWant_fls (d v : Nat) : (s.setWant d v).fls = s.fls := rfl
@[simp] theorem State.setWant_cap (d v : Nat) : (s.setWant d v).cap = s.cap := rfl
@[simp] theorem State.setWant_nvBuf (d v : Nat) : (s.setWant d v).nvBuf = s.nvBuf := rfl
@[simp] theorem State.setWant_thm (d v : Nat) : (s.setWant d v).thm = s.thm := rfl
@[simp] theorem State.setWant_pwr (d v : Nat) : (s.setWant d v).pwr = s.pwr := rfl
@[simp] theorem State.setWant_stao (d v : Nat) : (s.setWant d v).stao = s.stao := rfl
@[simp] theorem State.setWant_change (d v : Nat) : (s.setWant d v).change = s.change := rfl
@[simp] theorem State.setWant_pwd (d v : Nat) : (s.setWant d v).pwd = s.pwd := rfl
@[simp] theorem State.setWant_peg (d v : Nat) : (s.setWant d v).peg = s.peg := rfl
@[simp] theorem State.setWant_trv (d v : Nat) : (s.setWant d v).trv = s.trv := rfl
@[simp] theorem State.setWant_net (d v : Nat) : (s.setWant d v).net = s.net := rfl
@[simp] theorem State.setWant_dtm (d v : Nat) : (s.setWant d v).dtm = s.dtm := rfl
@[simp] theorem State.setWant_rx (d v : Nat) : (s.setWant d v).rx = s.rx := rfl
@[simp] theorem State.setWant_reg (d v : Nat) (r : Nat) : (s.setWant d v).reg r = s.reg r := State.reg_congr (rfl) r
@[simp] theorem State.setWant_fg (d v : Nat) (x : Fld) : (s.setWant d v).fg x = s.fg x := State.fg_congr x (State.reg_congr (rfl) _)

/-! ## `setPort` -/

@[simp] theorem State.setPort_pending (p : Nat) (v : Port) : (s.setPort p v).pending = s.pending := rfl
@[simp] theorem State.setPort_variant (p : Nat) (v : Port) : (s.setPort p v).variant = s.variant := rfl
@[simp] theorem State.setPort_now (p : Nat) (v : Port) : (s.setPort p v).now = s.now := rfl
@[simp] theorem State.setPort_lt (p : Nat) (v : Port) : (s.setPort p v).lt = s.lt := rfl
@[simp] theorem State.setPort_duty (p : Nat) (v : Port) : (s.setPort p v).duty = s.duty := rfl
@[simp] theorem State.setPort_srstHigh (p : Nat) (v : Port) : (s.setPort p v).srstHigh = s.srstHigh := rfl
@[simp] theorem State.setPort_freeCtr (p : Nat) (v : Port) : (s.setPort p v).freeCtr = s.freeCtr := rfl
@[simp] theorem State.setPort_regs (p : Nat) (v : Port) : (s.setPort p v).regs = s.regs := rfl
@[simp] theorem State.setPort_out (p : Nat) (v : Port) : (s.setPort p v).out = s.out := rfl
@[simp] theorem State.setPort_bar (p : Nat) (v : Port) : (s.setPort p v).bar = s.bar := rfl
@[simp] theorem State.setPort_dom (p : Nat) (v : Port) : (s.setPort p v).dom = s.dom := rfl
@[simp] theorem State.setPort_smp (p : Nat) (v : Port) : (s.setPort p v).smp = s.smp := rfl
@[simp] theorem State.setPort_swp (p : Nat) (v : Port) : (s.setPort p v).swp = s.swp := rfl
@[simp] theorem State.setPort_cmp (p : Nat) (v : Port) : (s.setPort p v).cmp = s.cmp := rfl
@[simp] theorem State.setPort_bal (p : Nat) (v : Port) : (s.setPort p v).bal = s.bal := rfl
@[simp] theorem State.setPort_exc (p : Nat) (v : Port) : (s.setPort p v).exc = s.exc := rfl
@[simp] theorem State.setPort_prf (p : Nat) (v : Port) : (s.setPort p v).prf = s.prf := rfl
@[simp] theorem State.setPort_svc (p : Nat) (v : Port) : (s.setPort p v).svc = s.svc := rfl
@[simp] theorem State.setPort_est (p : Nat) (v : Port) : (s.setPort p v).est = s.est := rfl
@[simp] theorem State.setPort_arr (p : Nat) (v : Port) : (s.setPort p v).arr = s.arr := rfl
@[simp] theorem State.setPort_fab (p : Nat) (v : Port) : (s.setPort p v).fab = s.fab := rfl
@[simp] theorem State.setPort_soc (p : Nat) (v : Port) : (s.setPort p v).soc = s.soc := rfl
@[simp] theorem State.setPort_ssv (p : Nat) (v : Port) : (s.setPort p v).ssv = s.ssv := rfl
@[simp] theorem State.setPort_flt (p : Nat) (v : Port) : (s.setPort p v).flt = s.flt := rfl
@[simp] theorem State.setPort_stackQ (p : Nat) (v : Port) : (s.setPort p v).stackQ = s.stackQ := rfl
@[simp] theorem State.setPort_tone (p : Nat) (v : Port) : (s.setPort p v).tone = s.tone := rfl
@[simp] theorem State.setPort_rst (p : Nat) (v : Port) : (s.setPort p v).rst = s.rst := rfl
@[simp] theorem State.setPort_bst (p : Nat) (v : Port) : (s.setPort p v).bst = s.bst := rfl
@[simp] theorem State.setPort_cp (p : Nat) (v : Port) : (s.setPort p v).cp = s.cp := rfl
@[simp] theorem State.setPort_hst (p : Nat) (v : Port) : (s.setPort p v).hst = s.hst := rfl
@[simp] theorem State.setPort_cad (p : Nat) (v : Port) : (s.setPort p v).cad = s.cad := rfl
@[simp] theorem State.setPort_nv (p : Nat) (v : Port) : (s.setPort p v).nv = s.nv := rfl
@[simp] theorem State.setPort_fls (p : Nat) (v : Port) : (s.setPort p v).fls = s.fls := rfl
@[simp] theorem State.setPort_cap (p : Nat) (v : Port) : (s.setPort p v).cap = s.cap := rfl
@[simp] theorem State.setPort_nvBuf (p : Nat) (v : Port) : (s.setPort p v).nvBuf = s.nvBuf := rfl
@[simp] theorem State.setPort_thm (p : Nat) (v : Port) : (s.setPort p v).thm = s.thm := rfl
@[simp] theorem State.setPort_pwr (p : Nat) (v : Port) : (s.setPort p v).pwr = s.pwr := rfl
@[simp] theorem State.setPort_stao (p : Nat) (v : Port) : (s.setPort p v).stao = s.stao := rfl
@[simp] theorem State.setPort_change (p : Nat) (v : Port) : (s.setPort p v).change = s.change := rfl
@[simp] theorem State.setPort_pwd (p : Nat) (v : Port) : (s.setPort p v).pwd = s.pwd := rfl
@[simp] theorem State.setPort_peg (p : Nat) (v : Port) : (s.setPort p v).peg = s.peg := rfl
@[simp] theorem State.setPort_net (p : Nat) (v : Port) : (s.setPort p v).net = s.net := rfl
@[simp] theorem State.setPort_dtm (p : Nat) (v : Port) : (s.setPort p v).dtm = s.dtm := rfl
@[simp] theorem State.setPort_rx (p : Nat) (v : Port) : (s.setPort p v).rx = s.rx := rfl
@[simp] theorem State.setPort_reg (p : Nat) (v : Port) (r : Nat) : (s.setPort p v).reg r = s.reg r := State.reg_congr (rfl) r
@[simp] theorem State.setPort_fg (p : Nat) (v : Port) (x : Fld) : (s.setPort p v).fg x = s.fg x := State.fg_congr x (State.reg_congr (rfl) _)

/-! ## `setConn` -/

@[simp] theorem State.setConn_pending (k : Nat) (c : Conn) : (s.setConn k c).pending = s.pending := rfl
@[simp] theorem State.setConn_variant (k : Nat) (c : Conn) : (s.setConn k c).variant = s.variant := rfl
@[simp] theorem State.setConn_now (k : Nat) (c : Conn) : (s.setConn k c).now = s.now := rfl
@[simp] theorem State.setConn_lt (k : Nat) (c : Conn) : (s.setConn k c).lt = s.lt := rfl
@[simp] theorem State.setConn_duty (k : Nat) (c : Conn) : (s.setConn k c).duty = s.duty := rfl
@[simp] theorem State.setConn_srstHigh (k : Nat) (c : Conn) : (s.setConn k c).srstHigh = s.srstHigh := rfl
@[simp] theorem State.setConn_freeCtr (k : Nat) (c : Conn) : (s.setConn k c).freeCtr = s.freeCtr := rfl
@[simp] theorem State.setConn_regs (k : Nat) (c : Conn) : (s.setConn k c).regs = s.regs := rfl
@[simp] theorem State.setConn_out (k : Nat) (c : Conn) : (s.setConn k c).out = s.out := rfl
@[simp] theorem State.setConn_bar (k : Nat) (c : Conn) : (s.setConn k c).bar = s.bar := rfl
@[simp] theorem State.setConn_dom (k : Nat) (c : Conn) : (s.setConn k c).dom = s.dom := rfl
@[simp] theorem State.setConn_smp (k : Nat) (c : Conn) : (s.setConn k c).smp = s.smp := rfl
@[simp] theorem State.setConn_swp (k : Nat) (c : Conn) : (s.setConn k c).swp = s.swp := rfl
@[simp] theorem State.setConn_cmp (k : Nat) (c : Conn) : (s.setConn k c).cmp = s.cmp := rfl
@[simp] theorem State.setConn_bal (k : Nat) (c : Conn) : (s.setConn k c).bal = s.bal := rfl
@[simp] theorem State.setConn_exc (k : Nat) (c : Conn) : (s.setConn k c).exc = s.exc := rfl
@[simp] theorem State.setConn_prf (k : Nat) (c : Conn) : (s.setConn k c).prf = s.prf := rfl
@[simp] theorem State.setConn_svc (k : Nat) (c : Conn) : (s.setConn k c).svc = s.svc := rfl
@[simp] theorem State.setConn_est (k : Nat) (c : Conn) : (s.setConn k c).est = s.est := rfl
@[simp] theorem State.setConn_arr (k : Nat) (c : Conn) : (s.setConn k c).arr = s.arr := rfl
@[simp] theorem State.setConn_fab (k : Nat) (c : Conn) : (s.setConn k c).fab = s.fab := rfl
@[simp] theorem State.setConn_ssv (k : Nat) (c : Conn) : (s.setConn k c).ssv = s.ssv := rfl
@[simp] theorem State.setConn_flt (k : Nat) (c : Conn) : (s.setConn k c).flt = s.flt := rfl
@[simp] theorem State.setConn_stackQ (k : Nat) (c : Conn) : (s.setConn k c).stackQ = s.stackQ := rfl
@[simp] theorem State.setConn_tone (k : Nat) (c : Conn) : (s.setConn k c).tone = s.tone := rfl
@[simp] theorem State.setConn_rst (k : Nat) (c : Conn) : (s.setConn k c).rst = s.rst := rfl
@[simp] theorem State.setConn_bst (k : Nat) (c : Conn) : (s.setConn k c).bst = s.bst := rfl
@[simp] theorem State.setConn_cp (k : Nat) (c : Conn) : (s.setConn k c).cp = s.cp := rfl
@[simp] theorem State.setConn_hst (k : Nat) (c : Conn) : (s.setConn k c).hst = s.hst := rfl
@[simp] theorem State.setConn_cad (k : Nat) (c : Conn) : (s.setConn k c).cad = s.cad := rfl
@[simp] theorem State.setConn_nv (k : Nat) (c : Conn) : (s.setConn k c).nv = s.nv := rfl
@[simp] theorem State.setConn_fls (k : Nat) (c : Conn) : (s.setConn k c).fls = s.fls := rfl
@[simp] theorem State.setConn_cap (k : Nat) (c : Conn) : (s.setConn k c).cap = s.cap := rfl
@[simp] theorem State.setConn_nvBuf (k : Nat) (c : Conn) : (s.setConn k c).nvBuf = s.nvBuf := rfl
@[simp] theorem State.setConn_thm (k : Nat) (c : Conn) : (s.setConn k c).thm = s.thm := rfl
@[simp] theorem State.setConn_pwr (k : Nat) (c : Conn) : (s.setConn k c).pwr = s.pwr := rfl
@[simp] theorem State.setConn_stao (k : Nat) (c : Conn) : (s.setConn k c).stao = s.stao := rfl
@[simp] theorem State.setConn_change (k : Nat) (c : Conn) : (s.setConn k c).change = s.change := rfl
@[simp] theorem State.setConn_pwd (k : Nat) (c : Conn) : (s.setConn k c).pwd = s.pwd := rfl
@[simp] theorem State.setConn_peg (k : Nat) (c : Conn) : (s.setConn k c).peg = s.peg := rfl
@[simp] theorem State.setConn_trv (k : Nat) (c : Conn) : (s.setConn k c).trv = s.trv := rfl
@[simp] theorem State.setConn_net (k : Nat) (c : Conn) : (s.setConn k c).net = s.net := rfl
@[simp] theorem State.setConn_dtm (k : Nat) (c : Conn) : (s.setConn k c).dtm = s.dtm := rfl
@[simp] theorem State.setConn_rx (k : Nat) (c : Conn) : (s.setConn k c).rx = s.rx := rfl
@[simp] theorem State.setConn_reg (k : Nat) (c : Conn) (r : Nat) : (s.setConn k c).reg r = s.reg r := State.reg_congr (rfl) r
@[simp] theorem State.setConn_fg (k : Nat) (c : Conn) (x : Fld) : (s.setConn k c).fg x = s.fg x := State.fg_congr x (State.reg_congr (rfl) _)

/-! ## `setPair` -/

@[simp] theorem State.setPair_pending (i : Nat) (p : Pair) : (s.setPair i p).pending = s.pending := rfl
@[simp] theorem State.setPair_variant (i : Nat) (p : Pair) : (s.setPair i p).variant = s.variant := rfl
@[simp] theorem State.setPair_now (i : Nat) (p : Pair) : (s.setPair i p).now = s.now := rfl
@[simp] theorem State.setPair_lt (i : Nat) (p : Pair) : (s.setPair i p).lt = s.lt := rfl
@[simp] theorem State.setPair_duty (i : Nat) (p : Pair) : (s.setPair i p).duty = s.duty := rfl
@[simp] theorem State.setPair_srstHigh (i : Nat) (p : Pair) : (s.setPair i p).srstHigh = s.srstHigh := rfl
@[simp] theorem State.setPair_freeCtr (i : Nat) (p : Pair) : (s.setPair i p).freeCtr = s.freeCtr := rfl
@[simp] theorem State.setPair_regs (i : Nat) (p : Pair) : (s.setPair i p).regs = s.regs := rfl
@[simp] theorem State.setPair_out (i : Nat) (p : Pair) : (s.setPair i p).out = s.out := rfl
@[simp] theorem State.setPair_bar (i : Nat) (p : Pair) : (s.setPair i p).bar = s.bar := rfl
@[simp] theorem State.setPair_dom (i : Nat) (p : Pair) : (s.setPair i p).dom = s.dom := rfl
@[simp] theorem State.setPair_smp (i : Nat) (p : Pair) : (s.setPair i p).smp = s.smp := rfl
@[simp] theorem State.setPair_swp (i : Nat) (p : Pair) : (s.setPair i p).swp = s.swp := rfl
@[simp] theorem State.setPair_cmp (i : Nat) (p : Pair) : (s.setPair i p).cmp = s.cmp := rfl
@[simp] theorem State.setPair_bal (i : Nat) (p : Pair) : (s.setPair i p).bal = s.bal := rfl
@[simp] theorem State.setPair_exc (i : Nat) (p : Pair) : (s.setPair i p).exc = s.exc := rfl
@[simp] theorem State.setPair_prf (i : Nat) (p : Pair) : (s.setPair i p).prf = s.prf := rfl
@[simp] theorem State.setPair_svc (i : Nat) (p : Pair) : (s.setPair i p).svc = s.svc := rfl
@[simp] theorem State.setPair_est (i : Nat) (p : Pair) : (s.setPair i p).est = s.est := rfl
@[simp] theorem State.setPair_arr (i : Nat) (p : Pair) : (s.setPair i p).arr = s.arr := rfl
@[simp] theorem State.setPair_fab (i : Nat) (p : Pair) : (s.setPair i p).fab = s.fab := rfl
@[simp] theorem State.setPair_ssv (i : Nat) (p : Pair) : (s.setPair i p).ssv = s.ssv := rfl
@[simp] theorem State.setPair_flt (i : Nat) (p : Pair) : (s.setPair i p).flt = s.flt := rfl
@[simp] theorem State.setPair_stackQ (i : Nat) (p : Pair) : (s.setPair i p).stackQ = s.stackQ := rfl
@[simp] theorem State.setPair_tone (i : Nat) (p : Pair) : (s.setPair i p).tone = s.tone := rfl
@[simp] theorem State.setPair_rst (i : Nat) (p : Pair) : (s.setPair i p).rst = s.rst := rfl
@[simp] theorem State.setPair_bst (i : Nat) (p : Pair) : (s.setPair i p).bst = s.bst := rfl
@[simp] theorem State.setPair_cp (i : Nat) (p : Pair) : (s.setPair i p).cp = s.cp := rfl
@[simp] theorem State.setPair_hst (i : Nat) (p : Pair) : (s.setPair i p).hst = s.hst := rfl
@[simp] theorem State.setPair_cad (i : Nat) (p : Pair) : (s.setPair i p).cad = s.cad := rfl
@[simp] theorem State.setPair_nv (i : Nat) (p : Pair) : (s.setPair i p).nv = s.nv := rfl
@[simp] theorem State.setPair_fls (i : Nat) (p : Pair) : (s.setPair i p).fls = s.fls := rfl
@[simp] theorem State.setPair_cap (i : Nat) (p : Pair) : (s.setPair i p).cap = s.cap := rfl
@[simp] theorem State.setPair_nvBuf (i : Nat) (p : Pair) : (s.setPair i p).nvBuf = s.nvBuf := rfl
@[simp] theorem State.setPair_thm (i : Nat) (p : Pair) : (s.setPair i p).thm = s.thm := rfl
@[simp] theorem State.setPair_pwr (i : Nat) (p : Pair) : (s.setPair i p).pwr = s.pwr := rfl
@[simp] theorem State.setPair_stao (i : Nat) (p : Pair) : (s.setPair i p).stao = s.stao := rfl
@[simp] theorem State.setPair_change (i : Nat) (p : Pair) : (s.setPair i p).change = s.change := rfl
@[simp] theorem State.setPair_pwd (i : Nat) (p : Pair) : (s.setPair i p).pwd = s.pwd := rfl
@[simp] theorem State.setPair_peg (i : Nat) (p : Pair) : (s.setPair i p).peg = s.peg := rfl
@[simp] theorem State.setPair_trv (i : Nat) (p : Pair) : (s.setPair i p).trv = s.trv := rfl
@[simp] theorem State.setPair_net (i : Nat) (p : Pair) : (s.setPair i p).net = s.net := rfl
@[simp] theorem State.setPair_dtm (i : Nat) (p : Pair) : (s.setPair i p).dtm = s.dtm := rfl
@[simp] theorem State.setPair_rx (i : Nat) (p : Pair) : (s.setPair i p).rx = s.rx := rfl
@[simp] theorem State.setPair_reg (i : Nat) (p : Pair) (r : Nat) : (s.setPair i p).reg r = s.reg r := State.reg_congr (rfl) r
@[simp] theorem State.setPair_fg (i : Nat) (p : Pair) (x : Fld) : (s.setPair i p).fg x = s.fg x := State.fg_congr x (State.reg_congr (rfl) _)

/-! ## `setPairState` -/

@[simp] theorem State.setPairState_pending (i v : Nat) : (s.setPairState i v).pending = s.pending := rfl
@[simp] theorem State.setPairState_variant (i v : Nat) : (s.setPairState i v).variant = s.variant := rfl
@[simp] theorem State.setPairState_now (i v : Nat) : (s.setPairState i v).now = s.now := rfl
@[simp] theorem State.setPairState_lt (i v : Nat) : (s.setPairState i v).lt = s.lt := rfl
@[simp] theorem State.setPairState_duty (i v : Nat) : (s.setPairState i v).duty = s.duty := rfl
@[simp] theorem State.setPairState_srstHigh (i v : Nat) : (s.setPairState i v).srstHigh = s.srstHigh := rfl
@[simp] theorem State.setPairState_freeCtr (i v : Nat) : (s.setPairState i v).freeCtr = s.freeCtr := rfl
@[simp] theorem State.setPairState_out (i v : Nat) : (s.setPairState i v).out = s.out := rfl
@[simp] theorem State.setPairState_bar (i v : Nat) : (s.setPairState i v).bar = s.bar := rfl
@[simp] theorem State.setPairState_dom (i v : Nat) : (s.setPairState i v).dom = s.dom := rfl
@[simp] theorem State.setPairState_smp (i v : Nat) : (s.setPairState i v).smp = s.smp := rfl
@[simp] theorem State.setPairState_swp (i v : Nat) : (s.setPairState i v).swp = s.swp := rfl
@[simp] theorem State.setPairState_cmp (i v : Nat) : (s.setPairState i v).cmp = s.cmp := rfl
@[simp] theorem State.setPairState_bal (i v : Nat) : (s.setPairState i v).bal = s.bal := rfl
@[simp] theorem State.setPairState_exc (i v : Nat) : (s.setPairState i v).exc = s.exc := rfl
@[simp] theorem State.setPairState_prf (i v : Nat) : (s.setPairState i v).prf = s.prf := rfl
@[simp] theorem State.setPairState_svc (i v : Nat) : (s.setPairState i v).svc = s.svc := rfl
@[simp] theorem State.setPairState_est (i v : Nat) : (s.setPairState i v).est = s.est := rfl
@[simp] theorem State.setPairState_arr (i v : Nat) : (s.setPairState i v).arr = s.arr := rfl
@[simp] theorem State.setPairState_fab (i v : Nat) : (s.setPairState i v).fab = s.fab := rfl
@[simp] theorem State.setPairState_soc (i v : Nat) : (s.setPairState i v).soc = s.soc := rfl
@[simp] theorem State.setPairState_ssv (i v : Nat) : (s.setPairState i v).ssv = s.ssv := rfl
@[simp] theorem State.setPairState_flt (i v : Nat) : (s.setPairState i v).flt = s.flt := rfl
@[simp] theorem State.setPairState_stackQ (i v : Nat) : (s.setPairState i v).stackQ = s.stackQ := rfl
@[simp] theorem State.setPairState_tone (i v : Nat) : (s.setPairState i v).tone = s.tone := rfl
@[simp] theorem State.setPairState_rst (i v : Nat) : (s.setPairState i v).rst = s.rst := rfl
@[simp] theorem State.setPairState_bst (i v : Nat) : (s.setPairState i v).bst = s.bst := rfl
@[simp] theorem State.setPairState_cp (i v : Nat) : (s.setPairState i v).cp = s.cp := rfl
@[simp] theorem State.setPairState_hst (i v : Nat) : (s.setPairState i v).hst = s.hst := rfl
@[simp] theorem State.setPairState_cad (i v : Nat) : (s.setPairState i v).cad = s.cad := rfl
@[simp] theorem State.setPairState_nv (i v : Nat) : (s.setPairState i v).nv = s.nv := rfl
@[simp] theorem State.setPairState_fls (i v : Nat) : (s.setPairState i v).fls = s.fls := rfl
@[simp] theorem State.setPairState_cap (i v : Nat) : (s.setPairState i v).cap = s.cap := rfl
@[simp] theorem State.setPairState_nvBuf (i v : Nat) : (s.setPairState i v).nvBuf = s.nvBuf := rfl
@[simp] theorem State.setPairState_thm (i v : Nat) : (s.setPairState i v).thm = s.thm := rfl
@[simp] theorem State.setPairState_pwr (i v : Nat) : (s.setPairState i v).pwr = s.pwr := rfl
@[simp] theorem State.setPairState_stao (i v : Nat) : (s.setPairState i v).stao = s.stao := rfl
@[simp] theorem State.setPairState_change (i v : Nat) : (s.setPairState i v).change = s.change := rfl
@[simp] theorem State.setPairState_pwd (i v : Nat) : (s.setPairState i v).pwd = s.pwd := rfl
@[simp] theorem State.setPairState_peg (i v : Nat) : (s.setPairState i v).peg = s.peg := rfl
@[simp] theorem State.setPairState_trv (i v : Nat) : (s.setPairState i v).trv = s.trv := rfl
@[simp] theorem State.setPairState_net (i v : Nat) : (s.setPairState i v).net = s.net := rfl
@[simp] theorem State.setPairState_dtm (i v : Nat) : (s.setPairState i v).dtm = s.dtm := rfl
@[simp] theorem State.setPairState_rx (i v : Nat) : (s.setPairState i v).rx = s.rx := rfl

/-! ## `raise` -/

@[simp] theorem State.raise_pending (code isl param : Nat) : (s.raise code isl param).pending = s.pending := by rw [State.raise_frame]
@[simp] theorem State.raise_variant (code isl param : Nat) : (s.raise code isl param).variant = s.variant := by rw [State.raise_frame]
@[simp] theorem State.raise_now (code isl param : Nat) : (s.raise code isl param).now = s.now := by rw [State.raise_frame]
@[simp] theorem State.raise_lt (code isl param : Nat) : (s.raise code isl param).lt = s.lt := by rw [State.raise_frame]
@[simp] theorem State.raise_duty (code isl param : Nat) : (s.raise code isl param).duty = s.duty := by rw [State.raise_frame]
@[simp] theorem State.raise_srstHigh (code isl param : Nat) : (s.raise code isl param).srstHigh = s.srstHigh := by rw [State.raise_frame]
@[simp] theorem State.raise_freeCtr (code isl param : Nat) : (s.raise code isl param).freeCtr = s.freeCtr := by rw [State.raise_frame]
@[simp] theorem State.raise_out (code isl param : Nat) : (s.raise code isl param).out = s.out := by rw [State.raise_frame]
@[simp] theorem State.raise_bar (code isl param : Nat) : (s.raise code isl param).bar = s.bar := by rw [State.raise_frame]
@[simp] theorem State.raise_dom (code isl param : Nat) : (s.raise code isl param).dom = s.dom := by rw [State.raise_frame]
@[simp] theorem State.raise_smp (code isl param : Nat) : (s.raise code isl param).smp = s.smp := by rw [State.raise_frame]
@[simp] theorem State.raise_swp (code isl param : Nat) : (s.raise code isl param).swp = s.swp := by rw [State.raise_frame]
@[simp] theorem State.raise_cmp (code isl param : Nat) : (s.raise code isl param).cmp = s.cmp := by rw [State.raise_frame]
@[simp] theorem State.raise_bal (code isl param : Nat) : (s.raise code isl param).bal = s.bal := by rw [State.raise_frame]
@[simp] theorem State.raise_exc (code isl param : Nat) : (s.raise code isl param).exc = s.exc := by rw [State.raise_frame]
@[simp] theorem State.raise_prf (code isl param : Nat) : (s.raise code isl param).prf = s.prf := by rw [State.raise_frame]
@[simp] theorem State.raise_svc (code isl param : Nat) : (s.raise code isl param).svc = s.svc := by rw [State.raise_frame]
@[simp] theorem State.raise_est (code isl param : Nat) : (s.raise code isl param).est = s.est := by rw [State.raise_frame]
@[simp] theorem State.raise_arr (code isl param : Nat) : (s.raise code isl param).arr = s.arr := by rw [State.raise_frame]
@[simp] theorem State.raise_fab (code isl param : Nat) : (s.raise code isl param).fab = s.fab := by rw [State.raise_frame]
@[simp] theorem State.raise_soc (code isl param : Nat) : (s.raise code isl param).soc = s.soc := by rw [State.raise_frame]
@[simp] theorem State.raise_ssv (code isl param : Nat) : (s.raise code isl param).ssv = s.ssv := by rw [State.raise_frame]
@[simp] theorem State.raise_tone (code isl param : Nat) : (s.raise code isl param).tone = s.tone := by rw [State.raise_frame]
@[simp] theorem State.raise_rst (code isl param : Nat) : (s.raise code isl param).rst = s.rst := by rw [State.raise_frame]
@[simp] theorem State.raise_bst (code isl param : Nat) : (s.raise code isl param).bst = s.bst := by rw [State.raise_frame]
@[simp] theorem State.raise_cp (code isl param : Nat) : (s.raise code isl param).cp = s.cp := by rw [State.raise_frame]
@[simp] theorem State.raise_hst (code isl param : Nat) : (s.raise code isl param).hst = s.hst := by rw [State.raise_frame]
@[simp] theorem State.raise_cad (code isl param : Nat) : (s.raise code isl param).cad = s.cad := by rw [State.raise_frame]
@[simp] theorem State.raise_nv (code isl param : Nat) : (s.raise code isl param).nv = s.nv := by rw [State.raise_frame]
@[simp] theorem State.raise_fls (code isl param : Nat) : (s.raise code isl param).fls = s.fls := by rw [State.raise_frame]
@[simp] theorem State.raise_cap (code isl param : Nat) : (s.raise code isl param).cap = s.cap := by rw [State.raise_frame]
@[simp] theorem State.raise_nvBuf (code isl param : Nat) : (s.raise code isl param).nvBuf = s.nvBuf := by rw [State.raise_frame]
@[simp] theorem State.raise_thm (code isl param : Nat) : (s.raise code isl param).thm = s.thm := by rw [State.raise_frame]
@[simp] theorem State.raise_pwr (code isl param : Nat) : (s.raise code isl param).pwr = s.pwr := by rw [State.raise_frame]
@[simp] theorem State.raise_stao (code isl param : Nat) : (s.raise code isl param).stao = s.stao := by rw [State.raise_frame]
@[simp] theorem State.raise_change (code isl param : Nat) : (s.raise code isl param).change = s.change := by rw [State.raise_frame]
@[simp] theorem State.raise_pwd (code isl param : Nat) : (s.raise code isl param).pwd = s.pwd := by rw [State.raise_frame]
@[simp] theorem State.raise_peg (code isl param : Nat) : (s.raise code isl param).peg = s.peg := by rw [State.raise_frame]
@[simp] theorem State.raise_trv (code isl param : Nat) : (s.raise code isl param).trv = s.trv := by rw [State.raise_frame]
@[simp] theorem State.raise_net (code isl param : Nat) : (s.raise code isl param).net = s.net := by rw [State.raise_frame]
@[simp] theorem State.raise_dtm (code isl param : Nat) : (s.raise code isl param).dtm = s.dtm := by rw [State.raise_frame]
@[simp] theorem State.raise_rx (code isl param : Nat) : (s.raise code isl param).rx = s.rx := by rw [State.raise_frame]

/-! ## `sendDown` -/

@[simp] theorem sendDown_pending (k : Nat) (a : List Nat) : (sendDown k a s).pending = s.pending := by rw [sendDown_frame]
@[simp] theorem sendDown_variant (k : Nat) (a : List Nat) : (sendDown k a s).variant = s.variant := by rw [sendDown_frame]
@[simp] theorem sendDown_now (k : Nat) (a : List Nat) : (sendDown k a s).now = s.now := by rw [sendDown_frame]
@[simp] theorem sendDown_lt (k : Nat) (a : List Nat) : (sendDown k a s).lt = s.lt := by rw [sendDown_frame]
@[simp] theorem sendDown_duty (k : Nat) (a : List Nat) : (sendDown k a s).duty = s.duty := by rw [sendDown_frame]
@[simp] theorem sendDown_srstHigh (k : Nat) (a : List Nat) : (sendDown k a s).srstHigh = s.srstHigh := by rw [sendDown_frame]
@[simp] theorem sendDown_freeCtr (k : Nat) (a : List Nat) : (sendDown k a s).freeCtr = s.freeCtr := by rw [sendDown_frame]
@[simp] theorem sendDown_regs (k : Nat) (a : List Nat) : (sendDown k a s).regs = s.regs := by rw [sendDown_frame]
@[simp] theorem sendDown_dom (k : Nat) (a : List Nat) : (sendDown k a s).dom = s.dom := by rw [sendDown_frame]
@[simp] theorem sendDown_smp (k : Nat) (a : List Nat) : (sendDown k a s).smp = s.smp := by rw [sendDown_frame]
@[simp] theorem sendDown_swp (k : Nat) (a : List Nat) : (sendDown k a s).swp = s.swp := by rw [sendDown_frame]
@[simp] theorem sendDown_cmp (k : Nat) (a : List Nat) : (sendDown k a s).cmp = s.cmp := by rw [sendDown_frame]
@[simp] theorem sendDown_bal (k : Nat) (a : List Nat) : (sendDown k a s).bal = s.bal := by rw [sendDown_frame]
@[simp] theorem sendDown_exc (k : Nat) (a : List Nat) : (sendDown k a s).exc = s.exc := by rw [sendDown_frame]
@[simp] theorem sendDown_prf (k : Nat) (a : List Nat) : (sendDown k a s).prf = s.prf := by rw [sendDown_frame]
@[simp] theorem sendDown_svc (k : Nat) (a : List Nat) : (sendDown k a s).svc = s.svc := by rw [sendDown_frame]
@[simp] theorem sendDown_est (k : Nat) (a : List Nat) : (sendDown k a s).est = s.est := by rw [sendDown_frame]
@[simp] theorem sendDown_arr (k : Nat) (a : List Nat) : (sendDown k a s).arr = s.arr := by rw [sendDown_frame]
@[simp] theorem sendDown_fab (k : Nat) (a : List Nat) : (sendDown k a s).fab = s.fab := by rw [sendDown_frame]
@[simp] theorem sendDown_soc (k : Nat) (a : List Nat) : (sendDown k a s).soc = s.soc := by rw [sendDown_frame]
@[simp] theorem sendDown_ssv (k : Nat) (a : List Nat) : (sendDown k a s).ssv = s.ssv := by rw [sendDown_frame]
@[simp] theorem sendDown_flt (k : Nat) (a : List Nat) : (sendDown k a s).flt = s.flt := by rw [sendDown_frame]
@[simp] theorem sendDown_stackQ (k : Nat) (a : List Nat) : (sendDown k a s).stackQ = s.stackQ := by rw [sendDown_frame]
@[simp] theorem sendDown_tone (k : Nat) (a : List Nat) : (sendDown k a s).tone = s.tone := by rw [sendDown_frame]
@[simp] theorem sendDown_rst (k : Nat) (a : List Nat) : (sendDown k a s).rst = s.rst := by rw [sendDown_frame]
@[simp] theorem sendDown_bst (k : Nat) (a : List Nat) : (sendDown k a s).bst = s.bst := by rw [sendDown_frame]
@[simp] theorem sendDown_cp (k : Nat) (a : List Nat) : (sendDown k a s).cp = s.cp := by rw [sendDown_frame]
@[simp] theorem sendDown_hst (k : Nat) (a : List Nat) : (sendDown k a s).hst = s.hst := by rw [sendDown_frame]
@[simp] theorem sendDown_cad (k : Nat) (a : List Nat) : (sendDown k a s).cad = s.cad := by rw [sendDown_frame]
@[simp] theorem sendDown_nv (k : Nat) (a : List Nat) : (sendDown k a s).nv = s.nv := by rw [sendDown_frame]
@[simp] theorem sendDown_fls (k : Nat) (a : List Nat) : (sendDown k a s).fls = s.fls := by rw [sendDown_frame]
@[simp] theorem sendDown_cap (k : Nat) (a : List Nat) : (sendDown k a s).cap = s.cap := by rw [sendDown_frame]
@[simp] theorem sendDown_nvBuf (k : Nat) (a : List Nat) : (sendDown k a s).nvBuf = s.nvBuf := by rw [sendDown_frame]
@[simp] theorem sendDown_thm (k : Nat) (a : List Nat) : (sendDown k a s).thm = s.thm := by rw [sendDown_frame]
@[simp] theorem sendDown_pwr (k : Nat) (a : List Nat) : (sendDown k a s).pwr = s.pwr := by rw [sendDown_frame]
@[simp] theorem sendDown_stao (k : Nat) (a : List Nat) : (sendDown k a s).stao = s.stao := by rw [sendDown_frame]
@[simp] theorem sendDown_change (k : Nat) (a : List Nat) : (sendDown k a s).change = s.change := by rw [sendDown_frame]
@[simp] theorem sendDown_pwd (k : Nat) (a : List Nat) : (sendDown k a s).pwd = s.pwd := by rw [sendDown_frame]
@[simp] theorem sendDown_peg (k : Nat) (a : List Nat) : (sendDown k a s).peg = s.peg := by rw [sendDown_frame]
@[simp] theorem sendDown_trv (k : Nat) (a : List Nat) : (sendDown k a s).trv = s.trv := by rw [sendDown_frame]
@[simp] theorem sendDown_net (k : Nat) (a : List Nat) : (sendDown k a s).net = s.net := by rw [sendDown_frame]
@[simp] theorem sendDown_dtm (k : Nat) (a : List Nat) : (sendDown k a s).dtm = s.dtm := by rw [sendDown_frame]
@[simp] theorem sendDown_rx (k : Nat) (a : List Nat) : (sendDown k a s).rx = s.rx := by rw [sendDown_frame]
@[simp] theorem sendDown_reg (k : Nat) (a : List Nat) (r : Nat) : (sendDown k a s).reg r = s.reg r := State.reg_congr (by rw [sendDown_frame]) r
@[simp] theorem sendDown_fg (k : Nat) (a : List Nat) (x : Fld) : (sendDown k a s).fg x = s.fg x := State.fg_congr x (State.reg_congr (by rw [sendDown_frame]) _)

/-! ## `sendUp` -/

@[simp] theorem sendUp_pending (k : Nat) (a : List Nat) : (sendUp k a s).pending = s.pending := by rw [sendUp_frame]
@[simp] theorem sendUp_variant (k : Nat) (a : List Nat) : (sendUp k a s).variant = s.variant := by rw [sendUp_frame]
@[simp] theorem sendUp_now (k : Nat) (a : List Nat) : (sendUp k a s).now = s.now := by rw [sendUp_frame]
@[simp] theorem sendUp_lt (k : Nat) (a : List Nat) : (sendUp k a s).lt = s.lt := by rw [sendUp_frame]
@[simp] theorem sendUp_duty (k : Nat) (a : List Nat) : (sendUp k a s).duty = s.duty := by rw [sendUp_frame]
@[simp] theorem sendUp_srstHigh (k : Nat) (a : List Nat) : (sendUp k a s).srstHigh = s.srstHigh := by rw [sendUp_frame]
@[simp] theorem sendUp_freeCtr (k : Nat) (a : List Nat) : (sendUp k a s).freeCtr = s.freeCtr := by rw [sendUp_frame]
@[simp] theorem sendUp_regs (k : Nat) (a : List Nat) : (sendUp k a s).regs = s.regs := by rw [sendUp_frame]
@[simp] theorem sendUp_dom (k : Nat) (a : List Nat) : (sendUp k a s).dom = s.dom := by rw [sendUp_frame]
@[simp] theorem sendUp_smp (k : Nat) (a : List Nat) : (sendUp k a s).smp = s.smp := by rw [sendUp_frame]
@[simp] theorem sendUp_swp (k : Nat) (a : List Nat) : (sendUp k a s).swp = s.swp := by rw [sendUp_frame]
@[simp] theorem sendUp_cmp (k : Nat) (a : List Nat) : (sendUp k a s).cmp = s.cmp := by rw [sendUp_frame]
@[simp] theorem sendUp_bal (k : Nat) (a : List Nat) : (sendUp k a s).bal = s.bal := by rw [sendUp_frame]
@[simp] theorem sendUp_exc (k : Nat) (a : List Nat) : (sendUp k a s).exc = s.exc := by rw [sendUp_frame]
@[simp] theorem sendUp_prf (k : Nat) (a : List Nat) : (sendUp k a s).prf = s.prf := by rw [sendUp_frame]
@[simp] theorem sendUp_svc (k : Nat) (a : List Nat) : (sendUp k a s).svc = s.svc := by rw [sendUp_frame]
@[simp] theorem sendUp_est (k : Nat) (a : List Nat) : (sendUp k a s).est = s.est := by rw [sendUp_frame]
@[simp] theorem sendUp_arr (k : Nat) (a : List Nat) : (sendUp k a s).arr = s.arr := by rw [sendUp_frame]
@[simp] theorem sendUp_fab (k : Nat) (a : List Nat) : (sendUp k a s).fab = s.fab := by rw [sendUp_frame]
@[simp] theorem sendUp_soc (k : Nat) (a : List Nat) : (sendUp k a s).soc = s.soc := by rw [sendUp_frame]
@[simp] theorem sendUp_ssv (k : Nat) (a : List Nat) : (sendUp k a s).ssv = s.ssv := by rw [sendUp_frame]
@[simp] theorem sendUp_flt (k : Nat) (a : List Nat) : (sendUp k a s).flt = s.flt := by rw [sendUp_frame]
@[simp] theorem sendUp_stackQ (k : Nat) (a : List Nat) : (sendUp k a s).stackQ = s.stackQ := by rw [sendUp_frame]
@[simp] theorem sendUp_tone (k : Nat) (a : List Nat) : (sendUp k a s).tone = s.tone := by rw [sendUp_frame]
@[simp] theorem sendUp_rst (k : Nat) (a : List Nat) : (sendUp k a s).rst = s.rst := by rw [sendUp_frame]
@[simp] theorem sendUp_bst (k : Nat) (a : List Nat) : (sendUp k a s).bst = s.bst := by rw [sendUp_frame]
@[simp] theorem sendUp_cp (k : Nat) (a : List Nat) : (sendUp k a s).cp = s.cp := by rw [sendUp_frame]
@[simp] theorem sendUp_hst (k : Nat) (a : List Nat) : (sendUp k a s).hst = s.hst := by rw [sendUp_frame]
@[simp] theorem sendUp_cad (k : Nat) (a : List Nat) : (sendUp k a s).cad = s.cad := by rw [sendUp_frame]
@[simp] theorem sendUp_nv (k : Nat) (a : List Nat) : (sendUp k a s).nv = s.nv := by rw [sendUp_frame]
@[simp] theorem sendUp_fls (k : Nat) (a : List Nat) : (sendUp k a s).fls = s.fls := by rw [sendUp_frame]
@[simp] theorem sendUp_cap (k : Nat) (a : List Nat) : (sendUp k a s).cap = s.cap := by rw [sendUp_frame]
@[simp] theorem sendUp_nvBuf (k : Nat) (a : List Nat) : (sendUp k a s).nvBuf = s.nvBuf := by rw [sendUp_frame]
@[simp] theorem sendUp_thm (k : Nat) (a : List Nat) : (sendUp k a s).thm = s.thm := by rw [sendUp_frame]
@[simp] theorem sendUp_pwr (k : Nat) (a : List Nat) : (sendUp k a s).pwr = s.pwr := by rw [sendUp_frame]
@[simp] theorem sendUp_stao (k : Nat) (a : List Nat) : (sendUp k a s).stao = s.stao := by rw [sendUp_frame]
@[simp] theorem sendUp_change (k : Nat) (a : List Nat) : (sendUp k a s).change = s.change := by rw [sendUp_frame]
@[simp] theorem sendUp_pwd (k : Nat) (a : List Nat) : (sendUp k a s).pwd = s.pwd := by rw [sendUp_frame]
@[simp] theorem sendUp_peg (k : Nat) (a : List Nat) : (sendUp k a s).peg = s.peg := by rw [sendUp_frame]
@[simp] theorem sendUp_trv (k : Nat) (a : List Nat) : (sendUp k a s).trv = s.trv := by rw [sendUp_frame]
@[simp] theorem sendUp_net (k : Nat) (a : List Nat) : (sendUp k a s).net = s.net := by rw [sendUp_frame]
@[simp] theorem sendUp_dtm (k : Nat) (a : List Nat) : (sendUp k a s).dtm = s.dtm := by rw [sendUp_frame]
@[simp] theorem sendUp_rx (k : Nat) (a : List Nat) : (sendUp k a s).rx = s.rx := by rw [sendUp_frame]
@[simp] theorem sendUp_reg (k : Nat) (a : List Nat) (r : Nat) : (sendUp k a s).reg r = s.reg r := State.reg_congr (by rw [sendUp_frame]) r
@[simp] theorem sendUp_fg (k : Nat) (a : List Nat) (x : Fld) : (sendUp k a s).fg x = s.fg x := State.fg_congr x (State.reg_congr (by rw [sendUp_frame]) _)

end Sys2Proof.Machine
end

