-- ==== Sys2Proof/Tests/Slice0.lean ====
section
/-! SUPPORT. The model's own tests: worked examples of the spec, the well-formedness smoke, and for each statement with
hypotheses a witness: concrete operands and states that meet them. -/
set_option linter.unusedVariables false
set_option maxRecDepth 20000

namespace Sys2Proof.Tests

open Sys2Proof.Machine

/-- A station in service: both halves released, the release order complete. -/
def up : State :=
  { State.reset.fs R.RST_STAT_STEP 10 with rst := { stackUp := true } }

/-- `up` with register words. -/
def upR (l : List (Nat × Word)) : State := l.foldl (fun s e => s.setReg e.1 e.2) up

/-- `up` with field values. -/
def upF (l : List (Fld × Nat)) : State := l.foldl (fun s e => s.fs e.1 e.2) up

/-- A request of P0 at the sideband to this station, whatever its address. -/
def pk (op cls : Nat) (b : List Byte) : Packet :=
  { cls := cls, opcode := op, hops := 15, dest := 0x4000, tag := 7, payload := b, len := b.length }

/-- An EXC_START payload: GO with PRBS, bias 64 in both cases, cell 1, 100 mA, order 15. -/
def excGood : List Byte :=
  leBytes 4 0x80404000 ++ leBytes 4 1 ++ leBytes 4 0 ++ leBytes 4 100 ++ leBytes 4 15 ++ List.replicate 64 0

/-- An EST_PARAMS payload of type 0 with 1.0 in every place. -/
def parGood : List Byte := leBytes 4 0 ++ (List.range 183).flatMap fun _ => leBytes 4 0x3F800000

/-- An instruction word. -/
def iw (opc d a b x : Nat) : Word := w32 (opc + 0x100 * d + 0x2000 * a + 0x40000 * b + 0x800000 * x)

/-- `up` with engine 33 about to issue the word `w` at 5, with values in its registers 1 to 4. -/
def engAt (w : Word) : Eng :=
  { st := 3, pc := 5, imem := [(5, w)], g := [(1, 0x80000007), (2, 0x7FFF8001), (3, 0x10), (4, 0x10010)], ac := [(1, 77), (2, 5)] }
def upE (w : Word) : State := { up with arr := { engs := [(33, engAt w)] } }

/-- Deed 1 of station 0, which forms parcel 1, with two signature blocks of records 0 and 1. -/
def deedGood : List Byte :=
  leBytes 4 0x4A584344 ++ leBytes 2 1 ++ leBytes 2 1 ++ leBytes 8 0 ++ leBytes 4 1 ++ leBytes 2 4 ++ leBytes 2 0 ++
  [1, 1, 4, 0] ++ [0, 0, 0, 0] ++ List.replicate 128 5 ++ [1, 0, 0, 0] ++ List.replicate 128 6


/-- A station in RUN with both RUN bits and outputs 1 and 2 conducting. -/
def upRun (l : List (Fld × Nat)) : State :=
  ([(R.SAF_STAT_STATE, 3), (R.SAF_STAT_SRUN, 1), (R.SAF_STAT_YRUN, 1), (R.SAF_STAT_LOADED, 1), (R.SAF_OUTEN_EN, 63),
    (R.SAF_OUT_DEM, 3), (R.SAF_OUT_ON, 3)] ++ l).foldl (fun (s : State) (e : Fld × Nat) => s.fs e.1 e.2) up

/-- The fields that make SCS-1 available through AX1. -/
def scs1Set : List (Fld × Nat) := [(R.SAF_ENV0_S1EN, 1), (R.SMP_AXSAFE_SAFEI, 1), (R.SMP_AXSTAT_LIVE, 1), (R.SAF_ENV2_TWIN, 500)]


/-- A safety PDU. -/
def pdu (cid seq te fs : Nat) (data : List Byte) : List Byte :=
  let b := leBytes 4 cid ++ leBytes 2 seq ++ leBytes 2 te ++ leBytes 1 data.length ++ leBytes 1 fs ++ [0, 0] ++ data
  b ++ leBytes 4 (safetyCrc b)

/-- Connection 3 is a consumer of CID 9 with TE 50. -/
def con3 : List (Fld × Nat) := [(R.SAF_CONN_W1_ROLE 3, 1), (R.SAF_CONN_W0_CID 3, 9), (R.SAF_CONN_W2_TE 3, 50)]

/-- A password field of R429. -/
def pwField (w : List Byte) : List Byte := leBytes 1 w.length ++ [0, 0, 0] ++ w ++ List.replicate (32 - w.length) 0

theorem wit_BarrierLaneEventsTakeEffect :
    (∃ (l : Fin 24) (s : State), (l.val < 22) ∧ (s.bar.failed.testBit l.val = false) ∧ (s.bar.downLost = false)) ∧
    (∃ (l : Fin 24) (s : State), (22 ≤ l.val) ∧ (s.bar.failed.testBit l.val = false)) ∧
    (∃ (m : LaneMap) (s : State), (s.bar.pend = some m) ∧ (rateInForce { s with bar := { s.bar with txMap := m.failed } }
      = (s.fg R.SMP_STAT_RATE, s.fg R.SMP_STAT_RATESRC))) ∧
    (∃ (l : Fin 24) (s : State), (s.bar.failed.testBit l.val = true) ∧ (Smap.get (fun _ => 0) s.bar.retests l.val < 9) ∧ (s.due (Smap.get (fun _ => 0) s.bar.retestAt l.val) 10000000 = true)) ∧
    (∃ (l : Fin 24) (s : State), (s.bar.failed.testBit l.val = true) ∧ (9 ≤ Smap.get (fun _ => 0) s.bar.retests l.val) ∧ (s.due (Smap.get (fun _ => 0) s.bar.retestAt l.val) 10000000 = true) ∧ (s.bar.downLost = false) ∧ (l.val < 22)) ∧
    (∃ (l : Fin 24) (s : State), (s.bar.failed.testBit l.val = true) ∧ (s.due (Smap.get (fun _ => 0) s.bar.retestAt l.val) 10000000 = true)) :=
  ⟨⟨21, up, by decide⟩,
    ⟨22, up, by decide⟩,
    ⟨{}, { up with bar := { pend := some {} } }, by decide⟩,
    ⟨0, { up with bar := { failed := 1, retests := [(0, 8)] }, lt := 10000000 }, by decide⟩,
    ⟨0, { up with bar := { failed := 1, retests := [(0, 9)] }, lt := 10000000 }, by decide⟩,
    ⟨0, { up with bar := { failed := 1, retests := [(0, 9)] }, lt := 10000000 }, by decide⟩⟩

theorem wit_StreamAndClockLossTakeEffect :
    (∃ (s : State), (s.ssv.st ≠ svSLEEP)) ∧
    (∃ (s : State), (s.fg R.SMP_STAT_RCK = 1)) ∧
    (∃ (e : Nat) (s : State), (s.bar.clkReturn = some e)) ∧
    (∃ (e : Nat) (s : State), (s.bar.clkReturn = some e) ∧ (s.fg R.SMP_STAT_RCK = 1)) :=
  ⟨⟨up, by decide⟩,
    ⟨upF [(R.SMP_STAT_RCK, 1)], by decide⟩,
    ⟨70, { upF [(R.SMP_STAT_RCK, 1)] with bar := { clkReturn := some 70 } }, by decide⟩,
    ⟨70, { upF [(R.SMP_STAT_RCK, 1)] with bar := { clkReturn := some 70 } }, by decide⟩⟩

theorem wit_IslandAndOscillatorEventsTakeEffect :
    (∃ (i : Fin 64) (k : Fin 4) (s : State), (s.islFit i.val = true) ∧ (32 ≤ i.val) ∧ (i.val ≠ islDRC) ∧ (i.val ≠ 52) ∧ (k.val = min (islTarget s i.val) (islSteps i.val))) ∧
    (∃ (i : Fin 64) (k : Fin 4) (s : State), (s.islFit i.val = true) ∧ (i.val = islDRC ∨ i.val = 52) ∧ (k.val = min (islTarget s i.val) (islSteps i.val))) ∧
    (∃ (i : Fin 64) (k : Fin 4) (s : State), (i.val < s.plotsFit) ∧ (i.val < 32) ∧ (k.val = min (islTarget s i.val) (islSteps i.val))) ∧
    (∃ (i : Fin 64) (k : Fin 4) (s : State), (k.val ≠ min (islTarget s i.val) (islSteps i.val))) ∧
    (∃ (i : Fin 64) (s : State), (s.islFit i.val = true)) ∧
    (∃ (s : State), (s.rst.scope = 0)) :=
  ⟨⟨34, 2, upF [(R.TRV_PSTAT_RATE 1, 2)], by decide⟩,
    ⟨51, 1, upF [(R.THM_STEP_DRAM, 1)], by decide⟩,
    ⟨31, 3, upF [(R.ENG_PLCTL_CLKREQ 31, 3)], by decide⟩,
    ⟨48, 1, up, by decide⟩,
    ⟨47, up, by decide⟩,
    ⟨upF [(R.SAF_STAT_STATE, 3), (R.SAF_OUT_ON, 3)], by decide⟩⟩

theorem wit_PowerDomainsFollowTheirSteps :
    (∃ (d : Fin 197) (s : State), (128 ≤ d.val) ∧ (s.domFit d.val = true) ∧ (domAgent true d.val s = true) ∧ (s.domStep d.val = 0) ∧ (s.dom.wait = []) ∧ (inrushAllows s d.val = true)) ∧
    (∃ (d : Fin 197) (s : State), (d.val < 128) ∧ (s.domFit d.val = true) ∧ (s.cpRuns = true) ∧ (s.domStep d.val = 0) ∧ (s.dom.wait = []) ∧ (inrushAllows s d.val = true)) ∧
    (∃ (d : Fin 197) (s : State), (s.domFit d.val = true) ∧ (domAgent true d.val s = true) ∧ (s.domStep d.val = 0) ∧ (d.val ∉ s.dom.wait) ∧ (inrushAllows s d.val = false)) ∧
    (∃ (d : Nat) (s : State), (s.dom.wait = [d]) ∧ (inrushAllows s d = true)) ∧
    (∃ (d : Fin 197) (s : State), (s.domStep d.val = 1)) ∧
    (∃ (d : Fin 197) (s : State), (s.domStep d.val = 2) ∧ (domTimed s d.val = true)) ∧
    (∃ (d : Fin 197) (s : State), (180 ≤ d.val) ∧ (d.val < 188) ∧ (s.domStep d.val = 3) ∧ (domTimed s d.val = true) ∧ (s.domWant d.val ≠ 2)) ∧
    (∃ (d : Fin 197) (s : State), (180 ≤ d.val) ∧ (d.val < 188) ∧ (s.domStep d.val = 3) ∧ (domTimed s d.val = true) ∧ (s.domWant d.val = 2)) ∧
    (∃ (d : Fin 197) (s : State), (128 ≤ d.val) ∧ (d.val < 180) ∧ (s.domStep d.val = 3) ∧ (domTimed s d.val = true) ∧ (s.domWant d.val ≠ 2)) ∧
    (∃ (d : Fin 197) (s : State), (d.val ≠ 188) ∧ (d.val ≠ 189) ∧ (d.val ≠ 191) ∧ (domAgent false d.val s = true) ∧ (s.domStep d.val = 4)) ∧
    (∃ (s : State), (domAgent false 191 s = true) ∧ (s.domStep 191 = 4)) ∧
    (∃ (d : Fin 197) (s : State), (s.domStep d.val = 5)) ∧
    (∃ (d : Fin 197) (s : State), (180 ≤ d.val) ∧ (d.val < 191) ∧ (s.domStep d.val = 6) ∧ (domTimed s d.val = true) ∧ (s.domWant d.val ≠ 1)) ∧
    (∃ (d : Fin 197) (s : State), (180 ≤ d.val) ∧ (d.val < 188) ∧ (s.domFit d.val = true) ∧ (s.domStep d.val = 6) ∧ (domTimed s d.val = true) ∧ (s.domWant d.val = 1) ∧ (s.dom.wait = []) ∧ (inrushAllows s d.val = true)) :=
  ⟨⟨184, upF [(R.TRV_PCTL_EN 2, 1), (R.TRV_PCTL_LANEEN 2, 1)], by decide⟩,
    ⟨5, up, by decide⟩,
    ⟨184, { upF [(R.TRV_PCTL_EN 2, 1), (R.TRV_PCTL_LANEEN 2, 1)] with dom := { sysAt := [0, 0, 0, 0] } }, by decide⟩,
    ⟨184, { up with dom := { wait := [184] } }, by decide⟩,
    ⟨196, { up with dom := { step := [(196, 1)] } }, by decide⟩,
    ⟨196, { up with dom := { step := [(196, 2)] }, lt := 1600 }, by decide⟩,
    ⟨181, { up with dom := { step := [(181, 3)] }, lt := 103 }, by decide⟩,
    ⟨181, { up with dom := { step := [(181, 3)], want := [(181, 2)] }, lt := 103 }, by decide⟩,
    ⟨140, { upF [(R.SMP_CTRL_RUN, 1)] with dom := { step := [(140, 3)] }, lt := 800 }, by decide⟩,
    ⟨182, { up with dom := { step := [(182, 4)] } }, by decide⟩,
    ⟨{ upF [(R.SWC_STAT_STATE, 2)] with dom := { step := [(191, 4)] }, swp := { round := some (0, 3) } }, by decide⟩,
    ⟨128, { up with dom := { step := [(128, 5)] } }, by decide⟩,
    ⟨182, { up with dom := { step := [(182, 6)] }, lt := 103 }, by decide⟩,
    ⟨182, { up with dom := { step := [(182, 6)], want := [(182, 1)] }, lt := 103 }, by decide⟩⟩

theorem wit_ConverterCommandsTakeEffect :
    (∃ (v : Word) (s : State), (accessCheck s R.SMP_CTRL v = none)) ∧
    (∃ (v : Word) (s : State), (accessCheck s R.SMP_CHEN0 v = none)) ∧
    (∃ (v : Word) (s : State), (accessCheck s R.SMP_CHEN1 v = none)) ∧
    (∃ (v : Word) (s : State), (accessCheck s R.SMP_EMS v = none)) ∧
    (∃ (n : Fin 52) (d : Nat) (s : State), (s.fg R.SMP_EMS_THR ≠ 0)) ∧
    (∃ (e : Nat) (s : State), (s.smp.pend = []) ∧ (e % 1024 = 0) ∧ (s.epoch ≤ e)) ∧
    (∃ (e : Nat) (v : Word) (s : State), (s.smp.pend = [(e, R.SMP_XCFG, v)]) ∧ (e % 1024 = 0) ∧ (s.epoch ≤ e)) ∧
    (∃ (n : Fin 52) (s : State), (Smap.get (fun _ => 0) s.smp.settle (n.val + 1) ≤ s.epoch) ∧ (s.smp.cal = none)) ∧
    (∃ (s : State), (s.smp.thermRate ≤ 3)) ∧
    (∃ (n : Fin 52) (p : PipeEnt) (s : State), ((s.avgOf (n.val + 1)).full = true) ∧ (s.smp.pipe.getLast? = some p)) :=
  ⟨⟨0x11, up, by decide⟩,
    ⟨0xF0, up, by decide⟩,
    ⟨0xF0, up, by decide⟩,
    ⟨0x4003, up, by decide⟩,
    ⟨51, 5, upF [(R.SMP_EMS_THR, 3), (R.SMP_EMS_HOLD, 9)], by decide⟩,
    ⟨4096, up, by decide⟩,
    ⟨1024, 5, { up with smp := { pend := [(1024, R.SMP_XCFG, 5)] } }, by decide⟩,
    ⟨3, { up with smp := { settle := [(4, 60)] }, now := 3000 }, by decide⟩,
    ⟨{ up with smp := { thermRate := 2 } }, by decide⟩,
    ⟨3, { epoch := 9, words := [1, 2, 3, 4] }, { up with smp := { avg := [(4, { full := true })], pipe := [{ epoch := 9, words := [1, 2, 3, 4] }] } }, by decide⟩⟩

theorem wit_CrossDitherAndReferenceTakeEffect :
    (∃ (r : Nat) (s : State), (s.fb R.SMP_STAT_XACT = true) ∧ (s.cellBit R.SMP_CHEN0 R.SMP_CHEN1 (r % 48 + 1) = true) ∧ (s.cellBit R.SMP_CHEN0 R.SMP_CHEN1 (partner (r % 48 + 1)) = true) ∧ (s.smp.cal = none) ∧ (s.smp.xr = none) ∧ (s.epoch ≤ r * (s.fg R.SMP_XCFG_ROUND * 1024))) ∧
    (∃ (k : XRound) (s : State), (s.smp.xr = some k) ∧ (k.n < 1024 ∨ s.redirected = 0)) ∧
    (∃ (k : XRound) (s : State), (s.smp.xr = some k) ∧ (1024 ≤ k.n) ∧ (s.redirected ≠ 0) ∧ (s.redirected ≤ 48) ∧ ((clampS 16 ((2 * 10 * (k.chk - k.own) + k.n) / (2 * k.n))).natAbs ≤ s.fg R.SMP_XTHR_XTHR)) ∧
    (∃ (k : XRound) (s : State), (s.smp.xr = some k) ∧ (1024 ≤ k.n) ∧ (s.redirected ≠ 0) ∧ (s.redirected ≤ 48) ∧ (s.fg R.SMP_XTHR_XTHR < (clampS 16 ((2 * 10 * (k.chk - k.own) + k.n) / (2 * k.n))).natAbs)) ∧
    (∃ (m : Fin 4) (amp2 : Nat) (s : State), (ditherRateOk s (m.val + 1) = true) ∧ (staleCause s (49 + m.val) s.epoch = none) ∧ (7 ≤ Smap.get (fun _ => 0) s.smp.dith (m.val + 1)) ∧ (ditherOn s (m.val + 1) = true) ∧ (s.fg (R.SMP_AXCFG_DITH (m.val + 1)) ≤ amp2) ∧ (amp2 ≤ 3 * s.fg (R.SMP_AXCFG_DITH (m.val + 1)))) ∧
    (∃ (s : State), (s.fb R.SMP_REFCFG_EN = true) ∧ (s.smp.refRun = true) ∧ (s.bar.repUp = []) ∧ (s.smp.refQ = []) ∧ (messageLane s.bar.txMap ≠ none) ∧ ((s.smp.refB + 1) * refBlock (s.fg R.SMP_REFCFG_D) ≤ s.smp.refE + 1)) :=
  ⟨⟨47, upR [(R.SMP_CHEN1, 0xC000), (R.SMP_STAT, 0x10)], by decide⟩,
    ⟨{ r := 2, stop := 9, chk := 5, own := 6, n := 1023 }, { upF [(R.SMP_STAT_XCH, 3)] with smp := { xr := some { r := 2, stop := 9, chk := 5, own := 6, n := 1023 } } }, by decide⟩,
    ⟨{ r := 2, stop := 9, chk := 50000, own := 49000, n := 1024 }, { upF [(R.SMP_STAT_XCH, 3)] with smp := { xr := some { r := 2, stop := 9, chk := 50000, own := 49000, n := 1024 } } }, by decide⟩,
    ⟨{ r := 2, stop := 9, chk := 50000, own := 20000, n := 1024 }, { upF [(R.SMP_STAT_XCH, 3)] with smp := { xr := some { r := 2, stop := 9, chk := 50000, own := 20000, n := 1024 } } }, by decide⟩,
    ⟨3, 40, { upF [(R.SMP_CTRL_RUN, 1), (⟨R.SMP_CHEN1, 0, 20⟩, 0xFFFFF), (R.SMP_AXCFG_DITHEN 4, 1), (R.SMP_AXCFG_DITH 4, 20), (R.SMP_AXCFG_P 4, 15)] with smp := { dith := [(4, 7)] }, dom := { step := [(179, 4)] } }, by decide⟩,
    ⟨{ upF [(R.SMP_REFCFG_EN, 1)] with smp := { refRun := true, refE := 19 } }, by decide⟩⟩

theorem wit_CalibrationStepsTakeEffect :
    (∃ (s : State), (s.fb R.SMP_CTRL_AUTOCAL = true) ∧ (s.smp.cal = none) ∧ (s.due s.smp.calLast (1000000 * s.fg R.SMP_CALCTL_INTERVAL) = true) ∧ (calSkipped s s.smp.calNext = false) ∧ (s.fb R.SWC_STAT_REF_SETTLED = true) ∧ (s.redirected ≠ s.smp.calNext)) ∧
    (∃ (v : Word) (s : State), (accessCheck s R.SMP_CALCTL v = none) ∧ (wf v R.SMP_CALCTL_GO = 1) ∧ (10 ≤ wf v R.SMP_CALCTL_INTERVAL) ∧ (1 ≤ wf v R.SMP_CALCTL_CH) ∧ (wf v R.SMP_CALCTL_CH ≤ 52) ∧ (s.smp.cal = none) ∧ (s.redirected ≠ wf v R.SMP_CALCTL_CH) ∧ (calSkipped s (wf v R.SMP_CALCTL_CH) = false)) ∧
    (∃ (c : Cal) (s : State), (s.smp.cal = some c) ∧ (c.phase = 0) ∧ (s.fb R.SWC_STAT_REF_SETTLED = true) ∧ (s.redirected ≠ c.ch)) ∧
    (∃ (c : Cal) (s : State), (s.smp.cal = some c) ∧ (c.phase = 1) ∧ (c.since + 32 ≤ s.epoch) ∧ (s.fb R.SWC_STAT_REF_SETTLED = true) ∧ (s.fg R.SWC_STAT_STATE ≠ 1 ∨ s.swp.injOn = true)) ∧
    (∃ (c : Cal) (s : State), (s.smp.cal = some c) ∧ (c.phase = 1) ∧ (c.since + 32 ≤ s.epoch) ∧ (s.fb R.SWC_STAT_REF_SETTLED = true) ∧ (s.fg R.SWC_STAT_STATE = 1) ∧ (s.swp.injOn = false) ∧ (s.sweepOn = true)) ∧
    (∃ (c : Cal) (s : State), (s.smp.cal = some c) ∧ (c.phase = 2) ∧ (c.nLo = 1024)) ∧
    (∃ (c : Cal) (s : State), (s.smp.cal = some c) ∧ (c.phase = 3) ∧ (c.since + 32 ≤ s.epoch) ∧ (s.fb R.SWC_STAT_REF_SETTLED = true) ∧ (s.fg R.SWC_STAT_STATE ≠ 1 ∨ s.swp.injOn = true)) ∧
    (∃ (c : Cal) (lo : Int) (hi : Int) (g : Int) (o : Int) (s : State), (s.smp.cal = some c) ∧ (c.phase = 4) ∧ (c.nHi = 1024) ∧ (c.unsettled = false) ∧ (c.sweepLo = some lo) ∧ (c.sweepHi = some hi) ∧ (newCal c.sumLo c.sumHi lo hi = some (g, o)) ∧ ((g - s.fi (R.SMP_CAL_GAIN c.ch)).natAbs ≤ 2097) ∧ ((o - s.fi (R.SMP_CAL_OFS c.ch)).natAbs ≤ 160) ∧ (clampS 16 g = g) ∧ (clampS 16 o = o)) ∧
    (∃ (c : Cal) (s : State), (s.smp.cal = some c) ∧ (c.phase = 4) ∧ (c.nHi = 1024) ∧ (c.unsettled = true)) ∧
    (∃ (n : Fin 52) (c : Cal) (s : State), (s.smp.cal = some c) ∧ (c.phase = 5) ∧ (c.ch = n.val + 1) ∧ (Smap.get (fun _ => 0) s.smp.settle (n.val + 1) ≤ s.epoch)) :=
  ⟨⟨{ upF [(R.SMP_CTRL_AUTOCAL, 1), (R.SWC_STAT_REF_SETTLED, 1)] with smp := { calNext := 52 }, lt := 1000000000 }, by decide⟩,
    ⟨0x80310010, upF [(R.SWC_STAT_REF_SETTLED, 1)], by decide⟩,
    ⟨{ ch := 7 }, { upF [(R.SWC_STAT_REF_SETTLED, 1)] with smp := { cal := some { ch := 7 } } }, by decide⟩,
    ⟨{ ch := 7, phase := 1 }, { upF [(R.SWC_STAT_REF_SETTLED, 1), (R.SWC_STAT_STATE, 2)] with smp := { cal := some { ch := 7, phase := 1 } }, now := 1600 }, by decide⟩,
    ⟨{ ch := 7, phase := 1 }, { upF [(R.SWC_STAT_REF_SETTLED, 1), (R.SWC_STAT_STATE, 1)] with smp := { cal := some { ch := 7, phase := 1 } }, now := 1650, dom := { step := [(191, 4)] } }, by decide⟩,
    ⟨{ ch := 7, phase := 2, nLo := 1024 }, { up with smp := { cal := some { ch := 7, phase := 2, nLo := 1024 } } }, by decide⟩,
    ⟨{ ch := 7, phase := 3 }, { upF [(R.SWC_STAT_REF_SETTLED, 1), (R.SWC_STAT_STATE, 2)] with smp := { cal := some { ch := 7, phase := 3 } }, now := 1600 }, by decide⟩,
    ⟨{ ch := 7, phase := 4, nLo := 1024, nHi := 1024, sumLo := 5120000, sumHi := 51200000, sweepLo := some 20000, sweepHi := some 200000 }, 20000, 200000, 0, 0, { up with smp := { cal := some { ch := 7, phase := 4, nLo := 1024, nHi := 1024, sumLo := 5120000, sumHi := 51200000, sweepLo := some 20000, sweepHi := some 200000 } } }, by decide⟩,
    ⟨{ ch := 7, phase := 4, nHi := 1024, unsettled := true }, { up with smp := { cal := some { ch := 7, phase := 4, nHi := 1024, unsettled := true } } }, by decide⟩,
    ⟨6, { ch := 7, phase := 5 }, { upF [(R.SMP_STAT_CALBUSY, 1), (R.SMP_STAT_CALCH, 7)] with smp := { cal := some { ch := 7, phase := 5 }, settle := [(7, 60)] }, now := 3000 }, by decide⟩⟩

theorem wit_SweepCommandsTakeEffect :
    (∃ (e : Nat) (s : State), (s.fg R.SWC_STAT_STATE = 1) ∧ (s.swp.round = none) ∧ (s.swp.offNext = false) ∧ (s.fb R.SWC_CTRL_EN = true) ∧ (s.injRunning = false) ∧ (s.swp.inCal = false) ∧ (s.swp.calSlot = 0) ∧ (s.swp.pendSet = []) ∧ (s.sweepOn = true) ∧ (e % (40 * s.fg R.SWC_CTRL_PERIOD) = 0) ∧ (s.epoch ≤ e)) ∧
    (∃ (e : Nat) (s : State), (s.fg R.SWC_STAT_STATE ≠ 0) ∧ (s.swp.round.isSome = true) ∧ (e % (40 * s.fg R.SWC_CTRL_PERIOD) = 0) ∧ (s.epoch ≤ e)) ∧
    (∃ (d : Int) (under : Bool) (k : Nat) (st : Nat) (s : State), (s.swp.inCal = false) ∧ (s.fg R.SWC_STAT_STATE = 2) ∧ (s.swp.injOn = false) ∧ (s.fg R.SWC_STAT_SLOT = k) ∧ (k < 96) ∧ (s.fg (R.SWC_SEQ_SRC k) ≠ 0) ∧ (s.swp.round = some (st, k))) ∧
    (∃ (d : Int) (under : Bool) (k : Nat) (st : Nat) (s : State), (s.swp.inCal = false) ∧ (s.fg R.SWC_STAT_STATE = 2) ∧ (s.swp.injOn = false) ∧ (s.fg R.SWC_STAT_SLOT = k) ∧ (k < 96) ∧ (s.fg (R.SWC_SEQ_SRC k) = 0) ∧ (s.swp.round = some (st, k)) ∧ (k + 1 < s.fg R.SWC_CTRL_LEN) ∧ (s.sweepOn = true) ∧ (s.swp.calSlot = 0)) ∧
    (∃ (d : Int) (under : Bool) (c : Cal) (s : State), (s.swp.inCal = true) ∧ (s.swp.injOn = false) ∧ (s.swp.calSlot = 1) ∧ (s.smp.cal = some c)) ∧
    (∃ (w : Word) (s : State), (∀ q ∈ List.range 8, s.fg (R.FAB_PSUB_EN q) = 0)) ∧
    (∃ (src : Fin 4) (cell : Nat) (s : State), (s.tb ⟨R.SWC_INJEN, 0, 4⟩ src.val = true) ∧ (s.fg R.SWC_STAT_STATE ≠ 0) ∧ (s.swp.injOn = false) ∧ (cell ≠ 0 ∨ s.fg (R.SWC_ISEQ_SRC 0) ≠ srcTRIG) ∧ (0 < s.fg R.SWC_CTRL_ILEN)) ∧
    (∃ (src : Fin 4) (cell : Nat) (s : State), (s.tb ⟨R.SWC_INJEN, 0, 4⟩ src.val = true) ∧ (s.fg R.SWC_STAT_STATE ≠ 0) ∧ (s.injRunning = true) ∧ (s.swp.injEpoch ≠ some s.epoch) ∧ (cell ≠ 0)) ∧
    (∃ (v : Word) (s : State), (accessCheck s R.SWC_INJCTL (w32 (setBit v.toNat 31 true)) = none) ∧ (wf v R.SWC_INJCTL_CELL ≤ 48) ∧ (s.fg R.SWC_STAT_STATE ≠ 0) ∧ (s.swp.injOn = false) ∧ (s.tb ⟨R.SWC_INJEN, 0, 4⟩ 0 = true)) ∧
    (∃ (v : Word) (s : State), (accessCheck s R.SWC_INJCTL (w32 (setBit v.toNat 30 true)) = none) ∧ (wf v R.SWC_INJCTL_GO = 0)) ∧
    (∃ (s : State), (s.swp.injOn = true) ∧ (s.injRunning = false) ∧ (s.ssv.st ≠ svSTARTING) ∧ (s.swp.heldSsv = false) ∧ (s.swp.roundHeld = false) ∧ (s.swp.calSlot = 0) ∧ (s.swp.round = none) ∧ (s.sweepOn = true)) ∧
    (∃ (s : State), (s.sweepOn = true) ∧ (s.fg R.SWC_STAT_REF_SETTLED = 0) ∧ (s.swp.refTimed = false) ∧ (s.swp.refMuxa = false) ∧ (s.due s.swp.refAt (refTime s) = true)) ∧
    (∃ (s : State), (s.sweepOn = true) ∧ (s.due s.swp.ratAt 1000000 = true)) ∧
    (∃ (s : State), (s.sweepOn = true) ∧ (s.fg R.SWC_STAT_REF_SETTLED = 0) ∧ (s.swp.refFault = false) ∧ (s.due s.swp.refAt 100000000 = true)) :=
  ⟨⟨8000, { upF [(R.SWC_CTRL_EN, 1), (R.SWC_STAT_STATE, 1)] with dom := { step := [(191, 4)] } }, by decide⟩,
    ⟨8000, { upF [(R.SWC_STAT_STATE, 2)] with swp := { round := some (0, 4) } }, by decide⟩,
    ⟨160000, false, 0, 0, { upF [(R.SWC_CTRL_EN, 1), (R.SWC_STAT_STATE, 2), (R.SWC_STAT_SLOT, 0)] with dom := { step := [(191, 4)] }, swp := { round := some (0, 0) } }, by decide⟩,
    ⟨0, false, 5, 0, { upF [(R.SWC_CTRL_EN, 1), (R.SWC_STAT_STATE, 2), (R.SWC_STAT_SLOT, 5), (R.SWC_SEQ_SRC 5, 0)] with dom := { step := [(191, 4)] }, swp := { round := some (0, 5) } }, by decide⟩,
    ⟨20000, false, { ch := 3, phase := 2 }, { upF [(R.SWC_CTRL_EN, 1), (R.SWC_STAT_STATE, 2), (R.SWC_STAT_SLOT, 127), (R.SWC_STAT_CALSLOT, 1)] with dom := { step := [(191, 4)] }, swp := { inCal := true, calSlot := 1 }, smp := { cal := some { ch := 3, phase := 2 } } }, by decide⟩,
    ⟨0x10027100, up, by decide⟩,
    ⟨3, 48, upF [(R.SWC_STAT_STATE, 1)], by decide⟩,
    ⟨1, 4, { upF [(R.SWC_STAT_STATE, 3)] with swp := { injOn := true, injEpoch := some 9 } }, by decide⟩,
    ⟨0x30, upF [(R.SWC_STAT_STATE, 1)], by decide⟩,
    ⟨0, upF [(R.SWC_INJDROP_COUNT, 7), (R.SWC_OVRUN_COUNT, 9)], by decide⟩,
    ⟨{ upF [(R.SWC_STAT_STATE, 3)] with dom := { step := [(191, 4)] }, swp := { injOn := true, injIdx := 8 } }, by decide⟩,
    ⟨{ up with dom := { step := [(191, 4)] }, lt := 2000000 }, by decide⟩,
    ⟨{ up with dom := { step := [(191, 4)] }, lt := 1000000 }, by decide⟩,
    ⟨{ up with dom := { step := [(191, 4)] }, lt := 100000000 }, by decide⟩⟩

theorem wit_ComparatorCommandsTakeEffect :
    (∃ (cells : List Int) (k : Nat) (s : State), (2 ≤ k) ∧ (k < 98) ∧ (s.cmp.test ≠ some k)) ∧
    (∃ (cells : List Int) (n : Nat) (s : State), (1 ≤ n) ∧ (n ≤ 48) ∧ (s.cmp.test ≠ some (2 * n)) ∧ (cmpEnabled s (2 * n) = true) ∧ (s.filtered (2 * n) = false) ∧ (asserted s (2 * n) (cells.getD (n - 1) 0) (Smap.get (fun _ => false) s.cmp.asserted (2 * n)) = true) ∧ (filterLimit s (2 * n) ≤ Smap.get (fun _ => 0) s.cmp.count (2 * n) + 1)) ∧
    (∃ (v : Word) (s : State), (accessCheck s R.CMP_TEST v = none) ∧ (wf v R.CMP_TEST_GO = 1) ∧ (1 ≤ wf v R.CMP_TEST_CELL) ∧ (wf v R.CMP_TEST_CELL ≤ 48) ∧ (s.fg R.CMP_TEST_RESULT ≠ 1) ∧ (s.ssv.run = false)) ∧
    (∃ (rose : Bool) (fell : Bool) (k : Nat) (s : State), (s.cmp.test = some k)) :=
  ⟨⟨List.replicate 48 3700000, 97, upF [(⟨R.CMP_OVEN0, 0, 32⟩, 1)], by decide⟩,
    ⟨List.replicate 48 5200000, 48, { upR [(R.CMP_OVEN1, 0x8000)] with cmp := { count := [(96, 31999)] } }, by decide⟩,
    ⟨0x81300000, up, by decide⟩,
    ⟨true, false, 5, { upF [(R.CMP_TEST_RESULT, 1)] with cmp := { test := some 5 } }, by decide⟩⟩

theorem wit_BalanceCommandsTakeEffect :
    (∃ (s : State), (s.exc.retAt = none)) ∧
    (∃ (c : Fin 48) (v : Word) (s : State), (accessCheck s (R.BAL_TMR (cellOf c)) v = none) ∧ (s.bEn (cellOf c) = true)) ∧
    (∃ (c : Fin 48) (s : State), (320000000 ≤ (accrue (cellOf c) s).accOf (cellOf c)) ∧ (2 ≤ s.fg (R.BAL_TMR_TIME (cellOf c)))) ∧
    (∃ (c : Fin 48) (s : State), (320000000 ≤ (accrue (cellOf c) s).accOf (cellOf c)) ∧ (s.fg (R.BAL_TMR_TIME (cellOf c)) = 1)) ∧
    (∃ (c : Fin 48) (s : State), (s.bOn (cellOf c) = true ∨ cellOf c ∈ s.bal.driven)) ∧
    (∃ (c : Fin 48) (mv : Int) (s : State), (s.bOn (cellOf c) = true ∨ cellOf c ∈ s.bal.driven) ∧ (500 ≤ mv)) ∧
    (∃ (c : Fin 48) (mv : Int) (s : State), (s.bOn (cellOf c) = false) ∧ (cellOf c ∉ s.bal.driven) ∧ (500 ≤ mv) ∧ (c.val < 47)) ∧
    (∃ (temp : Int) (s : State), (s.fg R.BAL_STAT_TBAND ≤ 4)) ∧
    (∃ (temp : Int) (s : State), (s.fg R.BAL_STAT_TBAND ≤ 1) ∧ (10500 ≤ temp)) ∧
    (∃ (temp : Int) (s : State), (12500 ≤ temp) ∧ (s.excited ≠ []) ∧ (s.excBusy = true) ∧ (s.exc.retAt = none)) ∧
    (∃ (s : State), (forced s = true) ∧ (s.excBusy = true)) ∧
    (∃ (s : State), (forced s = false) ∧ (s.exc.retAt = none)) ∧
    (∃ (p : Packet) (q : Packet) (c : Byte) (lo : Byte) (hi : Byte) (s : State) (s1 : State), (Admits 0x30 p s q s1) ∧ (q.payload = [1, 0, 0, 0, c, 0, lo, hi]) ∧ (q.noReply = false) ∧ (1 ≤ c.toNat) ∧ (c.toNat ≤ 48) ∧ (s1.bEn c.toNat = true) ∧ (accessCheck s1 (R.BAL_TMR c.toNat) (w32 (lo.toNat + 256 * hi.toNat)) = none)) :=
  ⟨⟨up, by decide⟩,
    ⟨47, 300, upR [(R.BAL_CELLEN1, 0xFFFF)], by decide⟩,
    ⟨4, { upF [(R.BAL_TMR_TIME 5, 2)] with bal := { acc := [(5, 320000000)] } }, by decide⟩,
    ⟨4, { upF [(R.BAL_TMR_TIME 5, 1)] with bal := { acc := [(5, 320000000)] } }, by decide⟩,
    ⟨40, upR [(R.BAL_ON1, 0x100)], by decide⟩,
    ⟨40, 500, upR [(R.BAL_ON1, 0x100)], by decide⟩,
    ⟨40, 500, up, by decide⟩,
    ⟨9100, upF [(R.BAL_STAT_TBAND, 1)], by decide⟩,
    ⟨10500, up, by decide⟩,
    ⟨12500, { upF [(R.EXC_STAT_RUN, 1)] with exc := { cells := [(3, { bias := 64 })] } }, by decide⟩,
    ⟨{ upF [(R.EXC_STAT_RUN, 1), (R.BAL_FORCE_SRC, 4), (⟨R.BAL_ON0, 0, 32⟩, 2)] with ssv := { cmd := true } }, by decide⟩,
    ⟨up, by decide⟩,
    ⟨pk 0x30 1 [1, 0, 0, 0, 48, 0, 44, 1], pk 0x30 1 [1, 0, 0, 0, 48, 0, 44, 1], 48, 44, 1, upR [(R.BAL_CELLEN1, 0xFFFF)], upR [(R.BAL_CELLEN1, 0xFFFF)], by decide⟩⟩

theorem wit_ExcitationCommandsTakeEffect :
    (∃ (v : Word) (s : State), (accessCheck s R.EXC_CTRL (w32 (setBit v.toNat 31 true)) = none) ∧ (wf v R.EXC_CTRL_STOP = 0) ∧ (wf v R.EXC_CTRL_SHAPE ≤ 1) ∧ (wf v R.EXC_CTRL_CARRIER ≠ 3) ∧ (32 ≤ wf v R.EXC_CTRL_BIAS) ∧ (wf v R.EXC_CTRL_BIAS ≤ 224) ∧ (32 ≤ wf v R.EXC_CTRL_BALBIAS) ∧ (wf v R.EXC_CTRL_BALBIAS ≤ 224) ∧ (excGoCheck s (wf v R.EXC_CTRL_SHAPE) (wf v R.EXC_CTRL_CARRIER) = .ok)) ∧
    (∃ (s : State), (s.fg R.EXC_STAT_PEND = 1) ∧ (s.selected.length ≤ capOf s)) ∧
    (∃ (s : State), (s.fg R.EXC_STAT_PEND = 1) ∧ (capOf s < s.selected.length)) ∧
    (∃ (v : Word) (s : State), (accessCheck s R.EXC_CTRL (w32 (setBit v.toNat 30 true)) = none) ∧ (wf v R.EXC_CTRL_GO = 0) ∧ (wf v R.EXC_CTRL_SHAPE ≤ 1) ∧ (wf v R.EXC_CTRL_CARRIER ≠ 3) ∧ (32 ≤ wf v R.EXC_CTRL_BIAS) ∧ (wf v R.EXC_CTRL_BIAS ≤ 224) ∧ (32 ≤ wf v R.EXC_CTRL_BALBIAS) ∧ (wf v R.EXC_CTRL_BALBIAS ≤ 224) ∧ (v.toNat &&& 0x00FFFF33 = (s.reg R.EXC_CTRL).toNat) ∧ (s.excBusy = true)) ∧
    (∃ (e : Nat) (r : Nat) (inputs : List Int) (s : State), (s.exc.retAt = some r) ∧ (r ≤ e)) ∧
    (∃ (data : List SenseBlock) (s : State), (s.fg R.EXC_STAT_RUN = 1)) ∧
    (∃ (data : List SenseBlock) (s : State), (s.fg R.EXC_STAT_RUN = 1) ∧ (s.exc.cells = [])) ∧
    (∃ (p : Packet) (q : Packet) (s : State) (s1 : State), (Admits 0x32 p s q s1) ∧ (q.payload = []) ∧ (q.noReply = false) ∧ (accessCheck s1 R.EXC_CTRL (s1.reg R.EXC_CTRL) = none) ∧ (s1.excBusy = true)) ∧
    (∃ (p : Packet) (q : Packet) (s : State) (s1 : State), (Admits 0x31 p s q s1) ∧ (q.payload.length = 84) ∧ (q.noReply = false) ∧ (wf (w32 (u32 q.payload 0)) R.EXC_CTRL_GO = 1) ∧ (wf (w32 (u32 q.payload 0)) R.EXC_CTRL_STOP = 0) ∧ (s1.excBusy = false) ∧ (accessCheck s1 R.EXC_CTRL (w32 (u32 q.payload 0)) = none) ∧ (((excStartRegs q.payload).foldl excTry (.ok, (s1.fs R.EXC_STAT_RUN 0).fs R.EXC_STAT_PEND 0)).1 = .ok) ∧ ((excCtrlWrite (w32 (u32 q.payload 0))
      ((excStartRegs q.payload).foldl excTry (.ok, (s1.fs R.EXC_STAT_RUN 0).fs R.EXC_STAT_PEND 0)).2).1 = .ok)) :=
  ⟨⟨0x00404010, upF [(⟨R.EXC_SEL0, 0, 32⟩, 1), (⟨R.BAL_CELLEN0, 0, 32⟩, 1)], by decide⟩,
    ⟨{ upF [(⟨R.EXC_SEL0, 0, 32⟩, 5), (R.EXC_STAT_PEND, 1)] with exc := { start := 5120 } }, by decide⟩,
    ⟨{ upF [(⟨R.EXC_SEL0, 0, 32⟩, 5), (R.EXC_STAT_PEND, 1), (R.BAL_CTRL_MAXSW, 1)] with exc := { start := 5120 } }, by decide⟩,
    ⟨0x00404010, upR [(R.EXC_CTRL, 0x00404010), (R.EXC_STAT, 1)], by decide⟩,
    ⟨20, 20, [], { up with exc := { cells := [(3, { bias := 64 })], retAt := some 20 } }, by decide⟩,
    ⟨[], { upF [(R.EXC_STAT_RUN, 1), (R.EXC_PRBS_ORDER, 15)] with exc := { cells := [(3, { bias := 64 })], blk := 5120, lfsr := 32767 } }, by decide⟩,
    ⟨[], { upF [(R.EXC_STAT_RUN, 1)] with exc := { cells := [] } }, by decide⟩,
    ⟨pk 0x32 1 [], pk 0x32 1 [], upR [(R.EXC_STAT, 1)], upR [(R.EXC_STAT, 1)], by decide⟩,
    ⟨pk 0x31 1 excGood, pk 0x31 1 excGood, upF [(⟨R.BAL_CELLEN0, 0, 32⟩, 1)], upF [(⟨R.BAL_CELLEN0, 0, 32⟩, 1)], by decide⟩⟩

theorem wit_ProfileCommandsTakeEffect :
    (∃ (w : Word) (s : State), (s.prf.seqNext = none)) ∧
    (∃ (w : Word) (n : Nat) (s : State), (s.prf.seqNext = some n) ∧ (n ≠ w.toNat / 0x200000 % 16)) ∧
    (∃ (q : Fin 8) (c : Fin 48) (i : Fin 71) (j : Nat) (s : State), (prfRun s q.val = false)) ∧
    (∃ (t0 : Nat) (v : Word) (s : State), (s.prf.pend = [(t0, 0, R.PRF_ISCALE, v)]) ∧ (t0 ≤ s.now / 1000000000)) ∧
    (∃ (v : Word) (s : State), (accessCheck s R.PRF_CTRL (w32 (setBit v.toNat 31 true)) = none) ∧ (prfBad R.PRF_CTRL (w32 (setBit v.toNat 31 true)) = false)) ∧
    (∃ (p : Packet) (q : Packet) (s : State) (s1 : State), (Admits 0x40 p s q s1) ∧ (q.payload.length = 44) ∧ (q.noReply = false) ∧ (((List.range 11).any fun k => prfBad (R.PRF_CTRL + 4 * k) (w32 (u32 q.payload (4 * k)))
      || (match findReg (R.PRF_CTRL + 4 * k) with | some r => (w32 (u32 q.payload (4 * k))).toNat &&& r.resv != 0 | none => true)) = false) ∧ (w32 (u32 q.payload 4) = 0) ∧ ((w32 (u32 q.payload 0)).toNat.testBit 31 = false)) ∧
    (∃ (p : Packet) (q : Packet) (i : Byte) (m : Byte) (n : Byte) (s : State) (s1 : State), (Admits 0x41 p s q s1) ∧ (q.payload = [i, m, 1, 0, n, 0, 0, 0]) ∧ (q.noReply = false) ∧ (1 ≤ m.toNat) ∧ (i.toNat + m.toNat ≤ 71) ∧ (1 ≤ n.toNat) ∧ (n.toNat ≤ 48) ∧ (profiled s1 q.parcel n.toNat = true) ∧ (degSteps s1 = 0)) ∧
    (∃ (p : Packet) (q : Packet) (n : Byte) (s : State) (s1 : State), (Admits 0x42 p s q s1) ∧ (q.payload = [1, 0, 0, 0, n, 0, 0, 0]) ∧ (q.noReply = false) ∧ (1 ≤ n.toNat) ∧ (n.toNat ≤ 48) ∧ (profiled s1 q.parcel n.toNat = true) ∧ (degSteps s1 = 0)) ∧
    (∃ (r : Fin 9) (a : BitVec 24) (s : State), (setHead a.toNat = true)) :=
  ⟨⟨0x06000000, up, by decide⟩,
    ⟨0x04400000, 1, { up with prf := { seqNext := some 1 } }, by decide⟩,
    ⟨1, 47, 70, 3, up, by decide⟩,
    ⟨1, 5, { up with prf := { pend := [(1, 0, R.PRF_ISCALE, 5)] }, now := 1000000000 }, by decide⟩,
    ⟨0x0820, up, by decide⟩,
    ⟨pk 0x40 1 (leBytes 4 0x0820 ++ List.replicate 40 0), pk 0x40 1 (leBytes 4 0x0820 ++ List.replicate 40 0), up, up, by decide⟩,
    ⟨pk 0x41 2 [70, 1, 1, 0, 48, 0, 0, 0], pk 0x41 2 [70, 1, 1, 0, 48, 0, 0, 0], 70, 1, 48, upR [(R.PRF_CELL1, 0x8000)], upR [(R.PRF_CELL1, 0x8000)], by decide⟩,
    ⟨pk 0x42 2 [1, 0, 0, 0, 48, 0, 0, 0], pk 0x42 2 [1, 0, 0, 0, 48, 0, 0, 0], 48, upR [(R.PRF_CELL1, 0x8000)], upR [(R.PRF_CELL1, 0x8000)], by decide⟩,
    ⟨8, 0x062000, upR [(0x062004, 77)], by decide⟩⟩

theorem wit_EstimatorRowsTakeEffect :
    (∃ (s : State), (s.due s.est.snapAt 3600000000000 = true) ∧ (s.nvBusy = false)) ∧
    (∃ (s : State), (s.due s.est.snapAt 3600000000000 = true) ∧ (s.nvBusy = true)) :=
  ⟨⟨{ up with lt := 3600000000000 }, by decide⟩,
    ⟨{ up with nv := { jphase := 1 }, lt := 3600000000000 }, by decide⟩⟩

theorem wit_EstimatorCommandsTakeEffect :
    (∃ (v : Word) (s : State), (accessCheck s R.EST_CTRL (w32 (setBit v.toNat 31 true)) = none) ∧ (s.nvBusy = false)) ∧
    (∃ (p : Packet) (q : Packet) (s : State) (s1 : State), (Admits 0x43 p s q s1) ∧ (q.payload.length = 736) ∧ (paramsOk q.payload = true) ∧ (q.noReply = false)) ∧
    (∃ (t0 : Nat) (q : Nat) (ty : Nat) (b : List Byte) (s : State), (s.est.pendPar = [(t0, q, ty, b)]) ∧ (t0 ≤ s.now)) ∧
    (∃ (p : Packet) (q : Packet) (n : Byte) (s : State) (s1 : State), (Admits 0x44 p s q s1) ∧ (q.payload = [1, 0, 0, 0, n, 0, 0, 0]) ∧ (q.noReply = false) ∧ (1 ≤ n.toNat) ∧ (n.toNat ≤ 48) ∧ (estimated s1 q.parcel n.toNat = true) ∧ (degSteps s1 = 0)) ∧
    (∃ (p : Packet) (q : Packet) (n : Byte) (a : Byte) (b : Byte) (c : Byte) (d : Byte) (s : State) (s1 : State), (Admits 0x45 p s q s1) ∧ (q.payload = [1, 0, 0, 0, n, 0, 0, 0, a, b, c, d]) ∧ (q.noReply = false) ∧ (1 ≤ n.toNat) ∧ (n.toNat ≤ 48) ∧ (a.toNat + 256 * b.toNat ≤ 10000) ∧ (estimated s1 q.parcel n.toNat = true)) ∧
    (∃ (t0 : Nat) (q : Nat) (n : Nat) (soc : Nat) (capr : Nat) (s : State), (s.est.pendSeed = [(t0, q, n, soc, capr)]) ∧ (t0 ≤ s.now) ∧ (estLoaded s q (estType s q n) = true) ∧ (soc ≤ 10000) ∧ (capr < 65536) ∧ ((s.ecell q n).conv = 0)) ∧
    (∃ (t0 : Nat) (q : Nat) (n : Nat) (soc : Nat) (capr : Nat) (s : State), (s.est.pendSeed = [(t0, q, n, soc, capr)]) ∧ (t0 ≤ s.now) ∧ (estLoaded s q (estType s q n) = true) ∧ (soc ≤ 10000) ∧ (capr < 65536) ∧ ((s.ecell q n).conv ≠ 0) ∧ (2 ≤ (s.ecell q n).comps.length)) :=
  ⟨⟨1, up, by decide⟩,
    ⟨pk 0x43 1 parGood, pk 0x43 1 parGood, up, up, by decide +kernel⟩,
    ⟨0, 7, 3, [1], { up with est := { pendPar := [(0, 7, 3, [1])] } }, by decide⟩,
    ⟨pk 0x44 2 [1, 0, 0, 0, 48, 0, 0, 0], pk 0x44 2 [1, 0, 0, 0, 48, 0, 0, 0], 48, upR [(R.EST_CELL1, 0x8000)], upR [(R.EST_CELL1, 0x8000)], by decide⟩,
    ⟨pk 0x45 1 [1, 0, 0, 0, 48, 0, 0, 0, 16, 39, 1, 2], pk 0x45 1 [1, 0, 0, 0, 48, 0, 0, 0, 16, 39, 1, 2], 48, 16, 39, 1, 2, upR [(R.EST_CELL1, 0x8000)], upR [(R.EST_CELL1, 0x8000)], by decide⟩,
    ⟨0, 7, 48, 10000, 9, { up with est := { pendSeed := [(0, 7, 48, 10000, 9)], params := [(28, [1])] } }, by decide⟩,
    ⟨0, 7, 48, 10000, 9, { up with est := { pendSeed := [(0, 7, 48, 10000, 9)], params := [(28, [1])], cells := [(748, { conv := 2, comps := [1, 2] })] } }, by decide⟩⟩

theorem wit_IntegerInstructionsComplete :
    (∃ (x : Fin 1024) (ecc : Fin 4) (w : Nat) (s : State), (ecc ≠ 2) ∧ (Issues x 0x01 w s) ∧ (iX w = 0)) ∧
    (∃ (x : Fin 1024) (ecc : Fin 4) (w : Nat) (s : State), (ecc ≠ 2) ∧ (Issues x 0x02 w s) ∧ (iX w = 0)) ∧
    (∃ (x : Fin 1024) (ecc : Fin 4) (w : Nat) (s : State), (ecc ≠ 2) ∧ (Issues x 0x03 w s) ∧ (iX w = 0)) ∧
    (∃ (x : Fin 1024) (ecc : Fin 4) (w : Nat) (s : State), (ecc ≠ 2) ∧ (Issues x 0x04 w s) ∧ (iX w = 0)) ∧
    (∃ (x : Fin 1024) (ecc : Fin 4) (w : Nat) (s : State), (ecc ≠ 2) ∧ (Issues x 0x05 w s) ∧ (iX w = 0)) ∧
    (∃ (x : Fin 1024) (ecc : Fin 4) (w : Nat) (s : State), (ecc ≠ 2) ∧ (Issues x 0x06 w s) ∧ (iX w = 0)) ∧
    (∃ (x : Fin 1024) (ecc : Fin 4) (w : Nat) (s : State), (ecc ≠ 2) ∧ (Issues x 0x07 w s) ∧ (iX w = 0)) ∧
    (∃ (x : Fin 1024) (ecc : Fin 4) (w : Nat) (s : State), (ecc ≠ 2) ∧ (Issues x 0x08 w s) ∧ (iX w = 0)) ∧
    (∃ (x : Fin 1024) (ecc : Fin 4) (w : Nat) (s : State), (ecc ≠ 2) ∧ (Issues x 0x0A w s) ∧ (iX w = 0)) ∧
    (∃ (x : Fin 1024) (ecc : Fin 4) (w : Nat) (s : State), (ecc ≠ 2) ∧ (Issues x 0x0B w s) ∧ (iX w = 0)) ∧
    (∃ (x : Fin 1024) (ecc : Fin 4) (w : Nat) (s : State), (ecc ≠ 2) ∧ (Issues x 0x0C w s) ∧ (iX w = 0)) ∧
    (∃ (x : Fin 1024) (ecc : Fin 4) (w : Nat) (s : State), (ecc ≠ 2) ∧ (Issues x 0x0D w s) ∧ (iX w = 0)) ∧
    (∃ (x : Fin 1024) (ecc : Fin 4) (w : Nat) (s : State), (ecc ≠ 2) ∧ (Issues x 0x0E w s) ∧ (iX w = 0)) ∧
    (∃ (x : Fin 1024) (ecc : Fin 4) (w : Nat) (s : State), (ecc ≠ 2) ∧ (Issues x 0x0F w s) ∧ (iX w = 0)) ∧
    (∃ (x : Fin 1024) (ecc : Fin 4) (w : Nat) (s : State), (ecc ≠ 2) ∧ (Issues x 0x10 w s) ∧ (iX w = 0)) ∧
    (∃ (x : Fin 1024) (ecc : Fin 4) (w : Nat) (s : State), (ecc ≠ 2) ∧ (Issues x 0x11 w s) ∧ (iX w = 0)) ∧
    (∃ (x : Fin 1024) (ecc : Fin 4) (w : Nat) (s : State), (ecc ≠ 2) ∧ (Issues x 0x09 w s) ∧ (iX w = 0) ∧ (iD w = 0)) ∧
    (∃ (x : Fin 1024) (ecc : Fin 4) (w : Nat) (s : State), (ecc ≠ 2) ∧ (Issues x 0x12 w s) ∧ (iX w = 0) ∧ (iB w = 0)) ∧
    (∃ (x : Fin 1024) (ecc : Fin 4) (w : Nat) (s : State), (ecc ≠ 2) ∧ (Issues x 0x13 w s) ∧ (iX w = 0) ∧ (iB w = 0)) ∧
    (∃ (x : Fin 1024) (ecc : Fin 4) (w : Nat) (s : State), (ecc ≠ 2) ∧ (Issues x 0x1A w s) ∧ (iX w = 0) ∧ (iB w = 0)) :=
  ⟨⟨33, 1, (iw 0x01 3 1 2 0).toNat, upE (iw 0x01 3 1 2 0), by decide⟩,
    ⟨33, 1, (iw 0x02 3 1 2 0).toNat, upE (iw 0x02 3 1 2 0), by decide⟩,
    ⟨33, 1, (iw 0x03 3 1 2 0).toNat, upE (iw 0x03 3 1 2 0), by decide⟩,
    ⟨33, 1, (iw 0x04 3 1 2 0).toNat, upE (iw 0x04 3 1 2 0), by decide⟩,
    ⟨33, 1, (iw 0x05 3 1 2 0).toNat, upE (iw 0x05 3 1 2 0), by decide⟩,
    ⟨33, 1, (iw 0x06 3 1 2 0).toNat, upE (iw 0x06 3 1 2 0), by decide⟩,
    ⟨33, 1, (iw 0x07 3 1 2 0).toNat, upE (iw 0x07 3 1 2 0), by decide⟩,
    ⟨33, 1, (iw 0x08 3 1 2 0).toNat, upE (iw 0x08 3 1 2 0), by decide⟩,
    ⟨33, 1, (iw 0x0A 3 1 2 0).toNat, upE (iw 0x0A 3 1 2 0), by decide⟩,
    ⟨33, 1, (iw 0x0B 3 1 2 0).toNat, upE (iw 0x0B 3 1 2 0), by decide⟩,
    ⟨33, 1, (iw 0x0C 3 1 2 0).toNat, upE (iw 0x0C 3 1 2 0), by decide⟩,
    ⟨33, 1, (iw 0x0D 3 1 2 0).toNat, upE (iw 0x0D 3 1 2 0), by decide⟩,
    ⟨33, 1, (iw 0x0E 3 1 2 0).toNat, upE (iw 0x0E 3 1 2 0), by decide⟩,
    ⟨33, 1, (iw 0x0F 3 1 2 0).toNat, upE (iw 0x0F 3 1 2 0), by decide⟩,
    ⟨33, 1, (iw 0x10 3 1 2 0).toNat, upE (iw 0x10 3 1 2 0), by decide⟩,
    ⟨33, 1, (iw 0x11 3 1 2 0).toNat, upE (iw 0x11 3 1 2 0), by decide⟩,
    ⟨33, 1, (iw 0x09 0 1 2 0).toNat, upE (iw 0x09 0 1 2 0), by decide⟩,
    ⟨33, 1, (iw 0x12 3 3 0 0).toNat, upE (iw 0x12 3 3 0 0), by decide⟩,
    ⟨33, 1, (iw 0x13 3 1 0 0).toNat, upE (iw 0x13 3 1 0 0), by decide⟩,
    ⟨33, 1, (iw 0x1A 3 1 0 0).toNat, upE (iw 0x1A 3 1 0 0), by decide⟩⟩

theorem wit_PackedAndImmediateInstructionsComplete :
    (∃ (x : Fin 1024) (ecc : Fin 4) (w : Nat) (s : State), (ecc ≠ 2) ∧ (Issues x 0x14 w s) ∧ (iX w = 0)) ∧
    (∃ (x : Fin 1024) (ecc : Fin 4) (w : Nat) (s : State), (ecc ≠ 2) ∧ (Issues x 0x15 w s) ∧ (iX w = 0)) ∧
    (∃ (x : Fin 1024) (ecc : Fin 4) (w : Nat) (s : State), (ecc ≠ 2) ∧ (Issues x 0x16 w s) ∧ (iX w = 0)) ∧
    (∃ (x : Fin 1024) (ecc : Fin 4) (w : Nat) (s : State), (ecc ≠ 2) ∧ (Issues x 0x17 w s) ∧ (iX w = 0)) ∧
    (∃ (x : Fin 1024) (ecc : Fin 4) (w : Nat) (s : State), (ecc ≠ 2) ∧ (Issues x 0x18 w s) ∧ (iX w = 0)) ∧
    (∃ (x : Fin 1024) (ecc : Fin 4) (w : Nat) (s : State), (ecc ≠ 2) ∧ (Issues x 0x19 w s) ∧ (iX w = 0) ∧ (iB w = 0)) ∧
    (∃ (x : Fin 1024) (ecc : Fin 4) (w : Nat) (s : State), (ecc ≠ 2) ∧ (Issues x 0x20 w s)) ∧
    (∃ (x : Fin 1024) (ecc : Fin 4) (w : Nat) (s : State), (ecc ≠ 2) ∧ (Issues x 0x21 w s)) ∧
    (∃ (x : Fin 1024) (ecc : Fin 4) (w : Nat) (s : State), (ecc ≠ 2) ∧ (Issues x 0x22 w s)) ∧
    (∃ (x : Fin 1024) (ecc : Fin 4) (w : Nat) (s : State), (ecc ≠ 2) ∧ (Issues x 0x23 w s)) ∧
    (∃ (x : Fin 1024) (ecc : Fin 4) (w : Nat) (s : State), (ecc ≠ 2) ∧ (Issues x 0x24 w s) ∧ (iD w = 0)) ∧
    (∃ (x : Fin 1024) (ecc : Fin 4) (w : Nat) (s : State), (ecc ≠ 2) ∧ (Issues x 0x25 w s) ∧ (iIMM w < 32)) ∧
    (∃ (x : Fin 1024) (ecc : Fin 4) (w : Nat) (s : State), (ecc ≠ 2) ∧ (Issues x 0x26 w s) ∧ (iIMM w < 32)) ∧
    (∃ (x : Fin 1024) (ecc : Fin 4) (w : Nat) (s : State), (ecc ≠ 2) ∧ (Issues x 0x27 w s) ∧ (iIMM w < 32)) ∧
    (∃ (x : Fin 1024) (ecc : Fin 4) (w : Nat) (s : State), (ecc ≠ 2) ∧ (Issues x 0x28 w s)) ∧
    (∃ (x : Fin 1024) (ecc : Fin 4) (w : Nat) (s : State), (ecc ≠ 2) ∧ (Issues x 0x29 w s) ∧ (iWIDE w < 65536)) :=
  ⟨⟨33, 1, (iw 0x14 3 1 2 0).toNat, upE (iw 0x14 3 1 2 0), by decide⟩,
    ⟨33, 1, (iw 0x15 3 1 2 0).toNat, upE (iw 0x15 3 1 2 0), by decide⟩,
    ⟨33, 1, (iw 0x16 3 1 2 0).toNat, upE (iw 0x16 3 1 2 0), by decide⟩,
    ⟨33, 1, (iw 0x17 3 1 2 0).toNat, upE (iw 0x17 3 1 2 0), by decide⟩,
    ⟨33, 1, (iw 0x18 3 1 2 0).toNat, upE (iw 0x18 3 1 2 0), by decide⟩,
    ⟨33, 1, (iw 0x19 3 1 0 0).toNat, upE (iw 0x19 3 1 0 0), by decide⟩,
    ⟨33, 1, (iw 0x20 3 1 3 300).toNat, upE (iw 0x20 3 1 3 300), by decide⟩,
    ⟨33, 1, (iw 0x21 3 1 3 300).toNat, upE (iw 0x21 3 1 3 300), by decide⟩,
    ⟨33, 1, (iw 0x22 3 1 3 300).toNat, upE (iw 0x22 3 1 3 300), by decide⟩,
    ⟨33, 1, (iw 0x23 3 1 3 300).toNat, upE (iw 0x23 3 1 3 300), by decide⟩,
    ⟨33, 1, (iw 0x24 0 1 3 300).toNat, upE (iw 0x24 0 1 3 300), by decide⟩,
    ⟨33, 1, (iw 0x25 3 1 31 0).toNat, upE (iw 0x25 3 1 31 0), by decide⟩,
    ⟨33, 1, (iw 0x26 3 1 31 0).toNat, upE (iw 0x26 3 1 31 0), by decide⟩,
    ⟨33, 1, (iw 0x27 3 1 31 0).toNat, upE (iw 0x27 3 1 31 0), by decide⟩,
    ⟨33, 1, (iw 0x28 3 1 3 300).toNat, upE (iw 0x28 3 1 3 300), by decide⟩,
    ⟨33, 1, (iw 0x29 3 1 3 7).toNat, upE (iw 0x29 3 1 3 7), by decide⟩⟩

theorem wit_LoadsAndStoresComplete :
    (∃ (x : Fin 1024) (ecc : Fin 4) (w : Nat) (s : State), (ecc ≠ 2) ∧ (ecc ≠ 3) ∧ (Issues x 0x30 w s) ∧ (dataAddr w (s.engine x.val) % 4 = 0) ∧ (dataAddr w (s.engine x.val) < 0x4000 ∨ isShared (dataAddr w (s.engine x.val)) = true)) ∧
    (∃ (x : Fin 1024) (ecc : Fin 4) (w : Nat) (s : State), (ecc ≠ 2) ∧ (ecc ≠ 3) ∧ (Issues x 0x31 w s) ∧ (dataAddr w (s.engine x.val) % 2 = 0) ∧ (dataAddr w (s.engine x.val) < 0x4000 ∨ isShared (dataAddr w (s.engine x.val)) = true)) ∧
    (∃ (x : Fin 1024) (ecc : Fin 4) (w : Nat) (s : State), (ecc ≠ 2) ∧ (ecc ≠ 3) ∧ (Issues x 0x32 w s) ∧ (dataAddr w (s.engine x.val) % 2 = 0) ∧ (dataAddr w (s.engine x.val) < 0x4000 ∨ isShared (dataAddr w (s.engine x.val)) = true)) ∧
    (∃ (x : Fin 1024) (ecc : Fin 4) (w : Nat) (s : State), (ecc ≠ 2) ∧ (ecc ≠ 3) ∧ (Issues x 0x33 w s) ∧ (dataAddr w (s.engine x.val) % 1 = 0) ∧ (dataAddr w (s.engine x.val) < 0x4000 ∨ isShared (dataAddr w (s.engine x.val)) = true)) ∧
    (∃ (x : Fin 1024) (ecc : Fin 4) (w : Nat) (s : State), (ecc ≠ 2) ∧ (ecc ≠ 3) ∧ (Issues x 0x34 w s) ∧ (dataAddr w (s.engine x.val) % 1 = 0) ∧ (dataAddr w (s.engine x.val) < 0x4000 ∨ isShared (dataAddr w (s.engine x.val)) = true)) ∧
    (∃ (x : Fin 1024) (ecc : Fin 4) (w : Nat) (s : State), (ecc ≠ 2) ∧ (Issues x 0x38 w s) ∧ (dataAddr w (s.engine x.val) % 4 = 0) ∧ (dataAddr w (s.engine x.val) < 0x4000 ∨ isShared (dataAddr w (s.engine x.val)) = true ∧ (s.engine x.val).buf < 4)) ∧
    (∃ (x : Fin 1024) (ecc : Fin 4) (w : Nat) (s : State), (ecc ≠ 2) ∧ (Issues x 0x39 w s) ∧ (dataAddr w (s.engine x.val) % 2 = 0) ∧ (dataAddr w (s.engine x.val) < 0x4000 ∨ isShared (dataAddr w (s.engine x.val)) = true ∧ (s.engine x.val).buf < 4)) ∧
    (∃ (x : Fin 1024) (ecc : Fin 4) (w : Nat) (s : State), (ecc ≠ 2) ∧ (Issues x 0x3A w s) ∧ (dataAddr w (s.engine x.val) % 1 = 0) ∧ (dataAddr w (s.engine x.val) < 0x4000 ∨ isShared (dataAddr w (s.engine x.val)) = true ∧ (s.engine x.val).buf < 4)) ∧
    (∃ (x : Fin 1024) (ecc : Fin 4) (w : Nat) (s : State), (ecc ≠ 2) ∧ (Issues x 0x38 w s) ∧ (dataAddr w (s.engine x.val) % 4 = 0) ∧ (isShared (dataAddr w (s.engine x.val)) = true) ∧ (4 ≤ (s.engine x.val).buf)) :=
  ⟨⟨33, 1, (iw 0x30 3 3 0 0).toNat, { up with arr := { engs := [(33, { engAt (iw 0x30 3 3 0 0) with dmem := [(0x10, 0x81), (0x11, 0xF2)], posted := [(0x10012, 0x99)] })], plots := [(1, { mem := [(0x10012, 7), (0x10013, 0x85)] })] } }, by decide⟩,
    ⟨33, 1, (iw 0x31 3 4 2 0).toNat, { up with arr := { engs := [(33, { engAt (iw 0x31 3 4 2 0) with dmem := [(0x10, 0x81), (0x11, 0xF2)], posted := [(0x10012, 0x99)] })], plots := [(1, { mem := [(0x10012, 7), (0x10013, 0x85)] })] } }, by decide⟩,
    ⟨33, 1, (iw 0x32 3 3 0 0).toNat, { up with arr := { engs := [(33, { engAt (iw 0x32 3 3 0 0) with dmem := [(0x10, 0x81), (0x11, 0xF2)], posted := [(0x10012, 0x99)] })], plots := [(1, { mem := [(0x10012, 7), (0x10013, 0x85)] })] } }, by decide⟩,
    ⟨33, 1, (iw 0x33 3 4 2 0).toNat, { up with arr := { engs := [(33, { engAt (iw 0x33 3 4 2 0) with dmem := [(0x10, 0x81), (0x11, 0xF2)], posted := [(0x10012, 0x99)] })], plots := [(1, { mem := [(0x10012, 7), (0x10013, 0x85)] })] } }, by decide⟩,
    ⟨33, 1, (iw 0x34 3 3 0 0).toNat, { up with arr := { engs := [(33, { engAt (iw 0x34 3 3 0 0) with dmem := [(0x10, 0x81), (0x11, 0xF2)], posted := [(0x10012, 0x99)] })], plots := [(1, { mem := [(0x10012, 7), (0x10013, 0x85)] })] } }, by decide⟩,
    ⟨33, 1, (iw 0x38 2 4 0 0).toNat, { up with arr := { engs := [(33, { engAt (iw 0x38 2 4 0 0) with dmem := [(0x10, 0x81), (0x11, 0xF2)], posted := [(0x10012, 0x99)] })], plots := [(1, { mem := [(0x10012, 7), (0x10013, 0x85)] })] } }, by decide⟩,
    ⟨33, 1, (iw 0x39 2 3 0 0).toNat, { up with arr := { engs := [(33, { engAt (iw 0x39 2 3 0 0) with dmem := [(0x10, 0x81), (0x11, 0xF2)], posted := [(0x10012, 0x99)] })], plots := [(1, { mem := [(0x10012, 7), (0x10013, 0x85)] })] } }, by decide⟩,
    ⟨33, 1, (iw 0x3A 2 3 0 0).toNat, { up with arr := { engs := [(33, { engAt (iw 0x3A 2 3 0 0) with dmem := [(0x10, 0x81), (0x11, 0xF2)], posted := [(0x10012, 0x99)] })], plots := [(1, { mem := [(0x10012, 7), (0x10013, 0x85)] })] } }, by decide⟩,
    ⟨33, 1, (iw 0x38 2 4 0 0).toNat, { up with arr := { engs := [(33, { engAt (iw 0x38 2 4 0 0) with buf := 4 })] } }, by decide⟩⟩

theorem wit_BranchAndLoopInstructionsComplete :
    (∃ (x : Fin 1024) (ecc : Fin 4) (w : Nat) (s : State), (ecc ≠ 2) ∧ (Issues x 0x40 w s) ∧ (0 ≤ ((s.engine x.val).pc : Int) + iOFF w) ∧ (((s.engine x.val).pc : Int) + iOFF w ≤ 1023) ∧ (iD w = 0) ∧ ((s.engine x.val).zf = true)) ∧
    (∃ (x : Fin 1024) (ecc : Fin 4) (w : Nat) (s : State), (ecc ≠ 2) ∧ (Issues x 0x40 w s) ∧ (0 ≤ ((s.engine x.val).pc : Int) + iOFF w) ∧ (((s.engine x.val).pc : Int) + iOFF w ≤ 1023) ∧ (iD w = 0) ∧ ¬ ((s.engine x.val).zf = true)) ∧
    (∃ (x : Fin 1024) (ecc : Fin 4) (w : Nat) (s : State), (ecc ≠ 2) ∧ (Issues x 0x41 w s) ∧ (0 ≤ ((s.engine x.val).pc : Int) + iOFF w) ∧ (((s.engine x.val).pc : Int) + iOFF w ≤ 1023) ∧ (iD w = 0) ∧ ((s.engine x.val).zf = false)) ∧
    (∃ (x : Fin 1024) (ecc : Fin 4) (w : Nat) (s : State), (ecc ≠ 2) ∧ (Issues x 0x41 w s) ∧ (0 ≤ ((s.engine x.val).pc : Int) + iOFF w) ∧ (((s.engine x.val).pc : Int) + iOFF w ≤ 1023) ∧ (iD w = 0) ∧ ¬ ((s.engine x.val).zf = false)) ∧
    (∃ (x : Fin 1024) (ecc : Fin 4) (w : Nat) (s : State), (ecc ≠ 2) ∧ (Issues x 0x42 w s) ∧ (0 ≤ ((s.engine x.val).pc : Int) + iOFF w) ∧ (((s.engine x.val).pc : Int) + iOFF w ≤ 1023) ∧ (iD w = 0) ∧ ((s.engine x.val).nf ≠ (s.engine x.val).vf)) ∧
    (∃ (x : Fin 1024) (ecc : Fin 4) (w : Nat) (s : State), (ecc ≠ 2) ∧ (Issues x 0x42 w s) ∧ (0 ≤ ((s.engine x.val).pc : Int) + iOFF w) ∧ (((s.engine x.val).pc : Int) + iOFF w ≤ 1023) ∧ (iD w = 0) ∧ ¬ ((s.engine x.val).nf ≠ (s.engine x.val).vf)) ∧
    (∃ (x : Fin 1024) (ecc : Fin 4) (w : Nat) (s : State), (ecc ≠ 2) ∧ (Issues x 0x43 w s) ∧ (0 ≤ ((s.engine x.val).pc : Int) + iOFF w) ∧ (((s.engine x.val).pc : Int) + iOFF w ≤ 1023) ∧ (iD w = 0) ∧ ((s.engine x.val).nf = (s.engine x.val).vf)) ∧
    (∃ (x : Fin 1024) (ecc : Fin 4) (w : Nat) (s : State), (ecc ≠ 2) ∧ (Issues x 0x43 w s) ∧ (0 ≤ ((s.engine x.val).pc : Int) + iOFF w) ∧ (((s.engine x.val).pc : Int) + iOFF w ≤ 1023) ∧ (iD w = 0) ∧ ¬ ((s.engine x.val).nf = (s.engine x.val).vf)) ∧
    (∃ (x : Fin 1024) (ecc : Fin 4) (w : Nat) (s : State), (ecc ≠ 2) ∧ (Issues x 0x44 w s) ∧ (0 ≤ ((s.engine x.val).pc : Int) + iOFF w) ∧ (((s.engine x.val).pc : Int) + iOFF w ≤ 1023) ∧ (iD w = 0) ∧ ((s.engine x.val).cf = true)) ∧
    (∃ (x : Fin 1024) (ecc : Fin 4) (w : Nat) (s : State), (ecc ≠ 2) ∧ (Issues x 0x44 w s) ∧ (0 ≤ ((s.engine x.val).pc : Int) + iOFF w) ∧ (((s.engine x.val).pc : Int) + iOFF w ≤ 1023) ∧ (iD w = 0) ∧ ¬ ((s.engine x.val).cf = true)) ∧
    (∃ (x : Fin 1024) (ecc : Fin 4) (w : Nat) (s : State), (ecc ≠ 2) ∧ (Issues x 0x45 w s) ∧ (0 ≤ ((s.engine x.val).pc : Int) + iOFF w) ∧ (((s.engine x.val).pc : Int) + iOFF w ≤ 1023) ∧ (iD w = 0) ∧ ((s.engine x.val).cf = false)) ∧
    (∃ (x : Fin 1024) (ecc : Fin 4) (w : Nat) (s : State), (ecc ≠ 2) ∧ (Issues x 0x45 w s) ∧ (0 ≤ ((s.engine x.val).pc : Int) + iOFF w) ∧ (((s.engine x.val).pc : Int) + iOFF w ≤ 1023) ∧ (iD w = 0) ∧ ¬ ((s.engine x.val).cf = false)) ∧
    (∃ (x : Fin 1024) (ecc : Fin 4) (w : Nat) (s : State), (ecc ≠ 2) ∧ (Issues x 0x46 w s) ∧ (0 ≤ ((s.engine x.val).pc : Int) + iOFF w) ∧ (((s.engine x.val).pc : Int) + iOFF w ≤ 1023) ∧ (iD w ≤ 11)) ∧
    (∃ (x : Fin 1024) (ecc : Fin 4) (w : Nat) (s : State), (ecc ≠ 2) ∧ (Issues x 0x47 w s) ∧ (0 ≤ ((s.engine x.val).pc : Int) + iOFF w) ∧ (((s.engine x.val).pc : Int) + iOFF w ≤ 1023) ∧ (iD w = 0)) ∧
    (∃ (x : Fin 1024) (ecc : Fin 4) (w : Nat) (s : State), (ecc ≠ 2) ∧ (Issues x 0x48 w s) ∧ (0 ≤ ((s.engine x.val).pc : Int) + iOFF w) ∧ (((s.engine x.val).pc : Int) + iOFF w ≤ 1023) ∧ (iD w = 0)) ∧
    (∃ (x : Fin 1024) (ecc : Fin 4) (w : Nat) (s : State), (ecc ≠ 2) ∧ (Issues x 0x49 w s) ∧ (iD w = 0) ∧ (iA w = 0) ∧ (iB w = 0) ∧ (iX w = 0)) ∧
    (∃ (x : Fin 1024) (ecc : Fin 4) (w : Nat) (s : State), (ecc ≠ 2) ∧ (Issues x 0x4A w s) ∧ (iD w = 0) ∧ (iB w = 0) ∧ (iX w = 0)) ∧
    (∃ (x : Fin 1024) (ecc : Fin 4) (w : Nat) (s : State), (ecc ≠ 2) ∧ (Issues x 0x4B w s) ∧ (iA w = 0) ∧ (iIMM w ≠ 0) ∧ ((s.engine x.val).pc + iIMM w ≤ 1023) ∧ (((s.engine x.val).gr (iD w)) = 0)) ∧
    (∃ (x : Fin 1024) (ecc : Fin 4) (w : Nat) (s : State), (ecc ≠ 2) ∧ (Issues x 0x4B w s) ∧ (iA w = 0) ∧ (iIMM w ≠ 0) ∧ ((s.engine x.val).pc + iIMM w ≤ 1023) ∧ (((s.engine x.val).gr (iD w)) ≠ 0) ∧ ((s.engine x.val).loops.length < 2)) :=
  ⟨⟨33, 1, (iw 0x40 0 6 0 0).toNat, { up with arr := { engs := [(33, { engAt (iw 0x40 0 6 0 0) with sflags := 0x100, lnk := 9, loops := [{ first := 4, last := 7, left := 3 }] })] } }, by decide⟩,
    ⟨33, 1, (iw 0x40 0 1 0 0).toNat, { up with arr := { engs := [(33, { engAt (iw 0x40 0 1 0 0) with sflags := 0x0, lnk := 9, loops := [{ first := 4, last := 7, left := 3 }] })] } }, by decide⟩,
    ⟨33, 1, (iw 0x41 0 6 0 0).toNat, { up with arr := { engs := [(33, { engAt (iw 0x41 0 6 0 0) with sflags := 0x0, lnk := 9, loops := [{ first := 4, last := 7, left := 3 }] })] } }, by decide⟩,
    ⟨33, 1, (iw 0x41 0 1 0 0).toNat, { up with arr := { engs := [(33, { engAt (iw 0x41 0 1 0 0) with sflags := 0x100, lnk := 9, loops := [{ first := 4, last := 7, left := 3 }] })] } }, by decide⟩,
    ⟨33, 1, (iw 0x42 0 6 0 0).toNat, { up with arr := { engs := [(33, { engAt (iw 0x42 0 6 0 0) with sflags := 0x200, lnk := 9, loops := [{ first := 4, last := 7, left := 3 }] })] } }, by decide⟩,
    ⟨33, 1, (iw 0x42 0 1 0 0).toNat, { up with arr := { engs := [(33, { engAt (iw 0x42 0 1 0 0) with sflags := 0x0, lnk := 9, loops := [{ first := 4, last := 7, left := 3 }] })] } }, by decide⟩,
    ⟨33, 1, (iw 0x43 0 6 0 0).toNat, { up with arr := { engs := [(33, { engAt (iw 0x43 0 6 0 0) with sflags := 0xa00, lnk := 9, loops := [{ first := 4, last := 7, left := 3 }] })] } }, by decide⟩,
    ⟨33, 1, (iw 0x43 0 1 0 0).toNat, { up with arr := { engs := [(33, { engAt (iw 0x43 0 1 0 0) with sflags := 0x200, lnk := 9, loops := [{ first := 4, last := 7, left := 3 }] })] } }, by decide⟩,
    ⟨33, 1, (iw 0x44 0 6 0 0).toNat, { up with arr := { engs := [(33, { engAt (iw 0x44 0 6 0 0) with sflags := 0x400, lnk := 9, loops := [{ first := 4, last := 7, left := 3 }] })] } }, by decide⟩,
    ⟨33, 1, (iw 0x44 0 1 0 0).toNat, { up with arr := { engs := [(33, { engAt (iw 0x44 0 1 0 0) with sflags := 0x0, lnk := 9, loops := [{ first := 4, last := 7, left := 3 }] })] } }, by decide⟩,
    ⟨33, 1, (iw 0x45 0 6 0 0).toNat, { up with arr := { engs := [(33, { engAt (iw 0x45 0 6 0 0) with sflags := 0x0, lnk := 9, loops := [{ first := 4, last := 7, left := 3 }] })] } }, by decide⟩,
    ⟨33, 1, (iw 0x45 0 1 0 0).toNat, { up with arr := { engs := [(33, { engAt (iw 0x45 0 1 0 0) with sflags := 0x400, lnk := 9, loops := [{ first := 4, last := 7, left := 3 }] })] } }, by decide⟩,
    ⟨33, 1, (iw 0x46 11 6 0 0).toNat, { up with arr := { engs := [(33, { engAt (iw 0x46 11 6 0 0) with sflags := 0x800, lnk := 9, loops := [{ first := 4, last := 7, left := 3 }] })] } }, by decide⟩,
    ⟨33, 1, (iw 0x47 0 1 0 0).toNat, { up with arr := { engs := [(33, { engAt (iw 0x47 0 1 0 0) with sflags := 0, lnk := 9, loops := [{ first := 4, last := 7, left := 3 }] })] } }, by decide⟩,
    ⟨33, 1, (iw 0x48 0 1 0 0).toNat, { up with arr := { engs := [(33, { engAt (iw 0x48 0 1 0 0) with sflags := 0, lnk := 9, loops := [{ first := 4, last := 7, left := 3 }] })] } }, by decide⟩,
    ⟨33, 1, (iw 0x49 0 0 0 0).toNat, { up with arr := { engs := [(33, { engAt (iw 0x49 0 0 0 0) with sflags := 0, lnk := 9, loops := [{ first := 4, last := 7, left := 3 }] })] } }, by decide⟩,
    ⟨33, 1, (iw 0x4A 0 3 0 0).toNat, { up with arr := { engs := [(33, { engAt (iw 0x4A 0 3 0 0) with sflags := 0, lnk := 9, loops := [{ first := 4, last := 7, left := 3 }] })] } }, by decide⟩,
    ⟨33, 1, (iw 0x4B 9 0 6 0).toNat, { up with arr := { engs := [(33, { engAt (iw 0x4B 9 0 6 0) with sflags := 0, lnk := 9, loops := [{ first := 4, last := 7, left := 3 }] })] } }, by decide⟩,
    ⟨33, 1, (iw 0x4B 3 0 6 0).toNat, { up with arr := { engs := [(33, { engAt (iw 0x4B 3 0 6 0) with sflags := 0, lnk := 9, loops := [{ first := 4, last := 7, left := 3 }] })] } }, by decide⟩⟩

theorem wit_AccumulatorAndOscillatorInstructionsComplete :
    (∃ (x : Fin 1024) (ecc : Fin 4) (w : Nat) (s : State), (ecc ≠ 2) ∧ (Issues x 0x50 w s) ∧ (iX w = 0) ∧ (iD w ≤ 1)) ∧
    (∃ (x : Fin 1024) (ecc : Fin 4) (w : Nat) (s : State), (ecc ≠ 2) ∧ (Issues x 0x51 w s) ∧ (iX w = 0) ∧ (iD w ≤ 1)) ∧
    (∃ (x : Fin 1024) (ecc : Fin 4) (w : Nat) (s : State), (ecc ≠ 2) ∧ (Issues x 0x52 w s) ∧ (iX w = 0)) ∧
    (∃ (x : Fin 1024) (ecc : Fin 4) (w : Nat) (s : State), (ecc ≠ 2) ∧ (Issues x 0x53 w s) ∧ (iX w = 0)) ∧
    (∃ (x : Fin 1024) (ecc : Fin 4) (w : Nat) (s : State), (ecc ≠ 2) ∧ (Issues x 0x54 w s) ∧ (iX w = 0) ∧ (iD w ≤ 3)) ∧
    (∃ (x : Fin 1024) (ecc : Fin 4) (w : Nat) (s : State), (ecc ≠ 2) ∧ (Issues x 0x55 w s) ∧ (iX w = 0) ∧ (iD w ≤ 3)) ∧
    (∃ (x : Fin 1024) (ecc : Fin 4) (w : Nat) (s : State), (ecc ≠ 2) ∧ (Issues x 0x56 w s) ∧ (iX w = 0) ∧ (iA w = 0) ∧ (iB w = 0) ∧ (iD w ≤ 15)) ∧
    (∃ (x : Fin 1024) (ecc : Fin 4) (w : Nat) (s : State), (ecc ≠ 2) ∧ (Issues x 0x57 w s) ∧ (iX w ≤ 63) ∧ (iA w ≤ 3) ∧ (iB w = 0)) ∧
    (∃ (x : Fin 1024) (ecc : Fin 4) (w : Nat) (s : State), (ecc ≠ 2) ∧ (Issues x 0x58 w s) ∧ (iX w ≤ 48) ∧ (iA w ≤ 3) ∧ (iB w = 0)) ∧
    (∃ (x : Fin 1024) (ecc : Fin 4) (w : Nat) (s : State), (ecc ≠ 2) ∧ (Issues x 0x59 w s) ∧ (iX w ≤ 48) ∧ (iD w ≤ 3) ∧ (iB w = 0)) ∧
    (∃ (x : Fin 1024) (ecc : Fin 4) (w : Nat) (s : State), (ecc ≠ 2) ∧ (Issues x 0x60 w s) ∧ (iX w = 0)) ∧
    (∃ (x : Fin 1024) (ecc : Fin 4) (w : Nat) (s : State), (ecc ≠ 2) ∧ (Issues x 0x61 w s) ∧ (iX w = 0) ∧ (iD w = 0) ∧ (iB w = 0)) ∧
    (∃ (x : Fin 1024) (ecc : Fin 4) (w : Nat) (s : State), (ecc ≠ 2) ∧ (Issues x 0x62 w s) ∧ (iX w = 0) ∧ (iA w = 0) ∧ (iB w = 0)) ∧
    (∃ (x : Fin 1024) (ecc : Fin 4) (w : Nat) (s : State), (ecc ≠ 2) ∧ (Issues x 0x63 w s) ∧ (iX w = 0) ∧ (iA w = 0) ∧ (iB w = 0)) :=
  ⟨⟨33, 1, (iw 0x50 1 1 2 0).toNat, upE (iw 0x50 1 1 2 0), by decide⟩,
    ⟨33, 1, (iw 0x51 1 1 2 0).toNat, upE (iw 0x51 1 1 2 0), by decide⟩,
    ⟨33, 1, (iw 0x52 4 1 2 0).toNat, upE (iw 0x52 4 1 2 0), by decide⟩,
    ⟨33, 1, (iw 0x53 4 1 2 0).toNat, upE (iw 0x53 4 1 2 0), by decide⟩,
    ⟨33, 1, (iw 0x54 2 1 2 0).toNat, upE (iw 0x54 2 1 2 0), by decide⟩,
    ⟨33, 1, (iw 0x55 2 1 2 0).toNat, upE (iw 0x55 2 1 2 0), by decide⟩,
    ⟨33, 1, (iw 0x56 3 0 0 0).toNat, upE (iw 0x56 3 0 0 0), by decide⟩,
    ⟨33, 1, (iw 0x57 3 1 0 3).toNat, upE (iw 0x57 3 1 0 3), by decide⟩,
    ⟨33, 1, (iw 0x58 3 1 0 3).toNat, upE (iw 0x58 3 1 0 3), by decide⟩,
    ⟨33, 1, (iw 0x59 3 1 0 3).toNat, upE (iw 0x59 3 1 0 3), by decide⟩,
    ⟨33, 1, (iw 0x60 3 1 2 0).toNat, { up with arr := { engs := [(33, { engAt (iw 0x60 3 1 2 0) with inc := 12345, ph := 99 })] } }, by decide⟩,
    ⟨33, 1, (iw 0x61 0 1 0 0).toNat, { up with arr := { engs := [(33, { engAt (iw 0x61 0 1 0 0) with inc := 12345, ph := 99 })] } }, by decide⟩,
    ⟨33, 1, (iw 0x62 3 0 0 0).toNat, { up with arr := { engs := [(33, { engAt (iw 0x62 3 0 0 0) with inc := 12345, ph := 99 })] } }, by decide⟩,
    ⟨33, 1, (iw 0x63 3 0 0 0).toNat, { up with arr := { engs := [(33, { engAt (iw 0x63 3 0 0 0) with inc := 12345, ph := 99 })] } }, by decide⟩⟩

theorem wit_PortAndSpecialRegisterInstructionsComplete :
    (∃ (x : Fin 1024) (ecc : Fin 4) (w : Nat) (i : Nat) (b : Bool) (v : Word) (r : List (Bool × Word)) (s : State), (ecc ≠ 2) ∧ (Issues x 0x68 w s) ∧ (iX w = 0) ∧ (iB w = 0) ∧ (iA w = i) ∧ (i ≤ 1) ∧ (((s.engine x.val).bound i).isSome = true) ∧ ((s.engine x.val).queue i = (b, v) :: r)) ∧
    (∃ (x : Fin 1024) (ecc : Fin 4) (w : Nat) (i : Nat) (s : State), (ecc ≠ 2) ∧ (Issues x 0x68 w s) ∧ (iX w = 0) ∧ (iB w = 0) ∧ (iA w = i) ∧ (i ≤ 1) ∧ (((s.engine x.val).bound i).isSome = true) ∧ ((s.engine x.val).queue i = [])) ∧
    (∃ (x : Fin 1024) (ecc : Fin 4) (w : Nat) (i : Nat) (b : Bool) (v : Word) (r : List (Bool × Word)) (s : State), (ecc ≠ 2) ∧ (Issues x 0x69 w s) ∧ (iX w = 0) ∧ (iB w = 0) ∧ (iA w = i) ∧ (i ≤ 1) ∧ (((s.engine x.val).bound i).isSome = true) ∧ (((s.engine x.val).dec i).held = none) ∧ ((s.engine x.val).queue i = (b, v) :: r)) ∧
    (∃ (x : Fin 1024) (ecc : Fin 4) (w : Nat) (i : Nat) (s : State), (ecc ≠ 2) ∧ (Issues x 0x69 w s) ∧ (iX w = 0) ∧ (iB w = 0) ∧ (iA w = i) ∧ (i ≤ 1) ∧ (((s.engine x.val).bound i).isSome = true) ∧ ((s.engine x.val).queue i = [])) ∧
    (∃ (x : Fin 1024) (ecc : Fin 4) (w : Nat) (i : Nat) (s : State), (ecc ≠ 2) ∧ (Issues x 0x6A w s) ∧ (iX w = 0) ∧ (iB w = 0) ∧ (iA w = i) ∧ (i ≤ 1) ∧ (((s.engine x.val).bound i).isSome = true)) ∧
    (∃ (x : Fin 1024) (ecc : Fin 4) (w : Nat) (s : State), (ecc ≠ 2) ∧ (Issues x 0x6B w s) ∧ (iX w = 0) ∧ (iB w = 0) ∧ (iD w = 0) ∧ ((s.engine x.val).out.length < 512) ∧ ((s.engine x.val).fill < 64) ∧ ((s.engine x.val).bout.isSome = true)) ∧
    (∃ (x : Fin 1024) (ecc : Fin 4) (w : Nat) (s : State), (ecc ≠ 2) ∧ (Issues x 0x6C w s) ∧ (iX w = 0) ∧ (iB w = 0) ∧ (iD w = 0) ∧ ((s.engine x.val).out.length < 512) ∧ ((s.engine x.val).fill < 64) ∧ ((s.engine x.val).bout.isSome = true) ∧ ((s.engine x.val).mute = true)) ∧
    (∃ (x : Fin 1024) (ecc : Fin 4) (w : Nat) (i : Nat) (s : State), (ecc ≠ 2) ∧ (Issues x 0x6C w s) ∧ (iX w = 0) ∧ (iB w = 0) ∧ (iD w = 0) ∧ ((s.engine x.val).out.length < 512) ∧ ((s.engine x.val).fill < 64) ∧ ((s.engine x.val).bout = some i) ∧ ((s.engine x.val).mute = false) ∧ (entOn (s.pubW0 (s.plotParcel (x.val / 32)) i) = true) ∧ (s.pubW1 (s.plotParcel (x.val / 32)) i = 0)) ∧
    (∃ (x : Fin 1024) (ecc : Fin 4) (w : Nat) (s : State), (ecc ≠ 2) ∧ (Issues x 0x6B w s) ∧ (iX w = 0) ∧ (iB w = 0) ∧ (iD w = 0) ∧ ((s.engine x.val).out.length < 512) ∧ (64 ≤ (s.engine x.val).fill) ∧ ((s.engine x.val).bout.isSome = true)) ∧
    (∃ (x : Fin 1024) (ecc : Fin 4) (w : Nat) (s : State), (ecc ≠ 2) ∧ (Issues x 0x70 w s) ∧ (iX w = 0) ∧ (iA w = 0) ∧ (iB w ≤ 17) ∧ (iB w ∉ [3, 4, 5, 6, 8, 9, 10, 11])) ∧
    (∃ (x : Fin 1024) (ecc : Fin 4) (w : Nat) (s : State), (ecc ≠ 2) ∧ (Issues x 0x70 w s) ∧ (iX w = 0) ∧ (iA w = 0) ∧ (iB w = 8)) ∧
    (∃ (x : Fin 1024) (ecc : Fin 4) (w : Nat) (s : State), (ecc ≠ 2) ∧ (Issues x 0x70 w s) ∧ (iX w = 0) ∧ (iA w = 0) ∧ (iB w = 10)) ∧
    (∃ (x : Fin 1024) (ecc : Fin 4) (w : Nat) (s : State), (ecc ≠ 2) ∧ (Issues x 0x70 w s) ∧ (iX w = 0) ∧ (iA w = 0) ∧ (iB w ∈ [4, 6, 9, 11]) ∧ (Smap.get (fun _ => 2 ^ 32) (s.engine x.val).latch (iB w) < 2 ^ 32)) ∧
    (∃ (x : Fin 1024) (ecc : Fin 4) (w : Nat) (s : State), (ecc ≠ 2) ∧ (Issues x 0x70 w s) ∧ (iX w = 0) ∧ (iA w = 0) ∧ (iB w = 3)) ∧
    (∃ (x : Fin 1024) (ecc : Fin 4) (w : Nat) (s : State), (ecc ≠ 2) ∧ (Issues x 0x70 w s) ∧ (iX w = 0) ∧ (iA w = 0) ∧ (iB w = 5) ∧ (s.epoch + 1 < 2 ^ 63)) ∧
    (∃ (x : Fin 1024) (ecc : Fin 4) (w : Nat) (s : State), (ecc ≠ 2) ∧ (Issues x 0x71 w s) ∧ (iX w = 0) ∧ (iB w = 0) ∧ (iD w = 7) ∧ ((s.ga x w).toNat < 4096)) ∧
    (∃ (x : Fin 1024) (ecc : Fin 4) (w : Nat) (s : State), (ecc ≠ 2) ∧ (Issues x 0x71 w s) ∧ (iX w = 0) ∧ (iB w = 0) ∧ (iD w = 14)) ∧
    (∃ (x : Fin 1024) (ecc : Fin 4) (w : Nat) (s : State), (ecc ≠ 2) ∧ (Issues x 0x71 w s) ∧ (iX w = 0) ∧ (iB w = 0) ∧ (iD w = 17)) ∧
    (∃ (x : Fin 1024) (ecc : Fin 4) (w : Nat) (s : State), (ecc ≠ 2) ∧ (Issues x 0x71 w s) ∧ (iX w = 0) ∧ (iB w = 0) ∧ (iD w = 8)) ∧
    (∃ (x : Fin 1024) (ecc : Fin 4) (w : Nat) (s : State), (ecc ≠ 2) ∧ (Issues x 0x71 w s) ∧ (iX w = 0) ∧ (iB w = 0) ∧ (iD w = 10)) ∧
    (∃ (x : Fin 1024) (ecc : Fin 4) (w : Nat) (s : State), (ecc ≠ 2) ∧ (Issues x 0x71 w s) ∧ (iX w = 0) ∧ (iB w = 0) ∧ (iD w = 9)) ∧
    (∃ (x : Fin 1024) (ecc : Fin 4) (w : Nat) (s : State), (ecc ≠ 2) ∧ (Issues x 0x71 w s) ∧ (iX w = 0) ∧ (iB w = 0) ∧ (iD w = 11)) :=
  ⟨⟨33, 1, (iw 0x68 3 0 0 0).toNat, 0, true, 7, [(false, 8)], { up with arr := { engs := [(33, { engAt (iw 0x68 3 0 0 0) with bin0 := some 2, q0 := [(true, 7), (false, 8)], bout := some 1 })] } }, by decide⟩,
    ⟨33, 1, (iw 0x68 3 0 0 0).toNat, 0, { up with arr := { engs := [(33, { engAt (iw 0x68 3 0 0 0) with bin0 := some 2 })] } }, by decide⟩,
    ⟨33, 1, (iw 0x69 3 0 0 0).toNat, 0, true, 7, [(false, 8)], { up with arr := { engs := [(33, { engAt (iw 0x69 3 0 0 0) with bin0 := some 2, q0 := [(true, 7), (false, 8)], bout := some 1, sflags := 4 })] } }, by decide⟩,
    ⟨33, 1, (iw 0x69 3 0 0 0).toNat, 0, { up with arr := { engs := [(33, { engAt (iw 0x69 3 0 0 0) with bin0 := some 2 })] } }, by decide⟩,
    ⟨33, 1, (iw 0x6A 3 0 0 0).toNat, 0, { up with arr := { engs := [(33, { engAt (iw 0x6A 3 0 0 0) with bin0 := some 2, q0 := [(true, 7), (false, 8)], bout := some 1 })] } }, by decide⟩,
    ⟨33, 1, (iw 0x6B 0 1 0 0).toNat, { up with arr := { engs := [(33, { engAt (iw 0x6B 0 1 0 0) with bin0 := some 2, q0 := [(true, 7), (false, 8)], bout := some 1 })] } }, by decide⟩,
    ⟨33, 1, (iw 0x6C 0 1 0 0).toNat, { up with arr := { engs := [(33, { engAt (iw 0x6C 0 1 0 0) with bin0 := some 2, q0 := [(true, 7), (false, 8)], bout := some 1, mute := true, out := [5], isOpen := true })] } }, by decide⟩,
    ⟨33, 1, (iw 0x6C 0 1 0 0).toNat, 1, { upR [(R.FAB_PUB 0 1 0, 0x02000000)] with arr := { engs := [(33, { engAt (iw 0x6C 0 1 0 0) with bout := some 1, out := [5], isOpen := true })] } }, by decide⟩,
    ⟨33, 1, (iw 0x6B 0 1 0 0).toNat, { up with arr := { engs := [(33, { engAt (iw 0x6B 0 1 0 0) with bout := some 1, fill := 64 })] } }, by decide⟩,
    ⟨33, 1, (iw 0x70 3 0 14 0).toNat, { up with arr := { engs := [(33, { engAt (iw 0x70 3 0 14 0) with inc := 0x123456789ABC, ph := 77, lnk := 9, wdog := 100, drop1 := 3 })] } }, by decide⟩,
    ⟨33, 1, (iw 0x70 3 0 8 0).toNat, { up with arr := { engs := [(33, { engAt (iw 0x70 3 0 8 0) with inc := 0x123456789ABC, ph := 77, lnk := 9, wdog := 100, drop1 := 3 })] } }, by decide⟩,
    ⟨33, 1, (iw 0x70 3 0 10 0).toNat, { up with arr := { engs := [(33, { engAt (iw 0x70 3 0 10 0) with inc := 0x123456789ABC, ph := 77, lnk := 9, wdog := 100, drop1 := 3 })] } }, by decide⟩,
    ⟨33, 1, (iw 0x70 3 0 4 0).toNat, { up with arr := { engs := [(33, { engAt (iw 0x70 3 0 4 0) with latch := [(4, 99)] })] } }, by decide⟩,
    ⟨33, 1, (iw 0x70 3 0 3 0).toNat, { up with arr := { engs := [(33, { engAt (iw 0x70 3 0 3 0) with cyc := 700 })] } }, by decide⟩,
    ⟨33, 1, (iw 0x70 3 0 5 0).toNat, { up with arr := { engs := [(33, { engAt (iw 0x70 3 0 5 0) with inc := 0x123456789ABC, ph := 77, lnk := 9, wdog := 100, drop1 := 3 })] } }, by decide⟩,
    ⟨33, 1, (iw 0x71 7 3 0 0).toNat, { up with arr := { engs := [(33, { engAt (iw 0x71 7 3 0 0) with inc := 0x123456789ABC, ph := 77, lnk := 9, wdog := 100, drop1 := 3 })] } }, by decide⟩,
    ⟨33, 1, (iw 0x71 14 3 0 0).toNat, { up with arr := { engs := [(33, { engAt (iw 0x71 14 3 0 0) with inc := 0x123456789ABC, ph := 77, lnk := 9, wdog := 100, drop1 := 3 })] } }, by decide⟩,
    ⟨33, 1, (iw 0x71 17 3 0 0).toNat, { up with arr := { engs := [(33, { engAt (iw 0x71 17 3 0 0) with inc := 0x123456789ABC, ph := 77, lnk := 9, wdog := 100, drop1 := 3 })] } }, by decide⟩,
    ⟨33, 1, (iw 0x71 8 3 0 0).toNat, { up with arr := { engs := [(33, { engAt (iw 0x71 8 3 0 0) with inc := 0x123456789ABC, ph := 77, lnk := 9, wdog := 100, drop1 := 3 })] } }, by decide⟩,
    ⟨33, 1, (iw 0x71 10 3 0 0).toNat, { up with arr := { engs := [(33, { engAt (iw 0x71 10 3 0 0) with inc := 0x123456789ABC, ph := 77, lnk := 9, wdog := 100, drop1 := 3 })] } }, by decide⟩,
    ⟨33, 1, (iw 0x71 9 3 0 0).toNat, { up with arr := { engs := [(33, { engAt (iw 0x71 9 3 0 0) with inc := 0x123456789ABC, ph := 77, lnk := 9, wdog := 100, drop1 := 3 })] } }, by decide⟩,
    ⟨33, 1, (iw 0x71 11 3 0 0).toNat, { up with arr := { engs := [(33, { engAt (iw 0x71 11 3 0 0) with inc := 0x123456789ABC, ph := 77, lnk := 9, wdog := 100, drop1 := 3 })] } }, by decide⟩⟩

theorem wit_WaitingStoppingAndDmaInstructionsComplete :
    (∃ (x : Fin 1024) (ecc : Fin 4) (w : Nat) (s : State), (ecc ≠ 2) ∧ (Issues x 0x72 w s) ∧ (iX w = 0) ∧ (iB w = 0) ∧ ((s.ga x w).toNat % 16 = 0) ∧ (isShared (s.ga x w).toNat = true) ∧ (s.capFit = true) ∧ ((s.plot (x.val / 32)).dma.length < 16)) ∧
    (∃ (x : Fin 1024) (ecc : Fin 4) (w : Nat) (s : State), (ecc ≠ 2) ∧ (Issues x 0x72 w s) ∧ (iX w = 0) ∧ (iB w = 0) ∧ ((s.ga x w).toNat % 16 = 0) ∧ (isShared (s.ga x w).toNat = true) ∧ (s.capFit = true) ∧ (16 ≤ (s.plot (x.val / 32)).dma.length)) ∧
    (∃ (x : Fin 1024) (ecc : Fin 4) (w : Nat) (s : State), (ecc ≠ 2) ∧ (Issues x 0x72 w s) ∧ (iX w = 0) ∧ (iB w = 0) ∧ ((s.ga x w).toNat % 16 = 0) ∧ (isShared (s.ga x w).toNat = true) ∧ (s.capFit = false)) ∧
    (∃ (x : Fin 1024) (ecc : Fin 4) (w : Nat) (s : State), (ecc ≠ 2) ∧ (Issues x 0x73 w s) ∧ (iD w = 0) ∧ (iA w = 0) ∧ (iB w = 0) ∧ (iX w = 0)) ∧
    (∃ (x : Fin 1024) (y : Fin 1024) (ecc : Fin 4) (w : Nat) (s : State), (ecc ≠ 2) ∧ (Issues x 0x74 w s) ∧ (iD w = 0) ∧ (iA w = 0) ∧ (iB w = 0) ∧ (iX w = 0) ∧ (y ≠ x) ∧ (y.val / 32 = x.val / 32) ∧ ((s.engine y.val).inst = (s.engine x.val).inst) ∧ ((s.engine y.val).key ≠ 0) ∧ ((s.engine y.val).st = esRUNNING) ∧ ((s.engine y.val).stall ≠ 4)) ∧
    (∃ (x : Fin 1024) (ecc : Fin 4) (w : Nat) (s : State), (ecc ≠ 2) ∧ (Issues x 0x74 w s) ∧ (iD w = 0) ∧ (iA w = 0) ∧ (iB w = 0) ∧ (iX w = 0) ∧ ((s.engine x.val).key ≠ 0) ∧ (∀ y ∈ s.mates x, (y ≠ x.val → (s.engine y).st = esRUNNING ∧ (s.engine y).stall = 4))) ∧
    (∃ (x : Fin 1024) (ecc : Fin 4) (w : Nat) (s : State), (ecc ≠ 2) ∧ (Issues x 0x75 w s) ∧ (iD w = 0) ∧ (iA w = 0) ∧ (iB w = 0) ∧ (iX w = 0) ∧ (hasDesc s x.val = false)) ∧
    (∃ (x : Fin 1024) (ecc : Fin 4) (w : Nat) (s : State), (ecc ≠ 2) ∧ (Issues x 0x75 w s) ∧ (iD w = 0) ∧ (iA w = 0) ∧ (iB w = 0) ∧ (iX w = 0) ∧ (hasDesc s x.val = true)) ∧
    (∃ (x : Fin 1024) (ecc : Fin 4) (w : Nat) (s : State), (ecc ≠ 2) ∧ (Issues x 0x76 w s) ∧ (iD w = 0) ∧ (iA w = 0) ∧ (iB w = 0) ∧ (iX w = 0)) ∧
    (∃ (x : Fin 1024) (ecc : Fin 4) (w : Nat) (s : State), (ecc ≠ 2) ∧ (Issues x 0x77 w s) ∧ (iD w = 0) ∧ (iA w = 0) ∧ (iB w = 0) ∧ (iX w = 0)) ∧
    (∃ (x : Fin 1024) (ecc : Fin 4) (w : Nat) (s : State), (ecc ≠ 2) ∧ (Issues x 0x78 w s) ∧ (iD w = 0) ∧ (iA w = 0) ∧ (iB w = 0) ∧ (iX w = 0) ∧ ((s.engine x.val).pc < 1024)) ∧
    (∃ (x : Fin 1024) (w : Nat) (s : State), ((s.engine x.val).st = esRUNNING) ∧ ((s.engine x.val).stall = 1) ∧ ((Smap.get (fun _ => (0 : Word)) (s.engine x.val).imem (s.engine x.val).pc).toNat = w) ∧ ((s.engine x.val).queue (iA w) ≠ [])) ∧
    (∃ (x : Fin 1024) (s : State), ((s.engine x.val).st = esRUNNING) ∧ ((s.engine x.val).stall = 2) ∧ (portAccepts s x.val (s.engine x.val) = true)) ∧
    (∃ (x : Fin 1024) (s : State), ((s.engine x.val).st = esRUNNING) ∧ ((s.engine x.val).stall = 8)) ∧
    (∃ (x : Fin 1024) (s : State), ((s.engine x.val).st = esRUNNING) ∧ ((s.engine x.val).stall = 3) ∧ ((s.engine x.val).wake = true)) ∧
    (∃ (x : Fin 1024) (s : State), ((s.engine x.val).st = esRUNNING) ∧ ((s.engine x.val).stall = 5) ∧ (hasDesc s x.val = false)) ∧
    (∃ (x : Fin 1024) (s : State), ((s.engine x.val).st = esRUNNING) ∧ ((s.engine x.val).stall = 6)) ∧
    (∃ (x : Fin 1024) (s : State), ((s.engine x.val).st = esRUNNING) ∧ (wdogDue s (s.engine x.val) = true) ∧ ((s.engine x.val).boundary.pc < 1024)) :=
  ⟨⟨33, 1, (iw 0x72 2 1 0 0).toNat, { up with arr := { engs := [(33, { engAt (iw 0x72 2 1 0 0) with g := [(1, 0x10040)] })] } }, by decide⟩,
    ⟨33, 1, (iw 0x72 2 1 0 0).toNat, { up with arr := { engs := [(33, { engAt (iw 0x72 2 1 0 0) with g := [(1, 0x10040)] })], plots := [(1, { dma := List.replicate 16 {} })] } }, by decide⟩,
    ⟨33, 1, (iw 0x72 2 1 0 0).toNat, { up with arr := { engs := [(33, { engAt (iw 0x72 2 1 0 0) with g := [(1, 0x10040)] })] }, variant := .jx4810 }, by decide⟩,
    ⟨33, 1, (iw 0x73 0 0 0 0).toNat, upE (iw 0x73 0 0 0 0), by decide⟩,
    ⟨33, 34, 1, (iw 0x74 0 0 0 0).toNat, { up with arr := { engs := [(33, { engAt (iw 0x74 0 0 0 0) with key := 1 }), (34, { st := 3, key := 1 })] } }, by decide⟩,
    ⟨33, 1, (iw 0x74 0 0 0 0).toNat, { up with arr := { engs := [(33, { engAt (iw 0x74 0 0 0 0) with key := 1 }), (34, { st := 3, key := 1, stall := 4 })] } }, by decide⟩,
    ⟨33, 1, (iw 0x75 0 0 0 0).toNat, { up with arr := { engs := [(33, { engAt (iw 0x75 0 0 0 0) with posted := [(0x10001, 9), (0x10001, 8)] })] } }, by decide⟩,
    ⟨33, 1, (iw 0x75 0 0 0 0).toNat, { up with arr := { engs := [(33, { engAt (iw 0x75 0 0 0 0) with posted := [] })], plots := [(1, { dma := [{ eng := 33 }] })] } }, by decide⟩,
    ⟨33, 1, (iw 0x76 0 0 0 0).toNat, upE (iw 0x76 0 0 0 0), by decide⟩,
    ⟨33, 1, (iw 0x77 0 0 0 0).toNat, { up with arr := { engs := [(33, { engAt (iw 0x77 0 0 0 0) with isOpen := true, out := [4], bout := some 1 })] } }, by decide⟩,
    ⟨33, 1, (iw 0x78 0 0 0 0).toNat, upE (iw 0x78 0 0 0 0), by decide⟩,
    ⟨33, 0x68, { up with arr := { engs := [(33, { engAt 0x68 with stall := 1, q0 := [(true, 1)] })] } }, by decide⟩,
    ⟨33, { up with arr := { engs := [(33, { engAt 0x68 with stall := 2, fill := 64 })] } }, by decide⟩,
    ⟨33, { up with arr := { engs := [(33, { engAt 0x68 with stall := 8, buf := 4 })] } }, by decide⟩,
    ⟨33, { up with arr := { engs := [(33, { engAt 0x68 with stall := 3, wake := true })] } }, by decide⟩,
    ⟨33, { up with arr := { engs := [(33, { engAt 0x68 with stall := 5, posted := [(0x10001, 9)] })] } }, by decide⟩,
    ⟨33, { up with arr := { engs := [(33, { engAt 0x68 with stall := 6, barx := true })] } }, by decide⟩,
    ⟨33, { up with arr := { engs := [(33, { engAt 0x68 with wdog := 100, stall := 3 })] }, now := 200000 }, by decide⟩⟩

theorem wit_DmaTransfersAndStreamFramesTakeEffect :
    (∃ (p : Fin 32) (ecc : Fin 3) (d : Desc) (r : List Desc) (f : Bool × Nat × Nat × Nat) (s : State), ((s.plot p.val).dma = d :: r) ∧ (d.running = false) ∧ (drcReached s p.val = true) ∧ (ecc ≠ 2) ∧ (descFields s d = some f) ∧ (capServes s = true) ∧ (s.arr.loads = [])) ∧
    (∃ (p : Fin 32) (ecc : Fin 3) (d : Desc) (r : List Desc) (s : State), ((s.plot p.val).dma = d :: r) ∧ (d.running = false) ∧ (d.eng / 32 = p.val) ∧ (r.length < 16) ∧ (drcReached s p.val = true) ∧ (ecc = 2 ∨ descFields s d = none ∨ capServes s = false) ∧ (s.arr.loads = [])) ∧
    (∃ (p : Fin 32) (cor : Nat) (d : Desc) (r : List Desc) (len : Nat) (sh : Nat) (ca : Nat) (s : State), ((s.plot p.val).dma = d :: r) ∧ (d.running = true) ∧ (d.eng / 32 = p.val) ∧ (r.length < 16) ∧ (descFields s d = some (true, len, sh, ca)) ∧ (capServes s = true) ∧ (s.arr.loads = [])) ∧
    (∃ (p : Fin 32) (cor : Nat) (d : Desc) (r : List Desc) (len : Nat) (sh : Nat) (ca : Nat) (s : State), ((s.plot p.val).dma = d :: r) ∧ (d.running = true) ∧ (d.eng / 32 = p.val) ∧ (r.length < 16) ∧ (descFields s d = some (false, len, sh, ca)) ∧ (capServes s = true) ∧ (s.arr.loads = [])) ∧
    (∃ (x : Fin 1024) (i : Fin 2) (fl : Flight) (s : State), ((s.fab.flight.find? fun f => f.eng == x.val && f.port == i.val) = some fl) ∧ ((s.engine x.val).bound i.val = some fl.ent) ∧ (entOn (s.subW0 (s.plotParcel (x.val / 32)) fl.ent) = true) ∧ (s.quarterOn x.val = true) ∧ (fl.aborted = false) ∧ (fl.cls = 0 ∨ (s.engine x.val).dec i.val = {}) ∧ (fits (s.engine x.val) i.val fl.items = true)) ∧
    (∃ (x : Fin 1024) (i : Fin 2) (fl : Flight) (s : State), ((s.fab.flight.find? fun f => f.eng == x.val && f.port == i.val) = some fl) ∧ ((s.engine x.val).bound i.val = some fl.ent) ∧ (entOn (s.subW0 (s.plotParcel (x.val / 32)) fl.ent) = true) ∧ (s.quarterOn x.val = true) ∧ (fl.aborted = false) ∧ (fl.cls = 0) ∧ (fits (s.engine x.val) i.val fl.items = false)) ∧
    (∃ (x : Fin 1024) (i : Fin 2) (fl : Flight) (s : State), ((s.fab.flight.find? fun f => f.eng == x.val && f.port == i.val) = some fl) ∧ ((s.engine x.val).bound i.val = some fl.ent) ∧ (entOn (s.subW0 (s.plotParcel (x.val / 32)) fl.ent) = true) ∧ (s.quarterOn x.val = true) ∧ (fl.aborted = false) ∧ (fl.cls = 1) ∧ ((s.engine x.val).dec i.val = {}) ∧ (fits (s.engine x.val) i.val fl.items = false)) ∧
    (∃ (x : Fin 1024) (i : Fin 2) (fl : Flight) (s : State), ((s.fab.flight.find? fun f => f.eng == x.val && f.port == i.val) = some fl) ∧ ((s.engine x.val).bound i.val = some fl.ent) ∧ (entOn (s.subW0 (s.plotParcel (x.val / 32)) fl.ent) = true) ∧ (s.quarterOn x.val = true) ∧ (fl.aborted = false) ∧ (2 ≤ fl.cls) ∧ (((s.engine x.val).dec i.val).held = none) ∧ (fits (s.engine x.val) i.val fl.items = false)) ∧
    (∃ (x : Fin 1024) (i : Fin 2) (lost : Bool) (fl : Flight) (s : State), ((s.fab.flight.find? fun f => f.eng == x.val && f.port == i.val) = some fl) ∧ ((s.engine x.val).bound i.val = some fl.ent) ∧ (entOn (s.subW0 (s.plotParcel (x.val / 32)) fl.ent) = true) ∧ (s.quarterOn x.val = true) ∧ ((fl.aborted || lost) = true)) :=
  ⟨⟨1, 1, { eng := 33, adr := 0x10000 }, [], (false, 64, 0x20000, 0x40), { (upF [(R.CAD_PCAP_CAPSZ 0, 4)]) with arr := { plots := [(1, { dma := [{ eng := 33, adr := 0x10000 }], mem := [(0, 1)] ++ memWrite [] 0x10000 (leBytes 4 0x40 ++ leBytes 4 0x20000 ++ leBytes 4 0x40) })] }, dom := { step := [(domDRAM, 4), (domDPHY, 4)] } }, by decide⟩,
    ⟨1, 0, { eng := 33, adr := 0x10000 }, [], { (upF [(R.CAD_PCAP_CAPSZ 0, 4)]) with arr := { plots := [(1, { dma := [{ eng := 33, adr := 0x10000 }], mem := [(0, 1)] ++ memWrite [] 0x10000 (leBytes 4 0x41 ++ leBytes 4 0x20000 ++ leBytes 4 0x40) })] }, dom := { step := [(domDRAM, 4), (domDPHY, 4)] } }, by decide⟩,
    ⟨1, 2, { eng := 33, adr := 0x10000, running := true }, [], 64, 0x20000, 0x40, { (upF [(R.CAD_PCAP_CAPSZ 0, 4)]) with arr := { plots := [(1, { dma := [{ eng := 33, adr := 0x10000, running := true }], mem := [(0, 1)] ++ memWrite [] 0x10000 (leBytes 4 0x80000040 ++ leBytes 4 0x20000 ++ leBytes 4 0x40) })] }, dom := { step := [(domDRAM, 4), (domDPHY, 4)] } }, by decide⟩,
    ⟨1, 2, { eng := 33, adr := 0x10000, running := true }, [], 64, 0x20000, 0x40, { (upF [(R.CAD_PCAP_CAPSZ 0, 4)]) with arr := { plots := [(1, { dma := [{ eng := 33, adr := 0x10000, running := true }], mem := [(0, 1)] ++ memWrite [] 0x10000 (leBytes 4 0x40 ++ leBytes 4 0x20000 ++ leBytes 4 0x40) })] }, dom := { step := [(domDRAM, 4), (domDPHY, 4)] } }, by decide⟩,
    ⟨33, 0, { eng := 33, port := 0, ent := 2, cls := 0, items := [5, 6], aborted := false }, { upR [(R.FAB_SUB 0 2 0, 0x02000000)] with arr := { engs := [(33, { engAt 0 with bin0 := some 2, stall := 3 })] }, dom := { step := [(domQP 1 0, 4)] }, fab := { flight := [{ eng := 7 }, { eng := 33, port := 0, ent := 2, cls := 0, items := [5, 6], aborted := false }] } }, by decide⟩,
    ⟨33, 0, { eng := 33, port := 0, ent := 2, cls := 0, items := [5, 6], aborted := false }, { upR [(R.FAB_SUB 0 2 0, 0x02000000)] with arr := { engs := [(33, { engAt 0 with bin0 := some 2, q0 := List.replicate 1023 (false, 0) })] }, dom := { step := [(domQP 1 0, 4)] }, fab := { flight := [{ eng := 7 }, { eng := 33, port := 0, ent := 2, cls := 0, items := [5, 6], aborted := false }] } }, by decide +kernel⟩,
    ⟨33, 0, { eng := 33, port := 0, ent := 2, cls := 1, items := [5, 6], aborted := false }, { upR [(R.FAB_SUB 0 2 0, 0x06000000)] with arr := { engs := [(33, { engAt 0 with bin0 := some 2, q0 := List.replicate 1023 (false, 0) })] }, dom := { step := [(domQP 1 0, 4)] }, fab := { flight := [{ eng := 7 }, { eng := 33, port := 0, ent := 2, cls := 1, items := [5, 6], aborted := false }] } }, by decide +kernel⟩,
    ⟨33, 0, { eng := 33, port := 0, ent := 2, cls := 2, items := [5, 6], aborted := false }, { upR [(R.FAB_SUB 0 2 0, 0x0A000000)] with arr := { engs := [(33, { engAt 0 with bin0 := some 2, q0 := List.replicate 1023 (false, 0) })] }, dom := { step := [(domQP 1 0, 4)] }, fab := { flight := [{ eng := 7 }, { eng := 33, port := 0, ent := 2, cls := 2, items := [5, 6], aborted := false }] } }, by decide +kernel⟩,
    ⟨33, 0, true, { eng := 33, port := 0, ent := 2, cls := 1, items := [5, 6], aborted := false }, { upR [(R.FAB_SUB 0 2 0, 0x02000000)] with arr := { engs := [(33, { engAt 0 with bin0 := some 2, wdog := 1 })] }, dom := { step := [(domQP 1 0, 4)] }, fab := { flight := [{ eng := 7 }, { eng := 33, port := 0, ent := 2, cls := 1, items := [5, 6], aborted := false }] } }, by decide⟩⟩

theorem wit_KernelCommandsTakeEffect :
    (∃ (e : Nat) (x : Fin 1024) (s : State), ((s.engine x.val).st = esREADY) ∧ ((s.engine x.val).startAt ≤ e) ∧ (s.quarterOn x.val = true)) ∧
    (∃ (p : Packet) (q : Packet) (s : State) (s1 : State), (Admits 0x50 p s q s1) ∧ ((s1.stage q.parcel).id ≠ 0) ∧ (u32 q.payload 0 = (s1.stage q.parcel).id) ∧ (u32 q.payload 4 = (s1.stage q.parcel).acc) ∧ ((s1.stage q.parcel).acc ≠ (s1.stage q.parcel).lastOff) ∧ (u32 q.payload 8 = (s1.stage q.parcel).total) ∧ (u8 q.payload 12 = (s1.stage q.parcel).target) ∧ (u8 q.payload 12 ≤ 7) ∧ (u8 q.payload 13 = 0) ∧ (q.payload.length = 16 + u16 q.payload 14) ∧ (u16 q.payload 14 ≠ 0) ∧ (u16 q.payload 14 ≤ 2000) ∧ (u16 q.payload 14 % 4 = 0) ∧ ((s1.stage q.parcel).acc + u16 q.payload 14 < (s1.stage q.parcel).total)) ∧
    (∃ (q : Fin 8) (s : State), ((s.stage q.val).id ≠ 0) ∧ (s.due (s.stage q.val).at_ 60000000000 = true)) ∧
    (∃ (p : Packet) (q : Packet) (pl : Fin 32) (i : Fin 32) (s : State) (s1 : State), (Admits 0x51 p s q s1) ∧ (q.payload.length = 12) ∧ (q.noReply = false) ∧ (u8 q.payload 0 ≤ 7) ∧ (leAt q.payload 1 3 = 0) ∧ (u32 q.payload 4 = 2 ^ i.val) ∧ (u32 q.payload 8 ≠ 0) ∧ (q.parcel = 0 ∨ kiSAFETY (s1.kernel (8 * q.parcel + u8 q.payload 0)) = false) ∧ (s1.slotPlot q.parcel i.val = some pl.val) ∧ (s1.plotState pl.val < psMIGR) ∧ (s1.tb R.ENG_RETIRED_RET pl.val = false) ∧ ((s1.plot pl.val).shut = false) ∧ (((List.range (kiNBIND (s1.kernel (8 * q.parcel + u8 q.payload 0)))).all fun k => streamOk s1 q.parcel
      (kiBinding (s1.kernel (8 * q.parcel + u8 q.payload 0)) k).2.1 (kiBinding (s1.kernel (8 * q.parcel + u8 q.payload 0)) k).2.2) = true) ∧ (kiDMA (s1.kernel (8 * q.parcel + u8 q.payload 0)) = false ∨ s1.capFit = true ∧ s1.fg (R.CAD_PCAP_CAPSZ q.parcel) ≠ 0) ∧ (s1.energised = false) ∧ (((quarters pl.val (u32 q.payload 8)).all fun d => s1.domOn d) = true) ∧ ((s1.plot pl.val).dma = []) ∧ (s1.arr.loads = [])) ∧
    (∃ (p : Packet) (q : Packet) (pl : Fin 32) (s : State) (s1 : State), (Admits 0x52 p s q s1) ∧ (q.payload.length = 8) ∧ (q.noReply = false) ∧ (u8 p.payload 1 = 1) ∧ (u8 q.payload 1 = 1) ∧ (u8 q.payload 0 ≤ 31) ∧ (u16 q.payload 2 = 0) ∧ (u32 q.payload 4 ≠ 0) ∧ (s1.slotPlot q.parcel (u8 q.payload 0) = some pl.val) ∧ ((s1.plot pl.val).shut = false) ∧ (s1.energised = false) ∧ (∀ x ∈ masked pl.val (u32 q.payload 4), (s1.engine x).st = esRUNNING)) ∧
    (∃ (p : Packet) (q : Packet) (pl : Fin 32) (s : State) (s1 : State), (Admits 0x52 p s q s1) ∧ (q.payload.length = 8) ∧ (q.noReply = false) ∧ (u8 p.payload 1 = 2) ∧ (u8 q.payload 1 = 2) ∧ (u8 q.payload 0 ≤ 31) ∧ (u16 q.payload 2 = 0) ∧ (u32 q.payload 4 ≠ 0) ∧ (s1.slotPlot q.parcel (u8 q.payload 0) = some pl.val) ∧ ((s1.plot pl.val).shut = false) ∧ (∀ x ∈ masked pl.val (u32 q.payload 4), ((s1.engine x).st = esHALTED ∧ (s1.engine x).dmaExc = none))) ∧
    (∃ (p : Packet) (q : Packet) (pl : Fin 32) (s : State) (s1 : State), (Admits 0x52 p s q s1) ∧ (q.payload.length = 8) ∧ (q.noReply = false) ∧ (u8 p.payload 1 = 3) ∧ (u8 q.payload 1 = 3) ∧ (u8 q.payload 0 ≤ 31) ∧ (u16 q.payload 2 = 0) ∧ (u32 q.payload 4 ≠ 0) ∧ (s1.slotPlot q.parcel (u8 q.payload 0) = some pl.val) ∧ ((s1.plot pl.val).shut = false) ∧ (s1.energised = false) ∧ (∀ x ∈ masked pl.val (u32 q.payload 4), ((s1.engine x).st = esHALTED ∨ (s1.engine x).st = esEXCEPTION))) ∧
    (∃ (p : Packet) (q : Packet) (pl : Fin 32) (i : Byte) (s : State) (s1 : State), (Admits 0x53 p s q s1) ∧ (q.payload = [1, i, 0, 0]) ∧ (q.noReply = false) ∧ (s1.slotPlot q.parcel i.toNat = some pl.val)) :=
  ⟨⟨2048, 33, { up with arr := { engs := [(33, { st := 2, startAt := 2048, entry := 4, wdog0 := 9 })] }, dom := { step := [(domQP 1 0, 4)] } }, by decide⟩,
    ⟨pk 0x50 3 (leBytes 4 9 ++ leBytes 4 4 ++ leBytes 4 12 ++ [0, 0, 4, 0, 1, 2, 3, 4]), pk 0x50 3 (leBytes 4 9 ++ leBytes 4 4 ++ leBytes 4 12 ++ [0, 0, 4, 0, 1, 2, 3, 4]), { up with arr := { stages := [(0, { id := 9, total := 12, acc := 4, data := [6, 6, 6, 6], sects := [32], lastLen := 4 })] } }, { up with arr := { stages := [(0, { id := 9, total := 12, acc := 4, data := [6, 6, 6, 6], sects := [32], lastLen := 4 })] } }, by decide⟩,
    ⟨7, { up with arr := { stages := [(7, { id := 9, sects := [32] })] }, lt := 60000000000 }, by decide⟩,
    ⟨pk 0x51 1 [0, 0, 0, 0, 1, 0, 0, 0, 3, 0, 0, 0], pk 0x51 1 [0, 0, 0, 0, 1, 0, 0, 0, 3, 0, 0, 0], 1, 0, { up with arr := { place := [(0, 2)] }, dom := { step := [(domQP 1 0, 4)] } }, { up with arr := { place := [(0, 2)] }, dom := { step := [(domQP 1 0, 4)] } }, by decide⟩,
    ⟨pk 0x52 1 [0, 1, 0, 0, 2, 0, 0, 0], pk 0x52 1 [0, 1, 0, 0, 2, 0, 0, 0], 1, { upE 0 with arr := { (upE 0).arr with place := [(0, 2)] } }, { upE 0 with arr := { (upE 0).arr with place := [(0, 2)] } }, by decide⟩,
    ⟨pk 0x52 1 [0, 2, 0, 0, 2, 0, 0, 0], pk 0x52 1 [0, 2, 0, 0, 2, 0, 0, 0], 1, { up with arr := { engs := [(33, { engAt 0 with st := 4 })], place := [(0, 2)] } }, { up with arr := { engs := [(33, { engAt 0 with st := 4 })], place := [(0, 2)] } }, by decide⟩,
    ⟨pk 0x52 1 [0, 3, 0, 0, 2, 0, 0, 0], pk 0x52 1 [0, 3, 0, 0, 2, 0, 0, 0], 1, { up with arr := { engs := [(33, { engAt 0 with st := 5, entry := 8 })], place := [(0, 2)] } }, { up with arr := { engs := [(33, { engAt 0 with st := 5, entry := 8 })], place := [(0, 2)] } }, by decide⟩,
    ⟨pk 0x53 2 [1, 0, 0, 0], pk 0x53 2 [1, 0, 0, 0], 1, 0, { upE 0 with arr := { (upE 0).arr with place := [(0, 2)] } }, { upE 0 with arr := { (upE 0).arr with place := [(0, 2)] } }, by decide⟩⟩

theorem wit_PlotCommandsTakeEffect :
    (∃ (p : Fin 32) (v : Word) (s : State), (accessCheck s (R.ENG_PLCTL p.val) (w32 (setBit v.toNat 31 true)) = none) ∧ (s.energised = false) ∧ (s.arr.loads = [])) ∧
    (∃ (p : Fin 32) (v : Word) (s : State), (accessCheck s (R.ENG_PLCTL p.val) (w32 (setBit v.toNat 30 true)) = none) ∧ (s.energised = false) ∧ (wf v (R.ENG_PLCTL_RST p.val) = 0) ∧ (wf v (R.ENG_PLCTL_RESUME p.val) = 0)) ∧
    (∃ (p : Fin 32) (v : Word) (s : State), (accessCheck s (R.ENG_PLCTL p.val) (w32 (setBit v.toNat 29 true)) = none) ∧ (wf v (R.ENG_PLCTL_RST p.val) = 0) ∧ (wf v (R.ENG_PLCTL_HALT p.val) = 0) ∧ (∀ x ∈ engines p.val, (s.engine x).dmaExc = none)) ∧
    (∃ (p : Fin 32) (v : Word) (s : State), (accessCheck s (R.ENG_PLCTL p.val) (w32 (setBit v.toNat 28 true)) = none) ∧ (wf v (R.ENG_PLCTL_RST p.val) = 0) ∧ (wf v (R.ENG_PLCTL_HALT p.val) = 0) ∧ (wf v (R.ENG_PLCTL_RESUME p.val) = 0)) ∧
    (∃ (p : Fin 32) (s : State), (p.val < s.plotsFit)) ∧
    (∃ (m : Move) (s : State), (s.arr.move = some m) ∧ (m.parallel = false) ∧ (m.phase = 0) ∧ (m.src ≠ m.dst) ∧ ((s.plot m.src).dma = [])) ∧
    (∃ (m : Move) (s : State), (s.arr.move = some m) ∧ (m.parallel = false) ∧ (m.phase = 1) ∧ (m.src ≠ m.dst) ∧ ((s.plot m.src).dma = []) ∧ (s.arr.loads = [])) ∧
    (∃ (m : Move) (s : State), (s.arr.move = some m) ∧ (m.parallel = true) ∧ (m.phase = 0) ∧ (m.src ≠ m.dst)) ∧
    (∃ (m : Move) (s : State), (s.arr.move = some m) ∧ (m.parallel = true) ∧ (m.phase = 1) ∧ (m.src ≠ m.dst) ∧ ((s.plot m.src).dma = []) ∧ (s.arr.loads = [])) ∧
    (∃ (p : Fin 32) (s : State), ((s.plot p.val).shut = true) ∧ (s.fb R.THM_STAT_JSHUT = false)) :=
  ⟨⟨1, 0, upE 0, by decide⟩,
    ⟨1, 0, upE 0, by decide⟩,
    ⟨1, 2, { up with arr := { engs := [(33, { engAt 0 with st := 4 })] } }, by decide⟩,
    ⟨1, 1, upR [(R.ENG_PLECC 1, 0x70009)], by decide⟩,
    ⟨1, upF [(R.THM_STEP_PLOT, 2), (R.ENG_PLCTL_CLKREQ 1, 1)], by decide⟩,
    ⟨{ src := 1, dst := 2, epoch := 4096 }, { up with arr := { engs := [(33, engAt 0)], plots := [(1, { mem := [(0x10000, 1)] })], move := some { src := 1, dst := 2, epoch := 4096 } } }, by decide⟩,
    ⟨{ q := 1, slot := 2, src := 1, dst := 2, phase := 1 }, { up with arr := { engs := [(65, { engAt 0 with stall := 7, saved := 3 })], move := some { q := 1, slot := 2, src := 1, dst := 2, phase := 1 } } }, by decide⟩,
    ⟨{ q := 1, slot := 2, src := 1, dst := 2, parallel := true }, { up with arr := { engs := [(33, { engAt 0 with key := 9, warm := 3 })], move := some { q := 1, slot := 2, src := 1, dst := 2, parallel := true } } }, by decide⟩,
    ⟨{ q := 1, slot := 2, src := 1, dst := 2, parallel := true, phase := 1 }, { up with arr := { engs := [(65, { engAt 0 with mute := true })], move := some { q := 1, slot := 2, src := 1, dst := 2, parallel := true, phase := 1 } } }, by decide⟩,
    ⟨1, { up with arr := { plots := [(1, { shut := true })] } }, by decide⟩⟩

theorem wit_FabricCommandsTakeEffect :
    (∃ (l : Fin 52) (s : State), (s.linkBad l.val = false)) ∧
    (∃ (l : Fin 52) (s : State), (s.linkBad l.val = true) ∧ (s.due (Smap.get (fun _ => 0) s.fab.retestAt l.val) 10000000 = true) ∧ (Smap.get (fun _ => 0) s.fab.retests l.val < 9)) ∧
    (∃ (l : Fin 52) (s : State), (s.linkBad l.val = true) ∧ (s.due (Smap.get (fun _ => 0) s.fab.retestAt l.val) 10000000 = true) ∧ (9 ≤ Smap.get (fun _ => 0) s.fab.retests l.val)) ∧
    (∃ (l : Fin 52) (s : State), (s.linkBad l.val = true) ∧ (s.due (Smap.get (fun _ => 0) s.fab.retestAt l.val) 10000000 = true)) ∧
    (∃ (p : Packet) (q : Packet) (e : SubEnt) (s : State) (s1 : State), (Admits 0x54 p s q s1) ∧ (subEnts q.payload = [e]) ∧ (q.payload.length = 16) ∧ (leAt q.payload 1 3 = 0) ∧ (q.noReply = false) ∧ (subFormOk s1 q.parcel [e] e = true) ∧ (e.act = 0) ∧ (subAbsent s1 e = false) ∧ (subMay s1 q.parcel e.w0 e.w1 = true) ∧ (boundTo s1 q.parcel e.tab e.idx = []) ∧ (declared s1 q.parcel [e] 1 ≤ s1.fg (R.FAB_PRES_MRES q.parcel) * 100000000) ∧ (declared s1 q.parcel [e] 2 ≤ s1.fg (R.FAB_PRES_BRES q.parcel) * 100000000) ∧ (q.parcel ≠ 0 ∨ classS s1 [e] ≤ 160) ∧ (sourceReached s1 q.parcel e = true)) ∧
    (∃ (e : Nat) (q : Fin 8) (i : Fin 32) (w0 : Word) (w1 : Word) (s : State), (s.fab.pend = [(e, q.val, 0, i.val, w0, w1)])) ∧
    (∃ (e : Nat) (q : Fin 8) (i : Fin 32) (w0 : Word) (w1 : Word) (s : State), (s.fab.pend = [(e, q.val, 1, i.val, w0, w1)])) ∧
    (∃ (p : Packet) (q : Packet) (i : Byte) (s : State) (s1 : State), (Admits 0x55 p s q s1) ∧ (q.payload = [1, 0, 0, 0, 0, i, 0, 0]) ∧ (i.toNat ≤ 31) ∧ (q.noReply = false)) ∧
    (∃ (v : Word) (s : State), (accessCheck s R.FAB_SCLOSS (w32 (setBit v.toNat 31 true)) = none)) ∧
    (∃ (q : Fin 8) (v : Word) (s : State), (accessCheck s (R.FAB_PDEC q.val) (w32 (setBit v.toNat 15 true)) = none)) :=
  ⟨⟨51, up, by decide⟩,
    ⟨40, { upF [(R.FAB_LFAIL1_LINK, 256)] with fab := { retests := [(40, 8)] }, lt := 10000000 }, by decide⟩,
    ⟨40, { upF [(R.FAB_LFAIL1_LINK, 256)] with fab := { retests := [(40, 9)] }, lt := 10000000 }, by decide⟩,
    ⟨40, { upF [(R.FAB_LFAIL1_LINK, 256)] with fab := { retests := [(40, 9)] }, lt := 10000000 }, by decide⟩,
    ⟨pk 0x54 1 ([1, 0, 0, 0, 0, 2, 0, 0] ++ leBytes 4 0x62000000 ++ leBytes 4 0), pk 0x54 1 ([1, 0, 0, 0, 0, 2, 0, 0] ++ leBytes 4 0x62000000 ++ leBytes 4 0), { tab := 0, idx := 2, act := 0, pad := 0, w0 := 0x62000000, w1 := 0 }, up, up, by decide⟩,
    ⟨4096, 7, 31, 0x62000000, 5, { up with fab := { pend := [(4096, 7, 0, 31, 0x62000000, 5)] } }, by decide⟩,
    ⟨4096, 7, 31, 0xF2004000, 0, { up with fab := { pend := [(4096, 7, 1, 31, 0xF2004000, 0)] } }, by decide⟩,
    ⟨pk 0x55 2 [1, 0, 0, 0, 0, 31, 0, 0], pk 0x55 2 [1, 0, 0, 0, 0, 31, 0, 0], 31, upR [(R.FAB_SUB 0 31 0, 7)], upR [(R.FAB_SUB 0 31 0, 7)], by decide⟩,
    ⟨0, upR [(R.FAB_SCLOSS, 0x00210005)], by decide⟩,
    ⟨7, 0, upF [(R.FAB_PDEC_DROPS 7, 9), (R.FAB_PDEC_QMAX 7, 3)], by decide⟩⟩

theorem wit_CadastreCommandsTakeEffect :
    (∃ (p : Packet) (q : Packet) (l : List Item) (w : Work) (s : State) (s1 : State), (Admits 0x60 p s q s1) ∧ (q.noReply = false) ∧ (s1.cad.deed = none) ∧ (deedForm s1 q.payload = some l) ∧ ((l.all fun i => i.type != 7 && i.type != 9) = true) ∧ (applyItems s1 (deedNo q.payload) l = w) ∧ (w.err = none) ∧ (w.lock = none) ∧ (((given s1.cad.now w.rec_).any fun u => s1.cad.now.scrub.contains u) = false) ∧ (deedNo q.payload = s1.cnt 0 + 1) ∧ (easesOk w.rec_ = true) ∧ (s1.capFit = true) ∧ (capacityOk s1 w.rec_ = true) ∧ (sumOf w.rec_ (fun c => c.mres + c.bres) ≤ 1500) ∧ (sumOf w.rec_ (fun c => c.dres) ≤ 720) ∧ (sumOf w.rec_ (fun c => c.tres) ≤ 120) ∧ (s1.energised = false)) ∧
    (∃ (j : NvJob) (d : Deed) (s : State), (s.journalHead = some j) ∧ (j.kind = 3) ∧ (s.cad.deed = some d) ∧ (d.epoch = none) ∧ (d.req.noReply = false)) ∧
    (∃ (d : Deed) (e : Nat) (s : State), (s.cad.deed = some d) ∧ (d.epoch = some e)) ∧
    (∃ (s : State), (s.cad.now.scrub ≠ []) ∧ (s.due s.cad.scrubAt (scrubTime s.cad.now.scrub) = true)) ∧
    (∃ (p : Packet) (q : Packet) (s : State) (s1 : State), (Admits 0x62 p s q s1) ∧ (q.payload.length = 132) ∧ (q.noReply = false) ∧ (q.via = .side) ∧ (s1.founded = false) ∧ (s1.foundLocked = false) ∧ (u8 q.payload 0 ≤ 3) ∧ (u8 (pendingPage0 s1) (8 + 17 * u8 q.payload 0) = 0) ∧ (1 ≤ u8 q.payload 1) ∧ (u8 q.payload 1 ≤ 2) ∧ (u16 q.payload 2 = 0)) ∧
    (∃ (p : Packet) (q : Packet) (m : Byte) (s : State) (s1 : State), (Admits 0x61 p s q s1) ∧ (q.payload = [m, 0, 0, 0]) ∧ (m ≠ 0) ∧ (q.parcel = 0) ∧ (q.noReply = false)) ∧
    (∃ (p : Packet) (q : Packet) (k : Byte) (s : State) (s1 : State), (Admits 0x63 p s q s1) ∧ (q.payload = [k, 0, 0, 0]) ∧ (k.toNat ≤ 7) ∧ (q.noReply = false)) ∧
    (∃ (q : Fin 8) (v : Word) (s : State), (accessCheck s (R.CAD_PAUTHF q.val) (w32 (setBit v.toNat 31 true)) = none)) ∧
    (∃ (s : State), (s.cpRuns = true) ∧ (7 ≤ s.fg R.RST_STAT_STEP) ∧ (s.fb R.CAD_STAT_RESTORED = false) ∧ (s.addressed = true ∨ s.due s.rst.stepAt 2000000000 = true)) :=
  ⟨⟨pk 0x60 1 deedGood, pk 0x60 1 deedGood, [{ type := 1, target := 1, bytes := [1, 1, 4, 0] }], applyItems up 1 [{ type := 1, target := 1, bytes := [1, 1, 4, 0] }], up, up, by decide +kernel⟩,
    ⟨{ kind := 3 }, {}, { up with nv := { jobs := [{ kind := 3 }], jphase := 1 }, cad := { deed := some {} } }, by decide⟩,
    ⟨{ epoch := some 4096 }, 4096, { up with cad := { deed := some { epoch := some 4096 } } }, by decide⟩,
    ⟨{ up with cad := { now := { scrub := [(0, 3), (1, 70)] } }, cap := { dram := [(3145728, 9)] }, nv := { bytes := [(8960, 7), (9000, 8)] }, lt := 1310720 }, by decide⟩,
    ⟨pk 0x62 1 ([3, 1, 0, 0] ++ List.replicate 128 7), pk 0x62 1 ([3, 1, 0, 0] ++ List.replicate 128 7), up, up, by decide +kernel⟩,
    ⟨pk 0x61 1 [0x81, 0, 0, 0], pk 0x61 1 [0x81, 0, 0, 0], 0x81, up, up, by decide⟩,
    ⟨pk 0x63 1 [7, 0, 0, 0], pk 0x63 1 [7, 0, 0, 0], 7, upF [(R.CAD_PSESS_SESSION 7, 99)], upF [(R.CAD_PSESS_SESSION 7, 99)], by decide⟩,
    ⟨7, 0, upF [(R.CAD_PAUTHF_COUNT 7, 9)], by decide⟩,
    ⟨{ upF [(R.RST_STAT_STEP, 7), (R.CAD_STAT_RESTORED, 0)] with rst := { stackUp := true, stepAt := 0 }, lt := 2000000000 }, by decide +kernel⟩⟩

theorem wit_PortLinkCommandsTakeEffect :
    (∃ (p : Fin 4) (l : Fin 2) (hdrs : List (BitVec 2)) (last : BitVec 58) (s : State), (s.portState p.val ≠ poOFF) ∧ (s.tb (R.TRV_PCTL_LANEEN p.val) l.val = true) ∧ (s.tb (R.TRV_PSTAT_LOCK p.val) l.val = false) ∧ (64 ≤ hdrs.length) ∧ ((hdrs.drop (hdrs.length - 64)).all headerValid = true) ∧ (s.portMode p.val ≠ 2)) ∧
    (∃ (p : Fin 4) (hdrs : List (BitVec 2)) (last : BitVec 58) (s : State), (s.portState p.val ≠ poOFF) ∧ (s.tb (R.TRV_PCTL_LANEEN p.val) 0 = true) ∧ (s.tb (R.TRV_PSTAT_LOCK p.val) 0 = false) ∧ (64 ≤ hdrs.length) ∧ ((hdrs.drop (hdrs.length - 64)).all headerValid = true) ∧ (s.portMode p.val = 2)) ∧
    (∃ (p : Fin 4) (l : Fin 2) (hdrs : List (BitVec 2)) (s : State), (s.portState p.val = poRUN) ∧ (s.tb (R.TRV_PSTAT_LOCK p.val) l.val = true) ∧ (s.tb (R.TRV_PSTAT_RXL p.val) l.val = true) ∧ (s.fg (R.TRV_PERR_COUNT p.val) + 4 < s.fg (R.TRV_PERR_LIMIT p.val)) ∧ ((s.port p.val).rx = none) ∧ (hdrs.length ≤ 64) ∧ (hdrs = [] ∨ 16 ≤ hdrs.countP fun h => !headerValid h)) ∧
    (∃ (p : Fin 4) (s : State), (s.portState p.val = poHUNT) ∧ (s.due (s.port p.val).huntAt 10000000 = true) ∧ (s.fg (R.TRV_PSTAT_LOCK p.val) &&& s.fg (R.TRV_PSTAT_RXL p.val) ≠ s.fg (R.TRV_PSTAT_RXL p.val))) ∧
    (∃ (p : Fin 4) (s : State), (s.due (s.port p.val).leakAt (1000000 * s.fg (R.TRV_PERR_LEAK p.val)) = true)) ∧
    (∃ (p : Fin 4) (b : List Byte) (s : State), (blockCrcOk b = true) ∧ (s.portState p.val ≠ poOFF) ∧ ((u8 b 0).testBit 7 = false)) ∧
    (∃ (p : Fin 4) (b : List Byte) (s : State), (blockCrcOk b = true) ∧ (s.portState p.val ≠ poOFF) ∧ (s.portState p.val ≠ poQUAR) ∧ ((u8 b 0).testBit 7 = true)) ∧
    (∃ (p : Fin 4) (l : Fin 2) (n : Nat) (b : List Byte) (s : State), (s.portState p.val = poTRAIN) ∧ (s.tb (R.TRV_PCTL_LANEEN p.val) l.val = true) ∧ (s.tb (R.TRV_PSTAT_LOCK p.val) l.val = true) ∧ (n ≠ 0) ∧ (blockCrcOk b = true) ∧ ((u8 b 0).testBit 4 = (l == 1)) ∧ ((Smap.get (fun _ => 65536) (s.port p.val).tcnt l.val + n) % 65536 = u16 b 1) ∧ (Smap.get (fun _ => 65536) (s.port p.val).tcnt l.val ≠ 65536)) ∧
    (∃ (p : Fin 4) (l : Fin 2) (n : Nat) (b : List Byte) (s : State), (s.portState p.val = poTRAIN) ∧ (s.tb (R.TRV_PCTL_LANEEN p.val) l.val = true) ∧ (s.tb (R.TRV_PSTAT_LOCK p.val) l.val = true) ∧ (n ≠ 0) ∧ (blockCrcOk b = true) ∧ ((u8 b 0).testBit 4 = (l == 1)) ∧ ((s.port p.val).rxok ≠ 0) ∧ (u8 b 3 % 4 ≠ 0) ∧ ((u8 b 0).testBit 7 = true) ∧ (16 ≤ (s.port p.val).ready + n) ∧ ((s.port p.val).trial ≤ 2)) ∧
    (∃ (p : Fin 4) (s : State), (s.portState p.val = poQUAR) ∧ (s.fg (R.TRV_PCTL_MODE p.val) ≠ 3)) ∧
    (∃ (p : Fin 4) (s : State), (s.portState p.val = poQUAR) ∧ (s.fg (R.TRV_PCTL_MODE p.val) = 3)) ∧
    (∃ (p : Fin 4) (e : Nat × Nat) (s : State), (s.portState p.val = poTRAIN) ∧ ((s.port p.val).trial < 2) ∧ (e ∈ (s.port p.val).lockAt) ∧ ((s.port p.val).rxok.testBit e.1 = false) ∧ (s.due e.2 20000000 = true)) ∧
    (∃ (p : Fin 4) (s : State), (s.portState p.val = poTRAIN) ∧ ((s.port p.val).step = true) ∧ ((s.port p.val).trial < 2)) ∧
    (∃ (p : Fin 4) (s : State), (s.portState p.val = poTRAIN) ∧ (s.fb (R.TRV_PSTAT_TRFAIL p.val) = false) ∧ (s.due (s.port p.val).trainAt 1000000000 = true)) ∧
    (∃ (p : Fin 4) (v : Word) (s : State), (accessCheck s (R.TRV_PCTL p.val) (w32 (setBit v.toNat 31 true)) = none) ∧ (wf v (R.TRV_PCTL_RATEMAX p.val) ≠ 3) ∧ (wf v (R.TRV_PCTL_LANEEN p.val) ≠ 0) ∧ (wf v (R.TRV_PCTL_MODE p.val) ≤ 1) ∧ (wf v (R.TRV_PCTL_EN p.val) = 1) ∧ (s.fb (R.TRV_PCTL_EN p.val) = true) ∧ (s.portState p.val ≠ poOFF)) ∧
    (∃ (p : Fin 4) (v : Word) (s : State), (accessCheck s (R.TRV_PCTL p.val) (w32 (setBit v.toNat 30 true)) = none) ∧ (wf v (R.TRV_PCTL_RATEMAX p.val) ≠ 3) ∧ (wf v (R.TRV_PCTL_LANEEN p.val) ≠ 0) ∧ (wf v (R.TRV_PCTL_MODE p.val) ≠ 3) ∧ (wf v (R.TRV_PCTL_RETRAIN p.val) = 0) ∧ (wf v (R.TRV_PCTL_EN p.val) = 1) ∧ (s.fb (R.TRV_PCTL_EN p.val) = true) ∧ (s.portState p.val ≠ poOFF)) ∧
    (∃ (p : Fin 4) (v : Word) (s : State), (accessCheck s (R.TRV_PCTL p.val) v = none) ∧ (wf v (R.TRV_PCTL_RATEMAX p.val) ≠ 3) ∧ (wf v (R.TRV_PCTL_LANEEN p.val) ≠ 0) ∧ (wf v (R.TRV_PCTL_MODE p.val) ≠ 3) ∧ (wf v (R.TRV_PCTL_RETRAIN p.val) = 0) ∧ (wf v (R.TRV_PCTL_EN p.val) = 1) ∧ (s.fb (R.TRV_PCTL_EN p.val) = false)) ∧
    (∃ (p : Fin 4) (v : Word) (s : State), (accessCheck s (R.TRV_PCTL p.val) v = none) ∧ (wf v (R.TRV_PCTL_RATEMAX p.val) ≠ 3) ∧ (wf v (R.TRV_PCTL_LANEEN p.val) ≠ 0) ∧ (wf v (R.TRV_PCTL_MODE p.val) ≠ 2) ∧ (wf v (R.TRV_PCTL_EN p.val) = 0) ∧ (s.portState p.val ≠ poOFF)) :=
  ⟨⟨3, 1, 0 :: List.replicate 64 1, 5, upF [(R.TRV_PSTAT_STATE 3, 1), (R.TRV_PCTL_LANEEN 3, 3)], by decide⟩,
    ⟨1, List.replicate 64 2, 5, { upF [(R.TRV_PSTAT_STATE 1, 1), (R.TRV_PCTL_LANEEN 1, 1), (R.TRV_PCTL_MODE 1, 2)] with trv := { ports := [(1, { mode := 2 })] } }, by decide⟩,
    ⟨3, 1, [], upF [(R.TRV_PSTAT_STATE 3, 2), (R.TRV_PSTAT_LOCK 3, 3), (R.TRV_PSTAT_RXL 3, 3), (R.TRV_PERR_LIMIT 3, 20), (R.TRV_STAT_RUN, 8)], by decide⟩,
    ⟨3, { upF [(R.TRV_PSTAT_STATE 3, 3), (R.TRV_PSTAT_LOCK 3, 1), (R.TRV_PSTAT_RXL 3, 3)] with lt := 10000000 }, by decide⟩,
    ⟨3, { upF [(R.TRV_PERR_COUNT 3, 9), (R.TRV_PERR_LEAK 3, 2)] with lt := 2000000 }, by decide⟩,
    ⟨3, [0, 1, 2, 3, 4] ++ leBytes 2 (hcs [0, 1, 2, 3, 4]), upF [(R.TRV_PSTAT_STATE 3, 2)], by decide +kernel⟩,
    ⟨3, [0xA0, 1, 2, 3, 4] ++ leBytes 2 (hcs [0xA0, 1, 2, 3, 4]), upF [(R.TRV_PSTAT_STATE 3, 2)], by decide +kernel⟩,
    ⟨3, 1, 5, [0x10, 9, 0, 0, 0] ++ leBytes 2 (hcs [0x10, 9, 0, 0, 0]), { upF [(R.TRV_PSTAT_STATE 3, 1), (R.TRV_PCTL_LANEEN 3, 3), (R.TRV_PSTAT_LOCK 3, 3)] with trv := { ports := [(3, { tcnt := [(1, 4)], good := [(1, 7)] })] } }, by decide +kernel⟩,
    ⟨1, 0, 4, [0x80, 9, 0, 1, 0] ++ leBytes 2 (hcs [0x80, 9, 0, 1, 0]), { upF [(R.TRV_PSTAT_STATE 1, 1), (R.TRV_PCTL_LANEEN 1, 3), (R.TRV_PSTAT_LOCK 1, 1)] with trv := { ports := [(1, { rxok := 1, ready := 12, trial := 2 })] } }, by decide +kernel⟩,
    ⟨3, upF [(R.TRV_PSTAT_STATE 3, 4), (R.TRV_PERR_COUNT 3, 9)], by decide⟩,
    ⟨3, upF [(R.TRV_PSTAT_STATE 3, 4), (R.TRV_PCTL_MODE 3, 3)], by decide⟩,
    ⟨3, (1, 0), { upF [(R.TRV_PSTAT_STATE 3, 1)] with trv := { ports := [(3, { lockAt := [(1, 0)] })] }, lt := 20000000 }, by decide⟩,
    ⟨3, { upF [(R.TRV_PSTAT_STATE 3, 1)] with trv := { ports := [(3, { step := true, trial := 1 })] } }, by decide⟩,
    ⟨3, { upF [(R.TRV_PSTAT_STATE 3, 1)] with lt := 1000000000 }, by decide⟩,
    ⟨1, 0x110, upF [(R.TRV_PSTAT_STATE 1, 2), (R.TRV_PCTL_EN 1, 1), (R.TRV_PCTL_LANEEN 1, 3)], by decide⟩,
    ⟨1, 0x110, upF [(R.TRV_PSTAT_STATE 1, 2), (R.TRV_PCTL_EN 1, 1), (R.TRV_PCTL_LANEEN 1, 1), (R.TRV_PFRM_CRCF 1, 9), (R.TRV_PLANE_HDRERR 1 1, 4)], by decide⟩,
    ⟨1, 0x110, upF [(R.TRV_PCTL_EN 1, 0)], by decide⟩,
    ⟨1, 0x010, upF [(R.TRV_PSTAT_STATE 1, 2), (R.TRV_PCTL_EN 1, 1), (R.TRV_STAT_RUN, 2)], by decide⟩⟩

theorem wit_TransmitterAndSidebandTakeEffect :
    (∃ (p : Fin 4) (i : Nat) (s : State), (s.portState p.val = poRUN) ∧ (nextFrame (s.port p.val).tx = some i) ∧ (rollWindow s p.val = false ∨ frameRank ((s.port p.val).tx.getD i {}) < 4) ∧ (s.portMode p.val = 2)) ∧
    (∃ (p : Fin 4) (i : Nat) (s : State), (s.portState p.val = poRUN) ∧ (nextFrame (s.port p.val).tx = some i) ∧ (rollWindow s p.val = false ∨ frameRank ((s.port p.val).tx.getD i {}) < 4) ∧ (s.portMode p.val ≠ 2) ∧ (s.fg (R.TRV_PSTAT_TXL p.val) ≠ 0)) ∧
    (∃ (p : Fin 4) (i : Nat) (s : State), (nextFrame (s.port p.val).tx = some i) ∧ (rollWindow s p.val = true) ∧ (4 ≤ frameRank ((s.port p.val).tx.getD i {}))) ∧
    (∃ (s : State), (s.sideServed = true)) ∧
    (∃ (n : Nat) (r : List Byte) (rs : List (List Byte)) (s : State), (s.sideServed = true) ∧ (s.hst.replies = r :: rs) ∧ (n < r.length)) ∧
    (∃ (n : Nat) (r : List Byte) (rs : List (List Byte)) (s : State), (s.sideServed = true) ∧ (s.hst.replies = r :: rs) ∧ (r.length ≤ n)) ∧
    (∃ (s : State), (s.sideServed = true)) ∧
    (∃ (s : State), (s.sideServed = true)) :=
  ⟨⟨1, 1, { upF [(R.TRV_PSTAT_STATE 1, 2)] with trv := { ports := [(1, { mode := 2, tx := [{ cls := 2 }, { cls := 0 }] })] } }, by decide⟩,
    ⟨1, 1, { upF [(R.TRV_PSTAT_STATE 1, 2), (R.TRV_PSTAT_TXL 1, 3)] with trv := { ports := [(1, { tx := [{ cls := 2 }, { cls := 0, body := [7, 8, 9] }] })] } }, by decide⟩,
    ⟨1, 0, { upF [(R.TRV_PSTAT_STATE 1, 2)] with trv := { ports := [(1, { tx := [{ cls := 2 }], rcOfs := some 500 })] }, now := 20000 }, by decide⟩,
    ⟨{ up with hst := { replies := [[1, 2, 3]] } }, by decide⟩,
    ⟨2, [1, 2, 3], [], { up with hst := { replies := [[1, 2, 3]] } }, by decide⟩,
    ⟨3, [1, 2, 3], [], { up with hst := { replies := [[1, 2, 3]], backlog := [[4], [5]] } }, by decide⟩,
    ⟨{ up with hst := { replies := [[1, 2, 3]] } }, by decide⟩,
    ⟨up, by decide⟩⟩

theorem wit_DiscoveryCommandsTakeEffect :
    (∃ (s : State), (s.fb R.NET_CTRL_ROOT = true) ∧ (s.net.yielded = false) ∧ (s.addressed = false) ∧ (s.net.phase = 0) ∧ (7 ≤ s.fg R.RST_STAT_STEP) ∧ (ringRun s 0 = true)) ∧
    (∃ (p : Packet) (q : Packet) (k : Nat) (sv : Survey) (rs : List SurvRec) (s : State) (s1 : State), (Admits 0x01 p s q s1) ∧ (q.via = .ring k) ∧ (parseRecs (u8 q.payload 0) (q.payload.drop 4) = some rs) ∧ (u8 q.payload 1 = k) ∧ (k ≠ 0xFF) ∧ (s1.net.survey = some sv) ∧ (q.src % 4096 = s1.ownAddr) ∧ (sv.ring = k / 2) ∧ (sv.port = k) ∧ (sv.second = false)) ∧
    (∃ (p : Packet) (q : Packet) (k : Nat) (rs : List SurvRec) (s : State) (s1 : State), (Admits 0x01 p s q s1) ∧ (q.via = .ring k) ∧ (k < 2) ∧ (parseRecs (u8 q.payload 0) (q.payload.drop 4) = some rs) ∧ (u8 q.payload 1 ≠ 0xFF) ∧ (s1.net.survey = none) ∧ ((rs.any fun r => r.serial == s1.serial) = false) ∧ (ringRun s1 (otherPort k) = true) ∧ ((s1.port (otherPort k)).tx = [])) ∧
    (∃ (sv : Survey) (s : State), (s.net.survey = some sv) ∧ (s.due sv.at_ 200000 = true) ∧ (sv.second = false) ∧ (ringRun s (otherPort sv.port) = true)) ∧
    (∃ (s : State), (s.fb R.NET_CTRL_ROOT = true) ∧ (s.net.yielded = false) ∧ (s.net.phase = 3) ∧ (s.due s.net.phaseAt 2000000 = true)) ∧
    (∃ (p : Packet) (q : Packet) (k : Nat) (s : State) (s1 : State), (Admits 0x02 p s q s1) ∧ (fromStation q = true) ∧ (q.payload.length = 24 + 8 * u8 q.payload 9) ∧ (u8 q.payload 9 ≠ 0) ∧ (u8 q.payload 9 ≤ 64) ∧ (u8 q.payload 8 ≤ 63) ∧ (u16 q.payload 10 = 0) ∧ (q.noReply = false) ∧ (((List.range (u8 q.payload 9)).find? fun i => leAt q.payload (24 + 8 * i) 8 == s1.serial) = some k)) ∧
    (∃ (a : Assigned) (s : State), (s.net.assigned = [a]) ∧ (a.cycle ≤ s.now / 10000) ∧ (a.addr < 4096) ∧ (a.n ≤ 64)) ∧
    (∃ (p : Packet) (q : Packet) (k : Byte) (u : Byte) (s : State) (s1 : State), (Admits 0x03 p s q s1) ∧ (fromStation q = true) ∧ (q.payload = [k, u, 0, 0]) ∧ (k.toNat ≤ 1) ∧ (u.toNat ≤ 1) ∧ (q.noReply = false) ∧ (s1.fb R.NET_STAT_ORIG = true) ∧ (s1.net.survey = none)) ∧
    (∃ (v : Word) (s : State), (accessCheck s R.NET_CTRL (w32 (setBit v.toNat 31 true)) = none) ∧ (s.fb R.NET_STAT_ORIG = true) ∧ (ringRun s 0 = true)) ∧
    (∃ (p : Packet) (q : Packet) (s : State) (s1 : State), (Admits 0x06 p s q s1) ∧ (q.payload.length = 8) ∧ (addrMode q.dest = 4 ∨ q.src % 4096 = 0) ∧ (q.noReply = false)) ∧
    (∃ (p : Packet) (q : Packet) (s : State) (s1 : State), (Admits 0x00 p s q s1) ∧ (q.payload = []) ∧ (q.noReply = false)) ∧
    (∃ (a : Nat) (b : Nat) (h : Nat) (d : Nat) (s : State), (s.fb R.NET_CTRL_ROOT = true) ∧ (s.net.yielded = false) ∧ (s.due s.net.boundAt 100000000 = true)) :=
  ⟨⟨upF [(R.NET_CTRL_ROOT, 1), (R.TRV_PSTAT_STATE 0, 2), (R.TRV_PCTL_MODE 0, 0)], by decide⟩,
    ⟨{ pk 1 1 [0, 1, 0, 0] with via := .ring 1 }, { pk 1 1 [0, 1, 0, 0] with via := .ring 1 }, 1, { port := 1 }, [], { up with net := { survey := some { port := 1 } } }, { up with net := { survey := some { port := 1 } } }, by decide⟩,
    ⟨{ pk 1 1 [0, 0, 0, 0] with via := .ring 1 }, { pk 1 1 [0, 0, 0, 0] with via := .ring 1 }, 1, [], upF [(R.TRV_PSTAT_STATE 0, 2)], upF [(R.TRV_PSTAT_STATE 0, 2)], by decide⟩,
    ⟨{ port := 1 }, { upF [(R.TRV_PSTAT_STATE 0, 2)] with net := { survey := some { port := 1 } }, lt := 200000 }, by decide⟩,
    ⟨{ upF [(R.NET_CTRL_ROOT, 1)] with net := { phase := 3 }, lt := 2000000 }, by decide⟩,
    ⟨{ pk 2 1 (leBytes 8 9 ++ [5, 1, 0, 0] ++ List.replicate 20 0) with via := .ring 1 }, { pk 2 1 (leBytes 8 9 ++ [5, 1, 0, 0] ++ List.replicate 20 0) with via := .ring 1 }, 0, up, up, by decide⟩,
    ⟨{ cycle := 2, addr := 4095, n := 64, orig := true }, { up with net := { assigned := [{ cycle := 2, addr := 4095, n := 64, orig := true }] }, now := 20000 }, by decide⟩,
    ⟨{ pk 3 1 [1, 1, 0, 0] with via := .ring 1 }, { pk 3 1 [1, 1, 0, 0] with via := .ring 1 }, 1, 1, upF [(R.NET_STAT_ORIG, 1), (R.NET_STAT_DSTATE, 2)], upF [(R.NET_STAT_ORIG, 1), (R.NET_STAT_DSTATE, 2)], by decide⟩,
    ⟨1, upF [(R.NET_STAT_ORIG, 1), (R.TRV_PSTAT_STATE 0, 2)], by decide⟩,
    ⟨pk 6 1 (leBytes 8 77), pk 6 1 (leBytes 8 77), up, up, by decide⟩,
    ⟨pk 0 1 [], pk 0 1 [], up, up, by decide⟩,
    ⟨3, 4, 1000, 500, { upF [(R.NET_CTRL_ROOT, 1)] with lt := 100000000 }, by decide⟩⟩

theorem wit_CycleAndRollCallCommandsTakeEffect :
    (∃ (w : Word) (s : State), (s.fb R.NET_CREF_EN = true)) ∧
    (∃ (p : Fin 4) (h : Nat) (body : List Byte) (s : State), (ringRun s p.val = true) ∧ (p.val < 2) ∧ (headerGood h = true) ∧ (h % 8 = 2) ∧ (rollGood body = true) ∧ (s.net.rcLast ≤ leAt body 0 8 / 10000)) ∧
    (∃ (s : State), (s.addressed = true) ∧ (s.fb R.NET_STAT_ORIG = false) ∧ (s.fb R.NET_STAT_RCLOST = false) ∧ (s.due s.net.rcAt 1000000 = true) ∧ (s.fb R.NET_STAT_TIEROLE = false) ∧ (s.dtmState ≠ dsDATUM)) ∧
    (∃ (s : State), (s.addressed = true) ∧ (s.fb R.NET_STAT_ORIG = false) ∧ (s.fb R.NET_STAT_RCLOST = false) ∧ (s.due s.net.rcAt 1000000 = true) ∧ (s.fb R.NET_STAT_TIEROLE = true)) ∧
    (∃ (s : State), (s.addressed = true) ∧ (s.fb R.NET_STAT_ORIG = false) ∧ (s.fb R.NET_STAT_RCLOST = false) ∧ (s.due s.net.rcAt 1000000 = true) ∧ (s.fb R.NET_STAT_TIEROLE = false) ∧ (s.dtmState = dsDATUM)) ∧
    (∃ (p : Fin 4) (s : State), (p.val < s.portsFit)) ∧
    (∃ (p : Packet) (q : Packet) (s : State) (s1 : State), (Admits 0x04 p s q s1) ∧ (q.payload = []) ∧ (q.noReply = false) ∧ (s1.cp.hbSrc.contains q.src = false)) ∧
    (∃ (p : Packet) (q : Packet) (s : State) (s1 : State), (Admits 0x05 p s q s1) ∧ (q.payload.length = 4) ∧ (addrMode q.dest = 2)) ∧
    (∃ (p : Packet) (q : Packet) (s : State) (s1 : State), (Admits 0x05 p s q s1) ∧ (q.payload.length = 4) ∧ (addrMode q.dest ≠ 2) ∧ (s1.fb R.NET_STAT_TIEROLE = true)) ∧
    (∃ (b : Nat) (s : State), (s.net.barPend = some b) ∧ (((s.cp.q1 ++ s.cp.q2 ++ s.cp.q3).any fun h => decide (h.at_ ≤ s.net.barAt)) = false)) ∧
    (∃ (b : Nat) (l : List Nat) (s : State), (s.fb R.NET_STAT_TIEROLE = true) ∧ (s.net.barOwn = none) ∧ (showsBarrier s b = true)) ∧
    (∃ (b : Nat) (l : List Nat) (s : State), (s.fb R.NET_STAT_TIEROLE = true) ∧ (showsBarrier s b = false)) ∧
    (∃ (p : Packet) (q : Packet) (e : Nat) (s : State) (s1 : State), (Admits 0x20 p s q s1) ∧ (q.payload = []) ∧ (namedEpoch s1 q.seqep = some e) ∧ (enteredHere q = false ∨ leadOk s1 q.seqep = true)) ∧
    (∃ (z : Snap) (s : State), (z ∈ s.net.snaps) ∧ (z.got = none) ∧ (z.epoch = s.rx.epoch)) ∧
    (∃ (z : Snap) (tag : Nat) (ws : List Nat) (c : Bool) (s : State), (s.net.snaps = [z]) ∧ (z.got = some (tag, ws, c)) ∧ (z.at_ / 10000 < s.now / 10000) ∧ (z.req.noReply = false)) ∧
    (∃ (p : Packet) (s : State), (p.ver = 1) ∧ (p.cls = 2) ∧ (p.payload.length = 16) ∧ (u8 p.payload 8 = 1) ∧ (u8 p.payload 9 ≤ 6) ∧ (u16 p.payload 10 = 0)) ∧
    (∃ (p : Packet) (s : State), (s.cp.orig = [p]) ∧ (budgetAllows p s = true)) :=
  ⟨⟨0x05001234, upF [(R.NET_CREF_EN, 1)], by decide⟩,
    ⟨1, linkHeader { ftype := 2 }, sealRoll (leBytes 8 70000 ++ [0, 1, 0, 0] ++ List.replicate 1028 0), upF [(R.TRV_PSTAT_STATE 1, 2), (R.NET_STAT_RCLOST, 1)], by decide +kernel⟩,
    ⟨{ upF [(R.NET_STAT_DSTATE, 2)] with lt := 1000000 }, by decide⟩,
    ⟨{ upF [(R.NET_STAT_DSTATE, 2), (R.NET_STAT_TIEROLE, 1)] with lt := 1000000 }, by decide⟩,
    ⟨{ upF [(R.NET_STAT_DSTATE, 2), (R.DTM_STAT_STATE, 4)] with lt := 1000000 }, by decide⟩,
    ⟨3, up, by decide⟩,
    ⟨pk 4 0 [], pk 4 0 [], { up with now := 77, net := { rcOwn := List.replicate 16 3 } }, { up with now := 77, net := { rcOwn := List.replicate 16 3 } }, by decide⟩,
    ⟨{ pk 5 0 (leBytes 4 9) with dest := 0x2000 }, { pk 5 0 (leBytes 4 9) with dest := 0x2000 }, upF [(R.NET_STAT_DSTATE, 2)], upF [(R.NET_STAT_DSTATE, 2)], by decide⟩,
    ⟨pk 5 0 (leBytes 4 9), pk 5 0 (leBytes 4 9), upF [(R.NET_STAT_TIEROLE, 1)], upF [(R.NET_STAT_TIEROLE, 1)], by decide⟩,
    ⟨9, { up with net := { barPend := some 9, barAt := 5 }, cp := { q1 := [{ at_ := 6 }] } }, by decide⟩,
    ⟨9, [65], upF [(R.NET_STAT_TIEROLE, 1)], by decide⟩,
    ⟨1, [65], { upF [(R.NET_STAT_TIEROLE, 1)] with net := { rcBuf := [(0, List.replicate 16 1)] } }, by decide⟩,
    ⟨{ pk 0x20 0 [] with seqep := 4096 }, { pk 0x20 0 [] with seqep := 4096 }, 4096, up, up, by decide⟩,
    ⟨{ epoch := 4 }, { up with net := { snaps := [{ epoch := 4 }] }, rx := { epoch := 4, tag := 7, words := [1, 2] }, now := 900 }, by decide⟩,
    ⟨{ epoch := 4, got := some (7, [1, 2], false) }, 7, [1, 2], false, { up with net := { snaps := [{ epoch := 4, got := some (7, [1, 2], false) }] }, now := 10000 }, by decide⟩,
    ⟨{ pk 0x24 2 (leBytes 8 5 ++ [1, 0, 0, 0] ++ leBytes 4 99) with src := 7 }, up, by decide⟩,
    ⟨pk 0x25 2 [1], { up with cp := { orig := [pk 0x25 2 [1]] } }, by decide⟩⟩

theorem wit_DatumCommandsTakeEffect :
    (∃ (s : State), (s.sysUp = true)) ∧
    (∃ (p : Fin 4) (l : Nat) (j : Fin 4) (b : List Byte) (x : Nat) (s : State), (ringRun s p.val = true) ∧ (u8 b 6 = crc8 (b.take 6)) ∧ ((u8 b 0).testBit 7 = true) ∧ (s.dtmState = dsFREE)) ∧
    (∃ (p : Fin 4) (l : Nat) (j : Fin 4) (b : List Byte) (x : Nat) (s : State), (ringRun s p.val = true) ∧ (u8 b 6 ≠ crc8 (b.take 6))) ∧
    (∃ (p : Fin 4) (b : List Byte) (m : Nat) (s : State), (blockCrcOk b = true) ∧ (s.portState p.val = poRUN) ∧ (s.portMode p.val ≠ 2) ∧ (u8 b 0 < 128)) ∧
    (∃ (p : Fin 4) (b : List Byte) (m : Nat) (s : State), (blockCrcOk b = true) ∧ (s.portState p.val = poRUN) ∧ (s.portMode p.val ≠ 2) ∧ (128 ≤ u8 b 0) ∧ ((s.port p.val).dlyWait = true) ∧ ((s.port p.val).dlySeq = u8 b 0 % 128) ∧ ((s.port p.val).dly = []) ∧ (leAt b 1 4 ≤ m)) ∧
    (∃ (s : State), (s.dtmState = dsACQ ∨ s.dtmState = dsLOCK) ∧ (selectable s 1 (s.fg R.DTM_STAT_UP) = false) ∧ (bestPort s 1 = none)) ∧
    (∃ (t0 : Nat) (s : State), (s.dtm.waitAt = some t0) ∧ (s.dtmState = dsDATUM) ∧ (s.dtm.running = false) ∧ (s.due t0 (100000000 * s.fg R.DTM_CTRL_GMWAIT) = true)) ∧
    (∃ (r : Bool) (s : State), (r ≠ s.fb R.DTM_CTRL_PPSPOL)) ∧
    (∃ (t0 : Nat) (v : Nat) (s : State), (s.dtm.ppsAt = some t0) ∧ (s.dtm.ppsArm = some v) ∧ (s.fg R.DTM_CTRL_SRC = 1) ∧ (s.dtmState = dsDATUM) ∧ (s.dtm.running = false) ∧ (s.lt ≤ t0 + 1100000000) ∧ (s.fb R.DTM_CTRL_PPSPOL = false)) ∧
    (∃ (v : Word) (t0 : Nat) (s : State), (accessCheck s R.DTM_TODHI v = none) ∧ (s.dtm.ppsAt = some t0) ∧ (t0 + 100000000 ≤ s.lt) ∧ (s.lt ≤ t0 + 900000000)) ∧
    (∃ (t0 : Nat) (s : State), (s.dtm.ppsAt = some t0) ∧ (s.fg R.DTM_CTRL_SRC = 1) ∧ (s.dtm.refOk = true) ∧ (s.due t0 2000000000 = true)) ∧
    (∃ (p : Fin 4) (q : Nat) (two : Bool) (ts : Int) (co : Int) (s : State), (s.portMode p.val = 2) ∧ (s.portState p.val = poRUN) ∧ (s.dtmState = dsDATUM) ∧ (s.fg R.DTM_PTPCFG_PORT = p.val) ∧ (s.fb R.DTM_PTPCFG_MASTER = true)) :=
  ⟨⟨{ up with now := 0x123456789ABC }, by decide⟩,
    ⟨1, 1, 2, [0x85, 1, 0, 2, 0, 9] ++ leBytes 1 (crc8 [0x85, 1, 0, 2, 0, 9]), 0, upF [(R.TRV_PSTAT_STATE 1, 2), (R.DTM_STAT_STATE, 0)], by decide +kernel⟩,
    ⟨1, 1, 2, [0x85, 1, 0, 2, 0, 9, 0], 0, upF [(R.TRV_PSTAT_STATE 1, 2)], by decide +kernel⟩,
    ⟨1, [5, 1, 2, 3, 4] ++ leBytes 2 (hcs [5, 1, 2, 3, 4]), 99, upF [(R.TRV_PSTAT_STATE 1, 2)], by decide +kernel⟩,
    ⟨1, [0x85, 10, 0, 0, 0] ++ leBytes 2 (hcs [0x85, 10, 0, 0, 0]), 99, { upF [(R.TRV_PSTAT_STATE 1, 2)] with trv := { ports := [(1, { dlyWait := true, dlySeq := 5 })] } }, by decide +kernel⟩,
    ⟨upF [(R.DTM_STAT_STATE, 2), (R.DTM_STAT_UP, 1), (R.DTM_STAT_DEPTH, 4)], by decide⟩,
    ⟨0, { upF [(R.DTM_STAT_STATE, 4), (R.DTM_CTRL_GMWAIT, 1)] with dtm := { waitAt := some 0 }, lt := 100000000 }, by decide⟩,
    ⟨true, { upF [(R.DTM_CTRL_PPSPOL, 0)] with dtm := { ppsArm := some 5 } }, by decide⟩,
    ⟨0, 5000, { upF [(R.DTM_CTRL_PPSPOL, 0), (R.DTM_CTRL_SRC, 1), (R.DTM_STAT_STATE, 4)] with dtm := { ppsArm := some 5000, ppsAt := some 0 }, lt := 1000000000, now := 7 }, by decide⟩,
    ⟨3, 0, { upF [(R.DTM_TODLO_TOD, 9)] with dtm := { ppsAt := some 0 }, lt := 500000000 }, by decide⟩,
    ⟨0, { upF [(R.DTM_CTRL_SRC, 1), (R.DTM_STAT_TRACE, 1)] with dtm := { ppsAt := some 0, refOk := true }, lt := 2000000000 }, by decide⟩,
    ⟨1, 77, true, 0, 0, { upF [(R.TRV_PSTAT_STATE 1, 2), (R.TRV_PCTL_MODE 1, 2), (R.DTM_STAT_STATE, 4), (R.DTM_PTPCFG_PORT, 1), (R.DTM_PTPCFG_MASTER, 1)] with now := 123, trv := { ports := [(1, { mode := 2 })] } }, by decide⟩⟩

theorem wit_RegisterAccessTakesEffect :
    (∃ (a : BitVec 24) (v : Word) (r : RegRow) (s : State), (findReg a.toNat = some r) ∧ (accessCheck s a.toNat v = none) ∧ (writeRule a.toNat v s = plainWrite a.toNat v s) ∧ (prfHeld s a.toNat = false)) ∧
    (∃ (p : Packet) (q : Packet) (vs : List Word) (s : State) (s1 : State), (Admits 0x10 p s q s1) ∧ (q.noReply = false) ∧ (u8 q.payload 0 = vs.length) ∧ (q.payload.length = 4 + 4 * vs.length) ∧ (1 ≤ vs.length) ∧ (vs.length ≤ 64) ∧ (leAt q.payload 1 3 = 0) ∧ (∀ i ∈ List.range vs.length, readReg q.parcel (u32 q.payload (4 + 4 * i)) s1 = (.ok, vs.getD i 0, s1))) ∧
    (∃ (p : Packet) (q : Packet) (st : Stat) (v : Word) (s : State) (s1 : State) (s2 : State), (Admits 0x10 p s q s1) ∧ (q.noReply = false) ∧ (q.payload.length = 8) ∧ (leAt q.payload 0 4 = 1) ∧ (readReg q.parcel (u32 q.payload 4) s1 = (st, v, s2))) ∧
    (∃ (p : Packet) (q : Packet) (st : Stat) (s : State) (s1 : State) (s2 : State), (Admits 0x11 p s q s1) ∧ (q.noReply = false) ∧ (q.payload.length = 12) ∧ (leAt q.payload 0 4 = 1) ∧ (s1.sysUp = true) ∧ (writeReg q.parcel (u32 q.payload 4) (w32 (u32 q.payload 8)) s1 = (st, s2)) ∧ (s2.sysUp = true)) ∧
    (∃ (p : Packet) (q : Packet) (old : Word) (s : State) (s1 : State) (s2 : State) (s3 : State), (Admits 0x12 p s q s1) ∧ (q.noReply = false) ∧ (q.payload.length = 12) ∧ (readReg q.parcel (u32 q.payload 0) s1 = (.ok, old, s2)) ∧ (writeReg q.parcel (u32 q.payload 0) (w32 ((old.toNat &&& (0xFFFFFFFF ^^^ u32 q.payload 4)) |||
      (u32 q.payload 8 &&& u32 q.payload 4))) s2 = (.ok, s3)) ∧ (s3.sysUp = true)) ∧
    (∃ (p : Packet) (q : Packet) (vs : List Word) (s : State) (s1 : State), (Admits 0x13 p s q s1) ∧ (q.noReply = false) ∧ (q.payload.length = 8) ∧ (u16 q.payload 4 = vs.length) ∧ (1 ≤ vs.length) ∧ (vs.length ≤ 496) ∧ (u16 q.payload 6 = 0) ∧ (∀ i ∈ List.range vs.length, readReg q.parcel (u32 q.payload 0 + 4 * i) s1 = (.ok, vs.getD i 0, s1))) :=
  ⟨⟨0x130014, 0x1234, ⟨0x130014, [], 0xFFFFFFFF, 0, 0, 0, 0, 0, 0⟩, up, by decide⟩,
    ⟨pk 0x10 1 ([2, 0, 0, 0] ++ leBytes 4 4 ++ leBytes 4 0), pk 0x10 1 ([2, 0, 0, 0] ++ leBytes 4 4 ++ leBytes 4 0), [0xA0A0A0, 0x1F484880], up, up, by decide⟩,
    ⟨pk 0x10 1 ([1, 0, 0, 0] ++ leBytes 4 R.DTM_NOWLO), pk 0x10 1 ([1, 0, 0, 0] ++ leBytes 4 R.DTM_NOWLO), .ok, 7, { up with now := 7 }, { up with now := 7 }, (dtmNowRead { up with now := 7 }).2, by decide⟩,
    ⟨pk 0x11 1 ([1, 0, 0, 0] ++ leBytes 4 0x130014 ++ leBytes 4 5), pk 0x11 1 ([1, 0, 0, 0] ++ leBytes 4 0x130014 ++ leBytes 4 5), .ok, up, up, up.setReg 0x130014 5, by decide⟩,
    ⟨pk 0x12 1 (leBytes 4 0x130014 ++ leBytes 4 15 ++ leBytes 4 0x35), pk 0x12 1 (leBytes 4 0x130014 ++ leBytes 4 15 ++ leBytes 4 0x35), 0x70, up.setReg 0x130014 0x70, up.setReg 0x130014 0x70, up.setReg 0x130014 0x70, up.setReg 0x130014 0x75, by decide⟩,
    ⟨pk 0x13 2 (leBytes 4 0 ++ leBytes 2 2 ++ [0, 0]), pk 0x13 2 (leBytes 4 0 ++ leBytes 2 2 ++ [0, 0]), [0x1F484880, 0xA0A0A0], up, up, by decide⟩⟩

theorem wit_PacketIntakeAndQueuesTakeEffect :
    (∃ (p : Fin 4) (i : Fin 2) (lanes : List Nat) (f : Frame) (q : Packet) (s : State) (s1 : State), (Listens p lanes s) ∧ Sendable f ∧ (f.abort = false) ∧ (s.portMode p.val = 1) ∧ (bitsOf (linkHeader f) 0 3 = 1) ∧ (bitsOf (linkHeader f) 3 2 = 1) ∧ (crcGood f.body = true) ∧ (Admits (parsePacket (.host p.val) f.body).opcode (parsePacket (.host p.val) f.body) s q s1) ∧ ((parsePacket (.host p.val) f.body).cls = 1) ∧ (q.cls = 1) ∧ (fastPath q.opcode = false) ∧ ((parsePacket (.host p.val) f.body).opcode ∉ [0x24, 0x25]) ∧ ((parsePacket (.host p.val) f.body).opcode < 128) ∧ (srcOk s (parsePacket (.host p.val) f.body) = true) ∧ (destBeyond s (parsePacket (.host p.val) f.body) = false) ∧ (forHost s (parsePacket (.host p.val) f.body) = false) ∧ (destHere s (parsePacket (.host p.val) f.body) = true) ∧ (s1.cp.q1.length < 24)) ∧
    (∃ (p : Fin 4) (i : Fin 2) (lanes : List Nat) (f : Frame) (s : State), (Listens p lanes s) ∧ Sendable f ∧ (f.abort = false) ∧ (s.portMode p.val = 0) ∧ (headerHost (linkHeader f) = false) ∧ (bitsOf (linkHeader f) 0 3 = 1) ∧ (crcGood f.body = true) ∧ (s.addressed = true) ∧ (bitsOf (linkHeader f) 8 12 ≠ s.ownAddr) ∧ (isDuplicate s (headerFrame (linkHeader f) f.body) = false) ∧ ((parsePacket (.ring p.val) f.body).opcode ∉ [1, 2]) ∧ (addrMode (parsePacket (.ring p.val) f.body).dest = 0) ∧ (addrField (parsePacket (.ring p.val) f.body).dest ≠ s.ownAddr) ∧ (bitsOf (linkHeader f) 20 7 ≠ 0) ∧ (ringRun s (otherPort p.val) = true) ∧ (s.fb R.NET_STAT_TIEROLE = false) ∧ ((s.port (otherPort p.val)).tx = []) ∧ (f.body.length ≤ 2068)) ∧
    (∃ (p : Fin 4) (i : Fin 2) (lanes : List Nat) (f : Frame) (s : State), (Listens p lanes s) ∧ Sendable f ∧ (f.abort = true) ∧ (f.body.length ≤ 2068)) ∧
    (∃ (b : List Byte) (q : Packet) (s : State) (s1 : State), (s.sideBusy = false) ∧ (crcGood b = true) ∧ (s.hst.rx = []) ∧ (Admits (parsePacket .side b).opcode (parsePacket .side b) s q s1) ∧ ((parsePacket .side b).cls = 1) ∧ (q.cls = 1) ∧ (fastPath q.opcode = false) ∧ ((parsePacket .side b).opcode ∉ [0x24, 0x25]) ∧ (srcOk s (parsePacket .side b) = true) ∧ (destBeyond s (parsePacket .side b) = false) ∧ (forHost s (parsePacket .side b) = false) ∧ (destHere s (parsePacket .side b) = true) ∧ (s1.cp.q1.length < 24)) ∧
    (∃ (b : List Byte) (s : State), (s.sysUp = true) ∧ (s.cpRuns = false) ∧ (s.hst.rx.length < 2) ∧ (crcGood b = true) ∧ (fastPath (leAt b 2 1) = false)) ∧
    (∃ (b : List Byte) (s : State), (s.sysUp = true) ∧ (s.hst.rx.length < 2) ∧ (crcGood b = false)) ∧
    (∃ (p : Fin 4) (d : BitVec 48) (sr : BitVec 48) (tg : BitVec 16) (et : BitVec 16) (n : Nat) (b : List Byte) (q : Packet) (s : State) (s1 : State), (s.sysUp = true) ∧ (p.val < s.portsFit) ∧ (s.portMode p.val = 2) ∧ (s.portState p.val = poRUN) ∧ (64 ≤ n) ∧ (n ≤ 2090) ∧ (d.toNat = stationMac s) ∧ (et.toNat = s.fg R.HST_ETHCFG_ETYPE) ∧ (et.toNat ≠ 0x88F7) ∧ (crcGood (etherPacket b) = true) ∧ (Admits (parsePacket (.host p.val) (etherPacket b)).opcode (parsePacket (.host p.val) (etherPacket b))
      (etherSeen p.val sr.toNat tg.toNat b s) q s1) ∧ ((parsePacket (.host p.val) (etherPacket b)).cls = 1) ∧ (q.cls = 1) ∧ (fastPath q.opcode = false) ∧ ((parsePacket (.host p.val) (etherPacket b)).opcode ∉ [0x24, 0x25]) ∧ (srcOk s (parsePacket (.host p.val) (etherPacket b)) = true) ∧ (destBeyond s (parsePacket (.host p.val) (etherPacket b)) = false) ∧ (forHost s (parsePacket (.host p.val) (etherPacket b)) = false) ∧ (destHere s (parsePacket (.host p.val) (etherPacket b)) = true) ∧ (s1.cp.q1.length < 24)) ∧
    (∃ (p : Fin 4) (d : BitVec 48) (sr : BitVec 48) (tg : BitVec 16) (et : BitVec 16) (n : Nat) (b : List Byte) (s : State), (s.sysUp = true) ∧ (p.val < s.portsFit) ∧ (s.portMode p.val = 2) ∧ (s.portState p.val = poRUN)) ∧
    (∃ (p : Packet) (s : State), (s.sysUp = true) ∧ (128 ≤ p.opcode) ∧ (addrMode p.dest = 0) ∧ (addrField p.dest = s.ownAddr) ∧ (p.tag ∈ s.cp.await) ∧ (p.opcode ≠ 0xE3)) ∧
    (∃ (h : Held) (l : List Held) (s : State), (s.cpRuns = true) ∧ (s.cp.q1 = h :: l) ∧ (h.interim = false) ∧ (s.due h.at_ 1000000 = true)) ∧
    (∃ (h : Held) (l : List Held) (s : State), (s.cpRuns = true) ∧ (s.cp.q1 = h :: l) ∧ (s.due h.at_ 10000000 = true)) ∧
    (∃ (h : Held) (l : List Held) (s : State), (s.cpRuns = true) ∧ (s.cp.q1 = []) ∧ (s.cp.q2 = h :: l) ∧ (s.due h.at_ 100000000 = true)) ∧
    (∃ (bad : List Nat) (h : Held) (l : List Held) (s : State), (s.cpRuns = true) ∧ (s.hst.rx = []) ∧ (s.cp.q1 = h :: l) ∧ (blocked s h.pkt = false)) ∧
    (∃ (bad : List Nat) (h : Held) (l : List Held) (s : State), (s.cpRuns = true) ∧ (s.hst.rx = []) ∧ (startable s s.cp.q1 = none) ∧ (s.cp.q2 = h :: l) ∧ (blocked s h.pkt = false)) :=
  ⟨⟨0, 0, [0], { cls := 1, body := packetBytes { pk 0x10 1 [1, 0, 0, 0, 1, 0, 0, 0] with src := 0x8000 } }, { pk 0x10 1 [1, 0, 0, 0, 1, 0, 0, 0] with src := 0x8000, via := .host 0 }, ((upF [(R.TRV_PSTAT_STATE 0, 2), (R.TRV_PSTAT_RXL 0, 1), (R.TRV_PERR_LIMIT 0, 20)]).setPort 0 { mode := 1, acc := true }), ((upF [(R.TRV_PSTAT_STATE 0, 2), (R.TRV_PSTAT_RXL 0, 1), (R.TRV_PERR_LIMIT 0, 20)]).setPort 0 { mode := 1, acc := true }), by decide +kernel⟩,
    ⟨1, 1, [0, 1], { cls := 1, origin := 9, ttl := 4, fseq := 77, body := packetBytes { pk 0x10 1 [1, 0, 0, 0, 1, 0, 0, 0] with dest := 3 } }, ((upF [(R.TRV_PSTAT_STATE 0, 2), (R.TRV_PSTAT_STATE 1, 2), (R.TRV_PSTAT_RXL 1, 3), (R.TRV_PERR_LIMIT 1, 20), (R.NET_STAT_ADDR, 5), (R.NET_STAT_DSTATE, 2)]).setPort 1 { acc := true }), by decide +kernel⟩,
    ⟨1, 0, [1], { cls := 1, body := [1, 2, 3, 4, 5, 6, 7, 8, 9], abort := true }, ((upF [(R.TRV_PSTAT_STATE 1, 2), (R.TRV_PSTAT_RXL 1, 2), (R.TRV_PERR_LIMIT 1, 20)]).setPort 1 { acc := true }), by decide +kernel⟩,
    ⟨packetBytes { pk 0x10 1 [] with src := 0xC000 }, { pk 0x10 1 [] with src := 0xC000 }, up, up, by decide +kernel⟩,
    ⟨packetBytes (pk 0x10 1 []), { up with rst := { stackUp := true, cpHeld := true } }, by decide +kernel⟩,
    ⟨[1, 2, 3], up, by decide⟩,
    ⟨0, 0x020000000005, 6, 7, 0x88B5, 64, packetBytes { pk 0x10 1 [] with src := 0x8000 } ++ [0, 0], { pk 0x10 1 [] with src := 0x8000, via := .host 0 }, (upF [(R.TRV_PSTAT_STATE 0, 2), (⟨R.HST_MACLO, 0, 32⟩, 5), (R.HST_ETHCFG_ETYPE, 0x88B5)]).setPort 0 { mode := 2 }, etherSeen 0 6 7 (packetBytes { pk 0x10 1 [] with src := 0x8000 } ++ [0, 0]) ((upF [(R.TRV_PSTAT_STATE 0, 2), (⟨R.HST_MACLO, 0, 32⟩, 5), (R.HST_ETHCFG_ETYPE, 0x88B5)]).setPort 0 { mode := 2 }), by decide +kernel⟩,
    ⟨0, 5, 6, 7, 8, 64, [], (upF [(R.TRV_PSTAT_STATE 0, 2)]).setPort 0 { mode := 2 }, by decide⟩,
    ⟨{ pk 0xE1 1 [] with dest := 0, tag := 9 }, { up with cp := { await := [9] } }, by decide⟩,
    ⟨{ pkt := pk 0x10 1 [] }, [], { up with cp := { q1 := [{ pkt := pk 0x10 1 [] }] }, lt := 1000000 }, by decide⟩,
    ⟨{ pkt := pk 0x10 1 [] }, [], { up with cp := { q1 := [{ pkt := pk 0x10 1 [] }] }, lt := 10000000 }, by decide⟩,
    ⟨{ pkt := pk 0x53 2 [] }, [], { up with cp := { q2 := [{ pkt := pk 0x53 2 [] }] }, lt := 100000000 }, by decide⟩,
    ⟨[], { pkt := pk 0x10 1 [1, 0, 0, 0, 4, 0, 0, 0] }, [], { up with cp := { q1 := [{ pkt := pk 0x10 1 [1, 0, 0, 0, 4, 0, 0, 0] }] } }, by decide⟩,
    ⟨[], { pkt := pk 0x53 2 [9, 0, 0, 0] }, [], { up with cp := { q2 := [{ pkt := pk 0x53 2 [9, 0, 0, 0] }] } }, by decide⟩⟩

theorem wit_CaptureCommandsTakeEffect :
    (∃ (m : Nat) (s : State), (s.smp.frame.words.length = 52) ∧ (∀ w ∈ s.smp.frame.words, w < 2 ^ 20) ∧ (popCount 22 s.bar.rxMap < 16) ∧ (remapping s = false)) ∧
    (∃ (m : Nat) (i : Nat) (s : State), (s.smp.frame.words.length = 52) ∧ (1040 ≤ i) ∧ (i < 1050) ∧ (popCount 22 s.bar.rxMap < 16) ∧ (s.smp.frame.conv = true)) ∧
    (∃ (e : Nat) (m : Nat) (s : State), (s.smp.frame.words.length = 52) ∧ (popCount 22 s.bar.rxMap < 16) ∧ (s.smp.frame.conv = true) ∧ (remapping s = true)) ∧
    (∃ (e : Nat) (m : Nat) (s : State), (s.smp.frame.words.length = 52) ∧ (16 ≤ popCount 22 s.bar.rxMap)) ∧
    (∃ (e : Nat) (m : Nat) (k : Fin 16) (c : CapBuf) (s : State), (s.smp.frame.words.length = 52) ∧ (s.buf k.val = c) ∧ (s.fg (R.CAP_B_W6_STATE k.val) = 2) ∧ (m.testBit k.val = false) ∧ (capServes s = true) ∧ (∀ j ∈ List.range 16, j = k.val ∨ s.fg (R.CAP_B_W6_STATE j) ≠ 2 ∧ s.fg (R.CAP_B_W6_STATE j) ≠ 3) ∧ ((s.smp.frame.epoch + 1) % s.fg (R.CAP_B_W0_DEC k.val) = 0) ∧ (c.isOpen = true) ∧ (c.hit = false) ∧ (s.smp.frame.tag / 2 ^ 59 = c.tag / 2 ^ 59) ∧ (s.smp.frame.epoch = c.e0 + c.n * s.fg (R.CAP_B_W0_DEC k.val)) ∧ (c.n + 1 < recPerBlock (s.bufChannels k.val).length)) ∧
    (∃ (p : Packet) (q : Packet) (a : List Nat) (b : List Nat) (f : Nat × Nat) (s : State) (s1 : State), (Admits 0x21 p s q s1) ∧ (q.noReply = false) ∧ (s1.capFit = true) ∧ (q.payload.length = 48) ∧ (a = (List.range 6).map (fun j => u32 q.payload (4 * j))) ∧ (b = (List.range 6).map (fun j => u32 q.payload (24 + 4 * j))) ∧ (capWordsBad a = false) ∧ (capWordsBad b = false) ∧ (s1.fg (R.CAD_PCAP_CAPSZ q.parcel) ≠ 0) ∧ (a.getD 3 0 + a.getD 4 0 ≤ s1.fg (R.CAD_PCAP_CAPSZ q.parcel) * 256) ∧ (b.getD 3 0 + b.getD 4 0 ≤ s1.fg (R.CAD_PCAP_CAPSZ q.parcel) * 256) ∧ (b.getD 3 0 + b.getD 4 0 ≤ a.getD 3 0 ∨ a.getD 3 0 + a.getD 4 0 ≤ b.getD 3 0) ∧ ((capChannels (a.getD 1 0) (a.getD 2 0) ++ capChannels (b.getD 1 0) (b.getD 2 0)).all (s1.chanOk q.parcel) = true) ∧ (f = [a, b].foldl (fun x w => if (w.getD 0 0).testBit 31 then addFrac x (tapLoad (w.getD 0 0 % 65536)
      (capChannels (w.getD 1 0) (w.getD 2 0)).length) else x) (planLoad s1 q.parcel)) ∧ (f.1 ≤ 24000000000 * f.2) ∧ (s1.fb R.PWR_CTRL_CAPOFF = false) ∧ (R.CAP_B_W6 (2 * q.parcel) ∉ replyCounters q.via) ∧ (R.CAP_B_W6 (2 * q.parcel + 1) ∉ replyCounters q.via)) ∧
    (∃ (k : Fin 16) (e : Nat) (w : List Word) (s : State), ((s.buf k.val).pend = [(e, w)]) ∧ (e ≤ s.epoch) ∧ (w.length = 6) ∧ (∀ j ∈ List.range 16, j = k.val ∨ (s.buf j).pend = []) ∧ ((w.getD 0 0).toNat.testBit 31 = true)) ∧
    (∃ (p : Packet) (q : Packet) (k : Fin 16) (s : State) (s1 : State), (Admits 0x22 p s q s1) ∧ (q.noReply = false) ∧ (s1.capFit = true) ∧ (q.payload.length = 8) ∧ (u64 q.payload 0 < 2 ^ 16) ∧ ((u64 q.payload 0).testBit k.val = true) ∧ (q.parcel = 0 ∨ ∀ j ∈ List.range 16, (u64 q.payload 0).testBit j = true → j / 2 = q.parcel) ∧ (s1.fg (R.CAP_B_W6_STATE k.val) = 2) ∧ ((s1.fg (R.CAP_B_W0_TRIG k.val)).testBit 0 = true) ∧ (R.CAP_B_W6 k.val ∉ replyCounters q.via) ∧ (R.CAP_B_W7 k.val ∉ replyCounters q.via)) ∧
    (∃ (k : Fin 16) (s : State), (s.fg (R.CAP_B_W6_STATE k.val) = 3) ∧ ((s.buf k.val).hit = true) ∧ ((s.buf k.val).post = 0)) ∧
    (∃ (p : Packet) (q : Packet) (bad : List Nat) (s : State) (s1 : State), (Admits 0x23 p s q s1) ∧ (q.noReply = false) ∧ (s1.capFit = true) ∧ (q.payload.length = 16) ∧ (u8 q.payload 0 ≤ 15) ∧ (leAt q.payload 1 3 = 0) ∧ (u16 q.payload 14 = 0) ∧ (64 ≤ u16 q.payload 12) ∧ (u16 q.payload 12 ≤ 2000) ∧ (u16 q.payload 12 % 4 = 0) ∧ (q.parcel = 0 ∨ u8 q.payload 0 / 2 = q.parcel) ∧ (s1.fg (R.CAP_B_W6_STATE (u8 q.payload 0)) = 0 ∨ s1.fg (R.CAP_B_W6_STATE (u8 q.payload 0)) = 4) ∧ (u64 q.payload 4 + u16 q.payload 12 ≤ s1.fg (R.CAP_B_W4_SIZE (u8 q.payload 0)) * 4096) ∧ (capServes s1 = true) ∧ (∀ u ∈ bad, u < u64 q.payload 4 / 64 ∨ (u64 q.payload 4 + u16 q.payload 12 - 1) / 64 < u)) ∧
    (∃ (p : Packet) (q : Packet) (s : State) (s1 : State), (Admits 0x23 p s q s1) ∧ (q.noReply = false) ∧ (s1.capFit = true) ∧ (q.payload.length = 16) ∧ (u8 q.payload 0 ≤ 15) ∧ (leAt q.payload 1 3 = 0) ∧ (u16 q.payload 14 = 0) ∧ (u16 q.payload 12 = 64) ∧ (u64 q.payload 4 % 64 = 0) ∧ (q.parcel = 0 ∨ u8 q.payload 0 / 2 = q.parcel) ∧ (s1.fg (R.CAP_B_W6_STATE (u8 q.payload 0)) = 0 ∨ s1.fg (R.CAP_B_W6_STATE (u8 q.payload 0)) = 4) ∧ (u64 q.payload 4 + 64 ≤ s1.fg (R.CAP_B_W4_SIZE (u8 q.payload 0)) * 4096) ∧ (capServes s1 = true) ∧ (R.CAP_B_W6 (u8 q.payload 0) ∉ replyCounters q.via) ∧ (R.FLT_ISL islDRC ∉ replyCounters q.via)) :=
  ⟨⟨0, { up with smp := { frame := { epoch := 3, tag := 9, words := List.replicate 52 0x81234 } } }, by decide +kernel⟩,
    ⟨0, 1049, { up with smp := { frame := { epoch := 3, tag := 9, words := List.replicate 52 0x81234 } } }, by decide +kernel⟩,
    ⟨5, 0, { up with smp := { frame := { epoch := 3, tag := 9, words := List.replicate 52 0x81234 } }, bar := { failed := 4 } }, by decide +kernel⟩,
    ⟨5, 0, { up with smp := { frame := { epoch := 3, tag := 9, words := List.replicate 52 0x81234 } }, bar := { rxMap := 65535 } }, by decide +kernel⟩,
    ⟨0, 0, 15, { isOpen := true, e0 := 2, n := 1, tag := 9 }, { upR [(R.CAP_B_W0 15, 0x80000001), (R.CAP_B_W1 15, 5), (R.CAP_B_W4 15, 2), (R.CAP_B_W6 15, 0x40000000)] with smp := { frame := { epoch := 3, tag := 9, words := List.replicate 52 0x81234 } }, cap := { bufs := [(15, { isOpen := true, e0 := 2, n := 1, tag := 9 })] }, dom := { step := [(domDRAM, 4), (domDPHY, 4)] } }, by decide +kernel⟩,
    ⟨pk 0x21 1 (leBytes 4 0x81000001 ++ leBytes 4 1 ++ leBytes 4 0 ++ leBytes 4 0 ++ leBytes 4 2 ++ leBytes 4 9 ++ leBytes 4 0x01000001 ++ leBytes 4 2 ++ leBytes 4 0 ++ leBytes 4 2 ++ leBytes 4 2 ++ leBytes 4 9), pk 0x21 1 (leBytes 4 0x81000001 ++ leBytes 4 1 ++ leBytes 4 0 ++ leBytes 4 0 ++ leBytes 4 2 ++ leBytes 4 9 ++ leBytes 4 0x01000001 ++ leBytes 4 2 ++ leBytes 4 0 ++ leBytes 4 2 ++ leBytes 4 2 ++ leBytes 4 9), [0x81000001, 1, 0, 0, 2, 9], [0x01000001, 2, 0, 2, 2, 9], (20000000 * 4096 * 8, 1020), upF [(R.CAD_PCAP_CAPSZ 0, 1)], upF [(R.CAD_PCAP_CAPSZ 0, 1)], by decide +kernel⟩,
    ⟨15, 1024, [0x80000001, 1, 0, 0, 2, 9], { upR [(R.CAP_B_W6 15, 0x20000077)] with now := 60000, cap := { bufs := [(15, { pend := [(1024, [0x80000001, 1, 0, 0, 2, 9])], n := 4 })] } }, by decide⟩,
    ⟨pk 0x22 1 (leBytes 8 0x8000), pk 0x22 1 (leBytes 8 0x8000), 15, upR [(R.CAP_B_W0 15, 0x81000001), (R.CAP_B_W6 15, 0x40000000)], upR [(R.CAP_B_W0 15, 0x81000001), (R.CAP_B_W6 15, 0x40000000)], by decide⟩,
    ⟨15, { upR [(R.CAP_B_W6 15, 0x60400000)] with cap := { bufs := [(15, { hit := true, isOpen := true, n := 7 })] } }, by decide⟩,
    ⟨pk 0x23 3 ([15, 0, 0, 0] ++ leBytes 8 64 ++ leBytes 2 64 ++ [0, 0]), pk 0x23 3 ([15, 0, 0, 0] ++ leBytes 8 64 ++ leBytes 2 64 ++ [0, 0]), [0, 2], { upR [(R.CAP_B_W4 15, 2)] with cap := { dram := [(64, 7), (127, 9)] }, dom := { step := [(domDRAM, 4), (domDPHY, 4)] } }, { upR [(R.CAP_B_W4 15, 2)] with cap := { dram := [(64, 7), (127, 9)] }, dom := { step := [(domDRAM, 4), (domDPHY, 4)] } }, by decide +kernel⟩,
    ⟨pk 0x23 3 ([15, 0, 0, 0] ++ leBytes 8 64 ++ leBytes 2 64 ++ [0, 0]), pk 0x23 3 ([15, 0, 0, 0] ++ leBytes 8 64 ++ leBytes 2 64 ++ [0, 0]), { upR [(R.CAP_B_W4 15, 2)] with cap := { dram := [(64, 7), (127, 9)] }, dom := { step := [(domDRAM, 4), (domDPHY, 4)] } }, { upR [(R.CAP_B_W4 15, 2)] with cap := { dram := [(64, 7), (127, 9)] }, dom := { step := [(domDRAM, 4), (domDPHY, 4)] } }, by decide +kernel⟩⟩

theorem wit_NvCommandsTakeEffect :
    (∃ (p : Packet) (q : Packet) (b : NvBuf) (img : List Byte) (s : State) (s1 : State), (Admits 0x78 p s q s1) ∧ (q.noReply = false) ∧ (q.payload.length = 4 + u8 q.payload 3) ∧ (u8 q.payload 3 ≠ 0) ∧ (u8 q.payload 2 + u8 q.payload 3 ≤ 128) ∧ (nvInside s1 q.parcel (128 * u16 q.payload 0 + u8 q.payload 2) (u8 q.payload 3) = true ∨ q.parcel = 0 ∧ u16 q.payload 0 = 0 ∧
      96 ≤ u8 q.payload 2 ∧ u8 q.payload 2 + u8 q.payload 3 ≤ 124 ∧ leAt (s1.nvPage 0) 76 4 = 0) ∧ (s1.nvBuf = some b ∨ s1.nvBuf = none ∧ b = { owner := q.parcel }) ∧ (b.owner = q.parcel) ∧ (bufFrozen s1 = false) ∧ ((b.pages.any fun (e : Nat × List Byte) => e.1 == u16 q.payload 0) = true ∨ b.pages.length < 8) ∧ (img = (Smap.get (fun i => s1.nvPage i) b.pages (u16 q.payload 0)).take (u8 q.payload 2) ++ q.payload.drop 4 ++
      (Smap.get (fun i => s1.nvPage i) b.pages (u16 q.payload 0)).drop (u8 q.payload 2 + u8 q.payload 3))) ∧
    (∃ (p : Packet) (q : Packet) (b : NvBuf) (s : State) (s1 : State), (Admits 0x79 p s q s1) ∧ (q.payload = [0, 0, 0, 0]) ∧ (s1.nvBuf = some b) ∧ (b.owner = q.parcel) ∧ (b.pages ≠ []) ∧ (s1.nv.jphase = 0)) ∧
    (∃ (p : Packet) (q : Packet) (b : NvBuf) (s : State) (s1 : State), (Admits 0x79 p s q s1) ∧ (q.noReply = false) ∧ (q.payload = [1, 0, 0, 0]) ∧ (s1.nvBuf = some b) ∧ (b.owner = q.parcel) ∧ (b.pages ≠ []) ∧ (s1.nv.jphase = 0)) ∧
    (∃ (p : Packet) (q : Packet) (s : State) (s1 : State), (Admits 0x79 p s q s1) ∧ (q.noReply = false) ∧ (q.payload = [0, 0, 0, 0]) ∧ (s1.nvBuf = none) ∧ (s1.nv.jphase = 0)) ∧
    (∃ (j : NvJob) (l : List NvJob) (s : State), (s.nv.jphase = 1) ∧ (s.nv.jobs = j :: l) ∧ (j.kind = 0) ∧ (j.req.noReply = false) ∧ (∀ e ∈ j.pages, e.1 ≠ 0)) ∧
    (∃ (j : NvJob) (l : List NvJob) (img : List Byte) (s : State), (s.nv.jphase = 1) ∧ (s.nv.jobs = j :: l) ∧ (j.kind = 0) ∧ (j.req.noReply = false) ∧ (j.pages = [(0, img)])) ∧
    (∃ (j : NvJob) (l : List NvJob) (s : State), (s.nv.jphase = 1) ∧ (s.nv.jobs = j :: l) ∧ (j.kind = 5)) ∧
    (∃ (j : NvJob) (l : List NvJob) (img : List Byte) (s : State), (s.nv.jphase = 1) ∧ (s.nv.jobs = j :: l) ∧ (j.kind = 6) ∧ (j.req.noReply = false) ∧ (j.pages = [(0, img)])) ∧
    (∃ (j : NvJob) (l : List NvJob) (s : State), (s.nv.jphase = 2) ∧ (s.nv.jobs = j :: l) ∧ (l ≠ [] ∨ s.thm.waitSd = [])) ∧
    (∃ (j : NvJob) (r : Nat × Nat × Nat × Nat) (k : List (Nat × Nat × Nat × Nat)) (s : State), (s.nv.jphase = 2) ∧ (s.nv.jobs = [j]) ∧ (s.thm.waitSd = r :: k)) ∧
    (∃ (b : NvBuf) (s : State), (s.nvBuf = some b) ∧ (s.due b.at_ 10000000000 = true) ∧ (bufFrozen s = false)) ∧
    (∃ (p : Packet) (q : Packet) (ecc : List Bool) (s : State) (s1 : State), (Admits 0x7A p s q s1) ∧ (q.noReply = false) ∧ (q.payload.length = 6) ∧ (u8 q.payload 3 = 0) ∧ (u8 q.payload 2 ≤ 127) ∧ (1 ≤ u16 q.payload 4) ∧ (u16 q.payload 4 ≤ 1024) ∧ (1 ≤ u16 q.payload 0) ∧ (nvInside s1 q.parcel (128 * u16 q.payload 0 + u8 q.payload 2) (u16 q.payload 4) = true) ∧ (ecc.any id = false) ∧ (R.NVM_ECC ∉ replyCounters q.via)) ∧
    (∃ (p : Packet) (q : Packet) (s : State) (s1 : State), (Admits 0x7A p s q s1) ∧ (q.noReply = false) ∧ (q.payload.length = 6) ∧ (u8 q.payload 3 = 0) ∧ (u8 q.payload 2 ≤ 127) ∧ (1 ≤ u16 q.payload 4) ∧ (u16 q.payload 4 ≤ 1024) ∧ (1 ≤ u16 q.payload 0) ∧ (nvInside s1 q.parcel (128 * u16 q.payload 0 + u8 q.payload 2) (u16 q.payload 4) = true) ∧ (R.NVM_ECC ∉ replyCounters q.via)) ∧
    (∃ (p : Packet) (q : Packet) (s : State) (s1 : State), (Admits 0x7A p s q s1) ∧ (q.noReply = false) ∧ (q.payload = [0, 0, 0, 0, 124, 0]) ∧ (q.parcel = 0) ∧ (leAt (s1.nvPage 0) 76 4 = 0)) ∧
    (∃ (v : Word) (s : State), (accessCheck s R.NVM_CNTINC v = none) ∧ (8 ≤ wf v R.NVM_CNTINC_CNT)) ∧
    (∃ (v : Word) (s : State), (accessCheck s R.NVM_CNTINC v = none) ∧ (wf v R.NVM_CNTINC_CNT < 8)) :=
  ⟨⟨pk 0x78 1 ([4, 0, 5, 2, 7, 8]), pk 0x78 1 ([4, 0, 5, 2, 7, 8]), { owner := 0 }, List.replicate 5 0 ++ [7, 8] ++ List.replicate 121 0, upF [(R.CAD_PNV_NVBASE 0, 4), (R.CAD_PNV_NVCNT 0, 4)], upF [(R.CAD_PNV_NVBASE 0, 4), (R.CAD_PNV_NVCNT 0, 4)], by decide⟩,
    ⟨pk 0x79 1 [0, 0, 0, 0], pk 0x79 1 [0, 0, 0, 0], { pages := [(5, [1])] }, { up with nvBuf := some { pages := [(5, [1])] } }, { up with nvBuf := some { pages := [(5, [1])] } }, by decide⟩,
    ⟨pk 0x79 1 [1, 0, 0, 0], pk 0x79 1 [1, 0, 0, 0], { pages := [(5, [1])] }, { up with nvBuf := some { pages := [(5, [1])] } }, { up with nvBuf := some { pages := [(5, [1])] } }, by decide⟩,
    ⟨pk 0x79 1 [0, 0, 0, 0], pk 0x79 1 [0, 0, 0, 0], up, up, by decide⟩,
    ⟨{ pages := [(5, [1, 2])] }, [], { up with nv := { jphase := 1, jobs := [{ pages := [(5, [1, 2])] }] } }, by decide⟩,
    ⟨{ pages := [(0, List.replicate 128 3)] }, [], List.replicate 128 3, { up with nv := { jphase := 1, jobs := [{ pages := [(0, List.replicate 128 3)] }] } }, by decide⟩,
    ⟨{ kind := 5, cfg := [(R.THM_CTRL, 7)], retired := some 5, sd := some (1, 2, 3, 0) }, [], { up with nv := { jphase := 1, jobs := [{ kind := 5, cfg := [(R.THM_CTRL, 7)], retired := some 5, sd := some (1, 2, 3, 0) }] } }, by decide⟩,
    ⟨{ kind := 6, pages := [(0, List.replicate 128 3)] }, [], List.replicate 128 3, { up with nv := { jphase := 1, jobs := [{ kind := 6, pages := [(0, List.replicate 128 3)] }] } }, by decide⟩,
    ⟨{ kind := 5 }, [{ kind := 1 }], { up with nv := { jphase := 2, jobs := [{ kind := 5 }, { kind := 1 }] } }, by decide⟩,
    ⟨{ kind := 5 }, (1, 2, 3, 0), [(4, 5, 6, 0)], { up with nv := { jphase := 2, jobs := [{ kind := 5 }] }, thm := { waitSd := [(1, 2, 3, 0), (4, 5, 6, 0)] } }, by decide⟩,
    ⟨{}, { up with nvBuf := some {}, lt := 10000000000 }, by decide⟩,
    ⟨pk 0x7A 2 [4, 0, 127, 0, 0, 1], pk 0x7A 2 [4, 0, 127, 0, 0, 1], [false, false], { upF [(R.CAD_PNV_NVBASE 0, 4), (R.CAD_PNV_NVCNT 0, 4)] with nv := { bytes := [(640, 9)] } }, { upF [(R.CAD_PNV_NVBASE 0, 4), (R.CAD_PNV_NVCNT 0, 4)] with nv := { bytes := [(640, 9)] } }, by decide +kernel⟩,
    ⟨pk 0x7A 2 [4, 0, 127, 0, 0, 1], pk 0x7A 2 [4, 0, 127, 0, 0, 1], upF [(R.CAD_PNV_NVBASE 0, 4), (R.CAD_PNV_NVCNT 0, 4)], upF [(R.CAD_PNV_NVBASE 0, 4), (R.CAD_PNV_NVCNT 0, 4)], by decide +kernel⟩,
    ⟨pk 0x7A 2 [0, 0, 0, 0, 124, 0], pk 0x7A 2 [0, 0, 0, 0, 124, 0], up, up, by decide +kernel⟩,
    ⟨15, { up with nv := { cnt := [(15, 4294967295)] } }, by decide⟩,
    ⟨7, up, by decide⟩⟩

theorem wit_FlashAndFirmwareCommandsTakeEffect :
    (∃ (o : FlsOp) (r : List FlsOp) (s : State), (s.fls.ops = o :: r) ∧ (o.op = 1) ∧ (s.fls.susp = false) ∧ (s.domOn domFLASH = true) ∧ (r ≠ [] ∨ ∀ n ∈ s.nv.ksErase, n = o.sector)) ∧
    (∃ (v : Word) (o : FlsOp) (r : List FlsOp) (s : State), (accessCheck s R.FLS_CTL (w32 (setBit v.toNat 31 true)) = none) ∧ (s.fls.ops = o :: r) ∧ (o.op = 1) ∧ (wf v R.FLS_CTL_RESUME = 0)) ∧
    (∃ (v : Word) (s : State), (accessCheck s R.FLS_CTL (w32 (setBit v.toNat 30 true)) = none)) ∧
    (∃ (o : FlsOp) (r : List FlsOp) (p : Packet) (b : List Byte) (s : State), (s.fls.ops = o :: r) ∧ (o.op = 2) ∧ (s.domOn domFLASH = true) ∧ (o.reply = some (p, b)) ∧ (p.opcode = 0x7B) ∧ (2 ≤ o.units) ∧ (o.units = (u16 p.payload 14 + 255) / 256)) ∧
    (∃ (o : FlsOp) (r : List FlsOp) (p : Packet) (b : List Byte) (s : State), (s.fls.ops = o :: r) ∧ (o.op = 2) ∧ (s.domOn domFLASH = true) ∧ (o.reply = some (p, b)) ∧ (p.opcode ≠ 0x7B) ∧ (o.units ≤ 1) ∧ (p.noReply = false) ∧ (r ≠ [] ∨ s.nv.ksErase = [])) ∧
    (∃ (o : FlsOp) (r : List FlsOp) (p : Packet) (b : List Byte) (c : Sess) (s : State), (s.fls.ops = o :: r) ∧ (o.op = 2) ∧ (s.domOn domFLASH = true) ∧ (o.reply = some (p, b)) ∧ (p.opcode = 0x7B) ∧ (o.units = 1) ∧ (p.noReply = false) ∧ (s.fls.sess = some c) ∧ (c.acc = c.total) ∧ (u32 p.payload 4 + u16 p.payload 14 = c.total)) ∧
    (∃ (p : Packet) (q : Packet) (id : Nat) (s : State) (s1 : State), (Admits 0x7B p s q s1) ∧ (chunkForm q.payload = none) ∧ (u8 q.payload 12 = 0) ∧ (s1.fls.sess = none) ∧ (u32 q.payload 0 = 0) ∧ (u32 q.payload 4 = 0) ∧ (u16 q.payload 14 ≤ u32 q.payload 8) ∧ (u32 q.payload 8 ≤ 2097152) ∧ (s1.bank.pstate ≠ 1) ∧ (id = Config.freeValue s1.freeCtr % (2 ^ 32 - 1) + 1)) ∧
    (∃ (p : Packet) (q : Packet) (c : Sess) (s : State) (s1 : State), (Admits 0x7B p s q s1) ∧ (chunkForm q.payload = none) ∧ (u8 q.payload 12 = 0) ∧ (s1.fls.sess = some c) ∧ (c.id ≠ 0) ∧ (u32 q.payload 0 = c.id) ∧ (c.lastOff ≠ c.acc ∨ c.lastLen = 0) ∧ (u32 q.payload 4 = c.acc) ∧ (c.acc + u16 q.payload 14 ≤ c.total) ∧ (u32 q.payload 8 = c.total) ∧ (c.target = 0)) ∧
    (∃ (p : Packet) (q : Packet) (c : Sess) (s : State) (s1 : State), (Admits 0x7B p s q s1) ∧ (chunkForm q.payload = none) ∧ (u8 q.payload 12 = 0) ∧ (q.noReply = false) ∧ (s1.fls.sess = some c) ∧ (c.id ≠ 0) ∧ (u32 q.payload 0 = c.id) ∧ (c.lastLen ≠ 0) ∧ (u32 q.payload 4 = c.lastOff) ∧ (u16 q.payload 14 = c.lastLen)) ∧
    (∃ (c : Sess) (s : State), (s.fls.sess = some c) ∧ (s.due c.at_ (1000000 * fwLease s) = true)) ∧
    (∃ (p : Packet) (q : Packet) (ecc : List Bool) (s : State) (s1 : State), (Admits 0x7C p s q s1) ∧ (q.noReply = false) ∧ (q.payload = []) ∧ (R.UPD_STAT ∉ replyCounters q.via) ∧ (ecc.any id = false)) ∧
    (∃ (p : Packet) (q : Packet) (s : State) (s1 : State), (Admits 0x7D p s q s1) ∧ (q.noReply = false) ∧ (q.payload = []) ∧ (s1.fls.sess = none) ∧ (s1.bank.pstate ≠ 1) ∧ (s1.bank.stage = 2) ∧ (R.UPD_STAT ∉ replyCounters q.via)) ∧
    (∃ (p : Packet) (q : Packet) (s : State) (s1 : State), (Admits 0x7E p s q s1) ∧ (q.noReply = false) ∧ (q.payload = []) ∧ (s1.bank.pstate = 1) ∧ (s1.fg R.UPD_STAT_BOOTED = s1.bank.active)) ∧
    (∃ (p : Packet) (q : Packet) (s : State) (s1 : State), (Admits 0x7F p s q s1) ∧ (q.noReply = false) ∧ (q.payload = [])) :=
  ⟨⟨{ sector := 64 }, [{ sector := 65 }], { up with fls := { ops := [{ sector := 64 }, { sector := 65 }] }, nv := { incomp := 3 * 2 ^ 64, eraseRec := some 64, flash := [(64 * 65536, 7)] }, dom := { step := [(domFLASH, 4)] } }, by decide⟩,
    ⟨0, {}, [], { up with fls := { ops := [{}] } }, by decide⟩,
    ⟨0, { up with fls := { ops := [{}], susp := true } }, by decide⟩,
    ⟨{ op := 2, sector := 64, units := 2, reply := some (pk 0x7B 3 (List.replicate 14 0 ++ leBytes 2 300 ++ List.replicate 300 5), []) }, [], pk 0x7B 3 (List.replicate 14 0 ++ leBytes 2 300 ++ List.replicate 300 5), [], { up with fls := { ops := [{ op := 2, sector := 64, units := 2, reply := some (pk 0x7B 3 (List.replicate 14 0 ++ leBytes 2 300 ++ List.replicate 300 5), []) }] }, dom := { step := [(domFLASH, 4)] } }, by decide⟩,
    ⟨{ op := 2, sector := 32, units := 1, reply := some (pk 0x50 3 [], [1, 2]) }, [], pk 0x50 3 [], [1, 2], { up with fls := { ops := [{ op := 2, sector := 32, units := 1, reply := some (pk 0x50 3 [], [1, 2]) }] }, dom := { step := [(domFLASH, 4)] } }, by decide⟩,
    ⟨{ op := 2, sector := 64, units := 1, reply := some (pk 0x7B 3 (List.replicate 8 0 ++ [8, 0, 0, 0, 0, 0, 8, 0] ++ List.replicate 8 5), [3]) }, [], pk 0x7B 3 (List.replicate 8 0 ++ [8, 0, 0, 0, 0, 0, 8, 0] ++ List.replicate 8 5), [3], { id := 4, acc := 8, total := 8 }, { up with fls := { sess := some { id := 4, acc := 8, total := 8 }, ops := [{ op := 2, sector := 64, units := 1, reply := some (pk 0x7B 3 (List.replicate 8 0 ++ [8, 0, 0, 0, 0, 0, 8, 0] ++ List.replicate 8 5), [3]) }] }, dom := { step := [(domFLASH, 4)] } }, by decide⟩,
    ⟨pk 0x7B 3 (List.replicate 8 0 ++ [8, 0, 0, 0, 0, 0, 4, 0] ++ List.replicate 4 5), pk 0x7B 3 (List.replicate 8 0 ++ [8, 0, 0, 0, 0, 0, 4, 0] ++ List.replicate 4 5), Config.freeValue 0 % (2 ^ 32 - 1) + 1, up, up, ⟨by decide, by decide, by decide, rfl, by decide, by decide, by decide, by decide, by decide, rfl⟩⟩,
    ⟨pk 0x7B 3 ([4, 0, 0, 0, 8, 0, 0, 0, 12, 0, 0, 0, 0, 0, 4, 0] ++ List.replicate 4 5), pk 0x7B 3 ([4, 0, 0, 0, 8, 0, 0, 0, 12, 0, 0, 0, 0, 0, 4, 0] ++ List.replicate 4 5), { id := 4, acc := 8, total := 12, lastOff := 4, lastLen := 4 }, { up with fls := { sess := some { id := 4, acc := 8, total := 12, lastOff := 4, lastLen := 4 } } }, { up with fls := { sess := some { id := 4, acc := 8, total := 12, lastOff := 4, lastLen := 4 } } }, by decide⟩,
    ⟨pk 0x7B 3 ([4, 0, 0, 0, 4, 0, 0, 0, 12, 0, 0, 0, 0, 0, 4, 0] ++ List.replicate 4 5), pk 0x7B 3 ([4, 0, 0, 0, 4, 0, 0, 0, 12, 0, 0, 0, 0, 0, 4, 0] ++ List.replicate 4 5), { id := 4, acc := 8, total := 12, lastOff := 4, lastLen := 4 }, { up with fls := { sess := some { id := 4, acc := 8, total := 12, lastOff := 4, lastLen := 4 } } }, { up with fls := { sess := some { id := 4, acc := 8, total := 12, lastOff := 4, lastLen := 4 } } }, by decide⟩,
    ⟨{ id := 4 }, { up with fls := { sess := some { id := 4 } }, lt := 600000000000 }, by decide⟩,
    ⟨pk 0x7C 1 [], pk 0x7C 1 [], [false], up, up, by decide⟩,
    ⟨pk 0x7D 1 [], pk 0x7D 1 [], { up with nv := { ptrA := some { stage := 2 } } }, { up with nv := { ptrA := some { stage := 2 } } }, by decide⟩,
    ⟨pk 0x7E 1 [], pk 0x7E 1 [], { up with nv := { ptrA := some { pstate := 1, minver := 5 } } }, { up with nv := { ptrA := some { pstate := 1, minver := 5 } } }, by decide⟩,
    ⟨pk 0x7F 1 [], pk 0x7F 1 [], up, up, by decide⟩⟩

theorem wit_ResetCommandsTakeEffect :
    (∃ (s : State), (s.rst.scope ≠ 1) ∧ (s.rst.scope ≠ 2)) ∧
    (∃ (s : State), (s.rst.scope ≠ 1)) ∧
    (∃ (s : State), (s.rst.scope ≠ 1)) ∧
    (∃ (s : State), (s.rst.scope = 1)) ∧
    (∃ (v : Word) (s : State), (accessCheck s R.RST_CTRL (w32 (setBit v.toNat 31 true)) = none) ∧ (wf v R.RST_CTRL_WARM = 0)) ∧
    (∃ (v : Word) (s : State), (accessCheck s R.RST_CTRL (w32 (setBit v.toNat 30 true)) = none) ∧ (wf v R.RST_CTRL_COLD = 0)) ∧
    (∃ (s : State), (s.sysUp = true) ∧ (3 ≤ s.fg R.RST_STAT_STEP) ∧ (s.due s.rst.kickAt (1000000 * watchdogLimit s) = true)) ∧
    (∃ (a : Nat) (s : State), (s.rst.lockAt = some a) ∧ (s.due a 10000 = true) ∧ (s.rst.scope = 0)) ∧
    (∃ (s : State), (s.cpRuns = true)) ∧
    (∃ (v : Word) (s : State), (accessCheck s R.RST_WDT v = none) ∧ (10 ≤ wf v R.RST_WDT_TIMEOUT) ∧ (wf v R.RST_WDT_TIMEOUT ≤ 10000)) ∧
    (∃ (s : State), (s.rst.scope = 3) ∧ (s.due s.rst.since 16000 = true)) ∧
    (∃ (s : State), (s.rst.stackMsg = true)) ∧
    (∃ (s : State), (s.fb R.PWR_STAT_VISO = false)) ∧
    (∃ (s : State), (s.fb R.PWR_STAT_VISO = true)) ∧
    (∃ (p : Packet) (q : Packet) (s : State) (s1 : State), (Admits 0x1F p s q s1) ∧ (u8 p.payload 0 = 1) ∧ (q.payload.length = 4) ∧ (u8 q.payload 0 = 1) ∧ (u16 q.payload 2 = 0) ∧ (q.noReply = false) ∧ (q.seqep = 0) ∧ realVia q.via) ∧
    (∃ (p : Packet) (q : Packet) (s : State) (s1 : State), (Admits 0x1F p s q s1) ∧ (u8 p.payload 0 = 2) ∧ (q.payload.length = 4) ∧ (u8 q.payload 0 = 2) ∧ (u16 q.payload 2 = 0) ∧ (q.noReply = false) ∧ (q.seqep = 0) ∧ realVia q.via) ∧
    (∃ (p : Packet) (q : Packet) (s : State) (s1 : State), (Admits 0x1F p s q s1) ∧ (u8 p.payload 0 = 3) ∧ (q.payload.length = 4) ∧ (u8 q.payload 0 = 3) ∧ (u16 q.payload 2 = 0) ∧ (q.noReply = false) ∧ (q.seqep = 0) ∧ (u8 q.payload 1 < s1.plotsFit) ∧ (plotBusy s1 (u8 q.payload 1) = false) ∧ (s1.energised = false) ∧ (s1.arr.loads = []) ∧ realVia q.via) ∧
    (∃ (p : Packet) (q : Packet) (s : State) (s1 : State), (Admits 0x1F p s q s1) ∧ (u8 p.payload 0 = 4) ∧ (q.payload.length = 4) ∧ (u8 q.payload 0 = 4) ∧ (u16 q.payload 2 = 0) ∧ (q.noReply = false) ∧ (q.seqep = 0) ∧ (u8 q.payload 1 < s1.portsFit) ∧ realVia q.via ∧ (s1.fb (R.TRV_PCTL_EN (u8 q.payload 1)) = true) ∧ (s1.fg (R.TRV_PCTL_MODE (u8 q.payload 1)) < 2) ∧ (s1.fg (R.TRV_PCTL_RATEMAX (u8 q.payload 1)) ≠ 3) ∧ (s1.fg (R.TRV_PCTL_LANEEN (u8 q.payload 1)) ≠ 0) ∧ (s1.portState (u8 q.payload 1) ≠ poOFF)) ∧
    (∃ (p : Packet) (q : Packet) (e : Nat) (s : State) (s1 : State), (Admits 0x1F p s q s1) ∧ (u8 p.payload 0 = 1) ∧ (q.payload.length = 4) ∧ (u8 q.payload 0 = 1) ∧ (u16 q.payload 2 = 0) ∧ (q.noReply = false) ∧ (q.seqep ≠ 0) ∧ (leadOk s1 q.seqep = true) ∧ (namedEpoch s1 q.seqep = some e)) ∧
    (∃ (e : Nat) (n : Nat) (l : List (Nat × Nat × Nat)) (s : State), (s.rst.sched = (e, 2, n) :: l) ∧ (s.rst.scope = 0)) :=
  ⟨⟨{ upF [(R.PRF_CTRL_EN, 1), (R.SAF_OUT_ON, 3), (R.RST_BKP_DATA 3, 9), (⟨R.SMP_CHEN0, 0, 32⟩, 5)] with lt := 7 }, by decide⟩,
    ⟨{ upF [(R.PRF_CTRL_EN, 1), (R.RST_BKP_DATA 3, 9), (⟨R.SMP_CHEN0, 0, 32⟩, 5)] with lt := 7 }, by decide⟩,
    ⟨{ upF [(R.PRF_CTRL_EN, 1), (R.RST_BKP_DATA 3, 9), (⟨R.SMP_CHEN0, 0, 32⟩, 5)] with lt := 7 }, by decide⟩,
    ⟨{ up with rst := { scope := 1 } }, by decide⟩,
    ⟨0, upF [(R.PRF_CTRL_EN, 1), (R.RST_BKP_DATA 3, 9), (⟨R.SMP_CHEN0, 0, 32⟩, 5)], by decide⟩,
    ⟨0, { upF [(R.PRF_CTRL_EN, 1), (R.RST_BKP_DATA 3, 9), (⟨R.SMP_CHEN0, 0, 32⟩, 5)] with est := { snapAt := 3, pendPar := [(1, 2, 3, [])] } }, by decide⟩,
    ⟨{ upF [(R.PRF_CTRL_EN, 1)] with lt := 1000000000000 }, by decide⟩,
    ⟨5, { up with lt := 10005, rst := { stackUp := true, lockAt := some 5 } }, by decide⟩,
    ⟨{ up with lt := 77 }, by decide⟩,
    ⟨0xA5000064, { up with lt := 77 }, by decide⟩,
    ⟨{ up with lt := 16005, rst := { scope := 3, since := 5 } }, by decide⟩,
    ⟨{ upR [(R.SMP_CHEN0, 5), (R.RST_SBK 3, 7), (R.PRF_CTRL, 1)] with rst := { stackUp := true, stackMsg := true } }, by decide⟩,
    ⟨upR [(R.SMP_CHEN0, 5), (R.RST_SBK 3, 7), (R.PRF_CTRL, 1)], by decide⟩,
    ⟨upF [(R.PWR_STAT_VISO, 1)], by decide⟩,
    ⟨pk 0x1F 0 [1, 0, 0, 0], pk 0x1F 0 [1, 0, 0, 0], upF [(R.PRF_CTRL_EN, 1)], upF [(R.PRF_CTRL_EN, 1)], by decide⟩,
    ⟨pk 0x1F 0 [2, 0, 0, 0], pk 0x1F 0 [2, 0, 0, 0], upF [(R.PRF_CTRL_EN, 1)], upF [(R.PRF_CTRL_EN, 1)], by decide⟩,
    ⟨pk 0x1F 0 [3, 1, 0, 0], pk 0x1F 0 [3, 1, 0, 0], upE 0, upE 0, by decide⟩,
    ⟨pk 0x1F 0 [4, 1, 0, 0], pk 0x1F 0 [4, 1, 0, 0], upF [(R.TRV_PSTAT_STATE 1, 2), (R.TRV_PCTL_EN 1, 1), (R.TRV_PCTL_LANEEN 1, 1)], upF [(R.TRV_PSTAT_STATE 1, 2), (R.TRV_PCTL_EN 1, 1), (R.TRV_PCTL_LANEEN 1, 1)], by decide⟩,
    ⟨{ pk 0x1F 0 [1, 0, 0, 0] with seqep := 9000 }, { pk 0x1F 0 [1, 0, 0, 0] with seqep := 9000 }, 9000, up, up, by decide⟩,
    ⟨9000, 0, [], { upF [(R.PRF_CTRL_EN, 1)] with rst := { stackUp := true, sched := [(9000, 2, 0)] } }, by decide⟩⟩

theorem wit_ReleaseOrderTakesEffect :
    (∃ (c : Nat) (v : Word) (s : State), (s.rst.stackUp = false) ∧ (s.sysUp = false) ∧ (s.nv.cal = [(c, v)]) ∧ (1 ≤ c) ∧ (c ≤ 52)) ∧
    (∃ (l : Nat) (s : State), (s.rst.stackUp = false) ∧ (s.sysUp = true) ∧ (s.nv.cal = []) ∧ (messageLane s.bar.txMap = some l)) ∧
    (∃ (f : BitVec 24) (s : State), (s.fg R.RST_STAT_STEP < 2) ∧ (s.rst.scope ≠ 3) ∧ (s.bar.oscLost = false) ∧ (s.due s.bar.oscSince 100000000 = true) ∧ (s.nv.foundOk = true)) ∧
    (∃ (s : State), (s.sysUp = true) ∧ (s.fg R.RST_STAT_STEP = 2)) ∧
    (∃ (b : Nat) (s : State), (s.cpRuns = true) ∧ (s.fg R.RST_STAT_STEP = 4) ∧ (s.rst.noImage = false) ∧ (s.nv.ptrA.isSome = true ∨ s.nv.ptrB.isSome = true) ∧ (s.bank.pstate ≠ 1) ∧ (s.bank.active = b) ∧ (b ≤ 1)) ∧
    (∃ (s : State), (s.cpRuns = true) ∧ (s.fg R.RST_STAT_STEP = 4) ∧ (s.rst.noImage = false) ∧ (s.nv.ptrA.isSome = true ∨ s.nv.ptrB.isSome = true) ∧ (s.bank.pstate = 1) ∧ (s.cnt 1 < s.bank.tbase + 3)) ∧
    (∃ (s : State), (s.cpRuns = true) ∧ (s.fg R.RST_STAT_STEP = 5)) ∧
    (∃ (s : State), (s.cpRuns = true) ∧ (s.fg R.RST_STAT_STEP = 6) ∧ (∀ p ∈ List.range 4, wf (Smap.get resetWord s.nv.cfg (R.TRV_PCTL p)) (R.TRV_PCTL_RATEMAX p) ≠ 3 ∧
      wf (Smap.get resetWord s.nv.cfg (R.TRV_PCTL p)) (R.TRV_PCTL_LANEEN p) ≠ 0 ∧
      wf (Smap.get resetWord s.nv.cfg (R.TRV_PCTL p)) (R.TRV_PCTL_RETRAIN p) = 0)) ∧
    (∃ (s : State), (s.cpRuns = true) ∧ (s.fg R.RST_STAT_STEP = 9)) ∧
    (∃ (a : Nat) (s : State), (s.pwr.step10 = some a) ∧ (s.fb R.PWR_CTRL_NOCOMM = true) ∧ (s.due a 10000000000 = true)) ∧
    (∃ (a : Nat) (s : State), (s.pwr.step8 = some a) ∧ (s.pwr.goodAt = none) ∧ (s.service = 0) ∧ (s.due a 5000000000 = true)) :=
  ⟨⟨52, 7, { nv := { cal := [(52, 7)] }, lt := 9 }, by decide⟩,
    ⟨21, { up with rst := {} }, by decide⟩,
    ⟨5, { rst := { stackUp := true }, lt := 100000000, nv := { jphase := 2, eraseRec := some 70, cal := [(52, 7)], bytes := [(0, 0x5A), (4, 3)] } }, by decide +kernel⟩,
    ⟨{ State.reset.fs R.RST_STAT_STEP 2 with lt := 9 }, by decide⟩,
    ⟨0, State.reset.fs R.RST_STAT_STEP 4, by decide⟩,
    ⟨{ State.reset.fs R.RST_STAT_STEP 4 with nv := { ptrA := some { pstate := 1, tbase := 3 }, cnt := [(1, 5)] } }, by decide⟩,
    ⟨{ State.reset.fs R.RST_STAT_STEP 5 with lt := 9 }, by decide⟩,
    ⟨{ State.reset.fs R.RST_STAT_STEP 6 with nv := { cfg := [(R.TRV_PCTL 1, 0x130)] } }, by decide⟩,
    ⟨{ upF [(R.RST_STAT_STEP, 9)] with lt := 9 }, by decide⟩,
    ⟨3, { upF [(R.PWR_CTRL_NOCOMM, 1)] with pwr := { step10 := some 3 }, lt := 10000000003 }, by decide⟩,
    ⟨3, { State.reset.fs R.RST_STAT_STEP 8 with pwr := { step8 := some 3 }, lt := 5000000003 }, by decide⟩⟩

theorem wit_SafetyInputsTakeEffect :
    (∃ (i : List Word) (q : Nat) (d : Nat) (s : State), (kernelFrame s i = some (q, d, 0)) ∧ (s.fg R.SAF_CFG_DSRC = 0) ∧ (s.sysUp = true)) ∧
    (∃ (i : List Word) (q : Nat) (d : Nat) (s : State), (kernelFrame s i = some (q, d, 2)) ∧ (s.fg R.SAF_STAT_STATE = stRUN) ∧ (s.fg R.SAF_CFG_DSRC = 1) ∧ (s.sysUp = true)) ∧
    (∃ (i : List Word) (q : Nat) (d : Nat) (s : State), (kernelFrame s i = some (q, d, 1)) ∧ (s.fg R.SAF_STAT_STATE = stRUN) ∧ (s.fg R.SAF_CFG_DSRC = 1) ∧ (s.soc.rampPend = false) ∧ (scs1Ok s = true) ∧ (s.sysUp = true)) ∧
    (∃ (i : List Word) (s : State), (kernelFrame s i = none) ∧ (s.sysUp = true)) ∧
    (∃ (s : State), (s.fb R.SAF_CFG_KEN = true) ∧ (s.due s.soc.kAt (1000000 * s.fg R.SAF_CFG_KTE) = true) ∧ (s.fg R.SAF_CFG_KACT = 2) ∧ (s.fg R.SAF_STAT_STATE = stRUN) ∧ (s.sysUp = true)) ∧
    (∃ (s : State), (s.fb R.SAF_CFG_KEN = true) ∧ (s.due s.soc.kAt (1000000 * s.fg R.SAF_CFG_KTE) = true) ∧ (s.fg R.SAF_CFG_KACT = 1) ∧ (s.fg R.SAF_STAT_STATE = stRUN) ∧ (s.soc.rampPend = false) ∧ (scs1Ok s = true) ∧ (s.sysUp = true)) ∧
    (∃ (v : Nat) (s : State), (s.sysUp = true) ∧ (s.fg R.SAF_STAT_STATE = stRUN) ∧ (s.soc.rampPend = true) ∧ (intervalValue s.soc.ivl = some v)) ∧
    (∃ (v : Nat) (s : State), (s.sysUp = true) ∧ (s.fg R.SAF_STAT_STATE = stRAMP) ∧ (intervalValue s.soc.ivl = some v) ∧ (v < s.fg R.SAF_ENV1_IOPEN) ∧ (2 ≤ s.soc.low)) ∧
    (∃ (v : Nat) (s : State), (s.sysUp = true) ∧ (s.fg R.SAF_STAT_STATE = stRAMP) ∧ (intervalValue s.soc.ivl = some v) ∧ (s.fg R.SAF_ENV1_IOPEN ≤ v) ∧ (aboveEnvelope s.soc.i0 (s.fg R.SAF_ENV1_IMARG) (s.fg R.SAF_ENV1_IOPEN) (s.fg R.SAF_ENV0_TDLY) (s.fg R.SAF_ENV0_TRAMP) v
      (s.boundary.lt - s.soc.rampAt) = true)) ∧
    (∃ (v : Nat) (s : State), (s.sysUp = true) ∧ (s.fg R.SAF_STAT_STATE = stRAMP) ∧ (intervalValue s.soc.ivl = some v) ∧ (s.fg R.SAF_ENV1_IOPEN ≤ v) ∧ (aboveEnvelope s.soc.i0 (s.fg R.SAF_ENV1_IMARG) (s.fg R.SAF_ENV1_IOPEN) (s.fg R.SAF_ENV0_TDLY) (s.fg R.SAF_ENV0_TRAMP) v
      (s.boundary.lt - s.soc.rampAt) = false)) ∧
    (∃ (s : State), (s.sysUp = true) ∧ (s.fg R.SAF_STAT_STATE = stRAMP) ∧ (intervalValue s.soc.ivl = none) ∧ (2 ≤ s.soc.noVal) ∧ (s.boundary.lt < s.soc.rampAt + 1000000 * s.fg R.SAF_ENV2_TWIN)) ∧
    (∃ (n : Nat) (s : State), (s.rst.stackUp = true)) ∧
    (∃ (n : Nat) (s : State), (s.rst.stackUp = true)) ∧
    (∃ (a : Nat) (l : Nat) (s : State), (messageLane s.bar.txMap = some l) ∧ (s.ssv.backstop = some a) ∧ (a ≤ s.lt) ∧ (s.ssv.st = svRUN) ∧ (s.ssv.run = true) ∧ (s.rst.stackUp = true)) ∧
    (∃ (m : Fin 4) (s : State), (s.fg R.SAF_STAT_STATE = stRAMP) ∧ (s.fg R.SAF_ENV0_AXM = m.val) ∧ (s.sysUp = true)) ∧
    (∃ (i : Fin 4) (b : Bool) (m : Bool) (s : State), ((s.pairCfg (i.val + 1)).testBit 0 = false) ∧ (setBit (s.contacts (i.val + 1)) (b2n b) m ≠ s.contacts (i.val + 1)) ∧ (s.sysUp = true)) ∧
    (∃ (i : Fin 4) (b : Bool) (m : Bool) (s : State), ((s.pairCfg (i.val + 1)).testBit 0 = true) ∧ (s.pairState (i.val + 1) = 1) ∧ (s.contacts (i.val + 1) = 3) ∧ (m = false) ∧ (bitsOf (s.pairCfg (i.val + 1)) 2 2 = 2) ∧ (s.fg R.SAF_STAT_STATE = stRUN) ∧ (s.sysUp = true)) ∧
    (∃ (i : Fin 4) (b : Bool) (m : Bool) (s : State), ((s.pairCfg (i.val + 1)).testBit 0 = true) ∧ (s.pairState (i.val + 1) = 3) ∧ (setBit (s.contacts (i.val + 1)) (b2n b) m ≠ s.contacts (i.val + 1)) ∧ (bitsOf (s.pairCfg (i.val + 1)) 2 2 = 0) ∧ (s.due (s.pair (i.val + 1)).discAt (1000000 * pairDT s (i.val + 1)) = true) ∧ (s.sysUp = true)) ∧
    (∃ (i : Fin 4) (b : Bool) (m : Bool) (s : State), ((s.pairCfg (i.val + 1)).testBit 0 = true) ∧ (s.pairState (i.val + 1) = 3) ∧ (s.contacts (i.val + 1) ≠ 3) ∧ (setBit (s.contacts (i.val + 1)) (b2n b) m = 3) ∧ ((s.pair (i.val + 1)).fromNone = true) ∧ (s.due (s.pair (i.val + 1)).discAt (1000000 * pairDT s (i.val + 1)) = false) ∧ (s.sysUp = true)) ∧
    (∃ (i : Fin 4) (b : Bool) (m : Bool) (s : State), ((s.pairCfg (i.val + 1)).testBit 0 = true) ∧ (s.pairState (i.val + 1) = 3) ∧ (s.contacts (i.val + 1) ≠ 0) ∧ (setBit (s.contacts (i.val + 1)) (b2n b) m = 0) ∧ (bitsOf (s.pairCfg (i.val + 1)) 2 2 = 0) ∧ (s.due (s.pair (i.val + 1)).discAt (1000000 * pairDT s (i.val + 1)) = false) ∧ (s.sysUp = true)) ∧
    (∃ (i : Fin 4) (s : State), (s.pairState (i.val + 1) = 3) ∧ (s.due (s.pair (i.val + 1)).discAt (1000000 * pairDT s (i.val + 1)) = true) ∧ (s.sysUp = true)) ∧
    (∃ (i : Fin 4) (a : Nat) (s : State), (s.pairState (i.val + 1) = 4) ∧ ((s.pair (i.val + 1)).noneAt = some a) ∧ (s.due a 100000000 = true) ∧ (s.due (s.pair (i.val + 1)).faultAt 100000000 = true) ∧ (s.sysUp = true)) ∧
    (∃ (z : Fin 4) (i : Fin 4) (f : BitVec 8) (s : State), ((s.pairCfg (i.val + 1)).testBit 0 = true) ∧ (s.pairState (i.val + 1) ≠ 4) ∧ (f.toNat.testBit (2 * i.val) = true) ∧ (contactClosed s (i.val + 1) 0 = true) ∧ (bitsOf (s.pairCfg (i.val + 1)) 4 2 = z.val) ∧ (z.val = 1 ∧ s.due (Smap.get (fun _ => 0) s.duty 2) (1000000 * s.fg R.SAF_TP_TPP) = true ∨
      z.val = 2 ∧ Smap.get (fun _ => 0) s.duty 3 ≤ Smap.get (fun _ => 0) s.duty 2 ∧
        s.due (Smap.get (fun _ => 0) s.duty 2) (1000000 * s.fg R.SAF_TP_TPP / 2) = true) ∧ (s.sysUp = true)) ∧
    (∃ (s : State), (s.fg R.SAF_SRST_LSTATE ≠ 2) ∧ (s.sysUp = true)) ∧
    (∃ (s : State), (s.fg R.SAF_SRST_LSTATE = 1) ∧ (s.soc.srstSeen = true) ∧ (s.soc.srstAt + 50000000 ≤ s.lt) ∧ (s.lt ≤ s.soc.srstAt + 2000000000) ∧ (s.fg R.SAF_STAT_STATE = stSAFE) ∧ (startCheck s = none) ∧ (s.sysUp = true)) ∧
    (∃ (c : Nat) (s : State), (s.fg R.SAF_SRST_LSTATE = 1) ∧ (s.soc.srstSeen = true) ∧ (s.soc.srstAt + 50000000 ≤ s.lt) ∧ (s.lt ≤ s.soc.srstAt + 2000000000) ∧ (s.fg R.SAF_STAT_STATE = stSAFE) ∧ (startCheck s = some c) ∧ (s.sysUp = true)) ∧
    (∃ (s : State), (s.fg R.SAF_SRST_LSTATE = 1) ∧ (s.soc.srstSeen = true) ∧ (s.lt < s.soc.srstAt + 50000000) ∧ (s.sysUp = true)) ∧
    (∃ (s : State), (s.fg R.SAF_SRST_LSTATE = 1) ∧ (s.soc.srstAt + 5000000000 < s.lt) ∧ (s.sysUp = true)) ∧
    (∃ (a : Nat) (s : State), (s.fg R.SAF_SRST_LSTATE = 2) ∧ (s.soc.srstLowAt = some a) ∧ (s.due a 100000000 = true) ∧ (s.sysUp = true)) :=
  ⟨⟨[5, 1], 5, 1, upRun [], by decide⟩,
    ⟨[5, 0x21], 5, 1, upRun [(R.SAF_CFG_DSRC, 1)], by decide⟩,
    ⟨[5, 0x11], 5, 1, upRun ((R.SAF_CFG_DSRC, 1) :: scs1Set), by decide⟩,
    ⟨[5], up, by decide⟩,
    ⟨{ upRun [(R.SAF_CFG_KEN, 1), (R.SAF_CFG_KACT, 2), (R.SAF_CFG_KTE, 5)] with lt := 5000000 }, by decide⟩,
    ⟨{ upRun (scs1Set ++ [(R.SAF_CFG_KEN, 1), (R.SAF_CFG_KACT, 1), (R.SAF_CFG_KTE, 5)]) with lt := 5000000 }, by decide⟩,
    ⟨1, { upRun scs1Set with soc := { rampPend := true, ivl := [{ code := 9 }] } }, by decide⟩,
    ⟨1, { upRun [(R.SAF_STAT_STATE, 4), (R.SAF_ENV1_IOPEN, 2), (R.SAF_CAUSE_CAUSE, 1), (R.SAF_CAUSE_INDEX, 5)] with soc := { low := 2, ivl := [{ code := 9 }] } }, by decide⟩,
    ⟨9, { upRun [(R.SAF_STAT_STATE, 4), (R.SAF_ENV1_IOPEN, 2), (R.SAF_ENV1_IMARG, 1)] with soc := { i0 := 3, ivl := [{ code := 140 }] } }, by decide⟩,
    ⟨3, { upRun [(R.SAF_STAT_STATE, 4), (R.SAF_ENV1_IOPEN, 2), (R.SAF_ENV1_IMARG, 9), (R.SAF_ENV2_TWIN, 1)] with soc := { i0 := 3, ivl := [{ code := 48 }] }, lt := 1000000 }, by decide⟩,
    ⟨{ upRun [(R.SAF_STAT_STATE, 4), (R.SAF_ENV2_TWIN, 1)] with soc := { noVal := 2, ivl := [{ stl := true }] } }, by decide⟩,
    ⟨500, { up with lt := 7 }, by decide⟩,
    ⟨0, { up with ssv := { backstop := some 5 } }, by decide⟩,
    ⟨5, 21, { up with ssv := { backstop := some 5, run := true, st := 2 }, lt := 5 }, by decide⟩,
    ⟨3, upRun [(R.SAF_STAT_STATE, 4), (R.SAF_ENV0_AXM, 3), (R.SAF_CAUSE_CAUSE, 1)], by decide⟩,
    ⟨3, true, true, up, by decide⟩,
    ⟨3, false, false, upRun [(R.SAF_SI_PAIR, 0x09000000), (R.SAF_SISTAT_STATE, 0x1000), (R.SAF_SISTAT_RAW, 0xC0)], by decide⟩,
    ⟨3, true, true, { upF [(R.SAF_SI_PAIR, 0x01000000), (R.SAF_SISTAT_STATE, 0x3000), (R.SAF_SISTAT_RAW, 0x40)] with soc := { pairs := [(4, { fromNone := true })] }, lt := 1000000000000 }, by decide⟩,
    ⟨3, true, true, { upF [(R.SAF_SI_PAIR, 0x09000000), (R.SAF_SISTAT_STATE, 0x3000), (R.SAF_SISTAT_RAW, 0x40), (R.SAF_SIDT1_DTHI, 5)] with soc := { pairs := [(4, { fromNone := true })] } }, by decide⟩,
    ⟨3, false, false, upF [(R.SAF_SI_PAIR, 0x01000000), (R.SAF_SISTAT_STATE, 0x3000), (R.SAF_SISTAT_RAW, 0x40), (R.SAF_SIDT1_DTHI, 5)], by decide⟩,
    ⟨3, { upF [(R.SAF_SI_PAIR, 0x05000000), (R.SAF_SISTAT_STATE, 0x3000), (R.SAF_SIDT1_DTHI, 5)] with lt := 5000000 }, by decide⟩,
    ⟨3, 5, { upF [(R.SAF_SISTAT_STATE, 0x4000)] with soc := { pairs := [(4, { noneAt := some 5 })] }, lt := 100000005 }, by decide⟩,
    ⟨2, 3, 0x40, { upF [(R.SAF_SI_PAIR, 0x25000000), (R.SAF_SISTAT_STATE, 0x1000), (R.SAF_SISTAT_RAW, 0xC0), (R.SAF_TP_TPP, 10)] with duty := [(2, 5)], lt := 5000005 }, by decide⟩,
    ⟨{ up with lt := 7 }, by decide⟩,
    ⟨{ upF [(R.SAF_STAT_STATE, 1), (R.SAF_STAT_LOADED, 1), (R.SAF_SRST_LSTATE, 1), (R.SAF_OUTEN_EN, 3)] with soc := { srstSeen := true, setOk := true, kSeen := true, kEver := true, kAt := 2000000000 }, lt := 2000000000 }, by decide⟩,
    ⟨4, { upF [(R.SAF_STAT_STATE, 1), (R.SAF_SRST_LSTATE, 1)] with soc := { srstSeen := true }, lt := 2000000000 }, by decide⟩,
    ⟨{ upF [(R.SAF_STAT_STATE, 1), (R.SAF_SRST_LSTATE, 1)] with soc := { srstSeen := true }, lt := 49999999 }, by decide⟩,
    ⟨{ upF [(R.SAF_SRST_LSTATE, 1)] with lt := 5000000001 }, by decide⟩,
    ⟨0, { upF [(R.SAF_SRST_LSTATE, 2)] with soc := { srstLowAt := some 0 }, lt := 100000000 }, by decide⟩⟩

theorem wit_HandshakeAndOutputStageTakeEffect :
    (∃ (s : State), (s.ssv.st ≠ svSLEEP) ∧ (s.ssv.st ≠ svRUN) ∧ (s.cmp.test = none) ∧ (s.fb R.SWC_CTRL_EN = true) ∧ (s.fb R.SWC_STAT_REF_SETTLED = true) ∧ (s.tb R.SWC_INJEN_SRCS 2 = false) ∧ (s.rst.stackUp = true)) ∧
    (∃ (s : State), (s.ssv.st ≠ svSLEEP) ∧ (s.ssv.st ≠ svRUN) ∧ (s.cmp.test = none) ∧ (s.fb R.SWC_CTRL_EN = true) ∧ (s.fb R.SWC_STAT_REF_SETTLED = true) ∧ (s.tb R.SWC_INJEN_SRCS 2 = true) ∧ (s.rst.stackUp = true)) ∧
    (∃ (l : Nat) (s : State), (messageLane s.bar.txMap = some l) ∧ (s.ssv.st ≠ svSLEEP) ∧ (s.ssv.st ≠ svRUN) ∧ (s.cmp.test = none) ∧ (s.fb R.SWC_CTRL_EN = false) ∧ (s.rst.stackUp = true)) ∧
    (∃ (c : Nat) (s : State), (s.fg R.SAF_STAT_STATE = stSTARTING) ∧ (s.sysUp = true)) ∧
    (∃ (c : Nat) (s : State), (s.fg R.SAF_STAT_STATE = stSTARTING) ∧ (s.sysUp = true)) ∧
    (∃ (s : State), (s.fg R.SAF_STAT_STATE = stSTARTING) ∧ (s.due s.soc.startAt 2000000 = true) ∧ (s.sysUp = true)) ∧
    (∃ (s : State), (s.ssv.st = svRUN ∨ s.ssv.st = svSTARTING) ∧ (s.rst.stackUp = true)) ∧
    (∃ (s : State), (s.sysUp = true)) ∧
    (∃ (l : Nat) (s : State), (messageLane s.bar.txMap = some l) ∧ (s.rst.stackUp = true)) ∧
    (∃ (n : Nat) (w : Word) (s : State), (s.soc.peerSeq = some n) ∧ (w.toNat / 0x100000 % 256 = (n + 1) % 256) ∧ (w.toNat / 0x10000000 % 8 ≤ 4) ∧ (w.toNat.testBit 31 = true) ∧ (s.fb R.SAF_STAT_YRUN = true) ∧ (w.toNat % 65536 = s.committedSck % 65536) ∧ (s.fg R.SAF_OUT_ON = conducting s) ∧ (s.fg R.SAF_STAT_SRUN = 1) ∧ (s.soc.pulse = none) ∧ (s.sysUp = true)) ∧
    (∃ (n : Nat) (w : Word) (s : State), (s.soc.peerSeq = some n) ∧ (w.toNat / 0x100000 % 256 ≠ (n + 1) % 256) ∧ (s.fg R.SAF_STAT_STATE = stRUN) ∧ (s.sysUp = true)) ∧
    (∃ (n : Nat) (w : Word) (s : State), (s.ssv.peerSeq = some n) ∧ (w.toNat / 0x100000 % 256 = (n + 1) % 256) ∧ (s.ssv.st ≠ svSLEEP) ∧ (w.toNat / 0x10000000 % 8 = stINIT) ∧ (w.toNat.testBit 31 = false) ∧ (s.ssv.run = false) ∧ (s.rst.stackUp = true)) ∧
    (∃ (n : Nat) (w : Word) (s : State), (s.ssv.peerSeq = some n) ∧ (w.toNat / 0x100000 % 256 = (n + 1) % 256) ∧ (s.ssv.st ≠ svSLEEP) ∧ (w.toNat / 0x10000000 % 8 = stINIT) ∧ (w.toNat.testBit 31 = false) ∧ (s.ssv.run = true) ∧ (s.rst.stackUp = true)) ∧
    (∃ (n : Nat) (l : Nat) (w : Word) (s : State), (messageLane s.bar.txMap = some l) ∧ (s.ssv.peerSeq = some n) ∧ (w.toNat / 0x100000 % 256 ≠ (n + 1) % 256) ∧ (s.ssv.st ≠ svSLEEP) ∧ (s.rst.stackUp = true)) ∧
    (∃ (s : State), (s.due s.soc.peerAt 120000 = true) ∧ (s.fg R.SAF_STAT_STATE = stRUN) ∧ (s.sysUp = true)) ∧
    (∃ (l : Nat) (s : State), (messageLane s.bar.txMap = some l) ∧ (s.due s.ssv.peerAt 120000 = true) ∧ (s.ssv.st ≠ svSLEEP) ∧ (s.rst.stackUp = true)) ∧
    (∃ (s : State), (s.fg R.SAF_STAT_STATE = stRUN) ∧ (s.sysUp = true)) ∧
    (∃ (s : State), (s.rst.stackUp = true)) ∧
    (∃ (c : Nat) (s : State), (s.fg R.SAF_STAT_STATE = stRUN) ∧ (s.sysUp = true)) ∧
    (∃ (s : State), (s.fg R.SAF_STAT_STATE = stRUN) ∧ (s.soc.rampPend = false) ∧ (s.sysUp = true)) ∧
    (∃ (s : State), (s.rst.stackUp = true) ∧ (mSLEEP ∈ s.bar.repDown) ∧ (s.ssv.st ≠ svSLEEP)) ∧
    (∃ (s : State), (s.sysUp = true)) ∧
    (∃ (n : BitVec 6) (p : BitVec 6) (s : State), (s.due (Smap.get (fun _ => 0) s.duty 6) 100000 = true) ∧ (n.toNat = driven s) ∧ (s.fg R.SAF_OUT_ON = driven s) ∧ (s.soc.pulse = none) ∧ (p.toNat &&& s.fg R.SAF_OUT_ON = 0) ∧ (s.sysUp = true)) ∧
    (∃ (o : Fin 6) (n : BitVec 6) (p : BitVec 6) (s : State), (s.due (Smap.get (fun _ => 0) s.duty 6) 100000 = true) ∧ (o.val < 4) ∧ (s.tb R.SAF_OUT_ON o.val = false) ∧ (s.soc.pulse = none) ∧ (n.toNat.testBit o.val = true) ∧ (s.rbCount o.val 0 = 2) ∧ (∀ k ∈ List.range 6, k = o.val ∨ s.rbCount k 0 ≤ 1) ∧ (s.fg R.SAF_STAT_STATE = stRUN) ∧ (s.sysUp = true)) ∧
    (∃ (o : Fin 6) (s : State), (pulseMay s o.val = true) ∧ (s.sysUp = true)) ∧
    (∃ (o : Nat) (a : Nat) (s : State), (s.soc.pulse = some (o, a)) ∧ (s.due a (1000 * s.fg R.SAF_OPT_OFFPW) = true) ∧ (s.sysUp = true)) ∧
    (∃ (o : Nat) (a : Nat) (s : State), (s.soc.pulse = some (o, a)) ∧ (o < 6) ∧ (s.due a (1000 * s.fg R.SAF_OPT_OFFPW) = true) ∧ (s.sysUp = true)) ∧
    (∃ (o : Fin 6) (s : State), (s.tb R.SAF_OUT_ON o.val = true) ∧ (s.sysUp = true)) ∧
    (∃ (k : Bool) (g : BitVec 6) (s : State), (s.due (Smap.get (fun _ => 0) s.duty 7) 1000000 = true) ∧ (k = false ∨ s.fg R.SAF_OUT_ON &&& g.toNat ≠ s.fg R.SAF_OUT_ON) ∧ (s.sysUp = true)) ∧
    (∃ (g : BitVec 6) (s : State), (s.due (Smap.get (fun _ => 0) s.duty 7) 1000000 = true) ∧ (s.fg R.SAF_OUT_ON &&& g.toNat = s.fg R.SAF_OUT_ON) ∧ (s.sysUp = true)) :=
  ⟨⟨upF [(R.SWC_CTRL_EN, 1), (R.SWC_STAT_REF_SETTLED, 1), (R.SWC_CTRL_LEN, 73), (R.SWC_INJEN_SRCS, 0)], by decide +kernel⟩,
    ⟨upF [(R.SWC_CTRL_EN, 1), (R.SWC_STAT_REF_SETTLED, 1), (R.SWC_CTRL_ILEN, 4), (R.SWC_INJEN_SRCS, 4), (R.SWC_STAT_STATE, 1)], by decide +kernel⟩,
    ⟨21, upF [(R.SWC_CTRL_EN, 0)], by decide⟩,
    ⟨0, upF [(R.SAF_STAT_STATE, 2), (R.SAF_OUTEN_EN, 3), (R.SAF_OUT_DEM, 1)], by decide⟩,
    ⟨8, upF [(R.SAF_STAT_STATE, 2)], by decide⟩,
    ⟨{ upF [(R.SAF_STAT_STATE, 2)] with lt := 2000000 }, by decide⟩,
    ⟨{ up with ssv := { st := 2, run := true }, lt := 7 }, by decide⟩,
    ⟨{ upRun [] with soc := { tokSeq := 255 } }, by decide⟩,
    ⟨21, { up with ssv := { tokSeq := 255 } }, by decide⟩,
    ⟨255, 0xA0000000, { upRun [] with soc := { peerSeq := some 255 }, lt := 7 }, by decide⟩,
    ⟨1, 0xA0000000, { upRun [] with soc := { peerSeq := some 1 }, lt := 7 }, by decide⟩,
    ⟨255, 0, { up with ssv := { peerSeq := some 255 }, lt := 7 }, by decide⟩,
    ⟨255, 0, { up with ssv := { peerSeq := some 255, st := 2, run := true }, lt := 7 }, by decide⟩,
    ⟨1, 21, 0, { up with ssv := { peerSeq := some 1, st := 2, run := true }, lt := 7 }, by decide⟩,
    ⟨{ upRun [] with lt := 120000 }, by decide⟩,
    ⟨21, { up with ssv := { st := 2, run := true }, lt := 120000 }, by decide⟩,
    ⟨upRun [], by decide⟩,
    ⟨{ up with ssv := { st := 2, run := true } }, by decide⟩,
    ⟨1, upRun [], by decide⟩,
    ⟨upRun scs1Set, by decide⟩,
    ⟨{ upF [(R.SAF_STAT_SRUN, 1)] with bar := { repDown := [mSLEEP] }, ssv := { st := 2, run := true }, lt := 7 }, by decide⟩,
    ⟨up, by decide⟩,
    ⟨3, 0, { upRun [] with soc := { rb := [(0, 1), (1, 2)] }, duty := [(6, 9)], lt := 100009 }, by decide⟩,
    ⟨3, 8, 0, { upRun [] with soc := { rb := [(12, 2)] }, lt := 100000 }, by decide⟩,
    ⟨1, { upRun [] with lt := 1000000000 }, by decide⟩,
    ⟨1, 5, { upRun [(R.SAF_OPT_OFFPW, 100)] with soc := { pulse := some (1, 5) }, lt := 100005 }, by decide⟩,
    ⟨1, 5, { upRun [(R.SAF_OPT_OFFPW, 100)] with soc := { pulse := some (1, 5) }, lt := 100005 }, by decide⟩,
    ⟨1, upRun [], by decide⟩,
    ⟨true, 1, { upRun [] with lt := 1000000 }, by decide⟩,
    ⟨3, { upRun [] with lt := 1000000 }, by decide⟩⟩

theorem wit_BlackChannelAndChecksumsTakeEffect :
    (∃ (p : Packet) (q : Packet) (k : Nat) (n : Nat) (b : List Byte) (s : State) (s1 : State), (Admits 0x70 p s q s1) ∧ (q.payload = b) ∧ (n = u8 b 8) ∧ (b.length = 16 + n) ∧ ((s1.consumers.find? fun k => s1.fg (R.SAF_CONN_W0_CID k) == u32 b 0) = some k) ∧ (u32 b (12 + n) = safetyCrc (b.take (12 + n))) ∧ (pduFieldsBad s1 k b = false) ∧ (s1.fg (R.SAF_CONN_W1_USE k) ≠ 1) ∧ ((s1.conn k).lastSeq = none ∨ ∃ z ∈ (s1.conn k).lastSeq, 1 ≤ (u16 b 4 + 65536 - z) % 65536 ∧ (u16 b 4 + 65536 - z) % 65536 ≤ 32767)) ∧
    (∃ (p : Packet) (q : Packet) (k : Nat) (b : List Byte) (s : State) (s1 : State), (Admits 0x70 p s q s1) ∧ (q.payload = b) ∧ (b.length = 16 + u8 b 8) ∧ ((s1.consumers.find? fun k => s1.fg (R.SAF_CONN_W0_CID k) == u32 b 0) = some k) ∧ (u32 b (12 + u8 b 8) = safetyCrc (b.take (12 + u8 b 8))) ∧ (pduFieldsBad s1 k b = false) ∧ (s1.fg (R.SAF_CONN_W1_USE k) = 1) ∧ (pduDemandBad b = false) ∧ (u8 b 9 = 1) ∧ ((s1.conn k).lastSeq = none) ∧ (s1.fg R.SAF_STAT_STATE = stRUN) ∧ (s1.fg R.SAF_CFG_DSRC = 0)) ∧
    (∃ (p : Packet) (q : Packet) (s : State) (s1 : State), (Admits 0x70 p s q s1) ∧ (q.payload.length = 16 + u8 q.payload 8) ∧ ((s1.consumers.find? fun k => s1.fg (R.SAF_CONN_W0_CID k) == u32 q.payload 0) = none)) ∧
    (∃ (p : Packet) (q : Packet) (k : Nat) (s : State) (s1 : State), (Admits 0x70 p s q s1) ∧ (q.payload.length = 16 + u8 q.payload 8) ∧ ((s1.consumers.find? fun k => s1.fg (R.SAF_CONN_W0_CID k) == u32 q.payload 0) = some k) ∧ (u32 q.payload (12 + u8 q.payload 8) ≠ safetyCrc (q.payload.take (12 + u8 q.payload 8))) ∧ ((s1.conn k).crcAt = [])) ∧
    (∃ (k : Fin 8) (s : State), (s.fg (R.SAF_CONN_W1_ROLE k.val) = 1) ∧ ((s.conn k.val).late = false) ∧ (s.sysUp = true) ∧ (s.due (s.conn k.val).lastAt (1000000 * s.fg (R.SAF_CONN_W2_TE k.val)) = true)) ∧
    (∃ (k : Fin 8) (s : State), (s.fg (R.SAF_CONN_W1_ROLE k.val) = 2) ∧ ((s.conn k.val).nextAt ≤ s.lt) ∧ (addrMode (s.fg (R.SAF_CONN_W1_PEER k.val)) = 0xC) ∧ (addrField (s.fg (R.SAF_CONN_W1_PEER k.val)) = s.ownAddr) ∧ (s.hst.replies.length < 8) ∧ (s.sysUp = true)) ∧
    (∃ (k : Fin 8) (s : State), (s.fg (R.SAF_CONN_W1_ROLE k.val) = 2) ∧ (addrMode (s.fg (R.SAF_CONN_W1_PEER k.val)) = 0) ∧ (s.due (s.conn k.val).fetchAt 1000000000 = true) ∧ (s.sysUp = true)) ∧
    (∃ (s : State), (s.sysUp = true) ∧ (s.due (Smap.get (fun _ => 0) s.duty 8) 10000000 = true) ∧ (s.fb R.SAF_STAT_LOADED = true) ∧ (s.fg R.SAF_STAT_STATE = stRUN) ∧ (yckOf s.reg ≠ (s.reg R.SAF_YCK).toNat)) ∧
    (∃ (s : State), (s.sysUp = true) ∧ (s.due (Smap.get (fun _ => 0) s.duty 8) 10000000 = true) ∧ (s.fb R.SAF_STAT_LOADED = true → yckOf s.reg = (s.reg R.SAF_YCK).toNat)) ∧
    (∃ (l : Nat) (s : State), (messageLane s.bar.txMap = some l) ∧ (s.rst.stackUp = true) ∧ (s.due (Smap.get (fun _ => 0) s.duty 9) 10000000 = true) ∧ (s.fb R.SAF_STAT_LOADED = true) ∧ (s.fg R.SAF_STAT_STATE ≠ stINIT) ∧ (s.soc.setOk = true) ∧ (stackSck s ≠ s.committedSck)) ∧
    (∃ (r : SafRec) (s : State), (s.safRec = some r) ∧ (s.fb R.SAF_STAT_LOADED = true) ∧ (s.soc.setOk = false) ∧ (stackReachable s = true) ∧ (s.sysUp = true) ∧ (∀ c ∈ s.change, c.phase ≠ 2)) :=
  ⟨⟨pk 0x70 0 (pdu 9 5 50 0 [1, 2, 3, 4, 5]), pk 0x70 0 (pdu 9 5 50 0 [1, 2, 3, 4, 5]), 3, 5, pdu 9 5 50 0 [1, 2, 3, 4, 5], upF con3, upF con3, by decide +kernel⟩,
    ⟨pk 0x70 0 (pdu 9 5 50 1 [0, 0]), pk 0x70 0 (pdu 9 5 50 1 [0, 0]), 3, pdu 9 5 50 1 [0, 0], upRun (con3 ++ [(R.SAF_CONN_W1_USE 3, 1)]), upRun (con3 ++ [(R.SAF_CONN_W1_USE 3, 1)]), by decide +kernel⟩,
    ⟨pk 0x70 0 (pdu 8 5 50 0 []), pk 0x70 0 (pdu 8 5 50 0 []), upF con3, upF con3, by decide +kernel⟩,
    ⟨pk 0x70 0 ((pdu 9 5 50 0 []).set 4 6), pk 0x70 0 ((pdu 9 5 50 0 []).set 4 6), 3, upF con3, upF con3, by decide +kernel⟩,
    ⟨3, { upRun (con3 ++ [(R.SAF_CONN_W3_LIVE 3, 1), (R.SAF_CONN_W1_ACT 3, 2), (⟨R.SAF_RXD 3 15, 0, 32⟩, 7)]) with lt := 50000000 }, by decide⟩,
    ⟨3, { upF [(R.SAF_CONN_W1_ROLE 3, 2), (R.SAF_CONN_W1_PEER 3, 0xC000)] with lt := 7 }, by decide⟩,
    ⟨3, { upF [(R.SAF_CONN_W1_ROLE 3, 2), (R.SAF_CONN_W1_PEER 3, 5)] with lt := 1000000000 }, by decide⟩,
    ⟨{ upRun [(⟨R.SAF_YCK, 0, 32⟩, 1)] with lt := 10000000 }, by decide +kernel⟩,
    ⟨{ upF [(R.SAF_STAT_LOADED, 1), (R.SAF_STAT_STATE, 1), (⟨R.SAF_YCK, 0, 32⟩, yckOf up.reg)] with lt := 10000000 }, by decide +kernel⟩,
    ⟨21, { upRun [(⟨R.SAF_SCK, 0, 32⟩, 1)] with soc := { setOk := true }, lt := 10000000 }, by decide +kernel⟩,
    ⟨{}, { upF [(R.SAF_STAT_LOADED, 1), (R.SAF_STAT_STATE, 1)] with nv := { safA := some {} } }, by decide⟩⟩

theorem wit_SafetySetChangesTakeEffect :
    (∃ (r : SafRec) (s : State), (s.cpRuns = true) ∧ (s.fg R.RST_STAT_STEP = 5) ∧ (s.fb R.SAF_STAT_LOADED = false) ∧ (s.rst.setTried = false) ∧ (s.safRec = some r) ∧ (stackReachable s = true) ∧ (s.fg R.SAF_STAT_STATE = stINIT) ∧ (s.nv.foundOk = true) ∧ (s.rst.fabHeld = false) ∧ (s.rst.p0Held = false)) ∧
    (∃ (s : State), (s.cpRuns = true) ∧ (s.fg R.RST_STAT_STEP = 5) ∧ (s.fb R.SAF_STAT_LOADED = false) ∧ (s.rst.setTried = false) ∧ (s.safRec = none)) ∧
    (∃ (p : Packet) (q : Packet) (w : List Byte) (s : State) (s1 : State), (Admits 0x71 p s q s1) ∧ (q.noReply = false) ∧ (q.payload.length = 36) ∧ (s1.pwd.lockAt = none) ∧ (passwordField q.payload 0 = some w) ∧ (pwDefault s1 = false) ∧ (s1.change = none) ∧ realVia q.via) ∧
    (∃ (p : Packet) (q : Packet) (c : SafChange) (st : Stat) (l : List (Nat × Word)) (s : State) (s1 : State), (Admits 0x72 p s q s1) ∧ (q.noReply = false) ∧ (q.payload.length = 16) ∧ (leAt q.payload 4 4 = 1) ∧ (openChange q s1 = some c) ∧ (stageOne s1 c.staged (u32 q.payload 8) (w32 (u32 q.payload 12)) = (st, l))) ∧
    (∃ (p : Packet) (q : Packet) (c : SafChange) (s : State) (s1 : State), (Admits 0x73 p s q s1) ∧ (q.payload.length = 4) ∧ (openChange q s1 = some c) ∧ (s1.energised = false) ∧ (s1.fg R.SAF_STAT_STATE ≠ stSTARTING) ∧ (s1.nv.jphase = 0) ∧ (s1.cad.deed = none) ∧ (s1.fb R.CAD_STAT_SCRUB = false) ∧ (s1.nv.logUnack < 64) ∧ (setInvalid (mergedSet s1 c.staged) = false)) ∧
    (∃ (j : NvJob) (l : List NvJob) (c : SafChange) (s : State), (s.nv.jphase = 1) ∧ (s.nv.jobs = j :: l) ∧ (j.kind = 2) ∧ (s.change = some c) ∧ (c.phase = 1)) ∧
    (∃ (c : SafChange) (s : State), (s.change = some c) ∧ (c.phase = 2) ∧ (s.sysUp = true) ∧ (c.req.noReply = false) ∧ realVia c.req.via) ∧
    (∃ (p : Packet) (q : Packet) (c : SafChange) (s : State) (s1 : State), (Admits 0x74 p s q s1) ∧ (q.noReply = false) ∧ (q.payload.length = 4) ∧ (openChange q s1 = some c) ∧ realVia q.via) ∧
    (∃ (c : SafChange) (s : State), (s.change = some c) ∧ (c.phase = 0) ∧ (s.due c.at_ 60000000000 = true)) ∧
    (∃ (p : Packet) (q : Packet) (s : State) (s1 : State), (Admits 0x75 p s q s1) ∧ (q.noReply = false) ∧ (q.payload.length = 2) ∧ (u8 q.payload 0 ≤ 63) ∧ (1 ≤ u8 q.payload 1) ∧ (u8 q.payload 1 ≤ 64) ∧ (q.auth = none)) ∧
    (∃ (p : Packet) (q : Packet) (d : Nat) (s : State) (s1 : State), (Admits 0x76 p s q s1) ∧ (q.noReply = false) ∧ (q.payload.length = 1) ∧ (u8 q.payload 0 ≤ 63) ∧ (s1.nv.logUnack ≤ 64) ∧ (s1.nv.logNext < 64) ∧ (d < s1.nv.logUnack) ∧ (u8 q.payload 0 = (s1.nv.logNext + 64 - s1.nv.logUnack + d) % 64)) ∧
    (∃ (p : Packet) (q : Packet) (o : List Byte) (w : List Byte) (s : State) (s1 : State), (Admits 0x77 p s q s1) ∧ (q.noReply = false) ∧ (q.payload.length = 72) ∧ (s1.pwd.lockAt = none) ∧ (passwordField q.payload 0 = some o) ∧ (passwordField q.payload 36 = some w) ∧ (s1.nv.logUnack < 64)) ∧
    (∃ (a : Nat) (s : State), (s.pwd.lockAt = some a) ∧ (s.due a 60000000000 = true)) :=
  ⟨⟨{ sck := 5, yck := 6, ck := 7 }, { State.reset.fs R.RST_STAT_STEP 5 with rst := { stackUp := true }, nv := { safA := some { sck := 5, yck := 6, ck := 7 } } }, by decide⟩,
    ⟨State.reset.fs R.RST_STAT_STEP 5, by decide⟩,
    ⟨pk 0x71 1 (pwField [1, 2, 3, 4, 5, 6, 7, 8]), pk 0x71 1 (pwField [1, 2, 3, 4, 5, 6, 7, 8]), [1, 2, 3, 4, 5, 6, 7, 8], { up with nv := { pwHash := [1] } }, { up with nv := { pwHash := [1] } }, by decide⟩,
    ⟨pk 0x72 1 (leBytes 4 9 ++ [1, 0, 0, 0] ++ leBytes 4 R.SAF_OPT ++ leBytes 4 0x006400C8), pk 0x72 1 (leBytes 4 9 ++ [1, 0, 0, 0] ++ leBytes 4 R.SAF_OPT ++ leBytes 4 0x006400C8), { handle := 9 }, .ok, [(R.SAF_OPT, 0x006400C8)], { up with change := some { handle := 9 } }, { up with change := some { handle := 9 } }, by decide +kernel⟩,
    ⟨pk 0x73 1 (leBytes 4 9), pk 0x73 1 (leBytes 4 9), { handle := 9 }, { up with change := some { handle := 9 } }, { up with change := some { handle := 9 } }, by decide +kernel⟩,
    ⟨{ kind := 2 }, [], { handle := 9, phase := 1, newRec := { ck := 7 } }, { up with change := some { handle := 9, phase := 1, newRec := { ck := 7 } }, nv := { jphase := 1, jobs := [{ kind := 2 }] }, now := 77 }, by decide⟩,
    ⟨{ phase := 2, epoch := 1024, newRec := { sck := 5, yck := 6, ck := 7 } }, { upF [(R.SAF_STAT_OPEN, 1)] with change := some { phase := 2, epoch := 1024, newRec := { sck := 5, yck := 6, ck := 7 } } }, by decide⟩,
    ⟨pk 0x74 1 (leBytes 4 9), pk 0x74 1 (leBytes 4 9), { handle := 9 }, { upF [(R.SAF_STAT_OPEN, 1)] with change := some { handle := 9 } }, { upF [(R.SAF_STAT_OPEN, 1)] with change := some { handle := 9 } }, by decide⟩,
    ⟨{ handle := 9 }, { upF [(R.SAF_STAT_OPEN, 1)] with change := some { handle := 9 }, lt := 60000000000 }, by decide⟩,
    ⟨pk 0x75 2 [63, 64], pk 0x75 2 [63, 64], { up with nv := { log := [(0, { seq := 5 })] } }, { up with nv := { log := [(0, { seq := 5 })] } }, by decide⟩,
    ⟨pk 0x76 1 [63], pk 0x76 1 [63], 1, { up with nv := { logNext := 1, logUnack := 3 } }, { up with nv := { logNext := 1, logUnack := 3 } }, by decide⟩,
    ⟨pk 0x77 1 (pwField (List.replicate 16 48) ++ pwField (List.replicate 8 65)), pk 0x77 1 (pwField (List.replicate 16 48) ++ pwField (List.replicate 8 65)), List.replicate 16 48, List.replicate 8 65, up, up, by decide⟩,
    ⟨5, { up with pwd := { fails := 5, lockAt := some 5 }, lt := 60000000005 }, by decide⟩⟩

theorem wit_FaultCommandsTakeEffect :
    (∃ (e : FltEv) (j : Nat) (s : State), (e ∈ s.flt.arriving) ∧ (∀ x ∈ s.flt.arriving, x = e ∨ e.at_ < x.at_ ∨ e.at_ = x.at_ ∧ e.code < x.code) ∧ (s.fb R.FLT_STAT_OPEN = false) ∧ (e.cls < 3) ∧ (j = (s.fg R.FLT_HSEQ_NEWEST + 1) % 32)) ∧
    (∃ (e : FltEv) (j : Nat) (s : State), (e ∈ s.flt.arriving) ∧ (∀ x ∈ s.flt.arriving, x = e ∨ e.at_ < x.at_ ∨ e.at_ = x.at_ ∧ e.code < x.code) ∧ (s.fb R.FLT_STAT_OPEN = true) ∧ (e.cls < 3) ∧ (e.code < 256) ∧ (s.flt.openCls ≤ 3) ∧ (j = s.fg R.FLT_HSEQ_NEWEST) ∧ (s.flt.openCls = 3 → (s.energised = true ∨ s.toggling = true) ∧ s.now < s.flt.openAt + 100000) ∧ (s.flt.openCls ≠ 3 → s.now < (s.flt.openAt / 10000 + 2) * 10000)) ∧
    (∃ (e : FltEv) (j : Nat) (s : State), (s.flt.arriving = [e]) ∧ (s.fb R.FLT_STAT_OPEN = true) ∧ (s.flt.openCls ≠ 3) ∧ ((s.flt.openAt / 10000 + 2) * 10000 ≤ s.now) ∧ (e.cls < 3) ∧ (j = (s.fg R.FLT_HSEQ_NEWEST + 1) % 32)) ∧
    (∃ (e : FltEv) (s : State), (e ∈ s.flt.arriving) ∧ (∀ x ∈ s.flt.arriving, x = e ∨ e.at_ < x.at_ ∨ e.at_ = x.at_ ∧ e.code < x.code) ∧ (e.cls = 3) ∧ (s.fg R.SAF_STAT_STATE = stRUN)) ∧
    (∃ (s : State), (s.fb R.FLT_STAT_OPEN = true) ∧ (s.flt.openCls ≠ 3) ∧ ((s.flt.openAt / 10000 + 2) * 10000 ≤ s.now)) ∧
    (∃ (s : State), (s.fb R.FLT_STAT_OPEN = true) ∧ (s.flt.openCls = 3) ∧ (s.flt.openAt + 100000 ≤ s.now)) ∧
    (∃ (s : State), (s.fb R.FLT_STAT_OPEN = true) ∧ (s.flt.openCls = 3) ∧ (s.energised = false) ∧ (s.toggling = false)) ∧
    (∃ (c : Nat) (e : FltEv) (l : List FltEv) (s : State), (messageLane s.bar.txMap = some c) ∧ (s.stackQ = e :: l) ∧ (s.upWorks = true)) ∧
    (∃ (v : Word) (s : State), (accessCheck s R.FLT_CTRL (w32 (setBit v.toNat 31 true)) = none)) ∧
    (∃ (s : State), (s.rst.stackUp = true) ∧ (s.due (Smap.get (fun _ => 0) s.duty 11) 250000 = true) ∧ (s.toneGood = true)) ∧
    (∃ (s : State), (s.rst.stackUp = true) ∧ (s.due (Smap.get (fun _ => 0) s.duty 11) 250000 = true) ∧ (s.toneGood = false)) ∧
    (∃ (x : Nat) (s : State), (s.rst.stackUp = true) ∧ (s.tone.edgeAt = some x) ∧ (200000 ≤ s.lt - x) ∧ (s.lt - x ≤ 300000)) ∧
    (∃ (x : Nat) (s : State), (s.rst.stackUp = true) ∧ (s.tone.edgeAt = some x) ∧ (s.lt - x ≤ 150000) ∧ (s.tone.inGood = true) ∧ (s.stackQ.length < 16)) ∧
    (∃ (x : Nat) (s : State), (s.rst.stackUp = true) ∧ (s.tone.edgeAt = some x) ∧ (s.due x 400000 = true) ∧ (s.tone.inGood = true) ∧ (s.stackQ.length < 16)) ∧
    (∃ (s : State), (s.downWorks = true) ∧ (s.tone.tog = false) ∧ (s.due (Smap.get (fun _ => 0) s.duty 10) 100000 = true)) ∧
    (∃ (s : State), (s.rst.stackUp = true) ∧ (s.due s.tone.healthAt 300000 = true)) :=
  ⟨⟨{ code := 0x35, cls := 2, isl := 41, param := 3, at_ := 5 }, 4, { upF [(R.FLT_HSEQ_NEWEST, 3), (R.FLT_HSEQ_SEQ, 65535), (R.FLT_STAT_NENT, 32)] with now := 7777, flt := { arriving := [{ code := 0x36, at_ := 5 }, { code := 0x35, cls := 2, isl := 41, param := 3, at_ := 5 }] } }, by decide⟩,
    ⟨{ code := 0x35, cls := 1, isl := 41, param := 3, at_ := 5 }, 3, { upF [(R.FLT_HSEQ_NEWEST, 3), (R.FLT_HSEQ_SEQ, 9), (R.FLT_STAT_NENT, 32), (R.FLT_STAT_OPEN, 1)] with now := 7777, flt := { openCls := 2, arriving := [{ code := 0x35, cls := 1, isl := 41, param := 3, at_ := 5 }] } }, by decide⟩,
    ⟨{ code := 0x35, cls := 1, isl := 41, param := 3, at_ := 5 }, 4, { upF [(R.FLT_HSEQ_NEWEST, 3), (R.FLT_HSEQ_SEQ, 9), (R.FLT_STAT_NENT, 7), (R.FLT_STAT_OPEN, 1)] with now := 30000, flt := { openAt := 19999, openCls := 2, arriving := [{ code := 0x35, cls := 1, isl := 41, param := 3, at_ := 5 }] } }, by decide⟩,
    ⟨{ code := 0x02, cls := 3, isl := 41, at_ := 5 }, { upRun [] with flt := { arriving := [{ code := 0x02, cls := 3, isl := 41, at_ := 5 }, { code := 0x36, at_ := 6 }] } }, by decide⟩,
    ⟨{ upF [(R.FLT_STAT_OPEN, 1)] with now := 30000, flt := { openAt := 19999, openCls := 2 } }, by decide⟩,
    ⟨{ upF [(R.FLT_STAT_OPEN, 1), (R.SAF_OUT_ON, 1)] with now := 119999, flt := { openAt := 19999, openCls := 3 } }, by decide⟩,
    ⟨{ upF [(R.FLT_STAT_OPEN, 1)] with now := 19999, flt := { openAt := 19999, openCls := 3 } }, by decide⟩,
    ⟨21, { code := 0x6D, isl := 48, param := 3 }, [{ code := 0x36 }], { up with stackQ := [{ code := 0x6D, isl := 48, param := 3 }, { code := 0x36 }], lt := 9 }, by decide⟩,
    ⟨0x80000000, upF [(R.FLT_HSEQ_NEWEST, 3), (R.FLT_HSEQ_SEQ, 9), (R.FLT_STAT_NENT, 32), (R.FLT_STAT_OPEN, 1), (⟨R.FLT_HQ_W1 31, 0, 32⟩, 8)], by decide⟩,
    ⟨{ up with tone := { head := true, health := true, healthAt := 250000 }, lt := 250000 }, by decide⟩,
    ⟨{ up with tone := { tog := true, level := false }, lt := 250000 }, by decide⟩,
    ⟨5, { up with tone := { edgeAt := some 5, good := 7 }, lt := 250005 }, by decide⟩,
    ⟨5, { up with tone := { edgeAt := some 5, good := 8, inGood := true, tog := true, level := false }, lt := 150005 }, by decide⟩,
    ⟨5, { up with tone := { edgeAt := some 5, good := 8, inGood := true }, lt := 400005 }, by decide⟩,
    ⟨{ up with lt := 100000 }, by decide⟩,
    ⟨{ up with lt := 300000, tone := { tog := true, level := false, head := true, health := true } }, by decide⟩⟩

theorem wit_SelfTestCommandsTakeEffect :
    (∃ (b : BitVec 32) (s : State), (s.cpRuns = true) ∧ (s.fg R.RST_STAT_STEP = 3) ∧ (∀ p ∈ List.range 32, p < s.plotsFit → s.nv.retired.testBit p = false → b.toNat.testBit p = false)) ∧
    (∃ (f : Bool) (b : BitVec 32) (s : State), (s.cpRuns = true) ∧ (s.fg R.RST_STAT_STEP = 3)) ∧
    (∃ (s : State), (s.cpRuns = true) ∧ (s.fg R.RST_STAT_STEP = 3)) ∧
    (∃ (p : Fin 32) (s : State), (s.cpRuns = true) ∧ (s.fg R.RST_STAT_STEP = 3) ∧ (p.val < s.plotsFit) ∧ (s.nv.retired.testBit p.val = false)) ∧
    (∃ (p : Nat) (s : State), (s.cpRuns = true) ∧ (s.nrot ≠ 0) ∧ (s.fb R.BST_ROT_EN = true) ∧ (s.spare < 32) ∧ (s.fb R.CAD_STAT_RESTORED = true) ∧ (∀ v ∈ s.bst.visitAt, s.due v (1000000000 * s.fg R.BST_ROT_PERIOD / max 1 s.nrot) = true) ∧ (∀ v ∈ s.bst.triedAt, s.due v 1000000000 = true) ∧ (s.arr.move = none) ∧ (s.fg R.BST_STAT_TESTPLOT = 0x3F) ∧ (visitPlot s = some p) ∧ (visitDeferred s p = false) ∧ (p = s.spare)) ∧
    (∃ (p : Nat) (s : State), (s.cpRuns = true) ∧ (s.nrot ≠ 0) ∧ (s.fb R.BST_ROT_EN = true) ∧ (s.spare < 32) ∧ (s.fb R.CAD_STAT_RESTORED = true) ∧ (∀ v ∈ s.bst.visitAt, s.due v (1000000000 * s.fg R.BST_ROT_PERIOD / max 1 s.nrot) = true) ∧ (∀ v ∈ s.bst.triedAt, s.due v 1000000000 = true) ∧ (s.arr.move = none) ∧ (s.fg R.BST_STAT_TESTPLOT = 0x3F) ∧ (visitPlot s = some p) ∧ (visitDeferred s p = false) ∧ (p ≠ s.spare) ∧ (s.placed p = none)) ∧
    (∃ (p : Nat) (q : Nat) (n : Nat) (s : State), (s.cpRuns = true) ∧ (s.nrot ≠ 0) ∧ (s.fb R.BST_ROT_EN = true) ∧ (s.spare < 32) ∧ (s.fb R.CAD_STAT_RESTORED = true) ∧ (∀ v ∈ s.bst.visitAt, s.due v (1000000000 * s.fg R.BST_ROT_PERIOD / max 1 s.nrot) = true) ∧ (∀ v ∈ s.bst.triedAt, s.due v 1000000000 = true) ∧ (s.arr.move = none) ∧ (s.fg R.BST_STAT_TESTPLOT = 0x3F) ∧ (visitPlot s = some p) ∧ (visitDeferred s p = false) ∧ (p ≠ s.spare) ∧ (s.placed p = some (q, n))) ∧
    (∃ (p : Nat) (s : State), (s.cpRuns = true) ∧ (s.nrot ≠ 0) ∧ (s.fb R.BST_ROT_EN = true) ∧ (s.spare < 32) ∧ (s.fb R.CAD_STAT_RESTORED = true) ∧ (∀ v ∈ s.bst.visitAt, s.due v (1000000000 * s.fg R.BST_ROT_PERIOD / max 1 s.nrot) = true) ∧ (∀ v ∈ s.bst.triedAt, s.due v 1000000000 = true) ∧ (s.arr.move = none) ∧ (s.fg R.BST_STAT_TESTPLOT = 0x3F) ∧ (visitPlot s = some p) ∧ (visitDeferred s p = true)) ∧
    (∃ (p : Nat) (s : State), (p = s.fg R.BST_STAT_TESTPLOT) ∧ (p < 32) ∧ (s.plotState p = psTEST) ∧ (s.bst.parcel = 0)) ∧
    (∃ (p : Nat) (s : State), (p = s.fg R.BST_STAT_TESTPLOT) ∧ (p < 32) ∧ (s.plotState p = psTEST) ∧ (2 ≤ s.bst.parcel)) ∧
    (∃ (p : Nat) (s : State), (p = s.fg R.BST_STAT_TESTPLOT) ∧ (p < 32) ∧ (s.plotState p = psTEST) ∧ (s.bst.parcel = 0)) ∧
    (∃ (p : Fin 32) (s : State), (p.val < s.plotsFit)) ∧
    (∃ (p : Fin 32) (s : State), (p.val < s.plotsFit)) ∧
    (∃ (b : BitVec 32) (v : Word) (s : State), (accessCheck s R.BST_CTL (w32 (setBit v.toNat 31 true)) = none) ∧ (s.energised = false) ∧ (∀ p ∈ liveRotation s, b.toNat.testBit p = false)) ∧
    (∃ (p : Nat) (b : BitVec 32) (v : Word) (s : State), (accessCheck s R.BST_CTL (w32 (setBit v.toNat 31 true)) = none) ∧ (s.energised = false) ∧ (p ∈ liveRotation s) ∧ (b.toNat.testBit p = true)) ∧
    (∃ (b : BitVec 32) (v : Word) (s : State), (accessCheck s R.BST_CTL (w32 (setBit v.toNat 31 true)) = none) ∧ (s.energised = true)) :=
  ⟨⟨0, { State.reset.fs R.RST_STAT_STEP 3 with lt := 9 }, by decide⟩,
    ⟨true, 3, State.reset.fs R.RST_STAT_STEP 3, by decide⟩,
    ⟨State.reset.fs R.RST_STAT_STEP 3, by decide⟩,
    ⟨31, State.reset.fs R.RST_STAT_STEP 3, by decide +kernel⟩,
    ⟨31, upF [(R.ENG_STAT_SPARE, 31), (R.BST_ROT_EN, 1), (R.BST_ROT_CURSOR, 31), (R.BST_ROT_PERIOD, 10), (R.CAD_STAT_RESTORED, 1), (R.BST_STAT_TESTPLOT, 0x3F)], by decide +kernel⟩,
    ⟨5, upF [(R.ENG_STAT_SPARE, 31), (R.BST_ROT_EN, 1), (R.BST_ROT_CURSOR, 5), (R.BST_ROT_PERIOD, 10), (R.CAD_STAT_RESTORED, 1), (R.BST_STAT_TESTPLOT, 0x3F)], by decide +kernel⟩,
    ⟨5, 2, 3, { upF [(R.ENG_STAT_SPARE, 31), (R.BST_ROT_EN, 1), (R.BST_ROT_CURSOR, 5), (R.BST_ROT_PERIOD, 10), (R.CAD_STAT_RESTORED, 1), (R.BST_STAT_TESTPLOT, 0x3F)] with arr := { place := [(67, 6)] } }, by decide +kernel⟩,
    ⟨5, { upF [(R.ENG_STAT_SPARE, 31), (R.BST_ROT_EN, 1), (R.BST_ROT_CURSOR, 5), (R.BST_ROT_PERIOD, 10), (R.CAD_STAT_RESTORED, 1), (R.BST_STAT_TESTPLOT, 0x3F)] with arr := { plots := [(5, { shut := true })] }, lt := 8 }, by decide +kernel⟩,
    ⟨5, upF [(R.BST_STAT_TESTPLOT, 5), (R.ENG_PLSTAT_STATE 5, 5)], by decide⟩,
    ⟨5, { upF [(R.BST_STAT_TESTPLOT, 5), (R.ENG_PLSTAT_STATE 5, 5)] with bst := { parcel := 3 } }, by decide⟩,
    ⟨5, { upF [(R.BST_STAT_TESTPLOT, 5), (R.ENG_PLSTAT_STATE 5, 5)] with nv := { retired := 2 } }, by decide⟩,
    ⟨31, up, by decide⟩,
    ⟨31, up, by decide⟩,
    ⟨0, 0, up, by decide⟩,
    ⟨7, 0x80, 0, up, by decide⟩,
    ⟨0, 0, upRun [], by decide⟩⟩

theorem wit_SleepAndSupplyCommandsTakeEffect :
    (∃ (x : Nat) (s : State), (s.pwr.lossAt = some x) ∧ (s.cpRuns = true) ∧ (s.commLost = true) ∧ (s.service = 3) ∧ (s.fg R.PWR_CTRL_TLOSS ≠ 0) ∧ (s.due x (100000000 * s.fg R.PWR_CTRL_TLOSS) = true) ∧ (s.fg R.PWR_STAT_SLEEP = 0)) ∧
    (∃ (x : Nat) (s : State), (s.pwr.lossAt = some x) ∧ (s.due x (100000000 * s.fg R.PWR_CTRL_TLOSS) = false)) ∧
    (∃ (v : Word) (s : State), (accessCheck s R.PWR_CTRL (w32 (setBit v.toNat 31 true)) = none) ∧ (v.toNat.testBit 30 = false) ∧ (v.toNat % 8192 = 0 ∨ 10 ≤ v.toNat % 8192 ∧ v.toNat % 8192 ≤ 6000) ∧ (s.fg R.PWR_STAT_SLEEP = 0)) ∧
    (∃ (v : Word) (s : State), (accessCheck s R.PWR_CTRL (w32 (setBit v.toNat 31 true)) = none) ∧ (1 ≤ v.toNat % 8192 ∧ v.toNat % 8192 ≤ 9 ∨ 6000 < v.toNat % 8192)) ∧
    (∃ (x : Nat) (s : State), (s.pwr.pendAt = some x) ∧ (s.fg R.PWR_STAT_SLEEP = 1) ∧ (s.nvBusy = false ∨ s.due x 500000000 = true)) ∧
    (∃ (x : Nat) (s : State), (s.pwr.noticeAt = some x) ∧ (s.fg R.PWR_STAT_SLEEP = 2) ∧ (s.pwr.auxAt = none) ∧ (s.due x 20000 = true)) ∧
    (∃ (x : Nat) (s : State), (s.pwr.auxAt = some x) ∧ (s.due x 1000000000 = true) ∧ (s.rst.scope = 0)) ∧
    (∃ (s : State), (s.ssv.st = svSLEEP) ∧ (s.stao.wakeAt = none) ∧ (s.stao.offAt = none) ∧ (s.fb R.PWR_WAKE_CMP = true) ∧ (s.stao.cmpRose = true)) ∧
    (∃ (s : State), (s.ssv.st = svSLEEP) ∧ (s.stao.wakeAt = none) ∧ (s.stao.offAt = none) ∧ (s.fg R.PWR_WAKE_PERIOD ≠ 0) ∧ (s.due s.stao.sleepAt (60000000000 * s.fg R.PWR_WAKE_PERIOD) = true)) ∧
    (∃ (s : State), (s.ssv.st = svSLEEP) ∧ (s.stao.wakeAt = none) ∧ (s.stao.offAt = none) ∧ (s.fb R.PWR_WAKE_BAL = true) ∧ (s.stao.balRan = true) ∧ (∀ n ∈ List.range 48, s.fg (R.BAL_TMR_TIME (n + 1)) = 0)) ∧
    (∃ (x : Nat) (s : State), (s.ssv.st = svSLEEP) ∧ (s.stao.wakeAt = some x) ∧ (s.due x 10000000000 = true)) ∧
    (∃ (x : Nat) (s : State), (s.ssv.st = svSLEEP) ∧ (s.stao.wakeAt = none) ∧ (s.stao.offAt = some x) ∧ (s.due x 1000000000 = true)) ∧
    (∃ (s : State), (s.ssv.st = svSLEEP) ∧ (s.downWorks = true) ∧ (s.fg R.PWR_STAT_SLEEP = 0)) ∧
    (∃ (v : Word) (s : State), (accessCheck s R.PWR_CTRL (w32 (setBit v.toNat 30 true)) = none) ∧ (v.toNat.testBit 31 = false) ∧ (v.toNat % 8192 = 0) ∧ (s.capFit = true) ∧ (s.fb R.PWR_CTRL_CAPOFF = false) ∧ (s.domStep domDRAM = 4) ∧ (s.domStep domDPHY = 4) ∧ (∀ k ∈ List.range 16, s.fg (R.CAP_B_W6_STATE k) ≠ 2 ∧ s.fg (R.CAP_B_W6_STATE k) ≠ 3)) ∧
    (∃ (k : Fin 16) (v : Word) (s : State), (accessCheck s R.PWR_CTRL (w32 (setBit v.toNat 30 true)) = none) ∧ (v.toNat % 8192 = 0) ∧ (s.capFit = true) ∧ (s.fg (R.CAP_B_W6_STATE k.val) = 2)) ∧
    (∃ (s : State), (s.fls.ops = []) ∧ (s.domStep domFLASH = 4) ∧ (s.due s.fls.at_ 100000000 = true)) :=
  ⟨⟨5, { upRun [(R.PWR_CTRL_TLOSS, 20), (R.NET_STAT_RCLOST, 1)] with pwr := { lossAt := some 5, served := true }, lt := 2000000005 }, by decide⟩,
    ⟨5, { up with pwr := { lossAt := some 5 } }, by decide⟩,
    ⟨0x2000A, upRun [], by decide⟩,
    ⟨9, up, by decide⟩,
    ⟨5, { upRun [(R.PWR_STAT_SLEEP, 1)] with pwr := { pendAt := some 5 }, lt := 9 }, by decide⟩,
    ⟨5, { upF [(R.PWR_STAT_SLEEP, 2), (R.PWR_STAT_AUXHOLD, 1)] with pwr := { noticeAt := some 5 }, lt := 20005 }, by decide⟩,
    ⟨5, { upF [(R.PWR_STAT_SLEEP, 2), (R.PRF_CTRL_EN, 1)] with pwr := { auxAt := some 5 }, lt := 1000000005 }, by decide⟩,
    ⟨{ upF [(R.PWR_WAKE_CMP, 1)] with ssv := { st := 4 }, stao := { cmpRose := true }, lt := 9 }, by decide⟩,
    ⟨{ upF [(R.PWR_WAKE_PERIOD, 2)] with ssv := { st := 4 }, stao := { sleepAt := 5 }, lt := 120000000005 }, by decide⟩,
    ⟨{ upF [(R.PWR_WAKE_BAL, 1)] with ssv := { st := 4 }, stao := { balRan := true }, lt := 9 }, by decide⟩,
    ⟨5, { up with ssv := { st := 4 }, stao := { wakeAt := some 5 }, lt := 10000000005 }, by decide⟩,
    ⟨5, { up with ssv := { st := 4 }, stao := { offAt := some 5 }, lt := 1000000005 }, by decide⟩,
    ⟨{ up with ssv := { st := 4 }, bal := { asleep := true }, stao := { wakeAt := some 5 } }, by decide⟩,
    ⟨0, { upF [(R.CAP_B_W6_STATE 3, 4)] with dom := { step := [(domDRAM, 4), (domDPHY, 4)] } }, by decide⟩,
    ⟨3, 0, upF [(R.CAP_B_W6_STATE 3, 2)], by decide⟩,
    ⟨{ up with dom := { step := [(domFLASH, 4)] }, lt := 100000000 }, by decide⟩⟩

theorem wit_ThermalCommandsTakeEffect :
    (∃ (j0 : BitVec 16) (j1 : BitVec 16) (j2 : BitVec 16) (j3 : BitVec 16) (h : Bool) (k : Nat) (r : Nat) (x : Int) (s : State), (s.sysUp = true) ∧ (s.domOn domHKP = true) ∧ (r = max ((s.now + 99999999) / 100000000 * 100000000) (s.thm.roundAt + 100000000)) ∧ (1 ≤ k) ∧ (k ≤ 21) ∧ (sensed (s.until r) [j0, j1, j2, j3] k = .temp x)) ∧
    (∃ (j0 : BitVec 16) (j1 : BitVec 16) (j2 : BitVec 16) (j3 : BitVec 16) (h : Bool) (k : Nat) (s : State), (s.sysUp = true) ∧ (s.domOn domHKP = true) ∧ (1 ≤ k) ∧ (k ≤ 16) ∧ ((s.thm.acc.filter fun (e : Nat × Nat × Nat × Int) => e.1 == k) = [])) ∧
    (∃ (j0 : BitVec 16) (j1 : BitVec 16) (j2 : BitVec 16) (j3 : BitVec 16) (h : Bool) (k : Nat) (x : BitVec 16) (s : State), (s.sysUp = true) ∧ (s.domOn domHKP = true) ∧ ((k, x) ∈ [(18, j0), (19, j1), (20, j2), (21, j3)])) ∧
    (∃ (s : State), (s.sysUp = true) ∧ (s.due s.thm.plotAt (100000000 * s.fg R.THM_CTRL_STEPINT) = true) ∧ (s.due s.thm.convAt (100000000 * s.fg R.THM_CTRL_STEPINT) = true)) ∧
    (∃ (s : State), (s.sysUp = true) ∧ (s.due s.thm.plotAt (100000000 * s.fg R.THM_CTRL_STEPINT) = false) ∧ (s.due s.thm.convAt (100000000 * s.fg R.THM_CTRL_STEPINT) = false)) :=
  ⟨⟨2500, 2600, 2700, 2800, false, 4, 200000000, 2500, { upF [(R.THM_S_W5_MODE 4, 1), (R.THM_S_W6_B 4, 3435), (R.THM_S_W6_R0 4, 1000), (R.THM_S_W1_TH 4, 2000), (R.THM_STAT_ROUND, 255)] with now := 100000001, lt := 50, dom := { step := [(domHKP, 4)] }, thm := { acc := [(4, 60, 1, 131072)] } }, by decide +kernel⟩,
    ⟨2500, 2600, 2700, 2800, false, 4, { upF [(R.THM_S_W0_TEMP 4, 77), (R.THM_S_W0_LVL 4, 17)] with dom := { step := [(domHKP, 4)] } }, by decide⟩,
    ⟨2500, 12500, 2700, 2800, false, 19, 12500, { up with dom := { step := [(domHKP, 4)] } }, by decide⟩,
    ⟨{ upF [(R.THM_CTRL_STEPINT, 3), (R.THM_STEP_PLOT, 2), (R.THM_STAT_JTHR, 1), (R.THM_S_W0_LVL 17, 2), (R.THM_STEP_CONV, 1)] with lt := 300000000 }, by decide⟩,
    ⟨up, by decide⟩⟩

theorem wit_PegCommandsTakeEffect :
    (∃ (k : Fin 4) (n : Nat) (v : Word) (s : State), (n = k.val + 1) ∧ (accessCheck s (R.PEG_CTL n) v = none) ∧ (wf v (R.PEG_CTL_MODE n) = 1) ∧ (wf v (R.PEG_CTL_SEARCH n) = 0) ∧ (10 ≤ wf v (R.PEG_CTL_TICK n)) ∧ (wf v (R.PEG_CTL_TICK n) ≤ 100) ∧ (wf v (R.PEG_CTL_PERIOD n) ≠ 0) ∧ (s.fg (R.PEG_CTL_MODE n) ≠ 1)) ∧
    (∃ (k : Fin 4) (n : Nat) (v : Word) (s : State), (n = k.val + 1) ∧ (accessCheck s (R.PEG_CTL n) v = none) ∧ (wf v (R.PEG_CTL_MODE n) = 3)) ∧
    (∃ (k : Fin 4) (n : Nat) (v : Word) (s : State), (n = k.val + 1) ∧ (accessCheck s (R.PEG_CTL n) v = none) ∧ (wf v (R.PEG_CTL_MODE n) = 0) ∧ (wf v (R.PEG_CTL_SEARCH n) = 0) ∧ (wf v (R.PEG_CTL_PERIOD n) ≠ 0) ∧ (s.fg (R.PEG_CTL_MODE n) = 1)) ∧
    (∃ (k : Fin 4) (n : Nat) (s : State), (n = k.val + 1) ∧ (s.fg (R.PEG_STAT_STATE n) = 1) ∧ (s.domOn (domPEG n) = true) ∧ (s.due (s.pegLine n).at_ 50000000 = true)) ∧
    (∃ (k : Fin 4) (n : Nat) (s : State), (n = k.val + 1) ∧ (1 ≤ s.fg (R.PEG_STAT_STATE n)) ∧ (s.fg (R.PEG_STAT_STATE n) ≤ 4)) ∧
    (∃ (k : Fin 4) (n : Nat) (s : State), (n = k.val + 1) ∧ (s.fg (R.PEG_STAT_STATE n) = 5) ∧ (s.due (s.pegLine n).at_ 1000000000 = true)) ∧
    (∃ (k : Fin 4) (n : Nat) (v : Word) (s : State), (n = k.val + 1) ∧ (accessCheck s (R.PEG_CTL n) (w32 (setBit v.toNat 31 true)) = none) ∧ (wf v (R.PEG_CTL_MODE n) = 1) ∧ (s.fg (R.PEG_CTL_MODE n) = 1) ∧ (10 ≤ wf v (R.PEG_CTL_TICK n)) ∧ (wf v (R.PEG_CTL_TICK n) ≤ 100) ∧ (wf v (R.PEG_CTL_PERIOD n) ≠ 0) ∧ (s.fg (R.PEG_STAT_STATE n) = 2 ∨ s.fg (R.PEG_STAT_STATE n) = 4)) ∧
    (∃ (k : Fin 4) (n : Nat) (v : Word) (s : State), (n = k.val + 1) ∧ (accessCheck s (R.PEG_CTL n) (w32 (setBit v.toNat 31 true)) = none) ∧ (wf v (R.PEG_CTL_MODE n) = 1) ∧ (10 ≤ wf v (R.PEG_CTL_TICK n)) ∧ (wf v (R.PEG_CTL_TICK n) ≤ 100) ∧ (wf v (R.PEG_CTL_PERIOD n) ≠ 0) ∧ (s.fg (R.PEG_STAT_STATE n) ≠ 2) ∧ (s.fg (R.PEG_STAT_STATE n) ≠ 4)) ∧
    (∃ (k : Fin 4) (n : Nat) (q : PegSearch) (c : List (BitVec 16)) (s : State), (n = k.val + 1) ∧ ((s.pegLine n).search = some q) ∧ (q.cur = none) ∧ (q.first = true) ∧ (c.headD 0 = 0)) ∧
    (∃ (k : Fin 4) (n : Nat) (m : Nat) (c : List (BitVec 16)) (q : PegSearch) (s : State), (n = k.val + 1) ∧ ((s.pegLine n).search = some q) ∧ (q.cur = none) ∧ (q.path = []) ∧ (q.stack = []) ∧ (m < 2 ^ 64) ∧ (c = ((numNibbles m).map fun d => BitVec.ofNat 16 (2 ^ d)))) ∧
    (∃ (k : Fin 4) (n : Nat) (q : PegSearch) (c : List (BitVec 16)) (s : State), (n = k.val + 1) ∧ ((s.pegLine n).search = some q) ∧ (q.cur = none) ∧ (q.first = false) ∧ (c.headD 0 = 0) ∧ (s.fg (R.PEG_STAT_RESTART n) < 3)) ∧
    (∃ (k : Fin 4) (n : Nat) (q : PegSearch) (c : List (BitVec 16)) (s : State), (n = k.val + 1) ∧ ((s.pegLine n).search = some q) ∧ (q.cur = none) ∧ (q.first = false) ∧ (c.headD 0 = 0) ∧ (s.fg (R.PEG_STAT_RESTART n) = 3)) ∧
    (∃ (k : Fin 4) (n : Nat) (m : Nat) (c : Nat) (f : List Nat) (r : List Nat) (q : PegSearch) (s : State), (n = k.val + 1) ∧ ((s.pegLine n).search = some q) ∧ (q.cur = some m) ∧ (q.stack = []) ∧ (r ≠ []) ∧ ((pegRx n r s).frame = some f) ∧ (pegCrc f.dropLast = f.getLastD 0) ∧ (c = s.fg (R.PEG_STAT_NPEG n)) ∧ (c < 16)) ∧
    (∃ (k : Fin 4) (n : Nat) (m : Nat) (f : List Nat) (r : List Nat) (q : PegSearch) (s : State), (n = k.val + 1) ∧ ((s.pegLine n).search = some q) ∧ (q.cur = some m) ∧ (r ≠ []) ∧ ((pegRx n r s).frame = some f) ∧ (pegCrc f.dropLast = f.getLastD 0) ∧ (s.fg (R.PEG_STAT_NPEG n) = 16)) ∧
    (∃ (k : Fin 4) (n : Nat) (m : Nat) (q : PegSearch) (s : State), (n = k.val + 1) ∧ ((s.pegLine n).search = some q) ∧ (q.cur = some m) ∧ (s.fg (R.PEG_STAT_RESTART n) < 3)) ∧
    (∃ (k : Fin 4) (n : Nat) (a : Nat) (t : Nat) (f : List Nat) (r : List Nat) (e : Word) (s : State), (n = k.val + 1) ∧ ((s.pegLine n).read = some a) ∧ (a < 16) ∧ (t = s.fg (R.PEG_CTL_TICK n)) ∧ (t ≠ 0) ∧ (f.length = 8) ∧ (∀ d ∈ f, d < 16) ∧ (pegCrc f.dropLast = f.getLastD 0) ∧ (r = (40 * t :: f.map fun d => (8 + d) * t))) ∧
    (∃ (k : Fin 4) (n : Nat) (a : Nat) (t : Nat) (f : List Nat) (r : List Nat) (e : Word) (s : State), (n = k.val + 1) ∧ ((s.pegLine n).read = some a) ∧ (t = s.fg (R.PEG_CTL_TICK n)) ∧ (t ≠ 0) ∧ (f.length = 8) ∧ (∀ d ∈ f, d < 16) ∧ (pegCrc f.dropLast ≠ f.getLastD 0) ∧ (r = (40 * t :: f.map fun d => (8 + d) * t))) ∧
    (∃ (k : Fin 4) (n : Nat) (a : Nat) (s : State), (n = k.val + 1) ∧ ((s.pegLine n).read = some a) ∧ (a < 16) ∧ ((s.pegLine n).part = false) ∧ (Smap.get (fun _ => 0) (s.pegLine n).miss a = 2)) ∧
    (∃ (k : Fin 4) (n : Nat) (a : Nat) (s : State), (n = k.val + 1) ∧ ((s.pegLine n).read = some a) ∧ ((s.pegLine n).part = false) ∧ (Smap.get (fun _ => 0) (s.pegLine n).miss a ≠ 2)) ∧
    (∃ (k : Fin 4) (n : Nat) (s : State), (n = k.val + 1) ∧ ((s.pegLine n).part = true)) ∧
    (∃ (k : Fin 4) (n : Nat) (x : Nat) (s : State), (n = k.val + 1) ∧ (s.fb (R.PEG_CTL_POLL n) = true) ∧ (s.fg (R.PEG_STAT_STATE n) = 2) ∧ (s.fg (R.PEG_STAT_NPEG n) ≠ 0) ∧ ((s.pegLine n).roundAt = some x) ∧ (s.due x (s.fg (R.PEG_CTL_PERIOD n) * 1000000) = true)) ∧
    (∃ (k : Fin 4) (n : Nat) (v : Word) (s : State), (n = k.val + 1) ∧ (accessCheck s (R.PEG_CTL n) (w32 (setBit v.toNat 30 true)) = none) ∧ (wf v (R.PEG_CTL_MODE n) = s.fg (R.PEG_CTL_MODE n)) ∧ (wf v (R.PEG_CTL_TICK n) = s.fg (R.PEG_CTL_TICK n)) ∧ (wf v (R.PEG_CTL_MODE n) = 1) ∧ (10 ≤ wf v (R.PEG_CTL_TICK n)) ∧ (wf v (R.PEG_CTL_TICK n) ≤ 100) ∧ (wf v (R.PEG_CTL_SEARCH n) = 0) ∧ (wf v (R.PEG_CTL_PERIOD n) ≠ 0)) :=
  ⟨⟨3, 4, 0x10028 + 1, up, by decide⟩,
    ⟨3, 4, 3, up, by decide⟩,
    ⟨1, 2, 0x10000, { upF [(R.PEG_CTL_MODE 2, 1), (R.PEG_STAT_STATE 2, 3), (R.PEG_STAT_NPEG 2, 2), (⟨R.PEG_DAT 2 15, 0, 32⟩, 7), (⟨R.PEG_NUM 2 15 1, 0, 32⟩, 7), (⟨R.PEG_SLOW 2 15, 0, 32⟩, 7)] with peg := [(2, { search := some {} })] }, by decide⟩,
    ⟨1, 2, { upF [(R.PEG_STAT_STATE 2, 1)] with dom := { step := [(domPEG 2, 4)] }, peg := [(2, { at_ := 7 })], lt := 50000007 }, by decide⟩,
    ⟨1, 2, { upF [(R.PEG_STAT_STATE 2, 4)] with peg := [(2, { read := some 3 })], lt := 9 }, by decide⟩,
    ⟨1, 2, { upF [(R.PEG_STAT_STATE 2, 5)] with peg := [(2, { at_ := 7 })], lt := 1000000007 }, by decide⟩,
    ⟨1, 2, 0x10029, upF [(R.PEG_CTL_MODE 2, 1), (R.PEG_CTL_TICK 2, 20), (R.PEG_STAT_STATE 2, 4), (R.PEG_STAT_NPEG 2, 2), (R.PEG_STAT_RESTART 2, 2), (⟨R.PEG_NUM 2 15 1, 0, 32⟩, 7)], by decide⟩,
    ⟨1, 2, 0x10029, upF [(R.PEG_CTL_MODE 2, 1), (R.PEG_CTL_TICK 2, 20), (R.PEG_STAT_STATE 2, 1)], by decide⟩,
    ⟨1, 2, {}, 0 :: List.replicate 15 0, { upF [(R.PEG_STAT_STATE 2, 3)] with peg := [(2, { search := some {} })] }, by decide⟩,
    ⟨1, 2, 0x123456789ABCDEF0, (numNibbles 0x123456789ABCDEF0).map fun d => BitVec.ofNat 16 (2 ^ d), {}, { upF [(R.PEG_STAT_STATE 2, 3)] with peg := [(2, { search := some {} })] }, by decide⟩,
    ⟨1, 2, { first := false, path := [3] }, [0], { upF [(R.PEG_STAT_STATE 2, 3), (R.PEG_STAT_RESTART 2, 2), (R.PEG_STAT_NPEG 2, 2)] with peg := [(2, { search := some { first := false, path := [3] } })] }, by decide⟩,
    ⟨1, 2, { first := false }, [0], { upF [(R.PEG_STAT_STATE 2, 3), (R.PEG_STAT_RESTART 2, 3)] with peg := [(2, { search := some { first := false } })] }, by decide⟩,
    ⟨1, 2, 0x123456789ABCDEF0, 1, [1, 2, 3, 4, 5, 6, 7, 6], 800 :: [1, 2, 3, 4, 5, 6, 7, 6].map fun d => (8 + d) * 20, { cur := some 0x123456789ABCDEF0, first := false }, { upF [(R.PEG_CTL_TICK 2, 20), (R.PEG_STAT_STATE 2, 3), (R.PEG_STAT_NPEG 2, 1)] with peg := [(2, { search := some { cur := some 0x123456789ABCDEF0, first := false } })] }, by decide +kernel⟩,
    ⟨1, 2, 5, [1, 2, 3, 4, 5, 6, 7, 6], 800 :: [1, 2, 3, 4, 5, 6, 7, 6].map fun d => (8 + d) * 20, { cur := some 5, first := false }, { upF [(R.PEG_CTL_TICK 2, 20), (R.PEG_STAT_STATE 2, 3), (R.PEG_STAT_NPEG 2, 16)] with peg := [(2, { search := some { cur := some 5, first := false } })] }, by decide +kernel⟩,
    ⟨1, 2, 5, { cur := some 5, first := false }, { upF [(R.PEG_STAT_STATE 2, 3), (R.PEG_CNT_NORESP 2, 255)] with peg := [(2, { search := some { cur := some 5, first := false } })] }, by decide⟩,
    ⟨1, 2, 15, 20, [1, 2, 3, 4, 5, 6, 7, 6], 800 :: [1, 2, 3, 4, 5, 6, 7, 6].map fun d => (8 + d) * 20, 99, { upF [(R.PEG_CTL_TICK 2, 20), (R.PEG_CTL_POLL 2, 1), (R.PEG_STAT_STATE 2, 4), (R.PEG_STAT_NPEG 2, 16)] with peg := [(2, { read := some 15 })] }, by decide +kernel⟩,
    ⟨1, 2, 1, 20, [1, 2, 3, 4, 5, 6, 7, 2], 800 :: [1, 2, 3, 4, 5, 6, 7, 2].map fun d => (8 + d) * 20, 99, { upF [(R.PEG_CTL_TICK 2, 20), (R.PEG_CTL_POLL 2, 1), (R.PEG_STAT_STATE 2, 4), (R.PEG_STAT_NPEG 2, 16)] with peg := [(2, { read := some 1 })] }, by decide +kernel⟩,
    ⟨1, 2, 1, { upF [(R.PEG_STAT_STATE 2, 4), (R.PEG_STAT_NPEG 2, 16), (R.PEG_DAT_VALID 2 1, 1)] with peg := [(2, { read := some 1, miss := [(1, 2)] })] }, by decide⟩,
    ⟨1, 2, 1, { upF [(R.PEG_STAT_STATE 2, 4), (R.PEG_STAT_NPEG 2, 16), (R.PEG_DAT_VALID 2 1, 1)] with peg := [(2, { read := some 1 })] }, by decide⟩,
    ⟨1, 2, { upF [(R.PEG_STAT_STATE 2, 6)] with peg := [(2, { part := true })] }, by decide⟩,
    ⟨1, 2, 7, { upF [(R.PEG_CTL_POLL 2, 1), (R.PEG_CTL_PERIOD 2, 2), (R.PEG_STAT_STATE 2, 2), (R.PEG_STAT_NPEG 2, 1)] with peg := [(2, { roundAt := some 7 })], lt := 2000007 }, by decide⟩,
    ⟨1, 2, 0x10029, upF [(R.PEG_CTL_MODE 2, 1), (R.PEG_CTL_TICK 2, 10), (R.PEG_STAT_STATE 2, 2), (R.PEG_CNT_CRCERR 2, 9)], by decide⟩⟩

theorem wit_SentFramesTakeEffect :
    (∃ (k : Fin 4) (n : Nat) (u : Nat) (g : Nat) (f : List Nat) (r : List Nat) (e : Word) (s : State), (n = k.val + 1) ∧ (s.fg (R.PEG_STAT_STATE n) = 6) ∧ (s.domOn (domPEG n) = true) ∧ (s.fg (R.PEG_CTL_TICK n) = u) ∧ (u ≠ 0) ∧ (f.length = s.fg (R.PEG_SENT_NDATA n) + 2) ∧ (∀ d ∈ f, d < 16) ∧ (s.fb (R.PEG_SENT_CAL64 n) = false ∨ (s.pegLine n).cal = 0 ∨
      64 * (56 * u - (s.pegLine n).cal) ≤ (s.pegLine n).cal ∧ 64 * ((s.pegLine n).cal - 56 * u) ≤ (s.pegLine n).cal) ∧ (sentCrc (s.fb (R.PEG_SENT_CRCM n)) f.tail.dropLast = f.getLastD 0) ∧ (r = (if (s.pegLine n).pause = true then [g] else []) ++ (56 * u :: f.map fun d => (12 + d) * u))) ∧
    (∃ (k : Fin 4) (n : Nat) (u : Nat) (g : Nat) (f : List Nat) (r : List Nat) (e : Word) (s : State), (n = k.val + 1) ∧ (s.fg (R.PEG_STAT_STATE n) = 6) ∧ (s.domOn (domPEG n) = true) ∧ (s.fg (R.PEG_CTL_TICK n) = u) ∧ (u ≠ 0) ∧ (f.length = s.fg (R.PEG_SENT_NDATA n) + 2) ∧ (∀ d ∈ f, d < 16) ∧ (s.fb (R.PEG_SENT_CAL64 n) = true) ∧ ((s.pegLine n).cal ≠ 0) ∧ ((s.pegLine n).cal < 64 * (56 * u - (s.pegLine n).cal) ∨ (s.pegLine n).cal < 64 * ((s.pegLine n).cal - 56 * u)) ∧ (r = (if (s.pegLine n).pause = true then [g] else []) ++ (56 * u :: f.map fun d => (12 + d) * u))) ∧
    (∃ (k : Fin 4) (n : Nat) (u : Nat) (g : Nat) (f : List Nat) (r : List Nat) (e : Word) (s : State), (n = k.val + 1) ∧ (s.fg (R.PEG_STAT_STATE n) = 6) ∧ (s.domOn (domPEG n) = true) ∧ (s.fg (R.PEG_CTL_TICK n) = u) ∧ (u ≠ 0) ∧ (f.length = s.fg (R.PEG_SENT_NDATA n) + 2) ∧ (∀ d ∈ f, d < 16) ∧ (s.fb (R.PEG_SENT_CAL64 n) = false ∨ (s.pegLine n).cal = 0 ∨
      64 * (56 * u - (s.pegLine n).cal) ≤ (s.pegLine n).cal ∧ 64 * ((s.pegLine n).cal - 56 * u) ≤ (s.pegLine n).cal) ∧ (sentCrc (s.fb (R.PEG_SENT_CRCM n)) f.tail.dropLast ≠ f.getLastD 0) ∧ (r = (if (s.pegLine n).pause = true then [g] else []) ++ (56 * u :: f.map fun d => (12 + d) * u))) ∧
    (∃ (k : Fin 4) (i : List Nat) (e : Word) (s : State), (s.fg (R.PEG_STAT_STATE (k.val + 1)) ≠ 6)) :=
  ⟨⟨1, 2, 30, 0, [1, 2, 3, 4, sentCrc true [2, 3, 4]], 1680 :: [1, 2, 3, 4, sentCrc true [2, 3, 4]].map fun d => (12 + d) * 30, 99, { upF [(R.PEG_CTL_MODE 2, 2), (R.PEG_CTL_TICK 2, 30), (R.PEG_STAT_STATE 2, 6), (R.PEG_SENT_NDATA 2, 3), (R.PEG_SENT_CRCM 2, 1)] with dom := { step := [(domPEG 2, 4)] }, peg := [(2, { cal := 1690 })] }, by decide +kernel⟩,
    ⟨1, 2, 30, 700, [1, 2, 3, 4, 5], [700, 1680, 390, 420, 450, 480, 510], 99, { upF [(R.PEG_CTL_MODE 2, 2), (R.PEG_CTL_TICK 2, 30), (R.PEG_STAT_STATE 2, 6), (R.PEG_SENT_NDATA 2, 3), (R.PEG_SENT_CAL64 2, 1)] with dom := { step := [(domPEG 2, 4)] }, peg := [(2, { cal := 1707, pause := true })] }, by decide +kernel⟩,
    ⟨1, 2, 30, 0, [1, 2, 3, 4, sentCrc false [2, 3, 4]], 1680 :: [1, 2, 3, 4, sentCrc false [2, 3, 4]].map fun d => (12 + d) * 30, 99, { upF [(R.PEG_CTL_MODE 2, 2), (R.PEG_CTL_TICK 2, 30), (R.PEG_STAT_STATE 2, 6), (R.PEG_SENT_NDATA 2, 3), (R.PEG_SENT_CRCM 2, 1)] with dom := { step := [(domPEG 2, 4)] }, peg := [(2, { cal := 1690 })] }, by decide +kernel⟩,
    ⟨1, [5], 99, up, by decide⟩⟩

theorem wit_PacketsAndLinkHeadersRoundTrip :
    (∃ (p : Packet), (p.wf = true) ∧ (p.len = p.payload.length) ∧ (p.auth = none)) ∧
    (∃ (f : Frame), (f.ftype = 1 ∨ f.ftype = 2) ∧ (f.cls < 4) ∧ (f.origin < 4096) ∧ (f.ttl < 128) ∧ (f.fseq < 4096) ∧ (f.own = false) ∧ (f.abort = false)) :=
  ⟨⟨{ pk 0x25 3 [1, 2, 3] with resv := 0x3FF, noReply := true, parcel := 7, hops := 15, seqep := 0xFFFFFFFF, via := .ring 3 }, by decide⟩,
    ⟨{ ftype := 2, cls := 3, copy := true, origin := 4095, ttl := 127, fseq := 4095, own := false, body := [1, 2] }, by decide⟩⟩

theorem wit_NoCountIsAcceptedTwice :
    (∃ (hi : Nat) (seen : Nat) (c : Nat) (st : Nat × Nat) (l : List Nat), (countCheck hi seen c = some st)) ∧
    (∃ (hi : Nat) (seen : Nat) (c : Nat), (hi < c)) :=
  ⟨⟨70, 3, 60, (70, 1027), [71, 60, 500], by decide⟩,
    ⟨7, 1, 9, by decide⟩⟩

theorem wit_StepsKeepOutputsUnderBothRuns :
    (∃ (c : Instr) (rest : List Instr) (s : State) (t : State), (s.pending = c :: rest) ∧ (isOutputRow c = true) ∧ s.outputsOk ∧ (step s = .next t)) :=
  ⟨.startTimeout, [], { upRun [] with pending := [.startTimeout] }, { upRun [] with pending := [] }, ⟨rfl, rfl, by decide, rfl⟩⟩

theorem wit_StepsKeepPegLinesConsistent :
    (∃ (c : Instr) (rest : List Instr) (s : State) (t : State), (s.pending = c :: rest) ∧ (isPegRow c = true) ∧ s.pegOk ∧ (step s = .next t)) :=
  ⟨.pegFrameGap 1, [], { up with pending := [.pegFrameGap 1] }, up, ⟨rfl, rfl, by decide, rfl⟩⟩

theorem wit_EngineInstructionsStayInTheirPlot :
    (∃ (c : Instr) (x : Fin 1024) (s : State) (t : State), (engineOf c = some x) ∧ (exec c s = .next t)) :=
  ⟨.engAdd 33 0, 33, up, up, ⟨rfl, rfl⟩⟩

theorem wit_EngineInstructionsTakeExceptions :
    (∃ (x : Fin 1024) (e : Fin 4) (w : Nat) (o : Nat) (c : Instr) (s : State), ((o, c) ∈ [(0x01, .engAdd x e), (0x02, .engSub x e), (0x03, .engAnd x e), (0x04, .engOr x e), (0x05, .engXor x e),
      (0x06, .engShl x e), (0x07, .engShr x e), (0x08, .engShra x e), (0x0A, .engAndn x e), (0x0B, .engMin x e),
      (0x0C, .engMax x e), (0x0D, .engAdds x e), (0x0E, .engSubs x e), (0x0F, .engMul x e), (0x10, .engMulh x e),
      (0x11, .engMulhu x e), (0x14, .engPadd x e), (0x15, .engPsub x e), (0x16, .engPack x e), (0x17, .engCmul x e),
      (0x18, .engCmulc x e)]) ∧ (Issues x o w s) ∧ (iX w ≠ 0)) ∧
    (∃ (x : Fin 1024) (e : Fin 4) (w : Nat) (k : Nat) (a : Nat) (o : Nat) (c : Instr) (s : State), ((o, k, c) ∈ [(0x30, 4, .engLdw x e), (0x31, 2, .engLdh x e), (0x32, 2, .engLdhu x e), (0x33, 1, .engLdb x e), (0x34, 1, .engLdbu x e)]) ∧ (Issues x o w s) ∧ (a = dataAddr w (s.engine x.val)) ∧ (a % k ≠ 0)) ∧
    (∃ (x : Fin 1024) (e : Fin 4) (w : Nat) (k : Nat) (a : Nat) (o : Nat) (c : Instr) (s : State), ((o, k, c) ∈ [(0x30, 4, .engLdw x e), (0x31, 2, .engLdh x e), (0x32, 2, .engLdhu x e), (0x33, 1, .engLdb x e), (0x34, 1, .engLdbu x e)]) ∧ (Issues x o w s) ∧ (a = dataAddr w (s.engine x.val)) ∧ (a % k = 0) ∧ (0x4000 ≤ a) ∧ (isShared a = false)) ∧
    (∃ (x : Fin 1024) (e : Fin 4) (w : Nat) (k : Nat) (a : Nat) (o : Nat) (c : Instr) (s : State), ((o, k, c) ∈ [(0x30, 4, .engLdw x e), (0x31, 2, .engLdh x e), (0x32, 2, .engLdhu x e), (0x33, 1, .engLdb x e), (0x34, 1, .engLdbu x e)]) ∧ (2 ≤ e.val) ∧ (Issues x o w s) ∧ (a = dataAddr w (s.engine x.val)) ∧ (a % k = 0) ∧ (a < 0x4000 ∨ isShared a = true)) :=
  ⟨⟨33, 0, 0x00800001, 1, .engAdd 33 0, upE 0x00800001, by decide +kernel⟩,
    ⟨33, 0, 0x00002030, 4, 0x80000007, 0x30, .engLdw 33 0, upE 0x00002030, by decide +kernel⟩,
    ⟨33, 0, 0x00002034, 1, 0x80000007, 0x34, .engLdbu 33 0, upE 0x00002034, by decide +kernel⟩,
    ⟨33, 3, 0x00006030, 4, 0x10, 0x30, .engLdw 33 3, upE 0x00006030, by decide +kernel⟩⟩

/-- A sample frame of epoch `e` whose words of cell 1 and AX1 are `v` and `c`. -/
def frameAt (e v c : Nat) : SvcFrame :=
  { tag := e, words := (List.range 52).map fun n => if n = 0 then v else if n = 48 then c else 0 }

/-- Cells 1 to 8 of an estimator of P0, each valid and with two points of its last 24 h. -/
def eightCells : List (Nat × EstCell) :=
  (List.range 8).map fun n => (n + 1, { val := true, hist := [(0, 1), (5, 2)] })

/-- A station whose plot 0, held by P0, runs the profile kernel and an estimator kernel. -/
def upK : State :=
  { upF [(R.PRF_CTRL_EN, 1), (R.PRF_CTRL_XMODE, 1), (R.PRF_ISRC_SRC, 1), (R.PRF_ISCALE_SCALE, 1000),
      (⟨R.PRF_CELL0, 0, 32⟩, 1), (⟨R.PRF_PTS0, 0, 32⟩, 1), (R.EST_CTRL_EN, 1), (⟨R.EST_CELL0, 0, 32⟩, 0xFF)] with
    arr := { engs := [(0, { key := 1, kid := Config.profileKid }), (1, { key := 2, kid := Config.estimatorKid })] }
    svc := { frames := [frameAt 1000000000 10 7, frameAt 2000000000 40 1, frameAt 3000000000 90 30, frameAt 4000000000 20 3,
      frameAt 5000000000 70 50, frameAt 5500000000 11 9] }
    lt := 10000000000000 }

theorem upK_profile : holdsKernel upK 0 Config.profileKid = true := by
  have : upK.arr.engs = [(0, { key := 1, kid := Config.profileKid }), (1, { key := 2, kid := Config.estimatorKid })] := rfl
  have h2 : upK.fg (R.ENG_PLSTAT_PARCEL (0 / 32)) = 0 := by decide
  simp [holdsKernel, this, h2]

theorem upK_estimator : holdsKernel upK 0 Config.estimatorKid = true := by
  have : upK.arr.engs = [(0, { key := 1, kid := Config.profileKid }), (1, { key := 2, kid := Config.estimatorKid })] := rfl
  have h2 : upK.fg (R.ENG_PLSTAT_PARCEL (1 / 32)) = 0 := by decide
  simp [holdsKernel, this, h2]

theorem wit_profile_runs : prfRun upK 0 = true := by
  have h1 : upK.pg 0 R.PRF_CTRL_EN = 1 := by decide
  simp [prfRun, upK_profile, h1]

/-- The window of the witness gives voltage and current phasors. -/
def isGood : WinOut → Bool
  | .good .. => true
  | _ => false

theorem wit_window_good : ∃ v x kind part frz xst, windowOut upK 0 1 0 0 6000000000
    (1000000000 * 300 + 1000000 * upK.pg 0 R.PRF_CTRL_LATE) = .good v x kind part frz xst := by
  have h : isGood (windowOut upK 0 1 0 0 6000000000 (1000000000 * 300 + 1000000 * upK.pg 0 R.PRF_CTRL_LATE)) = true := by
    decide +kernel
  generalize windowOut upK 0 1 0 0 6000000000 (1000000000 * 300 + 1000000 * upK.pg 0 R.PRF_CTRL_LATE) = r at h ⊢
  cases r with
  | good v x kind part frz xst => exact ⟨v, x, kind, part, frz, xst, rfl⟩
  | noex => cases h
  | excl => cases h

theorem wit_ProfileWindow : ∃ (c : Fin 48) (i : Fin 71) (j coh kind : Nat) (v x : Phasor) (part frz xst : Bool) (s : State),
    prfRun s 0 = true ∧ profiled s 0 (cellOf c) = true ∧ pointOn s 0 i.val = true ∧ i.val ≤ prfImax s 0 ∧
    rateOk s 0 (cellOf c) i.val = true ∧ j % 2 ^ prfRdiv s 0 = 0 ∧
    Smap.get (fun _ => 0) s.prf.next (ptKey 0 (cellOf c) i.val) ≤ j ∧
    Smap.get (fun _ => 0) s.prf.since (ptKey 0 (cellOf c) i.val) ≤ j * windowLen i.val ∧
    s.prf.gaps = [] ∧ s.prf.changes = [] ∧
    windowOut s 0 (cellOf c) i.val (20000000 * (j * windowLen i.val)) (20000000 * ((j + 1) * windowLen i.val))
      (1000000000 * ((j + 1) * windowLen i.val) + 1000000 * s.pg 0 R.PRF_CTRL_LATE) = .good v x kind part frz xst ∧
    coherence (((v, x) :: Smap.get (fun _ => []) s.prf.hist (ptKey 0 (cellOf c) i.val)).take (s.pg 0 R.PRF_CTRL_NCOH)) = some coh := by
  obtain ⟨v, x, kind, part, frz, xst, h⟩ := wit_window_good
  refine ⟨0, 0, 0, 0, kind, v, x, part, frz, xst, upK, wit_profile_runs, by decide, by decide, Nat.zero_le _, by decide,
    Nat.zero_mod _, by decide, by decide, by decide, by decide, h, ?_⟩
  have h4 : upK.pg 0 R.PRF_CTRL_NCOH = 8 := by decide
  have h5 : upK.prf.hist = [] := rfl
  simp [h4, h5, Smap.get, coherence]

theorem wit_estimator_runs : estRun upK 0 = true := by
  have h1 : upK.fb R.EST_CTRL_EN = true := by decide
  simp [estRun, upK_estimator, h1]

theorem wit_EstStep : ∃ (q : Fin 8) (k : Nat) (s : State), estRun s q.val = true ∧
    (atOf s.est.stepAt q.val < k * stepLen s q.val ∨ s.now < atOf s.est.stepAt q.val) := by
  refine ⟨0, 1, upK, wit_estimator_runs, .inl ?_⟩
  have h : upK.est.stepAt = [] := rfl
  have hd : 1 ≤ stepDiv upK 0 := by
    unfold stepDiv
    cases h : [1, 2, 5, 10].find? fun d => loadFits upK 1 0 (10 * (estCells upK 0).length / d) with
    | none => decide
    | some d =>
      have := List.mem_of_find?_eq_some h
      simp at this
      show 1 ≤ d
      omega
  simp only [h, atOf, Smap.get, stepLen]
  show 0 < 1 * (10000000 * stepDiv upK 0)
  omega

theorem wit_EstRows : ∃ (q : Fin 8) (k : Nat) (s : State), estRun s q.val = true ∧
    s.due (atOf s.est.resAt q.val) 60000000000 = true ∧ s.due (atOf s.est.mssAt q.val) 3600000000000 = true ∧
    (estValid s q.val).length < 8 ∧ (atOf s.est.pubAt q.val < k ∨ s.now < 100000000 * atOf s.est.pubAt q.val) ∧
    (atOf s.est.stepAt q.val ≤ 100000000 * k ∨ s.now < atOf s.est.stepAt q.val) :=
  ⟨0, 1, upK, wit_estimator_runs, by decide, by decide, by decide, .inl (by decide), .inl (by decide)⟩

theorem wit_EstMicro : ∃ (q : Fin 8) (s : State), estRun s q.val = true ∧
    s.due (atOf s.est.mssAt q.val) 3600000000000 = true ∧ 8 ≤ (estValid s q.val).length ∧
    (∀ m ∈ estCells s q.val, (selfDischarge (estPar s q.val (estType s q.val m)) (s.ecell q.val m)).isSome = true) := by
  refine ⟨0, { upK with est := { cells := eightCells } }, ?_, by decide, by decide, by decide⟩
  have : estRun { upK with est := { cells := eightCells } } 0 = estRun upK 0 := rfl
  exact this.trans wit_estimator_runs

theorem wit_estimator_runs_tenant : ∃ (q : Fin 8) (s : State), q.val ≠ 0 ∧ estRun s q.val = true := by
  refine ⟨1, { upF [(R.ENG_PLSTAT_PARCEL 2, 1)] with arr := { engs := [(64, { key := 9, kid := Config.estimatorKid })] } },
    by decide, ?_⟩
  have h2 : State.fg ({ upF [(R.ENG_PLSTAT_PARCEL 2, 1)] with arr := { engs := [(64, { key := 9, kid := Config.estimatorKid })] } })
    (R.ENG_PLSTAT_PARCEL (64 / 32)) = 1 := by decide
  simp [estRun, holdsKernel, h2]

/-! ## Well-formedness refuses each kind of ill-formed command -/

theorem test_wf_good : (Instr.regRead (pk 0x10 1 [1, 2])).wf = true := by decide
theorem test_wf_ver : (Instr.regRead { pk 0x10 1 [] with ver := 16 }).wf = false := by decide
theorem test_wf_cls : (Instr.regRead { pk 0x10 1 [] with cls := 4 }).wf = false := by decide
theorem test_wf_resv : (Instr.regRead { pk 0x10 1 [] with resv := 1024 }).wf = false := by decide
theorem test_wf_opcode : (Instr.regRead { pk 0x10 1 [] with opcode := 256 }).wf = false := by decide
theorem test_wf_parcel : (Instr.regRead { pk 0x10 1 [] with parcel := 8 }).wf = false := by decide
theorem test_wf_hops : (Instr.regRead { pk 0x10 1 [] with hops := 16 }).wf = false := by decide
theorem test_wf_dest : (Instr.regRead { pk 0x10 1 [] with dest := 65536 }).wf = false := by decide
theorem test_wf_src : (Instr.regRead { pk 0x10 1 [] with src := 65536 }).wf = false := by decide
theorem test_wf_tag : (Instr.regRead { pk 0x10 1 [] with tag := 65536 }).wf = false := by decide
theorem test_wf_len : (Instr.regRead { pk 0x10 1 [] with len := 65536 }).wf = false := by decide
theorem test_wf_seqep : (Instr.regRead { pk 0x10 1 [] with seqep := 4294967296 }).wf = false := by decide
theorem test_wf_payload : (Instr.regRead (pk 0x10 1 (List.replicate 2049 0))).wf = false := by decide +kernel
theorem test_wf_aperture : (Instr.epochAperture 0 [0]).wf = false := by decide
theorem test_wf_filter_tick : (Instr.comparatorFilterTick [0]).wf = false := by decide
theorem test_wf_census : (Instr.pegSearchPass 0 [1]).wf = false := by decide
theorem test_wf_lock_loss : (Instr.laneLockLoss 0 0 (List.replicate 65 0)).wf = false := by decide
theorem test_wf_roll_call : (Instr.rollCallFrame 0 (2 ^ 56) []).wf = false := by decide
theorem test_wf_roll_call_body : (Instr.rollCallFrame 0 1 (List.replicate 2069 0)).wf = false := by decide +kernel
theorem test_wf_mark_lanes : (Instr.markBlock 0 4 true 0 (List.replicate 7 0) 0).wf = false := by decide
theorem test_wf_mark_bytes : (Instr.markBlock 0 1 true 0 [] 0).wf = false := by decide
theorem test_wf_dly : (Instr.dlyBlock 0 [] 0).wf = false := by decide
theorem test_wf_lstat : (Instr.lstatBlock 0 []).wf = false := by decide
theorem test_wf_train : (Instr.trainBlock 0 0 0 []).wf = false := by decide
theorem test_wf_trigger_cell : (Instr.injectedTrigger 0 49).wf = false := by decide
theorem test_wf_spi : (Instr.spiWrite (List.replicate 2069 0)).wf = false := by decide +kernel
theorem test_wf_demand_frame : (Instr.kernelDemandFrame (List.replicate 501 0)).wf = false := by decide +kernel

/-! ## Worked examples of the spec -/

/-- The ASCII digits 1 to 9. -/
def nineDigits : List Byte := [0x31, 0x32, 0x33, 0x34, 0x35, 0x36, 0x37, 0x38, 0x39]

/-- R406 gives 0xE306_9283. -/
theorem test_crc32c : crc32c nineDigits = 0xE3069283 := by decide +kernel

/-- R336 gives the header check over the same bytes. -/
theorem test_hcs : hcs nineDigits = 0x29B1 := by decide +kernel

/-- The frame SEARCH of R585: its CRC is 3. -/
theorem test_peg_crc : pegCrc [4] = 3 := by decide

/-- The header of the worked example of chapter 12, and of its reply. -/
theorem test_header : headerBytes { cls := 2, opcode := 0x41, hops := 3, parcel := 2, dest := 0x085, src := 0xC000, tag := 0x0107, len := 32, seqep := 0x2A }
    = [0x18, 0x00, 0x41, 0x32, 0x85, 0x00, 0x00, 0xC0, 0x07, 0x01, 0x20, 0x00, 0x2A, 0x00, 0x00, 0x00] := by decide
theorem test_reply_header : headerBytes { cls := 2, opcode := 0xC1, hops := 15, parcel := 2, dest := 0xC000, src := 0x085, tag := 0x0107, len := 92, seqep := 0x2A }
    = [0x18, 0x00, 0xC1, 0xF2, 0x00, 0xC0, 0x85, 0x00, 0x07, 0x01, 0x5C, 0x00, 0x2A, 0x00, 0x00, 0x00] := by decide

/-- The averager's table of the worked example of chapter 3: PEDEN 1, SHIFT 4. -/
theorem test_averages : (averaged 17 true 4 5000).1 = 313 ∧ (averaged 17 true 4 (-5000)).1 = -312 ∧ (averaged 17 true 4 (-5001)).1 = -313 ∧
    averaged 17 true 4 524300 = (32767, true) := by decide

/-- The envelope of the worked example of chapter 13: a current that stays at 500 units is first above it at 30.53 ms. -/
theorem test_envelope : aboveEnvelope 500 50 25 20 100 500 30530000 = true ∧ aboveEnvelope 500 50 25 20 100 500 30520000 = false ∧
    aboveEnvelope 500 50 25 20 100 325 50000000 = false := by decide

/-- IDENT_CAP of the JX4810 (R11). -/
theorem test_ident : ({ variant := .jx4810 } : State).identCap = 0x0007E802 := by decide

/-- Pass 1 of the worked example of chapter 17: slots 3 and 7 at nibble 2 leave (2, slot 7) on the stack. -/
theorem test_search_pass : pegPass 16 ((numNibbles 0x4C1A220000000311).set 13 0 |>.mapIdx fun i d => if i = 13 then 2 ^ 3 + 2 ^ 7 else 2 ^ d) [] [] 0
    = some ([(2, 2 ^ 7)], 0x4C1A220000000311) := by decide

end Sys2Proof.Tests
end

/-! # Packets that leave, replies, register access, the step and the state after reset -/

namespace Sys2Proof.Machine

/-! ## A command that completes -/

/-- A command whose meaning is `run f` completes in what `f` leaves, with the queue and the variant as they were. -/
theorem Does.of_run {c : Instr} {f : State → State} {s : State} {P : State → Prop} (h : exec c s = run f s)
    (hP : P { f s with pending := s.pending, variant := s.variant }) : Does c s P := ⟨_, h, hP⟩

/-- A request that passes the checks of R407 runs its own rule from the state in which the checks end. -/
theorem request_of_admits {op : Nat} {p q : Packet} {s s1 : State} (h : Admits op p s q s1)
    (k : Packet → State → State) : request op p k s = k q s1 := by
  obtain ⟨hrun, hhead, hauth, hperm, hrestored, hadm⟩ := h
  have hready : ¬q.parcel = 0 → s1.fb R.CAD_STAT_RESTORED = true := hrestored.resolve_left
  simp +contextual [request, checked, hrun, hhead, hauth, hperm, hready, hadm]

/-- A command whose meaning is a request that is admitted completes in what the request's rule leaves. -/
theorem Does.of_admits {c : Instr} {op : Nat} {p q : Packet} {k : Packet → State → State} {s s1 : State}
    {P : State → Prop} (h : exec c s = run (request op p k) s) (ha : Admits op p s q s1)
    (hP : P { k q s1 with pending := s.pending, variant := s.variant }) : Does c s P :=
  Does.of_run h (by rwa [request_of_admits ha])

/-! ## Registers that stay -/

theorem SameRegs.refl (l : List Nat) (s : State) : SameRegs l s s := fun _ _ => rfl

theorem SameRegs.of_regs {l : List Nat} {s t : State} (h : t.regs = s.regs) : SameRegs l s t :=
  fun a _ => State.reg_congr h a

theorem SameRegs.trans {l : List Nat} {s t u : State} (h : SameRegs l s t) (h' : SameRegs l t u) : SameRegs l s u :=
  fun a ha => (h' a ha).trans (h a ha)

theorem SameRegs.mono {l l' : List Nat} {s t : State} (h : SameRegs l s t) (hl : ∀ a ∈ l, a ∈ l') : SameRegs l' s t :=
  fun a ha => h a fun hm => ha (hl a hm)

theorem State.inc_sameRegs (s : State) (f : Fld) : SameRegs [f.adr] s (s.inc f) :=
  fun a ha => State.reg_fs_ne s f _ (by simpa using ha)

/-! ## The replies in the output trace -/

/-- The replies that the station has made, oldest first. -/
def State.replies (s : State) : List Out := s.out.filter fun o => o.ch == .reply

theorem State.replies_congr {s t : State} (h : t.out = s.out) : t.replies = s.replies := by simp [State.replies, h]

theorem State.lastReply_eq (s : State) : s.lastReply = s.replies.getLast?.map fun o => o.args.take 2 := rfl

theorem State.lastBody_eq (s : State) : s.lastBody = s.replies.getLast?.map fun o => o.data := rfl

theorem State.replies_emit_reply (s : State) (a : List Nat) (b : List Byte) :
    (s.emit .reply a b).replies = s.replies ++ [{ ch := .reply, args := a, data := b }] := by
  simp [State.replies]

theorem State.replies_emit_other (s : State) {c : Chan} (a : List Nat) (b : List Byte) (h : c ≠ .reply) :
    (s.emit c a b).replies = s.replies := by
  simp [State.replies, h]

/-! ## What the sending of a packet changes (R353, R354, R363, R416) -/

/-- Between `s` and `t` packets of the station left or were queued: registers changed in `l` at most, no reply was
recorded, and beside registers and trace only the records of the CP, the host interface and the ports changed. -/
def Sends (l : List Nat) (s t : State) : Prop :=
  SameRegs l s t ∧ t.replies = s.replies ∧
    t = { s with regs := t.regs, out := t.out, cp := t.cp, hst := t.hst, trv := t.trv }

theorem Sends.sameRegs {l : List Nat} {s t : State} (h : Sends l s t) : SameRegs l s t := h.1

theorem Sends.replies {l : List Nat} {s t : State} (h : Sends l s t) : t.replies = s.replies := h.2.1

theorem Sends.frame {l : List Nat} {s t : State} (h : Sends l s t) :
    t = { s with regs := t.regs, out := t.out, cp := t.cp, hst := t.hst, trv := t.trv } := h.2.2

/-- A state that differs in the records of the CP, the host interface and the ports alone. -/
theorem Sends.of_records {l : List Nat} {s t : State} (h : t = { s with cp := t.cp, hst := t.hst, trv := t.trv }) :
    Sends l s t := by
  have hregs : t.regs = s.regs := by rw [h]
  have hout : t.out = s.out := by rw [h]
  refine ⟨.of_regs hregs, State.replies_congr hout, ?_⟩
  rw [hregs, hout]; exact h

theorem Sends.refl (l : List Nat) (s : State) : Sends l s s := .of_records rfl

theorem Sends.trans {l : List Nat} {s t u : State} (h : Sends l s t) (h' : Sends l t u) : Sends l s u :=
  ⟨h.sameRegs.trans h'.sameRegs, h'.replies.trans h.replies, h'.frame.trans (by rw [h.frame])⟩

theorem Sends.mono {l l' : List Nat} {s t : State} (h : Sends l s t) (hl : ∀ a ∈ l, a ∈ l') : Sends l' s t :=
  ⟨h.sameRegs.mono hl, h.replies, h.frame⟩

theorem Sends.emit {l : List Nat} (s : State) {c : Chan} (a : List Nat) (b : List Byte) (h : c ≠ .reply) :
    Sends l s (s.emit c a b) :=
  ⟨.of_regs (by simp), s.replies_emit_other a b h, by rw [State.emit_frame]⟩

theorem Sends.inc (s : State) (f : Fld) : Sends [f.adr] s (s.inc f) :=
  ⟨s.inc_sameRegs f, State.replies_congr (by simp), by rw [State.inc_frame]⟩

theorem sideReply_sends {l : List Nat} (b : List Byte) (s : State) : Sends l s (sideReply b s) := .of_records rfl

theorem hostOut_sends (k : Nat) (q : Packet) (s : State) : Sends [R.HST_ETHCNT_W2 k] s (hostOut k q s) := by
  unfold hostOut
  have hcount : Sends [R.HST_ETHCNT_W2 k] s (if s.portMode k = 2 then s.inc (R.HST_ETHCNT_W2_TXOK k) else s) := by
    split
    · exact .inc s (R.HST_ETHCNT_W2_TXOK k)
    · exact .refl _ _
  exact hcount.trans (.emit _ _ _ (by decide))

theorem budgetTake_sends {l : List Nat} (p : Packet) (s : State) : Sends l s (budgetTake p s) := by
  unfold budgetTake
  split
  · split <;> exact .of_records rfl
  · split
    · exact .of_records rfl
    · split <;> exact .of_records rfl

theorem foldl_enqueueFrame_sends {l : List Nat} (f : Frame) (ports : List Nat) (s : State) :
    Sends l s (ports.foldl (fun t k => enqueueFrame f k t) s) := by
  induction ports generalizing s with
  | nil => exact .refl _ _
  | cons k ports ih => exact Sends.trans (.of_records rfl) (ih (enqueueFrame f k s))

theorem ringSend_sends {l : List Nat} (p : Packet) (s : State) : Sends l s (ringSend p s) :=
  Sends.trans (.of_records rfl)
    (foldl_enqueueFrame_sends _ _ { s with trv := { s.trv with fseq := (s.trv.fseq + 1) % 4096 } })

theorem launch_sends {l : List Nat} (p : Packet) (s : State) : Sends l s (launch p s) :=
  (budgetTake_sends p s).trans (Sends.trans (.emit _ _ _ (by decide)) (ringSend_sends p _))

theorem enter_sends {l : List Nat} (p : Packet) (s : State) : Sends l s (enter p s) := by
  unfold enter
  split
  · exact launch_sends p s
  · exact .of_records rfl

theorem originate_sends {l : List Nat} (p : Packet) (s : State) : Sends l s (originate p s) := enter_sends _ s

/-- A packet toward its DEST steps the frame counters of the four host ports at most. -/
theorem sendOut_sends (k : Nat) (p : Packet) (s : State) : Sends (replyCounters (.ring k)) s (sendOut p s) := by
  simp only [sendOut]
  split
  · exact sideReply_sends _ s
  · split
    next hmode =>
      obtain ⟨hlo, hhi, -⟩ := hmode
      obtain hm | hm | hm | hm : addrMode p.dest = 8 ∨ addrMode p.dest = 9 ∨ addrMode p.dest = 10 ∨
          addrMode p.dest = 11 := by omega
      all_goals exact (hostOut_sends _ _ s).mono (by simp [hm, replyCounters])
    next => exact originate_sends _ s

/-! ## What a reply is and changes (R408 to R414) -/

/-- A reply that NOREPLY does not suppress: status, reason and body are recorded, and the packet leaves by the way that the
request came. -/
theorem replyAs_sends (d : Nat) (p : Packet) (t : Stat) (body : List Byte) (wait : Nat) (s : State) (h : p.noReply = false) :
    ∃ rest, Sends (replyCounters p.via) (s.emit .reply (t.code :: t.reason :: rest) body) (replyAs d p t body wait s) := by
  rw [replyAs, if_neg (by simp [h])]
  cases p.via with
  | ring k => exact ⟨_, sendOut_sends k _ _⟩
  | host k => exact ⟨_, hostOut_sends k _ _⟩
  | side => exact ⟨_, sideReply_sends _ _⟩
  | self => exact ⟨_, .refl _ _⟩

/-- A reply at the end of a request's rule: what it says, the registers it leaves, and the datum. -/
theorem replyAs_spec (d : Nat) (p : Packet) (t : Stat) (body : List Byte) (wait : Nat) (s : State) (h : p.noReply = false) :
    (replyAs d p t body wait s).lastReply = some [t.code, t.reason] ∧
      (replyAs d p t body wait s).lastBody = some body ∧ (replyAs d p t body wait s).dtm = s.dtm ∧
      SameRegs (replyCounters p.via) s (replyAs d p t body wait s) := by
  obtain ⟨rest, hs⟩ := replyAs_sends d p t body wait s h
  refine ⟨?_, ?_, ?_, SameRegs.trans (.of_regs rfl) hs.sameRegs⟩
  · simp [State.lastReply_eq, hs.replies, State.replies_emit_reply]
  · simp [State.lastBody_eq, hs.replies, State.replies_emit_reply]
  · rw [hs.frame]; rfl

/-! ## Little-endian fields -/

theorem leBytes_one (n : Nat) : leBytes 1 n = [BitVec.ofNat 8 n] := rfl

theorem sliceBytes_succ (l : List Byte) (o k : Nat) :
    sliceBytes l o (k + 1) = l.getD o 0 :: sliceBytes l (o + 1) k := by
  by_cases h : o < l.length
  · rw [sliceBytes, sliceBytes, List.drop_eq_getElem_cons h, List.getD_eq_getElem _ _ h]
    simp only [List.take_succ_cons, List.length_cons, List.cons_append, Nat.add_sub_add_right]
  · have hs : l.length ≤ o := by omega
    rw [sliceBytes, sliceBytes, List.drop_of_length_le hs, List.drop_of_length_le (by omega : l.length ≤ o + 1),
      List.getD_eq_default _ _ hs]
    simp [List.replicate_succ]

/-- A field of `k + 1` bytes is its first byte and the field of the others. -/
theorem leAt_succ (l : List Byte) (o k : Nat) : leAt l o (k + 1) = (l.getD o 0).toNat + 256 * leAt l (o + 1) k := by
  rw [leAt, sliceBytes_succ]; rfl

/-- A 32-bit word with the value 1 is a byte 1 and three bytes 0. -/
theorem leAt_word_one {l : List Byte} (h : leAt l 0 4 = 1) : u8 l 0 = 1 ∧ leAt l 1 3 = 0 := by
  have hword : leAt l 0 4 = (l.getD 0 0).toNat + 256 * leAt l 1 3 := leAt_succ l 0 3
  have hbyte : u8 l 0 = (l.getD 0 0).toNat := leAt_succ l 0 0
  have := (l.getD 0 0).isLt
  omega

/-! ## Per-unit replies (R414) -/

/-- The bitmap of `n` units that were all served. -/
theorem foldl_setBit_all (n : Nat) : (List.range n).foldl (fun m i => setBit m i true) 0 = 2 ^ n - 1 := by
  induction n with
  | zero => rfl
  | succ n ih =>
    have hor := Nat.two_pow_add_eq_or_of_lt (Nat.sub_one_lt (Nat.two_pow_pos n).ne') 1
    rw [List.range_succ, List.foldl_append, ih]
    simp only [List.foldl_cons, List.foldl_nil, setBit, if_true]
    rw [Nat.mul_one] at hor
    rw [Nat.or_comm, ← hor]
    omega

theorem unitBody_all_ok (n : Nat) (res : List Byte) :
    unitBody (List.replicate n .ok) res =
      leBytes 8 (2 ^ n - 1) ++ List.replicate n 0 ++ List.replicate ((4 - n % 4) % 4) 0 ++ res := by
  have hbit : ∀ i, ((List.replicate n Stat.ok).getD i .ok).code = 0 := by
    intro i
    by_cases h : i < n <;> simp [List.getD, h, Stat.ok]
  simp only [unitBody, hbit, if_true, List.length_replicate, foldl_setBit_all]
  simp [Stat.ok]

theorem unitStat_all_ok (n : Nat) (good : Stat) : unitStat (List.replicate n .ok) good = good := by
  simp [unitStat, Stat.ok]

theorem unitBody_single (t : Stat) (res : List Byte) :
    unitBody [t] res = leBytes 8 (b2n (t.code == 0)) ++ leBytes 1 t.code ++ [0, 0, 0] ++ res := by
  by_cases h : t.code = 0 <;> simp [unitBody, h, leBytes_one, setBit, b2n]

/-- The reply to a per-unit request at the end of its rule. -/
theorem replyUnits_spec (p : Packet) (sts : List Stat) (res : List Byte) (s : State) (h : p.noReply = false) :
    (replyUnits p sts res .ok s).lastReply = some [(unitStat sts .ok).code, (unitStat sts .ok).reason] ∧
      (replyUnits p sts res .ok s).lastBody = some (unitBody sts res) ∧ (replyUnits p sts res .ok s).dtm = s.dtm ∧
      SameRegs (replyCounters p.via) s (replyUnits p sts res .ok s) := replyAs_spec _ p _ _ 0 s h

/-- The status of a single unit is the unit's own; a unit that was served gives no reason. -/
theorem unitStat_single_args (t : Stat) :
    [(unitStat [t] .ok).code, (unitStat [t] .ok).reason] = [t.code, if t.code = 0 then 0 else t.reason] := by
  by_cases h : t.code = 0 <;> simp [unitStat, h, Stat.ok]

/-! ## Register writes (R15) -/

/-- Bit `i` after a write by field type. -/
theorem testBit_applyWrite {a : Nat} {r : RegRow} (v : Word) (s : State) (h : findReg a = some r) {i : Nat} (hi : i < 32) :
    ((applyWrite a v s).reg a).toNat.testBit i =
      (if r.rw.testBit i = true then v.toNat.testBit i
       else if r.w1c.testBit i = true ∧ v.toNat.testBit i = true then false else (s.reg a).toNat.testBit i) := by
  have hones : (0xFFFFFFFF : Nat).testBit i = true := by
    rw [show 0xFFFFFFFF = 2 ^ 32 - 1 by rfl, Nat.testBit_two_pow_sub_one]; simpa using hi
  simp only [applyWrite, h, State.reg_setReg_same, w32, BitVec.toNat_ofNat, Nat.testBit_mod_two_pow, Nat.testBit_or,
    Nat.testBit_xor, Nat.testBit_and, hones, hi]
  cases r.rw.testBit i <;> cases r.w1c.testBit i <;> cases v.toNat.testBit i <;> simp

theorem applyWrite_sameRegs (a : Nat) (v : Word) (s : State) : SameRegs [a] s (applyWrite a v s) := by
  intro b hb
  unfold applyWrite
  split
  · rfl
  · exact State.reg_setReg_ne s _ (by simpa using hb)

/-- What the CP firmware writes is not held to a tenant's rights. -/
theorem writeReg_firmware {a : Nat} {v : Word} {s : State} (hc : accessCheck s a v = none) (hp : prfHeld s a = false) :
    writeReg 8 a v s = writeRule a v s := by
  unfold writeReg
  cases plotOf a <;> simp [tenant, hc, hp]

theorem exec_registerWrite (a : BitVec 24) (v : Word) (s : State) :
    exec (.registerWrite a v) s = run (fun s => (writeReg 8 a.toNat v s).2.done (writeReg 8 a.toNat v s).1) s := rfl

theorem registerWrite_plain {a : BitVec 24} {v : Word} {r : RegRow} {s : State} (hr : findReg a.toNat = some r)
    (hc : accessCheck s a.toNat v = none) (hrule : writeRule a.toNat v s = plainWrite a.toNat v s)
    (hp : prfHeld s a.toNat = false) :
    Does (.registerWrite a v) s fun t => (∀ i ∈ List.range 32, (t.reg a.toNat).toNat.testBit i =
        (if r.rw.testBit i = true then v.toNat.testBit i
         else if r.w1c.testBit i = true ∧ v.toNat.testBit i = true then false else (s.reg a.toNat).toNat.testBit i)) ∧
      t.lastOut = some { ch := .status, args := [0, 0, 0] } ∧ SameRegs [a.toNat] s t := by
  have hw : writeReg 8 a.toNat v s = (.ok, applyWrite a.toNat v s) := (writeReg_firmware hc hp).trans hrule
  refine Does.of_run (exec_registerWrite a v s) ⟨fun i hi => ?_, ?_, ?_⟩
  · rw [hw]; exact testBit_applyWrite v s hr (List.mem_range.1 hi)
  · rw [hw]; simp [State.lastOut, State.done, Stat.ok]
  · rw [hw]; exact applyWrite_sameRegs a.toNat v s

/-! ## Registers read in order (R424) -/

/-- Reading registers that latch nothing collects their values, least significant byte first, in the order of the reads. -/
theorem foldl_readReg_units {r : Nat} {f : Nat → Nat} {vs : List Word} {s : State}
    (h : ∀ i ∈ List.range vs.length, readReg r (f i) s = (.ok, vs.getD i 0, s)) (n : Nat) (hn : n ≤ vs.length) :
    (List.range n).foldl (fun (y : List Stat × List Byte × State) i =>
        let z := readReg r (f i) y.2.2
        (y.1 ++ [z.1], y.2.1 ++ leBytes 4 z.2.1.toNat, z.2.2)) ([], [], s)
      = (List.replicate n .ok, (vs.take n).flatMap fun v => leBytes 4 v.toNat, s) := by
  induction n with
  | zero => simp
  | succ n ih =>
    rw [List.range_succ, List.foldl_append, ih (by omega)]
    simp only [List.foldl_cons, List.foldl_nil, h n (List.mem_range.2 hn)]
    rw [List.replicate_succ', List.take_succ_eq_append_getElem hn, List.flatMap_append, List.getD_eq_getElem _ _ hn,
      List.flatMap_singleton]

/-- The same for a block, whose status stays good. -/
theorem foldl_readReg_block {r : Nat} {f : Nat → Nat} {vs : List Word} {s : State}
    (h : ∀ i ∈ List.range vs.length, readReg r (f i) s = (.ok, vs.getD i 0, s)) (n : Nat) (hn : n ≤ vs.length) :
    (List.range n).foldl (fun (y : Stat × List Byte × State) i =>
        let z := readReg r (f i) y.2.2
        (if y.1.code = 0 then z.1 else y.1, y.2.1 ++ leBytes 4 z.2.1.toNat, z.2.2)) (.ok, [], s)
      = (.ok, (vs.take n).flatMap fun v => leBytes 4 v.toNat, s) := by
  induction n with
  | zero => simp
  | succ n ih =>
    rw [List.range_succ, List.foldl_append, ih (by omega)]
    simp only [List.foldl_cons, List.foldl_nil, h n (List.mem_range.2 hn), ite_self]
    rw [List.take_succ_eq_append_getElem hn, List.flatMap_append, List.getD_eq_getElem _ _ hn, List.flatMap_singleton]

/-! ## The requests (R424) -/

/-- REG_READ of registers whose reading latches nothing is the reply with their values. -/
theorem regRead_all_ok {q : Packet} {vs : List Word} {s : State} (hn : u8 q.payload 0 = vs.length)
    (hlen : q.payload.length = 4 + 4 * vs.length) (h1 : 1 ≤ vs.length) (h64 : vs.length ≤ 64)
    (hz : leAt q.payload 1 3 = 0)
    (hread : ∀ i ∈ List.range vs.length, readReg q.parcel (u32 q.payload (4 + 4 * i)) s = (.ok, vs.getD i 0, s)) :
    regRead q s = replyUnits q (List.replicate vs.length .ok) (vs.flatMap fun v => leBytes 4 v.toNat) .ok s := by
  have hgood : ¬(q.payload.length < 4 ∨ q.payload.length ≠ 4 + 4 * vs.length) := by omega
  have hcount : ¬(vs.length = 0 ∨ 64 < vs.length ∨ leAt q.payload 1 3 ≠ 0) := by omega
  rw [regRead]
  simp only [hn, hgood, hcount, if_false]
  rw [foldl_readReg_units hread vs.length (Nat.le_refl _), List.take_length]

/-- REG_READ of one register is the reply with its status and value. -/
theorem regRead_single {q : Packet} {st : Stat} {v : Word} {s t : State} (hlen : q.payload.length = 8)
    (hone : leAt q.payload 0 4 = 1) (hread : readReg q.parcel (u32 q.payload 4) s = (st, v, t)) :
    regRead q s = replyUnits q [st] (leBytes 4 v.toNat) .ok t := by
  obtain ⟨hn, hz⟩ := leAt_word_one hone
  simp [regRead, hn, hz, hlen, hread, List.range_succ]

/-- REG_WRITE of one register is the reply with its status. -/
theorem regWrite_single {q : Packet} {st : Stat} {s t : State} (hlen : q.payload.length = 12)
    (hone : leAt q.payload 0 4 = 1) (hup : s.sysUp = true)
    (hwrite : writeReg q.parcel (u32 q.payload 4) (w32 (u32 q.payload 8)) s = (st, t)) (hup' : t.sysUp = true) :
    regWrite q s = replyUnits q [st] [] .ok t := by
  obtain ⟨hn, hz⟩ := leAt_word_one hone
  simp [regWrite, replyAlive, hn, hz, hlen, hup, hwrite, hup', List.range_succ]

/-- REG_RMW whose read and write are served is the reply with the word read and the word written. -/
theorem regRmw_ok {q : Packet} {old : Word} {s t u : State} (hlen : q.payload.length = 12)
    (hread : readReg q.parcel (u32 q.payload 0) s = (.ok, old, t))
    (hwrite : writeReg q.parcel (u32 q.payload 0) (w32 ((old.toNat &&& (0xFFFFFFFF ^^^ u32 q.payload 4)) |||
      (u32 q.payload 8 &&& u32 q.payload 4))) t = (.ok, u)) (hup : u.sysUp = true) :
    regRmw q s = reply q .ok (leBytes 4 old.toNat ++ leBytes 4 ((old.toNat &&& (0xFFFFFFFF ^^^ u32 q.payload 4)) |||
      (u32 q.payload 8 &&& u32 q.payload 4))) 0 u := by
  have hok : ¬(Stat.ok.code ≠ 0) := by decide
  simp only [regRmw, withLen, hlen, if_true, hread, hok, if_false, hwrite, replyAlive, hup]

/-- REG_READ_BLOCK of registers whose reading latches nothing is the reply with their values. -/
theorem regReadBlock_all_ok {q : Packet} {vs : List Word} {s : State} (hlen : q.payload.length = 8)
    (hn : u16 q.payload 4 = vs.length) (h1 : 1 ≤ vs.length) (h496 : vs.length ≤ 496) (hz : u16 q.payload 6 = 0)
    (hread : ∀ i ∈ List.range vs.length, readReg q.parcel (u32 q.payload 0 + 4 * i) s = (.ok, vs.getD i 0, s)) :
    regReadBlock q s = reply q .ok (leBytes 4 (u32 q.payload 0) ++ leBytes 2 vs.length ++ [0, 0] ++
      vs.flatMap fun v => leBytes 4 v.toNat) 0 s := by
  have hcount : ¬(vs.length = 0 ∨ 496 < vs.length ∨ u16 q.payload 6 ≠ 0) := by omega
  simp only [regReadBlock, withLen, hlen, if_true, hn, hcount, if_false]
  rw [foldl_readReg_block hread vs.length (Nat.le_refl _), List.take_length]
  rfl

/-- Settles O35: each command is the rule of its register or of its request, whose reply `replyAs_spec` describes. -/
theorem registerAccessTakesEffect : Obligations.RegisterAccessTakesEffect := by
  refine ⟨fun a v r s hr hc hrule hp => registerWrite_plain hr hc hrule hp, ?regRead, ?regReadSingle, ?regWrite, ?regRmw,
    ?regReadBlock⟩
  case regRead =>
    intro p q vs s s1 ha hq hn hlen h1 h64 hz hread
    refine Does.of_admits (k := regRead) rfl ha ?_
    rw [regRead_all_ok hn hlen h1 h64 hz hread]
    obtain ⟨hreply, hbody, hdtm, -⟩ :=
      replyUnits_spec q (List.replicate vs.length .ok) (vs.flatMap fun v => leBytes 4 v.toNat) s1 hq
    rw [unitStat_all_ok] at hreply
    rw [unitBody_all_ok] at hbody
    exact ⟨hreply, hbody, hdtm⟩
  case regReadSingle =>
    intro p q st v s s1 s2 ha hq hlen hone hread
    refine Does.of_admits (k := regRead) rfl ha ?_
    rw [regRead_single hlen hone hread]
    obtain ⟨hreply, hbody, hdtm, -⟩ := replyUnits_spec q [st] (leBytes 4 v.toNat) s2 hq
    rw [unitStat_single_args] at hreply
    rw [unitBody_single] at hbody
    exact ⟨hreply, hbody, hdtm⟩
  case regWrite =>
    intro p q st s s1 s2 ha hq hlen hone hup hwrite hup'
    refine Does.of_admits (k := regWrite) rfl ha ?_
    rw [regWrite_single hlen hone hup hwrite hup']
    obtain ⟨hreply, hbody, -, hregs⟩ := replyUnits_spec q [st] [] s2 hq
    rw [unitStat_single_args] at hreply
    rw [unitBody_single, List.append_nil] at hbody
    exact ⟨hreply, hbody, hregs⟩
  case regRmw =>
    intro p q old s s1 s2 s3 ha hq hlen hread hwrite hup
    refine Does.of_admits (k := regRmw) rfl ha ?_
    rw [regRmw_ok hlen hread hwrite hup]
    obtain ⟨hreply, hbody, -, hregs⟩ := replyAs_spec Stat.ok.disp q .ok _ 0 s3 hq
    exact ⟨hreply, hbody, hregs⟩
  case regReadBlock =>
    intro p q vs s s1 ha hq hlen hn h1 h496 hz hread
    refine Does.of_admits (k := regReadBlock) rfl ha ?_
    rw [regReadBlock_all_ok hlen hn h1 h496 hz hread]
    obtain ⟨hreply, hbody, -, -⟩ := replyAs_spec Stat.ok.disp q .ok _ 0 s1 hq
    exact ⟨hreply, hbody⟩

/-! ## The step and the state after reset -/

/-- Settles O52: the step's case of a queue that is not empty. -/
theorem stepRunsTheFrontCommand : Obligations.StepRunsTheFrontCommand := by
  intro c rest s h
  simp only [step, h]

/-- Settles O53: the step's case of an empty queue, which waits one epoch. -/
theorem idleStepPassesOneEpoch : Obligations.IdleStepPassesOneEpoch := by
  intro s h
  simp only [step, h, State.wait]

/-- Settles O54: no register is listed at reset, so every register and field reads its row's reset value. -/
theorem resetState : Obligations.ResetState := by
  have hoff : State.reset.fg R.SAF_OUT_ON = 0 := by decide
  have hpeg : State.reset.pegOk := by decide
  exact ⟨rfl, State.reg_reset, by decide, hoff, by decide, by decide, by decide, rfl, by decide, rfl, rfl, rfl, hpeg,
    fun hon => absurd hoff hon, Smap.wf_nil resetWord⟩

end Sys2Proof.Machine

/-! # Switched power domains: requests, the inrush limit and the steps of R46 -/

namespace Sys2Proof.Machine

/-- A command whose meaning leaves the state as it is. -/
theorem exec_of_run_same {c : Instr} {f : State → State} {s : State} (h : exec c s = run f s) (hf : f s = s) :
    exec c s = .next s := by rw [h, run, hf]

/-! ## Step 1 of R46 -/

/-- The record of recent starts with the one of domain `d` now (R47). -/
def notedStart (d : Nat) (s : State) : Dom :=
  if inrushGroup d = 0 then s.dom
  else if isCV d then { s.dom with cvAt := recentStarts s true ++ [s.lt] }
  else { s.dom with sysAt := recentStarts s false ++ [s.lt] }

/-- The step record with domain `d` in step 1 from now on. -/
def startedDom (d : Nat) (s : State) : Dom :=
  { notedStart d s with
    wait := (notedStart d s).wait.filter fun x => x != d
    step := Smap.set (fun _ => 0) (notedStart d s).step d 1
    at_ := Smap.set (fun _ => 0) (notedStart d s).at_ d s.lt }

theorem beginOn_eq (d : Nat) (s : State) :
    beginOn d s =
      if d < 128 ∧ s.fg (R.ENG_PLSTAT_STATE (d / 4)) = 0 then
        { s with dom := startedDom d s }.fs (R.ENG_PLSTAT_STATE (d / 4)) 1
      else { s with dom := startedDom d s } := rfl

theorem beginOn_dom (d : Nat) (s : State) : (beginOn d s).dom = startedDom d s := by
  rw [beginOn_eq]; split <;> rfl

theorem beginOn_lt (d : Nat) (s : State) : (beginOn d s).lt = s.lt := by
  rw [beginOn_eq]; split <;> rfl

/-- Noting a start leaves the steps and the queue. -/
theorem notedStart_steps_wait (d : Nat) (s : State) :
    (notedStart d s).step = s.dom.step ∧ (notedStart d s).wait = s.dom.wait := by
  unfold notedStart
  split
  · exact ⟨rfl, rfl⟩
  · split <;> exact ⟨rfl, rfl⟩

theorem beginOn_step (d : Nat) (s : State) : (beginOn d s).dom.step = Smap.set (fun _ => 0) s.dom.step d 1 := by
  rw [beginOn_dom, startedDom, (notedStart_steps_wait d s).1]

@[simp] theorem beginOn_domStep (d : Nat) (s : State) : (beginOn d s).domStep d = 1 := by
  simp [State.domStep, beginOn_step]

theorem beginOn_wait (d : Nat) (s : State) : (beginOn d s).dom.wait = s.dom.wait.filter fun x => x != d := by
  rw [beginOn_dom, startedDom, (notedStart_steps_wait d s).2]

/-- The groups of R47 by the kind of domain. -/
theorem inrushGroup_cases (d : Nat) :
    inrushGroup d = 0 ∧ isCV d = false ∨ inrushGroup d = 1 ∧ isCV d = true ∨ inrushGroup d = 2 ∧ isCV d = false := by
  unfold inrushGroup
  cases isCV d
  · cases d == domSWEEP || d == domDRAM <;> simp
  · simp

theorem beginOn_sysAt (d : Nat) (s : State) :
    (beginOn d s).dom.sysAt = if inrushGroup d = 2 then recentStarts s false ++ [s.lt] else s.dom.sysAt := by
  rw [beginOn_dom, startedDom, notedStart]
  obtain ⟨hg, hc⟩ | ⟨hg, hc⟩ | ⟨hg, hc⟩ := inrushGroup_cases d <;> simp [hg, hc]

theorem beginOn_cvAt (d : Nat) (s : State) :
    (beginOn d s).dom.cvAt = if inrushGroup d = 1 then recentStarts s true ++ [s.lt] else s.dom.cvAt := by
  rw [beginOn_dom, startedDom, notedStart]
  obtain ⟨hg, hc⟩ | ⟨hg, hc⟩ | ⟨hg, hc⟩ := inrushGroup_cases d <;> simp [hg, hc]

/-! ## The inrush limit (R47) -/

theorem recentStarts_sys (s : State) :
    recentStarts s false = s.dom.sysAt.filter fun t => decide (s.lt < t + 1000) := rfl

theorem recentStarts_cv (s : State) :
    recentStarts s true = s.dom.cvAt.filter fun t => decide (s.lt < t + 1000) := rfl

/-- A start that is recorded now is recent, and so are those that were recent. -/
theorem filter_recentStarts_append (s : State) (cv : Bool) :
    ((recentStarts s cv ++ [s.lt]).filter fun t => decide (s.lt < t + 1000)) = recentStarts s cv ++ [s.lt] := by
  simp [recentStarts]

theorem recentStarts_beginOn_sys (d : Nat) (s : State) :
    recentStarts (beginOn d s) false =
      if inrushGroup d = 2 then recentStarts s false ++ [s.lt] else recentStarts s false := by
  rw [recentStarts_sys, beginOn_lt, beginOn_sysAt]
  split
  · exact filter_recentStarts_append s false
  · rfl

theorem recentStarts_beginOn_cv (d : Nat) (s : State) :
    recentStarts (beginOn d s) true =
      if inrushGroup d = 1 then recentStarts s true ++ [s.lt] else recentStarts s true := by
  rw [recentStarts_cv, beginOn_lt, beginOn_cvAt]
  split
  · exact filter_recentStarts_append s true
  · rfl

/-- The limit of the group to which a domain belongs (R47). -/
theorem inrushAllows_group {d : Nat} {s : State} (h : inrushAllows s d = true) :
    (inrushGroup d = 2 → (recentStarts s false).length < 4) ∧ (inrushGroup d = 1 → (recentStarts s true).length < 8) := by
  obtain ⟨hg, hc⟩ | ⟨hg, hc⟩ | ⟨hg, hc⟩ := inrushGroup_cases d <;>
    simp_all [inrushAllows]

/-- The recorded starts respect the bounds of R47. -/
def inrushOk (s : State) : Prop := (recentStarts s false).length ≤ 4 ∧ (recentStarts s true).length ≤ 8

/-- A domain that the limit lets begin keeps both bounds. -/
theorem beginOn_keeps_inrushOk {d : Nat} {s : State} (hroom : inrushAllows s d = true) (hs : inrushOk s) :
    inrushOk (beginOn d s) := by
  obtain ⟨hsys, hcv⟩ := hs
  constructor
  · rw [recentStarts_beginOn_sys]
    split
    next hd => simpa using (inrushAllows_group hroom).1 hd
    next => exact hsys
  · rw [recentStarts_beginOn_cv]
    split
    next hd => simpa using (inrushAllows_group hroom).2 hd
    next => exact hcv

/-! ## Requests (R46 to R48) -/

/-- What an on request can do: nothing, begin step 1 within the limit, join the queue, or note what is wanted. -/
theorem domReqOn_cases (d : Nat) (s : State) :
    domReqOn d s = s ∨ (inrushAllows s d = true ∧ domReqOn d s = beginOn d s) ∨
      domReqOn d s = { s with dom := { s.dom with wait := s.dom.wait ++ [d] } } ∨ ∃ v, domReqOn d s = s.setWant d v := by
  unfold domReqOn
  split
  · exact .inl rfl
  · split
    · split
      · exact .inl rfl
      · split
        next hroom => exact .inr (.inl ⟨(Bool.and_eq_true_iff.1 hroom).1, rfl⟩)
        next => exact .inr (.inr (.inl rfl))
    · split
      · exact .inr (.inr (.inr ⟨0, rfl⟩))
      · exact .inr (.inr (.inr ⟨1, rfl⟩))

theorem domReqOn_keeps_inrushOk (d : Nat) {s : State} (hs : inrushOk s) : inrushOk (domReqOn d s) := by
  obtain h | ⟨hroom, h⟩ | h | ⟨v, h⟩ := domReqOn_cases d s
  · rwa [h]
  · rw [h]; exact beginOn_keeps_inrushOk hroom hs
  · rw [h]; exact hs
  · rw [h]; exact hs

/-- A request for a domain that is off and does not wait yet begins step 1 or joins the end of the queue. -/
theorem domReqOn_off {d : Nat} {s : State} (hfit : s.domFit d = true) (hoff : s.domStep d = 0) (hnew : d ∉ s.dom.wait) :
    domReqOn d s =
      if inrushAllows s d && (inrushGroup d == 0 || !(s.dom.wait.any fun x => inrushGroup x == inrushGroup d)) then beginOn d s
      else { s with dom := { s.dom with wait := s.dom.wait ++ [d] } } := by
  simp [domReqOn, hfit, hoff, hnew]

/-- The slot starts the first request in the queue that the limit lets begin. -/
theorem domainInrushSlot_first {l r : List Nat} {d : Nat} {s : State} (hwait : s.dom.wait = l ++ d :: r)
    (hfull : l.all (fun x => !inrushAllows s x) = true) (hroom : inrushAllows s d = true) :
    domainInrushSlot s = beginOn d s := by
  have hnone : l.find? (inrushAllows s) = none := by simpa using hfull
  simp [domainInrushSlot, hwait, hnone, hroom]

theorem domainInrushSlot_keeps_inrushOk {s : State} (hs : inrushOk s) : inrushOk (domainInrushSlot s) := by
  unfold domainInrushSlot
  split
  next d hfind => exact beginOn_keeps_inrushOk (List.find?_some hfind) hs
  next => exact hs

/-- Settles O5: requests and the slot begin a domain only where `inrushAllows` lets them. -/
theorem inrushLimitHoldsAndRequestsWait : Obligations.InrushLimitHoldsAndRequestsWait := by
  refine ⟨fun d s hsys hcv => domReqOn_keeps_inrushOk d ⟨hsys, hcv⟩, ?slot, ?waits, ?order⟩
  case slot =>
    intro s hsys hcv
    exact Does.of_run (f := domainInrushSlot) rfl (domainInrushSlot_keeps_inrushOk ⟨hsys, hcv⟩)
  case waits =>
    intro d s hfit hoff hnew
    rw [domReqOn_off hfit hoff hnew]
    split
    · exact .inl (beginOn_domStep d s)
    · exact .inr rfl
  case order =>
    intro l r d s hwait hfull hroom
    refine Does.of_run (f := domainInrushSlot) rfl ?_
    rw [domainInrushSlot_first hwait hfull hroom]
    exact beginOn_domStep d s

/-! ## The on request of a plot that is shut down (R46, R261) -/

/-- No agent asks for a quarter of a plot that is thermally shut down: the request changes nothing. -/
theorem domainOnRequest_shut {d : Nat} {s : State} (hd : d < 128) (hshut : (s.plot (d / 4)).shut = true) :
    domainOnRequest d s = s := by
  simp [domainOnRequest, domAgent, hd, hshut]

/-- The CP runs, every domain is off, and plot 0 is thermally shut down. -/
def plotShutState : State :=
  { State.reset.fs R.RST_STAT_STEP 3 with arr := { plots := [(0, { shut := true })] } }

/-- Refutes O4: the request for a quarter of a plot that is thermally shut down changes nothing, though the CP runs and
the inrush limit has room. -/
theorem not_powerDomainsFollowTheirSteps : ¬ Obligations.PowerDomainsFollowTheirSteps := by
  rintro ⟨-, hquarter, -⟩
  obtain ⟨t, hrun, hstep, -⟩ :=
    hquarter 0 plotShutState (by decide) (by decide) (by decide) (by decide) (by decide) (by decide)
  have hsame : exec (.domainOnRequest 0) plotShutState = .next plotShutState :=
    exec_of_run_same (f := domainOnRequest 0) rfl (domainOnRequest_shut (by decide) (by decide))
  rw [hsame] at hrun
  cases hrun
  exact absurd hstep (by decide)

end Sys2Proof.Machine

/-! # The sample frame on the lanes of the barrier, and its arrival (R25, R26, R30 to R32) -/

namespace Sys2Proof.Machine

/-! ## Numbers as bits, and the frame check -/

theorem length_msbBits (k n : Nat) : (msbBits k n).length = k := by
  induction k with
  | zero => rfl
  | succ k ih => simp [msbBits, ih]

theorem bitsNat_cons (b : Bool) (l : List Bool) : bitsNat (b :: l) = b2n b * 2 ^ l.length + bitsNat l := by
  have hacc : ∀ (l : List Bool) (a : Nat),
      l.foldl (fun a b => 2 * a + (if b then 1 else 0)) a = a * 2 ^ l.length + bitsNat l := by
    intro l
    induction l with
    | nil => simp [bitsNat]
    | cons c l ih =>
      intro a
      rw [bitsNat, List.foldl_cons, List.foldl_cons, ih, ih, List.length_cons, Nat.pow_succ]
      cases c <;> simp <;> ring
  rw [bitsNat, List.foldl_cons, hacc]
  cases b <;> simp [b2n]

theorem bitsNat_lt (l : List Bool) : bitsNat l < 2 ^ l.length := by
  induction l with
  | nil => decide
  | cons b l ih =>
    rw [bitsNat_cons, List.length_cons, Nat.pow_succ]
    cases b <;> simp [b2n] <;> omega

/-- Bits of one length that spell the same number are the same. -/
theorem bitsNat_inj {l m : List Bool} (hlen : l.length = m.length) (h : bitsNat l = bitsNat m) : l = m := by
  induction l generalizing m with
  | nil => exact (List.length_eq_zero_iff.1 hlen.symm).symm
  | cons b l ih =>
    obtain _ | ⟨c, m⟩ := m
    · simp at hlen
    · have hlm : l.length = m.length := by simpa using hlen
      have hl := bitsNat_lt l
      have hm := bitsNat_lt m
      rw [bitsNat_cons, bitsNat_cons, hlm] at h
      rw [hlm] at hl
      have hbit : b = c := by
        cases b <;> cases c <;> simp only [b2n, reduceCtorEq, Bool.false_eq_true, if_true, if_false] at h ⊢ <;> omega
      subst hbit
      rw [ih hlm (Nat.add_left_cancel h)]

theorem bitsNat_msbBits (k n : Nat) : bitsNat (msbBits k n) = n % 2 ^ k := by
  induction k with
  | zero => simp [msbBits, bitsNat, Nat.mod_one]
  | succ k ih =>
    rw [msbBits, bitsNat_cons, length_msbBits, ih, Nat.mod_pow_succ, Nat.testBit_eq_decide_div_mod_eq]
    obtain h | h := Nat.mod_two_eq_zero_or_one (n / 2 ^ k) <;> simp [h, b2n, Nat.add_comm]

theorem crcBit_lt (w poly crc : Nat) (b : Bool) (hp : poly < 2 ^ w) : crcBit w poly crc b < 2 ^ w := by
  have hsh : (crc <<< 1) % 2 ^ w < 2 ^ w := Nat.mod_lt _ (Nat.two_pow_pos w)
  simp only [crcBit]
  split
  · exact Nat.xor_lt_two_pow hsh hp
  · exact hsh

theorem crc10_lt (bits : List Bool) : crc10 bits < 2 ^ 10 :=
  List.foldlRecOn (motive := fun c => c < 2 ^ 10) bits _ (by decide) fun c _ b _ => crcBit_lt 10 0x233 c b (by decide)

/-! ## The 1,050 bits of a frame (R26) -/

/-- The bits of the words, before the frame check. -/
def wordBits (ws : List Nat) : List Bool := ws.flatMap (msbBits 20)

theorem frameBits_eq (ws : List Nat) : frameBits ws = wordBits ws ++ msbBits 10 (crc10 (wordBits ws)) := rfl

theorem length_wordBits (ws : List Nat) : (wordBits ws).length = 20 * ws.length := by
  induction ws with
  | nil => rfl
  | cons w ws ih =>
    rw [wordBits, List.flatMap_cons, List.length_append, length_msbBits]
    rw [wordBits] at ih
    simp [ih]; ring

theorem length_frameBits (ws : List Nat) (h : ws.length = 52) : (frameBits ws).length = 1050 := by
  simp [frameBits_eq, length_wordBits, length_msbBits, h]

/-- The 20 bits at the place of word `i`. -/
theorem wordBits_slice {ws : List Nat} {i : Nat} (h : i < ws.length) :
    ((wordBits ws).drop (20 * i)).take 20 = msbBits 20 (ws.getD i 0) := by
  induction ws generalizing i with
  | nil => simp at h
  | cons w ws ih =>
    rw [wordBits, List.flatMap_cons]
    cases i with
    | zero =>
      rw [Nat.mul_zero, List.drop_zero, List.take_append_of_le_length (by simp [length_msbBits]),
        List.take_of_length_le (by simp [length_msbBits])]
      rfl
    | succ i =>
      have hdrop : 20 * (i + 1) = (msbBits 20 w).length + 20 * i := by rw [length_msbBits]; ring
      rw [hdrop, List.drop_append, List.drop_eq_nil_of_le (by omega), List.nil_append, Nat.add_sub_cancel_left]
      exact ih (by simpa using h)

/-- Words of 20 bits come out of the body as they went in. -/
theorem words_of_wordBits {ws : List Nat} (hlen : ws.length = 52) (hw : ∀ w ∈ ws, w < 2 ^ 20) :
    ((List.range 52).map fun i => bitsNat (((wordBits ws).drop (20 * i)).take 20)) = ws := by
  refine List.ext_getElem (by simp [hlen]) fun i hi hi' => ?_
  rw [List.getElem_map, List.getElem_range, wordBits_slice hi', bitsNat_msbBits, List.getD_eq_getElem _ _ hi',
    Nat.mod_eq_of_lt (hw _ (List.getElem_mem hi'))]

/-! ## Bits on lanes (R26) -/

/-- Every `n`-th bit from place `r` on: what one lane carries of the bits whose numbers begin at `o`. -/
theorem getD_everyNth {n : Nat} (j : Nat) (bits : List Bool) (o r q : Nat) (hr : r < n) (hj : (o + r) % n = j) :
    (((bits.zipIdx o).filter fun y => y.2 % n == j).map Prod.fst).getD q false = bits.getD (q * n + r) false := by
  induction bits generalizing o r q with
  | nil => simp
  | cons b bits ih =>
    rw [List.zipIdx_cons]
    cases r with
    | zero =>
      have ho : (o % n == j) = true := by simpa using hj
      rw [List.filter_cons_of_pos (by exact ho), List.map_cons]
      cases q with
      | zero => simp
      | succ q =>
        have hnext : (o + 1 + (n - 1)) % n = j := by
          rw [show o + 1 + (n - 1) = o + n by omega, Nat.add_mod_right]; exact hj
        rw [List.getD_cons_succ, ih (o + 1) (n - 1) q (by omega) hnext,
          show (q + 1) * n + 0 = (q * n + (n - 1)) + 1 by rw [Nat.succ_mul]; omega, List.getD_cons_succ]
    | succ r =>
      have ho : ¬(o % n == j) = true := by
        intro h
        have hmod : (o + (r + 1)) % n = (o + 0) % n := by rw [hj, Nat.add_zero]; exact (beq_iff_eq.1 h).symm
        have hzero : (r + 1) % n = 0 % n := Nat.ModEq.add_left_cancel' o hmod
        rw [Nat.mod_eq_of_lt hr, Nat.zero_mod] at hzero
        omega
      rw [List.filter_cons_of_neg (by exact ho), ih (o + 1) r q (by omega) (by rw [← hj]; congr 1; omega),
        show q * n + (r + 1) = (q * n + r) + 1 by omega, List.getD_cons_succ]

/-- The entry of lane `j` among the lanes, when no lane occurs twice. -/
theorem find?_lane {β : Type} (g : Nat → β) (lanes : List Nat) (hnodup : lanes.Nodup) (o j : Nat) (hj : j < lanes.length) :
    (((lanes.zipIdx o).map fun x => (x.1, g x.2)).find? fun x => x.1 == lanes.getD j 22)
      = some (lanes.getD j 22, g (o + j)) := by
  induction lanes generalizing o j with
  | nil => simp at hj
  | cons l lanes ih =>
    obtain ⟨hl, hrest⟩ := List.nodup_cons.1 hnodup
    cases j with
    | zero => simp [List.zipIdx_cons]
    | succ j =>
      have hj' : j < lanes.length := by simpa using hj
      have hne : l ≠ lanes.getD j 22 := by
        rintro rfl
        rw [List.getD_eq_getElem _ _ hj'] at hl
        exact hl (List.getElem_mem hj')
      rw [List.zipIdx_cons, List.map_cons, List.getD_cons_succ, List.find?_cons_of_neg (by simpa using hne),
        ih hrest (o + 1) j hj', Nat.add_right_comm, Nat.add_assoc]

/-- A frame comes together from its lanes as it was dealt out. -/
theorem fromLanes_laneBits {lanes : List Nat} {bits : List Bool} (hnodup : lanes.Nodup) (hne : lanes ≠ [])
    (hlen : bits.length = 1050) : fromLanes lanes (laneBits lanes bits) = bits := by
  have hpos : 0 < lanes.length := List.length_pos_iff.2 hne
  refine List.ext_getElem (by simp [fromLanes, hlen]) fun i hi hi' => ?_
  simp only [fromLanes, laneBits, List.getElem_map, List.getElem_range]
  rw [find?_lane (fun j => (bits.zipIdx.filter fun (y : Bool × Nat) => y.2 % lanes.length == j).map Prod.fst) lanes
    hnodup 0 (i % lanes.length) (Nat.mod_lt _ hpos)]
  simp only [Nat.zero_add]
  rw [getD_everyNth (i % lanes.length) bits 0 (i % lanes.length) (i / lanes.length) (Nat.mod_lt _ hpos) (by simp),
    Nat.mul_comm, Nat.div_add_mod, List.getD_eq_getElem]

/-! ## The lanes in use (R25, R31) -/

theorem healthyLanes_congr {a b : Nat} (h : a % 2 ^ 22 = b % 2 ^ 22) : healthyLanes a = healthyLanes b := by
  refine List.filter_congr fun l hl => ?_
  have hl : l < 22 := List.mem_range.1 hl
  have ha := Nat.testBit_mod_two_pow a 22 l
  have hb := Nat.testBit_mod_two_pow b 22 l
  simp only [hl, decide_true, Bool.true_and] at ha hb
  rw [← ha, ← hb, h]

theorem sampleLanes_congr {a b : Nat} (h : a % 2 ^ 22 = b % 2 ^ 22) : sampleLanes a = sampleLanes b := by
  rw [sampleLanes, sampleLanes, healthyLanes_congr h]

theorem sampleLanes_nodup (failed : Nat) : (sampleLanes failed).Nodup :=
  (List.take_sublist _ _).nodup (List.nodup_range.filter _)

theorem length_healthyLanes (failed : Nat) : (healthyLanes failed).length + popCount 22 failed = 22 := by
  have h := List.length_eq_countP_add_countP (fun i => failed.testBit i) (l := List.range 22)
  rw [healthyLanes, popCount, ← List.countP_eq_length_filter]
  simp only [List.length_range, Bool.not_eq_true] at h
  have hnot : (List.range 22).countP (fun l => !failed.testBit l)
      = (List.range 22).countP (fun a => decide (failed.testBit a = false)) :=
    List.countP_congr fun l _ => by simp
  omega

/-- With 7 or more healthy lanes the frame has lanes to travel on. -/
theorem sampleLanes_ne_nil {failed : Nat} (h : popCount 22 failed < 16) : sampleLanes failed ≠ [] := by
  have hlen := length_healthyLanes failed
  rw [← List.length_pos_iff, sampleLanes, List.length_take]
  split
  · omega
  · split
    · omega
    · rw [if_pos (by omega)]; omega

/-! ## What is received (R30 to R32, R66) -/

/-- All 52 words STL with BRX's cause `c`. -/
def staleWords (f : PipeEnt) (c : Nat) : List Nat := (upTo 52).map fun n => stlWord (n == f.chk) c

/-- The bits of a frame with those inverted that `err` names. -/
def sentBits (err : Nat) (ws : List Nat) : List Bool :=
  (frameBits ws).zipIdx.map fun (x : Bool × Nat) => x.1 ^^ err.testBit x.2

theorem length_sentBits (err : Nat) {ws : List Nat} (h : ws.length = 52) : (sentBits err ws).length = 1050 := by
  simp [sentBits, length_frameBits ws h]

theorem getElem_sentBits (err : Nat) (ws : List Nat) (i : Nat) (h : i < (sentBits err ws).length) :
    (sentBits err ws)[i] = ((frameBits ws)[i]'(by simpa [sentBits] using h) ^^ err.testBit i) := by
  simp [sentBits]

theorem sentBits_zero (ws : List Nat) : sentBits 0 ws = frameBits ws :=
  List.ext_getElem (by simp [sentBits]) fun i hi hi' => by simp [getElem_sentBits]

/-- Without a healthy map no samples come. -/
theorem received_down {s : State} (err : Nat) (h : 16 ≤ popCount 22 s.bar.rxMap) :
    received err s = staleWords s.smp.frame 6 := by
  simp [received, h, staleWords]

theorem received_remapping {s : State} (err : Nat) (hlanes : popCount 22 s.bar.rxMap < 16)
    (hconv : s.smp.frame.conv = true) (hmap : remapping s = true) : received err s = staleWords s.smp.frame 3 := by
  simp [received, Nat.not_le.2 hlanes, hconv, hmap, staleWords]

/-- Both islands use one map of lanes. -/
theorem maps_of_not_remapping {s : State} (h : remapping s = false) : s.bar.rxMap % 2 ^ 22 = s.bar.txMap % 2 ^ 22 := by
  have hmaps := (Bool.or_eq_false_iff.1 h).1
  simpa using hmaps

/-- Under one map the bits that were sent arrive, and the frame check decides. -/
theorem received_checked {s : State} (err : Nat) (hlen : s.smp.frame.words.length = 52)
    (hlanes : popCount 22 s.bar.rxMap < 16) (hconv : s.smp.frame.conv = true) (hmap : remapping s = false) :
    received err s =
      if crc10 ((sentBits err s.smp.frame.words).take 1040) != bitsNat ((sentBits err s.smp.frame.words).drop 1040) then
        staleWords s.smp.frame 3
      else (List.range 52).map fun i => bitsNat ((((sentBits err s.smp.frame.words).take 1040).drop (20 * i)).take 20) := by
  have hback := fromLanes_laneBits (sampleLanes_nodup s.bar.txMap)
    (by rw [← sampleLanes_congr (maps_of_not_remapping hmap)]; exact sampleLanes_ne_nil hlanes)
    (length_sentBits err hlen)
  rw [sentBits] at hback
  simp only [received, Nat.not_le.2 hlanes, if_false, hconv, Bool.not_true, Bool.false_eq_true, hmap, Bool.false_or,
    sampleLanes_congr (maps_of_not_remapping hmap), hback, sentBits, staleWords] <;> rfl

/-- A frame that arrives whole has every word as it was sent. -/
theorem received_whole {s : State} (hlen : s.smp.frame.words.length = 52) (hw : ∀ w ∈ s.smp.frame.words, w < 2 ^ 20)
    (hlanes : popCount 22 s.bar.rxMap < 16) (hmap : remapping s = false) : received 0 s = s.smp.frame.words := by
  cases hconv : s.smp.frame.conv with
  | false => simp [received, Nat.not_le.2 hlanes, hconv]
  | true =>
    have hbody : (wordBits s.smp.frame.words).length = 1040 := by rw [length_wordBits, hlen]
    rw [received_checked 0 hlen hlanes hconv hmap, sentBits_zero, frameBits_eq, List.take_left' hbody,
      List.drop_left' hbody, bitsNat_msbBits, Nat.mod_eq_of_lt (crc10_lt _), if_neg (by simp)]
    exact words_of_wordBits hlen hw

/-- A bit of the frame check that is inverted makes the check fail. -/
theorem received_bad_check {s : State} {i : Nat} (hlen : s.smp.frame.words.length = 52) (hlo : 1040 ≤ i) (hhi : i < 1050)
    (hlanes : popCount 22 s.bar.rxMap < 16) (hconv : s.smp.frame.conv = true) :
    received (2 ^ i) s = staleWords s.smp.frame 3 := by
  cases hmap : remapping s with
  | true => exact received_remapping _ hlanes hconv hmap
  | false =>
    rw [received_checked _ hlen hlanes hconv hmap, if_pos]
    generalize hws : s.smp.frame.words = ws at hlen
    have hbody : (wordBits ws).length = 1040 := by rw [length_wordBits, hlen]
    have hframe := length_frameBits ws hlen
    have hsent := length_sentBits (2 ^ i) hlen
    have htake : (sentBits (2 ^ i) ws).take 1040 = wordBits ws := by
      refine List.ext_getElem (by simp [hsent, hbody]) fun j hj hj' => ?_
      have hij : i ≠ j := by omega
      simp only [List.getElem_take, getElem_sentBits, Nat.testBit_two_pow, hij, decide_false, Bool.xor_false, frameBits_eq]
      exact List.getElem_append_left hj'
    have hcheck : bitsNat ((frameBits ws).drop 1040) = crc10 (wordBits ws) := by
      rw [frameBits_eq, List.drop_left' hbody, bitsNat_msbBits, Nat.mod_eq_of_lt (crc10_lt _)]
    rw [htake, ← hcheck, bne_iff_ne]
    intro heq
    have hdrop := bitsNat_inj (by simp [hsent, hframe]) heq
    have hbit : ((frameBits ws).drop 1040)[i - 1040]'(by simp [hframe]; omega)
        = ((sentBits (2 ^ i) ws).drop 1040)[i - 1040]'(by simp [hsent]; omega) := by simp only [hdrop]
    have hi : 1040 + (i - 1040) = i := by omega
    simp [getElem_sentBits, hi] at hbit

end Sys2Proof.Machine


/-! # The sample frame's arrival at SOC, the fabric and the recording tap; capture memory (R447, R563 to R569) -/

namespace Sys2Proof.Machine

/-! ## Folds over states -/

/-- A fold of which one element alone does something is that element's step. -/
theorem foldl_eq_of_single {α β : Type} {f : β → α → β} {l : List α} {k : α} {s : β} (hk : k ∈ l) (hnodup : l.Nodup)
    (hbefore : ∀ j ∈ l, j ≠ k → f s j = s) (hafter : ∀ j ∈ l, j ≠ k → f (f s k) j = f s k) : l.foldl f s = f s k := by
  have hstay : ∀ (t : β) (m : List α), (∀ j ∈ m, f t j = t) → m.foldl f t = t := fun t m hm =>
    List.foldlRecOn (motive := fun u => u = t) m f rfl fun u hu j hj => by rw [hu, hm j hj]
  obtain ⟨l1, l2, rfl⟩ := List.append_of_mem hk
  have hdis := List.nodup_append.1 hnodup
  have h1 : k ∉ l1 := fun h => hdis.2.2 k h k (by simp) rfl
  have h2 : k ∉ l2 := (List.nodup_cons.1 hdis.2.1).1
  rw [List.foldl_append, List.foldl_cons, hstay s l1 fun j hj => hbefore j (by simp [hj]) fun h => h1 (h ▸ hj)]
  exact hstay _ l2 fun j hj => hafter j (by simp [hj]) fun h => h2 (h ▸ hj)

/-! ## What a delivery to subscribers changes (R281 to R286) -/

/-- The counters of discarded frames, one for each parcel (R287). -/
def dropCounters : List Nat := (List.range 8).map R.FAB_PDEC

/-- Between `s` and `t` frames set out for engines or were discarded: beside the counters of discarded frames only the
engines and the fabric changed. -/
def Feeds (s t : State) : Prop :=
  SameRegs dropCounters s t ∧ t = { s with regs := t.regs, arr := t.arr, fab := t.fab }

theorem Feeds.refl (s : State) : Feeds s s := ⟨.refl _ s, rfl⟩

theorem Feeds.trans {s t u : State} (h : Feeds s t) (h' : Feeds t u) : Feeds s u :=
  ⟨h.1.trans h'.1, h'.2.trans (by rw [h.2])⟩

/-- A state that differs in the engines and the fabric alone. -/
theorem Feeds.of_records {s t : State} (h : t = { s with arr := t.arr, fab := t.fab }) : Feeds s t := by
  have hregs : t.regs = s.regs := by rw [h]
  exact ⟨.of_regs hregs, by rw [hregs]; exact h⟩

theorem Feeds.inc_drops {q : Nat} (s : State) (h : q < 8) : Feeds s (s.inc (R.FAB_PDEC_DROPS q)) :=
  ⟨(s.inc_sameRegs _).mono fun _ ha => List.mem_map.2 ⟨q, List.mem_range.2 h, (List.mem_singleton.1 ha).symm⟩,
    s.inc_frame _⟩

theorem Feeds.regs {s t : State} (h : Feeds s t) : SameRegs dropCounters s t := h.1
theorem Feeds.rx {s t : State} (h : Feeds s t) : t.rx = s.rx := by rw [h.2]
theorem Feeds.smp {s t : State} (h : Feeds s t) : t.smp = s.smp := by rw [h.2]
theorem Feeds.soc {s t : State} (h : Feeds s t) : t.soc = s.soc := by rw [h.2]
theorem Feeds.cap {s t : State} (h : Feeds s t) : t.cap = s.cap := by rw [h.2]
theorem Feeds.dom {s t : State} (h : Feeds s t) : t.dom = s.dom := by rw [h.2]

theorem dropFrame_feeds (x i : Nat) (s : State) : Feeds s (dropFrame x i s) := by
  have hq : s.plotParcel (x / 32) < 8 := s.fg_lt (R.ENG_PLSTAT_PARCEL (x / 32))
  simp only [dropFrame]
  exact (Feeds.of_records rfl).trans ((Feeds.inc_drops _ hq).trans (.of_records rfl))

theorem sendFrame_feeds (src : List Nat) (pub q i : Nat) (aborted : Bool) (items : List Word) (s : State) :
    Feeds s (sendFrame src pub q i aborted items s) :=
  List.foldlRecOn (motive := Feeds s) _ _ (.refl s) fun t ht x _ => ht.trans <| by
    split
    · exact .of_records rfl
    · exact dropFrame_feeds _ _ t

theorem feed_feeds (kind : Nat) (src : List Nat) (pub : Nat) (aborted : Bool)
    (f : Nat → Nat → Nat → Option (List Word)) (s : State) : Feeds s (feed kind src pub aborted f s) := by
  refine List.foldlRecOn (motive := Feeds s) _ _ (.refl s) fun t ht q _ => ht.trans ?_
  split
  · exact .refl t
  · refine List.foldlRecOn (motive := Feeds t) _ _ (.refl t) fun u hu i _ => hu.trans ?_
    simp only
    split
    · split
      · exact sendFrame_feeds _ _ _ _ _ _ u
      · exact .refl u
    · exact .refl u

theorem feedSamples_feeds (tag : Nat) (ws : List Nat) (s : State) : Feeds s (feedSamples tag ws s) := by
  rw [feedSamples]; exact feed_feeds ..

/-! ## What a recording changes (R563, R564, R568) -/

/-- Between `s` and `t` a buffer recorded: registers, capture memory and fault events alone changed. -/
def Records (s t : State) : Prop :=
  t = { s with regs := t.regs, cap := t.cap, flt := t.flt, stackQ := t.stackQ }

theorem Records.refl (s : State) : Records s s := rfl

theorem Records.trans {s t u : State} (h : Records s t) (h' : Records t u) : Records s u := by
  rw [Records] at h h' ⊢
  rw [h', h]

theorem Records.rx {s t : State} (h : Records s t) : t.rx = s.rx := by rw [h]
theorem Records.smp {s t : State} (h : Records s t) : t.smp = s.smp := by rw [h]
theorem Records.soc {s t : State} (h : Records s t) : t.soc = s.soc := by rw [h]

theorem Records.fs (s : State) (f : Fld) (v : Nat) : Records s (s.fs f v) := rfl
theorem Records.inc (s : State) (f : Fld) : Records s (s.inc f) := rfl
theorem Records.setReg (s : State) (a : Nat) (v : Word) : Records s (s.setReg a v) := rfl
theorem Records.setBuf (s : State) (k : Nat) (b : CapBuf) : Records s (s.setBuf k b) := rfl
theorem Records.capPut (s : State) (k o : Nat) (b : List Byte) : Records s (capPut k o b s) := rfl
theorem Records.raise (s : State) (code isl param : Nat) : Records s (s.raise code isl param) := by
  rw [Records, State.raise_cap]; exact State.raise_frame ..

theorem capClose_records (k : Nat) (s : State) : Records s (capClose k s) := by
  simp only [capClose]
  split
  · exact (Records.capPut ..).trans (.setBuf ..)
  · exact .refl s

theorem capOpen_records (k e tag : Nat) (s : State) : Records s (capOpen k e tag s) :=
  (Records.capPut ..).trans ((Records.setReg ..).trans (.setBuf ..))

theorem capFreeze_records (stop k : Nat) (s : State) : Records s (capFreeze stop k s) :=
  (capClose_records k s).trans ((Records.fs ..).trans (.fs ..))

theorem capRecord_records (ent : PipeEnt) (bad : Bool) (k : Nat) (s : State) : Records s (capRecord ent bad k s) := by
  unfold capRecord
  extract_lets e st b dec chs
  split
  · exact .refl s
  · split
    · exact (capFreeze_records 5 k s).trans ((Records.inc ..).trans (.raise ..))
    · rename_i follows s1 c packed l s2 reached s3 _ _
      have h1 : Records s s1 := by
        unfold s1
        split
        · exact .refl s
        · exact (capClose_records k s).trans (capOpen_records ..)
      have h2 : Records s s2 := h1.trans (.capPut ..)
      have h3 : Records s s3 := by
        unfold s3
        split
        · exact h2.trans ((Records.setBuf ..).trans (.setReg ..))
        · exact h2.trans (.setBuf ..)
      split
      · exact h3.trans (capClose_records k s3)
      · exact h3

/-! ## The arrival of a sample frame (R26, R447, R563) -/

/-- The frame as it is received. -/
def arrivedFrame (err : Nat) (s : State) : PipeEnt := { s.smp.frame with words := received err s }

/-- The frame is the system half's, and SOC has taken the safety current channel's word. -/
def frameTaken (err : Nat) (s : State) : State :=
  { s with
    rx := arrivedFrame err s
    smp := { s.smp with frame := {} }
    soc := { s.soc with ivl := s.soc.ivl ++ [wordOf ((received err s).getD (48 + s.fg R.SAF_ENV0_AXM) 0)] } }

/-- The services have the frame too, and the trace shows it. -/
def frameServed (err : Nat) (s : State) : State :=
  let ent := arrivedFrame err s
  svcFrame ent.tag ent.words ((rollSums ent (frameTaken err s)).emit .stream (0 :: 0 :: ent.tag :: ent.words))

/-- The frame has reached SOC, the services and the subscribers, and not yet the recording tap. -/
def delivered (err : Nat) (s : State) : State :=
  feedSamples (arrivedFrame err s).tag (arrivedFrame err s).words (frameServed err s)

theorem sampleFrame_eq {s : State} (err memErr : Nat) (h : s.smp.frame.words.length = 52) :
    sampleFrame err memErr s =
      (List.range 16).foldl (fun t k => capRecord (arrivedFrame err s) (memErr.testBit k) k t) (delivered err s) := by
  rw [sampleFrame, if_neg (by simpa using h)]
  rfl

theorem frameServed_frame (err : Nat) (s : State) :
    ∃ o n v, frameServed err s = { frameTaken err s with out := o, net := n, svc := v } := ⟨_, _, _, rfl⟩

theorem frameServed_spec (err : Nat) (s : State) :
    (frameServed err s).rx = (frameTaken err s).rx ∧ (frameServed err s).smp = (frameTaken err s).smp ∧
      (frameServed err s).soc = (frameTaken err s).soc ∧ (frameServed err s).cap = s.cap ∧
      (frameServed err s).dom = s.dom ∧ (frameServed err s).regs = s.regs := by
  obtain ⟨o, n, v, h⟩ := frameServed_frame err s
  rw [h]
  exact ⟨rfl, rfl, rfl, rfl, rfl, rfl⟩

theorem delivered_feeds (err : Nat) (s : State) : Feeds (frameServed err s) (delivered err s) := by
  rw [delivered]; exact feedSamples_feeds ..

theorem delivered_regs (err : Nat) (s : State) : SameRegs dropCounters s (delivered err s) :=
  SameRegs.trans (.of_regs (frameServed_spec err s).2.2.2.2.2) (delivered_feeds err s).regs

theorem delivered_cap (err : Nat) (s : State) : (delivered err s).cap = s.cap :=
  (delivered_feeds err s).cap.trans (frameServed_spec err s).2.2.2.1

theorem delivered_dom (err : Nat) (s : State) : (delivered err s).dom = s.dom :=
  (delivered_feeds err s).dom.trans (frameServed_spec err s).2.2.2.2.1

/-- A frame that arrives becomes the system half's, and SOC takes the safety current channel's word. -/
theorem sampleFrame_arrives {s : State} (err memErr : Nat) (h : s.smp.frame.words.length = 52) :
    (sampleFrame err memErr s).rx = arrivedFrame err s ∧
      (sampleFrame err memErr s).smp = { s.smp with frame := {} } ∧
      (sampleFrame err memErr s).soc = { s.soc with
        ivl := s.soc.ivl ++ [wordOf ((received err s).getD (48 + s.fg R.SAF_ENV0_AXM) 0)] } := by
  obtain ⟨hrx, hsmp, hsoc, -⟩ := frameServed_spec err s
  have hfeed := delivered_feeds err s
  have hrec : Records (delivered err s) (sampleFrame err memErr s) := by
    rw [sampleFrame_eq err memErr h]
    exact List.foldlRecOn (motive := Records (delivered err s)) _ _ (.refl _) fun t ht k _ =>
      ht.trans (capRecord_records _ _ k t)
  exact ⟨hrec.rx.trans (hfeed.rx.trans hrx), hrec.smp.trans (hfeed.smp.trans hsmp),
    hrec.soc.trans (hfeed.soc.trans hsoc)⟩

/-! ## Bytes of a memory -/

theorem get_memWrite (b : List Byte) (m : List (Nat × Byte)) (a j : Nat) :
    Smap.get zeroByte (memWrite m a b) j = if a ≤ j ∧ j < a + b.length then b.getD (j - a) 0 else Smap.get zeroByte m j := by
  induction b generalizing m a with
  | nil => simp [memWrite]
  | cons x b ih =>
    rw [memWrite, ih, Smap.get_set, List.length_cons]
    obtain hlt | rfl | hgt := Nat.lt_trichotomy j a
    · rw [if_neg (by omega), if_neg (by omega), if_neg (by omega)]
    · rw [if_neg (by omega), if_pos rfl, if_pos (by omega), Nat.sub_self, List.getD_cons_zero]
    · have hj : j - a = (j - (a + 1)) + 1 := by omega
      have hne : j ≠ a := by omega
      by_cases hin : j < a + 1 + b.length
      · rw [if_pos (by omega), if_pos (by omega), hj, List.getD_cons_succ]
      · rw [if_neg (by omega), if_neg hne, if_neg (by omega)]

/-- Reading back what was written. -/
theorem memBytes_memWrite (m : List (Nat × Byte)) (a : Nat) (b : List Byte) :
    memBytes (memWrite m a b) a b.length = b := by
  refine List.ext_getElem (by simp [memBytes]) fun i hi hi' => ?_
  simp [memBytes, get_memWrite, hi']

theorem length_leBytes (k n : Nat) : (leBytes k n).length = k := by
  induction k generalizing n with
  | zero => rfl
  | succ k ih => simp [leBytes, ih]

/-! ## The recording tap (R563, R564) -/

@[simp] theorem State.buf_setBuf_same (s : State) (k : Nat) (b : CapBuf) : (s.setBuf k b).buf k = b := by
  simp [State.buf, State.setBuf]

theorem State.buf_setBuf_ne (s : State) {k j : Nat} (b : CapBuf) (h : j ≠ k) : (s.setBuf k b).buf j = s.buf j := by
  simp [State.buf, State.setBuf, Smap.get_set_ne _ _ _ h]

theorem State.buf_congr {s t : State} (h : t.cap = s.cap) (k : Nat) : t.buf k = s.buf k := by
  rw [State.buf, State.buf, h]

/-- A buffer that does not record takes nothing. -/
theorem capRecord_idle {ent : PipeEnt} {bad : Bool} {k : Nat} {s : State} (h2 : s.fg (R.CAP_B_W6_STATE k) ≠ 2)
    (h3 : s.fg (R.CAP_B_W6_STATE k) ≠ 3) : capRecord ent bad k s = s := by
  simp [capRecord, h2, h3]

/-- The words of the channels of a buffer, in one number. -/
def packedWords (ws chs : List Nat) : Nat := chs.foldr (fun n a => ws.getD (n - 1) 0 % 2 ^ 20 + 2 ^ 20 * a) 0

/-- A record that follows the last one in an open block, and does not fill it. -/
theorem capRecord_follows {ent : PipeEnt} {k : Nat} {c : CapBuf} {s : State} (hbuf : s.buf k = c)
    (hst : s.fg (R.CAP_B_W6_STATE k) = 2) (hserves : capServes s = true)
    (hdec : (ent.epoch + 1) % s.fg (R.CAP_B_W0_DEC k) = 0) (hopen : c.isOpen = true) (hhit : c.hit = false)
    (htag : ent.tag / 2 ^ 59 = c.tag / 2 ^ 59) (hepoch : ent.epoch = c.e0 + c.n * s.fg (R.CAP_B_W0_DEC k))
    (hroom : c.n + 1 < recPerBlock (s.bufChannels k).length) :
    capRecord ent false k s =
      (capPut k (4096 * c.blk + 16 + recLen (s.bufChannels k).length * c.n)
        (leBytes (recLen (s.bufChannels k).length) (packedWords ent.words (s.bufChannels k))) s).setBuf k
          { c with n := c.n + 1 } := by
  have hlt : c.n < recPerBlock (s.bufChannels k).length := by omega
  rw [hepoch] at hdec
  simp only [Nat.reducePow] at htag
  simp [capRecord, hbuf, hst, hserves, hdec, hopen, hhit, htag, hepoch, hlt, hroom.ne, packedWords]

theorem not_dropCounter {a : Nat} (h : 0x0B0000 ≤ a) : a ∉ dropCounters := by
  simp only [dropCounters, List.mem_map, List.mem_range, R.FAB_PDEC, not_exists, not_and]
  omega

end Sys2Proof.Machine

/-! # Capture memory: the record of an epoch, configuration, triggers and reading (R563 to R569) -/

namespace Sys2Proof.Machine

/-! ## The record of an epoch -/

theorem delivered_reg (err : Nat) (s : State) {a : Nat} (h : 0x0B0000 ≤ a) : (delivered err s).reg a = s.reg a :=
  delivered_regs err s a (not_dropCounter h)

theorem delivered_fg (err : Nat) (s : State) {f : Fld} (h : 0x0B0000 ≤ f.adr) : (delivered err s).fg f = s.fg f :=
  State.fg_congr f (delivered_reg err s h)

theorem delivered_state (err : Nat) (s : State) (k : Nat) :
    (delivered err s).fg (R.CAP_B_W6_STATE k) = s.fg (R.CAP_B_W6_STATE k) :=
  delivered_fg err s (by simp only [R.CAP_B_W6_STATE]; omega)

theorem delivered_dec (err : Nat) (s : State) (k : Nat) :
    (delivered err s).fg (R.CAP_B_W0_DEC k) = s.fg (R.CAP_B_W0_DEC k) :=
  delivered_fg err s (by simp only [R.CAP_B_W0_DEC]; omega)

theorem delivered_bufChannels (err : Nat) (s : State) (k : Nat) : (delivered err s).bufChannels k = s.bufChannels k := by
  rw [State.bufChannels, State.bufChannels, delivered_reg err s (by simp only [R.CAP_B_W1]; omega),
    delivered_reg err s (by simp only [R.CAP_B_W2]; omega)]

theorem delivered_capBase (err : Nat) (s : State) (k : Nat) : capBase (delivered err s) k = capBase s k := by
  rw [capBase, capBase, delivered_fg err s (by simp only [R.CAD_PCAP_CAPBASE]; omega),
    delivered_fg err s (by simp only [R.CAP_B_W3_BASE]; omega)]

theorem delivered_capServes (err : Nat) (s : State) : capServes (delivered err s) = capServes s := by
  simp only [capServes, State.domOn, State.domStep, State.fb, delivered_dom,
    delivered_fg err s (f := R.CAP_STAT_SELFREF) (by decide)]

@[simp] theorem State.setBuf_reg (s : State) (k : Nat) (b : CapBuf) (a : Nat) : (s.setBuf k b).reg a = s.reg a := rfl
@[simp] theorem State.setBuf_fg (s : State) (k : Nat) (b : CapBuf) (f : Fld) : (s.setBuf k b).fg f = s.fg f := rfl
@[simp] theorem capPut_reg (k o : Nat) (b : List Byte) (s : State) (a : Nat) : (capPut k o b s).reg a = s.reg a := rfl
@[simp] theorem capPut_fg (k o : Nat) (b : List Byte) (s : State) (f : Fld) : (capPut k o b s).fg f = s.fg f := rfl

/-- When one buffer alone records, the frame's record in it is all that the tap does. -/
theorem sampleFrame_tap {s : State} {e m k : Nat} (hlen : s.smp.frame.words.length = 52) (hk : k < 16)
    (hbit : m.testBit k = false)
    (hidle : ∀ j ∈ List.range 16, j = k ∨ s.fg (R.CAP_B_W6_STATE j) ≠ 2 ∧ s.fg (R.CAP_B_W6_STATE j) ≠ 3)
    (hstay : ∀ j, (capRecord (arrivedFrame e s) false k (delivered e s)).fg (R.CAP_B_W6_STATE j)
      = (delivered e s).fg (R.CAP_B_W6_STATE j)) :
    sampleFrame e m s = capRecord (arrivedFrame e s) false k (delivered e s) := by
  have hother : ∀ j ∈ List.range 16, j ≠ k →
      (delivered e s).fg (R.CAP_B_W6_STATE j) ≠ 2 ∧ (delivered e s).fg (R.CAP_B_W6_STATE j) ≠ 3 := by
    intro j hj hne
    rw [delivered_state]
    exact (hidle j hj).resolve_left hne
  rw [sampleFrame_eq e m hlen, foldl_eq_of_single (List.mem_range.2 hk) List.nodup_range, hbit]
  · exact fun j hj hne => capRecord_idle (hother j hj hne).1 (hother j hj hne).2
  · intro j hj hne
    rw [hbit]
    exact capRecord_idle (by rw [hstay]; exact (hother j hj hne).1) (by rw [hstay]; exact (hother j hj hne).2)

/-- The bytes at the place of that record. -/
theorem memBytes_capPut_setBuf (k o : Nat) (b : List Byte) (c : CapBuf) (s : State) :
    memBytes ((capPut k o b s).setBuf k c).cap.dram (capBase s k + o) b.length = b := memBytes_memWrite _ _ b

/-- A recording buffer whose spacing the epoch meets gets one record more, packed at its place. -/
theorem sampleFrame_record {s : State} {e m k : Nat} {c : CapBuf} (hlen : s.smp.frame.words.length = 52) (hk : k < 16)
    (hbuf : s.buf k = c) (hst : s.fg (R.CAP_B_W6_STATE k) = 2) (hbit : m.testBit k = false)
    (hserves : capServes s = true)
    (hidle : ∀ j ∈ List.range 16, j = k ∨ s.fg (R.CAP_B_W6_STATE j) ≠ 2 ∧ s.fg (R.CAP_B_W6_STATE j) ≠ 3)
    (hdec : (s.smp.frame.epoch + 1) % s.fg (R.CAP_B_W0_DEC k) = 0) (hopen : c.isOpen = true) (hhit : c.hit = false)
    (htag : s.smp.frame.tag / 2 ^ 59 = c.tag / 2 ^ 59)
    (hepoch : s.smp.frame.epoch = c.e0 + c.n * s.fg (R.CAP_B_W0_DEC k))
    (hroom : c.n + 1 < recPerBlock (s.bufChannels k).length) :
    ((sampleFrame e m s).buf k).n = c.n + 1 ∧ SameRegs dropCounters s (sampleFrame e m s) ∧
      memBytes (sampleFrame e m s).cap.dram
          (capBase s k + (4096 * c.blk + 16 + recLen (s.bufChannels k).length * c.n)) (recLen (s.bufChannels k).length) =
        leBytes (recLen (s.bufChannels k).length) (packedWords (received e s) (s.bufChannels k)) := by
  have hrecord := capRecord_follows (ent := arrivedFrame e s) (k := k) (c := c) (s := delivered e s)
    (by rw [State.buf_congr (delivered_cap e s), hbuf]) (by rw [delivered_state, hst])
    (by rw [delivered_capServes, hserves]) (by rw [delivered_dec]; exact hdec) hopen hhit htag
    (by rw [delivered_dec]; exact hepoch) (by rw [delivered_bufChannels]; exact hroom)
  rw [delivered_bufChannels] at hrecord
  rw [sampleFrame_tap hlen hk hbit hidle fun j => by rw [hrecord]; simp, hrecord]
  refine ⟨by rw [State.buf_setBuf_same], fun a ha => ?_, ?_⟩
  · rw [State.setBuf_reg, capPut_reg]
    exact delivered_regs e s a ha
  · have hbytes := memBytes_capPut_setBuf k (4096 * c.blk + 16 + recLen (s.bufChannels k).length * c.n)
      (leBytes (recLen (s.bufChannels k).length) (packedWords (received e s) (s.bufChannels k)))
      { c with n := c.n + 1 } (delivered e s)
    rw [length_leBytes, delivered_capBase] at hbytes
    exact hbytes

/-! ## Replies leave capture memory -/

theorem reply_spec (q : Packet) (t : Stat) (body : List Byte) (s : State) (h : q.noReply = false) :
    (reply q t body 0 s).lastReply = some [t.code, t.reason] ∧ (reply q t body 0 s).lastBody = some body ∧
      (reply q t body 0 s).cap = s.cap ∧ SameRegs (replyCounters q.via) s (reply q t body 0 s) := by
  obtain ⟨hreply, hbody, -, hregs⟩ := replyAs_spec t.disp q t body 0 s h
  obtain ⟨rest, hsends⟩ := replyAs_sends t.disp q t body 0 s h
  exact ⟨hreply, hbody, by rw [reply, hsends.frame]; rfl, hregs⟩

/-! ## Configuration (R565, R566) -/

/-- The six words of buffer `i` of a CAPTURE_CFG. -/
def cfgWords (p : Packet) (i : Nat) : List Nat := (List.range 6).map fun j => u32 p.payload (24 * i + 4 * j)

/-- Words that are accepted for buffer `k` wait for the effect epoch `e`. -/
def capAccept (e k : Nat) (w : List Nat) (t : State) : State :=
  let st := t.fg (R.CAP_B_W6_STATE k)
  let t1 := if (w.getD 0 0).testBit 31 && (st == 0 || st == 4) then t.fs (R.CAP_B_W6_STATE k) 1 else t
  let b := t1.buf k
  t1.setBuf k { b with pend := b.pend ++ [(e, w.map w32)] }

theorem capAccept_pend (e k : Nat) (w : List Nat) (t : State) :
    ((capAccept e k w t).buf k).pend = (t.buf k).pend ++ [(e, w.map w32)] := by
  simp only [capAccept, State.buf_setBuf_same]
  split <;> rfl

theorem capAccept_buf_ne (e : Nat) {j k : Nat} (w : List Nat) (t : State) (h : j ≠ k) :
    (capAccept e k w t).buf j = t.buf j := by
  simp only [capAccept, State.buf_setBuf_ne _ _ h]
  split <;> rfl

theorem capAccept_state (e k : Nat) (w : List Nat) (t : State) :
    (capAccept e k w t).fg (R.CAP_B_W6_STATE k) =
      if (w.getD 0 0).testBit 31 = true ∧ (t.fg (R.CAP_B_W6_STATE k) = 0 ∨ t.fg (R.CAP_B_W6_STATE k) = 4) then 1
      else t.fg (R.CAP_B_W6_STATE k) := by
  simp only [capAccept, State.setBuf_fg, Bool.and_eq_true, Bool.or_eq_true, beq_iff_eq]
  split
  · exact State.fg_fs_same _ _ _ (by simp [R.CAP_B_W6_STATE])
  · rfl

theorem capAccept_sameRegs (e k : Nat) (w : List Nat) (t : State) : SameRegs [R.CAP_B_W6 k] t (capAccept e k w t) := by
  intro a ha
  simp only [capAccept, State.setBuf_reg]
  split
  · exact State.reg_fs_ne t (R.CAP_B_W6_STATE k) 1 (List.ne_of_not_mem_cons ha)
  · rfl

/-- Both buffers of parcel `q` wait for the effect epoch. -/
def capAcceptBoth (e q : Nat) (a b : List Nat) (s : State) : State :=
  capAccept e (2 * q + 1) b (capAccept e (2 * q) a s)

theorem capAcceptBoth_spec (e q : Nat) (a b : List Nat) (s : State) :
    ((capAcceptBoth e q a b s).buf (2 * q)).pend = (s.buf (2 * q)).pend ++ [(e, a.map w32)] ∧
      (capAcceptBoth e q a b s).fg (R.CAP_B_W6_STATE (2 * q)) =
        (if (a.getD 0 0).testBit 31 = true ∧
            (s.fg (R.CAP_B_W6_STATE (2 * q)) = 0 ∨ s.fg (R.CAP_B_W6_STATE (2 * q)) = 4) then 1
          else s.fg (R.CAP_B_W6_STATE (2 * q))) ∧
      ((capAcceptBoth e q a b s).buf (2 * q + 1)).pend = (s.buf (2 * q + 1)).pend ++ [(e, b.map w32)] ∧
      (capAcceptBoth e q a b s).fg (R.CAP_B_W6_STATE (2 * q + 1)) =
        (if (b.getD 0 0).testBit 31 = true ∧
            (s.fg (R.CAP_B_W6_STATE (2 * q + 1)) = 0 ∨ s.fg (R.CAP_B_W6_STATE (2 * q + 1)) = 4) then 1
          else s.fg (R.CAP_B_W6_STATE (2 * q + 1))) := by
  have hne : 2 * q ≠ 2 * q + 1 := by omega
  have h0 : R.CAP_B_W6 (2 * q) ∉ [R.CAP_B_W6 (2 * q + 1)] := by simp [R.CAP_B_W6]
  have h1 : R.CAP_B_W6 (2 * q + 1) ∉ [R.CAP_B_W6 (2 * q)] := by simp [R.CAP_B_W6]
  have hstate0 := State.fg_congr (R.CAP_B_W6_STATE (2 * q))
    (capAccept_sameRegs e (2 * q + 1) b (capAccept e (2 * q) a s) _ h0)
  have hstate1 := State.fg_congr (R.CAP_B_W6_STATE (2 * q + 1)) (capAccept_sameRegs e (2 * q) a s _ h1)
  unfold capAcceptBoth
  refine ⟨?_, ?_, ?_, ?_⟩
  · rw [capAccept_buf_ne _ _ _ hne, capAccept_pend]
  · rw [hstate0, capAccept_state]
  · rw [capAccept_pend, capAccept_buf_ne _ _ _ hne.symm]
  · rw [capAccept_state, hstate1]

/-- The tap load with the buffers of a request enabled. -/
def addLoad (f : Nat × Nat) (w : List Nat) : Nat × Nat :=
  if (w.getD 0 0).testBit 31 then
    addFrac f (tapLoad (w.getD 0 0 % 65536) (capChannels (w.getD 1 0) (w.getD 2 0)).length)
  else f

/-- A request that meets every row of R566 is accepted for both buffers of its parcel. -/
theorem captureCfg_ok {q : Packet} {a b : List Nat} {s : State} (hfit : s.capFit = true) (hlen : q.payload.length = 48)
    (ha : a = cfgWords q 0) (hb : b = cfgWords q 1) (hbada : capWordsBad a = false) (hbadb : capWordsBad b = false)
    (hsize : s.fg (R.CAD_PCAP_CAPSZ q.parcel) ≠ 0)
    (hina : a.getD 3 0 + a.getD 4 0 ≤ s.fg (R.CAD_PCAP_CAPSZ q.parcel) * 256)
    (hinb : b.getD 3 0 + b.getD 4 0 ≤ s.fg (R.CAD_PCAP_CAPSZ q.parcel) * 256)
    (hapart : b.getD 3 0 + b.getD 4 0 ≤ a.getD 3 0 ∨ a.getD 3 0 + a.getD 4 0 ≤ b.getD 3 0)
    (hchans : (capChannels (a.getD 1 0) (a.getD 2 0) ++ capChannels (b.getD 1 0) (b.getD 2 0)).all (s.chanOk q.parcel)
      = true)
    (hload : (addLoad (addLoad (planLoad s q.parcel) a) b).1 ≤ 24000000000 * (addLoad (addLoad (planLoad s q.parcel) a) b).2)
    (hon : s.fb R.PWR_CTRL_CAPOFF = false) :
    captureCfg q s = reply q .ok (leBytes 4 (firstMultiple 1024 2000 s.now % 2 ^ 32)) 0
      (capAcceptBoth (firstMultiple 1024 2000 s.now) q.parcel a b s) := by
  unfold captureCfg
  extract_lets par ws a' b' g size outside meets chans add load
  have ha' : a' = a := ha.symm
  have hb' : b' = b := hb.symm
  clear_value a' b'
  subst a' b'
  have hroom : ¬(size = 0 ∨ outside a = true ∨ outside b = true ∨ meets = true) := by
    simp only [size, outside, meets, g, par, decide_eq_true_eq]
    omega
  have hperm : ¬(chans.any fun n => !s.chanOk par n) = true := by
    simpa [chans, g, par] using hchans
  have hcap : ¬24000000000 * load.2 < load.1 := Nat.not_lt.2 hload
  rw [if_neg (by simp [hfit]), if_neg (by simp [hlen]), if_neg (by simp [hbada, hbadb]), if_neg hroom, if_neg hperm,
    if_neg hcap, if_neg (by simp [hon])]
  rfl

/-! ## The effect of a configuration (R565) -/

theorem capClose_pend (k : Nat) (s : State) : ((capClose k s).buf k).pend = (s.buf k).pend := by
  simp only [capClose]
  split
  · rw [State.buf_setBuf_same]
  · rfl

theorem capClose_buf_ne {j k : Nat} (s : State) (h : j ≠ k) : (capClose k s).buf j = s.buf j := by
  simp only [capClose]
  split
  · rw [State.buf_setBuf_ne _ _ h]; rfl
  · rfl

@[simp] theorem capClose_reg (k : Nat) (s : State) (a : Nat) : (capClose k s).reg a = s.reg a := by
  simp only [capClose]
  split <;> rfl

@[simp] theorem capClose_fg (k : Nat) (s : State) (f : Fld) : (capClose k s).fg f = s.fg f :=
  State.fg_congr f (capClose_reg k s f.adr)

theorem capClose_closed (k : Nat) (s : State) : ((capClose k s).buf k).isOpen = false := by
  simp only [capClose]
  split
  · rw [State.buf_setBuf_same]
  next h => exact Bool.eq_false_iff.2 h

/-- The six configuration words are written. -/
def capWords (k : Nat) (w : List Word) (s : State) : State :=
  (List.range 6).foldl (fun t i => t.setReg (R.CAP_B_W0 k + 4 * i) (w.getD i 0)) s

theorem capWords_cap (k : Nat) (w : List Word) (s : State) : (capWords k w s).cap = s.cap :=
  List.foldlRecOn (motive := fun t : State => t.cap = s.cap) _ _ rfl fun _ ht _ _ => ht

theorem capWords_reg (k : Nat) (w : List Word) (s : State) {i : Nat} (h : i < 6) :
    (capWords k w s).reg (R.CAP_B_W0 k + 4 * i) = w.getD i 0 := by
  have hi : i = 0 ∨ i = 1 ∨ i = 2 ∨ i = 3 ∨ i = 4 ∨ i = 5 := by omega
  simp only [capWords, List.range_succ, List.range_zero, List.nil_append, List.cons_append, List.foldl_cons,
    List.foldl_nil, State.reg_setReg, Nat.add_left_cancel_iff]
  obtain rfl | rfl | rfl | rfl | rfl | rfl := hi <;> rfl

/-- The registers of buffer `k` that a configuration with EN resets: what the contents were. -/
def capStart (k : Nat) (s : State) : State :=
  ((((s.setReg (R.CAP_B_W6 k) 0).setReg (R.CAP_B_W7 k) 0).setReg (R.CAP_B_W8 k) 0).setReg (R.CAP_B_W9 k) 0).fs
    (R.CAP_B_W6_STATE k) 2

theorem capStart_cap (k : Nat) (s : State) : (capStart k s).cap = s.cap := by simp [capStart]

theorem capStart_reg (k : Nat) (s : State) :
    (capStart k s).reg (R.CAP_B_W6 k) = 0x40000000 ∧ (capStart k s).reg (R.CAP_B_W7 k) = 0 ∧
      (capStart k s).reg (R.CAP_B_W8 k) = 0 ∧ (capStart k s).reg (R.CAP_B_W9 k) = 0 ∧
      ∀ i < 6, (capStart k s).reg (R.CAP_B_W0 k + 4 * i) = s.reg (R.CAP_B_W0 k + 4 * i) := by
  simp only [capStart, State.fs, State.reg_setReg, R.CAP_B_W6_STATE, R.CAP_B_W0, R.CAP_B_W6, R.CAP_B_W7, R.CAP_B_W8,
    R.CAP_B_W9]
  refine ⟨?_, ?_, ?_, ?_, fun i hi => ?_⟩
  · simp; decide
  · simp
  · simp
  · simp
  · rw [if_neg (by omega), if_neg (by omega), if_neg (by omega), if_neg (by omega), if_neg (by omega)]

/-- A configuration with EN puts the buffer into recording with nothing written. -/
theorem capEffect_on {k : Nat} {w : List Word} {s : State} (hen : (w.getD 0 0).toNat.testBit 31 = true)
    (hpend : (s.buf k).pend = []) : capEffect k w s = (capStart k (capWords k w (capClose k s))).setBuf k {} := by
  have hkeep : ((capWords k w (capClose k s)).buf k).pend = [] := by
    rw [State.buf_congr (capWords_cap ..), capClose_pend, hpend]
  have hstart : capEffect k w s = (capStart k (capWords k w (capClose k s))).setBuf k
      { pend := ((capWords k w (capClose k s)).buf k).pend } := by
    rw [capEffect, if_pos (by exact hen)]
    rfl
  rw [hstart, hkeep]

/-- The configurations of buffer `k` whose effect epoch has come take effect. -/
def effectStep (e : Nat) (t : State) (k : Nat) : State :=
  ((t.buf k).pend.filter fun w => decide (w.1 ≤ e)).foldl (fun x w => capEffect k w.2 x)
    (t.setBuf k { t.buf k with pend := (t.buf k).pend.filter fun w => !decide (w.1 ≤ e) })

theorem captureConfigEffect_eq (s : State) :
    captureConfigEffect s = tapRefresh ((List.range 16).foldl (effectStep s.epoch) s) := rfl

/-- The buffers and the registers are as they were. -/
def SameBufs (s t : State) : Prop := (∀ i, t.buf i = s.buf i) ∧ ∀ a, t.reg a = s.reg a

theorem SameBufs.refl (s : State) : SameBufs s s := ⟨fun _ => rfl, fun _ => rfl⟩

theorem SameBufs.trans {s t u : State} (h : SameBufs s t) (h' : SameBufs t u) : SameBufs s u :=
  ⟨fun i => (h'.1 i).trans (h.1 i), fun a => (h'.2 a).trans (h.2 a)⟩

theorem effectStep_none {e k : Nat} {t : State} (h : (t.buf k).pend = []) : SameBufs t (effectStep e t k) := by
  have hstep : effectStep e t k = t.setBuf k (t.buf k) := by
    rw [effectStep]
    simp only [h, List.filter_nil, List.foldl_nil]
    rw [← h]
  rw [hstep]
  refine ⟨fun i => ?_, fun a => State.setBuf_reg ..⟩
  by_cases hi : i = k
  · rw [hi, State.buf_setBuf_same]
  · exact State.buf_setBuf_ne _ _ hi

theorem foldl_effectStep_none {e : Nat} {l : List Nat} {t : State} (h : ∀ j ∈ l, (t.buf j).pend = []) :
    SameBufs t (l.foldl (effectStep e) t) :=
  List.foldlRecOn (motive := SameBufs t) l _ (.refl t) fun u hu j hj =>
    hu.trans (effectStep_none (by rw [hu.1 j]; exact h j hj))

/-- The one configuration that waits for buffer `k` takes effect. -/
theorem effectStep_one {e e0 k : Nat} {w : List Word} {t : State} (h : (t.buf k).pend = [(e0, w)]) (he : e0 ≤ e) :
    effectStep e t k = capEffect k w (t.setBuf k { t.buf k with pend := [] }) := by
  simp [effectStep, h, he]

/-- What the effect of one configuration with EN leaves, of its own buffer and of the others. -/
theorem effectStep_on {e e0 k : Nat} {w : List Word} {t : State} (h : (t.buf k).pend = [(e0, w)]) (he : e0 ≤ e)
    (hen : (w.getD 0 0).toNat.testBit 31 = true) :
    (effectStep e t k).buf k = {} ∧ (∀ j, j ≠ k → (effectStep e t k).buf j = t.buf j) ∧
      (effectStep e t k).reg (R.CAP_B_W6 k) = 0x40000000 ∧
      (∀ i < 6, (effectStep e t k).reg (R.CAP_B_W0 k + 4 * i) = w.getD i 0) ∧
      (effectStep e t k).reg (R.CAP_B_W7 k) = 0 ∧ (effectStep e t k).reg (R.CAP_B_W8 k) = 0 ∧
      (effectStep e t k).reg (R.CAP_B_W9 k) = 0 := by
  rw [effectStep_one h he, capEffect_on hen (by simp)]
  obtain ⟨h6, h7, h8, h9, hwords⟩ :=
    capStart_reg k (capWords k w (capClose k (t.setBuf k { t.buf k with pend := [] })))
  simp only [State.setBuf_reg]
  refine ⟨State.buf_setBuf_same .., fun j hj => ?_, h6, fun i hi => ?_, h7, h8, h9⟩
  · rw [State.buf_setBuf_ne _ _ hj, State.buf_congr (capStart_cap ..), State.buf_congr (capWords_cap ..),
      capClose_buf_ne _ hj, State.buf_setBuf_ne _ _ hj]
  · rw [hwords i hi, capWords_reg _ _ _ hi]

theorem tapRefresh_reg (s : State) {a : Nat} (h : 0x1D0100 ≤ a) : (tapRefresh s).reg a = s.reg a :=
  State.reg_fs_ne s R.CAP_STAT_TAPLOAD _ (by simp only [R.CAP_STAT_TAPLOAD]; omega)

/-- The effect epoch of one configuration with EN, when no other waits (R565). -/
theorem captureConfigEffect_on {k e0 : Nat} {w : List Word} {s : State} (hk : k < 16) (h : (s.buf k).pend = [(e0, w)])
    (he : e0 ≤ s.epoch) (hother : ∀ j ∈ List.range 16, j = k ∨ (s.buf j).pend = [])
    (hen : (w.getD 0 0).toNat.testBit 31 = true) :
    (captureConfigEffect s).buf k = {} ∧ (captureConfigEffect s).reg (R.CAP_B_W6 k) = 0x40000000 ∧
      (∀ i ∈ List.range 6, (captureConfigEffect s).reg (R.CAP_B_W0 k + 4 * i) = w.getD i 0) ∧
      (captureConfigEffect s).reg (R.CAP_B_W7 k) = 0 ∧ (captureConfigEffect s).reg (R.CAP_B_W8 k) = 0 ∧
      (captureConfigEffect s).reg (R.CAP_B_W9 k) = 0 := by
  obtain ⟨l1, l2, hrange⟩ := List.append_of_mem (List.mem_range.2 hk)
  have hnodup : (l1 ++ k :: l2).Nodup := hrange ▸ List.nodup_range
  obtain ⟨-, hkl2, hdis⟩ := List.nodup_append.1 hnodup
  have hne1 : ∀ j ∈ l1, j ≠ k := fun j hj => hdis j hj k (by simp)
  have hne2 : ∀ j ∈ l2, j ≠ k := fun j hj hjk => (List.nodup_cons.1 hkl2).1 (hjk ▸ hj)
  have hnone : ∀ j ∈ l1 ++ k :: l2, j ≠ k → (s.buf j).pend = [] := fun j hj hjk =>
    (hother j (hrange ▸ hj)).resolve_left hjk
  have hbefore := foldl_effectStep_none (e := s.epoch) (t := s) fun j hj => hnone j (by simp [hj]) (hne1 j hj)
  obtain ⟨hbuf, hbufs, h6, hwords, h7, h8, h9⟩ :=
    effectStep_on (t := l1.foldl (effectStep s.epoch) s) (by rw [hbefore.1 k]; exact h) he hen
  have hafter := foldl_effectStep_none (e := s.epoch) (l := l2)
    (t := effectStep s.epoch (l1.foldl (effectStep s.epoch) s) k) fun j hj => by
      rw [hbufs j (hne2 j hj), hbefore.1 j]; exact hnone j (by simp [hj]) (hne2 j hj)
  rw [captureConfigEffect_eq, hrange, List.foldl_append, List.foldl_cons]
  refine ⟨(hafter.1 k).trans hbuf, ?_, fun i hi => ?_, ?_, ?_, ?_⟩
  · rw [tapRefresh_reg _ (by simp only [R.CAP_B_W6]; omega), hafter.2, h6]
  · rw [tapRefresh_reg _ (by simp only [R.CAP_B_W0]; omega), hafter.2, hwords i (List.mem_range.1 hi)]
  · rw [tapRefresh_reg _ (by simp only [R.CAP_B_W7]; omega), hafter.2, h7]
  · rw [tapRefresh_reg _ (by simp only [R.CAP_B_W8]; omega), hafter.2, h8]
  · rw [tapRefresh_reg _ (by simp only [R.CAP_B_W9]; omega), hafter.2, h9]

/-! ## Triggers (R567) -/

theorem capFire_sameRegs (bit e k : Nat) (s : State) :
    SameRegs [R.CAP_B_W6 k, R.CAP_B_W7 k] s (capFire bit e k s) := by
  intro a ha
  obtain ⟨h6, h7⟩ : a ≠ R.CAP_B_W6 k ∧ a ≠ R.CAP_B_W7 k := by simpa using ha
  simp only [capFire]
  split
  · rfl
  · split
    · rw [State.reg_setReg_ne _ _ h7, State.reg_fs_ne _ (R.CAP_B_W6_TSRC k) _ h6,
        State.reg_fs_ne _ (R.CAP_B_W6_STATE k) _ h6]
    · split
      · exact s.inc_sameRegs (R.CAP_B_W6_TLOST k) a fun hm => h6 (List.mem_singleton.1 hm)
      · rfl

theorem capFire_frame (bit e k : Nat) (s : State) : capFire bit e k s = { s with regs := (capFire bit e k s).regs } := by
  simp only [capFire]
  split
  · rfl
  · split
    · rfl
    · split <;> rfl

/-- A recording buffer with the trigger enabled is triggered. -/
theorem capFire_recording {bit e k : Nat} {s : State} (hfit : s.capFit = true)
    (htrig : (s.fg (R.CAP_B_W0_TRIG k)).testBit bit = true) (hst : s.fg (R.CAP_B_W6_STATE k) = 2) (hbit : bit < 4) :
    (capFire bit e k s).fg (R.CAP_B_W6_STATE k) = 3 ∧ (capFire bit e k s).fg (R.CAP_B_W6_TSRC k) = 2 ^ bit ∧
      (capFire bit e k s).reg (R.CAP_B_W7 k) = w32 e := by
  have hfire : capFire bit e k s =
      ((s.fs (R.CAP_B_W6_STATE k) 3).fs (R.CAP_B_W6_TSRC k) (2 ^ bit)).setReg (R.CAP_B_W7 k) (w32 e) := by
    simp [capFire, hfit, htrig, hst]
  have hw7 : R.CAP_B_W6 k ≠ R.CAP_B_W7 k := by simp only [R.CAP_B_W6, R.CAP_B_W7]; omega
  have hsame : ∀ f : Fld, f.adr = R.CAP_B_W6 k →
      (capFire bit e k s).fg f = ((s.fs (R.CAP_B_W6_STATE k) 3).fs (R.CAP_B_W6_TSRC k) (2 ^ bit)).fg f := fun f hf => by
    rw [hfire]; exact State.fg_congr f (State.reg_setReg_ne _ _ (hf ▸ hw7))
  refine ⟨?_, ?_, ?_⟩
  · rw [hsame _ rfl, State.fg_fs_disj _ (R.CAP_B_W6_TSRC k) (R.CAP_B_W6_STATE k) _ (by simp [R.CAP_B_W6_TSRC]) rfl
      (by simp [R.CAP_B_W6_TSRC, R.CAP_B_W6_STATE]), State.fg_fs_same _ _ _ (by simp [R.CAP_B_W6_STATE])]
    rfl
  · rw [hsame _ rfl, State.fg_fs_same _ _ _ (by simp [R.CAP_B_W6_TSRC])]
    exact Nat.mod_eq_of_lt (Nat.pow_lt_pow_right (by decide) hbit)
  · rw [hfire, State.reg_setReg_same]

/-- What CAPTURE_TRIG does to a buffer that it names. -/
def trigStep (t : State) (k : Nat) : State :=
  if t.fg (R.CAP_B_W6_STATE k) = 2 then capFire 0 t.epoch k t else t

/-- Registers alone changed, and of those of buffer `k` no configuration word, state or trigger epoch. -/
def KeepsBuf (k : Nat) (s t : State) : Prop :=
  t.reg (R.CAP_B_W0 k) = s.reg (R.CAP_B_W0 k) ∧ t.reg (R.CAP_B_W6 k) = s.reg (R.CAP_B_W6 k) ∧
    t.reg (R.CAP_B_W7 k) = s.reg (R.CAP_B_W7 k) ∧ t = { s with regs := t.regs }

theorem KeepsBuf.refl (k : Nat) (s : State) : KeepsBuf k s s := ⟨rfl, rfl, rfl, rfl⟩

theorem KeepsBuf.trans {k : Nat} {s t u : State} (h : KeepsBuf k s t) (h' : KeepsBuf k t u) : KeepsBuf k s u := by
  obtain ⟨h0, h6, h7, hframe⟩ := h
  obtain ⟨h0', h6', h7', hframe'⟩ := h'
  exact ⟨h0'.trans h0, h6'.trans h6, h7'.trans h7, hframe'.trans (by rw [hframe])⟩

theorem KeepsBuf.epoch {k : Nat} {s t : State} (h : KeepsBuf k s t) : t.epoch = s.epoch := by
  obtain ⟨-, -, -, hframe⟩ := h
  rw [hframe]; rfl

theorem KeepsBuf.capFit {k : Nat} {s t : State} (h : KeepsBuf k s t) : t.capFit = s.capFit := by
  obtain ⟨-, -, -, hframe⟩ := h
  rw [hframe]; rfl

/-- A trigger of one buffer keeps every other. -/
theorem trigStep_keepsBuf {j k : Nat} (h : j ≠ k) (s : State) : KeepsBuf k s (trigStep s j) := by
  unfold trigStep
  split
  · have hregs := capFire_sameRegs 0 s.epoch j s
    simp only [SameRegs, R.CAP_B_W6, R.CAP_B_W7] at hregs
    refine ⟨hregs _ ?_, hregs _ ?_, hregs _ ?_, capFire_frame ..⟩ <;>
      simp only [List.mem_cons, List.not_mem_nil, or_false, R.CAP_B_W0, R.CAP_B_W6, R.CAP_B_W7] <;> omega
  · exact .refl k s

theorem foldl_trigStep_keepsBuf {k : Nat} {l : List Nat} (h : ∀ j ∈ l, j ≠ k) (s : State) :
    KeepsBuf k s (l.foldl trigStep s) :=
  List.foldlRecOn (motive := KeepsBuf k s) l _ (.refl k s) fun t ht j hj => ht.trans (trigStep_keepsBuf (h j hj) t)

/-- Among the buffers named once each, a recording one with the trigger enabled is triggered at the present epoch. -/
theorem foldl_trigStep {k : Nat} {l : List Nat} {s : State} (hk : k ∈ l) (hnodup : l.Nodup) (hfit : s.capFit = true)
    (htrig : (s.fg (R.CAP_B_W0_TRIG k)).testBit 0 = true) (hst : s.fg (R.CAP_B_W6_STATE k) = 2) :
    (l.foldl trigStep s).fg (R.CAP_B_W6_STATE k) = 3 ∧ (l.foldl trigStep s).fg (R.CAP_B_W6_TSRC k) = 1 ∧
      (l.foldl trigStep s).reg (R.CAP_B_W7 k) = w32 s.epoch := by
  obtain ⟨l1, l2, rfl⟩ := List.append_of_mem hk
  obtain ⟨-, hkl2, hdis⟩ := List.nodup_append.1 hnodup
  have hbefore := foldl_trigStep_keepsBuf (k := k) (l := l1) (fun j hj => hdis j hj k (by simp)) s
  have hst1 : (l1.foldl trigStep s).fg (R.CAP_B_W6_STATE k) = 2 := (State.fg_congr _ hbefore.2.1).trans hst
  have htrig1 : ((l1.foldl trigStep s).fg (R.CAP_B_W0_TRIG k)).testBit 0 = true := by
    rw [State.fg_congr (R.CAP_B_W0_TRIG k) hbefore.1]; exact htrig
  obtain ⟨h3, hsrc, h7⟩ := capFire_recording (e := (l1.foldl trigStep s).epoch) (by rw [hbefore.capFit]; exact hfit)
    htrig1 hst1 (by decide)
  have hafter := foldl_trigStep_keepsBuf (k := k) (l := l2)
    (fun j hj hjk => (List.nodup_cons.1 hkl2).1 (hjk ▸ hj)) (trigStep (l1.foldl trigStep s) k)
  have hstep : trigStep (l1.foldl trigStep s) k = capFire 0 (l1.foldl trigStep s).epoch k (l1.foldl trigStep s) := if_pos hst1
  rw [hstep] at hafter
  obtain ⟨-, h6, hw7, -⟩ := hafter
  rw [List.foldl_append, List.foldl_cons, hstep]
  exact ⟨(State.fg_congr _ h6).trans h3, (State.fg_congr _ h6).trans hsrc, hw7.trans (by rw [h7, hbefore.epoch])⟩

/-- A CAPTURE_TRIG that meets its rows triggers the buffers that it names. -/
theorem captureTrig_ok {q : Packet} {k : Nat} {s : State} (hk : k < 16) (hfit : s.capFit = true)
    (hlen : q.payload.length = 8) (hmask : u64 q.payload 0 < 2 ^ 16) (hbit : (u64 q.payload 0).testBit k = true)
    (hpar : q.parcel = 0 ∨ ∀ j ∈ List.range 16, (u64 q.payload 0).testBit j = true → j / 2 = q.parcel)
    (hst : s.fg (R.CAP_B_W6_STATE k) = 2) :
    captureTrig q s = reply q .ok (leBytes 4 (s.epoch % 2 ^ 32)) 0
      (((List.range 16).filter fun k => (u64 q.payload 0).testBit k).foldl trigStep s) := by
  have hnamed : k ∈ (List.range 16).filter fun k => (u64 q.payload 0).testBit k :=
    List.mem_filter.2 ⟨List.mem_range.2 hk, hbit⟩
  unfold captureTrig
  extract_lets m named
  have hperm : ¬(q.parcel ≠ 0 ∧ named.any (fun k => k / 2 != q.parcel) = true) := by
    rintro ⟨hne, hany⟩
    obtain ⟨j, hj, hbad⟩ := List.any_eq_true.1 hany
    obtain ⟨hrange, hj⟩ := List.mem_filter.1 hj
    exact (bne_iff_ne.1 hbad) (hpar.resolve_left hne j hrange hj)
  have hsome : named.any (fun k => s.fg (R.CAP_B_W6_STATE k) == 2) = true :=
    List.any_eq_true.2 ⟨k, hnamed, by simp [hst]⟩
  rw [if_neg (by simp [hfit]), if_neg (by simp [hlen]), if_neg (by omega), if_neg hperm, if_neg (by simp [hsome])]
  rfl

/-! ## The end of POST (R567, R568) -/

theorem capFreeze_sameRegs (stop k : Nat) (s : State) : SameRegs [R.CAP_B_W6 k] s (capFreeze stop k s) := by
  intro a ha
  have h6 : a ≠ R.CAP_B_W6 k := List.ne_of_not_mem_cons ha
  rw [capFreeze, State.reg_fs_ne _ (R.CAP_B_W6_STOP k) _ h6, State.reg_fs_ne _ (R.CAP_B_W6_STATE k) _ h6, capClose_reg]

theorem capFreeze_closed (stop k : Nat) (s : State) : ((capFreeze stop k s).buf k).isOpen = false := by
  rw [State.buf_congr (t := capFreeze stop k s) (s := capClose k s) (by simp [capFreeze]), capClose_closed]

/-- What a frozen buffer shows: FROZEN, its STOP code, and the source of its trigger as before. -/
theorem capFreeze_fields (stop k : Nat) (s : State) (h : stop < 8) :
    (capFreeze stop k s).fg (R.CAP_B_W6_STATE k) = 4 ∧ (capFreeze stop k s).fg (R.CAP_B_W6_STOP k) = stop ∧
      (capFreeze stop k s).fg (R.CAP_B_W6_TSRC k) = s.fg (R.CAP_B_W6_TSRC k) := by
  have hstop : (R.CAP_B_W6_STOP k).lo + (R.CAP_B_W6_STOP k).w ≤ 32 := by simp [R.CAP_B_W6_STOP]
  have hstate : (R.CAP_B_W6_STATE k).lo + (R.CAP_B_W6_STATE k).w ≤ 32 := by simp [R.CAP_B_W6_STATE]
  unfold capFreeze
  refine ⟨?_, ?_, ?_⟩
  · rw [State.fg_fs_disj _ (R.CAP_B_W6_STOP k) (R.CAP_B_W6_STATE k) _ hstop rfl
      (by simp [R.CAP_B_W6_STOP, R.CAP_B_W6_STATE]), State.fg_fs_same _ _ _ hstate]
    rfl
  · rw [State.fg_fs_same _ _ _ hstop]
    exact Nat.mod_eq_of_lt h
  · rw [State.fg_fs_disj _ (R.CAP_B_W6_STOP k) (R.CAP_B_W6_TSRC k) _ hstop rfl
        (by simp [R.CAP_B_W6_STOP, R.CAP_B_W6_TSRC]),
      State.fg_fs_disj _ (R.CAP_B_W6_STATE k) (R.CAP_B_W6_TSRC k) _ hstate rfl
        (by simp [R.CAP_B_W6_STATE, R.CAP_B_W6_TSRC]), capClose_fg]

/-! ## Reading (R569) -/

/-- The units among `bad` that a read of `len` bytes from `off` meets. -/
def badUnits (bad : List Nat) (off len : Nat) : List Nat :=
  (bad.filter fun u => off / 64 ≤ u ∧ u ≤ (off + len - 1) / 64).eraseDups

/-- The bytes that a read of buffer `k` returns: zero in the bad units. -/
def readBytes (bad : List Nat) (k off len : Nat) (s : State) : List Byte :=
  (List.range len).map fun i =>
    if (badUnits bad off len).contains ((off + i) / 64) then 0 else Smap.get zeroByte s.cap.dram (capBase s k + off + i)

/-- Every bad unit is counted and raises source 0x6F. -/
def noteUnits (bad : List Nat) (k off len : Nat) (s : State) : State :=
  (badUnits bad off len).foldl (fun t _ => (t.inc (R.CAP_B_W6_ECCU k)).raise 0x6F islDRC k) s

/-- A CAPTURE_READ that meets its rows. -/
theorem captureRead_ok {q : Packet} {s : State} (bad : List Nat) (hfit : s.capFit = true)
    (hlen : q.payload.length = 16) (hk : u8 q.payload 0 ≤ 15) (hz : leAt q.payload 1 3 = 0) (hz' : u16 q.payload 14 = 0)
    (hlo : 64 ≤ u16 q.payload 12) (hhi : u16 q.payload 12 ≤ 2000) (hfour : u16 q.payload 12 % 4 = 0)
    (hpar : q.parcel = 0 ∨ u8 q.payload 0 / 2 = q.parcel)
    (hst : s.fg (R.CAP_B_W6_STATE (u8 q.payload 0)) = 0 ∨ s.fg (R.CAP_B_W6_STATE (u8 q.payload 0)) = 4)
    (hin : u64 q.payload 4 + u16 q.payload 12 ≤ s.fg (R.CAP_B_W4_SIZE (u8 q.payload 0)) * 4096)
    (hserves : capServes s = true) :
    captureRead bad q s = reply q .ok (leBytes 8 (u64 q.payload 4) ++ leBytes 2 (u16 q.payload 12) ++ [0, 0] ++
        readBytes bad (u8 q.payload 0) (u64 q.payload 4) (u16 q.payload 12) s) 0
      (noteUnits bad (u8 q.payload 0) (u64 q.payload 4) (u16 q.payload 12) s) := by
  have hidle : ¬(!(s.fg (R.CAP_B_W6_STATE (u8 q.payload 0)) == 0 || s.fg (R.CAP_B_W6_STATE (u8 q.payload 0)) == 4)) = true := by
    obtain h | h := hst <;> simp [h]
  unfold captureRead
  extract_lets k off len
  rw [if_neg (by simp [hfit]), if_neg (by simp [hlen]), if_neg (by unfold k len; omega), if_neg (by unfold k; omega),
    if_neg hidle, if_neg (by unfold k off len; omega), if_neg (by simp [hserves])]
  rfl

theorem badUnits_none {bad : List Nat} {off len : Nat} (h : ∀ u ∈ bad, u < off / 64 ∨ (off + len - 1) / 64 < u) :
    badUnits bad off len = [] := by
  have hnone : (bad.filter fun u => decide (off / 64 ≤ u ∧ u ≤ (off + len - 1) / 64)) = [] :=
    List.filter_eq_nil_iff.2 fun u hu => by have := h u hu; simp; omega
  rw [badUnits, hnone]
  rfl

theorem readBytes_good {bad : List Nat} {k off len : Nat} {s : State} (h : badUnits bad off len = []) :
    readBytes bad k off len s = memBytes s.cap.dram (capBase s k + off) len := by
  simp [readBytes, memBytes, h]

theorem noteUnits_good {bad : List Nat} {k off len : Nat} {s : State} (h : badUnits bad off len = []) :
    noteUnits bad k off len s = s := by
  simp [noteUnits, h]

/-- A read of one whole unit that is bad. -/
theorem badUnits_one {off : Nat} (h : off % 64 = 0) : badUnits [off / 64] off 64 = [off / 64] := by
  have hle : off / 64 ≤ (off + 64 - 1) / 64 := by omega
  simp only [badUnits, List.filter_cons, hle, Nat.le_refl, true_and, decide_true, if_true, List.filter_nil]
  rfl

theorem readBytes_bad {k off : Nat} {s : State} (h : off % 64 = 0) :
    readBytes [off / 64] k off 64 s = List.replicate 64 0 := by
  rw [readBytes, badUnits_one h]
  refine List.eq_replicate_iff.2 ⟨by simp, fun b hb => ?_⟩
  obtain ⟨i, hi, rfl⟩ := List.mem_map.1 hb
  have hunit : (off + i) / 64 = off / 64 := by have := List.mem_range.1 hi; omega
  simp [hunit]

theorem noteUnits_bad {k off : Nat} {s : State} (h : off % 64 = 0) :
    noteUnits [off / 64] k off 64 s = (s.inc (R.CAP_B_W6_ECCU k)).raise 0x6F islDRC k := by
  rw [noteUnits, badUnits_one h]
  rfl

/-- The count and the source of one bad unit. -/
theorem noteUnits_bad_spec {k off : Nat} {s : State} (h : off % 64 = 0) :
    (noteUnits [off / 64] k off 64 s).fg (R.CAP_B_W6_ECCU k) = min 255 (s.fg (R.CAP_B_W6_ECCU k) + 1) ∧
      Raised 0x6F islDRC (noteUnits [off / 64] k off 64 s) := by
  rw [noteUnits_bad h]
  refine ⟨?_, State.raise_bit _ _ _ _ (by decide)⟩
  have hne : (R.CAP_B_W6_ECCU k).adr ≠ R.FLT_ISL islDRC := by
    simp only [R.CAP_B_W6_ECCU, R.FLT_ISL, islDRC]; omega
  rw [State.fg_congr _ (State.raise_reg_sys _ 0x6F islDRC k _ (by decide) hne),
    State.fg_inc _ _ (by simp [R.CAP_B_W6_ECCU]), Nat.min_comm]
  rfl

/-- Settles O37: one case for each command, by the rule of its command above. -/
theorem captureCommandsTakeEffect : Obligations.CaptureCommandsTakeEffect := by
  refine ⟨?whole, ?badCheck, ?remapped, ?down, ?record, ?config, ?effect, ?trigger, ?post, ?read, ?readBad⟩
  case whole =>
    intro m s hlen hw hlanes hmap
    obtain ⟨hrx, hsmp, hsoc⟩ := sampleFrame_arrives 0 m hlen
    have hwords := received_whole hlen hw hlanes hmap
    refine Does.of_run (f := sampleFrame 0 m) rfl ⟨hrx.trans ?_, hsmp, hsoc.trans ?_⟩
    · rw [arrivedFrame, hwords]
    · rw [hwords]
  case badCheck =>
    intro m i s hlen hlo hhi hlanes hconv
    refine Does.of_run (f := sampleFrame (2 ^ i) m) rfl ((sampleFrame_arrives (2 ^ i) m hlen).1.trans ?_)
    rw [arrivedFrame, received_bad_check hlen hlo hhi hlanes hconv]
    rfl
  case remapped =>
    intro e m s hlen hlanes hconv hmap
    refine Does.of_run (f := sampleFrame e m) rfl ((sampleFrame_arrives e m hlen).1.trans ?_)
    rw [arrivedFrame, received_remapping e hlanes hconv hmap]
    rfl
  case down =>
    intro e m s hlen hlanes
    refine Does.of_run (f := sampleFrame e m) rfl ((sampleFrame_arrives e m hlen).1.trans ?_)
    rw [arrivedFrame, received_down e hlanes]
    rfl
  case record =>
    intro e m k c s hlen hbuf hst hbit hserves hidle hdec hopen hhit htag hepoch hroom
    refine Does.of_run (f := sampleFrame e m) rfl ?_
    exact sampleFrame_record hlen k.isLt hbuf hst hbit hserves hidle hdec hopen hhit htag hepoch hroom
  case config =>
    intro p q a b f s s1 hadm hq hfit hlen ha hb hbada hbadb hsize hina hinb hapart hchans hf hload hon hvia0 hvia1
    refine Does.of_admits (k := captureCfg) rfl hadm ?_
    rw [hf] at hload
    have hcfg := captureCfg_ok hfit hlen (ha.trans (by simp [cfgWords])) hb hbada hbadb hsize hina hinb hapart hchans
      hload hon
    obtain ⟨hreply, hbody, hcap, hregs⟩ := reply_spec q .ok (leBytes 4 (firstMultiple 1024 2000 s1.now % 2 ^ 32))
      (capAcceptBoth (firstMultiple 1024 2000 s1.now) q.parcel a b s1) hq
    obtain ⟨hpend0, hstate0, hpend1, hstate1⟩ := capAcceptBoth_spec (firstMultiple 1024 2000 s1.now) q.parcel a b s1
    rw [← hcfg] at hreply hbody hcap hregs
    generalize captureCfg q s1 = u at hreply hbody hcap hregs
    exact ⟨hreply, hbody, (congrArg CapBuf.pend (State.buf_congr hcap _)).trans hpend0,
      (State.fg_congr _ (hregs _ hvia0)).trans hstate0, (congrArg CapBuf.pend (State.buf_congr hcap _)).trans hpend1,
      (State.fg_congr _ (hregs _ hvia1)).trans hstate1⟩
  case effect =>
    intro k e w s hpend he hlen hother hen
    have heffect := captureConfigEffect_on k.isLt hpend he hother hen
    refine Does.of_run (f := captureConfigEffect) rfl ?_
    generalize captureConfigEffect s = u at heffect
    exact heffect
  case trigger =>
    intro p q k s s1 hadm hq hfit hlen hmask hbit hpar hst htrig hvia6 hvia7
    refine Does.of_admits (k := captureTrig) rfl hadm ?_
    have htrigs := captureTrig_ok k.isLt hfit hlen hmask hbit hpar hst
    obtain ⟨hreply, hbody, -, hregs⟩ := reply_spec q .ok (leBytes 4 (s1.epoch % 2 ^ 32))
      (((List.range 16).filter fun k => (u64 q.payload 0).testBit k).foldl trigStep s1) hq
    obtain ⟨hstate, hsrc, h7⟩ := foldl_trigStep (List.mem_filter.2 ⟨List.mem_range.2 k.isLt, hbit⟩)
      (List.nodup_range.filter _) hfit htrig hst
    rw [← htrigs] at hreply hbody hregs
    generalize captureTrig q s1 = u at hreply hbody hregs
    exact ⟨hreply, hbody, (State.fg_congr _ (hregs _ hvia6)).trans hstate,
      (State.fg_congr _ (hregs _ hvia6)).trans hsrc, (hregs _ hvia7).trans h7⟩
  case post =>
    intro k s hst hhit hpost
    refine Does.of_run (f := capturePostComplete k.val) rfl ?_
    have hfreeze : capturePostComplete k.val s = capFreeze 1 k.val s := if_pos ⟨hst, hhit, hpost⟩
    obtain ⟨hstate, hstop, hsrc⟩ := capFreeze_fields 1 k.val s (by decide)
    have hclosed := capFreeze_closed 1 k.val s
    have hregs := capFreeze_sameRegs 1 k.val s
    rw [hfreeze]
    generalize capFreeze 1 k.val s = u at hstate hstop hsrc hclosed hregs
    exact ⟨hstate, hstop, hclosed, hsrc, hregs⟩
  case read =>
    intro p q bad s s1 hadm hq hfit hlen hk hz hz' hlo hhi hfour hpar hst hin hserves hbad
    have hunits := badUnits_none hbad
    refine Does.of_admits (k := captureRead bad) rfl hadm ?_
    have hread := captureRead_ok bad hfit hlen hk hz hz' hlo hhi hfour hpar hst hin hserves
    rw [readBytes_good hunits, noteUnits_good hunits] at hread
    obtain ⟨hreply, hbody, hcap, -⟩ := reply_spec q .ok (leBytes 8 (u64 q.payload 4) ++ leBytes 2 (u16 q.payload 12) ++
      [0, 0] ++ memBytes s1.cap.dram (capBase s1 (u8 q.payload 0) + u64 q.payload 4) (u16 q.payload 12)) s1 hq
    rw [← hread] at hreply hbody hcap
    generalize captureRead bad q s1 = u at hreply hbody hcap
    exact ⟨hreply, hbody, hcap⟩
  case readBad =>
    intro p q s s1 hadm hq hfit hlen hk hz hz' hsize halign hpar hst hin hserves hvia6 hviaF
    refine Does.of_admits (k := captureRead [u64 q.payload 4 / 64]) rfl hadm ?_
    have hread := captureRead_ok [u64 q.payload 4 / 64] hfit hlen hk hz hz' (by omega) (by omega) (by omega) hpar hst
      (by omega) hserves
    rw [hsize, readBytes_bad halign] at hread
    obtain ⟨hreply, hbody, -, hregs⟩ := reply_spec q .ok (leBytes 8 (u64 q.payload 4) ++ leBytes 2 64 ++ [0, 0] ++
      List.replicate 64 0) (noteUnits [u64 q.payload 4 / 64] (u8 q.payload 0) (u64 q.payload 4) 64 s1) hq
    obtain ⟨hcount, hraised⟩ := noteUnits_bad_spec (k := u8 q.payload 0) (s := s1) halign
    rw [← hread] at hreply hbody hregs
    generalize captureRead [u64 q.payload 4 / 64] q s1 = u at hreply hbody hregs
    exact ⟨hreply, hbody, (State.fg_congr _ (hregs _ hvia6)).trans hcount,
      (congrArg (fun w : Word => w.toNat.testBit (faultBit 0x6F)) (hregs _ hviaF)).trans hraised⟩

end Sys2Proof.Machine

/-! # The barrier: lanes, maps, messages, and the sample clock (R28 to R34) -/

namespace Sys2Proof.Machine

/-! ## Messages -/

/-- What a message to the stack half leaves of the registers and of the barrier's state but for places and repetitions. -/
theorem sendDown_bar_keeps (k : Nat) (a : List Nat) (s : State) :
    (sendDown k a s).bar = { s.bar with
      downNext := (sendDown k a s).bar.downNext
      repDown := if repeated k then s.bar.repDown ++ [k] else s.bar.repDown } := by
  rw [sendDown_bar]

/-- The same of a message to the system half, whether a lane is healthy or not. -/
theorem sendUp_bar_keeps (k : Nat) (a : List Nat) (s : State) :
    (sendUp k a s).bar = { s.bar with
      upNext := (sendUp k a s).bar.upNext
      repUp := if repeated k then s.bar.repUp ++ [k] else s.bar.repUp } := by
  unfold sendUp
  cases messageLane s.bar.txMap <;> cases repeated k <;> rfl

theorem sendUp_repUp (k : Nat) (a : List Nat) (s : State) :
    (sendUp k a s).bar.repUp = if repeated k then s.bar.repUp ++ [k] else s.bar.repUp := by
  rw [sendUp_bar_keeps]

theorem sendDown_lastMsg (k : Nat) (a : List Nat) (s : State) : (sendDown k a s).lastMsg = some (.down, k :: a) := by
  simp [State.lastMsg, sendDown_out]

/-! ## Lane maps (R32) -/

/-- A new map waits for its switch epoch, 40 epochs ahead, with its number and the failed up lanes. -/
theorem sendMap_spec (s : State) (h : s.bar.downLost = false) :
    (sendMap s).bar.failed = s.bar.failed ∧ (sendMap s).bar.mapSeq = s.bar.mapSeq + 1 ∧
      (sendMap s).bar.pend = some { seq := s.bar.mapSeq + 1, epoch := s.epoch + 40, failed := s.bar.failed % 2 ^ 22 } ∧
      (sendMap s).bar.repUp = s.bar.repUp ∧ (sendMap s).bar.downLost = s.bar.downLost ∧
      ∃ b o, sendMap s = { s with bar := b, out := o } := by
  simp only [sendMap, h, Bool.false_eq_true, if_false]
  refine ⟨?_, ?_, ?_, ?_, ?_, ?_⟩
  · rw [sendDown_bar_keeps]
  · rw [sendDown_bar_keeps]
  · rw [sendDown_bar_keeps]
  · rw [sendDown_bar_keeps]
  · rw [sendDown_bar_keeps]
  · exact ⟨_, _, sendDown_frame ..⟩

/-! ## A lane fails (R30) -/

/-- The record of a lane that has just been declared failed. -/
def laneDown (l : Nat) (s : State) : State :=
  { s with bar := { s.bar with
    failed := setBit s.bar.failed l true, retests := s.bar.retests.filter fun r => r.1 != l
    retestAt := Smap.set (fun _ => 0) s.bar.retestAt l s.lt } }

theorem barrierLaneFailed_up {l : Nat} {s : State} (hl : l < 22) (h : s.bar.failed.testBit l = false) :
    barrierLaneFailed l s = sendMap ((laneDown l s).raise 0x21 islBRX l) := by
  simp [barrierLaneFailed, h, hl, laneDown]

theorem barrierLaneFailed_down {l : Nat} {s : State} (hl : 22 ≤ l) (h : s.bar.failed.testBit l = false) :
    barrierLaneFailed l s = (laneDown l s).raise 0x21 islBTX l := by
  simp [barrierLaneFailed, h, Nat.not_lt.2 hl, laneDown]

/-- A source on the system die leaves the queue of stack-die events. -/
theorem State.raise_stackQ_sys (s : State) (code isl param : Nat) (h : onStack isl = false) :
    (s.raise code isl param).stackQ = s.stackQ := by
  simp only [State.raise, State.raiseAs, h, Bool.false_eq_true, if_false]
  split <;> rfl

/-- A source on the stack die other than 0x0B leaves the collector. -/
theorem State.raise_flt_stack (s : State) (code isl param : Nat) (h : onStack isl = true) (hc : code ≠ 0x0B) :
    (s.raise code isl param).flt = s.flt := by
  simp only [State.raise, State.raiseAs, h, if_true, hc, if_false]
  split <;> rfl

/-- The source that a failed up lane raises on the receive island. -/
theorem laneDown_raise_up (l : Nat) (s : State) :
    Raised 0x21 islBRX ((laneDown l s).raise 0x21 islBRX l) ∧
      SameRegs [R.FLT_ISL islBRX] s ((laneDown l s).raise 0x21 islBRX l) ∧
      ∃ rg fl, (laneDown l s).raise 0x21 islBRX l = { laneDown l s with regs := rg, flt := fl } := by
  refine ⟨State.raise_bit _ _ _ _ (by decide), fun a ha => ?_, ?_⟩
  · exact State.raise_reg_sys (laneDown l s) 0x21 islBRX l a (by decide) (List.ne_of_not_mem_cons ha)
  · have hframe := State.raise_frame (laneDown l s) 0x21 islBRX l
    rw [State.raise_stackQ_sys _ _ _ _ (by decide)] at hframe
    exact ⟨_, _, hframe⟩

/-- The source that a failed down lane raises on the transmit island. -/
theorem laneDown_raise_down (l : Nat) (s : State) :
    Raised 0x21 islBTX ((laneDown l s).raise 0x21 islBTX l) ∧
      SameRegs [R.FLT_ISL islBTX, R.FLT_STAT] s ((laneDown l s).raise 0x21 islBTX l) ∧
      ∃ rg q, (laneDown l s).raise 0x21 islBTX l = { laneDown l s with regs := rg, stackQ := q } := by
  refine ⟨State.raise_bit _ _ _ _ (by decide), fun a ha => ?_, ?_⟩
  · obtain ⟨hisl, hstat⟩ : a ≠ R.FLT_ISL islBTX ∧ a ≠ R.FLT_STAT := by simpa using ha
    exact State.raise_reg (laneDown l s) 0x21 islBTX l a hisl hstat
  · have hframe := State.raise_frame (laneDown l s) 0x21 islBTX l
    rw [State.raise_flt_stack _ _ _ _ (by decide) (by decide)] at hframe
    exact ⟨_, _, hframe⟩

/-! ## A lane map takes effect (R32) -/

/-- The transmit and the receive island use map `m`. -/
def mapInUse (m : LaneMap) (s : State) : State :=
  { s.until (50 * m.epoch) with bar := { s.bar with pend := none, rxMap := m.failed, txMap := m.failed } }

theorem laneMapSwitch_good {m : LaneMap} {s : State} (h : s.bar.pend = some m) :
    laneMapSwitch true s = updateRate false (mapInUse m s) := by
  simp only [laneMapSwitch, h]
  rfl

/-- The rate in force depends on two registers' fields, the thermal step and the map. -/
theorem rateInForce_congr {s t : State} (hctrl : t.reg R.SMP_CTRL = s.reg R.SMP_CTRL) (hsmp : t.smp = s.smp)
    (hmap : t.bar.txMap = s.bar.txMap) : rateInForce t = rateInForce s := by
  have hrate : t.fg R.SMP_CTRL_RATE = s.fg R.SMP_CTRL_RATE := State.fg_congr _ hctrl
  have hbarrier : barrierRate t = barrierRate s := by rw [barrierRate, barrierRate, State.healthyUp, State.healthyUp, hmap]
  rw [rateInForce, rateInForce, hrate, hsmp, hbarrier]

/-- Where the rate stays, its source alone is brought up to date. -/
theorem updateRate_same {b : Bool} {s : State} (h : (rateInForce s).1 = s.fg R.SMP_STAT_RATE) :
    updateRate b s = s.fs R.SMP_STAT_RATESRC (rateInForce s).2 := if_pos h

/-! ## Retests (R33) -/

/-- The record of a retest of lane `l` that leaves `c` good ones in a row. -/
def retested (l c : Nat) (s : State) : State :=
  { s with bar := { s.bar with
    retests := Smap.set (fun _ => 0) s.bar.retests l c, retestAt := Smap.set (fun _ => 0) s.bar.retestAt l s.lt } }

theorem retested_spec (l c : Nat) (s : State) :
    Smap.get (fun _ => 0) (retested l c s).bar.retests l = c ∧
      Smap.get (fun _ => 0) (retested l c s).bar.retestAt l = s.lt ∧
      retested l c s = { s with bar := { s.bar with
        retests := (retested l c s).bar.retests, retestAt := (retested l c s).bar.retestAt } } :=
  ⟨Smap.get_set_same .., Smap.get_set_same .., rfl⟩

/-- A retest that is due (R33): a bad one starts the count again, the tenth good one in a row returns the lane. -/
theorem barrierLaneRetest_due {l : Nat} {s : State} (good : Bool) (hf : s.bar.failed.testBit l = true)
    (hdue : s.due (Smap.get (fun _ => 0) s.bar.retestAt l) 10000000 = true) :
    barrierLaneRetest l good s =
      if good = false then retested l 0 s
      else if Smap.get (fun _ => 0) s.bar.retests l < 9 then retested l (Smap.get (fun _ => 0) s.bar.retests l + 1) s
      else
        let s1 := retested l 0 { s with bar := { s.bar with failed := setBit s.bar.failed l false } }
        if l < 22 then sendMap s1 else s1 := by
  have hnine : Smap.get (fun _ => 0) s.bar.retests l + 1 < 10 ↔ Smap.get (fun _ => 0) s.bar.retests l < 9 := by omega
  cases good <;> simp [barrierLaneRetest, hf, hdue, hnine, retested]

/-! ## Acknowledgements (R28) -/

/-- The reference blocks that leave are not repeated. -/
theorem refSend_repUp (s : State) : (refSend s).bar.repUp = s.bar.repUp := by
  unfold refSend
  split
  · exact List.foldlRecOn (motive := fun t : State => t.bar.repUp = s.bar.repUp) _ _ rfl fun t ht w _ =>
      (sendUp_repUp mCREF [w] t).trans ht
  · rfl

/-- Settles O1: a case for each event, by the equation of its command. -/
theorem barrierLaneEventsTakeEffect : Obligations.BarrierLaneEventsTakeEffect := by
  refine ⟨?upLane, ?downLane, ?mapSwitch, ?retest, ?tenth, ?badRetest, fun k s => rfl, ?ack⟩
  case upLane =>
    intro l s hl hf hlost
    obtain ⟨hbit, hregs, hframe⟩ := laneDown_raise_up l.val s
    refine Does.of_run (f := barrierLaneFailed l.val) rfl ?_
    rw [barrierLaneFailed_up hl hf]
    generalize (laneDown l.val s).raise 0x21 islBRX l.val = r at hbit hregs hframe
    obtain ⟨rg, fl, rfl⟩ := hframe
    obtain ⟨hfailed, hseq, hpend, -, -, hmap⟩ := sendMap_spec { laneDown l.val s with regs := rg, flt := fl } hlost
    generalize sendMap { laneDown l.val s with regs := rg, flt := fl } = u at hfailed hseq hpend hmap
    obtain ⟨b, o, rfl⟩ := hmap
    exact ⟨hfailed, hseq, hpend.trans (by rw [hfailed]; rfl), hbit, hregs, rfl⟩
  case downLane =>
    intro l s hl hf
    obtain ⟨hbit, hregs, hframe⟩ := laneDown_raise_down l.val s
    refine Does.of_run (f := barrierLaneFailed l.val) rfl ?_
    rw [barrierLaneFailed_down hl hf]
    generalize (laneDown l.val s).raise 0x21 islBTX l.val = r at hbit hregs hframe
    obtain ⟨rg, q, rfl⟩ := hframe
    exact ⟨rfl, rfl, hbit, hregs, rfl⟩
  case mapSwitch =>
    intro m s hpend hrate
    have hforce : rateInForce (mapInUse m s) = (s.fg R.SMP_STAT_RATE, s.fg R.SMP_STAT_RATESRC) :=
      (rateInForce_congr rfl rfl rfl).trans hrate
    refine Does.of_run (f := laneMapSwitch true) rfl ?_
    rw [laneMapSwitch_good hpend, updateRate_same (congrArg Prod.fst hforce)]
    refine ⟨rfl, rfl, rfl, ?_, fun a ha => ?_, rfl⟩
    · show s.now + (50 * m.epoch - s.now) = max s.now (50 * m.epoch)
      omega
    · exact State.reg_fs_ne (mapInUse m s) R.SMP_STAT_RATESRC _ (List.ne_of_not_mem_cons ha)
  case retest =>
    intro l s hf hcount hdue
    refine Does.of_run (f := barrierLaneRetest l.val true) rfl ?_
    rw [barrierLaneRetest_due true hf hdue, if_neg (by decide), if_pos hcount]
    exact retested_spec _ _ s
  case tenth =>
    intro l s hf hcount hdue hlost hl
    refine Does.of_run (f := barrierLaneRetest l.val true) rfl ?_
    rw [barrierLaneRetest_due true hf hdue, if_neg (by decide), if_neg (Nat.not_lt.2 hcount)]
    simp only [hl, if_true]
    obtain ⟨hfailed, -, hpend, -, -, hmap⟩ := sendMap_spec
      (retested l.val 0 { s with bar := { s.bar with failed := setBit s.bar.failed l.val false } }) hlost
    generalize sendMap (retested l.val 0 { s with bar := { s.bar with failed := setBit s.bar.failed l.val false } }) = u
      at hfailed hpend hmap
    obtain ⟨b, o, rfl⟩ := hmap
    exact ⟨hfailed, hpend.trans (by rw [hfailed]; rfl), rfl⟩
  case badRetest =>
    intro l s hf hdue
    refine Does.of_run (f := barrierLaneRetest l.val false) rfl ?_
    rw [barrierLaneRetest_due false hf hdue, if_pos rfl]
    exact retested_spec _ 0 s
  case ack =>
    intro k s
    exact Does.of_run (f := safetyMessageAcknowledge false k) rfl (refSend_repUp _)

end Sys2Proof.Machine

/-! # Loss and return of the message streams and of the sample clock (R29, R32, R34, R62) -/

namespace Sys2Proof.Machine

/-! ## What the bleed switches change when they are brought up to date (R144, R147, R179) -/

/-- Between `s` and `t` bleed switches moved: registers of the BAL block, the trace, the place of the next message, and the
records of balancing, excitation and services alone changed. -/
def Bleeds (s t : State) : Prop :=
  (∀ a, a < 0x040000 ∨ 0x050000 ≤ a → t.reg a = s.reg a) ∧
    ∃ rg o un bl ex sv, t = { s with
      regs := rg, out := o, bar := { s.bar with upNext := un }, bal := bl, exc := ex, svc := sv }

theorem Bleeds.refl (s : State) : Bleeds s s := ⟨fun _ _ => rfl, _, _, _, _, _, _, rfl⟩

theorem Bleeds.trans {s t u : State} (h : Bleeds s t) (h' : Bleeds t u) : Bleeds s u := by
  obtain ⟨hregs, rg, o, un, bl, ex, sv, rfl⟩ := h
  obtain ⟨hregs', rg', o', un', bl', ex', sv', rfl⟩ := h'
  exact ⟨fun a ha => (hregs' a ha).trans (hregs a ha), _, _, _, _, _, _, rfl⟩

/-- A state that differs in the records of balancing, excitation and services alone. -/
theorem Bleeds.of_records (s : State) (bl : Bal) (ex : Exc) (sv : Svc) : Bleeds s { s with bal := bl, exc := ex, svc := sv } :=
  ⟨fun _ _ => rfl, _, _, _, _, _, _, rfl⟩

theorem Bleeds.setReg (s : State) {a : Nat} (v : Word) (h : 0x040000 ≤ a ∧ a < 0x050000) : Bleeds s (s.setReg a v) :=
  ⟨fun _ hb => State.reg_setReg_ne _ _ (by omega), _, _, _, _, _, _, rfl⟩

theorem Bleeds.fs (s : State) (f : Fld) (v : Nat) (h : 0x040000 ≤ f.adr ∧ f.adr < 0x050000) : Bleeds s (s.fs f v) :=
  .setReg s _ h

theorem Bleeds.foldl {α : Type} (l : List α) (f : State → α → State) (s : State) (h : ∀ t, ∀ a ∈ l, Bleeds t (f t a)) :
    Bleeds s (l.foldl f s) :=
  List.foldlRecOn (motive := Bleeds s) l f (.refl s) fun t ht a ha => ht.trans (h t a ha)

theorem setCellBit_bal_on (s : State) (n : Nat) (b : Bool) : Bleeds s (s.setCellBit R.BAL_ON0 R.BAL_ON1 n b) := by
  unfold State.setCellBit
  split
  · exact .setReg s _ (by decide)
  · exact .setReg s _ (by decide)

theorem setAcc_bleeds (s : State) (n v : Nat) : Bleeds s (s.setAcc n v) := .of_records ..

theorem excCredit_bleeds (e : Nat) (s : State) : Bleeds s (excCredit e s) := by
  unfold excCredit
  extract_lets b r s1
  exact (Bleeds.foldl r _ s fun t x _ => setAcc_bleeds t _ _).trans (.of_records ..)

theorem accrue_bleeds (n : Nat) (s : State) : Bleeds s (accrue n s) := by
  unfold accrue
  split
  · split
    · exact excCredit_bleeds _ s
    · exact .refl s
  · exact Bleeds.trans (.of_records s _ _ _) (setAcc_bleeds _ _ _)

theorem balOpen_bleeds (n : Nat) (s : State) : Bleeds s (balOpen n s) :=
  (accrue_bleeds n s).trans ((Bleeds.of_records _ _ _ _).trans (setCellBit_bal_on _ n false))

theorem sendUp_bleeds {k : Nat} (a : List Nat) (s : State) (h : repeated k = false) : Bleeds s (sendUp k a s) := by
  have hbar := sendUp_bar_keeps k a s
  rw [h] at hbar
  have hframe := sendUp_frame k a s
  rw [hbar] at hframe
  exact ⟨fun a _ => sendUp_reg .., _, _, _, _, _, _, hframe⟩

theorem bleedMessage_bleeds (n : Nat) (on_ : Bool) (e : Nat) (s : State) : Bleeds s (bleedMessage n on_ e s) :=
  (Bleeds.of_records s _ _ _).trans (sendUp_bleeds _ _ (by decide))

theorem noteOpen_bleeds (n p : Nat) (s : State) : Bleeds s (noteOpen n p s) := .of_records ..

theorem bleedSwitch_bleeds (n : Nat) (on_ : Bool) (e : Nat) (s : State) : Bleeds s (bleedSwitch n on_ e s) := by
  unfold bleedSwitch
  split
  · exact ((Bleeds.of_records s _ _ _).trans (setCellBit_bal_on _ n true)).trans (bleedMessage_bleeds ..)
  · exact (balOpen_bleeds n s).trans ((noteOpen_bleeds ..).trans (bleedMessage_bleeds ..))

theorem svcLeave_bleeds (e : Nat) (p : Nat → Bool) (s : State) : Bleeds s (svcLeave e p s) := .of_records ..

theorem leaveDriven_bleeds (e : Nat) (old : State) (n : Nat) (s : State) : Bleeds s (leaveDriven e old n s) := by
  unfold leaveDriven
  extract_lets s1
  have h1 : Bleeds s s1 := by
    unfold s1
    split
    · exact noteOpen_bleeds ..
    · exact .refl s
  split
  · exact h1
  · exact h1.trans (bleedMessage_bleeds ..)

theorem mem_cells {n : Nat} (h : n ∈ cells) : n ≤ 48 := by
  simp only [cells, upTo, List.mem_map, List.mem_range] at h
  omega

theorem balUpdate_bleeds (e : Nat) (old s : State) : Bleeds s (balUpdate e old s) := by
  unfold balUpdate
  extract_lets s1 bal1 s2 s3 s4 lost bal4 s5 s6 opens closes s7 s8
  have h3 : Bleeds s s3 := by
    refine ((Bleeds.fs s R.BAL_STAT_CAP _ (by decide)).trans (.of_records s1 _ _ _)).trans (.foldl cells _ s2 ?_)
    intro t n hn
    have hn := mem_cells hn
    exact (Bleeds.fs t (R.BAL_TMR_REQ n) _ (by simp only [R.BAL_TMR_REQ]; omega)).trans
      (.fs _ (R.BAL_TMR_HELD n) _ (by simp only [R.BAL_TMR_HELD]; omega))
  have h4 : Bleeds s s4 := h3.trans (.foldl _ _ s3 fun t n _ => balOpen_bleeds n t)
  have h6 : Bleeds s s6 :=
    (h4.trans (.of_records s4 _ _ _)).trans (.foldl lost _ s5 fun t n _ => leaveDriven_bleeds e old n t)
  have h7 : Bleeds s s7 := h6.trans (.foldl opens _ s6 fun t n _ => bleedSwitch_bleeds n false e t)
  have h8 : Bleeds s s8 := h7.trans (.foldl closes _ s7 fun t n _ => bleedSwitch_bleeds n true e t)
  exact h8.trans (.fs s8 R.BAL_STAT_NCLOSED _ (by decide))

theorem balMature_bleeds (s : State) : Bleeds s (balMature s) := by
  unfold balMature
  split
  · exact .refl s
  · split
    · exact (excCredit_bleeds _ s).trans (((Bleeds.of_records _ _ _ _).trans (svcLeave_bleeds ..)).trans (balUpdate_bleeds ..))
    · exact .refl s

theorem balRefresh_bleeds (s : State) : Bleeds s (balRefresh s) :=
  (balMature_bleeds s).trans ((excCredit_bleeds _ _).trans (balUpdate_bleeds ..))

/-! ## Excitation stops (R159) -/

/-- The EXC_STAT fields of a stop. -/
def excStopped (cause : Nat) (s : State) : State :=
  (((s.fs R.EXC_STAT_RUN 0).fs R.EXC_STAT_PEND 0).fs R.EXC_STAT_STOPCAUSE cause).fs R.EXC_STAT_NACT 0

theorem excStopped_idle (cause : Nat) (s : State) : (excStopped cause s).excBusy = false := by
  have hrun : (excStopped cause s).fg R.EXC_STAT_RUN = 0 := by
    rw [excStopped, State.fg_fs_disj _ R.EXC_STAT_NACT R.EXC_STAT_RUN _ (by decide) rfl (by decide),
      State.fg_fs_disj _ R.EXC_STAT_STOPCAUSE R.EXC_STAT_RUN _ (by decide) rfl (by decide),
      State.fg_fs_disj _ R.EXC_STAT_PEND R.EXC_STAT_RUN _ (by decide) rfl (by decide),
      State.fg_fs_same _ _ _ (by decide)]
    rfl
  have hpend : (excStopped cause s).fg R.EXC_STAT_PEND = 0 := by
    rw [excStopped, State.fg_fs_disj _ R.EXC_STAT_NACT R.EXC_STAT_PEND _ (by decide) rfl (by decide),
      State.fg_fs_disj _ R.EXC_STAT_STOPCAUSE R.EXC_STAT_PEND _ (by decide) rfl (by decide),
      State.fg_fs_same _ _ _ (by decide)]
    rfl
  simp [State.excBusy, State.fb, hrun, hpend]

/-- Excitation is stopped, and neither the supervisor nor the barrier's repetitions know of it. -/
theorem excStop_spec (cause : Nat) (s : State) :
    (excStop cause s).excBusy = false ∧ (excStop cause s).ssv = s.ssv ∧
      ∃ un, (excStop cause s).bar = { s.bar with upNext := un } := by
  unfold excStop
  split
  · extract_lets s1 exc1
    have hidle : s1.excBusy = false := excStopped_idle cause s
    have hssv : s1.ssv = s.ssv := rfl
    have hbar : s1.bar = s.bar := rfl
    clear_value s1
    obtain ⟨hregs, rg, o, un, bl, ex, sv, hframe⟩ :=
      balRefresh_bleeds { s1 with exc := { exc1 with retAt := some (nextCarrier s1) } }
    have hstat := hregs R.EXC_STAT (by decide)
    generalize balRefresh { s1 with exc := { exc1 with retAt := some (nextCarrier s1) } } = u at hframe hstat
    have hlinks : u.ssv = s1.ssv ∧ u.bar = { s1.bar with upNext := un } := by
      rw [hframe]
      exact ⟨rfl, rfl⟩
    refine ⟨?_, hlinks.1.trans hssv, un, by rw [hlinks.2, hbar]⟩
    rw [State.excBusy, State.fb, State.fb, State.fg_congr R.EXC_STAT_RUN hstat, State.fg_congr R.EXC_STAT_PEND hstat]
    exact hidle
  next hidle => exact ⟨Bool.eq_false_iff.2 hidle, rfl, _, rfl⟩

/-! ## Disagreements (R457) -/

theorem toneDrop_frame (s : State) : ∃ tn o, toneDrop s = { s with tone := tn, out := o } := by
  unfold toneDrop
  split
  · exact ⟨_, _, rfl⟩
  · exact ⟨_, _, rfl⟩

/-- The supervisor is in FAULT without RUN; repetitions stay, and registers. -/
theorem ssvDisagree_spec (cause : Nat) (notify : Bool) (s : State) :
    (ssvDisagree cause notify s).ssv.st = svFAULT ∧ (ssvDisagree cause notify s).ssv.run = false ∧
      (ssvDisagree cause notify s).bar.downLost = s.bar.downLost ∧
      (∀ k ∈ s.bar.repUp, k ∈ (ssvDisagree cause notify s).bar.repUp) ∧
      (ssvDisagree cause notify s).regs = s.regs := by
  unfold ssvDisagree
  extract_lets ssv0 s1
  obtain ⟨tn, o, htone⟩ := toneDrop_frame { s with ssv := { ssv0 with
    st := svFAULT, run := false, judge := 0, cause := cause, cmd := true, dropAt := some s.lt } }
  have hs1 : s1 = { s with tone := tn, out := o, ssv := { ssv0 with
    st := svFAULT, run := false, judge := 0, cause := cause, cmd := true, dropAt := some s.lt } } := htone
  clear_value s1
  subst hs1
  cases notify with
  | false => exact ⟨rfl, rfl, rfl, fun _ h => h, rfl⟩
  | true =>
    rw [if_pos rfl, sendUp_frame, sendUp_bar_keeps]
    exact ⟨rfl, rfl, rfl, fun k hk => List.mem_append_left _ hk, rfl⟩

/-- SOC's own RUN is off, its source is raised, and the notice is the last message. -/
theorem socDisagree_notified (cause : Nat) (s : State) :
    (socDisagree cause true s).fg R.SAF_STAT_YRUN = 0 ∧ Raised 0x02 islSOC (socDisagree cause true s) ∧
      (socDisagree cause true s).lastMsg = some (.down, [mDISAGREE, cause]) := by
  unfold socDisagree
  extract_lets starting s1 s2 s3
  have hrun : s3.fg R.SAF_STAT_YRUN = 0 := by
    refine (State.fg_congr _ (State.raise_reg_sys _ 0x02 islSOC 0 _ (by decide) (by decide))).trans ?_
    rw [State.fg_fs_same _ _ _ (by decide)]
    rfl
  have hraised : Raised 0x02 islSOC s3 := State.raise_bit _ _ _ _ (by decide)
  clear_value s3
  rw [if_pos rfl]
  refine ⟨?_, ?_, sendDown_lastMsg ..⟩
  · rw [sendDown_fg]; exact hrun
  · rw [Raised, sendDown_reg]; exact hraised

/-! ## The coherence of the sample clock (R34, R62, R386) -/

theorem updateCoh_frame (s : State) : updateCoh s = { s with regs := (updateCoh s).regs } := rfl

theorem updateCoh_sameRegs (s : State) : SameRegs [R.SMP_STAT, R.DTM_STAT] s (updateCoh s) := by
  intro a ha
  obtain ⟨hsmp, hdtm⟩ : a ≠ R.SMP_STAT ∧ a ≠ R.DTM_STAT := by simpa using ha
  rw [updateCoh, State.reg_fs_ne _ R.DTM_STAT_COH _ hdtm, State.reg_fs_ne _ R.SMP_STAT_COH _ hsmp,
    State.reg_fs_ne _ R.DTM_STAT_U _ hdtm]

theorem updateCoh_rck (s : State) : (updateCoh s).fg R.SMP_STAT_RCK = s.fg R.SMP_STAT_RCK := by
  rw [updateCoh, State.fg_fs_ne _ R.DTM_STAT_COH R.SMP_STAT_RCK _ (by decide),
    State.fg_fs_disj _ R.SMP_STAT_COH R.SMP_STAT_RCK _ (by decide) rfl (by decide),
    State.fg_fs_ne _ R.DTM_STAT_U R.SMP_STAT_RCK _ (by decide)]

/-- On its own clock no epoch is coherent. -/
theorem updateCoh_clear (s : State) (h : s.fg R.SMP_STAT_RCK = 1) :
    (updateCoh s).fg R.SMP_STAT_COH = 0 ∧ (updateCoh s).fg R.DTM_STAT_COH = 0 := by
  have hc : b2n (decide (datumU s ≤ 80) && !s.fb R.SMP_STAT_RCK) = 0 := by simp [State.fb, h, b2n]
  rw [updateCoh, hc]
  constructor
  · rw [State.fg_fs_ne _ R.DTM_STAT_COH R.SMP_STAT_COH _ (by decide), State.fg_fs_same _ _ _ (by decide)]
    rfl
  · rw [State.fg_fs_same _ _ _ (by decide)]
    rfl

/-- On its own clock the stack half's report names a return epoch 40 epochs ahead. -/
theorem sampleClockReturnReport_spec (s : State) (h : s.fg R.SMP_STAT_RCK = 1) :
    (sampleClockReturnReport s).bar.clkReturn = some (s.epoch + 40) ∧ (sampleClockReturnReport s).regs = s.regs ∧
      (sampleClockReturnReport s).lastMsg = some (.down, [mCLOCKRETURN, s.epoch + 40]) ∧
      (sampleClockReturnReport s).now = s.now := by
  have hrck : s.fb R.SMP_STAT_RCK = true := by simp [State.fb, h]
  simp only [sampleClockReturnReport, hrck, if_true]
  refine ⟨?_, ?_, sendDown_lastMsg .., ?_⟩
  · rw [sendDown_bar_keeps, sendUp_bar_keeps]
  · rw [sendDown_frame, sendUp_frame]
  · rw [sendDown_frame, sendUp_frame]

/-- From the return epoch on the reference times the epochs (R34). -/
theorem onReference_spec (s : State) :
    (updateCoh (s.fs R.SMP_STAT_RCK 0)).fg R.SMP_STAT_RCK = 0 ∧
      (updateCoh (s.fs R.SMP_STAT_RCK 0)).bar.clkReturn = s.bar.clkReturn ∧
      (updateCoh (s.fs R.SMP_STAT_RCK 0)).now = s.now ∧
      SameRegs [R.SMP_STAT, R.DTM_STAT] s (updateCoh (s.fs R.SMP_STAT_RCK 0)) := by
  refine ⟨(updateCoh_rck _).trans (State.fg_fs_same _ _ _ (by decide)), ?_, ?_, fun a ha => ?_⟩
  · rw [updateCoh_frame]; rfl
  · rw [updateCoh_frame]; rfl
  · exact (updateCoh_sameRegs _ a ha).trans (State.reg_fs_ne s R.SMP_STAT_RCK 0 (List.ne_of_not_mem_cons ha))

/-- The state in which the named return epoch has come. -/
def atReturnEpoch (e : Nat) (s : State) : State := { s.until (50 * e) with bar := { s.bar with clkReturn := none } }

theorem atReturnEpoch_now (e : Nat) (s : State) : (atReturnEpoch e s).now = max s.now (50 * e) := by
  have : (atReturnEpoch e s).now = s.now + (50 * e - s.now) := rfl
  omega

theorem sampleClockReturn_of_named (got : Bool) {e : Nat} {s : State} (h : s.bar.clkReturn = some e) :
    sampleClockReturn got s =
      if got then updateCoh ((atReturnEpoch e s).fs R.SMP_STAT_RCK 0) else sampleClockReturnReport (atReturnEpoch e s) := by
  simp only [sampleClockReturn, h]
  rfl

/-- Settles O2: a case for each event, by the rule of its command. -/
theorem streamAndClockLossTakeEffect : Obligations.StreamAndClockLossTakeEffect := by
  refine ⟨fun s => Does.of_run (f := stackStreamLoss) rfl (socDisagree_notified cTOKMISS s), ?downLoss, ?downReturn, ?clockLost,
    ?report, ?clockReturn, ?noNotice⟩
  case downLoss =>
    intro s hawake
    obtain ⟨hidle, hssv, un, hbar⟩ := excStop_spec 5 (sendUp mSTREAMLOST [] { s with bar := { s.bar with downLost := true } })
    have hlost := sendUp_bar_keeps mSTREAMLOST [] { s with bar := { s.bar with downLost := true } }
    have hsame : (sendUp mSTREAMLOST [] { s with bar := { s.bar with downLost := true } }).ssv = s.ssv := by
      rw [sendUp_frame]
    refine Does.of_run (f := downStreamLoss) rfl ?_
    unfold downStreamLoss
    generalize excStop 5 (sendUp mSTREAMLOST [] { s with bar := { s.bar with downLost := true } }) = u at hidle hssv hbar
    rw [hlost] at hbar
    simp only [hssv.trans hsame, hawake, if_false]
    obtain ⟨hst, hrun, hdown, hrep, hregs⟩ := ssvDisagree_spec 0x03 true u
    generalize ssvDisagree 0x03 true u = v at hst hrun hdown hrep hregs
    refine ⟨hdown.trans (by rw [hbar]), hrun, hst, hrep _ ?_, ?_⟩
    · rw [hbar]
      exact List.mem_append_right _ (List.mem_singleton.2 rfl)
    · have hstat : v.reg R.EXC_STAT = u.reg R.EXC_STAT := State.reg_congr hregs _
      refine Eq.trans ?_ hidle
      simp only [State.excBusy, State.fb]
      exact congrArg₂ (fun a b : Nat => (a != 0 || b != 0)) (State.fg_congr R.EXC_STAT_RUN hstat)
        (State.fg_congr R.EXC_STAT_PEND hstat)
  case downReturn =>
    intro s
    have hup := sendUp_bar_keeps mSTREAMBACK [] { s with bar := { s.bar with downLost := false } }
    have hframe := sendUp_frame mSTREAMBACK [] { s with bar := { s.bar with downLost := false } }
    refine Does.of_run (f := downStreamReturn) rfl ?_
    unfold downStreamReturn
    generalize sendUp mSTREAMBACK [] { s with bar := { s.bar with downLost := false } } = u at hup hframe
    have hepoch : u.epoch = s.epoch := by rw [hframe]; rfl
    have huframe : ∃ b o, u = { s with bar := b, out := o } := ⟨_, _, hframe⟩
    obtain ⟨-, hseq, hpend, hrep, hlost, hmap⟩ := sendMap_spec u (by rw [hup])
    rw [hup] at hseq hpend hrep hlost
    rw [hepoch] at hpend
    generalize sendMap u = v at hseq hpend hrep hlost hmap
    obtain ⟨b, o, rfl⟩ := huframe
    obtain ⟨b', o', rfl⟩ := hmap
    exact ⟨hlost, hrep ▸ List.mem_append_right _ (List.mem_singleton.2 rfl), hseq, hpend, rfl⟩
  case clockLost =>
    intro s
    have hrck : (s.fs R.SMP_STAT_RCK 1).fg R.SMP_STAT_RCK = 1 := State.fg_fs_same _ _ _ (by decide)
    obtain ⟨hcoh, hdtm⟩ := updateCoh_clear _ hrck
    have hkeep := (updateCoh_rck (s.fs R.SMP_STAT_RCK 1)).trans hrck
    have hregs : SameRegs [R.SMP_STAT, R.DTM_STAT] s (updateCoh (s.fs R.SMP_STAT_RCK 1)) := fun a ha =>
      (updateCoh_sameRegs _ a ha).trans (State.reg_fs_ne s R.SMP_STAT_RCK 1 (List.ne_of_not_mem_cons ha))
    have hframe : ∃ rg, updateCoh (s.fs R.SMP_STAT_RCK 1) = { s with regs := rg } := ⟨_, rfl⟩
    refine Does.of_run (f := sampleClockLost) rfl ?_
    unfold sampleClockLost
    generalize updateCoh (s.fs R.SMP_STAT_RCK 1) = u at hkeep hcoh hdtm hregs hframe
    obtain ⟨rg, rfl⟩ := hframe
    exact ⟨hkeep, hcoh, hdtm, hregs, rfl⟩
  case report =>
    intro s hrck
    obtain ⟨hret, hregs, hmsg, -⟩ := sampleClockReturnReport_spec s hrck
    refine Does.of_run (f := sampleClockReturnReport) rfl ?_
    generalize sampleClockReturnReport s = u at hret hregs hmsg
    exact ⟨hret, hregs, hmsg⟩
  case clockReturn =>
    intro e s he
    refine Does.of_run (f := sampleClockReturn true) rfl ?_
    rw [sampleClockReturn_of_named true he, if_pos rfl]
    obtain ⟨hrck, hret, hnow, hregs⟩ := onReference_spec (atReturnEpoch e s)
    generalize updateCoh ((atReturnEpoch e s).fs R.SMP_STAT_RCK 0) = u at hrck hret hnow hregs
    exact ⟨hrck, hret, hnow.trans (atReturnEpoch_now e s), hregs⟩
  case noNotice =>
    intro e s he hrck
    refine Does.of_run (f := sampleClockReturn false) rfl ?_
    rw [sampleClockReturn_of_named false he, if_neg Bool.false_ne_true]
    obtain ⟨hret, hregs, -, hnow⟩ := sampleClockReturnReport_spec (atReturnEpoch e s) hrck
    generalize sampleClockReturnReport (atReturnEpoch e s) = u at hret hregs hnow
    have hepoch : u.epoch = (atReturnEpoch e s).epoch := congrArg (· / 50) hnow
    have hstat : u.fg R.SMP_STAT_RCK = (atReturnEpoch e s).fg R.SMP_STAT_RCK := State.fg_congr _ (State.reg_congr hregs _)
    exact ⟨hstat.trans hrck, hepoch ▸ hret⟩

end Sys2Proof.Machine

/-! # A stalled crossing whose stage-in was asked for at a port that does not exist (R42) -/

namespace Sys2Proof.Machine

/-- A reset state in which a stage-in into plot 2 is under way. The request is recorded as one of host port 8192, in mode 2:
no station has this port, but the statement speaks of every state, and the address that the model gives this port's count of
frames sent is that of the fault record of island 2. -/
def strayLoadState : State :=
  { State.reset with
    arr := { loads := [{ req := some { via := .host 8192 }, plots := [(2, 1)] }] }
    trv := { ports := [(8192, { mode := 2 })] } }

/-- The fault source is set, and counting the TIMEOUT reply carries its bit away. -/
theorem strayLoadState_unraised : (crossingStall 2 strayLoadState).reg (R.FLT_ISL 2) = 2 := by decide +kernel

/-- Refutes O3, by its clause of the stalled crossing: a plot's stall ends the stage-in with a reply, and the count of a
reply to a port that does not exist overwrites the record of source 0x20. -/
theorem not_islandAndOscillatorEventsTakeEffect : ¬ Obligations.IslandAndOscillatorEventsTakeEffect := by
  rintro ⟨-, -, -, -, hstall, -⟩
  obtain ⟨t, hrun, hraised, -⟩ := hstall 2 strayLoadState (by decide)
  cases hrun
  have hcleared : ((crossingStall 2 strayLoadState).reg (R.FLT_ISL 2)).toNat.testBit (faultBit 0x20) = false := by
    rw [strayLoadState_unraised]
    decide
  exact Bool.false_ne_true (hcleared.symm.trans hraised)

end Sys2Proof.Machine

/-! # The main converters' commands (R31, R60 to R74, R95, R96) -/

namespace Sys2Proof.Machine

/-! ## What the converters' operations keep -/

/-- Between `s` and `t` the converters worked: outside the registers listed nothing reads otherwise, and neither the datum,
the non-volatile memory, the power domains, the writes that wait nor the epochs in the pipeline changed. -/
structure Sampling (l : List Nat) (s t : State) : Prop where
  regs : SameRegs l s t
  now : t.now = s.now
  nv : t.nv = s.nv
  dom : t.dom = s.dom
  pend : t.smp.pend = s.smp.pend
  epochs : t.smp.pipe.map (·.epoch) = s.smp.pipe.map (·.epoch)

theorem Sampling.refl (l : List Nat) (s : State) : Sampling l s s := ⟨.refl l s, rfl, rfl, rfl, rfl, rfl⟩

theorem Sampling.trans {l : List Nat} {s t u : State} (h : Sampling l s t) (h' : Sampling l t u) : Sampling l s u :=
  ⟨h.regs.trans h'.regs, h'.now.trans h.now, h'.nv.trans h.nv, h'.dom.trans h.dom, h'.pend.trans h.pend,
    h'.epochs.trans h.epochs⟩

theorem Sampling.mono {l l' : List Nat} {s t : State} (h : Sampling l s t) (hl : ∀ a ∈ l, a ∈ l') : Sampling l' s t :=
  { h with regs := h.regs.mono hl }

theorem Sampling.foldl {α : Type} {l : List Nat} (as : List α) (f : State → α → State) (s : State)
    (h : ∀ t, ∀ a ∈ as, Sampling l t (f t a)) : Sampling l s (as.foldl f s) :=
  List.foldlRecOn (motive := Sampling l s) as f (.refl l s) fun t ht a ha => ht.trans (h t a ha)

theorem Sampling.foldl_fst {α β : Type} {l : List Nat} (as : List α) (f : State × β → α → State × β) (x : State × β)
    (h : ∀ y a, Sampling l y.1 (f y a).1) : Sampling l x.1 (as.foldl f x).1 :=
  List.foldlRecOn (motive := fun y : State × β => Sampling l x.1 y.1) as f (.refl l x.1) fun y hy a _ => hy.trans (h y a)

theorem Sampling.setReg {l : List Nat} (s : State) {a : Nat} (v : Word) (h : a ∈ l) : Sampling l s (s.setReg a v) :=
  ⟨fun _ hb => State.reg_setReg_ne _ _ fun hba => hb (hba ▸ h), rfl, rfl, rfl, rfl, rfl⟩

theorem Sampling.fs {l : List Nat} (s : State) (f : Fld) (v : Nat) (h : f.adr ∈ l) : Sampling l s (s.fs f v) :=
  .setReg s _ h

/-- A change of the converters' own records. -/
theorem Sampling.of_smp (l : List Nat) (s : State) (m : Smp) (hpend : m.pend = s.smp.pend)
    (hpipe : m.pipe.map (·.epoch) = s.smp.pipe.map (·.epoch)) : Sampling l s { s with smp := m } :=
  ⟨.refl l s, rfl, rfl, rfl, hpend, hpipe⟩

/-- What is done to the entries of one epoch leaves the epochs. -/
theorem map_epoch_update (l : List PipeEnt) (p : PipeEnt → Bool) (g : PipeEnt → PipeEnt) (hg : ∀ x, (g x).epoch = x.epoch) :
    (l.map fun x => if p x then g x else x).map (·.epoch) = l.map (·.epoch) := by
  rw [List.map_map]
  refine List.map_congr_left fun x _ => ?_
  simp only [Function.comp_apply]
  split
  · exact hg x
  · rfl

theorem setAvg_sampling (l : List Nat) (n : Nat) (a : Avg) (s : State) : Sampling l s (s.setAvg n a) := .of_smp l s _ rfl rfl

theorem settleUntil_sampling (l : List Nat) (n e : Nat) (s : State) : Sampling l s (settleUntil n e s) :=
  .of_smp l s _ rfl rfl

theorem patchWord_sampling (l : List Nat) (e n w : Nat) (s : State) : Sampling l s (patchWord e n w s) := by
  refine .of_smp l s _ rfl ?_
  simpa using map_epoch_update s.smp.pipe (fun p => decide (p.epoch = e)) (fun p => { p with words := p.words.set (n - 1) w })
    fun _ => rfl

theorem formWindow_sampling (l : List Nat) (n : Nat) (s : State) : Sampling l s (formWindow n s) := by
  unfold formWindow
  extract_lets a
  split
  · split
    · exact (patchWord_sampling ..).trans (setAvg_sampling ..)
    · exact setAvg_sampling ..
  · exact .refl l s

theorem formWindows_sampling (l : List Nat) (s : State) : Sampling l s (formWindows s) :=
  .foldl _ _ s fun t n _ => formWindow_sampling l n t

theorem cutWindows_sampling (l : List Nat) (old : Nat) (s : State) : Sampling l s (cutWindows old s) := by
  unfold cutWindows
  extract_lets e last
  refine .foldl _ _ s fun t n _ => ?_
  extract_lets a t1 w
  have h1 : Sampling l t t1 := by
    unfold t1
    split
    · exact patchWord_sampling ..
    · exact .refl l t
  exact h1.trans (setAvg_sampling ..)

theorem sendUp_sampling (l : List Nat) (k : Nat) (a : List Nat) (s : State) : Sampling l s (sendUp k a s) :=
  ⟨fun _ _ => sendUp_reg .., sendUp_now .., sendUp_nv .., sendUp_dom .., by rw [sendUp_smp], by rw [sendUp_smp]⟩

/-- The registers of the loss of liveness (R82, R83). -/
def liveRegs : List Nat := [R.SMP_AXSTAT, R.FLT_ISL islSSV, R.FLT_STAT]

theorem liveRaise_sampling (param : Nat) (s : State) : Sampling liveRegs s (s.raise 0x37 islSSV param) := by
  refine ⟨fun a ha => ?_, State.raise_now .., State.raise_nv .., State.raise_dom .., by rw [State.raise_smp],
    by rw [State.raise_smp]⟩
  obtain ⟨-, hisl, hstat⟩ : a ≠ R.SMP_AXSTAT ∧ a ≠ R.FLT_ISL islSSV ∧ a ≠ R.FLT_STAT := by simpa [liveRegs] using ha
  exact State.raise_reg _ _ _ _ _ hisl hstat

theorem liveLoss_sampling (m : Nat) (s : State) : Sampling liveRegs s (liveLoss m s) := by
  unfold liveLoss
  split
  · exact .refl _ s
  · extract_lets s1 s2
    have h1 : Sampling liveRegs s s1 :=
      (Sampling.fs s R.SMP_AXSTAT_LIVE _ (by decide)).trans (.fs _ R.SMP_AXSTAT_LOST _ (by decide))
    have h2 : Sampling liveRegs s s2 := h1.trans (sendUp_sampling ..)
    split
    · split
      · exact h2
      · exact h2.trans (liveRaise_sampling ..)
    · exact h1

/-- The count of good dither periods starts again. -/
theorem undithered_sampling (l : List Nat) (m : Nat) (s : State) :
    Sampling l s { s with smp := { s.smp with dith := Smap.set (fun _ => 0) s.smp.dith m 0 } } := .of_smp l s _ rfl rfl

theorem liveRateCheck_sampling (s : State) : Sampling liveRegs s (liveRateCheck s) := by
  refine .foldl _ _ s fun t m _ => ?_
  split
  · exact .refl _ t
  · exact (undithered_sampling _ m t).trans (liveLoss_sampling m _)

/-! ## The rate in force (R31, R60, R74) -/

/-- The registers of a change of rate. -/
def rateRegs : List Nat := R.SMP_STAT :: R.SWC_STAT :: liveRegs

theorem restartWindows_sampling (l : List Nat) (atBoundary : Bool) (old : Nat) (s : State) :
    Sampling l s (if atBoundary then (upTo 52).foldl (fun t n => t.setAvg n {}) s else cutWindows old s) := by
  split
  · exact .foldl _ _ s fun t n _ => setAvg_sampling l n {} t
  · exact cutWindows_sampling ..

theorem updateRate_change {b : Bool} {s : State} (h : (rateInForce s).1 ≠ s.fg R.SMP_STAT_RATE) :
    ∃ u, u = ((formWindows s).fs R.SMP_STAT_RATE (rateInForce s).1).fs R.SMP_STAT_RATESRC (rateInForce s).2 ∧
      Sampling (R.SWC_STAT :: liveRegs) u (updateRate b s) := by
  refine ⟨_, rfl, ?_⟩
  rw [updateRate]
  simp only [if_neg h]
  generalize ((formWindows s).fs R.SMP_STAT_RATE (rateInForce s).1).fs R.SMP_STAT_RATESRC (rateInForce s).2 = u
  have hplna : Sampling (R.SWC_STAT :: liveRegs) u (updatePlna u) := .fs u R.SWC_STAT_PLNA _ (by decide)
  exact (hplna.trans (restartWindows_sampling _ b _ _)).trans
    ((liveRateCheck_sampling _).mono fun a ha => List.mem_cons_of_mem _ ha)

theorem updateRate_sampling (b : Bool) (s : State) : Sampling rateRegs s (updateRate b s) := by
  by_cases h : (rateInForce s).1 = s.fg R.SMP_STAT_RATE
  · rw [updateRate_same h]
    exact .fs s R.SMP_STAT_RATESRC _ (by decide)
  · obtain ⟨u, rfl, hu⟩ := updateRate_change (b := b) h
    have hset : Sampling rateRegs s _ := (formWindows_sampling _ s).trans
      ((Sampling.fs _ R.SMP_STAT_RATE (rateInForce s).1 (by decide)).trans
        (.fs _ R.SMP_STAT_RATESRC (rateInForce s).2 (by decide)))
    exact hset.trans (hu.mono fun a ha => List.mem_cons_of_mem _ ha)

/-- The rate and its source are those of R60, which both fields can hold. -/
theorem rateInForce_fits {s : State} (h : s.smp.thermRate ≤ 3) : (rateInForce s).1 < 4 ∧ (rateInForce s).2 < 4 := by
  have hctrl : s.fg R.SMP_CTRL_RATE < 4 := State.fg_lt s R.SMP_CTRL_RATE
  have hbar : ∀ b, barrierRate s = some b → b ≤ 2 := by
    intro b hb
    unfold barrierRate at hb
    split at hb
    · cases hb; omega
    · split at hb
      · cases hb; omega
      · split at hb <;> cases hb
        omega
  unfold rateInForce
  split
  · exact ⟨by dsimp only; omega, Nat.one_lt_ofNat⟩
  next b hb =>
    have := hbar b hb
    refine ⟨by simp only; omega, ?_⟩
    dsimp only
    split
    · decide
    · split <;> decide

theorem updateRate_shown (b : Bool) {s : State} (h : s.smp.thermRate ≤ 3) :
    ((updateRate b s).fg R.SMP_STAT_RATE, (updateRate b s).fg R.SMP_STAT_RATESRC) = rateInForce s := by
  obtain ⟨hrate, hsrc⟩ := rateInForce_fits h
  by_cases hsame : (rateInForce s).1 = s.fg R.SMP_STAT_RATE
  · rw [updateRate_same hsame, State.fg_fs_same _ R.SMP_STAT_RATESRC _ (by decide),
      State.fg_fs_disj _ R.SMP_STAT_RATESRC R.SMP_STAT_RATE _ (by decide) rfl (by decide), ← hsame]
    exact Prod.ext rfl (Nat.mod_eq_of_lt hsrc)
  · obtain ⟨u, rfl, hu⟩ := updateRate_change (b := b) hsame
    have hstat := hu.regs R.SMP_STAT (by decide)
    rw [State.fg_congr R.SMP_STAT_RATE hstat, State.fg_congr R.SMP_STAT_RATESRC hstat,
      State.fg_fs_same _ R.SMP_STAT_RATESRC _ (by decide),
      State.fg_fs_disj _ R.SMP_STAT_RATESRC R.SMP_STAT_RATE _ (by decide) rfl (by decide),
      State.fg_fs_same _ R.SMP_STAT_RATE _ (by decide)]
    exact Prod.ext (Nat.mod_eq_of_lt hrate) (Nat.mod_eq_of_lt hsrc)

/-! ## One aperture (R58 to R74) -/

theorem updateCoh_sampling (s : State) : Sampling [R.SMP_STAT, R.DTM_STAT] s (updateCoh s) :=
  ⟨updateCoh_sameRegs s, by rw [updateCoh_frame], by rw [updateCoh_frame], by rw [updateCoh_frame],
    by rw [updateCoh_frame], by rw [updateCoh_frame]⟩

theorem calFinish_sampling (s : State) : Sampling [R.SMP_STAT] s (calFinish s) := by
  unfold calFinish
  split
  · split
    · have hbusy : ∀ t : State, Sampling [R.SMP_STAT] t (t.fs R.SMP_STAT_CALBUSY 0) := fun t => .fs t _ _ (by decide)
      have hch : ∀ t : State, Sampling [R.SMP_STAT] t (t.fs R.SMP_STAT_CALCH 0) := fun t => .fs t _ _ (by decide)
      refine Sampling.trans (Sampling.trans ?_ (hbusy _)) (hch _)
      exact .of_smp _ s _ rfl rfl
    · exact .refl _ s
  · exact .refl _ s

theorem refSend_sampling (l : List Nat) (s : State) : Sampling l s (refSend s) := by
  unfold refSend
  split
  · have hsent := Sampling.foldl s.smp.refQ (fun t w => sendUp mCREF [w] t) s fun t w _ => sendUp_sampling l mCREF [w] t
    exact hsent.trans (.of_smp l _ _ hsent.pend.symm hsent.epochs.symm)
  · exact .refl l s

theorem refComplete_sampling (l : List Nat) (s : State) : Sampling l s (refComplete s) := by
  unfold refComplete
  extract_lets w q
  refine Sampling.trans ?_ (refSend_sampling l _)
  exact .of_smp l s _ rfl rfl

theorem refSample_sampling (l : List Nat) (p : PipeEnt) (s : State) : Sampling l s (refSample p s) := by
  unfold refSample
  extract_lets e b s1 smp1 s1' smp2 s2
  have h1 : Sampling l s s1 := by
    unfold s1
    split
    · exact refComplete_sampling ..
    · exact .refl l s
  have h2 : Sampling l s s2 := by
    refine (h1.trans (.of_smp l s1 _ rfl rfl : Sampling l s1 s1')).trans ?_
    unfold s2
    split
    · exact .refl l s1'
    · exact .of_smp l s1' _ rfl rfl
  split
  · exact h2
  · exact h2.trans (.of_smp l s2 _ rfl rfl)

theorem avgAdd_sampling (l : List Nat) (n e : Nat) (x : Except Nat (Int × Bool × Bool)) (s : State) :
    Sampling l s (avgAdd n e x s) := setAvg_sampling ..

theorem taps_sampling (l : List Nat) (n e : Nat) (x : Except Nat (Int × Bool × Bool)) (s : State) :
    Sampling l s (taps n e x s) := by
  unfold taps
  extract_lets chk ent
  split
  · exact ⟨.refl l s, rfl, rfl, rfl, rfl, rfl⟩
  · exact .refl l s

theorem convert_sampling (l : List Nat) (e seed : Nat) (inputs : List Int) (n : Nat) (s : State) :
    Sampling l s (convert e seed inputs n s).1 := by
  unfold convert
  extract_lets src r ems x smp1 s1
  have h1 : Sampling l s s1 := by
    unfold s1
    split
    · split
      · exact .refl l s
      · split
        · exact .of_smp l s _ rfl rfl
        · split
          · exact .of_smp l s _ rfl rfl
          · exact .refl l s
    · exact .refl l s
  exact h1.trans ((taps_sampling l n e x s1).trans (avgAdd_sampling l n e x _))

theorem liveStale_sampling (n : Nat) (x : Except Nat (Int × Bool × Bool)) (s : State) :
    Sampling liveRegs s (liveStale n x s) := by
  unfold liveStale
  split
  · split
    · exact (undithered_sampling _ (n - 48) s).trans (liveLoss_sampling _ _)
    · exact .refl _ s
  · exact .refl _ s

theorem crossAdd_sampling (l : List Nat) (ws : List (Nat × Except Nat (Int × Bool × Bool))) (s : State) :
    Sampling l s (crossAdd ws s) := by
  unfold crossAdd
  extract_lets j find
  split
  · exact .of_smp l s _ rfl rfl
  · exact .refl l s

theorem convertAll_sampling (e : Nat) (inputs : List Int) (s : State) : Sampling liveRegs s (convertAll e inputs s) := by
  unfold convertAll
  extract_lets seed r ax s1
  have hseed : Sampling liveRegs s { s with freeCtr := seed + 53 } := ⟨.refl _ s, rfl, rfl, rfl, rfl, rfl⟩
  have hr : Sampling liveRegs s r.1 := by
    refine hseed.trans ?_
    unfold r
    refine Sampling.foldl_fst (upTo 52) _ ({ s with freeCtr := seed + 53 }, []) fun acc n => ?_
    exact (convert_sampling liveRegs e seed inputs n acc.1).trans (liveStale_sampling n _ _)
  have h1 : Sampling liveRegs s s1 := hr.trans (crossAdd_sampling liveRegs r.2 r.1)
  clear_value s1 ax
  refine h1.trans (.of_smp _ s1 _ rfl ?_)
  simpa using map_epoch_update s1.smp.pipe (fun p => decide (p.epoch = e)) (fun p => { p with ax := ax }) fun _ => rfl

/-! ## Configuration boundaries (R69, R80) -/

theorem crossRelease_sampling (e : Nat) (s : State) : Sampling [R.SMP_STAT] s (crossRelease e s) := by
  unfold crossRelease
  extract_lets j smp1 s1
  have h1 : Sampling [R.SMP_STAT] s s1 := .of_smp _ s _ rfl rfl
  split
  · exact h1
  · exact h1.trans ((Sampling.fs s1 R.SMP_STAT_XCH 0 (by decide)).trans (settleUntil_sampling ..))

theorem crossAbort_sampling (s : State) : Sampling [R.SMP_STAT, R.SMP_XSTAT] s (crossAbort s) := by
  unfold crossAbort
  split
  · exact (Sampling.fs s R.SMP_XSTAT_VALID 0 (by decide)).trans
      ((crossRelease_sampling s.nextEpoch _).mono fun a ha => List.mem_append_left [R.SMP_XSTAT] ha)
  · exact .refl _ s

/-- What waits for the boundary has been taken, at the datum of its aperture. -/
def boundaryState (e : Nat) (s : State) : State :=
  formWindows { s.until (50 * e) with smp := { s.smp with pend := [] } }

theorem configurationBoundary_one {e a : Nat} {v : Word} {s : State} (hpend : s.smp.pend = [(e, a, v)])
    (hmul : e % 1024 = 0) (hahead : s.epoch ≤ e) :
    configurationBoundary e s =
      liveRateCheck (updateRate true ((applyCfg a v (boundaryState e s)).fs R.SMP_CFGEPOCH_EPOCH e)) := by
  have hnow : ¬(e % 1024 ≠ 0 ∨ e < s.epoch) := by omega
  simp [configurationBoundary, hnow, hpend, boundaryState]

theorem boundaryState_spec (e : Nat) (s : State) :
    (boundaryState e s).smp.pend = [] ∧ (boundaryState e s).now = max s.now (50 * e) := by
  have h := formWindows_sampling [] { s.until (50 * e) with smp := { s.smp with pend := [] } }
  unfold boundaryState
  generalize formWindows { s.until (50 * e) with smp := { s.smp with pend := [] } } = u at h
  refine ⟨h.pend, h.now.trans ?_⟩
  change s.now + (50 * e - s.now) = _
  omega

/-- SMP_XCFG takes its word; a CROSS round that it ends leaves the writes that wait. -/
theorem applyCfg_xcfg (v : Word) (s : State) :
    (applyCfg R.SMP_XCFG v s).reg R.SMP_XCFG = v ∧ Sampling [R.SMP_STAT, R.SMP_XSTAT, R.SMP_XCFG] s (applyCfg R.SMP_XCFG v s) := by
  have hrow : applyCfg R.SMP_XCFG v s =
      (if s.reg R.SMP_XCFG = v then s else crossAbort s).setReg R.SMP_XCFG v := rfl
  have hround : Sampling [R.SMP_STAT, R.SMP_XSTAT, R.SMP_XCFG] s (if s.reg R.SMP_XCFG = v then s else crossAbort s) := by
    split
    · exact .refl _ s
    · exact (crossAbort_sampling s).mono fun a ha => List.mem_append_left [R.SMP_XCFG] ha
  rw [hrow]
  exact ⟨State.reg_setReg_same .., hround.trans (.setReg _ v (by decide))⟩

theorem configurationBoundary_xcfg {e : Nat} {v : Word} {s : State} (hpend : s.smp.pend = [(e, R.SMP_XCFG, v)])
    (hmul : e % 1024 = 0) (hahead : s.epoch ≤ e) :
    (configurationBoundary e s).reg R.SMP_XCFG = v ∧
      (configurationBoundary e s).fg R.SMP_CFGEPOCH_EPOCH = e % 2 ^ 32 ∧
      (configurationBoundary e s).smp.pend = [] ∧ (configurationBoundary e s).now = max s.now (50 * e) := by
  rw [configurationBoundary_one hpend hmul hahead]
  obtain ⟨hnone, hdatum⟩ := boundaryState_spec e s
  obtain ⟨hword, happlied⟩ := applyCfg_xcfg v (boundaryState e s)
  have hnamed : ((applyCfg R.SMP_XCFG v (boundaryState e s)).fs R.SMP_CFGEPOCH_EPOCH e).fg R.SMP_CFGEPOCH_EPOCH = e % 2 ^ 32 :=
    State.fg_fs_same _ _ _ (by decide)
  have hshown := State.reg_fs_ne (applyCfg R.SMP_XCFG v (boundaryState e s)) R.SMP_CFGEPOCH_EPOCH e
    (show R.SMP_XCFG ≠ R.SMP_CFGEPOCH_EPOCH.adr by decide)
  have hepoch : Sampling [R.SMP_CFGEPOCH] (applyCfg R.SMP_XCFG v (boundaryState e s)) _ :=
    .fs _ R.SMP_CFGEPOCH_EPOCH e (by decide)
  generalize (applyCfg R.SMP_XCFG v (boundaryState e s)).fs R.SMP_CFGEPOCH_EPOCH e = u at hnamed hshown hepoch
  have hrate : Sampling rateRegs u (liveRateCheck (updateRate true u)) :=
    (updateRate_sampling true u).trans ((liveRateCheck_sampling _).mono (by decide))
  exact ⟨(hrate.regs _ (by decide)).trans (hshown.trans hword),
    (State.fg_congr R.SMP_CFGEPOCH_EPOCH (hrate.regs _ (by decide))).trans hnamed,
    hrate.pend.trans (hepoch.pend.trans (happlied.pend.trans hnone)),
    hrate.now.trans (hepoch.now.trans (happlied.now.trans hdatum))⟩

/-! ## The aperture's entry (R58) -/

theorem epochAperture_spec (e : Nat) (inputs : List Int) (s : State) :
    (epochAperture e inputs s).now = max s.now (50 * e) ∧
      ((epochAperture e inputs s).smp.pipe.getLast?.map fun p => p.epoch) = some e ∧
      (epochAperture e inputs s).nv = s.nv ∧ (epochAperture e inputs s).dom = s.dom := by
  unfold epochAperture
  extract_lets s1 gone keep blank conv ent smp1 s2 s3
  obtain ⟨-, rg, o, un, bl, ex, sv, hbal⟩ := balMature_bleeds (s.until (50 * e))
  have h1 : Sampling [R.SMP_STAT, R.DTM_STAT] (balMature (s.until (50 * e))) s1 :=
    ((updateCoh_sampling _).trans ((calFinish_sampling _).mono (by decide))).trans (formWindows_sampling _ _)
  have hnow : s1.now = max s.now (50 * e) := by
    rw [h1.now, hbal]
    change s.now + (50 * e - s.now) = _
    omega
  have hnv : s1.nv = s.nv := by rw [h1.nv, hbal]; rfl
  have hdom : s1.dom = s.dom := by rw [h1.dom, hbal]; rfl
  clear_value s1
  have h3 : Sampling liveRegs s2 s3 := by
    unfold s3
    split
    · exact .foldl gone _ s2 fun t p _ => refSample_sampling _ p t
    · exact .refl _ s2
  have h4 : Sampling liveRegs s2 (if conv then convertAll e inputs s3 else s3) := by
    split
    · exact h3.trans (convertAll_sampling ..)
    · exact h3
  have hpipe : s2.smp.pipe = keep ++ [ent] := rfl
  have hlast : ent.epoch = e := rfl
  refine ⟨h4.now.trans hnow, ?_, h4.nv.trans hnv, h4.dom.trans hdom⟩
  rw [← List.getLast?_map, h4.epochs, hpipe, List.map_append, List.map_singleton, List.getLast?_concat, hlast]

/-! ## Register rows (R69, R95, R96) -/

theorem direct_of_none {a : Nat} {v : Word} {f : Word → State → Stat × State} {s : State} (h : accessCheck s a v = none) :
    direct a v f s = (f v s).2.done (f v s).1 := by
  simp only [direct, h]

/-- The completion that `direct` records. -/
theorem State.done_lastOut (s : State) (t : Stat) (v : Nat) :
    (s.done t v).lastOut = some { ch := .status, args := [t.code, t.reason, v] } := List.getLast?_concat

theorem wf_lt (v : Word) (f : Fld) : wf v f < 2 ^ f.w := bitsOf_lt ..

/-- Converter domains are no plots and not the sweep converter: a request for one changes no register. -/
theorem domReq_regs (on_ : Bool) {d : Nat} (hlo : 128 ≤ d) (hhi : d < 191) (s : State) :
    (domReq on_ d s).regs = s.regs := by
  cases on_ with
  | true =>
    change (domReqOn d s).regs = s.regs
    obtain h | ⟨-, h⟩ | h | ⟨v, h⟩ := domReqOn_cases d s
    · rw [h]
    · rw [h, beginOn_eq, if_neg fun hplot => absurd hplot.1 (by omega)]
    · rw [h]
    · rw [h]; rfl
  | false =>
    have hsweep : (d == domSWEEP) = false := beq_false_of_ne (Nat.ne_of_lt hhi)
    simp only [domReq, Bool.false_eq_true, if_false, domReqOff, hsweep]
    split
    · rfl
    · split
      · rfl
      · split <;> rfl

/-- The requests of an enable register's channels change no register. -/
theorem smpChenWrite_regs {i : Nat} (v : Word) (s : State) (h : i < 2) :
    (smpChenWrite i v s).2.regs = (s.setReg (if i = 0 then R.SMP_CHEN0 else R.SMP_CHEN1) v).regs := by
  unfold smpChenWrite
  extract_lets a d s1
  refine List.foldlRecOn (motive := fun t : State => t.regs = s1.regs) _ _ rfl fun t ht b hb => ?_
  have hb : b < if i = 0 then 32 else 20 := List.mem_range.1 hb
  split
  · refine (domReq_regs _ ?_ ?_ t).trans ht
    · unfold domCV; omega
    · unfold domCV
      split at hb <;> omega
  · exact ht

/-- An enable register takes its word. -/
theorem smpChenWrite_spec {i a : Nat} {v : Word} {s : State} (hi : i < 2)
    (hrow : a = if i = 0 then R.SMP_CHEN0 else R.SMP_CHEN1) (h : accessCheck s a v = none) :
    (direct a v (smpChenWrite i) s).reg a = v ∧ SameRegs [a] s (direct a v (smpChenWrite i) s) ∧
      (direct a v (smpChenWrite i) s).lastOut = some { ch := .status, args := [0, 0, 0] } := by
  have hregs : (direct a v (smpChenWrite i) s).regs = (s.setReg a v).regs := by
    rw [direct_of_none h, hrow]
    exact smpChenWrite_regs v s hi
  refine ⟨(State.reg_congr hregs a).trans (State.reg_setReg_same ..), fun b hb => ?_, ?_⟩
  · exact (State.reg_congr hregs b).trans (State.reg_setReg_ne _ _ (List.ne_of_not_mem_cons hb))
  · rw [direct_of_none h]
    exact State.done_lastOut ..

/-- SMP_CTRL: RUN and AUTOCAL at once, and the write waits for the boundary. -/
theorem smpCtrlWrite_spec (v : Word) (s : State) :
    (smpCtrlWrite v s).2.fg R.SMP_CTRL_RUN = wf v R.SMP_CTRL_RUN ∧
      (smpCtrlWrite v s).2.fg R.SMP_CTRL_AUTOCAL = wf v R.SMP_CTRL_AUTOCAL ∧
      SameRegs [R.SMP_CTRL] s (smpCtrlWrite v s).2 := by
  have hfg : ∀ f, (smpCtrlWrite v s).2.fg f =
      ((s.fs R.SMP_CTRL_RUN (wf v R.SMP_CTRL_RUN)).fs R.SMP_CTRL_AUTOCAL (wf v R.SMP_CTRL_AUTOCAL)).fg f :=
    fun f => State.fg_congr f (State.reg_congr rfl _)
  refine ⟨?_, ?_, fun a ha => ?_⟩
  · rw [hfg, State.fg_fs_disj _ R.SMP_CTRL_AUTOCAL R.SMP_CTRL_RUN _ (by decide) rfl (by decide),
      State.fg_fs_same _ _ _ (by decide)]
    exact Nat.mod_eq_of_lt (wf_lt v R.SMP_CTRL_RUN)
  · rw [hfg, State.fg_fs_same _ _ _ (by decide)]
    exact Nat.mod_eq_of_lt (wf_lt v R.SMP_CTRL_AUTOCAL)
  · have hne := List.ne_of_not_mem_cons ha
    exact (State.reg_fs_ne _ R.SMP_CTRL_AUTOCAL _ hne).trans (State.reg_fs_ne s R.SMP_CTRL_RUN _ hne)

/-! ## Bursts, settling and windows (R66, R68, R73) -/

theorem emsMark_frame (n d : Nat) (s : State) :
    ∃ sm sw, emsMark n d s = { s with smp := sm, swp := sw } ∧ sm.ems = s.smp.ems := by
  unfold emsMark
  extract_lets k w hit mark markAx a smp1 s1 s2
  have h2 : ∃ sm, s2 = { s with smp := sm } ∧ sm.ems = s.smp.ems := by
    unfold s2
    split
    · exact ⟨_, rfl, rfl⟩
    · exact ⟨_, rfl, rfl⟩
  obtain ⟨sm, h2, hems⟩ := h2
  clear_value s2
  subst h2
  split
  · exact ⟨_, _, rfl, hems⟩
  · exact ⟨_, _, rfl, hems⟩

theorem emsBurst_spec {n d : Nat} {s : State} (h : s.fg R.SMP_EMS_THR ≠ 0) :
    ∃ sm sw, emsBurst n d s = { s with smp := sm, swp := sw } ∧
      Smap.get (fun _ => 0) sm.ems n = max (Smap.get (fun _ => 0) s.smp.ems n) (d + s.fg R.SMP_EMS_HOLD + 1) := by
  simp only [emsBurst, if_neg h]
  generalize max (Smap.get (fun _ => 0) s.smp.ems n) (d + s.fg R.SMP_EMS_HOLD + 1) = upto
  obtain ⟨sm, sw, hmark, hems⟩ :=
    emsMark_frame n d { s with smp := { s.smp with ems := Smap.set (fun _ => 0) s.smp.ems n upto } }
  refine ⟨sm, sw, hmark, ?_⟩
  rw [hems]
  exact Smap.get_set_same ..

theorem converterSettled_spec {n : Nat} {s : State} (h : Smap.get (fun _ => 0) s.smp.settle n ≤ s.epoch)
    (hcal : s.smp.cal = none) :
    converterSettled n s = settleUntil n 0 s := by
  have hcal : (settleUntil n 0 s).smp.cal = none := hcal
  simp [converterSettled, h, calFinish, hcal]

theorem formWindow_full {n : Nat} {p : PipeEnt} {s : State} (hfull : (s.avgOf n).full = true)
    (hlast : s.smp.pipe.getLast? = some p) :
    formWindow n s = (patchWord p.epoch n (windowWord s n (s.avgOf n)) s).setAvg n {} := by
  simp [formWindow, hfull, hlast]

theorem configurationBoundary_idle {e : Nat} {s : State} (hpend : s.smp.pend = []) (hmul : e % 1024 = 0)
    (hahead : s.epoch ≤ e) :
    configurationBoundary e s = s.until (50 * e) := by
  have hnow : ¬(e % 1024 ≠ 0 ∨ e < s.epoch) := by omega
  simp [configurationBoundary, hnow, hpend]

/-! ## The obligation -/

/-- A command whose meaning keeps the queue and the variant ends in exactly what its function gives. -/
theorem exec_of_run_eq {c : Instr} {f : State → State} {s t : State} (h : exec c s = run f s) (hf : f s = t)
    (hpending : t.pending = s.pending) (hvariant : t.variant = s.variant) : exec c s = .next t := by
  rw [h, run, hf, ← hpending, ← hvariant]

/-- Settles O6: a case for each command, by the rule of its own. -/
theorem converterCommandsTakeEffect : Obligations.ConverterCommandsTakeEffect := by
  refine ⟨?aperture, ?ctrl, ?chen0, ?chen1, ?ems, ?burst, ?idle, ?xcfg, ?settled, ?rate, ?window⟩
  case aperture =>
    intro e inputs s
    have h := epochAperture_spec e inputs s
    refine Does.of_run (f := epochAperture e inputs) rfl ?_
    generalize epochAperture e inputs s = u at h
    exact h
  case ctrl =>
    intro v s hfree
    obtain ⟨hrun, hauto, hregs⟩ := smpCtrlWrite_spec v s
    refine Does.of_run (f := direct R.SMP_CTRL v smpCtrlWrite) rfl ?_
    rw [direct_of_none hfree]
    exact ⟨hrun, hauto, rfl, State.done_lastOut .., hregs, rfl⟩
  case chen0 =>
    intro v s hfree
    have h := smpChenWrite_spec (i := 0) (a := R.SMP_CHEN0) (by decide) rfl hfree
    refine Does.of_run (f := direct R.SMP_CHEN0 v (smpChenWrite 0)) rfl ?_
    generalize direct R.SMP_CHEN0 v (smpChenWrite 0) s = u at h
    exact h
  case chen1 =>
    intro v s hfree
    have h := smpChenWrite_spec (i := 1) (a := R.SMP_CHEN1) (by decide) rfl hfree
    refine Does.of_run (f := direct R.SMP_CHEN1 v (smpChenWrite 1)) rfl ?_
    generalize direct R.SMP_CHEN1 v (smpChenWrite 1) s = u at h
    exact h
  case ems =>
    intro v s hfree
    exact exec_of_run_eq (f := direct R.SMP_EMS v smpEmsWrite) rfl (direct_of_none hfree) rfl rfl
  case burst =>
    intro n d s hthr
    obtain ⟨sm, sw, hframe, hems⟩ := emsBurst_spec (n := n.val + 1) (d := d) hthr
    refine Does.of_run (f := emsBurst (n.val + 1) d) rfl ?_
    rw [hframe]
    exact ⟨hems, rfl, rfl⟩
  case idle =>
    intro e s hpend hmul hahead
    exact exec_of_run_eq (f := configurationBoundary e) rfl (configurationBoundary_idle hpend hmul hahead) rfl rfl
  case xcfg =>
    intro e v s hpend hmul hahead
    have h := configurationBoundary_xcfg hpend hmul hahead
    refine Does.of_run (f := configurationBoundary e) rfl ?_
    generalize configurationBoundary e s = u at h
    exact h
  case settled =>
    intro n s hended hcal
    refine Does.of_run (f := converterSettled (n.val + 1)) rfl ?_
    rw [converterSettled_spec hended hcal]
    exact ⟨Smap.get_set_same (fun _ => 0) s.smp.settle _ 0, fun j hj => Smap.get_set_ne (fun _ => 0) s.smp.settle 0 hj, rfl⟩
  case rate =>
    intro s htherm
    have hshown := updateRate_shown false htherm
    have hnv := (updateRate_sampling false s).nv
    refine Does.of_run (f := updateRate false) rfl ?_
    generalize updateRate false s = u at hshown hnv
    exact ⟨hshown, hnv⟩
  case window =>
    intro n p s hfull hlast
    exact exec_of_run_eq (f := averagingWindowEnd (n.val + 1)) rfl (formWindow_full hfull hlast) rfl rfl

end Sys2Proof.Machine

/-! # CROSS rounds, dither and the reference decimator (R76 to R85) -/

namespace Sys2Proof.Machine

/-! ## What a row does, a field write leaves, and windows that end -/

/-- What a row's rule does is what the row does, for a claim that the host's own fields do not touch. -/
theorem Does.of_rule {c : Instr} {f : State → State} {s : State} {P : State → Prop} (h : exec c s = run f s)
    (hkeep : ∀ t, P t → P { t with pending := s.pending, variant := s.variant }) (hP : P (f s)) : Does c s P :=
  .of_run h (hkeep _ hP)

theorem State.fs_sameRegs {l : List Nat} (s : State) (f : Fld) (v : Nat) (h : f.adr ∈ l) : SameRegs l s (s.fs f v) :=
  fun _ ha => State.reg_fs_ne s f v fun he => ha (he ▸ h)

theorem State.cellBit_congr {s t : State} (h : t.regs = s.regs) (a0 a1 n : Nat) : t.cellBit a0 a1 n = s.cellBit a0 a1 n := by
  simp only [State.cellBit, State.reg_congr h]

theorem settleUntil_fg (n e : Nat) (f : Fld) (s : State) : (settleUntil n e s).fg f = s.fg f := rfl

theorem settleUntil_settle (n e : Nat) (s : State) : Smap.get (fun _ => 0) (settleUntil n e s).smp.settle n = e :=
  Smap.get_set_same (fun _ => 0) s.smp.settle n e

/-- Between `s` and `t` windows ended: only the pipeline and the averagers differ. -/
def WindowsEnded (s t : State) : Prop :=
  t = { s with smp := { s.smp with pipe := t.smp.pipe, avg := t.smp.avg } }

theorem formWindow_windowsEnded (n : Nat) (s : State) : WindowsEnded s (formWindow n s) := by
  unfold formWindow
  extract_lets a
  split
  · split <;> rfl
  · rfl

theorem formWindows_windowsEnded (s : State) : WindowsEnded s (formWindows s) := by
  refine List.foldlRecOn (motive := WindowsEnded s) _ _ rfl fun t ht n _ => ?_
  have hn := formWindow_windowsEnded n t
  unfold WindowsEnded at ht hn ⊢
  rw [hn, ht]

/-! ## The start of a CROSS round (R76, R77) -/

/-- Round `r` of `len` epochs is in progress and its converter settles on its partner's cell. -/
def crossRedirected (r len : Nat) (s : State) : State :=
  settleUntil (r % 48 + 1) (r * len + 32)
    ({ s with smp := { s.smp with xr := some { r := r, stop := (r + 1) * len } } }.fs R.SMP_STAT_XCH (r % 48 + 1))

theorem crossRoundStart_eq {r : Nat} {s : State} (hcross : s.fb R.SMP_STAT_XACT = true)
    (hj : s.cellBit R.SMP_CHEN0 R.SMP_CHEN1 (r % 48 + 1) = true)
    (hpartner : s.cellBit R.SMP_CHEN0 R.SMP_CHEN1 (partner (r % 48 + 1)) = true) (hcal : s.smp.cal = none)
    (hidle : s.smp.xr = none) (hahead : s.epoch ≤ r * (s.fg R.SMP_XCFG_ROUND * 1024)) :
    ∃ u, u.regs = s.regs ∧ crossRoundStart r s = crossRedirected r (s.fg R.SMP_XCFG_ROUND * 1024) u := by
  unfold crossRoundStart
  extract_lets j len u xr u1 calHere
  have hgo : ¬((!s.fb R.SMP_STAT_XACT) = true ∨ s.smp.xr.isSome = true ∨ r * len < s.epoch) := by
    simp [hcross, hidle, len, hahead]
  rw [if_neg hgo]
  have hwin : WindowsEnded _ u := formWindows_windowsEnded (s.until (50 * (r * len)))
  clear_value u
  have hregs : u.regs = s.regs := by rw [hwin]; rfl
  have hcal' : u1.smp.cal = none := by
    change u.smp.cal = none
    rw [hwin]; exact hcal
  have hcells : ∀ n, u1.cellBit R.SMP_CHEN0 R.SMP_CHEN1 n = s.cellBit R.SMP_CHEN0 R.SMP_CHEN1 n :=
    State.cellBit_congr hregs _ _
  refine ⟨u, hregs, if_pos ?_⟩
  simp [hcells, j, hj, hpartner, calHere, hcal']

theorem crossRedirected_spec (r len : Nat) (s : State) :
    (crossRedirected r len s).redirected = r % 48 + 1 ∧
      (crossRedirected r len s).smp.xr = some { r := r, stop := (r + 1) * len } ∧
      Smap.get (fun _ => 0) (crossRedirected r len s).smp.settle (r % 48 + 1) = r * len + 32 ∧
      SameRegs [R.SMP_STAT] s (crossRedirected r len s) := by
  refine ⟨?_, rfl, settleUntil_settle .., ?_⟩
  · rw [State.redirected, crossRedirected, settleUntil_fg, State.fg_fs_same _ R.SMP_STAT_XCH _ (by decide)]
    rw [show 2 ^ R.SMP_STAT_XCH.w = 64 from rfl]
    omega
  · have hround : Sampling [R.SMP_STAT] s { s with smp := { s.smp with xr := some { r := r, stop := (r + 1) * len } } } :=
      .of_smp _ s _ rfl rfl
    exact (hround.trans ((Sampling.fs _ R.SMP_STAT_XCH _ (by decide)).trans (settleUntil_sampling ..))).regs

/-! ## Its end (R78, R79, R99) -/

/-- The state in which a round ends: the datum at its stop, windows formed, the converter back on its own cell. -/
def crossEnded (k : XRound) (s : State) : State := crossRelease k.stop (formWindows (s.until (50 * k.stop)))

/-- The mean difference of a round, in the field's units (R79). -/
def crossDiff (k : XRound) : Int := clampS 16 ((2 * 10 * (k.chk - k.own) + k.n) / (2 * k.n))

/-- The state with a round's result in SMP_XSTAT. -/
def crossRecorded (cell : Nat) (d : Int) (s : State) : State :=
  ((s.fs R.SMP_XSTAT_CELL cell).fs R.SMP_XSTAT_VALID 1).fs R.SMP_XSTAT_DIFF (ofInt 16 d)

theorem crossEnded_sampling (k : XRound) (s : State) : Sampling [R.SMP_STAT] (s.until (50 * k.stop)) (crossEnded k s) :=
  (formWindows_sampling ..).trans (crossRelease_sampling ..)

theorem crossEnded_xr (k : XRound) (s : State) : (crossEnded k s).smp.xr = none := by
  unfold crossEnded crossRelease
  extract_lets
  split <;> rfl

theorem crossRelease_redirected (e : Nat) (s : State) : (crossRelease e s).redirected = 0 := by
  unfold crossRelease
  extract_lets j smp s1
  split
  case isTrue h => exact h
  case isFalse => rw [State.redirected, settleUntil_fg, State.fg_fs_same _ R.SMP_STAT_XCH _ (by decide), Nat.zero_mod]


theorem crossRoundEnd_unmeasured {k : XRound} {s : State} (hxr : s.smp.xr = some k)
    (h : s.redirected = 0 ∨ k.n < 1024) : crossRoundEnd s = (crossEnded k s).fs R.SMP_XSTAT_VALID 0 := by
  have hkept : (formWindows (s.until (50 * k.stop))).redirected = s.redirected := by
    rw [formWindows_windowsEnded (s.until (50 * k.stop))]; rfl
  unfold crossRoundEnd
  simp only [hxr, hkept, if_pos h]
  rfl

theorem State.until_datum (s : State) (t : Nat) : (s.until t).now = max s.now t := by
  change s.now + (t - s.now) = max s.now t
  omega

theorem crossEnded_now (k : XRound) (s : State) : (crossEnded k s).now = max s.now (50 * k.stop) :=
  (crossEnded_sampling k s).now.trans (State.until_datum ..)

theorem crossEnded_sameRegs (k : XRound) (s : State) : SameRegs [R.SMP_STAT] s (crossEnded k s) :=
  (crossEnded_sampling k s).regs

theorem crossEnded_redirected (k : XRound) (s : State) : (crossEnded k s).redirected = 0 := crossRelease_redirected ..

/-- The 16-bit pattern of a clamped number reads back as that number. -/
theorem asInt_ofInt_clampS (i : Int) : asInt 16 (ofInt 16 (clampS 16 i) % 2 ^ 16) = clampS 16 i := by
  have hlow : -32768 ≤ clampS 16 i := by unfold clampS; split <;> [skip; split] <;> omega
  have hhigh : clampS 16 i ≤ 32767 := by unfold clampS; split <;> [skip; split] <;> omega
  generalize clampS 16 i = d at hlow hhigh
  unfold asInt ofInt
  split <;> omega

theorem crossRecorded_spec (cell : Nat) (k : XRound) (s : State) (hcell : cell < 64) :
    (crossRecorded cell (crossDiff k) s).fg R.SMP_XSTAT_VALID = 1 ∧
      (crossRecorded cell (crossDiff k) s).fg R.SMP_XSTAT_CELL = cell ∧
      (crossRecorded cell (crossDiff k) s).fi R.SMP_XSTAT_DIFF = crossDiff k := by
  unfold crossRecorded
  refine ⟨?valid, ?cell, ?diff⟩
  case valid => simp (disch := decide) [State.fg_fs_same, State.fg_fs_disj]
  case cell =>
    simp (disch := decide) only [State.fg_fs_same, State.fg_fs_disj]
    exact Nat.mod_eq_of_lt hcell
  case diff =>
    rw [State.fi, State.fg_fs_same _ R.SMP_XSTAT_DIFF _ (by decide)]
    exact asInt_ofInt_clampS _

theorem crossRecorded_keeps (cell : Nat) (d : Int) (s : State) : Sampling [R.SMP_XSTAT] s (crossRecorded cell d s) :=
  ((Sampling.fs s R.SMP_XSTAT_CELL _ (by decide)).trans (.fs _ R.SMP_XSTAT_VALID _ (by decide))).trans
    (.fs _ R.SMP_XSTAT_DIFF _ (by decide))

theorem crossRecorded_limit (cell : Nat) (d : Int) (k : XRound) (s : State) :
    (crossRecorded cell d (crossEnded k s)).fg R.SMP_XTHR_XTHR = s.fg R.SMP_XTHR_XTHR :=
  (State.fg_congr R.SMP_XTHR_XTHR ((crossRecorded_keeps ..).regs R.SMP_XTHR (by decide))).trans
    (State.fg_congr R.SMP_XTHR_XTHR (crossEnded_sameRegs k s R.SMP_XTHR (by decide)))

theorem crossRoundEnd_measured {k : XRound} {s : State} (hxr : s.smp.xr = some k)
    (hj : s.redirected ≠ 0) (hn : 1024 ≤ k.n) :
    crossRoundEnd s =
      if s.fg R.SMP_XTHR_XTHR < (crossDiff k).natAbs then
        crossDisagreement (partner s.redirected) (crossRecorded (partner s.redirected) (crossDiff k) (crossEnded k s))
      else crossRecorded (partner s.redirected) (crossDiff k) (crossEnded k s) := by
  have hkept : (formWindows (s.until (50 * k.stop))).redirected = s.redirected := by
    rw [formWindows_windowsEnded (s.until (50 * k.stop))]; rfl
  have hdo : ¬(s.redirected = 0 ∨ k.n < 1024) := by omega
  rw [← crossRecorded_limit (partner s.redirected) (crossDiff k) k s]
  unfold crossRoundEnd
  simp only [hxr, hkept, if_neg hdo]
  rfl

theorem partner_le {j : Nat} (h : j ≤ 48) : partner j ≤ 48 := by unfold partner; split <;> omega

theorem partner_lt {j : Nat} (h : j ≤ 48) : partner j < 64 := Nat.lt_of_le_of_lt (partner_le h) (by decide)

/-! ## The supervisor's inputs leave the registers (R459) -/

theorem ssvAnswer_regs (ok : Bool) (cause : Nat) (s : State) : (ssvAnswer ok cause s).regs = s.regs := by
  unfold ssvAnswer
  exact sendUp_regs ..

theorem ssvWithdraw_regs (cause refuse : Nat) (s : State) : (ssvWithdraw cause refuse s).regs = s.regs := by
  unfold ssvWithdraw
  split
  · exact ssvAnswer_regs ..
  · split
    · exact sendUp_regs ..
    · rfl

theorem ssvInput_regs (act : Nat) (s : State) : (ssvInput act s).regs = s.regs := by
  unfold ssvInput
  split
  · rfl
  · split
    · exact ssvAnswer_regs ..
    · split
      · exact sendUp_regs ..
      · exact ssvWithdraw_regs ..

theorem testBit_w32_setBit (v : Word) {i : Nat} (hi : i < 32) : (w32 (setBit v.toNat i true)).toNat.testBit i = true := by
  have hfits : setBit v.toNat i true < 2 ^ 32 := setBit_lt _ _ 32 v.isLt hi
  simp only [w32, BitVec.toNat_ofNat, Nat.mod_eq_of_lt hfits, testBit_setBit_self]

theorem State.setCellBit_bit (s : State) (a0 a1 : Nat) {n : Nat} (h : n ≤ 48) :
    (s.setCellBit a0 a1 n true).cellBit a0 a1 n = true := by
  unfold State.setCellBit State.cellBit
  split
  · rw [State.reg_setReg_same]
    exact testBit_w32_setBit _ (by omega)
  · rw [State.reg_setReg_same]
    exact testBit_w32_setBit _ (by omega)

/-- A difference above SMP_XTHR raises source 0x22 and marks the cell (R79). -/
theorem crossDisagreement_spec (cell : Nat) (s : State) (hcell : cell ≤ 48) :
    Raised 0x22 islSCK (crossDisagreement cell s) ∧
      (crossDisagreement cell s).cellBit R.SMP_XFAIL0 R.SMP_XFAIL1 cell = true ∧
      (crossDisagreement cell s).reg R.SMP_XSTAT = s.reg R.SMP_XSTAT := by
  have hregs : (crossDisagreement cell s).regs = _ := ssvInput_regs ..
  have hmarked : ∀ a, a ≠ R.FLT_ISL islSCK → a ≠ R.FLT_STAT → (crossDisagreement cell s).reg a =
      (s.setCellBit R.SMP_XFAIL0 R.SMP_XFAIL1 cell true).reg a := fun a ha ha' =>
    (State.reg_congr hregs a).trans (State.raise_reg _ _ _ _ _ ha ha')
  refine ⟨?raised, ?cell, ?result⟩
  case raised =>
    rw [Raised, State.reg_congr hregs]
    exact State.raise_bit _ _ _ _ (by decide)
  case cell =>
    have hbit := s.setCellBit_bit R.SMP_XFAIL0 R.SMP_XFAIL1 hcell
    unfold State.cellBit at hbit ⊢
    rwa [hmarked _ (by decide) (by decide), hmarked _ (by decide) (by decide)]
  case result =>
    rw [hmarked _ (by decide) (by decide)]
    unfold State.setCellBit
    split
    · exact State.reg_setReg_ne _ _ (by decide)
    · exact State.reg_setReg_ne _ _ (by decide)

/-! ## Dither and the reference decimator (R82, R84, R85) -/

/-- The last 8 dither periods of AXm were good. -/
def dithered (m : Nat) (s : State) : State :=
  { s with smp := { s.smp with dith := Smap.set (fun _ => 0) s.smp.dith m 8 } }

theorem dithered_dith (m : Nat) (s : State) : Smap.get (fun _ => 0) (dithered m s).smp.dith m = 8 :=
  Smap.get_set_same (fun _ => 0) s.smp.dith m 8

theorem ditherPeriod_good {m amp2 : Nat} {s : State} (hrate : ditherRateOk s m = true)
    (hvalid : staleCause s (48 + m) s.epoch = none) (hcount : 7 ≤ Smap.get (fun _ => 0) s.smp.dith m)
    (hon : ditherOn s m = true) (hlow : s.fg (R.SMP_AXCFG_DITH m) ≤ amp2)
    (hhigh : amp2 ≤ 3 * s.fg (R.SMP_AXCFG_DITH m)) :
    ditherPeriod m amp2 s = (dithered m s).fbit R.SMP_AXSTAT_LIVE (m - 1) true := by
  have hfull : min 8 (Smap.get (fun _ => 0) s.smp.dith m + 1) = 8 := by omega
  simp [ditherPeriod, dithered, hrate, hvalid, hfull, hon, hlow, hhigh]

theorem State.tb_fbit_same (s : State) (f : Fld) {i : Nat} (hf : f.lo + f.w ≤ 32) (hi : i < f.w) :
    (s.fbit f i true).tb f i = true := by
  have hfits : setBit (s.fg f) i true < 2 ^ f.w := setBit_lt _ _ _ (s.fg_lt f) hi
  rw [State.tb, State.fbit, State.fg_fs_same _ _ _ hf, Nat.mod_eq_of_lt hfits]
  exact testBit_setBit_self ..

/-- The record of the decimator when a block has been completed. -/
def refCompleted (s : State) : State :=
  { s with smp := { s.smp with
    refQ := [refWord s.smp.refB s.smp.refSum s.smp.refN s.smp.refOvr s.smp.refEms], refB := s.smp.refB + 1
    refSum := 0, refN := 0, refOvr := false, refEms := false } }

theorem referenceBlockComplete_eq {s : State} (hen : s.fb R.SMP_REFCFG_EN = true) (hrun : s.smp.refRun = true)
    (hfree : s.bar.repUp = []) (hempty : s.smp.refQ = [])
    (hover : (s.smp.refB + 1) * refBlock (s.fg R.SMP_REFCFG_D) ≤ s.smp.refE + 1) :
    ∃ u, u = sendUp mCREF [refWord s.smp.refB s.smp.refSum s.smp.refN s.smp.refOvr s.smp.refEms] (refCompleted s) ∧
      referenceBlockComplete s = { u with smp := { (refCompleted s).smp with refQ := [] } } := by
  refine ⟨_, rfl, ?_⟩
  have hdo : s.fb R.SMP_REFCFG_EN = true ∧ s.smp.refRun = true ∧
      (s.smp.refB + 1) * refBlock (s.fg R.SMP_REFCFG_D) ≤ s.smp.refE + 1 := ⟨hen, hrun, hover⟩
  have hqueued : refComplete s = refSend (refCompleted s) := by
    rw [refComplete, hempty]; rfl
  have hopen : (refCompleted s).bar.repUp.isEmpty = true := by
    change s.bar.repUp.isEmpty = true
    rw [hfree]; rfl
  rw [referenceBlockComplete, if_pos hdo, hqueued, refSend, if_pos hopen]
  rfl

theorem sendUp_lastMsg (k : Nat) (a : List Nat) (s : State) (h : messageLane s.bar.txMap ≠ none) :
    (sendUp k a s).lastMsg = some (.up, k :: a) := by
  obtain ⟨l, hl⟩ := Option.ne_none_iff_exists'.1 h
  simp [State.lastMsg, sendUp_out k l a s hl]

/-- Settles O7: the start and the end of a round, a good dither period, and a completed reference block. -/
theorem crossDitherAndReferenceTakeEffect : Obligations.CrossDitherAndReferenceTakeEffect := by
  refine ⟨?start, ?unmeasured, ?agreed, ?disagreed, ?dither, ?block⟩
  case start =>
    intro r s hcross hj hpartner hcal hidle hahead
    obtain ⟨u, hregs, hstart⟩ := crossRoundStart_eq hcross hj hpartner hcal hidle hahead
    obtain ⟨hredirected, hround, hsettle, hothers⟩ := crossRedirected_spec r (s.fg R.SMP_XCFG_ROUND * 1024) u
    refine Does.of_rule (f := crossRoundStart r) rfl (fun _ h => h) ?_
    rw [hstart]
    exact ⟨hredirected, hround, hsettle, (SameRegs.of_regs hregs).trans hothers⟩
  case unmeasured =>
    intro k s hxr hnone
    refine Does.of_rule (f := crossRoundEnd) rfl (fun _ h => h) ?_
    rw [crossRoundEnd_unmeasured hxr hnone.symm]
    have hvalid := State.fg_fs_same (crossEnded k s) R.SMP_XSTAT_VALID 0 (by decide)
    have hown := State.fg_fs_ne (crossEnded k s) R.SMP_XSTAT_VALID R.SMP_STAT_XCH 0 (by decide)
    refine ⟨hvalid, hown.trans (crossEnded_redirected k s), crossEnded_xr k s, crossEnded_now k s, ?_⟩
    exact ((crossEnded_sameRegs k s).mono (by decide)).trans (State.fs_sameRegs _ R.SMP_XSTAT_VALID _ (by decide))
  case agreed =>
    intro k s hxr hn hj hcell hwithin
    change (crossDiff k).natAbs ≤ s.fg R.SMP_XTHR_XTHR at hwithin
    obtain ⟨hvalid, hnamed, hdiff⟩ := crossRecorded_spec (partner s.redirected) k (crossEnded k s) (partner_lt hcell)
    have hrec := crossRecorded_keeps (partner s.redirected) (crossDiff k) (crossEnded k s)
    have hend := crossRoundEnd_measured hxr hj hn
    rw [if_neg (Nat.not_lt.2 hwithin)] at hend
    refine Does.of_rule (f := crossRoundEnd) rfl (fun _ h => h) ?_
    rw [hend]
    refine ⟨hvalid, hnamed, hrec.now.trans (crossEnded_now k s), hdiff, ?_, ?_⟩
    · exact (State.fg_congr R.SMP_STAT_XCH (hrec.regs _ (by decide))).trans (crossEnded_redirected k s)
    · exact ((crossEnded_sameRegs k s).mono (by decide)).trans (hrec.regs.mono (by decide))
  case disagreed =>
    intro k s hxr hn hj hcell habove
    change s.fg R.SMP_XTHR_XTHR < (crossDiff k).natAbs at habove
    obtain ⟨hvalid, -⟩ := crossRecorded_spec (partner s.redirected) k (crossEnded k s) (partner_lt hcell)
    have hend := crossRoundEnd_measured hxr hj hn
    rw [if_pos habove] at hend
    obtain ⟨hraised, hmarked, hresult⟩ := crossDisagreement_spec (partner s.redirected)
      (crossRecorded (partner s.redirected) (crossDiff k) (crossEnded k s)) (partner_le hcell)
    refine Does.of_rule (f := crossRoundEnd) rfl (fun _ h => h) ?_
    rw [hend]
    exact ⟨(State.fg_congr R.SMP_XSTAT_VALID hresult).trans hvalid, hraised, hmarked⟩
  case dither =>
    intro m amp2 s hrate hvalid hcount hon hlow hhigh
    have hcause : staleCause s (48 + (m.val + 1)) s.epoch = none := by
      rw [show 48 + (m.val + 1) = 49 + m.val by omega]; exact hvalid
    refine Does.of_rule (f := ditherPeriod (m.val + 1) amp2) rfl (fun _ h => h) ?_
    rw [ditherPeriod_good hrate hcause hcount hon hlow hhigh]
    refine ⟨State.tb_fbit_same _ R.SMP_AXSTAT_LIVE (by decide) m.isLt, dithered_dith .., ?_⟩
    exact (dithered m s).fs_sameRegs R.SMP_AXSTAT_LIVE _ (by decide)
  case block =>
    intro s hen hrun hfree hempty hlane hover
    obtain ⟨u, hu, hdone⟩ := referenceBlockComplete_eq hen hrun hfree hempty hover
    refine Does.of_rule (f := referenceBlockComplete) rfl (fun _ h => h) ?_
    rw [hdone]
    have hmsg := sendUp_lastMsg mCREF [refWord s.smp.refB s.smp.refSum s.smp.refN s.smp.refOvr s.smp.refEms]
      (refCompleted s) hlane
    have hregs : u.regs = s.regs := by rw [hu, sendUp_regs]; rfl
    rw [← hu] at hmsg
    exact ⟨rfl, rfl, rfl, hmsg, hregs⟩

end Sys2Proof.Machine

/-! # Calibration of a converter (R88 to R90, R100, R117) -/

namespace Sys2Proof.Machine

/-! ## The calibration in SMP_STAT (R88, R97) -/

/-- The calibration is `c`, and SMP_STAT shows `busy` and `ch`. -/
def calShown (c : Option Cal) (busy ch : Nat) (s : State) : State :=
  ({ s with smp := { s.smp with cal := c } }.fs R.SMP_STAT_CALBUSY busy).fs R.SMP_STAT_CALCH ch

theorem calShown_cal (c : Option Cal) (busy ch : Nat) (s : State) : (calShown c busy ch s).smp.cal = c := rfl

theorem calShown_busy (c : Option Cal) (busy ch : Nat) (s : State) :
    (calShown c busy ch s).fg R.SMP_STAT_CALBUSY = busy % 2 := by
  rw [calShown, State.fg_fs_disj _ R.SMP_STAT_CALCH R.SMP_STAT_CALBUSY _ (by decide) rfl (by decide),
    State.fg_fs_same _ R.SMP_STAT_CALBUSY _ (by decide)]
  rfl

theorem calShown_ch (c : Option Cal) (busy ch : Nat) (s : State) :
    (calShown c busy ch s).fg R.SMP_STAT_CALCH = ch % 64 := State.fg_fs_same _ R.SMP_STAT_CALCH _ (by decide)

theorem calShown_sampling (c : Option Cal) (busy ch : Nat) (s : State) : Sampling [R.SMP_STAT] s (calShown c busy ch s) :=
  (Sampling.of_smp _ s { s.smp with cal := c } rfl rfl).trans
    ((Sampling.fs _ R.SMP_STAT_CALBUSY _ (by decide)).trans (.fs _ R.SMP_STAT_CALCH _ (by decide)))

theorem calShown_sameRegs (c : Option Cal) (busy ch : Nat) (s : State) : SameRegs [R.SMP_STAT] s (calShown c busy ch s) :=
  (calShown_sampling c busy ch s).regs

/-! ## The start (R88, R90, R100) -/

theorem calStart_settled {ch : Nat} {s : State} (hset : s.fb R.SWC_STAT_REF_SETTLED = true) (hfree : s.redirected ≠ ch) :
    calStart ch s = calShown (some { ch := ch, phase := 1, since := s.epoch }) 1 ch s := by
  simp [calStart, calShown, hset, hfree, b2n]

/-- A start leaves a calibration of the channel, running or waiting (R89). -/
theorem calStart_spec (ch : Nat) (s : State) :
    ((calStart ch s).smp.cal.map fun c => c.ch) = some ch ∧ SameRegs [R.SMP_STAT] s (calStart ch s) :=
  ⟨rfl, calShown_sameRegs _ _ _ s⟩

/-- The channel's turn has been taken. -/
def calTurn (s : State) : State :=
  { s with smp := { s.smp with calNext := s.smp.calNext % 52 + 1, calLast := s.lt } }

theorem autocalInterval_eq {s : State} (hauto : s.fb R.SMP_CTRL_AUTOCAL = true) (hidle : s.smp.cal = none)
    (hdue : s.due s.smp.calLast (1000000 * s.fg R.SMP_CALCTL_INTERVAL) = true) (hturn : calSkipped s s.smp.calNext = false) :
    autocalInterval s = calStart s.smp.calNext (calTurn s) := by
  have hskip : calSkipped (calTurn s) s.smp.calNext = false := hturn
  have hnow : (s.fb R.SMP_CTRL_AUTOCAL && s.smp.cal.isNone &&
      s.due s.smp.calLast (1000000 * s.fg R.SMP_CALCTL_INTERVAL)) = true := by
    simp [hauto, hidle, hdue]
  rw [autocalInterval, if_pos hnow]
  exact (congrArg (fun b => if b = true then calTurn s else calStart s.smp.calNext (calTurn s)) hskip).trans rfl

theorem smpCalctlWrite_go {v : Word} {s : State} (hgo : wf v R.SMP_CALCTL_GO = 1) (hint : 10 ≤ wf v R.SMP_CALCTL_INTERVAL)
    (hlow : 1 ≤ wf v R.SMP_CALCTL_CH) (hhigh : wf v R.SMP_CALCTL_CH ≤ 52) (hidle : s.smp.cal = none)
    (hfree : s.redirected ≠ wf v R.SMP_CALCTL_CH) (hturn : calSkipped s (wf v R.SMP_CALCTL_CH) = false) :
    smpCalctlWrite v s =
      (.ok, (calStart (wf v R.SMP_CALCTL_CH) s).fs R.SMP_CALCTL_INTERVAL (wf v R.SMP_CALCTL_INTERVAL)) := by
  have hnamed : wf v R.SMP_CALCTL_CH ≠ 0 := by omega
  simp [smpCalctlWrite, hgo, Nat.not_lt.2 hint, hnamed, Nat.not_lt.2 hhigh, calGo, hidle, hfree, hturn]

theorem calibrationWaitEnd_eq {c : Cal} {s : State} (hcal : s.smp.cal = some c) (hwaits : c.phase = 0)
    (hset : s.fb R.SWC_STAT_REF_SETTLED = true) (hfree : s.redirected ≠ c.ch) :
    calibrationWaitEnd s = calShown (some { c with phase := 1, since := s.epoch }) 1 c.ch s := by
  simp [calibrationWaitEnd, calShown, hcal, hwaits, hset, hfree]

/-! ## The averaging of a node begins (R88, R117) -/

/-- Phase `p` follows, and the sweep converter has been told to convert node `node`. -/
def calNode (c : Cal) (p node : Nat) (s : State) : State :=
  { s.fs R.SWC_STAT_CALSLOT 1 with
    smp := { s.smp with cal := some { c with phase := p, since := s.epoch } }, swp := { s.swp with calSlot := node } }

theorem calNode_calslot (c : Cal) (p node : Nat) (s : State) : (calNode c p node s).fg R.SWC_STAT_CALSLOT = 1 :=
  State.fg_fs_same s R.SWC_STAT_CALSLOT 1 (by decide)

theorem calNode_sameRegs (c : Cal) (p node : Nat) (s : State) : SameRegs [R.SWC_STAT] s (calNode c p node s) :=
  s.fs_sameRegs R.SWC_STAT_CALSLOT 1 (by decide)

theorem calNode_settled {c : Cal} {p node : Nat} {s : State} (hset : s.fb R.SWC_STAT_REF_SETTLED = true) :
    calUnsettled (calNode c p node s) = calNode c p node s := by
  have hkept : (calNode c p node s).fb R.SWC_STAT_REF_SETTLED = true := by
    have hreg := State.fg_fs_disj s R.SWC_STAT_CALSLOT R.SWC_STAT_REF_SETTLED 1 (by decide) rfl (by decide)
    rw [State.fb] at hset ⊢
    exact (congrArg (· != 0) hreg).trans hset
  have hcal : (calNode c p node s).smp.cal = some { c with phase := p, since := s.epoch } := rfl
  simp [calUnsettled, hcal, hkept]

theorem calNode_state (c : Cal) (p node : Nat) (s : State) :
    (calNode c p node s).fg R.SWC_STAT_STATE = s.fg R.SWC_STAT_STATE :=
  State.fg_fs_disj s R.SWC_STAT_CALSLOT R.SWC_STAT_STATE 1 (by decide) rfl (by decide)

/-- An idle sweep takes up the slot that comes next, at epoch `e`. -/
def calSlotIfIdle (e : Nat) (s : State) : State :=
  if s.fg R.SWC_STAT_STATE = 1 ∧ (!s.swp.injOn) = true then resume e s else s

/-- The averaging of a node begins; an idle sweep opens the calibration slot. -/
theorem calAverage_eq {phase p node : Nat} {c : Cal} {s : State} (hcal : s.smp.cal = some c) (hphase : c.phase = phase)
    (hover : c.since + 32 ≤ s.epoch) (hset : s.fb R.SWC_STAT_REF_SETTLED = true) (hp : phase + 1 = p)
    (hnode : (if phase = 1 then 1 else 2) = node) :
    calAverage phase s = calSlotIfIdle ((s.epoch + 39) / 40 * 40) (calNode c p node s) := by
  have hdo : c.phase = phase ∧ c.since + 32 ≤ s.epoch := ⟨hphase, hover⟩
  subst hp hnode
  have hbegin : calAverage phase s =
      calSlotIfIdle ((s.epoch + 39) / 40 * 40) (calUnsettled (calNode c (phase + 1) (if phase = 1 then 1 else 2) s)) := by
    simp only [calAverage, hcal, if_pos hdo]
    rfl
  rw [hbegin, calNode_settled hset]

theorem calSlotIfIdle_busy {e p node : Nat} {c : Cal} {s : State}
    (h : s.fg R.SWC_STAT_STATE ≠ 1 ∨ s.swp.injOn = true) :
    calSlotIfIdle e (calNode c p node s) = calNode c p node s := by
  refine if_neg fun hidle => ?_
  obtain ⟨hstate, hinj⟩ := hidle
  rw [calNode_state] at hstate
  exact h.elim (absurd hstate) fun hrun => by simp [calNode, hrun] at hinj

/-- The idle sweep's calibration slot at epoch `e` (R117). -/
def calSlotOpened (e : Nat) (s : State) : State := openSlot e 2 127 { s with swp := { s.swp with inCal := true } }

theorem resume_calibration {e : Nat} {s : State} (hon : s.sweepOn = true) (hslot : s.swp.calSlot ≠ 0) :
    resume e s = calSlotOpened e s := by
  simp [resume, hon, hslot, calSlotOpened]

theorem calSlotOpened_spec (e : Nat) (s : State) :
    (calSlotOpened e s).smp = s.smp ∧ (calSlotOpened e s).swp.inCal = true ∧ (calSlotOpened e s).swp.slotAt = e ∧
      (calSlotOpened e s).fg R.SWC_STAT_STATE = 2 ∧
      (calSlotOpened e s).fg R.SWC_STAT_CALSLOT = s.fg R.SWC_STAT_CALSLOT ∧
      SameRegs [R.SWC_STAT] s (calSlotOpened e s) := by
  have hregs : (calSlotOpened e s).regs = ((s.fs R.SWC_STAT_STATE 2).fs R.SWC_STAT_SLOT 127).regs := rfl
  refine ⟨rfl, rfl, rfl, ?_, ?_, ?_⟩
  · rw [State.fg_congr R.SWC_STAT_STATE (State.reg_congr hregs _)]
    simp (disch := decide) only [State.fg_fs_same, State.fg_fs_disj]
    rfl
  · rw [State.fg_congr R.SWC_STAT_CALSLOT (State.reg_congr hregs _)]
    simp (disch := decide) [State.fg_fs_disj]
  · exact ((s.fs_sameRegs R.SWC_STAT_STATE 2 (by decide)).trans
      (State.fs_sameRegs _ R.SWC_STAT_SLOT 127 (by decide))).trans (.of_regs hregs)

/-! ## The end of the averaging (R88 to R90) -/

/-- The channel settles on its own input, and with that the calibration ends. -/
def calReturned (c : Cal) (s : State) : State :=
  settleUntil c.ch (s.nextEpoch + 32) { s with smp := { s.smp with cal := some { c with phase := 5 } } }

theorem calReturned_settle (c : Cal) (s : State) :
    Smap.get (fun _ => 0) (calReturned c s).smp.settle c.ch = s.nextEpoch + 32 := settleUntil_settle ..

theorem calibrationAverageHighDone_accepted {c : Cal} {lo hi g o : Int} {s : State} (hcal : s.smp.cal = some c)
    (hphase : c.phase = 4) (hn : c.nHi = 1024) (hset : c.unsettled = false) (hlo : c.sweepLo = some lo)
    (hhi : c.sweepHi = some hi) (hnew : newCal c.sumLo c.sumHi lo hi = some (g, o))
    (hgain : (g - s.fi (R.SMP_CAL_GAIN c.ch)).natAbs ≤ 2097) (hofs : (o - s.fi (R.SMP_CAL_OFS c.ch)).natAbs ≤ 160)
    (hg : clampS 16 g = g) (ho : clampS 16 o = o) :
    calibrationAverageHighDone s =
      queueCfg (R.SMP_CAL c.ch) (w32 (ofInt 16 g * 65536 + ofInt 16 o)) (calReturned c s) := by
  simp [calibrationAverageHighDone, hcal, hphase, hn, hset, hlo, hhi, hnew, Nat.not_lt.2 hgain, Nat.not_lt.2 hofs, hg, ho,
    calReturned]

theorem calibrationAverageHighDone_rejected {c : Cal} {s : State} (hcal : s.smp.cal = some c)
    (hphase : c.phase = 4) (hn : c.nHi = 1024) (hset : c.unsettled = true) :
    calibrationAverageHighDone s = (calReturned c s).raise 0x60 islSCK c.ch := by
  have hdo : c.phase = 4 ∧ c.nHi = 1024 := ⟨hphase, hn⟩
  simp only [calibrationAverageHighDone, hcal, if_pos hdo]
  split
  · split
    · exact if_pos (.inl hset)
    · rfl
  · rfl

/-- The time at which a calibration ended. -/
def calStamped (s : State) : State := { s with smp := { s.smp with calLast := s.lt } }

theorem calFinish_over {c : Cal} {s : State} (hcal : s.smp.cal = some c) (hphase : c.phase = 5)
    (hover : Smap.get (fun _ => 0) s.smp.settle c.ch ≤ s.epoch) :
    calFinish s = calShown none 0 0 (calStamped s) := by
  have hdo : c.phase = 5 ∧ Smap.get (fun _ => 0) s.smp.settle c.ch ≤ s.epoch := ⟨hphase, hover⟩
  simp only [calFinish, hcal, if_pos hdo]
  rfl

/-- Settles O8: a case for each step of a calibration, by the rule of its row. -/
theorem calibrationStepsTakeEffect : Obligations.CalibrationStepsTakeEffect := by
  refine ⟨?autocal, ?go, ?waited, ?low, ?lowIdle, ?lowDone, ?high, ?accepted, ?rejected, ?settled⟩
  case autocal =>
    intro s hauto hidle hdue hturn hset hfree
    refine Does.of_rule (f := autocalInterval) rfl (fun _ h => h) ?_
    rw [autocalInterval_eq hauto hidle hdue hturn, calStart_settled (s := calTurn s) hset hfree]
    exact ⟨rfl, rfl, calShown_busy .., calShown_sameRegs _ _ _ (calTurn s)⟩
  case go =>
    intro v s hok hgo hint hlow hhigh hidle hfree hturn
    refine Does.of_rule (f := direct R.SMP_CALCTL v smpCalctlWrite) rfl (fun _ h => h) ?_
    rw [direct_of_none hok, smpCalctlWrite_go hgo hint hlow hhigh hidle hfree hturn]
    obtain ⟨hch, hothers⟩ := calStart_spec (wf v R.SMP_CALCTL_CH) s
    generalize calStart (wf v R.SMP_CALCTL_CH) s = u at hch hothers
    have hshown := State.fg_fs_same u R.SMP_CALCTL_INTERVAL (wf v R.SMP_CALCTL_INTERVAL) (by decide)
    rw [Nat.mod_eq_of_lt (wf_lt v R.SMP_CALCTL_INTERVAL)] at hshown
    refine ⟨hch, hshown, State.done_lastOut .., ?_⟩
    exact (hothers.mono (by decide)).trans (u.fs_sameRegs R.SMP_CALCTL_INTERVAL _ (by decide))
  case waited =>
    intro c s hcal hwaits hset hfree
    refine Does.of_rule (f := calibrationWaitEnd) rfl (fun _ h => h) ?_
    rw [calibrationWaitEnd_eq hcal hwaits hset hfree]
    exact ⟨rfl, calShown_busy .., calShown_ch .., calShown_sameRegs _ _ _ s⟩
  case low =>
    intro c s hcal hphase hover hset hbusy
    refine Does.of_rule (f := calAverage 1) rfl (fun _ h => h) ?_
    rw [calAverage_eq hcal hphase hover hset rfl rfl, calSlotIfIdle_busy hbusy]
    exact ⟨rfl, rfl, calNode_calslot _ _ _ s, calNode_sameRegs _ _ _ s⟩
  case lowIdle =>
    intro c s hcal hphase hover hset hidle hinj hon
    refine Does.of_rule (f := calAverage 1) rfl (fun _ h => h) ?_
    have hopen : (calNode c 2 1 s).fg R.SWC_STAT_STATE = 1 ∧ (!(calNode c 2 1 s).swp.injOn) = true :=
      ⟨(calNode_state c 2 1 s).trans hidle, by simp [calNode, hinj]⟩
    rw [calAverage_eq (p := 2) (node := 1) hcal hphase hover hset rfl rfl, calSlotIfIdle, if_pos hopen,
      resume_calibration (s := calNode c 2 1 s) hon Nat.one_ne_zero]
    obtain ⟨hsmp, hin, hat, hstate, hslot, hothers⟩ := calSlotOpened_spec ((s.epoch + 39) / 40 * 40) (calNode c 2 1 s)
    exact ⟨congrArg Smp.cal hsmp, hin, hat, hstate, hslot.trans (calNode_calslot c 2 1 s),
      (calNode_sameRegs c 2 1 s).trans hothers⟩
  case lowDone =>
    intro c s hcal hphase hn
    refine exec_of_run_eq (f := calibrationAverageLowDone) rfl ?_ rfl rfl
    have hdo : c.phase = 2 ∧ c.nLo = 1024 := ⟨hphase, hn⟩
    simp only [calibrationAverageLowDone, hcal, if_pos hdo]
  case high =>
    intro c s hcal hphase hover hset hbusy
    refine Does.of_rule (f := calAverage 3) rfl (fun _ h => h) ?_
    rw [calAverage_eq hcal hphase hover hset rfl rfl, calSlotIfIdle_busy hbusy]
    exact ⟨rfl, rfl, calNode_calslot _ _ _ s, calNode_sameRegs _ _ _ s⟩
  case accepted =>
    intro c lo hi g o s hcal hphase hn hset hlo hhi hnew hgain hofs hg ho
    refine Does.of_rule (f := calibrationAverageHighDone) rfl (fun _ h => h) ?_
    rw [calibrationAverageHighDone_accepted hcal hphase hn hset hlo hhi hnew hgain hofs hg ho]
    exact ⟨rfl, rfl, calReturned_settle c s, rfl⟩
  case rejected =>
    intro c s hcal hphase hn hset
    refine Does.of_rule (f := calibrationAverageHighDone) rfl (fun _ h => h) ?_
    rw [calibrationAverageHighDone_rejected hcal hphase hn hset]
    have hsmp : ((calReturned c s).raise 0x60 islSCK c.ch).smp = (calReturned c s).smp := State.raise_smp ..
    refine ⟨congrArg Smp.cal hsmp, State.raise_bit _ _ _ _ (by decide), (congrArg Smp.pend hsmp).trans rfl,
      fun a ha => ?_⟩
    obtain ⟨hisl, hstat⟩ : a ≠ R.FLT_ISL islSCK ∧ a ≠ R.FLT_STAT := by simpa using ha
    exact State.raise_reg (calReturned c s) _ _ _ a hisl hstat
  case settled =>
    intro n c s hcal hphase hch hover
    have hreleased := settleUntil_settle (n.val + 1) 0 s
    have hfinish : converterSettled (n.val + 1) s =
        calShown none 0 0 (calStamped (settleUntil (n.val + 1) 0 s)) := by
      rw [converterSettled, if_pos hover]
      exact calFinish_over (s := settleUntil (n.val + 1) 0 s) hcal hphase (by rw [hch, hreleased]; exact Nat.zero_le _)
    refine Does.of_rule (f := converterSettled (n.val + 1)) rfl (fun _ h => h) ?_
    rw [hfinish]
    exact ⟨rfl, rfl, calShown_busy .., calShown_ch .., hreleased,
      calShown_sameRegs _ _ _ (calStamped (settleUntil (n.val + 1) 0 s))⟩

end Sys2Proof.Machine

/-! # The current reference stream, barriers and snapshots (R86, R392 to R396, R416) -/

namespace Sys2Proof.Machine

/-! ## What leaves the network's records (R416) -/

theorem Sends.net {l : List Nat} {s t : State} (h : Sends l s t) : t.net = s.net := by rw [h.frame]

/-! ## Bytes of a packet -/

theorem leNat_lt (l : List Byte) : leNat l < 256 ^ l.length := by
  induction l with
  | nil => simp [leNat]
  | cons b l ih =>
    have := b.isLt
    rw [leNat, List.length_cons, Nat.pow_succ]
    omega

theorem u32_lt (l : List Byte) (o : Nat) : u32 l o < 2 ^ 32 := by
  have hlen : (sliceBytes l o 4).length = 4 := by simp [sliceBytes]
  have h := leNat_lt (sliceBytes l o 4)
  rw [hlen] at h
  exact h

theorem w32_toNat {n : Nat} (h : n < 2 ^ 32) : (w32 n).toNat = n := by
  rw [w32, BitVec.toNat_ofNat, Nat.mod_eq_of_lt h]

/-! ## The current reference stream (R86, R396) -/

/-- Between `s` and `t` reference blocks entered the mesh and the services: beside the counters of discarded frames only
engines, fabric, services, trace and the last block seen of each station changed. -/
def CrefGives (s t : State) : Prop :=
  SameRegs dropCounters s t ∧
    t = { s with regs := t.regs, arr := t.arr, fab := t.fab, out := t.out, svc := t.svc,
                 net := { s.net with crefSeen := t.net.crefSeen } }

theorem CrefGives.refl (s : State) : CrefGives s s := ⟨.refl _ s, rfl⟩

theorem CrefGives.trans {s t u : State} (h : CrefGives s t) (h' : CrefGives t u) : CrefGives s u :=
  ⟨h.1.trans h'.1, h'.2.trans (by rw [h.2])⟩

theorem CrefGives.of_feeds {s t : State} (h : Feeds s t) : CrefGives s t := ⟨h.1, h.2.trans (by rw [h.2])⟩

theorem CrefGives.emit (s : State) (c : Chan) (a : List Nat) (b : List Byte) : CrefGives s (s.emit c a b) :=
  ⟨.of_regs rfl, rfl⟩

theorem CrefGives.cref {s t : State} (h : CrefGives s t) : t.net.cref = s.net.cref := by rw [h.2]

theorem CrefGives.fb {s t : State} (h : CrefGives s t) (f : Fld) (hf : f.adr ∉ dropCounters) : t.fb f = s.fb f := by
  rw [State.fb, State.fg_congr f (h.1 _ hf)]; rfl

/-- One block goes to the subscriptions of its station's stream, and the trace shows it. -/
def crefGive (node stn m : Nat) (coh : Bool) (w : Word) (s : State) : State :=
  feed 3 [node] 0 false (fun _ w0 _ =>
    if w0 % 4096 = stn then some [w32 m, w32 (m / 2 ^ 32 % 2 ^ 31 + b2n coh * 2 ^ 31), w] else none)
    (s.emit .stream [4, stn, m, b2n coh, w.toNat])

theorem crefGive_gives (node stn m : Nat) (coh : Bool) (w : Word) (s : State) :
    CrefGives s (crefGive node stn m coh w s) :=
  (CrefGives.emit s _ _ _).trans (.of_feeds (feed_feeds 3 [node] 0 false _ _))

theorem crefGive_out (node stn m : Nat) (coh : Bool) (w : Word) (s : State) :
    (crefGive node stn m coh w s).out = s.out ++ [{ ch := .stream, args := [4, stn, m, b2n coh, w.toNat] }] := by
  rw [crefGive, (feed_feeds 3 [node] 0 false _ _).2]; rfl

/-- A block is delivered: those lost before it as STL, then the block itself, which the trace shows last. -/
theorem crefDeliver_spec (node stn b d : Nat) (coh : Bool) (w : Word) (s : State) :
    CrefGives s (crefDeliver node stn b d coh w s) ∧
      (crefDeliver node stn b d coh w s).lastOut = some { ch := .stream, args := [4, stn, b, b2n coh, w.toNat] } := by
  unfold crefDeliver
  extract_lets give gap s1
  have hgives : ∀ m c v t, CrefGives t (give m c v t) := crefGive_gives node stn
  have hout : ∀ m c v t, (give m c v t).out = t.out ++ [{ ch := .stream, args := [4, stn, m, b2n c, v.toNat] }] :=
    crefGive_out node stn
  clear_value give gap
  have h1 : CrefGives s s1 := List.foldlRecOn (motive := CrefGives s) _ _ (.refl s) fun _ ht _ _ => ht.trans (hgives ..)
  clear_value s1
  have h2 := h1.trans (hgives b coh w s1)
  have hlast := hout b coh w s1
  generalize give b coh w s1 = u at h2 hlast
  exact ⟨h2.trans ⟨.of_regs rfl, rfl⟩, (congrArg List.getLast? hlast).trans List.getLast?_concat⟩

/-- The full index of the block that a message names by its low 4 bits: the nearest not after the present one. -/
def crefIndex (w : Word) (s : State) : Nat :=
  s.epoch / refBlock (s.fg R.SMP_REFCFG_D) -
    (s.epoch / refBlock (s.fg R.SMP_REFCFG_D) + 16 - w.toNat / 2 ^ 24 % 16) % 16

theorem currentReferenceMessage_spec {w : Word} {s : State} (hen : s.fb R.NET_CREF_EN = true) :
    (currentReferenceMessage w s).net.cref = s.net.cref ++ [(crefIndex w s, s.fb R.SMP_STAT_COH, w)] ∧
      (currentReferenceMessage w s).lastOut = some {
        ch := .stream, args := [4, s.ownAddr, crefIndex w s, b2n (s.fb R.SMP_STAT_COH), w.toNat] } := by
  unfold currentReferenceMessage
  extract_lets cur b coh s1
  obtain ⟨hgives, hlast⟩ : CrefGives s s1 ∧ s1.lastOut = _ := crefDeliver_spec ..
  have hindex : crefIndex w s = b := by
    unfold b cur crefIndex bitsOf
    rw [Nat.shiftRight_eq_div_pow, show (2 : Nat) ^ 4 = 16 from rfl]
  clear_value s1
  rw [if_pos hen, hindex]
  exact ⟨congrArg (· ++ [(b, coh, w)]) hgives.cref, hlast⟩

theorem crefBlocks_one {p : Packet} {s : State} (hver : p.ver = 1) (hcls : p.cls = 2) (hlen : p.payload.length = 16)
    (hn : u8 p.payload 8 = 1) (hd : u8 p.payload 9 ≤ 6) (hz : u16 p.payload 10 = 0) :
    crefBlocks p s = crefDeliver (entryNode p.via) (p.src % 4096) (leAt p.payload 0 8 % 2 ^ 63) (refBlock (u8 p.payload 9))
      ((leAt p.payload 0 8).testBit 63) (w32 (u32 p.payload 12)) s := by
  have hd' := Nat.not_lt.2 hd
  simp [crefBlocks, hver, hcls, hlen, hn, hd', hz]

/-! ## Barriers (R395) -/

theorem barrier_broadcast {q : Packet} {s : State} (hlen : q.payload.length = 4) (hmode : addrMode q.dest = 2) :
    barrier q s = s.setNet fun n => { n with barPend := some (u32 q.payload 0), barAt := s.lt } := by
  simp [barrier, hlen, hmode]

/-- A tie station that initiates a barrier names it to the others and sends its collect token. -/
theorem barrier_initiated {q : Packet} {s : State} (hlen : q.payload.length = 4) (hmode : addrMode q.dest ≠ 2)
    (htie : s.fb R.NET_STAT_TIEROLE = true) :
    (barrier q s).net.barOwn = some { req := q, b := u32 q.payload 0 } ∧
      (barrier q s).net.barPend = some (u32 q.payload 0) ∧
      (barrier q s).lastOut = some { ch := .packet, args := [0x05, 0x2000, 0, 0, u32 q.payload 0, 1] } := by
  have hgo : ¬(q.payload.length ≠ 4) := not_not_intro hlen
  have hmay : ¬((!s.fb R.NET_STAT_TIEROLE) = true ∧ (!s.fb R.NET_STAT_ORIG) = true) := by simp [htie]
  unfold barrier
  rw [if_neg hgo]
  extract_lets b s1 r s2
  rw [if_neg hmode, if_neg hmay, if_pos htie]
  have hsends : Sends [] _ s2 := originate_sends r (s1.setNet fun n => { n with barOwn := some { req := q, b := b } })
  exact ⟨congrArg Net.barOwn hsends.net, congrArg Net.barPend hsends.net, List.getLast?_concat⟩

/-- The commands accepted before the barrier are complete (log entry 110). -/
theorem barrierReached_complete {b : Nat} {s : State} (hpend : s.net.barPend = some b)
    (hdone : ((s.cp.q1 ++ s.cp.q2 ++ s.cp.q3).any fun h => decide (h.at_ ≤ s.net.barAt)) = false) :
    barrierReached s = s.setNet fun n => { n with bar := b, barPend := none } := by
  simp only [barrierReached, hpend, hdone]
  rfl

/-- The collect token is held here. -/
def holdToken (b : Nat) (l : List Nat) (s : State) : State := s.setNet fun n => { n with token := some (b, l) }

theorem barrierCollectToken_tie {b : Nat} {l : List Nat} {s : State} (htie : s.fb R.NET_STAT_TIEROLE = true) :
    barrierCollectToken b l s = tokenTry (holdToken b l s) := if_pos htie

theorem tokenTry_passes {b : Nat} {l : List Nat} {s : State} (hown : s.net.barOwn = none) (hshown : showsBarrier s b = true) :
    tokenTry (holdToken b l s) = ((holdToken b l s).setNet fun n => { n with token := none }).emit .packet
      ([0x05, 0x2000, 0, 0, b, 1] ++ (l ++ absentHere s)) := by
  have hshown' : showsBarrier (holdToken b l s) b = true := hshown
  have hown' : (holdToken b l s).net.barOwn = none := hown
  have hheld : (holdToken b l s).net.token = some (b, l) := rfl
  simp only [tokenTry, hheld, hshown', hown']
  rfl

theorem tokenTry_waits {b : Nat} {l : List Nat} {s : State} (hshown : showsBarrier s b = false) :
    tokenTry (holdToken b l s) = holdToken b l s := by
  have hshown' : showsBarrier (holdToken b l s) b = false := hshown
  have hheld : (holdToken b l s).net.token = some (b, l) := rfl
  simp only [tokenTry, hheld, hshown']
  rfl

/-! ## Snapshots (R392, R423, R425) -/

theorem snapshotAt_armed {q : Packet} {e : Nat} {s : State} (hlen : q.payload = []) (hnamed : namedEpoch s q.seqep = some e)
    (hlead : enteredHere q = false ∨ leadOk s q.seqep = true) :
    snapshotAt q s = s.setNet fun n => { n with snaps := n.snaps ++ [{ req := q, epoch := e }] } := by
  have hin : ¬(enteredHere q = true ∧ (!leadOk s q.seqep) = true) := by
    rintro ⟨hhere, hlate⟩
    obtain h | h := hlead
    · exact Bool.false_ne_true (h.symm.trans hhere)
    · simp [h] at hlate
  simp only [snapshotAt, hlen, List.length_nil, ne_eq, not_true_eq_false, if_false, if_neg hin, hnamed]

theorem snapshotCapture_mem {z : Snap} {s : State} (hz : z ∈ s.net.snaps) (hgot : z.got = none) (hepoch : z.epoch = s.rx.epoch) :
    { z with got := some (s.rx.tag, s.rx.words, s.rx.tag.testBit 63), at_ := s.now } ∈ (snapshotCapture s).net.snaps := by
  refine List.mem_map.2 ⟨z, hz, ?_⟩
  simp [hgot, hepoch]

/-- The one captured snapshot is answered, and no longer waits. -/
theorem snapshotReply_one {z : Snap} {tag : Nat} {ws : List Nat} {c : Bool} {s : State} (hone : s.net.snaps = [z])
    (hgot : z.got = some (tag, ws, c)) (hcycle : z.at_ / 10000 < s.now / 10000) :
    snapshotReply s =
      reply z.req (if c then goodStat s else .notCoherent) (leBytes 8 tag ++ ws.flatMap (leBytes 4)) 0
        (s.setNet fun n => { n with snaps := [] }) := by
  unfold snapshotReply
  extract_lets go
  have hdue : go = [z] := by simp [go, hone, hgot, hcycle]
  have hleft : (s.setNet fun n => { n with snaps := n.snaps.filter fun y => !go.contains y }) =
      s.setNet fun n => { n with snaps := [] } := by
    simp [State.setNet, hdue, hone]
  rw [hleft, hdue, List.foldl_cons, List.foldl_nil]
  simp only [hgot]
  rfl

/-! ## What a packet that leaves takes from the CP and the ports (R363, R416) -/

theorem State.port_setPort (s : State) (p q : Nat) (v : Port) : (s.setPort p v).port q = if q = p then v else s.port q :=
  Smap.get_set (fun _ => ({} : Port)) s.trv.ports p q v

/-- Between `s` and `t` frames joined the queues of ports. -/
def Queued (s t : State) : Prop :=
  t = { s with trv := t.trv } ∧ ∀ q, ∃ tx, t.port q = { s.port q with tx := tx }

theorem Queued.refl (s : State) : Queued s s := ⟨rfl, fun _ => ⟨_, rfl⟩⟩

theorem Queued.trans {s t u : State} (h : Queued s t) (h' : Queued t u) : Queued s u := by
  obtain ⟨hframe, hports⟩ := h
  obtain ⟨hframe', hports'⟩ := h'
  refine ⟨by rw [hframe', hframe], fun q => ?_⟩
  obtain ⟨tx, htx⟩ := hports q
  obtain ⟨tx', htx'⟩ := hports' q
  exact ⟨tx', by rw [htx', htx]⟩

theorem Queued.setPort (p : Nat) (tx : List Frame) (s : State) : Queued s (s.setPort p { s.port p with tx := tx }) := by
  refine ⟨rfl, fun q => ?_⟩
  rw [State.port_setPort]
  split
  case isTrue h => exact ⟨tx, by rw [h]⟩
  case isFalse => exact ⟨_, rfl⟩

theorem foldl_enqueueFrame_queued (f : Frame) (ports : List Nat) (s : State) :
    Queued s (ports.foldl (fun t k => enqueueFrame f k t) s) :=
  List.foldlRecOn (motive := Queued s) _ _ (.refl s) fun t ht k _ => ht.trans (.setPort k _ t)

/-- The next frame of this station has the next sequence number. -/
theorem Queued.fseq (s : State) (n : Nat) : Queued s { s with trv := { s.trv with fseq := n } } := ⟨rfl, fun _ => ⟨_, rfl⟩⟩

theorem ringSend_queued (p : Packet) (s : State) : Queued s (ringSend p s) :=
  (Queued.fseq s _).trans (foldl_enqueueFrame_queued _ _ _)

/-- A packet's departure takes from the budgets alone; one of class 2 of parcel 0 takes nothing. -/
theorem budgetTake_frame (p : Packet) (s : State) : ∃ c0 hb tok1 ten,
    budgetTake p s = { s with cp := { s.cp with c0 := c0, hb := hb, tok1 := tok1, tenTok := ten } } := by
  unfold budgetTake
  split
  · split <;> exact ⟨_, _, _, _, rfl⟩
  · split
    · exact ⟨_, _, _, _, rfl⟩
    · split <;> exact ⟨_, _, _, _, rfl⟩

theorem budgetTake_free {p : Packet} (s : State) (hcls : p.cls = 2) (hq : p.parcel = 0) : budgetTake p s = s := by
  simp [budgetTake, hcls, hq]

/-- The packet as it leaves, from the state in which its budget has been taken. -/
theorem launch_queued (p : Packet) (s : State) :
    Queued ((budgetTake p s).emit .packet [p.opcode, p.dest, p.cls, p.parcel, p.tag] (packetBytes p)) (launch p s) :=
  ringSend_queued ..

theorem launch_spec (p : Packet) (s : State) :
    (launch p s).cp.orig = s.cp.orig ∧ (launch p s).cp.hbSrc = s.cp.hbSrc ∧ (launch p s).lastOut = some {
      ch := .packet, args := [p.opcode, p.dest, p.cls, p.parcel, p.tag], data := packetBytes p } := by
  obtain ⟨hframe, -⟩ := launch_queued p s
  obtain ⟨c0, hb, tok1, ten, htake⟩ := budgetTake_frame p s
  rw [htake] at hframe
  rw [hframe]
  exact ⟨rfl, rfl, List.getLast?_concat⟩

/-! ## The origination queue (R416) -/

theorem originationRelease_one {p : Packet} {s : State} (hone : s.cp.orig = [p]) (hmay : budgetAllows p s = true) :
    originationRelease s = launch p { s with cp := { s.cp with orig := [] } } := by
  simp [originationRelease, hone, hmay]

/-! ## Replies leave the sources of HEARTBEAT (R412) -/

theorem originate_hbSrc (p : Packet) (s : State) : (originate p s).cp.hbSrc = s.cp.hbSrc := by
  unfold originate enter
  split
  · obtain ⟨-, h, -⟩ := launch_spec { p with len := p.payload.length } s
    exact h
  · rfl

theorem hostOut_hbSrc (k : Nat) (q : Packet) (s : State) : (hostOut k q s).cp.hbSrc = s.cp.hbSrc := by
  unfold hostOut
  split <;> rfl

theorem sendOut_hbSrc (p : Packet) (s : State) : (sendOut p s).cp.hbSrc = s.cp.hbSrc := by
  simp only [sendOut]
  split
  · rfl
  · split
    · exact hostOut_hbSrc ..
    · exact originate_hbSrc ..

theorem reply_hbSrc (q : Packet) (t : Stat) (body : List Byte) (s : State) :
    (reply q t body 0 s).cp.hbSrc = s.cp.hbSrc := by
  unfold reply replyAs
  split
  · rfl
  · extract_lets pay cls r1 r s1
    cases q.via with
    | ring k => exact sendOut_hbSrc ..
    | host k => exact hostOut_hbSrc ..
    | side => rfl
    | self => rfl

/-- A source that has had no answer in this cycle is answered with the datum and the entry (R423). -/
theorem heartbeat_answers {q : Packet} {s : State} (hlen : q.payload = []) (hfirst : s.cp.hbSrc.contains q.src = false) :
    heartbeat q s = reply q .ok (leBytes 8 s.now ++ sliceBytes s.net.rcOwn 0 16) 0
      { s with cp := { s.cp with hbSrc := s.cp.hbSrc ++ [q.src] } } := by
  simp only [heartbeat, hlen, hfirst]
  rfl

/-! ## Roll-call lost (R380, R421) -/

theorem rollCallLost_orphan {s : State} (haddr : s.addressed = true) (horig : s.fb R.NET_STAT_ORIG = false)
    (hgood : s.fb R.NET_STAT_RCLOST = false) (hdue : s.due s.net.rcAt 1000000 = true)
    (htie : s.fb R.NET_STAT_TIEROLE = false) (hdatum : s.dtmState ≠ dsDATUM) :
    ∃ u, u = (s.fs R.NET_STAT_RCLOST 1).fs R.NET_STAT_DSTATE 3 ∧
      rollCallLost s = { u with pwr := { s.pwr with lossAt := some s.lt } } := by
  refine ⟨_, rfl, ?_⟩
  simp [rollCallLost, haddr, horig, hgood, hdue, htie, hdatum]

theorem rollCallLost_tie {s : State} (haddr : s.addressed = true) (horig : s.fb R.NET_STAT_ORIG = false)
    (hgood : s.fb R.NET_STAT_RCLOST = false) (hdue : s.due s.net.rcAt 1000000 = true)
    (htie : s.fb R.NET_STAT_TIEROLE = true) :
    rollCallLost s = (s.fs R.NET_STAT_ORIG 1).fs R.NET_STAT_SPLIT 1 := by
  simp [rollCallLost, haddr, horig, hgood, hdue, htie]

theorem rollCallLost_datum {s : State} (haddr : s.addressed = true) (horig : s.fb R.NET_STAT_ORIG = false)
    (hgood : s.fb R.NET_STAT_RCLOST = false) (hdue : s.due s.net.rcAt 1000000 = true)
    (htie : s.fb R.NET_STAT_TIEROLE = false) (hdatum : s.dtmState = dsDATUM) :
    rollCallLost s = s.fs R.NET_STAT_ORIG 1 := by
  simp [rollCallLost, haddr, horig, hgood, hdue, htie, hdatum]

end Sys2Proof.Machine

/-! # The cycle and the roll-call (R372 to R380, R416) -/

namespace Sys2Proof.Machine

/-! ## The control blocks of a cycle (R346, R382) -/

/-- Between `s` and `t` ports sent control blocks: trace, free values and port records alone changed, and no port's mode. -/
def BlocksSent (s t : State) : Prop :=
  t = { s with out := t.out, freeCtr := t.freeCtr, trv := t.trv } ∧ ∀ q, (t.port q).mode = (s.port q).mode

theorem BlocksSent.refl (s : State) : BlocksSent s s := ⟨rfl, fun _ => rfl⟩

theorem BlocksSent.trans {s t u : State} (h : BlocksSent s t) (h' : BlocksSent t u) : BlocksSent s u := by
  obtain ⟨hframe, hmode⟩ := h
  obtain ⟨hframe', hmode'⟩ := h'
  exact ⟨by rw [hframe', hframe], fun q => (hmode' q).trans (hmode q)⟩

theorem BlocksSent.portState {s t : State} (h : BlocksSent s t) (p : Nat) : t.portState p = s.portState p := by
  rw [h.1]; rfl

theorem BlocksSent.portMode {s t : State} (h : BlocksSent s t) (p : Nat) : t.portMode p = s.portMode p := h.2 p

/-- The port awaits the response to its next DLY request. -/
def dlyAsked (o : Port) : Port := { o with dlySeq := (o.dlySeq + 1) % 128, dlyWait := true }

theorem cycleBlocks_idle {k p : Nat} {s : State} (h : s.portState p ≠ poRUN ∨ s.portMode p = 2) : cycleBlocks k p s = s :=
  if_pos h

theorem cycleBlocks_sends {k p : Nat} {s : State} (hrun : s.portState p = poRUN) (hmode : s.portMode p ≠ 2) :
    (cycleBlocks k p s = { s with out := (cycleBlocks k p s).out, freeCtr := (cycleBlocks k p s).freeCtr,
                                  trv := (cycleBlocks k p s).trv }) ∧
      ∀ q, (cycleBlocks k p s).port q = if q = p then dlyAsked (s.port p) else s.port q := by
  have hgo : ¬(s.portState p ≠ poRUN ∨ s.portMode p = 2) := by simp [hrun, hmode]
  rw [cycleBlocks, if_neg hgo]
  exact ⟨rfl, fun q => State.port_setPort ..⟩

theorem cycleBlocks_sent (k p : Nat) (s : State) : BlocksSent s (cycleBlocks k p s) := by
  by_cases hidle : s.portState p ≠ poRUN ∨ s.portMode p = 2
  · rw [cycleBlocks_idle hidle]; exact .refl s
  · obtain ⟨hrun, hmode⟩ := not_or.1 hidle
    obtain ⟨hframe, hports⟩ := cycleBlocks_sends (k := k) (not_not.1 hrun) hmode
    refine ⟨hframe, fun q => ?_⟩
    rw [hports]
    split
    case isTrue h => rw [h]; rfl
    case isFalse => rfl

theorem cycleBlocks_port_ne (k : Nat) {p q : Nat} (s : State) (h : q ≠ p) : (cycleBlocks k p s).port q = s.port q := by
  by_cases hidle : s.portState p ≠ poRUN ∨ s.portMode p = 2
  · rw [cycleBlocks_idle hidle]
  · obtain ⟨hrun, hmode⟩ := not_or.1 hidle
    obtain ⟨-, hports⟩ := cycleBlocks_sends (k := k) (not_not.1 hrun) hmode
    rw [hports, if_neg h]

theorem foldl_cycleBlocks_sent (k : Nat) (l : List Nat) (s : State) : BlocksSent s (l.foldl (fun t p => cycleBlocks k p t) s) :=
  List.foldlRecOn (motive := BlocksSent s) _ _ (.refl s) fun t ht p _ => ht.trans (cycleBlocks_sent k p t)

theorem foldl_cycleBlocks_port (k : Nat) {q : Nat} {l : List Nat} (s : State) (h : q ∉ l) :
    (l.foldl (fun t p => cycleBlocks k p t) s).port q = s.port q :=
  List.foldlRecOn (motive := fun t : State => t.port q = s.port q) _ _ rfl fun t ht _ hp =>
    (cycleBlocks_port_ne k t (ne_of_mem_of_not_mem hp h).symm).trans ht

/-- Every listed port in RUN that is no Ethernet port asks once. -/
theorem foldl_cycleBlocks_asks {k p : Nat} {l : List Nat} {s : State} (hl : l.Nodup) (hp : p ∈ l)
    (hrun : s.portState p = poRUN) (hmode : s.portMode p ≠ 2) :
    (l.foldl (fun t p => cycleBlocks k p t) s).port p = dlyAsked (s.port p) := by
  obtain ⟨l1, l2, rfl⟩ := List.append_of_mem hp
  have hparts := List.nodup_append.1 hl
  have hbefore : p ∉ l1 := fun h => hparts.2.2 p h p (by simp) rfl
  have hafter : p ∉ l2 := (List.nodup_cons.1 hparts.2.1).1
  have hsent := foldl_cycleBlocks_sent k l1 s
  have hport := foldl_cycleBlocks_port k s hbefore
  rw [List.foldl_append, List.foldl_cons, foldl_cycleBlocks_port k _ hafter]
  generalize l1.foldl (fun t p => cycleBlocks k p t) s = u at hsent hport
  obtain ⟨-, hports⟩ := cycleBlocks_sends (k := k) ((hsent.portState p).trans hrun) (fun h => hmode ((hsent.portMode p).symm.trans h))
  rw [hports, if_pos rfl, hport]

/-! ## What the traffic of a cycle's start keeps (R374, R378, R396) -/

/-- Between `s` and `t` packets and roll-call frames left or were queued: the datum, the budgets of a packet of parcel 0 and
class 2, this station's entry and the DLY requests under way are as before. -/
structure CycleKeeps (s t : State) : Prop where
  now : t.now = s.now
  cp : t.cp = { s.cp with orig := t.cp.orig }
  entry : t.net.rcOwn = s.net.rcOwn
  dly : ∀ p, (t.port p).dlyWait = (s.port p).dlyWait ∧ (t.port p).dlySeq = (s.port p).dlySeq

theorem CycleKeeps.refl (s : State) : CycleKeeps s s := ⟨rfl, rfl, rfl, fun _ => ⟨rfl, rfl⟩⟩

theorem CycleKeeps.trans {s t u : State} (h : CycleKeeps s t) (h' : CycleKeeps t u) : CycleKeeps s u :=
  ⟨h'.now.trans h.now, by rw [h'.cp, h.cp], h'.entry.trans h.entry, fun p =>
    ⟨(h'.dly p).1.trans (h.dly p).1, (h'.dly p).2.trans (h.dly p).2⟩⟩

theorem CycleKeeps.of_queued {s t : State} (h : Queued s t) : CycleKeeps s t := by
  obtain ⟨hframe, hports⟩ := h
  refine ⟨by rw [hframe], by rw [hframe], by rw [hframe], fun p => ?_⟩
  obtain ⟨tx, htx⟩ := hports p
  rw [htx]
  exact ⟨rfl, rfl⟩

/-- A state in which the records named are the same. -/
theorem CycleKeeps.of_eq {s t : State} (hnow : t.now = s.now) (hcp : t.cp = s.cp) (hentry : t.net.rcOwn = s.net.rcOwn)
    (htrv : t.trv = s.trv) : CycleKeeps s t :=
  ⟨hnow, by rw [hcp], hentry, fun p => by rw [State.port, htrv]; exact ⟨rfl, rfl⟩⟩

theorem CycleKeeps.setNet (s : State) (f : Net → Net) (h : (f s.net).rcOwn = s.net.rcOwn) : CycleKeeps s (s.setNet f) :=
  .of_eq rfl rfl h rfl

theorem CycleKeeps.emit (s : State) (c : Chan) (a : List Nat) (b : List Byte) : CycleKeeps s (s.emit c a b) :=
  .of_eq rfl rfl rfl rfl

theorem originateRoll_keeps (k : Nat) (s : State) : CycleKeeps s (originateRoll k s) := by
  unfold originateRoll
  extract_lets d wrap s0 head blank mine body f trv s1
  have h0 : CycleKeeps s s0 := .of_eq rfl rfl rfl rfl
  have h1 : CycleKeeps s0 s1 := .of_queued (.fseq s0 _)
  have hsent := (h0.trans h1).trans (.of_queued (foldl_enqueueFrame_queued f ([0, 1].filter (ringRun s)) s1))
  generalize ([0, 1].filter (ringRun s)).foldl (fun t p => enqueueFrame f p t) s1 = u at hsent
  exact hsent.trans (.of_eq rfl rfl rfl rfl)

theorem tieRoll_keeps (k : Nat) (s : State) : CycleKeeps s (tieRoll k s) := by
  unfold tieRoll
  split
  · extract_lets f trv s1
    exact (CycleKeeps.of_queued (.fseq s _)).trans (.of_queued (foldl_enqueueFrame_queued f ([2, 3].filter (ringRun s)) s1))
  · exact .refl s

/-- A packet of class 2 of parcel 0 takes no budget (R416). -/
theorem enter_keeps {p : Packet} {s : State} (hcls : p.cls = 2) (hq : p.parcel = 0) : CycleKeeps s (enter p s) := by
  unfold enter
  split
  · have hqueued := launch_queued p s
    rw [budgetTake_free s hcls hq] at hqueued
    exact (CycleKeeps.emit s _ _ _).trans (.of_queued hqueued)
  · exact ⟨rfl, rfl, rfl, fun _ => ⟨rfl, rfl⟩⟩

theorem originate_keeps {p : Packet} {s : State} (hcls : p.cls = 2) (hq : p.parcel = 0) : CycleKeeps s (originate p s) :=
  enter_keeps hcls hq

theorem crefSend_keeps (s : State) : CycleKeeps s (crefSend s) := by
  unfold crefSend
  split
  · exact .of_eq rfl rfl rfl rfl
  · split
    · exact .refl s
    · extract_lets l pay p
      have hcount : CycleKeeps s (s.inc R.NET_CREF_SENT) := .of_eq rfl rfl rfl rfl
      exact (hcount.trans (.setNet _ _ rfl)).trans (originate_keeps (p := p) rfl rfl)

theorem sendVia_keeps (ports : List Nat) (p : Packet) (s : State) : CycleKeeps s (sendVia ports p s) := by
  unfold sendVia
  extract_lets q f trv s1
  have hsent := (CycleKeeps.of_queued (.fseq s ((s.trv.fseq + 1) % 4096))).trans
    (.of_queued (foldl_enqueueFrame_queued f (ports.filter (ringRun s)) s1))
  exact hsent.trans (.of_eq rfl rfl rfl rfl)

theorem startSurvey_keeps (p : Nat) (s : State) : CycleKeeps s (startSurvey p s) := by
  unfold startSurvey
  extract_lets k dest
  have hsent := sendVia_keeps [k] (surveyPacket s dest k []) s
  generalize sendVia [k] (surveyPacket s dest k []) s = u at hsent
  exact hsent.trans (.of_eq rfl rfl rfl rfl)

/-! ## The start of a cycle (R372, R416) -/

/-- The budgets are renewed, the means are taken and this station's entry is computed. -/
def cycleOpened (k : Nat) (s : State) : State :=
  (rollMeans (refill (s.until (10000 * k)))).setNet fun n =>
    { n with rcOwn := ownEntry (rollMeans (refill (s.until (10000 * k)))) }

/-- Every port has sent its blocks. -/
def cycleAsked (k : Nat) (s : State) : State :=
  (List.range (cycleOpened k s).portsFit).foldl (fun t p => cycleBlocks k p t) (cycleOpened k s)

theorem cycleStart_keeps (k : Nat) (s : State) : CycleKeeps (cycleAsked k s) (cycleStart k s) := by
  unfold cycleStart
  extract_lets s0 s1 s2 s3 s4 s5
  have h3 : CycleKeeps s2 s3 := by
    unfold s3
    split
    · exact originateRoll_keeps k s2
    · exact .refl s2
  have h5 : CycleKeeps s2 s5 := (h3.trans (tieRoll_keeps k s3)).trans (crefSend_keeps s4)
  clear_value s5
  change CycleKeeps s2 _
  refine h5.trans ?_
  split
  · exact (CycleKeeps.setNet s5 _ rfl).trans (startSurvey_keeps ..)
  · split
    · exact ((CycleKeeps.setNet s5 _ rfl).trans (.setNet _ _ rfl)).trans (startSurvey_keeps ..)
    · exact .refl s5

theorem cycleStart_spec (k : Nat) (s : State) :
    (cycleStart k s).now = max s.now (10000 * k) ∧ (cycleStart k s).cp.c0 = 0 ∧ (cycleStart k s).cp.hb = 0 ∧
      (cycleStart k s).cp.hbSrc = [] ∧ (cycleStart k s).cp.tok1 = min 2068 (s.cp.tok1 + 512) ∧
      (cycleStart k s).net.rcOwn = ownEntry (rollMeans (refill (s.until (10000 * k)))) ∧
      ∀ p ∈ List.range s.portsFit, s.portState p = poRUN → s.portMode p ≠ 2 →
        ((cycleStart k s).port p).dlyWait = true ∧ ((cycleStart k s).port p).dlySeq = ((s.port p).dlySeq + 1) % 128 := by
  obtain ⟨hnow, hcp, hentry, hdly⟩ := cycleStart_keeps k s
  have hframe := (foldl_cycleBlocks_sent k (List.range (cycleOpened k s).portsFit) (cycleOpened k s)).1
  have hasked : ∀ p ∈ List.range s.portsFit, s.portState p = poRUN → s.portMode p ≠ 2 →
      (cycleAsked k s).port p = dlyAsked (s.port p) := fun p hp hrun hmode =>
    foldl_cycleBlocks_asks (k := k) (s := cycleOpened k s) List.nodup_range hp hrun hmode
  generalize cycleStart k s = t at hnow hcp hentry hdly
  change cycleAsked k s = _ at hframe
  rw [hframe] at hnow hcp hentry
  refine ⟨hnow.trans (State.until_datum ..), ?_, ?_, ?_, ?_, hentry, fun p hp hrun hmode => ?_⟩
  · rw [hcp]; rfl
  · rw [hcp]; rfl
  · rw [hcp]; rfl
  · rw [hcp]; rfl
  · obtain ⟨hwait, hseq⟩ := hdly p
    rw [hwait, hseq, hasked p hp hrun hmode]
    exact ⟨rfl, rfl⟩

end Sys2Proof.Machine

/-! # Roll-call copies and the family's settlement (R374 to R380, R392 to R396, R420) -/

namespace Sys2Proof.Machine

/-- What a request's own rule does is what the row does, for a claim that the host's own fields do not touch. -/
theorem Does.of_request {c : Instr} {op : Nat} {p q : Packet} {k : Packet → State → State} {s s1 : State}
    {P : State → Prop} (h : exec c s = run (request op p k) s) (ha : Admits op p s q s1)
    (hkeep : ∀ t, P t → P { t with pending := s.pending, variant := s.variant }) (hP : P (k q s1)) : Does c s P :=
  .of_admits h ha (hkeep _ hP)

/-! ## A copy is merged (R376, R379) -/

/-- The merged cycle is shown, and RCLOST has fallen. -/
def RollShown (c : Nat) (t : State) : Prop :=
  t.fg R.NET_RCCYC_CYCLE = c % 2 ^ 32 ∧ t.fg R.NET_STAT_RCLOST = 0

theorem RollShown.mono {c : Nat} {s t : State} (h : RollShown c s) (hcyc : t.reg R.NET_RCCYC = s.reg R.NET_RCCYC)
    (hlost : t.fg R.NET_STAT_RCLOST = s.fg R.NET_STAT_RCLOST) : RollShown c t :=
  ⟨(State.fg_congr R.NET_RCCYC_CYCLE hcyc).trans h.1, hlost.trans h.2⟩

theorem RollShown.of_regs {c : Nat} {l : List Nat} {s t : State} (h : RollShown c s) (hregs : SameRegs l s t)
    (hcyc : R.NET_RCCYC ∉ l) (hstat : R.NET_STAT ∉ l) : RollShown c t :=
  h.mono (hregs _ hcyc) (State.fg_congr R.NET_STAT_RCLOST (hregs _ hstat))

/-- A write of a field of another register than these two. -/
theorem RollShown.fs {c : Nat} {s : State} (h : RollShown c s) (f : Fld) (v : Nat)
    (hf : f.adr ≠ R.NET_RCCYC ∧ f.adr ≠ R.NET_STAT) : RollShown c (s.fs f v) :=
  h.of_regs (s.fs_sameRegs f v (List.mem_singleton.2 rfl)) (by simpa using hf.1.symm) (by simpa using hf.2.symm)

theorem segmentEnds_shown {c : Nat} {s : State} (h : RollShown c s) : RollShown c (segmentEnds s) := by
  unfold segmentEnds
  split
  · exact h
  · have hfree : RollShown c s.free.2 := h.of_regs (l := []) (.of_regs rfl) (by simp) (by simp)
    exact ((hfree.fs R.NET_ENDS_VALID 1 (by decide)).fs R.NET_ENDS_ENDA _ (by decide)).fs R.NET_ENDS_ENDB _ (by decide)

theorem segmentEnds_frame (s : State) : ∃ r n, segmentEnds s = { s with regs := r, freeCtr := n } := by
  unfold segmentEnds
  split
  · exact ⟨_, _, rfl⟩
  · exact ⟨_, _, rfl⟩

/-- The counters that a reply can step are the Ethernet ports' (R361). -/
theorem le_of_mem_replyCounters {v : Via} {a : Nat} (h : a ∈ replyCounters v) : 0x130108 ≤ a := by
  cases v with
  | host k =>
    have ha : a = 0x130108 + 16 * k := List.mem_singleton.1 h
    omega
  | ring k =>
    simp only [replyCounters, R.HST_ETHCNT_W2, List.mem_cons, List.not_mem_nil, or_false] at h
    omega
  | side => cases h
  | self => cases h

/-- A reply with status OK leaves the network's records, whether NOREPLY suppresses it or not. -/
theorem reply_ok_keeps (q : Packet) (body : List Byte) (s : State) :
    (reply q .ok body 0 s).net = s.net ∧ SameRegs (replyCounters q.via) s (reply q .ok body 0 s) := by
  by_cases h : q.noReply = true
  · have hnone : reply q .ok body 0 s = s := if_pos ⟨h, rfl⟩
    rw [hnone]
    exact ⟨rfl, .refl _ s⟩
  · obtain ⟨rest, hsends⟩ := replyAs_sends Stat.ok.disp q .ok body 0 s (Bool.eq_false_iff.2 h)
    exact ⟨hsends.net, SameRegs.trans (.of_regs rfl) hsends.sameRegs⟩

/-- Between `s` and `t` the collect token moved: the roll-call's records are as before. -/
def TokenMoves (s t : State) : Prop :=
  t.net.rcAt = s.net.rcAt ∧ t.net.rcMiss = s.net.rcMiss ∧ ∀ c, RollShown c s → RollShown c t

theorem tokenTry_moves (s : State) : TokenMoves s (tokenTry s) := by
  unfold tokenTry
  split
  · exact ⟨rfl, rfl, fun _ h => h⟩
  · split
    · exact ⟨rfl, rfl, fun _ h => h⟩
    · extract_lets all s1 map s2
      split
      · split
        next r _ _ =>
          obtain ⟨hnet, hregs⟩ := reply_ok_keeps r.req (leBytes 4 _ ++ leBytes 512 map) (s2.emit .packet _)
          refine ⟨(congrArg Net.rcAt hnet).trans rfl, (congrArg Net.rcMiss hnet).trans rfl, fun c hc => ?_⟩
          exact RollShown.of_regs (s := s) hc hregs
            (fun h => absurd (le_of_mem_replyCounters h) (by decide)) (fun h => absurd (le_of_mem_replyCounters h) (by decide))
        next => exact ⟨rfl, rfl, fun _ h => h⟩
      · exact ⟨rfl, rfl, fun _ h => h⟩

/-- The registers of the merged entries. -/
theorem foldl_rcEntries_net (buf : List (Nat × List Byte)) (s : State) :
    ((List.range 64).foldl (fun t p =>
      (List.range 4).foldl (fun t w =>
        t.setReg (R.NET_RC p w) (w32 (u32 (Smap.get (fun _ => emptyEntry) buf p) (4 * w)))) t) s).net = s.net :=
  List.foldlRecOn (motive := fun t : State => t.net = s.net) _ _ rfl fun _ ht _ _ =>
    List.foldlRecOn (motive := fun u : State => u.net = s.net) _ _ ht fun _ hu _ _ => hu

/-- The cycle's fields of NET_RCSTAT, NET_RCCYC and NET_STAT. -/
theorem rollShown_written (c absent div wrap split : Nat) (s : State) :
    RollShown c ((((((s.fs R.NET_RCSTAT_NABS absent).fs R.NET_RCCYC_CYCLE c).fs R.NET_RCSTAT_RCDIV div).fs
      R.NET_STAT_WRAP wrap).fs R.NET_STAT_SPLIT split).fs R.NET_STAT_RCLOST 0) := by
  refine ⟨?_, State.fg_fs_same _ R.NET_STAT_RCLOST 0 (by decide)⟩
  simp (disch := decide) only [State.fg_fs_ne, State.fg_fs_same]
  rw [show R.NET_RCCYC_CYCLE.w = 32 from rfl]

theorem rollMerge_spec (c : Nat) (b : List Byte) (s : State) :
    (rollMerge c b s).net.rcAt = s.lt ∧ (rollMerge c b s).net.rcMiss = s.net.rcMiss ∧ RollShown c (rollMerge c b s) := by
  unfold rollMerge
  extract_lets old me buf image n abs seen s1 s2 wrap s3 s4 s5 gap since awake pwr s6 s7
  have hnet1 : s1.net = s.net := foldl_rcEntries_net buf s
  clear_value s1
  have h3 : RollShown c s3 := rollShown_written ..
  have hnet3 : s3.net = s.net := by simp only [s3, s2, State.fs_net, hnet1]
  clear_value s3
  have hnet4 : s4.net = s.net := by
    unfold s4
    split
    · obtain ⟨r, m, hframe⟩ := segmentEnds_frame s3
      rw [hframe]; exact hnet3
    · rw [State.setReg_net]; exact hnet3
  have h4 : RollShown c s4 := by
    unfold s4
    split
    · exact segmentEnds_shown h3
    · exact h3.of_regs (l := [R.NET_ENDS]) (fun a ha => State.reg_setReg_ne _ _ (by simpa using ha)) (by decide) (by decide)
  clear_value s4
  have hnet5 : s5.net = s.net := by
    unfold s5 State.when
    split
    · rw [State.fs_net]; exact hnet4
    · exact hnet4
  have h5 : RollShown c s5 := by
    unfold s5 State.when
    split
    · exact h4.mono (State.reg_fs_ne _ _ _ (by decide)) (State.fg_fs_disj _ _ _ _ (by decide) rfl (by decide))
    · exact h4
  clear_value s5
  have h6 : RollShown c s6 := h5.of_regs (l := []) (.of_regs rfl) (by simp) (by simp)
  have hnet6 : s6.net = s.net := hnet5
  clear_value s6
  have hnet7 : s7.net = s.net := by
    unfold s7 State.when
    split
    · rw [State.fs_net, State.fs_net]; exact hnet6
    · rw [State.fs_net]; exact hnet6
  have h7 : RollShown c s7 := by
    have hleft : RollShown c (s6.fs R.PWR_STAT_TLEFT 0) := h6.fs _ _ (by decide)
    unfold s7 State.when
    split
    · exact hleft.fs _ _ (by decide)
    · exact hleft
  clear_value s7
  obtain ⟨hat, hmiss, hshown⟩ := tokenTry_moves (s7.setNet fun x => { x with
    rcCycle := c, rcBuf := buf, rcSeen := seen, rcImage := sealRoll image, rcAt := s.lt, rcEver := true })
  have hmiss7 : s7.net.rcMiss = s.net.rcMiss := congrArg Net.rcMiss hnet7
  exact ⟨hat, hmiss.trans hmiss7, hshown c (h7.of_regs (l := []) (.of_regs rfl) (by simp) (by simp))⟩

theorem rollForward_frame (p : Nat) (f : Frame) (b : List Byte) (s : State) :
    rollForward p f b s = { s with trv := (rollForward p f b s).trv } := by
  unfold rollForward
  extract_lets turns o mine
  split
  · rfl
  · split
    · rfl
    · split <;> rfl

/-- A good copy that is not older than the last one is merged (R376). -/
theorem rollCall_good {p c : Nat} {f : Frame} {s : State} (hring : p < 2) (hgood : rollGood f.body = true)
    (hcycle : leAt f.body 0 8 / 10000 = c) (hnew : s.net.rcLast ≤ c) :
    RollShown c (rollCall p f s) ∧ (rollCall p f s).net.rcLast = c ∧ (rollCall p f s).net.rcAt = s.lt ∧
      (rollCall p f s).net.rcMiss = false := by
  have hok : ¬(!rollGood f.body) = true := by simp [hgood]
  have hnot : ¬leAt f.body 0 8 / 10000 < s.net.rcLast := by omega
  unfold rollCall
  rw [if_neg hok, if_neg (Nat.not_le.2 hring)]
  extract_lets c' skip s0 body yields s1
  rw [if_neg hnot]
  have hlt : s1.lt = s.lt := by
    unfold s1
    split <;> rfl
  have hmiss : s1.net.rcMiss = false := by
    unfold s1
    split
    · rw [State.fs_net, State.fs_net]; rfl
    · rfl
  obtain ⟨hat, hkept, hshown⟩ := rollMerge_spec c' body s1
  rw [rollForward_frame]
  refine ⟨?_, hcycle, hat.trans hlt, hkept.trans hmiss⟩
  rw [← hcycle]
  exact hshown.of_regs (l := []) (.of_regs rfl) (by simp) (by simp)

/-! ## Two fields of one register -/

theorem State.fs_two_spec (s : State) (f g : Fld) (v w : Nat) (hf : f.lo + f.w ≤ 32) (hg : g.lo + g.w ≤ 32)
    (hadr : f.adr = g.adr) (hdisj : f.lo + f.w ≤ g.lo ∨ g.lo + g.w ≤ f.lo) :
    ((s.fs f v).fs g w).fg f = v % 2 ^ f.w ∧ ((s.fs f v).fs g w).fg g = w % 2 ^ g.w ∧
      SameRegs [g.adr] s ((s.fs f v).fs g w) :=
  ⟨(State.fg_fs_disj _ g f w hg hadr hdisj).trans (State.fg_fs_same s f v hf), State.fg_fs_same _ g w hg,
    (s.fs_sameRegs f v (List.mem_singleton.2 hadr)).trans (State.fs_sameRegs _ g w (List.mem_singleton.2 rfl))⟩

/-- Settles O33: a case for each command, by the rule of its row. -/
theorem cycleAndRollCallCommandsTakeEffect : Obligations.CycleAndRollCallCommandsTakeEffect := by
  refine ⟨?reference, ?cycle, ?frame, ?orphan, ?tie, ?datum, ?deadline, ?heartbeat, ?barrierAll, ?barrierOwn, ?reached,
    ?tokenGoes, ?tokenWaits, ?armed, ?captured, ?answered, ?blocks, ?release⟩
  case reference =>
    intro w s hen
    exact Does.of_rule (f := currentReferenceMessage w) rfl (fun _ h => h) (currentReferenceMessage_spec hen)
  case cycle =>
    intro k s
    exact Does.of_rule (f := cycleStart k) rfl (fun _ h => h) (cycleStart_spec k s)
  case frame =>
    intro p h body s hrun hring hheader htype hgood hnew
    have htype' : (bitsOf h 0 3 == 2) = true := by simp [bitsOf, htype]
    obtain ⟨⟨hcyc, hlost⟩, hlast, hat, hmiss⟩ :=
      rollCall_good (f := headerFrame h body) hring hgood rfl hnew
    refine Does.of_rule (f := fun s => if ringRun s p.val && headerGood h && bitsOf h 0 3 == 2 then
      rollCall p.val (headerFrame h body) s else s) rfl (fun _ h => h) ?_
    rw [if_pos (by simp [hrun, hheader, htype'])]
    exact ⟨hcyc, hlost, hlast, hat, hmiss⟩
  case orphan =>
    intro s haddr horig hgood hdue htie hdatum
    obtain ⟨u, hu, hlost⟩ := rollCallLost_orphan haddr horig hgood hdue htie hdatum
    refine Does.of_rule (f := rollCallLost) rfl (fun _ h => h) ?_
    obtain ⟨hrc, hstate, hothers⟩ := s.fs_two_spec R.NET_STAT_RCLOST R.NET_STAT_DSTATE 1 3 (by decide) (by decide) rfl (by decide)
    rw [← hu] at hrc hstate hothers
    rw [hlost]
    exact ⟨hrc, hstate, rfl, hothers⟩
  case tie =>
    intro s haddr horig hgood hdue htie
    refine Does.of_rule (f := rollCallLost) rfl (fun _ h => h) ?_
    rw [rollCallLost_tie haddr horig hgood hdue htie]
    exact s.fs_two_spec R.NET_STAT_ORIG R.NET_STAT_SPLIT 1 1 (by decide) (by decide) rfl (by decide)
  case datum =>
    intro s haddr horig hgood hdue htie hdatum
    refine Does.of_rule (f := rollCallLost) rfl (fun _ h => h) ?_
    rw [rollCallLost_datum haddr horig hgood hdue htie hdatum]
    exact ⟨State.fg_fs_same s R.NET_STAT_ORIG 1 (by decide),
      State.fg_fs_disj s R.NET_STAT_ORIG R.NET_STAT_DSTATE 1 (by decide) rfl (by decide), s.fs_sameRegs R.NET_STAT_ORIG 1 (by decide)⟩
  case deadline =>
    intro p s hfit
    refine Does.of_rule (f := fastPathDeadlineMiss p.val) rfl (fun _ h => h) ?_
    rw [fastPathDeadlineMiss, if_neg (Nat.not_le.2 hfit)]
    exact ⟨State.raise_net .., State.raise_bit _ _ _ _ (by decide)⟩
  case heartbeat =>
    intro p q s s1 hadmits hlen hreply hfirst
    obtain ⟨hstatus, hbody, -, -⟩ := reply_spec q .ok (leBytes 8 s1.now ++ sliceBytes s1.net.rcOwn 0 16)
      { s1 with cp := { s1.cp with hbSrc := s1.cp.hbSrc ++ [q.src] } } hreply
    refine Does.of_request (k := heartbeat) rfl hadmits (fun _ h => h) ?_
    rw [heartbeat_answers hlen hfirst]
    exact ⟨hstatus, hbody, reply_hbSrc ..⟩
  case barrierAll =>
    intro p q s s1 hadmits hlen hmode
    refine Does.of_request (k := barrier) rfl hadmits (fun _ h => h) ?_
    rw [barrier_broadcast hlen hmode]
    rfl
  case barrierOwn =>
    intro p q s s1 hadmits hlen hmode htie
    exact Does.of_request (k := barrier) rfl hadmits (fun _ h => h) (barrier_initiated hlen hmode htie)
  case reached =>
    intro b s hpend hdone
    exact exec_of_run_eq (f := barrierReached) rfl (barrierReached_complete hpend hdone) rfl rfl
  case tokenGoes =>
    intro b l s htie hown hshown
    refine Does.of_rule (f := barrierCollectToken b l) rfl (fun _ h => h) ?_
    rw [barrierCollectToken_tie htie, tokenTry_passes hown hshown]
    exact ⟨rfl, List.getLast?_concat⟩
  case tokenWaits =>
    intro b l s htie hshown
    exact exec_of_run_eq (f := barrierCollectToken b l) rfl
      ((barrierCollectToken_tie htie).trans (tokenTry_waits hshown)) rfl rfl
  case armed =>
    intro p q e s s1 hadmits hlen hnamed hlead
    refine Does.of_request (k := snapshotAt) rfl hadmits (fun _ h => h) ?_
    rw [snapshotAt_armed hlen hnamed hlead]
    rfl
  case captured =>
    intro z s hz hgot hepoch
    exact Does.of_run (f := snapshotCapture) rfl ⟨snapshotCapture_mem hz hgot hepoch, rfl⟩
  case answered =>
    intro z tag ws c s hone hgot hcycle hreply
    refine Does.of_rule (f := snapshotReply) rfl (fun _ h => h) ?_
    rw [snapshotReply_one hone hgot hcycle]
    obtain ⟨hstatus, hbody, -, -⟩ := reply_spec z.req (if c then goodStat s else .notCoherent)
      (leBytes 8 tag ++ ws.flatMap (leBytes 4)) (s.setNet fun n => { n with snaps := [] }) hreply
    obtain ⟨rest, hsends⟩ := replyAs_sends (if c then goodStat s else .notCoherent).disp z.req
      (if c then goodStat s else .notCoherent) (leBytes 8 tag ++ ws.flatMap (leBytes 4)) 0
      (s.setNet fun n => { n with snaps := [] }) hreply
    exact ⟨congrArg Net.snaps hsends.net, hbody, hstatus⟩
  case blocks =>
    intro p s hver hcls hlen hn hd hz
    refine Does.of_rule (f := crefBlocks p) rfl (fun _ h => h) ?_
    rw [crefBlocks_one hver hcls hlen hn hd hz]
    obtain ⟨-, hlast⟩ := crefDeliver_spec (entryNode p.via) (p.src % 4096) (leAt p.payload 0 8 % 2 ^ 63)
      (refBlock (u8 p.payload 9)) ((leAt p.payload 0 8).testBit 63) (w32 (u32 p.payload 12)) s
    rw [w32_toNat (u32_lt ..)] at hlast
    exact hlast
  case release =>
    intro p s hone hmay
    refine Does.of_rule (f := originationRelease) rfl (fun _ h => h) ?_
    rw [originationRelease_one hone hmay]
    obtain ⟨horig, -, hlast⟩ := launch_spec p { s with cp := { s.cp with orig := [] } }
    exact ⟨horig, hlast⟩

end Sys2Proof.Machine

/-! # The release of the stack half (R87, R494, R500) -/

namespace Sys2Proof.Machine

/-! ## Which registers the bleed switches move (R144, R147) -/

/-- The registers of the switches closed for balancing. -/
def balOnRegs : List Nat := [R.BAL_ON0, R.BAL_ON1]

theorem SameRegs.foldl {α : Type} {l : List Nat} (as : List α) (f : State → α → State) (s : State)
    (h : ∀ t, ∀ a ∈ as, SameRegs l t (f t a)) : SameRegs l s (as.foldl f s) :=
  List.foldlRecOn (motive := SameRegs l s) as f (.refl l s) fun t ht a ha => ht.trans (h t a ha)

theorem SameRegs.setReg {l : List Nat} (s : State) {a : Nat} (v : Word) (h : a ∈ l) : SameRegs l s (s.setReg a v) :=
  fun _ hb => State.reg_setReg_ne _ _ fun he => hb (he ▸ h)

/-- A change of balancing's own records. -/
theorem SameRegs.of_bal (l : List Nat) (s : State) (b : Bal) : SameRegs l s { s with bal := b } := .of_regs rfl

theorem setCellBit_onRegs (s : State) (n : Nat) (b : Bool) :
    SameRegs balOnRegs s (s.setCellBit R.BAL_ON0 R.BAL_ON1 n b) := by
  unfold State.setCellBit
  split
  · exact .setReg s _ (by decide)
  · exact .setReg s _ (by decide)

theorem excCredit_regs (e : Nat) (s : State) : (excCredit e s).regs = s.regs := by
  unfold excCredit
  extract_lets b r s1
  exact List.foldlRecOn (motive := fun t : State => t.regs = s.regs) r _ rfl fun _ ht _ _ => ht

theorem accrue_regs (n : Nat) (s : State) : (accrue n s).regs = s.regs := by
  unfold accrue
  split
  · split
    · exact excCredit_regs ..
    · rfl
  · rfl

theorem bleedMessage_regs (n : Nat) (on_ : Bool) (e : Nat) (s : State) : (bleedMessage n on_ e s).regs = s.regs := by
  unfold bleedMessage
  exact sendUp_regs ..

theorem bleedMessage_sameRegs (l : List Nat) (n : Nat) (on_ : Bool) (e : Nat) (s : State) :
    SameRegs l s (bleedMessage n on_ e s) := .of_regs (bleedMessage_regs ..)

theorem balOpen_onRegs (n : Nat) (s : State) : SameRegs balOnRegs s (balOpen n s) :=
  (SameRegs.of_regs (accrue_regs n s)).trans ((SameRegs.of_bal _ _ _).trans (setCellBit_onRegs _ n false))

theorem bleedSwitch_onRegs (n : Nat) (on_ : Bool) (e : Nat) (s : State) : SameRegs balOnRegs s (bleedSwitch n on_ e s) := by
  unfold bleedSwitch
  split
  · extract_lets c
    exact ((SameRegs.of_bal _ s _).trans (setCellBit_onRegs _ n true)).trans (bleedMessage_sameRegs _ n true c _)
  · exact (balOpen_onRegs n s).trans ((SameRegs.of_bal _ (balOpen n s) _).trans (bleedMessage_sameRegs _ n false e _))

theorem leaveDriven_regs (e : Nat) (old : State) (n : Nat) (s : State) : (leaveDriven e old n s).regs = s.regs := by
  unfold leaveDriven
  extract_lets s1
  have h1 : s1.regs = s.regs := by
    unfold s1
    split <;> rfl
  split
  · exact h1
  · exact (bleedMessage_regs ..).trans h1

/-! ## The cap of the band (R149) -/

theorem capOf_congr {s t : State} (hmax : t.fg R.BAL_CTRL_MAXSW = s.fg R.BAL_CTRL_MAXSW)
    (hband : t.fg R.BAL_STAT_TBAND = s.fg R.BAL_STAT_TBAND) : capOf t = capOf s := by
  simp only [capOf, hmax, hband]

theorem capOf_lt (s : State) : capOf s < 32 := by
  have hmax : s.fg R.BAL_CTRL_MAXSW < 32 := s.fg_lt R.BAL_CTRL_MAXSW
  unfold capOf
  extract_lets m
  split <;> omega

/-- The registers of the requests. -/
def balTmrRegs : List Nat := cells.map R.BAL_TMR

theorem balTmr_fs_sameRegs (s : State) {n : Nat} (h : n ∈ cells) (f : Fld) (v : Nat) (hf : f.adr = R.BAL_TMR n) :
    SameRegs balTmrRegs s (s.fs f v) :=
  s.fs_sameRegs f v (List.mem_map.2 ⟨n, h, hf.symm⟩)

/-- What an update leaves when the cap has been shown: requests, switches and the count of closed ones move. -/
def balMovedRegs : List Nat := balTmrRegs ++ balOnRegs

/-- An update shows the cap of the band first; then requests and switches move, and the closed ones are counted. -/
theorem balUpdate_shows (e : Nat) (old s : State) : ∃ u n, SameRegs balMovedRegs (s.fs R.BAL_STAT_CAP (capOf s)) u ∧
    balUpdate e old s = u.fs R.BAL_STAT_NCLOSED n := by
  unfold balUpdate
  extract_lets s1 bal1 s2 s3 s4 lost bal4 s5 s6 opens closes s7 s8
  refine ⟨s8, _, ?_, rfl⟩
  have hon : ∀ {t u : State}, SameRegs balOnRegs t u → SameRegs balMovedRegs t u := fun h =>
    h.mono fun a ha => List.mem_append_right _ ha
  have htmr : ∀ {t u : State}, SameRegs balTmrRegs t u → SameRegs balMovedRegs t u := fun h =>
    h.mono fun a ha => List.mem_append_left _ ha
  have h3 : SameRegs balMovedRegs s1 s3 := (SameRegs.of_bal _ s1 _).trans <| htmr <| .foldl cells _ s2 fun t n hn =>
    (balTmr_fs_sameRegs t hn (R.BAL_TMR_REQ n) _ rfl).trans (balTmr_fs_sameRegs _ hn (R.BAL_TMR_HELD n) _ rfl)
  have h4 : SameRegs balMovedRegs s1 s4 := h3.trans <| hon <| .foldl _ _ s3 fun t n _ => balOpen_onRegs n t
  have h6 : SameRegs balMovedRegs s1 s6 := (h4.trans (.of_bal _ s4 _)).trans <|
    .foldl lost _ s5 fun t n _ => .of_regs (leaveDriven_regs e old n t)
  have h7 : SameRegs balMovedRegs s1 s7 := h6.trans <| hon <| .foldl opens _ s6 fun t n _ => bleedSwitch_onRegs n false e t
  exact h7.trans <| hon <| .foldl closes _ s7 fun t n _ => bleedSwitch_onRegs n true e t

theorem balUpdate_cap (e : Nat) (old s : State) :
    (balUpdate e old s).fg R.BAL_STAT_CAP = capOf s ∧ capOf (balUpdate e old s) = capOf s := by
  obtain ⟨u, n, hmoved, hupdate⟩ := balUpdate_shows e old s
  have hctrl := hmoved R.BAL_CTRL (by decide)
  have hstat := hmoved R.BAL_STAT (by decide)
  rw [hupdate]
  constructor
  · rw [State.fg_fs_disj u R.BAL_STAT_NCLOSED R.BAL_STAT_CAP n (by decide) rfl (by decide), State.fg_congr R.BAL_STAT_CAP hstat,
      State.fg_fs_same s R.BAL_STAT_CAP _ (by decide)]
    exact Nat.mod_eq_of_lt (capOf_lt s)
  · refine capOf_congr ?_ ?_
    · rw [State.fg_fs_ne u R.BAL_STAT_NCLOSED R.BAL_CTRL_MAXSW n (by decide), State.fg_congr R.BAL_CTRL_MAXSW hctrl,
        State.fg_fs_ne s R.BAL_STAT_CAP R.BAL_CTRL_MAXSW _ (by decide)]
    · rw [State.fg_fs_disj u R.BAL_STAT_NCLOSED R.BAL_STAT_TBAND n (by decide) rfl (by decide),
        State.fg_congr R.BAL_STAT_TBAND hstat,
        State.fg_fs_disj s R.BAL_STAT_CAP R.BAL_STAT_TBAND _ (by decide) rfl (by decide)]

theorem capOf_of_regs {s t : State} (h : t.regs = s.regs) : capOf t = capOf s :=
  capOf_congr (State.fg_congr _ (State.reg_congr h _)) (State.fg_congr _ (State.reg_congr h _))

theorem balMature_cap (s : State) : capOf (balMature s) = capOf s := by
  unfold balMature
  split
  · rfl
  · split
    · exact (balUpdate_cap ..).2.trans (capOf_of_regs (excCredit_regs ..))
    · rfl

/-- After a refresh BAL_STAT.CAP is the cap of the band (R149). -/
theorem balRefresh_cap (s : State) : (balRefresh s).fg R.BAL_STAT_CAP = capOf s := by
  unfold balRefresh
  extract_lets s1
  exact (balUpdate_cap ..).1.trans ((capOf_of_regs (excCredit_regs ..)).trans (balMature_cap s))

/-! ## Step 1 (R87, R494, R500) -/

/-- The stack half is out of reset, and its health timer starts. -/
def stackReleased (s : State) : State :=
  { s with rst := { s.rst with stackUp := true }, tone := { s.tone with healthAt := s.lt } }

theorem loadCal_none {s : State} (h : s.nv.cal = []) : loadCal (stackReleased s) = stackReleased s := by
  have hcal : (stackReleased s).nv.cal = [] := h
  rw [loadCal, hcal]
  exact if_pos rfl

theorem loadCal_one {c : Nat} {v : Word} {s : State} (h : s.nv.cal = [(c, v)]) :
    loadCal (stackReleased s) = (stackReleased s).setReg (R.SMP_CAL c) v := by
  have hcal : (stackReleased s).nv.cal = [(c, v)] := h
  rw [loadCal, hcal]
  exact if_pos rfl

theorem State.sysUp_congr {s t : State} (hscope : t.rst.scope = s.rst.scope)
    (hstep : t.fg R.RST_STAT_STEP = s.fg R.RST_STAT_STEP) : t.sysUp = s.sysUp := by
  simp only [State.sysUp, hscope, hstep]

/-- The state in which the switches of the stack half are up to date. -/
def stackRefreshed (s : State) : State := balRefresh (loadCal (stackReleased s))

/-- What step 1 does before it is shown or told: outside the BAL block the registers are those of `w`. -/
theorem stackRefreshed_spec {s w : State} (hload : loadCal (stackReleased s) = w) (hrst : w.rst = { s.rst with stackUp := true })
    (htone : w.tone = { s.tone with healthAt := s.lt }) (hssv : w.ssv = s.ssv) (hbar : w.bar = s.bar)
    (hbal : ∀ a, 0x040000 ≤ a → w.reg a = s.reg a) :
    (∀ a, a < 0x040000 ∨ 0x050000 ≤ a → (stackRefreshed s).reg a = w.reg a) ∧
      (stackRefreshed s).rst = { s.rst with stackUp := true } ∧ (stackRefreshed s).tone = { s.tone with healthAt := s.lt } ∧
      (stackRefreshed s).ssv = s.ssv ∧ (stackRefreshed s).bar.txMap = s.bar.txMap ∧
      (stackRefreshed s).fg R.BAL_STAT_CAP = capOf s ∧ (stackRefreshed s).sysUp = s.sysUp := by
  have hcap := balRefresh_cap w
  obtain ⟨hregs, rg, o, un, bl, ex, sv, hframe⟩ := balRefresh_bleeds w
  have hshown : capOf w = capOf s :=
    capOf_congr (State.fg_congr _ (hbal R.BAL_CTRL (by decide))) (State.fg_congr _ (hbal R.BAL_STAT (by decide)))
  unfold stackRefreshed
  rw [hload]
  generalize balRefresh w = u at hcap hregs hframe
  have hurst : u.rst = { s.rst with stackUp := true } := by rw [hframe]; exact hrst
  have hutone : u.tone = w.tone := by rw [hframe]
  have hussv : u.ssv = w.ssv := by rw [hframe]
  have hubar : u.bar.txMap = w.bar.txMap := by rw [hframe]
  refine ⟨hregs, hurst, hutone.trans htone, hussv.trans hssv, hubar.trans (by rw [hbar]), hcap.trans hshown, ?_⟩
  refine State.sysUp_congr (by rw [hurst]) ?_
  exact (State.fg_congr _ (hregs R.RST_STAT (by decide))).trans (State.fg_congr _ (hbal R.RST_STAT (by decide)))

theorem releaseStackHalf_eq {s : State} (h : s.rst.stackUp = false) :
    releaseStackHalf s =
      if (stackRefreshed s).sysUp then
        sendUp mRELEASE [0x0A] { stackRefreshed s with ssv := { (stackRefreshed s).ssv with cause := 0x0A } }
      else (stackRefreshed s).fs R.RST_STAT_STEP 1 := by
  have hdown : ¬s.rst.stackUp = true := by simp [h]
  rw [releaseStackHalf, if_neg hdown]
  rfl

/-- Step 1 while the system half is in reset: the stack half is released, with its calibration. -/
theorem releaseStackHalf_first {c : Nat} {v : Word} {s : State} (hstack : s.rst.stackUp = false) (hsys : s.sysUp = false)
    (hcal : s.nv.cal = [(c, v)]) (hlow : 1 ≤ c) (hhigh : c ≤ 52) :
    (releaseStackHalf s).rst = { s.rst with stackUp := true } ∧ (releaseStackHalf s).fg R.RST_STAT_STEP = 1 ∧
      (releaseStackHalf s).reg (R.SMP_CAL c) = v ∧ (releaseStackHalf s).tone = { s.tone with healthAt := s.lt } ∧
      (releaseStackHalf s).fg R.BAL_STAT_CAP = capOf s ∧
      ∀ a, a ≠ R.SMP_CAL c → a ≠ R.RST_STAT → a < 0x040000 ∨ 0x050000 ≤ a → (releaseStackHalf s).reg a = s.reg a := by
  have hadr : R.SMP_CAL c < 0x040000 := by
    unfold R.SMP_CAL
    omega
  obtain ⟨hregs, hrst, htone, -, -, hcap, hup⟩ := stackRefreshed_spec (loadCal_one hcal) rfl rfl rfl rfl
    fun a ha => State.reg_setReg_ne _ _ (by omega)
  have hcell : R.SMP_CAL c ≠ R.RST_STAT := by
    have : R.RST_STAT = 0x160004 := rfl
    omega
  rw [releaseStackHalf_eq hstack, hup, hsys]
  refine ⟨hrst, State.fg_fs_same _ R.RST_STAT_STEP 1 (by decide), ?_, htone, ?_, fun a ha hne hout => ?_⟩
  · exact (State.reg_fs_ne _ R.RST_STAT_STEP 1 hcell).trans ((hregs _ (.inl hadr)).trans (State.reg_setReg_same ..))
  · exact (State.fg_fs_ne _ R.RST_STAT_STEP R.BAL_STAT_CAP 1 (by decide)).trans hcap
  · exact (State.reg_fs_ne _ R.RST_STAT_STEP 1 hne).trans ((hregs a hout).trans (State.reg_setReg_ne _ _ ha))

/-- Step 1 while the system half runs: its notice with cause 0x0A follows (R494). -/
theorem releaseStackHalf_noticed {l : Nat} {s : State} (hstack : s.rst.stackUp = false) (hsys : s.sysUp = true)
    (hcal : s.nv.cal = []) (hlane : messageLane s.bar.txMap = some l) :
    (releaseStackHalf s).rst.stackUp = true ∧ (releaseStackHalf s).ssv = { s.ssv with cause := 0x0A } ∧
      (releaseStackHalf s).lastMsg = some (.up, [mRELEASE, 0x0A]) ∧ (releaseStackHalf s).fg R.BAL_STAT_CAP = capOf s ∧
      ∀ a, a < 0x040000 ∨ 0x050000 ≤ a → (releaseStackHalf s).reg a = s.reg a := by
  obtain ⟨hregs, hrst, -, hssv, hmap, hcap, hup⟩ := stackRefreshed_spec (loadCal_none hcal) rfl rfl rfl rfl fun _ _ => rfl
  rw [releaseStackHalf_eq hstack, hup, hsys]
  generalize stackRefreshed s = u at hregs hrst hssv hmap hcap
  rw [if_pos rfl]
  refine ⟨?_, ?_, sendUp_lastMsg _ _ _ ?_, ?_, fun a ha => ?_⟩
  · rw [sendUp_rst]; exact congrArg Rst.stackUp hrst
  · rw [sendUp_ssv, hssv]
  · have hmap' := congrArg messageLane hmap
    exact fun h => Option.some_ne_none l (hlane.symm.trans (hmap'.symm.trans h))
  · rw [sendUp_fg]; exact hcap
  · rw [sendUp_reg]; exact hregs a ha

end Sys2Proof.Machine

/-! # The release of the system half (R361, R500, R548, R552) -/

namespace Sys2Proof.Machine

/-! ## The memory and the address (R361, R548, R552) -/

/-- The journal is in no replay of its own, and an open erase record has marked its sector. -/
theorem nvRelease_spec (s : State) :
    (nvRelease s).nv.jphase ≠ 2 ∧ (nvRelease s).nv.eraseRec = none ∧
      (∀ n ∈ s.nv.eraseRec.toList, (nvRelease s).nv.incomp = setBit s.nv.incomp n true) ∧
      (nvRelease s).nv.bytes = s.nv.bytes ∧ (nvRelease s).nv.foundOk = s.nv.foundOk ∧
      SameRegs [R.NVM_STAT] s (nvRelease s) ∧ (nvRelease s).rst = s.rst ∧ (nvRelease s).bar = s.bar := by
  unfold nvRelease
  extract_lets w nv s1
  have h1 : s1.nv.jphase ≠ 2 ∧ s1.nv.eraseRec = s.nv.eraseRec ∧ s1.nv.incomp = s.nv.incomp ∧ s1.nv.bytes = s.nv.bytes ∧
      s1.nv.foundOk = s.nv.foundOk ∧ SameRegs [R.NVM_STAT] s s1 ∧ s1.rst = s.rst ∧ s1.bar = s.bar := by
    unfold s1
    split
    · have hreset : (0 : Nat) ≠ 2 := by decide
      exact ⟨hreset, rfl, rfl, rfl, rfl, s.fs_sameRegs R.NVM_STAT_REPLAY 1 (by decide), rfl, rfl⟩
    case isFalse h => exact ⟨h, rfl, rfl, rfl, rfl, .refl _ s, rfl, rfl⟩
  clear_value s1
  obtain ⟨hphase, herase, hincomp, hbytes, hfound, hregs, hrst, hbar⟩ := h1
  split
  case h_1 n hn =>
    refine ⟨hphase, rfl, fun m hm => ?_, hbytes, hfound, hregs.trans (.of_regs rfl), hrst, hbar⟩
    rw [← herase, hn] at hm
    rw [List.mem_singleton.1 hm, ← hincomp]
  case h_2 hn =>
    refine ⟨hphase, hn, fun m hm => ?_, hbytes, hfound, hregs, hrst, hbar⟩
    rw [← herase, hn] at hm
    cases hm

theorem State.serial_congr {s t : State} (h : t.nv.bytes = s.nv.bytes) : t.serial = s.serial := by
  simp only [State.serial, h]

theorem loadMac_spec (s : State) :
    (loadMac s).reg R.HST_MACLO = w32 s.serial ∧ (loadMac s).reg R.HST_MACHI = w32 (0x0200 + s.serial / 2 ^ 32 % 256) ∧
      SameRegs [R.HST_MACLO, R.HST_MACHI] s (loadMac s) := by
  unfold loadMac
  extract_lets n
  refine ⟨(State.reg_setReg_ne _ _ (by decide)).trans (State.reg_setReg_same ..), State.reg_setReg_same .., ?_⟩
  exact (SameRegs.setReg s _ (by decide)).trans (.setReg _ _ (by decide))

theorem loadMac_nv (s : State) : (loadMac s).nv = s.nv := by simp only [loadMac, State.setReg_nv]

theorem loadMac_rst (s : State) : (loadMac s).rst = s.rst := by simp only [loadMac, State.setReg_rst]

theorem loadMac_bar (s : State) : (loadMac s).bar = s.bar := by simp only [loadMac, State.setReg_bar]

/-! ## What the rest of step 2 keeps -/

/-- Between `s` and `t` domains, capture, the estimator, SOC's pulse and lanes were brought up: the step, the address, the
memory and the reset's record are as before. -/
structure StepKeeps (s t : State) : Prop where
  step : t.reg R.RST_STAT = s.reg R.RST_STAT
  macLo : t.reg R.HST_MACLO = s.reg R.HST_MACLO
  macHi : t.reg R.HST_MACHI = s.reg R.HST_MACHI
  nv : t.nv = s.nv
  rst : t.rst = s.rst

theorem StepKeeps.refl (s : State) : StepKeeps s s := ⟨rfl, rfl, rfl, rfl, rfl⟩

theorem StepKeeps.trans {s t u : State} (h : StepKeeps s t) (h' : StepKeeps t u) : StepKeeps s u :=
  ⟨h'.step.trans h.step, h'.macLo.trans h.macLo, h'.macHi.trans h.macHi, h'.nv.trans h.nv, h'.rst.trans h.rst⟩

theorem StepKeeps.of_regs {s t : State} (hregs : t.regs = s.regs) (hnv : t.nv = s.nv) (hrst : t.rst = s.rst) : StepKeeps s t :=
  ⟨State.reg_congr hregs _, State.reg_congr hregs _, State.reg_congr hregs _, hnv, hrst⟩

/-- A write of a field of another register. -/
theorem StepKeeps.fs (s : State) (f : Fld) (v : Nat)
    (h : R.RST_STAT ≠ f.adr ∧ R.HST_MACLO ≠ f.adr ∧ R.HST_MACHI ≠ f.adr) : StepKeeps s (s.fs f v) :=
  ⟨State.reg_fs_ne s f v h.1, State.reg_fs_ne s f v h.2.1, State.reg_fs_ne s f v h.2.2, rfl, rfl⟩

/-- A request for a domain that is no plot changes the domains alone. -/
theorem domReqOn_frame {d : Nat} (h : 128 ≤ d) (s : State) : ∃ dm, domReqOn d s = { s with dom := dm } := by
  obtain h' | ⟨-, h'⟩ | h' | ⟨v, h'⟩ := domReqOn_cases d s
  · exact ⟨_, h'⟩
  · rw [h', beginOn_eq, if_neg fun hplot => absurd hplot.1 (Nat.not_lt.2 h)]
    exact ⟨_, rfl⟩
  · exact ⟨_, h'⟩
  · exact ⟨_, h'⟩

/-! ## Lanes that do not train (R30, R500) -/

theorem sendMap_frame (s : State) : ∃ b o, sendMap s = { s with bar := b, out := o } ∧ b.failed = s.bar.failed := by
  by_cases h : s.bar.downLost = true
  · exact ⟨s.bar, s.out, if_pos h, rfl⟩
  · obtain ⟨hfailed, -, -, -, -, b, o, hframe⟩ := sendMap_spec s (Bool.eq_false_iff.2 h)
    rw [hframe] at hfailed
    exact ⟨b, o, hframe, hfailed⟩

/-- The lane's source is raised. -/
def laneRaised (l : Nat) (s : State) : State := (laneDown l s).raise 0x21 (if l < 22 then islBRX else islBTX) l

theorem barrierLaneFailed_eq {l : Nat} {s : State} (h : s.bar.failed.testBit l = false) :
    barrierLaneFailed l s = if l < 22 then sendMap (laneRaised l s) else laneRaised l s := by
  simp [barrierLaneFailed, h, laneRaised, laneDown]

theorem laneRaised_keeps (l : Nat) (s : State) :
    StepKeeps s (laneRaised l s) ∧ (laneRaised l s).bar.failed = setBit s.bar.failed l true := by
  have hisl : ∀ a, a ≠ R.FLT_ISL islBRX → a ≠ R.FLT_ISL islBTX → a ≠ R.FLT_STAT → (laneRaised l s).reg a = s.reg a := by
    intro a hrx htx hstat
    refine (State.raise_reg _ _ _ _ a ?_ hstat).trans rfl
    split
    · exact hrx
    · exact htx
  refine ⟨⟨?_, ?_, ?_, State.raise_nv .., State.raise_rst ..⟩, congrArg Bar.failed (State.raise_bar ..)⟩
  · exact hisl _ (by decide) (by decide) (by decide)
  · exact hisl _ (by decide) (by decide) (by decide)
  · exact hisl _ (by decide) (by decide) (by decide)

theorem barrierLaneFailed_keeps (l : Nat) (s : State) : StepKeeps s (barrierLaneFailed l s) ∧
    ∀ j, (barrierLaneFailed l s).bar.failed.testBit j = (decide (l = j) || s.bar.failed.testBit j) := by
  have hbit : ∀ j, (setBit s.bar.failed l true).testBit j = (decide (l = j) || s.bar.failed.testBit j) := fun j => by
    simp [setBit, Nat.testBit_two_pow, Bool.or_comm]
  by_cases h : s.bar.failed.testBit l = true
  · rw [barrierLaneFailed, if_pos h]
    refine ⟨.refl s, fun j => ?_⟩
    by_cases hj : l = j
    · simp [← hj, h]
    · simp [hj]
  · obtain ⟨hkeeps, hfailed⟩ := laneRaised_keeps l s
    rw [barrierLaneFailed_eq (Bool.eq_false_iff.2 h)]
    split
    · obtain ⟨b, o, hframe, hb⟩ := sendMap_frame (laneRaised l s)
      rw [hframe]
      refine ⟨hkeeps.trans (.of_regs rfl rfl rfl), fun j => ?_⟩
      rw [← hbit, ← hfailed, ← hb]
    · exact ⟨hkeeps, fun j => by rw [hfailed, hbit]⟩

/-- Lanes fail in turn: afterwards those are failed that were, and those listed. -/
theorem foldl_barrierLaneFailed_keeps (l : List Nat) (s : State) :
    StepKeeps s (l.foldl (fun t k => barrierLaneFailed k t) s) ∧
      ∀ j, (l.foldl (fun t k => barrierLaneFailed k t) s).bar.failed.testBit j =
        (decide (j ∈ l) || s.bar.failed.testBit j) := by
  induction l generalizing s with
  | nil => exact ⟨.refl s, fun j => by simp⟩
  | cons k l ih =>
    obtain ⟨hkeeps, hbits⟩ := barrierLaneFailed_keeps k s
    obtain ⟨hrest, hall⟩ := ih (barrierLaneFailed k s)
    refine ⟨hkeeps.trans hrest, fun j => ?_⟩
    rw [List.foldl_cons, hall, hbits]
    by_cases hj : j ∈ l <;> by_cases hk : k = j <;> simp [hj, hk, eq_comm]

/-! ## Step 2 -/

/-- The step is shown, and the system half is out of reset. -/
def systemReleased (s : State) : State :=
  { s.fs R.RST_STAT_STEP 2 with rst := { s.rst with scope := 0, stepAt := s.lt } }

/-- Domains of the system half are asked for. -/
def domainsAsked (s : State) : State := [domHKP, domDRAM, domDPHY].foldl (fun t d => domReqOn d t) s

/-- Capture memory leaves self-refresh. -/
def captureAwake (s : State) : State := if s.capFit then tapRefresh (s.fs R.CAP_STAT_SELFREF 0) else s

/-- The estimator takes its parameters from the memory. -/
def estimatorLoaded (s : State) : State :=
  { s with est := { s.est with params := s.nv.estPar.foldl (fun m (e : Nat × List Byte) => Smap.put m e.1 e.2) s.est.params } }

/-- SOC notes a pulse of SRST that is under way. -/
def pulseNoted (s : State) : State :=
  if s.srstHigh then { s.fs R.SAF_SRST_LSTATE 1 with soc := { s.soc with srstAt := s.lt } } else s

theorem domainsAsked_keeps (s : State) : StepKeeps s (domainsAsked s) ∧ (domainsAsked s).bar = s.bar := by
  refine List.foldlRecOn (motive := fun t : State => StepKeeps s t ∧ t.bar = s.bar) _ _ ⟨.refl s, rfl⟩ fun t ht d hd => ?_
  have hplot : 128 ≤ d := by
    revert d
    decide
  obtain ⟨hkeeps, hbar⟩ := ht
  obtain ⟨dm, h⟩ := domReqOn_frame hplot t
  rw [h]
  exact ⟨hkeeps.trans (.of_regs rfl rfl rfl), hbar⟩

theorem captureAwake_keeps (s : State) : StepKeeps s (captureAwake s) ∧ (captureAwake s).bar = s.bar := by
  unfold captureAwake
  split
  · exact ⟨(StepKeeps.fs s R.CAP_STAT_SELFREF 0 (by decide)).trans (.fs _ R.CAP_STAT_TAPLOAD _ (by decide)), rfl⟩
  · exact ⟨.refl s, rfl⟩

theorem pulseNoted_keeps (s : State) : StepKeeps s (pulseNoted s) ∧ (pulseNoted s).bar = s.bar := by
  unfold pulseNoted
  split
  · exact ⟨(StepKeeps.fs s R.SAF_SRST_LSTATE 1 (by decide)).trans (.of_regs rfl rfl rfl), rfl⟩
  · exact ⟨.refl s, rfl⟩

theorem releaseSystemHalf_eq {f : BitVec 24} {s : State} (hstep : s.fg R.RST_STAT_STEP < 2) (hscope : s.rst.scope ≠ 3)
    (hosc : s.bar.oscLost = false) (hdue : s.due s.bar.oscSince 100000000 = true) (hfound : s.nv.foundOk = true) :
    releaseSystemHalf f s = ((List.range 24).filter fun l => f.toNat.testBit l).foldl (fun t l => barrierLaneFailed l t)
      (pulseNoted (estimatorLoaded (captureAwake (domainsAsked (loadMac (nvRelease (systemReleased s))))))) := by
  have hgo : ¬(2 ≤ s.fg R.RST_STAT_STEP ∨ s.rst.scope = 3 ∨ s.bar.oscLost = true ∨
      (!s.due s.bar.oscSince 100000000) = true) := by
    simp [hscope, hosc, hdue]
    omega
  obtain ⟨-, -, -, -, hkept, -⟩ := nvRelease_spec (systemReleased s)
  have hfound' : (loadMac (nvRelease (systemReleased s))).nv.foundOk = true := by
    rw [loadMac_nv, hkept]; exact hfound
  have hfounded : (if (loadMac (nvRelease (systemReleased s))).nv.foundOk then loadMac (nvRelease (systemReleased s))
      else (loadMac (nvRelease (systemReleased s))).raise 0x3D islNVF 0) = loadMac (nvRelease (systemReleased s)) := if_pos hfound'
  conv_rhs => rw [← hfounded]
  rw [releaseSystemHalf, if_neg hgo]
  rfl

theorem releaseSystemHalf_keeps {f : BitVec 24} {s : State} (hstep : s.fg R.RST_STAT_STEP < 2) (hscope : s.rst.scope ≠ 3)
    (hosc : s.bar.oscLost = false) (hdue : s.due s.bar.oscSince 100000000 = true) (hfound : s.nv.foundOk = true) :
    StepKeeps (loadMac (nvRelease (systemReleased s))) (releaseSystemHalf f s) ∧
      ∀ j, (releaseSystemHalf f s).bar.failed.testBit j =
        (decide (j ∈ (List.range 24).filter fun l => f.toNat.testBit l) || s.bar.failed.testBit j) := by
  obtain ⟨-, -, -, -, -, -, -, hnvbar⟩ := nvRelease_spec (systemReleased s)
  have hbar0 : (loadMac (nvRelease (systemReleased s))).bar = s.bar := by
    rw [loadMac_bar, hnvbar]; rfl
  rw [releaseSystemHalf_eq hstep hscope hosc hdue hfound]
  generalize loadMac (nvRelease (systemReleased s)) = u at hbar0
  obtain ⟨hasked, hbar1⟩ := domainsAsked_keeps u
  obtain ⟨hawake, hbar2⟩ := captureAwake_keeps (domainsAsked u)
  obtain ⟨hnoted, hbar3⟩ := pulseNoted_keeps (estimatorLoaded (captureAwake (domainsAsked u)))
  have hloaded : StepKeeps (captureAwake (domainsAsked u)) (estimatorLoaded (captureAwake (domainsAsked u))) :=
    .of_regs rfl rfl rfl
  have hbar : (pulseNoted (estimatorLoaded (captureAwake (domainsAsked u)))).bar = s.bar :=
    hbar3.trans (hbar2.trans (hbar1.trans hbar0))
  obtain ⟨hkeeps, hbits⟩ := foldl_barrierLaneFailed_keeps ((List.range 24).filter fun l => f.toNat.testBit l)
    (pulseNoted (estimatorLoaded (captureAwake (domainsAsked u))))
  exact ⟨(((hasked.trans hawake).trans hloaded).trans hnoted).trans hkeeps, fun j => by rw [← hbar]; exact hbits j⟩

/-- Step 2 releases the system half with its memory, its address and the lanes that train (R361, R500, R548, R552). -/
theorem releaseSystemHalf_spec {f : BitVec 24} {s : State} (hstep : s.fg R.RST_STAT_STEP < 2) (hscope : s.rst.scope ≠ 3)
    (hosc : s.bar.oscLost = false) (hdue : s.due s.bar.oscSince 100000000 = true) (hfound : s.nv.foundOk = true) :
    (releaseSystemHalf f s).fg R.RST_STAT_STEP = 2 ∧ (releaseSystemHalf f s).sysUp = true ∧
      (releaseSystemHalf f s).nv.jphase ≠ 2 ∧ (releaseSystemHalf f s).nv.eraseRec = none ∧
      (∀ n ∈ s.nv.eraseRec.toList, (releaseSystemHalf f s).nv.incomp = setBit s.nv.incomp n true) ∧
      (releaseSystemHalf f s).reg R.HST_MACLO = w32 s.serial ∧
      (releaseSystemHalf f s).reg R.HST_MACHI = w32 (0x0200 + s.serial / 2 ^ 32 % 256) ∧
      ∀ l ∈ List.range 24, (releaseSystemHalf f s).bar.failed.testBit l = (f.toNat.testBit l || s.bar.failed.testBit l) := by
  obtain ⟨hkeeps, hfailed⟩ := releaseSystemHalf_keeps (f := f) hstep hscope hosc hdue hfound
  obtain ⟨hphase, herase, hincomp, hbytes, -, hnvregs, hnvrst, -⟩ := nvRelease_spec (systemReleased s)
  obtain ⟨hlo, hhi, hmacregs⟩ := loadMac_spec (nvRelease (systemReleased s))
  have hserial : (nvRelease (systemReleased s)).serial = s.serial := State.serial_congr hbytes
  have hshown : (loadMac (nvRelease (systemReleased s))).fg R.RST_STAT_STEP = 2 := by
    rw [State.fg_congr R.RST_STAT_STEP (hmacregs R.RST_STAT (by decide)),
      State.fg_congr R.RST_STAT_STEP (hnvregs R.RST_STAT (by decide))]
    exact State.fg_fs_same s R.RST_STAT_STEP 2 (by decide)
  have hnv : (releaseSystemHalf f s).nv = (nvRelease (systemReleased s)).nv := hkeeps.nv.trans (loadMac_nv _)
  have hrst : (releaseSystemHalf f s).rst.scope = 0 := by
    rw [hkeeps.rst, loadMac_rst, hnvrst]; rfl
  have hstepped := (State.fg_congr R.RST_STAT_STEP hkeeps.step).trans hshown
  have hlo' := hkeeps.macLo.trans hlo
  have hhi' := hkeeps.macHi.trans hhi
  rw [hserial] at hlo' hhi'
  generalize releaseSystemHalf f s = t at hnv hrst hstepped hlo' hhi' hfailed
  rw [hnv]
  refine ⟨hstepped, ?_, hphase, herase, hincomp, hlo', hhi', fun l hl => ?_⟩
  · rw [State.sysUp, hrst, hstepped]; rfl
  · rw [hfailed]
    simp [List.mem_range.1 hl]

/-- Step 3: the boot ROM runs and the watchdog starts (R500). -/
theorem releaseBootRom_eq {s : State} (hup : s.sysUp = true) (hstep : s.fg R.RST_STAT_STEP = 2) :
    releaseBootRom s = { s.fs R.RST_STAT_STEP 3 with rst := { s.rst with kickAt := s.lt, stepAt := s.lt } } :=
  if_pos ⟨hup, hstep⟩

end Sys2Proof.Machine

/-! # The image check (R557, R560) -/

namespace Sys2Proof.Machine

/-! ## The check of a bank (R556) -/

theorem imageFail_congr {s t : State} (hvariant : t.variant = s.variant) (hbank : t.bank = s.bank)
    (hflash : t.nv.flash = s.nv.flash) (hincomp : t.nv.incomp = s.nv.incomp) (b : Nat) : imageFail t b = imageFail s b := by
  unfold imageFail bankBytes partBit
  rw [hvariant, hbank, hflash, hincomp]

theorem State.bank_congr {s t : State} (ha : t.nv.ptrA = s.nv.ptrA) (hb : t.nv.ptrB = s.nv.ptrB) : t.bank = s.bank := by
  simp only [State.bank, ha, hb]

/-- A state with the memory and the part of another has its images. -/
theorem imageFail_of_nv {s t : State} (hvariant : t.variant = s.variant) (hnv : t.nv = s.nv) (b : Nat) :
    imageFail t b = imageFail s b :=
  imageFail_congr hvariant (State.bank_congr (by rw [hnv]) (by rw [hnv])) (by rw [hnv]) (by rw [hnv]) b

/-- The registers of a check. -/
def checkRegs : List Nat := [R.UPD_STAT, R.FLS_STAT]

theorem checkBank_frame (b : Nat) (s : State) : ∃ r, (checkBank b s).2 = { s with regs := r } := by
  unfold checkBank autoSuspend
  extract_lets f
  split
  · split
    · exact ⟨_, rfl⟩
    · exact ⟨_, rfl⟩
  · exact ⟨_, rfl⟩

theorem checkBank_sameRegs (b : Nat) (s : State) : SameRegs checkRegs s (checkBank b s).2 := by
  have hshown : SameRegs checkRegs s (s.fs R.UPD_STAT_VFAIL (imageFail s b)) := s.fs_sameRegs R.UPD_STAT_VFAIL _ (by decide)
  unfold checkBank autoSuspend
  extract_lets f
  split
  · split
    · exact hshown.trans (State.fs_sameRegs _ R.FLS_STAT_ASUSP _ (by decide))
    · exact hshown
  · exact hshown

theorem checkBank_fst (b : Nat) (s : State) : (checkBank b s).1 = imageFail s b := rfl

/-! ## The pointer (R557) -/

/-- The copy written is the newer one. -/
theorem ptrWrite_bank (f : BankPtr → BankPtr) (s : State) :
    (ptrWrite f s).bank = { f s.bank with seq := s.bank.seq + 1 } := by
  cases ha : s.nv.ptrA with
  | none =>
    cases hb : s.nv.ptrB with
    | none => simp [ptrWrite, State.bank, ha, hb]
    | some b => simp [ptrWrite, State.bank, ha, hb]
  | some a =>
    cases hb : s.nv.ptrB with
    | none => simp [ptrWrite, State.bank, ha, hb]
    | some b =>
      by_cases hnewer : a.seq < b.seq
      · have hto : a.seq ≤ b.seq := Nat.le_of_lt hnewer
        simp [ptrWrite, State.bank, ha, hb, hnewer, hto]
      · by_cases hto : a.seq ≤ b.seq
        · have hstays : ¬a.seq + 1 < b.seq := by omega
          simp [ptrWrite, State.bank, ha, hb, hnewer, hto, hstays]
        · simp [ptrWrite, State.bank, ha, hb, hnewer, hto]

theorem ptrWrite_frame (f : BankPtr → BankPtr) (s : State) :
    ∃ a b, ptrWrite f s = { s with nv := { s.nv with ptrA := a, ptrB := b } } := by
  unfold ptrWrite
  extract_lets w n toA
  split
  · exact ⟨_, _, rfl⟩
  · exact ⟨_, _, rfl⟩

/-! ## Faults of the check (R480, R560) -/

theorem State.raise_keeps_bit (s : State) (code isl param i : Nat) (hcode : faultBit code < 32)
    (h : ((s.reg (R.FLT_ISL isl)).toNat.testBit i) = true) :
    ((s.raise code isl param).reg (R.FLT_ISL isl)).toNat.testBit i = true := by
  have hfits : setBit (s.reg (R.FLT_ISL isl)).toNat (faultBit code) true < 2 ^ 32 :=
    setBit_lt _ _ 32 (s.reg (R.FLT_ISL isl)).isLt hcode
  rw [State.raise, State.raiseAs_sticky, w32_toNat hfits]
  simp [setBit, h]

/-- Writes outside the fault records leave a source raised. -/
theorem Raised.of_regs {code isl : Nat} {l : List Nat} {s t : State} (h : Raised code isl s) (hregs : SameRegs l s t)
    (hisl : R.FLT_ISL isl ∉ l) : Raised code isl t := by
  rw [Raised, hregs _ hisl]; exact h

/-! ## What the check of the chosen bank ends with (R560) -/

theorem bootBank_spec (b : Nat) (s : State) :
    (bootBank b s).fg R.RST_STAT_STEP = 5 ∧ (bootBank b s).fg R.UPD_STAT_BOOTED = b % 2 ∧ (bootBank b s).nv = s.nv ∧
      SameRegs [R.UPD_STAT, R.RST_STAT] s (bootBank b s) := by
  have hregs : (bootBank b s).regs = ((s.fs R.UPD_STAT_BOOTED b).fs R.RST_STAT_STEP 5).regs := rfl
  refine ⟨?_, ?_, rfl, ?_⟩
  · rw [State.fg_congr R.RST_STAT_STEP (State.reg_congr hregs _)]
    exact State.fg_fs_same _ R.RST_STAT_STEP 5 (by decide)
  · rw [State.fg_congr R.UPD_STAT_BOOTED (State.reg_congr hregs _),
      State.fg_fs_ne _ R.RST_STAT_STEP R.UPD_STAT_BOOTED 5 (by decide)]
    exact State.fg_fs_same _ R.UPD_STAT_BOOTED b (by decide)
  · exact ((s.fs_sameRegs R.UPD_STAT_BOOTED b (by decide)).trans (State.fs_sameRegs _ R.RST_STAT_STEP 5 (by decide))).trans
      (.of_regs hregs)

/-- A chosen bank that passes runs. -/
theorem bootChosen_passes {b : Nat} {s : State} (h : imageFail s b = 0) :
    (bootChosen b s).fg R.RST_STAT_STEP = 5 ∧ (bootChosen b s).fg R.UPD_STAT_BOOTED = b % 2 ∧ (bootChosen b s).nv = s.nv := by
  obtain ⟨r, hframe⟩ := checkBank_frame b s
  obtain ⟨hstep, hbooted, hnv, -⟩ := bootBank_spec b (checkBank b s).2
  have hrun : bootChosen b s = bootBank b (checkBank b s).2 := if_pos h
  rw [hrun]
  exact ⟨hstep, hbooted, hnv.trans (by rw [hframe])⟩

/-- The other bank has been checked, after the chosen one failed. -/
def otherChecked (b : Nat) (s : State) : State := (checkBank (1 - b) ((checkBank b s).2.raise 0x3D islNVF 0)).2

theorem otherChecked_spec (b : Nat) (s : State) :
    (otherChecked b s).nv = s.nv ∧ Raised 0x3D islNVF (otherChecked b s) ∧
      (otherChecked b s).fg R.RST_STAT_STEP = s.fg R.RST_STAT_STEP := by
  obtain ⟨r, hframe⟩ := checkBank_frame b s
  have hregs := checkBank_sameRegs b s
  unfold otherChecked
  generalize (checkBank b s).2 = u at hframe hregs
  obtain ⟨r', hframe'⟩ := checkBank_frame (1 - b) (u.raise 0x3D islNVF 0)
  have hregs' := checkBank_sameRegs (1 - b) (u.raise 0x3D islNVF 0)
  have hraised : Raised 0x3D islNVF (u.raise 0x3D islNVF 0) := State.raise_bit u _ _ _ (by decide)
  refine ⟨?_, hraised.of_regs hregs' (by decide), ?_⟩
  · rw [hframe']
    exact (State.raise_nv ..).trans (by rw [hframe])
  · rw [State.fg_congr R.RST_STAT_STEP (hregs' R.RST_STAT (by decide)),
      State.fg_congr R.RST_STAT_STEP (State.raise_reg u _ _ _ R.RST_STAT (by decide) (by decide)),
      State.fg_congr R.RST_STAT_STEP (hregs R.RST_STAT (by decide))]

/-- Whether the other bank passes does not depend on the check of the chosen one. -/
theorem otherChecked_fst (b : Nat) (s : State) :
    (checkBank (1 - b) ((checkBank b s).2.raise 0x3D islNVF 0)).1 = imageFail s (1 - b) := by
  obtain ⟨r, hframe⟩ := checkBank_frame b s
  rw [checkBank_fst]
  refine imageFail_of_nv ((State.raise_variant ..).trans ?_) ((State.raise_nv ..).trans ?_) _
  · rw [hframe]
  · rw [hframe]

theorem bootChosen_fails {b : Nat} {s : State} (h : imageFail s b ≠ 0) :
    bootChosen b s =
      if imageFail s (1 - b) = 0 then bootBank (1 - b) (revertTo (1 - b) (otherChecked b s)) else noBank (otherChecked b s) := by
  rw [← otherChecked_fst b s]
  exact if_neg h

theorem revertTo_spec (o : Nat) (s : State) :
    (revertTo o s).bank.active = o ∧ (revertTo o s).bank.pstate = 2 ∧ (revertTo o s).nv.cnt = s.nv.cnt ∧
      Raised 0x6E islNVF (revertTo o s) ∧ (Raised 0x3D islNVF s → Raised 0x3D islNVF (revertTo o s)) := by
  have hbank := ptrWrite_bank (fun x => { x with active := o, pstate := 2, stage := 0 }) s
  obtain ⟨a, b, hframe⟩ := ptrWrite_frame (fun x => { x with active := o, pstate := 2, stage := 0 }) s
  unfold revertTo
  generalize ptrWrite (fun x => { x with active := o, pstate := 2, stage := 0 }) s = u at hbank hframe
  have hkept : (u.raise 0x6E islNVF 0).bank = u.bank :=
    State.bank_congr (by rw [State.raise_nv]) (by rw [State.raise_nv])
  rw [hkept, hbank]
  refine ⟨rfl, rfl, ?_, State.raise_bit u _ _ _ (by decide), fun h => ?_⟩
  · rw [State.raise_nv, hframe]
  · have hregs : u.regs = s.regs := by rw [hframe]
    refine State.raise_keeps_bit u _ _ _ _ (by decide) ?_
    rw [State.reg_congr hregs]
    exact h

/-- A chosen bank that fails gives way to the other, with the pointer reverted. -/
theorem bootChosen_reverts {b : Nat} {s : State} (h : imageFail s b ≠ 0) (ho : imageFail s (1 - b) = 0) :
    (bootChosen b s).fg R.RST_STAT_STEP = 5 ∧ (bootChosen b s).fg R.UPD_STAT_BOOTED = (1 - b) % 2 ∧
      (bootChosen b s).bank.active = 1 - b ∧ (bootChosen b s).bank.pstate = 2 ∧ (bootChosen b s).nv.cnt = s.nv.cnt ∧
      Raised 0x3D islNVF (bootChosen b s) ∧ Raised 0x6E islNVF (bootChosen b s) := by
  obtain ⟨hnv, hraised, -⟩ := otherChecked_spec b s
  obtain ⟨hactive, hstate, hcnt, hreverted, hkept⟩ := revertTo_spec (1 - b) (otherChecked b s)
  obtain ⟨hstep, hbooted, hbootnv, hregs⟩ := bootBank_spec (1 - b) (revertTo (1 - b) (otherChecked b s))
  rw [bootChosen_fails h, if_pos ho]
  generalize bootBank (1 - b) (revertTo (1 - b) (otherChecked b s)) = t at hstep hbooted hbootnv hregs
  have hbank : t.bank = (revertTo (1 - b) (otherChecked b s)).bank := State.bank_congr (by rw [hbootnv]) (by rw [hbootnv])
  rw [hbank, hbootnv]
  exact ⟨hstep, hbooted, hactive, hstate, hcnt.trans (congrArg Nv.cnt hnv), (hkept hraised).of_regs hregs (by decide),
    hreverted.of_regs hregs (by decide)⟩

/-- With neither bank acceptable the release stays. -/
theorem bootChosen_stays {b : Nat} {s : State} (h : imageFail s b ≠ 0) (ho : imageFail s (1 - b) ≠ 0) :
    (bootChosen b s).fg R.RST_STAT_STEP = s.fg R.RST_STAT_STEP ∧ (bootChosen b s).rst.noImage = true ∧
      (bootChosen b s).nv = s.nv ∧ Raised 0x3D islNVF (bootChosen b s) := by
  obtain ⟨hnv, hraised, hstep⟩ := otherChecked_spec b s
  rw [bootChosen_fails h, if_neg ho]
  exact ⟨hstep, rfl, hnv, hraised⟩

/-! ## Step 5 -/

/-- The kernel store's scan leaves the pointers, the banks and the counters. -/
theorem storeScan_frame (s : State) : ∃ ks ke, storeScan s = { s with nv := { s.nv with kstore := ks, ksErase := ke } } :=
  ⟨_, _, rfl⟩

theorem storeScan_imageFail (s : State) (b : Nat) : imageFail (storeScan s) b = imageFail s b :=
  imageFail_congr rfl rfl rfl rfl b

theorem imageCheck_eq {s : State} (hrun : s.cpRuns = true) (hstep : s.fg R.RST_STAT_STEP = 4)
    (himage : s.rst.noImage = false) (hptr : s.nv.ptrA.isSome = true ∨ s.nv.ptrB.isSome = true) :
    imageCheck s =
      if s.bank.pstate = 1 then
        if s.bank.tbase + 3 ≤ s.cnt 1 then
          bootChosen (storeScan s).otherBank (revertTo (storeScan s).otherBank (storeScan s))
        else bootChosen s.bank.active ((storeScan s).countUp 1)
      else bootChosen s.bank.active (storeScan s) := by
  have hgo : ¬((!s.cpRuns) = true ∨ s.fg R.RST_STAT_STEP ≠ 4 ∨ s.rst.noImage = true) := by
    simp [hrun, hstep, himage]
  have hsome : ¬((storeScan s).nv.ptrA.isNone = true ∧ (storeScan s).nv.ptrB.isNone = true) := by
    rintro ⟨ha, hb⟩
    change s.nv.ptrA.isNone = true at ha
    change s.nv.ptrB.isNone = true at hb
    obtain h | h := hptr
    · simp [Option.isNone_iff_eq_none.1 ha] at h
    · simp [Option.isNone_iff_eq_none.1 hb] at h
  rw [imageCheck, if_neg hgo]
  extract_lets s1
  rw [if_neg hsome]
  rfl

theorem storeScan_bank (s : State) : (storeScan s).bank = s.bank := State.bank_congr rfl rfl

/-- The active bank of a pointer that is on no trial is checked. -/
theorem imageCheck_active {b : Nat} {s : State} (hrun : s.cpRuns = true) (hstep : s.fg R.RST_STAT_STEP = 4)
    (himage : s.rst.noImage = false) (hptr : s.nv.ptrA.isSome = true ∨ s.nv.ptrB.isSome = true) (htrial : s.bank.pstate ≠ 1)
    (hactive : s.bank.active = b) (hb : b ≤ 1) :
    if imageFail s b = 0 then
      (imageCheck s).fg R.RST_STAT_STEP = 5 ∧ (imageCheck s).fg R.UPD_STAT_BOOTED = b ∧ (imageCheck s).bank = s.bank
    else if imageFail (s.raise 0x3D islNVF 0) (1 - b) = 0 then
      (imageCheck s).fg R.RST_STAT_STEP = 5 ∧ (imageCheck s).fg R.UPD_STAT_BOOTED = 1 - b ∧
        (imageCheck s).bank.active = 1 - b ∧ (imageCheck s).bank.pstate = 2 ∧ Raised 0x3D islNVF (imageCheck s) ∧
        Raised 0x6E islNVF (imageCheck s)
    else (imageCheck s).fg R.RST_STAT_STEP = 4 ∧ (imageCheck s).rst.noImage = true ∧ Raised 0x3D islNVF (imageCheck s) := by
  have hother : imageFail (s.raise 0x3D islNVF 0) (1 - b) = imageFail s (1 - b) :=
    imageFail_of_nv (State.raise_variant ..) (State.raise_nv ..) _
  rw [hother, imageCheck_eq hrun hstep himage hptr, if_neg htrial, hactive, ← storeScan_imageFail s b,
    ← storeScan_imageFail s (1 - b)]
  split
  case isTrue hpass =>
    obtain ⟨hdone, hbooted, hnv⟩ := bootChosen_passes hpass
    refine ⟨hdone, hbooted.trans (by omega), ?_⟩
    exact (State.bank_congr (by rw [hnv]) (by rw [hnv])).trans (storeScan_bank s)
  case isFalse hfail =>
    split
    case isTrue hpass =>
      obtain ⟨hdone, hbooted, hnow, hstate, -, hraised, hreverted⟩ := bootChosen_reverts hfail hpass
      exact ⟨hdone, hbooted.trans (by omega), hnow, hstate, hraised, hreverted⟩
    case isFalse hnone =>
      obtain ⟨hstays, hnoimage, -, hraised⟩ := bootChosen_stays hfail hnone
      exact ⟨hstays.trans hstep, hnoimage, hraised⟩

theorem countUp_cnt (s : State) (i : Nat) : (s.countUp i).cnt i = min 4294967295 (s.cnt i + 1) := by
  have hset : (s.countUp i).cnt i = clampU 32 (s.cnt i + 1) := Smap.get_set_same (fun _ => 0) s.nv.cnt i _
  rw [hset, clampU]
  omega

theorem State.cnt_congr {s t : State} (h : t.nv.cnt = s.nv.cnt) (i : Nat) : t.cnt i = s.cnt i := by
  simp only [State.cnt, h]

/-- A bank on probation counts a trial before its check. -/
theorem imageCheck_trial {s : State} (hrun : s.cpRuns = true) (hstep : s.fg R.RST_STAT_STEP = 4)
    (himage : s.rst.noImage = false) (hptr : s.nv.ptrA.isSome = true ∨ s.nv.ptrB.isSome = true) (htrial : s.bank.pstate = 1)
    (hleft : s.cnt 1 < s.bank.tbase + 3) :
    (imageCheck s).cnt 1 = min 4294967295 (s.cnt 1 + 1) ∧
      if imageFail s s.bank.active = 0 then (imageCheck s).fg R.RST_STAT_STEP = 5 ∧ (imageCheck s).bank = s.bank
      else Raised 0x3D islNVF (imageCheck s) := by
  have hcounted : ((storeScan s).countUp 1).cnt 1 = min 4294967295 (s.cnt 1 + 1) := countUp_cnt (storeScan s) 1
  have hfail : imageFail ((storeScan s).countUp 1) s.bank.active = imageFail s s.bank.active :=
    imageFail_congr rfl (storeScan_bank s) rfl rfl _
  rw [imageCheck_eq hrun hstep himage hptr, if_pos htrial, if_neg (Nat.not_le.2 hleft), ← hfail, ← hcounted]
  split
  case isTrue hpass =>
    obtain ⟨hdone, -, hnv⟩ := bootChosen_passes hpass
    refine ⟨State.cnt_congr (by rw [hnv]) 1, hdone, ?_⟩
    exact (State.bank_congr (by rw [hnv]; rfl) (by rw [hnv]; rfl)).trans (storeScan_bank s)
  case isFalse hfails =>
    by_cases ho : imageFail ((storeScan s).countUp 1) (1 - s.bank.active) = 0
    · obtain ⟨-, -, -, -, hcnt, hraised, -⟩ := bootChosen_reverts hfails ho
      exact ⟨State.cnt_congr hcnt 1, hraised⟩
    · obtain ⟨-, -, hnv, hraised⟩ := bootChosen_stays hfails ho
      exact ⟨State.cnt_congr (by rw [hnv]) 1, hraised⟩

end Sys2Proof.Machine

/-! # The start of the firmware (R467, R491, R500) -/

namespace Sys2Proof.Machine

/-! ## What keeps the record of resets: messages, outputs and stops (R25, R416, R437 to R449) -/

theorem foldl_rst {α : Type} (l : List α) (f : State → α → State) (s : State) (h : ∀ t a, (f t a).rst = t.rst) :
    (l.foldl f s).rst = s.rst :=
  List.foldlRecOn (motive := fun t => t.rst = s.rst) l f rfl fun t ht a _ => (h t a).trans ht

theorem sendOut_rst (p : Packet) (s : State) : (sendOut p s).rst = s.rst := by
  rw [(sendOut_sends 0 p s).frame]

theorem sendPdu_rst (k : Nat) (s : State) : (sendPdu k s).rst = s.rst := sendOut_rst _ _

theorem dropPulse_rst (s : State) : (dropPulse s).rst = s.rst := by
  unfold dropPulse
  split
  · split <;> rfl
  · rfl

theorem drive_rst (s : State) : (drive s).rst = s.rst := (State.fs_rst ..).trans (dropPulse_rst s)

theorem setDemand_rst (d : Nat) (s : State) : (setDemand d s).rst = s.rst := by
  unfold setDemand
  extract_lets old six new s1 src s2
  have h1 : s1.rst = s.rst := State.fs_rst s R.SAF_OUT_DEM new
  exact (drive_rst s2).trans h1

theorem setCrq_rst (on : Bool) (s : State) : (setCrq on s).rst = s.rst := by
  simp only [setCrq, State.emit_rst, State.fs_rst]

theorem each_sendPdu_rst (l : List Nat) (s : State) : (s.each l sendPdu).rst = s.rst :=
  foldl_rst l _ s fun t k => sendPdu_rst k t

theorem socGoto_rst (st : Nat) (s : State) : (socGoto st s).rst = s.rst := by
  unfold socGoto
  extract_lets s0 s1 src s3 s4 s2 s5
  have h1 : s1.rst = s.rst := by
    unfold s1
    split <;> rfl
  have h4 : s4.rst = s.rst := (State.fs_rst s3 R.SAF_STAT_YRUN 0).trans h1
  have h2 : s2.rst = s.rst := by
    unfold s2
    split
    · split
      · exact (setCrq_rst false s4).trans h4
      · exact h4
    · exact h1
  have h5 : s5.rst = s.rst := (drive_rst s2).trans h2
  split
  · exact h5
  · exact (each_sendPdu_rst s5.producers s5).trans h5

theorem recordStop_rst (cause index fin : Nat) (s : State) : (recordStop cause index fin s).rst = s.rst := by
  simp only [recordStop, State.fs_rst]

theorem countStop_rst (s : State) : (countStop s).rst = s.rst := by
  unfold countStop
  split
  · exact State.countUp_rst s 5
  · rfl

theorem socDropped_rst (s : State) : (socDropped s).rst = s.rst := rfl

theorem scs0_rst (cause index fin : Nat) (s : State) : (scs0 cause index fin s).rst = s.rst := by
  unfold scs0
  split
  · simp only [socGoto_rst, socDropped_rst, sendDown_rst, State.fs_rst, recordStop_rst]
  · split
    · simp only [socGoto_rst, socDropped_rst, recordStop_rst, countStop_rst]
      split
      · exact sendDown_rst ..
      · rfl
    · split
      · simp only [socGoto_rst, socDropped_rst, sendDown_rst, recordStop_rst, countStop_rst]
      · rfl

theorem scs1_rst (cause index : Nat) (s : State) : (scs1 cause index s).rst = s.rst := by
  unfold scs1
  split
  · exact scs0_rst ..
  · split
    · split
      · rfl
      · split
        · simp only [sendDown_rst, each_sendPdu_rst, setCrq_rst, recordStop_rst]
        · exact scs0_rst ..
    · rfl

theorem stopBy_rst (act cause index : Nat) (s : State) : (stopBy act cause index s).rst = s.rst := by
  unfold stopBy
  split
  · exact scs1_rst ..
  · split
    · exact scs0_rst ..
    · rfl

/-! ## A set goes live (R451, R452, R467, R469) -/

theorem contactSense_rst (old i : Nat) (s : State) : (contactSense old i s).rst = s.rst := by
  unfold contactSense
  split <;> rfl

theorem pairEnables_rst (old : Nat) (s : State) : (pairEnables old s).rst = s.rst := by
  refine foldl_rst _ _ s fun t i => ?_
  extract_lets u was is
  have hu : u.rst = t.rst := contactSense_rst old i t
  clear_value u
  split
  · exact (stopBy_rst _ _ i _).trans hu
  · split
    · exact hu
    · exact hu

theorem sessionFetch_rst (k : Nat) (s : State) : (sessionFetch k s).rst = s.rst := sendOut_rst _ _

theorem connRestart_rst (oldCid k : Nat) (s : State) : (connRestart oldCid k s).rst = s.rst := by
  unfold connRestart
  extract_lets role c seq nc s1 s2
  have h1 : s1.rst = s.rst := rfl
  split
  · refine (sendPdu_rst k s2).trans (Eq.trans ?_ h1)
    unfold s2
    split
    · exact sessionFetch_rst k s1
    · rfl
  · exact h1

theorem systemLoad_rst (m : Nat → Word) (s : State) : (systemLoad m s).rst = s.rst := by
  unfold systemLoad
  extract_lets old put s1 s2 s3 s4
  have hput : ∀ t e, (put t e).rst = t.rst := fun _ _ => State.setReg_rst ..
  have h1 : s1.rst = s.rst := (hput _ _).trans (foldl_rst systemPart put s hput)
  clear_value s1
  have h2 : s2.rst = s.rst := (pairEnables_rst _ s1).trans h1
  have h3 : s3.rst = s.rst := by
    unfold s3
    split
    · exact h2
    · exact (setCrq_rst _ s2).trans h2
  have h4 : s4.rst = s.rst := by
    refine (foldl_rst _ _ s3 fun t k => ?_).trans h3
    extract_lets w
    split
    · rfl
    · exact connRestart_rst _ k t
  exact (setDemand_rst _ s4).trans h4

theorem dacTouched_rst (k : Nat) (s : State) : (dacTouched k s).rst = s.rst := by
  unfold dacTouched
  split <;> rfl

theorem domReqOn_sweep_rst (s : State) : (domReqOn domSWEEP s).rst = s.rst := by
  obtain ⟨dm, h⟩ := domReqOn_frame (d := domSWEEP) (by decide) s
  rw [h]

theorem stackWord_rst (m : Nat → Word) (s : State) (e : Nat × Nat) : (stackWord m s e).rst = s.rst := by
  unfold stackWord
  extract_lets a old new ssv swp s1 s2 srcs n u1 u2
  have hdac : u2.rst = s.rst := by
    unfold u2
    split
    · exact dacTouched_rst _ u1
    · rfl
  split
  · rfl
  · split
    · rfl
    · split
      · split
        · split
          · exact domReqOn_sweep_rst _
          · rfl
        · rfl
      · split
        · split
          · exact (dacTouched_rst _ u2).trans hdac
          · exact hdac
        · rfl

theorem liveLoss_rst (m : Nat) (s : State) : (liveLoss m s).rst = s.rst := by
  unfold liveLoss
  split
  · rfl
  · extract_lets s1 s2
    have h2 : s2.rst = s.rst := sendUp_rst ..
    split
    · split
      · exact h2
      · exact (State.raise_rst ..).trans h2
    · rfl

theorem liveRateCheck_rst (s : State) : (liveRateCheck s).rst = s.rst := by
  refine foldl_rst _ _ s fun t m => ?_
  split
  · rfl
  · exact liveLoss_rst m _

theorem Bleeds.rst {s t : State} (h : Bleeds s t) : t.rst = s.rst := by
  obtain ⟨-, rg, o, un, bl, ex, sv, rfl⟩ := h
  rfl

theorem stackLoad_rst (m : Nat → Word) (s : State) : (stackLoad m s).rst = s.rst :=
  (balRefresh_bleeds _).rst.trans ((liveRateCheck_rst _).trans (foldl_rst stackPart _ s (stackWord_rst m)))

theorem leaveInit_rst (s : State) : (leaveInit s).rst = s.rst := by
  unfold leaveInit
  split
  · exact (socGoto_rst stSAFE _).trans (setCrq_rst false s)
  · rfl

theorem applySet_rst (r : SafRec) (s : State) : (applySet r s).rst = s.rst := by
  unfold applySet
  extract_lets m up s1 s2 u
  have h1 : s1.rst = s.rst := by
    refine (systemLoad_rst m _).trans ?_
    split
    · exact stackLoad_rst m s
    · rfl
  clear_value s1
  exact (leaveInit_rst _).trans h1

theorem safetySetLoad_rst (s : State) : (safetySetLoad s).rst = s.rst := by
  unfold safetySetLoad
  split
  · exact State.raise_rst ..
  · extract_lets logged
    refine (applySet_rst _ _).trans ?_
    split <;> rfl

/-! ## Step 6 -/

theorem toneHead_rst (b : Bool) (s : State) : (toneHead b s).rst = s.rst := by
  unfold toneHead
  extract_lets s1
  split <;> rfl

theorem applyWrite_rst (a : Nat) (v : Word) (s : State) : (applyWrite a v s).rst = s.rst := by
  unfold applyWrite
  split <;> rfl

/-- The firmware restarts the watchdog at its start, and tries the safety set unless it is loaded. -/
theorem firmwareStart_spec {s : State} (hrun : s.cpRuns = true) (hstep : s.fg R.RST_STAT_STEP = 5) :
    (firmwareStart s).fg R.RST_STAT_STEP = 6 ∧ (firmwareStart s).rst.kickAt = s.lt ∧
      (s.fb R.SAF_STAT_LOADED = true ∨ (firmwareStart s).rst.setTried = true) := by
  unfold firmwareStart
  rw [if_neg (by simp [hrun, hstep])]
  extract_lets src s1 srct s2 s3 thm
  have h2 : s2.rst.kickAt = s.lt ∧ (s.fb R.SAF_STAT_LOADED = true ∨ s2.rst.setTried = true) := by
    unfold s2
    split
    case isTrue h => exact ⟨rfl, h⟩
    case isFalse => exact ⟨by rw [safetySetLoad_rst], .inr (by rw [safetySetLoad_rst])⟩
  have hrst : (thm.foldl (fun t e => applyWrite e.1 e.2 t) s3).rst = s2.rst :=
    (foldl_rst thm _ s3 fun t e => applyWrite_rst e.1 e.2 t).trans (toneHead_rst _ s2)
  generalize thm.foldl (fun t e => applyWrite e.1 e.2 t) s3 = u at hrst
  refine ⟨State.fg_fs_same u _ 6 (by decide), ?_⟩
  rw [State.fs_rst, hrst]
  exact h2

end Sys2Proof.Machine

/-! # What the start and the stop of a port keep (R347 to R351) -/

namespace Sys2Proof.Machine

/-- Between `s` and `t` ports started, stopped or told of it: the ports' controls, the release step and the memory are as
before. -/
structure PortKeeps (s t : State) : Prop where
  ctl : ∀ p, t.reg (R.TRV_PCTL p) = s.reg (R.TRV_PCTL p)
  step : t.reg R.RST_STAT = s.reg R.RST_STAT
  nv : t.nv = s.nv

theorem PortKeeps.refl (s : State) : PortKeeps s s := ⟨fun _ => rfl, rfl, rfl⟩

theorem PortKeeps.trans {s t u : State} (h : PortKeeps s t) (h' : PortKeeps t u) : PortKeeps s u :=
  ⟨fun p => (h'.ctl p).trans (h.ctl p), h'.step.trans h.step, h'.nv.trans h.nv⟩

theorem PortKeeps.of_regs {s t : State} (hregs : t.regs = s.regs) (hnv : t.nv = s.nv) : PortKeeps s t :=
  ⟨fun _ => State.reg_congr hregs _, State.reg_congr hregs _, hnv⟩

/-- A write of a register below the ports' controls, or one of a port's other registers. -/
theorem PortKeeps.setReg (s : State) {a : Nat} (v : Word) (h : a < 0x100100 ∨ a % 64 ≠ 0) (hstep : R.RST_STAT ≠ a) :
    PortKeeps s (s.setReg a v) := by
  refine ⟨fun p => State.reg_setReg_ne s v ?_, State.reg_setReg_ne s v hstep, rfl⟩
  unfold R.TRV_PCTL
  omega

theorem PortKeeps.fs (s : State) (f : Fld) (v : Nat) (h : f.adr < 0x100100 ∨ f.adr % 64 ≠ 0) (hstep : R.RST_STAT ≠ f.adr) :
    PortKeeps s (s.fs f v) := .setReg s _ h hstep

theorem PortKeeps.setPort (s : State) (p : Nat) (o : Port) : PortKeeps s (s.setPort p o) := .of_regs rfl rfl

theorem PortKeeps.foldl {α : Type} (l : List α) (f : State → α → State) (s : State) (h : ∀ t, ∀ a ∈ l, PortKeeps t (f t a)) :
    PortKeeps s (l.foldl f s) :=
  List.foldlRecOn (motive := PortKeeps s) l f (.refl s) fun t ht a ha => ht.trans (h t a ha)

/-- A field of one of port `p`'s registers beside its control. -/
theorem PortKeeps.fsPort (s : State) {p k : Nat} (f : Fld) (v : Nat) (hp : p < 4) (hf : f.adr = 0x100100 + 64 * p + k)
    (hk : 0 < k ∧ k < 64) : PortKeeps s (s.fs f v) := by
  refine .fs s f v ?_ ?_
  · omega
  · unfold R.RST_STAT
    omega

/-- A field of the port's status. -/
theorem PortKeeps.pstat (s : State) {p : Nat} (f : Fld) (v : Nat) (hp : p < 4) (hf : f.adr = R.TRV_PSTAT p) :
    PortKeeps s (s.fs f v) := .fsPort s f v hp (k := 4) (by rw [hf, R.TRV_PSTAT]; omega) (by decide)

/-- A field of the port's error count. -/
theorem PortKeeps.perr (s : State) {p : Nat} (f : Fld) (v : Nat) (hp : p < 4) (hf : f.adr = R.TRV_PERR p) :
    PortKeeps s (s.fs f v) := .fsPort s f v hp (k := 8) (by rw [hf, R.TRV_PERR]; omega) (by decide)

theorem PortKeeps.of_sends {s t : State} (h : Sends (replyCounters (.ring 0)) s t) : PortKeeps s t := by
  refine ⟨fun p => h.sameRegs _ fun hp => ?_, h.sameRegs _ (by decide), by rw [h.frame]⟩
  simp [replyCounters, R.HST_ETHCNT_W2, R.TRV_PCTL] at hp
  omega

theorem segmentEnds_ports (s : State) : PortKeeps s (segmentEnds s) := by
  unfold segmentEnds
  split
  · exact .refl s
  · have hfree : PortKeeps s s.free.2 := .of_regs rfl rfl
    have hvalid := PortKeeps.fs s.free.2 R.NET_ENDS_VALID 1 (by decide) (by decide)
    have ha := PortKeeps.fs (s.free.2.fs R.NET_ENDS_VALID 1) R.NET_ENDS_ENDA (s.free.1 % 64) (by decide) (by decide)
    exact hfree.trans (hvalid.trans (ha.trans (.fs _ R.NET_ENDS_ENDB (s.free.1 / 64 % 64) (by decide) (by decide))))

theorem lineEnd_ports (p pos : Nat) (s : State) : PortKeeps s (lineEnd p pos s) := by
  unfold lineEnd
  extract_lets s1
  have h1 : PortKeeps s s1 := segmentEnds_ports s
  split
  · exact h1.trans (.fs s1 R.NET_ENDS_ENDA pos (by decide) (by decide))
  · exact h1.trans (.fs s1 R.NET_ENDS_ENDB pos (by decide) (by decide))

theorem linkChange_ports (p : Nat) (up : Bool) (s : State) : PortKeeps s (linkChange p up s) := by
  unfold linkChange
  split
  · exact .refl s
  · extract_lets dst
    split
    · exact .of_regs rfl rfl
    · exact .of_sends (sendOut_sends 0 _ s)

theorem leaveRun_ports (p : Nat) (s : State) : PortKeeps s (leaveRun p s) := by
  unfold leaveRun
  split
  · exact .refl s
  · extract_lets s1 o s2 s3
    have h2 : PortKeeps s s2 := (PortKeeps.fs s R.TRV_STAT_RUN _ (by decide) (by decide)).trans (.setPort s1 p _)
    refine PortKeeps.trans ?_ (linkChange_ports p false s3)
    unfold s3
    split
    · exact h2.trans ((PortKeeps.fs s2 R.NET_STAT_WRAP 1 (by decide) (by decide)).trans (lineEnd_ports ..))
    · exact h2

theorem capLow_ports (s : State) : PortKeeps s (capLow s) := by
  unfold capLow
  extract_lets n slow trv
  exact (PortKeeps.fs s R.FAB_STAT_NLFAIL _ (by decide) (by decide)).trans (.fs _ R.FAB_STAT_CAPLOW _ (by decide) (by decide))

theorem sweepLeave_nv (s : State) : (sweepLeave s).nv = s.nv := by simp only [sweepLeave, State.fs_nv]

theorem domReqOff_nv (d : Nat) (s : State) : (domReqOff d s).nv = s.nv := by
  unfold domReqOff
  split
  · rfl
  · split
    · rfl
    · split
      · extract_lets s1
        split
        · exact sweepLeave_nv s1
        · rfl
      · rfl

theorem domReq_ports (on_ : Bool) {d : Nat} (hlo : 128 ≤ d) (hhi : d < 191) (s : State) : PortKeeps s (domReq on_ d s) := by
  refine .of_regs (domReq_regs on_ hlo hhi s) ?_
  cases on_ with
  | true =>
    obtain ⟨dm, h⟩ := domReqOn_frame hlo s
    have hon : domReq true d s = domReqOn d s := rfl
    rw [hon, h]
  | false => exact domReqOff_nv d s

theorem laneDomains_ports {p : Nat} (hp : p < 4) (s : State) : PortKeeps s (laneDomains p s) := by
  refine PortKeeps.foldl _ _ s fun t l hl => domReq_ports _ ?_ ?_ t
  · unfold domLane
    omega
  · have hl2 : l < 2 := by
      simp at hl
      omega
    unfold domLane
    omega

theorem portStop_ports {p : Nat} (hp : p < 4) (s : State) : PortKeeps s (portStop p s) := by
  unfold portStop
  extract_lets s1 o s2
  have h2 : PortKeeps s s2 := (leaveRun_ports p s).trans (.setPort s1 p _)
  have hoff : PortKeeps s2 (s2.fs (R.TRV_PSTAT_STATE p) poOFF) := .pstat s2 _ _ hp rfl
  have hlock := PortKeeps.pstat (s2.fs (R.TRV_PSTAT_STATE p) poOFF) (R.TRV_PSTAT_LOCK p) 0 hp rfl
  exact h2.trans <| hoff.trans <| hlock.trans <| (PortKeeps.fs _ R.TRV_STAT_DEG _ (by decide) (by decide)).trans <|
    (capLow_ports _).trans (laneDomains_ports hp _)

theorem beginTraining_ports {p : Nat} (hp : p < 4) (s0 : State) : PortKeeps s0 (beginTraining p s0) := by
  unfold beginTraining
  split
  · exact portStop_ports hp s0
  · extract_lets s s1 s2
    have hs : PortKeeps s0 s := laneDomains_ports hp s0
    have h1 : PortKeeps s s1 := (PortKeeps.pstat s (R.TRV_PSTAT_STATE p) _ hp rfl).trans <|
      (PortKeeps.pstat _ (R.TRV_PSTAT_TRFAIL p) _ hp rfl).trans <|
      (PortKeeps.pstat _ (R.TRV_PSTAT_FAR p) _ hp rfl).trans (.perr _ (R.TRV_PERR_COUNT p) _ hp rfl)
    have h2 : PortKeeps s1 s2 := .pstat s1 (R.TRV_PSTAT_LOCK p) 0 hp rfl
    exact hs.trans (h1.trans (h2.trans (.setPort s2 p _)))

end Sys2Proof.Machine

/-! # The end of the release order (R351, R359, R500, R521) -/

namespace Sys2Proof.Machine

/-! ## Step 7: the ports take their configuration (R351, R359) -/

/-- A configuration of port `p` that a write can take without a retraining. -/
def PortConfigurable (p : Nat) (v : Word) : Prop :=
  wf v (R.TRV_PCTL_RATEMAX p) ≠ 3 ∧ wf v (R.TRV_PCTL_LANEEN p) ≠ 0 ∧ wf v (R.TRV_PCTL_RETRAIN p) = 0

/-- After the control is written, a port's counters may be cleared, and the port may start or stop. -/
theorem pctlWrite_ports {p : Nat} {v : Word} (hp : p < 4) (hv : PortConfigurable p v) (s : State) :
    PortKeeps (applyWrite (R.TRV_PCTL p) v s) (pctlWrite p v s).2 := by
  obtain ⟨hrate, hlanes, hretrain⟩ := hv
  unfold pctlWrite
  extract_lets re eth was s1 o s2 o' s3
  have hre : re = false := by simp [re, hretrain]
  rw [if_neg (by simp [hrate, hlanes]), if_neg (by simp [hre])]
  have h2 : PortKeeps s1 s2 := by
    unfold s2
    split
    · refine (PortKeeps.foldl _ _ s1 fun t a ha => ?_).trans (.setPort _ p _)
      have hcounter : a < 0x100140 + 64 * p ∧ 0x100100 + 64 * p < a := by
        simp [R.TRV_PFRM, R.TRV_PLOC, R.TRV_PDUP, R.TRV_PLANE, R.TRV_PQUAR] at ha
        omega
      refine .setReg t 0 ?_ ?_
      · omega
      · unfold R.RST_STAT
        omega
    · exact .refl s1
  have hstarted : PortKeeps s1 s3 := by
    unfold s3
    split
    · split
      · exact h2
      · exact h2.trans (portStop_ports hp s2)
    · split
      · exact (h2.trans (.setPort s2 p _)).trans (beginTraining_ports hp _)
      · rw [if_neg (by simp [hre])]
        exact h2
  exact hstarted

theorem applyWrite_nv (a : Nat) (v : Word) (s : State) : (applyWrite a v s).nv = s.nv := by
  unfold applyWrite
  split <;> rfl

/-- A write of the control takes EN, RATEMAX, LANEEN and MODE; the two bits between stay. -/
theorem applyWrite_pctl {p : Nat} (v : Word) (s : State) (hp : p < 4) :
    ((applyWrite (R.TRV_PCTL p) v s).reg (R.TRV_PCTL p)).toNat % 512 =
      (s.reg (R.TRV_PCTL p)).toNat &&& 0xC ||| v.toNat &&& 0x1F3 := by
  obtain ⟨r, hrow, hrw, hw1c⟩ : ∃ r, findReg (R.TRV_PCTL p) = some r ∧ r.rw = 0x1F3 ∧ r.w1c = 0 := by
    interval_cases p <;> exact ⟨_, rfl, rfl, rfl⟩
  refine Nat.eq_of_testBit_eq fun i => ?_
  rw [show 512 = 2 ^ 9 by rfl, Nat.testBit_mod_two_pow, Nat.testBit_or, Nat.testBit_and, Nat.testBit_and]
  by_cases hi : i < 9
  · rw [testBit_applyWrite v s hrow (by omega), hrw, hw1c]
    interval_cases i <;> simp [Nat.testBit]
  · have hhigh : ∀ n, n < 2 ^ 9 → n.testBit i = false := fun n hn =>
      Nat.testBit_lt_two_pow (hn.trans_le (Nat.pow_le_pow_right (by decide) (by omega)))
    simp [hi, hhigh]

/-- A port takes its configuration from the memory. -/
def portConfigured (s : State) (p : Nat) : State := (pctlWrite p (Smap.get resetWord s.nv.cfg (R.TRV_PCTL p)) s).2

theorem portConfigured_spec {p : Nat} {s : State} (hp : p < 4)
    (hcfg : PortConfigurable p (Smap.get resetWord s.nv.cfg (R.TRV_PCTL p))) :
    ((portConfigured s p).reg (R.TRV_PCTL p)).toNat % 512 =
        (s.reg (R.TRV_PCTL p)).toNat &&& 0xC ||| (Smap.get resetWord s.nv.cfg (R.TRV_PCTL p)).toNat &&& 0x1F3 ∧
      (∀ q, q ≠ p → (portConfigured s p).reg (R.TRV_PCTL q) = s.reg (R.TRV_PCTL q)) ∧
      (portConfigured s p).reg R.RST_STAT = s.reg R.RST_STAT ∧ (portConfigured s p).nv = s.nv := by
  obtain ⟨hctl, hstep, hnv⟩ := pctlWrite_ports hp hcfg s
  have hsame := applyWrite_sameRegs (R.TRV_PCTL p) (Smap.get resetWord s.nv.cfg (R.TRV_PCTL p)) s
  refine ⟨?_, fun q hq => (hctl q).trans (hsame _ ?_), hstep.trans (hsame _ ?_), hnv.trans (applyWrite_nv ..)⟩
  · exact (congrArg (fun w : Word => w.toNat % 512) (hctl p)).trans (applyWrite_pctl _ s hp)
  · simp [R.TRV_PCTL]
    omega
  · simp [R.TRV_PCTL, R.RST_STAT]
    omega

/-- The ports take their configuration in turn, each its own. -/
theorem foldl_portConfigured {ports : List Nat} (hnodup : ports.Nodup) (hports : ∀ p ∈ ports, p < 4) (s : State)
    (hcfg : ∀ p ∈ ports, PortConfigurable p (Smap.get resetWord s.nv.cfg (R.TRV_PCTL p))) :
    (ports.foldl portConfigured s).reg R.RST_STAT = s.reg R.RST_STAT ∧
      (∀ q, q ∉ ports → (ports.foldl portConfigured s).reg (R.TRV_PCTL q) = s.reg (R.TRV_PCTL q)) ∧
      ∀ p ∈ ports, ((ports.foldl portConfigured s).reg (R.TRV_PCTL p)).toNat % 512 =
        (s.reg (R.TRV_PCTL p)).toNat &&& 0xC ||| (Smap.get resetWord s.nv.cfg (R.TRV_PCTL p)).toNat &&& 0x1F3 := by
  induction ports generalizing s with
  | nil => exact ⟨rfl, fun _ _ => rfl, fun p hp => absurd hp List.not_mem_nil⟩
  | cons k ports ih =>
    obtain ⟨hk, hnodup⟩ := List.nodup_cons.1 hnodup
    obtain ⟨hown, hothers, hstep, hnv⟩ := portConfigured_spec (hports k List.mem_cons_self) (hcfg k List.mem_cons_self)
    obtain ⟨hstep', hothers', hconf⟩ := ih hnodup (fun p hp => hports p (List.mem_cons_of_mem k hp)) (portConfigured s k)
      fun p hp => by rw [hnv]; exact hcfg p (List.mem_cons_of_mem k hp)
    refine ⟨hstep'.trans hstep, fun q hq => ?_, fun p hp => ?_⟩
    · obtain ⟨hqk, hq⟩ := not_or.1 (mt List.mem_cons.2 hq)
      exact (hothers' q hq).trans (hothers q hqk)
    · rw [List.foldl_cons]
      obtain rfl | hp := List.mem_cons.1 hp
      · rw [hothers' p hk, hown]
      · rw [hconf p hp, hothers p (fun he => hk (he ▸ hp)), hnv]

theorem State.portsFit_le (s : State) : s.portsFit ≤ 4 := by
  unfold State.portsFit
  split <;> decide

/-- Step 7 is shown before the ports take their configuration. -/
def portsReleased (s : State) : State := { s.fs R.RST_STAT_STEP 7 with rst := { s.rst with stepAt := s.lt } }

theorem releasePortTraining_eq {s : State} (hrun : s.cpRuns = true) (hstep : s.fg R.RST_STAT_STEP = 6) :
    releasePortTraining s = (List.range s.portsFit).foldl portConfigured (portsReleased s) := by
  rw [releasePortTraining, if_neg (by simp [hrun, hstep])]
  rfl

theorem releasePortTraining_spec {s : State} (hrun : s.cpRuns = true) (hstep : s.fg R.RST_STAT_STEP = 6)
    (hcfg : ∀ p ∈ List.range 4, PortConfigurable p (Smap.get resetWord s.nv.cfg (R.TRV_PCTL p))) :
    (releasePortTraining s).fg R.RST_STAT_STEP = 7 ∧
      ∀ p ∈ List.range s.portsFit, ((releasePortTraining s).reg (R.TRV_PCTL p)).toNat % 512 =
        (s.reg (R.TRV_PCTL p)).toNat &&& 0xC ||| (Smap.get resetWord s.nv.cfg (R.TRV_PCTL p)).toNat &&& 0x1F3 := by
  have hports : ∀ p ∈ List.range s.portsFit, p < 4 := fun p hp => (List.mem_range.1 hp).trans_le s.portsFit_le
  obtain ⟨hshown, -, hconf⟩ := foldl_portConfigured List.nodup_range hports (portsReleased s) fun p hp =>
    hcfg p (List.mem_range.2 (hports p hp))
  rw [releasePortTraining_eq hrun hstep]
  refine ⟨(State.fg_congr R.RST_STAT_STEP hshown).trans (State.fg_fs_same s R.RST_STAT_STEP 7 (by decide)), fun p hp => ?_⟩
  have hkept : (portsReleased s).reg (R.TRV_PCTL p) = s.reg (R.TRV_PCTL p) := State.reg_fs_ne s R.RST_STAT_STEP 7 <| by
    have := hports p hp
    simp [R.TRV_PCTL, R.RST_STAT_STEP]
    omega
  rw [hconf p hp, hkept]
  rfl

/-! ## Step 10 and service (R500, R521) -/

theorem parcelsRunning_eq {s : State} (hrun : s.cpRuns = true) (hstep : s.fg R.RST_STAT_STEP = 9) :
    parcelsRunning s = { s.fs R.RST_STAT_STEP 10 with pwr := { s.pwr with step10 := some s.lt } } := by
  rw [parcelsRunning, if_pos ⟨hrun, hstep⟩]

theorem standAloneEnd_served {a : Nat} {s : State} (hstep : s.pwr.step10 = some a) (halone : s.fb R.PWR_CTRL_NOCOMM = true)
    (hdue : s.due a 10000000000 = true) : standAloneEnd s = { s with pwr := { s.pwr with served := true } } := by
  simp only [standAloneEnd, hstep, halone, hdue, and_self, if_true]

theorem startupLoss_lost {a : Nat} {s : State} (hstep : s.pwr.step8 = some a) (hgood : s.pwr.goodAt = none)
    (hservice : s.service = 0) (hdue : s.due a 5000000000 = true) :
    startupLoss s = { s with pwr := { s.pwr with startLoss := true } } := by
  simp only [startupLoss, hstep, hgood, hservice, hdue, Option.isNone_none, and_self, if_true]

/-- Settles O41: each step's rule is followed to the step it shows; the parts that only bring domains, lanes, pairs or ports
up are framed by what they keep (the reset's record, the memory, the registers named). -/
theorem releaseOrderTakesEffect : Obligations.ReleaseOrderTakesEffect := by
  refine ⟨?stackFirst, ?stackNoticed, ?system, ?bootRom, ?image, ?trial, ?firmware, ?ports, ?parcels, ?alone, ?startup⟩
  case stackFirst =>
    intro c v s hstack hsys hcal hlo hhi
    exact Does.of_rule (f := releaseStackHalf) rfl (fun _ h => h) (releaseStackHalf_first hstack hsys hcal hlo hhi)
  case stackNoticed =>
    intro l s hstack hsys hcal hlane
    exact Does.of_rule (f := releaseStackHalf) rfl (fun _ h => h) (releaseStackHalf_noticed hstack hsys hcal hlane)
  case system =>
    intro f s hstep hscope hosc hdue hfound
    exact Does.of_rule (f := releaseSystemHalf f) rfl (fun _ h => h) (releaseSystemHalf_spec hstep hscope hosc hdue hfound)
  case bootRom =>
    intro s hup hstep
    refine Does.of_rule (f := releaseBootRom) rfl (fun _ h => h) ?_
    rw [releaseBootRom_eq hup hstep]
    exact ⟨State.fg_fs_same s R.RST_STAT_STEP 3 (by decide), rfl, s.fs_sameRegs R.RST_STAT_STEP 3 (by decide)⟩
  case image =>
    intro b s hrun hstep himage hptr hprob hactive hb
    exact Does.of_rule (f := imageCheck) rfl (fun _ h => h) (imageCheck_active hrun hstep himage hptr hprob hactive hb)
  case trial =>
    intro s hrun hstep himage hptr htrial hleft
    exact Does.of_rule (f := imageCheck) rfl (fun _ h => h) (imageCheck_trial hrun hstep himage hptr htrial hleft)
  case firmware =>
    intro s hrun hstep
    exact Does.of_rule (f := firmwareStart) rfl (fun _ h => h) (firmwareStart_spec hrun hstep)
  case ports =>
    intro s hrun hstep hcfg
    exact Does.of_rule (f := releasePortTraining) rfl (fun _ h => h) (releasePortTraining_spec hrun hstep hcfg)
  case parcels =>
    intro s hrun hstep
    refine Does.of_rule (f := parcelsRunning) rfl (fun _ h => h) ?_
    rw [parcelsRunning_eq hrun hstep]
    exact ⟨State.fg_fs_same s R.RST_STAT_STEP 10 (by decide), rfl, s.fs_sameRegs R.RST_STAT_STEP 10 (by decide)⟩
  case alone =>
    intro a s hstep halone hdue
    refine Does.of_run (f := standAloneEnd) rfl ?_
    rw [standAloneEnd_served hstep halone hdue]
  case startup =>
    intro a s hstep hgood hservice hdue
    refine Does.of_run (f := startupLoss) rfl ?_
    rw [startupLoss_lost hstep hgood hservice hdue]

end Sys2Proof.Machine

/-! # The sweep converter's slots, triggers and references (R105 to R119, R132) -/

namespace Sys2Proof.Machine

/-! ## A slot opens (R106, R117) -/

/-- Between `s` and `t` slots opened or ended: STATE, SLOT and the sweep converter's own record alone changed, and the
calibration slot that waits is as before. -/
structure SlotsMove (s t : State) : Prop where
  regs : SameRegs [R.SWC_STAT] s t
  calslot : t.fg R.SWC_STAT_CALSLOT = s.fg R.SWC_STAT_CALSLOT
  waits : t.swp.calSlot = s.swp.calSlot
  frame : t = { s with regs := t.regs, swp := t.swp }

theorem SlotsMove.trans {s t u : State} (h : SlotsMove s t) (h' : SlotsMove t u) : SlotsMove s u := by
  refine ⟨h.regs.trans h'.regs, h'.calslot.trans h.calslot, h'.waits.trans h.waits, ?_⟩
  rw [h'.frame, h.frame]

/-- A change of the record that leaves the calibration slot that waits. -/
theorem SlotsMove.of_swp (s : State) (w : Swp) (h : w.calSlot = s.swp.calSlot) : SlotsMove s { s with swp := w } :=
  ⟨.of_regs rfl, rfl, h, rfl⟩

/-- A field of SWC_STAT below CALSLOT. -/
theorem SlotsMove.fs (s : State) (f : Fld) (v : Nat) (hadr : f.adr = R.SWC_STAT) (hlow : f.lo + f.w ≤ 15) :
    SlotsMove s (s.fs f v) := by
  refine ⟨s.fs_sameRegs f v (by simp [hadr]), ?_, rfl, rfl⟩
  exact State.fg_fs_disj s f R.SWC_STAT_CALSLOT v (by omega) hadr.symm (.inr hlow)

theorem openSlot_slots (e st sl : Nat) (s : State) : SlotsMove s (openSlot e st sl s) := by
  obtain ⟨hregs, hcal, -, -⟩ := (SlotsMove.fs s R.SWC_STAT_STATE st rfl (by decide)).trans
    (.fs _ R.SWC_STAT_SLOT sl rfl (by decide))
  exact ⟨hregs, hcal, rfl, rfl⟩

theorem SlotsMove.openSlot {s u : State} (e st sl : Nat) (h : SlotsMove s u) :
    SlotsMove s (Machine.openSlot e st sl u) := h.trans (openSlot_slots ..)

/-- SWC_STAT shows the slot that is open. -/
theorem openSlot_shown (e st sl : Nat) (s : State) :
    (openSlot e st sl s).fg R.SWC_STAT_STATE = st % 4 ∧ (openSlot e st sl s).fg R.SWC_STAT_SLOT = sl % 128 := by
  obtain ⟨hstate, hslot, -⟩ := s.fs_two_spec R.SWC_STAT_STATE R.SWC_STAT_SLOT st sl (by decide) (by decide) rfl (by decide)
  exact ⟨hstate, hslot⟩

/-- The sweep is on, and neither a round nor a calibration slot waits. -/
theorem resume_idle {e : Nat} {s : State} (hon : s.sweepOn = true) (hcal : s.swp.calSlot = 0) (hround : s.swp.round = none) :
    (resume e s).fg R.SWC_STAT_STATE = 1 ∧ (resume e s).swp.injOn = s.swp.injOn := by
  have hopen : resume e s = openSlot e 1 127 { s with swp := { s.swp with inCal := false } } := by
    simp [resume, hon, hcal, hround]
  rw [hopen]
  exact ⟨(openSlot_shown ..).1, rfl⟩

/-- The round's next regular slot opens. -/
theorem resume_regular {e st k : Nat} {s : State} (hon : s.sweepOn = true) (hcal : s.swp.calSlot = 0)
    (hround : s.swp.round = some (st, k)) :
    (resume e s).swp.round = some (st, k) ∧ (resume e s).swp.slotAt = e ∧ (resume e s).swp.rnd = s.swp.rnd ∧
      (resume e s).fg R.SWC_STAT_STATE = 2 ∧ (resume e s).fg R.SWC_STAT_SLOT = k % 128 := by
  have hopen : resume e s = openSlot e 2 k { s with swp := { s.swp with inCal := false } } := by
    simp [resume, hon, hcal, hround]
  rw [hopen]
  exact ⟨hround, rfl, rfl, (openSlot_shown ..).1, (openSlot_shown ..).2⟩

theorem resume_slots (e : Nat) (s : State) : SlotsMove s (resume e s) := by
  have hopen : ∀ st sl c, SlotsMove s (openSlot e st sl { s with swp := { s.swp with inCal := c } }) := fun st sl _ =>
    .openSlot e st sl (.of_swp s _ rfl)
  unfold resume
  split
  · exact hopen ..
  · split
    · exact hopen ..
    · extract_lets s1
      split
      · exact hopen ..
      · exact hopen ..

theorem SlotsMove.resume {s u : State} (e : Nat) (h : SlotsMove s u) : SlotsMove s (Machine.resume e u) :=
  h.trans (resume_slots ..)

/-! ## A slot is over (R106, R116, R117) -/

/-- The supervisor's judgement of its inputs leaves the registers (R455). -/
theorem ssvJudge_regs (s : State) : (ssvJudge s).regs = s.regs := by
  unfold ssvJudge
  extract_lets trips live
  split
  · exact ssvAnswer_regs ..
  · split
    · exact ssvAnswer_regs ..
    · exact ssvAnswer_regs ..

theorem advance_injected {s : State} (h : s.fg R.SWC_STAT_STATE = 3) : SlotsMove s (advance s) := by
  unfold advance
  extract_lets e i w s1
  have h1 : SlotsMove s s1 := .of_swp s _ rfl
  rw [if_pos h]
  split
  · exact h1.openSlot ..
  · exact h1.trans ((SlotsMove.fs s1 R.SWC_STAT_SLOT 127 rfl (by decide)).trans (.of_swp _ _ rfl))

theorem advance_calibration {s : State} (h : s.fg R.SWC_STAT_STATE = 3 ∨ s.swp.inCal = true) : SlotsMove s (advance s) := by
  by_cases hinj : s.fg R.SWC_STAT_STATE = 3
  · exact advance_injected hinj
  · have hcal := h.resolve_left hinj
    simp only [advance, if_neg hinj]
    split
    · rw [if_pos hcal]
      exact .resume _ (.of_swp s _ rfl)
    · exact .resume _ (.of_swp s _ rfl)

/-- Slot `k + 1` of the round that began at epoch `st` is next. -/
def slotTurned (st k : Nat) (s : State) : State := { s with swp := { s.swp with round := some (st, k + 1) } }

theorem advance_regular {st k : Nat} {s : State} (hstate : s.fg R.SWC_STAT_STATE ≠ 3) (hcal : s.swp.inCal = false)
    (hround : s.swp.round = some (st, k)) (hlen : k + 1 < s.fg R.SWC_CTRL_LEN) :
    advance s = resume (s.swp.slotAt + 40) (slotTurned st k s) := by
  simp [advance, slotTurned, hstate, hcal, hround, hlen]

theorem advance_sameRegs (s : State) : SameRegs [R.SWC_STAT, R.SWC_RSTART] s (advance s) := by
  by_cases hcal : s.fg R.SWC_STAT_STATE = 3 ∨ s.swp.inCal = true
  · exact (advance_calibration hcal).regs.mono (by decide)
  · obtain ⟨hstate, hcal⟩ := not_or.1 hcal
    have hresume : ∀ {u : State} (e : Nat), SameRegs [R.SWC_STAT, R.SWC_RSTART] s u →
        SameRegs [R.SWC_STAT, R.SWC_RSTART] s (resume e u) := fun e h =>
      h.trans ((resume_slots e _).regs.mono (by decide))
    simp only [advance, if_neg hstate, if_neg hcal]
    split
    case h_1 st k _ =>
      have hshown : SameRegs [R.SWC_STAT, R.SWC_RSTART] s (s.fs R.SWC_RSTART_EPOCH st) := s.fs_sameRegs _ st (by decide)
      split
      · exact hresume _ (.of_regs rfl)
      · split
        · refine SameRegs.trans ?_ (.of_regs (ssvJudge_regs _))
          exact hresume _ (hshown.trans (.of_regs rfl))
        · exact hresume _ (hshown.trans (.of_regs rfl))
    case h_2 => exact hresume _ (.of_regs rfl)

/-! ## Triggers (R114 to R116) -/

/-- The registers of a trigger. -/
def triggerRegs : List Nat := [R.SWC_STAT, R.SWC_INJDROP, R.SWC_INJSRC, R.SWC_IEPOCH]

/-- Between `s` and `t` a trigger was taken or dropped: its registers and the sweep converter's record alone changed. -/
def Triggers (s t : State) : Prop := SameRegs triggerRegs s t ∧ t = { s with regs := t.regs, swp := t.swp }

theorem Triggers.refl (s : State) : Triggers s s := ⟨.refl _ s, rfl⟩

theorem Triggers.trans {s t u : State} (h : Triggers s t) (h' : Triggers t u) : Triggers s u := by
  obtain ⟨hregs, hframe⟩ := h
  obtain ⟨hregs', hframe'⟩ := h'
  exact ⟨hregs.trans hregs', hframe'.trans (by rw [hframe])⟩

theorem Triggers.of_swp (s : State) (w : Swp) : Triggers s { s with swp := w } := ⟨.of_regs rfl, rfl⟩

theorem Triggers.fs (s : State) (f : Fld) (v : Nat) (h : f.adr ∈ triggerRegs) : Triggers s (s.fs f v) :=
  ⟨s.fs_sameRegs f v h, rfl⟩

theorem SlotsMove.triggers {s t : State} (h : SlotsMove s t) : Triggers s t := ⟨h.regs.mono (by decide), h.frame⟩

theorem injOpen_slots (e : Nat) (s : State) : SlotsMove s (injOpen e s) := by
  unfold injOpen
  extract_lets i s1
  split
  · exact .openSlot _ _ _ (.of_swp s _ rfl)
  · exact .of_swp s _ rfl

/-- The record of a sequence that starts, and its registers. -/
def injBegun (src cell : Nat) (s : State) : State :=
  (({ s with swp := { s.swp with
    injOn := true, injIdx := 0, injCell := cell, injFromIdle := s.swp.round.isNone && !s.swp.inCal, inCal := false
    injEpoch := some s.epoch, injStop := s.epoch + 1, injPri := if cell = 0 then 0 else src + 1
    inj := (s.swp.inj + 1) % 16 } }.fs R.SWC_INJSRC_SRC (2 ^ src)).fs R.SWC_INJSRC_CELL cell).fs
      R.SWC_IEPOCH_EPOCH (s.epoch + 1)

theorem injStart_eq (src cell : Nat) (s : State) : injStart src cell s = injOpen (s.epoch + 1) (injBegun src cell s) := rfl

theorem injBegun_triggers (src cell : Nat) (s : State) : Triggers s (injBegun src cell s) :=
  (Triggers.of_swp s _).trans <| (Triggers.fs _ R.SWC_INJSRC_SRC _ (by decide)).trans <|
    (Triggers.fs _ R.SWC_INJSRC_CELL _ (by decide)).trans (.fs _ R.SWC_IEPOCH_EPOCH _ (by decide))

theorem injStart_triggers (src cell : Nat) (s : State) : Triggers s (injStart src cell s) :=
  (injBegun_triggers src cell s).trans (injOpen_slots ..).triggers

theorem injMerge_triggers (src cell : Nat) (s : State) : Triggers s (injMerge src cell s) := by
  unfold injMerge
  extract_lets s1 better s2
  have h1 : Triggers s s1 := .fs s R.SWC_INJSRC_SRC _ (by decide)
  split
  · have h2 : Triggers s1 s2 := (Triggers.fs s1 R.SWC_INJSRC_CELL cell (by decide)).trans (.of_swp _ _)
    exact h1.trans (h2.trans ((Triggers.of_swp s2 { s2.swp with inCal := false }).trans (injOpen_slots ..).triggers))
  · exact h1

theorem fireTrigger_triggers (src cell : Nat) (s : State) : Triggers s (fireTrigger src cell s) := by
  unfold fireTrigger
  split
  · exact .refl s
  · split
    · exact injMerge_triggers ..
    · split
      · split
        · exact .of_swp s _
        · exact .fs s R.SWC_INJDROP_COUNT _ (by decide)
      · exact injStart_triggers ..

theorem fireTrigger_starts {src cell : Nat} {s : State} (hen : s.tb ⟨R.SWC_INJEN, 0, 4⟩ src = true)
    (hstate : s.fg R.SWC_STAT_STATE ≠ 0) (hinj : s.swp.injOn = false) : fireTrigger src cell s = injStart src cell s := by
  simp [fireTrigger, State.injRunning, hen, hstate, hinj]

theorem fireTrigger_drops {src cell : Nat} {s : State} (hen : s.tb ⟨R.SWC_INJEN, 0, 4⟩ src = true)
    (hstate : s.fg R.SWC_STAT_STATE ≠ 0) (hrun : s.injRunning = true) (hlater : s.swp.injEpoch ≠ some s.epoch)
    (hcell : cell ≠ 0) : fireTrigger src cell s = s.inc R.SWC_INJDROP_COUNT := by
  simp [fireTrigger, hen, hstate, hrun, hlater, hcell]

theorem injBegun_shown (src cell : Nat) (s : State) (hsrc : src < 4) :
    (injBegun src cell s).fg R.SWC_INJSRC_SRC = 2 ^ src ∧ (injBegun src cell s).fg R.SWC_INJSRC_CELL = cell % 64 := by
  have hfits : 2 ^ src < 2 ^ 4 := Nat.pow_lt_pow_right (by decide) hsrc
  unfold injBegun
  rw [State.fg_fs_ne _ R.SWC_IEPOCH_EPOCH R.SWC_INJSRC_SRC _ (by decide),
    State.fg_fs_ne _ R.SWC_IEPOCH_EPOCH R.SWC_INJSRC_CELL _ (by decide)]
  generalize { s with swp := _ } = u
  obtain ⟨hshown, hcell, -⟩ := u.fs_two_spec R.SWC_INJSRC_SRC R.SWC_INJSRC_CELL (2 ^ src) cell (by decide) (by decide) rfl
    (by decide)
  exact ⟨hshown.trans (Nat.mod_eq_of_lt hfits), hcell⟩

/-- The opening of its slots keeps what says that a sequence runs and what started it. -/
theorem injOpen_keeps (e : Nat) (s : State) :
    (injOpen e s).swp.injOn = s.swp.injOn ∧ (injOpen e s).swp.injCell = s.swp.injCell ∧
      (injOpen e s).reg R.SWC_INJSRC = s.reg R.SWC_INJSRC := by
  refine ⟨?_, ?_, (injOpen_slots e s).regs _ (by decide)⟩
  · unfold injOpen
    extract_lets i s1
    split <;> rfl
  · unfold injOpen
    extract_lets i s1
    split <;> rfl

theorem injStart_shown (src cell : Nat) (s : State) (hsrc : src < 4) :
    (injStart src cell s).swp.injOn = true ∧ (injStart src cell s).swp.injCell = cell ∧
      (injStart src cell s).fg R.SWC_INJSRC_SRC = 2 ^ src ∧ (injStart src cell s).fg R.SWC_INJSRC_CELL = cell % 64 := by
  obtain ⟨hon, hcell, hreg⟩ := injOpen_keeps (s.epoch + 1) (injBegun src cell s)
  obtain ⟨hsrcs, hshown⟩ := injBegun_shown src cell s hsrc
  rw [injStart_eq]
  exact ⟨hon, hcell, (State.fg_congr R.SWC_INJSRC_SRC hreg).trans hsrcs,
    (State.fg_congr R.SWC_INJSRC_CELL hreg).trans hshown⟩

/-- A first slot that takes time is the next one. -/
theorem injNext_first {s : State} (htime : s.swp.injCell ≠ 0 ∨ s.fg (R.SWC_ISEQ_SRC 0) ≠ srcTRIG)
    (hlen : 0 < s.fg R.SWC_CTRL_ILEN) : injNext s 0 = 0 := by
  obtain ⟨n, hn⟩ := Nat.exists_eq_succ_of_ne_zero (Nat.ne_of_gt hlen)
  have htakes : ¬(s.fg (R.SWC_ISEQ_SRC 0) = srcTRIG ∧ s.swp.injCell = 0) := fun ⟨htrig, hnone⟩ =>
    htime.elim (absurd hnone) (absurd htrig)
  simp only [injNext, hn, List.range_succ_eq_map]
  rw [List.filter_cons_of_pos (by simpa [← not_and_or] using htakes)]
  rfl

/-- A sequence whose first slot takes time opens it in the next epoch. -/
theorem injStart_opens {src cell : Nat} {s : State} (htime : cell ≠ 0 ∨ s.fg (R.SWC_ISEQ_SRC 0) ≠ srcTRIG)
    (hlen : 0 < s.fg R.SWC_CTRL_ILEN) :
    (injStart src cell s).swp.slotAt = s.epoch + 1 ∧ (injStart src cell s).fg R.SWC_STAT_STATE = 3 ∧
      SameRegs [R.SWC_STAT, R.SWC_INJSRC, R.SWC_IEPOCH] s (injStart src cell s) := by
  have hbegun : SameRegs [R.SWC_INJSRC, R.SWC_IEPOCH] s (injBegun src cell s) :=
    (SameRegs.of_regs rfl).trans <| (State.fs_sameRegs _ R.SWC_INJSRC_SRC _ (by decide)).trans <|
      (State.fs_sameRegs _ R.SWC_INJSRC_CELL _ (by decide)).trans (State.fs_sameRegs _ R.SWC_IEPOCH_EPOCH _ (by decide))
  have hsrc : (injBegun src cell s).fg (R.SWC_ISEQ_SRC 0) = s.fg (R.SWC_ISEQ_SRC 0) :=
    State.fg_congr _ (hbegun _ (by decide))
  have hilen : (injBegun src cell s).fg R.SWC_CTRL_ILEN = s.fg R.SWC_CTRL_ILEN := State.fg_congr _ (hbegun _ (by decide))
  have hnext : injNext (injBegun src cell s) 0 = 0 := injNext_first (hsrc ▸ htime) (hilen ▸ hlen)
  have hopen : injStart src cell s = openSlot (s.epoch + 1) 3 96
      { injBegun src cell s with swp := { (injBegun src cell s).swp with injIdx := 0 } } := by
    rw [injStart_eq, injOpen, hnext]
    exact if_pos (hilen ▸ hlen)
  refine ⟨by rw [hopen]; rfl, by rw [hopen]; exact (openSlot_shown ..).1, ?_⟩
  rw [injStart_eq]
  exact (hbegun.mono (by decide)).trans ((injOpen_slots ..).regs.mono (by decide))

end Sys2Proof.Machine

/-! # The result of a slot (R106, R107, R119 to R124, R134) -/

namespace Sys2Proof.Machine

/-! ## What a judgement changes of the registers (R119 to R124, R459) -/

/-- The registers of the judgements of a result: settling, comparison, diagnostics and the sweep converter's faults. -/
def judgeRegs : List Nat :=
  [R.SWC_STAT, R.SWC_DIS0, R.SWC_DIS1, R.SWC_CONF0, R.SWC_CONF1, R.SWC_DIAG, R.FLT_ISL islSWC, R.FLT_STAT]

theorem toneDrop_regs (s : State) : (toneDrop s).regs = s.regs := by
  obtain ⟨tn, o, h⟩ := toneDrop_frame s
  rw [h]

theorem State.setCellBit_sameRegs (s : State) (a0 a1 n : Nat) (b : Bool) : SameRegs [a0, a1] s (s.setCellBit a0 a1 n b) := by
  unfold State.setCellBit
  split
  · exact .setReg s _ (by simp)
  · exact .setReg s _ (by simp)

theorem State.raise_sameRegs (s : State) (code isl param : Nat) :
    SameRegs [R.FLT_ISL isl, R.FLT_STAT] s (s.raise code isl param) := by
  intro a ha
  obtain ⟨hisl, hstat⟩ : a ≠ R.FLT_ISL isl ∧ a ≠ R.FLT_STAT := by simpa using ha
  exact s.raise_reg code isl param a hisl hstat

theorem raise_judgeRegs (code param : Nat) (s : State) : SameRegs judgeRegs s (s.raise code islSWC param) :=
  (s.raise_sameRegs code islSWC param).mono (by decide)

theorem calUnsettled_regs (s : State) : (calUnsettled s).regs = s.regs := by
  unfold calUnsettled
  split
  · split <;> rfl
  · rfl

theorem unsRefresh_regs (s : State) : (unsRefresh s).regs = s.regs := by
  unfold unsRefresh
  split <;> rfl

theorem refUnsettle_judgeRegs (muxa : Bool) (s : State) : SameRegs judgeRegs s (refUnsettle muxa s) :=
  (s.fs_sameRegs R.SWC_STAT_REF_SETTLED 0 (by decide)).trans (.of_regs (calUnsettled_regs _))

theorem refSet_judgeRegs (s : State) : SameRegs judgeRegs s (refSet s) :=
  (s.fs_sameRegs R.SWC_STAT_REF_SETTLED 1 (by decide)).trans (.of_regs (unsRefresh_regs _))

theorem sweepLost_judgeRegs (s : State) : SameRegs judgeRegs s (sweepLost s) := by
  unfold sweepLost
  extract_lets s1
  have h1 : SameRegs judgeRegs s s1 := (s.fs_sameRegs R.SWC_DIAG_LOST 1 (by decide)).trans <|
    (SameRegs.of_regs (toneDrop_regs _)).trans (.of_regs (sendUp_regs ..))
  exact h1.trans ((raise_judgeRegs 0x06 0 s1).trans (.of_regs (ssvWithdraw_regs ..)))

theorem countRound_judgeRegs (kind : Nat) (ok : Option Bool) (s : State) : SameRegs judgeRegs s (countRound kind ok s) := by
  unfold countRound
  extract_lets seen mark
  split
  · exact .of_regs rfl
  · exact .of_regs rfl
  · split
    · exact .refl _ s
    · split
      · exact (SameRegs.of_regs rfl).trans (sweepLost_judgeRegs _)
      · exact .of_regs rfl

theorem diagFailed_judgeRegs (kind : Nat) (s : State) : SameRegs judgeRegs s (diagFailed kind s) := by
  unfold diagFailed
  extract_lets dac s1 s2
  have h2 : SameRegs judgeRegs s s2 :=
    (s.fs_sameRegs R.SWC_DIAG_FAIL _ (by decide)).trans (raise_judgeRegs _ _ s1)
  split
  · exact h2.trans ((SameRegs.of_regs (sendUp_regs ..)).trans (.of_regs (ssvInput_regs ..)))
  · exact h2

theorem ssvSees_regs (good : Bool) (s : State) : (ssvSees good s).regs = s.regs := by
  unfold ssvSees
  extract_lets mine
  split <;> rfl

theorem judgeDiag_judgeRegs (src : Nat) (d : Int) (uns ovr : Bool) (s : State) :
    SameRegs judgeRegs s (judgeDiag src d uns ovr s) := by
  unfold judgeDiag
  extract_lets kind good s1 s0 s2 s3
  have h0 : SameRegs judgeRegs s s0 := .of_regs (ssvSees_regs ..)
  split
  · have h1 : SameRegs judgeRegs s s1 := by
      unfold s1
      split
      · exact diagFailed_judgeRegs 3 s
      · exact .refl _ s
    exact h1.trans (s1.fs_sameRegs R.SWC_DIAG_DACIDX _ (by decide))
  · split
    · have h2 : SameRegs judgeRegs s s2 := h0.trans (countRound_judgeRegs kind none s0)
      split
      · exact h2.trans (refSet_judgeRegs s2)
      · exact h2
    · split
      · exact h0.trans (countRound_judgeRegs kind (some true) s0)
      · have h3 : SameRegs judgeRegs s s3 :=
          h0.trans ((diagFailed_judgeRegs kind s0).trans (countRound_judgeRegs kind (some false) _))
        split
        · exact h3.trans (refUnsettle_judgeRegs true s3)
        · exact h3

/-- The bit of a channel in a pair of registers for cells and a field for the AX channels. -/
theorem channelBit_sameRegs (s : State) (a0 a1 ch : Nat) (ax : Fld) (hax : ax.adr = a1) :
    SameRegs [a0, a1] s (if ch ≤ 48 then s.setCellBit a0 a1 ch true else s.fbit ax (ch - 49) true) := by
  split
  · exact s.setCellBit_sameRegs a0 a1 ch true
  · exact s.fs_sameRegs ax _ (by simp [hax])

theorem plausFailure_judgeRegs (ch : Nat) (s : State) : SameRegs judgeRegs s (plausFailure ch s) := by
  have h1 := (channelBit_sameRegs s R.SWC_CONF0 R.SWC_CONF1 ch R.SWC_CONF1_AX rfl).mono (l' := judgeRegs) (by decide)
  exact h1.trans <| (raise_judgeRegs 0x25 ch _).trans <|
    (SameRegs.of_regs (sendUp_regs ..)).trans (.of_regs (ssvInput_regs ..))

theorem judgePlaus_judgeRegs (ch : Nat) (dis : Bool) (s : State) : SameRegs judgeRegs s (judgePlaus ch dis s) := by
  unfold judgePlaus
  extract_lets pend setP s1
  have hP : ∀ b t, SameRegs judgeRegs t (setP b t) := fun _ _ => .of_regs rfl
  have h1 : SameRegs judgeRegs s s1 :=
    (channelBit_sameRegs s R.SWC_DIS0 R.SWC_DIS1 ch R.SWC_DIS1_AX rfl).mono (by decide)
  split
  · exact hP false s
  · split
    · exact h1.trans ((hP false s1).trans (plausFailure_judgeRegs ch _))
    · exact h1.trans (hP true s1)

theorem keepTemp_regs (src rat : Nat) (d : Int) (usable : Bool) (s : State) :
    (keepTemp src rat d usable s).regs = s.regs := by
  unfold keepTemp
  extract_lets k
  split <;> rfl

/-! ## The result register (R107, R134) -/

/-- The word of the result of a regular slot. -/
def regularWord (src rat : Nat) (d : Int) (under : Bool) (s : State) : Word :=
  w32 (resultWord (slotFlags src rat d under s).1 (slotFlags src rat d under s).2.1 (slotFlags src rat d under s).2.2.1
    (slotFlags src rat d under s).2.2.2 (s.swp.rnd * 0x1000000) d)

/-- What follows a result word: the judgement of a diagnostic result, the temperatures and the comparison. -/
def resultJudged (src rat ch : Nat) (d : Int) (f : Bool × Bool × Bool × Bool) (s : State) : State :=
  let s1 := if srcBGB ≤ src ∧ src ≤ srcDAC then judgeDiag src d f.1 f.2.1 s else s
  let s2 := keepTemp src rat d (!f.1 && !f.2.1) s1
  if ch ≠ 0 ∧ !f.2.2.2 then judgePlaus ch f.2.2.1 s2 else s2

theorem resultJudged_judgeRegs (src rat ch : Nat) (d : Int) (f : Bool × Bool × Bool × Bool) (s : State) :
    SameRegs judgeRegs s (resultJudged src rat ch d f s) := by
  unfold resultJudged
  extract_lets s1 s2
  have h1 : SameRegs judgeRegs s s1 := by
    unfold s1
    split
    · exact judgeDiag_judgeRegs src d f.1 f.2.1 s
    · exact .refl _ s
  have h2 : SameRegs judgeRegs s s2 := h1.trans (.of_regs (keepTemp_regs ..))
  split
  · exact h2.trans (judgePlaus_judgeRegs ch f.2.2.1 s2)
  · exact h2

/-- The result of a regular slot is in its register, and its message has left. -/
def resultSent (src rat : Nat) (d : Int) (under : Bool) (s : State) : State :=
  let f := slotFlags src rat d under s
  let k := s.fg R.SWC_STAT_SLOT
  let s1 := s.setReg (R.SWC_RES k) (regularWord src rat d under s)
  sendUp mSWEEP [resultWord f.1 f.2.1 f.2.2.1 f.2.2.2 (k * 0x200000) d] { s1 with fab := { s1.fab with
    slotEnd := Smap.set (fun _ => 0) s1.fab.slotEnd k (s1.swp.slotAt + 39) } }

theorem resultSent_reg (src rat : Nat) (d : Int) (under : Bool) (s : State) :
    (resultSent src rat d under s).reg (R.SWC_RES (s.fg R.SWC_STAT_SLOT)) = regularWord src rat d under s := by
  have hregs : (resultSent src rat d under s).regs =
      (s.setReg (R.SWC_RES (s.fg R.SWC_STAT_SLOT)) (regularWord src rat d under s)).regs := sendUp_regs ..
  exact (State.reg_congr hregs _).trans (State.reg_setReg_same ..)

theorem slotResult_regular (src rat : Nat) (d : Int) (under : Bool) {s : State} (hstate : s.fg R.SWC_STAT_STATE = 2) :
    slotResult src rat d under s =
      resultJudged src rat s.slotChannel d (slotFlags src rat d under s) (resultSent src rat d under s) := by
  have hinj : ¬s.fg R.SWC_STAT_STATE = 3 := by omega
  simp only [slotResult, if_neg hinj, resultJudged, resultSent, regularWord]
/-! ## The end of a slot (R106, R116, R117) -/

/-- The slot in progress of a round. -/
theorem slot_regular {k : Nat} {s : State} (hcal : s.swp.inCal = false) (hinj : s.swp.injOn = false)
    (hstate : s.fg R.SWC_STAT_STATE = 2) (hslot : s.fg R.SWC_STAT_SLOT = k) (hk : k < 96) :
    s.slot = some (s.fg (R.SWC_SEQ_SRC k), s.fg (R.SWC_SEQ_RAT k)) := by
  simp [State.slot, hcal, hinj, hstate, hslot, hk]

/-- The state at the boundary that ends the slot in progress. -/
def slotEnded (s : State) : State := s.until (50 * (s.swp.slotAt + 40))

theorem sweepSlotResult_idle {d : Int} {under : Bool} {rat : Nat} {s : State} (hcal : s.swp.inCal = false)
    (hslot : s.slot = some (0, rat)) : sweepSlotResult d under s = advance (slotEnded s) := by
  simp [sweepSlotResult, hcal, hslot, slotEnded]

theorem sweepSlotResult_slot {d : Int} {under : Bool} {src rat : Nat} {s : State} (hcal : s.swp.inCal = false)
    (hslot : s.slot = some (src, rat)) (hsrc : src ≠ 0) :
    sweepSlotResult d under s = (slotTriggers src rat d under (slotEnded s)).foldl (fun t g => fireTrigger g.1 g.2 t)
      (advance (slotResult src rat d under (slotEnded s))) := by
  simp [sweepSlotResult, hcal, hslot, hsrc, slotEnded]

/-- What follows a result leaves the result registers. -/
theorem sweepSlotResult_sameRegs {d : Int} {under : Bool} {src rat : Nat} {s : State} (hcal : s.swp.inCal = false)
    (hslot : s.slot = some (src, rat)) (hsrc : src ≠ 0) :
    SameRegs (R.SWC_RSTART :: triggerRegs) (slotResult src rat d under (slotEnded s)) (sweepSlotResult d under s) := by
  rw [sweepSlotResult_slot hcal hslot hsrc]
  refine ((advance_sameRegs _).mono (by decide)).trans (.foldl _ _ _ fun t g _ => ?_)
  exact (fireTrigger_triggers g.1 g.2 t).1.mono (by decide)

/-- No other register of a result is a result register. -/
theorem not_resultReg {k : Nat} (hk : k < 96) :
    R.SWC_RES k ∉ judgeRegs ∧ R.SWC_RES k ∉ R.SWC_RSTART :: triggerRegs := by
  have hfree : ∀ a ∈ judgeRegs ++ R.SWC_RSTART :: triggerRegs, a < 0x020300 ∨ 0x020480 ≤ a := by decide
  refine not_or.1 fun hm => ?_
  have := hfree _ (List.mem_append.2 hm)
  unfold R.SWC_RES at this
  omega

theorem sweepSlotResult_regular {d : Int} {under : Bool} {k : Nat} {s : State} (hcal : s.swp.inCal = false)
    (hstate : s.fg R.SWC_STAT_STATE = 2) (hinj : s.swp.injOn = false) (hslot : s.fg R.SWC_STAT_SLOT = k) (hk : k < 96)
    (hsrc : s.fg (R.SWC_SEQ_SRC k) ≠ 0) :
    (sweepSlotResult d under s).reg (R.SWC_RES k) =
      regularWord (s.fg (R.SWC_SEQ_SRC k)) (s.fg (R.SWC_SEQ_RAT k)) d under (slotEnded s) := by
  have hafter := sweepSlotResult_sameRegs (d := d) (under := under) hcal (slot_regular hcal hinj hstate hslot hk) hsrc
  have hsent := resultSent_reg (s.fg (R.SWC_SEQ_SRC k)) (s.fg (R.SWC_SEQ_RAT k)) d under (slotEnded s)
  have hended : (slotEnded s).fg R.SWC_STAT_SLOT = k := hslot
  obtain ⟨hjudge, htrigger⟩ := not_resultReg hk
  rw [hended] at hsent
  rw [slotResult_regular _ _ d under (s := slotEnded s) hstate] at hafter
  exact (hafter _ htrigger).trans ((resultJudged_judgeRegs _ _ _ _ _ _ _ hjudge).trans hsent)

/-- The calibration's record of a node's result. -/
def calConverted (d : Int) (s : State) : State :=
  { (slotEnded s).fs R.SWC_STAT_CALSLOT 0 with
    swp := { (slotEnded s).swp with calSlot := 0 }
    smp := { (slotEnded s).smp with cal := (slotEnded s).smp.cal.map fun c =>
      if (slotEnded s).swp.calSlot = 1 then { c with sweepLo := some d } else { c with sweepHi := some d } } }

theorem sweepSlotResult_calibration {d : Int} {under : Bool} {s : State} (hcal : s.swp.inCal = true)
    (hinj : s.swp.injOn = false) : sweepSlotResult d under s = advance (calConverted d s) := by
  rw [sweepSlotResult, if_pos (by simp [hcal, hinj])]
  rfl

theorem calConverted_low {d : Int} {c : Cal} {s : State} (hnode : s.swp.calSlot = 1) (hcal : s.smp.cal = some c) :
    (calConverted d s).smp.cal = some { c with sweepLo := some d } := by
  simp [calConverted, slotEnded, hnode, hcal]

end Sys2Proof.Machine

/-! # Rounds, injected sequences and settling; the sweep family's settlement (R105 to R119, R132, R134) -/

namespace Sys2Proof.Machine

/-! ## Rounds (R109, R111, R112) -/

/-- The record of a round that starts at epoch `e`, when no change waits for it. -/
def roundBegun (e : Nat) (s : State) : State :=
  let s1 := closeCounts s
  { s1 with swp := { s1.swp with round := some (e, 0), rnd := (s1.swp.rnd + 1) % 16, roundHeld := false }
            ssv := { s1.ssv with roundOn := s1.ssv.judge == 2 } }

theorem beginRound_unchanged {e : Nat} {s : State} (hpend : s.swp.pendSet = []) (hcal : s.swp.inCal = false)
    (hinj : s.injRunning = false) : beginRound e s = resume e (roundBegun e s) := by
  have hfree : ¬((roundBegun e s).swp.inCal || (roundBegun e s).injRunning) = true := by
    simp [show (roundBegun e s).swp.inCal = false from hcal, show (roundBegun e s).injRunning = false from hinj]
  have hsame : { s with swp := { s.swp with pendSet := [] } } = s := by rw [← hpend]
  unfold beginRound
  simp only [hpend, List.foldl_nil, hsame]
  exact if_neg hfree

theorem sweepRoundStart_overrun {e : Nat} {s : State} (hstate : s.fg R.SWC_STAT_STATE ≠ 0)
    (hround : s.swp.round.isSome = true) (hmul : e % (40 * s.fg R.SWC_CTRL_PERIOD) = 0) (hahead : s.epoch ≤ e) :
    sweepRoundStart e s = (s.until (50 * e)).inc R.SWC_OVRUN_COUNT := by
  simp [sweepRoundStart, hstate, hround, hmul, Nat.not_lt.2 hahead]

theorem sweepRoundStart_begins {e : Nat} {s : State} (hstate : s.fg R.SWC_STAT_STATE ≠ 0) (hround : s.swp.round = none)
    (hstay : s.swp.offNext = false) (hen : s.fb R.SWC_CTRL_EN = true) (hinj : s.injRunning = false)
    (hmul : e % (40 * s.fg R.SWC_CTRL_PERIOD) = 0) (hahead : s.epoch ≤ e) :
    sweepRoundStart e s = beginRound e (s.until (50 * e)) := by
  have hrun : (s.until (50 * e)).injRunning = false := hinj
  have hon : (s.until (50 * e)).fb R.SWC_CTRL_EN = true := hen
  simp [sweepRoundStart, hstate, hround, hstay, hon, hrun, hmul, Nat.not_lt.2 hahead]

/-! ## The result's message in the system half (R134, R283) -/

/-- Without a subscription nothing is delivered. -/
theorem feed_unsubscribed {s : State} (h : ∀ q ∈ List.range 8, s.fg (R.FAB_PSUB_EN q) = 0) (kind : Nat) (src : List Nat)
    (pub : Nat) (aborted : Bool) (f : Nat → Nat → Nat → Option (List Word)) : feed kind src pub aborted f s = s := by
  unfold feed
  exact List.foldlRecOn (motive := fun t => t = s) _ _ rfl fun t ht q hq => by
    rw [ht]
    exact if_pos (h q hq)

theorem sweepResultMessage_unsubscribed (w : Word) {s : State} (h : ∀ q ∈ List.range 8, s.fg (R.FAB_PSUB_EN q) = 0) :
    sweepResultMessage w s =
      s.emit .stream [1, epochTag s (Smap.get (fun _ => 0) s.fab.slotEnd (bitsOf w.toNat 21 7)), w.toNat] := by
  unfold sweepResultMessage feedMessage
  exact feed_unsubscribed (fun q hq => (State.emit_fg ..).trans (h q hq)) _ _ _ _ _

/-! ## The write of SWC_INJCTL (R115, R132) -/

/-- A field beside a bit that is set reads as before. -/
theorem wf_setBit_disj {v : Word} {i : Nat} {f : Fld} (hi : i < 32) (h : i < f.lo ∨ f.lo + f.w ≤ i) :
    wf (w32 (setBit v.toNat i true)) f = wf v f := by
  have hfits : setBit v.toNat i true < 2 ^ 32 := setBit_lt _ _ 32 v.isLt hi
  unfold wf
  rw [w32_toNat hfits]
  refine Nat.eq_of_testBit_eq fun j => ?_
  simp only [testBit_bitsOf, setBit, if_true, Nat.testBit_or, Nat.testBit_two_pow]
  by_cases hj : j < f.w
  · have hne : i ≠ f.lo + j := by omega
    simp [hne]
  · simp [hj]

/-- The one bit of a field reads 1 when it is set. -/
theorem wf_setBit_self {v : Word} {i : Nat} {f : Fld} (hi : i < 32) (hlo : f.lo = i) (hw : f.w = 1) :
    wf (w32 (setBit v.toNat i true)) f = 1 := by
  have hbit := testBit_w32_setBit v hi
  unfold wf bitsOf
  rw [hlo, hw, Nat.shiftRight_eq_div_pow]
  simpa [Nat.testBit_eq_decide_div_mod_eq] using hbit

/-- DCLR clears both counts. -/
def injCleared (v : Word) (s : State) : State :=
  if wf v R.SWC_INJCTL_DCLR = 1 then (s.fs R.SWC_INJDROP_COUNT 0).fs R.SWC_OVRUN_COUNT 0 else s

theorem injCleared_spec (v : Word) (s : State) :
    SameRegs [R.SWC_INJDROP, R.SWC_OVRUN] s (injCleared v s) ∧ (injCleared v s).swp = s.swp := by
  unfold injCleared
  split
  · exact ⟨(s.fs_sameRegs R.SWC_INJDROP_COUNT 0 (by decide)).trans
      (State.fs_sameRegs _ R.SWC_OVRUN_COUNT 0 (by decide)), rfl⟩
  · exact ⟨.refl _ s, rfl⟩

theorem swcInjctlWrite_go {v : Word} {s : State} (hgo : wf v R.SWC_INJCTL_GO = 1) (hcell : wf v R.SWC_INJCTL_CELL ≤ 48)
    (hstate : s.fg R.SWC_STAT_STATE ≠ 0) :
    swcInjctlWrite v s = (.ok, fireTrigger 0 (wf v R.SWC_INJCTL_CELL) (injCleared v s)) := by
  simp [swcInjctlWrite, hgo, Nat.not_lt.2 hcell, hstate, injCleared]

theorem swcInjctlWrite_clear {v : Word} {s : State} (hgo : wf v R.SWC_INJCTL_GO = 0) :
    swcInjctlWrite v s = (.ok, injCleared v s) := by
  simp [swcInjctlWrite, hgo, injCleared]

/-- A GO starts a sequence of source CMD with the cell it names. -/
theorem injCommand_starts {v : Word} {cell : Nat} {s : State} (hen : s.tb ⟨R.SWC_INJEN, 0, 4⟩ 0 = true)
    (hstate : s.fg R.SWC_STAT_STATE ≠ 0) (hinj : s.swp.injOn = false) :
    fireTrigger 0 cell (injCleared v s) = injStart 0 cell (injCleared v s) := by
  obtain ⟨hregs, hswp⟩ := injCleared_spec v s
  refine fireTrigger_starts ?_ ?_ (by rw [hswp]; exact hinj)
  · rw [State.tb, State.fg_congr ⟨R.SWC_INJEN, 0, 4⟩ (hregs _ (by decide))]
    exact hen
  · rw [State.fg_congr R.SWC_STAT_STATE (hregs _ (by decide))]
    exact hstate

/-! ## The end of an injected sequence (R116) -/

/-- No injected sequence is on. -/
def injFreed (s : State) : State := { s with swp := { s.swp with injOn := false } }

theorem injectedSequenceEnd_idle {s : State} (hinj : s.swp.injOn = true) (hover : s.injRunning = false)
    (hssv : s.ssv.st ≠ svSTARTING) (hheld : s.swp.heldSsv = false) (hround : s.swp.roundHeld = false) :
    injectedSequenceEnd s = resume (max s.swp.injStop s.epoch) (injFreed s) := by
  simp [injectedSequenceEnd, injFreed, hinj, hover, hssv, hheld, hround]

/-! ## Settling (R118, R119) -/

theorem fb_of_fg_zero {s : State} {f : Fld} (h : s.fg f = 0) : s.fb f = false := by simp [State.fb, h]

theorem refSettleTimer_sets {s : State} (hon : s.sweepOn = true) (hclear : s.fg R.SWC_STAT_REF_SETTLED = 0)
    (htimed : s.swp.refTimed = false) (hmuxa : s.swp.refMuxa = false) (hdue : s.due s.swp.refAt (refTime s) = true) :
    refSettleTimer s = refSet { s with swp := { s.swp with refTimed := true } } := by
  simp [refSettleTimer, hon, fb_of_fg_zero hclear, htimed, hmuxa, hdue]

theorem unsRefresh_refTimed (s : State) : (unsRefresh s).swp.refTimed = s.swp.refTimed := by
  unfold unsRefresh
  split <;> rfl

/-- A settling flag is set. -/
theorem settled_spec (f : Fld) (s : State) (hf : f.lo + f.w ≤ 32) (hw : f.w = 1) :
    (unsRefresh (s.fs f 1)).fg f = 1 ∧ (unsRefresh (s.fs f 1)).swp.refTimed = s.swp.refTimed ∧
      SameRegs [f.adr] s (unsRefresh (s.fs f 1)) := by
  have hset : (s.fs f 1).fg f = 1 := by rw [State.fg_fs_same s f 1 hf, hw]; rfl
  exact ⟨(State.fg_congr f (State.reg_congr (unsRefresh_regs _) _)).trans hset, unsRefresh_refTimed _,
    (s.fs_sameRegs f 1 (by simp)).trans (.of_regs (unsRefresh_regs _))⟩

/-- Settles O9: a case for each command, by the rule of its own. -/
theorem sweepCommandsTakeEffect : Obligations.SweepCommandsTakeEffect := by
  refine ⟨?start, ?overrun, ?result, ?idle, ?calibration, ?message, ?trigger, ?dropped, ?go, ?clear, ?ended,
    ?ref, ?rat, ?fault⟩
  case start =>
    intro e s hstate hround hstay hen hinj hcal hwaits hpend hon hmul hahead
    have hbegin : sweepRoundStart e s = resume e (roundBegun e (s.until (50 * e))) := by
      rw [sweepRoundStart_begins (by omega) hround hstay hen hinj hmul hahead]
      exact beginRound_unchanged (s := s.until (50 * e)) hpend hcal hinj
    obtain ⟨hbegun, hat, hcount, hshown, hslot⟩ :=
      resume_regular (e := e) (s := roundBegun e (s.until (50 * e))) hon hwaits rfl
    have hothers : SameRegs [R.SWC_STAT] s (roundBegun e (s.until (50 * e))) := .of_regs rfl
    refine Does.of_rule (f := sweepRoundStart e) rfl (fun _ h => h) ?_
    rw [hbegin]
    exact ⟨hbegun, hat, hshown, hslot, hcount, hothers.trans (resume_slots ..).regs⟩
  case overrun =>
    intro e s hstate hround hmul hahead
    exact exec_of_run_eq (f := sweepRoundStart e) rfl (sweepRoundStart_overrun hstate hround hmul hahead) rfl rfl
  case result =>
    intro d under k st s hcal hstate hinj hslot hk hsrc _
    exact Does.of_rule (f := sweepSlotResult d under) rfl (fun _ h => h)
      (sweepSlotResult_regular hcal hstate hinj hslot hk hsrc)
  case idle =>
    intro d under k st s hcal hstate hinj hslot hk hsrc hround hlen hon hwaits
    have hempty := slot_regular hcal hinj hstate hslot hk
    have hregular : (slotEnded s).fg R.SWC_STAT_STATE ≠ 3 := by
      have : (slotEnded s).fg R.SWC_STAT_STATE = 2 := hstate
      omega
    rw [hsrc] at hempty
    obtain ⟨hnext, hat, -, -, hshown⟩ :=
      resume_regular (e := s.swp.slotAt + 40) (s := slotTurned st k (slotEnded s)) hon hwaits rfl
    have hothers : SameRegs [R.SWC_STAT] s (slotTurned st k (slotEnded s)) := .of_regs rfl
    refine Does.of_rule (f := sweepSlotResult d under) rfl (fun _ h => h) ?_
    rw [sweepSlotResult_idle hcal hempty, advance_regular (s := slotEnded s) hregular hcal hround hlen]
    exact ⟨hnext, hshown.trans (Nat.mod_eq_of_lt (by omega)), hat, hothers.trans (resume_slots ..).regs⟩
  case calibration =>
    intro d under c s hcal hinj hnode hsome
    have hslots := advance_calibration (s := calConverted d s) (.inr hcal)
    refine Does.of_rule (f := sweepSlotResult d under) rfl (fun _ h => h) ?_
    rw [sweepSlotResult_calibration hcal hinj]
    refine ⟨?_, hslots.waits, hslots.calslot.trans (State.fg_fs_same (slotEnded s) R.SWC_STAT_CALSLOT 0 (by decide))⟩
    rw [hslots.frame]
    exact calConverted_low hnode hsome
  case message =>
    intro w s hnone
    exact exec_of_run_eq (f := sweepResultMessage w) rfl (sweepResultMessage_unsubscribed w hnone) rfl rfl
  case trigger =>
    intro src cell s hen hstate hinj htime hlen
    obtain ⟨hon, hcell, hsrcs, hshown⟩ := injStart_shown src.val cell s src.isLt
    obtain ⟨hat, hopen, hothers⟩ := injStart_opens (src := src.val) htime hlen
    refine Does.of_rule (f := injectedTrigger src.val cell) rfl (fun _ h => h) ?_
    rw [injectedTrigger, fireTrigger_starts hen hstate hinj]
    exact ⟨hon, hcell, hat, hsrcs, hshown, hopen, hothers⟩
  case dropped =>
    intro src cell s hen hstate hrun hlater hcell
    exact exec_of_run_eq (f := injectedTrigger src.val cell) rfl (fireTrigger_drops hen hstate hrun hlater hcell) rfl rfl
  case go =>
    intro v s hok hcell hstate hinj hen
    have hgo : wf (w32 (setBit v.toNat 31 true)) R.SWC_INJCTL_GO = 1 := wf_setBit_self (by decide) rfl rfl
    have hnamed : wf (w32 (setBit v.toNat 31 true)) R.SWC_INJCTL_CELL = wf v R.SWC_INJCTL_CELL :=
      wf_setBit_disj (by decide) (by decide)
    have hrule : exec (.swcInjctlGo v) s = run (direct R.SWC_INJCTL (w32 (setBit v.toNat 31 true)) swcInjctlWrite) s := rfl
    generalize w32 (setBit v.toNat 31 true) = w at hok hgo hnamed hrule
    obtain ⟨hon, hshown, hsrc, -⟩ := injStart_shown 0 (wf v R.SWC_INJCTL_CELL) (injCleared w s) (by decide)
    refine Does.of_rule hrule (fun _ h => h) ?_
    rw [direct_of_none hok, swcInjctlWrite_go hgo (hnamed ▸ hcell) hstate, injCommand_starts hen hstate hinj, hnamed]
    exact ⟨hon, hshown, hsrc, State.done_lastOut ..⟩
  case clear =>
    intro v s hok hgo
    have hclear : wf (w32 (setBit v.toNat 30 true)) R.SWC_INJCTL_DCLR = 1 := wf_setBit_self (by decide) rfl rfl
    have hnone : wf (w32 (setBit v.toNat 30 true)) R.SWC_INJCTL_GO = 0 := (wf_setBit_disj (by decide) (by decide)).trans hgo
    refine exec_of_run_eq (f := direct R.SWC_INJCTL (w32 (setBit v.toNat 30 true)) swcInjctlWrite) rfl ?_ rfl rfl
    rw [direct_of_none hok, swcInjctlWrite_clear hnone, injCleared, if_pos hclear]
  case ended =>
    intro s hinj hover hssv hheld hheldRound hwaits hround hon
    obtain ⟨hidle, hfree⟩ := resume_idle (e := max s.swp.injStop s.epoch) (s := injFreed s) hon hwaits hround
    have hothers : SameRegs [R.SWC_STAT] s (injFreed s) := .of_regs rfl
    refine Does.of_rule (f := injectedSequenceEnd) rfl (fun _ h => h) ?_
    rw [injectedSequenceEnd_idle hinj hover hssv hheld hheldRound]
    exact ⟨hfree, hidle, hothers.trans (resume_slots ..).regs⟩
  case ref =>
    intro s hon hclear htimed hmuxa hdue
    refine Does.of_rule (f := refSettleTimer) rfl (fun _ h => h) ?_
    rw [refSettleTimer_sets hon hclear htimed hmuxa hdue]
    exact settled_spec R.SWC_STAT_REF_SETTLED { s with swp := { s.swp with refTimed := true } } (by decide) rfl
  case rat =>
    intro s hon hdue
    obtain ⟨hset, -, hothers⟩ := settled_spec R.SWC_STAT_RAT_SETTLED s (by decide) rfl
    refine Does.of_rule (f := ratSettleTimer) rfl (fun _ h => h) ?_
    rw [ratSettleTimer, if_pos (by simp [hon, hdue])]
    exact ⟨hset, hothers⟩
  case fault =>
    intro s hon hclear hnew hdue
    refine Does.of_rule (f := refNotSettledTimeout) rfl (fun _ h => h) ?_
    rw [refNotSettledTimeout, if_pos (by simp [hon, fb_of_fg_zero hclear, hnew, hdue])]
    exact ⟨congrArg Swp.refFault (State.raise_swp ..), State.raise_bit _ _ _ _ (by decide),
      State.raise_sameRegs _ 0x23 islSWC 0⟩

end Sys2Proof.Machine

/-! # The comparators: filter, trip and test (R125 to R129, R135, R136) -/

namespace Sys2Proof.Machine

/-! ## The bits of the cells in a pair of registers -/

theorem testBit_sub_two_pow_ne {n i j : Nat} (h : n.testBit i = true) (hj : j ≠ i) :
    (n - 2 ^ i).testBit j = n.testBit j := by
  obtain ⟨m, rfl⟩ := Nat.exists_eq_add_of_le (Nat.ge_two_pow_of_testBit h)
  rw [Nat.add_sub_cancel_left]
  rw [Nat.testBit_two_pow_add_eq] at h
  obtain hlow | hhigh := Nat.lt_or_gt_of_ne hj
  · exact (Nat.testBit_two_pow_add_gt hlow m).symm
  · obtain ⟨d, rfl⟩ := Nat.exists_eq_add_of_le (Nat.succ_le_of_lt hhigh)
    have hlt : 2 ^ i < 2 ^ (i + 1) := Nat.pow_lt_pow_right (by decide) (Nat.lt_succ_self i)
    have hclear : m % 2 ^ (i + 1) < 2 ^ i := Nat.lt_pow_two_of_testBit _ fun b hb => by
      obtain rfl | hlt := Nat.eq_or_lt_of_le hb
      · simpa [Nat.testBit_mod_two_pow] using h
      · simp [Nat.testBit_mod_two_pow, Nat.not_lt.2 hlt]
    have hcarry : 2 ^ i % 2 ^ (i + 1) + m % 2 ^ (i + 1) < 2 ^ (i + 1) := by
      rw [Nat.mod_eq_of_lt hlt]
      omega
    have hquot : (2 ^ i + m) / 2 ^ (i + 1) = m / 2 ^ (i + 1) := by
      rw [Nat.add_div_eq_of_add_mod_lt hcarry, Nat.div_eq_of_lt hlt, Nat.zero_add]
    have hbits := congrArg (fun x => Nat.testBit x d) hquot
    simpa only [Nat.testBit_div_two_pow, Nat.add_comm d] using hbits.symm

theorem testBit_setBit_ne (n : Nat) {i j : Nat} (b : Bool) (hj : j ≠ i) : (setBit n i b).testBit j = n.testBit j := by
  cases b with
  | true => simp [setBit, Nat.testBit_or, hj.symm]
  | false =>
    simp only [setBit, Bool.false_eq_true, if_false]
    split
    case isTrue h => exact testBit_sub_two_pow_ne h hj
    case isFalse => rfl

theorem testBit_w32_setBit_ne (v : Word) {i j : Nat} (b : Bool) (hj : j ≠ i) (hlt : j < 32) :
    (w32 (setBit v.toNat i b)).toNat.testBit j = v.toNat.testBit j := by
  rw [w32, BitVec.toNat_ofNat, Nat.testBit_mod_two_pow, testBit_setBit_ne _ b hj]
  simp [hlt]

/-- The bit of another cell stays. -/
theorem State.setCellBit_ne (s : State) {a0 a1 n m : Nat} (b : Bool) (ha : a0 ≠ a1) (hn : 1 ≤ n) (hm : 1 ≤ m ∧ m ≤ 64)
    (h : m ≠ n) : (s.setCellBit a0 a1 n b).cellBit a0 a1 m = s.cellBit a0 a1 m := by
  obtain ⟨hlo, hhi⟩ := hm
  unfold State.setCellBit State.cellBit
  by_cases hn32 : n ≤ 32
  · rw [if_pos hn32, State.reg_setReg_same, State.reg_setReg_ne _ _ ha.symm]
    split
    · exact testBit_w32_setBit_ne _ b (by omega) (by omega)
    · rfl
  · rw [if_neg hn32, State.reg_setReg_same, State.reg_setReg_ne _ _ ha]
    split
    · rfl
    · exact testBit_w32_setBit_ne _ b (by omega) (by omega)

/-- A pair of registers reads the same where both registers do. -/
theorem State.cellBit_of_sameRegs {l : List Nat} {s t : State} (h : SameRegs l s t) {a0 a1 : Nat} (h0 : a0 ∉ l) (h1 : a1 ∉ l)
    (n : Nat) : t.cellBit a0 a1 n = s.cellBit a0 a1 n := by
  unfold State.cellBit
  rw [h a0 h0, h a1 h1]

/-! ## What a trip sets off beyond the comparators (R127) -/

/-- Between `s` and `t` other units acted: the comparators' registers and record are as before, and a raised source 0x05
stays raised. -/
structure CmpKept (s t : State) : Prop where
  cmp : t.cmp = s.cmp
  regs : ∀ a, 0x030000 ≤ a → a < 0x040000 → t.reg a = s.reg a
  fault : Raised 0x05 islSSV s → Raised 0x05 islSSV t

theorem CmpKept.refl (s : State) : CmpKept s s := ⟨rfl, fun _ _ _ => rfl, id⟩

theorem CmpKept.trans {s t u : State} (h : CmpKept s t) (h' : CmpKept t u) : CmpKept s u :=
  ⟨h'.cmp.trans h.cmp, fun a hlo hhi => (h'.regs a hlo hhi).trans (h.regs a hlo hhi), h'.fault ∘ h.fault⟩

/-- Registers outside the comparators' block and the supervisor's fault record. -/
theorem CmpKept.of_sameRegs {l : List Nat} {s t : State} (hcmp : t.cmp = s.cmp) (h : SameRegs l s t)
    (hblock : ∀ a ∈ l, a < 0x030000 ∨ 0x040000 ≤ a) (hisl : R.FLT_ISL islSSV ∉ l) : CmpKept s t := by
  refine ⟨hcmp, fun a hlo hhi => h a fun hm => ?_, fun hr => hr.of_regs h hisl⟩
  have := hblock a hm
  omega

theorem CmpKept.of_regs {s t : State} (hcmp : t.cmp = s.cmp) (h : t.regs = s.regs) : CmpKept s t :=
  .of_sameRegs (l := []) hcmp (.of_regs h) (by simp) (by simp)

theorem raise_cmpKept (s : State) : CmpKept s (s.raise 0x05 islSSV 0) := by
  refine ⟨State.raise_cmp .., fun a hlo hhi => s.raise_sameRegs 0x05 islSSV 0 a fun hm => ?_, fun _ =>
    s.raise_bit 0x05 islSSV 0 (by decide)⟩
  have hfar : ∀ b ∈ [R.FLT_ISL islSSV, R.FLT_STAT], 0x040000 ≤ b := by decide
  have := hfar a hm
  omega

theorem toneDrop_cmpKept (s : State) : CmpKept s (toneDrop s) := by
  obtain ⟨tn, o, h⟩ := toneDrop_frame s
  rw [h]
  exact .of_regs rfl rfl

theorem ssvWithdraw_cmp (cause refuse : Nat) (s : State) : (ssvWithdraw cause refuse s).cmp = s.cmp := by
  unfold ssvWithdraw
  split
  · exact sendUp_cmp ..
  · split
    · exact sendUp_cmp ..
    · rfl

theorem capFire_cmpKept {k : Nat} (bit e : Nat) (s : State) (hk : k < 16) : CmpKept s (capFire bit e k s) := by
  refine .of_sameRegs (by rw [capFire_frame]) (capFire_sameRegs bit e k s) ?_ ?_
  · simp [R.CAP_B_W6, R.CAP_B_W7]
    omega
  · simp [R.CAP_B_W6, R.CAP_B_W7, R.FLT_ISL, islSSV]
    omega

theorem capFireAll_cmpKept (bit : Nat) (p : State → Nat → Bool) (s : State) : CmpKept s (capFireAll bit p s) :=
  List.foldlRecOn (motive := CmpKept s) _ _ (.refl s) fun t ht k hk => ht.trans <| by
    split
    · exact capFire_cmpKept bit t.epoch t (List.mem_range.1 hk)
    · exact .refl t

theorem fireTrigger_cmpKept (src cell : Nat) (s : State) : CmpKept s (fireTrigger src cell s) := by
  obtain ⟨hregs, hframe⟩ := fireTrigger_triggers src cell s
  exact .of_sameRegs (by rw [hframe]) hregs (by decide) (by decide)

/-- The TRIP bit of comparator `k` is set. -/
def tripMarked (k : Nat) (s : State) : State :=
  if k % 2 = 0 then s.setCellBit R.CMP_OVTRIP0 R.CMP_OVTRIP1 (k / 2) true
  else s.setCellBit R.CMP_UVTRIP0 R.CMP_UVTRIP1 (k / 2) true

/-- After the mark of a trip only other units act, and source 0x05 is raised. -/
theorem comparatorTrip_spec (k : Nat) (s : State) :
    CmpKept (tripMarked k s) (comparatorTrip k s) ∧ Raised 0x05 islSSV (comparatorTrip k s) := by
  unfold comparatorTrip
  extract_lets n s1 s2 s3 stao s4
  have hraised : Raised 0x05 islSSV (s1.raise 0x05 islSSV 0) := s1.raise_bit 0x05 islSSV 0 (by decide)
  have h2 : CmpKept (s1.raise 0x05 islSSV 0) s2 :=
    (toneDrop_cmpKept _).trans (.of_regs (sendUp_cmp ..) (sendUp_regs ..))
  have h3 : CmpKept s2 s3 := by
    refine CmpKept.trans ?_ (capFireAll_cmpKept ..)
    split
    · exact .of_regs rfl rfl
    · exact .refl s2
  have h4 : CmpKept s3 s4 := by
    unfold s4
    split
    · exact .of_regs rfl rfl
    · exact .refl s3
  have hafter := h2.trans <| h3.trans <| h4.trans <|
    (CmpKept.of_regs (ssvWithdraw_cmp ..) (ssvWithdraw_regs 0x01 0x01 s4)).trans (fireTrigger_cmpKept 2 n _)
  exact ⟨(raise_cmpKept s1).trans hafter, hafter.fault hraised⟩

/-! ## One tick of a filter (R126) -/

/-- The count of comparator `k` after the tick. -/
def nextCount (cells : List Int) (k : Nat) (s : State) : Nat :=
  if cmpEnabled s k = false then 0
  else if asserted s k (cells.getD (k / 2 - 1) 0) (Smap.get (fun _ => false) s.cmp.asserted k) = true then
    min (filterLimit s k) (Smap.get (fun _ => 0) s.cmp.count k + 1)
  else min (filterLimit s k) (Smap.get (fun _ => 0) s.cmp.count k) - 1

/-- Its filtered state after the tick. -/
def nextFiltered (cells : List Int) (k : Nat) (s : State) : Bool :=
  cmpEnabled s k && (if nextCount cells k s = filterLimit s k then true
    else if nextCount cells k s = 0 then false else s.filtered k)

/-- Its record has been brought up to date. -/
def filterCounted (cells : List Int) (k : Nat) (s : State) : State :=
  { s with cmp := { s.cmp with
    asserted := Smap.set (fun _ => false) s.cmp.asserted k
      (asserted s k (cells.getD (k / 2 - 1) 0) (Smap.get (fun _ => false) s.cmp.asserted k))
    count := Smap.set (fun _ => 0) s.cmp.count k (nextCount cells k s) } }

/-- So has its filtered state. -/
def filterShown (cells : List Int) (k : Nat) (s : State) : State :=
  if nextFiltered cells k s = s.filtered k then filterCounted cells k s
  else (filterCounted cells k s).setFiltered k (nextFiltered cells k s)

theorem filterTick_eq (cells : List Int) {k : Nat} {s : State} (h : s.cmp.test ≠ some k) :
    filterTick cells k s =
      if nextFiltered cells k s = true ∧ s.filtered k = false then comparatorTrip k (filterShown cells k s)
      else filterShown cells k s := by
  have hcount : (if (!cmpEnabled s k) = true then 0
      else if asserted s k (cells.getD (k / 2 - 1) 0) (Smap.get (fun _ => false) s.cmp.asserted k) = true then
        min (filterLimit s k) (Smap.get (fun _ => 0) s.cmp.count k + 1)
      else min (filterLimit s k) (Smap.get (fun _ => 0) s.cmp.count k) - 1) = nextCount cells k s := by
    simp only [nextCount, Bool.not_eq_true']
  have hfiltered : (!s.filtered k) = true ↔ s.filtered k = false := by simp
  simp only [filterTick, if_neg h, hcount, ← hfiltered]
  rfl

theorem State.setFiltered_cmp (s : State) (k : Nat) (b : Bool) : (s.setFiltered k b).cmp = s.cmp := by
  unfold State.setFiltered State.setCellBit
  split <;> split <;> rfl

theorem filterShown_cmp (cells : List Int) (k : Nat) (s : State) :
    (filterShown cells k s).cmp = (filterCounted cells k s).cmp := by
  unfold filterShown
  split
  · rfl
  · exact State.setFiltered_cmp ..

theorem tripMarked_cmp (k : Nat) (s : State) : (tripMarked k s).cmp = s.cmp := by
  unfold tripMarked State.setCellBit
  split <;> split <;> rfl

/-- The record of a tick, whether the comparator trips or not. -/
theorem filterTick_cmp (cells : List Int) {k : Nat} {s : State} (h : s.cmp.test ≠ some k) :
    (filterTick cells k s).cmp = (filterCounted cells k s).cmp := by
  rw [filterTick_eq cells h]
  split
  · obtain ⟨hkept, -⟩ := comparatorTrip_spec k (filterShown cells k s)
    exact hkept.cmp.trans ((tripMarked_cmp ..).trans (filterShown_cmp ..))
  · exact filterShown_cmp ..

theorem filterTick_count (cells : List Int) {k : Nat} {s : State} (h : s.cmp.test ≠ some k) :
    Smap.get (fun _ => 0) (filterTick cells k s).cmp.count k = nextCount cells k s := by
  rw [filterTick_cmp cells h]
  exact Smap.get_set_same (fun _ => 0) s.cmp.count k _

/-- An enabled comparator whose asserted input fills the filter trips (R127). -/
theorem filterTick_trips {cells : List Int} {k : Nat} {s : State} (htest : s.cmp.test ≠ some k) (hen : cmpEnabled s k = true)
    (hclear : s.filtered k = false)
    (hin : asserted s k (cells.getD (k / 2 - 1) 0) (Smap.get (fun _ => false) s.cmp.asserted k) = true)
    (hfull : filterLimit s k ≤ Smap.get (fun _ => 0) s.cmp.count k + 1) :
    filterTick cells k s = comparatorTrip k (filterShown cells k s) := by
  have hcount : nextCount cells k s = filterLimit s k := by
    rw [nextCount, if_neg (by simp [hen]), if_pos hin, Nat.min_eq_left hfull]
  rw [filterTick_eq cells htest, if_pos ⟨by simp [nextFiltered, hen, hcount], hclear⟩]

/-! ## The tick of one comparator keeps the others (R126) -/

/-- The filtered states and the TRIP bits. -/
def filterRegs : List Nat :=
  [R.CMP_OVST0, R.CMP_OVST1, R.CMP_UVST0, R.CMP_UVST1, R.CMP_OVTRIP0, R.CMP_OVTRIP1, R.CMP_UVTRIP0, R.CMP_UVTRIP1]

/-- Between `s` and `t` other comparators ticked: comparator `k`'s record and filtered state and every comparator's
configuration are as before, and what is tripped or raised stays so. -/
structure FilterKept (k : Nat) (s t : State) : Prop where
  count : Smap.get (fun _ => 0) t.cmp.count k = Smap.get (fun _ => 0) s.cmp.count k
  asserted : Smap.get (fun _ => false) t.cmp.asserted k = Smap.get (fun _ => false) s.cmp.asserted k
  test : t.cmp.test = s.cmp.test
  config : ∀ a, 0x030000 ≤ a → a < 0x040000 → a ∉ filterRegs → t.reg a = s.reg a
  filtered : t.filtered k = s.filtered k
  trip : s.cellBit R.CMP_OVTRIP0 R.CMP_OVTRIP1 (k / 2) = true → t.cellBit R.CMP_OVTRIP0 R.CMP_OVTRIP1 (k / 2) = true
  fault : Raised 0x05 islSSV s → Raised 0x05 islSSV t

theorem FilterKept.refl (k : Nat) (s : State) : FilterKept k s s := ⟨rfl, rfl, rfl, fun _ _ _ _ => rfl, rfl, id, id⟩

theorem FilterKept.trans {k : Nat} {s t u : State} (h : FilterKept k s t) (h' : FilterKept k t u) : FilterKept k s u :=
  ⟨h'.count.trans h.count, h'.asserted.trans h.asserted, h'.test.trans h.test,
    fun a hlo hhi ha => (h'.config a hlo hhi ha).trans (h.config a hlo hhi ha), h'.filtered.trans h.filtered,
    h'.trip ∘ h.trip, h'.fault ∘ h.fault⟩

theorem State.filtered_congr {s t : State} (h : ∀ a ∈ filterRegs, t.reg a = s.reg a) (k : Nat) :
    t.filtered k = s.filtered k := by
  unfold State.filtered State.cellBit
  rw [h R.CMP_OVST0 (by decide), h R.CMP_OVST1 (by decide), h R.CMP_UVST0 (by decide), h R.CMP_UVST1 (by decide)]

theorem CmpKept.filterKept {s t : State} (k : Nat) (h : CmpKept s t) : FilterKept k s t := by
  have hplace : ∀ a ∈ filterRegs, 0x030000 ≤ a ∧ a < 0x040000 := by decide
  have hregs : ∀ a ∈ filterRegs, t.reg a = s.reg a := fun a ha => h.regs a (hplace a ha).1 (hplace a ha).2
  refine ⟨by rw [h.cmp], by rw [h.cmp], by rw [h.cmp], fun a hlo hhi _ => h.regs a hlo hhi, State.filtered_congr hregs k,
    fun ht => ?_, h.fault⟩
  unfold State.cellBit at ht ⊢
  rwa [hregs R.CMP_OVTRIP0 (by decide), hregs R.CMP_OVTRIP1 (by decide)]

theorem filterCounted_kept (cells : List Int) {j k : Nat} (h : k ≠ j) (s : State) :
    FilterKept k s (filterCounted cells j s) :=
  ⟨Smap.get_set_ne (fun _ => 0) s.cmp.count _ h, Smap.get_set_ne (fun _ => false) s.cmp.asserted _ h, rfl,
    fun _ _ _ _ => rfl, rfl, id, id⟩

/-- A write of registers of the comparators' block that are no configuration leaves the record and the faults. -/
theorem FilterKept.of_sameRegs {k : Nat} {l : List Nat} {s t : State} (hcmp : t.cmp = s.cmp) (h : SameRegs l s t)
    (hl : ∀ a ∈ l, a ∈ filterRegs) (hfiltered : t.filtered k = s.filtered k)
    (htrip : s.cellBit R.CMP_OVTRIP0 R.CMP_OVTRIP1 (k / 2) = true → t.cellBit R.CMP_OVTRIP0 R.CMP_OVTRIP1 (k / 2) = true) :
    FilterKept k s t :=
  ⟨by rw [hcmp], by rw [hcmp], by rw [hcmp], fun a _ _ ha => h a fun hm => ha (hl a hm), hfiltered, htrip,
    fun hr => hr.of_regs h fun hm => absurd (hl _ hm) (by decide)⟩

/-- A comparator of the 96 (R125). -/
abbrev IsComparator (k : Nat) : Prop := 2 ≤ k ∧ k < 98

theorem setFiltered_kept {j k : Nat} (hj : IsComparator j) (hk : IsComparator k) (h : k ≠ j) (b : Bool) (s : State) :
    FilterKept k s (s.setFiltered j b) := by
  obtain ⟨hjlo, hjhi⟩ := hj
  obtain ⟨hklo, hkhi⟩ := hk
  have hcmp := s.setFiltered_cmp j b
  unfold State.setFiltered at hcmp ⊢
  split
  case isTrue hover =>
    rw [if_pos hover] at hcmp
    have hregs := s.setCellBit_sameRegs R.CMP_OVST0 R.CMP_OVST1 (j / 2) b
    refine .of_sameRegs hcmp hregs (by decide) ?_ fun ht => ?_
    · unfold State.filtered
      split
      · exact s.setCellBit_ne b (by decide) (by omega) (by omega) (by omega)
      · exact State.cellBit_of_sameRegs hregs (by decide) (by decide) _
    · rwa [State.cellBit_of_sameRegs hregs (by decide) (by decide)]
  case isFalse hunder =>
    rw [if_neg hunder] at hcmp
    have hregs := s.setCellBit_sameRegs R.CMP_UVST0 R.CMP_UVST1 (j / 2) b
    refine .of_sameRegs hcmp hregs (by decide) ?_ fun ht => ?_
    · unfold State.filtered
      split
      · exact State.cellBit_of_sameRegs hregs (by decide) (by decide) _
      · exact s.setCellBit_ne b (by decide) (by omega) (by omega) (by omega)
    · rwa [State.cellBit_of_sameRegs hregs (by decide) (by decide)]

/-- A TRIP bit that is set stays set when another is set too. -/
theorem State.setCellBit_stays {a0 a1 n m : Nat} {s : State} (ha : a0 ≠ a1) (hn : 1 ≤ n ∧ n ≤ 48) (hm : 1 ≤ m ∧ m ≤ 48)
    (h : s.cellBit a0 a1 m = true) : (s.setCellBit a0 a1 n true).cellBit a0 a1 m = true := by
  by_cases he : m = n
  · rw [he]
    exact s.setCellBit_bit a0 a1 hn.2
  · rwa [s.setCellBit_ne true ha hn.1 (by omega) he]

theorem tripMarked_kept {j k : Nat} (hj : IsComparator j) (hk : IsComparator k) (s : State) :
    FilterKept k s (tripMarked j s) := by
  obtain ⟨hjlo, hjhi⟩ := hj
  obtain ⟨hklo, hkhi⟩ := hk
  have hcmp := tripMarked_cmp j s
  unfold tripMarked at hcmp ⊢
  split
  case isTrue hover =>
    rw [if_pos hover] at hcmp
    have hregs := s.setCellBit_sameRegs R.CMP_OVTRIP0 R.CMP_OVTRIP1 (j / 2) true
    refine .of_sameRegs hcmp hregs (by decide) ?_ (State.setCellBit_stays (by decide) (by omega) (by omega))
    unfold State.filtered
    rw [State.cellBit_of_sameRegs hregs (by decide) (by decide), State.cellBit_of_sameRegs hregs (by decide) (by decide)]
  case isFalse hunder =>
    rw [if_neg hunder] at hcmp
    have hregs := s.setCellBit_sameRegs R.CMP_UVTRIP0 R.CMP_UVTRIP1 (j / 2) true
    refine .of_sameRegs hcmp hregs (by decide) ?_ fun ht => ?_
    · unfold State.filtered
      rw [State.cellBit_of_sameRegs hregs (by decide) (by decide), State.cellBit_of_sameRegs hregs (by decide) (by decide)]
    · rwa [State.cellBit_of_sameRegs hregs (by decide) (by decide)]

theorem filterTick_kept (cells : List Int) {j k : Nat} (hj : IsComparator j) (hk : IsComparator k) (h : k ≠ j) (s : State) :
    FilterKept k s (filterTick cells j s) := by
  by_cases htest : s.cmp.test = some j
  · rw [filterTick, if_pos htest]
    exact .refl k s
  · have hshown : FilterKept k s (filterShown cells j s) := by
      unfold filterShown
      split
      · exact filterCounted_kept cells h s
      · exact (filterCounted_kept cells h s).trans (setFiltered_kept hj hk h _ _)
    rw [filterTick_eq cells htest]
    split
    · obtain ⟨hkept, -⟩ := comparatorTrip_spec j (filterShown cells j s)
      exact hshown.trans ((tripMarked_kept hj hk _).trans (hkept.filterKept k))
    · exact hshown

/-- The tick of all comparators is comparator `k`'s own between ticks that keep it. -/
theorem comparatorFilterTick_at (cells : List Int) {k : Nat} (hk : IsComparator k) (s : State) :
    ∃ u, FilterKept k s u ∧ FilterKept k (filterTick cells k u) (comparatorFilterTick cells s) := by
  have hall : ∀ j ∈ (List.range 96).map (· + 2), IsComparator j := by decide
  have hnodup : ((List.range 96).map (· + 2)).Nodup := List.nodup_range.map (fun _ _ h => Nat.add_right_cancel h)
  have hmem : k ∈ (List.range 96).map (· + 2) := List.mem_map.2 ⟨k - 2, List.mem_range.2 (by omega), by omega⟩
  unfold comparatorFilterTick
  obtain ⟨l1, l2, hlist⟩ := List.append_of_mem hmem
  rw [hlist] at hall hnodup ⊢
  obtain ⟨-, hright, hdisjoint⟩ := List.nodup_append.1 hnodup
  have hothers : ∀ (l : List Nat) (t : State), (∀ j ∈ l, k ≠ j ∧ IsComparator j) →
      FilterKept k t (l.foldl (fun t j => filterTick cells j t) t) := fun l t hl =>
    List.foldlRecOn (motive := FilterKept k t) l _ (.refl k t) fun u hu j hj =>
      hu.trans (filterTick_kept cells (hl j hj).2 hk (hl j hj).1 u)
  refine ⟨l1.foldl (fun t j => filterTick cells j t) s, hothers l1 s fun j hj => ⟨?_, hall j (by simp [hj])⟩, ?_⟩
  · exact (hdisjoint j hj k (by simp)).symm
  · rw [List.foldl_append, List.foldl_cons]
    refine hothers l2 _ fun j hj => ⟨?_, hall j (by simp [hj])⟩
    rintro rfl
    exact (List.nodup_cons.1 hright).1 hj

/-! ## What a tick reads of the configuration (R125, R126) -/

theorem FilterKept.enabled {k : Nat} {s t : State} (h : FilterKept k s t) : cmpEnabled t k = cmpEnabled s k := by
  unfold cmpEnabled State.cellBit
  rw [h.config R.CMP_OVEN0 (by decide) (by decide) (by decide), h.config R.CMP_OVEN1 (by decide) (by decide) (by decide),
    h.config R.CMP_UVEN0 (by decide) (by decide) (by decide), h.config R.CMP_UVEN1 (by decide) (by decide) (by decide)]

theorem FilterKept.ctrl {k : Nat} {s t : State} (h : FilterKept k s t) {f : Fld} (hf : f.adr = R.CMP_CTRL) :
    t.fg f = s.fg f :=
  State.fg_congr f (by rw [hf]; exact h.config R.CMP_CTRL (by decide) (by decide) (by decide))

theorem FilterKept.limit {k : Nat} {s t : State} (h : FilterKept k s t) : filterLimit t k = filterLimit s k := by
  simp only [filterLimit, h.ctrl (f := R.CMP_CTRL_OVF) rfl, h.ctrl (f := R.CMP_CTRL_UVF) rfl]

theorem FilterKept.thr {k : Nat} {s t : State} (h : FilterKept k s t) (hk : IsComparator k) {f : Fld}
    (hf : f.adr = R.CMP_THR (k / 2)) : t.fg f = s.fg f := by
  have hlow : ∀ a ∈ filterRegs, a < 0x030100 := by decide
  refine State.fg_congr f (h.config f.adr ?_ ?_ fun hm => ?_)
  · rw [hf, R.CMP_THR]; omega
  · rw [hf, R.CMP_THR]; omega
  · have := hlow _ hm
    rw [hf, R.CMP_THR] at this
    omega

theorem FilterKept.compares {k : Nat} {s t : State} (h : FilterKept k s t) (hk : IsComparator k) (uv : Int) (was : Bool) :
    Machine.asserted t k uv was = Machine.asserted s k uv was := by
  simp only [Machine.asserted, h.ctrl (f := R.CMP_CTRL_OVHYS) rfl, h.ctrl (f := R.CMP_CTRL_UVHYS) rfl,
    h.thr hk (f := R.CMP_THR_OVT (k / 2)) rfl, h.thr hk (f := R.CMP_THR_UVT (k / 2)) rfl]

theorem FilterKept.nextCount {k : Nat} {s t : State} (h : FilterKept k s t) (hk : IsComparator k) (cells : List Int) :
    Machine.nextCount cells k t = Machine.nextCount cells k s := by
  simp only [Machine.nextCount, h.enabled, h.limit, h.compares hk, h.count, h.asserted]

/-! ## The tick of all comparators (R126, R127) -/

theorem comparatorFilterTick_count (cells : List Int) {k : Nat} {s : State} (hk : IsComparator k) (h : s.cmp.test ≠ some k) :
    Smap.get (fun _ => 0) (comparatorFilterTick cells s).cmp.count k = nextCount cells k s := by
  obtain ⟨u, hbefore, hafter⟩ := comparatorFilterTick_at cells hk s
  rw [hafter.count, filterTick_count cells (hbefore.test ▸ h), hbefore.nextCount hk]

theorem comparatorFilterTick_trips {cells : List Int} {k : Nat} {s : State} (hk : IsComparator k) (hover : k % 2 = 0)
    (htest : s.cmp.test ≠ some k) (hen : cmpEnabled s k = true) (hclear : s.filtered k = false)
    (hin : asserted s k (cells.getD (k / 2 - 1) 0) (Smap.get (fun _ => false) s.cmp.asserted k) = true)
    (hfull : filterLimit s k ≤ Smap.get (fun _ => 0) s.cmp.count k + 1) :
    (comparatorFilterTick cells s).cellBit R.CMP_OVTRIP0 R.CMP_OVTRIP1 (k / 2) = true ∧
      Raised 0x05 islSSV (comparatorFilterTick cells s) := by
  obtain ⟨u, hbefore, hafter⟩ := comparatorFilterTick_at cells hk s
  have htrips : filterTick cells k u = comparatorTrip k (filterShown cells k u) :=
    filterTick_trips (hbefore.test ▸ htest) (hbefore.enabled.trans hen) (hbefore.filtered.trans hclear)
      (by rw [hbefore.compares hk, hbefore.asserted]; exact hin) (by rw [hbefore.limit, hbefore.count]; exact hfull)
  obtain ⟨hkept, hraised⟩ := comparatorTrip_spec k (filterShown cells k u)
  have hmarked : (tripMarked k (filterShown cells k u)).cellBit R.CMP_OVTRIP0 R.CMP_OVTRIP1 (k / 2) = true := by
    rw [tripMarked, if_pos hover]
    exact State.setCellBit_bit _ _ _ (by omega)
  rw [htrips] at hafter
  exact ⟨hafter.trip ((hkept.filterKept k).trip hmarked), hafter.fault hraised⟩

/-! ## The test (R129) -/

theorem dacTouched_frame (k : Nat) (s : State) : ∃ w, dacTouched k s = { s with swp := w } := by
  unfold dacTouched
  split
  · exact ⟨_, rfl⟩
  · exact ⟨_, rfl⟩

/-- The test's result is `r` and comparator `t` is under test. -/
def cmpTested (r : Nat) (t : Option Nat) (at_ : Nat) (s : State) : State :=
  { s.fs R.CMP_TEST_RESULT r with cmp := { s.cmp with test := t, testAt := at_ } }

theorem dacTouched_cmpTested (k r : Nat) (t : Option Nat) (at_ : Nat) (s : State) :
    (dacTouched k (cmpTested r t at_ s)).fg R.CMP_TEST_RESULT = r % 4 ∧
      (dacTouched k (cmpTested r t at_ s)).cmp.test = t ∧ SameRegs [R.CMP_TEST] s (dacTouched k (cmpTested r t at_ s)) := by
  obtain ⟨w, hframe⟩ := dacTouched_frame k (cmpTested r t at_ s)
  rw [hframe]
  exact ⟨s.fg_fs_same R.CMP_TEST_RESULT r (by decide), rfl, s.fs_sameRegs R.CMP_TEST_RESULT r (by decide)⟩

theorem cmpTestWrite_go {v : Word} {s : State} (hgo : wf v R.CMP_TEST_GO = 1) (hlow : 1 ≤ wf v R.CMP_TEST_CELL)
    (hhigh : wf v R.CMP_TEST_CELL ≤ 48) (hfree : s.fg R.CMP_TEST_RESULT ≠ 1) (hrun : s.ssv.run = false) :
    cmpTestWrite v s = (.ok, dacTouched (2 * wf v R.CMP_TEST_CELL + wf v R.CMP_TEST_KIND)
      (cmpTested 1 (some (2 * wf v R.CMP_TEST_CELL + wf v R.CMP_TEST_KIND)) s.lt s)) := by
  have hnamed : wf v R.CMP_TEST_CELL ≠ 0 := by omega
  simp [cmpTestWrite, hgo, hnamed, Nat.not_lt.2 hhigh, hfree, hrun, cmpTested]

theorem comparatorTestDone_eq {rose fell : Bool} {k : Nat} {s : State} (h : s.cmp.test = some k) :
    comparatorTestDone rose fell s =
      dacTouched k (cmpTested (if (rose && fell) = true then 2 else 3) none s.cmp.testAt s) := by
  simp only [comparatorTestDone, h]
  rfl

/-- Settles O10: a case for each command, by the rule of its own. -/
theorem comparatorCommandsTakeEffect : Obligations.ComparatorCommandsTakeEffect := by
  refine ⟨?count, ?trip, ?test, ?done⟩
  case count =>
    intro cells k s hlo hhi htest
    exact Does.of_rule (f := comparatorFilterTick cells) rfl (fun _ h => h)
      (comparatorFilterTick_count cells ⟨hlo, hhi⟩ htest)
  case trip =>
    intro cells n s hlo hhi htest hen hclear hin hfull
    have hcell : 2 * n / 2 = n := by omega
    have htrips := comparatorFilterTick_trips (cells := cells) (k := 2 * n) (by omega) (by omega) htest hen hclear
      (by rw [hcell]; exact hin) hfull
    rw [hcell] at htrips
    exact Does.of_rule (f := comparatorFilterTick cells) rfl (fun _ h => h) htrips
  case test =>
    intro v s hok hgo hlow hhigh hfree hrun
    obtain ⟨hresult, htest, hothers⟩ := dacTouched_cmpTested (2 * wf v R.CMP_TEST_CELL + wf v R.CMP_TEST_KIND) 1
      (some (2 * wf v R.CMP_TEST_CELL + wf v R.CMP_TEST_KIND)) s.lt s
    refine Does.of_rule (f := direct R.CMP_TEST v cmpTestWrite) rfl (fun _ h => h) ?_
    rw [direct_of_none hok, cmpTestWrite_go hgo hlow hhigh hfree hrun]
    exact ⟨hresult, htest, State.done_lastOut .., hothers⟩
  case done =>
    intro rose fell k s htest
    obtain ⟨hresult, hfree, hothers⟩ :=
      dacTouched_cmpTested k (if (rose && fell) = true then 2 else 3) none s.cmp.testAt s
    refine Does.of_rule (f := comparatorTestDone rose fell) rfl (fun _ h => h) ?_
    rw [comparatorTestDone_eq htest]
    exact ⟨hresult.trans (Nat.mod_eq_of_lt (by split <;> decide)), hfree, hothers⟩

end Sys2Proof.Machine

/-! # Bleed switches that are brought up to date (R144 to R149, R160) -/

namespace Sys2Proof.Machine

/-! ## The switches' bits -/

/-- The number of a cell. -/
abbrev IsCell (n : Nat) : Prop := 1 ≤ n ∧ n ≤ 48

theorem mem_cells_iff {n : Nat} : n ∈ cells ↔ IsCell n := by
  simp only [cells, upTo, List.mem_map, List.mem_range]
  exact ⟨by omega, fun ⟨hlo, hhi⟩ => ⟨n - 1, by omega, by omega⟩⟩

theorem isCell_cellOf (c : Fin 48) : IsCell (cellOf c) := by
  unfold cellOf
  omega

theorem testBit_setBit_clear (n i : Nat) : (setBit n i false).testBit i = false := by
  simp only [setBit, Bool.false_eq_true, if_false]
  split
  case isTrue h =>
    obtain ⟨m, rfl⟩ := Nat.exists_eq_add_of_le (Nat.ge_two_pow_of_testBit h)
    rw [Nat.add_sub_cancel_left]
    rwa [Nat.testBit_two_pow_add_eq, Bool.not_eq_true'] at h
  case isFalse h => exact Bool.eq_false_iff.2 h

theorem State.setCellBit_clears (s : State) (a0 a1 n : Nat) : (s.setCellBit a0 a1 n false).cellBit a0 a1 n = false := by
  have hword : ∀ v i, (w32 (setBit v i false)).toNat.testBit i = false := fun v i => by
    rw [w32, BitVec.toNat_ofNat, Nat.testBit_mod_two_pow, testBit_setBit_clear, Bool.and_false]
  unfold State.setCellBit State.cellBit
  split
  · rw [State.reg_setReg_same, hword]
  · rw [State.reg_setReg_same, hword]

theorem State.bOn_setCellBit (s : State) {n m : Nat} (hn : IsCell n) (hm : IsCell m) (b : Bool) :
    (s.setCellBit R.BAL_ON0 R.BAL_ON1 m b).bOn n = if n = m then b else s.bOn n := by
  by_cases h : n = m
  · rw [if_pos h, h]
    cases b with
    | true => exact s.setCellBit_bit _ _ hm.2
    | false => exact s.setCellBit_clears _ _ m
  · rw [if_neg h]
    exact s.setCellBit_ne b (by decide) hm.1 (by omega) h

/-! ## What the counting of closed time and the moves of switches keep -/

/-- The pattern generator but for the tallies of its cells: which cells it drives and how deep stays, with the run. -/
def Tallied (x y : Exc) : Prop :=
  ∃ cs, y = { x with cells := cs } ∧ (cs.map fun c => (c.1, c.2.m)) = x.cells.map fun c => (c.1, c.2.m)

theorem Tallied.refl (x : Exc) : Tallied x x := ⟨x.cells, rfl, rfl⟩

theorem Tallied.trans {x y z : Exc} (h : Tallied x y) (h' : Tallied y z) : Tallied x z := by
  obtain ⟨cs, rfl, hcs⟩ := h
  obtain ⟨cs', rfl, hcs'⟩ := h'
  exact ⟨cs', rfl, hcs'.trans hcs⟩

theorem Tallied.excited {s t : State} (h : Tallied s.exc t.exc) : t.excited = s.excited := by
  obtain ⟨cs, hexc, hcs⟩ := h
  have := congrArg (List.map Prod.fst) hcs
  rw [List.map_map, List.map_map] at this
  rw [State.excited, hexc]
  exact this

theorem Tallied.retAt {x y : Exc} (h : Tallied x y) : y.retAt = x.retAt := by
  obtain ⟨cs, rfl, -⟩ := h
  rfl

/-- Between `s` and `t` bleed switches moved or their closed time was counted: the requests' times, the scheduler's choice,
the switches that follow the pattern and the run of the pattern generator stay. -/
structure Moving (s t : State) : Prop where
  bleeds : Bleeds s t
  regs : SameRegs balMovedRegs s t
  time : ∀ n, t.fg (R.BAL_TMR_TIME n) = s.fg (R.BAL_TMR_TIME n)
  sched : t.bal.sched = s.bal.sched
  driven : t.bal.driven = s.bal.driven
  tick : t.bal.tick = s.bal.tick
  asleep : t.bal.asleep = s.bal.asleep
  exc : Tallied s.exc t.exc

theorem Moving.refl (s : State) : Moving s s :=
  ⟨.refl s, .refl _ s, fun _ => rfl, rfl, rfl, rfl, rfl, .refl _⟩

theorem Moving.trans {s t u : State} (h : Moving s t) (h' : Moving t u) : Moving s u :=
  ⟨h.bleeds.trans h'.bleeds, h.regs.trans h'.regs, fun n => (h'.time n).trans (h.time n), h'.sched.trans h.sched,
    h'.driven.trans h.driven, h'.tick.trans h.tick, h'.asleep.trans h.asleep, h.exc.trans h'.exc⟩

theorem Moving.foldl {α : Type} (l : List α) (f : State → α → State) (s : State) (h : ∀ t, ∀ a ∈ l, Moving t (f t a)) :
    Moving s (l.foldl f s) :=
  List.foldlRecOn (motive := Moving s) l f (.refl s) fun t ht a ha => ht.trans (h t a ha)

/-- A change of the records of closed time, of openings and of messages. -/
theorem Moving.of_bal (s : State) (b : Bal) (hsched : b.sched = s.bal.sched) (hdriven : b.driven = s.bal.driven)
    (htick : b.tick = s.bal.tick) (hasleep : b.asleep = s.bal.asleep) : Moving s { s with bal := b } :=
  ⟨.of_records s b _ _, .of_regs rfl, fun _ => rfl, hsched, hdriven, htick, hasleep, .refl _⟩

theorem setAcc_moving (s : State) (n v : Nat) : Moving s (s.setAcc n v) := .of_bal s _ rfl rfl rfl rfl

theorem noteOpen_moving (n p : Nat) (s : State) : Moving s (noteOpen n p s) := .of_bal s _ rfl rfl rfl rfl

theorem excTally_depth (b : Nat) (s : State) (nc : Nat × ExcCell) : (excTally b s nc).1.m = nc.2.m := by
  unfold excTally
  extract_lets held r
  have hr : r.1.m = nc.2.m :=
    List.foldlRecOn (motive := fun t : ExcCell × Nat × Nat × Nat => t.1.m = nc.2.m) _ _ rfl fun _ ht _ _ => ht
  exact hr

theorem excCredit_tallied (e : Nat) (s : State) : Tallied s.exc (excCredit e s).exc := by
  unfold excCredit
  extract_lets b r s1
  have h1 : s1.exc = s.exc := List.foldlRecOn (motive := fun t : State => t.exc = s.exc) r _ rfl fun _ ht _ _ => ht
  refine ⟨r.map fun x => (x.1, x.2.1), by rw [← h1], ?_⟩
  simp only [r, List.map_map]
  exact List.map_congr_left fun nc _ => congrArg (Prod.mk nc.1) (excTally_depth b s nc)

theorem excCredit_bal (e : Nat) (s : State) : ∃ a, (excCredit e s).bal = { s.bal with acc := a } := by
  unfold excCredit
  extract_lets b r s1
  refine List.foldlRecOn (motive := fun t : State => ∃ a, t.bal = { s.bal with acc := a }) r _ ⟨_, rfl⟩ fun t ht x _ => ?_
  obtain ⟨a, ha⟩ := ht
  exact ⟨_, by rw [State.setAcc, ha]⟩

theorem excCredit_moving (e : Nat) (s : State) : Moving s (excCredit e s) := by
  obtain ⟨a, hbal⟩ := excCredit_bal e s
  have hregs := excCredit_regs e s
  exact ⟨excCredit_bleeds e s, .of_regs hregs, fun _ => State.fg_congr _ (State.reg_congr hregs _), by rw [hbal],
    by rw [hbal], by rw [hbal], by rw [hbal], excCredit_tallied e s⟩

theorem accrue_moving (n : Nat) (s : State) : Moving s (accrue n s) := by
  unfold accrue
  split
  · split
    · exact excCredit_moving _ s
    · exact .refl s
  · refine Moving.trans ?_ (setAcc_moving ..)
    exact .of_bal s _ rfl rfl rfl rfl

theorem setCellBit_on_moving (s : State) (n : Nat) (b : Bool) : Moving s (s.setCellBit R.BAL_ON0 R.BAL_ON1 n b) := by
  have hregs := setCellBit_onRegs s n b
  have hrec : ∃ rg, s.setCellBit R.BAL_ON0 R.BAL_ON1 n b = { s with regs := rg } := by
    unfold State.setCellBit
    split
    · exact ⟨_, rfl⟩
    · exact ⟨_, rfl⟩
  have hbleeds := setCellBit_bal_on s n b
  have htime : ∀ m, (R.BAL_TMR_TIME m).adr ∉ balOnRegs := fun m => by
    simp only [balOnRegs, R.BAL_TMR_TIME, R.BAL_ON0, R.BAL_ON1, List.mem_cons, List.not_mem_nil, or_false]
    omega
  obtain ⟨rg, hframe⟩ := hrec
  refine ⟨hbleeds, hregs.mono fun a ha => List.mem_append_right _ ha, fun m => State.fg_congr _ (hregs _ (htime m)),
    ?_, ?_, ?_, ?_, ?_⟩ <;> rw [hframe]
  exact .refl _

theorem bleedMessage_moving (n : Nat) (on_ : Bool) (e : Nat) (s : State) : Moving s (bleedMessage n on_ e s) := by
  have hregs := bleedMessage_regs n on_ e s
  have hbal : (bleedMessage n on_ e s).bal = { s.bal with seq := (s.bal.seq + 1) % 16 } := sendUp_bal ..
  have hexc : (bleedMessage n on_ e s).exc = s.exc := sendUp_exc ..
  exact ⟨bleedMessage_bleeds .., .of_regs hregs, fun _ => State.fg_congr _ (State.reg_congr hregs _), by rw [hbal],
    by rw [hbal], by rw [hbal], by rw [hbal], by rw [hexc]; exact .refl _⟩

theorem balOpen_moving (n : Nat) (s : State) : Moving s (balOpen n s) := by
  refine ((accrue_moving n s).trans ?_).trans (setCellBit_on_moving _ n false)
  exact .of_bal _ _ rfl rfl rfl rfl

theorem bleedSwitch_moving (n : Nat) (on_ : Bool) (e : Nat) (s : State) : Moving s (bleedSwitch n on_ e s) := by
  unfold bleedSwitch
  split
  · extract_lets c bal1
    refine Moving.trans (Moving.trans ?_ (setCellBit_on_moving _ n true)) (bleedMessage_moving n true c _)
    exact .of_bal s _ rfl rfl rfl rfl
  · exact (balOpen_moving n s).trans ((noteOpen_moving ..).trans (bleedMessage_moving ..))

theorem leaveDriven_moving (e : Nat) (old : State) (n : Nat) (s : State) : Moving s (leaveDriven e old n s) := by
  unfold leaveDriven
  extract_lets s1
  have h1 : Moving s s1 := by
    unfold s1
    split
    · exact noteOpen_moving ..
    · exact .refl s
  split
  · exact h1
  · exact h1.trans (bleedMessage_moving ..)

/-- The requests are shown beside the times (R162). -/
theorem showRequest_moving (s : State) {n : Nat} (hn : n ∈ cells) (f : Fld) (v : Nat) (hadr : f.adr = R.BAL_TMR n)
    (hlo : 16 ≤ f.lo) (hhi : f.lo + f.w ≤ 32) : Moving s (s.fs f v) := by
  have hcell := mem_cells_iff.1 hn
  refine ⟨.fs s f v ?_, (balTmr_fs_sameRegs s hn f v hadr).mono fun a ha => List.mem_append_left _ ha, fun m => ?_, rfl, rfl,
    rfl, rfl, .refl _⟩
  · rw [hadr, R.BAL_TMR]
    omega
  · by_cases ha : (R.BAL_TMR_TIME m).adr = f.adr
    · exact s.fg_fs_disj f _ v hhi ha (.inl hlo)
    · exact s.fg_fs_ne f _ v ha

/-! ## An update of the switches -/

/-- The registers that an update of the switches changes. -/
def balShownRegs : List Nat := R.BAL_STAT :: balMovedRegs

/-- Between `s` and `t` the switches were brought up to date: the requests' times, the band, the scheduler's order and the run
of the pattern generator stay. -/
structure Switching (s t : State) : Prop where
  bleeds : Bleeds s t
  regs : SameRegs balShownRegs s t
  time : ∀ n, t.fg (R.BAL_TMR_TIME n) = s.fg (R.BAL_TMR_TIME n)
  band : t.fg R.BAL_STAT_TBAND = s.fg R.BAL_STAT_TBAND
  tick : t.bal.tick = s.bal.tick
  asleep : t.bal.asleep = s.bal.asleep
  run : ∃ cs r, t.exc = { s.exc with cells := cs, retAt := r }

theorem Switching.refl (s : State) : Switching s s :=
  ⟨.refl s, .refl _ s, fun _ => rfl, rfl, rfl, rfl, _, _, rfl⟩

theorem Switching.trans {s t u : State} (h : Switching s t) (h' : Switching t u) : Switching s u := by
  obtain ⟨cs, r, hrun⟩ := h.run
  obtain ⟨cs', r', hrun'⟩ := h'.run
  exact ⟨h.bleeds.trans h'.bleeds, h.regs.trans h'.regs, fun n => (h'.time n).trans (h.time n), h'.band.trans h.band,
    h'.tick.trans h.tick, h'.asleep.trans h.asleep, cs', r', by rw [hrun', hrun]⟩

theorem Moving.switching {s t : State} (h : Moving s t) : Switching s t := by
  obtain ⟨cs, hexc, -⟩ := h.exc
  exact ⟨h.bleeds, h.regs.mono fun a ha => List.mem_cons_of_mem _ ha, h.time, State.fg_congr _ (h.regs _ (by decide)), h.tick,
    h.asleep, cs, _, hexc⟩

theorem Bleeds.ssv {s t : State} (h : Bleeds s t) : t.ssv = s.ssv := by
  obtain ⟨-, rg, o, un, bl, ex, sv, hframe⟩ := h
  rw [hframe]

theorem Bleeds.now {s t : State} (h : Bleeds s t) : t.now = s.now := by
  obtain ⟨-, rg, o, un, bl, ex, sv, hframe⟩ := h
  rw [hframe]

theorem Bleeds.lt {s t : State} (h : Bleeds s t) : t.lt = s.lt := by
  obtain ⟨-, rg, o, un, bl, ex, sv, hframe⟩ := h
  rw [hframe]

/-- A field of BAL_STAT that only an update of the switches writes. -/
theorem showStat_switching (s : State) (f : Fld) (v : Nat) (hadr : f.adr = R.BAL_STAT) (hlo : 4 ≤ f.lo) (hhi : f.lo + f.w ≤ 32) :
    Switching s (s.fs f v) := by
  refine ⟨.fs s f v (by rw [hadr]; decide), s.fs_sameRegs f v (by rw [hadr]; exact List.mem_cons_self), fun n => ?_, ?_, rfl,
    rfl, _, _, rfl⟩
  · refine s.fg_fs_ne f _ v ?_
    rw [hadr]
    simp only [R.BAL_TMR_TIME, R.BAL_STAT]
    omega
  · exact s.fg_fs_disj f R.BAL_STAT_TBAND v hhi hadr.symm (.inl hlo)

/-- Neither row 1 nor row 2 of R160 holds switch `n` open. -/
def Free (s : State) (n : Nat) : Prop := heldOpen s n = false ∧ s.bSws (n - 1) = false ∧ s.bSws (n + 1) = false

theorem forceSources_congr {l : List Nat} {s t : State} (h : SameRegs l s t) (hssv : t.ssv = s.ssv)
    (hl : ∀ a ∈ [R.CMP_UVTRIP0, R.CMP_UVEN0, R.CMP_UVTRIP1, R.CMP_UVEN1, R.SWC_DIAG], a ∉ l) :
    forceSources t = forceSources s := by
  simp only [List.forall_mem_cons] at hl
  obtain ⟨h0, h1, h2, h3, h4, -⟩ := hl
  simp only [forceSources, h _ h0, h _ h1, h _ h2, h _ h3, hssv, State.fb, State.fg_congr R.SWC_DIAG_LOST (h R.SWC_DIAG h4)]

theorem forced_congr {l : List Nat} {s t : State} (h : SameRegs l s t) (hssv : t.ssv = s.ssv)
    (hl : ∀ a ∈ [R.CMP_UVTRIP0, R.CMP_UVEN0, R.CMP_UVTRIP1, R.CMP_UVEN1, R.SWC_DIAG], a ∉ l) (hforce : R.BAL_FORCE ∉ l) :
    forced t = forced s := by
  rw [forced, forced, forceSources_congr h hssv hl, State.fg_congr R.BAL_FORCE_SRC (h _ hforce)]

theorem bSws_congr {s t : State} (h : SameRegs balShownRegs s t) (n : Nat) : t.bSws n = s.bSws n := by
  simp only [State.bSws, State.cellBit_of_sameRegs h (a0 := R.BAL_SWS0) (a1 := R.BAL_SWS1) (by decide) (by decide)]

theorem heldOpen_congr {s t : State} (h : SameRegs balShownRegs s t) (hssv : t.ssv = s.ssv) (n : Nat) :
    heldOpen t n = heldOpen s n := by
  simp only [heldOpen, State.bEn, State.bOc, State.bSwo, forced_congr h hssv (by decide) (by decide),
    State.cellBit_of_sameRegs h (a0 := R.BAL_CELLEN0) (a1 := R.BAL_CELLEN1) (by decide) (by decide),
    State.cellBit_of_sameRegs h (a0 := R.BAL_OC0) (a1 := R.BAL_OC1) (by decide) (by decide),
    State.cellBit_of_sameRegs h (a0 := R.BAL_SWO0) (a1 := R.BAL_SWO1) (by decide) (by decide)]

theorem Switching.free {s t : State} (h : Switching s t) {n : Nat} (hfree : Free t n) : Free s n := by
  obtain ⟨hheld, hbelow, habove⟩ := hfree
  exact ⟨heldOpen_congr h.regs h.bleeds.ssv n ▸ hheld, bSws_congr h.regs _ ▸ hbelow, bSws_congr h.regs _ ▸ habove⟩

theorem free_of_excDriven {s : State} {n : Nat} (h : excDriven s n = true) : Free s n := by
  simp only [excDriven, Bool.and_eq_true, Bool.not_eq_true'] at h
  obtain ⟨⟨⟨-, hheld⟩, hbelow⟩, habove⟩ := h
  exact ⟨hheld, hbelow, habove⟩

theorem free_of_balClosed {s : State} {n : Nat} (h : balClosed s n = true) : Free s n ∧ n ∈ s.bal.sched := by
  simp only [balClosed, Bool.and_eq_true, Bool.not_eq_true', List.contains_iff_mem] at h
  obtain ⟨⟨⟨⟨hheld, hbelow⟩, habove⟩, hsched⟩, -⟩ := h
  exact ⟨⟨hheld, hbelow, habove⟩, hsched⟩

theorem bleedSwitch_bOn {n m : Nat} (hn : IsCell n) (hm : IsCell m) (b : Bool) (e : Nat) (s : State) :
    (bleedSwitch m b e s).bOn n = if n = m then b else s.bOn n := by
  have hmsg : ∀ (e' : Nat) (t : State), (bleedMessage m b e' t).bOn n = t.bOn n := fun e' t =>
    State.cellBit_congr (bleedMessage_regs m b e' t) _ _ _
  cases b with
  | true =>
    rw [bleedSwitch, if_pos rfl, hmsg, State.bOn_setCellBit _ hn hm]
    rfl
  | false =>
    rw [bleedSwitch, if_neg Bool.false_ne_true, hmsg]
    change (balOpen m s).bOn n = _
    rw [balOpen, State.bOn_setCellBit _ hn hm]
    have hon : (accrue m s).bOn n = s.bOn n := State.cellBit_congr (accrue_regs m s) _ _ _
    exact congrArg (ite (n = m) false) hon

theorem foldl_bleedSwitch_bOn {n : Nat} (hn : IsCell n) (b : Bool) (e : Nat) {l : List Nat} (hl : ∀ m ∈ l, IsCell m) (s : State) :
    (l.foldl (fun t m => bleedSwitch m b e t) s).bOn n = if n ∈ l then b else s.bOn n := by
  induction l generalizing s with
  | nil => rfl
  | cons m l ih =>
    obtain ⟨hm, hl⟩ := List.forall_mem_cons.1 hl
    rw [List.foldl_cons, ih hl, bleedSwitch_bOn hn hm]
    by_cases hnm : n = m <;> by_cases hnl : n ∈ l <;> simp [hnm, hnl]

/-- What an update of the switches of `s` leaves: the scheduler's choice, and every switch that follows the pattern or is closed
for balancing free to. -/
structure Updated (s t : State) : Prop where
  switching : Switching s t
  sched : t.bal.sched = schedule (s.fs R.BAL_STAT_CAP (capOf s))
  driven : ∀ n ∈ t.bal.driven, Free s n
  on : ∀ n, IsCell n → t.bOn n = true → Free s n ∧ n ∈ t.bal.sched
  exc : Tallied s.exc t.exc

theorem balUpdate_updated (e : Nat) (old s : State) : Updated s (balUpdate e old s) := by
  unfold balUpdate
  extract_lets s1 bal1 s2 s3 s4 lost bal4 s5 s6 opens closes s7 s8
  have h2 : Switching s s2 :=
    (showStat_switching s R.BAL_STAT_CAP _ rfl (by decide) (by decide)).trans
      ⟨.of_records s1 _ _ _, .of_regs rfl, fun _ => rfl, rfl, rfl, rfl, _, _, rfl⟩
  have h24 : Moving s2 s4 := by
    refine Moving.trans (t := s3) (.foldl cells _ s2 fun t n hn => ?_) (.foldl _ _ s3 fun t n _ => balOpen_moving n t)
    exact (showRequest_moving t hn (R.BAL_TMR_REQ n) _ rfl (Nat.le_refl 16) (Nat.le_of_ble_eq_true rfl)).trans
      (showRequest_moving _ hn (R.BAL_TMR_HELD n) _ rfl (Nat.le_of_ble_eq_true rfl) (Nat.le_of_ble_eq_true rfl))
  have h5 : Switching s s5 := (h2.trans h24.switching).trans
    ⟨.of_records s4 _ _ _, .of_regs rfl, fun _ => rfl, rfl, rfl, rfl, _, _, rfl⟩
  have h56 : Moving s5 s6 := .foldl lost _ s5 fun t n _ => leaveDriven_moving e old n t
  have h68 : Moving s6 s8 :=
    (Moving.foldl opens _ s6 fun t n _ => bleedSwitch_moving n false e t).trans
      (.foldl closes _ s7 fun t n _ => bleedSwitch_moving n true e t)
  have hdriven : ∀ n ∈ s5.bal.driven, Free s n := fun n hn =>
    (h2.trans h24.switching).free (free_of_excDriven (List.mem_filter.1 hn).2)
  have hon : ∀ n, IsCell n → s8.bOn n = balClosed s6 n := fun n hn => by
    have hfrom : ∀ p : Nat → Bool, ∀ m ∈ cells.filter p, IsCell m := fun p m hm => mem_cells_iff.1 (List.mem_filter.1 hm).1
    have h7 := foldl_bleedSwitch_bOn hn false e (hfrom fun n => s6.bOn n && !balClosed s6 n) s6
    have h8 := foldl_bleedSwitch_bOn hn true e (hfrom fun n => !s6.bOn n && balClosed s6 n) s7
    refine h8.trans ?_
    rw [show s7.bOn n = _ from h7]
    have hcell := mem_cells_iff.2 hn
    simp only [List.mem_filter, hcell, true_and]
    cases s6.bOn n <;> cases balClosed s6 n <;> rfl
  have hsched : s6.bal.sched = schedule s1 := h56.sched.trans h24.sched
  have hexc : Tallied s.exc s8.exc := h24.exc.trans (h56.exc.trans h68.exc)
  have h8 : Switching s s8 := h5.trans (h56.trans h68).switching
  refine ⟨h8.trans (showStat_switching s8 R.BAL_STAT_NCLOSED _ rfl (by decide) (by decide)), h68.sched.trans hsched, ?_, ?_, hexc⟩
  · intro n hn
    exact hdriven n (by rw [← (h56.trans h68).driven]; exact hn)
  · intro n hn hclosed
    have hshown : (s8.fs R.BAL_STAT_NCLOSED (cells.countP fun n => s8.bOnNow n || excClosed s8 n)).bOn n = s8.bOn n :=
      State.cellBit_of_sameRegs (s8.fs_sameRegs R.BAL_STAT_NCLOSED _ List.mem_cons_self : SameRegs [R.BAL_STAT] _ _)
        (by decide) (by decide) n
    obtain ⟨hfree, hin⟩ := free_of_balClosed ((hon n hn).symm.trans (hshown.symm.trans hclosed))
    exact ⟨(h5.trans h56.switching).free hfree, h68.sched.symm ▸ hin⟩

/-! ## A refresh -/

theorem balMature_none {s : State} (h : s.exc.retAt = none) : balMature s = s := by simp only [balMature, h]

theorem balMature_early {r : Nat} {s : State} (h : s.exc.retAt = some r) (hr : s.epoch < r) : balMature s = s := by
  simp only [balMature, h, if_neg (Nat.not_le.2 hr)]

/-- The state in which the cells under excitation have been counted up to the boundary and are given back. -/
def returned (r : Nat) (s : State) : State :=
  svcLeave r (fun _ => true) { excCredit r s with exc := { (excCredit r s).exc with cells := [], retAt := none } }

theorem balMature_due {r : Nat} {s : State} (h : s.exc.retAt = some r) (hr : r ≤ s.epoch) :
    balMature s = balUpdate r (excCredit r s) (returned r s) := by
  simp only [balMature, h, if_pos hr]
  rfl

theorem returned_switching (r : Nat) (s : State) : Switching s (returned r s) := by
  have hcredit := (excCredit_moving r s).switching
  refine hcredit.trans ⟨.of_records (excCredit r s) _ _ _, .of_regs rfl, fun _ => rfl, rfl, rfl, rfl, [], none, rfl⟩

theorem balMature_switching (s : State) : Switching s (balMature s) := by
  cases h : s.exc.retAt with
  | none =>
    rw [balMature_none h]
    exact .refl s
  | some r =>
    by_cases hr : r ≤ s.epoch
    · rw [balMature_due h hr]
      exact (returned_switching r s).trans (balUpdate_updated ..).switching
    · rw [balMature_early h (Nat.not_le.1 hr)]
      exact .refl s

/-- A return that is due leaves no cell under excitation. -/
theorem balMature_due_exc {r : Nat} {s : State} (h : s.exc.retAt = some r) (hr : r ≤ s.epoch) :
    (balMature s).excited = [] ∧ (balMature s).exc.retAt = none := by
  rw [balMature_due h hr]
  have hexc := (balUpdate_updated r (excCredit r s) (returned r s)).exc
  exact ⟨hexc.excited, hexc.retAt⟩

/-- The state whose switches a refresh brings up to date. -/
def counted (s : State) : State := excCredit s.epoch (balMature s)

theorem counted_switching (s : State) : Switching s (counted s) :=
  (balMature_switching s).trans (excCredit_moving _ _).switching

theorem balRefresh_updated (s : State) : Updated (counted s) (balRefresh s) := balUpdate_updated ..

theorem balRefresh_switching (s : State) : Switching s (balRefresh s) :=
  (counted_switching s).trans (balRefresh_updated s).switching

theorem balRefresh_tallied (s : State) : Tallied (balMature s).exc (balRefresh s).exc :=
  (excCredit_tallied _ _).trans (balRefresh_updated s).exc

theorem balRefresh_driven {s : State} {n : Nat} (h : n ∈ (balRefresh s).bal.driven) : Free s n :=
  (counted_switching s).free ((balRefresh_updated s).driven n h)

theorem balRefresh_on {s : State} {n : Nat} (hn : IsCell n) (h : (balRefresh s).bOn n = true) :
    Free s n ∧ n ∈ (balRefresh s).bal.sched := by
  obtain ⟨hfree, hsched⟩ := (balRefresh_updated s).on n hn h
  exact ⟨(counted_switching s).free hfree, hsched⟩

theorem balRefresh_off {s : State} {n : Nat} (hn : IsCell n) (h : ¬ Free s n) : (balRefresh s).bOn n = false :=
  Bool.eq_false_iff.2 fun hon => h (balRefresh_on hn hon).1

/-! ## The scheduler (R145, R149) -/

/-- The scheduler's test of the next cell in its order. -/
def schedStep (cap : Nat) (closed : List Nat) (n : Nat) : List Nat :=
  if cap ≤ closed.length then closed
  else if closed.contains n || closed.contains (n - 1) && n ≠ 1 || closed.contains (n + 1) then closed
  else closed ++ [n]

/-- No two neighbours are among the closed cells but those that were closed before the scheduler began. -/
def Apart (base closed : List Nat) : Prop := ∀ n, 1 ≤ n → n ∈ closed → n + 1 ∈ closed → n ∈ base

theorem Apart.schedStep {base closed : List Nat} (h : Apart base closed) (cap n : Nat) : Apart base (schedStep cap closed n) := by
  unfold Machine.schedStep
  split
  · exact h
  · split
    · exact h
    · next hnew =>
      simp only [Bool.or_eq_true, Bool.and_eq_true, List.contains_iff_mem, decide_eq_true_eq, not_or, not_and, not_not] at hnew
      obtain ⟨⟨-, hbelow⟩, habove⟩ := hnew
      intro m hm hin hnext
      simp only [List.mem_append, List.mem_singleton] at hin hnext
      obtain hin | rfl := hin
      · obtain hnext | rfl := hnext
        · exact h m hm hin hnext
        · have := hbelow hin
          omega
      · obtain hnext | hnext := hnext
        · exact absurd hnext habove
        · omega

theorem apart_foldl_schedStep (cap : Nat) (order base : List Nat) : Apart base (order.foldl (schedStep cap) base) :=
  List.foldlRecOn (motive := Apart base) order _ (fun _ _ hin _ => hin) fun _ hc n _ => hc.schedStep cap n

theorem schedule_apart {s : State} {n : Nat} (hn : 1 ≤ n) (h : n ∈ schedule s) (h' : n + 1 ∈ schedule s) : False := by
  unfold schedule at h h'
  obtain ⟨hin, hnew⟩ := List.mem_filter.1 h
  obtain ⟨hnext, -⟩ := List.mem_filter.1 h'
  have hbase := apart_foldl_schedStep (capOf s) _ _ n hn hin hnext
  rw [List.contains_iff_mem.2 hbase] at hnew
  cases hnew

/-- After a refresh no two neighbours are closed (R144). -/
theorem balRefresh_apart {s : State} {n : Nat} (hlo : 1 ≤ n) (hhi : n < 48) :
    ¬((balRefresh s).bOn n = true ∧ (balRefresh s).bOn (n + 1) = true) := by
  rintro ⟨hon, hnext⟩
  obtain ⟨-, hsched⟩ := balRefresh_on ⟨hlo, by omega⟩ hon
  obtain ⟨-, hsched'⟩ := balRefresh_on ⟨by omega, hhi⟩ hnext
  rw [(balRefresh_updated s).sched] at hsched hsched'
  exact schedule_apart hlo hsched hsched'

theorem not_free_above {s : State} {n : Nat} (h : s.bSws n = true) : ¬Free s (n + 1) := fun ⟨_, hbelow, _⟩ => by
  rw [Nat.add_sub_cancel, h] at hbelow
  cases hbelow

theorem not_free_below {s : State} {n : Nat} (h : s.bSws (n + 1) = true) : ¬Free s n := fun ⟨_, _, habove⟩ => by
  rw [h] at habove
  cases habove

/-- Switch `n` is flagged in the registers `a0` and `a1`, and its source is raised (R142, R143). -/
def flagged (a0 a1 code n : Nat) (s : State) : State := (s.setCellBit a0 a1 n true).raise code islSTAO n

theorem bleedOvercurrent_eq {n : Nat} {s : State} (h : s.bOn n = true ∨ n ∈ s.bal.driven) :
    bleedOvercurrent n s = balRefresh (flagged R.BAL_OC0 R.BAL_OC1 0x26 n s) := by
  have hclosed : commandedClosed s n = true := by simpa [commandedClosed] using h
  rw [bleedOvercurrent, if_pos hclosed]
  rfl

/-- Settles O12: every row refreshes the switches, after which the scheduler's cells lie apart and a switch closed for balancing
has no shorted neighbour. -/
theorem adjacentBleedSwitchesNeverBothClosed : Obligations.AdjacentBleedSwitchesNeverBothClosed := by
  refine ⟨?tick, ?above, ?below, fun s n hlo hhi => balRefresh_apart hlo hhi, ?overcurrent⟩
  case tick =>
    intro s n hlo hhi
    exact Does.of_rule (f := balanceSchedulerTick) rfl (fun _ h => h) (balRefresh_apart hlo hhi)
  case above =>
    intro s n hlo hhi hshort
    exact Does.of_rule (f := balanceSchedulerTick) rfl (fun _ h => h)
      (balRefresh_off ⟨by omega, hhi⟩ (not_free_above hshort))
  case below =>
    intro s n hlo hhi hshort
    exact Does.of_rule (f := balanceSchedulerTick) rfl (fun _ h => h)
      (balRefresh_off ⟨hlo, by omega⟩ (not_free_below hshort))
  case overcurrent =>
    intro c s n hlo hhi hclosed
    refine Does.of_rule (f := bleedOvercurrent (cellOf c)) rfl (fun _ h => h) ?_
    rw [bleedOvercurrent_eq hclosed]
    exact balRefresh_apart hlo hhi

end Sys2Proof.Machine

/-! # Balancing: ticks, timers, protection, thermal bands and force-off (R142 to R150) -/

namespace Sys2Proof.Machine

/-! ## What the scheduler's choice rests on (R145, R149) -/

theorem State.fg_of_regs {s t : State} (h : t.regs = s.regs) (f : Fld) : t.fg f = s.fg f := State.fg_congr f (State.reg_congr h _)

theorem requests_congr {s t : State} (hregs : t.regs = s.regs) (hasleep : t.bal.asleep = s.bal.asleep) (n : Nat) :
    requests t n = requests s n := by
  have hfg := State.fg_of_regs hregs
  simp only [requests, State.fb, State.bEn, hfg, hasleep, State.cellBit_congr hregs]

theorem schedInsert_congr {s t : State} (hregs : t.regs = s.regs) (htick : t.bal.tick = s.bal.tick) (n : Nat) (l : List Nat) :
    schedInsert t n l = schedInsert s n l := by
  have hfg := State.fg_of_regs hregs
  induction l with
  | nil => rfl
  | cons m l ih => simp only [schedInsert, ih, schedBefore, htick, hfg]

/-- The scheduler reads the registers, its tick, sleep and which cells are under excitation. -/
theorem schedule_congr {s t : State} (hregs : t.regs = s.regs) (htick : t.bal.tick = s.bal.tick)
    (hasleep : t.bal.asleep = s.bal.asleep) (hexc : t.excited = s.excited) : schedule t = schedule s := by
  have hinsert : schedInsert t = schedInsert s := funext₂ (schedInsert_congr hregs htick)
  simp only [schedule, hexc, hinsert, requests_congr hregs hasleep, capOf_of_regs hregs, State.bSws, State.cellBit_congr hregs]

theorem State.fs_regs_congr {s t : State} (h : t.regs = s.regs) (f : Fld) (v : Nat) : (t.fs f v).regs = (s.fs f v).regs := by
  simp only [State.fs, State.setReg, State.reg_congr h, h]

/-- Without a return that waits, a refresh chooses for the cells as they are. -/
theorem balRefresh_sched {s : State} (h : s.exc.retAt = none) :
    (balRefresh s).bal.sched = schedule (s.fs R.BAL_STAT_CAP (capOf s)) := by
  have hcounted : counted s = excCredit s.epoch s := by rw [counted, balMature_none h]
  have hmoving := excCredit_moving s.epoch s
  have hregs := excCredit_regs s.epoch s
  rw [(balRefresh_updated s).sched, hcounted, capOf_of_regs hregs]
  exact schedule_congr (State.fs_regs_congr hregs _ _) hmoving.tick hmoving.asleep hmoving.exc.excited

/-! ## The on-time accumulators (R147) -/

/-- The on-time of switch `n` is 0, its closed time is counted from now on at the earliest, and it is not under excitation. -/
structure Restarted (n : Nat) (s : State) : Prop where
  acc : s.accOf n = 0
  since : ∀ e ∈ s.bal.since, e.1 = n → s.lt ≤ e.2
  idle : n ∉ s.excited

/-- What counts no time for switch `n`, and begins to count no earlier than now. -/
theorem Restarted.keep {n : Nat} {s t : State} (h : Restarted n s) (hacc : t.accOf n = s.accOf n)
    (hsince : ∀ e ∈ t.bal.since, e ∈ s.bal.since ∨ s.lt ≤ e.2) (hidle : t.excited = s.excited) (hlt : t.lt = s.lt) :
    Restarted n t := by
  refine ⟨hacc.trans h.acc, fun e he hn => ?_, hidle ▸ h.idle⟩
  rw [hlt]
  exact (hsince e he).elim (fun hin => h.since e hin hn) id

theorem State.accOf_setAcc_ne (s : State) {n m : Nat} (v : Nat) (h : n ≠ m) : (s.setAcc m v).accOf n = s.accOf n :=
  Smap.get_set_ne (fun _ => 0) s.bal.acc v h

theorem excCredit_acc (e : Nat) {n : Nat} {s : State} (h : n ∉ s.excited) : (excCredit e s).accOf n = s.accOf n := by
  unfold excCredit
  extract_lets b r s1
  refine List.foldlRecOn (motive := fun t : State => t.accOf n = s.accOf n) r _ rfl fun t ht x hx => ?_
  obtain ⟨nc, hnc, rfl⟩ := List.mem_map.1 hx
  have hne : n ≠ nc.1 := fun he => h (he ▸ List.mem_map_of_mem hnc)
  exact (t.accOf_setAcc_ne _ hne).trans ht

theorem Restarted.excCredit {n : Nat} {s : State} (h : Restarted n s) (e : Nat) : Restarted n (excCredit e s) := by
  obtain ⟨a, hbal⟩ := excCredit_bal e s
  refine h.keep (excCredit_acc e h.idle) (fun x hx => .inl ?_) (excCredit_moving e s).exc.excited (excCredit_bleeds e s).lt
  rw [hbal] at hx
  exact hx

theorem accrue_since (n : Nat) (s : State) : ∀ e ∈ (accrue n s).bal.since, e ∈ s.bal.since ∨ s.lt ≤ e.2 := by
  unfold accrue
  split
  · split
    · obtain ⟨a, hbal⟩ := excCredit_bal s.epoch s
      rw [hbal]
      exact fun e he => .inl he
    · exact fun e he => .inl he
  · intro e he
    obtain hin | hnew := List.mem_append.1 he
    · exact .inl (List.mem_filter.1 hin).1
    · rw [List.mem_singleton.1 hnew]
      exact .inr (Nat.le_max_right ..)

/-- The closed time of switch `n` is counted up to the present. -/
theorem accrue_since_self (n : Nat) (s : State) : ∀ e ∈ (accrue n s).bal.since, e.1 = n → s.lt ≤ e.2 := by
  unfold accrue
  split
  next hnone =>
    have hout : ∀ e ∈ s.bal.since, e.1 = n → s.lt ≤ e.2 := fun e he hn =>
      absurd hn (by simpa using List.find?_eq_none.1 hnone e he)
    split
    · obtain ⟨a, hbal⟩ := excCredit_bal s.epoch s
      rw [hbal]
      exact hout
    · exact hout
  next =>
    intro e he hn
    obtain hin | hnew := List.mem_append.1 he
    · have hother := (List.mem_filter.1 hin).2
      simp [hn] at hother
    · rw [List.mem_singleton.1 hnew]
      exact Nat.le_max_right ..

theorem Restarted.accrue {n : Nat} {s : State} (h : Restarted n s) (m : Nat) : Restarted n (accrue m s) := by
  have hmoving := accrue_moving m s
  refine h.keep ?_ (accrue_since m s) hmoving.exc.excited hmoving.bleeds.lt
  unfold Machine.accrue
  split
  · split
    · exact excCredit_acc _ h.idle
    · rfl
  next k t hfind =>
    by_cases hm : n = m
    · subst hm
      have hkey : k = n := by simpa using List.find?_some hfind
      have hlt : s.lt ≤ t := h.since _ (List.mem_of_find?_eq_some hfind) hkey
      have hnothing : s.lt / 1000 - t / 1000 = 0 := Nat.sub_eq_zero_of_le (Nat.div_le_div_right hlt)
      refine (Smap.get_set_same (fun _ => 0) s.bal.acc n _).trans ?_
      rw [hnothing]
      rfl
    · exact State.accOf_setAcc_ne _ _ hm

theorem Restarted.bleedMessage {n : Nat} {s : State} (h : Restarted n s) (m : Nat) (on_ : Bool) (e : Nat) :
    Restarted n (bleedMessage m on_ e s) := by
  have hmoving := bleedMessage_moving m on_ e s
  have hbal : (Machine.bleedMessage m on_ e s).bal = { s.bal with seq := (s.bal.seq + 1) % 16 } := sendUp_bal ..
  refine h.keep ?_ (fun x hx => .inl ?_) hmoving.exc.excited hmoving.bleeds.lt
  · rw [State.accOf, hbal]
    rfl
  · rw [hbal] at hx
    exact hx

theorem State.setCellBit_frame (s : State) (a0 a1 n : Nat) (b : Bool) :
    s.setCellBit a0 a1 n b = { s with regs := (s.setCellBit a0 a1 n b).regs } := by
  unfold State.setCellBit
  split <;> rfl

theorem Restarted.setCellBit {n : Nat} {s : State} (h : Restarted n s) (a0 a1 m : Nat) (b : Bool) :
    Restarted n (s.setCellBit a0 a1 m b) := by
  rw [State.setCellBit_frame]
  exact ⟨h.acc, h.since, h.idle⟩

theorem Restarted.balOpen {n : Nat} {s : State} (h : Restarted n s) (m : Nat) : Restarted n (balOpen m s) := by
  refine Restarted.setCellBit ?_ _ _ m false
  exact (h.accrue m).keep rfl (fun x hx => .inl (List.mem_filter.1 hx).1) rfl rfl

theorem Restarted.noteOpen {n : Nat} {s : State} (h : Restarted n s) (m p : Nat) : Restarted n (noteOpen m p s) :=
  ⟨h.acc, h.since, h.idle⟩

theorem Restarted.bleedSwitch {n : Nat} {s : State} (h : Restarted n s) (m : Nat) (on_ : Bool) (e : Nat) :
    Restarted n (bleedSwitch m on_ e s) := by
  unfold Machine.bleedSwitch
  split
  · refine (Restarted.setCellBit ?_ _ _ m true).bleedMessage m true _
    refine h.keep rfl (fun x hx => ?_) rfl rfl
    obtain hin | hnew := List.mem_append.1 hx
    · exact .inl hin
    · rw [List.mem_singleton.1 hnew]
      exact .inr (Nat.le_add_right ..)
  · exact ((h.balOpen m).noteOpen m _).bleedMessage m false e

theorem Restarted.leaveDriven {n : Nat} {s : State} (h : Restarted n s) (e : Nat) (old : State) (m : Nat) :
    Restarted n (leaveDriven e old m s) := by
  unfold Machine.leaveDriven
  extract_lets s1
  have h1 : Restarted n s1 := by
    unfold s1
    split
    · exact h.noteOpen ..
    · exact h
  split
  · exact h1
  · exact h1.bleedMessage ..

theorem Restarted.foldl {α : Type} {n : Nat} {s : State} (h : Restarted n s) (l : List α) (f : State → α → State)
    (hf : ∀ t a, Restarted n t → Restarted n (f t a)) : Restarted n (l.foldl f s) :=
  List.foldlRecOn (motive := Restarted n) l f h fun t ht a _ => hf t a ht

theorem Restarted.balUpdate {n : Nat} {s : State} (h : Restarted n s) (e : Nat) (old : State) :
    Restarted n (balUpdate e old s) := by
  unfold Machine.balUpdate
  extract_lets s1 bal1 s2 s3 s4 lost bal4 s5 s6 opens closes s7 s8
  have h2 : Restarted n s2 := ⟨h.acc, h.since, h.idle⟩
  have h3 : Restarted n s3 := h2.foldl cells _ fun t m ht => ⟨ht.acc, ht.since, ht.idle⟩
  have h4 : Restarted n s4 := h3.foldl _ _ fun t m ht => ht.balOpen m
  have h5 : Restarted n s5 := ⟨h4.acc, h4.since, h4.idle⟩
  have h6 : Restarted n s6 := h5.foldl lost _ fun t m ht => ht.leaveDriven e old m
  have h7 : Restarted n s7 := h6.foldl opens _ fun t m ht => ht.bleedSwitch m false e
  have h8 : Restarted n s8 := h7.foldl closes _ fun t m ht => ht.bleedSwitch m true e
  exact ⟨h8.acc, h8.since, h8.idle⟩

theorem Restarted.balMature {n : Nat} {s : State} (h : Restarted n s) : Restarted n (balMature s) := by
  cases hret : s.exc.retAt with
  | none => rwa [balMature_none hret]
  | some r =>
    by_cases hr : r ≤ s.epoch
    · have hcredit := h.excCredit r
      have hreturned : Restarted n (returned r s) := ⟨hcredit.acc, hcredit.since, List.not_mem_nil⟩
      rw [balMature_due hret hr]
      exact hreturned.balUpdate ..
    · rwa [balMature_early hret (Nat.not_le.1 hr)]

theorem Restarted.balRefresh {n : Nat} {s : State} (h : Restarted n s) : Restarted n (balRefresh s) :=
  (h.balMature.excCredit _).balUpdate ..

/-! ## A write of TIME (R145, R147) -/

/-- TIME is written and the on-time starts anew; DONE is set for a request that this ends. -/
def timerWritten (n time : Nat) (ended : Bool) (s : State) : State :=
  let s1 := ((accrue n s).setAcc n 0).fs (R.BAL_TMR_TIME n) time
  if ended then s1.setCellBit R.BAL_DONE0 R.BAL_DONE1 n true else s1

theorem balTmrWrite_served {n : Nat} {s : State} (v : Word) (h : s.bEn n = true) :
    ∃ ended, balTmrWrite n v s = (.ok, balRefresh (timerWritten n (v.toNat % 65536) ended s)) := by
  refine ⟨decide (v.toNat % 65536 = 0) && s.fb (R.BAL_TMR_TIME n), ?_⟩
  simp [balTmrWrite, h, timerWritten]

theorem time_fs_same (s : State) (n v : Nat) : (s.fs (R.BAL_TMR_TIME n) v).fg (R.BAL_TMR_TIME n) = v % 65536 :=
  s.fg_fs_same (R.BAL_TMR_TIME n) v (Nat.le_of_ble_eq_true rfl)

/-- The registers of DONE are none of a request's. -/
theorem time_setDone (s : State) (n m : Nat) (b : Bool) :
    (s.setCellBit R.BAL_DONE0 R.BAL_DONE1 m b).fg (R.BAL_TMR_TIME n) = s.fg (R.BAL_TMR_TIME n) := by
  refine State.fg_congr _ (s.setCellBit_sameRegs _ _ m b _ ?_)
  simp only [R.BAL_TMR_TIME, R.BAL_DONE0, R.BAL_DONE1, List.mem_cons, List.not_mem_nil, or_false]
  omega

theorem timerWritten_time (n time : Nat) (ended : Bool) (s : State) (h : time < 65536) :
    (timerWritten n time ended s).fg (R.BAL_TMR_TIME n) = time := by
  have hsame := (time_fs_same ((accrue n s).setAcc n 0) n time).trans (Nat.mod_eq_of_lt h)
  unfold timerWritten
  split
  · exact (time_setDone _ n n true).trans hsame
  · exact hsame

theorem timerWritten_restarted {n : Nat} {s : State} (time : Nat) (ended : Bool) (h : n ∉ s.excited) :
    Restarted n (timerWritten n time ended s) := by
  have hmoving := accrue_moving n s
  have hset : Restarted n (((accrue n s).setAcc n 0).fs (R.BAL_TMR_TIME n) time) := by
    refine ⟨Smap.get_set_same (fun _ => 0) _ n 0, fun e he hn => ?_, ?_⟩
    · refine Eq.trans_le ?_ (accrue_since_self n s e he hn)
      exact hmoving.bleeds.lt
    · refine fun hin => h ?_
      rw [← hmoving.exc.excited]
      exact hin
  unfold timerWritten
  split
  · exact hset.setCellBit ..
  · exact hset

theorem balTmrWrite_spec {n : Nat} {s : State} (v : Word) (h : s.bEn n = true) :
    (balTmrWrite n v s).1 = .ok ∧ (balTmrWrite n v s).2.fg (R.BAL_TMR_TIME n) = v.toNat % 65536 ∧
      (n ∉ s.excited → (balTmrWrite n v s).2.accOf n = 0) := by
  obtain ⟨ended, hserved⟩ := balTmrWrite_served v h
  rw [hserved]
  refine ⟨rfl, ?_, fun hidle => (timerWritten_restarted _ ended hidle).balRefresh.acc⟩
  exact ((balRefresh_switching _).time n).trans (timerWritten_time n _ ended s (Nat.mod_lt _ (by decide)))

/-! ## A full second of on-time (R147) -/

/-- One second is taken from the accumulator and TIME is `time`. -/
def secondTaken (n time : Nat) (s : State) : State :=
  ((accrue n s).setAcc n ((accrue n s).accOf n - 320000000)).fs (R.BAL_TMR_TIME n) time

theorem balanceAccumulatorSecond_eq {n : Nat} {s : State} (hfull : 320000000 ≤ (accrue n s).accOf n)
    (htime : s.fg (R.BAL_TMR_TIME n) ≠ 0) :
    balanceAccumulatorSecond n s =
      if s.fg (R.BAL_TMR_TIME n) - 1 = 0 then
        balRefresh ((secondTaken n (s.fg (R.BAL_TMR_TIME n) - 1) s).setCellBit R.BAL_DONE0 R.BAL_DONE1 n true)
      else secondTaken n (s.fg (R.BAL_TMR_TIME n) - 1) s := by
  have hkept : (accrue n s).fg (R.BAL_TMR_TIME n) = s.fg (R.BAL_TMR_TIME n) := (accrue_moving n s).time n
  have hgo : ¬((accrue n s).accOf n < 320000000 ∨ s.fg (R.BAL_TMR_TIME n) = 0) := by omega
  simp only [balanceAccumulatorSecond, hkept, if_neg hgo]
  rfl

theorem secondTaken_spec (n : Nat) (s : State) :
    (secondTaken n (s.fg (R.BAL_TMR_TIME n) - 1) s).fg (R.BAL_TMR_TIME n) = s.fg (R.BAL_TMR_TIME n) - 1 ∧
      SameRegs [R.BAL_TMR n] s (secondTaken n (s.fg (R.BAL_TMR_TIME n) - 1) s) := by
  refine ⟨(time_fs_same _ n _).trans (Nat.mod_eq_of_lt ?_), ?_⟩
  · have : s.fg (R.BAL_TMR_TIME n) < 65536 := s.fg_lt (R.BAL_TMR_TIME n)
    omega
  · refine ((SameRegs.of_regs (accrue_regs n s)).trans ?_).trans (State.fs_sameRegs _ (R.BAL_TMR_TIME n) _ List.mem_cons_self)
    exact .of_bal _ (accrue n s) _

/-! ## Protection (R142, R143) -/

theorem flagged_bit {a0 a1 n : Nat} (code : Nat) (s : State) (hn : n ≤ 48) (h0 : a0 ∉ [R.FLT_ISL islSTAO, R.FLT_STAT])
    (h1 : a1 ∉ [R.FLT_ISL islSTAO, R.FLT_STAT]) : (flagged a0 a1 code n s).cellBit a0 a1 n = true :=
  (State.cellBit_of_sameRegs (State.raise_sameRegs _ code islSTAO n) h0 h1 n).trans (s.setCellBit_bit a0 a1 hn)

theorem balRefresh_flagged {a0 a1 code n : Nat} (s : State) (hn : n ≤ 48) (h0 : a0 ∉ R.FLT_ISL islSTAO :: R.FLT_STAT :: balShownRegs)
    (h1 : a1 ∉ R.FLT_ISL islSTAO :: R.FLT_STAT :: balShownRegs) (hcode : faultBit code < 32) :
    (balRefresh (flagged a0 a1 code n s)).cellBit a0 a1 n = true ∧
      Raised code islSTAO (balRefresh (flagged a0 a1 code n s)) := by
  simp only [List.mem_cons, not_or] at h0 h1
  obtain ⟨hisl0, hstat0, hbal0⟩ := h0
  obtain ⟨hisl1, hstat1, hbal1⟩ := h1
  have hregs := (balRefresh_switching (flagged a0 a1 code n s)).regs
  refine ⟨(State.cellBit_of_sameRegs hregs hbal0 hbal1 n).trans (flagged_bit code s hn ?_ ?_),
    Raised.of_regs (State.raise_bit _ code islSTAO n hcode) hregs (by decide)⟩
  · simp [hisl0, hstat0]
  · simp [hisl1, hstat1]

/-- A refresh opens a switch that is held open, and takes it from the pattern (R160). -/
theorem balRefresh_heldOpen {s : State} {n : Nat} (hn : IsCell n) (h : heldOpen s n = true) :
    (balRefresh s).bOn n = false ∧ n ∉ (balRefresh s).bal.driven := by
  have hheld : ¬Free s n := fun hfree => by
    rw [hfree.1] at h
    cases h
  exact ⟨balRefresh_off hn hheld, fun hin => hheld (balRefresh_driven hin)⟩

/-- A flag that holds its switch open takes it from balancing and from the pattern. -/
theorem balRefresh_protects {a0 a1 code n : Nat} (s : State) (hn : IsCell n)
    (h0 : a0 ∉ R.FLT_ISL islSTAO :: R.FLT_STAT :: balShownRegs) (h1 : a1 ∉ R.FLT_ISL islSTAO :: R.FLT_STAT :: balShownRegs)
    (hcode : faultBit code < 32) (hheld : ∀ t : State, t.cellBit a0 a1 n = true → heldOpen t n = true) :
    (balRefresh (flagged a0 a1 code n s)).cellBit a0 a1 n = true ∧ Raised code islSTAO (balRefresh (flagged a0 a1 code n s)) ∧
      (balRefresh (flagged a0 a1 code n s)).bOn n = false ∧ n ∉ (balRefresh (flagged a0 a1 code n s)).bal.driven := by
  obtain ⟨hflag, hraised⟩ := balRefresh_flagged (code := code) s hn.2 h0 h1 hcode
  simp only [List.mem_cons, not_or] at h0 h1
  obtain ⟨hisl0, hstat0, -⟩ := h0
  obtain ⟨hisl1, hstat1, -⟩ := h1
  exact ⟨hflag, hraised, balRefresh_heldOpen hn
    (hheld _ (flagged_bit code s hn.2 (by simp [hisl0, hstat0]) (by simp [hisl1, hstat1])))⟩

theorem bleedSwitchOpen_eq {n : Nat} {mv : Int} {s : State} (h : s.bOn n = true ∨ n ∈ s.bal.driven) (hmv : 500 ≤ mv) :
    bleedSwitchOpen n mv s = balRefresh (flagged R.BAL_SWO0 R.BAL_SWO1 0x27 n s) := by
  have hclosed : commandedClosed s n = true := by simpa [commandedClosed] using h
  simp [bleedSwitchOpen, hclosed, hmv, flagged]

theorem bleedSwitchShort_eq {n : Nat} {mv : Int} {s : State} (hoff : s.bOn n = false) (hidle : n ∉ s.bal.driven)
    (hmv : 500 ≤ mv) : bleedSwitchShort n mv s = balRefresh (flagged R.BAL_SWS0 R.BAL_SWS1 0x28 n s) := by
  have hopen : commandedClosed s n = false := by simp [commandedClosed, hoff, hidle]
  simp [bleedSwitchShort, hopen, hmv, flagged]

/-! ## Excitation that stops (R159) -/

/-- Excitation is over and the switches return at the next carrier boundary. -/
def stopping (cause : Nat) (s : State) : State :=
  { excStopped cause s with exc := { (excStopped cause s).exc with retAt := some (nextCarrier (excStopped cause s)) } }

theorem stopping_regs (cause : Nat) (s : State) : (stopping cause s).regs = (excStopped cause s).regs := by simp only [stopping]

theorem stopping_now (cause : Nat) (s : State) : (stopping cause s).now = s.now := by
  simp only [stopping, excStopped, State.fs_now]

theorem stopping_exc (cause : Nat) (s : State) : (stopping cause s).exc = { s.exc with retAt := some (nextCarrier s) } := by
  simp only [stopping, nextCarrier, excStopped, State.fs_now, State.fs_exc]

theorem excStop_busy {s : State} (cause : Nat) (h : s.excBusy = true) : excStop cause s = balRefresh (stopping cause s) := by
  rw [excStop, if_pos h]
  rfl

theorem excStopped_sameRegs (cause : Nat) (s : State) : SameRegs [R.EXC_STAT] s (excStopped cause s) := fun a ha => by
  have hne : a ≠ R.EXC_STAT := List.ne_of_not_mem_cons ha
  rw [excStopped, State.reg_fs_ne _ R.EXC_STAT_NACT _ hne, State.reg_fs_ne _ R.EXC_STAT_STOPCAUSE _ hne,
    State.reg_fs_ne _ R.EXC_STAT_PEND _ hne, State.reg_fs_ne _ R.EXC_STAT_RUN _ hne]

theorem stopping_sameRegs (cause : Nat) (s : State) : SameRegs [R.EXC_STAT] s (stopping cause s) :=
  (excStopped_sameRegs cause s).trans (.of_regs (stopping_regs cause s))

theorem excStopped_cause {cause : Nat} (s : State) (h : cause < 16) : (excStopped cause s).fg R.EXC_STAT_STOPCAUSE = cause := by
  rw [excStopped, State.fg_fs_disj _ R.EXC_STAT_NACT R.EXC_STAT_STOPCAUSE _ (by decide) rfl (by decide),
    State.fg_fs_same _ _ _ (by decide)]
  exact Nat.mod_eq_of_lt h

theorem excBusy_congr {s t : State} (h : t.reg R.EXC_STAT = s.reg R.EXC_STAT) : t.excBusy = s.excBusy := by
  simp only [State.excBusy, State.fb, State.fg_congr R.EXC_STAT_RUN h, State.fg_congr R.EXC_STAT_PEND h]

theorem balRefresh_excStat (s : State) : (balRefresh s).reg R.EXC_STAT = s.reg R.EXC_STAT :=
  (balRefresh_bleeds s).1 R.EXC_STAT (by decide)

theorem excStop_cause {cause : Nat} {s : State} (h : s.excBusy = true) (hc : cause < 16) :
    (excStop cause s).fg R.EXC_STAT_STOPCAUSE = cause := by
  rw [excStop_busy cause h, State.fg_congr R.EXC_STAT_STOPCAUSE (balRefresh_excStat _), State.fg_of_regs (stopping_regs cause s)]
  exact excStopped_cause s hc

/-- The registers that a stop of excitation changes. -/
def excStopRegs : List Nat := R.EXC_STAT :: balShownRegs

theorem excStop_keeps (cause : Nat) (s : State) :
    SameRegs excStopRegs s (excStop cause s) ∧ (excStop cause s).fg R.BAL_STAT_TBAND = s.fg R.BAL_STAT_TBAND := by
  by_cases h : s.excBusy = true
  · have hregs := stopping_sameRegs cause s
    have hrefresh := balRefresh_switching (stopping cause s)
    rw [excStop_busy cause h]
    exact ⟨(hregs.mono fun a ha => List.mem_append_left balShownRegs ha).trans
      (hrefresh.regs.mono fun a ha => List.mem_cons_of_mem _ ha),
      hrefresh.band.trans (State.fg_congr R.BAL_STAT_TBAND (hregs R.BAL_STAT (by decide)))⟩
  · rw [excStop, if_neg h]
    exact ⟨.refl _ s, rfl⟩

theorem capCheck_keeps (s : State) :
    SameRegs excStopRegs s (capCheck s) ∧ (capCheck s).fg R.BAL_STAT_TBAND = s.fg R.BAL_STAT_TBAND := by
  unfold capCheck
  split
  · exact excStop_keeps 3 s
  · exact ⟨.refl _ s, rfl⟩

/-! ## Thermal bands (R149) -/

theorem bandOf_le (old : Nat) (temp : Int) : bandOf old temp ≤ 4 :=
  Nat.max_le.2 ⟨List.countP_le_length, (Nat.min_le_right ..).trans List.countP_le_length⟩

theorem le_bandOf (old : Nat) (temp : Int) : (bandBounds.countP fun b => decide (b ≤ temp)) ≤ bandOf old temp :=
  Nat.le_max_left ..

theorem two_le_bandOf (old : Nat) {temp : Int} (h : 10500 ≤ temp) : 2 ≤ bandOf old temp := by
  refine le_trans ?_ (le_bandOf old temp)
  have h9500 : (9500 : Int) ≤ temp := by omega
  simp [bandBounds, h9500, h]

theorem bandOf_hottest (old : Nat) {temp : Int} (h : 12500 ≤ temp) : bandOf old temp = 4 := by
  refine le_antisymm (bandOf_le old temp) (le_trans ?_ (le_bandOf old temp))
  have h9500 : (9500 : Int) ≤ temp := by omega
  have h10500 : (10500 : Int) ≤ temp := by omega
  have h11500 : (11500 : Int) ≤ temp := by omega
  simp [bandBounds, h9500, h10500, h11500, h]

/-- The band of a temperature is shown, and its source is raised when the band enters the limiting ones. -/
def bandTaken (temp : Int) (s : State) : State :=
  let old := s.fg R.BAL_STAT_TBAND
  let s1 := s.fs R.BAL_STAT_TBAND (bandOf old temp)
  if old ≤ 1 ∧ 2 ≤ bandOf old temp then s1.raise 0x61 islSTAO 0 else s1

theorem thermalBandChange_eq (temp : Int) (s : State) : thermalBandChange temp s = balRefresh (capCheck (bandTaken temp s)) := rfl

theorem bandTaken_band (temp : Int) (s : State) :
    (bandTaken temp s).fg R.BAL_STAT_TBAND = bandOf (s.fg R.BAL_STAT_TBAND) temp := by
  have hshown : (s.fs R.BAL_STAT_TBAND (bandOf (s.fg R.BAL_STAT_TBAND) temp)).fg R.BAL_STAT_TBAND =
      bandOf (s.fg R.BAL_STAT_TBAND) temp :=
    (s.fg_fs_same _ _ (by decide)).trans (Nat.mod_eq_of_lt (Nat.lt_of_le_of_lt (bandOf_le ..) (by decide)))
  simp only [bandTaken]
  split
  · exact (State.fg_congr R.BAL_STAT_TBAND (State.raise_sameRegs _ 0x61 islSTAO 0 _ (by decide))).trans hshown
  · exact hshown

theorem thermalBandChange_band (temp : Int) (s : State) :
    (thermalBandChange temp s).fg R.BAL_STAT_TBAND = bandOf (s.fg R.BAL_STAT_TBAND) temp :=
  (balRefresh_switching _).band.trans ((capCheck_keeps _).2.trans (bandTaken_band temp s))

theorem thermalBandChange_raises {temp : Int} {s : State} (hcool : s.fg R.BAL_STAT_TBAND ≤ 1) (hhot : 10500 ≤ temp) :
    Raised 0x61 islSTAO (thermalBandChange temp s) := by
  have htaken : Raised 0x61 islSTAO (bandTaken temp s) := by
    simp only [bandTaken, if_pos (And.intro hcool (two_le_bandOf _ hhot))]
    exact State.raise_bit _ 0x61 islSTAO 0 (by decide)
  exact (htaken.of_regs (capCheck_keeps _).1 (by decide)).of_regs (balRefresh_switching _).regs (by decide)

theorem capOf_hottest {s : State} (h : s.fg R.BAL_STAT_TBAND = 4) : capOf s = 0 := by simp only [capOf, h]

theorem bandTaken_keeps (temp : Int) (s : State) :
    SameRegs [R.BAL_STAT, R.FLT_ISL islSTAO, R.FLT_STAT] s (bandTaken temp s) ∧ (bandTaken temp s).exc = s.exc := by
  have hshown : SameRegs [R.BAL_STAT, R.FLT_ISL islSTAO, R.FLT_STAT] s
      (s.fs R.BAL_STAT_TBAND (bandOf (s.fg R.BAL_STAT_TBAND) temp)) := s.fs_sameRegs _ _ List.mem_cons_self
  simp only [bandTaken]
  split
  · exact ⟨hshown.trans ((State.raise_sameRegs _ 0x61 islSTAO 0).mono fun a ha => List.mem_cons_of_mem _ ha), State.raise_exc ..⟩
  · exact ⟨hshown, rfl⟩

/-- In the hottest band nothing may be excited: excitation stops with the cap as its cause (R149, R159). -/
theorem thermalBandChange_hottest {temp : Int} {s : State} (hhot : 12500 ≤ temp) (hexc : s.excited ≠ []) (hbusy : s.excBusy = true) :
    (thermalBandChange temp s).fg R.BAL_STAT_CAP = 0 ∧ (thermalBandChange temp s).excBusy = false ∧
      (thermalBandChange temp s).fg R.EXC_STAT_STOPCAUSE = 3 := by
  have hband : (bandTaken temp s).fg R.BAL_STAT_TBAND = 4 := (bandTaken_band temp s).trans (bandOf_hottest _ hhot)
  obtain ⟨hregs, hsame⟩ := bandTaken_keeps temp s
  have hstill : (bandTaken temp s).excBusy = true := (excBusy_congr (hregs R.EXC_STAT (by decide))).trans hbusy
  have hover : capOf (bandTaken temp s) < (bandTaken temp s).excited.length := by
    rw [capOf_hottest hband, State.excited, hsame]
    exact List.length_pos_iff.2 hexc
  have hstops : capCheck (bandTaken temp s) = excStop 3 (bandTaken temp s) := by rw [capCheck, if_pos hover]
  rw [thermalBandChange_eq, hstops, balRefresh_cap, excBusy_congr (balRefresh_excStat _),
    State.fg_congr R.EXC_STAT_STOPCAUSE (balRefresh_excStat _)]
  exact ⟨capOf_hottest ((excStop_keeps 3 _).2.trans hband), (excStop_spec 3 _).1, excStop_cause hstill (by decide)⟩

/-! ## Force-off (R150) -/

theorem forceSources_of_forced {s : State} (h : forced s = true) : forceSources s ≠ 0 := fun hnone => by
  rw [forced, hnone, Nat.zero_and] at h
  cases h

theorem excStop_forced (cause : Nat) (s : State) : forced (excStop cause s) = forced s :=
  forced_congr (excStop_keeps cause s).1 (excStop_spec cause s).2.1 (by decide) (by decide)

theorem heldOpen_of_forced {s : State} (h : forced s = true) (n : Nat) : heldOpen s n = true := by simp [heldOpen, h]

theorem balanceForceOn_eq {s : State} (h : forced s = true) : balanceForceOn s = balRefresh (excStop 2 s) := by
  rw [balanceForceOn, if_neg (forceSources_of_forced h)]

theorem balRefresh_forced {s : State} (h : forced s = true) : (cells.all fun n => !(balRefresh s).bOn n) = true := by
  refine List.all_eq_true.2 fun n hn => ?_
  rw [(balRefresh_heldOpen (mem_cells_iff.1 hn) (heldOpen_of_forced h n)).1]
  rfl

/-! ## BAL_SET (R426) -/

/-- BAL_SET of one cell that is served is the reply with its status. -/
theorem balSet_single {q : Packet} {c lo hi : Byte} {s t : State} (hpay : q.payload = [1, 0, 0, 0, c, 0, lo, hi])
    (hc : 1 ≤ c.toNat ∧ c.toNat ≤ 48) (hcheck : accessCheck s (R.BAL_TMR c.toNat) (w32 (lo.toNat + 256 * hi.toNat)) = none)
    (hwrite : balTmrWrite c.toNat (w32 (lo.toNat + 256 * hi.toNat)) s = (.ok, t)) :
    balSet q s = replyUnits q [.ok] [] .ok t := by
  have hcount : u8 q.payload 0 = 1 := by simp [hpay, u8, leAt, sliceBytes, leNat]
  have hzero : leAt q.payload 1 3 = 0 := by simp [hpay, leAt, sliceBytes, leNat]
  have hcell : u8 q.payload 4 = c.toNat := by simp [hpay, u8, leAt, sliceBytes, leNat]
  have hpad : u8 q.payload 5 = 0 := by simp [hpay, u8, leAt, sliceBytes, leNat]
  have htime : u16 q.payload 6 = lo.toNat + 256 * hi.toNat := by simp [hpay, u16, leAt, sliceBytes, leNat]
  have hlen : q.payload.length = 8 := by rw [hpay]; rfl
  have hlegal : ¬(c.toNat = 0 ∨ 48 < c.toNat) := by omega
  simp [balSet, hcount, hzero, hlen, hcell, hpad, htime, hcheck, hwrite, List.range_succ, hlegal]

theorem time_lt (n : Nat) {v : Via} (hn : n ≤ 48) : (R.BAL_TMR_TIME n).adr ∉ replyCounters v := fun h => by
  have hlow := le_of_mem_replyCounters h
  simp only [R.BAL_TMR_TIME] at hlow
  omega

/-- Settles O11: a case for each command, by the rule of its own. -/
theorem balanceCommandsTakeEffect : Obligations.BalanceCommandsTakeEffect := by
  refine ⟨?tick, ?write, ?second, ?last, ?overcurrent, ?stuckOpen, ?shorted, ?band, ?limiting, ?cap, ?forceOn, ?forceOff, ?set⟩
  case tick =>
    intro s hret
    have hrefresh := balRefresh_switching { s with bal := { s.bal with tick := s.bal.tick + 1 } }
    obtain ⟨-, rg, o, un, bl, ex, sv, hframe⟩ := hrefresh.bleeds
    refine Does.of_rule (f := balanceSchedulerTick) rfl (fun _ h => h) ⟨hrefresh.tick, balRefresh_sched hret, ?_, ?_⟩
    · rw [balanceSchedulerTick, hframe]
    · rw [balanceSchedulerTick, hframe]
  case write =>
    intro c v s hok hen
    obtain ⟨hst, htime, hacc⟩ := balTmrWrite_spec v hen
    refine Does.of_rule (f := direct (R.BAL_TMR (cellOf c)) v (balTmrWrite (cellOf c))) rfl (fun _ h => h) ?_
    rw [direct_of_none hok, hst]
    exact ⟨htime, hacc, State.done_lastOut ..⟩
  case second =>
    intro c s hfull htime
    refine Does.of_rule (f := balanceAccumulatorSecond (cellOf c)) rfl (fun _ h => h) ?_
    rw [balanceAccumulatorSecond_eq hfull (by omega), if_neg (by omega)]
    exact secondTaken_spec (cellOf c) s
  case last =>
    intro c s hfull htime
    refine Does.of_rule (f := balanceAccumulatorSecond (cellOf c)) rfl (fun _ h => h) ?_
    rw [balanceAccumulatorSecond_eq hfull (by omega), if_pos (by omega)]
    have hrefresh := balRefresh_switching
      ((secondTaken (cellOf c) (s.fg (R.BAL_TMR_TIME (cellOf c)) - 1) s).setCellBit R.BAL_DONE0 R.BAL_DONE1 (cellOf c) true)
    refine ⟨(hrefresh.time _).trans ((time_setDone ..).trans ((secondTaken_spec _ s).1.trans (by omega))), ?_⟩
    exact (State.cellBit_of_sameRegs hrefresh.regs (by decide) (by decide) _).trans
      (State.setCellBit_bit _ _ _ (isCell_cellOf c).2)
  case overcurrent =>
    intro c s hclosed
    refine Does.of_rule (f := bleedOvercurrent (cellOf c)) rfl (fun _ h => h) ?_
    rw [bleedOvercurrent_eq hclosed]
    exact balRefresh_protects s (isCell_cellOf c) (by decide) (by decide) (by decide) fun t ht => by
      simp [heldOpen, State.bOc, ht]
  case stuckOpen =>
    intro c mv s hclosed hmv
    refine Does.of_rule (f := bleedSwitchOpen (cellOf c) mv) rfl (fun _ h => h) ?_
    rw [bleedSwitchOpen_eq hclosed hmv]
    exact balRefresh_protects s (isCell_cellOf c) (by decide) (by decide) (by decide) fun t ht => by
      simp [heldOpen, State.bSwo, ht]
  case shorted =>
    intro c mv s hoff hidle hmv hc
    have hcell := isCell_cellOf c
    have hshort : ∀ t : State, t.cellBit R.BAL_SWS0 R.BAL_SWS1 (cellOf c) = true → t.bSws (cellOf c) = true := fun t ht => by
      have hne : cellOf c ≠ 0 := by omega
      simp [State.bSws, ht, hne, hcell.2]
    obtain ⟨hflag, hraised⟩ := balRefresh_flagged (a0 := R.BAL_SWS0) (a1 := R.BAL_SWS1) (code := 0x28) s hcell.2 (by decide)
      (by decide) (by decide)
    refine Does.of_rule (f := bleedSwitchShort (cellOf c) mv) rfl (fun _ h => h) ?_
    rw [bleedSwitchShort_eq hoff hidle hmv]
    refine ⟨hshort _ hflag, hraised, balRefresh_off ⟨by omega, Nat.succ_le_succ hc⟩ (not_free_above (hshort _ ?_))⟩
    exact flagged_bit 0x28 s hcell.2 (by decide) (by decide)
  case band =>
    intro temp s _
    exact Does.of_rule (f := thermalBandChange temp) rfl (fun _ h => h) (thermalBandChange_band temp s)
  case limiting =>
    intro temp s hcool hhot
    refine Does.of_rule (f := thermalBandChange temp) rfl (fun _ h => h) ⟨?_, thermalBandChange_raises hcool hhot⟩
    rw [thermalBandChange_band]
    exact two_le_bandOf _ hhot
  case cap =>
    intro temp s hhot hexc hbusy _
    exact Does.of_rule (f := thermalBandChange temp) rfl (fun _ h => h) (thermalBandChange_hottest hhot hexc hbusy)
  case forceOn =>
    intro s hforced hbusy
    refine Does.of_rule (f := balanceForceOn) rfl (fun _ h => h) ?_
    rw [balanceForceOn_eq hforced]
    refine ⟨?_, ?_, balRefresh_forced ((excStop_forced 2 s).trans hforced)⟩
    · exact (excBusy_congr (balRefresh_excStat _)).trans (excStop_spec 2 s).1
    · exact (State.fg_congr R.EXC_STAT_STOPCAUSE (balRefresh_excStat _)).trans (excStop_cause hbusy (by decide))
  case forceOff =>
    intro s hforced hret
    refine Does.of_rule (f := balanceForceOff) rfl (fun _ h => h) ?_
    rw [balanceForceOff, if_neg (by rw [hforced]; exact Bool.false_ne_true)]
    exact balRefresh_sched hret
  case set =>
    intro p q c lo hi s s1 ha hpay hq hlow hhigh hen hok
    obtain ⟨hst, htime, -⟩ := balTmrWrite_spec (w32 (lo.toNat + 256 * hi.toNat)) hen
    have hfits : (w32 (lo.toNat + 256 * hi.toNat)).toNat % 65536 = lo.toNat + 256 * hi.toNat := by
      have := lo.isLt
      have := hi.isLt
      rw [w32_toNat (by omega)]
      omega
    refine Does.of_admits (k := balSet) rfl ha ?_
    rw [balSet_single hpay ⟨hlow, hhigh⟩ hok (Prod.ext hst rfl)]
    obtain ⟨hreply, -, -, hregs⟩ :=
      replyUnits_spec q [.ok] [] (balTmrWrite c.toNat (w32 (lo.toNat + 256 * hi.toNat)) s1).2 hq
    exact ⟨(State.fg_congr _ (hregs _ (time_lt _ hhigh))).trans (htime.trans hfits), hreply⟩

end Sys2Proof.Machine

/-! # Excitation: start, pattern blocks and stop (R151 to R159) -/

namespace Sys2Proof.Machine

/-! ## A legal write of EXC_CTRL (R154, R164) -/

/-- The fields of a word for EXC_CTRL lie within their ranges (R164). -/
structure ExcLegal (v : Word) : Prop where
  shape : wf v R.EXC_CTRL_SHAPE ≤ 1
  carrier : wf v R.EXC_CTRL_CARRIER ≠ 3
  bias : 32 ≤ wf v R.EXC_CTRL_BIAS ∧ wf v R.EXC_CTRL_BIAS ≤ 224
  balbias : 32 ≤ wf v R.EXC_CTRL_BALBIAS ∧ wf v R.EXC_CTRL_BALBIAS ≤ 224

/-- A GO or STOP bit that is set beside them leaves them legal. -/
theorem ExcLegal.setBit {v : Word} (h : ExcLegal v) {i : Nat} (hlo : 24 ≤ i) (hi : i < 32) :
    ExcLegal (w32 (setBit v.toNat i true)) := by
  have hkeep : ∀ f : Fld, f.lo + f.w ≤ 24 → wf (w32 (Machine.setBit v.toNat i true)) f = wf v f := fun f hf =>
    wf_setBit_disj hi (.inr (hf.trans hlo))
  refine ⟨?_, ?_, ?_, ?_⟩
  · exact (hkeep R.EXC_CTRL_SHAPE (by decide)).symm ▸ h.shape
  · exact (hkeep R.EXC_CTRL_CARRIER (by decide)).symm ▸ h.carrier
  · exact (hkeep R.EXC_CTRL_BIAS (by decide)).symm ▸ h.bias
  · exact (hkeep R.EXC_CTRL_BALBIAS (by decide)).symm ▸ h.balbias

/-- What EXC_CTRL keeps of a word. -/
def ctrlKept (v : Word) : Nat := v.toNat &&& 0x00FFFF33

theorem ctrlKept_setBit (v : Word) {i : Nat} (hlo : 24 ≤ i) (hi : i < 32) : ctrlKept (w32 (setBit v.toNat i true)) = ctrlKept v := by
  have hfits : setBit v.toNat i true < 2 ^ 32 := setBit_lt _ _ 32 v.isLt hi
  have hmask : (0x00FFFF33 : Nat).testBit i = false :=
    Nat.testBit_lt_two_pow (Nat.lt_of_lt_of_le (by decide : (0x00FFFF33 : Nat) < 2 ^ 24) (Nat.pow_le_pow_right (by decide) hlo))
  unfold ctrlKept
  rw [w32_toNat hfits]
  refine Nat.eq_of_testBit_eq fun j => ?_
  simp only [setBit, if_true, Nat.testBit_and, Nat.testBit_or, Nat.testBit_two_pow]
  by_cases hj : i = j
  · rw [← hj, hmask, Bool.and_false, Bool.and_false]
  · simp [hj]

/-- EXC_CTRL has taken a word, and a STOP with it. -/
def ctrlTaken (v : Word) (s : State) : State :=
  let s1 := s.setReg R.EXC_CTRL (w32 (ctrlKept v))
  if wf v R.EXC_CTRL_STOP = 1 then excStop 1 s1 else s1

theorem excCtrlWrite_accepted {v : Word} {s : State} (hlegal : ExcLegal v)
    (hbusy : s.excBusy = true → ctrlKept v = (s.reg R.EXC_CTRL).toNat)
    (hgo : wf v R.EXC_CTRL_GO = 1 → excGoCheck s (wf v R.EXC_CTRL_SHAPE) (wf v R.EXC_CTRL_CARRIER) = .ok) :
    (excCtrlWrite v s).1 = .ok := by
  obtain ⟨hshape, hcarrier, ⟨hblo, hbhi⟩, hbblo, hbbhi⟩ := hlegal
  have hrange : ¬(1 < wf v R.EXC_CTRL_SHAPE ∨ wf v R.EXC_CTRL_CARRIER = 3 ∨
      decide (wf v R.EXC_CTRL_BIAS < 32 ∨ 224 < wf v R.EXC_CTRL_BIAS) = true ∨
      decide (wf v R.EXC_CTRL_BALBIAS < 32 ∨ 224 < wf v R.EXC_CTRL_BALBIAS) = true) := by
    simp only [decide_eq_true_eq]
    omega
  have hfixed : ¬(s.excBusy = true ∧ ctrlKept v ≠ (s.reg R.EXC_CTRL).toNat) := fun ⟨h, hne⟩ => hne (hbusy h)
  have hstart : ¬(wf v R.EXC_CTRL_GO = 1 ∧
      excGoCheck s (wf v R.EXC_CTRL_SHAPE) (wf v R.EXC_CTRL_CARRIER) ≠ .ok) := fun ⟨h, hne⟩ => hne (hgo h)
  unfold ctrlKept at hfixed
  simp only [excCtrlWrite, if_neg hrange, if_neg hfixed, if_neg hstart]

/-- A write of EXC_CTRL that is accepted is taken, and a GO starts. -/
theorem excCtrlWrite_taken {v : Word} {s : State} (h : (excCtrlWrite v s).1 = .ok) :
    (excCtrlWrite v s).2 = if wf v R.EXC_CTRL_GO = 1 then excArm (ctrlTaken v s) else ctrlTaken v s := by
  simp only [excCtrlWrite] at h ⊢
  split at h
  · cases h
  · next hrange =>
    rw [if_neg hrange]
    split at h
    · cases h
    · next hfixed =>
      rw [if_neg hfixed]
      split at h
      · next hcheck =>
        obtain ⟨-, hrefused⟩ := hcheck
        exact absurd h hrefused
      · next hcheck =>
        simp only [if_neg hcheck, ctrlTaken, ctrlKept]

theorem not_busy_of_excGoCheck {s : State} {shape carrier : Nat} (h : excGoCheck s shape carrier = .ok) : s.excBusy = false := by
  refine Bool.eq_false_iff.2 fun hbusy => ?_
  rw [excGoCheck, if_pos hbusy] at h
  cases h

theorem excArm_regs (s : State) :
    (excArm s).regs = ((s.fs R.EXC_STAT_PEND 1).fs R.EXC_START_EPOCH (firstMultiple 5120 2000 s.now)).regs := rfl

theorem excArm_spec (s : State) :
    (excArm s).fg R.EXC_STAT_PEND = 1 ∧ (excArm s).exc.start = firstMultiple 5120 2000 s.now ∧
      (excArm s).fg R.EXC_START_EPOCH = firstMultiple 5120 2000 s.now % 2 ^ 32 ∧
      SameRegs [R.EXC_STAT, R.EXC_START] s (excArm s) := by
  have hregs := excArm_regs s
  refine ⟨?_, rfl, ?_, SameRegs.trans ?_ (.of_regs hregs)⟩
  · rw [State.fg_of_regs hregs, State.fg_fs_ne _ R.EXC_START_EPOCH R.EXC_STAT_PEND _ (by decide),
      State.fg_fs_same _ _ _ (by decide)]
    rfl
  · rw [State.fg_of_regs hregs, State.fg_fs_same _ _ _ (by decide)]
    rfl
  · exact (s.fs_sameRegs R.EXC_STAT_PEND 1 (by decide)).trans (State.fs_sameRegs _ R.EXC_START_EPOCH _ (by decide))

theorem ctrlTaken_go {v : Word} (s : State) (h : wf v R.EXC_CTRL_STOP = 0) :
    ctrlTaken v s = s.setReg R.EXC_CTRL (w32 (ctrlKept v)) := if_neg (by omega)

/-- A GO that is accepted sets PEND for the start epoch (R154). -/
theorem excCtrlWrite_go {v : Word} {s : State} (hok : (excCtrlWrite v s).1 = .ok) (hgo : wf v R.EXC_CTRL_GO = 1)
    (hstop : wf v R.EXC_CTRL_STOP = 0) :
    (excCtrlWrite v s).2.fg R.EXC_STAT_PEND = 1 ∧ (excCtrlWrite v s).2.exc.start = firstMultiple 5120 2000 s.now ∧
      (excCtrlWrite v s).2.fg R.EXC_START_EPOCH = firstMultiple 5120 2000 s.now % 2 ^ 32 ∧
      SameRegs [R.EXC_CTRL, R.EXC_STAT, R.EXC_START] s (excCtrlWrite v s).2 := by
  rw [excCtrlWrite_taken hok, if_pos hgo, ctrlTaken_go s hstop]
  obtain ⟨hpend, hstart, hepoch, hregs⟩ := excArm_spec (s.setReg R.EXC_CTRL (w32 (ctrlKept v)))
  rw [State.setReg_now] at hstart hepoch
  have hctrl : SameRegs [R.EXC_CTRL, R.EXC_STAT, R.EXC_START] s (s.setReg R.EXC_CTRL (w32 (ctrlKept v))) :=
    .setReg s _ (by decide)
  exact ⟨hpend, hstart, hepoch, hctrl.trans (hregs.mono (by decide))⟩

/-! ## A stop (R159) -/

/-- After a stop the cells are given back now, or wait for the next carrier boundary. -/
theorem excStop_returns {cause : Nat} {s : State} (h : s.excBusy = true) :
    if nextCarrier s ≤ s.epoch then (excStop cause s).excited = [] else (excStop cause s).exc.retAt = some (nextCarrier s) := by
  have hret : (stopping cause s).exc.retAt = some (nextCarrier s) := congrArg Exc.retAt (stopping_exc cause s)
  have hepoch : (stopping cause s).epoch = s.epoch := congrArg (· / 50) (stopping_now cause s)
  have htallied := balRefresh_tallied (stopping cause s)
  rw [excStop_busy cause h, ← hepoch]
  split
  case isTrue hdue => exact htallied.excited.trans (balMature_due_exc hret hdue).1
  case isFalse hwait =>
    refine htallied.retAt.trans ?_
    rw [balMature_early hret (Nat.not_le.1 hwait)]
    exact hret

/-- A stop leaves the run's block and pattern as they are. -/
theorem excStop_run (cause : Nat) (s : State) : ∃ cs r, (excStop cause s).exc = { s.exc with cells := cs, retAt := r } := by
  by_cases h : s.excBusy = true
  · obtain ⟨cs, r, hrun⟩ := (balRefresh_switching (stopping cause s)).run
    rw [excStop_busy cause h, hrun, stopping_exc]
    exact ⟨cs, r, rfl⟩
  · rw [excStop, if_neg h]
    exact ⟨_, _, rfl⟩

theorem excStop_now (cause : Nat) (s : State) : (excStop cause s).now = s.now := by
  by_cases h : s.excBusy = true
  · rw [excStop_busy cause h]
    exact (balRefresh_bleeds _).now.trans (stopping_now cause s)
  · rw [excStop, if_neg h]

/-! ## The start epoch (R149, R151, R154) -/

/-- The cells that a start takes from the selection, with depth 0 and their bias. -/
def startCells (s : State) : List (Nat × ExcCell) :=
  s.selected.map fun n => (n, ({ bias := biasOf s n, pos := 16 * s.exc.start } : ExcCell))

/-- EXC_STAT of a run on `n` cells. -/
def runShown (n : Nat) (s : State) : State := ((s.fs R.EXC_STAT_PEND 0).fs R.EXC_STAT_RUN 1).fs R.EXC_STAT_NACT n

/-- The EXC_IONk name the cells. -/
def ionShown (cs : List (Nat × ExcCell)) (s : State) : State :=
  (List.range 8).foldl (fun t k =>
    t.setReg (R.EXC_ION k) (w32 (match cs[k]? with | some (n, _) => n * 0x4000000 | none => 0))) s

/-- The pattern generator at the start epoch. -/
def excBegun (s : State) : State :=
  let s1 := runShown (startCells s).length s
  { s1 with exc := { s1.exc with
    blk := s.exc.start, cells := startCells s, set := excSet s1, retAt := none, lfsr := 2 ^ s1.fg R.EXC_PRBS_ORDER - 1, chip := 0 } }

/-- Excitation has started. -/
def excStarted (s : State) : State := svcStart (startCells s) (ionShown (startCells s) ((excBegun s).fs R.EXC_STAT_SAT 0))

/-- The state at the start epoch, after a return that is due. -/
def atStart (s : State) : State := balMature (s.until (50 * s.exc.start))

theorem excitationStart_eq {s : State} (h : s.fg R.EXC_STAT_PEND = 1) :
    excitationStart s = capCheck (balRefresh (excStarted (atStart s))) := by
  have hpend : s.fb R.EXC_STAT_PEND = true := by simp [State.fb, h]
  rw [excitationStart, if_pos hpend]
  rfl

/-- The registers that a start writes. -/
def excStartedRegs : List Nat := R.EXC_STAT :: (List.range 8).map R.EXC_ION

theorem ionShown_sameRegs (cs : List (Nat × ExcCell)) (s : State) : SameRegs ((List.range 8).map R.EXC_ION) s (ionShown cs s) :=
  .foldl _ _ s fun t _ hk => .setReg t _ (List.mem_map_of_mem hk)

theorem ionShown_frame (cs : List (Nat × ExcCell)) (s : State) : ∃ rg, ionShown cs s = { s with regs := rg } :=
  List.foldlRecOn (motive := fun t : State => ∃ rg, t = { s with regs := rg }) _ _ ⟨_, rfl⟩ fun t ht k _ => by
    obtain ⟨rg, rfl⟩ := ht
    exact ⟨_, rfl⟩

theorem runShown_sameRegs (n : Nat) (s : State) : SameRegs [R.EXC_STAT] s (runShown n s) :=
  ((s.fs_sameRegs R.EXC_STAT_PEND 0 (by decide)).trans (State.fs_sameRegs _ R.EXC_STAT_RUN 1 (by decide))).trans
    (State.fs_sameRegs _ R.EXC_STAT_NACT n (by decide))

theorem runShown_fields (n : Nat) (s : State) :
    (runShown n s).fg R.EXC_STAT_RUN = 1 ∧ (runShown n s).fg R.EXC_STAT_PEND = 0 := by
  unfold runShown
  constructor
  · rw [State.fg_fs_disj _ R.EXC_STAT_NACT R.EXC_STAT_RUN n (by decide) rfl (by decide), State.fg_fs_same _ _ _ (by decide)]
    rfl
  · rw [State.fg_fs_disj _ R.EXC_STAT_NACT R.EXC_STAT_PEND n (by decide) rfl (by decide),
      State.fg_fs_disj _ R.EXC_STAT_RUN R.EXC_STAT_PEND 1 (by decide) rfl (by decide), State.fg_fs_same _ _ _ (by decide)]
    rfl

theorem excStarted_regs (s : State) :
    (excStarted s).regs = (ionShown (startCells s) ((excBegun s).fs R.EXC_STAT_SAT 0)).regs := rfl

theorem excStarted_fields (s : State) :
    (excStarted s).fg R.EXC_STAT_RUN = 1 ∧ (excStarted s).fg R.EXC_STAT_PEND = 0 := by
  obtain ⟨hrun, hpend⟩ := runShown_fields (startCells s).length s
  have hstat : (excStarted s).reg R.EXC_STAT = ((excBegun s).fs R.EXC_STAT_SAT 0).reg R.EXC_STAT :=
    (State.reg_congr (excStarted_regs s) _).trans (ionShown_sameRegs _ _ _ (by decide))
  rw [State.fg_congr R.EXC_STAT_RUN hstat, State.fg_congr R.EXC_STAT_PEND hstat,
    State.fg_fs_disj _ R.EXC_STAT_SAT R.EXC_STAT_RUN 0 (by decide) rfl (by decide),
    State.fg_fs_disj _ R.EXC_STAT_SAT R.EXC_STAT_PEND 0 (by decide) rfl (by decide)]
  exact ⟨hrun, hpend⟩

theorem excStarted_sameRegs (s : State) : SameRegs excStartedRegs s (excStarted s) := by
  have hbegun : SameRegs [R.EXC_STAT] s (excBegun s) := (runShown_sameRegs (startCells s).length s).trans (.of_regs rfl)
  have hstat : SameRegs [R.EXC_STAT] s ((excBegun s).fs R.EXC_STAT_SAT 0) :=
    hbegun.trans (State.fs_sameRegs _ R.EXC_STAT_SAT 0 (by decide))
  have hion : SameRegs excStartedRegs s (ionShown (startCells s) ((excBegun s).fs R.EXC_STAT_SAT 0)) :=
    (hstat.mono (by decide)).trans
      ((ionShown_sameRegs (startCells s) _).mono fun a ha => List.mem_cons_of_mem _ ha)
  exact hion.trans (.of_regs (excStarted_regs s))

theorem excStarted_exc (s : State) : (excStarted s).exc = (excBegun s).exc := by
  obtain ⟨rg, hframe⟩ := ionShown_frame (startCells s) ((excBegun s).fs R.EXC_STAT_SAT 0)
  rw [excStarted, hframe]
  rfl

theorem excStarted_now (s : State) : (excStarted s).now = s.now := by
  obtain ⟨rg, hframe⟩ := ionShown_frame (startCells s) ((excBegun s).fs R.EXC_STAT_SAT 0)
  rw [excStarted, hframe]
  simp only [svcStart, State.fs_now, excBegun, runShown]

theorem startCells_cells (s : State) : ((startCells s).map fun c => (c.1, c.2.m)) = s.selected.map fun n => (n, 0) := by
  simp [startCells, List.map_map, Function.comp_def]

theorem selected_congr {l : List Nat} {s t : State} (h : SameRegs l s t) (h0 : R.EXC_SEL0 ∉ l) (h1 : R.EXC_SEL1 ∉ l) :
    t.selected = s.selected := by
  simp only [State.selected, State.cellBit_of_sameRegs h h0 h1]

theorem State.until_now (s : State) (t : Nat) : (s.until t).now = max s.now t := by
  change s.now + (t - s.now) = _
  omega

/-- At the start epoch the switches have been brought up to date at most. -/
theorem atStart_switching (s : State) : Switching (s.until (50 * s.exc.start)) (atStart s) := balMature_switching _

/-- After the start and its refresh excitation runs on the selected cells (R151, R154). -/
theorem started_spec (s : State) :
    (balRefresh (excStarted (atStart s))).fg R.EXC_STAT_RUN = 1 ∧ (balRefresh (excStarted (atStart s))).fg R.EXC_STAT_PEND = 0 ∧
      (balRefresh (excStarted (atStart s))).excited = s.selected ∧
      ((balRefresh (excStarted (atStart s))).exc.cells.all fun c => c.2.m == 0) = true ∧
      (balRefresh (excStarted (atStart s))).exc.blk = s.exc.start ∧
      (balRefresh (excStarted (atStart s))).now = max s.now (50 * s.exc.start) ∧
      capOf (balRefresh (excStarted (atStart s))) = capOf s := by
  have hcome := atStart_switching s
  have hselected : (atStart s).selected = s.selected := selected_congr hcome.regs (by decide) (by decide)
  have hexc := excStarted_exc (atStart s)
  have hregs := excStarted_sameRegs (atStart s)
  obtain ⟨hrun, hpend⟩ := excStarted_fields (atStart s)
  have hrefresh := balRefresh_switching (excStarted (atStart s))
  have htallied := balRefresh_tallied (excStarted (atStart s))
  rw [balMature_none (congrArg Exc.retAt hexc), hexc] at htallied
  have hstat := balRefresh_excStat (excStarted (atStart s))
  have hnow := hrefresh.bleeds.now.trans ((excStarted_now _).trans (hcome.bleeds.now.trans (s.until_now _)))
  have hctrl := hrefresh.regs R.BAL_CTRL (by decide)
  have hband := hrefresh.band
  generalize balRefresh (excStarted (atStart s)) = t at htallied hstat hnow hctrl hband
  obtain ⟨cs, hcells, hdepths⟩ := htallied
  have hdepths : (cs.map fun c => (c.1, c.2.m)) = s.selected.map fun n => (n, 0) :=
    hdepths.trans ((startCells_cells _).trans (by rw [hselected]))
  refine ⟨(State.fg_congr _ hstat).trans hrun, (State.fg_congr _ hstat).trans hpend, ?_, ?_, ?_, hnow, ?_⟩
  · have hnames := congrArg (List.map Prod.fst) hdepths
    simp only [List.map_map, Function.comp_def, List.map_id'] at hnames
    rw [State.excited, hcells]
    exact hnames
  · have hzero : ((cs.map fun c => (c.1, c.2.m)).all fun d => d.2 == 0) = true := by simp [hdepths]
    rw [List.all_map] at hzero
    rw [hcells]
    exact hzero
  · obtain ⟨cs', r', hrun'⟩ := hcome.run
    rw [hcells]
    exact (congrArg Exc.start hrun').trans rfl
  · refine capOf_congr ((State.fg_congr _ hctrl).trans ?_) (hband.trans ?_)
    · exact State.fg_congr _ ((hregs R.BAL_CTRL (by decide)).trans (hcome.regs R.BAL_CTRL (by decide)))
    · exact (State.fg_congr _ (hregs R.BAL_STAT (by decide))).trans hcome.band

/-! ## Apertures leave the pattern generator (R58 to R74) -/

theorem calFinish_exc (s : State) : (calFinish s).exc = s.exc := by
  unfold calFinish
  split
  · split <;> rfl
  · rfl

theorem formWindows_exc (s : State) : (formWindows s).exc = s.exc := by
  rw [formWindows_windowsEnded s]

theorem refSend_exc (s : State) : (refSend s).exc = s.exc := by
  unfold refSend
  split
  · exact List.foldlRecOn (motive := fun t : State => t.exc = s.exc) _ _ rfl fun t ht w _ => (sendUp_exc ..).trans ht
  · rfl

theorem refSample_exc (p : PipeEnt) (s : State) : (refSample p s).exc = s.exc := by
  unfold refSample
  extract_lets e b s1 smp1 s1' smp2 s2
  have h1 : s1.exc = s.exc := by
    unfold s1
    split
    · exact refSend_exc _
    · rfl
  have h2 : s2.exc = s.exc := by
    unfold s2
    split
    · exact h1
    · exact h1
  split
  · exact h2
  · exact h2

theorem convert_exc (e seed : Nat) (inputs : List Int) (n : Nat) (s : State) : (convert e seed inputs n s).1.exc = s.exc := by
  unfold convert
  extract_lets src r ems x smp1 s1
  have h1 : s1.exc = s.exc := by
    unfold s1
    split
    · split
      · rfl
      · split
        · rfl
        · split <;> rfl
    · rfl
  have htaps : (taps n e x s1).exc = s1.exc := by
    unfold taps
    split <;> rfl
  exact htaps.trans h1

theorem liveLoss_exc (m : Nat) (s : State) : (liveLoss m s).exc = s.exc := by
  unfold liveLoss
  split
  · rfl
  · extract_lets s1 s2
    have h2 : s2.exc = s.exc := sendUp_exc ..
    split
    · split
      · exact h2
      · exact (State.raise_exc ..).trans h2
    · rfl

theorem liveStale_exc (n : Nat) (x : Except Nat (Int × Bool × Bool)) (s : State) : (liveStale n x s).exc = s.exc := by
  unfold liveStale
  split
  · split
    · exact liveLoss_exc _ _
    · rfl
  · rfl

theorem crossAdd_exc (ws : List (Nat × Except Nat (Int × Bool × Bool))) (s : State) : (crossAdd ws s).exc = s.exc := by
  unfold crossAdd
  extract_lets j find
  split <;> rfl

theorem convertAll_exc (e : Nat) (inputs : List Int) (s : State) : (convertAll e inputs s).exc = s.exc := by
  unfold convertAll
  extract_lets seed r ax s1
  have hr : r.1.exc = s.exc := by
    unfold r
    refine List.foldlRecOn (motive := fun y : State × List (Nat × Except Nat (Int × Bool × Bool)) => y.1.exc = s.exc) (upTo 52) _
      ?_ fun y hy n _ => (liveStale_exc ..).trans ((convert_exc ..).trans hy)
    dsimp only
  have h1 : s1.exc = s.exc := (crossAdd_exc r.2 r.1).trans hr
  clear_value s1 ax
  exact h1

theorem epochAperture_exc (e : Nat) (inputs : List Int) (s : State) :
    (epochAperture e inputs s).exc = (balMature (s.until (50 * e))).exc := by
  unfold epochAperture
  extract_lets s1 gone keep blank conv ent smp1 s2 s3
  have h1 : s1.exc = (balMature (s.until (50 * e))).exc := by
    refine (formWindows_exc _).trans ((calFinish_exc _).trans ?_)
    rw [updateCoh_frame]
  clear_value s1
  have h3 : s3.exc = s2.exc := by
    unfold s3
    split
    · exact List.foldlRecOn (motive := fun t : State => t.exc = s2.exc) gone _ rfl fun t ht p _ => (refSample_exc p t).trans ht
    · rfl
  split
  · exact (convertAll_exc ..).trans (h3.trans h1)
  · exact h3.trans h1

/-- At a carrier boundary that has come the switches return to the scheduler (R159). -/
theorem epochAperture_returns {e r : Nat} (inputs : List Int) {s : State} (h : s.exc.retAt = some r) (hr : r ≤ e) :
    (epochAperture e inputs s).excited = [] ∧ (epochAperture e inputs s).exc.retAt = none := by
  have hdue : r ≤ (s.until (50 * e)).epoch := by
    rw [State.epoch, State.until_now]
    omega
  have hexc := epochAperture_exc e inputs s
  rw [State.excited, hexc]
  exact balMature_due_exc (s := s.until (50 * e)) h hdue

/-! ## The end of a block (R155 to R158) -/

theorem State.setCellBit_now (s : State) (a0 a1 n : Nat) (b : Bool) : (s.setCellBit a0 a1 n b).now = s.now := by
  unfold State.setCellBit
  split
  · exact State.setReg_now ..
  · exact State.setReg_now ..

theorem blockCell_now (data : List SenseBlock) (next : Nat) (s : State) (nc : Nat × ExcCell) :
    (blockCell data next s nc).1.now = s.now := by
  unfold blockCell
  extract_lets n c b live ion word k s1 dead
  have h1 : s1.now = s.now := (sendUp_now ..).trans (State.setReg_now ..)
  clear_value s1
  split
  · exact (State.raise_now ..).trans ((s1.setCellBit_now ..).trans h1)
  · split
    next m sat _ =>
      extract_lets nb nx
      split
      · exact h1
      · exact (sendUp_now ..).trans h1

/-- Notes of openings leave the registers, the datum and the pattern generator. -/
theorem foldl_noteOpen_keeps (l : List (Nat × ExcCell)) (p : Nat × ExcCell → Nat) (s : State) :
    (l.foldl (fun t c => noteOpen c.1 (p c) t) s).regs = s.regs ∧ (l.foldl (fun t c => noteOpen c.1 (p c) t) s).now = s.now ∧
      (l.foldl (fun t c => noteOpen c.1 (p c) t) s).exc = s.exc :=
  List.foldlRecOn (motive := fun t : State => t.regs = s.regs ∧ t.now = s.now ∧ t.exc = s.exc) l _ ⟨rfl, rfl, rfl⟩
    fun t ht c _ => by
      simp only [noteOpen]
      exact ht

/-- The closed time and the samples of the block have been counted, at its end. -/
def blockTallied (s : State) : State := excCredit (s.exc.blk + 5120) (s.until (50 * (s.exc.blk + 5120)))

/-- The loop over the cells under excitation, with those that stay. -/
def blockLoop (data : List SenseBlock) (s : State) : State × List (Nat × ExcCell) :=
  (blockTallied s).exc.cells.foldl (fun (a : State × List (Nat × ExcCell)) nc =>
    let x := blockCell data (s.exc.blk + 5120) a.1 nc
    (x.1, a.2 ++ x.2.toList)) (blockTallied s, [])

/-- The cells that the block's end takes from excitation. -/
def blockGone (data : List SenseBlock) (s : State) : List (Nat × ExcCell) :=
  (blockTallied s).exc.cells.filter fun c => !((blockLoop data s).2.any fun d => d.1 == c.1)

/-- The pattern generator goes on to the next block with the cells that stay. -/
def blockMoved (data : List SenseBlock) (s : State) : State :=
  { (blockLoop data s).1 with exc := { (blockLoop data s).1.exc with
    cells := (blockLoop data s).2, blk := s.exc.blk + 5120
    lfsr := (blockReg (blockTallied s)).1, chip := (blockReg (blockTallied s)).2 } }

/-- The cells that the block's end takes from excitation have left it. -/
def blockReturned (data : List SenseBlock) (s : State) : State :=
  svcLeave (s.exc.blk + 5120) (fun n => (blockGone data s).any fun c => c.1 == n)
    ((blockGone data s).foldl (fun t c => noteOpen c.1 (lastOpening (blockTallied s) c.2 (16 * (s.exc.blk + 5120))) t)
      (blockMoved data s))

/-- The block has ended, before a stop or a return of switches that it brings. -/
def blockEnded (data : List SenseBlock) (s : State) : State :=
  ((blockReturned data s).fs R.EXC_STAT_NACT (blockLoop data s).2.length).fs R.EXC_STAT_SAT
    (b2n ((blockLoop data s).2.any fun c => c.2.sat))

theorem excitationBlockEnd_eq (data : List SenseBlock) {s : State} (h : s.fg R.EXC_STAT_RUN = 1) :
    excitationBlockEnd data s =
      if (blockLoop data s).2.isEmpty then excStop 4 (blockEnded data s)
      else if (blockGone data s).isEmpty then blockEnded data s else balRefresh (blockEnded data s) := by
  have hrun : s.fb R.EXC_STAT_RUN = true := by simp [State.fb, h]
  rw [excitationBlockEnd, if_pos hrun]
  rfl

theorem Tallied.blockReg {s t : State} (h : Tallied s.exc t.exc) : blockReg t = blockReg s := by
  obtain ⟨cs, hexc, -⟩ := h
  unfold Machine.blockReg
  rw [hexc]

theorem blockTallied_tallied (s : State) : Tallied s.exc (blockTallied s).exc := by
  have h := excCredit_tallied (s.exc.blk + 5120) (s.until (50 * (s.exc.blk + 5120)))
  rwa [State.until_exc] at h

theorem blockTallied_regs (s : State) : (blockTallied s).regs = s.regs := (excCredit_regs ..).trans (State.until_regs ..)

theorem blockTallied_now (s : State) : (blockTallied s).now = max s.now (50 * (s.exc.blk + 5120)) :=
  (excCredit_bleeds _ _).now.trans (s.until_now _)

theorem blockLoop_now (data : List SenseBlock) (s : State) : (blockLoop data s).1.now = (blockTallied s).now :=
  List.foldlRecOn (motive := fun y : State × List (Nat × ExcCell) => y.1.now = (blockTallied s).now) _ _ rfl
    fun y hy nc _ => (blockCell_now data _ y.1 nc).trans hy

theorem blockReturned_keeps (data : List SenseBlock) (s : State) :
    (blockReturned data s).regs = (blockLoop data s).1.regs ∧ (blockReturned data s).now = (blockLoop data s).1.now ∧
      (blockReturned data s).exc = (blockMoved data s).exc := by
  have hkeeps := foldl_noteOpen_keeps (blockGone data s)
    (fun c => lastOpening (blockTallied s) c.2 (16 * (s.exc.blk + 5120))) (blockMoved data s)
  simp only [blockReturned, svcLeave]
  exact hkeeps

theorem blockEnded_run (data : List SenseBlock) (s : State) :
    (blockEnded data s).fg R.EXC_STAT_RUN = (blockLoop data s).1.fg R.EXC_STAT_RUN := by
  obtain ⟨hregs, -, -⟩ := blockReturned_keeps data s
  rw [blockEnded, State.fg_fs_disj _ R.EXC_STAT_SAT R.EXC_STAT_RUN _ (by decide) rfl (by decide),
    State.fg_fs_disj _ R.EXC_STAT_NACT R.EXC_STAT_RUN _ (by decide) rfl (by decide), State.fg_of_regs hregs]

/-- At its end the block gives way to the next one (R155). -/
theorem blockEnded_spec (data : List SenseBlock) (s : State) :
    (blockEnded data s).exc.blk = s.exc.blk + 5120 ∧ (blockEnded data s).now = max s.now (50 * (s.exc.blk + 5120)) ∧
      ((blockEnded data s).exc.lfsr, (blockEnded data s).exc.chip) = blockReg s := by
  obtain ⟨-, hnow, hexc⟩ := blockReturned_keeps data s
  have hexc : (blockEnded data s).exc = (blockMoved data s).exc := hexc
  have hnow : (blockEnded data s).now = (blockLoop data s).1.now := hnow
  rw [hexc, hnow, blockLoop_now, blockTallied_now, ← (blockTallied_tallied s).blockReg]
  exact ⟨rfl, rfl, rfl⟩

/-- Whatever the block's end brings, the next block is in progress. -/
theorem excitationBlockEnd_spec (data : List SenseBlock) {s : State} (h : s.fg R.EXC_STAT_RUN = 1) :
    (excitationBlockEnd data s).exc.blk = s.exc.blk + 5120 ∧
      (excitationBlockEnd data s).now = max s.now (50 * (s.exc.blk + 5120)) ∧
      ((excitationBlockEnd data s).exc.lfsr, (excitationBlockEnd data s).exc.chip) = blockReg s := by
  have hended := blockEnded_spec data s
  rw [excitationBlockEnd_eq data h]
  generalize blockEnded data s = u at hended
  split
  · obtain ⟨cs, r, hrun⟩ := excStop_run 4 u
    rw [hrun, excStop_now]
    exact hended
  · split
    · exact hended
    · obtain ⟨cs, r, hrun⟩ := (balRefresh_switching u).run
      rw [hrun, (balRefresh_bleeds u).now]
      exact hended

/-- Excitation of no cell is over at the block's end (R158, R159). -/
theorem excitationBlockEnd_last (data : List SenseBlock) {s : State} (h : s.fg R.EXC_STAT_RUN = 1) (hnone : s.exc.cells = []) :
    (excitationBlockEnd data s).excBusy = false ∧ (excitationBlockEnd data s).fg R.EXC_STAT_STOPCAUSE = 4 := by
  have hcells : (blockTallied s).exc.cells = [] := by
    obtain ⟨cs, hexc, hcs⟩ := blockTallied_tallied s
    rw [hnone] at hcs
    rw [hexc]
    exact List.map_eq_nil_iff.1 hcs
  have hloop : blockLoop data s = (blockTallied s, []) := by rw [blockLoop, hcells]; rfl
  have hrun : (blockEnded data s).fg R.EXC_STAT_RUN = 1 := by
    rw [blockEnded_run, hloop]
    exact (State.fg_of_regs (blockTallied_regs s) _).trans h
  have hbusy : (blockEnded data s).excBusy = true := by simp [State.excBusy, State.fb, hrun]
  have hempty : (blockLoop data s).2.isEmpty = true := by rw [hloop]; rfl
  rw [excitationBlockEnd_eq data h, if_pos hempty]
  exact ⟨(excStop_spec 4 _).1, excStop_cause hbusy (by decide)⟩

/-! ## EXC_STOP and EXC_START (R426) -/

theorem excStopReq_served {q : Packet} {s : State} (hpay : q.payload = []) (hok : accessCheck s R.EXC_CTRL (s.reg R.EXC_CTRL) = none) :
    excStopReq q s = reply q .ok (leBytes 4 ((excStop 1 s).fg R.EXC_STAT_STOPCAUSE)) 0 (excStop 1 s) := by
  simp [excStopReq, hpay, hok]

theorem reply_exc (q : Packet) (t : Stat) (body : List Byte) (s : State) (h : q.noReply = false) :
    (reply q t body 0 s).exc = s.exc := by
  obtain ⟨rest, hsends⟩ := replyAs_sends t.disp q t body 0 s h
  rw [reply, hsends.frame]
  rfl

/-- Registers below the host ports' counters are none that a reply steps. -/
theorem not_mem_replyCounters {v : Via} {a : Nat} (h : a < 0x130108) : a ∉ replyCounters v := fun hm =>
  absurd (le_of_mem_replyCounters hm) (Nat.not_le.2 h)

theorem foldl_excTry_stuck (l : List (Nat × Word)) {x : Stat × State} (h : x.1 ≠ .ok) : l.foldl excTry x = x := by
  induction l with
  | nil => rfl
  | cons e l ih =>
    have hstuck : excTry x e = x := if_pos h
    rw [List.foldl_cons, hstuck, ih]

/-- Registers that are all accepted were accepted up to each of them. -/
theorem foldl_excTry_ok {l : List (Nat × Word)} {x : Stat × State} (h : (l.foldl excTry x).1 = .ok) : x.1 = .ok := by
  by_contra hne
  rw [foldl_excTry_stuck l hne] at h
  exact hne h

theorem applyWrite_now (a : Nat) (v : Word) (s : State) : (applyWrite a v s).now = s.now := by
  unfold applyWrite
  split <;> rfl

theorem excWrite_keeps (a : Nat) (v : Word) (s : State) :
    (excWrite a v s).2.now = s.now ∧ SameRegs [a] s (excWrite a v s).2 := by
  simp only [excWrite]
  split
  · exact ⟨rfl, .refl _ s⟩
  · split
    · exact ⟨rfl, .refl _ s⟩
    · exact ⟨applyWrite_now a v s, applyWrite_sameRegs a v s⟩

theorem excTry_keeps (x : Stat × State) (e : Nat × Word) :
    (excTry x e).2.now = x.2.now ∧ SameRegs [e.1] x.2 (excTry x e).2 := by
  unfold excTry
  split
  · exact ⟨rfl, .refl _ _⟩
  · split
    · exact ⟨rfl, .refl _ _⟩
    · exact excWrite_keeps ..

theorem foldl_excTry_keeps {a : Nat} {l : List (Nat × Word)} (x : Stat × State) (h : ∀ e ∈ l, e.1 ≠ a) :
    (l.foldl excTry x).2.now = x.2.now ∧ (l.foldl excTry x).2.reg a = x.2.reg a :=
  List.foldlRecOn (motive := fun y : Stat × State => y.2.now = x.2.now ∧ y.2.reg a = x.2.reg a) l _ ⟨rfl, rfl⟩
    fun y hy e he => by
      obtain ⟨hnow, hregs⟩ := excTry_keeps y e
      exact ⟨hnow.trans hy.1, (hregs a (by simpa using (h e he).symm)).trans hy.2⟩

theorem unreachable_ne_ok (s : State) (a : Nat) : unreachable s a ≠ some .ok := by
  unfold unreachable
  split
  · decide
  · split
    · decide
    · split <;> decide

/-- The row of EXC_SEL0: a word of writable bits. -/
theorem findReg_sel0 : findReg R.EXC_SEL0 = some ⟨0x050008, [], 0xFFFFFFFF, 0, 0, 0, 0, 0, 0⟩ := by decide

/-- EXC_SEL0 is in every variant, so no write of it is passed over. -/
theorem accessCheck_sel0 (s : State) (v : Word) : accessCheck s R.EXC_SEL0 v ≠ some .ok := by
  have habsent : absentReg s R.EXC_SEL0 = false := rfl
  unfold accessCheck
  rw [if_neg (by decide), findReg_sel0]
  simp only [habsent, Bool.false_eq_true, if_false]
  split
  next t ht =>
    rw [← ht]
    exact unreachable_ne_ok s R.EXC_SEL0
  next =>
    split
    · decide
    · split
      · decide
      · decide

theorem applyWrite_sel0 (v : Word) (s : State) : (applyWrite R.EXC_SEL0 v s).reg R.EXC_SEL0 = v := by
  refine BitVec.eq_of_getLsbD_eq fun i hi => ?_
  refine (testBit_applyWrite v s findReg_sel0 hi).trans (if_pos ?_)
  rw [show (0xFFFFFFFF : Nat) = 2 ^ 32 - 1 by rfl, Nat.testBit_two_pow_sub_one]
  simpa using hi

theorem excWrite_taken {a : Nat} {v : Word} {s : State} (h : (excWrite a v s).1 = .ok) : (excWrite a v s).2 = applyWrite a v s := by
  simp only [excWrite] at h ⊢
  split at h
  · cases h
  · next hrange =>
    rw [if_neg hrange]
    split at h
    · cases h
    · next hfixed => rw [if_neg hfixed]

theorem excTry_sel0 {v : Word} {s : State} (h : (excTry (.ok, s) (R.EXC_SEL0, v)).1 = .ok) :
    (excTry (.ok, s) (R.EXC_SEL0, v)).2.reg R.EXC_SEL0 = v := by
  cases hcheck : accessCheck s R.EXC_SEL0 v with
  | some t =>
    have hrefused : excTry (.ok, s) (R.EXC_SEL0, v) = (t, s) := by simp [excTry, hcheck]
    rw [hrefused] at h
    exact absurd (hcheck.trans (congrArg some h)) (accessCheck_sel0 s v)
  | none =>
    have hwritten : excTry (.ok, s) (R.EXC_SEL0, v) = excWrite R.EXC_SEL0 v s := by simp [excTry, hcheck]
    rw [hwritten] at h ⊢
    rw [excWrite_taken h]
    exact applyWrite_sel0 v s

/-- EXC_SEL0 is the first register of the set, and no other is it. -/
theorem excStartRegs_eq (b : List Byte) : ∃ rest, excStartRegs b = (R.EXC_SEL0, w32 (u32 b 4)) :: rest ∧ ∀ e ∈ rest, e.1 ≠ R.EXC_SEL0 := by
  refine ⟨(excStartRegs b).tail, rfl, ?_⟩
  have hadr : ∀ a ∈ ((excStartRegs b).map Prod.fst).tail, a ≠ R.EXC_SEL0 := by
    have hlist : (excStartRegs b).map Prod.fst = (List.range 20).map fun i =>
        if i = 0 then R.EXC_SEL0 else if i = 1 then R.EXC_SEL1 else if i = 2 then R.EXC_AMP
        else if i = 3 then R.EXC_PRBS else R.EXC_TONE (i - 4) := by
      simp only [excStartRegs, List.map_map, Function.comp_def]
    rw [hlist]
    decide
  rw [← List.map_tail] at hadr
  exact fun e he => hadr e.1 (List.mem_map_of_mem he)

/-- What the registers of EXC_START leave when they are all accepted: the selection and the datum. -/
theorem excStartRegs_taken {b : List Byte} {s : State} (h : ((excStartRegs b).foldl excTry (.ok, s)).1 = .ok) :
    ((excStartRegs b).foldl excTry (.ok, s)).2.reg R.EXC_SEL0 = w32 (u32 b 4) ∧
      ((excStartRegs b).foldl excTry (.ok, s)).2.now = s.now := by
  obtain ⟨rest, hregs, hrest⟩ := excStartRegs_eq b
  rw [hregs, List.foldl_cons] at h ⊢
  obtain ⟨hnow, hreg⟩ := foldl_excTry_keeps (excTry (.ok, s) (R.EXC_SEL0, w32 (u32 b 4))) hrest
  exact ⟨hreg.trans (excTry_sel0 (foldl_excTry_ok h)), hnow.trans (excTry_keeps ..).1⟩

/-- The registers of EXC_START have been tried as if excitation were idle. -/
def excTried (b : List Byte) (s : State) : Stat × State :=
  (excStartRegs b).foldl excTry (.ok, (s.fs R.EXC_STAT_RUN 0).fs R.EXC_STAT_PEND 0)

theorem excTried_taken {b : List Byte} {s : State} (h : (excTried b s).1 = .ok) :
    (excTried b s).2.reg R.EXC_SEL0 = w32 (u32 b 4) ∧ (excTried b s).2.now = s.now := by
  unfold excTried at h ⊢
  obtain ⟨hsel, hnow⟩ := excStartRegs_taken h
  rw [State.fs_now, State.fs_now] at hnow
  exact ⟨hsel, hnow⟩

theorem excStartReq_served {q : Packet} {s : State} (hlen : q.payload.length = 84)
    (hgo : wf (w32 (u32 q.payload 0)) R.EXC_CTRL_GO = 1) (hstop : wf (w32 (u32 q.payload 0)) R.EXC_CTRL_STOP = 0)
    (hidle : s.excBusy = false) (hcheck : accessCheck s R.EXC_CTRL (w32 (u32 q.payload 0)) = none)
    (htried : (excTried q.payload s).1 = .ok) (hctrl : (excCtrlWrite (w32 (u32 q.payload 0)) (excTried q.payload s).2).1 = .ok) :
    excStartReq q s =
      reply q .ok (leBytes 4 ((excCtrlWrite (w32 (u32 q.payload 0)) (excTried q.payload s).2).2.fg R.EXC_START_EPOCH)) 0
        (excCtrlWrite (w32 (u32 q.payload 0)) (excTried q.payload s).2).2 := by
  unfold excTried at htried hctrl ⊢
  simp [excStartReq, hlen, hgo, hstop, hidle, hcheck, htried, hctrl]

/-- Settles O13: a case for each command, by the rule of its own. -/
theorem excitationCommandsTakeEffect : Obligations.ExcitationCommandsTakeEffect := by
  refine ⟨?go, ?start, ?startOver, ?stopWrite, fun e r inputs s hret hr => ?aperture, ?block, ?lastCell, ?stop, ?startReq⟩
  case go =>
    intro v s hok hstop hshape hcarrier hblo hbhi hbblo hbbhi hcheck
    have hkeep : ∀ f : Fld, f.lo + f.w ≤ 31 → wf (w32 (setBit v.toNat 31 true)) f = wf v f := fun f hf =>
      wf_setBit_disj (by decide) (.inr hf)
    have hgo : wf (w32 (setBit v.toNat 31 true)) R.EXC_CTRL_GO = 1 := wf_setBit_self (by decide) rfl rfl
    have hlegal : ExcLegal v := ⟨hshape, hcarrier, ⟨hblo, hbhi⟩, hbblo, hbbhi⟩
    have haccepted : (excCtrlWrite (w32 (setBit v.toNat 31 true)) s).1 = .ok := by
      refine excCtrlWrite_accepted (hlegal.setBit (by decide) (by decide)) (fun hbusy => ?_) fun _ => ?_
      · rw [not_busy_of_excGoCheck hcheck] at hbusy
        cases hbusy
      · rw [hkeep R.EXC_CTRL_SHAPE (by decide), hkeep R.EXC_CTRL_CARRIER (by decide)]
        exact hcheck
    obtain ⟨hpend, hstart, hepoch, hregs⟩ :=
      excCtrlWrite_go haccepted hgo ((hkeep R.EXC_CTRL_STOP (by decide)).trans hstop)
    refine Does.of_rule (f := direct R.EXC_CTRL (w32 (setBit v.toNat 31 true)) excCtrlWrite) rfl (fun _ h => h) ?_
    rw [direct_of_none hok, haccepted]
    exact ⟨hpend, hstart, hepoch, State.done_lastOut .., hregs⟩
  case start =>
    intro s hpend hfits
    obtain ⟨hrun, hidle, hexcited, hdepth, hblk, hnow, hcap⟩ := started_spec s
    have hwithin : capCheck (balRefresh (excStarted (atStart s))) = balRefresh (excStarted (atStart s)) := by
      rw [capCheck, if_neg]
      rw [hcap, hexcited]
      exact Nat.not_lt.2 hfits
    refine Does.of_rule (f := excitationStart) rfl (fun _ h => h) ?_
    rw [excitationStart_eq hpend, hwithin]
    exact ⟨hidle, hrun, hexcited, hdepth, hblk, hnow⟩
  case startOver =>
    intro s hpend hover
    obtain ⟨hrun, -, hexcited, -, -, -, hcap⟩ := started_spec s
    have hbusy : (balRefresh (excStarted (atStart s))).excBusy = true := by simp [State.excBusy, State.fb, hrun]
    refine Does.of_rule (f := excitationStart) rfl (fun _ h => h) ?_
    rw [excitationStart_eq hpend, capCheck, if_pos (by rw [hcap, hexcited]; exact hover)]
    exact ⟨(excStop_spec 3 _).1, excStop_cause hbusy (by decide)⟩
  case stopWrite =>
    intro v s hok hgo hshape hcarrier hblo hbhi hbblo hbbhi hkept hbusy
    have hkeep : wf (w32 (setBit v.toNat 30 true)) R.EXC_CTRL_GO = wf v R.EXC_CTRL_GO := wf_setBit_disj (by decide) (.inl (by decide))
    have hstop : wf (w32 (setBit v.toNat 30 true)) R.EXC_CTRL_STOP = 1 := wf_setBit_self (by decide) rfl rfl
    have hnogo : ¬wf (w32 (setBit v.toNat 30 true)) R.EXC_CTRL_GO = 1 := by omega
    have hlegal : ExcLegal v := ⟨hshape, hcarrier, ⟨hblo, hbhi⟩, hbblo, hbbhi⟩
    have haccepted : (excCtrlWrite (w32 (setBit v.toNat 30 true)) s).1 = .ok :=
      excCtrlWrite_accepted (hlegal.setBit (by decide) (by decide))
        (fun _ => (ctrlKept_setBit v (by decide) (by decide)).trans hkept) fun h => absurd h hnogo
    have hwritten : (s.setReg R.EXC_CTRL (w32 (ctrlKept (w32 (setBit v.toNat 30 true))))).excBusy = true :=
      (excBusy_congr (State.reg_setReg_ne s _ (by decide))).trans hbusy
    have hreturns := excStop_returns (cause := 1) hwritten
    refine Does.of_rule (f := direct R.EXC_CTRL (w32 (setBit v.toNat 30 true)) excCtrlWrite) rfl (fun _ h => h) ?_
    rw [direct_of_none hok, haccepted, excCtrlWrite_taken haccepted, if_neg hnogo, ctrlTaken, if_pos hstop]
    exact ⟨(excStop_spec 1 _).1, excStop_cause hwritten (by decide), hreturns, State.done_lastOut ..⟩
  case aperture =>
    exact Does.of_rule (f := epochAperture e inputs) rfl (fun _ h => h) (epochAperture_returns inputs hret hr)
  case block =>
    intro data s hrun
    exact Does.of_rule (f := excitationBlockEnd data) rfl (fun _ h => h) (excitationBlockEnd_spec data hrun)
  case lastCell =>
    intro data s hrun hnone
    exact Does.of_rule (f := excitationBlockEnd data) rfl (fun _ h => h) (excitationBlockEnd_last data hrun hnone)
  case stop =>
    intro p q s s1 ha hpay hq hok hbusy
    have hcause := excStop_cause (cause := 1) hbusy (by decide)
    refine Does.of_admits (k := excStopReq) rfl ha ?_
    rw [excStopReq_served hpay hok, hcause]
    obtain ⟨hreply, hbody, -, hregs⟩ := reply_spec q .ok (leBytes 4 1) (excStop 1 s1) hq
    have hstat := hregs R.EXC_STAT (not_mem_replyCounters (by decide))
    exact ⟨(excBusy_congr hstat).trans (excStop_spec 1 s1).1, (State.fg_congr R.EXC_STAT_STOPCAUSE hstat).trans hcause, hreply, hbody⟩
  case startReq =>
    intro p q s s1 ha hlen hq hgo hstop hidle hcheck htried hctrl
    obtain ⟨hpend, hstart, -, hkept⟩ := excCtrlWrite_go (s := (excTried q.payload s1).2) hctrl hgo hstop
    obtain ⟨hsel, hnow⟩ := excTried_taken htried
    rw [hnow] at hstart
    refine Does.of_admits (k := excStartReq) rfl ha ?_
    rw [excStartReq_served hlen hgo hstop hidle hcheck htried hctrl]
    generalize excCtrlWrite (w32 (u32 q.payload 0)) (excTried q.payload s1).2 = x at hpend hstart hkept
    obtain ⟨hreply, -, -, hregs⟩ := reply_spec q .ok (leBytes 4 (x.2.fg R.EXC_START_EPOCH)) x.2 hq
    refine ⟨?_, ?_, ?_, hreply⟩
    · exact (State.fg_congr R.EXC_STAT_PEND (hregs _ (not_mem_replyCounters (by decide)))).trans hpend
    · exact (congrArg Exc.start (reply_exc q .ok (leBytes 4 (x.2.fg R.EXC_START_EPOCH)) x.2 hq)).trans hstart
    · exact (hregs _ (not_mem_replyCounters (by decide))).trans ((hkept _ (by decide)).trans hsel)

end Sys2Proof.Machine

/-! # Impedance profiles: messages, windows, configuration, requests and shadows (R157, R167 to R195) -/

namespace Sys2Proof.Machine

/-! ## The words of a parcel's service (R196) -/

/-- Between `s` and `t` words of the parcels' profile services were written: only the registers and the tenants' words changed. -/
def SetsWords (s t : State) : Prop := t = { s with regs := t.regs, prf := { s.prf with ten := t.prf.ten } }

theorem SetsWords.refl (s : State) : SetsWords s s := rfl

theorem SetsWords.trans {s t u : State} (h : SetsWords s t) (h' : SetsWords t u) : SetsWords s u := by
  exact Eq.trans h' (by rw [h])

theorem SetsWords.now {s t : State} (h : SetsWords s t) : t.now = s.now := by rw [h]
theorem SetsWords.next {s t : State} (h : SetsWords s t) : t.prf.next = s.prf.next := by rw [h]
theorem SetsWords.gaps {s t : State} (h : SetsWords s t) : t.prf.gaps = s.prf.gaps := by rw [h]
theorem SetsWords.changes {s t : State} (h : SetsWords s t) : t.prf.changes = s.prf.changes := by rw [h]
theorem SetsWords.seqNext {s t : State} (h : SetsWords s t) : t.prf.seqNext = s.prf.seqNext := by rw [h]

theorem State.setPw_words (s : State) (q a : Nat) (v : Word) : SetsWords s (s.setPw q a v) := by
  unfold State.setPw
  split <;> rfl

theorem State.pinc_words (s : State) (q : Nat) (f : Fld) : SetsWords s (s.pinc q f) := s.setPw_words ..

theorem State.pw_setPw_same (s : State) (q a : Nat) (v : Word) : (s.setPw q a v).pw q a = v := by
  unfold State.setPw State.pw
  split
  · exact State.reg_setReg_same ..
  · exact Smap.get_set_same ..

theorem State.pw_setPw_ne (s : State) (q : Nat) {a b : Nat} (v : Word) (h : b ≠ a) : (s.setPw q a v).pw q b = s.pw q b := by
  unfold State.setPw State.pw
  split
  · exact State.reg_setReg_ne _ _ h
  · exact Smap.get_set_ne _ _ _ (by omega)

/-! ## Messages of the stack die (R157, R179, R180) -/

/-- What a bleed-state or bias message records before a gap is counted. -/
def switchNoted (w : Word) (gap : List Nat) (s : State) : State :=
  { s with prf := { s.prf with
    seqNext := some ((w.toNat / 0x200000 % 16 + 1) % 16)
    changes := (s.prf.changes.filter fun c => recentOnly s c.2) ++ [(w.toNat / 0x4000000, epochOf s 21 (w.toNat % 0x200000))]
    gaps := (s.prf.gaps.filter fun g => recentOnly s g) ++ gap } }

theorem switchMessage_first {w : Word} {s : State} (h : s.prf.seqNext = none) : switchMessage w s = switchNoted w [] s := by
  simp only [switchMessage, h]
  rfl

/-- A skipped number counts a gap in every service that runs (R180). -/
theorem switchMessage_gap {w : Word} {n : Nat} {s : State} (h : s.prf.seqNext = some n) (hn : n ≠ w.toNat / 0x200000 % 16) :
    switchMessage w s = (switchNoted w [s.epoch] s).each (prfInstances (switchNoted w [s.epoch] s)) fun q t =>
      t.pinc q R.PRF_DISC_GAP := by
  have hskip : (n != w.toNat / 0x200000 % 16) = true := bne_iff_ne.2 hn
  simp only [switchMessage, h, hskip]
  rfl

theorem switchMessage_words {w : Word} {n : Nat} {s : State} (h : s.prf.seqNext = some n) (hn : n ≠ w.toNat / 0x200000 % 16) :
    SetsWords (switchNoted w [s.epoch] s) (switchMessage w s) := by
  rw [switchMessage_gap h hn]
  exact List.foldlRecOn (motive := SetsWords (switchNoted w [s.epoch] s)) _ _ (.refl _) fun t ht q _ =>
    ht.trans (t.pinc_words q _)

/-- A message of the stack die goes to its subscribers: of the records, the engines' and the fabric's alone change. -/
theorem feedMessage_feeds (kind tag content : Nat) (s : State) : Feeds s (feedMessage kind tag content s) := feed_feeds ..

theorem Feeds.prf {s t : State} (h : Feeds s t) : t.prf = s.prf := by rw [h.2]
theorem Feeds.svc {s t : State} (h : Feeds s t) : t.svc = s.svc := by rw [h.2]
theorem Feeds.out {s t : State} (h : Feeds s t) : t.out = s.out := by rw [h.2]

/-- A bleed-state message that no message came before (R179, R208, R283). -/
theorem bleedStateMessage_first {w : Word} {s t : State} (h : s.prf.seqNext = none) (ht : bleedStateMessage w s = t) :
    t.prf.changes.getLast? = some (w.toNat / 0x4000000, epochOf s 21 (w.toNat % 0x200000)) ∧
      t.prf.seqNext = some ((w.toNat / 0x200000 % 16 + 1) % 16) ∧
      t.svc.bleed.getLast? = some (w.toNat / 0x4000000, epochOf s 21 (w.toNat % 0x200000), w.toNat.testBit 25) ∧
      t.lastOut = some { ch := .stream, args := [6, epochOf s 21 (w.toNat % 0x200000), w.toNat] } ∧
      t = { s with prf := t.prf, svc := t.svc, out := t.out, fab := t.fab, arr := t.arr, regs := t.regs } := by
  simp only [bleedStateMessage, switchMessage_first h] at ht
  have hfeed := ht ▸ feedMessage_feeds ..
  refine ⟨?_, ?_, ?_, ?_, hfeed.2.trans ?_⟩
  · rw [hfeed.prf]; exact List.getLast?_concat
  · rw [hfeed.prf]; rfl
  · rw [hfeed.svc]; exact List.getLast?_concat
  · rw [State.lastOut, hfeed.out]; exact List.getLast?_concat
  · rw [hfeed.prf, hfeed.svc, hfeed.out]; rfl

theorem excitationBiasMessage_gap {w : Word} {n : Nat} {s : State} (h : s.prf.seqNext = some n)
    (hn : n ≠ w.toNat / 0x200000 % 16) :
    (excitationBiasMessage w s).prf.gaps.getLast? = some s.epoch ∧
      (excitationBiasMessage w s).prf.changes.getLast? = some (w.toNat / 0x4000000, epochOf s 21 (w.toNat % 0x200000)) ∧
      (excitationBiasMessage w s).prf.seqNext = some ((w.toNat / 0x200000 % 16 + 1) % 16) ∧
      (excitationBiasMessage w s).svc.bias.getLast? =
        some (w.toNat / 0x4000000, epochOf s 21 (w.toNat % 0x200000), w.toNat.testBit 25) := by
  have hwords := switchMessage_words h hn
  refine ⟨?_, ?_, ?_, List.getLast?_concat⟩
  · exact (congrArg _ hwords.gaps).trans List.getLast?_concat
  · exact (congrArg _ hwords.changes).trans List.getLast?_concat
  · exact hwords.seqNext

/-- An excitation status message goes on with its tag and is kept (R157, R170, R283). -/
theorem excitationStatusMessage_spec {w : Word} {s t : State} (ht : excitationStatusMessage w s = t) :
    t.lastOut = some { ch := .stream, args := [2, (s.epoch / 5120 - 1) * 5120, w.toNat] } ∧
      t.svc.stats.getLast? = some { cell := w.toNat / 0x4000000, blk := (s.epoch / 5120 - 1) * 5120,
                                    m := w.toNat / 0x10000 % 1024, ion := w.toNat % 0x10000, arr := s.now,
                                    heard := tenantsOf s 6 none } ∧
      t = { s with svc := t.svc, out := t.out, fab := t.fab, arr := t.arr, regs := t.regs } := by
  unfold excitationStatusMessage at ht
  have hfeed := ht ▸ feedMessage_feeds ..
  refine ⟨?_, ?_, hfeed.2.trans ?_⟩
  · rw [State.lastOut, hfeed.out]; exact List.getLast?_concat
  · rw [hfeed.svc]; exact List.getLast?_concat
  · rw [hfeed.svc, hfeed.out]; rfl

/-! ## A window's outcome (R165 to R168, R176 to R186) -/

/-- The window's number is taken: the datum has come, and the point's next window is the one after. -/
def windowTaken (q n i j limit : Nat) (s : State) : State :=
  { s.until limit with prf := { s.prf with next := Smap.set (fun _ => 0) s.prf.next (ptKey q n i) (j + 1) } }

/-- The datum ns at which window `j` of point `i` is complete in the service of parcel `q`. -/
def windowLimit (s : State) (q i j : Nat) : Nat :=
  1000000000 * ((j + 1) * windowLen i) + 1000000 * s.pg q R.PRF_CTRL_LATE

theorem windowTaken_now (q n i j limit : Nat) (s : State) : (windowTaken q n i j limit s).now = max s.now limit :=
  s.until_now limit

theorem windowTaken_pg (q n i j limit : Nat) (s : State) (p : Nat) (f : Fld) :
    (windowTaken q n i j limit s).pg p f = s.pg p f := rfl

theorem State.until_prfRun (s : State) (limit q : Nat) : prfRun (s.until limit) q = prfRun s q := rfl

/-- What a window gives depends on nothing that taking its number changes. -/
theorem windowTaken_windowOut (q n i j limit : Nat) (s : State) (a b l : Nat) :
    windowOut (windowTaken q n i j limit s) q n i a b l = windowOut s q n i a b l := by
  have hruns : runsOf (windowTaken q n i j limit s) n b = runsOf s n b := rfl
  have hsource : sourceOf (windowTaken q n i j limit s) q = sourceOf s q := rfl
  have hspans : excludedSpans (windowTaken q n i j limit s) q n a b l = excludedSpans s q n a b l := rfl
  have hgood : goodWords (windowTaken q n i j limit s) q n i = goodWords s q n i := rfl
  have hstring : stringWords (windowTaken q n i j limit s) q i l = stringWords s q i l := rfl
  have hbleed : bleedWords (windowTaken q n i j limit s) q n i a b l = bleedWords s q n i a b l := rfl
  have hdead : deadBlocks (windowTaken q n i j limit s) q n a b l = deadBlocks s q n a b l := rfl
  simp only [windowOut, windowTaken_pg, hruns, hsource, hspans, hgood, hstring, hbleed, hdead]

/-- A window of a service that does not run changes nothing but the datum (R198). -/
theorem profileWindowComplete_stopped {q n i j : Nat} {s : State} (h : prfRun s q = false) :
    profileWindowComplete q n i j s = s.until (windowLimit s q i j) := by
  simp only [profileWindowComplete, State.until_prfRun, h, Bool.false_and]
  rfl

/-- The point is computed and window `j` is the next that it computes (R165 to R167, R183). -/
structure WindowDue (q n i j : Nat) (s : State) : Prop where
  run : prfRun s q = true
  cell : profiled s q n = true
  point : pointOn s q i = true
  top : i ≤ prfImax s q
  rate : rateOk s q n i = true
  refresh : j % 2 ^ prfRdiv s q = 0
  next : Smap.get (fun _ => 0) s.prf.next (ptKey q n i) ≤ j

/-- The derived values follow a point from 25 upwards (R189). -/
def withDerived (q n i t : Nat) (s : State) : State := if 25 ≤ i then derive q n t s else s

/-- A whole window without a gap or a switch change that gives phasors is delivered, and the derived values follow. -/
theorem profileWindowComplete_good {q n i j kind : Nat} {v x : Phasor} {part frz xst : Bool} {s : State}
    (hdue : WindowDue q n i j s) (hwhole : Smap.get (fun _ => 0) s.prf.since (ptKey q n i) ≤ j * windowLen i)
    (hgaps : s.prf.gaps = []) (hchanges : s.prf.changes = [])
    (hout : windowOut s q n i (20000000 * (j * windowLen i)) (20000000 * ((j + 1) * windowLen i)) (windowLimit s q i j) =
      .good v x kind part frz xst) :
    profileWindowComplete q n i j s = withDerived q n i ((j + 1) * windowLen i)
      (deliver q n i (20000000 * ((j + 1) * windowLen i) - 1) v x kind part frz xst
        (windowTaken q n i j (windowLimit s q i j) s)) := by
  obtain ⟨hrun, hcell, hpoint, htop, hrate, hrefresh, hnext⟩ := hdue
  unfold profileWindowComplete withDerived
  extract_lets w t1 limit s0 a b earliest on_ prf0 s1 whole s2
  have hon : on_ = true := by
    simp only [on_, Bool.and_eq_true, decide_eq_true_eq, beq_iff_eq]
    exact ⟨⟨⟨⟨⟨⟨hrun, hcell⟩, hpoint⟩, htop⟩, hrate⟩, hrefresh⟩, .inl hnext⟩
  have hlost : ¬((!whole || s1.prf.gaps.any fun g => decide (a ≤ g ∧ g < b)) = true) := by
    have hwhole : whole = true := decide_eq_true hwhole
    have hgaps : s1.prf.gaps = [] := hgaps
    simp [hwhole, hgaps]
  have hquiet : ¬(marked s1.prf.changes n a b = true) := by
    have hchanges : s1.prf.changes = [] := hchanges
    simp [marked, hchanges]
  have hgood : windowOut s1 q n i a b limit = .good v x kind part frz xst :=
    (windowTaken_windowOut q n i j limit s a b limit).trans hout
  have hs2 : s2 = deliver q n i (b - 1) v x kind part frz xst s1 := by
    simp only [s2, if_neg hlost, if_neg hquiet, hgood]
  simp only [hs2, hon, Bool.not_true, Bool.false_eq_true, if_false]
  rfl

/-! ## A delivered record (R185, R186) -/

theorem writeRecord_words (q n i lastE kind : Nat) (part frz xst avail : Bool) (v c : Phasor) (coh : Nat) (s : State) :
    SetsWords s (writeRecord q n i lastE kind part frz xst avail v c coh s) :=
  (((s.setPw_words ..).trans (State.setPw_words ..)).trans (State.setPw_words ..)).trans (State.setPw_words ..)

theorem writeRecord_spec (q n i lastE kind : Nat) (part frz xst avail : Bool) (v c : Phasor) (coh : Nat) (s : State) :
    (writeRecord q n i lastE kind part frz xst avail v c coh s).pw q (R.PRF_REC_W0 n i) =
        w32 (ofInt 32 (zPart (v.mulConj c).re c.norm)) ∧
      (writeRecord q n i lastE kind part frz xst avail v c coh s).pw q (R.PRF_REC_W1 n i) =
        w32 (ofInt 32 (zPart (v.mulConj c).im c.norm)) ∧
      (writeRecord q n i lastE kind part frz xst avail v c coh s).pw q (R.PRF_REC_W2 n i) =
        w32 (ermsOf c * 65536 + coh) := by
  have h01 : R.PRF_REC_W0 n i ≠ R.PRF_REC_W1 n i := by simp only [R.PRF_REC_W0, R.PRF_REC_W1]; omega
  have h02 : R.PRF_REC_W0 n i ≠ R.PRF_REC_W2 n i := by simp only [R.PRF_REC_W0, R.PRF_REC_W2]; omega
  have h03 : R.PRF_REC_W0 n i ≠ R.PRF_REC_W3 n i := by simp only [R.PRF_REC_W0, R.PRF_REC_W3]; omega
  have h12 : R.PRF_REC_W1 n i ≠ R.PRF_REC_W2 n i := by simp only [R.PRF_REC_W1, R.PRF_REC_W2]; omega
  have h13 : R.PRF_REC_W1 n i ≠ R.PRF_REC_W3 n i := by simp only [R.PRF_REC_W1, R.PRF_REC_W3]; omega
  have h23 : R.PRF_REC_W2 n i ≠ R.PRF_REC_W3 n i := by simp only [R.PRF_REC_W2, R.PRF_REC_W3]; omega
  unfold writeRecord
  refine ⟨?_, ?_, ?_⟩
  · rw [State.pw_setPw_ne _ _ _ h03, State.pw_setPw_ne _ _ _ h02, State.pw_setPw_ne _ _ _ h01, State.pw_setPw_same]
  · rw [State.pw_setPw_ne _ _ _ h13, State.pw_setPw_ne _ _ _ h12, State.pw_setPw_same]
  · rw [State.pw_setPw_ne _ _ _ h23, State.pw_setPw_same]

/-- The history of a point with the newest window's phasors before it. -/
def newHistory (q n i : Nat) (v c : Phasor) (s : State) : List (Phasor × Phasor) :=
  ((v, c) :: Smap.get (fun _ => []) s.prf.hist (ptKey q n i)).take (s.pg q R.PRF_CTRL_NCOH)

/-- A point's history is kept. -/
def keepHistory (q n i : Nat) (v c : Phasor) (s : State) : State :=
  { s with prf := { s.prf with hist := Smap.set (fun _ => []) s.prf.hist (ptKey q n i) (newHistory q n i v c s) } }

theorem deliver_coherent {q n i lastE kind coh : Nat} {v c : Phasor} {part frz xst : Bool} {s : State}
    (h : coherence (newHistory q n i v c s) = some coh) :
    deliver q n i lastE v c kind part frz xst s =
      writeRecord q n i lastE kind part frz xst (decide (4 ≤ (newHistory q n i v c s).length)) v c coh
        (keepHistory q n i v c s) := by
  unfold newHistory at h
  simp only [deliver, h, Option.isSome_some, Bool.and_true]
  rfl

/-! ## The derived values (R189 to R191) -/

/-- The derived set of a cell is written. -/
def putDerived (q n f0 hfr tint jr jl flags : Nat) (s : State) : State :=
  let s1 := (((s.setPw q (R.PRF_DER_W0 n) (w32 f0)).setPw q (R.PRF_DER_W1 n) (w32 hfr)).setPw q (R.PRF_DER_W2 n)
    (w32 (tint * 65536 + jr))).setPw q (R.PRF_DER_W3 n) (w32 (jl * 65536 + flags))
  { s1 with prf := { s1.prf with derAt := Smap.set (fun _ => 0) s1.prf.derAt (100 * q + n) s1.now } }

/-- A recomputation writes the cell's derived set, after a free value where the joint's length is not known. -/
theorem derive_cases (q n t : Nat) (s : State) : ∃ f0 hfr tint jr jl flags,
    derive q n t s = putDerived q n f0 hfr tint jr jl flags s ∨
      derive q n t s = putDerived q n f0 hfr tint jr jl flags s.free.2 := by
  unfold derive
  split
  · exact ⟨_, _, _, _, _, _, .inl rfl⟩
  · extract_lets f0 hfr tv x y c tint t16
    split
    · exact ⟨_, _, _, _, _, _, .inl rfl⟩
    · next jl jr hjoints =>
      cases jl with
      | none => exact ⟨_, _, _, _, _, _, .inr rfl⟩
      | some j => exact ⟨_, _, _, _, _, _, .inl rfl⟩

/-- The derived values leave the records, the datum and the windows' numbers. -/
structure LeavesRecords (q : Nat) (s t : State) : Prop where
  words : ∀ a, 0x062000 ≤ a → t.pw q a = s.pw q a
  now : t.now = s.now
  next : t.prf.next = s.prf.next

theorem putDerived_leaves {n : Nat} (q f0 hfr tint jr jl flags : Nat) (s : State) (h : n ≤ 48) :
    LeavesRecords q s (putDerived q n f0 hfr tint jr jl flags s) := by
  have hsets : SetsWords s ((((s.setPw q (R.PRF_DER_W0 n) (w32 f0)).setPw q (R.PRF_DER_W1 n) (w32 hfr)).setPw q
      (R.PRF_DER_W2 n) (w32 (tint * 65536 + jr))).setPw q (R.PRF_DER_W3 n) (w32 (jl * 65536 + flags))) :=
    (((s.setPw_words ..).trans (State.setPw_words ..)).trans (State.setPw_words ..)).trans (State.setPw_words ..)
  refine ⟨fun a ha => ?_, hsets.now, hsets.next⟩
  have h0 : a ≠ R.PRF_DER_W0 n := by simp only [R.PRF_DER_W0]; omega
  have h1 : a ≠ R.PRF_DER_W1 n := by simp only [R.PRF_DER_W1]; omega
  have h2 : a ≠ R.PRF_DER_W2 n := by simp only [R.PRF_DER_W2]; omega
  have h3 : a ≠ R.PRF_DER_W3 n := by simp only [R.PRF_DER_W3]; omega
  change State.pw (State.setPw ..) q a = s.pw q a
  rw [State.pw_setPw_ne _ _ _ h3, State.pw_setPw_ne _ _ _ h2, State.pw_setPw_ne _ _ _ h1, State.pw_setPw_ne _ _ _ h0]

theorem derive_leaves {n : Nat} (q t : Nat) (s : State) (h : n ≤ 48) : LeavesRecords q s (derive q n t s) := by
  obtain ⟨f0, hfr, tint, jr, jl, flags, hput | hput⟩ := derive_cases q n t s
  · exact hput ▸ putDerived_leaves q f0 hfr tint jr jl flags s h
  · obtain ⟨hwords, hnow, hnext⟩ := putDerived_leaves q f0 hfr tint jr jl flags s.free.2 h
    exact hput ▸ ⟨hwords, hnow, hnext⟩

theorem withDerived_leaves {n : Nat} (q i t : Nat) (s : State) (h : n ≤ 48) : LeavesRecords q s (withDerived q n i t s) := by
  unfold withDerived
  split
  · exact derive_leaves q t s h
  · exact ⟨fun _ _ => rfl, rfl, rfl⟩

/-- A delivered window's record, the datum and the point's next window at the end of the row (R166, R176, R185, R186). -/
theorem profileWindowComplete_record {q n i j kind coh : Nat} {v x : Phasor} {part frz xst : Bool} {s t : State}
    (hn : n ≤ 48) (hdue : WindowDue q n i j s)
    (hwhole : Smap.get (fun _ => 0) s.prf.since (ptKey q n i) ≤ j * windowLen i)
    (hgaps : s.prf.gaps = []) (hchanges : s.prf.changes = [])
    (hout : windowOut s q n i (20000000 * (j * windowLen i)) (20000000 * ((j + 1) * windowLen i)) (windowLimit s q i j) =
      .good v x kind part frz xst)
    (hcoh : coherence (newHistory q n i v x s) = some coh) (ht : profileWindowComplete q n i j s = t) :
    t.pw q (R.PRF_REC_W0 n i) = w32 (ofInt 32 (zPart (v.mulConj x).re x.norm)) ∧
      t.pw q (R.PRF_REC_W1 n i) = w32 (ofInt 32 (zPart (v.mulConj x).im x.norm)) ∧
      t.pw q (R.PRF_REC_W2 n i) = w32 (ermsOf x * 65536 + coh) ∧
      t.now = max s.now (windowLimit s q i j) ∧
      Smap.get (fun _ => 0) t.prf.next (ptKey q n i) = j + 1 := by
  have hnow := windowTaken_now q n i j (windowLimit s q i j) s
  have hnext : Smap.get (fun _ => 0) (windowTaken q n i j (windowLimit s q i j) s).prf.next (ptKey q n i) = j + 1 :=
    Smap.get_set_same (fun _ => 0) s.prf.next (ptKey q n i) (j + 1)
  have hhist : newHistory q n i v x (windowTaken q n i j (windowLimit s q i j) s) = newHistory q n i v x s := rfl
  rw [profileWindowComplete_good hdue hwhole hgaps hchanges hout] at ht
  generalize windowTaken q n i j (windowLimit s q i j) s = s1 at hnow hnext hhist ht
  rw [deliver_coherent (hhist ▸ hcoh)] at ht
  obtain ⟨hw0, hw1, hw2⟩ := writeRecord_spec q n i (20000000 * ((j + 1) * windowLen i) - 1) kind part frz xst
    (decide (4 ≤ (newHistory q n i v x s1).length)) v x coh (keepHistory q n i v x s1)
  have hsets := writeRecord_words q n i (20000000 * ((j + 1) * windowLen i) - 1) kind part frz xst
    (decide (4 ≤ (newHistory q n i v x s1).length)) v x coh (keepHistory q n i v x s1)
  obtain ⟨hwords, htnow, htnext⟩ := ht ▸ withDerived_leaves q i ((j + 1) * windowLen i) _ hn
  refine ⟨(hwords _ ?_).trans hw0, (hwords _ ?_).trans hw1, (hwords _ ?_).trans hw2, ?_, ?_⟩
  · simp only [R.PRF_REC_W0]; omega
  · simp only [R.PRF_REC_W1]; omega
  · simp only [R.PRF_REC_W2]; omega
  · exact htnow.trans (hsets.now.trans hnow)
  · rw [htnext, hsets.next]
    exact hnext

/-! ## Configuration (R182, R194, R198) -/

/-- Abandoned windows return their records to reset and leave the other words and what waits (R182). -/
theorem prfAbandon_leaves (n i t : Nat) {a : Nat} (s : State) (h : a < 0x062000) :
    (prfAbandon 0 n i t s).reg a = s.reg a ∧ (prfAbandon 0 n i t s).prf.pend = s.prf.pend := by
  have h0 : a ≠ R.PRF_REC_W0 n i := by simp only [R.PRF_REC_W0]; omega
  have h1 : a ≠ R.PRF_REC_W1 n i := by simp only [R.PRF_REC_W1]; omega
  have h2 : a ≠ R.PRF_REC_W2 n i := by simp only [R.PRF_REC_W2]; omega
  have h3 : a ≠ R.PRF_REC_W3 n i := by simp only [R.PRF_REC_W3]; omega
  refine ⟨?_, rfl⟩
  change State.reg (State.setReg (State.setReg (State.setReg (State.setReg ..) ..) ..) ..) a = s.reg a
  rw [State.reg_setReg_ne _ _ h3, State.reg_setReg_ne _ _ h2, State.reg_setReg_ne _ _ h1, State.reg_setReg_ne _ _ h0]

theorem prfApply_spec (t d a : Nat) (v : Word) (s : State) (h : a < 0x062000) :
    (prfApply t (d, 0, a, v) s).reg a = v ∧ (prfApply t (d, 0, a, v) s).prf.pend = s.prf.pend := by
  simp only [prfApply]
  split
  · exact ⟨State.reg_setReg_same .., rfl⟩
  · refine List.foldlRecOn (motive := fun x : State => x.reg a = v ∧ x.prf.pend = s.prf.pend) _ _
      ⟨State.reg_setReg_same .., rfl⟩ fun x hx n _ => ?_
    refine List.foldlRecOn (motive := fun y : State => y.reg a = v ∧ y.prf.pend = s.prf.pend) _ _ hx fun y hy i _ => ?_
    split
    · obtain ⟨hreg, hpend⟩ := prfAbandon_leaves n i t y h
      obtain ⟨hyreg, hypend⟩ := hy
      exact ⟨hreg.trans hyreg, hpend.trans hypend⟩
    · exact hy

/-- A single write that waited takes effect at its second (R182). -/
theorem profileConfigEffect_single {t0 a : Nat} {v : Word} {s : State} (hpend : s.prf.pend = [(t0, 0, a, v)])
    (hcome : t0 ≤ s.now / 1000000000) (ha : a < 0x062000) :
    (profileConfigEffect s).reg a = v ∧ (profileConfigEffect s).prf.pend = [] := by
  have hgo : (s.prf.pend.filter fun w => decide (w.1 ≤ s.now / 1000000000)) = [(t0, 0, a, v)] := by
    rw [hpend]
    simp [hcome]
  have hstay : (s.prf.pend.filter fun w => !decide (w.1 ≤ s.now / 1000000000)) = [] := by
    rw [hpend]
    simp [hcome]
  simp only [profileConfigEffect, hgo, hstay, List.foldl_cons, List.foldl_nil]
  exact prfApply_spec _ _ _ _ _ ha

/-- A write of PRF_CTRL with CLR that is within the ranges clears PRF_DISC at once (R198). -/
theorem prfWrite_clr {v : Word} {s : State} (hclr : wf v R.PRF_CTRL_CLR = 1) (hbad : prfBad R.PRF_CTRL v = false) :
    (prfWrite R.PRF_CTRL v s).1 = .ok ∧ (prfWrite R.PRF_CTRL v s).2.regs = (s.setReg R.PRF_DISC 0).regs := by
  unfold prfWrite
  rw [if_neg (Bool.eq_false_iff.1 hbad), if_pos rfl, hclr]
  exact ⟨rfl, rfl⟩

/-! ## Requests (R194, R426) -/

theorem reply_prf (q : Packet) (t : Stat) (body : List Byte) (s : State) (h : q.noReply = false) :
    (reply q t body 0 s).prf = s.prf := by
  obtain ⟨rest, hsends⟩ := replyAs_sends t.disp q t body 0 s h
  rw [reply, hsends.frame]
  rfl

/-- The writes of a PROFILE_CFG, which wait for the named second. -/
def cfgWaits (p : Packet) (s : State) : List (Nat × Nat × Nat × Word) :=
  [0, 2, 3, 4, 5, 6, 7, 8, 9, 10].map fun k => (prfEffect s, p.parcel, R.PRF_CTRL + 4 * k, w32 (u32 p.payload (4 * k)))

/-- A PROFILE_CFG within the ranges waits for its second, which the reply names (R194). -/
theorem profileCfg_accepted {p : Packet} {s : State} (hlen : p.payload.length = 44)
    (hok : ((List.range 11).any fun k => prfBad (R.PRF_CTRL + 4 * k) (w32 (u32 p.payload (4 * k)))
      || (match findReg (R.PRF_CTRL + 4 * k) with
          | some r => (w32 (u32 p.payload (4 * k))).toNat &&& r.resv != 0 | none => true)) = false)
    (hstat : w32 (u32 p.payload 4) = 0) (hclr : (w32 (u32 p.payload 0)).toNat.testBit 31 = false) :
    profileCfg p s = reply p .ok (leBytes 8 (1000000000 * prfEffect s)) 0
      { s with prf := { s.prf with pend := s.prf.pend ++ cfgWaits p s } } := by
  rw [profileCfg, withLen, if_pos hlen]
  dsimp only
  rw [if_neg]
  · rfl
  · rintro (h | h | h)
    · exact absurd (hok.symm.trans h) Bool.false_ne_true
    · exact h hstat
    · exact absurd (hclr.symm.trans h) Bool.false_ne_true

/-- A reply for one unit that was served, with no degraded-operation step in force. -/
theorem replyUnits_one {p : Packet} {res : List Byte} {s : State} (hreply : p.noReply = false) (hdeg : degSteps s = 0) :
    (replyUnits p [.ok] res (goodStat s) s).lastReply = some [0, 0] ∧
      (replyUnits p [.ok] res (goodStat s) s).lastBody = some (unitBody [.ok] res) := by
  rw [goodStat, if_pos hdeg]
  obtain ⟨hstat, hbody, -⟩ := replyUnits_spec p [.ok] res s hreply
  exact ⟨hstat.trans rfl, hbody⟩

theorem u8_eq (l : List Byte) (o : Nat) : u8 l o = (l.getD o 0).toNat := leAt_succ l o 0

/-- A cell list of one cell is well formed. -/
theorem one_cell_ok {n : Nat} (hlo : 1 ≤ n) (hhi : n ≤ 48) : ([n].any fun c => decide (c < 1 ∨ 48 < c)) = false := by
  simp only [List.any_cons, List.any_nil, Bool.or_false, decide_eq_false_iff_not]
  omega

theorem profileRead_one {p : Packet} {i m n : Byte} {s : State} (hpay : p.payload = [i, m, 1, 0, n, 0, 0, 0])
    (hm : 1 ≤ m.toNat) (him : i.toNat + m.toNat ≤ 71) (hn : 1 ≤ n.toNat) (hn' : n.toNat ≤ 48)
    (hcell : profiled s p.parcel n.toNat = true) :
    profileRead p s = replyUnits p [.ok]
      ((List.range m.toNat).flatMap fun x => recBytes s p.parcel n.toNat (i.toNat + x)) (goodStat s) s := by
  have hlist : cellList p.payload 4 1 = [n.toNat] := by simp [cellList, u8_eq, hpay]
  have hi : u8 p.payload 0 = i.toNat := by simp [u8_eq, hpay]
  have hcount : u8 p.payload 1 = m.toNat := by simp [u8_eq, hpay]
  have hcells : u8 p.payload 2 = 1 := by simp [u8_eq, hpay]
  have hzero : u8 p.payload 3 = 0 := by simp [u8_eq, hpay]
  have hlen : p.payload.length = 8 := by simp [hpay]
  have hok := one_cell_ok hn hn'
  have hfits : ¬(2048 < 40 + pad4 1 + 16 * m.toNat * 1) := by
    simp only [pad4]
    omega
  simp only [profileRead, hcells, hlist, hi, hcount, hzero, hlen, hok, hfits]
  rw [if_neg (by decide), if_neg (by simp; omega), if_neg (by simp)]
  simp [hcell]

theorem profileDerived_one {p : Packet} {n : Byte} {s : State} (hpay : p.payload = [1, 0, 0, 0, n, 0, 0, 0])
    (hn : 1 ≤ n.toNat) (hn' : n.toNat ≤ 48) (hcell : profiled s p.parcel n.toNat = true) :
    profileDerived p s = replyUnits p [.ok]
      (wordBytes (s.pw p.parcel (R.PRF_DER_W0 n.toNat)) ++ wordBytes (s.pw p.parcel (R.PRF_DER_W1 n.toNat))
        ++ wordBytes (s.pw p.parcel (R.PRF_DER_W2 n.toNat)) ++ wordBytes (s.pw p.parcel (R.PRF_DER_W3 n.toNat)))
      (goodStat s) s := by
  have hlist : cellList p.payload 4 1 = [n.toNat] := by simp [cellList, u8_eq, hpay]
  have hcells : u8 p.payload 0 = 1 := by simp [u8_eq, hpay]
  have hzero : leAt p.payload 1 3 = 0 := by simp [leAt, sliceBytes, leNat, hpay]
  have hlen : p.payload.length = 8 := by simp [hpay]
  have hok := one_cell_ok hn hn'
  simp only [profileDerived, withCells, hcells, hlist, hzero, hlen, hok]
  rw [if_neg (by decide), if_neg (by simp)]
  simp [hcell]

/-! ## Shadows (R195) -/

/-- A reader's shadow with the first `m` words of the set at `a`. -/
def latchedWords (r a m : Nat) (s : State) : List (Nat × Word) :=
  (List.range m).foldl (fun sh k => Smap.set (fun x => resetWord (x % 2 ^ 24)) sh (r * 2 ^ 24 + a + 4 * k)
    (s.reg (a + 4 * k))) s.prf.shadow

theorem get_latchedWords (r a : Nat) (s : State) {m k : Nat} (h : k < m) :
    Smap.get (fun x => resetWord (x % 2 ^ 24)) (latchedWords r a m s) (r * 2 ^ 24 + a + 4 * k) = s.reg (a + 4 * k) := by
  induction m with
  | zero => omega
  | succ m ih =>
    rw [latchedWords, List.range_succ, List.foldl_append, List.foldl_cons, List.foldl_nil]
    by_cases hm : k = m
    · rw [hm, Smap.get_set_same]
    · rw [Smap.get_set_ne _ _ _ (by omega)]
      exact ih (by omega)

theorem registerSetLatch_head {r a : Nat} {s : State} (h : setHead a = true) :
    registerSetLatch r a s = { s with prf := { s.prf with shadow := latchedWords r a 4 s } } := if_pos h

/-- The words of a set are those of its reader's shadow after the first has been read. -/
theorem registerSetLatch_shadow {r a : Nat} {s : State} (h : setHead a = true) {k : Nat} (hk : k < 4) :
    shadowWord (registerSetLatch r a s) r (a + 4 * k) = s.reg (a + 4 * k) := by
  rw [registerSetLatch_head h, shadowWord, ← Nat.add_assoc]
  exact get_latchedWords r a s hk

/-! ## The rows -/

/-- A rule that leaves the host's own fields is what its row does. -/
theorem run_kept {f : State → State} {s t : State} (h : f s = t) (hpending : t.pending = s.pending)
    (hvariant : t.variant = s.variant) : run f s = .next t := by
  rw [run, h, ← hpending, ← hvariant]

/-- Settles O14: messages, windows, configuration, requests and shadows, each by the rule of its row. -/
theorem profileCommandsTakeEffect : Obligations.ProfileCommandsTakeEffect := by
  unfold Obligations.ProfileCommandsTakeEffect
  refine ⟨?_, ?_, ?_, ?_, ?_, ?_, ?_, ?_, ?_, ?_, ?_⟩
  · intro w s h
    refine .of_rule rfl (fun t ⟨hchange, hseq, hbleed, hout, hframe⟩ => ⟨hchange, hseq, hbleed, hout, ?_⟩)
      (bleedStateMessage_first h rfl)
    exact congrArg (fun u : State => { u with pending := s.pending, variant := s.variant }) hframe
  · intro w n s h hn
    exact .of_rule rfl (fun _ h => h) (excitationBiasMessage_gap h hn)
  · intro w s
    refine .of_rule rfl (fun t ⟨hout, hstat, hframe⟩ => ⟨hout, hstat, ?_⟩) (excitationStatusMessage_spec rfl)
    exact congrArg (fun u : State => { u with pending := s.pending, variant := s.variant }) hframe
  · intro q c i j coh kind v x part frz xst s hrun hcell hpoint htop hrate hrefresh hnext hwhole hgaps hchanges hout hcoh
    refine .of_rule rfl (fun _ h => h) ?_
    obtain ⟨-, hc⟩ := isCell_cellOf c
    have hdue : WindowDue q.val (cellOf c) i.val j s := ⟨hrun, hcell, hpoint, htop, hrate, hrefresh, hnext⟩
    rw [← windowLimit] at hout ⊢
    rw [← newHistory] at hcoh
    exact profileWindowComplete_record hc hdue hwhole hgaps hchanges hout hcoh rfl
  · intro q c i j s h
    rw [← windowLimit]
    exact run_kept (profileWindowComplete_stopped h) (s.until_pending _) (s.until_variant _)
  · intro t0 v s hpend hcome
    exact .of_rule rfl (fun _ h => h) (profileConfigEffect_single hpend hcome (by decide))
  · intro v s hcheck hbad
    refine .of_rule rfl (fun _ h => h) ?_
    have hclr : wf (w32 (setBit v.toNat 31 true)) R.PRF_CTRL_CLR = 1 := wf_setBit_self (by decide) rfl rfl
    obtain ⟨hok, hregs⟩ := prfWrite_clr (s := s) hclr hbad
    rw [direct_of_none hcheck, hok]
    refine ⟨?_, ?_, State.done_lastOut ..⟩
    · exact (State.reg_congr hregs _).trans (State.reg_setReg_same ..)
    · exact SameRegs.trans (.setReg s 0 (List.mem_singleton.2 rfl)) (.of_regs hregs)
  · intro p q s s1 hadmits hlen hnoreply hok hstat hclr
    refine .of_request rfl hadmits (fun _ h => h) ?_
    rw [profileCfg_accepted hlen hok hstat hclr]
    obtain ⟨hreply, hbody, -⟩ := reply_spec q .ok (leBytes 8 (1000000000 * prfEffect s1))
      { s1 with prf := { s1.prf with pend := s1.prf.pend ++ cfgWaits q s1 } } hnoreply
    exact ⟨congrArg Prf.pend (reply_prf q .ok _ _ hnoreply), hreply, hbody⟩
  · intro p q i m n s s1 hadmits hpay hnoreply hm him hn hn' hcell hdeg
    refine .of_request rfl hadmits (fun _ h => h) ?_
    rw [profileRead_one hpay hm him hn hn' hcell]
    exact replyUnits_one hnoreply hdeg
  · intro p q n s s1 hadmits hpay hnoreply hn hn' hcell hdeg
    refine .of_request rfl hadmits (fun _ h => h) ?_
    rw [profileDerived_one hpay hn hn' hcell]
    exact replyUnits_one hnoreply hdeg
  · intro r a s h
    refine .of_run rfl ⟨?_, ?_⟩
    · rw [List.all_eq_true]
      intro k hk
      exact beq_iff_eq.2 (registerSetLatch_shadow h (List.mem_range.1 hk))
    · rw [registerSetLatch_head h]

end Sys2Proof.Machine

/-! # Cell state: the estimator's parameter sets, seeds, reads and snapshots (R203, R211, R214, R222, R427) -/

namespace Sys2Proof.Machine

/-! ## The cells' records -/

theorem State.ecell_setEcell_same (s : State) (q n : Nat) (c : EstCell) : (s.setEcell q n c).ecell q n = c :=
  Smap.get_set_same ..

theorem State.ecell_setEcell_ne (s : State) (q : Nat) {n m : Nat} (c : EstCell) (h : m ≠ n) :
    (s.setEcell q n c).ecell q m = s.ecell q m := Smap.get_set_ne _ _ _ (by omega)

theorem State.ecell_congr {s t : State} (h : t.est = s.est) (q n : Nat) : t.ecell q n = s.ecell q n := by
  simp only [State.ecell, h]

theorem nodup_estCells (s : State) (q : Nat) : (estCells s q).Nodup :=
  List.Nodup.filter _ (List.nodup_range.map fun _ _ h => Nat.succ.inj h)

theorem isCell_of_mem_estCells {s : State} {q n : Nat} (h : n ∈ estCells s q) : IsCell n :=
  mem_cells_iff.1 (List.mem_filter.1 h).1

/-- Between `s` and `t` only records of estimated cells changed. -/
def CellsMoved (s t : State) : Prop := t = { s with est := { s.est with cells := t.est.cells } }

theorem CellsMoved.refl (s : State) : CellsMoved s s := rfl

theorem CellsMoved.trans {s t u : State} (h : CellsMoved s t) (h' : CellsMoved t u) : CellsMoved s u :=
  Eq.trans h' (by rw [h])

theorem CellsMoved.setEcell (s : State) (q n : Nat) (c : EstCell) : CellsMoved s (s.setEcell q n c) := rfl

theorem CellsMoved.foldl {α : Type} {f : State → α → State} (h : ∀ x a, CellsMoved x (f x a)) (l : List α)
    (s : State) : CellsMoved s (l.foldl f s) :=
  List.foldlRecOn (motive := CellsMoved s) l f (.refl s) fun x hx a _ => hx.trans (h x a)

/-- Where the elements of a list have views of their own, what an element's step makes of its view stands after the fold. -/
theorem foldl_own {σ α β : Type} {view : σ → α → β} {f : σ → α → σ} {P : α → β → Prop} {l : List α} {s : σ}
    (hnodup : l.Nodup) (hother : ∀ x, ∀ a ∈ l, ∀ b ∈ l, b ≠ a → view (f x a) b = view x b)
    (hown : ∀ x, ∀ a ∈ l, view x a = view s a → P a (view (f x a) a)) : ∀ a ∈ l, P a (view (l.foldl f s) a) := by
  intro a ha
  have hstay : ∀ (x : σ) (m : List α), (∀ b ∈ m, b ∈ l ∧ a ≠ b) → view (m.foldl f x) a = view x a := fun x m hm =>
    List.foldlRecOn (motive := fun y => view y a = view x a) m f rfl fun y hy b hb =>
      (hother y b (hm b hb).1 a ha (hm b hb).2).trans hy
  obtain ⟨l1, l2, rfl⟩ := List.append_of_mem ha
  obtain ⟨-, htail, hdis⟩ := List.nodup_append.1 hnodup
  have hbefore := hstay s l1 fun b hb => ⟨by simp [hb], fun h => hdis b hb a (by simp) h.symm⟩
  have hafter := hstay (f (l1.foldl f s) a) l2 fun b hb => ⟨by simp [hb], fun h => (List.nodup_cons.1 htail).1 (h ▸ hb)⟩
  rw [List.foldl_append, List.foldl_cons, hafter]
  exact hown _ a ha hbefore

/-! ## Cells that start and restart (R203, R211, R222) -/

theorem roundDiv_scaled (x : Int) : roundDiv (10000 * x) 10000 = x := by
  simp only [roundDiv]
  omega

theorem EstCell.take_soc (c : EstCell) {l : List Int} {soc : Nat} (h : l.getD 0 0 = 10000 * soc) (hsoc : soc ≤ 10000) :
    (c.take l).soc = soc := by
  simp only [EstCell.take, h, roundDiv_scaled, Int.toNat_natCast]
  exact Nat.min_eq_right hsoc

theorem EstCell.take_capr (c : EstCell) {l : List Int} {capr : Nat} (h : l.getD 1 0 = 10000 * capr) (hcapr : capr < 65536) :
    (c.take l).capr = capr := by
  simp only [EstCell.take, h, roundDiv_scaled, Int.toNat_natCast]
  exact Nat.min_eq_left (Nat.le_sub_one_of_lt hcapr)

theorem filterStep_kept {n mode k : Nat} {inp : List Int} {par : List Byte} {old : List Int} (hk : k < 32)
    (h : filterKeeps mode k = true) : (filterStep n mode inp par old).getD k 0 = old.getD k 0 := by
  simp [filterStep, hk, h]

theorem getD_set_two {l : List Int} (a b : Int) (h : 2 ≤ l.length) :
    ((l.set 0 a).set 1 b).getD 0 0 = a ∧ ((l.set 0 a).set 1 b).getD 1 0 = b :=
  match l, h with
  | _ :: _ :: _, _ => ⟨rfl, rfl⟩

/-- A cell that starts takes the state of charge and the capacity that it starts from. -/
theorem EstCell.start_spec (c : EstCell) (n t : Nat) (par : List Byte) {soc capr rgr : Nat} (hsoc : soc ≤ 10000)
    (hcapr : capr < 65536) :
    (c.start n t par (10000 * soc) (10000 * capr) rgr).soc = soc ∧
      (c.start n t par (10000 * soc) (10000 * capr) rgr).capr = capr :=
  ⟨c.take_soc (filterStep_kept (by decide) rfl) hsoc, c.take_capr (filterStep_kept (by decide) rfl) hcapr⟩

/-- A restart keeps the state of charge and the capacity that the filter holds. -/
theorem EstCell.restart_spec {c : EstCell} (n t : Nat) (par : List Byte) {soc capr : Nat}
    (h0 : c.comps.getD 0 0 = 10000 * soc) (h1 : c.comps.getD 1 0 = 10000 * capr) (hsoc : soc ≤ 10000)
    (hcapr : capr < 65536) : (c.restart n t par).soc = soc ∧ (c.restart n t par).capr = capr :=
  ⟨c.take_soc ((filterStep_kept (by decide) rfl).trans h0) hsoc,
    c.take_capr ((filterStep_kept (by decide) rfl).trans h1) hcapr⟩

/-! ## What waits and takes effect (R203, R222) -/

/-- A single entry of a waiting list that is due leaves the list. -/
theorem due_single {α : Type} {l : List (Nat × α)} {t now : Nat} {x : α} (h : l = [(t, x)]) (hdue : t ≤ now) :
    (l.filter fun w => decide (w.1 ≤ now)) = [(t, x)] ∧ (l.filter fun w => !decide (w.1 ≤ now)) = [] := by
  simp [h, hdue]

/-- The parameter set of a type of cells is in force in a parcel's estimator. -/
def withSet (q ty : Nat) (b : List Byte) (s : State) : State :=
  { s with est := { s.est with params := Smap.set (fun _ => []) s.est.params (4 * q + ty) b } }

theorem estApplyPar_moved (t q ty : Nat) (b : List Byte) (s : State) :
    CellsMoved (withSet q ty b s) (estApplyPar (t, q, ty, b) s) := by
  refine .foldl (fun x n => ?_) _ _
  dsimp only
  split
  · exact .refl x
  · exact .setEcell ..

/-- The station once its waiting sets have been taken off the list. -/
def setsTaken (s : State) : State := { s with est := { s.est with pendPar := [] } }

theorem estApplyPar_restarts (t q ty : Nat) (b : List Byte) (s : State) {n : Nat} (hn : n ∈ estCells s q)
    (hty : estType s q n = ty) (hconv : (s.ecell q n).conv ≠ 0) :
    (estApplyPar (t, q, ty, b) s).ecell q n = (s.ecell q n).restart n t b := by
  refine foldl_own (view := fun x n => x.ecell q n) (s := withSet q ty b s)
    (P := fun m c => estType s q m = ty → (s.ecell q m).conv ≠ 0 → c = (s.ecell q m).restart m t b)
    (nodup_estCells (withSet q ty b s) q) ?_ ?_ n hn hty hconv
  · intro x a _ m _ hne
    dsimp only
    split
    · rfl
    · exact State.ecell_setEcell_ne _ _ _ hne
  · intro x a _ hx hty hconv
    have hx : x.ecell q a = s.ecell q a := hx
    dsimp only
    rw [hx, if_neg (by simp [hty, hconv]), State.ecell_setEcell_same]

theorem estParamsEffect_single {t q ty : Nat} {b : List Byte} {s : State} (hpend : s.est.pendPar = [(t, q, ty, b)])
    (hdue : t ≤ s.now) : estParamsEffect s = estApplyPar (t, q, ty, b) (setsTaken s) := by
  obtain ⟨hgo, hstay⟩ := due_single hpend hdue
  simp only [estParamsEffect, hgo, hstay, List.foldl_cons, List.foldl_nil]
  rfl

/-- What a waiting seed makes of its cell: a cell that was not initialised starts, another takes the values and restarts. -/
def seeded (q n t soc capr : Nat) (s : State) : EstCell :=
  if (s.ecell q n).conv = 0 then
    { (s.ecell q n).start n t (estPar s q (estType s q n)) (10000 * soc) (10000 * capr) 1000 with type := estType s q n }
  else ({ s.ecell q n with comps := ((s.ecell q n).comps.set 0 (10000 * soc)).set 1 (10000 * capr) } : EstCell).restart n t
    (estPar s q (estType s q n))

/-- The station once its waiting seeds have been taken off the list. -/
def seedsTaken (s : State) : State := { s with est := { s.est with pendSeed := [] } }

theorem estSeedEffect_single {t q n soc capr : Nat} {s : State} (hpend : s.est.pendSeed = [(t, q, n, soc, capr)])
    (hdue : t ≤ s.now) (hload : estLoaded s q (estType s q n) = true) :
    estSeedEffect s = (seedsTaken s).setEcell q n (seeded q n t soc capr s) := by
  obtain ⟨hgo, hstay⟩ := due_single hpend hdue
  have hskip : ¬((!estLoaded (seedsTaken s) q (estType (seedsTaken s) q n)) = true) := by
    rw [show estLoaded (seedsTaken s) q (estType (seedsTaken s) q n) = true from hload]
    decide
  simp only [estSeedEffect, hgo, hstay, List.foldl_cons, List.foldl_nil]
  refine (if_neg hskip).trans ?_
  by_cases hconv : (s.ecell q n).conv = 0
  · rw [seeded, if_pos hconv]
    exact if_pos hconv
  · rw [seeded, if_neg hconv]
    exact if_neg hconv

theorem estSeedEffect_ecell {t q n soc capr : Nat} {s : State} (hpend : s.est.pendSeed = [(t, q, n, soc, capr)])
    (hdue : t ≤ s.now) (hload : estLoaded s q (estType s q n) = true) :
    (estSeedEffect s).ecell q n = seeded q n t soc capr s ∧ (estSeedEffect s).est.pendSeed = [] := by
  rw [estSeedEffect_single hpend hdue hload]
  exact ⟨State.ecell_setEcell_same .., rfl⟩

/-! ## Snapshots (R214, R548) -/

/-- A commit enters a journal that is free. -/
theorem nvCommit_spec (j : NvJob) {s : State} (hfree : s.nvBusy = false) :
    (nvCommit j s).nv.jobs = s.nv.jobs ++ [j] ∧ (nvCommit j s).nv.jphase = 1 ∧
      (nvCommit j s).fg R.NVM_STAT_BUSY = 1 ∧ SameRegs [R.NVM_STAT] s (nvCommit j s) := by
  have hphase : (if s.nv.jphase = 0 then 1 else s.nv.jphase) = 1 := if_pos (bne_eq_false_iff_eq.1 hfree)
  refine ⟨rfl, hphase, ?_, ?_⟩
  · refine (State.fg_fs_disj _ R.NVM_STAT_JCOPY R.NVM_STAT_BUSY _ (by decide) rfl (by decide)).trans ?_
    refine (State.fg_fs_same _ R.NVM_STAT_BUSY _ (by decide)).trans ?_
    exact congrArg (fun k : Nat => b2n (k != 0) % 2) hphase
  · exact (SameRegs.of_regs rfl).trans ((State.fs_sameRegs _ R.NVM_STAT_BUSY _ (by decide)).trans
      (State.fs_sameRegs _ R.NVM_STAT_JCOPY _ (by decide)))

theorem setBit_mod_low (n : Nat) : (w32 (setBit n 31 true)).toNat % 16 = n % 16 := by
  have hor : (n ||| 2 ^ 31) % 2 ^ 4 = n % 2 ^ 4 := by
    rw [Nat.or_mod_two_pow]
    simp
  simp only [w32, BitVec.toNat_ofNat, setBit, if_true]
  omega

/-- A write of EST_CTRL with SAVE while the journal is free keeps the other fields and commits a snapshot. -/
theorem estCtrlWrite_save {v : Word} {s : State} (hsave : wf v R.EST_CTRL_SAVE = 1) (hfree : s.nvBusy = false) :
    estCtrlWrite v s = (.ok, commitSnapshot (s.setReg R.EST_CTRL (w32 (v.toNat % 16)))) := by
  have hfree : ¬(s.nvBusy = true) := by simp [hfree]
  simp only [estCtrlWrite, if_pos hsave, if_neg hfree]

/-! ## Requests (R426, R427) -/

theorem reply_est (q : Packet) (t : Stat) (body : List Byte) (s : State) (h : q.noReply = false) :
    (reply q t body 0 s).est = s.est := by
  obtain ⟨rest, hsends⟩ := replyAs_sends t.disp q t body 0 s h
  rw [reply, hsends.frame]
  rfl

theorem replyUnits_est (q : Packet) (sts : List Stat) (res : List Byte) (good : Stat) (s : State) (h : q.noReply = false) :
    (replyUnits q sts res good s).est = s.est := by
  obtain ⟨rest, hsends⟩ := replyAs_sends (if sts.any fun t => t.code == 0 then (unitStat sts good).disp else 2) q
    (unitStat sts good) (unitBody sts res) 0 s h
  rw [replyUnits, hsends.frame]
  rfl

/-- A parameter set waits for the next boundary. -/
def setWaits (p : Packet) (s : State) : State :=
  { s with est := { s.est with pendPar := s.est.pendPar ++ [(nextBoundary s, p.parcel, u8 p.payload 0, p.payload)] } }

/-- An acceptable set waits, P0's is also committed, and the reply names the boundary. -/
theorem estParams_accepted {p : Packet} {s : State} (hlen : p.payload.length = 736) (hok : paramsOk p.payload = true) :
    ∃ t, t.est = (setWaits p s).est ∧ estParams p s = reply p .ok (leBytes 8 (nextBoundary s)) 0 t := by
  rw [estParams, withLen, if_pos hlen]
  refine ⟨if p.parcel = 0 then nvCommit { kind := 4, ptype := u8 p.payload 0, pbytes := p.payload } (setWaits p s)
    else setWaits p s, ?_, ?_⟩
  · split <;> rfl
  · simp only [hok, Bool.not_true, Bool.false_eq_true, if_false]
    rfl

theorem estRead_one {p : Packet} {n : Byte} {s : State} (hpay : p.payload = [1, 0, 0, 0, n, 0, 0, 0])
    (hn : 1 ≤ n.toNat) (hn' : n.toNat ≤ 48) (hcell : estimated s p.parcel n.toNat = true) :
    estRead p s = replyUnits p [.ok]
      ((List.range 4).flatMap fun w => wordBytes (s.pw p.parcel (R.EST_STATE_W0 n.toNat + 4 * w))) (goodStat s) s := by
  have hlist : cellList p.payload 4 1 = [n.toNat] := by simp [cellList, u8_eq, hpay]
  have hcells : u8 p.payload 0 = 1 := by simp [u8_eq, hpay]
  have hzero : leAt p.payload 1 3 = 0 := by simp [leAt, sliceBytes, leNat, hpay]
  have hlen : p.payload.length = 8 := by simp [hpay]
  have hok := one_cell_ok hn hn'
  simp only [estRead, withCells, hcells, hlist, hzero, hlen, hok]
  rw [if_neg (by decide), if_neg (by simp)]
  simp [hcell]

/-- A seed of one cell waits for the next boundary. -/
def seedWaits (p : Packet) (n soc capr : Nat) (s : State) : State :=
  { s with est := { s.est with pendSeed := s.est.pendSeed ++ [(nextBoundary s, p.parcel, n, soc, capr)] } }

theorem estSeed_one {p : Packet} {n a b c d : Byte} {s : State} (hpay : p.payload = [1, 0, 0, 0, n, 0, 0, 0, a, b, c, d])
    (hn : 1 ≤ n.toNat) (hn' : n.toNat ≤ 48) (hsoc : a.toNat + 256 * b.toNat ≤ 10000)
    (hcell : estimated s p.parcel n.toNat = true) :
    estSeed p s = replyUnits p [.ok] (leBytes 8 (nextBoundary s)) .ok
      (seedWaits p n.toNat (a.toNat + 256 * b.toNat) (c.toNat + 256 * d.toNat) s) := by
  have hcount : u8 p.payload 0 = 1 := by simp [u8_eq, hpay]
  have hlen : p.payload.length = 12 := by simp [hpay]
  have hzero : leAt p.payload 1 3 = 0 := by simp [leAt, sliceBytes, leNat, hpay]
  have hents : ((List.range 1).map fun i => (u8 p.payload (4 + 8 * i), leAt p.payload (5 + 8 * i) 3,
      u16 p.payload (8 + 8 * i), u16 p.payload (10 + 8 * i))) =
      [(n.toNat, 0, a.toNat + 256 * b.toNat, c.toNat + 256 * d.toNat)] := by
    simp [u8_eq, u16, leAt, sliceBytes, leNat, hpay]
  have hgood : ¬(n.toNat < 1 ∨ 48 < n.toNat ∨ 0 ≠ 0 ∨ 10000 < a.toNat + 256 * b.toNat) := by omega
  simp only [estSeed, hcount, hlen, hzero, hents]
  rw [if_neg (by decide), if_neg (by simpa using hgood)]
  simp [hcell, seedWaits]

/-- Settles O16: SAVE, parameter sets, seeds and reads, each by the rule of its row. -/
theorem estimatorCommandsTakeEffect : Obligations.EstimatorCommandsTakeEffect := by
  unfold Obligations.EstimatorCommandsTakeEffect
  refine ⟨?save, ?params, ?paramsEffect, ?read, ?seed, ?seedNew, ?seedOld⟩
  case save =>
    intro v s hcheck hfree
    refine .of_rule rfl (fun _ h => h) ?_
    have hsave : wf (w32 (setBit v.toNat 31 true)) R.EST_CTRL_SAVE = 1 := wf_setBit_self (by decide) rfl rfl
    rw [direct_of_none hcheck, estCtrlWrite_save hsave hfree, setBit_mod_low, commitSnapshot]
    generalize takeSnapshot _ = snap
    obtain ⟨hjobs, hphase, -, hregs⟩ := nvCommit_spec { kind := 1, snap := snap }
      (s := { s.setReg R.EST_CTRL (w32 (v.toNat % 16)) with est := { s.est with snapAt := s.lt } }) hfree
    refine ⟨hphase, ?_, ?_, State.done_lastOut ..⟩
    · exact (congrArg (fun l : List NvJob => l.getLast?.map NvJob.kind) hjobs).trans (by simp)
    · exact (hregs R.EST_CTRL (by decide)).trans (State.reg_setReg_same s ..)
  case params =>
    intro p q s s1 hadmits hlen hok hnoreply
    refine .of_request rfl hadmits (fun _ h => h) ?_
    obtain ⟨t, hest, hrule⟩ := estParams_accepted (s := s1) hlen hok
    obtain ⟨hreply, hbody, -⟩ := reply_spec q .ok (leBytes 8 (nextBoundary s1)) t hnoreply
    rw [hrule]
    exact ⟨congrArg Est.pendPar ((reply_est q .ok _ t hnoreply).trans hest), hreply, hbody⟩
  case paramsEffect =>
    intro t0 q ty b s hpend hdue
    refine .of_rule (f := estParamsEffect) rfl (fun t ⟨hset, hnone, hcells, hframe⟩ => ⟨hset, hnone, hcells, ?_⟩) ?_
    · exact congrArg (fun u : State => { u with pending := s.pending, variant := s.variant }) hframe
    · rw [estParamsEffect_single hpend hdue]
      have hmoved := estApplyPar_moved t0 q ty b (setsTaken s)
      refine ⟨?_, ?_, fun n hn hty hconv => estApplyPar_restarts t0 q ty b (setsTaken s) hn hty hconv, ?_⟩
      · rw [hmoved]
        exact Smap.get_set_same ..
      · rw [hmoved]
        rfl
      · exact Eq.trans hmoved (by rw [hmoved]; rfl)
  case read =>
    intro p q n s s1 hadmits hpay hnoreply hn hn' hcell hdeg
    refine .of_request rfl hadmits (fun _ h => h) ?_
    rw [estRead_one hpay hn hn' hcell]
    exact replyUnits_one hnoreply hdeg
  case seed =>
    intro p q n a b c d s s1 hadmits hpay hnoreply hn hn' hsoc hcell
    refine .of_request rfl hadmits (fun _ h => h) ?_
    rw [estSeed_one hpay hn hn' hsoc hcell]
    obtain ⟨hreply, hbody, -⟩ := replyUnits_spec q [.ok] (leBytes 8 (nextBoundary s1))
      (seedWaits q n.toNat (a.toNat + 256 * b.toNat) (c.toNat + 256 * d.toNat) s1) hnoreply
    exact ⟨congrArg Est.pendSeed (replyUnits_est q _ _ _ _ hnoreply), hreply.trans rfl, hbody⟩
  case seedNew =>
    intro t0 q n soc capr s hpend hdue hload hsoc hcapr hconv
    refine .of_rule (f := estSeedEffect) rfl (fun _ h => h) ?_
    obtain ⟨hcell, hnone⟩ := estSeedEffect_ecell hpend hdue hload
    obtain ⟨h1, h2⟩ := (s.ecell q n).start_spec n t0 (estPar s q (estType s q n)) (rgr := 1000) hsoc hcapr
    rw [hcell, seeded, if_pos hconv]
    exact ⟨h1, h2, rfl, rfl, rfl, hnone⟩
  case seedOld =>
    intro t0 q n soc capr s hpend hdue hload hsoc hcapr hconv hcomps
    refine .of_rule (f := estSeedEffect) rfl (fun _ h => h) ?_
    obtain ⟨hcell, hnone⟩ := estSeedEffect_ecell hpend hdue hload
    obtain ⟨h0, h1⟩ := getD_set_two (10000 * soc) (10000 * capr) hcomps
    obtain ⟨h2, h3⟩ := EstCell.restart_spec
      (c := { s.ecell q n with comps := ((s.ecell q n).comps.set 0 (10000 * soc)).set 1 (10000 * capr) }) n t0
      (estPar s q (estType s q n)) h0 h1 hsoc hcapr
    rw [hcell, seeded, if_neg hconv]
    exact ⟨h2, h3, rfl, rfl, hnone⟩

end Sys2Proof.Machine

/-! # Cell state: steps, resistance, micro-shorts, publication and timed snapshots (R204, R205, R209, R212 to R216) -/

namespace Sys2Proof.Machine

/-! ## Faults that the estimator raises (R217, R218) -/

/-- Between `s` and `t` faults were raised: only the sticky registers of the controlling processor's island, SLOST and the
queues of events changed. -/
def CpRaises (s t : State) : Prop :=
  SameRegs [R.FLT_ISL islCP, R.FLT_STAT] s t ∧ t = { s with regs := t.regs, flt := t.flt, stackQ := t.stackQ }

theorem CpRaises.refl (s : State) : CpRaises s s := ⟨.refl _ s, rfl⟩

theorem CpRaises.trans {s t u : State} (h : CpRaises s t) (h' : CpRaises t u) : CpRaises s u :=
  ⟨h.1.trans h'.1, h'.2.trans (by rw [h.2])⟩

theorem CpRaises.raiseWhen (s : State) (b : Bool) (code param : Nat) :
    CpRaises s (s.when b fun x => x.raise code islCP param) := by
  unfold State.when
  split
  · exact ⟨s.raise_sameRegs code islCP param, s.raise_frame ..⟩
  · exact .refl s

theorem estRaise_raises (q n : Nat) (old new : EstCell) (s : State) : CpRaises s (estRaise q n old new s) := by
  unfold estRaise
  split
  · exact .refl s
  · exact (((CpRaises.raiseWhen s _ 0x64 n).trans (.raiseWhen _ _ 0x3B n)).trans (.raiseWhen _ _ 0x65 n)).trans
      (.raiseWhen _ _ 0x63 n)

theorem estRaise_est (q n : Nat) (old new : EstCell) (s : State) : (estRaise q n old new s).est = s.est := by
  rw [(estRaise_raises q n old new s).2]

/-- Between `s` and `t` records of estimated cells changed, and faults were raised. -/
def CellsJudged (s t : State) : Prop :=
  SameRegs [R.FLT_ISL islCP, R.FLT_STAT] s t ∧
    t = { s with regs := t.regs, flt := t.flt, stackQ := t.stackQ, est := { s.est with cells := t.est.cells } }

theorem CellsJudged.refl (s : State) : CellsJudged s s := ⟨.refl _ s, rfl⟩

theorem CellsJudged.trans {s t u : State} (h : CellsJudged s t) (h' : CellsJudged t u) : CellsJudged s u :=
  ⟨h.1.trans h'.1, h'.2.trans (by rw [h.2])⟩

theorem CellsMoved.judged {s t : State} (h : CellsMoved s t) : CellsJudged s t := by
  unfold CellsMoved at h
  have hregs : t.regs = s.regs := by rw [h]
  refine ⟨.of_regs hregs, ?_⟩
  rw [h]

theorem CpRaises.judged {s t : State} (h : CpRaises s t) : CellsJudged s t := by
  refine ⟨h.1, ?_⟩
  rw [h.2]

theorem CellsJudged.foldl {α : Type} {f : State → α → State} (h : ∀ x a, CellsJudged x (f x a)) (l : List α)
    (s : State) : CellsJudged s (l.foldl f s) :=
  List.foldlRecOn (motive := CellsJudged s) l f (.refl s) fun x hx a _ => hx.trans (h x a)

theorem CellsJudged.now {s t : State} (h : CellsJudged s t) : t.now = s.now := by rw [h.2]
theorem CellsJudged.est {s t : State} (h : CellsJudged s t) : t.est = { s.est with cells := t.est.cells } := by rw [h.2]

theorem estRaise_setEcell_judged (q n : Nat) (old c : EstCell) (s : State) :
    CellsJudged s (estRaise q n old c (s.setEcell q n c)) :=
  (CellsMoved.setEcell s q n c).judged.trans (estRaise_raises q n old c _).judged

theorem estRaise_setEcell_same (q n : Nat) (old c : EstCell) (s : State) :
    (estRaise q n old c (s.setEcell q n c)).ecell q n = c :=
  (State.ecell_congr (estRaise_est ..) q n).trans (State.ecell_setEcell_same ..)

theorem estRaise_setEcell_ne (q : Nat) {n m : Nat} (old c : EstCell) (s : State) (h : m ≠ n) :
    (estRaise q n old c (s.setEcell q n c)).ecell q m = s.ecell q m :=
  (State.ecell_congr (estRaise_est ..) q m).trans (State.ecell_setEcell_ne _ _ _ h)

/-! ## A step (R204, R205) -/

/-- Two records of a cell differ at most in the last 24 h. -/
def SameButHist (c d : EstCell) : Prop := d = { c with hist := d.hist }

theorem SameButHist.withHist {c d : EstCell} (h : SameButHist c d) (l : List (Nat × Int)) :
    SameButHist c { d with hist := l } := by
  unfold SameButHist at h ⊢
  rw [h]

/-- What joins a cell's last 24 h is all that the note of the states of charge changes. -/
theorem noteSoc_spec (q t : Nat) (s : State) :
    CellsMoved s (noteSoc q t s) ∧ ∀ n, SameButHist (s.ecell q n) ((noteSoc q t s).ecell q n) := by
  unfold noteSoc
  extract_lets med
  split
  · exact ⟨.refl s, fun n => rfl⟩
  · refine ⟨.foldl (fun x n => ?_) _ _, ?_⟩
    · dsimp only
      split
      · exact .refl x
      · exact .setEcell ..
    · refine List.foldlRecOn (motive := fun x : State => ∀ n, SameButHist (s.ecell q n) (x.ecell q n))
        _ _ (fun n => rfl) fun x hx a _ => ?_
      dsimp only
      split
      · exact hx
      · intro n
        by_cases hn : n = a
        · rw [hn, State.ecell_setEcell_same]
          exact (hx a).withHist _
        · rw [State.ecell_setEcell_ne _ _ _ hn]
          exact hx n

/-- Every estimated cell takes its state after the step of length `len` that ends at `t`. -/
def stepCells (q len t : Nat) (s : State) : State :=
  (estCells s q).foldl (fun x n =>
    estRaise q n (s.ecell q n) (cellAfter s q n len t) (x.setEcell q n (cellAfter s q n len t))) s

theorem stepCells_judged (q len t : Nat) (s : State) : CellsJudged s (stepCells q len t s) :=
  .foldl (fun x n => estRaise_setEcell_judged q n _ _ x) _ _

theorem stepCells_ecell (q len t : Nat) (s : State) :
    ∀ n ∈ estCells s q, (stepCells q len t s).ecell q n = cellAfter s q n len t :=
  foldl_own (view := fun x n => x.ecell q n) (P := fun n c => c = cellAfter s q n len t) (nodup_estCells s q)
    (fun x _ _ _ _ hne => estRaise_setEcell_ne q _ _ x hne) (fun x n _ _ => estRaise_setEcell_same q n _ _ x)

theorem estStep_later {q k : Nat} {s : State} (hrun : estRun s q = true)
    (hlater : atOf s.est.stepAt q < k * stepLen s q ∨ s.now < atOf s.est.stepAt q) :
    estStep q k s = noteSoc q (k * stepLen s q)
      (stepCells q (stepLen s q) (k * stepLen s q) (stepBegin q (k * stepLen s q) s)) := by
  refine if_neg ?_
  rw [hrun]
  simp only [Bool.not_true, Bool.false_eq_true, false_or]
  omega

theorem stepDiv_le (s : State) (q : Nat) : stepDiv s q ≤ 10 := by
  unfold stepDiv
  cases h : [1, 2, 5, 10].find? fun d => loadFits s 1 q (10 * (estCells s q).length / d) with
  | none => exact Nat.le_refl 10
  | some d =>
    have hd : d ∈ [1, 2, 5, 10] := List.mem_of_find?_eq_some h
    simp only [List.mem_cons, List.not_mem_nil, or_false] at hd
    change d ≤ 10
    omega

theorem stepBegin_regs (t : Nat) (s : State) :
    (stepBegin 0 t s).regs = ((s.until (t + 1000000)).fs R.EST_STAT_STEPDIV (stepDiv s 0)).regs := rfl

theorem stepBegin_reg (t : Nat) (s : State) {a : Nat} (h : a ≠ R.EST_STAT) : (stepBegin 0 t s).reg a = s.reg a := by
  rw [State.reg_congr (stepBegin_regs t s), State.reg_fs_ne _ R.EST_STAT_STEPDIV _ h, State.until_reg]

theorem samplesMask_congr {s t : State} (h : t.regs = s.regs) (q : Nat) : samplesMask t q = samplesMask s q := by
  have h0 : ∀ i, t.subW0 q i = s.subW0 q i := fun i => congrArg BitVec.toNat (State.reg_congr h _)
  have h1 : ∀ i, t.subW1 q i = s.subW1 q i := fun i => congrArg BitVec.toNat (State.reg_congr h _)
  simp only [samplesMask, h0, h1]

/-- Which cells are estimated rests on the registers and the engines' kernels. -/
theorem estimated_congr {s t : State} (hregs : t.regs = s.regs) (harr : t.arr = s.arr) (q n : Nat) :
    estimated t q n = estimated s q n := by
  have hrun : estRun t q = estRun s q := by
    simp only [estRun, holdsKernel, State.fb, State.fg, State.reg_congr hregs, harr]
  simp only [estimated, hrun, samplesMask_congr hregs, State.cellBit_congr hregs]

theorem stepBegin_tenant {q : Nat} (t : Nat) (s : State) (h : q ≠ 0) :
    (stepBegin q t s).regs = s.regs ∧ (stepBegin q t s).arr = s.arr := by
  simp only [stepBegin, if_neg h]
  exact ⟨s.until_regs _, s.until_arr _⟩

theorem stepBegin_estCells (q t : Nat) (s : State) : estCells (stepBegin q t s) q = estCells s q := by
  refine List.filter_congr fun n _ => ?_
  by_cases hq : q = 0
  · subst hq
    have h0 : (stepBegin 0 t s).reg R.EST_CELL0 = s.reg R.EST_CELL0 := stepBegin_reg t s (by decide)
    have h1 : (stepBegin 0 t s).reg R.EST_CELL1 = s.reg R.EST_CELL1 := stepBegin_reg t s (by decide)
    simp only [estimated, State.cellBit, h0, h1, if_true]
  · obtain ⟨hregs, harr⟩ := stepBegin_tenant t s hq
    exact estimated_congr hregs harr q n

theorem stepBegin_now (q t : Nat) (s : State) : (stepBegin q t s).now = max s.now (t + 1000000) := by
  unfold stepBegin
  split <;> exact s.until_now _

theorem stepBegin_stepAt (q t : Nat) (s : State) : atOf (stepBegin q t s).est.stepAt q = t := Smap.get_set_same ..

theorem stepBegin_div (t : Nat) (s : State) : (stepBegin 0 t s).fg R.EST_STAT_STEPDIV = stepDiv s 0 :=
  ((State.fg_congr R.EST_STAT_STEPDIV (State.reg_congr (stepBegin_regs t s) _)).trans
    (State.fg_fs_same _ R.EST_STAT_STEPDIV _ (by decide))).trans
    (Nat.mod_eq_of_lt (Nat.lt_of_le_of_lt (stepDiv_le s 0) (by decide)))

/-- A step that lies after the last one. -/
theorem estStep_spec {q k : Nat} {s : State} (hrun : estRun s q = true)
    (hlater : atOf s.est.stepAt q < k * stepLen s q ∨ s.now < atOf s.est.stepAt q) :
    CellsJudged (stepBegin q (k * stepLen s q) s) (estStep q k s) ∧
      ∀ n ∈ estCells s q, (estStep q k s).ecell q n =
        { cellAfter (stepBegin q (k * stepLen s q) s) q n (stepLen s q) (k * stepLen s q) with
          hist := ((estStep q k s).ecell q n).hist } := by
  rw [estStep_later hrun hlater]
  obtain ⟨hmoved, hnoted⟩ := noteSoc_spec q (k * stepLen s q)
    (stepCells q (stepLen s q) (k * stepLen s q) (stepBegin q (k * stepLen s q) s))
  refine ⟨(stepCells_judged ..).trans hmoved.judged, fun n hn => ?_⟩
  refine (hnoted n).trans ?_
  rw [stepCells_ecell q _ _ _ n (stepBegin_estCells q _ s ▸ hn)]

/-! ## Resistance growth (R209) -/

/-- The resistance growth of a cell: from HFR where F0V is 1, else the filter's factor. -/
def growthOf (s : State) (q n : Nat) : Int :=
  if s.pg q (R.PRF_DER_W3_FLAGS n) % 2 = 1 then
    hfrGrowth (estPar s q (estType s q n)) (asInt 32 (s.pw q (R.PRF_DER_W1 n)).toNat) (s.ecell q n).tfus
  else (s.ecell q n).comps.getD 2 0

/-- The time of the resistance update is noted. -/
def growthNoted (q : Nat) (s : State) : State := { s with est := { s.est with resAt := setAt s.est.resAt q s.lt } }

theorem resistanceUpdate_spec {q : Nat} {s : State} (hrun : estRun s q = true)
    (hdue : s.due (atOf s.est.resAt q) 60000000000 = true) :
    CellsMoved (growthNoted q s) (resistanceUpdate q s) ∧ ∀ n ∈ estCells s q, (s.ecell q n).conv ≠ 0 →
      ((resistanceUpdate q s).ecell q n).rgr = clampU 16 (growthOf s q n).toNat := by
  have hgo : ¬((!estRun s q) = true ∨ (!s.due (atOf s.est.resAt q) 60000000000) = true) := by simp [hrun, hdue]
  rw [resistanceUpdate, if_neg hgo]
  refine ⟨.foldl (fun x n => ?_) _ _, foldl_own (view := fun x n => x.ecell q n) (s := growthNoted q s)
    (P := fun n c => (s.ecell q n).conv ≠ 0 → c.rgr = clampU 16 (growthOf s q n).toNat) (nodup_estCells s q) ?_ ?_⟩
  · dsimp only
    split
    · exact .refl x
    · exact .setEcell ..
  · intro x n _ m _ hne
    dsimp only
    split
    · rfl
    · exact State.ecell_setEcell_ne _ _ _ hne
  · intro x n _ hx hconv
    have hx : x.ecell q n = s.ecell q n := hx
    dsimp only
    rw [hx, if_neg hconv, State.ecell_setEcell_same]
    rfl

/-! ## The micro-short score (R212) -/

/-- Each estimated cell gives one current, its self-discharge current where it has a slope; only free values are drawn. -/
theorem selfDischarges_spec (q : Nat) (s : State) :
    (selfDischarges q s).1.map Prod.fst = estCells s q ∧
      (∀ p ∈ (selfDischarges q s).1, ∀ i,
        selfDischarge (estPar s q (estType s q p.1)) (s.ecell q p.1) = some i → p.2 = i) ∧
      (selfDischarges q s).2 = { s with freeCtr := (selfDischarges q s).2.freeCtr } := by
  unfold selfDischarges
  induction estCells s q using List.reverseRecOn with
  | nil => exact ⟨rfl, fun p hp => absurd hp List.not_mem_nil, rfl⟩
  | append_singleton l n ih =>
    rw [List.foldl_append, List.foldl_cons, List.foldl_nil]
    generalize l.foldl _ ([], s) = x at ih ⊢
    obtain ⟨hcells, hcur, hfree⟩ := ih
    split
    · next i hi =>
      refine ⟨by simp [hcells], fun p hp j hj => ?_, hfree⟩
      obtain hp | hp := List.mem_append.1 hp
      · exact hcur p hp j hj
      · rw [List.mem_singleton.1 hp] at hj ⊢
        exact Option.some.inj (hi.symm.trans hj)
    · next hnone =>
      refine ⟨by simp [hcells], fun p hp j hj => ?_, ?_⟩
      · obtain hp | hp := List.mem_append.1 hp
        · exact hcur p hp j hj
        · rw [List.mem_singleton.1 hp] at hj
          exact absurd (hnone.symm.trans hj) (Option.some_ne_none j).symm
      · dsimp only [State.free]
        rw [hfree]

/-- A cell's record after an evaluation in which the valid cells have the currents `ok` and the cell has `i`. -/
def scoredCell (limit now : Nat) (ok : List (Nat × Int)) (i : Int) (c : EstCell) : EstCell :=
  if ok.length < 8 then { c with mss := 0, msh := false, mshUp := 0, mshDn := 0 }
  else if (match c.balAt with | some b => decide (now < b + 86400000000000) | none => false) = true then c
  else
    let m := microScore (ok.map fun p => p.2) i
    let up := if limit ≤ m then c.mshUp + 1 else 0
    let dn := if limit ≤ m then 0 else c.mshDn + 1
    { c with mss := m, mshUp := up, mshDn := dn, msh := decide (3 ≤ up) || (c.msh && decide (dn < 3)) }

theorem scoredCell_few {limit now : Nat} {ok : List (Nat × Int)} {i : Int} {c : EstCell} (h : ok.length < 8) :
    (scoredCell limit now ok i c).mss = 0 ∧ (scoredCell limit now ok i c).msh = false := by
  rw [scoredCell, if_pos h]
  exact ⟨rfl, rfl⟩

theorem scoredCell_many {limit now : Nat} {ok : List (Nat × Int)} {i : Int} {c : EstCell} (h : 8 ≤ ok.length)
    (hbal : c.balAt = none) : (scoredCell limit now ok i c).mss = microScore (ok.map fun p => p.2) i := by
  rw [scoredCell, if_neg (Nat.not_lt.2 h), hbal, if_neg Bool.false_ne_true]

/-- The time of the evaluation is noted. -/
def microNoted (q : Nat) (s : State) : State := { s with est := { s.est with mssAt := setAt s.est.mssAt q s.lt } }

/-- The currents of an evaluation. -/
def microCurrents (q : Nat) (s : State) : List (Nat × Int) := (selfDischarges q (microNoted q s)).1

/-- The currents of the valid cells among them. -/
def validCurrents (q : Nat) (s : State) : List (Nat × Int) := (microCurrents q s).filter fun p => (s.ecell q p.1).val

theorem microCurrents_cells (q : Nat) (s : State) : (microCurrents q s).map Prod.fst = estCells s q :=
  (selfDischarges_spec q (microNoted q s)).1

theorem validCurrents_cells (q : Nat) (s : State) : (validCurrents q s).map Prod.fst = estValid s q := by
  rw [estValid, ← microCurrents_cells, List.filter_map]
  rfl

theorem validCurrents_length (q : Nat) (s : State) : (validCurrents q s).length = (estValid s q).length := by
  rw [← validCurrents_cells, List.length_map]

/-- A cell's self-discharge current, 0 where it has no slope. -/
def currentOf (s : State) (q n : Nat) : Int := (selfDischarge (estPar s q (estType s q n)) (s.ecell q n)).getD 0

theorem microCurrents_value {q : Nat} {s : State}
    (hall : ∀ m ∈ estCells s q, (selfDischarge (estPar s q (estType s q m)) (s.ecell q m)).isSome = true) :
    ∀ p ∈ microCurrents q s, p.2 = currentOf s q p.1 := by
  intro p hp
  have hn : p.1 ∈ estCells s q := microCurrents_cells q s ▸ List.mem_map_of_mem hp
  obtain ⟨i, hi⟩ := Option.isSome_iff_exists.1 (hall p.1 hn)
  obtain ⟨-, hcur, -⟩ := selfDischarges_spec q (microNoted q s)
  rw [currentOf, hi]
  exact hcur p hp i hi

theorem validCurrents_values {q : Nat} {s : State}
    (hall : ∀ m ∈ estCells s q, (selfDischarge (estPar s q (estType s q m)) (s.ecell q m)).isSome = true) :
    ((validCurrents q s).map fun p => p.2) = (estValid s q).map (currentOf s q) := by
  rw [← validCurrents_cells, List.map_map]
  exact List.map_congr_left fun p hp => microCurrents_value hall p (List.mem_filter.1 hp).1

/-- A cell is scored by its current. -/
def scoreCell (q limit : Nat) (ok : List (Nat × Int)) (x : State) (p : Nat × Int) : State :=
  estRaise q p.1 (x.ecell q p.1) (scoredCell limit x.now ok p.2 (x.ecell q p.1))
    (x.setEcell q p.1 (scoredCell limit x.now ok p.2 (x.ecell q p.1)))

theorem scoreCell_judged (q limit : Nat) (ok : List (Nat × Int)) (x : State) (p : Nat × Int) :
    CellsJudged x (scoreCell q limit ok x p) := by
  unfold scoreCell
  exact estRaise_setEcell_judged ..

theorem foldl_scoreCell_judged (q limit : Nat) (ok l : List (Nat × Int)) (s : State) :
    CellsJudged s (l.foldl (scoreCell q limit ok) s) := .foldl (scoreCell_judged q limit ok) l s

theorem foldl_scoreCell_ecell (q limit : Nat) (ok : List (Nat × Int)) {l : List (Nat × Int)} (s : State)
    (hnodup : (l.map Prod.fst).Nodup) :
    ∀ p ∈ l, ∃ now, (l.foldl (scoreCell q limit ok) s).ecell q p.1 = scoredCell limit now ok p.2 (s.ecell q p.1) := by
  refine foldl_own (view := fun (x : State) (p : Nat × Int) => x.ecell q p.1)
    (P := fun p c => ∃ now, c = scoredCell limit now ok p.2 (s.ecell q p.1)) hnodup.of_map ?_ ?_
  · intro x a ha b hb hne
    exact estRaise_setEcell_ne q _ _ x fun h => hne (List.inj_on_of_nodup_map hnodup hb ha h)
  · intro x p _ hx
    have hx : x.ecell q p.1 = s.ecell q p.1 := hx
    refine ⟨x.now, (estRaise_setEcell_same q p.1 _ _ x).trans ?_⟩
    rw [hx]

theorem microShortEvaluation_due {q : Nat} {s : State} (hrun : estRun s q = true)
    (hdue : s.due (atOf s.est.mssAt q) 3600000000000 = true) :
    microShortEvaluation q s = (microCurrents q s).foldl
      (scoreCell q (s.pg q R.EST_LIM2_MSTHR) (validCurrents q s)) (selfDischarges q (microNoted q s)).2 := by
  have hgo : ¬((!estRun s q) = true ∨ (!s.due (atOf s.est.mssAt q) 3600000000000) = true) := by simp [hrun, hdue]
  obtain ⟨-, -, hfree⟩ := selfDischarges_spec q (microNoted q s)
  have hok : ((microCurrents q s).filter fun p => ((selfDischarges q (microNoted q s)).2.ecell q p.1).val) =
      validCurrents q s := List.filter_congr fun p _ => by rw [hfree]; rfl
  rw [← hok, microShortEvaluation, if_neg hgo]
  rfl

/-- An evaluation that is due gives every estimated cell its record from its current. -/
theorem microShortEvaluation_spec {q : Nat} {s : State} (hrun : estRun s q = true)
    (hdue : s.due (atOf s.est.mssAt q) 3600000000000 = true) :
    atOf (microShortEvaluation q s).est.mssAt q = s.lt ∧
      ∀ n ∈ estCells s q, ∃ i limit now, (n, i) ∈ microCurrents q s ∧
        (microShortEvaluation q s).ecell q n = scoredCell limit now (validCurrents q s) i (s.ecell q n) := by
  obtain ⟨-, -, hfree⟩ := selfDischarges_spec q (microNoted q s)
  have hest : (selfDischarges q (microNoted q s)).2.est = (microNoted q s).est := by rw [hfree]
  rw [microShortEvaluation_due hrun hdue]
  refine ⟨?_, fun n hn => ?_⟩
  · rw [(foldl_scoreCell_judged ..).est, hest]
    exact Smap.get_set_same (fun _ => 0) s.est.mssAt q s.lt
  · have hnodup : ((microCurrents q s).map Prod.fst).Nodup := microCurrents_cells q s ▸ nodup_estCells s q
    obtain ⟨⟨m, i⟩, hp, rfl⟩ := List.mem_map.1 (microCurrents_cells q s ▸ hn)
    obtain ⟨now, hcell⟩ := foldl_scoreCell_ecell q (s.pg q R.EST_LIM2_MSTHR) (validCurrents q s)
      (selfDischarges q (microNoted q s)).2 hnodup (m, i) hp
    refine ⟨i, s.pg q R.EST_LIM2_MSTHR, now, hp, hcell.trans ?_⟩
    rw [State.ecell_congr hest]
    rfl

/-! ## Publication (R215, R216) -/

theorem Feeds.now {s t : State} (h : Feeds s t) : t.now = s.now := by rw [h.2]
theorem Feeds.est {s t : State} (h : Feeds s t) : t.est = s.est := by rw [h.2]

theorem Feeds.pw {s t : State} (h : Feeds s t) (q : Nat) {a : Nat} (ha : a ∉ dropCounters) : t.pw q a = s.pw q a := by
  simp only [State.pw, h.regs a ha, h.prf]

theorem SetsWords.est {s t : State} (h : SetsWords s t) : t.est = s.est := by rw [h]

theorem State.setEcell_pw (s : State) (q n : Nat) (c : EstCell) (p a : Nat) : (s.setEcell q n c).pw p a = s.pw p a := rfl
theorem State.setEcell_now (s : State) (q n : Nat) (c : EstCell) : (s.setEcell q n c).now = s.now := rfl
theorem State.setEcell_pubAt (s : State) (q n : Nat) (c : EstCell) : (s.setEcell q n c).est.pubAt = s.est.pubAt := rfl

/-- The four words of cell `n` in the windows of parcel `q`'s estimator. -/
def stateWords (q n : Nat) (s : State) : List Word := (List.range 4).map fun w => s.pw q (R.EST_STATE_W0 n + 4 * w)

theorem stateWords_congr {q n : Nat} {s t : State}
    (h : ∀ w < 4, t.pw q (R.EST_STATE_W0 n + 4 * w) = s.pw q (R.EST_STATE_W0 n + 4 * w)) :
    stateWords q n t = stateWords q n s :=
  List.map_congr_left fun w hw => h w (List.mem_range.1 hw)

/-- The words of a cell's record are written. -/
def putWords (q n : Nat) (ws : List Word) (s : State) : State :=
  (List.range 4).foldl (fun y w => y.setPw q (R.EST_STATE_W0 n + 4 * w) (ws.getD w 0)) s

theorem putWords_words (q n : Nat) (ws : List Word) (s : State) : SetsWords s (putWords q n ws s) :=
  List.foldlRecOn (motive := SetsWords s) _ _ (.refl s) fun y hy _ _ => hy.trans (y.setPw_words ..)

theorem putWords_same (q n : Nat) {ws : List Word} (s : State) (h : ws.length = 4) :
    stateWords q n (putWords q n ws s) = ws := by
  have hput : ∀ w ∈ List.range 4, (putWords q n ws s).pw q (R.EST_STATE_W0 n + 4 * w) = ws.getD w 0 :=
    foldl_own (view := fun x w => x.pw q (R.EST_STATE_W0 n + 4 * w)) (P := fun w v => v = ws.getD w 0) List.nodup_range
      (fun x _ _ _ _ hne => State.pw_setPw_ne x q _ (by omega)) (fun x _ _ _ => x.pw_setPw_same ..)
  rw [stateWords, List.map_congr_left hput]
  match ws, h with
  | [_, _, _, _], _ => rfl

theorem putWords_ne {q n a : Nat} (ws : List Word) (s : State) (h : ∀ w < 4, a ≠ R.EST_STATE_W0 n + 4 * w) :
    (putWords q n ws s).pw q a = s.pw q a :=
  List.foldlRecOn (motive := fun y : State => y.pw q a = s.pw q a) _ _ rfl fun y hy w hw =>
    (State.pw_setPw_ne y q _ (h w (List.mem_range.1 hw))).trans hy

/-- The flags of the interval are cleared. -/
def EstCell.nextInterval (c : EstCell) : EstCell := { c with pred := false, ilost := false, nco := false }

theorem feedState_feeds (q n : Nat) (ws : List Word) (s : State) : Feeds s (feedState q n ws s) := by
  unfold feedState
  exact feed_feeds ..

/-- The record of cell `n` is written to its words and recorded. -/
def recordShown (q n : Nat) (ws : List Word) (s : State) : State :=
  (putWords q n ws s).emit .stream ([3, q] ++ ws.map fun w => w.toNat)

/-- The record of cell `n` is shown and fed to its subscribers. -/
def recordOut (q k n : Nat) (s : State) : State :=
  feedState q n (estRecord n k (s.ecell q n)) (recordShown q n (estRecord n k (s.ecell q n)) s)

/-- The record of cell `n` for interval `k` is published. -/
def publishCell (q k n : Nat) (s : State) : State :=
  (recordOut q k n s).setEcell q n ((recordOut q k n s).ecell q n).nextInterval

theorem recordOut_est (q k n : Nat) (s : State) : (recordOut q k n s).est = s.est :=
  (feedState_feeds ..).est.trans (putWords_words q n _ s).est

theorem recordOut_now (q k n : Nat) (s : State) : (recordOut q k n s).now = s.now :=
  (feedState_feeds ..).now.trans (putWords_words q n _ s).now

theorem stateWord_not_counter {n w : Nat} (hn : IsCell n) (hw : w < 4) : R.EST_STATE_W0 n + 4 * w ∉ dropCounters := by
  intro h
  obtain ⟨q, -, hq⟩ := List.mem_map.1 h
  simp only [R.FAB_PDEC, R.EST_STATE_W0] at hq
  omega

theorem publishCell_words (q k n : Nat) {m : Nat} (s : State) (hm : IsCell m) :
    stateWords q m (publishCell q k n s) = stateWords q m (putWords q n (estRecord n k (s.ecell q n)) s) := by
  refine stateWords_congr fun _ hw => ?_
  rw [publishCell, State.setEcell_pw, recordOut, (feedState_feeds ..).pw q (stateWord_not_counter hm hw)]
  rfl

/-- What belongs to a cell in a parcel's estimator: its record and the words that show it. -/
def cellView (q : Nat) (s : State) (n : Nat) : EstCell × List Word := (s.ecell q n, stateWords q n s)

theorem cellView_eq {q n : Nat} {s : State} {c : EstCell} {ws : List Word} (hc : s.ecell q n = c)
    (hws : stateWords q n s = ws) : cellView q s n = (c, ws) := by rw [cellView, hc, hws]

theorem publishCell_same {q k n : Nat} (s : State) (hn : IsCell n) :
    cellView q (publishCell q k n s) n = ((s.ecell q n).nextInterval, estRecord n k (s.ecell q n)) := by
  refine cellView_eq ?_ ?_
  · rw [publishCell, State.ecell_setEcell_same, State.ecell_congr (recordOut_est q k n s)]
  · rw [publishCell_words q k n s hn]
    exact putWords_same q n s rfl

theorem publishCell_ne {q k n m : Nat} (s : State) (hn : IsCell n) (hm : IsCell m) (hne : m ≠ n) :
    cellView q (publishCell q k n s) m = cellView q s m := by
  refine cellView_eq ?_ ?_
  · rw [publishCell, State.ecell_setEcell_ne _ _ _ hne, State.ecell_congr (recordOut_est q k n s)]
  · rw [publishCell_words q k n s hm]
    refine stateWords_congr fun w hw => putWords_ne _ s fun v hv => ?_
    simp only [R.EST_STATE_W0]
    omega

/-- The station as interval `k` is published: the datum has come and the interval is noted. -/
def publishBegin (q k : Nat) (s : State) : State :=
  { s.until (100000000 * k) with est := { s.est with pubAt := setAt s.est.pubAt q k } }

/-- All estimated cells are published. -/
def publishCells (q k : Nat) (s : State) : State := (estCells s q).foldl (fun x n => publishCell q k n x) s

theorem publishCells_view (q k : Nat) (s : State) : ∀ n ∈ estCells s q,
    cellView q (publishCells q k s) n = ((s.ecell q n).nextInterval, estRecord n k (s.ecell q n)) := by
  refine foldl_own (view := cellView q)
    (P := fun n v => v = ((s.ecell q n).nextInterval, estRecord n k (s.ecell q n))) (nodup_estCells s q) ?_ ?_
  · intro x n hn m hm hne
    exact publishCell_ne x (isCell_of_mem_estCells hn) (isCell_of_mem_estCells hm) hne
  · intro x n hn hx
    have hcell : x.ecell q n = s.ecell q n := congrArg Prod.fst hx
    rw [publishCell_same x (isCell_of_mem_estCells hn), hcell]

theorem publishCells_keeps (q k : Nat) (s : State) :
    (publishCells q k s).now = s.now ∧ (publishCells q k s).est.pubAt = s.est.pubAt := by
  refine List.foldlRecOn (motive := fun x : State => x.now = s.now ∧ x.est.pubAt = s.est.pubAt) _ _ ⟨rfl, rfl⟩
    fun x hx n _ => ?_
  obtain ⟨hnow, hpub⟩ := hx
  rw [publishCell, State.setEcell_now, State.setEcell_pubAt, recordOut_now, recordOut_est]
  exact ⟨hnow, hpub⟩

/-- The summary that the records of an estimator's cells form. -/
def summaryOf (q : Nat) (s : State) : Nat := estSum ((estCells s q).map fun n => s.ecell 0 n)

/-- P0's publication also gives the summary. -/
def showSum (q v : Nat) (s : State) : State := if q = 0 then s.fs R.EST_SUM_SUM v else s

theorem showSum_keeps (q v : Nat) (s : State) : (showSum q v s).now = s.now ∧ (showSum q v s).est = s.est := by
  unfold showSum
  split <;> exact ⟨rfl, rfl⟩

theorem showSum_view (q v : Nat) (n : Nat) (s : State) : cellView q (showSum q v s) n = cellView q s n := by
  unfold showSum
  split
  · next hq =>
    subst hq
    refine cellView_eq rfl (stateWords_congr fun w hw => State.reg_fs_ne s R.EST_SUM_SUM v ?_)
    simp only [R.EST_STATE_W0, R.EST_SUM_SUM]
    omega
  · rfl

theorem estPublication_due {q k : Nat} {s : State} (hrun : estRun s q = true)
    (hlater : atOf s.est.pubAt q < k ∨ s.now < 100000000 * atOf s.est.pubAt q)
    (hstep : atOf s.est.stepAt q ≤ 100000000 * k ∨ s.now < atOf s.est.stepAt q) :
    estPublication q k s = showSum q (summaryOf q (publishBegin q k s)) (publishCells q k (publishBegin q k s)) := by
  refine if_neg ?_
  rw [hrun]
  simp only [Bool.not_true, Bool.false_eq_true, false_or]
  omega

/-- Settles O15: steps, resistance, micro-shorts, publication and timed snapshots, each by the rule of its row. -/
theorem estimatorRowsTakeEffect : Obligations.EstimatorRowsTakeEffect := by
  unfold Obligations.EstimatorRowsTakeEffect
  refine ⟨?step, ?resistance, ?few, ?many, ?publication, ?snapshot, ?dropped⟩
  case step =>
    intro q k s hrun hlater
    refine .of_rule (f := estStep q.val k) rfl (fun _ h => h) ?_
    obtain ⟨hjudged, hcells⟩ := estStep_spec hrun hlater
    refine ⟨hjudged.now.trans (stepBegin_now ..), ?_, fun hq => ?_, hcells⟩
    · rw [hjudged.est]
      exact stepBegin_stepAt ..
    · rw [State.fg_congr R.EST_STAT_STEPDIV (hjudged.1 R.EST_STAT (by decide)), hq]
      exact stepBegin_div ..
  case resistance =>
    intro q s hrun hdue
    obtain ⟨hmoved, hcells⟩ := resistanceUpdate_spec hrun hdue
    refine .of_rule (f := resistanceUpdate q.val) rfl (fun t ⟨hframe, hcells⟩ => ⟨?_, hcells⟩)
      ⟨Eq.trans hmoved (by rw [hmoved]; rfl), ?_, fun n hn hconv => ⟨fun hf0 => ?_, fun hf0 => ?_⟩⟩
    · exact congrArg (fun u : State => { u with pending := s.pending, variant := s.variant }) hframe
    · rw [hmoved]
      exact Smap.get_set_same ..
    · rw [hcells n hn hconv, growthOf, if_neg (by omega)]
    · rw [hcells n hn hconv, growthOf, if_pos hf0]
  case few =>
    intro q s hrun hdue hfew
    refine .of_rule (f := microShortEvaluation q.val) rfl (fun _ h => h) ?_
    obtain ⟨hat, hcells⟩ := microShortEvaluation_spec hrun hdue
    refine ⟨hat, fun n hn => ?_⟩
    obtain ⟨i, limit, now, -, hcell⟩ := hcells n hn
    rw [hcell]
    exact scoredCell_few (validCurrents_length q.val s ▸ hfew)
  case many =>
    intro q s hrun hdue hmany hall
    refine .of_rule (f := microShortEvaluation q.val) rfl (fun _ h => h) fun n hn hbal => ?_
    obtain ⟨-, hcells⟩ := microShortEvaluation_spec hrun hdue
    obtain ⟨i, limit, now, hi, hcell⟩ := hcells n hn
    have hvalue : i = currentOf s q.val n := microCurrents_value hall (n, i) hi
    rw [hcell, scoredCell_many (validCurrents_length q.val s ▸ hmany) hbal, validCurrents_values hall, hvalue]
    rfl
  case publication =>
    intro q k s hrun hlater hstep
    refine .of_rule (f := estPublication q.val k) rfl (fun _ h => h) ?_
    rw [estPublication_due hrun hlater hstep]
    obtain ⟨hnow, hpub⟩ := publishCells_keeps q.val k (publishBegin q.val k s)
    obtain ⟨hsnow, hsest⟩ := showSum_keeps q.val (summaryOf q.val (publishBegin q.val k s))
      (publishCells q.val k (publishBegin q.val k s))
    refine ⟨(hsnow.trans hnow).trans (s.until_now _), ?_, fun hq => ?_, fun n hn => ?_⟩
    · rw [hsest, hpub]
      exact Smap.get_set_same ..
    · rw [showSum, if_pos hq, hq]
      exact State.fg_fs_same _ R.EST_SUM_SUM _ (by decide)
    · have hview := (showSum_view q.val (summaryOf q.val (publishBegin q.val k s)) n
        (publishCells q.val k (publishBegin q.val k s))).trans (publishCells_view q.val k (publishBegin q.val k s) n hn)
      have hcell := congrArg Prod.fst hview
      exact ⟨congrArg Prod.snd hview, congrArg EstCell.pred hcell, congrArg EstCell.ilost hcell,
        congrArg EstCell.nco hcell⟩
  case snapshot =>
    intro s hdue hfree
    refine .of_rule (f := estSnapshot) rfl (fun _ h => h) ?_
    obtain ⟨hjobs, hphase, hbusy, hregs⟩ := nvCommit_spec { kind := 1, snap := takeSnapshot s }
      (s := { s with est := { s.est with snapAt := s.lt } }) hfree
    rw [estSnapshot, if_neg (by simp [hdue]), if_neg (by simp [hfree])]
    exact ⟨hjobs, hphase, rfl, hbusy, hregs⟩
  case dropped =>
    intro s hdue hbusy
    refine run_kept (f := estSnapshot) ?_ rfl rfl
    rw [estSnapshot, if_neg (by simp [hdue]), if_pos hbusy]

end Sys2Proof.Machine

/-! # Engine instructions: what an engine and its plot hold, and the issue of an instruction (R230, R231, R237) -/

namespace Sys2Proof.Machine

/-! ## Engines of a state -/

theorem State.engine_congr {s t : State} (h : t.arr.engs = s.arr.engs) (x : Nat) : t.engine x = s.engine x := by
  simp only [State.engine, h]

@[simp] theorem State.engine_setEngine_same (s : State) (x : Nat) (e : Eng) : (s.setEngine x e).engine x = e :=
  Smap.get_set_same ..

theorem State.engine_setEngine_ne (s : State) {x y : Nat} (e : Eng) (h : y ≠ x) :
    (s.setEngine x e).engine y = s.engine y := Smap.get_set_ne _ _ _ h

theorem sameBut_of_engines {x : Nat} {s t : State} (h : ∀ y, y ≠ x → t.engine y = s.engine y) :
    SameBut (fun _ => ({} : Eng)) x s.arr.engs t.arr.engs := h

@[simp] theorem Eng.gr_setGr_same (e : Eng) (n : Nat) (v : Word) : (e.setGr n v).gr n = v := Smap.get_set_same ..

theorem Eng.setGr_counted (e : Eng) (n : Nat) (v : Word) : e.counted.setGr n v = (e.setGr n v).counted := rfl

theorem Eng.setGr_pc (e : Eng) (n : Nat) (v : Word) : (e.setGr n v).pc = e.pc := rfl

/-! ## The issue of an instruction -/

theorem eccDone_frame (x : Fin 1024) (ecc : Fin 4) (s : State) :
    eccDone x ecc s = { s with regs := (eccDone x ecc s).regs } := by
  unfold eccDone
  split <;> rfl

theorem eccDone_sameRegs (x : Fin 1024) (ecc : Fin 4) (s : State) :
    SameRegs [R.ENG_PLECC (x.val / 32)] s (eccDone x ecc s) := by
  unfold eccDone
  split
  · exact s.inc_sameRegs (R.ENG_PLECC_COR (x.val / 32))
  · exact .refl _ s

/-- The state in which the rule of an issued instruction begins: the instruction is counted, and so is a word that was
corrected. -/
def issued (x : Fin 1024) (ecc : Fin 4) (s : State) : State :=
  (eccDone x ecc s).setEngine x.val (s.engine x.val).counted

@[simp] theorem issued_engine (x : Fin 1024) (ecc : Fin 4) (s : State) :
    (issued x ecc s).engine x.val = (s.engine x.val).counted := State.engine_setEngine_same ..

theorem issued_engine_ne (x : Fin 1024) (ecc : Fin 4) (s : State) {y : Nat} (h : y ≠ x.val) :
    (issued x ecc s).engine y = s.engine y := by
  rw [issued, State.engine_setEngine_ne _ _ h, eccDone_frame]
  rfl

/-- The state in which an issued instruction is counted and nothing else has happened. -/
def countedIn (x : Nat) (s : State) : State := s.setEngine x (s.engine x).counted

theorem issued_eq (x : Fin 1024) (ecc : Fin 4) (s : State) :
    (if ecc.val = 1 then (countedIn x.val s).inc (R.ENG_PLECC_COR (x.val / 32)) else countedIn x.val s) = issued x ecc s := by
  by_cases h : ecc = 1
  · subst h
    rfl
  · have h' : ¬ecc.val = 1 := fun hv => h (Fin.ext hv)
    rw [if_neg h', issued, eccDone, if_neg h, countedIn]

/-- An engine that issues a word of the row's opcode counts it; what the memory code finds decides between the rule of the
instruction and MEMORY. -/
theorem issue_eq {x : Fin 1024} {ecc : Fin 4} {o w : Nat} {s : State} (f : Nat → Eng → State → EStep)
    (hissue : Issues x o w s) :
    issue x.val o ecc.val f s =
      if ecc.val = 2 then memoryExc x.val 0 (f w (s.engine x.val).counted (countedIn x.val s)) (countedIn x.val s)
      else if ecc.val = 3 ∧ isLoad o then
        memoryExc x.val (dataAddr w (s.engine x.val).counted) (f w (s.engine x.val).counted (countedIn x.val s))
          (countedIn x.val s)
      else finish x.val (issued x ecc s) (f w (s.engine x.val).counted (issued x ecc s)) := by
  obtain ⟨hrun, hstall, hdma, hw, ho⟩ := hissue
  rw [← issued_eq, issue, if_neg (by simp [hrun, hstall])]
  split
  · next a ha => simp [hdma] at ha
  · rw [hw, if_pos ho]
    rfl

/-- An instruction whose words the memory code passes runs its rule and ends as the rule says. -/
theorem issue_runs {x : Fin 1024} {ecc : Fin 4} {o w : Nat} {s : State} (f : Nat → Eng → State → EStep)
    (hissue : Issues x o w s) (hword : ecc ≠ 2) (hdata : ecc = 3 → isLoad o = false) :
    issue x.val o ecc.val f s =
      finish x.val (issued x ecc s) (f w (s.engine x.val).counted (issued x ecc s)) := by
  have hword' : ecc.val ≠ 2 := fun h => hword (Fin.ext h)
  have hdata' : ¬(ecc.val = 3 ∧ isLoad o = true) := fun ⟨h, hl⟩ => by simp [hdata (Fin.ext h)] at hl
  rw [issue_eq f hissue, if_neg hword', if_neg hdata']

/-! ## How an instruction ends -/

/-- An issued instruction left the engine `e`: no other engine and nothing outside the engines changed, but for the count of
corrected words. -/
def Leaves (x : Fin 1024) (ecc : Fin 4) (e : Eng) (s t : State) : Prop :=
  t.engine x.val = e ∧ SameBut (fun _ => ({} : Eng)) x.val s.arr.engs t.arr.engs ∧
  t = { eccDone x ecc s with arr := { s.arr with engs := t.arr.engs } }

theorem Leaves.engine {x : Fin 1024} {ecc : Fin 4} {e : Eng} {s t : State} (h : Leaves x ecc e s t) : t.engine x.val = e := h.1

theorem Leaves.frame {x : Fin 1024} {ecc : Fin 4} {e : Eng} {s t : State} (h : Leaves x ecc e s t) :
    t = { eccDone x ecc s with arr := { s.arr with engs := t.arr.engs } } := h.2.2

theorem Leaves.issued (x : Fin 1024) (ecc : Fin 4) (s : State) :
    Leaves x ecc (s.engine x.val).counted s (issued x ecc s) := by
  refine ⟨issued_engine .., sameBut_of_engines fun y hy => issued_engine_ne x ecc s hy, ?_⟩
  rw [Machine.issued, eccDone_frame]
  rfl

theorem Leaves.setEngine {x : Fin 1024} {ecc : Fin 4} {e : Eng} {s t : State} (h : Leaves x ecc e s t) (e' : Eng) :
    Leaves x ecc e' s (t.setEngine x.val e') := by
  obtain ⟨-, hothers, hframe⟩ := h
  refine ⟨State.engine_setEngine_same .., fun y hy => ?_, ?_⟩
  · exact (State.engine_setEngine_ne t e' hy).trans (hothers y hy)
  · rw [hframe]
    rfl

/-- What a row does whose instruction is issued, by what its rule leaves. -/
theorem Does.leaves {c : Instr} {x : Fin 1024} {ecc : Fin 4} {o w : Nat} {e : Eng} {s : State}
    {f : Nat → Eng → State → EStep} (hexec : exec c s = run (issue x.val o ecc.val f) s) (hissue : Issues x o w s)
    (hword : ecc ≠ 2) (hdata : ecc = 3 → isLoad o = false)
    (hleaves : Leaves x ecc e s (finish x.val (issued x ecc s) (f w (s.engine x.val).counted (issued x ecc s)))) :
    Does c s (Leaves x ecc e s) := by
  refine .of_rule hexec (fun t ⟨hengine, hothers, hframe⟩ => ⟨hengine, hothers, ?_⟩) ?_
  · rw [hframe, eccDone_frame]
  · rw [issue_runs f hissue hword hdata]
    exact hleaves

/-- An instruction that only changes its engine goes on after itself. -/
theorem Leaves.pureEng {x : Fin 1024} {ecc : Fin 4} {e e0 : Eng} {s t u : State} (h : Leaves x ecc e0 s t) :
    Leaves x ecc (e.seq e.pc) s (finish x.val u (pureEng x.val t e)) := by
  have hset := h.setEngine e
  have hfinish := hset.setEngine ((t.setEngine x.val e).engine x.val |>.seq ((t.setEngine x.val e).engine x.val).pc)
  rw [hset.engine] at hfinish
  simpa only [Machine.pureEng, finish, hset.engine] using hfinish

/-- A row whose rule only changes its engine leaves the engine `e`, counted, and goes on. -/
theorem Does.goes {c : Instr} {x : Fin 1024} {ecc : Fin 4} {o w : Nat} {e : Eng} {s : State}
    {f : Nat → Eng → State → EStep} (hexec : exec c s = run (issue x.val o ecc.val f) s) (hissue : Issues x o w s)
    (hword : ecc ≠ 2) (hdata : ecc = 3 → isLoad o = false) (hpc : e.pc = (s.engine x.val).pc)
    (hrule : f w (s.engine x.val).counted (issued x ecc s) = Machine.pureEng x.val (issued x ecc s) e.counted) :
    Does c s (Goes x ecc e s) := by
  refine Does.leaves hexec hissue hword hdata ?_
  rw [hrule, ← hpc]
  exact (Leaves.issued x ecc s).pureEng

/-- A row whose rule only writes `v` into the register its D field names. -/
theorem Does.writes {c : Instr} {x : Fin 1024} {ecc : Fin 4} {o w : Nat} {v : Word} {s : State}
    {f : Nat → Eng → State → EStep} (hexec : exec c s = run (issue x.val o ecc.val f) s) (hissue : Issues x o w s)
    (hword : ecc ≠ 2) (hdata : ecc = 3 → isLoad o = false)
    (hrule : f w (s.engine x.val).counted (issued x ecc s) =
      Machine.pureEng x.val (issued x ecc s) ((s.engine x.val).counted.setGr (iD w) v)) :
    Does c s fun t => Writes x ecc w v s t :=
  .goes hexec hissue hword hdata (Eng.setGr_pc ..) (hrule.trans (congrArg _ (Eng.setGr_counted ..)))

end Sys2Proof.Machine

/-! # The integer, packed and immediate instructions of the engines (R226, R232 to R234) -/

namespace Sys2Proof.Machine

/-! ## Operand forms -/

variable {c : Instr} {x : Fin 1024} {ecc : Fin 4} {o w : Nat} {v : Word} {s : State}

theorem rr3_eq {g : Word → Word → Word} {e : Eng} {y : Nat} {t : State} (h : iX w = 0) :
    rr3 g y w e t = pureEng y t (e.setGr (iD w) (g (e.gr (iA w)) (e.gr (iB w)))) := by
  rw [rr3, if_neg (by simp [h])]

theorem rr2_eq {g : Word → Word} {e : Eng} {y : Nat} {t : State} (hX : iX w = 0) (hB : iB w = 0) :
    rr2 g y w e t = pureEng y t (e.setGr (iD w) (g (e.gr (iA w)))) := by
  rw [rr2, if_neg (by simp [hX, hB])]

theorem Does.rr3 {g : Word → Word → Word} (hexec : exec c s = run (issue x.val o ecc.val (rr3 g x.val)) s)
    (hload : isLoad o = false) (hvalue : g (s.ga x w) (s.gb x w) = v) (hword : ecc ≠ 2) (hissue : Issues x o w s)
    (hX : iX w = 0) : Does c s fun t => Writes x ecc w v s t :=
  .writes hexec hissue hword (fun _ => hload) ((rr3_eq hX).trans (by rw [← hvalue]; rfl))

theorem Does.rr2 {g : Word → Word} (hexec : exec c s = run (issue x.val o ecc.val (rr2 g x.val)) s)
    (hload : isLoad o = false) (hvalue : g (s.ga x w) = v) (hword : ecc ≠ 2) (hissue : Issues x o w s)
    (hX : iX w = 0) (hB : iB w = 0) : Does c s fun t => Writes x ecc w v s t :=
  .writes hexec hissue hword (fun _ => hload) ((rr2_eq hX hB).trans (by rw [← hvalue]; rfl))

theorem Does.ri {imm : Nat → Word} {g : Word → Word → Word}
    (hexec : exec c s = run (issue x.val o ecc.val (ri imm g x.val)) s) (hload : isLoad o = false)
    (hvalue : g (s.ga x w) (imm w) = v) (hword : ecc ≠ 2) (hissue : Issues x o w s) :
    Does c s fun t => Writes x ecc w v s t :=
  .writes hexec hissue hword (fun _ => hload) (by rw [← hvalue]; rfl)

theorem Does.riShift {g : Word → Nat → Word} (hexec : exec c s = run (issue x.val o ecc.val (riShift g x.val)) s)
    (hload : isLoad o = false) (hword : ecc ≠ 2) (hissue : Issues x o w s) (himm : iIMM w < 32) :
    Does c s fun t => Writes x ecc w (g (s.ga x w) (iIMM w)) s t := by
  refine .writes hexec hissue hword (fun _ => hload) ?_
  rw [Machine.riShift, if_neg (by omega), Nat.mod_eq_of_lt himm]
  rfl

/-! ## Results in the spec's terms -/

theorem ofInt_toNat (k : Nat) (i : Int) : (BitVec.ofInt k i).toNat = ofInt k i := by
  rw [BitVec.toNat_ofInt, ofInt]
  norm_cast

theorem w32_ofInt (i : Int) : w32 (ofInt 32 i) = BitVec.ofInt 32 i := by
  rw [w32, ← ofInt_toNat, BitVec.ofNat_toNat, BitVec.setWidth_eq]

theorem sat32_eq (i : Int) : sat32 i = BitVec.ofInt 32 (clampS 32 i) := w32_ofInt _

/-- The high word of a 64-bit number. -/
theorem w32_high (n : BitVec 64) : w32 (n.toNat / 2 ^ 32) = n.extractLsb' 32 32 := by
  apply BitVec.eq_of_toNat_eq
  rw [w32, BitVec.toNat_ofNat, BitVec.extractLsb'_toNat, Nat.shiftRight_eq_div_pow]

theorem mulHigh_eq (a b : Word) :
    w32 (ofInt 64 (a.toInt * b.toInt) / 2 ^ 32) = (a.signExtend 64 * b.signExtend 64).extractLsb' 32 32 := by
  rw [← ofInt_toNat, BitVec.ofInt_mul]
  exact w32_high _

theorem mulHighUnsigned_eq (a b : Word) :
    w32 (a.toNat * b.toNat / 2 ^ 32) = (a.zeroExtend 64 * b.zeroExtend 64).extractLsb' 32 32 := by
  have hproduct : (a.zeroExtend 64 * b.zeroExtend 64).toNat = a.toNat * b.toNat := by
    have hlt : a.toNat * b.toNat < 2 ^ 32 * 2 ^ 32 := Nat.mul_lt_mul'' a.isLt b.isLt
    rw [BitVec.toNat_mul, BitVec.toNat_setWidth_of_le (by decide), BitVec.toNat_setWidth_of_le (by decide),
      Nat.mod_eq_of_lt (by omega)]
  rw [← hproduct]
  exact w32_high _

theorem leadingZeros_eq (a : Word) : leadingZeros a = a.clz := by
  rw [leadingZeros]
  split
  · next h => rw [BitVec.clz_eq_iff_eq_zero.2 h]; rfl
  · next h =>
    have hne : a.toNat ≠ 0 := fun h0 => h (BitVec.eq_of_toNat_eq h0)
    have hclz : a.clz.toNat < 32 := by
      have := BitVec.clz_lt_iff_ne_zero.2 h
      simpa [BitVec.lt_def] using this
    have hlow : 2 ^ (31 - a.clz.toNat) ≤ a.toNat := BitVec.two_pow_sub_clz_le_toNat_of_ne_zero (by decide) h
    have hhigh : a.toNat < 2 ^ (32 - a.clz.toNat) := BitVec.toNat_lt_two_pow_sub_clz
    have hlog : Nat.log2 a.toNat = 31 - a.clz.toNat :=
      (Nat.log2_eq_iff hne).2 ⟨hlow, by rwa [show 31 - a.clz.toNat + 1 = 32 - a.clz.toNat by omega]⟩
    apply BitVec.eq_of_toNat_eq
    rw [hlog, w32, BitVec.toNat_ofNat]
    omega

/-- Two halves side by side. -/
theorem packHalves_eq (hi lo : Nat) : packHalves hi lo = BitVec.ofNat 16 hi ++ BitVec.ofNat 16 lo := by
  have hlo : lo % 65536 < 2 ^ 16 := Nat.mod_lt _ (by decide)
  apply BitVec.eq_of_toNat_eq
  rw [packHalves, w32, BitVec.toNat_ofNat, BitVec.toNat_append, BitVec.toNat_ofNat, BitVec.toNat_ofNat,
    ← Nat.shiftLeft_add_eq_or_of_lt hlo, Nat.shiftLeft_eq]
  omega

theorem ofNat_toNat_half (a : Word) : BitVec.ofNat 16 a.toNat = a.setWidth 16 := BitVec.ofNat_toNat ..

/-- A field of `k + 1` bits as a signed number. -/
theorem asInt_eq (k n : Nat) : asInt (k + 1) n = (BitVec.ofNat (k + 1) n).toInt := by
  rw [asInt, BitVec.toInt_eq_toNat_cond, BitVec.toNat_ofNat, Nat.add_sub_cancel, Nat.pow_succ]
  split <;> split
  · rfl
  · omega
  · omega
  · push_cast
    rfl

/-- A field of `k + 1` bits, sign-extended. -/
theorem w32_asInt (k n : Nat) : w32 (ofInt 32 (asInt (k + 1) n)) = (BitVec.ofNat (k + 1) n).signExtend 32 := by
  rw [w32_ofInt, asInt_eq]
  rfl

theorem immS_eq (w : Nat) : immS w = (BitVec.ofNat 14 (iIMM w)).signExtend 32 := w32_asInt 13 _

theorem immZ_eq (w : Nat) : immZ w = (BitVec.ofNat 14 (iIMM w)).zeroExtend 32 := by
  have himm : iIMM w < 2 ^ 14 := bitsOf_lt ..
  apply BitVec.eq_of_toNat_eq
  rw [immZ, w32, BitVec.toNat_ofNat, BitVec.toNat_setWidth, BitVec.toNat_ofNat]
  omega

/-! ## The obligations -/

/-- Settles O17: each instruction is a row of three or of two registers, whose result is the rule's; CMP changes the flags
alone. -/
theorem integerInstructionsComplete : Obligations.IntegerInstructionsComplete := by
  refine ⟨?add, ?sub, ?and, ?or, ?xor, ?shl, ?shr, ?shra, ?andn, ?min, ?max, ?adds, ?subs, ?mul, ?mulh, ?mulhu, ?cmp, ?clz,
    ?abs, ?mov⟩
  case add | sub | and | or | xor | shl | shr | shra | andn | min | max | mul =>
    intro x ecc w s
    exact .rr3 rfl (by decide) rfl
  case adds | subs =>
    intro x ecc w s
    exact .rr3 rfl (by decide) (sat32_eq _)
  case mulh =>
    intro x ecc w s
    exact .rr3 rfl (by decide) (mulHigh_eq _ _)
  case mulhu =>
    intro x ecc w s
    exact .rr3 rfl (by decide) (mulHighUnsigned_eq _ _)
  case cmp =>
    intro x ecc w s hword hissue hX hD
    refine .goes rfl hissue hword (by simp [isLoad]) rfl ?_
    rw [engCmp, if_neg (by simp [hX, hD])]
    rfl
  case clz =>
    intro x ecc w s
    exact .rr2 rfl (by decide) (leadingZeros_eq _)
  case abs =>
    intro x ecc w s
    exact .rr2 rfl (by decide) (sat32_eq _)
  case mov =>
    intro x ecc w s
    exact .rr2 rfl (by decide) rfl

/-- Settles O18: the packed instructions are rows of two or three registers; an immediate is the field it names, extended as
the row says. -/
theorem packedAndImmediateInstructionsComplete : Obligations.PackedAndImmediateInstructionsComplete := by
  refine ⟨?padd, ?psub, ?pack, ?cmul, ?cmulc, ?conj, ?addi, ?andi, ?ori, ?xori, ?cmpi, ?shli, ?shri, ?shrai, ?movi, ?movh⟩
  case padd | psub | cmul | cmulc =>
    intro x ecc w s
    exact .rr3 rfl (by decide) rfl
  case pack =>
    intro x ecc w s
    exact .rr3 rfl (by decide) (by rw [packHalves_eq, ofNat_toNat_half, ofNat_toNat_half])
  case conj =>
    intro x ecc w s
    exact .rr2 rfl (by decide) rfl
  case addi =>
    intro x ecc w s
    exact .ri rfl (by decide) (by rw [immS_eq])
  case andi | ori | xori =>
    intro x ecc w s
    exact .ri rfl (by decide) (by rw [immZ_eq])
  case cmpi =>
    intro x ecc w s hword hissue hD
    refine .goes rfl hissue hword (by simp [isLoad]) rfl ?_
    rw [engCmpi, if_neg (by simp [hD]), ← immS_eq]
    rfl
  case shli | shri | shrai =>
    intro x ecc w s
    exact .riShift rfl (by decide)
  case movi =>
    intro x ecc w s hword hissue
    refine .writes rfl hissue hword (by simp [isLoad]) ?_
    rw [engMovi, iOFF, w32_asInt]
  case movh =>
    intro x ecc w s hword hissue hwide
    refine .writes rfl hissue hword (by simp [isLoad]) ?_
    rw [engMovh, if_neg (by omega), packHalves_eq, ofNat_toNat_half]
    rfl

end Sys2Proof.Machine

/-! # Loads and stores of the engines (R240 to R242) -/

namespace Sys2Proof.Machine

/-! ## Bytes of numbers -/

theorem leBytes_eq_map (k n : Nat) : leBytes k n = (List.range k).map fun i => BitVec.ofNat 8 (n / 256 ^ i) := by
  induction k generalizing n with
  | zero => rfl
  | succ k ih =>
    rw [leBytes, ih, List.range_succ_eq_map, List.map_cons, List.map_map, Nat.pow_zero, Nat.div_one]
    refine congrArg _ (List.map_congr_left fun i _ => ?_)
    rw [Function.comp_apply, Nat.succ_eq_add_one, Nat.pow_succ', Nat.div_div_eq_div_mul]

/-- The number that the bytes of `n` spell. -/
theorem leNat_leBytes (k n : Nat) : leNat (leBytes k n) = n % 256 ^ k := by
  induction k generalizing n with
  | zero => rw [Nat.pow_zero, Nat.mod_one]; rfl
  | succ k ih =>
    rw [leBytes, leNat, ih, BitVec.toNat_ofNat, show 256 ^ (k + 1) = 256 * 256 ^ k from Nat.pow_succ', Nat.mod_mul]

/-! ## Memory as its engine sees it (R240, R242) -/

/-- A byte that an engine sees of its own data memory and, with its posted stores, of its plot's memory `m`. -/
def Eng.byte (e : Eng) (m : List (Nat × Byte)) (a : Nat) : Byte :=
  if a < 0x4000 then Smap.get zeroByte e.dmem a
  else match e.posted.reverse.find? fun c => c.1 == a with
    | some c => c.2
    | none => Smap.get zeroByte m a

theorem engByte_eq (s : State) (x a : Nat) : engByte s x a = (s.engine x).byte (s.plot (x / 32)).mem a := rfl

theorem engByte_congr {s t : State} {x : Nat} (hdmem : (t.engine x).dmem = (s.engine x).dmem)
    (hposted : (t.engine x).posted = (s.engine x).posted) (hplots : t.arr.plots = s.arr.plots) (a : Nat) :
    engByte t x a = engByte s x a := by
  rw [engByte_eq, engByte_eq, Eng.byte, Eng.byte, hdmem, hposted, State.plot, State.plot, hplots]

theorem engRead_congr {s t : State} {x : Nat} (hdmem : (t.engine x).dmem = (s.engine x).dmem)
    (hposted : (t.engine x).posted = (s.engine x).posted) (hplots : t.arr.plots = s.arr.plots) (a k : Nat) :
    engRead t x a k = engRead s x a k := by
  simp only [engRead, engByte_congr hdmem hposted hplots]

/-- Among the bytes of a store the one at an address. -/
theorem find?_stored (f : Nat → Byte) (a k b : Nat) :
    (((List.range k).map fun i => (a + i, f i)).reverse.find? fun c => c.1 == b) =
      if a ≤ b ∧ b < a + k then some (b, f (b - a)) else none := by
  induction k with
  | zero => rw [if_neg (by omega)]; rfl
  | succ k ih =>
    rw [List.range_succ, List.map_append, List.reverse_append, List.map_singleton, List.reverse_singleton,
      List.singleton_append, List.find?_cons]
    by_cases hlast : a + k = b
    · subst hlast
      rw [if_pos (by omega), Nat.add_sub_cancel_left]
      simp
    · have hne : (a + k == b) = false := by simpa using hlast
      simp only [hne, ih]
      by_cases hin : a ≤ b ∧ b < a + k
      · rw [if_pos hin, if_pos (by omega)]
      · rw [if_neg hin, if_neg (by omega)]

/-- What an engine sees after its own store: the bytes stored, and every other byte as before. -/
theorem byte_engStore (e : Eng) (m : List (Nat × Byte)) {a k : Nat} (v b : Nat) (h : a + k ≤ 0x4000 ∨ 0x4000 ≤ a) :
    (engStore e a k v).byte m b = if a ≤ b ∧ b < a + k then BitVec.ofNat 8 (v / 256 ^ (b - a)) else e.byte m b := by
  by_cases hlow : a < 0x4000
  · rw [engStore, if_pos hlow]
    simp only [Eng.byte, get_memWrite, length_leBytes]
    by_cases hin : a ≤ b ∧ b < a + k
    · rw [if_pos (by omega), if_pos hin, if_pos hin, leBytes_eq_map, List.getD_eq_getElem _ _ (by simp; omega),
        List.getElem_map, List.getElem_range]
    · rw [if_neg hin, if_neg hin]
  · rw [engStore, if_neg hlow]
    simp only [Eng.byte, List.reverse_append, List.find?_append, find?_stored]
    by_cases hin : a ≤ b ∧ b < a + k
    · rw [if_pos hin, if_pos hin, if_neg (by omega)]
      rfl
    · rw [if_neg hin, if_neg hin, Option.none_or]

/-- Reading back what an engine stored. -/
theorem leNat_byte_engStore (e : Eng) (m : List (Nat × Byte)) {a k : Nat} (v : Nat) (h : a + k ≤ 0x4000 ∨ 0x4000 ≤ a) :
    leNat ((List.range k).map fun i => (engStore e a k v).byte m (a + i)) = v % 256 ^ k := by
  rw [← leNat_leBytes, leBytes_eq_map]
  refine congrArg leNat (List.map_congr_left fun i hi => ?_)
  have hi' := List.mem_range.1 hi
  rw [byte_engStore e m v _ h, if_pos (by omega), Nat.add_sub_cancel_left]

theorem engStore_counted (e : Eng) (a k v : Nat) : engStore e.counted a k v = (engStore e a k v).counted := by
  unfold engStore
  by_cases h : a < 0x4000
  · rw [if_pos h, if_pos h]
    rfl
  · rw [if_neg h, if_neg h]
    rfl

theorem engStore_pc (e : Eng) (a k v : Nat) : (engStore e a k v).pc = e.pc := by
  unfold engStore
  split <;> rfl

/-! ## The rows -/

theorem accessExc_none {a k : Nat} (halign : a % k = 0) (hmem : a < 0x4000 ∨ isShared a = true) : accessExc a k = none := by
  rw [accessExc, if_neg (by simp [halign]), if_pos hmem]

theorem isShared_iff {a : Nat} : isShared a = true ↔ 0x10000 ≤ a ∧ a < 0x50000 := decide_eq_true_iff

/-- An aligned access does not cross the end of data memory. -/
theorem access_whole {a k : Nat} (hk : k ∣ 0x4000) (halign : a % k = 0)
    (hmem : a < 0x4000 ∨ isShared a = true) : a + k ≤ 0x4000 ∨ 0x4000 ≤ a := by
  by_cases hlow : a < 0x4000
  · obtain ⟨n, hn⟩ := hk
    obtain ⟨m, rfl⟩ := Nat.dvd_of_mod_eq_zero halign
    have hlt : m < n := by
      rw [hn] at hlow
      exact Nat.lt_of_mul_lt_mul_left hlow
    left
    rw [hn, ← Nat.mul_succ]
    exact Nat.mul_le_mul_left k hlt
  · omega

variable {c : Instr} {x : Fin 1024} {ecc : Fin 4} {o k w : Nat} {s : State}

theorem dataAddr_counted (e : Eng) : dataAddr w e.counted = dataAddr w e := rfl

theorem issued_plots (x : Fin 1024) (ecc : Fin 4) (s : State) : (issued x ecc s).arr.plots = s.arr.plots := by
  rw [issued, eccDone_frame]
  rfl

theorem engRead_issued (a k : Nat) : engRead (issued x ecc s) x.val a k = engRead s x.val a k :=
  engRead_congr (by rw [issued_engine]; rfl) (by rw [issued_engine]; rfl) (issued_plots x ecc s) a k

theorem Does.load {f : Nat → Word} {v : Word} (hexec : exec c s = run (issue x.val o ecc.val (engLoad k f x.val)) s)
    (hvalue : f (engRead s x.val (dataAddr w (s.engine x.val)) k) = v)
    (hword : ecc ≠ 2) (hdata : ecc ≠ 3) (hissue : Issues x o w s) (halign : dataAddr w (s.engine x.val) % k = 0)
    (hmem : dataAddr w (s.engine x.val) < 0x4000 ∨ isShared (dataAddr w (s.engine x.val)) = true) :
    Does c s fun t => Writes x ecc w v s t := by
  refine .writes hexec hissue hword (fun h => absurd h hdata) ?_
  rw [engLoad, dataAddr_counted, accessExc_none halign hmem, engRead_issued, hvalue]

/-- A store that finds its memory, and room in the buffer if it is shared, changes what its engine sees of the bytes stored
and no other byte. -/
theorem Does.store (hexec : exec c s = run (issue x.val o ecc.val (engPut k x.val)) s) (hload : isLoad o = false)
    (hk : k ∣ 0x4000) (hword : ecc ≠ 2) (hissue : Issues x o w s)
    (halign : dataAddr w (s.engine x.val) % k = 0)
    (hmem : dataAddr w (s.engine x.val) < 0x4000 ∨
      isShared (dataAddr w (s.engine x.val)) = true ∧ (s.engine x.val).buf < 4) :
    Does c s fun t =>
      Goes x ecc (engStore (s.engine x.val) (dataAddr w (s.engine x.val)) k ((s.engine x.val).gr (iD w)).toNat) s t ∧
      engRead t x.val (dataAddr w (s.engine x.val)) k = ((s.engine x.val).gr (iD w)).toNat % 256 ^ k ∧
      (∀ a, (a < dataAddr w (s.engine x.val) ∨ dataAddr w (s.engine x.val) + k ≤ a) →
        engByte t x.val a = engByte s x.val a) := by
  have hmem' : dataAddr w (s.engine x.val) < 0x4000 ∨ isShared (dataAddr w (s.engine x.val)) = true := hmem.imp_right And.left
  have hroom : ¬(isShared (dataAddr w (s.engine x.val)) = true ∧ 4 ≤ (s.engine x.val).buf) := by
    rw [isShared_iff] at hmem ⊢
    omega
  obtain ⟨t, hexec, hgoes⟩ := Does.goes (c := c)
    (e := engStore (s.engine x.val) (dataAddr w (s.engine x.val)) k ((s.engine x.val).gr (iD w)).toNat)
    hexec hissue hword (by simp [hload]) (engStore_pc ..) (by
      rw [engPut, dataAddr_counted, accessExc_none halign hmem']
      exact (if_neg hroom).trans (congrArg _ (engStore_counted ..)))
  refine ⟨t, hexec, hgoes, ?_⟩
  obtain ⟨hengine, -, hframe⟩ := hgoes
  have hplots : t.arr.plots = s.arr.plots := by rw [hframe]
  have hbyte : ∀ a, engByte t x.val a =
      (engStore (s.engine x.val) (dataAddr w (s.engine x.val)) k ((s.engine x.val).gr (iD w)).toNat).byte
        (s.plot (x.val / 32)).mem a := fun a => by
    rw [engByte_eq, hengine, State.plot, hplots]
    rfl
  have hwhole := access_whole hk halign hmem'
  refine ⟨?_, fun a ha => ?_⟩
  · simp only [engRead, hbyte]
    exact leNat_byte_engStore _ _ _ hwhole
  · rw [hbyte, byte_engStore _ _ _ _ hwhole, if_neg (by omega), engByte_eq]

/-- An instruction that stalls stays where it is. -/
theorem Leaves.stall {e : Eng} {t u : State} {n : Nat} (h : Leaves x ecc e s t) (hn : n ≠ 4) :
    Leaves x ecc { e with stall := n, wake := false } s (finish x.val u (.stall t n)) := by
  have hset := h.setEngine { t.engine x.val with stall := n, wake := false }
  rw [h.engine] at hset
  simpa only [finish, if_neg hn, h.engine] using hset

/-- What a row does whose instruction stalls before it has done anything. -/
theorem Does.stalls {n : Nat} {f : Nat → Eng → State → EStep} (hexec : exec c s = run (issue x.val o ecc.val f) s)
    (hload : isLoad o = false) (hn : n ≠ 4) (hword : ecc ≠ 2) (hissue : Issues x o w s)
    (hrule : f w (s.engine x.val).counted (issued x ecc s) = .stall (issued x ecc s) n) :
    Does c s fun t => t.engine x.val = { (s.engine x.val).counted with stall := n, wake := false } ∧
      t = { eccDone x ecc s with arr := { s.arr with engs := t.arr.engs } } := by
  obtain ⟨t, ht, hengine, -, hframe⟩ := Does.leaves hexec hissue hword (by simp [hload])
    (hrule ▸ (Leaves.issued x ecc s).stall hn)
  exact ⟨t, ht, hengine, hframe⟩

/-- Settles O19: loads, stores and the stall of a store that finds the buffer full. -/
theorem loadsAndStoresComplete : Obligations.LoadsAndStoresComplete := by
  refine ⟨?ldw, ?ldh, ?ldhu, ?ldb, ?ldbu, ?stw, ?sth, ?stb, ?full⟩
  case ldw | ldhu | ldbu =>
    intro x ecc w s
    exact .load rfl rfl
  case ldh =>
    intro x ecc w s
    exact .load rfl (w32_asInt 15 _)
  case ldb =>
    intro x ecc w s
    exact .load rfl (w32_asInt 7 _)
  case stw | sth | stb =>
    intro x ecc w s
    exact .store rfl (by decide) (by decide)
  case full =>
    intro x ecc w s hword hissue halign hshared hfull
    refine .stalls rfl (by decide) (by decide) hword hissue ?_
    rw [engStw, engPut, dataAddr_counted, accessExc_none halign (.inr hshared)]
    exact if_pos ⟨hshared, hfull⟩

end Sys2Proof.Machine

/-! # Branches, calls, jumps and loops of the engines (R233, R237) -/

namespace Sys2Proof.Machine

variable {c : Instr} {x : Fin 1024} {ecc : Fin 4} {o w : Nat} {e : Eng} {s : State}

/-! ## Transfers of control -/

theorem Leaves.jump {e0 : Eng} {t u : State} (h : Leaves x ecc e0 s t) (a : Nat) :
    Leaves x ecc { e0 with pc := a, loops := afterJump e0.loops a, stall := 0 } s (finish x.val u (.jump t a)) := by
  have hset := h.setEngine { t.engine x.val with pc := a, loops := afterJump (t.engine x.val).loops a, stall := 0 }
  rw [h.engine] at hset
  simpa only [finish, h.engine] using hset

/-- A row whose rule leaves the engine `e` and transfers control to `a`. -/
theorem Does.jumps {f : Nat → Eng → State → EStep} {a : Nat} (hexec : exec c s = run (issue x.val o ecc.val f) s)
    (hload : isLoad o = false) (hword : ecc ≠ 2) (hissue : Issues x o w s)
    (hrule : f w (s.engine x.val).counted (issued x ecc s) = .jump ((issued x ecc s).setEngine x.val e.counted) a) :
    Does c s (Jumps x ecc a e s) := by
  refine Does.leaves hexec hissue hword (by simp [hload]) ?_
  rw [hrule]
  exact ((Leaves.issued x ecc s).setEngine e.counted).jump a

/-! ## Branches -/

/-- The target of a branch that lies in instruction memory. -/
theorem target_eq {e : Eng} (hlo : 0 ≤ (e.pc : Int) + iOFF w) (hhi : (e.pc : Int) + iOFF w ≤ 1023) :
    target w e = some ((e.pc : Int) + iOFF w).toNat := if_pos ⟨hlo, hhi⟩

theorem branchIf_taken {y : Nat} {t : State} (hlo : 0 ≤ (e.pc : Int) + iOFF w) (hhi : (e.pc : Int) + iOFF w ≤ 1023)
    (hD : iD w = 0) : branchIf true y w e t = .jump (t.setEngine y e) ((e.pc : Int) + iOFF w).toNat := by
  simp only [branchIf, target_eq hlo hhi, hD, ne_eq, not_true_eq_false, if_false, if_true]

theorem branchIf_passed {y : Nat} {t : State} (hlo : 0 ≤ (e.pc : Int) + iOFF w) (hhi : (e.pc : Int) + iOFF w ≤ 1023)
    (hD : iD w = 0) : branchIf false y w e t = pureEng y t e := by
  simp only [branchIf, target_eq hlo hhi, hD, ne_eq, not_true_eq_false, if_false, Bool.false_eq_true]

/-- A branch whose condition holds goes to its target. -/
theorem Does.branch {p : Eng → Bool} (hexec : exec c s = run (issue x.val o ecc.val fun w e => branchIf (p e) x.val w e) s)
    (hload : isLoad o = false) (hp : p (s.engine x.val).counted = true) (hword : ecc ≠ 2) (hissue : Issues x o w s)
    (hlo : 0 ≤ ((s.engine x.val).pc : Int) + iOFF w) (hhi : ((s.engine x.val).pc : Int) + iOFF w ≤ 1023) (hD : iD w = 0) :
    Does c s (Jumps x ecc (((s.engine x.val).pc : Int) + iOFF w).toNat (s.engine x.val) s) := by
  refine .jumps hexec hload hword hissue ?_
  simp only [hp]
  exact branchIf_taken hlo hhi hD

/-- A branch whose condition does not hold goes on. -/
theorem Does.branchNot {p : Eng → Bool} (hexec : exec c s = run (issue x.val o ecc.val fun w e => branchIf (p e) x.val w e) s)
    (hload : isLoad o = false) (hp : p (s.engine x.val).counted = false) (hword : ecc ≠ 2) (hissue : Issues x o w s)
    (hlo : 0 ≤ ((s.engine x.val).pc : Int) + iOFF w) (hhi : ((s.engine x.val).pc : Int) + iOFF w ≤ 1023) (hD : iD w = 0) :
    Does c s (Goes x ecc (s.engine x.val) s) := by
  refine .goes hexec hissue hword (by simp [hload]) rfl ?_
  simp only [hp]
  exact branchIf_passed hlo hhi hD

theorem flags_counted (e : Eng) : e.counted.zf = e.zf ∧ e.counted.nf = e.nf ∧ e.counted.cf = e.cf ∧ e.counted.vf = e.vf :=
  ⟨rfl, rfl, rfl, rfl⟩

/-! ## The obligation -/

/-- Settles O20: a branch by its condition, the other transfers and LOOP each by its rule. -/
theorem branchAndLoopInstructionsComplete : Obligations.BranchAndLoopInstructionsComplete := by
  refine ⟨?beq, ?beqNot, ?bne, ?bneNot, ?blt, ?bltNot, ?bge, ?bgeNot, ?bltu, ?bltuNot, ?bgeu, ?bgeuNot, ?bsf, ?bra, ?call, ?ret,
    ?jmpr, ?loopNone, ?loop⟩
  case beq | bltu =>
    intro x ecc w s hword hissue hlo hhi hD hc
    exact .branch rfl (by decide) hc hword hissue hlo hhi hD
  case beqNot | bltuNot =>
    intro x ecc w s hword hissue hlo hhi hD hc
    exact .branchNot rfl (by decide) (Bool.eq_false_iff.2 hc) hword hissue hlo hhi hD
  case bne =>
    intro x ecc w s hword hissue hlo hhi hD hc
    exact .branch (p := fun e => !e.zf) rfl (by decide) (by rw [(flags_counted _).1, hc]; rfl) hword hissue hlo hhi hD
  case bneNot =>
    intro x ecc w s hword hissue hlo hhi hD hc
    exact .branchNot (p := fun e => !e.zf) rfl (by decide) (by simpa [flags_counted] using hc) hword hissue hlo hhi hD
  case blt =>
    intro x ecc w s hword hissue hlo hhi hD hc
    exact .branch (p := fun e => e.nf != e.vf) rfl (by decide) (by simpa [flags_counted] using hc) hword hissue hlo hhi hD
  case bltNot =>
    intro x ecc w s hword hissue hlo hhi hD hc
    exact .branchNot (p := fun e => e.nf != e.vf) rfl (by decide) (by simpa [flags_counted] using hc) hword hissue hlo hhi hD
  case bge =>
    intro x ecc w s hword hissue hlo hhi hD hc
    exact .branch (p := fun e => e.nf == e.vf) rfl (by decide) (by simpa [flags_counted] using hc) hword hissue hlo hhi hD
  case bgeNot =>
    intro x ecc w s hword hissue hlo hhi hD hc
    exact .branchNot (p := fun e => e.nf == e.vf) rfl (by decide) (by simpa [flags_counted] using hc) hword hissue hlo hhi hD
  case bgeu =>
    intro x ecc w s hword hissue hlo hhi hD hc
    exact .branch (p := fun e => !e.cf) rfl (by decide) (by simpa [flags_counted] using hc) hword hissue hlo hhi hD
  case bgeuNot =>
    intro x ecc w s hword hissue hlo hhi hD hc
    exact .branchNot (p := fun e => !e.cf) rfl (by decide) (by simpa [flags_counted] using hc) hword hissue hlo hhi hD
  case bsf =>
    intro x ecc w s hword hissue hlo hhi hD
    have hrule : engBsf x.val w (s.engine x.val).counted (issued x ecc s) =
        if (s.engine x.val).sflags.testBit (iD w) then
          .jump ((issued x ecc s).setEngine x.val (s.engine x.val).counted) (((s.engine x.val).pc : Int) + iOFF w).toNat
        else pureEng x.val (issued x ecc s) (s.engine x.val).counted := by
      rw [engBsf, target_eq (e := (s.engine x.val).counted) hlo hhi]
      exact if_neg (by omega)
    by_cases hbit : (s.engine x.val).sflags.testBit (iD w) = true
    · simp only [if_pos hbit] at hrule ⊢
      exact .jumps rfl (by decide) hword hissue hrule
    · simp only [if_neg hbit] at hrule ⊢
      exact .goes rfl hissue hword (by simp [isLoad]) rfl hrule
  case bra =>
    intro x ecc w s hword hissue hlo hhi hD
    exact .branch (p := fun _ => true) rfl (by decide) rfl hword hissue hlo hhi hD
  case call =>
    intro x ecc w s hword hissue hlo hhi hD
    exact .jumps rfl (by decide) hword hissue
      (branchIf_taken (e := { (s.engine x.val).counted with lnk := ((s.engine x.val).pc + 1) % 1024 }) hlo hhi hD)
  case ret =>
    intro x ecc w s hword hissue hD hA hB hX
    refine .jumps rfl (by decide) hword hissue ?_
    rw [engRet, if_neg (by simp [hD, hA, hB, hX])]
    rfl
  case jmpr =>
    intro x ecc w s hword hissue hD hB hX
    refine .jumps rfl (by decide) hword hissue ?_
    rw [engJmpr, if_neg (by simp [hD, hB, hX])]
    rfl
  case loopNone =>
    intro x ecc w s hword hissue hA hne hlast hcount
    have hset := (Leaves.issued x ecc s).setEngine { (s.engine x.val).counted with
      pc := (afterSeq (s.engine x.val).loops ((s.engine x.val).pc + iIMM w)).1
      loops := (afterSeq (s.engine x.val).loops ((s.engine x.val).pc + iIMM w)).2 }
    have hzero : ((s.engine x.val).counted.gr (iD w)).toNat = 0 := congrArg BitVec.toNat hcount
    obtain ⟨t, ht, hengine, -, hframe⟩ := Does.leaves (c := .engLoop x ecc) rfl hissue hword (by simp [isLoad]) (by
      rw [engLoop, if_neg (by simp only [Eng.counted]; omega), if_pos hzero]
      exact hset)
    exact ⟨t, ht, hengine, hframe⟩
  case loop =>
    intro x ecc w s hword hissue hA hne hlast hcount hdepth
    have hnonzero : ¬((s.engine x.val).counted.gr (iD w)).toNat = 0 := fun h => hcount (BitVec.eq_of_toNat_eq h)
    refine .goes rfl hissue hword (by simp [isLoad]) rfl ?_
    rw [engLoop, if_neg (by simp only [Eng.counted]; omega), if_neg hnonzero,
      if_neg (by simp only [Eng.counted]; omega)]
    rfl

end Sys2Proof.Machine

/-! # Multiply-accumulates and the oscillator of the engines (R234, R238, R239) -/

namespace Sys2Proof.Machine

/-- What an addition to an accumulator changes: the accumulator, and AOV when it wraps. -/
theorem Eng.accAdd_eq (e : Eng) (n : Nat) (v : Int) :
    e.accAdd n v = { e.setAcc n (BitVec.ofInt 80 ((e.acc n).toInt + v)) with
      sflags := if clampS 80 ((e.acc n).toInt + v) = (e.acc n).toInt + v then e.sflags else setBit e.sflags 6 true } := by
  simp only [Eng.accAdd]
  split <;> rfl

theorem Eng.accAdd_counted (e : Eng) (n : Nat) (v : Int) : e.counted.accAdd n v = (e.accAdd n v).counted := by
  rw [Eng.accAdd_eq, Eng.accAdd_eq]
  rfl

theorem Eng.accAdd_pc (e : Eng) (n : Nat) (v : Int) : (e.accAdd n v).pc = e.pc := by
  rw [Eng.accAdd_eq]
  rfl

theorem Eng.pairAdd_counted (e : Eng) (p : Nat) (v : Int × Int) : e.counted.pairAdd p v = (e.pairAdd p v).counted := by
  simp only [Eng.pairAdd, Eng.accAdd_counted]

theorem Eng.pairAdd_pc (e : Eng) (p : Nat) (v : Int × Int) : (e.pairAdd p v).pc = e.pc := by
  simp only [Eng.pairAdd, Eng.accAdd_pc]

theorem Eng.counted_ph (e : Eng) : e.counted.ph = e.ph := rfl

variable {c : Instr} {x : Fin 1024} {ecc : Fin 4} {o w : Nat} {s : State}

/-- CMAC and CMACC. -/
theorem Does.cmac {f : Word → Word → Int × Int} (hexec : exec c s = run (issue x.val o ecc.val (cmacOf f x.val)) s)
    (hload : isLoad o = false) (hword : ecc ≠ 2) (hissue : Issues x o w s) (hX : iX w = 0) (hD : iD w ≤ 1) :
    Does c s (Goes x ecc ((s.engine x.val).pairAdd (iD w) (f (s.ga x w) (s.gb x w))) s) := by
  refine .goes hexec hissue hword (by simp [hload]) (Eng.pairAdd_pc ..) ?_
  rw [cmacOf, if_neg (by omega), Eng.pairAdd_counted]
  rfl

/-- CMAC2 and CMAC2C. -/
theorem Does.cmac2 {f : Word → Word → Int × Int} (hexec : exec c s = run (issue x.val o ecc.val (cmac2Of f x.val)) s)
    (hload : isLoad o = false) (hword : ecc ≠ 2) (hissue : Issues x o w s) (hX : iX w = 0) :
    Does c s (Goes x ecc (((s.engine x.val).pairAdd 0 (f (s.ga x w) ((s.engine x.val).gr (iD w)))).pairAdd 1
      (f (s.gb x w) ((s.engine x.val).gr (iD w)))) s) := by
  refine .goes hexec hissue hword (by simp [hload]) (by rw [Eng.pairAdd_pc, Eng.pairAdd_pc]) ?_
  rw [cmac2Of, if_neg (by omega), ← Eng.pairAdd_counted, ← Eng.pairAdd_counted]
  rfl

/-- MACR and MSUR. -/
theorem Does.mac {sg v : Int} (hexec : exec c s = run (issue x.val o ecc.val (macOf sg x.val)) s)
    (hload : isLoad o = false) (hvalue : sg * ((s.ga x w).toInt * (s.gb x w).toInt) = v) (hword : ecc ≠ 2)
    (hissue : Issues x o w s) (hX : iX w = 0) (hD : iD w ≤ 3) : Does c s (Goes x ecc ((s.engine x.val).accAdd (iD w) v) s) := by
  refine .goes hexec hissue hword (by simp [hload]) (Eng.accAdd_pc ..) ?_
  rw [macOf, if_neg (by omega), ← hvalue, ← Eng.accAdd_counted]
  rfl

/-- A word shifted left in an accumulator. -/
theorem ofInt_shiftLeft (a : Word) (k : Nat) : BitVec.ofInt 80 (a.toInt * 2 ^ k) = a.signExtend 80 <<< k := by
  have hpow : BitVec.ofInt 80 (2 ^ k) = BitVec.twoPow 80 k := by
    apply BitVec.eq_of_toNat_eq
    rw [BitVec.toNat_ofInt, BitVec.toNat_twoPow]
    norm_cast
  rw [BitVec.shiftLeft_eq_mul_twoPow, BitVec.ofInt_mul, hpow, BitVec.signExtend]

/-- Settles O21: each instruction changes its engine alone, by the operation of its row. -/
theorem accumulatorAndOscillatorInstructionsComplete : Obligations.AccumulatorAndOscillatorInstructionsComplete := by
  refine ⟨?cmac, ?cmacc, ?cmac2, ?cmac2c, ?macr, ?msur, ?aclr, ?acrd, ?acget, ?acwr, ?ncosync, ?ncoadv, ?ncoq, ?ncoqp⟩
  case cmac | cmacc =>
    intro x ecc w s
    exact .cmac rfl (by decide)
  case cmac2 | cmac2c =>
    intro x ecc w s
    exact .cmac2 rfl (by decide)
  case macr =>
    intro x ecc w s
    exact .mac rfl (by decide) (one_mul _)
  case msur =>
    intro x ecc w s
    exact .mac rfl (by decide) (neg_one_mul _)
  case aclr =>
    intro x ecc w s hword hissue hX hA hB hD
    obtain ⟨t, ht, hgoes⟩ := Does.goes (c := .engAclr x ecc)
      (e := { s.engine x.val with ac := Smap.clear (s.engine x.val).ac fun n => (iD w).testBit n })
      rfl hissue hword (by simp [isLoad]) rfl (by
        rw [engAclr, if_neg (by omega)]
        rfl)
    have hac : (t.engine x.val).ac = Smap.clear (s.engine x.val).ac fun n => (iD w).testBit n := by
      rw [hgoes.1]
      rfl
    refine ⟨t, ht, by rw [hac]; exact hgoes, fun n => ?_⟩
    rw [Eng.acc, hac, Smap.get_clear]
    rfl
  case acrd =>
    intro x ecc w s hword hissue hX hA hB
    refine .writes rfl hissue hword (by simp [isLoad]) ?_
    rw [engAcrd, if_neg (by omega), sat32_eq]
    rfl
  case acget =>
    intro x ecc w s hword hissue hX hA hB
    refine .writes rfl hissue hword (by simp [isLoad]) ?_
    rw [engAcget, if_neg (by omega)]
    rfl
  case acwr =>
    intro x ecc w s hword hissue hX hD hB
    refine .goes rfl hissue hword (by simp [isLoad]) rfl ?_
    rw [engAcwr, if_neg (by omega), ofInt_shiftLeft]
    rfl
  case ncosync =>
    intro x ecc w s hword hissue hX
    refine .goes rfl hissue hword (by simp [isLoad]) rfl ?_
    rw [engNcosync, if_neg (by omega)]
    rfl
  case ncoadv =>
    intro x ecc w s hword hissue hX hD hB
    refine .goes rfl hissue hword (by simp [isLoad]) rfl ?_
    rw [engNcoadv, if_neg (by omega)]
    rfl
  case ncoq =>
    intro x ecc w s hword hissue hX hA hB
    refine .writes rfl hissue hword (by simp [isLoad]) ?_
    rw [engNcoq, if_neg (by omega), Eng.counted_ph]
  case ncoqp =>
    intro x ecc w s hword hissue hX hA hB
    refine .writes rfl hissue hword (by simp [isLoad]) ?_
    rw [engNcoqp, if_neg (by omega), Eng.counted_ph]

end Sys2Proof.Machine

/-! # Stream ports of the engines (R229, R244 to R246, R284) -/

namespace Sys2Proof.Machine

/-! ## The queues of a port -/

theorem Eng.setQueue_frame (e : Eng) (i : Nat) (l : List (Bool × Word)) :
    e.setQueue i l = { e with q0 := (e.setQueue i l).q0, q1 := (e.setQueue i l).q1 } := by
  unfold Eng.setQueue
  split <;> rfl

theorem Eng.setDec_frame (e : Eng) (i : Nat) (d : Dec) :
    e.setDec i d = { e with dec0 := (e.setDec i d).dec0, dec1 := (e.setDec i d).dec1 } := by
  unfold Eng.setDec
  split <;> rfl

@[simp] theorem Eng.queue_setQueue (e : Eng) (i : Nat) (l : List (Bool × Word)) : (e.setQueue i l).queue i = l := by
  unfold Eng.setQueue Eng.queue
  by_cases h : i = 0
  · rw [if_pos h, if_pos h]
  · rw [if_neg h, if_neg h]

@[simp] theorem Eng.dec_setQueue (e : Eng) (i : Nat) (l : List (Bool × Word)) : (e.setQueue i l).dec i = e.dec i := by
  rw [Eng.setQueue_frame]
  rfl

@[simp] theorem Eng.dec_setDec (e : Eng) (i : Nat) (d : Dec) : (e.setDec i d).dec i = d := by
  unfold Eng.setDec Eng.dec
  by_cases h : i = 0
  · rw [if_pos h, if_pos h]
  · rw [if_neg h, if_neg h]

@[simp] theorem Eng.queue_setDec (e : Eng) (i : Nat) (d : Dec) : (e.setDec i d).queue i = e.queue i := by
  rw [Eng.setDec_frame]
  rfl

theorem Eng.setQueue_counted (e : Eng) (i : Nat) (l : List (Bool × Word)) :
    e.counted.setQueue i l = (e.setQueue i l).counted := by
  unfold Eng.setQueue
  by_cases h : i = 0
  · rw [if_pos h, if_pos h]
    rfl
  · rw [if_neg h, if_neg h]
    rfl

theorem Eng.setDec_counted (e : Eng) (i : Nat) (d : Dec) : e.counted.setDec i d = (e.setDec i d).counted := by
  unfold Eng.setDec
  by_cases h : i = 0
  · rw [if_pos h, if_pos h]
    rfl
  · rw [if_neg h, if_neg h]
    rfl

@[simp] theorem enqueue_queue (i : Nat) (f : List Word) (e : Eng) : (enqueue i f e).queue i = e.queue i ++ frameItems f :=
  Eng.queue_setQueue ..

theorem enqueue_counted (i : Nat) (f : List Word) (e : Eng) : enqueue i f e.counted = (enqueue i f e).counted := by
  rw [enqueue, Eng.setQueue_counted]
  rfl

/-! ## A held frame (R290, R291) -/

theorem admitHeld_none {i : Nat} {e : Eng} (h : (e.dec i).held = none) : admitHeld i e = e := by
  simp only [admitHeld, h]

theorem admitHeld_some {i : Nat} {e : Eng} {f : List Word} (h : (e.dec i).held = some f) :
    admitHeld i e = if fits e i f = true then (enqueue i f e).setDec i { e.dec i with held := none } else e := by
  simp only [admitHeld, h]

/-- What the entry of a held frame can change: the port's queue and its decimation, and the wake-up. -/
theorem admitHeld_frame (i : Nat) (e : Eng) :
    admitHeld i e = { e with
      q0 := (admitHeld i e).q0
      q1 := (admitHeld i e).q1
      dec0 := (admitHeld i e).dec0
      dec1 := (admitHeld i e).dec1
      wake := (admitHeld i e).wake } := by
  cases h : (e.dec i).held with
  | none => rw [admitHeld_none h]
  | some f =>
    rw [admitHeld_some h]
    split
    · rw [Eng.setDec_frame, enqueue, Eng.setQueue_frame]
    · rfl

theorem admitHeld_counted (i : Nat) (e : Eng) : admitHeld i e.counted = (admitHeld i e).counted := by
  cases h : (e.dec i).held with
  | none => rw [admitHeld_none h, admitHeld_none (e := e.counted) h]
  | some f =>
    rw [admitHeld_some h, admitHeld_some (e := e.counted) h, enqueue_counted, Eng.setDec_counted]
    exact (apply_ite Eng.counted _ _ _).symm

/-! ## Taking an item (R229, R244) -/

theorem testBit_setBit_same (n i : Nat) (b : Bool) : (setBit n i b).testBit i = b := by
  cases b
  · exact testBit_setBit_clear n i
  · exact testBit_setBit_self n i

theorem takeItem_counted (i : Nat) (b : Bool) (v : Word) (r : List (Bool × Word)) (d : Nat) (e : Eng) :
    takeItem i b v r d e.counted = (takeItem i b v r d e).counted := by
  rw [takeItem, Eng.setQueue_counted]
  exact admitHeld_counted i (((e.setQueue i r).flag (3 * i) b).setGr d v)

/-- What the taking of an item leaves of the engine: the register, FIRST, PC. -/
theorem takeItem_spec (i : Nat) (b : Bool) (v : Word) (r : List (Bool × Word)) (d : Nat) (e : Eng) :
    (takeItem i b v r d e).gr d = v ∧ (takeItem i b v r d e).sflags.testBit (3 * i) = b ∧
      (takeItem i b v r d e).pc = e.pc := by
  rw [takeItem, admitHeld_frame, Eng.setQueue_frame]
  exact ⟨Smap.get_set_same .., testBit_setBit_same .., rfl⟩

theorem takeItem_queue {i : Nat} {b : Bool} {v : Word} {r : List (Bool × Word)} {d : Nat} {e : Eng}
    (h : (e.dec i).held = none) : (takeItem i b v r d e).queue i = r := by
  have hheld : ((((e.setQueue i r).flag (3 * i) b).setGr d v).dec i).held = none :=
    (congrArg Dec.held (e.dec_setQueue i r)).trans h
  rw [takeItem, admitHeld_none hheld]
  exact e.queue_setQueue i r

/-- A held frame that fits after the taking has entered. -/
theorem takeItem_admits {i : Nat} {b : Bool} {v : Word} {r : List (Bool × Word)} {d : Nat} {e : Eng} {f : List Word}
    (h : (e.dec i).held = some f) (hfits : r.length + f.length ≤ 1024) :
    (takeItem i b v r d e).queue i = r ++ frameItems f := by
  have hheld : ((((e.setQueue i r).flag (3 * i) b).setGr d v).dec i).held = some f :=
    (congrArg Dec.held (e.dec_setQueue i r)).trans h
  have hqueue : (((e.setQueue i r).flag (3 * i) b).setGr d v).queue i = r := e.queue_setQueue i r
  rw [takeItem, admitHeld_some hheld, if_pos (by rw [fits, hqueue]; exact decide_eq_true hfits), Eng.queue_setDec,
    enqueue_queue, hqueue]

/-- What the taking of an item changes beside the engine: the count of frames delivered, when a held frame has entered. -/
theorem afterTake_spec (x i : Nat) (e : Eng) (s : State) :
    ∃ g, afterTake x i e s = { s.setEngine x e with fab := { s.fab with got := g } } ∧
      (((s.engine x).dec i).held = none → g = s.fab.got) := by
  unfold afterTake
  by_cases h : (((s.engine x).dec i).held.isSome && (e.dec i).held.isNone) = true
  · refine ⟨_, if_pos h, fun hnone => ?_⟩
    rw [hnone] at h
    exact absurd h (by simp)
  · exact ⟨s.fab.got, if_neg h, fun _ => rfl⟩

theorem withPort_eq {w : Nat} {e : Eng} {k : Nat → EStep} (hX : iX w = 0) (hB : iB w = 0) (hA : iA w ≤ 1)
    (hbound : (e.bound (iA w)).isSome = true) : withPort w e k = k (iA w) := by
  rw [withPort, if_neg (by omega), if_neg (by simpa using Option.isSome_iff_ne_none.1 hbound)]

/-! ## Publication (R246, R284) -/

theorem issued_sameRegs (x : Fin 1024) (ecc : Fin 4) (s : State) : SameRegs [R.ENG_PLECC (x.val / 32)] s (issued x ecc s) :=
  eccDone_sameRegs x ecc s

/-- A node reaches itself over no link. -/
theorem reaches_self (s : State) (a : Nat) : reaches s a a = true := by
  simp [reaches, rowLinks, colLinks]

theorem dropFrame_engine_ne {x y i : Nat} (s : State) (h : y ≠ x) : (dropFrame x i s).engine y = s.engine y :=
  State.engine_setEngine_ne s _ h

/-- What holds before a plot offers a frame to its subscribers holds after, if the fabric's own records do not matter to it, nor
the loss of a frame on its way to an engine of another plot. -/
theorem feedPub_induction {motive : State → Prop} (p q i : Nat) (aborted : Bool) (items : List Word) {s : State} (hs : motive s)
    (hfab : ∀ t f, motive t → motive { t with fab := f }) (hdrop : ∀ t y j, y / 32 ≠ p → motive t → motive (dropFrame y j t)) :
    motive (feedPub p q i aborted items s) := by
  have hsend : ∀ pub r j f t, motive t → motive (sendFrame [p] pub r j aborted f t) := fun pub r j f t ht => by
    refine List.foldlRecOn (motive := motive) _ _ ht fun u hu y _ => ?_
    split
    · exact hfab u _ hu
    · next hlost =>
      refine hdrop u y.1 y.2 (fun hy => hlost ?_) hu
      simp [hy, reaches_self]
  refine List.foldlRecOn (motive := motive) _ _ hs fun t ht k _ => ?_
  split
  · exact ht
  · refine List.foldlRecOn (motive := motive) _ _ ht fun u hu j _ => ?_
    simp only
    split
    · split
      · exact hsend _ _ _ _ _ hu
      · exact hu
    · exact hu

/-- A frame that leaves a plot is never lost on its way to an engine of that plot. -/
theorem feedPub_ownPlot {p x : Nat} (hx : x / 32 = p) (q i : Nat) (aborted : Bool) (items : List Word) (s : State) :
    (feedPub p q i aborted items s).engine x = s.engine x :=
  feedPub_induction (motive := fun t => t.engine x = s.engine x) p q i aborted items rfl (fun _ _ ht => ht)
    fun t _ _ hy ht => (dropFrame_engine_ne t fun h => hy (by rw [← h, hx])).trans ht

theorem capFireAll_frame (bit : Nat) (p : State → Nat → Bool) (s : State) :
    capFireAll bit p s = { s with regs := (capFireAll bit p s).regs } := by
  refine List.foldlRecOn (motive := fun t : State => t = { s with regs := t.regs }) _ _ rfl fun t ht k _ => ?_
  split
  · rw [capFire_frame, ht]
  · exact ht

theorem capFireAll_engine (bit : Nat) (p : State → Nat → Bool) (x : Nat) (s : State) :
    (capFireAll bit p s).engine x = s.engine x := by
  rw [capFireAll_frame]
  rfl

theorem capFireAll_out (bit : Nat) (p : State → Nat → Bool) (s : State) : (capFireAll bit p s).out = s.out := by
  rw [capFireAll_frame]

theorem feedPub_out (p q i : Nat) (aborted : Bool) (items : List Word) (s : State) :
    (feedPub p q i aborted items s).out = s.out := (feed_feeds ..).out

/-- A publication without a forwarding destination leaves the engine it comes from, and tells the frame last. -/
theorem publish_spec {x q i : Nat} {items : List Word} {s : State} (hon : entOn (s.pubW0 q i) = true)
    (hlocal : s.pubW1 q i = 0) :
    (publish (x / 32) q i items s).engine x = s.engine x ∧
      (publish (x / 32) q i items s).lastOut = some { ch := .stream, args := [4, q, i] ++ items.map fun v => v.toNat } := by
  rw [publish, if_neg (by simp [hon])]
  simp only [hlocal, if_true]
  refine ⟨?_, ?_⟩
  · rw [capFireAll_engine, feedPub_ownPlot rfl]
    rfl
  · rw [State.lastOut, capFireAll_out, feedPub_out, State.emit_out, List.getLast?_concat]

end Sys2Proof.Machine

/-! # Ports and special registers of the engines (R228, R229, R235, R244 to R246) -/

namespace Sys2Proof.Machine

variable {c : Instr} {x : Fin 1024} {ecc : Fin 4} {o w i : Nat} {s : State}

/-- What a row does whose instruction is issued, by the state in which its rule ends. -/
theorem Does.issues {P : State → Prop} {f : Nat → Eng → State → EStep}
    (hexec : exec c s = run (issue x.val o ecc.val f) s) (hissue : Issues x o w s) (hword : ecc ≠ 2)
    (hdata : ecc = 3 → isLoad o = false) (hkeep : ∀ t, P t → P { t with pending := s.pending, variant := s.variant })
    (hP : P (finish x.val (issued x ecc s) (f w (s.engine x.val).counted (issued x ecc s)))) : Does c s P :=
  .of_rule hexec hkeep (by rw [issue_runs f hissue hword hdata]; exact hP)

/-! ## POP and POPN -/

theorem engPop_item {b : Bool} {v : Word} {r : List (Bool × Word)} (hX : iX w = 0) (hB : iB w = 0) (hA : iA w = i) (hi : i ≤ 1)
    (hbound : ((s.engine x.val).bound i).isSome = true) (hqueue : (s.engine x.val).queue i = (b, v) :: r) :
    engPop x.val w (s.engine x.val).counted (issued x ecc s) =
      .done (afterTake x.val i (takeItem i b v r (iD w) (s.engine x.val)).counted (issued x ecc s)) := by
  subst hA
  have hqueue' : (s.engine x.val).counted.queue (iA w) = (b, v) :: r := hqueue
  rw [engPop, withPort_eq (e := (s.engine x.val).counted) hX hB hi hbound]
  simp only [hqueue', takeItem_counted]

theorem engPop_empty (hX : iX w = 0) (hB : iB w = 0) (hA : iA w = i) (hi : i ≤ 1)
    (hbound : ((s.engine x.val).bound i).isSome = true) (hqueue : (s.engine x.val).queue i = []) :
    engPop x.val w (s.engine x.val).counted (issued x ecc s) = .stall (issued x ecc s) 1 := by
  subst hA
  have hqueue' : (s.engine x.val).counted.queue (iA w) = [] := hqueue
  rw [engPop, withPort_eq (e := (s.engine x.val).counted) hX hB hi hbound]
  simp only [hqueue']

theorem engPopn_item {b : Bool} {v : Word} {r : List (Bool × Word)} (hX : iX w = 0) (hB : iB w = 0) (hA : iA w = i) (hi : i ≤ 1)
    (hbound : ((s.engine x.val).bound i).isSome = true) (hheld : ((s.engine x.val).dec i).held = none)
    (hqueue : (s.engine x.val).queue i = (b, v) :: r) :
    engPopn x.val w (s.engine x.val).counted (issued x ecc s) =
      pureEng x.val (issued x ecc s) ((takeItem i b v r (iD w) (s.engine x.val)).flag (3 * i + 2) false).counted := by
  subst hA
  have hqueue' : (s.engine x.val).counted.queue (iA w) = (b, v) :: r := hqueue
  have hheld' : (((issued x ecc s).engine x.val).dec (iA w)).held = none := by
    rw [issued_engine]
    exact hheld
  rw [engPopn, withPort_eq (e := (s.engine x.val).counted) hX hB hi hbound]
  simp only [hqueue', takeItem_counted, afterTake, hheld', Option.isSome_none, Bool.false_and, Bool.false_eq_true, if_false]
  rfl

theorem engPopn_empty (hX : iX w = 0) (hB : iB w = 0) (hA : iA w = i) (hi : i ≤ 1)
    (hbound : ((s.engine x.val).bound i).isSome = true) (hqueue : (s.engine x.val).queue i = []) :
    engPopn x.val w (s.engine x.val).counted (issued x ecc s) =
      pureEng x.val (issued x ecc s) ((s.engine x.val).flag (3 * i + 2) true).counted := by
  subst hA
  have hqueue' : (s.engine x.val).counted.queue (iA w) = [] := hqueue
  rw [engPopn, withPort_eq (e := (s.engine x.val).counted) hX hB hi hbound]
  simp only [hqueue']
  rfl

/-- What a POP of an item leaves. -/
theorem finish_pop {e : Eng} (u : State) (hpc : e.pc = (s.engine x.val).pc) :
    ∃ t g, finish x.val u (.done (afterTake x.val i e.counted (issued x ecc s))) = { t with fab := { s.fab with got := g } } ∧
      Leaves x ecc (e.counted.seq (s.engine x.val).pc) s t ∧
      (((s.engine x.val).dec i).held = none → g = s.fab.got) := by
  obtain ⟨g, hafter, hg⟩ := afterTake_spec x.val i e.counted (issued x ecc s)
  have hfab : (issued x ecc s).fab = s.fab := by
    rw [issued, eccDone_frame]
    rfl
  have hset := (Leaves.issued x ecc s).setEngine e.counted
  refine ⟨_, g, ?_, hset.setEngine (e.counted.seq (s.engine x.val).pc), fun h => ?_⟩
  · have hengine : ({ (issued x ecc s).setEngine x.val e.counted with fab := { s.fab with got := g } } : State).engine x.val =
        e.counted := hset.engine
    rw [finish, hafter, hfab, hengine, ← hpc]
    rfl
  · rw [hg (by rw [issued_engine]; exact h), hfab]

/-! ## PUSH and PUSHE -/

theorem pushOf_room {close : Bool} {y j : Nat} {e : Eng} {t : State} (hX : iX w = 0) (hB : iB w = 0) (hD : iD w = 0)
    (hout : e.out.length < 512) (hfill : e.fill < 64) (hbound : e.bout = some j) :
    pushOf close y w e t =
      if close = true then
        .done (if e.mute = true then t.setEngine y { e with out := [], isOpen := false, fill := e.fill + 1 }
          else publish (y / 32) (t.plotParcel (y / 32)) j (e.out ++ [e.gr (iA w)])
            (t.setEngine y { e with out := [], isOpen := false, fill := e.fill + 1 }))
      else pureEng y t { e with out := e.out ++ [e.gr (iA w)], isOpen := true, fill := e.fill + 1 } := by
  simp only [pushOf, hX, hB, hD, hbound, ne_eq, not_true_eq_false, or_self, if_false, if_neg (Nat.not_le.2 hout),
    if_neg (Nat.not_le.2 hfill)]

theorem pushOf_full {close : Bool} {y : Nat} {e : Eng} {t : State} (hX : iX w = 0) (hB : iB w = 0) (hD : iD w = 0)
    (hout : e.out.length < 512) (hfill : 64 ≤ e.fill) (hbound : e.bout.isSome = true) : pushOf close y w e t = .stall t 2 := by
  obtain ⟨j, hj⟩ := Option.isSome_iff_exists.1 hbound
  simp only [pushOf, hX, hB, hD, hj, ne_eq, not_true_eq_false, or_self, if_false, if_neg (Nat.not_le.2 hout), if_pos hfill]

/-! ## Special registers -/

theorem special_issued (n : Nat) :
    special n x.val (s.engine x.val).counted (issued x ecc s) = special n x.val (s.engine x.val) (eccDone x ecc s) := by
  unfold special
  split <;> rfl

/-- The value read of a LO register goes into Gd, its upper part is latched for the HI partner. -/
theorem engMfs_lo {n : Nat} (hX : iX w = 0) (hA : iA w = 0) (hB : iB w = n) (hn : n = 3 ∨ n = 5 ∨ n = 8 ∨ n = 10) (e : Eng) (t : State) :
    engMfs x.val w e t =
      pureEng x.val (pairValue n x.val e t).2 (({ (pairValue n x.val e t).2.engine x.val with
        latch := Smap.set (fun _ => 2 ^ 32) ((pairValue n x.val e t).2.engine x.val).latch (n + 1)
          ((pairValue n x.val e t).1 / 2 ^ 32) } : Eng).setGr (iD w) (w32 (pairValue n x.val e t).1)) := by
  rw [engMfs, hB, if_neg (by omega), if_pos hn]

/-- A HI register whose partner has been read gives the latched value, once. -/
theorem engMfs_hi {n : Nat} {e : Eng} {t : State} (hX : iX w = 0) (hA : iA w = 0) (hB : iB w = n) (hn : n ∈ [4, 6, 9, 11])
    (hlatch : Smap.get (fun _ => 2 ^ 32) e.latch n < 2 ^ 32) :
    engMfs x.val w e t = pureEng x.val t (({ e with latch := Smap.set (fun _ => 2 ^ 32) e.latch n (2 ^ 32) } : Eng).setGr
      (iD w) (w32 (Smap.get (fun _ => 2 ^ 32) e.latch n))) := by
  simp only [List.mem_cons, List.not_mem_nil, or_false] at hn
  rw [engMfs, hB, if_neg (by omega), if_neg (by omega), if_pos hn]
  exact if_pos hlatch

theorem engMfs_other {e : Eng} {t : State} (hX : iX w = 0) (hA : iA w = 0) (hB : iB w ≤ 17)
    (hn : iB w ∉ [3, 4, 5, 6, 8, 9, 10, 11]) :
    engMfs x.val w e t = pureEng x.val t (e.setGr (iD w) (w32 (special (iB w) x.val e t))) := by
  simp only [List.mem_cons, List.not_mem_nil, or_false] at hn
  rw [engMfs, if_neg (by omega), if_neg (by omega), if_neg (by omega)]

theorem issued_reg {a : Nat} (h : a ≠ R.ENG_PLECC (x.val / 32)) : (issued x ecc s).reg a = s.reg a :=
  issued_sameRegs x ecc s a (by simpa using h)

theorem issued_fb (f : Fld) (h : f.adr ≠ R.ENG_PLECC (x.val / 32)) : (issued x ecc s).fb f = s.fb f := by
  rw [State.fb, State.fb, State.fg_congr f (issued_reg h)]

/-- Reading the cycle count adds the cycles that stalls have taken. -/
theorem pairValue_cycles (e : Eng) (t : State) :
    pairValue 3 x.val e t = ((e.cyc + t.free.1) % 2 ^ 64,
      ({ t with freeCtr := t.freeCtr + 1 } : State).setEngine x.val { e with cyc := (e.cyc + t.free.1) % 2 ^ 64 }) := rfl

/-- Reading the epoch: the datum's, within one, and COH above it. -/
theorem pairValue_epoch (e : Eng) (t : State) :
    pairValue 5 x.val e t = (b2n (t.fb R.DTM_STAT_COH) * 2 ^ 63 + (t.epoch + t.free.1 % 3 - 1),
      ({ t with freeCtr := t.freeCtr + 1 } : State)) := rfl

theorem epoch_within {b : Bool} {n k : Nat} (h : n + 1 < 2 ^ 63) :
    (b2n b * 2 ^ 63 + (n + k % 3 - 1)) % 2 ^ 63 ≤ n + 1 ∧ n ≤ (b2n b * 2 ^ 63 + (n + k % 3 - 1)) % 2 ^ 63 + 1 ∧
      (b2n b * 2 ^ 63 + (n + k % 3 - 1)) / 2 ^ 63 = if b = true then 1 else 0 := by
  have hk : k % 3 < 3 := Nat.mod_lt _ (by decide)
  cases b <;> simp only [b2n] <;> omega

end Sys2Proof.Machine

/-! # O22: ports and special registers -/

namespace Sys2Proof.Machine

variable {c : Instr} {x : Fin 1024} {ecc : Fin 4} {o w i : Nat} {s : State}

theorem pairValue_inc (e : Eng) (t : State) : pairValue 8 x.val e t = (e.inc, t) := rfl

theorem pairValue_ph (e : Eng) (t : State) : pairValue 10 x.val e t = (e.ph, t) := rfl

theorem issued_plotParcel (p : Nat) : (issued x ecc s).plotParcel p = s.plotParcel p := by
  rw [State.plotParcel, State.plotParcel, State.fg_congr _ (issued_reg (by show 0x081004 + 64 * p ≠ 0x08101C + 64 * (x.val / 32); omega))]

theorem issued_now (x : Fin 1024) (ecc : Fin 4) (s : State) : (issued x ecc s).now = s.now := by
  rw [issued, eccDone_frame]
  rfl

theorem issued_epoch (x : Fin 1024) (ecc : Fin 4) (s : State) : (issued x ecc s).epoch = s.epoch := by
  rw [State.epoch, State.epoch, issued_now]

theorem issued_pub (q j k : Nat) : (issued x ecc s).reg (R.FAB_PUB q j k) = s.reg (R.FAB_PUB q j k) :=
  issued_reg (by show 0x0A2000 + 256 * q + 8 * j + 4 * k ≠ 0x08101C + 64 * (x.val / 32); omega)

/-- A PUSHE of an enabled entry without a forwarding destination. -/
theorem finish_pushe {step : EStep} {e : Eng} {items : List Word}
    (hstep : step = .done (publish (x.val / 32) (s.plotParcel (x.val / 32)) i items ((issued x ecc s).setEngine x.val e)))
    (hpc : e.pc = (s.engine x.val).pc) (hon : entOn (s.pubW0 (s.plotParcel (x.val / 32)) i) = true)
    (hlocal : s.pubW1 (s.plotParcel (x.val / 32)) i = 0) (u : State) :
    (finish x.val u step).engine x.val = e.seq (s.engine x.val).pc ∧
      (finish x.val u step).lastOut =
        some { ch := .stream, args := [4, s.plotParcel (x.val / 32), i] ++ items.map fun v => v.toNat } := by
  have hreg : ∀ k, ((issued x ecc s).setEngine x.val e).reg (R.FAB_PUB (s.plotParcel (x.val / 32)) i k) =
      s.reg (R.FAB_PUB (s.plotParcel (x.val / 32)) i k) := issued_pub (x := x) (ecc := ecc) (s := s) _ _
  obtain ⟨hengine, hout⟩ := publish_spec (x := x.val) (items := items) (s := (issued x ecc s).setEngine x.val e)
    (by rw [State.pubW0, hreg]; exact hon) (by rw [State.pubW1, hreg]; exact hlocal)
  rw [State.engine_setEngine_same] at hengine
  rw [hstep, finish, hengine, State.engine_setEngine_same, hpc]
  exact ⟨rfl, hout⟩

theorem finish_pureEng (u t : State) (e : Eng) :
    finish x.val u (pureEng x.val t e) = (t.setEngine x.val e).setEngine x.val (e.seq e.pc) := by
  rw [pureEng, finish, State.engine_setEngine_same]

/-- What a read of a LO register leaves of the engine. -/
theorem latched_spec {e : Eng} {k l d pc : Nat} {v : Word} {t : State}
    (h : t.engine x.val = (({ e with latch := Smap.set (fun _ => 2 ^ 32) e.latch k l } : Eng).setGr d v).seq pc) :
    (t.engine x.val).cyc = e.cyc ∧ (t.engine x.val).gr d = v ∧ Smap.get (fun _ => 2 ^ 32) (t.engine x.val).latch k = l := by
  rw [h]
  exact ⟨rfl, Smap.get_set_same .., Smap.get_set_same ..⟩

/-- MFS of CYCLES leaves the count it read, with the cycles of `n` stalls. -/
theorem engMfs_cycles {u : State} (hX : iX w = 0) (hA : iA w = 0) (hB : iB w = 3) :
    ∃ t n, finish x.val u (engMfs x.val w (s.engine x.val).counted (issued x ecc s)) = t ∧
      (t.engine x.val).cyc = ((s.engine x.val).cyc + 1 + n) % 2 ^ 64 ∧ (t.engine x.val).gr (iD w) = w32 (t.engine x.val).cyc ∧
      Smap.get (fun _ => 2 ^ 32) (t.engine x.val).latch 4 = (t.engine x.val).cyc / 2 ^ 32 ∧
      t = { eccDone x ecc s with arr := { s.arr with engs := t.arr.engs }, freeCtr := t.freeCtr } := by
  rw [engMfs_lo hX hA hB (by decide), pairValue_cycles, State.engine_setEngine_same, finish_pureEng]
  generalize hn : (issued x ecc s).free.1 = n
  generalize hc : ((s.engine x.val).counted.cyc + n) % 2 ^ 64 = cyc
  refine ⟨_, n, rfl, ?_⟩
  obtain ⟨hcyc, hgr, hlatch⟩ := latched_spec (x := x) (State.engine_setEngine_same
    ((({ issued x ecc s with freeCtr := (issued x ecc s).freeCtr + 1 } : State).setEngine x.val
      { (s.engine x.val).counted with cyc := cyc }).setEngine x.val _) x.val _)
  refine ⟨hcyc.trans hc.symm, hgr.trans (congrArg w32 hcyc.symm), hlatch.trans (congrArg (· / 2 ^ 32) hcyc.symm), ?_⟩
  rw [issued, eccDone_frame]
  rfl

/-- A row whose rule writes `v` into the register its D field names and latches `l`. -/
theorem Does.latches {l : List (Nat × Nat)} {v : Word} {f : Nat → Eng → State → EStep}
    (hexec : exec c s = run (issue x.val o ecc.val f) s) (hissue : Issues x o w s) (hword : ecc ≠ 2)
    (hdata : ecc = 3 → isLoad o = false)
    (hrule : f w (s.engine x.val).counted (issued x ecc s) =
      pureEng x.val (issued x ecc s) (({ (s.engine x.val).counted with latch := l } : Eng).setGr (iD w) v)) :
    Does c s (Goes x ecc (({ s.engine x.val with latch := l } : Eng).setGr (iD w) v) s) :=
  .goes hexec hissue hword hdata (Eng.setGr_pc ..) hrule

/-- Settles O22: the stream ports, and the special registers with their latched partners. -/
theorem portAndSpecialRegisterInstructionsComplete : Obligations.PortAndSpecialRegisterInstructionsComplete := by
  refine ⟨?pop, ?popEmpty, ?popn, ?popnEmpty, ?avail, ?push, ?pushe, ?published, ?full, ?mfs, ?incLo, ?phLo, ?hi, ?cycles,
    ?epoch, ?flags, ?wdog, ?lnk, ?inc, ?ph, ?incHi, ?phHi⟩
  case pop =>
    intro x ecc w i b v r s hword hissue hX hB hA hi hbound hqueue
    obtain ⟨hgr, hfirst, hpc⟩ := takeItem_spec i b v r (iD w) (s.engine x.val)
    obtain ⟨t, g, hfinish, ⟨hengine, hothers, hframe⟩, hgot⟩ := finish_pop (x := x) (ecc := ecc) (i := i) (issued x ecc s) hpc
    refine .issues rfl hissue hword (by simp [isLoad]) (fun t ht => ?_) ?_
    · obtain ⟨hengine, hothers, hframe, hrest⟩ := ht
      refine ⟨hengine, hothers, ?_, hrest⟩
      rw [hframe, eccDone_frame]
    · rw [engPop_item hX hB hA hi hbound hqueue, hfinish]
      have hengine' : ({ t with fab := { s.fab with got := g } } : State).engine x.val = _ := hengine
      rw [hengine']
      refine ⟨rfl, hothers, ?_, hgr, hfirst, fun h => ⟨takeItem_queue h, ?_⟩, fun f hf hfits => takeItem_admits hf hfits⟩
      · rw [hframe]
      · rw [hgot h]
  case popEmpty =>
    intro x ecc w i s hword hissue hX hB hA hi hbound hqueue
    exact .stalls rfl rfl (by decide) hword hissue (engPop_empty hX hB hA hi hbound hqueue)
  case popn =>
    intro x ecc w i b v r s hword hissue hX hB hA hi hbound hheld hqueue
    obtain ⟨hgr, -, hpc⟩ := takeItem_spec i b v r (iD w) (s.engine x.val)
    obtain ⟨t, ht, hgoes⟩ := Does.goes (c := .engPopn x ecc) (e := (takeItem i b v r (iD w) (s.engine x.val)).flag (3 * i + 2) false)
      rfl hissue hword (by simp [isLoad]) hpc (engPopn_item hX hB hA hi hbound hheld hqueue)
    refine ⟨t, ht, hgoes, ?_⟩
    rw [hgoes.1]
    exact hgr
  case popnEmpty =>
    intro x ecc w i s hword hissue hX hB hA hi hbound hqueue
    exact .goes rfl hissue hword (by simp [isLoad]) rfl (engPopn_empty hX hB hA hi hbound hqueue)
  case avail =>
    intro x ecc w i s hword hissue hX hB hA hi hbound
    subst hA
    exact .writes rfl hissue hword (by simp [isLoad]) (withPort_eq (e := (s.engine x.val).counted) hX hB hi hbound)
  case push =>
    intro x ecc w s hword hissue hX hB hD hout hfill hbound
    obtain ⟨j, hj⟩ := Option.isSome_iff_exists.1 hbound
    exact .goes rfl hissue hword (by simp [isLoad]) rfl (pushOf_room (close := false) (e := (s.engine x.val).counted) hX hB hD hout hfill hj)
  case pushe =>
    intro x ecc w s hword hissue hX hB hD hout hfill hbound hmute
    obtain ⟨j, hj⟩ := Option.isSome_iff_exists.1 hbound
    refine .goes rfl hissue hword (by simp [isLoad]) rfl ?_
    have hmute' : (s.engine x.val).counted.mute = true := hmute
    rw [engPushe, pushOf_room (e := (s.engine x.val).counted) hX hB hD hout hfill hj, if_pos rfl, if_pos hmute']
    rfl
  case published =>
    intro x ecc w i s hword hissue hX hB hD hout hfill hbound hmute hon hlocal
    refine .issues rfl hissue hword (by simp [isLoad]) (fun t ht => ht) ?_
    have hmute' : ¬(s.engine x.val).counted.mute = true := Bool.not_eq_true _ ▸ hmute
    refine finish_pushe (ecc := ecc) (e := ({ s.engine x.val with out := [], isOpen := false, fill := (s.engine x.val).fill + 1 } : Eng).counted)
      ?_ rfl hon hlocal _
    rw [engPushe, pushOf_room (e := (s.engine x.val).counted) hX hB hD hout hfill hbound, if_pos rfl, if_neg hmute',
      issued_plotParcel]
    rfl
  case full =>
    intro x ecc w s hword hissue hX hB hD hout hfill hbound
    exact .stalls rfl rfl (by decide) hword hissue (pushOf_full (e := (s.engine x.val).counted) hX hB hD hout hfill hbound)
  case mfs =>
    intro x ecc w s hword hissue hX hA hB hn
    refine .writes rfl hissue hword (by simp [isLoad]) ?_
    rw [engMfs_other hX hA hB hn, special_issued]
  case incLo =>
    intro x ecc w s hword hissue hX hA hB
    refine .latches rfl hissue hword (by simp [isLoad]) ?_
    rw [engMfs_lo hX hA hB (by decide), pairValue_inc, issued_engine]
    rfl
  case phLo =>
    intro x ecc w s hword hissue hX hA hB
    refine .latches rfl hissue hword (by simp [isLoad]) ?_
    rw [engMfs_lo hX hA hB (by decide), pairValue_ph, issued_engine]
    rfl
  case hi =>
    intro x ecc w s hword hissue hX hA hB hlatch
    exact .latches rfl hissue hword (by simp [isLoad]) (engMfs_hi (e := (s.engine x.val).counted) hX hA rfl hB hlatch)
  case cycles =>
    intro x ecc w s hword hissue hX hA hB
    refine .issues rfl hissue hword (by simp [isLoad]) (fun t ht => ?_) ?_
    · obtain ⟨hcyc, hgr, hlatch, hframe⟩ := ht
      refine ⟨hcyc, hgr, hlatch, ?_⟩
      rw [hframe, eccDone_frame]
    · obtain ⟨t, n, hfinish, hcyc, hrest⟩ := engMfs_cycles (x := x) (ecc := ecc) (s := s) (u := issued x ecc s) hX hA hB
      rw [hfinish]
      exact ⟨⟨n, hcyc⟩, hrest⟩
  case epoch =>
    intro x ecc w s hword hissue hX hA hB hepoch
    refine .issues rfl hissue hword (by simp [isLoad]) (fun t ht => ht) ?_
    have hcoh : R.DTM_STAT_COH.adr ≠ R.ENG_PLECC (x.val / 32) := by
      show 0x120004 ≠ 0x08101C + 64 * (x.val / 32)
      omega
    have hpair := epoch_within (b := s.fb R.DTM_STAT_COH) (k := (issued x ecc s).free.1) hepoch
    rw [engMfs_lo hX hA hB (by decide), pairValue_epoch, finish_pureEng, issued_fb _ hcoh, issued_epoch]
    generalize b2n (s.fb R.DTM_STAT_COH) * 2 ^ 63 + (s.epoch + (issued x ecc s).free.1 % 3 - 1) = v at hpair ⊢
    obtain ⟨-, hgr, hlatch⟩ := latched_spec (x := x) (State.engine_setEngine_same _ x.val _)
    exact ⟨v, hgr, hlatch, hpair⟩
  case flags =>
    intro x ecc w s hword hissue hX hB hD hv
    refine .goes rfl hissue hword (by simp [isLoad]) rfl ?_
    simp only [engMts, hD, hX, hB, ne_eq, not_true_eq_false, or_self, if_false]
    exact if_neg (Nat.not_le.2 hv)
  case wdog =>
    intro x ecc w s hword hissue hX hB hD
    refine .goes rfl hissue hword (by simp [isLoad]) rfl ?_
    rw [engMts, hD, if_neg (by omega), issued_now]
    rfl
  case lnk | inc | ph =>
    intro x ecc w s hword hissue hX hB hD
    refine .goes rfl hissue hword (by simp [isLoad]) rfl ?_
    rw [engMts, hD, if_neg (by omega)]
    rfl
  case incHi =>
    intro x ecc w s hword hissue hX hB hD
    obtain ⟨t, ht, hgoes⟩ := Does.goes (c := .engMts x ecc)
      (e := { s.engine x.val with
        inc := withBits (s.engine x.val).inc 32 16 (s.ga x w).toNat
        latch := Smap.set (fun _ => 2 ^ 32) (s.engine x.val).latch 9 (2 ^ 32) })
      rfl hissue hword (by simp [isLoad]) rfl (by
        rw [engMts, hD, if_neg (by omega)]
        rfl)
    have hengine := hgoes.1
    have hinc : (t.engine x.val).inc = withBits (s.engine x.val).inc 32 16 (s.ga x w).toNat := by
      rw [hengine]
      rfl
    have hlatch : (t.engine x.val).latch = Smap.set (fun _ => 2 ^ 32) (s.engine x.val).latch 9 (2 ^ 32) := by
      rw [hengine]
      rfl
    exact ⟨t, ht, hinc, by rw [hinc, hlatch]; exact hgoes⟩
  case phHi =>
    intro x ecc w s hword hissue hX hB hD
    obtain ⟨t, ht, hgoes⟩ := Does.goes (c := .engMts x ecc)
      (e := { s.engine x.val with
        ph := withBits (s.engine x.val).ph 32 16 (s.ga x w).toNat
        latch := Smap.set (fun _ => 2 ^ 32) (s.engine x.val).latch 11 (2 ^ 32) })
      rfl hissue hword (by simp [isLoad]) rfl (by
        rw [engMts, hD, if_neg (by omega)]
        rfl)
    have hengine := hgoes.1
    have hph : (t.engine x.val).ph = withBits (s.engine x.val).ph 32 16 (s.ga x w).toNat := by
      rw [hengine]
      rfl
    have hlatch : (t.engine x.val).latch = Smap.set (fun _ => 2 ^ 32) (s.engine x.val).latch 11 (2 ^ 32) := by
      rw [hengine]
      rfl
    exact ⟨t, ht, hph, by rw [hph, hlatch]; exact hgoes⟩

end Sys2Proof.Machine

/-! # Stopping an engine (R246, R254, R257, R270, R271) -/

namespace Sys2Proof.Machine

variable {p x y n : Nat} {s t u : State}

/-! ## What the engine array does beside its instructions -/

/-- The words that show how the engines of plot `p` and the plot itself stand, and the counts of discarded frames. -/
def showsPlot (p : Nat) : List Nat :=
  dropCounters ++ [R.ENG_PLRUN p, R.ENG_PLEXC p, R.ENG_PLSTAT p, R.ENG_EXCSUM, R.ENG_STAT]

/-- Between `s` and `t` engines of plot `p` were started or stopped: frames set out or were lost, memory of plots was written, and
the words that show the plot followed. -/
structure Tends (p : Nat) (s t : State) : Prop where
  frame : ∃ r o e pl f, t = { s with regs := r, out := o, arr := { s.arr with engs := e, plots := pl }, fab := f }
  plots : ∀ q, ∃ m, t.plot q = { s.plot q with mem := m }
  others : ∀ y, y / 32 ≠ p → ∃ a b c, t.engine y = { s.engine y with drop0 := a, drop1 := b, sflags := c }
  regs : SameRegs (showsPlot p) s t

theorem Tends.refl (p : Nat) (s : State) : Tends p s s where
  frame := ⟨_, _, _, _, _, rfl⟩
  plots _ := ⟨_, rfl⟩
  others _ _ := ⟨_, _, _, rfl⟩
  regs := .refl _ s

theorem Tends.trans (h : Tends p s t) (h' : Tends p t u) : Tends p s u where
  frame := by
    obtain ⟨r, o, e, pl, f, hst⟩ := h.frame
    obtain ⟨r', o', e', pl', f', htu⟩ := h'.frame
    exact ⟨r', o', e', pl', f', by rw [htu, hst]⟩
  plots q := by
    obtain ⟨m, hm⟩ := h.plots q
    obtain ⟨m', hm'⟩ := h'.plots q
    exact ⟨m', by rw [hm', hm]⟩
  others y hy := by
    obtain ⟨a, b, c, he⟩ := h.others y hy
    obtain ⟨a', b', c', he'⟩ := h'.others y hy
    exact ⟨a', b', c', by rw [he', he]⟩
  regs := h.regs.trans h'.regs

/-- A list of steps, each of which tends to plot `p`. -/
theorem Tends.foldl {α : Type} {f : State → α → State} (l : List α) (hf : ∀ t, ∀ a ∈ l, Tends p t (f t a)) (s : State) :
    Tends p s (l.foldl f s) :=
  List.foldlRecOn (motive := Tends p s) l f (.refl p s) fun t ht a ha => ht.trans (hf t a ha)

theorem Tends.setEngine (hx : x / 32 = p) (e : Eng) (s : State) : Tends p s (s.setEngine x e) where
  frame := ⟨_, _, _, _, _, rfl⟩
  plots _ := ⟨_, rfl⟩
  others _ hy := ⟨_, _, _, s.engine_setEngine_ne e fun h => hy (h ▸ hx)⟩
  regs := .of_regs rfl

theorem Tends.of_fab {f : Fab} (s : State) : Tends p s { s with fab := f } where
  frame := ⟨_, _, _, _, _, rfl⟩
  plots _ := ⟨_, rfl⟩
  others _ _ := ⟨_, _, _, rfl⟩
  regs := .of_regs rfl

theorem Tends.emit (ch : Chan) (args : List Nat) (s : State) : Tends p s (s.emit ch args) where
  frame := ⟨_, _, _, _, _, rfl⟩
  plots _ := ⟨_, rfl⟩
  others _ _ := ⟨_, _, _, rfl⟩
  regs := .of_regs rfl

theorem dropFrame_engine (x i : Nat) (s : State) :
    ∃ a b c, (dropFrame x i s).engine x = { s.engine x with drop0 := a, drop1 := b, sflags := c } := by
  have h : (dropFrame x i s).engine x = (if i = 0 then { s.engine x with drop0 := clampU 32 ((s.engine x).drop0 + 1) }
      else { s.engine x with drop1 := clampU 32 ((s.engine x).drop1 + 1) }).flag (3 * i + 1) true :=
    State.engine_setEngine_same ..
  rw [h]
  split
  · exact ⟨_, _, _, rfl⟩
  · exact ⟨_, _, _, rfl⟩

theorem dropFrame_tends (p y j : Nat) (s : State) : Tends p s (dropFrame y j s) where
  frame := ⟨_, _, _, _, _, rfl⟩
  plots _ := ⟨_, rfl⟩
  others z _ := by
    by_cases hz : z = y
    · subst hz
      exact dropFrame_engine z j s
    · exact ⟨_, _, _, dropFrame_engine_ne s hz⟩
  regs := (dropFrame_feeds y j s).regs.mono fun _ ha => List.mem_append_left _ ha

theorem feedPub_tends (p q i : Nat) (aborted : Bool) (items : List Word) (s : State) :
    Tends p s (feedPub p q i aborted items s) :=
  feedPub_induction (motive := Tends p s) p q i aborted items (.refl p s) (fun t _ ht => ht.trans (.of_fab t))
    fun t y j _ ht => ht.trans (dropFrame_tends p y j t)

/-! ## Its steps -/

/-- An open output frame is closed; nothing else of the engines of the plot changes. -/
theorem closeFrame_engine (x : Nat) (s : State) :
    ∃ o n, (closeFrame x s).engine x = { s.engine x with isOpen := false, out := o, fill := n } := by
  unfold closeFrame
  by_cases hopen : (s.engine x).isOpen = true
  · refine ⟨[], 0, ?_⟩
    simp only [hopen, Bool.not_true, Bool.false_eq_true, if_false]
    split
    · exact State.engine_setEngine_same ..
    · exact (feedPub_ownPlot rfl _ _ _ _ _).trans (State.engine_setEngine_same ..)
  · refine ⟨(s.engine x).out, (s.engine x).fill, ?_⟩
    rw [Bool.not_eq_true] at hopen
    simp only [hopen, Bool.not_false, if_true]
    rw [← hopen]

theorem closeFrame_engine_ne (s : State) (hplot : y / 32 = x / 32) (hy : y ≠ x) : (closeFrame x s).engine y = s.engine y := by
  unfold closeFrame
  simp only
  split
  · rfl
  · split
    · exact State.engine_setEngine_ne _ _ hy
    · exact (feedPub_ownPlot hplot _ _ _ _ _).trans (State.engine_setEngine_ne _ _ hy)

theorem closeFrame_plots (x : Nat) (s : State) : (closeFrame x s).arr.plots = s.arr.plots := by
  unfold closeFrame
  simp only
  split
  · rfl
  · split
    · rfl
    · exact feedPub_induction (motive := fun t : State => t.arr.plots = s.arr.plots) _ _ _ _ _ rfl (fun _ _ ht => ht)
        fun _ _ _ _ ht => ht

theorem closeFrame_tends (x : Nat) (s : State) : Tends (x / 32) s (closeFrame x s) := by
  unfold closeFrame
  simp only
  split
  · exact .refl _ s
  · split
    · exact .setEngine rfl _ s
    · exact ((Tends.setEngine rfl _ s).trans (.emit _ _ _)).trans (feedPub_tends ..)

theorem drainPosted_engine (x : Nat) (s : State) : (drainPosted x s).engine x = { s.engine x with posted := [], buf := 0 } := by
  unfold drainPosted
  simp only
  split
  · next h => rw [← h.1, ← h.2]
  · exact State.engine_setEngine_same ..

theorem drainPosted_engine_ne (s : State) (hy : y ≠ x) : (drainPosted x s).engine y = s.engine y := by
  unfold drainPosted
  simp only
  split
  · rfl
  · exact State.engine_setEngine_ne _ _ hy

theorem State.plot_setPlot (s : State) (p q : Nat) (v : Plot) : (s.setPlot p v).plot q = if q = p then v else s.plot q :=
  Smap.get_set ..

@[simp] theorem State.plot_setPlot_same (s : State) (p : Nat) (v : Plot) : (s.setPlot p v).plot p = v := Smap.get_set_same ..

theorem State.plot_setPlot_ne (s : State) {p q : Nat} (v : Plot) (h : q ≠ p) : (s.setPlot p v).plot q = s.plot q :=
  Smap.get_set_ne _ _ _ h

theorem Tends.setMem (p q : Nat) (m : List (Nat × Byte)) (s : State) : Tends p s (s.setPlot q { s.plot q with mem := m }) where
  frame := ⟨_, _, _, _, _, rfl⟩
  plots r := by
    by_cases hr : r = q
    · subst hr
      exact ⟨_, s.plot_setPlot_same r _⟩
    · exact ⟨_, s.plot_setPlot_ne _ hr⟩
  others _ _ := ⟨_, _, _, rfl⟩
  regs := .of_regs rfl

theorem drainPosted_tends (x : Nat) (s : State) : Tends (x / 32) s (drainPosted x s) := by
  unfold drainPosted
  simp only
  split
  · exact .refl _ s
  · exact (Tends.setEngine rfl _ s).trans (.setMem _ _ _ _)

/-- Stores in order leave at each address the last that went there. -/
theorem get_foldl_set (a : Nat) (m : List (Nat × Byte)) (l : List (Nat × Byte)) :
    Smap.get zeroByte (l.foldl (fun m c => Smap.set zeroByte m c.1 c.2) m) a =
      match l.reverse.find? fun c => c.1 == a with
      | some c => c.2
      | none => Smap.get zeroByte m a := by
  induction l using List.reverseRecOn with
  | nil => rfl
  | append_singleton l c ih =>
    rw [List.foldl_concat, Smap.get_set, ih, List.reverse_concat, List.find?_cons]
    by_cases hc : c.1 = a
    · simp [hc]
    · rw [if_neg (Ne.symm hc), beq_eq_false_iff_ne.2 hc]

/-- The bytes of shared memory, once the stores of engine `x` are visible, are those that it saw (R242). -/
theorem drainPosted_mem (x : Nat) (s : State) {a : Nat} (ha : 0x4000 ≤ a) :
    Smap.get zeroByte ((drainPosted x s).plot (x / 32)).mem a = engByte s x a := by
  have hmem : ((drainPosted x s).plot (x / 32)).mem =
      (s.engine x).posted.foldl (fun m c => Smap.set zeroByte m c.1 c.2) (s.plot (x / 32)).mem := by
    unfold drainPosted
    simp only
    split
    · next h =>
      rw [h.1]
      rfl
    · rw [State.plot_setPlot_same]
  rw [hmem, get_foldl_set, engByte]
  exact (if_neg (Nat.not_lt.2 ha)).symm

/-- The running engines of the instance of engine `x` (R235). -/
def liveMates (x : Nat) (s : State) : List Nat :=
  ((engines (x / 32)).filter fun y => (s.engine y).inst == (s.engine x).inst && (s.engine y).key != 0).filter
    fun y => (s.engine y).st == esRUNNING

/-- A BAR of engine `y` has completed; `stopped` says whether an engine of the instance did not run. -/
def barDone (stopped : Bool) (e : Eng) : Eng := { e with stall := 6, barx := stopped }

/-- Steps for the engines of a list, each of which changes its own engine alone. `I` is what the steps rely on and keep. -/
theorem foldl_engine {I : State → Prop} {g : State → Nat → State} {f : Nat → Eng → Eng} {l : List Nat} (hl : l.Nodup)
    (hg : ∀ t, I t → ∀ z ∈ l, I (g t z) ∧ ∀ y, (g t z).engine y = if y = z then f y (t.engine y) else t.engine y) {s : State} (hs : I s)
    (y : Nat) : (l.foldl g s).engine y = if y ∈ l then f y (s.engine y) else s.engine y := by
  induction l generalizing s with
  | nil => rfl
  | cons z l ih =>
    obtain ⟨hz, hl'⟩ := List.nodup_cons.1 hl
    obtain ⟨hI, hy⟩ := hg s hs z (by simp)
    rw [List.foldl_cons, ih hl' (fun t ht w hw => hg t ht w (List.mem_cons_of_mem _ hw)) hI, hy]
    by_cases h : y = z
    · subst h
      simp [hz]
    · simp [h]

theorem setEngine_engine (z : Nat) (f : Eng → Eng) (t : State) (y : Nat) :
    (t.setEngine z (f (t.engine z))).engine y = if y = z then f (t.engine y) else t.engine y := by
  by_cases h : y = z
  · subst h
    rw [State.engine_setEngine_same, if_pos rfl]
  · rw [State.engine_setEngine_ne t _ h, if_neg h]

theorem mem_engines : y ∈ engines p ↔ y / 32 = p := by
  simp only [engines, List.mem_map, List.mem_range]
  constructor
  · rintro ⟨e, he, rfl⟩
    omega
  · rintro rfl
    exact ⟨y % 32, Nat.mod_lt _ (by decide), by omega⟩

theorem engines_nodup (p : Nat) : (engines p).Nodup :=
  List.nodup_range.map fun _ _ h => Nat.add_left_cancel h

theorem liveMates_nodup (x : Nat) (s : State) : (liveMates x s).Nodup := ((engines_nodup _).filter _).filter _

theorem barrierCheck_waits (h : ∃ y ∈ liveMates x s, (s.engine y).stall ≠ 4) : barrierCheck x s = s := by
  obtain ⟨y, hy, hstall⟩ := h
  rw [barrierCheck]
  exact if_pos (.inr (List.any_eq_true.2 ⟨y, hy, by simpa using hstall⟩))

/-- When every running engine of the instance waits in BAR, all of them go on (R235). -/
theorem barrierCheck_completes (hlive : liveMates x s ≠ []) (h : ∀ y ∈ liveMates x s, (s.engine y).stall = 4) :
    barrierCheck x s = (liveMates x s).foldl (fun t y => t.setEngine y (barDone ((liveMates x s).length !=
      ((engines (x / 32)).filter fun y => (s.engine y).inst == (s.engine x).inst && (s.engine y).key != 0).length) (t.engine y))) s := by
  rw [barrierCheck]
  refine if_neg ?_
  rintro (hnil | hany)
  · exact hlive hnil
  · obtain ⟨y, hy, hstall⟩ := List.any_eq_true.1 hany
    exact absurd (h y hy) (by simpa using hstall)

theorem foldl_barDone (b : Bool) (x : Nat) (s t : State) (y : Nat) :
    ((liveMates x s).foldl (fun t y => t.setEngine y (barDone b (t.engine y))) t).engine y =
      if y ∈ liveMates x s then barDone b (t.engine y) else t.engine y :=
  foldl_engine (I := fun _ => True) (f := fun _ => barDone b) (liveMates_nodup x s)
    (fun u _ z _ => ⟨trivial, setEngine_engine z (barDone b) u⟩) trivial y

/-- The judging of a barrier changes a running engine at most. -/
theorem barrierCheck_engine (x y : Nat) (s : State) :
    (barrierCheck x s).engine y = s.engine y ∨
      ((s.engine y).st = esRUNNING ∧ ∃ b, (barrierCheck x s).engine y = barDone b (s.engine y)) := by
  by_cases hwait : liveMates x s = [] ∨ ∃ z ∈ liveMates x s, (s.engine z).stall ≠ 4
  · left
    obtain hnil | hwait := hwait
    · rw [barrierCheck, if_pos (.inl hnil)]
    · rw [barrierCheck_waits hwait]
  · simp only [not_or, not_exists, not_and, not_not] at hwait
    rw [barrierCheck_completes hwait.1 hwait.2, foldl_barDone]
    by_cases hy : y ∈ liveMates x s
    · rw [if_pos hy]
      exact .inr ⟨by simpa using (List.mem_filter.1 hy).2, _, rfl⟩
    · exact .inl (if_neg hy)

theorem barrierCheck_tends (x : Nat) (s : State) : Tends (x / 32) s (barrierCheck x s) := by
  unfold barrierCheck
  simp only
  split
  · exact .refl _ s
  · exact Tends.foldl _ (fun t y hy => .setEngine (mem_engines.1 (List.mem_of_mem_filter (List.mem_of_mem_filter hy))) _ t) s

/-- Between `s` and `t` only registers that are listed were written. -/
def WritesRegs (l : List Nat) (s t : State) : Prop := SameRegs l s t ∧ t = { s with regs := t.regs }

theorem WritesRegs.refl (l : List Nat) (s : State) : WritesRegs l s s := ⟨.refl l s, rfl⟩

theorem WritesRegs.trans {l : List Nat} (h : WritesRegs l s t) (h' : WritesRegs l t u) : WritesRegs l s u :=
  ⟨h.1.trans h'.1, by rw [h'.2, h.2]⟩

theorem WritesRegs.setReg {l : List Nat} {a : Nat} (s : State) (v : Word) (h : a ∈ l) : WritesRegs l s (s.setReg a v) :=
  ⟨.setReg s v h, rfl⟩

theorem WritesRegs.fs {l : List Nat} {f : Fld} (s : State) (v : Nat) (h : f.adr ∈ l) : WritesRegs l s (s.fs f v) :=
  .setReg s _ h

theorem WritesRegs.engine {l : List Nat} (h : WritesRegs l s t) (x : Nat) : t.engine x = s.engine x := by
  rw [h.2]
  rfl

theorem plotRefresh_writes (p : Nat) (s : State) : WritesRegs (showsPlot p) s (plotRefresh p s) := by
  have hmem : ∀ a ∈ [R.ENG_PLRUN p, R.ENG_PLEXC p, R.ENG_PLSTAT p, R.ENG_EXCSUM, R.ENG_STAT], a ∈ showsPlot p :=
    fun a ha => List.mem_append_right _ ha
  unfold plotRefresh
  extract_lets run exc s1 s2 st on rises kern s3
  have h1 : WritesRegs (showsPlot p) s s1 := (WritesRegs.fs s _ (hmem _ (by simp [R.ENG_PLRUN_ENG, R.ENG_PLRUN]))).trans
    (.fs _ _ (hmem _ (by simp [R.ENG_PLEXC_ENG, R.ENG_PLEXC])))
  have h2 : WritesRegs (showsPlot p) s1 s2 := (WritesRegs.fs s1 _ (hmem _ (by simp [R.ENG_PLSTAT_NRUN, R.ENG_PLSTAT]))).trans
    (.setReg _ _ (hmem _ (by simp [R.ENG_EXCSUM_EXC, R.ENG_EXCSUM])))
  have h3 : WritesRegs (showsPlot p) s2 s3 := by
    unfold s3
    split
    · exact .fs s2 _ (hmem _ (by simp [R.ENG_PLSTAT_STATE, R.ENG_PLSTAT]))
    · exact .refl _ s2
  exact ((h1.trans h2).trans h3).trans (.fs s3 _ (hmem _ (by simp [R.ENG_STAT_NRUN, R.ENG_STAT])))

@[simp] theorem plotRefresh_engine (p x : Nat) (s : State) : (plotRefresh p s).engine x = s.engine x :=
  (plotRefresh_writes p s).engine x

theorem plotRefresh_tends (p : Nat) (s : State) : Tends p s (plotRefresh p s) where
  frame := ⟨_, _, _, _, _, (plotRefresh_writes p s).2⟩
  plots _ := ⟨_, by rw [(plotRefresh_writes p s).2]; rfl⟩
  others y _ := ⟨_, _, _, plotRefresh_engine p y s⟩
  regs := (plotRefresh_writes p s).1

/-! ## The stop -/

/-- A stopped engine holds what it held, with its frame closed and its stores drained. -/
theorem stopEngine_engine (x : Nat) {st : Nat} (hst : st ≠ esRUNNING) (s : State) :
    ∃ o n w, (stopEngine x st s).engine x =
      { s.engine x with st := st, isOpen := false, out := o, fill := n, posted := [], buf := 0, wdogUsed := w } := by
  obtain ⟨o, n, hclose⟩ := closeFrame_engine x s
  have hdrain := drainPosted_engine x (closeFrame x s)
  rw [hclose] at hdrain
  rw [stopEngine, plotRefresh_engine]
  generalize wdogCount (drainPosted x (closeFrame x s)) ((drainPosted x (closeFrame x s)).engine x) = w
  refine ⟨o, n, w, ?_⟩
  rw [hdrain]
  obtain h | ⟨hrun, -⟩ := barrierCheck_engine x x ((drainPosted x (closeFrame x s)).setEngine x
    { s.engine x with st := st, isOpen := false, out := o, fill := n, posted := [], buf := 0, wdogUsed := w })
  · rw [State.engine_setEngine_same] at h
    exact h
  · rw [State.engine_setEngine_same] at hrun
    exact absurd hrun hst

/-- The stop of one engine completes at most the BAR of another of its plot. -/
theorem stopEngine_engine_ne {st : Nat} (s : State) (hplot : y / 32 = x / 32) (hy : y ≠ x) :
    (stopEngine x st s).engine y = s.engine y ∨
      ((s.engine y).st = esRUNNING ∧ ∃ b, (stopEngine x st s).engine y = barDone b (s.engine y)) := by
  have hstay : ∀ e, ((drainPosted x (closeFrame x s)).setEngine x e).engine y = s.engine y := fun e => by
    rw [State.engine_setEngine_ne _ _ hy, drainPosted_engine_ne _ hy, closeFrame_engine_ne s hplot hy]
  rw [stopEngine, plotRefresh_engine, ← hstay]
  exact barrierCheck_engine ..

theorem stopEngine_tends (x st : Nat) (s : State) : Tends (x / 32) s (stopEngine x st s) :=
  (((closeFrame_tends x s).trans (drainPosted_tends x _)).trans (.setEngine rfl _ _)).trans
    ((barrierCheck_tends x _).trans (plotRefresh_tends _ _))

end Sys2Proof.Machine

/-! # Exceptions (R243, R256 to R258) -/

namespace Sys2Proof.Machine

variable {c : Instr} {x : Fin 1024} {ecc : Fin 4} {o w k cause addr code : Nat} {s t u : State} {v0 v1 v2 v3 : Word}

/-- The exception of engine `x` is recorded in four words, and raised as the source `code` (R257). -/
def excRecord (x : Fin 1024) (code : Nat) (v0 v1 v2 v3 : Word) (t : State) : State :=
  (((((t.setReg (R.ENG_EXR_W0 x.val) v0).setReg (R.ENG_EXR_W1 x.val) v1).setReg (R.ENG_EXR_W2 x.val) v2).setReg
    (R.ENG_EXR_W3 x.val) v3).fs (R.ENG_PLFLT_EXC (x.val / 32)) 1).raise code (x.val / 32) (x.val / 32 * 256 + x.val % 32)

theorem takeExc_running (h : (s.engine x.val).st = esRUNNING) :
    takeExc x.val cause addr s =
      excRecord x (if (s.engine x.val).safety then 0x08 else 0x66) (w32 (cause * 0x1000000 + (s.engine x.val).pc)) (w32 addr) (w32 s.epoch)
        (Smap.get (fun _ => 0) (s.engine x.val).imem (s.engine x.val).pc) (stopEngine x.val esEXCEPTION s) := by
  rw [takeExc, if_neg (by rw [h]; decide), if_neg (by simp [h])]
  rfl

/-- The words that an exception of engine `x` writes, beside those that a stop writes. -/
def recordWords (x : Fin 1024) : List Nat :=
  [R.ENG_EXR_W0 x.val, R.ENG_EXR_W1 x.val, R.ENG_EXR_W2 x.val, R.ENG_EXR_W3 x.val, R.ENG_PLFLT (x.val / 32), R.FLT_ISL (x.val / 32),
    R.FLT_STAT]

theorem excRecord_regs (x : Fin 1024) (code : Nat) (v0 v1 v2 v3 : Word) (t : State) :
    SameRegs (recordWords x) t (excRecord x code v0 v1 v2 v3 t) := by
  intro a ha
  simp only [recordWords, List.mem_cons, List.not_mem_nil, or_false, not_or] at ha
  obtain ⟨h0, h1, h2, h3, hflt, hisl, hstat⟩ := ha
  rw [excRecord, State.raise_reg _ _ _ _ _ hisl hstat, State.reg_fs_ne _ _ _ hflt, State.reg_setReg_ne _ _ h3, State.reg_setReg_ne _ _ h2,
    State.reg_setReg_ne _ _ h1, State.reg_setReg_ne _ _ h0]

/-- The record of an exception (R257, R272). -/
theorem excRecord_words (x : Fin 1024) (code : Nat) (v0 v1 v2 v3 : Word) (t : State) :
    (excRecord x code v0 v1 v2 v3 t).reg (R.ENG_EXR_W0 x.val) = v0 ∧ (excRecord x code v0 v1 v2 v3 t).reg (R.ENG_EXR_W1 x.val) = v1 ∧
      (excRecord x code v0 v1 v2 v3 t).reg (R.ENG_EXR_W2 x.val) = v2 ∧ (excRecord x code v0 v1 v2 v3 t).reg (R.ENG_EXR_W3 x.val) = v3 := by
  have hx := x.isLt
  have hword : ∀ a, 0x084000 ≤ a → a < 0x088000 → ∀ u : State,
      ((u.fs (R.ENG_PLFLT_EXC (x.val / 32)) 1).raise code (x.val / 32) (x.val / 32 * 256 + x.val % 32)).reg a = u.reg a :=
    fun a hlo hhi u => by
      rw [State.raise_reg _ _ _ _ _ (by simp only [R.FLT_ISL]; omega) (by simp only [R.FLT_STAT]; omega),
        State.reg_fs_ne _ _ _ (by simp only [R.ENG_PLFLT_EXC]; omega)]
  simp only [excRecord, R.ENG_EXR_W0, R.ENG_EXR_W1, R.ENG_EXR_W2, R.ENG_EXR_W3]
  refine ⟨?_, ?_, ?_, ?_⟩
  all_goals
    rw [hword _ (by omega) (by omega)]
    simp [State.reg_setReg]

/-- The plot's sticky bits and the fault (R257). -/
theorem excRecord_fault (hcode : faultBit code < 32) :
    (excRecord x code v0 v1 v2 v3 t).fg (R.ENG_PLFLT_EXC (x.val / 32)) = 1 ∧
      (∀ f : Fld, f.adr = R.ENG_PLFLT (x.val / 32) → 1 ≤ f.lo → (excRecord x code v0 v1 v2 v3 t).fg f = t.fg f) ∧
      Raised code (x.val / 32) (excRecord x code v0 v1 v2 v3 t) := by
  have hreg : ∀ f : Fld, f.adr = 0x081008 + 64 * (x.val / 32) → ∀ u : State,
      (u.raise code (x.val / 32) (x.val / 32 * 256 + x.val % 32)).fg f = u.fg f := fun f hf u =>
    State.fg_congr f (by
      rw [hf]
      exact State.raise_reg _ _ _ _ _ (by simp only [R.FLT_ISL]; omega) (by simp only [R.FLT_STAT]; omega))
  refine ⟨?_, fun f hf hlo => ?_, State.raise_bit _ _ _ _ hcode⟩
  · rw [excRecord, hreg _ rfl, State.fg_fs_same _ _ _ (by simp [R.ENG_PLFLT_EXC])]
    rfl
  · rw [excRecord, hreg f hf, State.fg_fs_disj _ (R.ENG_PLFLT_EXC _) f _ (by simp [R.ENG_PLFLT_EXC]) hf (.inr hlo)]
    refine State.fg_congr f ?_
    rw [hf, State.reg_setReg_ne, State.reg_setReg_ne, State.reg_setReg_ne, State.reg_setReg_ne]
    all_goals simp only [R.ENG_PLFLT, R.ENG_EXR_W0, R.ENG_EXR_W1, R.ENG_EXR_W2, R.ENG_EXR_W3, ne_eq]; omega

theorem excRecord_engine (y : Nat) : (excRecord x code v0 v1 v2 v3 t).engine y = t.engine y :=
  State.engine_congr (by simp only [excRecord, State.raise_arr, State.fs_arr, State.setReg_arr]) y

/-! ## An engine in EXCEPTION -/

/-- Engine `x` has taken an exception with the record `v0`, `v1`, the epoch of `s` and `v3`; it has its registers and PC of `s`. -/
def Takes (x : Fin 1024) (v0 v1 v3 : Word) (s t : State) : Prop :=
  (t.engine x.val).st = esEXCEPTION ∧ t.reg (R.ENG_EXR_W0 x.val) = v0 ∧ t.reg (R.ENG_EXR_W1 x.val) = v1 ∧
  t.reg (R.ENG_EXR_W2 x.val) = w32 s.epoch ∧ t.reg (R.ENG_EXR_W3 x.val) = v3 ∧ t.fg (R.ENG_PLFLT_EXC (x.val / 32)) = 1 ∧
  Raised (if (s.engine x.val).safety = true then 0x08 else 0x66) (x.val / 32) t ∧ (t.engine x.val).g = (s.engine x.val).g ∧
  (t.engine x.val).pc = (s.engine x.val).pc

/-- The words of the memory code's counts and of the plot's ECCU bit are as they were. -/
def KeepsEcc (x : Fin 1024) (s t : State) : Prop :=
  t.fg (R.ENG_PLECC_UNCOR (x.val / 32)) = s.fg (R.ENG_PLECC_UNCOR (x.val / 32)) ∧
  t.fg (R.ENG_PLFLT_ECCU (x.val / 32)) = s.fg (R.ENG_PLFLT_ECCU (x.val / 32))

theorem not_showsPlot {p a : Nat} (hp : p < 32) (h : a = R.ENG_PLECC p ∨ a = R.ENG_PLFLT p) : a ∉ showsPlot p := by
  simp only [showsPlot, dropCounters, List.mem_append, List.mem_map, List.mem_range, R.FAB_PDEC, R.ENG_PLRUN, R.ENG_PLEXC, R.ENG_PLSTAT,
    R.ENG_EXCSUM, R.ENG_STAT, R.ENG_PLECC, R.ENG_PLFLT, List.mem_cons, List.not_mem_nil, or_false] at h ⊢
  omega

theorem stopEngine_keepsEcc (x : Fin 1024) (st : Nat) (s : State) : KeepsEcc x s (stopEngine x.val st s) :=
  have hregs := (stopEngine_tends x.val st s).regs
  have hp : x.val / 32 < 32 := by omega
  ⟨State.fg_congr _ (hregs _ (not_showsPlot hp (.inl rfl))), State.fg_congr _ (hregs _ (not_showsPlot hp (.inr rfl)))⟩

/-- A running engine takes an exception (R257). -/
theorem takeExc_takes (h : (s.engine x.val).st = esRUNNING) :
    Takes x (w32 (cause * 0x1000000 + (s.engine x.val).pc)) (w32 addr) (Smap.get (fun _ => 0) (s.engine x.val).imem (s.engine x.val).pc) s
        (takeExc x.val cause addr s) ∧
      KeepsEcc x s (takeExc x.val cause addr s) := by
  obtain ⟨o, n, i, hstop⟩ := stopEngine_engine x.val (st := esEXCEPTION) (by decide) s
  obtain ⟨huncor, heccu⟩ := stopEngine_keepsEcc x esEXCEPTION s
  rw [takeExc_running h]
  generalize w32 (cause * 0x1000000 + (s.engine x.val).pc) = v0
  generalize hcode : (if (s.engine x.val).safety = true then 0x08 else 0x66) = code
  obtain ⟨h0, h1, h2, h3⟩ := excRecord_words x code v0 (w32 addr) (w32 s.epoch)
    (Smap.get (fun _ => 0) (s.engine x.val).imem (s.engine x.val).pc) (stopEngine x.val esEXCEPTION s)
  obtain ⟨hexc, hbit, hraised⟩ := excRecord_fault (x := x) (v0 := v0) (v1 := w32 addr) (v2 := w32 s.epoch)
    (v3 := Smap.get (fun _ => 0) (s.engine x.val).imem (s.engine x.val).pc) (t := stopEngine x.val esEXCEPTION s)
    (code := code) (by rw [← hcode]; split <;> decide)
  refine ⟨⟨?_, h0, h1, h2, h3, hexc, ?_, ?_, ?_⟩, ?_, (hbit (R.ENG_PLFLT_ECCU (x.val / 32)) rfl (by simp [R.ENG_PLFLT_ECCU])).trans heccu⟩
  · rw [excRecord_engine, hstop]
  · rw [hcode]
    exact hraised
  · rw [excRecord_engine, hstop]
  · rw [excRecord_engine, hstop]
  · refine (State.fg_congr _ (excRecord_regs x code _ _ _ _ _ _ ?_)).trans huncor
    simp only [recordWords, R.ENG_PLECC_UNCOR, R.ENG_EXR_W0, R.ENG_EXR_W1, R.ENG_EXR_W2, R.ENG_EXR_W3, R.ENG_PLFLT, R.FLT_ISL, R.FLT_STAT,
      List.mem_cons, List.not_mem_nil, or_false]
    omega

/-- The watchdog that expires with the exception counts in MORE (R258). -/
theorem Takes.more {v0 v1 v3 : Word} (h : Takes x v0 v1 v3 s t) :
    Takes x (w32 (withBits v0.toNat 16 8 (clampU 8 (bitsOf v0.toNat 16 8 + 1)))) v1 v3 s (t.inc (R.ENG_EXR_W0_MORE x.val)) := by
  obtain ⟨hst, h0, h1, h2, h3, hexc, hraised, hg, hpc⟩ := h
  have hreg : ∀ a, a ≠ 0x084000 + 16 * x.val → (t.inc (R.ENG_EXR_W0_MORE x.val)).reg a = t.reg a := fun a ha => t.reg_fs_ne _ _ ha
  refine ⟨hst, ?_, (hreg _ (by simp only [R.ENG_EXR_W1]; omega)).trans h1, (hreg _ (by simp only [R.ENG_EXR_W2]; omega)).trans h2,
    (hreg _ (by simp only [R.ENG_EXR_W3]; omega)).trans h3, (State.fg_congr _ (hreg _ ?_)).trans hexc, ?_, hg, hpc⟩
  · rw [← h0]
    exact State.reg_setReg_same ..
  · simp only [R.ENG_PLFLT_EXC]
    omega
  · rw [Raised, hreg _ (by simp only [R.FLT_ISL]; omega)]
    exact hraised

theorem KeepsEcc.more (h : KeepsEcc x s t) : KeepsEcc x s (t.inc (R.ENG_EXR_W0_MORE x.val)) := by
  have hreg : ∀ a, a ≠ 0x084000 + 16 * x.val → (t.inc (R.ENG_EXR_W0_MORE x.val)).reg a = t.reg a := fun a ha => t.reg_fs_ne _ _ ha
  refine ⟨(State.fg_congr _ (hreg _ ?_)).trans h.1, (State.fg_congr _ (hreg _ ?_)).trans h.2⟩
  · simp only [R.ENG_PLECC_UNCOR]
    omega
  · simp only [R.ENG_PLFLT_ECCU]
    omega

/-- A synchronous cause (R256 to R258). -/
theorem takeSync_takes (h : (s.engine x.val).st = esRUNNING) :
    Takes x (exrWord cause (s.engine x.val).pc (wdogDue s (s.engine x.val))) (w32 addr)
        (Smap.get (fun _ => 0) (s.engine x.val).imem (s.engine x.val).pc) s (takeSync x.val cause addr s) ∧
      KeepsEcc x s (takeSync x.val cause addr s) := by
  obtain ⟨htakes, hecc⟩ := takeExc_takes (x := x) (cause := cause) (addr := addr) h
  rw [takeSync]
  by_cases hdue : wdogDue s (s.engine x.val) = true
  · rw [if_pos ⟨hdue, h⟩, hdue]
    exact ⟨htakes.more, hecc.more⟩
  · rw [if_neg fun hc => hdue hc.1, Bool.eq_false_iff.2 hdue]
    exact ⟨htakes, hecc⟩

/-- The same in a state in which the instruction has been counted. -/
theorem takeSync_counted (hengine : u.engine x.val = (s.engine x.val).counted) (hnow : u.now = s.now) (hissue : Issues x o w s) :
    Takes x (exrWord cause (s.engine x.val).pc (wdogDue s (s.engine x.val))) (w32 addr) (w32 w) s (takeSync x.val cause addr u) ∧
      KeepsEcc x u (takeSync x.val cause addr u) := by
  obtain ⟨hrun, -, -, hw, -⟩ := hissue
  have hdue : wdogDue u (s.engine x.val).counted = wdogDue s (s.engine x.val) := by
    rw [wdogDue, wdogDue, wdogCount, wdogCount, hnow]
    rfl
  have hword : Smap.get (fun _ => (0 : Word)) (s.engine x.val).imem (s.engine x.val).pc = w32 w := by
    rw [← hw, w32, BitVec.ofNat_toNat, BitVec.setWidth_eq]
  obtain ⟨⟨hst, h0, h1, h2, h3, hexc, hraised, hg, hpc⟩, hecc⟩ := takeSync_takes (s := u) (x := x) (cause := cause) (addr := addr)
    (by rw [hengine]; exact hrun)
  rw [hengine] at h0 h3 hraised hg hpc
  rw [hdue] at h0
  refine ⟨⟨hst, h0, h1, ?_, h3.trans hword, hexc, hraised, hg, hpc⟩, hecc⟩
  rw [h2, State.epoch, State.epoch, hnow]

/-- The state in which an instruction has been counted that read an uncorrectable word (R243). -/
def uncorrected (x : Fin 1024) (s : State) : State :=
  ((countedIn x.val s).inc (R.ENG_PLECC_UNCOR (x.val / 32))).fs (R.ENG_PLFLT_ECCU (x.val / 32)) 1

theorem uncorrected_engine (x : Fin 1024) (s : State) : (uncorrected x s).engine x.val = (s.engine x.val).counted :=
  s.engine_setEngine_same x.val (s.engine x.val).counted

theorem uncorrected_ecc (x : Fin 1024) (s : State) :
    (uncorrected x s).fg (R.ENG_PLECC_UNCOR (x.val / 32)) = min 65535 (s.fg (R.ENG_PLECC_UNCOR (x.val / 32)) + 1) ∧
      (uncorrected x s).fg (R.ENG_PLFLT_ECCU (x.val / 32)) = 1 := by
  refine ⟨?_, (State.fg_fs_same _ _ _ (by simp [R.ENG_PLFLT_ECCU])).trans rfl⟩
  rw [uncorrected, State.fg_fs_ne _ (R.ENG_PLFLT_ECCU _) (R.ENG_PLECC_UNCOR _) _ (by simp only [R.ENG_PLFLT_ECCU, R.ENG_PLECC_UNCOR]; omega),
    State.fg_inc _ _ (by simp [R.ENG_PLECC_UNCOR]), Nat.min_comm]
  rfl

/-- An instruction that raises a cause that comes before MEMORY takes it, whatever the memory code finds (R258). -/
theorem Does.excepts {f : Nat → Eng → State → EStep} (hexec : exec c s = run (issue x.val o ecc.val f) s) (hissue : Issues x o w s)
    (hcause : cause ≤ xcACCESS) (hrule : ∀ u, f w (s.engine x.val).counted u = .exc cause addr) :
    Does c s (Takes x (exrWord cause (s.engine x.val).pc (wdogDue s (s.engine x.val))) (w32 addr) (w32 w) s) := by
  refine .of_rule hexec (fun t ht => ht) ?_
  rw [issue_eq f hissue, hrule, hrule, memoryExc, memoryExc]
  simp only [if_pos hcause, finish]
  have hmemory := (takeSync_counted (cause := cause) (addr := addr) (uncorrected_engine x s) rfl hissue).1
  split
  · exact hmemory
  · split
    · exact hmemory
    · exact (takeSync_counted (u := issued x ecc s) (issued_engine ..) (issued_now ..) hissue).1

/-! ## Loads (R240, R258) -/

theorem engLoad_exc {f : Nat → Word} {e : Eng} (h : accessExc (dataAddr w e) k = some cause) (y : Nat) (u : State) :
    engLoad k f y w e u = .exc cause (dataAddr w e) := by
  simp only [engLoad, h]

/-- An access that is misaligned or outside memory. -/
theorem Does.load_excepts {f : Nat → Word} (hexec : exec c s = run (issue x.val o ecc.val (engLoad k f x.val)) s)
    (hissue : Issues x o w s) (hexc : accessExc (dataAddr w (s.engine x.val)) k = some cause) :
    Does c s (Takes x (exrWord cause (s.engine x.val).pc (wdogDue s (s.engine x.val))) (w32 (dataAddr w (s.engine x.val))) (w32 w) s) := by
  refine .excepts hexec hissue ?_ (engLoad_exc (e := (s.engine x.val).counted) hexc x.val)
  have hcause : ∀ a, accessExc a k = some cause → cause ≤ xcACCESS := fun a ha => by
    rw [accessExc] at ha
    split at ha
    · obtain rfl := Option.some.inj ha
      decide
    · split at ha
      · contradiction
      · obtain rfl := Option.some.inj ha
        decide
  exact hcause _ hexc

/-- A load whose access is good takes MEMORY for an uncorrectable word (R243). -/
theorem Does.load_memory {f : Nat → Word} (hexec : exec c s = run (issue x.val o ecc.val (engLoad k f x.val)) s) (hload : isLoad o = true)
    (hecc : 2 ≤ ecc.val) (hissue : Issues x o w s) (hnone : accessExc (dataAddr w (s.engine x.val)) k = none) :
    Does c s fun t =>
      Takes x (exrWord 4 (s.engine x.val).pc (wdogDue s (s.engine x.val))) (if ecc = 3 then w32 (dataAddr w (s.engine x.val)) else 0)
          (w32 w) s t ∧
        t.fg (R.ENG_PLECC_UNCOR (x.val / 32)) = min 65535 (s.fg (R.ENG_PLECC_UNCOR (x.val / 32)) + 1) ∧
        t.fg (R.ENG_PLFLT_ECCU (x.val / 32)) = 1 := by
  have hrule : ∀ u, engLoad k f x.val w (s.engine x.val).counted u = pureEng x.val u ((s.engine x.val).counted.setGr (iD w)
      (f (engRead u x.val (dataAddr w (s.engine x.val)) k))) := fun u => by
    rw [engLoad, dataAddr_counted, hnone]
  have hmemory : ∀ a r u, memoryExc x.val a (pureEng x.val u r) (countedIn x.val s) = takeSync x.val 4 a (uncorrected x s) :=
    fun _ _ _ => rfl
  obtain ⟨huncor, heccu⟩ := uncorrected_ecc x s
  refine .of_rule hexec (fun t ht => ht) ?_
  rw [issue_eq _ hissue, hrule, hrule, hmemory, hmemory]
  by_cases h3 : ecc = 3
  · subst h3
    obtain ⟨htakes, hkeeps⟩ := takeSync_counted (cause := 4) (addr := dataAddr w (s.engine x.val)) (uncorrected_engine x s) rfl hissue
    rw [if_pos rfl, if_neg (by decide), if_pos ⟨rfl, hload⟩]
    exact ⟨htakes, hkeeps.1.trans huncor, hkeeps.2.trans heccu⟩
  · have h2 : ecc.val = 2 := by
      have h3' : ecc.val ≠ 3 := fun h => h3 (Fin.ext h)
      omega
    obtain ⟨htakes, hkeeps⟩ := takeSync_counted (cause := 4) (addr := 0) (uncorrected_engine x s) rfl hissue
    rw [if_neg h3, if_pos h2]
    exact ⟨htakes, hkeeps.1.trans huncor, hkeeps.2.trans heccu⟩

/-- The rows of the loads (R240). -/
theorem load_rows (h : (o, k, c) ∈ [(0x30, 4, .engLdw x ecc), (0x31, 2, .engLdh x ecc), (0x32, 2, .engLdhu x ecc), (0x33, 1, .engLdb x ecc),
    (0x34, 1, .engLdbu x ecc)]) :
    isLoad o = true ∧ ∃ f, exec c s = run (issue x.val o ecc.val (engLoad k f x.val)) s := by
  simp only [List.mem_cons, Prod.mk.injEq, List.not_mem_nil, or_false] at h
  obtain ⟨rfl, rfl, rfl⟩ | ⟨rfl, rfl, rfl⟩ | ⟨rfl, rfl, rfl⟩ | ⟨rfl, rfl, rfl⟩ | ⟨rfl, rfl, rfl⟩ := h
  all_goals exact ⟨rfl, _, rfl⟩

/-- Settles O60: ILLEGAL, MISALIGN, ACCESS and MEMORY, with the watchdog that expires at the same time. -/
theorem engineInstructionsTakeExceptions : Obligations.EngineInstructionsTakeExceptions := by
  refine ⟨?illegal, ?misalign, ?access, ?memory⟩
  case illegal =>
    intro x e w o c s hrow hissue hX
    obtain ⟨f, hexec⟩ : ∃ f, exec c s = run (issue x.val o e.val (rr3 f x.val)) s := by
      simp only [List.mem_cons, Prod.mk.injEq, List.not_mem_nil, or_false] at hrow
      rcases hrow with h | h | h | h | h | h | h | h | h | h | h | h | h | h | h | h | h | h | h | h | h
      all_goals
        obtain ⟨rfl, rfl⟩ := h
        exact ⟨_, rfl⟩
    exact Does.excepts (cause := 1) (addr := 0) hexec hissue (by decide) fun u => if_pos hX
  case misalign =>
    intro x e w k a o c s hrow hissue ha halign
    subst ha
    obtain ⟨-, f, hexec⟩ := load_rows hrow
    exact Does.load_excepts hexec hissue (if_pos halign)
  case access =>
    intro x e w k a o c s hrow hissue ha halign hlow hshared
    subst ha
    obtain ⟨-, f, hexec⟩ := load_rows hrow
    refine Does.load_excepts hexec hissue ((if_neg (not_not.2 halign)).trans (if_neg ?_))
    rw [hshared]
    simpa using hlow
  case memory =>
    intro x e w k a o c s hrow hecc hissue ha halign hmem
    subst ha
    obtain ⟨hload, f, hexec⟩ := load_rows hrow
    obtain ⟨t, ht, ⟨hst, h0, h1, h2, h3, hexc, hraised, hg, hpc⟩, huncor, heccu⟩ :=
      Does.load_memory hexec hload hecc hissue (accessExc_none halign hmem)
    exact ⟨t, ht, hst, h0, h1, h2, h3, hexc, hraised, hg, hpc, huncor, heccu⟩

end Sys2Proof.Machine

/-! # Waiting, stopping, DMA descriptors and the end of a stall (R235, R236, R241, R249, R255) -/

namespace Sys2Proof.Machine

variable {c : Instr} {x : Fin 1024} {ecc : Fin 4} {o w k p y a : Nat} {b : List Byte} {s t u : State}

/-! ## Writes of shared memory (R242) -/

/-- The posted stores of an engine without those to `n` bytes from `a`. -/
def Eng.unpost (a n : Nat) (e : Eng) : Eng := { e with posted := e.posted.filter fun c => !decide (a ≤ c.1 ∧ c.1 < a + n) }

/-- Removes from one engine the posted stores to `n` bytes from `a`. -/
def unpostIn (a n : Nat) (t : State) (z : Nat) : State :=
  if (t.engine z).posted.any fun c => decide (a ≤ c.1 ∧ c.1 < a + n) then t.setEngine z (Eng.unpost a n (t.engine z)) else t

theorem unpostIn_engine (a n z : Nat) (t : State) (y : Nat) :
    (unpostIn a n t z).engine y = if y = z then Eng.unpost a n (t.engine y) else t.engine y := by
  unfold unpostIn
  split
  · exact setEngine_engine z (Eng.unpost a n) t y
  · next hany =>
    split
    · next hy =>
      subst hy
      have hall : ∀ c ∈ (t.engine y).posted, (!decide (a ≤ c.1 ∧ c.1 < a + n)) = true := fun c hc => by
        simp only [List.any_eq_true, not_exists, not_and, Bool.not_eq_true] at hany
        rw [hany c hc]
        rfl
      rw [Eng.unpost, List.filter_eq_self.2 hall]
    · rfl

theorem writeShared_eq (p a : Nat) (b : List Byte) (s : State) :
    writeShared p a b s =
      (engines p).foldl (unpostIn a b.length) (s.setPlot p { s.plot p with mem := memWrite (s.plot p).mem a b }) := rfl

theorem writeShared_engine (p a : Nat) (b : List Byte) (s : State) (y : Nat) :
    (writeShared p a b s).engine y = if y / 32 = p then (s.engine y).unpost a b.length else s.engine y := by
  rw [writeShared_eq, foldl_engine (I := fun _ => True) (f := fun _ => Eng.unpost a b.length) (engines_nodup p)
    (fun t _ z _ => ⟨trivial, unpostIn_engine a b.length z t⟩) trivial y]
  simp only [mem_engines]
  rfl

/-- A write of shared memory changes the plot's memory and the posted stores of its engines. -/
theorem writeShared_frame (p a : Nat) (b : List Byte) (s : State) :
    ∃ e, writeShared p a b s = { s.setPlot p { s.plot p with mem := memWrite (s.plot p).mem a b } with
      arr := { (s.setPlot p { s.plot p with mem := memWrite (s.plot p).mem a b }).arr with engs := e } } := by
  rw [writeShared_eq]
  generalize s.setPlot p { s.plot p with mem := memWrite (s.plot p).mem a b } = u
  refine List.foldlRecOn (motive := fun t : State => ∃ e, t = { u with arr := { u.arr with engs := e } }) _ _ ⟨_, rfl⟩
    fun t ht z _ => ?_
  obtain ⟨e, rfl⟩ := ht
  unfold unpostIn
  split
  · exact ⟨_, rfl⟩
  · exact ⟨_, rfl⟩

theorem writeShared_plot (p a : Nat) (b : List Byte) (s : State) (q : Nat) :
    (writeShared p a b s).plot q = if q = p then { s.plot p with mem := memWrite (s.plot p).mem a b } else s.plot q := by
  obtain ⟨e, h⟩ := writeShared_frame p a b s
  rw [h]
  exact s.plot_setPlot p q _

/-- The word that a write of four bytes leaves. -/
theorem leNat_memBytes_write (m : List (Nat × Byte)) (a n : Nat) (h : n < 2 ^ 32) :
    leNat (memBytes (memWrite m a (leBytes 4 n)) a 4) = n := by
  have hbytes := memBytes_memWrite m a (leBytes 4 n)
  rw [length_leBytes] at hbytes
  rw [hbytes, leNat_leBytes, Nat.mod_eq_of_lt (by omega)]

/-! ## DMAQ (R249) -/

theorem issued_variant (x : Fin 1024) (ecc : Fin 4) (s : State) : (issued x ecc s).variant = s.variant := by
  rw [issued, eccDone_frame]
  rfl

theorem issued_capFit (x : Fin 1024) (ecc : Fin 4) (s : State) : (issued x ecc s).capFit = s.capFit := by
  rw [State.capFit, State.capFit, issued_variant]

theorem issued_plot (x : Fin 1024) (ecc : Fin 4) (s : State) (p : Nat) : (issued x ecc s).plot p = s.plot p := by
  rw [State.plot, State.plot, issued_plots]

theorem engDmaq_fit (hX : iX w = 0) (hB : iB w = 0) (halign : (s.ga x w).toNat % 16 = 0) (hshared : isShared (s.ga x w).toNat = true)
    (hfit : s.capFit = true) :
    engDmaq x.val w (s.engine x.val).counted (issued x ecc s) =
      if 16 ≤ (s.plot (x.val / 32)).dma.length then pureEng x.val (issued x ecc s) ((s.engine x.val).counted.setGr (iD w) 1)
      else .done (dmaCount (x.val / 32) (((issued x ecc s).setEngine x.val ((s.engine x.val).counted.setGr (iD w) 0)).setPlot (x.val / 32)
        { s.plot (x.val / 32) with dma := (s.plot (x.val / 32)).dma ++ [{ eng := x.val, adr := (s.ga x w).toNat }] })) := by
  have hga : (s.engine x.val).counted.gr (iA w) = s.ga x w := rfl
  simp only [engDmaq, hga, issued_capFit, issued_plot, hX, hB, halign, hshared, hfit, ne_eq, not_true_eq_false, or_self, if_false,
    Bool.not_true, Bool.false_eq_true]

theorem dmaCount_plot (p q : Nat) (s : State) : (dmaCount p s).plot q = s.plot q := rfl

theorem dmaCount_engine (p y : Nat) (s : State) : (dmaCount p s).engine y = s.engine y := rfl

theorem dmaCount_queued {p : Nat} {s : State} (h : (s.plot p).dma.length < 32) :
    (dmaCount p s).fg (R.ENG_PLDMA_QUEUED p) = (s.plot p).dma.length := by
  rw [dmaCount, State.fg_fs_same _ _ _ (by simp [R.ENG_PLDMA_QUEUED])]
  exact Nat.mod_eq_of_lt h

theorem dmaCount_regs (p : Nat) (s : State) : SameRegs [R.ENG_PLDMA p] s (dmaCount p s) :=
  s.fs_sameRegs (R.ENG_PLDMA_QUEUED p) _ (List.mem_singleton.2 rfl)

/-- A DMAQ that finds room in the queue. -/
theorem Does.queues (hword : ecc ≠ 2) (hissue : Issues x 0x72 w s) (hX : iX w = 0) (hB : iB w = 0)
    (halign : (s.ga x w).toNat % 16 = 0) (hshared : isShared (s.ga x w).toNat = true) (hfit : s.capFit = true)
    (hroom : (s.plot (x.val / 32)).dma.length < 16) :
    Does (.engDmaq x ecc) s fun t =>
      (t.plot (x.val / 32)).dma = (s.plot (x.val / 32)).dma ++ [{ eng := x.val, adr := (s.ga x w).toNat }] ∧
        t.engine x.val = ((s.engine x.val).setGr (iD w) 0).counted.seq (s.engine x.val).pc ∧
        t.fg (R.ENG_PLDMA_QUEUED (x.val / 32)) = (s.plot (x.val / 32)).dma.length + 1 ∧
        SameRegs [R.ENG_PLDMA (x.val / 32), R.ENG_PLECC (x.val / 32)] s t := by
  refine .issues rfl hissue hword (by simp [isLoad]) (fun t ht => ht) ?_
  rw [engDmaq_fit hX hB halign hshared hfit, if_neg (Nat.not_le.2 hroom)]
  generalize hplot : ({ s.plot (x.val / 32) with dma := (s.plot (x.val / 32)).dma ++ [{ eng := x.val, adr := (s.ga x w).toNat }] } : Plot) = v
  have hlen : v.dma.length = (s.plot (x.val / 32)).dma.length + 1 := by
    rw [← hplot]
    exact List.length_append ..
  generalize hu : ((issued x ecc s).setEngine x.val ((s.engine x.val).counted.setGr (iD w) 0)).setPlot (x.val / 32) v = u
  have hqueue : u.plot (x.val / 32) = v := by
    rw [← hu]
    exact State.plot_setPlot_same ..
  have hengine : (dmaCount (x.val / 32) u).engine x.val = (s.engine x.val).counted.setGr (iD w) 0 := by
    rw [dmaCount_engine, ← hu]
    exact State.engine_setEngine_same ..
  have hregs : SameRegs [R.ENG_PLECC (x.val / 32)] s u := by
    rw [← hu]
    exact issued_sameRegs x ecc s
  have hcount := dmaCount_queued (p := x.val / 32) (s := u) (by rw [hqueue, hlen]; omega)
  rw [finish, hengine]
  refine ⟨?_, State.engine_setEngine_same .., ?_, ?_⟩
  · refine (congrArg Plot.dma (dmaCount_plot _ _ u)).trans ?_
    rw [hqueue, ← hplot]
  · refine hcount.trans ?_
    rw [hqueue, hlen]
  · exact (hregs.mono fun a ha => List.mem_cons_of_mem _ ha).trans
      ((dmaCount_regs _ u).mono fun a ha => by simpa using .inl (List.mem_singleton.1 ha))

/-- A DMAQ of a station without capture memory (R249). -/
theorem Does.queues_absent (hword : ecc ≠ 2) (hissue : Issues x 0x72 w s) (hX : iX w = 0) (hB : iB w = 0)
    (halign : (s.ga x w).toNat % 16 = 0) (hshared : isShared (s.ga x w).toNat = true) (hfit : s.capFit = false) :
    Does (.engDmaq x ecc) s fun t => (t.engine x.val).dmaExc = some (s.ga x w).toNat ∧ (t.engine x.val).gr (iD w) = 0 ∧
      leNat (memBytes (t.plot (x.val / 32)).mem ((s.ga x w).toNat + 12) 4) = 0x82000000 ∧ t.fg (R.ENG_PLFLT_DMAE (x.val / 32)) = 1 := by
  refine .issues rfl hissue hword (by simp [isLoad]) (fun t ht => ht) ?_
  have hga : (s.engine x.val).counted.gr (iA w) = s.ga x w := rfl
  simp only [engDmaq, hga, issued_capFit, hX, hB, halign, hshared, hfit, ne_eq, not_true_eq_false, or_self, if_false, Bool.not_true,
    Bool.false_eq_true, Bool.not_false, if_true, finish]
  have hdone : leNat (memBytes ((writeShared (x.val / 32) ((s.ga x w).toNat + 12) (leBytes 4 (2 ^ 31 + 2 * 2 ^ 24))
      (issued x ecc s)).plot (x.val / 32)).mem ((s.ga x w).toNat + 12) 4) = 0x82000000 := by
    rw [writeShared_plot, if_pos rfl]
    exact leNat_memBytes_write _ _ (2 ^ 31 + 2 * 2 ^ 24) (by decide)
  generalize writeShared (x.val / 32) ((s.ga x w).toNat + 12) (leBytes 4 (2 ^ 31 + 2 * 2 ^ 24)) (issued x ecc s) = u at hdone ⊢
  have hbit : ((u.inc (R.ENG_PLDMA_ERR (x.val / 32))).fs (R.ENG_PLFLT_DMAE (x.val / 32)) 1).fg (R.ENG_PLFLT_DMAE (x.val / 32)) = 1 :=
    (State.fg_fs_same _ _ _ (by simp [R.ENG_PLFLT_DMAE])).trans rfl
  have hmem : (((u.inc (R.ENG_PLDMA_ERR (x.val / 32))).fs (R.ENG_PLFLT_DMAE (x.val / 32)) 1).plot (x.val / 32)).mem =
    (u.plot (x.val / 32)).mem := rfl
  generalize (u.inc (R.ENG_PLDMA_ERR (x.val / 32))).fs (R.ENG_PLFLT_DMAE (x.val / 32)) 1 = v at hbit hmem ⊢
  rw [← hmem] at hdone
  rw [State.engine_setEngine_same, State.engine_setEngine_same]
  exact ⟨rfl, (v.engine x.val).gr_setGr_same (iD w) 0, hdone, hbit⟩

end Sys2Proof.Machine

/-! # O23: waiting and stopping -/

namespace Sys2Proof.Machine

variable {c : Instr} {x : Fin 1024} {ecc : Fin 4} {e : Eng} {o w n y : Nat} {s t u : State}

theorem bare_eq {r : EStep} (hD : iD w = 0) (hA : iA w = 0) (hB : iB w = 0) (hX : iX w = 0) : bare w r = r := if_neg (by omega)

/-- What a row does whose rule ends in a stall other than that of BAR. -/
theorem Does.stallsIn {f : Nat → Eng → State → EStep} (hexec : exec c s = run (issue x.val o ecc.val f) s)
    (hload : isLoad o = false) (hn : n ≠ 4) (hword : ecc ≠ 2) (hissue : Issues x o w s)
    (hrule : f w (s.engine x.val).counted (issued x ecc s) = .stall ((issued x ecc s).setEngine x.val (s.engine x.val).counted) n) :
    Does c s fun t => t.engine x.val = { (s.engine x.val).counted with stall := n, wake := false } ∧
      t = { eccDone x ecc s with arr := { s.arr with engs := t.arr.engs } } := by
  obtain ⟨t, ht, hengine, -, hframe⟩ := Does.leaves hexec hissue hword (by simp [hload])
    (hrule ▸ ((Leaves.issued x ecc s).setEngine _).stall hn)
  exact ⟨t, ht, hengine, hframe⟩

/-! ## BAR (R235) -/

theorem mem_liveMates {x y : Nat} : y ∈ liveMates x s ↔
    y / 32 = x / 32 ∧ (s.engine y).inst = (s.engine x).inst ∧ (s.engine y).key ≠ 0 ∧ (s.engine y).st = esRUNNING := by
  simp only [liveMates, List.mem_filter, mem_engines, Bool.and_eq_true, beq_iff_eq, bne_iff_ne, and_assoc]

/-- The state in which engine `x` has reached a BAR. -/
def atBar (x : Fin 1024) (ecc : Fin 4) (s : State) : State :=
  ((issued x ecc s).setEngine x.val (s.engine x.val).counted).setEngine x.val { (s.engine x.val).counted with stall := 4, wake := false }

theorem atBar_leaves (x : Fin 1024) (ecc : Fin 4) (s : State) :
    Leaves x ecc { (s.engine x.val).counted with stall := 4, wake := false } s (atBar x ecc s) :=
  ((Leaves.issued x ecc s).setEngine _).setEngine _

theorem atBar_engine (x : Fin 1024) (ecc : Fin 4) (s : State) (y : Nat) :
    (atBar x ecc s).engine y =
      if y = x.val then { (s.engine x.val).counted with stall := 4, wake := false } else s.engine y := by
  obtain ⟨hengine, hothers, -⟩ := atBar_leaves x ecc s
  split
  · next h =>
    subst h
    exact hengine
  · next h => exact hothers y h

theorem finish_bar (x : Fin 1024) (ecc : Fin 4) (s u : State) (hD : iD w = 0) (hA : iA w = 0) (hB : iB w = 0) (hX : iX w = 0) :
    finish x.val u (engBar x.val w (s.engine x.val).counted (issued x ecc s)) = barrierCheck x.val (atBar x ecc s) := by
  rw [engBar, bare_eq hD hA hB hX, finish, State.engine_setEngine_same]
  rfl

theorem atBar_instance (x : Fin 1024) (ecc : Fin 4) (s : State) (y : Nat) :
    ((atBar x ecc s).engine y).inst = (s.engine y).inst ∧ ((atBar x ecc s).engine y).key = (s.engine y).key ∧
      ((atBar x ecc s).engine y).st = (s.engine y).st := by
  rw [atBar_engine]
  split
  · next h =>
    subst h
    exact ⟨rfl, rfl, rfl⟩
  · exact ⟨rfl, rfl, rfl⟩

theorem mem_liveMates_atBar {y : Nat} : y ∈ liveMates x.val (atBar x ecc s) ↔
    y / 32 = x.val / 32 ∧ (s.engine y).inst = (s.engine x.val).inst ∧ (s.engine y).key ≠ 0 ∧ (s.engine y).st = esRUNNING := by
  obtain ⟨hinst, hkey, hst⟩ := atBar_instance x ecc s y
  rw [mem_liveMates, hinst, hkey, hst, (atBar_instance x ecc s x.val).1]

/-- A BAR waits while another running engine of the instance has not reached it. -/
theorem Does.bar_waits (hword : ecc ≠ 2) (hissue : Issues x 0x74 w s) (hD : iD w = 0) (hA : iA w = 0) (hB : iB w = 0) (hX : iX w = 0)
    (hy : y ≠ x.val) (hplot : y / 32 = x.val / 32) (hinst : (s.engine y).inst = (s.engine x.val).inst) (hkey : (s.engine y).key ≠ 0)
    (hrun : (s.engine y).st = esRUNNING) (hstall : (s.engine y).stall ≠ 4) :
    Does (.engBar x ecc) s (Leaves x ecc { (s.engine x.val).counted with stall := 4, wake := false } s) := by
  refine .leaves rfl hissue hword (by simp [isLoad]) ?_
  rw [finish_bar x ecc s _ hD hA hB hX, barrierCheck_waits ⟨y, mem_liveMates_atBar.2 ⟨hplot, hinst, hkey, hrun⟩, ?_⟩]
  · exact atBar_leaves x ecc s
  · rw [atBar_engine, if_neg hy]
    exact hstall

theorem mem_mates : y ∈ s.mates x ↔
    y / 32 = x.val / 32 ∧ (s.engine y).inst = (s.engine x.val).inst ∧ (s.engine y).key ≠ 0 := by
  simp only [State.mates, List.mem_filter, mem_engines, Bool.and_eq_true, beq_iff_eq, bne_iff_ne]

/-- The last BAR of an instance completes it for every engine there. -/
theorem bar_completes (hrun : (s.engine x.val).st = esRUNNING) (hkey : (s.engine x.val).key ≠ 0)
    (hmates : ∀ y ∈ s.mates x, y ≠ x.val → (s.engine y).st = esRUNNING ∧ (s.engine y).stall = 4) :
    ((barrierCheck x.val (atBar x ecc s)).engine x.val).barx = false ∧
      ∀ y ∈ s.mates x, ((barrierCheck x.val (atBar x ecc s)).engine y).stall = 6 := by
  have hrunning : ∀ y ∈ s.mates x, (s.engine y).st = esRUNNING := fun y hy => by
    by_cases h : y = x.val
    · rw [h]
      exact hrun
    · exact (hmates y hy h).1
  have hlive : ∀ y, y ∈ liveMates x.val (atBar x ecc s) ↔ y ∈ s.mates x := fun y => by
    rw [mem_liveMates_atBar, mem_mates]
    exact ⟨fun ⟨h, hi, hk, _⟩ => ⟨h, hi, hk⟩, fun h => ⟨h.1, h.2.1, h.2.2, hrunning y (mem_mates.2 h)⟩⟩
  have hx : x.val ∈ s.mates x := mem_mates.2 ⟨rfl, rfl, hkey⟩
  have hwait : ∀ y ∈ liveMates x.val (atBar x ecc s), ((atBar x ecc s).engine y).stall = 4 := fun y hy => by
    rw [atBar_engine]
    split
    · rfl
    · next h => exact (hmates y ((hlive y).1 hy) h).2
  have hall : liveMates x.val (atBar x ecc s) = (engines (x.val / 32)).filter fun y =>
      ((atBar x ecc s).engine y).inst == ((atBar x ecc s).engine x.val).inst && ((atBar x ecc s).engine y).key != 0 := by
    refine List.filter_eq_self.2 fun y hy => ?_
    obtain ⟨hi, hk, hst⟩ := atBar_instance x ecc s y
    rw [List.mem_filter, hi, hk, (atBar_instance x ecc s x.val).1] at hy
    rw [hst, hrunning y (List.mem_filter.2 hy)]
    rfl
  rw [barrierCheck_completes (List.ne_nil_of_mem ((hlive _).2 hx)) hwait, ← hall]
  refine ⟨?_, fun y hy => ?_⟩
  · rw [foldl_barDone, if_pos ((hlive _).2 hx)]
    exact bne_self_eq_false _
  · rw [foldl_barDone, if_pos ((hlive _).2 hy)]
    rfl

/-! ## FENCE, HALT and BRK (R241, R250, R254) -/

/-- The engine goes on once its stores are visible to its plot (R242). -/
theorem drained_goes (x : Fin 1024) (s : State) :
    ((drainPosted x.val s).setEngine x.val (((drainPosted x.val s).engine x.val).seq (s.engine x.val).pc)).engine x.val =
        ({ s.engine x.val with posted := [], buf := 0 } : Eng).seq (s.engine x.val).pc ∧
      ∀ a, 0x4000 ≤ a → Smap.get zeroByte (((drainPosted x.val s).setEngine x.val
        (((drainPosted x.val s).engine x.val).seq (s.engine x.val).pc)).plot (x.val / 32)).mem a = engByte s x.val a := by
  refine ⟨?_, fun a ha => drainPosted_mem x.val s ha⟩
  rw [State.engine_setEngine_same, drainPosted_engine]

theorem issued_hasDesc : hasDesc (issued x ecc s) x.val = hasDesc s x.val := by
  rw [hasDesc, hasDesc, issued_plot]

theorem Does.fence (hword : ecc ≠ 2) (hissue : Issues x 0x75 w s) (hD : iD w = 0) (hA : iA w = 0) (hB : iB w = 0) (hX : iX w = 0)
    (hdesc : hasDesc s x.val = false) :
    Does (.engFence x ecc) s fun t =>
      t.engine x.val = ({ s.engine x.val with posted := [], buf := 0 } : Eng).counted.seq (s.engine x.val).pc ∧
        ∀ a, 0x4000 ≤ a → Smap.get zeroByte (t.plot (x.val / 32)).mem a = engByte s x.val a := by
  refine .issues rfl hissue hword (by simp [isLoad]) (fun t ht => ht) ?_
  rw [engFence, bare_eq hD hA hB hX, issued_hasDesc, hdesc, if_neg Bool.false_ne_true]
  have hleaves := (Leaves.issued x ecc s).setEngine (s.engine x.val).counted
  generalize (issued x ecc s).setEngine x.val (s.engine x.val).counted = u at hleaves ⊢
  have hplots : u.arr.plots = s.arr.plots := (congrArg (fun v : State => v.arr.plots) hleaves.frame).trans rfl
  have hbyte : ∀ a, engByte u x.val a = engByte s x.val a :=
    engByte_congr (by rw [hleaves.engine]; rfl) (by rw [hleaves.engine]; rfl) hplots
  obtain ⟨hengine, hmem⟩ := drained_goes x u
  rw [hleaves.engine] at hengine hmem
  rw [finish, drainPosted_engine, hleaves.engine]
  rw [drainPosted_engine, hleaves.engine] at hengine hmem
  exact ⟨hengine, fun a ha => (hmem a ha).trans (hbyte a)⟩

theorem Does.halt (hword : ecc ≠ 2) (hissue : Issues x 0x77 w s) (hD : iD w = 0) (hA : iA w = 0) (hB : iB w = 0) (hX : iX w = 0) :
    Does (.engHalt x ecc) s fun t => (t.engine x.val).st = esHALTED ∧
      (t.engine x.val).pc = ((s.engine x.val).seq (s.engine x.val).pc).pc ∧ (t.engine x.val).g = (s.engine x.val).g ∧
      (t.engine x.val).isOpen = false ∧ (t.engine x.val).posted = [] := by
  refine .issues rfl hissue hword (by simp [isLoad]) (fun t ht => ht) ?_
  rw [engHalt, bare_eq hD hA hB hX, finish, State.engine_setEngine_same]
  obtain ⟨o, n, i, hstop⟩ := stopEngine_engine x.val (st := esHALTED) (by decide)
    (((issued x ecc s).setEngine x.val (s.engine x.val).counted).setEngine x.val ((s.engine x.val).counted.seq (s.engine x.val).counted.pc))
  rw [State.engine_setEngine_same] at hstop
  rw [hstop]
  exact ⟨rfl, rfl, rfl, rfl, rfl⟩

theorem withBits_more {cause pc : Nat} (hpc : pc < 1024) :
    withBits (cause * 0x1000000 + pc) 16 8 1 = cause * 0x1000000 + 0x10000 + pc := by
  have hcause : (cause * 0x1000000 + pc) / 2 ^ 24 = cause := by omega
  have hlow : (cause * 0x1000000 + pc) % 2 ^ 16 = pc := by omega
  rw [withBits, Nat.shiftRight_eq_div_pow, hcause, hlow, Nat.shiftLeft_eq, Nat.shiftLeft_eq, Nat.mul_comm cause,
    ← Nat.two_pow_add_eq_or_of_lt (by decide : 1 % 2 ^ 8 * 2 ^ 16 < 2 ^ (16 + 8)),
    show 2 ^ (16 + 8) * cause + 1 % 2 ^ 8 * 2 ^ 16 = 2 ^ 16 * (256 * cause + 1) by omega,
    ← Nat.two_pow_add_eq_or_of_lt (by omega : pc < 2 ^ 16)]
  omega

/-- The record's first word when at most the watchdog has expired with the exception. -/
theorem exrWord_eq {cause pc : Nat} (hcause : cause < 256) (hpc : pc < 1024) (more : Bool) :
    exrWord cause pc more = w32 (cause * 0x1000000 + (if more = true then 0x10000 else 0) + pc) := by
  cases more
  · rw [exrWord, if_neg Bool.false_ne_true, if_neg Bool.false_ne_true, Nat.add_zero]
  · have hbits : bitsOf (cause * 0x1000000 + pc) 16 8 = 0 := by
      rw [bitsOf, Nat.shiftRight_eq_div_pow]
      omega
    have hnum : (w32 (cause * 0x1000000 + pc)).toNat = cause * 0x1000000 + pc := w32_toNat (by omega)
    rw [exrWord, if_pos rfl, if_pos rfl, hnum, hbits, show clampU 8 (0 + 1) = 1 from rfl, withBits_more hpc]

/-! ## The end of a stall (R236) and the watchdog (R255) -/

/-- A row that changes one engine alone. -/
theorem Does.setsEngine {f : State → State} (hexec : exec c s = run f s) (hf : f s = s.setEngine x.val e) :
    Does c s fun t => t.engine x.val = e ∧ SameBut (fun _ => ({} : Eng)) x.val s.arr.engs t.arr.engs ∧
      t = { s with arr := { s.arr with engs := t.arr.engs } } := by
  refine .of_run hexec ?_
  rw [hf]
  exact ⟨State.engine_setEngine_same .., fun y hy => State.engine_setEngine_ne s e hy, rfl⟩

/-- BRK. -/
theorem Does.brk (hissue : Issues x 0x78 w s) (hword : ecc ≠ 2) (hD : iD w = 0) (hA : iA w = 0) (hB : iB w = 0) (hX : iX w = 0) :
    Does (.engBrk x ecc) s (Takes x (exrWord 8 (s.engine x.val).pc (wdogDue s (s.engine x.val))) (w32 0) (w32 w) s) := by
  refine .issues rfl hissue hword (by simp [isLoad]) (fun t ht => ht) ?_
  rw [engBrk, bare_eq hD hA hB hX]
  exact (takeSync_counted (u := issued x ecc s) (issued_engine ..) (issued_now ..) hissue).1

theorem boundary_keeps (e : Eng) : e.boundary.st = e.st ∧ e.boundary.safety = e.safety := by
  unfold Eng.boundary
  split
  · exact ⟨rfl, rfl⟩
  · split
    · exact ⟨rfl, rfl⟩
    · exact ⟨rfl, rfl⟩

theorem takeAsync_running {cause addr : Nat} (h : (s.engine x.val).st = esRUNNING) :
    takeAsync x.val cause addr s = takeExc x.val cause addr (s.setEngine x.val (s.engine x.val).boundary) :=
  congrArg (takeExc x.val cause addr) (if_pos h)

/-- The watchdog's exception is taken at the boundary (R255, R256). -/
theorem Does.watchdog (hrun : (s.engine x.val).st = esRUNNING) (hdue : wdogDue s (s.engine x.val) = true) :
    Does (.engineWatchdog x) s fun t => (t.engine x.val).st = esEXCEPTION ∧ (t.engine x.val).pc = (s.engine x.val).boundary.pc ∧
      t.reg (R.ENG_EXR_W0 x.val) = w32 (7 * 0x1000000 + (s.engine x.val).boundary.pc) ∧ t.fg (R.ENG_PLFLT_EXC (x.val / 32)) = 1 ∧
      Raised (if (s.engine x.val).safety then 0x08 else 0x66) (x.val / 32) t := by
  obtain ⟨hst, hsafety⟩ := boundary_keeps (s.engine x.val)
  have hengine : (s.setEngine x.val (s.engine x.val).boundary).engine x.val = (s.engine x.val).boundary := State.engine_setEngine_same ..
  obtain ⟨⟨hexcept, h0, -, -, -, hexc, hraised, -, hpc⟩, -⟩ := takeExc_takes (x := x) (cause := xcWATCHDOG) (addr := 0)
    (s := s.setEngine x.val (s.engine x.val).boundary) (by rw [hengine, hst]; exact hrun)
  rw [hengine] at h0 hraised hpc
  rw [hsafety] at hraised
  refine .of_rule (f := engineWatchdog x.val) rfl (fun t ht => ht) ?_
  rw [engineWatchdog, if_pos ⟨hrun, hdue⟩, takeAsync_running hrun]
  exact ⟨hexcept, hpc, h0, hexc, hraised⟩

/-- Settles O23: the waiting, stopping and DMA instructions, the end of each stall, and the watchdog. -/
theorem waitingStoppingAndDmaInstructionsComplete : Obligations.WaitingStoppingAndDmaInstructionsComplete := by
  refine ⟨?dmaq, ?dmaqFull, ?dmaqAbsent, ?wait, ?bar, ?barLast, ?fence, ?fenceWaits, ?wdr, ?halt, ?brk, ?item, ?accepted, ?stored, ?woken,
    ?drained, ?barred, ?watchdog⟩
  case dmaq =>
    intro x ecc w s
    exact .queues
  case dmaqFull =>
    intro x ecc w s hword hissue hX hB halign hshared hfit hfull
    refine .writes rfl hissue hword (by simp [isLoad]) ?_
    rw [engDmaq_fit hX hB halign hshared hfit, if_pos hfull]
  case dmaqAbsent =>
    intro x ecc w s
    exact .queues_absent
  case wait =>
    intro x ecc w s hword hissue hD hA hB hX
    exact .stallsIn rfl rfl (by decide) hword hissue (bare_eq hD hA hB hX)
  case bar =>
    intro x y ecc w s hword hissue hD hA hB hX hy hplot hinst hkey hrun hstall
    obtain ⟨t, ht, hengine, -, hframe⟩ :=
      Does.bar_waits hword hissue hD hA hB hX (fun h => hy (Fin.ext h)) hplot hinst hkey hrun hstall
    exact ⟨t, ht, hengine, hframe⟩
  case barLast =>
    intro x ecc w s hword hissue hD hA hB hX hkey hmates
    obtain ⟨hbarx, hstall⟩ := bar_completes (ecc := ecc) hissue.1 hkey hmates
    refine .issues rfl hissue hword (by simp [isLoad]) (fun t ht => ht) ?_
    rw [finish_bar x ecc s _ hD hA hB hX]
    exact ⟨hstall _ (mem_mates.2 ⟨rfl, rfl, hkey⟩), hbarx, hstall⟩
  case fence =>
    intro x ecc w s
    exact .fence
  case fenceWaits =>
    intro x ecc w s hword hissue hD hA hB hX hdesc
    refine .stalls rfl rfl (by decide) hword hissue ?_
    rw [engFence, bare_eq hD hA hB hX, issued_hasDesc, if_pos hdesc]
  case wdr =>
    intro x ecc w s hword hissue hD hA hB hX
    refine .goes rfl hissue hword (by simp [isLoad]) rfl ?_
    rw [engWdr, bare_eq hD hA hB hX, issued_now]
    rfl
  case halt =>
    intro x ecc w s
    exact .halt
  case brk =>
    intro x ecc w s hword hissue hD hA hB hX hpc
    obtain ⟨t, ht, hst, h0, h1, h2, h3, hexc, hraised, -, hpc'⟩ := Does.brk hissue hword hD hA hB hX
    exact ⟨t, ht, hst, hpc', h0.trans (exrWord_eq (by decide) hpc _), h1, h2, h3, hexc, hraised⟩
  case item =>
    intro x w s hrun hstall hw hqueue
    subst hw
    refine .setsEngine (f := engineStallRelease x.val) rfl ?_
    rw [engineStallRelease, if_neg (not_not.2 hrun), hstall]
    exact if_neg hqueue
  case accepted =>
    intro x s hrun hstall haccepts
    refine .setsEngine (f := engineStallRelease x.val) rfl ?_
    rw [engineStallRelease, if_neg (not_not.2 hrun), hstall]
    exact if_pos haccepts
  case stored =>
    intro x s hrun hstall
    refine .setsEngine (f := engineStallRelease x.val) rfl ?_
    rw [engineStallRelease, if_neg (not_not.2 hrun), hstall]
    rfl
  case woken =>
    intro x s hrun hstall hwake
    refine .setsEngine (f := engineStallRelease x.val) rfl ?_
    rw [engineStallRelease, if_neg (not_not.2 hrun), hstall]
    exact if_pos hwake
  case drained =>
    intro x s hrun hstall hdesc
    refine .of_rule (f := engineStallRelease x.val) rfl (fun t ht => ht) ?_
    rw [engineStallRelease, if_neg (not_not.2 hrun), hstall, hdesc]
    exact drained_goes x s
  case barred =>
    intro x s hrun hstall
    refine .setsEngine (f := engineStallRelease x.val) rfl ?_
    rw [engineStallRelease, if_neg (not_not.2 hrun), hstall]
    rfl
  case watchdog =>
    intro x s hrun hdue _
    exact .watchdog hrun hdue

end Sys2Proof.Machine

/-! # Descriptors of DMA (R243, R247 to R251) -/

namespace Sys2Proof.Machine

variable {x : Fin 1024} {p q a b n err cause addr : Nat} {d : Desc} {r : List Desc} {s t u : State}

/-! ## What an exception leaves of the plot (R257) -/

/-- Between `s` and `t` stores of engine `x` may have become visible; nothing else of the plots changed. -/
structure Drains (x : Nat) (s t : State) : Prop where
  loads : t.arr.loads = s.arr.loads
  dma : ∀ q, (t.plot q).dma = (s.plot q).dma
  mem : ∀ q b, (∀ c ∈ (s.engine x).posted, c.1 ≠ b) → Smap.get zeroByte (t.plot q).mem b = Smap.get zeroByte (s.plot q).mem b

theorem Drains.of_plots {x : Nat} (hloads : t.arr.loads = s.arr.loads) (h : t.arr.plots = s.arr.plots) : Drains x s t := by
  have hplot : ∀ q, t.plot q = s.plot q := fun q => by rw [State.plot, State.plot, h]
  exact ⟨hloads, fun q => by rw [hplot], fun q b _ => by rw [hplot]⟩

theorem Tends.loads (h : Tends p s t) : t.arr.loads = s.arr.loads := by
  obtain ⟨r, o, e, pl, f, h⟩ := h.frame
  rw [h]

theorem drainPosted_drains (x : Nat) (s : State) : Drains x s (drainPosted x s) := by
  refine ⟨(drainPosted_tends x s).loads, fun q => ?_, fun q b hb => ?_⟩
  · obtain ⟨m, hm⟩ := (drainPosted_tends x s).plots q
    rw [hm]
  · unfold drainPosted
    simp only
    split
    · rfl
    · rw [State.plot_setPlot]
      split
      · next hq =>
        subst hq
        rw [get_foldl_set, List.find?_eq_none.2 fun c hc => by simpa using hb c (List.mem_reverse.1 hc)]
      · rfl

theorem barrierCheck_plots (x : Nat) (s : State) : (barrierCheck x s).arr.plots = s.arr.plots := by
  unfold barrierCheck
  simp only
  split
  · rfl
  · exact List.foldlRecOn (motive := fun t : State => t.arr.plots = s.arr.plots) _ _ rfl fun _ ht _ _ => ht

theorem plotRefresh_plots (p : Nat) (s : State) : (plotRefresh p s).arr.plots = s.arr.plots := by
  rw [(plotRefresh_writes p s).2]

theorem stopEngine_drains (x st : Nat) (s : State) : Drains x s (stopEngine x st s) := by
  have hposted : ((closeFrame x s).engine x).posted = (s.engine x).posted := by
    obtain ⟨o, n, h⟩ := closeFrame_engine x s
    rw [h]
  have hplot : ∀ q, (stopEngine x st s).plot q = (drainPosted x (closeFrame x s)).plot q := fun q => by
    rw [stopEngine, State.plot, plotRefresh_plots, barrierCheck_plots]
    rfl
  have hclose : ∀ q, (closeFrame x s).plot q = s.plot q := fun q => by rw [State.plot, closeFrame_plots, State.plot]
  obtain ⟨-, hdma, hmem⟩ := drainPosted_drains x (closeFrame x s)
  refine ⟨(stopEngine_tends x st s).loads, fun q => ?_, fun q b hb => ?_⟩
  · rw [hplot, hdma, hclose]
  · rw [hplot, hmem q b (by rw [hposted]; exact hb), hclose]

theorem excRecord_arr {code : Nat} {v0 v1 v2 v3 : Word} : (excRecord x code v0 v1 v2 v3 t).arr = t.arr := by
  simp only [excRecord, State.raise_arr, State.fs_arr, State.setReg_arr]

/-- What an exception leaves of the plot: its descriptors, and the fault bits other than EXC. -/
theorem takeExc_plot (x : Fin 1024) (cause addr : Nat) (s : State) :
    Drains x.val s (takeExc x.val cause addr s) ∧
      ∀ f : Fld, f.adr = R.ENG_PLFLT (x.val / 32) → 1 ≤ f.lo → (takeExc x.val cause addr s).fg f = s.fg f := by
  by_cases hrun : (s.engine x.val).st = esRUNNING
  · rw [takeExc_running hrun]
    generalize w32 (cause * 0x1000000 + (s.engine x.val).pc) = v0
    refine ⟨?_, fun f hf hlo => ?_⟩
    · obtain ⟨hloads, hdma, hmem⟩ := stopEngine_drains x.val esEXCEPTION s
      refine ⟨(congrArg Array_.loads excRecord_arr).trans hloads, fun q => ?_, fun q b hb => ?_⟩
      · rw [State.plot, excRecord_arr]
        exact hdma q
      · rw [State.plot, excRecord_arr]
        exact hmem q b hb
    · rw [(excRecord_fault (by split <;> decide)).2.1 f hf hlo]
      exact State.fg_congr f ((stopEngine_tends x.val esEXCEPTION s).regs _ (not_showsPlot (p := x.val / 32) (by omega) (.inr hf)))
  · rw [takeExc]
    by_cases hexc : (s.engine x.val).st = esEXCEPTION
    · rw [if_pos hexc]
      refine ⟨.of_plots rfl rfl, fun f hf _ => State.fg_fs_ne s _ f _ ?_⟩
      rw [hf]
      simp only [R.ENG_PLFLT, R.ENG_EXR_W0_MORE]
      omega
    · rw [if_neg hexc, if_pos hrun]
      exact ⟨.of_plots rfl rfl, fun _ _ _ => rfl⟩

theorem boundary_posted (e : Eng) : e.boundary.posted = e.posted := by
  unfold Eng.boundary
  split
  · rfl
  · split <;> rfl

theorem dmaException_plot (x : Fin 1024) (a : Nat) (s : State) :
    Drains x.val s (dmaException x.val a s) ∧
      ∀ f : Fld, f.adr = R.ENG_PLFLT (x.val / 32) → 1 ≤ f.lo → (dmaException x.val a s).fg f = s.fg f := by
  rw [dmaException]
  by_cases hhalt : (s.engine x.val).st = esHALTED
  · rw [if_pos hhalt]
    exact ⟨.of_plots rfl rfl, fun _ _ _ => rfl⟩
  · rw [if_neg hhalt, takeAsync]
    by_cases hrun : (s.engine x.val).st = esRUNNING
    · rw [if_pos hrun]
      obtain ⟨⟨hloads, hdma, hmem⟩, hfg⟩ := takeExc_plot x xcDMA a (s.setEngine x.val (s.engine x.val).boundary)
      refine ⟨⟨hloads, hdma, fun q b hb => hmem q b ?_⟩, hfg⟩
      rw [State.engine_setEngine_same, boundary_posted]
      exact hb
    · rw [if_neg hrun]
      exact takeExc_plot x xcDMA a s

/-! ## A descriptor ends (R247, R249) -/

theorem runLoads_nil (h : s.arr.loads = []) : runLoads s = s := by
  have harr : ({ s.arr with loads := [] } : Array_) = s.arr := by rw [← h]
  rw [runLoads]
  simp only [h, List.filter_nil, List.foldl_nil, harr]

/-- Word 3 of the descriptor of engine `x` at `a` is written, and the engine wakes (R247, R249). -/
def descEnd (x a n : Nat) (s : State) : State :=
  (writeShared (x / 32) (a + 12) (leBytes 4 n) s).setEngine x
    { (writeShared (x / 32) (a + 12) (leBytes 4 n) s).engine x with
      wake := ((writeShared (x / 32) (a + 12) (leBytes 4 n) s).engine x).wake ||
        ((writeShared (x / 32) (a + 12) (leBytes 4 n) s).engine x).waits }

theorem descEnd_plot (x a n : Nat) (s : State) (q : Nat) :
    (descEnd x a n s).plot q =
      if q = x / 32 then { s.plot (x / 32) with mem := memWrite (s.plot (x / 32)).mem (a + 12) (leBytes 4 n) } else s.plot q := by
  have h := writeShared_plot (x / 32) (a + 12) (leBytes 4 n) s q
  rw [descEnd]
  generalize writeShared (x / 32) (a + 12) (leBytes 4 n) s = u at h ⊢
  exact h

theorem descEnd_frame (x a n : Nat) (s : State) :
    ∃ e pl, descEnd x a n s = { s with arr := { s.arr with engs := e, plots := pl } } := by
  obtain ⟨e, h⟩ := writeShared_frame (x / 32) (a + 12) (leBytes 4 n) s
  rw [descEnd]
  generalize writeShared (x / 32) (a + 12) (leBytes 4 n) s = u at h
  subst h
  exact ⟨_, _, rfl⟩

/-- No posted store of the engine is left for the bytes of word 3. -/
theorem descEnd_posted (x a n : Nat) (s : State) {c : Nat × Byte} (hc : c ∈ ((descEnd x a n s).engine x).posted) :
    c.1 < a + 12 ∨ a + 16 ≤ c.1 := by
  rw [descEnd, State.engine_setEngine_same, writeShared_engine, if_pos rfl] at hc
  obtain ⟨-, hout⟩ := List.mem_filter.1 hc
  rw [length_leBytes] at hout
  simp only [Bool.not_eq_true', decide_eq_false_iff_not] at hout
  omega

theorem descDone_good (x a n : Nat) (s : State) : descDone x a 0 n s = descEnd x a (2 ^ 31 + n) s := by
  rw [descDone, if_pos rfl, Nat.zero_mul, Nat.add_zero]
  rfl

theorem descDone_bad (x a n : Nat) (s : State) (h0 : err ≠ 0) (h5 : err ≠ 5) :
    descDone x a err n s = dmaException x a (((descEnd x a (2 ^ 31 + err * 2 ^ 24 + n) s).inc (R.ENG_PLDMA_ERR (x / 32))).fs
      (R.ENG_PLFLT_DMAE (x / 32)) 1) := by
  rw [descDone, if_neg h0, if_neg h5]
  rfl

/-- The head of a plot's queue has left it. -/
def popDesc (p : Nat) (r : List Desc) (s : State) : State := s.setPlot p { s.plot p with dma := r }

theorem headDone_cons (h : (s.plot p).dma = d :: r) (err n : Nat) :
    headDone p err n s = dmaCount p (descDone d.eng d.adr err n (popDesc p r s)) := by
  rw [headDone, h]
  rfl

/-- The head of the queue completes without error (R249). -/
theorem headDone_good (h : (s.plot p).dma = d :: r) (hp : d.eng / 32 = p) (hn : n < 2 ^ 31) (hloads : s.arr.loads = []) :
    (headDone p 0 n s).arr.loads = [] ∧ ((headDone p 0 n s).plot p).dma = r ∧
      ((headDone p 0 n s).plot p).mem = memWrite (s.plot p).mem (d.adr + 12) (leBytes 4 (0x80000000 + n)) ∧
      leNat (memBytes ((headDone p 0 n s).plot p).mem (d.adr + 12) 4) = 0x80000000 + n ∧
      (headDone p 0 n s).cap = s.cap ∧ SameRegs [R.ENG_PLDMA p] s (headDone p 0 n s) := by
  have hplot : (headDone p 0 n s).plot p =
      { s.plot p with dma := r, mem := memWrite (s.plot p).mem (d.adr + 12) (leBytes 4 (2 ^ 31 + n)) } := by
    rw [headDone_cons h, dmaCount_plot, descDone_good, descEnd_plot, if_pos hp.symm, hp, popDesc, State.plot_setPlot_same]
  obtain ⟨e, pl, hframe⟩ := descEnd_frame d.eng d.adr (2 ^ 31 + n) (popDesc p r s)
  rw [hplot, headDone_cons h, descDone_good, hframe]
  exact ⟨hloads, rfl, rfl, leNat_memBytes_write _ _ _ (by omega), rfl, dmaCount_regs p _⟩

/-- The head of the queue ends with an error that is no reset of the plot (R249, R251). -/
theorem headDone_bad (h : (s.plot p).dma = d :: r) (hp : d.eng / 32 = p) (hplot : p < 32) (hroom : r.length < 16)
    (h0 : err ≠ 0) (herr : err < 5) (hloads : s.arr.loads = []) :
    (headDone p err 0 s).arr.loads = [] ∧ ((headDone p err 0 s).plot p).dma = r ∧
      (headDone p err 0 s).fg (R.ENG_PLDMA_QUEUED p) = r.length ∧
      leNat (memBytes ((headDone p err 0 s).plot p).mem (d.adr + 12) 4) = 0x80000000 + 0x1000000 * err ∧
      (headDone p err 0 s).fg (R.ENG_PLFLT_DMAE p) = 1 := by
  obtain ⟨e, pl, hframe⟩ := descEnd_frame d.eng d.adr (2 ^ 31 + err * 2 ^ 24 + 0) (popDesc p r s)
  have hends : (descEnd d.eng d.adr (2 ^ 31 + err * 2 ^ 24 + 0) (popDesc p r s)).plot p =
      { s.plot p with dma := r, mem := memWrite (s.plot p).mem (d.adr + 12) (leBytes 4 (2 ^ 31 + err * 2 ^ 24 + 0)) } := by
    rw [descEnd_plot, if_pos hp.symm, hp, popDesc, State.plot_setPlot_same]
  have hposted := fun c => descEnd_posted d.eng d.adr (2 ^ 31 + err * 2 ^ 24 + 0) (popDesc p r s) (c := c)
  rw [headDone_cons h, descDone_bad _ _ _ _ h0 (by omega), hp]
  have hloads' : (descEnd d.eng d.adr (2 ^ 31 + err * 2 ^ 24 + 0) (popDesc p r s)).arr.loads = [] := by
    rw [hframe]
    exact hloads
  generalize descEnd d.eng d.adr (2 ^ 31 + err * 2 ^ 24 + 0) (popDesc p r s) = u at hends hposted hloads' ⊢
  have hbit : ((u.inc (R.ENG_PLDMA_ERR p)).fs (R.ENG_PLFLT_DMAE p) 1).fg (R.ENG_PLFLT_DMAE p) = 1 :=
    (State.fg_fs_same _ _ _ (by simp [R.ENG_PLFLT_DMAE])).trans rfl
  have hkeep : ∀ q, ((u.inc (R.ENG_PLDMA_ERR p)).fs (R.ENG_PLFLT_DMAE p) 1).plot q = u.plot q := fun _ => rfl
  have hkeepEng : ((u.inc (R.ENG_PLDMA_ERR p)).fs (R.ENG_PLFLT_DMAE p) 1).engine d.eng = u.engine d.eng := rfl
  have hkeepLoads : ((u.inc (R.ENG_PLDMA_ERR p)).fs (R.ENG_PLFLT_DMAE p) 1).arr.loads = u.arr.loads := rfl
  generalize (u.inc (R.ENG_PLDMA_ERR p)).fs (R.ENG_PLFLT_DMAE p) 1 = v at hbit hkeep hkeepEng hkeepLoads ⊢
  obtain ⟨⟨hl, hdma, hmem⟩, hfg⟩ := dmaException_plot ⟨d.eng, by omega⟩ d.adr v
  simp only at hl hdma hmem hfg
  rw [hp] at hfg
  have hqueue : ((dmaException d.eng d.adr v).plot p).dma = r := by rw [hdma, hkeep, hends]
  refine ⟨?_, hqueue, ?_, ?_, ?_⟩
  · exact hl.trans (hkeepLoads.trans hloads')
  · rw [dmaCount_queued (by rw [hqueue]; omega), hqueue]
  · rw [dmaCount_plot]
    have hsame : memBytes ((dmaException d.eng d.adr v).plot p).mem (d.adr + 12) 4 = memBytes (u.plot p).mem (d.adr + 12) 4 := by
      refine List.map_congr_left fun i hi => ?_
      have hi' := List.mem_range.1 hi
      rw [hmem p _ fun c hc hb => ?_, hkeep]
      rw [hkeepEng] at hc
      have := hposted c hc
      omega
    rw [hsame, hends, leNat_memBytes_write _ _ _ (by omega)]
    omega
  · rw [dmaCount, State.fg_fs_ne _ (R.ENG_PLDMA_QUEUED p) (R.ENG_PLFLT_DMAE p) _ (by simp [R.ENG_PLDMA_QUEUED, R.ENG_PLFLT_DMAE])]
    exact (hfg (R.ENG_PLFLT_DMAE p) rfl (by simp [R.ENG_PLFLT_DMAE])).trans hbit

end Sys2Proof.Machine

/-! # Transfers of DMA (R247 to R251) -/

namespace Sys2Proof.Machine

variable {p : Fin 32} {ecc : Fin 3} {d : Desc} {r : List Desc} {s t : State}

/-! ## What the fields of a descriptor depend on (R247, R248) -/

theorem capAddr_congr (h : ∀ a, 0x0C0000 ≤ a → t.reg a = s.reg a) (q off len : Nat) (write : Bool) :
    capAddr t q off len write = capAddr s q off len write := by
  have hfg : ∀ f : Fld, 0x0C0000 ≤ f.adr → t.fg f = s.fg f := fun f hf => State.fg_congr f (h _ hf)
  have hsize : ∀ k, t.fg (R.CAD_PCAP_CAPSZ k) = s.fg (R.CAD_PCAP_CAPSZ k) := fun k =>
    hfg _ (by simp only [R.CAD_PCAP_CAPSZ]; omega)
  have hbase : ∀ k, t.fg (R.CAD_PCAP_CAPBASE k) = s.fg (R.CAD_PCAP_CAPBASE k) := fun k =>
    hfg _ (by simp only [R.CAD_PCAP_CAPBASE]; omega)
  have hkind : ∀ k, t.fg (R.CAD_EASE_W0_KIND k) = s.fg (R.CAD_EASE_W0_KIND k) := fun k =>
    hfg _ (by simp only [R.CAD_EASE_W0_KIND]; omega)
  have hgrantee : ∀ k, t.fg (R.CAD_EASE_W0_GRANTEE k) = s.fg (R.CAD_EASE_W0_GRANTEE k) := fun k =>
    hfg _ (by simp only [R.CAD_EASE_W0_GRANTEE]; omega)
  have hgrantor : ∀ k, t.fg (R.CAD_EASE_W0_GRANTOR k) = s.fg (R.CAD_EASE_W0_GRANTOR k) := fun k =>
    hfg _ (by simp only [R.CAD_EASE_W0_GRANTOR]; omega)
  have hw1 : ∀ k, t.reg (R.CAD_EASE_W1 k) = s.reg (R.CAD_EASE_W1 k) := fun k => h _ (by simp only [R.CAD_EASE_W1]; omega)
  have hw2 : ∀ k, t.reg (R.CAD_EASE_W2 k) = s.reg (R.CAD_EASE_W2 k) := fun k => h _ (by simp only [R.CAD_EASE_W2]; omega)
  simp only [capAddr, hsize, hbase, hkind, hgrantee, hgrantor, hw1, hw2]

/-- The state in which the words of a descriptor have been read (R243). -/
def descRead (p : Fin 32) (ecc : Fin 3) (s : State) : State := if ecc = 1 then s.inc (R.ENG_PLECC_COR p.val) else s

theorem descRead_writes (p : Fin 32) (ecc : Fin 3) (s : State) : WritesRegs [R.ENG_PLECC p.val] s (descRead p ecc s) := by
  unfold descRead
  split
  · exact .fs s _ (List.mem_singleton.2 rfl)
  · exact .refl _ s

theorem descRead_val (p : Fin 32) (ecc : Fin 3) (s : State) :
    (if ecc.val = 1 then s.inc (R.ENG_PLECC_COR p.val) else s) = descRead p ecc s := by
  by_cases h : ecc = 1
  · subst h
    rfl
  · have hval : ¬ecc.val = 1 := fun hv => h (Fin.ext hv)
    rw [if_neg hval, descRead, if_neg h]

theorem WritesRegs.arr {l : List Nat} (h : WritesRegs l s t) : t.arr = s.arr := by rw [h.2]

theorem descRead_fields (p : Fin 32) (ecc : Fin 3) (s : State) (d : Desc) : descFields (descRead p ecc s) d = descFields s d := by
  have hw := descRead_writes p ecc s
  have hp := p.isLt
  have hword : ∀ a, sharedWord (descRead p ecc s) d.eng a = sharedWord s d.eng a := fun a =>
    engRead_congr (by rw [hw.engine]) (by rw [hw.engine]) (by rw [hw.arr]) a 4
  have hparcel : ∀ q, (descRead p ecc s).plotParcel q = s.plotParcel q := fun q => State.fg_congr _ (hw.1 _ (by
    simp only [R.ENG_PLSTAT_PARCEL, R.ENG_PLECC, List.mem_singleton]
    omega))
  have hcap : ∀ q off len write, capAddr (descRead p ecc s) q off len write = capAddr s q off len write :=
    capAddr_congr fun a ha => hw.1 a (by
      simp only [R.ENG_PLECC, List.mem_singleton]
      omega)
  simp only [descFields, hword, hparcel, hcap]

theorem descRead_serves (p : Fin 32) (ecc : Fin 3) (s : State) : capServes (descRead p ecc s) = capServes s := by
  have hw := descRead_writes p ecc s
  have hdom : (descRead p ecc s).dom = s.dom := by rw [hw.2]
  have hself : (descRead p ecc s).fb R.CAP_STAT_SELFREF = s.fb R.CAP_STAT_SELFREF := by
    rw [State.fb, State.fb, State.fg_congr _ (hw.1 _ ?_)]
    simp only [R.CAP_STAT_SELFREF, R.ENG_PLECC, List.mem_singleton]
    have := p.isLt
    omega
  simp only [capServes, State.domOn, State.domStep, hdom, hself]

/-- A transfer in order moves at most 262,144 bytes (R247). -/
theorem descFields_length {wr : Bool} {len sh ca : Nat} (h : descFields s d = some (wr, len, sh, ca)) : len ≤ 262144 := by
  simp only [descFields] at h
  split at h
  · contradiction
  · next horder =>
    split at h
    · contradiction
    · obtain ⟨a, -, ha⟩ := Option.map_eq_some_iff.1 h
      simp only [Prod.mk.injEq] at ha
      omega

/-! ## The start of a transfer (R250, R251) -/

theorem dmaDescriptorStart_eq (h : (s.plot p.val).dma = d :: r) (hrun : d.running = false) (hdrc : drcReached s p.val = true) :
    dmaDescriptorStart p.val ecc.val s =
      if ecc = 2 then headDone p.val 3 0 (eccBad p.val s)
      else if descFields s d = none then headDone p.val 1 0 (descRead p ecc s)
      else if capServes s = true then
        (descRead p ecc s).setPlot p.val { s.plot p.val with dma := { d with running := true } :: r }
      else headDone p.val 4 0 (descRead p ecc s) := by
  have hplot : (descRead p ecc s).plot p.val = s.plot p.val := by
    rw [State.plot, (descRead_writes p ecc s).arr]
    rfl
  have hecc : ecc.val = 2 ↔ ecc = 2 := ⟨fun h => Fin.ext h, fun h => by rw [h]; rfl⟩
  simp only [dmaDescriptorStart, h, hrun, hdrc, descRead_val, descRead_fields, descRead_serves, hplot, hecc, Bool.false_eq_true,
    Bool.not_true, or_self, if_false]
  cases descFields s d with
  | none => rfl
  | some f => rw [if_neg (Option.some_ne_none f)]

theorem dma_of_writes {l : List Nat} (h : WritesRegs l s t) (q : Nat) : t.plot q = s.plot q := by
  rw [State.plot, h.arr]
  rfl

/-- A descriptor whose words read well and whose fields are in order starts. -/
theorem Does.descriptor_starts {f : Bool × Nat × Nat × Nat} (h : (s.plot p.val).dma = d :: r) (hrun : d.running = false)
    (hdrc : drcReached s p.val = true) (hecc : ecc ≠ 2) (hf : descFields s d = some f) (hserves : capServes s = true)
    (hloads : s.arr.loads = []) :
    Does (.dmaDescriptorStart p ecc) s fun t => (t.plot p.val).dma = { d with running := true } :: r ∧
      t = { descRead p ecc s with arr := { s.arr with plots := t.arr.plots } } := by
  have hw := descRead_writes p ecc s
  have hstart : runLoads (dmaDescriptorStart p.val ecc.val s) =
      (descRead p ecc s).setPlot p.val { s.plot p.val with dma := { d with running := true } :: r } := by
    rw [dmaDescriptorStart_eq h hrun hdrc, if_neg hecc, hf, if_neg (Option.some_ne_none f), if_pos hserves, runLoads_nil]
    exact (congrArg Array_.loads hw.arr).trans hloads
  refine .of_run (f := fun s => runLoads (dmaDescriptorStart p.val ecc.val s)) rfl ?_
  rw [hstart]
  refine ⟨congrArg Plot.dma (State.plot_setPlot_same ..), ?_⟩
  rw [hw.2]
  rfl

/-- A descriptor that does not start ends with its error. -/
theorem Does.descriptor_fails (h : (s.plot p.val).dma = d :: r) (hrun : d.running = false) (hp : d.eng / 32 = p.val) (hroom : r.length < 16)
    (hdrc : drcReached s p.val = true) (hbad : ecc = 2 ∨ descFields s d = none ∨ capServes s = false) (hloads : s.arr.loads = []) :
    Does (.dmaDescriptorStart p ecc) s fun t => (t.plot p.val).dma = r ∧ t.fg (R.ENG_PLDMA_QUEUED p.val) = r.length ∧
      leNat (memBytes (t.plot p.val).mem (d.adr + 12) 4) =
        0x80000000 + 0x1000000 * (if ecc = 2 then 3 else if descFields s d = none then 1 else 4) ∧ t.fg (R.ENG_PLFLT_DMAE p.val) = 1 := by
  have hw := descRead_writes p ecc s
  obtain ⟨u, err, hstart, hplot, harr, h0, herr, hcode⟩ : ∃ u err, dmaDescriptorStart p.val ecc.val s = headDone p.val err 0 u ∧
      u.plot p.val = s.plot p.val ∧ u.arr = s.arr ∧ err ≠ 0 ∧ err < 5 ∧
      (if ecc = 2 then 3 else if descFields s d = none then 1 else 4) = err := by
    rw [dmaDescriptorStart_eq h hrun hdrc]
    by_cases hecc : ecc = 2
    · exact ⟨_, 3, if_pos hecc, rfl, rfl, by decide, by decide, if_pos hecc⟩
    · rw [if_neg hecc, if_neg hecc]
      by_cases hf : descFields s d = none
      · exact ⟨_, 1, if_pos hf, dma_of_writes hw _, hw.arr, by decide, by decide, if_pos hf⟩
      · have hserves : ¬capServes s = true := by
          obtain hbad | hbad | hbad := hbad
          · exact absurd hbad hecc
          · exact absurd hbad hf
          · rw [hbad]
            exact Bool.false_ne_true
        exact ⟨_, 4, (if_neg hf).trans (if_neg hserves), dma_of_writes hw _, hw.arr, by decide, by decide, if_neg hf⟩
  obtain ⟨hl, hdma, hqueued, hword, hbit⟩ := headDone_bad (s := u) (by rw [hplot, h]) hp p.isLt hroom h0 herr (by rw [harr, hloads])
  refine .of_rule (f := fun s => runLoads (dmaDescriptorStart p.val ecc.val s)) rfl (fun t ht => ht) ?_
  rw [hstart, runLoads_nil hl, hcode]
  exact ⟨hdma, hqueued, hword, hbit⟩

/-! ## The end of a transfer (R249) -/

theorem dmaDescriptorComplete_eq {wr : Bool} {len sh ca : Nat} (cor : Nat) (h : (s.plot p.val).dma = d :: r) (hrun : d.running = true)
    (hf : descFields s d = some (wr, len, sh, ca)) (hserves : capServes s = true) :
    dmaDescriptorComplete p.val none cor s = headDone p.val 0 (len / 64) (dmaMove d wr len sh ca
      (if wr = true then s.fadd (R.ENG_PLECC_COR p.val) cor else s)) := by
  simp only [dmaDescriptorComplete, h, hrun, hf, hserves, Bool.not_true, Bool.false_eq_true, if_false]

/-- A counter that saturates after `n` more. -/
theorem State.fg_fadd (s : State) (f : Fld) (n : Nat) (h : f.lo + f.w ≤ 32) : (s.fadd f n).fg f = min (s.fg f + n) (2 ^ f.w - 1) := by
  have hw := Nat.two_pow_pos f.w
  rw [State.fadd, State.fg_fs_same _ _ _ h, clampU, Nat.mod_eq_of_lt (by omega)]

theorem dmaMove_regs (d : Desc) (len sh ca : Nat) (s : State) (f : Fld) : (dmaMove d true len sh ca s).fg f = s.fg f := by
  rw [dmaMove, if_pos rfl]
  rfl

/-- A transfer to capture memory moves its bytes as its engine sees them. -/
theorem Does.descriptor_writes {cor len sh ca : Nat} (h : (s.plot p.val).dma = d :: r) (hrun : d.running = true) (hp : d.eng / 32 = p.val)
    (hf : descFields s d = some (true, len, sh, ca)) (hserves : capServes s = true) (hloads : s.arr.loads = []) :
    Does (.dmaDescriptorComplete p none cor) s fun t => (t.plot p.val).dma = r ∧
      t.cap.dram = memWrite s.cap.dram ca ((List.range len).map fun i => engByte s d.eng (sh + i)) ∧
      leNat (memBytes (t.plot p.val).mem (d.adr + 12) 4) = 0x80000000 + len / 64 ∧
      t.fg (R.ENG_PLECC_COR p.val) = min 65535 (s.fg (R.ENG_PLECC_COR p.val) + cor) ∧ SameRegs [R.ENG_PLDMA p.val, R.ENG_PLECC p.val] s t := by
  have hlen := descFields_length hf
  obtain ⟨hl, hdma, -, hword, hcap, hregs⟩ := headDone_good (n := len / 64)
    (s := dmaMove d true len sh ca (s.fadd (R.ENG_PLECC_COR p.val) cor)) h hp (by omega) hloads
  refine .of_rule (f := fun s => runLoads (dmaDescriptorComplete p.val none cor s)) rfl (fun t ht => ht) ?_
  rw [dmaDescriptorComplete_eq cor h hrun hf hserves, if_pos rfl, runLoads_nil hl]
  refine ⟨hdma, (congrArg Cap.dram hcap).trans ?_, hword, ?_, ?_⟩
  · have hbyte : ∀ a, engByte (s.fadd (R.ENG_PLECC_COR p.val) cor) d.eng a = engByte s d.eng a := engByte_congr rfl rfl rfl
    rw [dmaMove, if_pos rfl]
    simp only [hbyte, State.fadd_cap]
  · rw [State.fg_congr (R.ENG_PLECC_COR p.val) (hregs _ (by simp only [R.ENG_PLECC_COR, R.ENG_PLDMA, List.mem_singleton]; omega))]
    rw [dmaMove_regs, State.fg_fadd _ _ _ (by simp [R.ENG_PLECC_COR]), Nat.min_comm]
    rfl
  · have hcor : SameRegs [R.ENG_PLDMA p.val, R.ENG_PLECC p.val] s (s.fadd (R.ENG_PLECC_COR p.val) cor) :=
      s.fs_sameRegs (R.ENG_PLECC_COR p.val) _ (by simp [R.ENG_PLECC_COR, R.ENG_PLECC])
    refine SameRegs.trans ?_ (hregs.mono fun a ha => by simp [List.mem_singleton.1 ha])
    exact hcor.trans (.of_regs rfl)

/-- A transfer from capture memory moves its bytes into shared memory. -/
theorem Does.descriptor_reads {cor len sh ca : Nat} (h : (s.plot p.val).dma = d :: r) (hrun : d.running = true) (hp : d.eng / 32 = p.val)
    (hf : descFields s d = some (false, len, sh, ca)) (hserves : capServes s = true) (hloads : s.arr.loads = []) :
    Does (.dmaDescriptorComplete p none cor) s fun t => (t.plot p.val).dma = r ∧
      (t.plot p.val).mem = memWrite (memWrite (s.plot p.val).mem sh (memBytes s.cap.dram ca len)) (d.adr + 12)
        (leBytes 4 (0x80000000 + len / 64)) ∧
      t.cap.dram = s.cap.dram ∧ SameRegs [R.ENG_PLDMA p.val] s t := by
  have hlen := descFields_length hf
  have hmove : dmaMove d false len sh ca s = writeShared p.val sh (memBytes s.cap.dram ca len) s := by
    rw [dmaMove, if_neg Bool.false_ne_true, hp]
  have hplot := writeShared_plot p.val sh (memBytes s.cap.dram ca len) s p.val
  rw [if_pos rfl] at hplot
  obtain ⟨e, hframe⟩ := writeShared_frame p.val sh (memBytes s.cap.dram ca len) s
  refine .of_rule (f := fun s => runLoads (dmaDescriptorComplete p.val none cor s)) rfl (fun t ht => ht) ?_
  rw [dmaDescriptorComplete_eq cor h hrun hf hserves, if_neg Bool.false_ne_true, hmove]
  obtain ⟨hl, hdma, hmem, -, hcap, hregs⟩ := headDone_good (n := len / 64) (s := writeShared p.val sh (memBytes s.cap.dram ca len) s)
    (by rw [hplot, h]) hp (by omega) (by rw [hframe]; exact hloads)
  rw [runLoads_nil hl]
  refine ⟨hdma, by rw [hmem, hplot], ?_, ?_⟩
  · rw [hcap, hframe]
    rfl
  · refine SameRegs.trans (.of_regs ?_) hregs
    rw [hframe]
    rfl

end Sys2Proof.Machine

/-! # Delivery of stream frames (R245, R284, R290, R291) -/

namespace Sys2Proof.Machine

variable {x i : Nat} {e : Eng} {f : List Word} {fl : Flight} {s t : State}

/-! ## What a delivery does to the engine -/

theorem Eng.setDec_keeps (e : Eng) (i : Nat) (d : Dec) :
    (e.setDec i d).waits = e.waits ∧ (e.setDec i d).wake = e.wake ∧ (e.setDec i d).g = e.g := by
  rw [Eng.setDec_frame]
  exact ⟨rfl, rfl, rfl⟩

theorem fits_setDec (e : Eng) (i : Nat) (d : Dec) (f : List Word) : fits (e.setDec i d) i f = fits e i f := by
  rw [fits, fits, Eng.queue_setDec]

/-- A frame has entered the queue of port `i`: the engine wakes if it waits, and its registers stay (R236, R245). -/
def Enters (i : Nat) (f : List Word) (e e' : Eng) : Prop :=
  e'.queue i = e.queue i ++ frameItems f ∧ (e.waits = true → e'.wake = true) ∧ e'.g = e.g

theorem enters_enqueue (i : Nat) (f : List Word) (e : Eng) : Enters i f e (enqueue i f e) := by
  refine ⟨enqueue_queue i f e, fun h => ?_, ?_⟩
  · rw [enqueue, h, Bool.or_true]
  · rw [enqueue, Eng.setQueue_frame]

/-- The port's decimation does not matter to it. -/
theorem Enters.setDec {e' : Eng} (h : Enters i f e e') (d : Dec) : Enters i f e (e'.setDec i d) := by
  obtain ⟨hqueue, hwake, hg⟩ := h
  obtain ⟨-, hwake', hg'⟩ := e'.setDec_keeps i d
  exact ⟨(e'.queue_setDec i d).trans hqueue, fun hw => hwake'.trans (hwake hw), hg'.trans hg⟩

theorem Enters.of_setDec {e' : Eng} {d : Dec} (h : Enters i f (e.setDec i d) e') : Enters i f e e' := by
  obtain ⟨hqueue, hwake, hg⟩ := h
  obtain ⟨hwaits, -, hg'⟩ := e.setDec_keeps i d
  rw [Eng.queue_setDec] at hqueue
  exact ⟨hqueue, fun hw => hwake (hwaits.trans hw), hg.trans hg'⟩

/-- A discarded frame sets LOSS and leaves the queues (R229, R245). -/
theorem dropFrame_loss (x i : Nat) (s : State) :
    ((dropFrame x i s).engine x).sflags.testBit (3 * i + 1) = true ∧
      ((dropFrame x i s).engine x).queue i = (s.engine x).queue i := by
  have h : (dropFrame x i s).engine x = (if i = 0 then { s.engine x with drop0 := clampU 32 ((s.engine x).drop0 + 1) }
      else { s.engine x with drop1 := clampU 32 ((s.engine x).drop1 + 1) }).flag (3 * i + 1) true :=
    State.engine_setEngine_same ..
  rw [h]
  refine ⟨testBit_setBit_self .., ?_⟩
  split <;> rfl

/-! ## What a delivery does to the station -/

/-- The frame has left the fabric. -/
def departs (fl : Flight) (s : State) : State := { s with fab := { s.fab with flight := s.fab.flight.erase fl } }

/-- A frame for an engine that is on and whose binding is enabled. -/
structure Arrives (x i : Nat) (fl : Flight) (s : State) : Prop where
  oldest : (s.fab.flight.find? fun f => f.eng == x && f.port == i) = some fl
  bound : (s.engine x).bound i = some fl.ent
  enabled : entOn (s.subW0 (s.plotParcel (x / 32)) fl.ent) = true
  on : s.quarterOn x = true

theorem delivery_discards (h : Arrives x i fl s) {lost : Bool} (hlost : (fl.aborted || lost) = true) :
    streamFrameDelivery x i lost s = dropFrame x i (departs fl s) := by
  obtain ⟨hfind, hbound, hon, hquarter⟩ := h
  simp only [streamFrameDelivery, hfind, hbound, hon, hquarter, ne_eq, not_true_eq_false, Bool.not_true, Bool.false_eq_true, or_self, if_false]
  rw [if_pos (by simpa using hlost)]
  rfl

theorem delivery_S (h : Arrives x i fl s) (hwhole : fl.aborted = false) (hcls : fl.cls = 0) :
    streamFrameDelivery x i false s = if fits (s.engine x) i fl.items = true then placeFrame x i fl.items (departs fl s)
      else ((dropFrame x i (departs fl s)).setReg R.FAB_SCLOSS (w32 (x / 32 * 2 ^ 21 + x % 32 * 2 ^ 16 +
        clampU 16 (s.fg R.FAB_SCLOSS_COUNT + 1)))).raise 0x2A (x / 32) (x / 32 * 256 + x % 32) := by
  obtain ⟨hfind, hbound, hon, hquarter⟩ := h
  simp only [streamFrameDelivery, hfind, hbound, hon, hquarter, hwhole, hcls, ne_eq, not_true_eq_false, Bool.not_true, Bool.false_eq_true,
    or_self, if_false]
  rfl

theorem delivery_M (h : Arrives x i fl s) (hwhole : fl.aborted = false) (hcls : fl.cls = 1) :
    streamFrameDelivery x i false s = arriveM x i fl.items (departs fl s) := by
  obtain ⟨hfind, hbound, hon, hquarter⟩ := h
  simp only [streamFrameDelivery, hfind, hbound, hon, hquarter, hwhole, hcls, ne_eq, not_true_eq_false, Bool.not_true, Bool.false_eq_true,
    or_self, if_false]
  rfl

theorem delivery_B (h : Arrives x i fl s) (hwhole : fl.aborted = false) (hcls : 2 ≤ fl.cls) (hheld : ((s.engine x).dec i).held = none) :
    streamFrameDelivery x i false s = if fits (s.engine x) i fl.items = true then placeFrame x i fl.items (departs fl s)
      else setDecOf x i { (s.engine x).dec i with held := some fl.items } (departs fl s) := by
  obtain ⟨hfind, hbound, hon, hquarter⟩ := h
  obtain ⟨n, hn⟩ : ∃ n, fl.cls = n + 2 := ⟨fl.cls - 2, by omega⟩
  simp only [streamFrameDelivery, hfind, hbound, hon, hquarter, hwhole, hn, hheld, ne_eq, not_true_eq_false, Bool.not_true,
    Bool.false_eq_true, or_self, if_false, Option.isSome_none]
  rfl

/-- A delivery changed engine `x` and took the frame from the fabric; no other engine changed. -/
structure Delivers (x : Nat) (e : Eng) (fl : Flight) (s t : State) : Prop where
  engine : t.engine x = e
  others : SameBut (fun _ => ({} : Eng)) x s.arr.engs t.arr.engs
  flight : t.fab.flight = s.fab.flight.erase fl

theorem setDecOf_delivers (x i : Nat) (d : Dec) (fl : Flight) (s : State) :
    Delivers x ((s.engine x).setDec i d) fl s (setDecOf x i d (departs fl s)) :=
  ⟨State.engine_setEngine_same .., fun _ hy => State.engine_setEngine_ne _ _ hy, rfl⟩

theorem placeFrame_delivers (x i : Nat) (f : List Word) (fl : Flight) (s : State) :
    Delivers x (enqueue i f (s.engine x)) fl s (placeFrame x i f (departs fl s)) :=
  ⟨State.engine_setEngine_same .., fun _ hy => State.engine_setEngine_ne _ _ hy, rfl⟩

theorem Delivers.setDec (h : Delivers x e fl s t) (d : Dec) : Delivers x (e.setDec i d) fl s (setDecOf x i d t) := by
  obtain ⟨hengine, hothers, hflight⟩ := h
  refine ⟨?_, fun y hy => (State.engine_setEngine_ne t _ hy).trans (hothers y hy), hflight⟩
  rw [setDecOf, State.engine_setEngine_same, hengine]

theorem Delivers.place (h : Delivers x e fl s t) (f : List Word) : Delivers x (enqueue i f e) fl s (placeFrame x i f t) := by
  obtain ⟨hengine, hothers, hflight⟩ := h
  refine ⟨(State.engine_setEngine_same ..).trans (congrArg (enqueue i f) hengine),
    fun y hy => (State.engine_setEngine_ne t _ hy).trans (hothers y hy), hflight⟩

theorem Delivers.qmax (h : Delivers x e fl s t) (q : Nat) : Delivers x e fl s (qmaxRefresh q t) := ⟨h.1, h.2, h.3⟩

/-- The first frame of class M at a binding that decimates nothing (R291). -/
theorem arriveM_first (h : (s.engine x).dec i = {}) (f : List Word) :
    arriveM x i f s = offerM x i f (setDecOf x i { cnt := 1 } s) := by
  rw [arriveM, h]
  rfl

theorem offerM_first (x i : Nat) (f : List Word) (s : State) :
    offerM x i f (setDecOf x i { cnt := 1 } s) =
      if fits (s.engine x) i f = true then qmaxRefresh (s.plotParcel (x / 32))
        (setDecOf x i { cnt := 1, good := 1 } (placeFrame x i f (setDecOf x i { cnt := 1 } s)))
      else setDecOf x i { cnt := 1, held := some f } (setDecOf x i { cnt := 1 } s) := by
  have hengine : (setDecOf x i { cnt := 1 } s).engine x = (s.engine x).setDec i { cnt := 1 } := State.engine_setEngine_same ..
  rw [offerM, hengine, fits_setDec, Eng.dec_setDec]
  rfl

/-- A whole frame that fits enters. -/
theorem delivery_enters (h : Arrives x i fl s) (hwhole : fl.aborted = false) (hcls : fl.cls = 0 ∨ (s.engine x).dec i = {})
    (hfits : fits (s.engine x) i fl.items = true) :
    ∃ e, Enters i fl.items (s.engine x) e ∧ Delivers x e fl s (streamFrameDelivery x i false s) := by
  have hplace := placeFrame_delivers x i fl.items fl s
  by_cases h0 : fl.cls = 0
  · rw [delivery_S h hwhole h0, if_pos hfits]
    exact ⟨_, enters_enqueue .., hplace⟩
  · have hdec := hcls.resolve_left h0
    by_cases h1 : fl.cls = 1
    · have hdec' : ((departs fl s).engine x).dec i = {} := hdec
      have hfits' : fits ((departs fl s).engine x) i fl.items = true := hfits
      rw [delivery_M h hwhole h1, arriveM_first hdec', offerM_first, if_pos hfits']
      exact ⟨_, (enters_enqueue i fl.items ((s.engine x).setDec i { cnt := 1 })).of_setDec.setDec _,
        (((setDecOf_delivers x i _ fl s).place fl.items).setDec _).qmax _⟩
    · rw [delivery_B h hwhole (by omega) (by rw [hdec]), if_pos hfits]
      exact ⟨_, enters_enqueue .., hplace⟩

/-- The record of a frame of class S that found no room (R290). -/
theorem scloss_fields {p y n : Nat} (hp : p < 32) (hy : y < 32) (hn : n < 2 ^ 16) {u : State}
    (h : u.reg R.FAB_SCLOSS = w32 (p * 2 ^ 21 + y * 2 ^ 16 + n)) :
    u.fg R.FAB_SCLOSS_PLOT = p ∧ u.fg R.FAB_SCLOSS_ENG = y ∧ u.fg R.FAB_SCLOSS_COUNT = n := by
  have hnum : (w32 (p * 2 ^ 21 + y * 2 ^ 16 + n)).toNat = p * 2 ^ 21 + y * 2 ^ 16 + n := w32_toNat (by omega)
  have hfield : ∀ f : Fld, f.adr = R.FAB_SCLOSS → u.fg f = (p * 2 ^ 21 + y * 2 ^ 16 + n) / 2 ^ f.lo % 2 ^ f.w := fun f hf => by
    rw [State.fg, hf, h, hnum, bitsOf, Nat.shiftRight_eq_div_pow]
  rw [hfield R.FAB_SCLOSS_PLOT rfl, hfield R.FAB_SCLOSS_ENG rfl, hfield R.FAB_SCLOSS_COUNT rfl]
  simp only [R.FAB_SCLOSS_PLOT, R.FAB_SCLOSS_ENG, R.FAB_SCLOSS_COUNT]
  omega

/-- A frame of class S that does not fit is discarded, recorded and raised (R290). -/
theorem delivery_overflows (hx : x < 1024) (h : Arrives x i fl s) (hwhole : fl.aborted = false) (hcls : fl.cls = 0)
    (hfits : fits (s.engine x) i fl.items = false) {t : State} (ht : t = streamFrameDelivery x i false s) :
    (t.engine x).queue i = (s.engine x).queue i ∧ (t.engine x).sflags.testBit (3 * i + 1) = true ∧ t.fg R.FAB_SCLOSS_PLOT = x / 32 ∧
      t.fg R.FAB_SCLOSS_ENG = x % 32 ∧ t.fg R.FAB_SCLOSS_COUNT = min 65535 (s.fg R.FAB_SCLOSS_COUNT + 1) ∧ Raised 0x2A (x / 32) t ∧
      t.fab.flight = s.fab.flight.erase fl := by
  rw [delivery_S h hwhole hcls, if_neg (by rw [hfits]; exact Bool.false_ne_true)] at ht
  obtain ⟨hloss, hqueue⟩ := dropFrame_loss x i (departs fl s)
  have hcount : clampU 16 (s.fg R.FAB_SCLOSS_COUNT + 1) = min 65535 (s.fg R.FAB_SCLOSS_COUNT + 1) := Nat.min_comm ..
  rw [hcount] at ht
  generalize hn : min 65535 (s.fg R.FAB_SCLOSS_COUNT + 1) = n at ht ⊢
  generalize hv : w32 (x / 32 * 2 ^ 21 + x % 32 * 2 ^ 16 + n) = v at ht
  have hengine : t.engine x = (dropFrame x i (departs fl s)).engine x := by
    rw [ht]
    exact State.engine_congr (by simp only [State.raise_arr, State.setReg_arr]) x
  have hreg : t.reg R.FAB_SCLOSS = v := by
    rw [ht, State.raise_reg _ _ _ _ _ (by simp only [R.FAB_SCLOSS, R.FLT_ISL]; omega) (by decide), State.reg_setReg_same]
  have hflight : t.fab.flight = s.fab.flight.erase fl := by
    rw [ht, State.raise_fab]
    rfl
  obtain ⟨hplot, heng, hcnt⟩ := scloss_fields (p := x / 32) (y := x % 32) (n := n) (u := t) (by omega) (by omega) (by omega) (hreg.trans hv.symm)
  refine ⟨?_, ?_, hplot, heng, hcnt, ?_, hflight⟩
  · rw [hengine, hqueue]
    rfl
  · rw [hengine, hloss]
  · rw [ht]
    exact State.raise_bit _ _ _ _ (by decide)

/-- Settles O24: DMA descriptors, and the delivery of frames. -/
theorem dmaTransfersAndStreamFramesTakeEffect : Obligations.DmaTransfersAndStreamFramesTakeEffect := by
  refine ⟨?starts, ?fails, ?writes, ?reads, ?enters, ?overflows, ?heldM, ?heldB, ?discards⟩
  case starts =>
    intro p ecc d r f s
    exact .descriptor_starts
  case fails =>
    intro p ecc d r s
    exact .descriptor_fails
  case writes =>
    intro p cor d r len sh ca s h hrun hp _
    exact .descriptor_writes h hrun hp
  case reads =>
    intro p cor d r len sh ca s h hrun hp _
    exact .descriptor_reads h hrun hp
  case enters =>
    intro x i fl s hfind hbound hon hquarter hwhole hcls hfits
    obtain ⟨e, ⟨hqueue, hwake, hg⟩, hengine, hothers, hflight⟩ :=
      delivery_enters ⟨hfind, hbound, hon, hquarter⟩ hwhole hcls hfits
    refine .of_rule (f := streamFrameDelivery x.val i.val false) rfl (fun t ht => ht) ?_
    rw [hengine]
    exact ⟨hqueue, hwake, hg, hothers, hflight⟩
  case overflows =>
    intro x i fl s hfind hbound hon hquarter hwhole hcls hfits
    exact .of_rule (f := streamFrameDelivery x.val i.val false) rfl (fun t ht => ht)
      (delivery_overflows x.isLt ⟨hfind, hbound, hon, hquarter⟩ hwhole hcls hfits rfl)
  case heldM =>
    intro x i fl s hfind hbound hon hquarter hwhole hcls hdec hfits
    have hdec' : ((departs fl s).engine x.val).dec i.val = {} := hdec
    have hfits' : ¬fits ((departs fl s).engine x.val) i.val fl.items = true := by
      rw [Bool.not_eq_true]
      exact hfits
    obtain ⟨hengine, -, hflight⟩ := (setDecOf_delivers x.val i.val { cnt := 1 } fl s).setDec (i := i.val) { cnt := 1, held := some fl.items }
    refine .of_rule (f := streamFrameDelivery x.val i.val false) rfl (fun t ht => ht) ?_
    rw [delivery_M ⟨hfind, hbound, hon, hquarter⟩ hwhole hcls, arriveM_first hdec', offerM_first, if_neg hfits', hengine, Eng.dec_setDec,
      Eng.queue_setDec, Eng.queue_setDec]
    exact ⟨rfl, rfl, hflight⟩
  case heldB =>
    intro x i fl s hfind hbound hon hquarter hwhole hcls hheld hfits
    refine .of_rule (f := streamFrameDelivery x.val i.val false) rfl (fun t ⟨hdec, hframe⟩ => ⟨hdec, by rw [hframe]⟩) ?_
    rw [delivery_B ⟨hfind, hbound, hon, hquarter⟩ hwhole hcls hheld, if_neg (by rw [hfits]; exact Bool.false_ne_true)]
    refine ⟨?_, rfl⟩
    rw [setDecOf, State.engine_setEngine_same, Eng.dec_setDec]
  case discards =>
    intro x i lost fl s hfind hbound hon hquarter hlost
    obtain ⟨hloss, hqueue⟩ := dropFrame_loss x.val i.val (departs fl s)
    refine .of_rule (f := streamFrameDelivery x.val i.val lost) rfl (fun t ht => ht) ?_
    rw [delivery_discards ⟨hfind, hbound, hon, hquarter⟩ hlost]
    exact ⟨hloss, hqueue, rfl, ((departs fl s).setEngine x.val _).inc_sameRegs _⟩

end Sys2Proof.Machine

/-! # Starting engines (R227, R252) -/

namespace Sys2Proof.Machine

variable {x y p : Nat} {e : Eng} {s t : State}

/-! ## The start of one engine -/

/-- An engine as it starts at datum time `now` (R227). -/
def started (now : Nat) (e : Eng) : Eng :=
  { e with
    st := esRUNNING, stall := 0, g := [], ac := [], pc := e.entry, lnk := 0, loops := [], inc := 0, ph := 0, sflags := 0
    latch := [], wdog := e.wdog0, wdogAt := now, wdogUsed := 0, posted := [], buf := 0, cyc := 0, out := [], isOpen := false, fill := 0
    wake := false, barx := false, dmaExc := none, startAt := 0 }

/-- The exception record of engine `x` is cleared. -/
def clearRecord (x : Nat) (s : State) : State := (List.range 4).foldl (fun t w => t.setReg (R.ENG_EXR_W0 x + 4 * w) 0) s

theorem clearRecord_writes (x : Nat) (s : State) :
    WritesRegs ((List.range 4).map fun w => R.ENG_EXR_W0 x + 4 * w) s (clearRecord x s) :=
  List.foldlRecOn (motive := WritesRegs _ s) _ _ (.refl _ s) fun t ht w hw => ht.trans (.setReg t 0 (List.mem_map.2 ⟨w, hw, rfl⟩))

theorem clearRecord_same (x : Nat) (s : State) : (clearRecord x s).reg (R.ENG_EXR_W0 x) = 0 := by
  simp [clearRecord, List.range_succ, State.reg_setReg]

theorem clearRecord_ne (s : State) (h : y ≠ x) : (clearRecord y s).reg (R.ENG_EXR_W0 x) = s.reg (R.ENG_EXR_W0 x) :=
  (clearRecord_writes y s).1 _ (by
    simp only [List.mem_map, List.mem_range, R.ENG_EXR_W0, not_exists, not_and]
    omega)

theorem startEngine_false (x : Nat) (s : State) :
    startEngine false x s = plotRefresh (x / 32) (clearRecord x (s.setEngine x (started s.now (s.engine x)))) := rfl

theorem startEngine_engine (x : Nat) (s : State) (y : Nat) :
    (startEngine false x s).engine y = if y = x then started s.now (s.engine y) else s.engine y := by
  rw [startEngine_false, plotRefresh_engine, (clearRecord_writes _ _).engine]
  exact setEngine_engine x (started s.now) s y

theorem record_not_showsPlot (hx : x < 1024) (p : Nat) : R.ENG_EXR_W0 x ∉ showsPlot p := by
  simp only [showsPlot, dropCounters, List.mem_append, List.mem_map, List.mem_range, R.FAB_PDEC, R.ENG_PLRUN, R.ENG_PLEXC, R.ENG_PLSTAT,
    R.ENG_EXCSUM, R.ENG_STAT, R.ENG_EXR_W0, List.mem_cons, List.not_mem_nil, or_false]
  omega

theorem startEngine_record (hx : x < 1024) (y : Nat) (s : State) :
    (startEngine false y s).reg (R.ENG_EXR_W0 x) = if y = x then 0 else s.reg (R.ENG_EXR_W0 x) := by
  rw [startEngine_false, (plotRefresh_writes _ _).1 _ (record_not_showsPlot hx _)]
  split
  · next h =>
    subst h
    exact clearRecord_same ..
  · next h => exact clearRecord_ne _ h

/-! ## The start epoch -/

/-- A step of a list establishes `P`, which the others keep. -/
theorem foldl_establishes {α : Type} {K P : State → Prop} {g : State → α → State} {l : List α} {a : α} (ha : a ∈ l)
    (hK : ∀ t, ∀ b ∈ l, K t → K (g t b)) (hP : ∀ t, K t → P (g t a)) (hkeep : ∀ t, ∀ b ∈ l, b ≠ a → K t → P t → P (g t b)) (hs : K s) :
    P (l.foldl g s) := by
  obtain ⟨l1, l2, rfl⟩ := List.append_of_mem ha
  have h1 : K (l1.foldl g s) := List.foldlRecOn (motive := K) l1 g hs fun t ht b hb => hK t b (by simp [hb]) ht
  rw [List.foldl_append, List.foldl_cons]
  refine (List.foldlRecOn (motive := fun t => K t ∧ P t) l2 g ⟨hK _ a (by simp) h1, hP _ h1⟩ fun t ht b hb => ?_).2
  refine ⟨hK t b (by simp [hb]) ht.1, ?_⟩
  by_cases h : b = a
  · rw [h]
    exact hP t ht.1
  · exact hkeep t b (by simp [hb]) h ht.1 ht.2

/-- An engine runs from its entry point with its registers at 0, and its record is clear (R227). -/
def Begins (x : Nat) (e : Eng) (t : State) : Prop :=
  (t.engine x).st = esRUNNING ∧ (t.engine x).pc = e.entry ∧ (t.engine x).g = [] ∧ (t.engine x).ac = [] ∧ (t.engine x).sflags = 0 ∧
  (t.engine x).loops = [] ∧ (t.engine x).wdog = e.wdog0 ∧ t.reg (R.ENG_EXR_W0 x) = 0

theorem Begins.congr (h : Begins x e s) (hengine : t.engine x = s.engine x) (hreg : t.reg (R.ENG_EXR_W0 x) = s.reg (R.ENG_EXR_W0 x)) :
    Begins x e t := by
  rw [Begins, hengine, hreg]
  exact h

theorem nvCommit_engine (j : NvJob) (x : Nat) (s : State) : (nvCommit j s).engine x = s.engine x := rfl

theorem nvCommit_regs (j : NvJob) (s : State) : SameRegs [R.NVM_STAT] s (nvCommit j s) :=
  (SameRegs.of_regs rfl).trans ((State.fs_sameRegs _ R.NVM_STAT_BUSY _ (by decide)).trans
    (State.fs_sameRegs _ R.NVM_STAT_JCOPY _ (by decide)))

theorem startEngines_begin (hx : x < 1024) {l : List Nat} (hl : x ∈ l) (s : State) :
    Begins x (s.engine x) (l.foldl (fun t y => startEngine false y t) s) := by
  refine foldl_establishes (K := fun t => (t.engine x).entry = (s.engine x).entry ∧ (t.engine x).wdog0 = (s.engine x).wdog0) hl
    (fun t y _ ht => ?_) (fun t ht => ?_) (fun t y _ hy _ ht => ?_) ⟨rfl, rfl⟩
  · rw [startEngine_engine]
    split <;> exact ht
  · rw [Begins, startEngine_engine, if_pos rfl, startEngine_record hx, if_pos rfl]
    exact ⟨rfl, ht.1, rfl, rfl, rfl, rfl, ht.2, rfl⟩
  · rw [Begins, startEngine_engine, if_neg (Ne.symm hy), startEngine_record hx, if_neg hy]
    exact ht

theorem mem_of_get_ne {α : Type} {d : Nat → α} {m : List (Nat × α)} {k : Nat} (h : Smap.get d m k ≠ d k) : (k, Smap.get d m k) ∈ m := by
  induction m with
  | nil => exact absurd rfl h
  | cons c m ih =>
    obtain ⟨j, v⟩ := c
    by_cases hj : j = k
    · subst hj
      simp [Smap.get]
    · have hget : Smap.get d ((j, v) :: m) k = Smap.get d m k := by simp [Smap.get, hj]
      rw [hget] at h ⊢
      exact List.mem_cons_of_mem _ (ih h)

theorem Does.starts {n : Nat} {x : Fin 1024} (hready : (s.engine x.val).st = esREADY) (hepoch : (s.engine x.val).startAt ≤ n)
    (hon : s.quarterOn x.val = true) : Does (.engineStart n) s (Begins x.val (s.engine x.val)) := by
  have hmem : (x.val, s.engine x.val) ∈ s.arr.engs := mem_of_get_ne fun h => by
    have hst : (s.engine x.val).st = 0 := congrArg Eng.st h
    rw [hready] at hst
    exact absurd hst (by decide)
  refine .of_rule (f := engineStart n) rfl (fun t ht => ht) ?_
  rw [engineStart]
  generalize hgo : (((s.until (50 * n)).arr.engs.filter fun (y : Nat × Eng) =>
    y.2.st == esREADY && decide (y.2.startAt ≤ n) && (s.until (50 * n)).quarterOn y.1).map fun y => y.1) = go
  have hin : x.val ∈ go := by
    rw [← hgo]
    refine List.mem_map.2 ⟨_, List.mem_filter.2 ⟨hmem, ?_⟩, rfl⟩
    have hon' : (s.until (50 * n)).quarterOn x.val = true := hon
    simp [hready, hepoch, hon']
  have hbegins := startEngines_begin x.isLt hin (s.until (50 * n))
  simp only
  generalize go.foldl (fun t y => startEngine false y t) (s.until (50 * n)) = u at hbegins ⊢
  split
  · exact hbegins
  · exact hbegins.congr (nvCommit_engine ..) (nvCommit_regs _ _ _ (by
      simp only [R.ENG_EXR_W0, R.NVM_STAT, List.mem_singleton]
      omega))

end Sys2Proof.Machine

/-! # Staging of kernel images (R264, R431, R554) -/

namespace Sys2Proof.Machine

variable {q : Nat} {c : Sess} {b : List Byte} {s t : State}

theorem flashHead_frame (s : State) : ∃ r e, flashHead s = { s with regs := r, nv := { s.nv with eraseRec := e } } := by
  unfold flashHead
  split
  · exact ⟨_, _, rfl⟩
  · simp only
    split
    · exact ⟨_, _, rfl⟩
    · exact ⟨_, _, rfl⟩

/-- A flash operation joins the queue; beside it domains, registers and the erase record may follow (R552). -/
theorem flashOp_frame (o : FlsOp) (s : State) :
    ∃ r dm e, flashOp o s = { s with
      regs := r, dom := dm, fls := { s.fls with ops := s.fls.ops ++ [o], at_ := s.lt }, nv := { s.nv with eraseRec := e } } := by
  rw [flashOp]
  generalize hs1 : ({ s with fls := { s.fls with ops := s.fls.ops ++ [o], at_ := s.lt } } : State) = s1
  obtain ⟨dm, hdom⟩ : ∃ dm, (if s1.domOn domFLASH = true then s1 else domReqOn domFLASH s1) = { s1 with dom := dm } := by
    split
    · exact ⟨_, rfl⟩
    · exact domReqOn_frame (by decide) s1
  simp only [hdom]
  split
  · obtain ⟨r, e, h⟩ := flashHead_frame { s1 with dom := dm }
    rw [h, ← hs1]
    exact ⟨_, _, _, rfl⟩
  · rw [← hs1]
    exact ⟨_, _, _, rfl⟩

@[simp] theorem State.stage_setStage_same (s : State) (q : Nat) (v : Sess) : (s.setStage q v).stage q = v := Smap.get_set_same ..

/-- A chunk that continues its session is to be written (R431). -/
theorem chunkCase_write (hsess : u32 b 0 = c.id) (hoff : u32 b 4 = c.acc) (hlast : c.acc ≠ c.lastOff)
    (htotal : u32 b 8 = c.total) (htarget : u8 b 12 = c.target) (hfit : c.acc + u16 b 14 ≤ c.total) : chunkCase c b = .write := by
  rw [chunkCase]
  simp only [hsess, hoff, htotal, htarget]
  rw [if_neg (by omega), if_neg (by omega), if_neg (by omega), if_neg (by omega)]

theorem chunkForm_none (hreserved : u8 b 13 = 0) (hlen : b.length = 16 + u16 b 14) (h0 : u16 b 14 ≠ 0) (h2000 : u16 b 14 ≤ 2000)
    (h4 : u16 b 14 % 4 = 0) : chunkForm b = none := by
  rw [chunkForm, if_neg (by omega), if_neg (by omega)]

/-- The session after a chunk that does not complete it, and its programming. -/
theorem kernelStage_continues {p : Packet} (hform : chunkForm p.payload = none) (htarget : u8 p.payload 12 ≤ 7)
    (hid : (s.stage p.parcel).id ≠ 0) (hcase : chunkCase (s.stage p.parcel) p.payload = .write)
    (hmore : (s.stage p.parcel).acc + u16 p.payload 14 ≠ (s.stage p.parcel).total) :
    ∃ o, kernelStage p s = flashOp o (s.setStage p.parcel (chunkTake (s.stage p.parcel) p.payload s.lt)) := by
  have hopen : ((s.stage p.parcel).id == 0) = false := beq_eq_false_iff_ne.2 hid
  have hmore' : ¬(chunkTake (s.stage p.parcel) p.payload s.lt).acc = (chunkTake (s.stage p.parcel) p.payload s.lt).total := hmore
  simp only [kernelStage, hform, hcase, if_neg (Nat.not_lt.2 htarget), hopen, Bool.false_and, Bool.false_eq_true, if_false, if_neg hmore']
  exact ⟨_, rfl⟩

theorem Does.stages {p q : Packet} {s1 : State} (ha : Admits 0x50 p s q s1) (hid : (s1.stage q.parcel).id ≠ 0)
    (hsess : u32 q.payload 0 = (s1.stage q.parcel).id) (hoff : u32 q.payload 4 = (s1.stage q.parcel).acc)
    (hlast : (s1.stage q.parcel).acc ≠ (s1.stage q.parcel).lastOff) (htotal : u32 q.payload 8 = (s1.stage q.parcel).total)
    (htarget : u8 q.payload 12 = (s1.stage q.parcel).target) (h7 : u8 q.payload 12 ≤ 7) (hform : chunkForm q.payload = none)
    (hmore : (s1.stage q.parcel).acc + u16 q.payload 14 < (s1.stage q.parcel).total) :
    Does (.kernelStage p) s fun t => (t.stage q.parcel).acc = (s1.stage q.parcel).acc + u16 q.payload 14 ∧
      (t.stage q.parcel).data = (s1.stage q.parcel).data ++ q.payload.drop 16 ∧ (t.stage q.parcel).at_ = s1.lt ∧
      t.fls.ops.length = s1.fls.ops.length + 1 := by
  obtain ⟨o, hstage⟩ := kernelStage_continues (s := s1) (p := q) hform h7 hid
    (chunkCase_write hsess hoff hlast htotal htarget (Nat.le_of_lt hmore)) (Nat.ne_of_lt hmore)
  refine .of_request rfl ha (fun t ht => ht) ?_
  obtain ⟨r, dm, e, hflash⟩ := flashOp_frame o (s1.setStage q.parcel (chunkTake (s1.stage q.parcel) q.payload s1.lt))
  have hsession : ((kernelStage q s1).stage q.parcel) = chunkTake (s1.stage q.parcel) q.payload s1.lt := by
    rw [hstage, hflash]
    exact State.stage_setStage_same ..
  have hops : (kernelStage q s1).fls.ops = s1.fls.ops ++ [o] := by
    rw [hstage, hflash]
    rfl
  rw [hsession, hops]
  exact ⟨rfl, rfl, rfl, List.length_append ..⟩

theorem flashBackground_frame (s : State) : ∃ r dm e f, flashBackground s =
    { s with regs := r, dom := dm, fls := f, nv := { s.nv with eraseRec := e } } := by
  unfold flashBackground
  split
  · obtain ⟨r, dm, e, h⟩ := flashOp_frame _ s
    exact ⟨r, dm, e, _, h⟩
  · exact ⟨_, _, _, _, rfl⟩

/-- The lease of a session ends (R264). -/
theorem Does.lease_ends {q : Fin 8} (hid : (s.stage q.val).id ≠ 0) (hdue : s.due (s.stage q.val).at_ 60000000000 = true) :
    Does (.kernelLeaseExpiry q) s fun t => t.stage q.val = {} ∧ t.nv.ksErase = s.nv.ksErase ++ (s.stage q.val).sects := by
  refine .of_rule (f := kernelLeaseExpiry q.val) rfl (fun t ht => ht) ?_
  have hlive : ¬((s.stage q.val).id = 0 ∨ (!s.due (s.stage q.val).at_ 60000000000) = true) := by
    simp [hid, hdue]
  rw [kernelLeaseExpiry, if_neg hlive]
  obtain ⟨r, dm, e, f, h⟩ := flashBackground_frame { s.setStage q.val {} with
    nv := { (s.setStage q.val {}).nv with ksErase := (s.setStage q.val {}).nv.ksErase ++ (s.stage q.val).sects } }
  rw [h]
  exact ⟨s.stage_setStage_same q.val {}, rfl⟩

end Sys2Proof.Machine

/-! # Engine control by requests (R253, R254) -/

namespace Sys2Proof.Machine

variable {p x y : Nat} {l : List Nat} {q : Packet} {s t : State}

theorem mem_masked {mask : Nat} (h : x ∈ masked p mask) : x / 32 = p := by
  obtain ⟨e, he, rfl⟩ := List.mem_map.1 h
  have := List.mem_range.1 (List.mem_of_mem_filter he)
  omega

theorem masked_nodup (p mask : Nat) : (masked p mask).Nodup :=
  (List.nodup_range.filter _).map fun _ _ h => Nat.add_left_cancel h

/-! ## Replies leave the engine array -/

theorem replyUnits_arr (sts : List Stat) (res : List Byte) (h : q.noReply = false) (s : State) : (replyUnits q sts res .ok s).arr = s.arr := by
  obtain ⟨rest, hs⟩ := replyAs_sends (if sts.any fun t => t.code == 0 then (unitStat sts .ok).disp else 2) q (unitStat sts .ok)
    (unitBody sts res) 0 s h
  rw [replyUnits, hs.frame]
  rfl

theorem replyUnits_ok {sts : List Stat} (hok : ∀ t ∈ sts, t = .ok) (res : List Byte) (h : q.noReply = false) (s : State) :
    (replyUnits q sts res .ok s).lastReply = some [0, 0] := by
  rw [(replyUnits_spec q sts res s h).1, List.eq_replicate_of_mem hok, unitStat_all_ok]
  rfl

/-! ## Halt (R254) -/

/-- An engine as it was in `s` but halted, or on the way to that. -/
theorem halts_engine (hl : ∀ y ∈ l, y / 32 = p) (hx : x ∈ l) (s : State) :
    ((l.foldl (fun t y => engineAction 1 y t) s).engine x).st =
        (if (s.engine x).st = esRUNNING then esHALTED else (s.engine x).st) ∧
      ((l.foldl (fun t y => engineAction 1 y t) s).engine x).pc = (s.engine x).pc ∧
      ((l.foldl (fun t y => engineAction 1 y t) s).engine x).g = (s.engine x).g := by
  have happlies : ∀ st, actionApplies 1 st = true ↔ st = esRUNNING := fun st => beq_iff_eq
  have hother : ∀ t, ∀ y ∈ l, y ≠ x → (engineAction 1 y t).engine x = t.engine x ∨
      ((t.engine x).st = esRUNNING ∧ ∃ b, (engineAction 1 y t).engine x = barDone b (t.engine x)) := fun t y hy hyx => by
    rw [engineAction]
    split
    · exact .inl rfl
    · exact stopEngine_engine_ne t ((hl x hx).trans (hl y hy).symm) (Ne.symm hyx)
  have hself : ∀ t, ((engineAction 1 x t).engine x).st = (if (t.engine x).st = esRUNNING then esHALTED else (t.engine x).st) ∧
      ((engineAction 1 x t).engine x).pc = (t.engine x).pc ∧ ((engineAction 1 x t).engine x).g = (t.engine x).g := fun t => by
    rw [engineAction]
    by_cases hrun : (t.engine x).st = esRUNNING
    · obtain ⟨o, n, w, hstop⟩ := stopEngine_engine x (st := esHALTED) (by decide) t
      rw [hrun, if_pos rfl, if_neg (by decide), if_pos rfl, hstop]
      exact ⟨rfl, rfl, rfl⟩
    · have hno : (!actionApplies 1 (t.engine x).st) = true := by
        rw [Bool.not_eq_true', ← Bool.not_eq_true, happlies]
        exact hrun
      rw [if_pos hno, if_neg hrun]
      exact ⟨rfl, rfl, rfl⟩
  refine foldl_establishes (K := fun t => (if (t.engine x).st = esRUNNING then esHALTED else (t.engine x).st) =
      (if (s.engine x).st = esRUNNING then esHALTED else (s.engine x).st) ∧ (t.engine x).pc = (s.engine x).pc ∧
      (t.engine x).g = (s.engine x).g)
    (P := fun t => (t.engine x).st = (if (s.engine x).st = esRUNNING then esHALTED else (s.engine x).st) ∧
      (t.engine x).pc = (s.engine x).pc ∧ (t.engine x).g = (s.engine x).g) hx
    (fun t y hy ⟨hst, hpc, hg⟩ => ?_) (fun t ⟨hst, hpc, hg⟩ => ?_) (fun t y hy hyx _ ⟨hst, hpc, hg⟩ => ?_) ⟨rfl, rfl, rfl⟩
  · by_cases hyx : y = x
    · subst hyx
      obtain ⟨hst', hpc', hg'⟩ := hself t
      refine ⟨?_, hpc'.trans hpc, hg'.trans hg⟩
      rw [hst', ← hst]
      by_cases hrun : (t.engine y).st = esRUNNING
      · rw [if_pos hrun]
        rfl
      · rw [if_neg hrun, if_neg hrun]
    · obtain h | ⟨hrun, b, h⟩ := hother t y hy hyx
      · rw [h]
        exact ⟨hst, hpc, hg⟩
      · rw [h]
        exact ⟨hst, hpc, hg⟩
  · obtain ⟨hst', hpc', hg'⟩ := hself t
    exact ⟨hst'.trans hst, hpc'.trans hpc, hg'.trans hg⟩
  · obtain h | ⟨hrun, b, h⟩ := hother t y hy hyx
    · rw [h]
      exact ⟨hst, hpc, hg⟩
    · rw [h]
      exact ⟨hst, hpc, hg⟩

/-! ## Resume (R254) -/

/-- A halted engine goes on at datum time `now`; the others stay. -/
def resumed (now : Nat) (e : Eng) : Eng :=
  if e.st = esHALTED then { e with st := esRUNNING, dmaExc := none, wdogAt := now - e.wdogUsed } else e

theorem engineAction_resume (h : (t.engine y).dmaExc = none) (z : Nat) :
    (engineAction 2 y t).engine z = (if z = y then resumed t.now (t.engine z) else t.engine z) ∧ (engineAction 2 y t).now = t.now := by
  rw [engineAction]
  by_cases hhalt : (t.engine y).st = esHALTED
  · have happlies : (!actionApplies 2 (t.engine y).st) = false := by
      rw [hhalt]
      rfl
    have hresume : resumeEngine y t = plotRefresh (y / 32) (t.setEngine y (resumed t.now (t.engine y))) := by
      rw [resumeEngine, resumed, if_pos hhalt]
      simp only [h]
    rw [happlies, if_neg Bool.false_ne_true, if_neg (by decide), if_pos rfl, hresume]
    refine ⟨?_, ?_⟩
    · rw [plotRefresh_engine]
      exact setEngine_engine y (resumed t.now) t z
    · rw [(plotRefresh_writes _ _).2]
      rfl
  · have hno : (!actionApplies 2 (t.engine y).st) = true := by
      rw [Bool.not_eq_true']
      exact beq_eq_false_iff_ne.2 hhalt
    rw [if_pos hno]
    refine ⟨?_, rfl⟩
    split
    · next hz =>
      rw [hz, resumed, if_neg hhalt]
    · rfl

theorem resumed_dmaExc {now : Nat} {e : Eng} (h : e.dmaExc = none) : (resumed now e).dmaExc = none := by
  unfold resumed
  split
  · rfl
  · exact h

theorem resumes_engine (hl : l.Nodup) (hexc : ∀ y ∈ l, (s.engine y).dmaExc = none) (x : Nat) :
    (l.foldl (fun t y => engineAction 2 y t) s).engine x = if x ∈ l then resumed s.now (s.engine x) else s.engine x := by
  refine foldl_engine (I := fun t => t.now = s.now ∧ ∀ y ∈ l, (t.engine y).dmaExc = none) (f := fun _ => resumed s.now) hl
    (fun t ⟨hnow, hnone⟩ z hz => ?_) ⟨rfl, hexc⟩ x
  have hengine := fun y => (engineAction_resume (hnone z hz) y).1
  rw [hnow] at hengine
  refine ⟨⟨(engineAction_resume (hnone z hz) z).2.trans hnow, fun y hy => ?_⟩, hengine⟩
  rw [hengine]
  split
  · exact resumed_dmaExc (hnone y hy)
  · exact hnone y hy

/-! ## Restart (R254, R227) -/

/-- The held frames of an engine that starts again are discarded. -/
def dropHeld (x : Nat) (e : Eng) (i : Nat) (t : State) : State := if (e.dec i).held.isSome then dropFrame x i t else t

/-- An engine as it starts again, with its data image as the store holds it. -/
def restarted (s : State) (x : Nat) (e1 : Eng) : Eng :=
  { e1 with
    st := esRUNNING, stall := 0, g := [], ac := [], pc := (s.engine x).entry, lnk := 0, loops := [], inc := 0, ph := 0, sflags := 0
    latch := [], wdog := (s.engine x).wdog0, wdogAt := s.now, wdogUsed := 0, posted := [], buf := 0, cyc := 0, out := [], isOpen := false
    fill := 0, wake := false, barx := false, dmaExc := none, startAt := 0, dmem := dataImage (s.kernel ((s.engine x).key - 1)), q0 := []
    q1 := [], dec0 := {}, dec1 := {} }

theorem startEngine_true (x : Nat) (s : State) :
    startEngine true x s = plotRefresh (x / 32) (clearRecord x ((dropHeld x (s.engine x) 1 (dropHeld x (s.engine x) 0 s)).setEngine x
      (restarted s x ((dropHeld x (s.engine x) 1 (dropHeld x (s.engine x) 0 s)).engine x)))) := rfl

theorem dropHeld_tends (x : Nat) (e : Eng) (i : Nat) (s : State) : Tends (x / 32) s (dropHeld x e i s) := by
  unfold dropHeld
  split
  · exact dropFrame_tends ..
  · exact .refl _ s

theorem dropHeld_engine_ne (e : Eng) (i : Nat) (s : State) (h : y ≠ x) : (dropHeld x e i s).engine y = s.engine y := by
  unfold dropHeld
  split
  · exact dropFrame_engine_ne s h
  · rfl

theorem dropHeld_engine (x : Nat) (e : Eng) (i : Nat) (s : State) :
    ∃ a b c, (dropHeld x e i s).engine x = { s.engine x with drop0 := a, drop1 := b, sflags := c } := by
  unfold dropHeld
  split
  · exact dropFrame_engine x i s
  · exact ⟨_, _, _, rfl⟩

/-- What a restart leaves of engine `x`: entry point, kernel and empty registers. -/
theorem startEngine_true_engine (x : Nat) (s : State) :
    ∃ a b, (startEngine true x s).engine x = { restarted s x (s.engine x) with drop0 := a, drop1 := b } := by
  obtain ⟨a, b, c, h0⟩ := dropHeld_engine x (s.engine x) 0 s
  obtain ⟨a', b', c', h1⟩ := dropHeld_engine x (s.engine x) 1 (dropHeld x (s.engine x) 0 s)
  rw [startEngine_true, plotRefresh_engine, (clearRecord_writes _ _).engine, State.engine_setEngine_same, h1, h0]
  exact ⟨_, _, rfl⟩

theorem startEngine_true_engine_ne (s : State) (h : y ≠ x) : (startEngine true x s).engine y = s.engine y := by
  rw [startEngine_true, plotRefresh_engine, (clearRecord_writes _ _).engine, State.engine_setEngine_ne _ _ h, dropHeld_engine_ne _ _ _ h,
    dropHeld_engine_ne _ _ _ h]

theorem startEngine_true_record (hx : x < 1024) (y : Nat) (s : State) :
    (startEngine true y s).reg (R.ENG_EXR_W0 x) = if y = x then 0 else s.reg (R.ENG_EXR_W0 x) := by
  rw [startEngine_true, (plotRefresh_writes _ _).1 _ (record_not_showsPlot hx _)]
  split
  · next h =>
    subst h
    exact clearRecord_same ..
  · next h =>
    rw [clearRecord_ne _ h]
    exact (((dropHeld_tends y (s.engine y) 0 s).trans (dropHeld_tends y (s.engine y) 1 _)).regs _ (record_not_showsPlot hx _))

theorem startEngine_true_nv (x : Nat) (s : State) : (startEngine true x s).nv = s.nv := by
  have htends := ((dropHeld_tends x (s.engine x) 0 s).trans (dropHeld_tends x (s.engine x) 1 _))
  obtain ⟨r, o, e, pl, f, h⟩ := htends.frame
  rw [startEngine_true, (plotRefresh_writes _ _).2, (clearRecord_writes _ _).2, h]
  rfl

/-- An engine that runs from its entry point on its data image. -/
def Restarts (x : Nat) (s t : State) : Prop :=
  (t.engine x).st = esRUNNING ∧ (t.engine x).pc = (s.engine x).entry ∧ (t.engine x).g = [] ∧
  (t.engine x).dmem = dataImage (s.kernel ((s.engine x).key - 1)) ∧ t.reg (R.ENG_EXR_W0 x) = 0

theorem restarts_engine (hx : x < 1024) (hl : x ∈ l) (hst : actionApplies 3 (s.engine x).st = true) :
    Restarts x s (l.foldl (fun t y => engineAction 3 y t) s) := by
  have hstart : ∀ t y, engineAction 3 y t = if actionApplies 3 (t.engine y).st = true then startEngine true y t else t := fun t y => by
    rw [engineAction]
    cases actionApplies 3 (t.engine y).st <;> rfl
  have hother : ∀ t y, y ≠ x → (engineAction 3 y t).engine x = t.engine x ∧ (engineAction 3 y t).nv = t.nv ∧
      (engineAction 3 y t).reg (R.ENG_EXR_W0 x) = t.reg (R.ENG_EXR_W0 x) := fun t y hy => by
    rw [hstart]
    split
    · rw [startEngine_true_engine_ne t (Ne.symm hy), startEngine_true_nv, startEngine_true_record hx, if_neg hy]
      exact ⟨rfl, rfl, rfl⟩
    · exact ⟨rfl, rfl, rfl⟩
  have hself : ∀ t, t.engine x = s.engine x → t.nv = s.nv → Restarts x s (engineAction 3 x t) ∧ (engineAction 3 x t).nv = s.nv :=
    fun t he hnv => by
      obtain ⟨a, b, hengine⟩ := startEngine_true_engine x t
      rw [hstart, he, if_pos hst, Restarts, hengine, startEngine_true_nv, startEngine_true_record hx, if_pos rfl, restarted, he,
        State.kernel, State.kernel, hnv]
      exact ⟨⟨rfl, rfl, rfl, rfl, rfl⟩, rfl⟩
  have hagain : ∀ t, Restarts x s t → engineAction 3 x t = t := fun t ht => by
    rw [hstart, ht.1]
    rfl
  refine foldl_establishes (K := fun t => t.nv = s.nv ∧ (t.engine x = s.engine x ∨ Restarts x s t)) (P := Restarts x s) hl
    (fun t y _ ⟨hnv, ht⟩ => ?_) (fun t ⟨hnv, ht⟩ => ?_) (fun t y _ hy _ ht => ?_) ⟨rfl, .inl rfl⟩
  · by_cases hy : y = x
    · subst hy
      obtain he | ht := ht
      · exact ⟨(hself t he hnv).2, .inr (hself t he hnv).1⟩
      · rw [hagain t ht]
        exact ⟨hnv, .inr ht⟩
    · obtain ⟨hengine, hnv', hreg⟩ := hother t y hy
      refine ⟨hnv'.trans hnv, ht.imp (hengine.trans ·) fun ht => ?_⟩
      rw [Restarts, hengine, hreg]
      exact ht
  · obtain he | ht := ht
    · exact (hself t he hnv).1
    · rw [hagain t ht]
      exact ht
  · obtain ⟨hengine, -, hreg⟩ := hother t y hy
    rw [Restarts, hengine, hreg]
    exact ht

end Sys2Proof.Machine

/-! # ENGINE_CTL and ENGINE_STAT (R253, R254) -/

namespace Sys2Proof.Machine

variable {act pl : Nat} {p q : Packet} {s s1 : State}

/-- ENGINE_CTL of engines to which the action applies. -/
theorem engineCtl_applies (hlen : q.payload.length = 8) (hact : u8 q.payload 1 = act) (h0 : act ≠ 0) (h3 : act ≤ 3) (hslot : u8 q.payload 0 ≤ 31)
    (hreserved : u16 q.payload 2 = 0) (hmask : u32 q.payload 4 ≠ 0) (hplot : s.slotPlot q.parcel (u8 q.payload 0) = some pl)
    (hshut : (s.plot pl).shut = false) (hoff : act = 2 ∨ s.energised = false)
    (happlies : ∀ x ∈ masked pl (u32 q.payload 4), actionApplies act (s.engine x).st = true) :
    ∃ sts, (∀ t ∈ sts, t = Stat.ok) ∧ engineCtl q s =
      replyUnits q sts [] .ok ((masked pl (u32 q.payload 4)).foldl (fun t x => engineAction act x t) s) := by
  have hsafe : ¬(act ≠ 2 ∧ (masked pl (u32 q.payload 4)).any (holdsSafety s) = true ∧ s.energised = true) := by
    rintro ⟨h2, -, hen⟩
    rw [hoff.resolve_left h2] at hen
    exact Bool.false_ne_true hen
  refine ⟨(masked pl (u32 q.payload 4)).map fun x => if actionApplies act (s.engine x).st then Stat.ok else
    if (s.engine x).st = esOFF then Stat.blockReset else Stat.refused rSTATE, fun t ht => ?_, ?_⟩
  · obtain ⟨x, hx, rfl⟩ := List.mem_map.1 ht
    exact if_pos (happlies x hx)
  · rw [engineCtl, withLen, if_pos hlen]
    simp only [hact, hplot, hshut]
    rw [if_neg (by omega), if_neg Bool.false_ne_true, if_neg hsafe]

/-- What an action leaves of the named engines, and its reply. -/
theorem Does.controls {c : Instr} {l : List Nat} {P : State → Prop} (hexec : exec c s = run (engineCtlRow act p) s)
    (hrow : u8 p.payload 1 = act) (ha : Admits 0x52 p s q s1) (hreply : q.noReply = false)
    (hctl : ∃ sts, (∀ t ∈ sts, t = Stat.ok) ∧ engineCtl q s1 = replyUnits q sts [] .ok (l.foldl (fun t x => engineAction act x t) s1))
    (hP : ∀ t, t.arr = (l.foldl (fun t x => engineAction act x t) s1).arr →
      (∀ a, a < 0x130108 → t.reg a = (l.foldl (fun t x => engineAction act x t) s1).reg a) → P t) :
    Does c s fun t => t.lastReply = some [0, 0] ∧ P t := by
  obtain ⟨sts, hok, hctl⟩ := hctl
  have hrun : run (engineCtlRow act p) s = run (request 0x52 p engineCtl) s := by
    rw [run, run, engineCtlRow, if_pos hrow]
  refine .of_admits (hexec.trans hrun) ha ?_
  rw [hctl]
  refine ⟨replyUnits_ok hok [] hreply _, hP _ ?_ fun a ha => ?_⟩
  · exact replyUnits_arr sts [] hreply _
  · exact (replyUnits_spec q sts [] _ hreply).2.2.2 a (not_mem_replyCounters ha)

theorem engineStat_one {i : Byte} (hpayload : q.payload = [1, i, 0, 0]) (hplot : s.slotPlot q.parcel i.toNat = some pl) :
    engineStat q s = replyUnits q [.ok] (wordBytes (s.reg (R.ENG_PLSTAT pl)) ++ wordBytes (s.reg (R.ENG_PLFLT pl)) ++
      wordBytes (s.reg (R.ENG_PLRUN pl)) ++ wordBytes (s.reg (R.ENG_PLEXC pl)) ++ (engines pl).flatMap fun x =>
        (List.range 4).flatMap fun w => wordBytes (s.reg (R.ENG_EXR_W0 x + 4 * w))) .ok s := by
  have h0 : u8 q.payload 0 = 1 := by
    rw [hpayload]
    rfl
  have h1 : u8 q.payload 1 = i.toNat := by
    rw [hpayload]
    rfl
  rw [engineStat, withLen, if_pos (by rw [hpayload]; rfl)]
  simp only [h0, h1, hplot, List.range_one, List.map_cons, List.map_nil, Nat.add_zero, Option.isSome_some, if_true, List.filterMap_cons,
    List.filterMap_nil, List.flatMap_cons, List.flatMap_nil, List.append_nil]
  exact if_neg (by decide)

end Sys2Proof.Machine

/-! # Loading kernels (R265, R266) -/

namespace Sys2Proof.Machine

variable {p x pl mask key : Nat} {q : Packet} {b : List Byte} {l : Load} {s t : State}

/-! ## Image into engines (step 2 of R266) -/

/-- Engine `x` holds image `b`, READY. -/
def Holds (b : List Byte) (x : Nat) (t : State) : Prop :=
  (t.engine x).st = esREADY ∧ (t.engine x).kid = kiKID b ∧ (t.engine x).entry = kiENTRY b ∧ (t.engine x).dmem = dataImage b

theorem loadEngine_same (key inst pos start : Nat) (b : List Byte) (x : Nat) (s : State) :
    Holds b x (loadEngine key inst pos start b x s) := by
  have hengine : (loadEngine key inst pos start b x s).engine x = _ := ((clearRecord_writes x _).engine x).trans (State.engine_setEngine_same ..)
  rw [Holds, hengine]
  exact ⟨rfl, rfl, rfl, rfl⟩

theorem loadEngine_ne {y : Nat} (key inst pos start : Nat) (b : List Byte) (s : State) (h : x ≠ y) :
    (loadEngine key inst pos start b y s).engine x = s.engine x :=
  ((clearRecord_writes y _).engine x).trans (State.engine_setEngine_ne _ _ h)

theorem Holds.congr (h : Holds b x s) (he : t.engine x = s.engine x) : Holds b x t := by
  rw [Holds, he]
  exact h

/-- Every engine of the list holds the image once it has been loaded. -/
theorem foldl_loadEngine_holds {xs : List Nat} (hx : x ∈ xs) (key base n start : Nat) (b : List Byte) (s : State) :
    Holds b x ((List.range xs.length).foldl (fun t i => loadEngine key (base + 1 + i / n) (i % n) start b (xs.getD i 0) t) s) := by
  obtain ⟨j, hj, hget⟩ := List.getElem_of_mem hx
  refine foldl_establishes (K := fun _ => True) (a := j) (List.mem_range.2 hj) (fun _ _ _ _ => trivial) (fun t _ => ?_)
    (fun t i _ _ _ ht => ?_) trivial
  · rw [List.getD_eq_getElem _ _ hj, hget]
    exact loadEngine_same ..
  · by_cases hi : x = xs.getD i 0
    · rw [← hi]
      exact loadEngine_same ..
    · exact ht.congr (loadEngine_ne _ _ _ _ _ _ hi)

theorem Holds.unpost {a n : Nat} (h : Holds b x s) (he : t.engine x = (s.engine x).unpost a n) : Holds b x t := by
  rw [Holds, he]
  exact h

/-- The engines of a plot with their image, before the plot's memory and registers follow. -/
def loadedEngines (key start p mask : Nat) (s : State) : State :=
  let b := s.kernel key
  let xs := masked p mask
  let u := (List.range xs.length).foldl (fun t i =>
    loadEngine key (s.arr.instCtr + 1 + i / max 1 (kiNENG b)) (i % max 1 (kiNENG b)) start b (xs.getD i 0) t) s
  { u with arr := { u.arr with instCtr := s.arr.instCtr + 1 + xs.length / max 1 (kiNENG b) } }

theorem loadedEngines_holds (hx : x ∈ masked p mask) (key start : Nat) (s : State) :
    Holds (s.kernel key) x (loadedEngines key start p mask s) :=
  foldl_loadEngine_holds hx key s.arr.instCtr (max 1 (kiNENG (s.kernel key))) start (s.kernel key) s

/-- The plot's memory and registers follow the image `b`. -/
def showImage (p : Nat) (b : List Byte) (s : State) : State :=
  plotRefresh p (((writeShared p 0x10000 ((b.drop (kiShared b)).take (64 * kiSSIZE b)) s).setReg (R.ENG_PLKID p) (w32 (kiKID b))).setReg
    (R.ENG_PLKVER p) (w32 (kiKVER b)))

theorem loadPlot_eq (key start p mask : Nat) (s : State) :
    loadPlot key start p mask s = showImage p (s.kernel key) (loadedEngines key start p mask s) := rfl

theorem showImage_engine (p : Nat) (b : List Byte) (s : State) (y : Nat) : ∃ a n,
    (showImage p b s).engine y = if y / 32 = p then (s.engine y).unpost a n else s.engine y := by
  refine ⟨0x10000, ((b.drop (kiShared b)).take (64 * kiSSIZE b)).length, ?_⟩
  have h := writeShared_engine p 0x10000 ((b.drop (kiShared b)).take (64 * kiSSIZE b)) s y
  rw [showImage, plotRefresh_engine]
  generalize writeShared p 0x10000 ((b.drop (kiShared b)).take (64 * kiSSIZE b)) s = u at h ⊢
  exact h

/-- The named engines of a plot hold the image after its load. -/
theorem loadPlot_holds (hx : x ∈ masked p mask) (key start : Nat) (s : State) :
    Holds (s.kernel key) x (loadPlot key start p mask s) := by
  obtain ⟨a, n, h⟩ := showImage_engine p (s.kernel key) (loadedEngines key start p mask s) x
  rw [if_pos (mem_masked hx)] at h
  rw [loadPlot_eq]
  exact (loadedEngines_holds hx key start s).unpost h

/-! ## A load whose domains are on (R266) -/

theorem runLoads_single (hloads : s.arr.loads = [l])
    (hready : (l.plots.all fun pm => ((quarters pm.1 pm.2).all fun d => s.domOn d) && !((masked pm.1 pm.2).any (hasDesc s))) = true) :
    runLoads s = runLoad l { s with arr := { s.arr with loads := [] } } := by
  rw [runLoads]
  simp only [hloads, List.filter_cons, hready, if_true, List.filter_nil, Bool.not_true, Bool.false_eq_true, if_false, List.foldl_cons,
    List.foldl_nil]

/-- The engines that a load names have stopped, each in IDLE or OFF (step 1 of R266). -/
def stopNamed (xs : List Nat) (s : State) : State :=
  xs.foldl (fun t x => (stopEngine x esIDLE t).setEngine x { st := if (stopEngine x esIDLE t).quarterOn x then esIDLE else esOFF }) s

theorem stopNamed_tends {xs : List Nat} (h : ∀ x ∈ xs, x / 32 = p) (s : State) : Tends p s (stopNamed xs s) :=
  Tends.foldl _ (fun t x hx => by
    have htends := stopEngine_tends x esIDLE t
    rw [h x hx] at htends
    exact htends.trans (.setEngine (h x hx) _ _)) s

theorem Tends.dom (h : Tends p s t) : t.dom = s.dom := by
  obtain ⟨r, o, e, pl, f, h⟩ := h.frame
  rw [h]

theorem Tends.nv (h : Tends p s t) : t.nv = s.nv := by
  obtain ⟨r, o, e, pl, f, h⟩ := h.frame
  rw [h]

/-- The quarter-plots that a load needs are asked for. -/
def askQuarters (ds : List Nat) (s : State) : State := ds.foldl (fun t d => if t.domOn d then t else domReqOn d t) s

def enqueueLoad (l : Load) (s : State) : State := { s with arr := { s.arr with loads := s.arr.loads ++ [l] } }

theorem beginLoad_eq (l : Load) (s : State) : beginLoad l s = runLoads (enqueueLoad l (askQuarters (l.plots.flatMap fun pm => quarters pm.1 pm.2)
    (stopNamed (l.plots.flatMap fun pm => masked pm.1 pm.2) s))) := rfl

theorem askQuarters_on {ds : List Nat} (h : ∀ d ∈ ds, s.domOn d = true) : askQuarters ds s = s :=
  List.foldlRecOn (motive := fun t => t = s) ds _ rfl fun t ht d hd => by rw [ht, if_pos (h d hd)]

theorem Tends.domOn (h : Tends p s t) (d : Nat) : t.domOn d = s.domOn d := by
  rw [State.domOn, State.domOn, State.domStep, State.domStep, h.dom]

/-- A load of one plot whose quarter-plots are on and which has no descriptors runs at once. -/
theorem beginLoad_runs (hplots : l.plots = [(pl, mask)]) (hon : ((quarters pl mask).all fun d => s.domOn d) = true)
    (hdma : (s.plot pl).dma = []) (hloads : s.arr.loads = []) :
    ∃ u, beginLoad l s = runLoad l u ∧ u.nv = s.nv := by
  have htends := stopNamed_tends (fun x hx => mem_masked hx) s (xs := masked pl mask) (p := pl)
  obtain ⟨m, hm⟩ := htends.plots pl
  rw [beginLoad_eq, hplots, List.flatMap_singleton, List.flatMap_singleton]
  generalize stopNamed (masked pl mask) s = u at htends hm ⊢
  have hon' : ∀ d ∈ quarters pl mask, u.domOn d = true := fun d hd => (htends.domOn d).trans (List.all_eq_true.1 hon d hd)
  have hidle : ∀ x ∈ masked pl mask, ¬ hasDesc (enqueueLoad l u) x = true := fun x hx => by
    have hplot : (enqueueLoad l u).plot (x / 32) = { s.plot pl with mem := m } := by
      rw [mem_masked hx]
      exact hm
    rw [hasDesc, hplot, hdma]
    exact Bool.false_ne_true
  have hadd : (enqueueLoad l u).arr.loads = [l] := by
    change u.arr.loads ++ [l] = [l]
    rw [htends.loads, hloads]
    rfl
  refine ⟨{ enqueueLoad l u with arr := { (enqueueLoad l u).arr with loads := [] } }, ?_, htends.nv⟩
  rw [askQuarters_on hon']
  refine runLoads_single hadd ?_
  rw [hplots, List.all_cons, List.all_nil, Bool.and_true, Bool.and_eq_true, Bool.not_eq_true', List.any_eq_false]
  exact ⟨List.all_eq_true.2 hon', hidle⟩

end Sys2Proof.Machine

/-! # LOAD_KERNEL and the kernel commands (R265) -/

namespace Sys2Proof.Machine

variable {p x pl key : Nat} {q : Packet} {b : List Byte} {l : Load} {s t : State}

/-! ## LOAD_KERNEL (R265) -/

theorem maskSlots_one (i : Fin 32) : maskSlots (2 ^ i.val) = [i.val] := by
  revert i
  decide

/-- A LOAD_KERNEL whose operands are in order, for one slot whose plot is free. -/
structure LoadAsked (q : Packet) (pl : Nat) (s : State) : Prop where
  length : q.payload.length = 12
  key : u8 q.payload 0 ≤ 7
  reserved : leAt q.payload 1 3 = 0
  mask : u32 q.payload 8 ≠ 0
  slot : ∃ i : Fin 32, u32 q.payload 4 = 2 ^ i.val ∧ s.slotPlot q.parcel i.val = some pl
  safety : q.parcel = 0 ∨ kiSAFETY (s.kernel (8 * q.parcel + u8 q.payload 0)) = false
  free : s.plotState pl < psMIGR
  kept : s.tb R.ENG_RETIRED_RET pl = false
  warm : (s.plot pl).shut = false
  streams : ((List.range (kiNBIND (s.kernel (8 * q.parcel + u8 q.payload 0)))).all fun k => streamOk s q.parcel
    (kiBinding (s.kernel (8 * q.parcel + u8 q.payload 0)) k).2.1 (kiBinding (s.kernel (8 * q.parcel + u8 q.payload 0)) k).2.2) = true
  dma : kiDMA (s.kernel (8 * q.parcel + u8 q.payload 0)) = false ∨ s.capFit = true ∧ s.fg (R.CAD_PCAP_CAPSZ q.parcel) ≠ 0
  off : s.energised = false

/-- The load that such a request begins. -/
def askedLoad (q : Packet) (pl : Nat) (s : State) : Load :=
  { req := some q, field := q.seqep, plots := [(pl, u32 q.payload 8)], key := 8 * q.parcel + u8 q.payload 0, at_ := s.now }

theorem loadKernel_asked (h : LoadAsked q pl s) : loadKernel q s =
    if kernelOk (s.kernel (8 * q.parcel + u8 q.payload 0)) = false then reply q .badParam [] 0 s
    else if kernelSigned s (s.kernel (8 * q.parcel + u8 q.payload 0)) = false then reply q .authFail [] 0 s
    else beginLoad (askedLoad q pl s) s := by
  obtain ⟨i, hi, hslot⟩ := h.slot
  have hfree : (decide (s.plotState pl = psMIGR ∨ s.plotState pl = psTEST ∨ s.plotState pl = psRETIRED) || s.tb R.ENG_RETIRED_RET pl) =
      false := by
    have hlt := h.free
    have hst : ¬(s.plotState pl = psMIGR ∨ s.plotState pl = psTEST ∨ s.plotState pl = psRETIRED) := by
      simp only [psMIGR, psTEST, psRETIRED] at hlt ⊢
      omega
    rw [decide_eq_false hst, h.kept, Bool.or_false]
  have hmask := h.mask
  have hkey := h.key
  have hsafety : ¬(kiSAFETY (s.kernel (8 * q.parcel + u8 q.payload 0)) = true ∧ q.parcel ≠ 0) := by
    rintro ⟨h1, h2⟩
    rw [h.safety.resolve_left h2] at h1
    exact Bool.false_ne_true h1
  have hstreams : ¬((List.range (kiNBIND (s.kernel (8 * q.parcel + u8 q.payload 0)))).any fun k => !streamOk s q.parcel
      (kiBinding (s.kernel (8 * q.parcel + u8 q.payload 0)) k).2.1 (kiBinding (s.kernel (8 * q.parcel + u8 q.payload 0)) k).2.2) = true := by
    have := h.streams
    simpa only [List.any_eq_true, List.all_eq_true, Bool.not_eq_true', not_exists, not_and, Bool.not_eq_false] using this
  have hfit : ¬(kiDMA (s.kernel (8 * q.parcel + u8 q.payload 0)) = true ∧ (!s.capFit) = true) := by
    rintro ⟨h1, h2⟩
    obtain h3 | ⟨h3, -⟩ := h.dma
    · rw [h3] at h1
      exact Bool.false_ne_true h1
    · rw [h3] at h2
      exact Bool.false_ne_true h2
  have hsize : ¬(kiDMA (s.kernel (8 * q.parcel + u8 q.payload 0)) = true ∧ s.fg (R.CAD_PCAP_CAPSZ q.parcel) = 0) := by
    rintro ⟨h1, h2⟩
    obtain h3 | ⟨-, h3⟩ := h.dma
    · rw [h3] at h1
      exact Bool.false_ne_true h1
    · exact h3 h2
  rw [loadKernel, withLen, if_pos h.length]
  simp only [hi, maskSlots_one, List.filterMap_cons, List.filterMap_nil, hslot, List.map_cons, List.map_nil, List.any_cons, List.any_nil,
    Bool.or_false, List.length_singleton, hfree, h.warm, h.off, Bool.and_false]
  rw [if_neg (by simp [h.reserved]; omega)]
  refine if_congr (by rw [Bool.not_eq_true']) rfl (if_congr (by rw [Bool.not_eq_true']) rfl ?_)
  rw [if_neg hsafety, if_neg (by simp), if_neg Bool.false_ne_true, if_neg Bool.false_ne_true, if_neg hstreams, if_neg hfit, if_neg hsize,
    if_neg Bool.false_ne_true]
  rfl

/-- A load of one plot answers OK, and its engines hold the image. -/
theorem runLoad_holds {mask : Nat} (hreq : l.req = some q) (hplots : l.plots = [(pl, mask)]) (hreply : q.noReply = false) (s : State) :
    (runLoad l s).lastReply = some [0, 0] ∧ ∀ x ∈ masked pl mask, Holds (s.kernel l.key) x (runLoad l s) := by
  rw [runLoad]
  simp only [hreq, hplots, List.foldl_cons, List.foldl_nil]
  have hload := fun x (hx : x ∈ masked pl mask) => loadPlot_holds hx l.key (startEpoch s l) s
  generalize loadPlot l.key (startEpoch s l) pl mask s = u at hload ⊢
  obtain ⟨rest, hsends⟩ := replyAs_sends Stat.ok.disp q .ok (leBytes 4 (startEpoch s l % 2 ^ 32)) 0 u hreply
  refine ⟨(reply_spec q .ok _ u hreply).1, fun x hx => (hload x hx).congr (State.engine_congr ?_ x)⟩
  rw [reply, hsends.frame]
  rfl

/-- LOAD_KERNEL. -/
theorem Does.loads {p : Packet} {s1 : State} (ha : Admits 0x51 p s q s1) (h : LoadAsked q pl s1) (hreply : q.noReply = false)
    (hon : ((quarters pl (u32 q.payload 8)).all fun d => s1.domOn d) = true) (hdma : (s1.plot pl).dma = []) (hloads : s1.arr.loads = []) :
    Does (.loadKernel p) s fun t =>
      if kernelOk (s1.kernel (8 * q.parcel + u8 q.payload 0)) = false then t.lastReply = some [0x05, rFIELD]
      else if kernelSigned s1 (s1.kernel (8 * q.parcel + u8 q.payload 0)) = false then t.lastReply = some [0x03, rTAG]
      else t.lastReply = some [0, 0] ∧ ∀ x ∈ masked pl (u32 q.payload 8), Holds (s1.kernel (8 * q.parcel + u8 q.payload 0)) x t := by
  refine .of_request rfl ha (fun t ht => ht) ?_
  rw [loadKernel_asked h]
  split
  · exact (reply_spec q .badParam [] s1 hreply).1
  split
  · exact (reply_spec q .authFail [] s1 hreply).1
  obtain ⟨u, hu, hnv⟩ := beginLoad_runs (l := askedLoad q pl s1) rfl hon hdma hloads
  have hkernel : u.kernel = s1.kernel := funext fun k => by rw [State.kernel, State.kernel, hnv]
  rw [hu, ← hkernel]
  exact runLoad_holds rfl rfl hreply u

end Sys2Proof.Machine

/-! # Kernel commands (O25) -/

namespace Sys2Proof.Machine

variable {x now : Nat} {l : List Nat} {e : Eng} {s t : State}

theorem resumed_halted (hst : e.st = esHALTED) (hexc : e.dmaExc = none) :
    resumed now e = { e with st := esRUNNING, wdogAt := now - e.wdogUsed } := by
  rw [resumed, if_pos hst, ← hexc]

theorem Restarts.congr (h : Restarts x s t) {t' : State} (harr : t'.arr = t.arr) (hreg : t'.reg (R.ENG_EXR_W0 x) = t.reg (R.ENG_EXR_W0 x)) :
    Restarts x s t' := by
  rw [Restarts, hreg, State.engine_congr (congrArg Array_.engs harr)]
  exact h

theorem record_below (hx : x < 1024) : R.ENG_EXR_W0 x < 0x130108 := by
  have hadr : R.ENG_EXR_W0 x = 0x084000 + 16 * x := rfl
  omega

/-- Settles O25: each command in turn. A load of plots that are on runs at once, image by image, and ENGINE_CTL is a fold of one
action over the named engines. -/
theorem kernelCommandsTakeEffect : Obligations.KernelCommandsTakeEffect := by
  refine ⟨fun n x s hready hepoch hon => ?starts, fun p q s s1 ha hid hsess hoff hlast htotal htarget h7 h13 hlen hne hmax hmod hmore => ?stages,
    fun q s hid hdue => .lease_ends hid hdue,
    fun p q pl i s s1 ha hlen hreply hkey hres hone hmask hsafety hslot hfree hkept hwarm hstreams hdma hoff hon hdesc hloads => ?loads,
    fun p q pl s s1 ha hlen hreply hrow hact h31 hres hmask hslot hshut hoff hst => ?halts,
    fun p q pl s s1 ha hlen hreply hrow hact h31 hres hmask hslot hshut hst => ?resumes,
    fun p q pl s s1 ha hlen hreply hrow hact h31 hres hmask hslot hshut hoff hst => ?restarts,
    fun p q pl i s s1 ha hpayload hreply hslot => ?stat⟩
  case starts => exact .starts hready hepoch hon
  case stages =>
    exact .stages ha hid hsess hoff hlast htotal htarget h7 (chunkForm_none h13 hlen hne hmax hmod) hmore
  case loads =>
    exact .loads ha ⟨hlen, hkey, hres, hmask, ⟨i, hone, hslot⟩, hsafety, hfree, hkept, hwarm, hstreams, hdma, hoff⟩ hreply hon hdesc hloads
  case halts =>
    have happlies : ∀ x ∈ masked pl.val (u32 q.payload 4), actionApplies 1 (s1.engine x).st = true := fun x hx => by
      rw [hst x hx]
      rfl
    refine .controls rfl hrow ha hreply
      (engineCtl_applies hlen hact (by decide) (by decide) h31 hres hmask hslot hshut (.inr hoff) happlies) fun t harr _ x hx => ?_
    obtain ⟨h1, h2⟩ := halts_engine (fun y hy => mem_masked hy) hx s1
    rw [State.engine_congr (congrArg Array_.engs harr), h1, if_pos (hst x hx)]
    exact ⟨rfl, h2⟩
  case resumes =>
    have happlies : ∀ x ∈ masked pl.val (u32 q.payload 4), actionApplies 2 (s1.engine x).st = true := fun x hx => by
      rw [(hst x hx).1]
      rfl
    refine .controls rfl hrow ha hreply
      (engineCtl_applies hlen hact (by decide) (by decide) h31 hres hmask hslot hshut (.inl rfl) happlies) fun t harr _ x hx => ?_
    rw [State.engine_congr (congrArg Array_.engs harr), resumes_engine (masked_nodup _ _) (fun y hy => (hst y hy).2), if_pos hx]
    exact resumed_halted (hst x hx).1 (hst x hx).2
  case restarts =>
    have happlies : ∀ x ∈ masked pl.val (u32 q.payload 4), actionApplies 3 (s1.engine x).st = true := fun x hx => by
      obtain h | h := hst x hx <;> · rw [h]; rfl
    refine .controls rfl hrow ha hreply
      (engineCtl_applies hlen hact (by decide) (by decide) h31 hres hmask hslot hshut (.inr hoff) happlies) fun t harr hreg x hx => ?_
    have hx1024 : x < 1024 := by
      have := mem_masked hx
      omega
    exact (restarts_engine hx1024 hx (happlies x hx)).congr harr (hreg _ (record_below hx1024))
  case stat =>
    refine .of_request rfl ha (fun t ht => ht) ?_
    rw [engineStat_one hpayload hslot]
    exact ⟨replyUnits_ok (by simp) _ hreply s1, (replyUnits_spec q _ _ s1 hreply).2.1⟩

end Sys2Proof.Machine

/-! # Reset of a plot (R252, R254) -/

namespace Sys2Proof.Machine

variable {p x y : Nat} {d : Desc} {s t u : State}

/-! ## What stays beside the engines, the plots' memory and the fabric -/

/-- Between `s` and `t` the registers, the output, engines, plots, the fabric and capture memory may have changed; nothing else. -/
def ArrayMoves (s t : State) : Prop :=
  ∃ r o e pl f c k, t = { s with regs := r, out := o, arr := { s.arr with engs := e, plots := pl }, fab := f, cap := c, freeCtr := k }

theorem ArrayMoves.refl (s : State) : ArrayMoves s s := ⟨_, _, _, _, _, _, _, rfl⟩

theorem ArrayMoves.trans (h : ArrayMoves s t) (h' : ArrayMoves t u) : ArrayMoves s u := by
  obtain ⟨r, o, e, pl, f, c, k, rfl⟩ := h
  obtain ⟨r', o', e', pl', f', c', k', rfl⟩ := h'
  exact ⟨r', o', e', pl', f', c', k', rfl⟩

theorem ArrayMoves.foldl {α : Type} {f : State → α → State} (l : List α) (hf : ∀ t, ∀ a ∈ l, ArrayMoves t (f t a)) (s : State) :
    ArrayMoves s (l.foldl f s) :=
  List.foldlRecOn (motive := ArrayMoves s) l f (.refl s) fun t ht a ha => ht.trans (hf t a ha)

theorem Tends.moves (h : Tends p s t) : ArrayMoves s t := by
  obtain ⟨r, o, e, pl, f, h⟩ := h.frame
  exact ⟨r, o, e, pl, f, s.cap, s.freeCtr, h⟩

theorem WritesRegs.moves {l : List Nat} (h : WritesRegs l s t) : ArrayMoves s t := ⟨_, _, _, _, _, _, _, h.2⟩

theorem ArrayMoves.quarterOn (h : ArrayMoves s t) (x : Nat) : t.quarterOn x = s.quarterOn x := by
  obtain ⟨r, o, e, pl, f, c, k, rfl⟩ := h
  rfl

theorem ArrayMoves.loads (h : ArrayMoves s t) : t.arr.loads = s.arr.loads := by
  obtain ⟨r, o, e, pl, f, c, k, rfl⟩ := h
  rfl

theorem ArrayMoves.place (h : ArrayMoves s t) : t.arr.place = s.arr.place := by
  obtain ⟨r, o, e, pl, f, c, k, rfl⟩ := h
  rfl

/-! ## Descriptors that end (R251) -/

theorem writeShared_moves (p a : Nat) (b : List Byte) (s : State) : ArrayMoves s (writeShared p a b s) := by
  obtain ⟨e, h⟩ := writeShared_frame p a b s
  exact ⟨_, _, _, _, _, _, _, h⟩

theorem dmaMove_moves (d : Desc) (wr : Bool) (len sh ca : Nat) (s : State) : ArrayMoves s (dmaMove d wr len sh ca s) := by
  unfold dmaMove
  split
  · exact ⟨_, _, _, _, _, _, _, rfl⟩
  · exact writeShared_moves ..

theorem descDone_cut (x a n : Nat) (s : State) : ArrayMoves s (descDone x a 5 n s) := by
  have hdone : descDone x a 5 n s =
      ((descEnd x a (2 ^ 31 + 5 * 2 ^ 24 + n) s).inc (R.ENG_PLDMA_ERR (x / 32))).fs (R.ENG_PLFLT_DMAE (x / 32)) 1 := rfl
  obtain ⟨e, pl, h⟩ := descEnd_frame x a (2 ^ 31 + 5 * 2 ^ 24 + n) s
  rw [hdone]
  generalize descEnd x a (2 ^ 31 + 5 * 2 ^ 24 + n) s = u at h
  subst h
  exact ⟨_, _, _, _, _, _, _, rfl⟩

theorem cutDesc_moves (d : Desc) (s : State) : ArrayMoves s (cutDesc 5 d s) := by
  unfold cutDesc
  split
  · exact (ArrayMoves.trans (t := { s with freeCtr := s.freeCtr + 1 }) ⟨_, _, _, _, _, _, _, rfl⟩ (dmaMove_moves ..)).trans
      (descDone_cut ..)
  · exact descDone_cut ..

theorem dmaAbort_moves (p : Nat) (s : State) : ArrayMoves s (dmaAbort p s) :=
  ArrayMoves.trans (t := dmaCount p (s.setPlot p { s.plot p with dma := [] })) ⟨_, _, _, _, _, _, _, rfl⟩
    (.foldl _ (fun t d _ => cutDesc_moves d t) _)

/-- With no descriptor queued only the count is written. -/
theorem dmaAbort_none (h : (s.plot p).dma = []) : dmaAbort p s = dmaCount p (s.setPlot p { s.plot p with dma := [] }) := by
  rw [dmaAbort, h]
  rfl

theorem dmaAbort_none_engine (h : (s.plot p).dma = []) (y : Nat) : (dmaAbort p s).engine y = s.engine y := by
  rw [dmaAbort_none h]
  rfl

/-! ## The reset -/

/-- The open frames of a plot's engines are closed. -/
def closeFrames (p : Nat) (s : State) : State := (engines p).foldl (fun t x => closeFrame x t) s

theorem closeFrames_tends (p : Nat) (s : State) : Tends p s (closeFrames p s) :=
  Tends.foldl _ (fun t x hx => by
    rw [← mem_engines.1 hx]
    exact closeFrame_tends x t) s

/-- An engine of a plot that was reset. -/
def State.blankEngine (s : State) (x : Nat) : Eng := { st := if s.quarterOn x then esIDLE else esOFF }

def blankEngines (p : Nat) (s : State) : State := (engines p).foldl (fun t x => t.setEngine x (t.blankEngine x)) s

theorem blankEngines_tends (p : Nat) (s : State) : Tends p s (blankEngines p s) :=
  Tends.foldl _ (fun t _ hx => .setEngine (mem_engines.1 hx) _ t) s

theorem blankEngines_engine (p : Nat) (s : State) (x : Nat) :
    (blankEngines p s).engine x = if x / 32 = p then s.blankEngine x else s.engine x := by
  have h := foldl_engine (I := fun t => ArrayMoves s t) (g := fun t x => t.setEngine x (t.blankEngine x)) (f := fun y _ => s.blankEngine y)
    (engines_nodup p) (fun t ht z hz => ⟨ht.trans (Tends.setEngine (mem_engines.1 hz) _ t).moves, fun y => ?_⟩) (.refl s) x
  · rw [blankEngines, h]
    simp only [mem_engines]
  · have hblank : t.blankEngine z = s.blankEngine z := by rw [State.blankEngine, ht.quarterOn, State.blankEngine]
    rw [hblank]
    split
    · next hy =>
      rw [hy, State.engine_setEngine_same]
    · next hy => exact State.engine_setEngine_ne _ _ hy

/-- The plot with its memories cleared. -/
def clearPlot (p : Nat) (s : State) : State := s.setPlot p { s.plot p with mem := [], dma := [] }

theorem clearPlot_moves (p : Nat) (s : State) : ArrayMoves s (clearPlot p s) := ⟨_, _, _, _, _, _, _, rfl⟩

theorem plotReset_eq (h : s.arr.loads = []) :
    plotReset p s = plotRefresh p (clearPlot p (blankEngines p (dmaAbort p (closeFrames p s)))) ∧ ArrayMoves s (plotReset p s) := by
  have hreset : plotReset p s = runLoads (plotRefresh p (clearPlot p (blankEngines p (dmaAbort p (closeFrames p s))))) := rfl
  have hmoves : ArrayMoves s (plotRefresh p (clearPlot p (blankEngines p (dmaAbort p (closeFrames p s))))) :=
    ((((closeFrames_tends p s).moves.trans (dmaAbort_moves p _)).trans (blankEngines_tends p _).moves).trans (clearPlot_moves p _)).trans
      (plotRefresh_writes p _).moves
  rw [hreset, runLoads_nil (hmoves.loads.trans h)]
  exact ⟨rfl, hmoves⟩

theorem plotReset_plot (h : s.arr.loads = []) : ((plotReset p s).plot p).mem = [] ∧ ((plotReset p s).plot p).dma = [] := by
  rw [(plotReset_eq h).1, State.plot, plotRefresh_plots]
  generalize blankEngines p (dmaAbort p (closeFrames p s)) = u
  have hclear : (clearPlot p u).plot p = { u.plot p with mem := [], dma := [] } := u.plot_setPlot_same p _
  rw [← State.plot, hclear]
  exact ⟨rfl, rfl⟩

/-- The engines of a plot that was reset are in IDLE, or OFF where their quarter is off. -/
theorem plotReset_engine (h : s.arr.loads = []) (hx : x / 32 = p) : (plotReset p s).engine x = s.blankEngine x := by
  have hon := ((closeFrames_tends p s).moves.trans (dmaAbort_moves p _)).quarterOn x
  have hclear : ∀ u, (clearPlot p u).engine x = u.engine x := fun _ => rfl
  rw [(plotReset_eq h).1, plotRefresh_engine, hclear, blankEngines_engine, if_pos hx, State.blankEngine, hon, State.blankEngine]

/-- A reset of a plot without descriptors loses frames at most of another plot's engine. -/
theorem plotReset_engine_other (h : s.arr.loads = []) (hdma : (s.plot p).dma = []) (hy : y / 32 ≠ p) :
    ∃ a b c, (plotReset p s).engine y = { s.engine y with drop0 := a, drop1 := b, sflags := c } := by
  obtain ⟨m, hm⟩ := (closeFrames_tends p s).plots p
  have hnone : ((closeFrames p s).plot p).dma = [] := by rw [hm, hdma]
  have hclear : ∀ u, (clearPlot p u).engine y = u.engine y := fun _ => rfl
  have habort : (dmaAbort p (closeFrames p s)).engine y = (closeFrames p s).engine y := dmaAbort_none_engine hnone y
  rw [(plotReset_eq h).1, plotRefresh_engine, hclear, blankEngines_engine, if_neg hy, habort]
  exact (closeFrames_tends p s).others y hy

end Sys2Proof.Machine

/-! # Plots by register writes (R254, R259) -/

namespace Sys2Proof.Machine

variable {act x : Nat} {l : List Nat} {p : Fin 32} {v : Word} {s t : State}

/-! ## What a write of ENG_PLCTL does -/

theorem foldl_engineAction_none (h : ∀ y ∈ l, actionApplies act (s.engine y).st = false) :
    l.foldl (fun t y => engineAction act y t) s = s :=
  List.foldlRecOn (motive := fun t => t = s) l _ rfl fun t ht y hy => by rw [ht, engineAction, h y hy, if_pos (by rfl)]

/-- The part of the write that is left once the plot's engines have been acted on. -/
def plctlRest (p : Nat) (v : Word) (s : State) : State :=
  (if wf v (R.ENG_PLCTL_ECCCLR p) = 1 then s.setReg (R.ENG_PLECC p) 0 else s).fs (R.ENG_PLCTL_CLKREQ p) (wf v (R.ENG_PLCTL_CLKREQ p))

theorem plctlRest_arr (p : Nat) (v : Word) (s : State) : (plctlRest p v s).arr = s.arr := by
  unfold plctlRest
  split <;> rfl

/-- The write of bits that ask for a reset or a halt is refused only with an output on (R259). -/
theorem engPlctlWrite_reset (hoff : s.energised = false) (hloads : s.arr.loads = []) (hrst : wf v (R.ENG_PLCTL_RST p.val) = 1) :
    engPlctlWrite p.val v s = (.ok, plctlRest p.val v (plotReset p.val s)) := by
  have hst : ∀ y ∈ engines p.val, ∀ act, act = 1 ∨ act = 2 → actionApplies act ((plotReset p.val s).engine y).st = false :=
    fun y hy act hact => by
      rw [plotReset_engine hloads (mem_engines.1 hy), State.blankEngine]
      obtain rfl | rfl := hact <;> cases s.quarterOn y <;> rfl
  have hnohalt := foldl_engineAction_none (fun y hy => hst y hy 1 (.inl rfl))
  have hnoresume := foldl_engineAction_none (fun y hy => hst y hy 2 (.inr rfl))
  rw [engPlctlWrite, plctlRest, hoff]
  simp only [hrst, Bool.and_false, Bool.false_eq_true, if_false, BEq.rfl, if_true, hnohalt, hnoresume, ite_self]

theorem engPlctlWrite_halt (hoff : s.energised = false) (hrst : wf v (R.ENG_PLCTL_RST p.val) = 0)
    (hhalt : wf v (R.ENG_PLCTL_HALT p.val) = 1) (hres : wf v (R.ENG_PLCTL_RESUME p.val) = 0) :
    engPlctlWrite p.val v s = (.ok, plctlRest p.val v ((engines p.val).foldl (fun t y => engineAction 1 y t) s)) := by
  rw [engPlctlWrite, plctlRest, hoff]
  simp only [hrst, hhalt, hres, Bool.and_false, Bool.false_eq_true, if_false, BEq.rfl, if_true, Nat.reduceBEq]

theorem engPlctlWrite_resume (hrst : wf v (R.ENG_PLCTL_RST p.val) = 0)
    (hhalt : wf v (R.ENG_PLCTL_HALT p.val) = 0) (hres : wf v (R.ENG_PLCTL_RESUME p.val) = 1) :
    engPlctlWrite p.val v s = (.ok, plctlRest p.val v ((engines p.val).foldl (fun t y => engineAction 2 y t) s)) := by
  rw [engPlctlWrite, plctlRest]
  simp only [hrst, hhalt, hres, Bool.or_self, Bool.false_and, Bool.false_eq_true, if_false, BEq.rfl, if_true, Nat.reduceBEq]

theorem engPlctlWrite_rest (hrst : wf v (R.ENG_PLCTL_RST p.val) = 0)
    (hhalt : wf v (R.ENG_PLCTL_HALT p.val) = 0) (hres : wf v (R.ENG_PLCTL_RESUME p.val) = 0) :
    engPlctlWrite p.val v s = (.ok, plctlRest p.val v s) := by
  rw [engPlctlWrite, plctlRest]
  simp only [hrst, hhalt, hres, Bool.or_self, Bool.false_and, Bool.false_eq_true, if_false, Nat.reduceBEq]

/-! ## The rows -/

/-- A write of ENG_PLCTL with bit `i` at 1 that is taken. -/
theorem Does.plctl {c : Instr} {i : Nat} {P : State → Prop} (hexec : exec c s = run (Machine.plctl i p v) s)
    (hok : accessCheck s (R.ENG_PLCTL p.val) (w32 (setBit v.toNat i true)) = none)
    (hwrite : engPlctlWrite p.val (w32 (setBit v.toNat i true)) s = (.ok, plctlRest p.val (w32 (setBit v.toNat i true)) t))
    (hP : ∀ u, u.arr = t.arr → u.regs = (plctlRest p.val (w32 (setBit v.toNat i true)) t).regs → P u) :
    Does c s fun u => P u ∧ u.lastOut = some { ch := .status, args := [0, 0, 0] } := by
  refine .of_run hexec ?_
  rw [Machine.plctl, direct_of_none hok, hwrite]
  exact ⟨hP _ (plctlRest_arr ..) rfl, State.done_lastOut ..⟩

theorem Does.resetsPlot (hok : accessCheck s (R.ENG_PLCTL p.val) (w32 (setBit v.toNat 31 true)) = none) (hoff : s.energised = false)
    (hloads : s.arr.loads = []) :
    Does (.plotReset p v) s fun t => ((t.plot p.val).mem = [] ∧ (t.plot p.val).dma = [] ∧
      ∀ x ∈ engines p.val, t.engine x = s.blankEngine x) ∧ t.lastOut = some { ch := .status, args := [0, 0, 0] } := by
  refine .plctl rfl hok (engPlctlWrite_reset hoff hloads (wf_setBit_self (by decide) rfl rfl)) fun u harr _ => ?_
  obtain ⟨hmem, hdma⟩ := plotReset_plot (p := p.val) hloads
  rw [State.plot, harr]
  refine ⟨hmem, hdma, fun x hx => ?_⟩
  rw [State.engine_congr (congrArg Array_.engs harr)]
  exact plotReset_engine hloads (mem_engines.1 hx)

theorem Does.haltsPlot (hok : accessCheck s (R.ENG_PLCTL p.val) (w32 (setBit v.toNat 30 true)) = none) (hoff : s.energised = false)
    (hrst : wf v (R.ENG_PLCTL_RST p.val) = 0) (hres : wf v (R.ENG_PLCTL_RESUME p.val) = 0) :
    Does (.plotHalt p v) s fun t => (∀ x ∈ engines p.val, (t.engine x).st =
        if (s.engine x).st = esRUNNING then esHALTED else (s.engine x).st) ∧ t.lastOut = some { ch := .status, args := [0, 0, 0] } := by
  have hwrite := engPlctlWrite_halt (p := p) hoff ((wf_setBit_disj (by decide) (.inl (by decide : 30 < 31))).trans hrst)
    (wf_setBit_self (v := v) (i := 30) (by decide) rfl rfl) ((wf_setBit_disj (by decide) (.inr (by decide : 29 + 1 ≤ 30))).trans hres)
  refine .plctl rfl hok hwrite fun u harr _ x hx => ?_
  rw [State.engine_congr (congrArg Array_.engs harr)]
  exact (halts_engine (fun y hy => mem_engines.1 hy) hx s).1

theorem plctlRest_clkreq (p : Nat) (v : Word) (s : State) : (plctlRest p v s).fg (R.ENG_PLCTL_CLKREQ p) = wf v (R.ENG_PLCTL_CLKREQ p) := by
  rw [plctlRest, State.fg_fs_same _ _ _ (by simp [R.ENG_PLCTL_CLKREQ])]
  exact Nat.mod_eq_of_lt (wf_lt v _)

theorem resumed_st (now : Nat) (e : Eng) : (resumed now e).st = if e.st = esHALTED then esRUNNING else e.st := by
  unfold resumed
  split <;> rfl

theorem Does.resumesPlot (hok : accessCheck s (R.ENG_PLCTL p.val) (w32 (setBit v.toNat 29 true)) = none)
    (hrst : wf v (R.ENG_PLCTL_RST p.val) = 0) (hhalt : wf v (R.ENG_PLCTL_HALT p.val) = 0)
    (hexc : ∀ x ∈ engines p.val, (s.engine x).dmaExc = none) :
    Does (.plotResume p v) s fun t => ((∀ x ∈ engines p.val, (t.engine x).st =
        if (s.engine x).st = esHALTED then esRUNNING else (s.engine x).st) ∧
      t.fg (R.ENG_PLCTL_CLKREQ p.val) = wf v (R.ENG_PLCTL_CLKREQ p.val)) ∧ t.lastOut = some { ch := .status, args := [0, 0, 0] } := by
  have hwrite := engPlctlWrite_resume (p := p) (s := s) ((wf_setBit_disj (by decide) (.inl (by decide : 29 < 31))).trans hrst)
    ((wf_setBit_disj (by decide) (.inl (by decide : 29 < 30))).trans hhalt) (wf_setBit_self (v := v) (i := 29) (by decide) rfl rfl)
  refine .plctl rfl hok hwrite fun u harr hregs => ⟨fun x hx => ?_, ?_⟩
  · rw [State.engine_congr (congrArg Array_.engs harr), resumes_engine (engines_nodup _) hexc, if_pos hx, resumed_st]
  · rw [State.fg_congr _ (State.reg_congr hregs _), plctlRest_clkreq]
    exact wf_setBit_disj (by decide) (by simp [R.ENG_PLCTL_CLKREQ])

theorem Does.clearsEcc (hok : accessCheck s (R.ENG_PLCTL p.val) (w32 (setBit v.toNat 28 true)) = none)
    (hrst : wf v (R.ENG_PLCTL_RST p.val) = 0) (hhalt : wf v (R.ENG_PLCTL_HALT p.val) = 0) (hres : wf v (R.ENG_PLCTL_RESUME p.val) = 0) :
    Does (.plotEccClear p v) s fun t => (t.reg (R.ENG_PLECC p.val) = 0 ∧ SameRegs [R.ENG_PLECC p.val, R.ENG_PLCTL p.val] s t) ∧
      t.lastOut = some { ch := .status, args := [0, 0, 0] } := by
  have hwrite := engPlctlWrite_rest (p := p) (s := s) (v := w32 (setBit v.toNat 28 true))
    ((wf_setBit_disj (by decide) (.inl (by decide : 28 < 31))).trans hrst)
    ((wf_setBit_disj (by decide) (.inl (by decide : 28 < 30))).trans hhalt)
    ((wf_setBit_disj (by decide) (.inl (by decide : 28 < 29))).trans hres)
  refine .plctl rfl hok hwrite fun u _ hregs => ?_
  have hclear : wf (w32 (setBit v.toNat 28 true)) (R.ENG_PLCTL_ECCCLR p.val) = 1 := wf_setBit_self (by decide) rfl rfl
  rw [plctlRest, if_pos hclear] at hregs
  refine ⟨?_, ((SameRegs.setReg s 0 (by simp)).trans (State.fs_sameRegs _ _ _ (by simp [R.ENG_PLCTL_CLKREQ, R.ENG_PLCTL]))).trans
    (.of_regs hregs)⟩
  rw [State.reg_congr hregs, State.reg_fs_ne _ _ _ (by simp only [R.ENG_PLECC, R.ENG_PLCTL_CLKREQ]; omega), State.reg_setReg_same]

/-! ## The plot's clock (R259) -/

theorem Does.stepsClock (hfit : p.val < s.plotsFit) :
    Does (.plotClockStep p) s fun t =>
      t.fg (R.ENG_PLSTAT_CLK p.val) = max (s.fg (R.ENG_PLCTL_CLKREQ p.val)) (s.fg R.THM_STEP_PLOT) ∧
      t.fg (R.ENG_PLSTAT_THROT p.val) = (if s.fg (R.ENG_PLCTL_CLKREQ p.val) < s.fg R.THM_STEP_PLOT then 1 else 0) ∧
      SameRegs [R.ENG_PLSTAT p.val] s t := by
  refine .of_rule (f := plotClockStep p.val) rfl (fun t ht => ht) ?_
  have hreq : s.fg (R.ENG_PLCTL_CLKREQ p.val) < 4 := State.fg_lt s _
  have hthm : s.fg R.THM_STEP_PLOT < 4 := State.fg_lt s _
  have hadr : (R.ENG_PLSTAT_CLK p.val).adr = R.ENG_PLSTAT p.val := rfl
  rw [plotClockStep, if_neg (Nat.not_le.2 hfit)]
  refine ⟨?_, ?_, (s.fs_sameRegs _ _ (List.mem_singleton.2 hadr)).trans (State.fs_sameRegs _ _ _ (List.mem_singleton.2 hadr))⟩
  · rw [State.fg_fs_disj _ (R.ENG_PLSTAT_THROT p.val) (R.ENG_PLSTAT_CLK p.val) _ (by simp [R.ENG_PLSTAT_THROT]) rfl
      (by simp [R.ENG_PLSTAT_THROT, R.ENG_PLSTAT_CLK]), State.fg_fs_same _ _ _ (by simp [R.ENG_PLSTAT_CLK])]
    exact Nat.mod_eq_of_lt (Nat.max_lt.2 ⟨hreq, hthm⟩)
  · rw [State.fg_fs_same _ _ _ (by simp [R.ENG_PLSTAT_THROT]), b2n]
    by_cases h : s.fg (R.ENG_PLCTL_CLKREQ p.val) < s.fg R.THM_STEP_PLOT <;> simp [h, R.ENG_PLSTAT_THROT]

end Sys2Proof.Machine

/-! # Moves of a slot: the freeze, and the start of a parallel move (R267, R268) -/

namespace Sys2Proof.Machine

variable {e : Nat} {m : Move} {s t : State}

/-! ## The freeze of a copying move (R267) -/

/-- One step of a list establishes `P` from what it finds, `K`; the others keep both. -/
theorem foldl_once {α : Type} {K P : State → Prop} {g : State → α → State} {l : List α} {a : α} (hl : l.Nodup) (ha : a ∈ l)
    (hK : ∀ t, ∀ b ∈ l, b ≠ a → K t → K (g t b)) (hP : ∀ t, K t → P (g t a)) (hkeep : ∀ t, ∀ b ∈ l, b ≠ a → P t → P (g t b)) (hs : K s) :
    P (l.foldl g s) := by
  obtain ⟨l1, l2, rfl⟩ := List.append_of_mem ha
  have hl' := List.nodup_middle.1 hl
  obtain ⟨hnot, -⟩ := List.nodup_cons.1 hl'
  have hne : ∀ b ∈ l1 ++ l2, b ≠ a := fun b hb h => hnot (h ▸ hb)
  rw [List.foldl_append, List.foldl_cons]
  refine List.foldlRecOn (motive := P) l2 g (hP _ ?_) fun t ht b hb => hkeep t b (by simp [hb]) (hne b (by simp [hb])) ht
  exact List.foldlRecOn (motive := K) l1 g hs fun t ht b hb => hK t b (by simp [hb]) (hne b (by simp [hb])) ht

/-- An engine as it is copied: a running one waits for the end of the copy. -/
def frozen (g : Eng) : Eng := if g.st = esRUNNING then { g with saved := g.stall, stall := 7 } else g

/-- Engine `e` of the source goes to the destination. -/
def swapEngine (m : Move) (e : Nat) (t : State) : State :=
  (t.setEngine (32 * m.dst + e) (frozen (t.engine (32 * m.src + e)))).setEngine (32 * m.src + e)
    { st := if t.quarterOn (32 * m.src + e) then 1 else 0 }

/-- Its record goes with it. -/
def copyRecord (m : Move) (e : Nat) (t u : State) : State :=
  (List.range 4).foldl (fun u w => u.setReg (R.ENG_EXR_W0 (32 * m.dst + e) + 4 * w) (t.reg (R.ENG_EXR_W0 (32 * m.src + e) + 4 * w))) u

theorem copyRecord_frame (m : Move) (e : Nat) (t u : State) : ∃ r, copyRecord m e t u = { u with regs := r } :=
  List.foldlRecOn (motive := fun w : State => ∃ r, w = { u with regs := r }) _ _ ⟨_, rfl⟩ fun w ⟨r, hw⟩ _ _ => by
    rw [hw]
    exact ⟨_, rfl⟩

def copyEngine (m : Move) (t : State) (e : Nat) : State := copyRecord m e t (swapEngine m e t)

theorem copyEngine_frame (m : Move) (t : State) (e : Nat) : ∃ r, copyEngine m t e = { swapEngine m e t with regs := r } :=
  copyRecord_frame m e t (swapEngine m e t)

theorem copyEngine_dst (hm : m.src ≠ m.dst) (t : State) :
    (copyEngine m t e).engine (32 * m.dst + e) = frozen (t.engine (32 * m.src + e)) := by
  obtain ⟨r, h⟩ := copyEngine_frame m t e
  rw [h]
  exact (State.engine_setEngine_ne _ _ (by omega)).trans (State.engine_setEngine_same ..)

theorem copyEngine_other {y : Nat} (hdst : y ≠ 32 * m.dst + e) (hsrc : y ≠ 32 * m.src + e) (t : State) :
    (copyEngine m t e).engine y = t.engine y := by
  obtain ⟨r, h⟩ := copyEngine_frame m t e
  rw [h]
  exact (State.engine_setEngine_ne _ _ hsrc).trans (State.engine_setEngine_ne _ _ hdst)

theorem copyEngine_plots (m : Move) (t : State) (e : Nat) : (copyEngine m t e).arr.plots = t.arr.plots := by
  obtain ⟨r, h⟩ := copyEngine_frame m t e
  rw [h]
  rfl

/-- The engines of the source plot go to the destination. -/
def copyEngines (m : Move) (s : State) : State := (List.range 32).foldl (copyEngine m) s

theorem copyEngines_dst (hm : m.src ≠ m.dst) (he : e < 32) (s : State) :
    (copyEngines m s).engine (32 * m.dst + e) = frozen (s.engine (32 * m.src + e)) := by
  refine foldl_once (K := fun t => t.engine (32 * m.src + e) = s.engine (32 * m.src + e))
    (P := fun t => t.engine (32 * m.dst + e) = frozen (s.engine (32 * m.src + e))) List.nodup_range (List.mem_range.2 he)
    (fun t b hb hne ht => ?_) (fun t ht => ?_) (fun t b hb hne ht => ?_) rfl
  · have := List.mem_range.1 hb
    rw [copyEngine_other (by omega) (by omega), ht]
  · rw [copyEngine_dst hm, ht]
  · have := List.mem_range.1 hb
    rw [copyEngine_other (by omega) (by omega), ht]

theorem copyEngines_plots (m : Move) (s : State) : (copyEngines m s).arr.plots = s.arr.plots :=
  List.foldlRecOn (motive := fun t : State => t.arr.plots = s.arr.plots) _ _ rfl fun t ht e _ => (copyEngine_plots m t e).trans ht

/-- The memory of the source plot goes to the destination. -/
def copyMemory (m : Move) (s : State) : State := s.setPlot m.dst { s.plot m.dst with mem := (s.plot m.src).mem }

theorem takeOver_arr (m : Move) (s : State) : (takeOver m s).arr = s.arr := rfl

/-- Frames under way to the source go to the destination. -/
def turnFlights (m : Move) (s : State) : State :=
  { s with
    arr := { s.arr with move := some { m with phase := 1 } }
    fab := { s.fab with flight := s.fab.flight.map fun f =>
      if f.eng / 32 = m.src then { f with eng := 32 * m.dst + f.eng % 32 } else f } }

theorem turnFlights_arr (m : Move) (s : State) : (turnFlights m s).arr = { s.arr with move := some { m with phase := 1 } } := rfl

/-- The destination shows the slot. -/
def showMove (m : Move) (s : State) : State := plotRefresh m.src (plotRefresh m.dst (turnFlights m (takeOver m s)))

theorem showMove_arr (m : Move) (s : State) : (showMove m s).arr = { s.arr with move := some { m with phase := 1 } } := by
  rw [showMove, (plotRefresh_writes _ _).arr, (plotRefresh_writes _ _).arr, turnFlights_arr, takeOver_arr]

theorem parcelMoveFreeze_eq (h : s.arr.move = some m) (hpar : m.parallel = false) (hphase : m.phase = 0) :
    parcelMoveFreeze s = showMove m (copyMemory m (copyEngines m (dmaAbort m.src (s.until (50 * m.epoch))))) := by
  have hgo : ¬(m.parallel = true ∨ m.phase ≠ 0) := by simp [hpar, hphase]
  rw [parcelMoveFreeze]
  simp only [h]
  rw [if_neg hgo]
  rfl

theorem Does.freezes (h : s.arr.move = some m) (hpar : m.parallel = false) (hphase : m.phase = 0) (hm : m.src ≠ m.dst)
    (hdma : (s.plot m.src).dma = []) :
    Does .parcelMoveFreeze s fun t => t.arr.move = some { m with phase := 1 } ∧ (t.plot m.dst).mem = (s.plot m.src).mem ∧
      ∀ e ∈ List.range 32, t.engine (32 * m.dst + e) = frozen (s.engine (32 * m.src + e)) := by
  refine .of_rule (f := parcelMoveFreeze) rfl (fun t ht => ht) ?_
  have habort : ((dmaAbort m.src (s.until (50 * m.epoch))).plot m.src).mem = (s.plot m.src).mem := by
    rw [dmaAbort_none (s := s.until (50 * m.epoch)) hdma, dmaCount_plot, State.plot_setPlot_same]
    rfl
  have hengine : ∀ x, (dmaAbort m.src (s.until (50 * m.epoch))).engine x = s.engine x := fun x =>
    dmaAbort_none_engine (s := s.until (50 * m.epoch)) hdma x
  rw [parcelMoveFreeze_eq h hpar hphase]
  generalize dmaAbort m.src (s.until (50 * m.epoch)) = u at habort hengine ⊢
  have hcopied := fun e (he : e ∈ List.range 32) => (copyEngines_dst hm (List.mem_range.1 he) u).trans (congrArg frozen (hengine _))
  have hplots : ∀ p, (copyEngines m u).plot p = u.plot p := fun p => by rw [State.plot, copyEngines_plots, State.plot]
  generalize copyEngines m u = w at hcopied hplots ⊢
  have hmem : (copyMemory m w).plot m.dst = { w.plot m.dst with mem := (s.plot m.src).mem } := by
    rw [copyMemory, State.plot_setPlot_same, hplots m.src, habort]
  have harr := showMove_arr m (copyMemory m w)
  refine ⟨by rw [harr], ?_, fun e he => ?_⟩
  · have hplot : (showMove m (copyMemory m w)).plot m.dst = (copyMemory m w).plot m.dst := by rw [State.plot, harr, State.plot]
    rw [hplot, hmem]
  · have hengs : (showMove m (copyMemory m w)).arr.engs = w.arr.engs := by
      rw [harr]
      rfl
    rw [State.engine_congr hengs]
    exact hcopied e he

/-! ## The start of a parallel move (R268) -/

/-- An engine of a parallel move as it is loaded into the destination. -/
def twin (t : State) (g : Eng) : Eng :=
  { g with dmem := dataImage (t.kernel (g.key - 1)), q0 := [], q1 := [], dec0 := {}, dec1 := {}, mute := true }

/-- The twin of engine `e` starts, if that is loaded. -/
def startTwin (m : Move) (t : State) (e : Nat) : State :=
  if (t.engine (32 * m.src + e)).key = 0 then t
  else startEngine false (32 * m.dst + e) (t.setEngine (32 * m.dst + e) (twin t (t.engine (32 * m.src + e))))

theorem startTwin_other {y : Nat} (hy : y ≠ 32 * m.dst + e) (t : State) : (startTwin m t e).engine y = t.engine y := by
  unfold startTwin
  split
  · rfl
  · rw [startEngine_engine, if_neg hy, State.engine_setEngine_ne _ _ hy]

theorem startTwin_dst (h : (t.engine (32 * m.src + e)).key ≠ 0) :
    (startTwin m t e).engine (32 * m.dst + e) = started t.now (twin t (t.engine (32 * m.src + e))) := by
  rw [startTwin, if_neg h, startEngine_engine, if_pos rfl, State.engine_setEngine_same]
  rfl

/-- Engine `x` runs the kernel of `g` with its outputs suppressed. -/
def Shadows (x : Nat) (g : Eng) (t : State) : Prop :=
  (t.engine x).st = esRUNNING ∧ (t.engine x).mute = true ∧ (t.engine x).key = g.key

theorem startTwins_shadow (hm : m.src ≠ m.dst) (he : e ∈ List.range 32) (hkey : (s.engine (32 * m.src + e)).key ≠ 0) :
    Shadows (32 * m.dst + e) (s.engine (32 * m.src + e)) ((List.range 32).foldl (startTwin m) s) := by
  have he32 := List.mem_range.1 he
  refine foldl_establishes (K := fun t => t.engine (32 * m.src + e) = s.engine (32 * m.src + e)) he (fun t b hb ht => ?_)
    (fun t ht => ?_) (fun t b hb hne _ ht => ?_) rfl
  · have := List.mem_range.1 hb
    rw [startTwin_other (by omega), ht]
  · rw [Shadows, startTwin_dst (by rw [ht]; exact hkey), ht]
    exact ⟨rfl, rfl, rfl⟩
  · have := List.mem_range.1 hb
    rw [Shadows, startTwin_other (by omega)]
    exact ht

/-- The shared memory that the images of the twins leave. -/
def twinMemory (m : Move) (s : State) : List (Nat × Byte) :=
  ((engines m.dst).filter fun x => (s.engine x).key != 0).foldl (fun (a : List (Nat × Byte)) x =>
    memWrite a 0x10000 (((s.kernel ((s.engine x).key - 1)).drop (kiShared (s.kernel ((s.engine x).key - 1)))).take
      (64 * kiSSIZE (s.kernel ((s.engine x).key - 1))))) []

/-- A move waits for its handover epoch. -/
def setHandover (m : Move) (n : Nat) (s : State) : State :=
  { s with arr := { s.arr with move := some { m with phase := 1, epoch := n } } }

/-- The destination of a parallel move takes on its memory and its registers, and the handover gets its epoch. -/
def showTwins (m : Move) (s : State) : State :=
  setHandover m (m.epoch + 1024 * (engines m.dst).foldl (fun a x => max a (s.engine x).warm) 1)
    (takeOver m (s.setPlot m.dst { s.plot m.dst with mem := twinMemory m s }))

theorem showTwins_engine (m : Move) (x : Nat) (s : State) : (showTwins m s).engine x = s.engine x := by
  have hset : ∀ n u, (setHandover m n u).engine x = u.engine x := fun _ _ => rfl
  rw [showTwins, hset, State.engine_congr (congrArg Array_.engs (takeOver_arr m _))]
  rfl

theorem parallelMoveStart_eq (h : s.arr.move = some m) (hpar : m.parallel = true) (hphase : m.phase = 0) :
    parallelMoveStart s = showTwins m ((List.range 32).foldl (startTwin m) (s.until (50 * m.epoch))) := by
  rw [parallelMoveStart]
  split
  · next hnone =>
    rw [h] at hnone
    contradiction
  · next m' hsome =>
    obtain rfl : m' = m := Option.some.inj (hsome.symm.trans h)
    have hgo : ¬((!m'.parallel) = true ∨ m'.phase ≠ 0) := by simp [hpar, hphase]
    rw [if_neg hgo]
    extract_lets s0 s1
    have hs1 : s1 = (List.range 32).foldl (startTwin m') s0 := rfl
    rw [← hs1]
    clear_value s1
    rfl

theorem Does.startsTwins (h : s.arr.move = some m) (hpar : m.parallel = true) (hphase : m.phase = 0) (hm : m.src ≠ m.dst) :
    Does .parallelMoveStart s fun t => t.arr.move.isSome = true ∧ ∀ e ∈ List.range 32, (s.engine (32 * m.src + e)).key ≠ 0 →
      Shadows (32 * m.dst + e) (s.engine (32 * m.src + e)) t := by
  refine .of_rule (f := parallelMoveStart) rfl (fun t ht => ht) ?_
  have hshadow := fun e (he : e ∈ List.range 32) => startTwins_shadow (s := s.until (50 * m.epoch)) hm he
  rw [parallelMoveStart_eq h hpar hphase]
  generalize (List.range 32).foldl (startTwin m) (s.until (50 * m.epoch)) = u at hshadow ⊢
  refine ⟨rfl, fun e he hkey => ?_⟩
  rw [Shadows, showTwins_engine]
  exact hshadow e he hkey

end Sys2Proof.Machine

/-! # Moves of a slot: their end (R267, R268, R300) -/

namespace Sys2Proof.Machine

variable {k p x : Nat} {m : Move} {s t u : State}

/-! ## Placement (R300) -/

/-- Between `s` and `t` slots were placed and registers written; the slot of key `k` stays where it is. -/
structure Seats (k : Nat) (s t : State) : Prop where
  frame : ∃ r pl, t = { s with regs := r, arr := { s.arr with place := pl } }
  kept : Smap.get (fun _ => 0) s.arr.place k ≠ 0 → Smap.get (fun _ => 0) t.arr.place k = Smap.get (fun _ => 0) s.arr.place k

theorem Seats.refl (k : Nat) (s : State) : Seats k s s := ⟨⟨_, _, rfl⟩, fun _ => rfl⟩

theorem Seats.trans (h : Seats k s t) (h' : Seats k t u) : Seats k s u where
  frame := by
    obtain ⟨r, pl, hst⟩ := h.frame
    obtain ⟨r', pl', htu⟩ := h'.frame
    exact ⟨r', pl', by rw [htu, hst]⟩
  kept hk := (h'.kept (by rw [h.kept hk]; exact hk)).trans (h.kept hk)

theorem Seats.foldl {α : Type} {f : State → α → State} (l : List α) (hf : ∀ t a, Seats k t (f t a)) (s : State) : Seats k s (l.foldl f s) :=
  List.foldlRecOn (motive := Seats k s) l f (.refl k s) fun t ht a _ => ht.trans (hf t a)

theorem WritesRegs.seats {l : List Nat} (h : WritesRegs l s t) : Seats k s t :=
  ⟨⟨_, _, h.2⟩, fun _ => by rw [h.2]⟩

/-- A slot on plot `p`, before the plot's registers follow. -/
def seat (q slot p : Nat) (s : State) : State :=
  { s with arr := { s.arr with place := Smap.set (fun _ => 0) s.arr.place (32 * q + slot) (p + 1) } }

theorem plstat_mem_showsPlot (p : Nat) : 0x081004 + 64 * p ∈ showsPlot p :=
  List.mem_append_right _ (by simp [R.ENG_PLSTAT])

theorem placeSlot_writes (q slot p : Nat) (s : State) : WritesRegs (showsPlot p) (seat q slot p s) (placeSlot q slot p s) :=
  (((WritesRegs.fs _ _ (plstat_mem_showsPlot p)).trans (.fs _ _ (plstat_mem_showsPlot p))).trans
    (.fs _ _ (plstat_mem_showsPlot p))).trans (plotRefresh_writes p _)

theorem slotPlot_eq_some {q slot : Nat} : s.slotPlot q slot = some p ↔ Smap.get (fun _ => 0) s.arr.place (32 * q + slot) = p + 1 := by
  unfold State.slotPlot
  split
  · next h => simp [h]
  · next h => simp [h]

theorem slotPlot_isSome {q slot : Nat} : (s.slotPlot q slot).isSome = true ↔ Smap.get (fun _ => 0) s.arr.place (32 * q + slot) ≠ 0 := by
  unfold State.slotPlot
  split
  · next h => simp [h]
  · next h => simp [h]

theorem placeSlot_get (q slot p k : Nat) (s : State) : Smap.get (fun _ => 0) (placeSlot q slot p s).arr.place k =
    if k = 32 * q + slot then p + 1 else Smap.get (fun _ => 0) s.arr.place k := by
  rw [(placeSlot_writes q slot p s).arr]
  exact Smap.get_set (fun _ => 0) s.arr.place (32 * q + slot) k (p + 1)

theorem placeLowest_seats (q slot : Nat) (s : State) : Seats k s (placeLowest q slot s) := by
  unfold placeLowest
  split
  · exact .refl k s
  · next hfree =>
    rw [not_or, slotPlot_isSome, not_not] at hfree
    split
    · exact .refl k s
    · refine ⟨⟨_, _, (placeSlot_writes ..).2⟩, fun hk => ?_⟩
      have hne : k ≠ 32 * q + slot := fun h => hk (by rw [h]; exact hfree.1)
      rw [placeSlot_get, if_neg hne]

theorem placedRefresh_seats (s : State) : Seats k s (placedRefresh s) :=
  Seats.foldl (List.range 8) (fun t q =>
    (WritesRegs.fs (l := [(R.CAD_PSTAT_NPLACED q).adr]) t (t.plotsOf q).length (List.mem_singleton.2 rfl)).seats) s

theorem placeAll_seats (s : State) : Seats k s (placeAll s) :=
  Seats.trans (Seats.foldl (List.range 8) (fun t q =>
    Seats.foldl (List.range (t.fg (R.CAD_PSTAT_NSLOT q))) (fun u i => placeLowest_seats q i u) t) s) (placedRefresh_seats _)

theorem vacate_writes (p st : Nat) (s : State) : WritesRegs (showsPlot p) s (vacate p st s) :=
  (((WritesRegs.fs s _ (plstat_mem_showsPlot p)).trans (.fs _ _ (plstat_mem_showsPlot p))).trans
    (.fs _ _ (plstat_mem_showsPlot p))).trans (plotRefresh_writes p _)

/-! ## The end of a move (R267, R268) -/

/-- The source plot of a move has let its slot go. -/
def releaseSource (m : Move) (s : State) : State :=
  if m.test then (vacate m.src (if m.test then psTEST else psSPARE) s).fs R.BST_STAT_TESTPLOT m.src
  else vacate m.src (if m.test then psTEST else psSPARE) s

theorem releaseSource_seats (m : Move) (s : State) : Seats k s (releaseSource m s) := by
  unfold releaseSource
  split
  · exact (vacate_writes ..).seats.trans (WritesRegs.fs (l := [R.BST_STAT_TESTPLOT.adr]) _ _ (List.mem_singleton.2 rfl)).seats
  · exact (vacate_writes ..).seats

/-- No move is under way, and the spare plot is the one that the move has left free. -/
def clearMove (m : Move) (s : State) : State :=
  { s.fs R.ENG_STAT_SPARE (if m.test then 0x3F else m.src) with arr := { s.arr with move := none } }

theorem moveEnd_eq (m : Move) (s : State) :
    moveEnd m s = placeAll (clearMove m (releaseSource m (placeSlot m.q m.slot m.dst (plotReset m.src s)))) := rfl

/-- A move that ends has its slot on the destination; beyond the reset of the source no engine changes. -/
theorem moveEnd_spec (m : Move) (s : State) :
    (moveEnd m s).arr.move = none ∧ (moveEnd m s).slotPlot m.q m.slot = some m.dst ∧
      ∀ x, (moveEnd m s).engine x = (plotReset m.src s).engine x := by
  rw [moveEnd_eq]
  generalize plotReset m.src s = u
  have hplaced := placeSlot_get m.q m.slot m.dst (32 * m.q + m.slot) u
  rw [if_pos rfl] at hplaced
  have hseated := (placeSlot_writes m.q m.slot m.dst u).engine
  generalize placeSlot m.q m.slot m.dst u = w at hplaced hseated ⊢
  have hrel := releaseSource_seats (k := 32 * m.q + m.slot) m w
  have hkept := (hrel.kept (by omega)).trans hplaced
  obtain ⟨r, pl, hframe⟩ := hrel.frame
  generalize releaseSource m w = v at hkept hframe ⊢
  have hall := placeAll_seats (k := 32 * m.q + m.slot) (clearMove m v)
  have hget : Smap.get (fun _ => 0) (clearMove m v).arr.place (32 * m.q + m.slot) = m.dst + 1 := hkept
  obtain ⟨r', pl', hframe'⟩ := hall.frame
  refine ⟨by rw [hframe']; rfl, slotPlot_eq_some.2 ((hall.kept (by omega)).trans hget), fun x => ?_⟩
  have hengine : (placeAll (clearMove m v)).engine x = v.engine x := by
    rw [hframe']
    rfl
  rw [hengine, hframe]
  exact hseated x

/-! ## The copy ends (R267) -/

/-- An engine that waited for the end of the copy goes on where it stood. -/
def thawed (g : Eng) : Eng := if g.stall = 7 then { g with stall := g.saved } else g

/-- Engine `x` goes on if it waited for the end of the copy. -/
def thaw (t : State) (x : Nat) : State := if (t.engine x).stall = 7 then t.setEngine x { t.engine x with stall := (t.engine x).saved } else t

theorem thaw_engine (t : State) (z y : Nat) : (thaw t z).engine y = if y = z then thawed (t.engine y) else t.engine y := by
  unfold thaw
  split
  · next h =>
    split
    · next hy => rw [hy, State.engine_setEngine_same, thawed, if_pos h]
    · next hy => exact State.engine_setEngine_ne _ _ hy
  · next h =>
    split
    · next hy => rw [hy, thawed, if_neg h]
    · rfl

theorem thaw_tends (hx : x / 32 = p) (t : State) : Tends p t (thaw t x) := by
  unfold thaw
  split
  · exact .setEngine hx _ t
  · exact .refl p t

theorem thaws_engine (p : Nat) (s : State) (x : Nat) :
    ((engines p).foldl thaw s).engine x = if x ∈ engines p then thawed (s.engine x) else s.engine x :=
  foldl_engine (I := fun _ => True) (f := fun _ => thawed) (engines_nodup p) (fun t _ z _ => ⟨trivial, thaw_engine t z⟩) trivial x

theorem parcelMoveComplete_eq (h : s.arr.move = some m) (hpar : m.parallel = false) (hphase : m.phase = 1) :
    parcelMoveComplete s = moveEnd m ((engines m.dst).foldl thaw s) := by
  rw [parcelMoveComplete]
  split
  · next hnone =>
    rw [h] at hnone
    contradiction
  · next m' hsome =>
    obtain rfl : m' = m := Option.some.inj (hsome.symm.trans h)
    have hgo : ¬(m'.parallel = true ∨ m'.phase ≠ 1) := by simp [hpar, hphase]
    rw [if_neg hgo]
    rfl

/-- The end of a move whose source has no descriptors leaves the destination's engines but for the frames lost there. -/
theorem moveEnd_dst (hm : m.src ≠ m.dst) (hdma : (s.plot m.src).dma = []) (hloads : s.arr.loads = []) (hx : x ∈ engines m.dst) :
    ∃ a b c, (moveEnd m s).engine x = { s.engine x with drop0 := a, drop1 := b, sflags := c } := by
  rw [(moveEnd_spec m s).2.2]
  exact plotReset_engine_other hloads hdma fun h => hm (h.symm.trans (mem_engines.1 hx))

theorem Does.completes (h : s.arr.move = some m) (hpar : m.parallel = false) (hphase : m.phase = 1) (hm : m.src ≠ m.dst)
    (hdma : (s.plot m.src).dma = []) (hloads : s.arr.loads = []) :
    Does .parcelMoveComplete s fun t => t.arr.move = none ∧ t.slotPlot m.q m.slot = some m.dst ∧ ∀ x ∈ engines m.dst,
      (t.engine x).stall = (if (s.engine x).stall = 7 then (s.engine x).saved else (s.engine x).stall) ∧
      (t.engine x).st = (s.engine x).st ∧ (t.engine x).pc = (s.engine x).pc ∧ (t.engine x).g = (s.engine x).g := by
  refine .of_rule (f := parcelMoveComplete) rfl (fun t ht => ht) ?_
  have htends : Tends m.dst s ((engines m.dst).foldl thaw s) := .foldl _ (fun t x hx => thaw_tends (mem_engines.1 hx) t) s
  obtain ⟨mem, hplot⟩ := htends.plots m.src
  have hthaw := fun x (hx : x ∈ engines m.dst) => (thaws_engine m.dst s x).trans (if_pos hx)
  have hdma' : (((engines m.dst).foldl thaw s).plot m.src).dma = [] := by rw [hplot, hdma]
  have hloads' := htends.loads.trans hloads
  rw [parcelMoveComplete_eq h hpar hphase]
  generalize (engines m.dst).foldl thaw s = u at hthaw hdma' hloads' ⊢
  refine ⟨(moveEnd_spec m u).1, (moveEnd_spec m u).2.1, fun x hx => ?_⟩
  obtain ⟨a, b, c, hend⟩ := moveEnd_dst hm hdma' hloads' hx
  rw [hend, hthaw x hx, thawed]
  by_cases hstall : (s.engine x).stall = 7
  · rw [if_pos hstall, if_pos hstall]
    exact ⟨rfl, rfl, rfl, rfl⟩
  · rw [if_neg hstall, if_neg hstall]
    exact ⟨rfl, rfl, rfl, rfl⟩

/-! ## The handover of a parallel move (R268) -/

/-- The outputs of engine `x` are no longer suppressed. -/
def unmute (t : State) (x : Nat) : State := t.setEngine x { t.engine x with mute := false }

theorem unmutes_engine (p : Nat) (s : State) (x : Nat) :
    ((engines p).foldl unmute s).engine x = if x ∈ engines p then { s.engine x with mute := false } else s.engine x :=
  foldl_engine (I := fun _ => True) (f := fun _ g => { g with mute := false }) (engines_nodup p)
    (fun t _ z _ => ⟨trivial, setEngine_engine z (fun g => { g with mute := false }) t⟩) trivial x

theorem parallelMoveHandover_eq (h : s.arr.move = some m) (hpar : m.parallel = true) (hphase : m.phase = 1) :
    parallelMoveHandover s = moveEnd m ((engines m.dst).foldl unmute (s.until (50 * m.epoch))) := by
  rw [parallelMoveHandover]
  split
  · next hnone =>
    rw [h] at hnone
    contradiction
  · next m' hsome =>
    obtain rfl : m' = m := Option.some.inj (hsome.symm.trans h)
    have hgo : ¬((!m'.parallel) = true ∨ m'.phase ≠ 1) := by simp [hpar, hphase]
    rw [if_neg hgo]
    rfl

theorem blankEngine_stopped (s : State) (x : Nat) : (s.blankEngine x).st ≠ esRUNNING := by
  rw [State.blankEngine]
  cases s.quarterOn x <;> decide

theorem Does.handsOver (h : s.arr.move = some m) (hpar : m.parallel = true) (hphase : m.phase = 1) (hm : m.src ≠ m.dst)
    (hdma : (s.plot m.src).dma = []) (hloads : s.arr.loads = []) :
    Does .parallelMoveHandover s fun t => t.arr.move = none ∧ t.slotPlot m.q m.slot = some m.dst ∧ (∀ x ∈ engines m.dst,
      (t.engine x).mute = false ∧ (t.engine x).st = (s.engine x).st ∧ (t.engine x).pc = (s.engine x).pc ∧
      (t.engine x).g = (s.engine x).g) ∧ ∀ e ∈ List.range 32, (t.engine (32 * m.src + e)).st ≠ esRUNNING := by
  refine .of_rule (f := parallelMoveHandover) rfl (fun t ht => ht) ?_
  rw [parallelMoveHandover_eq h hpar hphase]
  have htends : Tends m.dst (s.until (50 * m.epoch)) ((engines m.dst).foldl unmute (s.until (50 * m.epoch))) :=
    .foldl _ (fun t x hx => .setEngine (mem_engines.1 hx) _ t) _
  obtain ⟨mem, hplot⟩ := htends.plots m.src
  have hunmute := fun x (hx : x ∈ engines m.dst) => (unmutes_engine m.dst (s.until (50 * m.epoch)) x).trans (if_pos hx)
  have hdma' : (((engines m.dst).foldl unmute (s.until (50 * m.epoch))).plot m.src).dma = [] := by
    rw [hplot]
    exact hdma
  have hloads' := htends.loads.trans hloads
  generalize (engines m.dst).foldl unmute (s.until (50 * m.epoch)) = u at hunmute hdma' hloads' ⊢
  refine ⟨(moveEnd_spec m u).1, (moveEnd_spec m u).2.1, fun x hx => ?_, fun e he => ?_⟩
  · obtain ⟨a, b, c, hend⟩ := moveEnd_dst hm hdma' hloads' hx
    rw [hend, hunmute x hx]
    exact ⟨rfl, rfl, rfl, rfl⟩
  · have := List.mem_range.1 he
    rw [(moveEnd_spec m u).2.2, plotReset_engine hloads' (by omega)]
    exact blankEngine_stopped u _

end Sys2Proof.Machine

/-! # The restore of a plot after cooling (R261, R535) -/

namespace Sys2Proof.Machine

variable {p : Nat} {s t u : State}

/-! ## What leaves the plots' shut bits -/

/-- No plot was shut or opened between `s` and `t`. -/
def KeepsShut (s t : State) : Prop := ∀ q, (t.plot q).shut = (s.plot q).shut

theorem KeepsShut.refl (s : State) : KeepsShut s s := fun _ => rfl

theorem KeepsShut.trans (h : KeepsShut s t) (h' : KeepsShut t u) : KeepsShut s u := fun q => (h' q).trans (h q)

theorem KeepsShut.foldl {α : Type} {f : State → α → State} (l : List α) (hf : ∀ t a, KeepsShut t (f t a)) (s : State) :
    KeepsShut s (l.foldl f s) :=
  List.foldlRecOn (motive := KeepsShut s) l f (.refl s) fun t ht a _ => ht.trans (hf t a)

theorem KeepsShut.of_plots (h : t.arr.plots = s.arr.plots) : KeepsShut s t := fun q => by rw [State.plot, h, State.plot]

theorem WritesRegs.keepsShut {l : List Nat} (h : WritesRegs l s t) : KeepsShut s t := .of_plots (by rw [h.arr])

theorem Tends.keepsShut (h : Tends p s t) : KeepsShut s t := fun q => by
  obtain ⟨m, hm⟩ := h.plots q
  rw [hm]

theorem setReg_keepsShut (a : Nat) (v : Word) (s : State) : KeepsShut s (s.setReg a v) := .of_plots rfl

theorem setEngine_keepsShut (x : Nat) (e : Eng) (s : State) : KeepsShut s (s.setEngine x e) := .of_plots rfl

theorem writeShared_keepsShut (p a : Nat) (b : List Byte) (s : State) : KeepsShut s (writeShared p a b s) := fun q => by
  rw [writeShared_plot]
  split
  · next h => rw [h]
  · rfl

theorem domReqOn_arr (d : Nat) (s : State) : (domReqOn d s).arr = s.arr := by
  obtain h | ⟨-, h⟩ | h | ⟨v, h⟩ := domReqOn_cases d s
  · rw [h]
  · rw [h, beginOn_eq]
    split <;> rfl
  · rw [h]
  · rw [h]
    rfl

theorem domReqOn_keepsShut (d : Nat) (s : State) : KeepsShut s (domReqOn d s) := .of_plots (by rw [domReqOn_arr])

/-! ## A load leaves them (R266) -/

theorem loadEngine_keepsShut (key inst pos start x : Nat) (b : List Byte) (s : State) : KeepsShut s (loadEngine key inst pos start b x s) := by
  have hload : ∃ e, loadEngine key inst pos start b x s = clearRecord x (s.setEngine x e) := ⟨_, rfl⟩
  obtain ⟨e, h⟩ := hload
  rw [h]
  exact (setEngine_keepsShut x e s).trans (clearRecord_writes x _).keepsShut

theorem showImage_keepsShut (p : Nat) (b : List Byte) (s : State) : KeepsShut s (showImage p b s) := by
  have hshared := writeShared_keepsShut p 0x10000 ((b.drop (kiShared b)).take (64 * kiSSIZE b)) s
  rw [showImage]
  generalize writeShared p 0x10000 ((b.drop (kiShared b)).take (64 * kiSSIZE b)) s = u at hshared ⊢
  exact ((hshared.trans (setReg_keepsShut _ _ u)).trans (setReg_keepsShut _ _ _)).trans (plotRefresh_writes p _).keepsShut

theorem loadPlot_keepsShut (key start p mask : Nat) (s : State) : KeepsShut s (loadPlot key start p mask s) := by
  have hengines : KeepsShut s (loadedEngines key start p mask s) :=
    KeepsShut.foldl (List.range (masked p mask).length) (fun t i => loadEngine_keepsShut _ _ _ _ _ _ t) s
  exact hengines.trans (showImage_keepsShut _ _ _)

theorem reply_ok_keepsShut (q : Packet) (body : List Byte) (s : State) : KeepsShut s (reply q .ok body 0 s) := by
  rw [reply]
  by_cases h : q.noReply = true
  · rw [replyAs, if_pos ⟨h, rfl⟩]
    exact .refl s
  · obtain ⟨rest, hsends⟩ := replyAs_sends Stat.ok.disp q .ok body 0 s (Bool.eq_false_iff.2 h)
    exact .of_plots (by rw [hsends.frame]; rfl)

theorem runLoad_keepsShut (l : Load) (s : State) : KeepsShut s (runLoad l s) := by
  have hplots : KeepsShut s (l.plots.foldl (fun t pm => loadPlot l.key (startEpoch s l) pm.1 pm.2 t) s) :=
    .foldl _ (fun t pm => loadPlot_keepsShut _ _ _ _ t) s
  rw [runLoad]
  cases l.req with
  | none => exact hplots
  | some q => exact hplots.trans (reply_ok_keepsShut _ _ _)

theorem runLoads_keepsShut (s : State) : KeepsShut s (runLoads s) := by
  rw [runLoads]
  exact KeepsShut.trans (KeepsShut.of_plots (t := { s with arr := { s.arr with loads := _ } }) rfl)
    (.foldl _ (fun t l => runLoad_keepsShut l t) _)

theorem stopNamed_keepsShut (xs : List Nat) (s : State) : KeepsShut s (stopNamed xs s) :=
  .foldl _ (fun t x => (stopEngine_tends x esIDLE t).keepsShut.trans (setEngine_keepsShut x _ _)) s

theorem askQuarters_keepsShut (ds : List Nat) (s : State) : KeepsShut s (askQuarters ds s) :=
  .foldl _ (fun t d => by
    split
    · exact .refl t
    · exact domReqOn_keepsShut d t) s

theorem beginLoad_keepsShut (l : Load) (s : State) : KeepsShut s (beginLoad l s) := by
  have hadd : ∀ u, KeepsShut u (enqueueLoad l u) := fun u => .of_plots rfl
  rw [beginLoad_eq]
  exact (((stopNamed_keepsShut _ s).trans (askQuarters_keepsShut _ _)).trans (hadd _)).trans (runLoads_keepsShut _)

theorem reloadPlot_keepsShut (p : Nat) (s : State) : KeepsShut s (reloadPlot p s) := by
  unfold reloadPlot
  split
  · exact .refl s
  · exact .foldl _ (fun t k => beginLoad_keepsShut _ t) s

/-! ## The restore -/

/-- The plot is open again, and its quarters are asked for. -/
def reopen (p : Nat) (s : State) : State :=
  (List.range 4).foldl (fun t q => domReqOn (domQP p q) t) (s.setPlot p { s.plot p with shut := false })

theorem reopen_plot (p : Nat) (s : State) : ((reopen p s).plot p).shut = false :=
  (KeepsShut.foldl (List.range 4) (fun t q => domReqOn_keepsShut (domQP p q) t) _ p).trans (congrArg Plot.shut (s.plot_setPlot_same p _))

/-- A plot whose test was abandoned is the spare again (R508). -/
def spareAgain (p : Nat) (s : State) : State := { s.fs R.ENG_STAT_SPARE p with bst := { s.bst with aband := none } }

theorem spareAgain_keepsShut (p : Nat) (s : State) : KeepsShut s (spareAgain p s) := .of_plots rfl

theorem plotThermalRestore_eq (hshut : (s.plot p).shut = true) (hcool : s.fb R.THM_STAT_JSHUT = false) :
    plotThermalRestore p s =
      if (reopen p s).bst.aband = some p then vacate p psSPARE (spareAgain p (reopen p s)) else reloadPlot p (reopen p s) := by
  have hgo : ¬((!(s.plot p).shut) = true ∨ s.fb R.THM_STAT_JSHUT = true) := by simp [hshut, hcool]
  exact if_neg hgo

theorem Does.restores {p : Fin 32} (hshut : (s.plot p.val).shut = true) (hcool : s.fb R.THM_STAT_JSHUT = false) :
    Does (.plotThermalRestore p) s fun t => (t.plot p.val).shut = false := by
  refine .of_rule (f := plotThermalRestore p.val) rfl (fun t ht => ht) ?_
  rw [plotThermalRestore_eq hshut hcool]
  have hopen := reopen_plot p.val s
  split
  · exact ((spareAgain_keepsShut p.val _).trans (vacate_writes p.val psSPARE _).keepsShut p.val).trans hopen
  · exact (reloadPlot_keepsShut p.val _ p.val).trans hopen

end Sys2Proof.Machine

/-! # Plot commands (O26) -/

namespace Sys2Proof.Machine

/-- Settles O26: a reset, a halt and a resume act on the plot's engines one by one; a move that ends resets its source, which loses
frames at most of another plot. -/
theorem plotCommandsTakeEffect : Obligations.PlotCommandsTakeEffect := by
  refine ⟨fun p v s hok hoff hloads => ?resets, fun p v s hok hoff hrst hres => .haltsPlot hok hoff hrst hres,
    fun p v s hok hrst hhalt hexc => ?resumes, fun p v s hok hrst hhalt hres => ?clears, fun p s hfit => .stepsClock hfit,
    fun m s h hpar hphase hm hdma => .freezes h hpar hphase hm hdma,
    fun m s h hpar hphase hm hdma hloads => .completes h hpar hphase hm hdma hloads,
    fun m s h hpar hphase hm => .startsTwins h hpar hphase hm,
    fun m s h hpar hphase hm hdma hloads => .handsOver h hpar hphase hm hdma hloads, fun p s hshut hcool => .restores hshut hcool⟩
  case resets => simpa only [and_assoc, State.blankEngine] using Does.resetsPlot hok hoff hloads
  case resumes => simpa only [and_assoc] using Does.resumesPlot hok hrst hhalt hexc
  case clears => simpa only [and_assoc] using Does.clearsEcc hok hrst hhalt hres

end Sys2Proof.Machine
